-- ==== Sys2Proof/Word.lean ====
section
/-!
DEFINITION. The words of the block: a register is 32 bits wide (R9), a carried byte 8, a Q-format coefficient 24.
-/

namespace Sys2Proof

/-- A register word (R9). -/
abbrev Word := BitVec 32
/-- A byte as carried on a host port or in an image (R9). -/
abbrev Byte := BitVec 8

end Sys2Proof
end

