-- ==== Sys2Proof/Types.lean ====
section
/-!
DEFINITION. The plain types the commands' operands are made of: the host ports, how a read transaction ended, what ended a
transaction abnormally, CAN FD request frames, classifications of a CC pin and the other small alternatives of the spec.
-/

namespace Sys2Proof

/-- The four host ports, numbered 1 to 4 in the spec (R338). -/
inductive HostPort where
  | spi | i2c | can | jtag
  deriving DecidableEq, Repr

/-- How a read transaction ended (R340, R348): normally with every word delivered, early (some words undelivered), or
with data not ready within the SPI dummy bytes. -/
inductive ReadEnd where
  | normal | early | late
  deriving DecidableEq, Repr

/-- What ended a transaction abnormally (R338, R350, R378): CS_N rising inside a byte, a write frame of the wrong length, an erroneous CAN frame. -/
inductive AbortKind where
  | csInsideByte | badLength | badCanFrame
  deriving DecidableEq, Repr

/-- A CAN FD request frame (R356): OP 0 read, 1 write, 2 guarded write, 3 status; SEQ; address; COUNT; GEN; write data. -/
structure CanFrame where
  op : BitVec 2
  seq : BitVec 8
  addr : BitVec 24
  count : Nat
  gen : BitVec 16
  data : List Word
  deriving DecidableEq, Repr

/-- Classification of one CC pin (R102, PCC_STATUS.CC1CLS): 0 Open, 1 Ra, 2 Rd (source) or Rp (sink), 3 over-voltage. -/
inductive CcClass where
  | opened | ra | rdRp | over
  deriving DecidableEq, Repr

/-- What a read transaction meets (R91, R340, R348): how it ends; the words of the Thatch SRAM, by number, that it finds with one and with two bits in error; and whether the
flash gives the record that a correction fetches again. -/
structure ReadMeets where
  fin : ReadEnd
  ce : List (BitVec 17)
  ue : List (BitVec 17)
  fetchOk : Bool
  deriving DecidableEq, Repr

/-- The header of an SOP message a port receives (R129, R130): the port, the MessageID, and whether its Specification Revision field
gives 2.0 or, which counts the same, 1.0. -/
structure PdHead where
  n : Fin 16
  id : BitVec 3
  rev20 : Bool
  deriving DecidableEq, Repr

/-- A structured VDM that asks for an answer by its SVID and its command number (R157, R158). -/
structure VdmHead extends PdHead where
  svid : BitVec 16
  cmd : BitVec 5
  deriving DecidableEq, Repr

/-- A cable's answer on SOP' or SOP'' (R113 to R115): the port and the MessageID. -/
structure CableHead where
  n : Fin 16
  id : BitVec 3
  deriving DecidableEq, Repr

/-- A NAK of the cable with its MessageID, or no answer at all (R113). -/
structure CableMiss where
  n : Fin 16
  id : Option (BitVec 3)
  deriving DecidableEq, Repr

/-- What arrives late for a period start (R205, R210): so many of the newest staged values, the duty, the comparator sample of a lent slice. -/
structure PeriodLate where
  late : Nat
  dutyLate : Bool
  noSample : Bool
  deriving DecidableEq, Repr

/-- A slice and a time of its period, in fine steps after the period start (R207). -/
structure SliceTime where
  k : Fin 48
  at_ : Nat
  deriving DecidableEq, Repr

/-- A port and its shunt voltage in the unit of the comparator that sees it (R254, R260). -/
structure ShuntRead where
  n : Fin 16
  v : Nat
  deriving DecidableEq, Repr

/-- A comparator's input has stood at a value for so many ns (R274, R278). -/
structure Stood where
  v : Nat
  ns : Nat
  deriving DecidableEq, Repr

/-- The voltages in mV beside which a switch node is judged (R277): its own, VIN_S and ISP. -/
structure NodeVolts where
  mv : Nat
  vin : Nat
  isp : Nat
  deriving DecidableEq, Repr

/-- Code violations of a link, and whether they cost a frame (R306, R307). -/
structure LinkErrors where
  dropped : Bool
  codes : Byte
  deriving DecidableEq, Repr

/-- A sector of the flash: of the image area, or of the Slate region (R406, R470). -/
structure FlashSector where
  image : Bool
  sector : BitVec 16
  deriving DecidableEq, Repr

/-- Capabilities as a sink receives them (R129, R152): the objects of Source_Capabilities, or one chunk of EPR_Source_Capabilities with its number, the Data
Size of the whole message and its bytes. -/
inductive CapsIn where
  | plain (pdos : List Word)
  | chunk (num : BitVec 4) (size : BitVec 9) (data : List Byte)
  deriving DecidableEq, Repr

/-- What the SECDED decoder finds in one read of an ECC word (R411): no error, one error at a fuse of the 72, the data fuses first, or more. -/
inductive Ecc where
  | clean
  | single (fuse : BitVec 7)
  | double
  deriving DecidableEq, Repr

/-- An ECC word as it is read at the normal, the margin-low and the margin-high reference (R426), 64 data fuses below 8 check fuses, and what the decoder finds in the
normal read: the spec does not state the code's matrix (assumption log 138). -/
structure OtpRead where
  word : BitVec 9
  normal : BitVec 72
  low : BitVec 72
  high : BitVec 72
  ecc : Ecc
  deriving DecidableEq, Repr

/-- The reads of the counter groups (R417): for each of the six groups the nine reads of its logical bits, three fuses at three references; a group with none is
not read anew. -/
abbrev CtrReads := List (List (BitVec 64))

/-- Where a chain frame arrives and its bytes 1 to 3 (R307): the port (0 UP, 1 DN), DEST, SRC and SEQ. -/
structure JtlHead where
  p : Fin 2
  dest : Byte
  src : Byte
  seq : Byte
  deriving DecidableEq, Repr

/-- The payload of an INDEX frame (R308): IDXNUM, CHAINBUDGET, the flags UNSYNC, SWEEP, AUTOPH, BRACE and OVERSUB, FRZREM, members − 1, the leader's
WEIGHT, HOPS and SERIAL, and the count at which the index arrives (R317). -/
structure IndexInfo where
  idxnum : BitVec 32
  budget : BitVec 16
  flags : BitVec 8
  frzrem : BitVec 4
  members : BitVec 4
  weight : Byte
  hops : Byte
  serial : BitVec 96
  count : Nat
  deriving DecidableEq, Repr

end Sys2Proof
end

