-- ==== Sys2Proof/Syntax.lean ====
section
/-!
DEFINITION. The commands of the block: one constructor per row of the command table, in the table's order. A command is an
event at the block's pins or ports, a read or write one of its host ports receives, a message or frame one of its protocol
engines receives, the expiry of one of its timers, or one step of its clocked engines. What the block measures or receives
from outside at that instant (voltages, codes, classifications, data objects, frames, the outcome of a flash operation) is
an operand. A host-register command carries the host port that sends it.
-/

namespace Sys2Proof

/-- One constructor per row of the command table, named after the row. -/
inductive Instr where
  /-- POWER_ON_RESET (R52). -/
  | powerOnReset
  /-- VDD_VALID (R47). -/
  | vddValid
  /-- SOFFIT_DCO_LOCK (R47). -/
  | soffitDcoLock
  /-- OTP_BOOT_READ (R426). -/
  | otpBootRead (reads : List OtpRead) (cs : CtrReads)
  /-- REFERENCE_SELECT (R476). -/
  | referenceSelect (cycles : Option (BitVec 12))
  /-- HOST_READY_POINT (R45). -/
  | hostReadyPoint (a b c : BitVec 3)
  /-- ROM_BOOT (R461). -/
  | romBoot (flashOk vddHigh dirOk : Bool)
  /-- ISLAND_RELEASE (R47). -/
  | islandRelease
  /-- PORTGO (R48). -/
  | portgo (hp : HostPort) (go : Bool)
  /-- BOOT_DONE (R47). -/
  | bootDone
  /-- DEAD_BATTERY_SEQUENCE (R41). -/
  | deadBatterySequence (v0 v1 : Bool) (reads : List OtpRead) (cs : CtrReads)
  /-- SERVICE_VBUS_SAMPLE (R42). -/
  | serviceVbusSample (v0 v1 : Bool)
  /-- DEPLETION_RD_OFF (R41). -/
  | depletionRdOff
  /-- SERVICE_LDO_STOP (R35). -/
  | serviceLdoStop
  /-- REVERSE_PUSH_STOP (R43). -/
  | reversePushStop (n : Fin 16)
  /-- VDD_POWER_FAIL (R402). -/
  | vddPowerFail (off : BitVec 10) (reports : List (Option Int))
  /-- VDD_LOSS (R55). -/
  | vddLoss
  /-- VDD_RETURN (R55). -/
  | vddReturn
  /-- VHV_OVERVOLTAGE (R37). -/
  | vhvOvervoltage
  /-- VHV_OV_RECOVERY (R37). -/
  | vhvOvRecovery
  /-- VHV_UVLO (R44). -/
  | vhvUvlo
  /-- VHV_VALID (R44). -/
  | vhvValid (pgm : Bool)
  /-- THERMAL_SHUTDOWN (R53). -/
  | thermalShutdown
  /-- THERMAL_RESTART (R53). -/
  | thermalRestart
  /-- THERMAL_WARNING (R513). -/
  | thermalWarning (on : Bool)
  /-- RST_N (R52). -/
  | rstN (ns : Nat)
  /-- RESET_COLD (R52). -/
  | resetCold (hp : HostPort) (key : Byte)
  /-- RESET_WARM (R52). -/
  | resetWarm (hp : HostPort) (key : Byte)
  /-- RESET_RELAY (R448). -/
  | resetRelay (hp : HostPort) (key : Byte)
  /-- RIDGE_WATCHDOG (R54). -/
  | ridgeWatchdog
  /-- RIDGE_RETURN (R185). -/
  | ridgeReturn
  /-- RIDGE_OUTAGE_TIMEOUT (R29). -/
  | ridgeOutageTimeout
  /-- BATTEN_RETURN (R297). -/
  | battenReturn
  /-- UNDERLAY_FAULT (R489). -/
  | underlayFault (isl : Fin 21) (sub crack : Bool)
  /-- REGION_RESTART (R489). -/
  | regionRestart (isl : Fin 21)
  /-- HEADER_STAGE (R485). -/
  | headerStage
  /-- REFERENCE_FAIL (R477). -/
  | referenceFail
  /-- DCO_HOLDOVER (R492). -/
  | dcoHoldover (isl : Fin 21)
  /-- TIMEBASE_LOCK (R480). -/
  | timebaseLock (n : Fin 16)
  /-- PLL_UNLOCK (R481). -/
  | pllUnlock (n : Fin 16)
  /-- PLL_HOLDOVER_TIMEOUT (R481). -/
  | pllHoldoverTimeout (n : Fin 16)
  /-- ISLAND_HALT (R483). -/
  | islandHalt (isl : Fin 24)
  /-- ISLAND_RESUME (R483). -/
  | islandResume (isl : Fin 24)
  /-- BYPASS (R361). -/
  | bypass
  /-- IDCODE (R361). -/
  | idcode
  /-- SAMPLE_PRELOAD (R525). -/
  | samplePreload (capture : BitVec 513)
  /-- EXTEST (R362). -/
  | extest
  /-- HIGHZ (R362). -/
  | highz
  /-- CLAMP (R362). -/
  | clamp
  /-- HOST_READ (R340). -/
  | hostRead (hp : HostPort) (addr : BitVec 24) (count : Nat) (crc : Byte) (r : ReadMeets)
  /-- HOST_WRITE (R339). -/
  | hostWrite (hp : HostPort) (addr : BitVec 24) (data : List Word) (crc : Byte)
  /-- GUARDED_WRITE (R374). -/
  | guardedWrite (hp : HostPort) (addr : BitVec 24) (gen : BitVec 16) (data : List Word) (crc : Byte)
  /-- STATUS_READ (R346). -/
  | statusRead (hp : HostPort)
  /-- TRANSACTION_ABORT (R338). -/
  | transactionAbort (hp : HostPort) (kind : AbortKind)
  /-- ORDER_GROUP_CLOSE (R369). -/
  | orderGroupClose
  /-- I2C_CLASH (R352). -/
  | i2cClash (offset : BitVec 16)
  /-- I2C_TIMEOUT (R351). -/
  | i2cTimeout
  /-- CAN_REQUEST (R356). -/
  | canRequest (frame : CanFrame)
  /-- CAN_ERROR_STATE (R360). -/
  | canErrorState (busOff : Bool) (tec rec : Byte) (lec : BitVec 3)
  /-- CAN_BUSOFF_RECOVERY (R360). -/
  | canBusoffRecovery
  /-- CAN_WAKE_FRAME (R359). -/
  | canWakeFrame (id : BitVec 29)
  /-- HST_CMD_CLRCNT (R381). -/
  | hstCmdClrcnt (hp : HostPort) (key : Byte)
  /-- OP_ENTER (R170). -/
  | opEnter (src : BitVec 4) (port : BitVec 5) (cls sub : BitVec 4) (arg : BitVec 28)
  /-- COMMIT_SLOT (R169). -/
  | commitSlot (ledgerBad : Bool)
  /-- OP_APPLY (R168). -/
  | opApply (n : Fin 16)
  /-- STAGING_COMPLETE (R174). -/
  | stagingComplete (n : Fin 16)
  /-- REQUEST_EVALUATED (R136). -/
  | requestEvaluated (n : Fin 16)
  /-- SPEC_TIMEOUT (R175). -/
  | specTimeout (tag : Byte)
  /-- CANCEL (R186). -/
  | cancel (hp : HostPort) (key tag : Byte)
  /-- CLRCNT (R190). -/
  | clrcnt (hp : HostPort) (key : Byte)
  /-- REOFFER (R178). -/
  | reoffer (n : Fin 16)
  /-- REOFFER_PERIOD_END (R178). -/
  | reofferPeriodEnd (n : Fin 16)
  /-- DEFICIT_OFFER (R183). -/
  | deficitOffer (n : Fin 16)
  /-- BUDGET_WRITE (R182). -/
  | budgetWrite (hp : HostPort) (watts : BitVec 16)
  /-- TRS_STAT_READ (R191). -/
  | trsStatRead (hp : HostPort)
  /-- LATCHED_READ (R189). -/
  | latchedRead (hp : HostPort) (addr : BitVec 24)
  /-- PREDICTOR_STAGE (R184). -/
  | predictorStage (n : Fin 16)
  /-- PREDICTOR_MISS (R184). -/
  | predictorMiss (n : Fin 16)
  /-- THA_EDCLAIM_CLAIM (R85). -/
  | thaEdclaimClaim (hp : HostPort)
  /-- THA_EDCLAIM_RELEASE (R85). -/
  | thaEdclaimRelease (hp : HostPort)
  /-- EDIT_CLAIM_LAPSE (R85). -/
  | editClaimLapse
  /-- EDIT_BUFFER_WRITE (R85). -/
  | editBufferWrite (hp : HostPort) (word : Fin 3072) (ws : List Word)
  /-- LIVE_APPLY (R84). -/
  | liveApply (hp : HostPort) (key : Byte)
  /-- STRIP_AND_RELAY (R87). -/
  | stripAndRelay (hp : HostPort) (key : Byte) (func : BitVec 5)
  /-- SR_CANCEL (R94). -/
  | srCancel (hp : HostPort) (key : Byte)
  /-- VALIDATE_DONE (R87). -/
  | validateDone
  /-- SR_CHANGE (R87). -/
  | srChange
  /-- SR_RELAY (R87). -/
  | srRelay
  /-- AUTHORITY_SWAP (R87). -/
  | authoritySwap
  /-- SR_VBUS_TIMEOUT (R95). -/
  | srVbusTimeout
  /-- SCRUB_PASS (R91). -/
  | scrubPass (ce ue : List (BitVec 17)) (fetchOk : Bool)
  /-- CC_CLASS_CHANGE (R102). -/
  | ccClassChange (n : Fin 16) (c1 c2 : CcClass)
  /-- ATTACHED_SRC (R104). -/
  | attachedSrc (n : Fin 16) (below : Bool)
  /-- PD_DEBOUNCE_EXPIRE (R104). -/
  | pdDebounceExpire (n : Fin 16)
  /-- LOAD_PROBE_START (R108). -/
  | loadProbeStart (n : Fin 16) (below : Bool)
  /-- LOAD_PROBE_END (R109). -/
  | loadProbeEnd (n : Fin 16) (reached : Bool) (t v25 v5 : Nat)
  /-- SRC_DISCONNECT (R104). -/
  | srcDisconnect (n : Fin 16)
  /-- ERROR_RECOVERY_EXIT (R104). -/
  | errorRecoveryExit (n : Fin 16)
  /-- UNATTACHED_WAIT_EXIT (R104). -/
  | unattachedWaitExit (n : Fin 16)
  /-- ATTACHED_SNK (R106). -/
  | attachedSnk (n : Fin 16) (rp : Fin 4) (vbus4 : Bool)
  /-- SINK_VBUS_LOSS (R106). -/
  | sinkVbusLoss (n : Fin 16) (mv : Nat)
  /-- SINK_RP_CHANGE (R106). -/
  | sinkRpChange (n : Fin 16) (rp : Fin 4)
  /-- CC_OVERVOLTAGE (R123). -/
  | ccOvervoltage (n : Fin 16) (pin : Fin 2) (on : Bool)
  /-- VCONN_FAULT (R124). -/
  | vconnFault (n : Fin 16)
  /-- DISCDLY_EXPIRE (R113). -/
  | discdlyExpire (n : Fin 16)
  /-- TDISCOVER_IDENTITY (R113). -/
  | tdiscoverIdentity (n : Fin 16)
  /-- CABLE_ACK (R115). -/
  | cableAck (h : CableHead) (idHdr vdo : BitVec 32)
  /-- CABLE_NAK (R113). -/
  | cableNak (h : CableMiss)
  /-- FAR_ACK (R114). -/
  | farAck (h : CableHead) (vdo : BitVec 32)
  /-- CCREF_CAPTURE (R118). -/
  | ccrefCapture (n : Fin 16) (lvl : BitVec 16)
  /-- TSINKTX_EXPIRE (R119). -/
  | tsinktxExpire (n : Fin 16)
  /-- PCC_DISABLE (R104). -/
  | pccDisable (hp : HostPort) (n : Fin 16) (d : Bool)
  /-- REDISC (R122). -/
  | redisc (hp : HostPort) (n : Fin 16)
  /-- CLRLATCH (R124). -/
  | clrlatch (hp : HostPort) (n : Fin 16)
  /-- ERRREC (R104). -/
  | errrec (hp : HostPort) (n : Fin 16)
  /-- TFIRSTCAP_EXPIRE (R131). -/
  | tfirstcapExpire (n : Fin 16)
  /-- TTYPEC_SEND_SOURCE_CAP (R131). -/
  | ttypecSendSourceCap (n : Fin 16)
  /-- TSENDER_RESPONSE (R131). -/
  | tsenderResponse (n : Fin 16)
  /-- TRECEIVE (R129). -/
  | treceive (n : Fin 16)
  /-- GOODCRC (R129). -/
  | goodcrc (n : Fin 16)
  /-- CRC_ERROR (R129). -/
  | crcError (n : Fin 16)
  /-- CHUNK_REQUEST (R129). -/
  | chunkRequest (h : PdHead) (num : BitVec 4)
  /-- PD_REQUEST (R136). -/
  | pdRequest (h : PdHead) (rdo : BitVec 32)
  /-- EPR_REQUEST (R136). -/
  | eprRequest (h : PdHead) (rdo pdo : BitVec 32)
  /-- TSRC_TRANSITION (R138). -/
  | tsrcTransition (n : Fin 16)
  /-- VBUS_SETTLED (R138). -/
  | vbusSettled (n : Fin 16)
  /-- SETTLE_TIMEOUT (R161). -/
  | settleTimeout (n : Fin 16)
  /-- TPPS_TIMEOUT (R139). -/
  | tppsTimeout (n : Fin 16)
  /-- EPR_MODE_ENTER (R140). -/
  | eprModeEnter (h : PdHead)
  /-- EPR_MODE_EXIT (R141). -/
  | eprModeExit (h : PdHead)
  /-- TSOURCE_EPR_KEEPALIVE (R141). -/
  | tsourceEprKeepalive (n : Fin 16)
  /-- EPR_KEEPALIVE (R146). -/
  | eprKeepalive (h : PdHead)
  /-- HARD_RESET (R142). -/
  | hardReset (n : Fin 16)
  /-- TPS_HARD_RESET (R142). -/
  | tpsHardReset (n : Fin 16)
  /-- TSRC_RECOVER (R142). -/
  | tsrcRecover (n : Fin 16)
  /-- SOFT_RESET (R143). -/
  | softReset (h : PdHead)
  /-- DR_SWAP (R144). -/
  | drSwap (h : PdHead)
  /-- DR_SWAP_RETRY (R144). -/
  | drSwapRetry (n : Fin 16)
  /-- ACCEPT (R148). -/
  | acceptMsg (h : PdHead)
  /-- REJECT (R148). -/
  | rejectMsg (h : PdHead)
  /-- WAIT (R148). -/
  | waitMsg (h : PdHead)
  /-- PS_RDY (R148). -/
  | psRdy (h : PdHead)
  /-- PING (R146). -/
  | ping (h : PdHead)
  /-- NOT_SUPPORTED (R146). -/
  | notSupported (h : PdHead)
  /-- GET_SOURCE_CAP (R146). -/
  | getSourceCap (h : PdHead)
  /-- GET_SINK_CAP (R151). -/
  | getSinkCap (h : PdHead)
  /-- UNSUPPORTED_MESSAGE (R145). -/
  | unsupportedMessage (h : PdHead)
  /-- GET_SOURCE_CAP_EXTENDED (R146). -/
  | getSourceCapExtended (h : PdHead)
  /-- GET_STATUS (R156). -/
  | getStatus (h : PdHead)
  /-- GET_PPS_STATUS (R146). -/
  | getPpsStatus (h : PdHead)
  /-- GET_SINK_CAP_EXTENDED (R146). -/
  | getSinkCapExtended (h : PdHead)
  /-- GET_SOURCE_INFO (R146). -/
  | getSourceInfo (h : PdHead)
  /-- GET_REVISION (R146). -/
  | getRevision (h : PdHead)
  /-- GET_MANUFACTURER_INFO (R146). -/
  | getManufacturerInfo (h : PdHead)
  /-- SOURCE_CAPABILITIES (R152). -/
  | sourceCapabilities (h : PdHead) (caps : CapsIn)
  /-- EPR_GET_SOURCE_CAP (R146). -/
  | eprGetSourceCap (h : PdHead)
  /-- EPR_GET_SINK_CAP (R146). -/
  | eprGetSinkCap (h : PdHead)
  /-- ALERT (R146). -/
  | alertMsg (h : PdHead)
  /-- BIST (R146). -/
  | bist (h : PdHead) (carrier : Bool)
  /-- INFORMATIONAL_MESSAGE (R146). -/
  | informationalMessage (h : PdHead) (status : Option (BitVec 32))
  /-- CABLE_RESET (R146). -/
  | cableReset (n : Fin 16)
  /-- TSINK_WAIT_CAP (R148). -/
  | tsinkWaitCap (n : Fin 16)
  /-- TSINK_REQUEST (R148). -/
  | tsinkRequest (n : Fin 16)
  /-- TPS_TRANSITION (R148). -/
  | tpsTransition (n : Fin 16)
  /-- SINK_HR_VBUS_RETURN (R149). -/
  | sinkHrVbusReturn (n : Fin 16)
  /-- TSNKHRWAIT (R149). -/
  | tsnkhrwait (n : Fin 16)
  /-- SENDCAPS (R131). -/
  | sendcaps (hp : HostPort) (n : Fin 16)
  /-- HARDRESET (R142). -/
  | hardreset (hp : HostPort) (n : Fin 16)
  /-- SOFTRESET (R143). -/
  | softreset (hp : HostPort) (n : Fin 16)
  /-- DRSWAP (R144). -/
  | drswap (hp : HostPort) (n : Fin 16)
  /-- EPREXIT (R141). -/
  | eprexit (hp : HostPort) (n : Fin 16)
  /-- INPUT_WARNING (R155). -/
  | inputWarning
  /-- INWARN_RELEASE (R155). -/
  | inwarnRelease
  /-- DISCOVER_IDENTITY (R157). -/
  | discoverIdentity (h : PdHead)
  /-- DISCOVER_SVIDS (R157). -/
  | discoverSvids (h : PdHead)
  /-- DISCOVER_MODES (R157). -/
  | discoverModes (h : VdmHead)
  /-- ATTENTION (R157). -/
  | attention (h : PdHead)
  /-- INFO (R158). -/
  | infoVdm (h : PdHead)
  /-- READ (R158). -/
  | readVdm (h : PdHead) (addr : BitVec 24) (count : BitVec 3)
  /-- TELEM (R158). -/
  | telemVdm (h : PdHead) (mv ma temp vin : BitVec 16)
  /-- ENERGY (R158). -/
  | energyVdm (h : PdHead) (band : BitVec 3)
  /-- RECOV_ENTER (R158). -/
  | recovEnter (h : PdHead) (magic : BitVec 32)
  /-- DL_BEGIN (R468). -/
  | dlBegin (h : PdHead) (len crc : BitVec 32)
  /-- DL_DATA (R468). -/
  | dlData (h : PdHead) (off : BitVec 24) (ws : List Word)
  /-- DL_END (R468). -/
  | dlEnd (h : PdHead) (len crc : BitVec 32)
  /-- DL_STATUS (R468). -/
  | dlStatus (h : PdHead)
  /-- PERIOD_START (R194). -/
  | periodStart (k : Fin 48) (p : PeriodLate)
  /-- PERIOD_TOP (R206). -/
  | periodTop (k : Fin 48)
  /-- COMPARE_POINT (R211). -/
  | comparePoint (k : Fin 48) (pt : Fin 6) (down : Bool)
  /-- CYCLE_TRIP (R208). -/
  | cycleTrip (c : SliceTime) (input : Fin 2)
  /-- BLANKING_END (R207). -/
  | blankingEnd (c : SliceTime)
  /-- STAGE_START (R212). -/
  | stageStart (n : Fin 16)
  /-- STAGE_STOP (R212). -/
  | stageStop (n : Fin 16)
  /-- DISABLE (R213). -/
  | rafDisable (hp : HostPort) (k : Fin 48) (key : Byte)
  /-- DELAY_LINE_CAL (R220). -/
  | delayLineCal (n : Fin 16) (ok : Bool)
  /-- LOOP_SAMPLE (R227). -/
  | loopSample (n : Fin 16) (vs is other : List (BitVec 12))
  /-- EAVE_FULLY_ON (R234). -/
  | eaveFullyOn (n : Fin 16)
  /-- CC_LEVEL_UPDATE (R237). -/
  | ccLevelUpdate (n : Fin 16) (cc1 cc2 : BitVec 16) (stale quiet : Bool)
  /-- COMPENSATION_TICK (R238). -/
  | compensationTick (n : Fin 16) (vbus vin ma : BitVec 16)
  /-- CLEARRC (R237). -/
  | clearrc (hp : HostPort) (n : Fin 16)
  /-- RC_STALE_TIMEOUT (R246). -/
  | rcStaleTimeout (n : Fin 16)
  /-- OPEN_SENSE (R241). -/
  | openSense (n : Fin 16) (pin : Fin 3)
  /-- FROZEN_SIGNAL (R242). -/
  | frozenSignal (n : Fin 16)
  /-- FEEDBACK_TRANSIENT (R243). -/
  | feedbackTransient (n : Fin 16)
  /-- CONFIRM_WINDOW_END (R243). -/
  | confirmWindowEnd (n : Fin 16)
  /-- VIN_RANGE_FAULT (R244). -/
  | vinRangeFault (n : Fin 16)
  /-- PREBIAS_READY (R252). -/
  | prebiasReady (n : Fin 16)
  /-- PREBIAS_TIMEOUT (R252). -/
  | prebiasTimeout (n : Fin 16)
  /-- RAMPFAIL (R252). -/
  | rampfail (n : Fin 16)
  /-- FAST_TRIP (R254). -/
  | fastTrip (c : ShuntRead)
  /-- CURVE_EVAL (R257). -/
  | curveEval (n : Fin 16) (ma : BitVec 16)
  /-- REVERSE_TRIP (R260). -/
  | reverseTrip (c : ShuntRead)
  /-- GATE_TRIP (R261). -/
  | gateTrip (n : Fin 16)
  /-- GUTTER_DISCHARGE_END (R264). -/
  | gutterDischargeEnd (n : Fin 16) (tenths : BitVec 16)
  /-- GUTTER_TIMEOUT (R269). -/
  | gutterTimeout (n : Fin 16)
  /-- DRVFLT (R263). -/
  | drvflt (n : Fin 16)
  /-- GUTTER_FAULT_CLEAR (R269). -/
  | gutterFaultClear (n : Fin 16)
  /-- GUTTER_ASSIST (R265). -/
  | gutterAssist (n : Fin 16) (excess : Nat)
  /-- GUTTER_BUDGET (R266). -/
  | gutterBudget (n : Fin 16) (used : BitVec 16)
  /-- THRESHOLD_UPDATE (R275). -/
  | thresholdUpdate (n : Fin 16)
  /-- VAL_OV (R283). -/
  | valOv (n : Fin 16) (c : Stood) (at_ : Nat)
  /-- VAL_UV (R287). -/
  | valUv (n : Fin 16) (c : Stood)
  /-- VAL_FI (R276). -/
  | valFi (n : Fin 16) (c : Stood) (at_ : Nat)
  /-- SWITCH_NODE_TRANSITION (R277). -/
  | switchNodeTransition (n : Fin 16) (sw : Fin 2) (v : NodeVolts) (tx : Nat)
  /-- GPC_CROSSING (R279). -/
  | gpcCrossing (k : Fin 8) (c : Stood)
  /-- GPC_SLOPE_SAMPLE (R279). -/
  | gpcSlopeSample (k : Fin 8) (code : BitVec 12)
  /-- SELF_CHECK (R280). -/
  | selfCheck (unit : Fin 24)
  /-- SELF_CHECK_RESULT (R281). -/
  | selfCheckResult (unit : Fin 24) (ok : Bool)
  /-- LOGGED_EDGE (R284). -/
  | loggedEdge
  /-- TALLY_BIN_ADVANCE (R293). -/
  | tallyBinAdvance (t : Fin 144)
  /-- QUEUE_DRAIN (R291). -/
  | queueDrain
  /-- BAT_QPOP (R291). -/
  | batQpop (hp : HostPort)
  /-- HIRQ_CLEAR (R284). -/
  | hirqClear (hp : HostPort) (mask : BitVec 32)
  /-- TALLYCLR (R293). -/
  | tallyclr (hp : HostPort) (key tid : Byte)
  /-- CNTCLR (R301). -/
  | cntclr (hp : HostPort) (key : Byte)
  /-- VALST (R280). -/
  | valst (hp : HostPort) (key : Byte)
  /-- SWEVT (R288). -/
  | swevt (hp : HostPort) (key : Byte)
  /-- TSCLR (R284). -/
  | tsclr (hp : HostPort) (key : Byte)
  /-- GPCSEL (R280). -/
  | gpcsel (hp : HostPort) (key mask : Byte)
  /-- BAT_TRSCUT_WRITE (R296). -/
  | batTrscutWrite (hp : HostPort) (watts : BitVec 16)
  /-- LINK_UP (R306). -/
  | linkUp (p : Fin 2)
  /-- LINK_DOWN (R306). -/
  | linkDown (p : Fin 2) (beyond : BitVec 16)
  /-- CLAIM (R311). -/
  | claim (h : JtlHead) (weight : Byte) (est : Bool) (hops : Byte) (serial : BitVec 96)
  /-- ELECTION_SETTLE (R311). -/
  | electionSettle
  /-- INDEX_TIMEOUT (R312). -/
  | indexTimeout
  /-- INDEX_GENERATE (R314). -/
  | indexGenerate
  /-- INDEX (R317). -/
  | index (h : JtlHead) (x : IndexInfo)
  /-- INDEX_MISSING (R317). -/
  | indexMissing
  /-- MEMBER (R320). -/
  | member (h : JtlHead) (serial : BitVec 96) (mask ilv floor : BitVec 16)
  /-- ASSIGN (R320). -/
  | assign (h : JtlHead) (serial : BitVec 96) (node : Fin 16)
  /-- PERIODS (R323). -/
  | periods (h : JtlHead) (ts : List (BitVec 24))
  /-- DEMAND (R321). -/
  | demand (h : JtlHead) (demand want floor : BitVec 16) (flags : Byte)
  /-- SHARE (R321). -/
  | share (h : JtlHead) (apply : BitVec 32) (ws : List (BitVec 16))
  /-- PHASE (R323). -/
  | phase (h : JtlHead) (apply : BitVec 32) (ps : List (Fin 16 × BitVec 16))
  /-- SWEEP (R326). -/
  | sweep (h : JtlHead) (cmd id nph : Byte) (start : BitVec 32) (order : List Byte)
  /-- SWEEP_ABORT (R329). -/
  | sweepAbort
  /-- SWRES (R328). -/
  | swres (h : JtlHead) (id first : Byte) (dev : BitVec 32) (ws : List (BitVec 32))
  /-- EVENT (R324). -/
  | chainEvent (h : JtlHead) (k : Fin 4) (node : Byte) (ev data : BitVec 16) (sec : BitVec 32) (usec : BitVec 24)
  /-- ECHO (R315). -/
  | echo (h : JtlHead) (reply : Bool) (turn rtt : BitVec 32)
  /-- ECHO_TIMEOUT (R334). -/
  | echoTimeout (p : Fin 2)
  /-- BUDGET (R320). -/
  | budget (h : JtlHead) (watts : BitVec 16)
  /-- REFUSE (R310). -/
  | refuse (h : JtlHead) (seq : Byte)
  /-- FRAME_RETRANSMIT (R310). -/
  | frameRetransmit (seq : Byte)
  /-- LOSS (R330). -/
  | loss (h : JtlHead) (nodes : BitVec 16)
  /-- FRAME_ERROR (R307). -/
  | frameError (p : Fin 2) (e : LinkErrors)
  /-- JTL_CLRCNT (R337). -/
  | jtlClrcnt (hp : HostPort) (key : Byte)
  /-- SWABORT (R329). -/
  | swabort (hp : HostPort) (key : Byte)
  /-- SWSTART (R326). -/
  | swstart (hp : HostPort) (key : Byte)
  /-- RESYNC (R319). -/
  | resync (hp : HostPort) (key : Byte)
  /-- RESIGN (R312). -/
  | resign (hp : HostPort) (key : Byte)
  /-- ELECT (R312). -/
  | elect (hp : HostPort) (key : Byte)
  /-- CHAINBUDGET_WRITE (R320). -/
  | chainbudgetWrite (hp : HostPort) (watts : BitVec 16)
  /-- SECOND_BOUNDARY (R385). -/
  | secondBoundary
  /-- SOF_TIME_SET (R384). -/
  | sofTimeSet (hp : HostPort) (secs : BitVec 32)
  /-- SOF_TIME_SUB_READ (R383). -/
  | sofTimeSubRead (hp : HostPort)
  /-- RTC_CRYSTAL_FAIL (R406). -/
  | rtcCrystalFail
  /-- INTEGRATION_TICK (R388). -/
  | integrationTick (reports : List (Option Int))
  /-- SCHEDULE_ENTRY (R391). -/
  | scheduleEntry
  /-- BAND_SWITCH (R391). -/
  | bandSwitch
  /-- DEMAND_CLOSE (R392). -/
  | demandClose
  /-- SETBAND (R391). -/
  | setband (hp : HostPort) (key : Byte) (mask : BitVec 16) (band : BitVec 3)
  /-- CLRPEAK (R410). -/
  | clrpeak (hp : HostPort) (key : Byte) (mask : BitVec 16)
  /-- CKPT (R400). -/
  | ckpt (hp : HostPort) (key : Byte)
  /-- METER_PAGE_READ (R410). -/
  | meterPageRead (hp : HostPort) (n : Fin 16)
  /-- ENERGY_CHECKPOINT (R400). -/
  | energyCheckpoint
  /-- SLATE_RECORD_WRITE (R398). -/
  | slateRecordWrite
  /-- SECTOR_ERASE (R397). -/
  | sectorErase
  /-- FLASH_ERROR (R406). -/
  | flashError (erase : Bool) (f : FlashSector)
  /-- ENERGY_RESTORE (R404). -/
  | energyRestore (bad : List (BitVec 32)) (framOk : Bool)
  /-- SLATE_WINDOW_READ (R401). -/
  | slateWindowRead (hp : HostPort) (off : BitVec 32)
  /-- OTP_OVERRIDE (R419). -/
  | otpOverride (hp : HostPort) (addr : BitVec 9) (d1 d0 : BitVec 32)
  /-- BURN (R422). -/
  | burn (hp : HostPort) (key : Byte) (addr : BitVec 9)
  /-- CTRSET (R422). -/
  | ctrset (hp : HostPort) (key : Byte) (ctr : BitVec 2) (value : BitVec 9)
  /-- REPAIR (R423). -/
  | repair (hp : HostPort) (key : Byte)
  /-- RESCRUB (R428). -/
  | rescrub (hp : HostPort) (key : Byte)
  /-- DROPOVR (R419). -/
  | dropovr (hp : HostPort) (key : Byte) (all : Bool) (addr : BitVec 9)
  /-- OTP_BURN_DONE (R422). -/
  | otpBurnDone (read : OtpRead) (anti keys : CtrReads) (pulses : BitVec 4)
  /-- OTP_BURN_VHV_DROP (R422). -/
  | otpBurnVhvDrop
  /-- OTP_SCRUB (R428). -/
  | otpScrub (reads : List OtpRead) (cs : CtrReads)
  /-- BEGIN (R443). -/
  | beginSession (hp : HostPort) (key : Byte) (deferred : Bool)
  /-- UPD_DATA_WRITE (R443). -/
  | updDataWrite (hp : HostPort) (ws : List Word)
  /-- END (R446). -/
  | endSession (hp : HostPort) (key : Byte)
  /-- ACTIVATE (R448). -/
  | activate (hp : HostPort) (key : Byte) (nextboot dirOk : Bool)
  /-- CONFIRM (R457). -/
  | confirm (hp : HostPort) (key : Byte) (dirOk : Bool)
  /-- ABORT (R443). -/
  | abortSession (hp : HostPort) (key : Byte)
  /-- REVERT (R459). -/
  | revert (hp : HostPort) (key : Byte)
  /-- SESSION_IDLE_TIMEOUT (R445). -/
  | sessionIdleTimeout
  /-- STAGING_FLASH_DONE (R444). -/
  | stagingFlashDone (ok : Bool)
  /-- RELAY_PREPARE (R450). -/
  | relayPrepare (dirOk : Bool)
  /-- BRACE_HOLD (R451). -/
  | braceHold (dirOk : Bool)
  /-- BRACE_RELEASE (R451). -/
  | braceRelease (dur : BitVec 16) (handOk : Bool)
  /-- BRACE_TIMEOUT (R455). -/
  | braceTimeout (dirOk : Bool)
  /-- CONFIRM_TIMEOUT (R459). -/
  | confirmTimeout
  /-- UPDBEGIN (R462). -/
  | updbegin (h : JtlHead) (manid pkglen : BitVec 32)
  /-- UPDPART (R463). -/
  | updpart (h : JtlHead) (manid : BitVec 32) (off : BitVec 24) (data : List Word)
  /-- UPDSTAT (R463). -/
  | updstat (h : JtlHead) (manid : BitVec 32) (st sst code detail : Byte) (missing : BitVec 24)
  /-- UPDACT (R464). -/
  | updact (h : JtlHead) (manid : BitVec 32) (cmd : Byte) (apply : BitVec 32)
  /-- VBUS_BELOW_VSAFE0V (R104). -/
  | vbusBelowVsafe0v (n : Fin 16)
  /-- VDD_POWER_FAIL_RELEASE (R497). -/
  | vddPowerFailRelease
  /-- VHV_OVERVOLTAGE_RELEASE (R37). -/
  | vhvOvervoltageRelease
  /-- CAN_FRAME_ACKNOWLEDGED (R340). -/
  | canFrameAcknowledged
  /-- SINK_HR_VBUS_HELD (R149). -/
  | sinkHrVbusHeld (n : Fin 16)
  /-- SWEEP_ABORT_MEASURE_LIMIT (R329). -/
  | sweepAbortMeasureLimit (us : BitVec 12)
  /-- XDS_CALIBRATION (R511). -/
  | xdsCalibration
  /-- HOUSEKEEPING_GAIN_SAMPLE (R389). -/
  | housekeepingGainSample (n : Fin 16) (available : Bool)
  /-- BIST_CONT_MODE_END (R147). -/
  | bistContModeEnd (n : Fin 16)
  /-- CHUNK_TIMEOUT (R147). -/
  | chunkTimeout (n : Fin 16)
  deriving DecidableEq, Repr

end Sys2Proof
end

