-- ==== Sys2Proof/Config.lean ====
section
/-!
DEFINITION. What the spec leaves open, as constants without a body: nothing in Lean can evaluate them, so a statement holds
for every value of them. A step that needs a value the spec does not state applies freeValue to a plain counter of the
state, so each use may differ.
-/

namespace Sys2Proof.Config

/-- A value the spec does not state: the k-th one the run needs (assumption log 3). -/
opaque freeValue : Nat → BitVec 64

/-- Which marginal bits of a counter word read 1 at the normal reference (R416): the word and its marginal bits (assumption log 9). -/
opaque marginRead : Nat → BitVec 64 → BitVec 64

/-- The factory default that ROM holds for a TRIM word (R427): the word (assumption log 138). -/
opaque trimDefault : Nat → BitVec 64

end Sys2Proof.Config
end

