-- ==== Sys2Proof/Machine/Regs.lean ====
section
/-!
DEFINITION. The register map of the block (R9, R22, R31, R32, R63, R64, R97, R127, R163, R190, R191, R222, R248, R272, R273,
R300, R301, R302, R337, R381, R409, R410, R432, R472, R494): one address per register, one field descriptor per named
field, and one descriptor row per register with its access code (R10), the authority a write of it needs (R13), its
writable bits (R11), its reset value and the ranges of the fields whose other values are reserved (R11).
Names are the spec's own. An address is the 24-bit byte address as a natural number.
-/

namespace Sys2Proof.Machine

/-- A field of a register: the register's byte address, its lowest bit and its width (R12). -/
structure Fld where
  addr : Nat
  lo : Nat
  w : Nat
  deriving DecidableEq, Repr

/-- The access codes of R10. -/
inductive Acc where
  | ro | rw | w1c | wo | rws
  deriving DecidableEq, Repr

/-- The authority a write needs (R13, R363): none is named for a read-only register, whose write is discarded without error (R10). -/
inductive WAuth where
  | free | operate | configure
  deriving DecidableEq, Repr

/-- The range of a field whose other values are reserved (R11): lowest bit, width, least and greatest legal value. -/
structure FieldRange where
  lo : Nat
  w : Nat
  least : Nat
  most : Nat
  deriving DecidableEq, Repr

/-- One register or register array: it covers the words off + i * s1 + j * s2 for i below n1 and j below n2. -/
structure RegRow where
  off : Nat
  n1 : Nat
  s1 : Nat
  n2 : Nat
  s2 : Nat
  acc : Acc
  auth : WAuth
  wmask : Word
  cmask : Word
  reset : Word
  ranges : List FieldRange
  deriving DecidableEq, Repr

/-- Base address of the register block of port n (R31). -/
abbrev portBase (n : Nat) : Nat := 0x010000 + 0x1000 * n
/-- Base address of the register block of Rafter slice s (R31). -/
abbrev sliceBase (s : Nat) : Nat := 0x020000 + 0x100 * s


/-! ### GLB (R22, R63, R494) -/

abbrev GLB_PARTID.at : Nat := 0x000000
abbrev GLB_PARTID.FAMILY : Fld := ⟨GLB_PARTID.at, 16, 16⟩
abbrev GLB_PARTID.PORTS : Fld := ⟨GLB_PARTID.at, 8, 8⟩
abbrev GLB_PARTID.VARFAULT : Fld := ⟨GLB_PARTID.at, 0, 1⟩
abbrev GLB_SIREV.at : Nat := 0x000004
abbrev GLB_SIREV.MAJOR : Fld := ⟨GLB_SIREV.at, 8, 8⟩
abbrev GLB_SIREV.MINOR : Fld := ⟨GLB_SIREV.at, 0, 8⟩
abbrev GLB_PORTMASK.at : Nat := 0x000008
abbrev GLB_PORTMASK.PRESENT : Fld := ⟨GLB_PORTMASK.at, 0, 16⟩
abbrev GLB_SLICEMASK0.at : Nat := 0x00000c
abbrev GLB_SLICEMASK0.PRESENT : Fld := ⟨GLB_SLICEMASK0.at, 0, 32⟩
abbrev GLB_SLICEMASK1.at : Nat := 0x000010
abbrev GLB_SLICEMASK1.PRESENT : Fld := ⟨GLB_SLICEMASK1.at, 0, 16⟩
abbrev GLB_SERIAL0.at : Nat := 0x000014
abbrev GLB_SERIAL0.SERIAL : Fld := ⟨GLB_SERIAL0.at, 0, 32⟩
abbrev GLB_SERIAL1.at : Nat := 0x000018
abbrev GLB_SERIAL1.SERIAL : Fld := ⟨GLB_SERIAL1.at, 0, 32⟩
abbrev GLB_SERIAL2.at : Nat := 0x00001c
abbrev GLB_SERIAL2.SERIAL : Fld := ⟨GLB_SERIAL2.at, 0, 32⟩
abbrev GLB_BOOTSTAT.at : Nat := 0x000040
abbrev GLB_BOOTSTAT.DCAUSE : Fld := ⟨GLB_BOOTSTAT.at, 16, 4⟩
abbrev GLB_BOOTSTAT.SLOT : Fld := ⟨GLB_BOOTSTAT.at, 14, 2⟩
abbrev GLB_BOOTSTAT.SVCPROMO : Fld := ⟨GLB_BOOTSTAT.at, 13, 1⟩
abbrev GLB_BOOTSTAT.DORMER : Fld := ⟨GLB_BOOTSTAT.at, 12, 1⟩
abbrev GLB_BOOTSTAT.VHVWAIT : Fld := ⟨GLB_BOOTSTAT.at, 11, 1⟩
abbrev GLB_BOOTSTAT.XTALFAIL : Fld := ⟨GLB_BOOTSTAT.at, 10, 1⟩
abbrev GLB_BOOTSTAT.LEVEL : Fld := ⟨GLB_BOOTSTAT.at, 8, 2⟩
abbrev GLB_BOOTSTAT.STAGE : Fld := ⟨GLB_BOOTSTAT.at, 0, 3⟩
abbrev GLB_BOOTCTL.at : Nat := 0x000044
abbrev GLB_BOOTCTL.HOLDPORTS : Fld := ⟨GLB_BOOTCTL.at, 1, 1⟩
abbrev GLB_BOOTCTL.DORMERNEXT : Fld := ⟨GLB_BOOTCTL.at, 0, 1⟩
abbrev GLB_RESET.at : Nat := 0x000048
abbrev GLB_RESET.KEY : Fld := ⟨GLB_RESET.at, 24, 8⟩
abbrev GLB_RESET.KIND : Fld := ⟨GLB_RESET.at, 0, 2⟩
abbrev GLB_PORTGO.at : Nat := 0x00004c
abbrev GLB_PORTGO.GO : Fld := ⟨GLB_PORTGO.at, 0, 1⟩
abbrev GLB_SUPSTAT.at : Nat := 0x000050
abbrev GLB_SUPSTAT.FEED : Fld := ⟨GLB_SUPSTAT.at, 7, 2⟩
abbrev GLB_SUPSTAT.VHVOV : Fld := ⟨GLB_SUPSTAT.at, 6, 1⟩
abbrev GLB_SUPSTAT.PFAIL : Fld := ⟨GLB_SUPSTAT.at, 5, 1⟩
abbrev GLB_SUPSTAT.VBUS1SVC : Fld := ⟨GLB_SUPSTAT.at, 4, 1⟩
abbrev GLB_SUPSTAT.VBUS0SVC : Fld := ⟨GLB_SUPSTAT.at, 3, 1⟩
abbrev GLB_SUPSTAT.XSPI1S : Fld := ⟨GLB_SUPSTAT.at, 2, 1⟩
abbrev GLB_SUPSTAT.VHVOK : Fld := ⟨GLB_SUPSTAT.at, 1, 1⟩
abbrev GLB_SUPSTAT.VDDOK : Fld := ⟨GLB_SUPSTAT.at, 0, 1⟩
abbrev GLB_SUPCFG.at : Nat := 0x000054
abbrev GLB_SUPCFG.PFTHR : Fld := ⟨GLB_SUPCFG.at, 0, 4⟩
abbrev GLB_CLKSTAT.at : Nat := 0x000080
abbrev GLB_CLKSTAT.SPRK : Fld := ⟨GLB_CLKSTAT.at, 8, 4⟩
abbrev GLB_CLKSTAT.REFCODE : Fld := ⟨GLB_CLKSTAT.at, 4, 4⟩
abbrev GLB_CLKSTAT.REFSRC : Fld := ⟨GLB_CLKSTAT.at, 0, 2⟩
abbrev GLB_SPREAD.at : Nat := 0x000084
abbrev GLB_SPREAD.PLLBW : Fld := ⟨GLB_SPREAD.at, 16, 1⟩
abbrev GLB_SPREAD.SPRMASK : Fld := ⟨GLB_SPREAD.at, 8, 6⟩
abbrev GLB_SPREAD.SPRK : Fld := ⟨GLB_SPREAD.at, 0, 4⟩
abbrev GLB_ISLPWR.at : Nat := 0x000088
abbrev GLB_ISLPWR.ISL : Fld := ⟨GLB_ISLPWR.at, 0, 21⟩
abbrev GLB_ISLHALT.at : Nat := 0x00008c
abbrev GLB_ISLHALT.ISL : Fld := ⟨GLB_ISLHALT.at, 0, 21⟩
abbrev GLB_PLLSTAT.at : Nat := 0x000090
abbrev GLB_PLLSTAT.CHAIN : Fld := ⟨GLB_PLLSTAT.at, 16, 16⟩
abbrev GLB_PLLSTAT.LOCK : Fld := ⟨GLB_PLLSTAT.at, 0, 16⟩
abbrev GLB_DCOFLG.at : Nat := 0x000094
abbrev GLB_DCOFLG.XTALSW : Fld := ⟨GLB_DCOFLG.at, 31, 1⟩
abbrev GLB_DCOFLG.HOLD : Fld := ⟨GLB_DCOFLG.at, 0, 21⟩

/-! ### SOF (R64, R409) -/

abbrev SOF_RESET_CAUSE.at : Nat := 0x001000
abbrev SOF_RESET_CAUSE.CLEAR : Fld := ⟨SOF_RESET_CAUSE.at, 31, 1⟩
abbrev SOF_RESET_CAUSE.MORE : Fld := ⟨SOF_RESET_CAUSE.at, 16, 4⟩
abbrev SOF_RESET_CAUSE.ISLAND : Fld := ⟨SOF_RESET_CAUSE.at, 8, 5⟩
abbrev SOF_RESET_CAUSE.CODE : Fld := ⟨SOF_RESET_CAUSE.at, 0, 8⟩
abbrev SOF_RESET_LAST.at : Nat := 0x001004
abbrev SOF_RESET_LAST.ISLAND : Fld := ⟨SOF_RESET_LAST.at, 8, 5⟩
abbrev SOF_RESET_LAST.CODE : Fld := ⟨SOF_RESET_LAST.at, 0, 8⟩
abbrev SOF_RESET_TIME.at : Nat := 0x001008
abbrev SOF_RESET_TIME.TIME : Fld := ⟨SOF_RESET_TIME.at, 0, 32⟩
abbrev SOF_DBSTAT.at : Nat := 0x001010
abbrev SOF_DBSTAT.REVPUSH : Fld := ⟨SOF_DBSTAT.at, 6, 1⟩
abbrev SOF_DBSTAT.DBRD1 : Fld := ⟨SOF_DBSTAT.at, 5, 1⟩
abbrev SOF_DBSTAT.DBRD0 : Fld := ⟨SOF_DBSTAT.at, 4, 1⟩
abbrev SOF_DBSTAT.RECOVREQ : Fld := ⟨SOF_DBSTAT.at, 3, 1⟩
abbrev SOF_DBSTAT.LEVEL1 : Fld := ⟨SOF_DBSTAT.at, 2, 1⟩
abbrev SOF_DBSTAT.SVCPORT : Fld := ⟨SOF_DBSTAT.at, 0, 2⟩
abbrev SOF_SVCCTL.at : Nat := 0x001014
abbrev SOF_SVCCTL.RECOVREQ : Fld := ⟨SOF_SVCCTL.at, 0, 1⟩
abbrev SOF_WAKE_CFG.at : Nat := 0x001020
abbrev SOF_WAKE_CFG.HOST : Fld := ⟨SOF_WAKE_CFG.at, 3, 1⟩
abbrev SOF_WAKE_CFG.CANWAKE : Fld := ⟨SOF_WAKE_CFG.at, 2, 1⟩
abbrev SOF_WAKE_CFG.RTCALM : Fld := ⟨SOF_WAKE_CFG.at, 1, 1⟩
abbrev SOF_WAKE_CFG.SVC : Fld := ⟨SOF_WAKE_CFG.at, 0, 1⟩
abbrev SOF_WAKE_STAT.at : Nat := 0x001024
abbrev SOF_WAKE_STAT.HOST : Fld := ⟨SOF_WAKE_STAT.at, 3, 1⟩
abbrev SOF_WAKE_STAT.CANWAKE : Fld := ⟨SOF_WAKE_STAT.at, 2, 1⟩
abbrev SOF_WAKE_STAT.RTCALM : Fld := ⟨SOF_WAKE_STAT.at, 1, 1⟩
abbrev SOF_WAKE_STAT.SVC : Fld := ⟨SOF_WAKE_STAT.at, 0, 1⟩
abbrev SOF_TIME_SUB.at : Nat := 0x001100
abbrev SOF_TIME_SUB.SUB : Fld := ⟨SOF_TIME_SUB.at, 0, 15⟩
abbrev SOF_TIME_SEC.at : Nat := 0x001104
abbrev SOF_TIME_SEC.SEC : Fld := ⟨SOF_TIME_SEC.at, 0, 32⟩
abbrev SOF_TIME_USEC.at : Nat := 0x001108
abbrev SOF_TIME_USEC.USEC : Fld := ⟨SOF_TIME_USEC.at, 0, 20⟩
abbrev SOF_TIME_STAT.at : Nat := 0x00110c
abbrev SOF_TIME_STAT.X32FAIL : Fld := ⟨SOF_TIME_STAT.at, 3, 1⟩
abbrev SOF_TIME_STAT.SRC : Fld := ⟨SOF_TIME_STAT.at, 2, 1⟩
abbrev SOF_TIME_STAT.PEND : Fld := ⟨SOF_TIME_STAT.at, 1, 1⟩
abbrev SOF_TIME_STAT.VALID : Fld := ⟨SOF_TIME_STAT.at, 0, 1⟩
abbrev SOF_TIME_SET.at : Nat := 0x001110
abbrev SOF_TIME_SET.SEC : Fld := ⟨SOF_TIME_SET.at, 0, 32⟩
abbrev SOF_RTCCFG.at : Nat := 0x001114
abbrev SOF_RTCCFG.TRIM : Fld := ⟨SOF_RTCCFG.at, 16, 16⟩
abbrev SOF_RTCCFG.SRC : Fld := ⟨SOF_RTCCFG.at, 0, 1⟩
abbrev SOF_ALARM.at : Nat := 0x001118
abbrev SOF_ALARM.SEC : Fld := ⟨SOF_ALARM.at, 0, 32⟩
abbrev SOF_ALARMCTL.at : Nat := 0x00111c
abbrev SOF_ALARMCTL.SKIPPED : Fld := ⟨SOF_ALARMCTL.at, 2, 1⟩
abbrev SOF_ALARMCTL.FIRED : Fld := ⟨SOF_ALARMCTL.at, 1, 1⟩
abbrev SOF_ALARMCTL.EN : Fld := ⟨SOF_ALARMCTL.at, 0, 1⟩

/-! ### OTP (R432) -/

abbrev OTP_STAT.at : Nat := 0x002000
abbrev OTP_STAT.GAP : Fld := ⟨OTP_STAT.at, 10, 1⟩
abbrev OTP_STAT.REPAIRPEND : Fld := ⟨OTP_STAT.at, 9, 1⟩
abbrev OTP_STAT.OVRACT : Fld := ⟨OTP_STAT.at, 8, 1⟩
abbrev OTP_STAT.CEILFB : Fld := ⟨OTP_STAT.at, 7, 1⟩
abbrev OTP_STAT.SERFAULT : Fld := ⟨OTP_STAT.at, 6, 1⟩
abbrev OTP_STAT.KEYBLANK : Fld := ⟨OTP_STAT.at, 5, 1⟩
abbrev OTP_STAT.KEYONE : Fld := ⟨OTP_STAT.at, 4, 1⟩
abbrev OTP_STAT.SCRUBRUN : Fld := ⟨OTP_STAT.at, 3, 1⟩
abbrev OTP_STAT.BUSY : Fld := ⟨OTP_STAT.at, 2, 1⟩
abbrev OTP_STAT.VHVPGM : Fld := ⟨OTP_STAT.at, 1, 1⟩
abbrev OTP_STAT.LOADED : Fld := ⟨OTP_STAT.at, 0, 1⟩
abbrev OTP_CTRL.at : Nat := 0x002004
abbrev OTP_CTRL.AUTOREPAIR : Fld := ⟨OTP_CTRL.at, 0, 1⟩
abbrev OTP_CMD.at : Nat := 0x002008
abbrev OTP_CMD.KEY : Fld := ⟨OTP_CMD.at, 24, 8⟩
abbrev OTP_CMD.OP : Fld := ⟨OTP_CMD.at, 16, 3⟩
abbrev OTP_CMD.ALL : Fld := ⟨OTP_CMD.at, 15, 1⟩
abbrev OTP_CMD.CTR : Fld := ⟨OTP_CMD.at, 12, 2⟩
abbrev OTP_CMD.ADDR : Fld := ⟨OTP_CMD.at, 0, 9⟩
abbrev OTP_RESULT.at : Nat := 0x00200c
abbrev OTP_RESULT.WORD : Fld := ⟨OTP_RESULT.at, 8, 9⟩
abbrev OTP_RESULT.PULSES : Fld := ⟨OTP_RESULT.at, 4, 4⟩
abbrev OTP_RESULT.CODE : Fld := ⟨OTP_RESULT.at, 0, 4⟩
abbrev OTP_CTR.at : Nat := 0x002010
abbrev OTP_CTR.EPOCH : Fld := ⟨OTP_CTR.at, 24, 7⟩
abbrev OTP_CTR.KEYREV : Fld := ⟨OTP_CTR.at, 16, 7⟩
abbrev OTP_CTR.ANTIRB : Fld := ⟨OTP_CTR.at, 0, 9⟩
abbrev OTP_MARG.at : Nat := 0x002014
abbrev OTP_MARG.CTRMARG : Fld := ⟨OTP_MARG.at, 25, 7⟩
abbrev OTP_MARG.UE : Fld := ⟨OTP_MARG.at, 16, 9⟩
abbrev OTP_MARG.MARGINAL : Fld := ⟨OTP_MARG.at, 0, 9⟩
abbrev OTP_SCRUB.at : Nat := 0x002018
abbrev OTP_SCRUB.SINCE : Fld := ⟨OTP_SCRUB.at, 16, 16⟩
abbrev OTP_SCRUB.PASSES : Fld := ⟨OTP_SCRUB.at, 0, 16⟩
abbrev OTP_TRIMFB.at : Nat := 0x00201c
abbrev OTP_TRIMFB.GLOBAL : Fld := ⟨OTP_TRIMFB.at, 16, 1⟩
abbrev OTP_TRIMFB.PORT : Fld := ⟨OTP_TRIMFB.at, 0, 16⟩
abbrev OTP_SHADDR.at : Nat := 0x002020
abbrev OTP_SHADDR.ADDR : Fld := ⟨OTP_SHADDR.at, 0, 9⟩
abbrev OTP_SHDATA0.at : Nat := 0x002024
abbrev OTP_SHDATA0.DATA : Fld := ⟨OTP_SHDATA0.at, 0, 32⟩
abbrev OTP_SHDATA1.at : Nat := 0x002028
abbrev OTP_SHDATA1.DATA : Fld := ⟨OTP_SHDATA1.at, 0, 32⟩
abbrev OTP_FUSE0.at : Nat := 0x00202c
abbrev OTP_FUSE0.DATA : Fld := ⟨OTP_FUSE0.at, 0, 32⟩
abbrev OTP_FUSE1.at : Nat := 0x002030
abbrev OTP_FUSE1.DATA : Fld := ⟨OTP_FUSE1.at, 0, 32⟩
abbrev OTP_WSTAT.at (k : Nat) : Nat := 0x002100 + 0x4 * k
abbrev OTP_WSTAT.WORD (k : Nat) : Fld := ⟨OTP_WSTAT.at k, 0, 32⟩
abbrev OTP_OVRMASK.at (k : Nat) : Nat := 0x002200 + 0x4 * k
abbrev OTP_OVRMASK.MASK (k : Nat) : Fld := ⟨OTP_OVRMASK.at k, 0, 32⟩

/-! ### RDG (R190) -/

abbrev RDG_STAT.at : Nat := 0x003000
abbrev RDG_STAT.OUTAGE : Fld := ⟨RDG_STAT.at, 24, 1⟩
abbrev RDG_STAT.TENT : Fld := ⟨RDG_STAT.at, 16, 8⟩
abbrev RDG_STAT.OCC : Fld := ⟨RDG_STAT.at, 0, 9⟩
abbrev RDG_CFG.at : Nat := 0x003004
abbrev RDG_CFG.PREDEN : Fld := ⟨RDG_CFG.at, 1, 1⟩
abbrev RDG_CFG.RAEN : Fld := ⟨RDG_CFG.at, 0, 1⟩
abbrev RDG_CMD.at : Nat := 0x003008
abbrev RDG_CMD.KEY : Fld := ⟨RDG_CMD.at, 24, 8⟩
abbrev RDG_CMD.CLRCNT : Fld := ⟨RDG_CMD.at, 9, 1⟩
abbrev RDG_CMD.CANCEL : Fld := ⟨RDG_CMD.at, 8, 1⟩
abbrev RDG_CMD.TAG : Fld := ⟨RDG_CMD.at, 0, 8⟩
abbrev RDG_SLOTS.at : Nat := 0x00300c
abbrev RDG_SLOTS.SLOTS : Fld := ⟨RDG_SLOTS.at, 0, 32⟩
abbrev RDG_CNT0.at : Nat := 0x003010
abbrev RDG_CNT0.COMMITTED : Fld := ⟨RDG_CNT0.at, 0, 32⟩
abbrev RDG_CNT1.at : Nat := 0x003014
abbrev RDG_CNT1.DROP : Fld := ⟨RDG_CNT1.at, 24, 8⟩
abbrev RDG_CNT1.LATE : Fld := ⟨RDG_CNT1.at, 16, 8⟩
abbrev RDG_CNT1.CANCEL : Fld := ⟨RDG_CNT1.at, 0, 16⟩
abbrev RDG_PORTOCC.at (k : Nat) : Nat := 0x003020 + 0x4 * k
abbrev RDG_PORTOCC.OCC (k : Nat) : Fld := ⟨RDG_PORTOCC.at k, 0, 32⟩
abbrev RDG_PRED.at (n : Fin 16) : Nat := 0x003040 + 0x4 * n.val
abbrev RDG_PRED.HITS (n : Fin 16) : Fld := ⟨RDG_PRED.at n, 24, 8⟩
abbrev RDG_PRED.MISSES (n : Fin 16) : Fld := ⟨RDG_PRED.at n, 16, 8⟩
abbrev RDG_PRED.INTERVAL (n : Fin 16) : Fld := ⟨RDG_PRED.at n, 2, 14⟩
abbrev RDG_PRED.STOPPED (n : Fin 16) : Fld := ⟨RDG_PRED.at n, 1, 1⟩
abbrev RDG_PRED.QUAL (n : Fin 16) : Fld := ⟨RDG_PRED.at n, 0, 1⟩
abbrev RDG_REOFFER.at : Nat := 0x003080
abbrev RDG_REOFFER.PORT : Fld := ⟨RDG_REOFFER.at, 0, 16⟩
abbrev RDG_TENT.at (n : Fin 16) (i : Nat) : Nat := 0x003400 + 0x10 * n.val + 0x4 * i
abbrev RDG_TENT.WORD (n : Fin 16) (i : Nat) : Fld := ⟨RDG_TENT.at n i, 0, 32⟩
abbrev RDG_WIN.at (k : Nat) : Nat := 0x003800 + 0x4 * k
abbrev RDG_WIN.WORD (k : Nat) : Fld := ⟨RDG_WIN.at k, 0, 32⟩

/-! ### TRS (R191) -/

abbrev TRS_BUDGET.at : Nat := 0x004000
abbrev TRS_BUDGET.BUDGET : Fld := ⟨TRS_BUDGET.at, 0, 16⟩
abbrev TRS_EFF.at : Nat := 0x004004
abbrev TRS_EFF.E : Fld := ⟨TRS_EFF.at, 0, 16⟩
abbrev TRS_FLOORSUM.at : Nat := 0x004008
abbrev TRS_FLOORSUM.SUM : Fld := ⟨TRS_FLOORSUM.at, 0, 16⟩
abbrev TRS_ALLOCSUM.at : Nat := 0x00400c
abbrev TRS_ALLOCSUM.SUM : Fld := ⟨TRS_ALLOCSUM.at, 0, 16⟩
abbrev TRS_HELD.at : Nat := 0x004010
abbrev TRS_HELD.SUM : Fld := ⟨TRS_HELD.at, 0, 16⟩
abbrev TRS_FREE.at : Nat := 0x004014
abbrev TRS_FREE.NEG : Fld := ⟨TRS_FREE.at, 31, 1⟩
abbrev TRS_FREE.DEFICIT : Fld := ⟨TRS_FREE.at, 16, 15⟩
abbrev TRS_FREE.FREE : Fld := ⟨TRS_FREE.at, 0, 16⟩
abbrev TRS_STAT.at : Nat := 0x004018
abbrev TRS_STAT.REBUILT : Fld := ⟨TRS_STAT.at, 4, 1⟩
abbrev TRS_STAT.SHARELOW : Fld := ⟨TRS_STAT.at, 3, 1⟩
abbrev TRS_STAT.FROZEN : Fld := ⟨TRS_STAT.at, 2, 1⟩
abbrev TRS_STAT.DEFICIT : Fld := ⟨TRS_STAT.at, 1, 1⟩
abbrev TRS_STAT.CHAIN : Fld := ⟨TRS_STAT.at, 0, 1⟩
abbrev TRS_SHARE.at : Nat := 0x004020
abbrev TRS_SHARE.SHARE : Fld := ⟨TRS_SHARE.at, 0, 16⟩
abbrev TRS_DEMAND.at : Nat := 0x004024
abbrev TRS_DEMAND.DEMAND : Fld := ⟨TRS_DEMAND.at, 0, 16⟩
abbrev TRS_ALLOC.at (n : Fin 16) : Nat := 0x004040 + 0x4 * n.val
abbrev TRS_ALLOC.FLOOR (n : Fin 16) : Fld := ⟨TRS_ALLOC.at n, 16, 16⟩
abbrev TRS_ALLOC.ALLOC (n : Fin 16) : Fld := ⟨TRS_ALLOC.at n, 0, 16⟩
abbrev TRS_HOLD.at (n : Fin 16) : Nat := 0x004080 + 0x4 * n.val
abbrev TRS_HOLD.VALID (n : Fin 16) : Fld := ⟨TRS_HOLD.at n, 24, 1⟩
abbrev TRS_HOLD.TAG (n : Fin 16) : Fld := ⟨TRS_HOLD.at n, 16, 8⟩
abbrev TRS_HOLD.HOLD (n : Fin 16) : Fld := ⟨TRS_HOLD.at n, 0, 16⟩
abbrev TRS_AVAIL.at (n : Fin 16) : Nat := 0x0040c0 + 0x4 * n.val
abbrev TRS_AVAIL.AVAIL (n : Fin 16) : Fld := ⟨TRS_AVAIL.at n, 0, 16⟩

/-! ### BAT (R301) -/

abbrev BAT_STAT.at : Nat := 0x005000
abbrev BAT_STAT.RLIM : Fld := ⟨BAT_STAT.at, 8, 8⟩
abbrev BAT_STAT.TRSCUT : Fld := ⟨BAT_STAT.at, 3, 1⟩
abbrev BAT_STAT.GPCTEST : Fld := ⟨BAT_STAT.at, 2, 1⟩
abbrev BAT_STAT.QHWM : Fld := ⟨BAT_STAT.at, 1, 1⟩
abbrev BAT_STAT.UNREAD : Fld := ⟨BAT_STAT.at, 0, 1⟩
abbrev BAT_CMD.at : Nat := 0x005004
abbrev BAT_CMD.KEY : Fld := ⟨BAT_CMD.at, 24, 8⟩
abbrev BAT_CMD.GPCSEL : Fld := ⟨BAT_CMD.at, 16, 8⟩
abbrev BAT_CMD.TSCLR : Fld := ⟨BAT_CMD.at, 12, 1⟩
abbrev BAT_CMD.SWEVT : Fld := ⟨BAT_CMD.at, 11, 1⟩
abbrev BAT_CMD.VALST : Fld := ⟨BAT_CMD.at, 10, 1⟩
abbrev BAT_CMD.CNTCLR : Fld := ⟨BAT_CMD.at, 9, 1⟩
abbrev BAT_CMD.TALLYCLR : Fld := ⟨BAT_CMD.at, 8, 1⟩
abbrev BAT_CMD.TID : Fld := ⟨BAT_CMD.at, 0, 8⟩
abbrev BAT_QSTAT.at : Nat := 0x005008
abbrev BAT_QSTAT.UNREAD : Fld := ⟨BAT_QSTAT.at, 16, 10⟩
abbrev BAT_QSTAT.HELD : Fld := ⟨BAT_QSTAT.at, 0, 10⟩
abbrev BAT_QLOST.at : Nat := 0x00500c
abbrev BAT_QLOST.SKIP : Fld := ⟨BAT_QLOST.at, 16, 16⟩
abbrev BAT_QLOST.LOST : Fld := ⟨BAT_QLOST.at, 0, 16⟩
abbrev BAT_QPOP.at (k : Nat) : Nat := 0x005010 + 0x4 * k
abbrev BAT_QPOP.WORD (k : Nat) : Fld := ⟨BAT_QPOP.at k, 0, 32⟩
abbrev BAT_IRQEN.at : Nat := 0x005020
abbrev BAT_IRQEN.EN : Fld := ⟨BAT_IRQEN.at, 0, 32⟩
abbrev BAT_IRQSTAT.at : Nat := 0x005024
abbrev BAT_IRQSTAT.HIRQ : Fld := ⟨BAT_IRQSTAT.at, 0, 32⟩
abbrev BAT_TRSCUT.at : Nat := 0x005028
abbrev BAT_TRSCUT.CUT : Fld := ⟨BAT_TRSCUT.at, 0, 16⟩
abbrev BAT_CNT.at (k : Nat) : Nat := 0x005030 + 0x4 * k
abbrev BAT_CNT.COUNT (k : Nat) : Fld := ⟨BAT_CNT.at k, 0, 32⟩
abbrev BAT_TSCAP0.at (k : Nat) : Nat := 0x005040 + 0x8 * k
abbrev BAT_TSCAP0.SEC (k : Nat) : Fld := ⟨BAT_TSCAP0.at k, 0, 32⟩
abbrev BAT_TSCAP1.at (k : Nat) : Nat := 0x005044 + 0x8 * k
abbrev BAT_TSCAP1.VALID (k : Nat) : Fld := ⟨BAT_TSCAP1.at k, 31, 1⟩
abbrev BAT_TSCAP1.SRC (k : Nat) : Fld := ⟨BAT_TSCAP1.at k, 20, 9⟩
abbrev BAT_TSCAP1.USEC (k : Nat) : Fld := ⟨BAT_TSCAP1.at k, 0, 20⟩
abbrev BAT_RT.at (k : Nat) (i : Nat) : Nat := 0x006000 + 0x10 * k + 0x4 * i
abbrev BAT_RT.WORD (k : Nat) (i : Nat) : Fld := ⟨BAT_RT.at k i, 0, 32⟩
abbrev BAT_TALLY0.at (k : Nat) : Nat := 0x007400 + 0x8 * k
abbrev BAT_TALLY0.WINDOW (k : Nat) : Fld := ⟨BAT_TALLY0.at k, 16, 16⟩
abbrev BAT_TALLY0.THRESH (k : Nat) : Fld := ⟨BAT_TALLY0.at k, 0, 8⟩
abbrev BAT_TALLY1.at (k : Nat) : Nat := 0x007404 + 0x8 * k
abbrev BAT_TALLY1.FIRED (k : Nat) : Fld := ⟨BAT_TALLY1.at k, 8, 8⟩
abbrev BAT_TALLY1.COUNT (k : Nat) : Fld := ⟨BAT_TALLY1.at k, 0, 8⟩

/-! ### HST (R381) -/

abbrev HST_STAT.at : Nat := 0x008000
abbrev HST_STAT.CANRC : Fld := ⟨HST_STAT.at, 18, 1⟩
abbrev HST_STAT.JTAGUNL : Fld := ⟨HST_STAT.at, 17, 1⟩
abbrev HST_STAT.UPDATE : Fld := ⟨HST_STAT.at, 16, 1⟩
abbrev HST_STAT.I2CTO : Fld := ⟨HST_STAT.at, 5, 1⟩
abbrev HST_STAT.CRCERR : Fld := ⟨HST_STAT.at, 4, 1⟩
abbrev HST_STAT.STALE : Fld := ⟨HST_STAT.at, 3, 1⟩
abbrev HST_STAT.AUTHREF : Fld := ⟨HST_STAT.at, 2, 1⟩
abbrev HST_STAT.ORDERLOST : Fld := ⟨HST_STAT.at, 1, 1⟩
abbrev HST_STAT.I2C_CLASH : Fld := ⟨HST_STAT.at, 0, 1⟩
abbrev HST_CFG.at : Nat := 0x008004
abbrev HST_CFG.I2CTOEN : Fld := ⟨HST_CFG.at, 4, 1⟩
abbrev HST_CFG.SPICRC : Fld := ⟨HST_CFG.at, 3, 1⟩
abbrev HST_CFG.SPIDUMMY : Fld := ⟨HST_CFG.at, 0, 3⟩
abbrev HST_AUTH.at : Nat := 0x008008
abbrev HST_AUTH.JTAG : Fld := ⟨HST_AUTH.at, 20, 4⟩
abbrev HST_AUTH.PDVDM : Fld := ⟨HST_AUTH.at, 16, 4⟩
abbrev HST_AUTH.JOTIL : Fld := ⟨HST_AUTH.at, 12, 4⟩
abbrev HST_AUTH.CAN : Fld := ⟨HST_AUTH.at, 8, 4⟩
abbrev HST_AUTH.I2C : Fld := ⟨HST_AUTH.at, 4, 4⟩
abbrev HST_AUTH.SPI : Fld := ⟨HST_AUTH.at, 0, 4⟩
abbrev HST_CEIL.at : Nat := 0x00800c
abbrev HST_CEIL.DORMSPI : Fld := ⟨HST_CEIL.at, 24, 1⟩
abbrev HST_CEIL.JTAG : Fld := ⟨HST_CEIL.at, 20, 4⟩
abbrev HST_CEIL.PDVDM : Fld := ⟨HST_CEIL.at, 16, 4⟩
abbrev HST_CEIL.JOTIL : Fld := ⟨HST_CEIL.at, 12, 4⟩
abbrev HST_CEIL.CAN : Fld := ⟨HST_CEIL.at, 8, 4⟩
abbrev HST_CEIL.I2C : Fld := ⟨HST_CEIL.at, 4, 4⟩
abbrev HST_CEIL.SPI : Fld := ⟨HST_CEIL.at, 0, 4⟩
abbrev HST_LASTERR.at : Nat := 0x008010
abbrev HST_LASTERR.PORT : Fld := ⟨HST_LASTERR.at, 16, 3⟩
abbrev HST_LASTERR.DETAIL : Fld := ⟨HST_LASTERR.at, 8, 8⟩
abbrev HST_LASTERR.CODE : Fld := ⟨HST_LASTERR.at, 0, 8⟩
abbrev HST_I2CADDR.at : Nat := 0x008014
abbrev HST_I2CADDR.ADDR : Fld := ⟨HST_I2CADDR.at, 0, 7⟩
abbrev HST_CNT0.at : Nat := 0x008018
abbrev HST_CNT0.STALE : Fld := ⟨HST_CNT0.at, 24, 8⟩
abbrev HST_CNT0.AUTHREF : Fld := ⟨HST_CNT0.at, 16, 8⟩
abbrev HST_CNT0.LOST : Fld := ⟨HST_CNT0.at, 8, 8⟩
abbrev HST_CNT0.CLASH : Fld := ⟨HST_CNT0.at, 0, 8⟩
abbrev HST_CMD.at : Nat := 0x00801c
abbrev HST_CMD.KEY : Fld := ⟨HST_CMD.at, 24, 8⟩
abbrev HST_CMD.CLRCNT : Fld := ⟨HST_CMD.at, 0, 1⟩
abbrev HST_CNT1.at : Nat := 0x008020
abbrev HST_CNT1.CANDUP : Fld := ⟨HST_CNT1.at, 24, 8⟩
abbrev HST_CNT1.I2CTO : Fld := ⟨HST_CNT1.at, 16, 8⟩
abbrev HST_CNT1.CRCERR : Fld := ⟨HST_CNT1.at, 0, 16⟩
abbrev HST_CANCTL.at : Nat := 0x008030
abbrev HST_CANCTL.WAKEEN : Fld := ⟨HST_CANCTL.at, 4, 1⟩
abbrev HST_CANCTL.SLEEP : Fld := ⟨HST_CANCTL.at, 3, 1⟩
abbrev HST_CANCTL.BRS : Fld := ⟨HST_CANCTL.at, 2, 1⟩
abbrev HST_CANCTL.IDE : Fld := ⟨HST_CANCTL.at, 1, 1⟩
abbrev HST_CANCTL.EN : Fld := ⟨HST_CANCTL.at, 0, 1⟩
abbrev HST_CANID.at : Nat := 0x008034
abbrev HST_CANID.BASEID : Fld := ⟨HST_CANID.at, 0, 29⟩
abbrev HST_CANBT.at : Nat := 0x008038
abbrev HST_CANBT.NSJW : Fld := ⟨HST_CANBT.at, 24, 7⟩
abbrev HST_CANBT.NTSEG2 : Fld := ⟨HST_CANBT.at, 16, 7⟩
abbrev HST_CANBT.NTSEG1 : Fld := ⟨HST_CANBT.at, 8, 8⟩
abbrev HST_CANBT.NBRP : Fld := ⟨HST_CANBT.at, 0, 5⟩
abbrev HST_CANDBT.at : Nat := 0x00803c
abbrev HST_CANDBT.TDCEN : Fld := ⟨HST_CANDBT.at, 31, 1⟩
abbrev HST_CANDBT.DSJW : Fld := ⟨HST_CANDBT.at, 24, 4⟩
abbrev HST_CANDBT.DTSEG2 : Fld := ⟨HST_CANDBT.at, 16, 4⟩
abbrev HST_CANDBT.DTSEG1 : Fld := ⟨HST_CANDBT.at, 8, 5⟩
abbrev HST_CANDBT.DBRP : Fld := ⟨HST_CANDBT.at, 0, 5⟩
abbrev HST_CANWAKE.at : Nat := 0x008040
abbrev HST_CANWAKE.WAKEID : Fld := ⟨HST_CANWAKE.at, 0, 29⟩
abbrev HST_CANWMASK.at : Nat := 0x008044
abbrev HST_CANWMASK.MASK : Fld := ⟨HST_CANWMASK.at, 0, 29⟩
abbrev HST_CANSTAT.at : Nat := 0x008048
abbrev HST_CANSTAT.EVDROP : Fld := ⟨HST_CANSTAT.at, 24, 8⟩
abbrev HST_CANSTAT.LEC : Fld := ⟨HST_CANSTAT.at, 20, 3⟩
abbrev HST_CANSTAT.RCREF : Fld := ⟨HST_CANSTAT.at, 18, 1⟩
abbrev HST_CANSTAT.STATE : Fld := ⟨HST_CANSTAT.at, 16, 2⟩
abbrev HST_CANSTAT.REC : Fld := ⟨HST_CANSTAT.at, 8, 8⟩
abbrev HST_CANSTAT.TEC : Fld := ⟨HST_CANSTAT.at, 0, 8⟩
abbrev HST_GEN.at (n : Fin 16) : Nat := 0x008080 + 0x4 * n.val
abbrev HST_GEN.GEN (n : Fin 16) : Fld := ⟨HST_GEN.at n, 0, 16⟩

/-! ### JTL (R337) -/

abbrev JTL_STAT.at : Nat := 0x009000
abbrev JTL_STAT.SEGMENT : Fld := ⟨JTL_STAT.at, 25, 1⟩
abbrev JTL_STAT.OVERSUB : Fld := ⟨JTL_STAT.at, 24, 1⟩
abbrev JTL_STAT.LOCKPORT : Fld := ⟨JTL_STAT.at, 23, 1⟩
abbrev JTL_STAT.DNUP : Fld := ⟨JTL_STAT.at, 22, 1⟩
abbrev JTL_STAT.UPUP : Fld := ⟨JTL_STAT.at, 21, 1⟩
abbrev JTL_STAT.RING : Fld := ⟨JTL_STAT.at, 20, 1⟩
abbrev JTL_STAT.HOPS : Fld := ⟨JTL_STAT.at, 16, 4⟩
abbrev JTL_STAT.MEMBERS : Fld := ⟨JTL_STAT.at, 12, 4⟩
abbrev JTL_STAT.NODE : Fld := ⟨JTL_STAT.at, 8, 4⟩
abbrev JTL_STAT.ELECTING : Fld := ⟨JTL_STAT.at, 7, 1⟩
abbrev JTL_STAT.SWEEP : Fld := ⟨JTL_STAT.at, 6, 1⟩
abbrev JTL_STAT.BRACE : Fld := ⟨JTL_STAT.at, 5, 1⟩
abbrev JTL_STAT.UNSYNC : Fld := ⟨JTL_STAT.at, 4, 1⟩
abbrev JTL_STAT.FREERUN : Fld := ⟨JTL_STAT.at, 3, 1⟩
abbrev JTL_STAT.LOCKED : Fld := ⟨JTL_STAT.at, 2, 1⟩
abbrev JTL_STAT.LEADER : Fld := ⟨JTL_STAT.at, 1, 1⟩
abbrev JTL_STAT.EN : Fld := ⟨JTL_STAT.at, 0, 1⟩
abbrev JTL_CFG.at : Nat := 0x009004
abbrev JTL_CFG.EN : Fld := ⟨JTL_CFG.at, 15, 1⟩
abbrev JTL_CFG.SEGAUTO : Fld := ⟨JTL_CFG.at, 14, 1⟩
abbrev JTL_CFG.AUTOPH : Fld := ⟨JTL_CFG.at, 13, 1⟩
abbrev JTL_CFG.LOCKEN : Fld := ⟨JTL_CFG.at, 12, 1⟩
abbrev JTL_CFG.MAXHOP : Fld := ⟨JTL_CFG.at, 8, 4⟩
abbrev JTL_CFG.WEIGHT : Fld := ⟨JTL_CFG.at, 0, 8⟩
abbrev JTL_CMD.at : Nat := 0x009008
abbrev JTL_CMD.KEY : Fld := ⟨JTL_CMD.at, 24, 8⟩
abbrev JTL_CMD.CLRCNT : Fld := ⟨JTL_CMD.at, 5, 1⟩
abbrev JTL_CMD.SWABORT : Fld := ⟨JTL_CMD.at, 4, 1⟩
abbrev JTL_CMD.SWSTART : Fld := ⟨JTL_CMD.at, 3, 1⟩
abbrev JTL_CMD.RESYNC : Fld := ⟨JTL_CMD.at, 2, 1⟩
abbrev JTL_CMD.RESIGN : Fld := ⟨JTL_CMD.at, 1, 1⟩
abbrev JTL_CMD.ELECT : Fld := ⟨JTL_CMD.at, 0, 1⟩
abbrev JTL_CHAINBUDGET.at : Nat := 0x00900c
abbrev JTL_CHAINBUDGET.BUDGET : Fld := ⟨JTL_CHAINBUDGET.at, 0, 16⟩
abbrev JTL_IDXNUM.at : Nat := 0x009010
abbrev JTL_IDXNUM.IDXNUM : Fld := ⟨JTL_IDXNUM.at, 0, 32⟩
abbrev JTL_LEADER.at (k : Nat) : Nat := 0x009014 + 0x4 * k
abbrev JTL_LEADER.SERIAL (k : Nat) : Fld := ⟨JTL_LEADER.at k, 0, 32⟩
abbrev JTL_LEADERW.at : Nat := 0x009020
abbrev JTL_LEADERW.WEIGHT : Fld := ⟨JTL_LEADERW.at, 0, 8⟩
abbrev JTL_LINK.at (k : Nat) : Nat := 0x009024 + 0x4 * k
abbrev JTL_LINK.DOWNS (k : Nat) : Fld := ⟨JTL_LINK.at k, 24, 8⟩
abbrev JTL_LINK.FRMERR (k : Nat) : Fld := ⟨JTL_LINK.at k, 16, 8⟩
abbrev JTL_LINK.CODEERR (k : Nat) : Fld := ⟨JTL_LINK.at k, 8, 8⟩
abbrev JTL_LINK.NODLY (k : Nat) : Fld := ⟨JTL_LINK.at k, 2, 1⟩
abbrev JTL_LINK.LOCKSRC (k : Nat) : Fld := ⟨JTL_LINK.at k, 1, 1⟩
abbrev JTL_LINK.UP (k : Nat) : Fld := ⟨JTL_LINK.at k, 0, 1⟩
abbrev JTL_HOPDLY.at : Nat := 0x00902c
abbrev JTL_HOPDLY.DN : Fld := ⟨JTL_HOPDLY.at, 16, 16⟩
abbrev JTL_HOPDLY.UP : Fld := ⟨JTL_HOPDLY.at, 0, 16⟩
abbrev JTL_SLIP.at : Nat := 0x009030
abbrev JTL_SLIP.OFFS : Fld := ⟨JTL_SLIP.at, 16, 16⟩
abbrev JTL_SLIP.MAJOR : Fld := ⟨JTL_SLIP.at, 8, 8⟩
abbrev JTL_SLIP.MINOR : Fld := ⟨JTL_SLIP.at, 0, 8⟩
abbrev JTL_CNT.at : Nat := 0x009034
abbrev JTL_CNT.GIVEUP : Fld := ⟨JTL_CNT.at, 16, 16⟩
abbrev JTL_CNT.REFUSED : Fld := ⟨JTL_CNT.at, 0, 16⟩
abbrev JTL_SWCFG.at : Nat := 0x009038
abbrev JTL_SWCFG.NODEMASK : Fld := ⟨JTL_SWCFG.at, 16, 16⟩
abbrev JTL_SWCFG.NPH : Fld := ⟨JTL_SWCFG.at, 0, 2⟩
abbrev JTL_SWSTAT.at : Nat := 0x00903c
abbrev JTL_SWSTAT.DUR : Fld := ⟨JTL_SWSTAT.at, 20, 12⟩
abbrev JTL_SWSTAT.SLOT : Fld := ⟨JTL_SWSTAT.at, 16, 4⟩
abbrev JTL_SWSTAT.SWEEPID : Fld := ⟨JTL_SWSTAT.at, 8, 8⟩
abbrev JTL_SWSTAT.STATE : Fld := ⟨JTL_SWSTAT.at, 0, 3⟩
abbrev JTL_SWNODE.at : Nat := 0x009040
abbrev JTL_SWNODE.NODES : Fld := ⟨JTL_SWNODE.at, 0, 32⟩
abbrev JTL_SWDEV.at : Nat := 0x009044
abbrev JTL_SWDEV.EXCL : Fld := ⟨JTL_SWDEV.at, 28, 4⟩
abbrev JTL_SWDEV.TEMP : Fld := ⟨JTL_SWDEV.at, 16, 12⟩
abbrev JTL_SWDEV.VHV : Fld := ⟨JTL_SWDEV.at, 0, 16⟩
abbrev JTL_EVCFG.at : Nat := 0x009048
abbrev JTL_EVCFG.CH3 : Fld := ⟨JTL_EVCFG.at, 24, 8⟩
abbrev JTL_EVCFG.CH2 : Fld := ⟨JTL_EVCFG.at, 16, 8⟩
abbrev JTL_EVCFG.CH1 : Fld := ⟨JTL_EVCFG.at, 8, 8⟩
abbrev JTL_EVCFG.CH0 : Fld := ⟨JTL_EVCFG.at, 0, 8⟩
abbrev JTL_EVRX.at (k : Nat) : Nat := 0x009050 + 0x4 * k
abbrev JTL_EVRX.SRC (k : Nat) : Fld := ⟨JTL_EVRX.at k, 20, 9⟩
abbrev JTL_EVRX.NODE (k : Nat) : Fld := ⟨JTL_EVRX.at k, 16, 4⟩
abbrev JTL_EVRX.COUNT (k : Nat) : Fld := ⟨JTL_EVRX.at k, 0, 16⟩
abbrev JTL_SHARETAB.at (k : Nat) : Nat := 0x009080 + 0x4 * k
abbrev JTL_SHARETAB.DEMAND (k : Nat) : Fld := ⟨JTL_SHARETAB.at k, 16, 16⟩
abbrev JTL_SHARETAB.SHARE (k : Nat) : Fld := ⟨JTL_SHARETAB.at k, 0, 16⟩
abbrev JTL_NODE.at (k : Nat) (i : Nat) : Nat := 0x009100 + 0x10 * k + 0x4 * i
abbrev JTL_NODE.WORD (k : Nat) (i : Nat) : Fld := ⟨JTL_NODE.at k i, 0, 32⟩
abbrev JTL_SWRES.at (n : Fin 16) : Nat := 0x009200 + 0x4 * n.val
abbrev JTL_SWRES.VALID (n : Fin 16) : Fld := ⟨JTL_SWRES.at n, 30, 1⟩
abbrev JTL_SWRES.STEP (n : Fin 16) : Fld := ⟨JTL_SWRES.at n, 28, 2⟩
abbrev JTL_SWRES.PP (n : Fin 16) : Fld := ⟨JTL_SWRES.at n, 16, 12⟩
abbrev JTL_SWRES.MEAN (n : Fin 16) : Fld := ⟨JTL_SWRES.at n, 0, 16⟩
abbrev JTL_SWTAB.at (k : Nat) (i : Nat) : Nat := 0x009400 + 0x40 * k + 0x4 * i
abbrev JTL_SWTAB.WORD (k : Nat) (i : Nat) : Fld := ⟨JTL_SWTAB.at k i, 0, 32⟩

/-! ### UPD (R472) -/

abbrev UPD_STAT.at : Nat := 0x00a000
abbrev UPD_STAT.TRIALS : Fld := ⟨UPD_STAT.at, 20, 4⟩
abbrev UPD_STAT.NEXTBOOT : Fld := ⟨UPD_STAT.at, 19, 1⟩
abbrev UPD_STAT.PREVBAD : Fld := ⟨UPD_STAT.at, 18, 1⟩
abbrev UPD_STAT.CHAIN : Fld := ⟨UPD_STAT.at, 17, 1⟩
abbrev UPD_STAT.STAGPS : Fld := ⟨UPD_STAT.at, 15, 2⟩
abbrev UPD_STAT.PREVPS : Fld := ⟨UPD_STAT.at, 13, 2⟩
abbrev UPD_STAT.ACTPS : Fld := ⟨UPD_STAT.at, 11, 2⟩
abbrev UPD_STAT.SSTATE : Fld := ⟨UPD_STAT.at, 8, 3⟩
abbrev UPD_STAT.DEFER : Fld := ⟨UPD_STAT.at, 7, 1⟩
abbrev UPD_STAT.OWNER : Fld := ⟨UPD_STAT.at, 4, 3⟩
abbrev UPD_STAT.STATE : Fld := ⟨UPD_STAT.at, 0, 4⟩
abbrev UPD_CMD.at : Nat := 0x00a004
abbrev UPD_CMD.KEY : Fld := ⟨UPD_CMD.at, 24, 8⟩
abbrev UPD_CMD.NEXTBOOT : Fld := ⟨UPD_CMD.at, 9, 1⟩
abbrev UPD_CMD.DEFER : Fld := ⟨UPD_CMD.at, 8, 1⟩
abbrev UPD_CMD.OP : Fld := ⟨UPD_CMD.at, 0, 4⟩
abbrev UPD_RESULT.at : Nat := 0x00a008
abbrev UPD_RESULT.BLOCK : Fld := ⟨UPD_RESULT.at, 16, 12⟩
abbrev UPD_RESULT.DETAIL : Fld := ⟨UPD_RESULT.at, 8, 8⟩
abbrev UPD_RESULT.CODE : Fld := ⟨UPD_RESULT.at, 0, 8⟩
abbrev UPD_NEXT.at : Nat := 0x00a010
abbrev UPD_NEXT.OFFS : Fld := ⟨UPD_NEXT.at, 0, 24⟩
abbrev UPD_RECV.at : Nat := 0x00a014
abbrev UPD_RECV.BYTES : Fld := ⟨UPD_RECV.at, 0, 25⟩
abbrev UPD_AMANID.at : Nat := 0x00a018
abbrev UPD_AMANID.MANID : Fld := ⟨UPD_AMANID.at, 0, 32⟩
abbrev UPD_PMANID.at : Nat := 0x00a01c
abbrev UPD_PMANID.MANID : Fld := ⟨UPD_PMANID.at, 0, 32⟩
abbrev UPD_SMANID.at : Nat := 0x00a020
abbrev UPD_SMANID.MANID : Fld := ⟨UPD_SMANID.at, 0, 32⟩
abbrev UPD_ROLLBACK.at : Nat := 0x00a024
abbrev UPD_ROLLBACK.STAGING : Fld := ⟨UPD_ROLLBACK.at, 16, 9⟩
abbrev UPD_ROLLBACK.ACTIVE : Fld := ⟨UPD_ROLLBACK.at, 0, 9⟩
abbrev UPD_CONFTIME.at : Nat := 0x00a028
abbrev UPD_CONFTIME.SECS : Fld := ⟨UPD_CONFTIME.at, 0, 32⟩
abbrev UPD_BRACE.at : Nat := 0x00a030
abbrev UPD_BRACE.ABORTED : Fld := ⟨UPD_BRACE.at, 16, 1⟩
abbrev UPD_BRACE.DUR : Fld := ⟨UPD_BRACE.at, 0, 16⟩
abbrev UPD_BRMASK.at : Nat := 0x00a034
abbrev UPD_BRMASK.STRIPPED : Fld := ⟨UPD_BRMASK.at, 16, 16⟩
abbrev UPD_BRMASK.LEFT : Fld := ⟨UPD_BRMASK.at, 0, 16⟩
abbrev UPD_CHAIN.at : Nat := 0x00a038
abbrev UPD_CHAIN.IDX : Fld := ⟨UPD_CHAIN.at, 0, 32⟩
abbrev UPD_CHAINST.at : Nat := 0x00a03c
abbrev UPD_CHAINST.FAILED : Fld := ⟨UPD_CHAINST.at, 16, 16⟩
abbrev UPD_CHAINST.STAGED : Fld := ⟨UPD_CHAINST.at, 0, 16⟩
abbrev UPD_DROPPED.at : Nat := 0x00a040
abbrev UPD_DROPPED.OPS : Fld := ⟨UPD_DROPPED.at, 0, 8⟩
abbrev UPD_DATA.at (k : Nat) : Nat := 0x00a400 + 0x4 * k
abbrev UPD_DATA.DATA (k : Nat) : Fld := ⟨UPD_DATA.at k, 0, 32⟩

/-! ### MTR (R410) -/

abbrev MTR_STAT.at : Nat := 0x00b000
abbrev MTR_STAT.IVRUN : Fld := ⟨MTR_STAT.at, 6, 1⟩
abbrev MTR_STAT.NORESTORE : Fld := ⟨MTR_STAT.at, 4, 1⟩
abbrev MTR_STAT.RECLOST : Fld := ⟨MTR_STAT.at, 3, 1⟩
abbrev MTR_STAT.LATEBAND : Fld := ⟨MTR_STAT.at, 2, 1⟩
abbrev MTR_STAT.SCHEDON : Fld := ⟨MTR_STAT.at, 1, 1⟩
abbrev MTR_STAT.VALID : Fld := ⟨MTR_STAT.at, 0, 1⟩
abbrev MTR_CFG.at : Nat := 0x00b004
abbrev MTR_CFG.SCHEDEN : Fld := ⟨MTR_CFG.at, 24, 1⟩
abbrev MTR_CFG.CPER : Fld := ⟨MTR_CFG.at, 16, 8⟩
abbrev MTR_CFG.DOW0 : Fld := ⟨MTR_CFG.at, 8, 3⟩
abbrev MTR_CFG.DILEN : Fld := ⟨MTR_CFG.at, 0, 6⟩
abbrev MTR_TZOFF.at : Nat := 0x00b008
abbrev MTR_TZOFF.TZ : Fld := ⟨MTR_TZOFF.at, 0, 18⟩
abbrev MTR_CMD.at : Nat := 0x00b00c
abbrev MTR_CMD.KEY : Fld := ⟨MTR_CMD.at, 24, 8⟩
abbrev MTR_CMD.CKPT : Fld := ⟨MTR_CMD.at, 21, 1⟩
abbrev MTR_CMD.CLRPEAK : Fld := ⟨MTR_CMD.at, 20, 1⟩
abbrev MTR_CMD.SETBAND : Fld := ⟨MTR_CMD.at, 19, 1⟩
abbrev MTR_CMD.BAND : Fld := ⟨MTR_CMD.at, 16, 3⟩
abbrev MTR_CMD.PORTMASK : Fld := ⟨MTR_CMD.at, 0, 16⟩
abbrev MTR_IVSTART.at : Nat := 0x00b010
abbrev MTR_IVSTART.SEC : Fld := ⟨MTR_IVSTART.at, 0, 32⟩
abbrev MTR_SCHED0.at (k : Nat) : Nat := 0x00b100 + 0x8 * k
abbrev MTR_SCHED0.VALID (k : Nat) : Fld := ⟨MTR_SCHED0.at k, 31, 1⟩
abbrev MTR_SCHED0.BAND (k : Nat) : Fld := ⟨MTR_SCHED0.at k, 24, 3⟩
abbrev MTR_SCHED0.DOW (k : Nat) : Fld := ⟨MTR_SCHED0.at k, 17, 7⟩
abbrev MTR_SCHED0.TOD (k : Nat) : Fld := ⟨MTR_SCHED0.at k, 0, 17⟩
abbrev MTR_SCHED1.at (k : Nat) : Nat := 0x00b104 + 0x8 * k
abbrev MTR_SCHED1.PORTMASK (k : Nat) : Fld := ⟨MTR_SCHED1.at k, 0, 16⟩
abbrev MTR_ETOT.at (n : Fin 16) (i : Nat) : Nat := 0x00b400 + 0x80 * n.val + 0x4 * i
abbrev MTR_ETOT.WORD (n : Fin 16) (i : Nat) : Fld := ⟨MTR_ETOT.at n i, 0, 32⟩
abbrev MTR_PSTAT.at (n : Fin 16) : Nat := 0x00b408 + 0x80 * n.val
abbrev MTR_PSTAT.MISSED (n : Fin 16) : Fld := ⟨MTR_PSTAT.at n, 16, 16⟩
abbrev MTR_PSTAT.METERING (n : Fin 16) : Fld := ⟨MTR_PSTAT.at n, 8, 1⟩
abbrev MTR_PSTAT.BAND (n : Fin 16) : Fld := ⟨MTR_PSTAT.at n, 0, 3⟩
abbrev MTR_IVE.at (n : Fin 16) (i : Nat) : Nat := 0x00b40c + 0x80 * n.val + 0x4 * i
abbrev MTR_IVE.WORD (n : Fin 16) (i : Nat) : Fld := ⟨MTR_IVE.at n i, 0, 32⟩
abbrev MTR_DEMAND.at (n : Fin 16) : Nat := 0x00b414 + 0x80 * n.val
abbrev MTR_DEMAND.PEAK (n : Fin 16) : Fld := ⟨MTR_DEMAND.at n, 16, 16⟩
abbrev MTR_DEMAND.DEMAND (n : Fin 16) : Fld := ⟨MTR_DEMAND.at n, 0, 16⟩
abbrev MTR_DMAX.at (n : Fin 16) : Nat := 0x00b418 + 0x80 * n.val
abbrev MTR_DMAX.DMAX (n : Fin 16) : Fld := ⟨MTR_DMAX.at n, 0, 16⟩
abbrev MTR_EBAND.at (n : Fin 16) (i : Nat) : Nat := 0x00b420 + 0x80 * n.val + 0x4 * i
abbrev MTR_EBAND.WORD (n : Fin 16) (i : Nat) : Fld := ⟨MTR_EBAND.at n i, 0, 32⟩
abbrev MTR_SLSTAT.at : Nat := 0x00bc00
abbrev MTR_SLSTAT.ERASED : Fld := ⟨MTR_SLSTAT.at, 16, 16⟩
abbrev MTR_SLSTAT.RETIRED : Fld := ⟨MTR_SLSTAT.at, 8, 8⟩
abbrev MTR_SLSTAT.RESTORED : Fld := ⟨MTR_SLSTAT.at, 5, 1⟩
abbrev MTR_SLSTAT.RDRDY : Fld := ⟨MTR_SLSTAT.at, 4, 1⟩
abbrev MTR_SLSTAT.ERR : Fld := ⟨MTR_SLSTAT.at, 3, 1⟩
abbrev MTR_SLSTAT.CFGERR : Fld := ⟨MTR_SLSTAT.at, 2, 1⟩
abbrev MTR_SLSTAT.FRAM : Fld := ⟨MTR_SLSTAT.at, 1, 1⟩
abbrev MTR_SLSTAT.EN : Fld := ⟨MTR_SLSTAT.at, 0, 1⟩
abbrev MTR_SLPTR.at : Nat := 0x00bc04
abbrev MTR_SLPTR.PTR : Fld := ⟨MTR_SLPTR.at, 0, 32⟩
abbrev MTR_SLCOUNT.at : Nat := 0x00bc08
abbrev MTR_SLCOUNT.COUNT : Fld := ⟨MTR_SLCOUNT.at, 0, 32⟩
abbrev MTR_SLRDADDR.at : Nat := 0x00bc0c
abbrev MTR_SLRDADDR.OFFS : Fld := ⟨MTR_SLRDADDR.at, 0, 32⟩
abbrev MTR_SLRDDAT.at (k : Nat) : Nat := 0x00bc10 + 0x4 * k
abbrev MTR_SLRDDAT.DATA (k : Nat) : Fld := ⟨MTR_SLRDDAT.at k, 0, 32⟩
abbrev MTR_SLERR.at : Nat := 0x00bc50
abbrev MTR_SLERR.ERR : Fld := ⟨MTR_SLERR.at, 16, 8⟩
abbrev MTR_SLERR.SECTOR : Fld := ⟨MTR_SLERR.at, 0, 16⟩
abbrev MTR_SLBASE.at : Nat := 0x00bc54
abbrev MTR_SLBASE.BASE : Fld := ⟨MTR_SLBASE.at, 0, 32⟩
abbrev MTR_SLLEN.at : Nat := 0x00bc58
abbrev MTR_SLLEN.LEN : Fld := ⟨MTR_SLLEN.at, 0, 32⟩

/-! ### GPC (R302) -/

abbrev GPC_CFG.at (k : Nat) : Nat := 0x00c000 + 0x10 * k
abbrev GPC_CFG.EAVEMASK (k : Nat) : Fld := ⟨GPC_CFG.at k, 16, 16⟩
abbrev GPC_CFG.FILT (k : Nat) : Fld := ⟨GPC_CFG.at k, 8, 3⟩
abbrev GPC_CFG.INWARN (k : Nat) : Fld := ⟨GPC_CFG.at k, 7, 1⟩
abbrev GPC_CFG.MODE (k : Nat) : Fld := ⟨GPC_CFG.at k, 5, 2⟩
abbrev GPC_CFG.INSEL (k : Nat) : Fld := ⟨GPC_CFG.at k, 0, 5⟩
abbrev GPC_THR.at (k : Nat) : Nat := 0x00c004 + 0x10 * k
abbrev GPC_THR.HYS (k : Nat) : Fld := ⟨GPC_THR.at k, 16, 8⟩
abbrev GPC_THR.THR (k : Nat) : Fld := ⟨GPC_THR.at k, 0, 12⟩
abbrev GPC_SLOPE.at (k : Nat) : Nat := 0x00c008 + 0x10 * k
abbrev GPC_SLOPE.TSL (k : Nat) : Fld := ⟨GPC_SLOPE.at k, 16, 4⟩
abbrev GPC_SLOPE.SLOPETHR (k : Nat) : Fld := ⟨GPC_SLOPE.at k, 0, 12⟩
abbrev GPC_STAT.at : Nat := 0x00c080
abbrev GPC_STAT.FAIL : Fld := ⟨GPC_STAT.at, 8, 8⟩
abbrev GPC_STAT.OUT : Fld := ⟨GPC_STAT.at, 0, 8⟩

/-! ### THA (R97) -/

abbrev THA_STAT.at : Nat := 0x05f000
abbrev THA_STAT.FMTMIN : Fld := ⟨THA_STAT.at, 8, 8⟩
abbrev THA_STAT.AUTHCLAMP : Fld := ⟨THA_STAT.at, 2, 1⟩
abbrev THA_STAT.DIVERGED : Fld := ⟨THA_STAT.at, 1, 1⟩
abbrev THA_STAT.LOADED : Fld := ⟨THA_STAT.at, 0, 1⟩
abbrev THA_IMGID.at : Nat := 0x05f004
abbrev THA_IMGID.ID : Fld := ⟨THA_IMGID.at, 0, 32⟩
abbrev THA_GEN.at : Nat := 0x05f008
abbrev THA_GEN.GEN : Fld := ⟨THA_GEN.at, 0, 32⟩
abbrev THA_DIVMASK.at : Nat := 0x05f00c
abbrev THA_DIVMASK.AUTH : Fld := ⟨THA_DIVMASK.at, 17, 1⟩
abbrev THA_DIVMASK.WIRE : Fld := ⟨THA_DIVMASK.at, 16, 1⟩
abbrev THA_DIVMASK.PORT : Fld := ⟨THA_DIVMASK.at, 0, 16⟩
abbrev THA_EDCLAIM.at : Nat := 0x05f010
abbrev THA_EDCLAIM.OWNER : Fld := ⟨THA_EDCLAIM.at, 1, 3⟩
abbrev THA_EDCLAIM.CLAIM : Fld := ⟨THA_EDCLAIM.at, 0, 1⟩
abbrev THA_SRCTL.at : Nat := 0x05f014
abbrev THA_SRCTL.KEY : Fld := ⟨THA_SRCTL.at, 24, 8⟩
abbrev THA_SRCTL.OP : Fld := ⟨THA_SRCTL.at, 16, 2⟩
abbrev THA_SRCTL.FUNC : Fld := ⟨THA_SRCTL.at, 8, 5⟩
abbrev THA_SRSTAT.at : Nat := 0x05f018
abbrev THA_SRSTAT.FUNC : Fld := ⟨THA_SRSTAT.at, 24, 5⟩
abbrev THA_SRSTAT.CHECK : Fld := ⟨THA_SRSTAT.at, 16, 4⟩
abbrev THA_SRSTAT.RESULT : Fld := ⟨THA_SRSTAT.at, 8, 4⟩
abbrev THA_SRSTAT.PHASE : Fld := ⟨THA_SRSTAT.at, 0, 3⟩
abbrev THA_SCRUBCFG.at : Nat := 0x05f020
abbrev THA_SCRUBCFG.PERIOD : Fld := ⟨THA_SCRUBCFG.at, 0, 3⟩
abbrev THA_SCRUBSTAT.at : Nat := 0x05f024
abbrev THA_SCRUBSTAT.UE : Fld := ⟨THA_SCRUBSTAT.at, 16, 8⟩
abbrev THA_SCRUBSTAT.CE : Fld := ⟨THA_SCRUBSTAT.at, 0, 16⟩
abbrev THA_SCRUBPASS.at : Nat := 0x05f028
abbrev THA_SCRUBPASS.PASSES : Fld := ⟨THA_SCRUBPASS.at, 0, 32⟩
abbrev THA_ERRADDR.at : Nat := 0x05f02c
abbrev THA_ERRADDR.DOUBLE : Fld := ⟨THA_ERRADDR.at, 31, 1⟩
abbrev THA_ERRADDR.ADDR : Fld := ⟨THA_ERRADDR.at, 0, 17⟩

/-! ### PCC (R127) -/

abbrev PCC_STATUS.at (n : Fin 16) : Nat := portBase n.val + 0x0
abbrev PCC_STATUS.DBRD (n : Fin 16) : Fld := ⟨PCC_STATUS.at n, 19, 1⟩
abbrev PCC_STATUS.VCONNLATCH (n : Fin 16) : Fld := ⟨PCC_STATUS.at n, 18, 1⟩
abbrev PCC_STATUS.LATCHED (n : Fin 16) : Fld := ⟨PCC_STATUS.at n, 17, 1⟩
abbrev PCC_STATUS.VBUSPRES (n : Fin 16) : Fld := ⟨PCC_STATUS.at n, 16, 1⟩
abbrev PCC_STATUS.ACC (n : Fin 16) : Fld := ⟨PCC_STATUS.at n, 15, 1⟩
abbrev PCC_STATUS.VCONNON (n : Fin 16) : Fld := ⟨PCC_STATUS.at n, 14, 1⟩
abbrev PCC_STATUS.RPSEEN (n : Fin 16) : Fld := ⟨PCC_STATUS.at n, 12, 2⟩
abbrev PCC_STATUS.RPOUT (n : Fin 16) : Fld := ⟨PCC_STATUS.at n, 10, 2⟩
abbrev PCC_STATUS.CC2CLS (n : Fin 16) : Fld := ⟨PCC_STATUS.at n, 8, 2⟩
abbrev PCC_STATUS.CC1CLS (n : Fin 16) : Fld := ⟨PCC_STATUS.at n, 6, 2⟩
abbrev PCC_STATUS.ORIENT (n : Fin 16) : Fld := ⟨PCC_STATUS.at n, 5, 1⟩
abbrev PCC_STATUS.STATE (n : Fin 16) : Fld := ⟨PCC_STATUS.at n, 0, 5⟩
abbrev PCC_CTRL.at (n : Fin 16) : Nat := portBase n.val + 0x4
abbrev PCC_CTRL.DISABLE (n : Fin 16) : Fld := ⟨PCC_CTRL.at n, 0, 1⟩
abbrev PCC_CMD.at (n : Fin 16) : Nat := portBase n.val + 0x8
abbrev PCC_CMD.REDISC (n : Fin 16) : Fld := ⟨PCC_CMD.at n, 2, 1⟩
abbrev PCC_CMD.CLRLATCH (n : Fin 16) : Fld := ⟨PCC_CMD.at n, 1, 1⟩
abbrev PCC_CMD.ERRREC (n : Fin 16) : Fld := ⟨PCC_CMD.at n, 0, 1⟩
abbrev PCC_CFG.at (n : Fin 16) : Nat := portBase n.val + 0x10
abbrev PCC_CFG.DISCDLY (n : Fin 16) : Fld := ⟨PCC_CFG.at n, 12, 4⟩
abbrev PCC_CFG.GLITCH (n : Fin 16) : Fld := ⟨PCC_CFG.at n, 8, 4⟩
abbrev PCC_CFG.PROBEEN (n : Fin 16) : Fld := ⟨PCC_CFG.at n, 5, 1⟩
abbrev PCC_CFG.SOPPEN (n : Fin 16) : Fld := ⟨PCC_CFG.at n, 4, 1⟩
abbrev PCC_CFG.DISCEN (n : Fin 16) : Fld := ⟨PCC_CFG.at n, 3, 1⟩
abbrev PCC_CFG.VCONNEN (n : Fin 16) : Fld := ⟨PCC_CFG.at n, 2, 1⟩
abbrev PCC_CFG.RPLVL (n : Fin 16) : Fld := ⟨PCC_CFG.at n, 0, 2⟩
abbrev PCC_TIMERS.at (n : Fin 16) : Nat := portBase n.val + 0x14
abbrev PCC_TIMERS.ERRREC (n : Fin 16) : Fld := ⟨PCC_TIMERS.at n, 17, 7⟩
abbrev PCC_TIMERS.SRCDIS (n : Fin 16) : Fld := ⟨PCC_TIMERS.at n, 12, 5⟩
abbrev PCC_TIMERS.PDDEB (n : Fin 16) : Fld := ⟨PCC_TIMERS.at n, 8, 4⟩
abbrev PCC_TIMERS.CCDEB (n : Fin 16) : Fld := ⟨PCC_TIMERS.at n, 0, 8⟩
abbrev PCC_CABLECFG.at (n : Fin 16) : Nat := portBase n.val + 0x18
abbrev PCC_CABLECFG.RCONN (n : Fin 16) : Fld := ⟨PCC_CABLECFG.at n, 16, 8⟩
abbrev PCC_CABLECFG.RGPM (n : Fin 16) : Fld := ⟨PCC_CABLECFG.at n, 8, 8⟩
abbrev PCC_CABLECFG.LPNS (n : Fin 16) : Fld := ⟨PCC_CABLECFG.at n, 0, 8⟩
abbrev PCC_CCLVL.at (n : Fin 16) : Nat := portBase n.val + 0x20
abbrev PCC_CCLVL.CC2 (n : Fin 16) : Fld := ⟨PCC_CCLVL.at n, 16, 16⟩
abbrev PCC_CCLVL.CC1 (n : Fin 16) : Fld := ⟨PCC_CCLVL.at n, 0, 16⟩
abbrev PCC_CCREF.at (n : Fin 16) : Nat := portBase n.val + 0x24
abbrev PCC_CCREF.VALID (n : Fin 16) : Fld := ⟨PCC_CCREF.at n, 18, 1⟩
abbrev PCC_CCREF.RPLVL (n : Fin 16) : Fld := ⟨PCC_CCREF.at n, 16, 2⟩
abbrev PCC_CCREF.LEVEL (n : Fin 16) : Fld := ⟨PCC_CCREF.at n, 0, 16⟩
abbrev PCC_VCONN.at (n : Fin 16) : Nat := portBase n.val + 0x28
abbrev PCC_VCONN.FAIL (n : Fin 16) : Fld := ⟨PCC_VCONN.at n, 12, 1⟩
abbrev PCC_VCONN.RES (n : Fin 16) : Fld := ⟨PCC_VCONN.at n, 10, 2⟩
abbrev PCC_VCONN.IMA (n : Fin 16) : Fld := ⟨PCC_VCONN.at n, 0, 10⟩
abbrev PCC_PROBE.at (n : Fin 16) : Nat := portBase n.val + 0x2c
abbrev PCC_PROBE.CEST (n : Fin 16) : Fld := ⟨PCC_PROBE.at n, 16, 12⟩
abbrev PCC_PROBE.RESIST (n : Fin 16) : Fld := ⟨PCC_PROBE.at n, 3, 1⟩
abbrev PCC_PROBE.CODE (n : Fin 16) : Fld := ⟨PCC_PROBE.at n, 0, 3⟩
abbrev PCC_CABLE.at (n : Fin 16) : Nat := portBase n.val + 0x30
abbrev PCC_CABLE.VCONNLOW (n : Fin 16) : Fld := ⟨PCC_CABLE.at n, 14, 1⟩
abbrev PCC_CABLE.ATTEMPTS (n : Fin 16) : Fld := ⟨PCC_CABLE.at n, 9, 5⟩
abbrev PCC_CABLE.INVALID (n : Fin 16) : Fld := ⟨PCC_CABLE.at n, 8, 1⟩
abbrev PCC_CABLE.FAR (n : Fin 16) : Fld := ⟨PCC_CABLE.at n, 7, 1⟩
abbrev PCC_CABLE.EPR (n : Fin 16) : Fld := ⟨PCC_CABLE.at n, 6, 1⟩
abbrev PCC_CABLE.VMAX (n : Fin 16) : Fld := ⟨PCC_CABLE.at n, 4, 2⟩
abbrev PCC_CABLE.IMAX (n : Fin 16) : Fld := ⟨PCC_CABLE.at n, 2, 2⟩
abbrev PCC_CABLE.KIND (n : Fin 16) : Fld := ⟨PCC_CABLE.at n, 0, 2⟩
abbrev PCC_IDHDR.at (n : Fin 16) : Nat := portBase n.val + 0x34
abbrev PCC_IDHDR.VDO (n : Fin 16) : Fld := ⟨PCC_IDHDR.at n, 0, 32⟩
abbrev PCC_CABLEVDO.at (n : Fin 16) : Nat := portBase n.val + 0x38
abbrev PCC_CABLEVDO.VDO (n : Fin 16) : Fld := ⟨PCC_CABLEVDO.at n, 0, 32⟩
abbrev PCC_FARVDO.at (n : Fin 16) : Nat := portBase n.val + 0x3c
abbrev PCC_FARVDO.VDO (n : Fin 16) : Fld := ⟨PCC_FARVDO.at n, 0, 32⟩
abbrev PCC_LENGTH.at (n : Fin 16) : Nat := portBase n.val + 0x40
abbrev PCC_LENGTH.KNOWN (n : Fin 16) : Fld := ⟨PCC_LENGTH.at n, 24, 1⟩
abbrev PCC_LENGTH.RGMAX (n : Fin 16) : Fld := ⟨PCC_LENGTH.at n, 16, 8⟩
abbrev PCC_LENGTH.LMAX (n : Fin 16) : Fld := ⟨PCC_LENGTH.at n, 8, 8⟩
abbrev PCC_LENGTH.LMIN (n : Fin 16) : Fld := ⟨PCC_LENGTH.at n, 0, 8⟩
abbrev PCC_COUNT.at (n : Fin 16) : Nat := portBase n.val + 0x44
abbrev PCC_COUNT.VCONNF (n : Fin 16) : Fld := ⟨PCC_COUNT.at n, 24, 8⟩
abbrev PCC_COUNT.CCOV (n : Fin 16) : Fld := ⟨PCC_COUNT.at n, 16, 8⟩
abbrev PCC_COUNT.ATTACHES (n : Fin 16) : Fld := ⟨PCC_COUNT.at n, 0, 16⟩

/-! ### PPD (R163) -/

abbrev PPD_STATUS.at (n : Fin 16) : Nat := portBase n.val + 0x200
abbrev PPD_STATUS.HRCOUNT (n : Fin 16) : Fld := ⟨PPD_STATUS.at n, 16, 2⟩
abbrev PPD_STATUS.BRACE (n : Fin 16) : Fld := ⟨PPD_STATUS.at n, 15, 1⟩
abbrev PPD_STATUS.INWARN (n : Fin 16) : Fld := ⟨PPD_STATUS.at n, 14, 1⟩
abbrev PPD_STATUS.KIND (n : Fin 16) : Fld := ⟨PPD_STATUS.at n, 12, 2⟩
abbrev PPD_STATUS.CONTRACT (n : Fin 16) : Fld := ⟨PPD_STATUS.at n, 10, 2⟩
abbrev PPD_STATUS.DROLE (n : Fin 16) : Fld := ⟨PPD_STATUS.at n, 9, 1⟩
abbrev PPD_STATUS.EPRMODE (n : Fin 16) : Fld := ⟨PPD_STATUS.at n, 8, 1⟩
abbrev PPD_STATUS.REV (n : Fin 16) : Fld := ⟨PPD_STATUS.at n, 6, 2⟩
abbrev PPD_STATUS.PSTATE (n : Fin 16) : Fld := ⟨PPD_STATUS.at n, 0, 5⟩
abbrev PPD_CMD.at (n : Fin 16) : Nat := portBase n.val + 0x208
abbrev PPD_CMD.EPREXIT (n : Fin 16) : Fld := ⟨PPD_CMD.at n, 4, 1⟩
abbrev PPD_CMD.DRSWAP (n : Fin 16) : Fld := ⟨PPD_CMD.at n, 3, 1⟩
abbrev PPD_CMD.SOFTRESET (n : Fin 16) : Fld := ⟨PPD_CMD.at n, 2, 1⟩
abbrev PPD_CMD.HARDRESET (n : Fin 16) : Fld := ⟨PPD_CMD.at n, 1, 1⟩
abbrev PPD_CMD.SENDCAPS (n : Fin 16) : Fld := ⟨PPD_CMD.at n, 0, 1⟩
abbrev PPD_CFG.at (n : Fin 16) : Nat := portBase n.val + 0x210
abbrev PPD_CFG.BISTEN (n : Fin 16) : Fld := ⟨PPD_CFG.at n, 3, 1⟩
abbrev PPD_CFG.ALERTGS (n : Fin 16) : Fld := ⟨PPD_CFG.at n, 2, 1⟩
abbrev PPD_CFG.REV20 (n : Fin 16) : Fld := ⟨PPD_CFG.at n, 1, 1⟩
abbrev PPD_CFG.DRACC (n : Fin 16) : Fld := ⟨PPD_CFG.at n, 0, 1⟩
abbrev PPD_TIMERS.at (n : Fin 16) : Nat := portBase n.val + 0x214
abbrev PPD_TIMERS.CAPSINT (n : Fin 16) : Fld := ⟨PPD_TIMERS.at n, 16, 8⟩
abbrev PPD_TIMERS.FIRSTCAP (n : Fin 16) : Fld := ⟨PPD_TIMERS.at n, 4, 8⟩
abbrev PPD_TIMERS.SRCTRANS (n : Fin 16) : Fld := ⟨PPD_TIMERS.at n, 0, 4⟩
abbrev PPD_WARNCFG.at (n : Fin 16) : Nat := portBase n.val + 0x218
abbrev PPD_WARNCFG.HOLD (n : Fin 16) : Fld := ⟨PPD_WARNCFG.at n, 16, 8⟩
abbrev PPD_WARNCFG.WARNPW (n : Fin 16) : Fld := ⟨PPD_WARNCFG.at n, 8, 8⟩
abbrev PPD_WARNCFG.REOFFER (n : Fin 16) : Fld := ⟨PPD_WARNCFG.at n, 1, 1⟩
abbrev PPD_WARNCFG.ALERTEN (n : Fin 16) : Fld := ⟨PPD_WARNCFG.at n, 0, 1⟩
abbrev PPD_VDMCFG.at (n : Fin 16) : Nat := portBase n.val + 0x21c
abbrev PPD_VDMCFG.DISCID (n : Fin 16) : Fld := ⟨PPD_VDMCFG.at n, 16, 1⟩
abbrev PPD_VDMCFG.VID (n : Fin 16) : Fld := ⟨PPD_VDMCFG.at n, 0, 16⟩
abbrev PPD_CONTRACT.at (n : Fin 16) : Nat := portBase n.val + 0x220
abbrev PPD_CONTRACT.RDO (n : Fin 16) : Fld := ⟨PPD_CONTRACT.at n, 0, 32⟩
abbrev PPD_CONTRACTVI.at (n : Fin 16) : Nat := portBase n.val + 0x224
abbrev PPD_CONTRACTVI.MA (n : Fin 16) : Fld := ⟨PPD_CONTRACTVI.at n, 16, 16⟩
abbrev PPD_CONTRACTVI.V10 (n : Fin 16) : Fld := ⟨PPD_CONTRACTVI.at n, 0, 16⟩
abbrev PPD_LASTREJ.at (n : Fin 16) : Nat := portBase n.val + 0x228
abbrev PPD_LASTREJ.CODE (n : Fin 16) : Fld := ⟨PPD_LASTREJ.at n, 0, 4⟩
abbrev PPD_OFFER.at (n : Fin 16) (k : Nat) : Nat := portBase n.val + 0x230 + 0x4 * k
abbrev PPD_OFFER.PDO (n : Fin 16) (k : Nat) : Fld := ⟨PPD_OFFER.at n k, 0, 32⟩
abbrev PPD_OFFERINFO.at (n : Fin 16) : Nat := portBase n.val + 0x260
abbrev PPD_OFFERINFO.TRIM (n : Fin 16) : Fld := ⟨PPD_OFFERINFO.at n, 16, 11⟩
abbrev PPD_OFFERINFO.EPRMSG (n : Fin 16) : Fld := ⟨PPD_OFFERINFO.at n, 12, 1⟩
abbrev PPD_OFFERINFO.COUNT (n : Fin 16) : Fld := ⟨PPD_OFFERINFO.at n, 0, 4⟩
abbrev PPD_PSTATUS.at (n : Fin 16) : Nat := portBase n.val + 0x270
abbrev PPD_PSTATUS.BYTES (n : Fin 16) : Fld := ⟨PPD_PSTATUS.at n, 0, 32⟩
abbrev PPD_COUNT.at (n : Fin 16) : Nat := portBase n.val + 0x280
abbrev PPD_COUNT.SOFT (n : Fin 16) : Fld := ⟨PPD_COUNT.at n, 24, 8⟩
abbrev PPD_COUNT.HARD (n : Fin 16) : Fld := ⟨PPD_COUNT.at n, 16, 8⟩
abbrev PPD_COUNT.CRCERR (n : Fin 16) : Fld := ⟨PPD_COUNT.at n, 0, 16⟩
abbrev PPD_SINKPOL0.at (n : Fin 16) : Nat := portBase n.val + 0x2b0
abbrev PPD_SINKPOL0.REVPUSH (n : Fin 16) : Fld := ⟨PPD_SINKPOL0.at n, 26, 1⟩
abbrev PPD_SINKPOL0.IMAX (n : Fin 16) : Fld := ⟨PPD_SINKPOL0.at n, 16, 10⟩
abbrev PPD_SINKPOL0.VMIN (n : Fin 16) : Fld := ⟨PPD_SINKPOL0.at n, 8, 8⟩
abbrev PPD_SINKPOL0.VREQ (n : Fin 16) : Fld := ⟨PPD_SINKPOL0.at n, 0, 8⟩
abbrev PPD_SINKPOL1.at (n : Fin 16) : Nat := portBase n.val + 0x2b4
abbrev PPD_SINKPOL1.REVPCT (n : Fin 16) : Fld := ⟨PPD_SINKPOL1.at n, 16, 7⟩
abbrev PPD_SINKPOL1.REVTGT (n : Fin 16) : Fld := ⟨PPD_SINKPOL1.at n, 0, 16⟩

/-! ### PLP (R248) -/

abbrev PLP_STATUS.at (n : Fin 16) : Nat := portBase n.val + 0x600
abbrev PLP_STATUS.NBANK (n : Fin 16) : Fld := ⟨PLP_STATUS.at n, 16, 5⟩
abbrev PLP_STATUS.COMPON (n : Fin 16) : Fld := ⟨PLP_STATUS.at n, 15, 1⟩
abbrev PLP_STATUS.CONFIRM (n : Fin 16) : Fld := ⟨PLP_STATUS.at n, 14, 1⟩
abbrev PLP_STATUS.PRE (n : Fin 16) : Fld := ⟨PLP_STATUS.at n, 13, 1⟩
abbrev PLP_STATUS.REGION (n : Fin 16) : Fld := ⟨PLP_STATUS.at n, 10, 2⟩
abbrev PLP_STATUS.RAMP (n : Fin 16) : Fld := ⟨PLP_STATUS.at n, 9, 1⟩
abbrev PLP_STATUS.SHADOW (n : Fin 16) : Fld := ⟨PLP_STATUS.at n, 8, 1⟩
abbrev PLP_STATUS.BANK (n : Fin 16) : Fld := ⟨PLP_STATUS.at n, 4, 4⟩
abbrev PLP_STATUS.CTRLI (n : Fin 16) : Fld := ⟨PLP_STATUS.at n, 3, 1⟩
abbrev PLP_STATUS.SETTLED (n : Fin 16) : Fld := ⟨PLP_STATUS.at n, 2, 1⟩
abbrev PLP_STATUS.MODE (n : Fin 16) : Fld := ⟨PLP_STATUS.at n, 0, 2⟩
abbrev PLP_CMD.at (n : Fin 16) : Nat := portBase n.val + 0x604
abbrev PLP_CMD.CLEARRC (n : Fin 16) : Fld := ⟨PLP_CMD.at n, 0, 1⟩
abbrev PLP_CFG.at (n : Fin 16) : Nat := portBase n.val + 0x608
abbrev PLP_CFG.VINMIN (n : Fin 16) : Fld := ⟨PLP_CFG.at n, 24, 5⟩
abbrev PLP_CFG.RSHUNT (n : Fin 16) : Fld := ⟨PLP_CFG.at n, 16, 8⟩
abbrev PLP_CFG.OSR (n : Fin 16) : Fld := ⟨PLP_CFG.at n, 8, 2⟩
abbrev PLP_CFG.DECIM (n : Fin 16) : Fld := ⟨PLP_CFG.at n, 4, 4⟩
abbrev PLP_CFG.SPP (n : Fin 16) : Fld := ⟨PLP_CFG.at n, 0, 2⟩
abbrev PLP_FRZCFG.at (n : Fin 16) : Nat := portBase n.val + 0x60c
abbrev PLP_FRZCFG.FRZEN (n : Fin 16) : Fld := ⟨PLP_FRZCFG.at n, 29, 1⟩
abbrev PLP_FRZCFG.OSDEN (n : Fin 16) : Fld := ⟨PLP_FRZCFG.at n, 28, 1⟩
abbrev PLP_FRZCFG.CONFW (n : Fin 16) : Fld := ⟨PLP_FRZCFG.at n, 20, 8⟩
abbrev PLP_FRZCFG.FRZMOV (n : Fin 16) : Fld := ⟨PLP_FRZCFG.at n, 12, 8⟩
abbrev PLP_FRZCFG.FRZN (n : Fin 16) : Fld := ⟨PLP_FRZCFG.at n, 4, 8⟩
abbrev PLP_FRZCFG.FRZLSB (n : Fin 16) : Fld := ⟨PLP_FRZCFG.at n, 0, 4⟩
abbrev PLP_CCOMP.at (n : Fin 16) : Nat := portBase n.val + 0x610
abbrev PLP_CCOMP.PPSEN (n : Fin 16) : Fld := ⟨PLP_CCOMP.at n, 25, 1⟩
abbrev PLP_CCOMP.EN (n : Fin 16) : Fld := ⟨PLP_CCOMP.at n, 24, 1⟩
abbrev PLP_CCOMP.IMINC (n : Fin 16) : Fld := ⟨PLP_CCOMP.at n, 16, 8⟩
abbrev PLP_CCOMP.CMAX (n : Fin 16) : Fld := ⟨PLP_CCOMP.at n, 8, 8⟩
abbrev PLP_CCOMP.CGAIN (n : Fin 16) : Fld := ⟨PLP_CCOMP.at n, 0, 8⟩
abbrev PLP_FLAGS.at (n : Fin 16) : Nat := portBase n.val + 0x614
abbrev PLP_FLAGS.SPPERR (n : Fin 16) : Fld := ⟨PLP_FLAGS.at n, 8, 1⟩
abbrev PLP_FLAGS.DECIMUP (n : Fin 16) : Fld := ⟨PLP_FLAGS.at n, 7, 1⟩
abbrev PLP_FLAGS.VINRANGE (n : Fin 16) : Fld := ⟨PLP_FLAGS.at n, 6, 1⟩
abbrev PLP_FLAGS.TRANS (n : Fin 16) : Fld := ⟨PLP_FLAGS.at n, 5, 1⟩
abbrev PLP_FLAGS.FRZI (n : Fin 16) : Fld := ⟨PLP_FLAGS.at n, 4, 1⟩
abbrev PLP_FLAGS.FRZV (n : Fin 16) : Fld := ⟨PLP_FLAGS.at n, 3, 1⟩
abbrev PLP_FLAGS.OPENIN (n : Fin 16) : Fld := ⟨PLP_FLAGS.at n, 2, 1⟩
abbrev PLP_FLAGS.OPENI (n : Fin 16) : Fld := ⟨PLP_FLAGS.at n, 1, 1⟩
abbrev PLP_FLAGS.OPENV (n : Fin 16) : Fld := ⟨PLP_FLAGS.at n, 0, 1⟩
abbrev PLP_REF.at (n : Fin 16) : Nat := portBase n.val + 0x620
abbrev PLP_REF.TARGET (n : Fin 16) : Fld := ⟨PLP_REF.at n, 16, 16⟩
abbrev PLP_REF.REF (n : Fin 16) : Fld := ⟨PLP_REF.at n, 0, 16⟩
abbrev PLP_COMP.at (n : Fin 16) : Nat := portBase n.val + 0x624
abbrev PLP_COMP.RC (n : Fin 16) : Fld := ⟨PLP_COMP.at n, 16, 16⟩
abbrev PLP_COMP.COMP (n : Fin 16) : Fld := ⟨PLP_COMP.at n, 0, 16⟩
abbrev PLP_VMEAS.at (n : Fin 16) : Nat := portBase n.val + 0x628
abbrev PLP_VMEAS.VIN (n : Fin 16) : Fld := ⟨PLP_VMEAS.at n, 16, 16⟩
abbrev PLP_VMEAS.VBUS (n : Fin 16) : Fld := ⟨PLP_VMEAS.at n, 0, 16⟩
abbrev PLP_IMEAS.at (n : Fin 16) : Nat := portBase n.val + 0x62c
abbrev PLP_IMEAS.MA (n : Fin 16) : Fld := ⟨PLP_IMEAS.at n, 0, 16⟩
abbrev PLP_MCMD.at (n : Fin 16) : Nat := portBase n.val + 0x630
abbrev PLP_MCMD.M (n : Fin 16) : Fld := ⟨PLP_MCMD.at n, 0, 24⟩
abbrev PLP_LASTGOOD.at (n : Fin 16) : Nat := portBase n.val + 0x634
abbrev PLP_LASTGOOD.M (n : Fin 16) : Fld := ⟨PLP_LASTGOOD.at n, 0, 24⟩
abbrev PLP_VG.at (n : Fin 16) : Nat := portBase n.val + 0x638
abbrev PLP_VG.VALID (n : Fin 16) : Fld := ⟨PLP_VG.at n, 17, 1⟩
abbrev PLP_VG.CLAMP (n : Fin 16) : Fld := ⟨PLP_VG.at n, 16, 1⟩
abbrev PLP_VG.VG (n : Fin 16) : Fld := ⟨PLP_VG.at n, 0, 16⟩
abbrev PLP_BANK.at (n : Fin 16) (k : Nat) (i : Nat) : Nat := portBase n.val + 0x680 + 0x38 * k + 0x4 * i
abbrev PLP_BANK.WORD (n : Fin 16) (k : Nat) (i : Nat) : Fld := ⟨PLP_BANK.at n k i, 0, 32⟩

/-! ### PEV (R272) -/

abbrev PEV_STATUS.at (n : Fin 16) : Nat := portBase n.val + 0xa00
abbrev PEV_STATUS.RATEUSED (n : Fin 16) : Fld := ⟨PEV_STATUS.at n, 16, 8⟩
abbrev PEV_STATUS.POINT (n : Fin 16) : Fld := ⟨PEV_STATUS.at n, 8, 4⟩
abbrev PEV_STATUS.CAUSE (n : Fin 16) : Fld := ⟨PEV_STATUS.at n, 4, 4⟩
abbrev PEV_STATUS.DIR (n : Fin 16) : Fld := ⟨PEV_STATUS.at n, 3, 1⟩
abbrev PEV_STATUS.STATE (n : Fin 16) : Fld := ⟨PEV_STATUS.at n, 0, 3⟩
abbrev PEV_CTRL.at (n : Fin 16) : Nat := portBase n.val + 0xa04
abbrev PEV_CTRL.REVMV (n : Fin 16) : Fld := ⟨PEV_CTRL.at n, 20, 8⟩
abbrev PEV_CTRL.REVEN (n : Fin 16) : Fld := ⟨PEV_CTRL.at n, 18, 1⟩
abbrev PEV_CTRL.COOL (n : Fin 16) : Fld := ⟨PEV_CTRL.at n, 16, 2⟩
abbrev PEV_CTRL.IINMAX (n : Fin 16) : Fld := ⟨PEV_CTRL.at n, 8, 7⟩
abbrev PEV_CTRL.RATE (n : Fin 16) : Fld := ⟨PEV_CTRL.at n, 0, 7⟩
abbrev PEV_FLAGS.at (n : Fin 16) : Nat := portBase n.val + 0xa08
abbrev PEV_FLAGS.CLIPPED (n : Fin 16) : Fld := ⟨PEV_FLAGS.at n, 9, 1⟩
abbrev PEV_FLAGS.RATELOW (n : Fin 16) : Fld := ⟨PEV_FLAGS.at n, 8, 1⟩
abbrev PEV_FLAGS.TRIP (n : Fin 16) : Fld := ⟨PEV_FLAGS.at n, 0, 8⟩
abbrev PEV_CURVE.at (n : Fin 16) : Nat := portBase n.val + 0xa0c
abbrev PEV_CURVE.IREF (n : Fin 16) : Fld := ⟨PEV_CURVE.at n, 16, 16⟩
abbrev PEV_CURVE.FASTMV (n : Fin 16) : Fld := ⟨PEV_CURVE.at n, 8, 8⟩
abbrev PEV_CURVE.TRANS (n : Fin 16) : Fld := ⟨PEV_CURVE.at n, 5, 1⟩
abbrev PEV_CURVE.VALID (n : Fin 16) : Fld := ⟨PEV_CURVE.at n, 4, 1⟩
abbrev PEV_CURVE.FUSEIDX (n : Fin 16) : Fld := ⟨PEV_CURVE.at n, 0, 4⟩
abbrev PEV_PEND.at (n : Fin 16) : Nat := portBase n.val + 0xa10
abbrev PEV_PEND.IREF (n : Fin 16) : Fld := ⟨PEV_PEND.at n, 16, 16⟩
abbrev PEV_PEND.FASTMV (n : Fin 16) : Fld := ⟨PEV_PEND.at n, 8, 8⟩
abbrev PEV_PEND.VALID (n : Fin 16) : Fld := ⟨PEV_PEND.at n, 4, 1⟩
abbrev PEV_PEND.FUSEIDX (n : Fin 16) : Fld := ⟨PEV_PEND.at n, 0, 4⟩
abbrev PEV_ACC.at (n : Fin 16) : Nat := portBase n.val + 0xa14
abbrev PEV_ACC.POINT (n : Fin 16) : Fld := ⟨PEV_ACC.at n, 8, 4⟩
abbrev PEV_ACC.FILL (n : Fin 16) : Fld := ⟨PEV_ACC.at n, 0, 8⟩
abbrev PEV_TRIPI.at (n : Fin 16) : Nat := portBase n.val + 0xa18
abbrev PEV_TRIPI.VBUS10 (n : Fin 16) : Fld := ⟨PEV_TRIPI.at n, 16, 16⟩
abbrev PEV_TRIPI.MA (n : Fin 16) : Fld := ⟨PEV_TRIPI.at n, 0, 16⟩
abbrev PEV_GATE.at (n : Fin 16) : Nat := portBase n.val + 0xa1c
abbrev PEV_GATE.V01 (n : Fin 16) : Fld := ⟨PEV_GATE.at n, 0, 8⟩
abbrev PEV_BASE.at (n : Fin 16) (k : Nat) (i : Nat) : Nat := portBase n.val + 0xa80 + 0x24 * k + 0x4 * i
abbrev PEV_BASE.WORD (n : Fin 16) (k : Nat) (i : Nat) : Fld := ⟨PEV_BASE.at n k i, 0, 32⟩

/-! ### PGT (R273) -/

abbrev PGT_STATUS.at (n : Fin 16) : Nat := portBase n.val + 0xc00
abbrev PGT_STATUS.FAULT (n : Fin 16) : Fld := ⟨PGT_STATUS.at n, 5, 1⟩
abbrev PGT_STATUS.BUDGET (n : Fin 16) : Fld := ⟨PGT_STATUS.at n, 4, 1⟩
abbrev PGT_STATUS.SAFE0 (n : Fin 16) : Fld := ⟨PGT_STATUS.at n, 3, 1⟩
abbrev PGT_STATUS.CAUSE (n : Fin 16) : Fld := ⟨PGT_STATUS.at n, 1, 2⟩
abbrev PGT_STATUS.ON (n : Fin 16) : Fld := ⟨PGT_STATUS.at n, 0, 1⟩
abbrev PGT_CFG.at (n : Fin 16) : Nat := portBase n.val + 0xc04
abbrev PGT_CFG.ASSIST (n : Fin 16) : Fld := ⟨PGT_CFG.at n, 16, 1⟩
abbrev PGT_CFG.MAXON (n : Fin 16) : Fld := ⟨PGT_CFG.at n, 8, 8⟩
abbrev PGT_CFG.GHYS (n : Fin 16) : Fld := ⟨PGT_CFG.at n, 0, 8⟩
abbrev PGT_FLAGS.at (n : Fin 16) : Nat := portBase n.val + 0xc08
abbrev PGT_FLAGS.DRVFLT (n : Fin 16) : Fld := ⟨PGT_FLAGS.at n, 2, 1⟩
abbrev PGT_FLAGS.BUDGET (n : Fin 16) : Fld := ⟨PGT_FLAGS.at n, 1, 1⟩
abbrev PGT_FLAGS.TIMEOUT (n : Fin 16) : Fld := ⟨PGT_FLAGS.at n, 0, 1⟩
abbrev PGT_TIME.at (n : Fin 16) : Nat := portBase n.val + 0xc0c
abbrev PGT_TIME.WIN (n : Fin 16) : Fld := ⟨PGT_TIME.at n, 16, 16⟩
abbrev PGT_TIME.LAST (n : Fin 16) : Fld := ⟨PGT_TIME.at n, 0, 16⟩
abbrev PGT_COUNT.at (n : Fin 16) : Nat := portBase n.val + 0xc10
abbrev PGT_COUNT.FAULTS (n : Fin 16) : Fld := ⟨PGT_COUNT.at n, 16, 8⟩
abbrev PGT_COUNT.DISCH (n : Fin 16) : Fld := ⟨PGT_COUNT.at n, 0, 16⟩

/-! ### PVL (R300) -/

abbrev PVL_STAT.at (n : Fin 16) : Nat := portBase n.val + 0xd00
abbrev PVL_STAT.RUN (n : Fin 16) : Fld := ⟨PVL_STAT.at n, 16, 1⟩
abbrev PVL_STAT.FAIL (n : Fin 16) : Fld := ⟨PVL_STAT.at n, 8, 5⟩
abbrev PVL_STAT.OUT (n : Fin 16) : Fld := ⟨PVL_STAT.at n, 0, 5⟩
abbrev PVL_THR.at (n : Fin 16) : Nat := portBase n.val + 0xd04
abbrev PVL_THR.UV (n : Fin 16) : Fld := ⟨PVL_THR.at n, 16, 10⟩
abbrev PVL_THR.OV (n : Fin 16) : Fld := ⟨PVL_THR.at n, 0, 10⟩
abbrev PVL_STCNT.at (n : Fin 16) : Nat := portBase n.val + 0xd08
abbrev PVL_STCNT.FAILS (n : Fin 16) : Fld := ⟨PVL_STCNT.at n, 16, 8⟩
abbrev PVL_STCNT.PASSES (n : Fin 16) : Fld := ⟨PVL_STCNT.at n, 0, 16⟩
abbrev PVL_OVCFG.at (n : Fin 16) : Nat := portBase n.val + 0xd10
abbrev PVL_OVCFG.OVABS (n : Fin 16) : Fld := ⟨PVL_OVCFG.at n, 16, 10⟩
abbrev PVL_OVCFG.OVMIN (n : Fin 16) : Fld := ⟨PVL_OVCFG.at n, 8, 8⟩
abbrev PVL_OVCFG.OVPCT (n : Fin 16) : Fld := ⟨PVL_OVCFG.at n, 0, 8⟩
abbrev PVL_UVCFG.at (n : Fin 16) : Nat := portBase n.val + 0xd14
abbrev PVL_UVCFG.UVEN (n : Fin 16) : Fld := ⟨PVL_UVCFG.at n, 16, 1⟩
abbrev PVL_UVCFG.UVMIN (n : Fin 16) : Fld := ⟨PVL_UVCFG.at n, 8, 8⟩
abbrev PVL_UVCFG.UVPCT (n : Fin 16) : Fld := ⟨PVL_UVCFG.at n, 0, 8⟩
abbrev PVL_FICFG.at (n : Fin 16) : Nat := portBase n.val + 0xd18
abbrev PVL_FICFG.FIEN (n : Fin 16) : Fld := ⟨PVL_FICFG.at n, 8, 1⟩
abbrev PVL_FICFG.FIPCT (n : Fin 16) : Fld := ⟨PVL_FICFG.at n, 0, 8⟩
abbrev PVL_SWCFG.at (n : Fin 16) : Nat := portBase n.val + 0xd1c
abbrev PVL_SWCFG.SWBREF (n : Fin 16) : Fld := ⟨PVL_SWCFG.at n, 16, 2⟩
abbrev PVL_SWCFG.SWLO (n : Fin 16) : Fld := ⟨PVL_SWCFG.at n, 8, 6⟩
abbrev PVL_SWCFG.SWHI (n : Fin 16) : Fld := ⟨PVL_SWCFG.at n, 0, 6⟩
abbrev PVL_FILT.at (n : Fin 16) : Nat := portBase n.val + 0xd20
abbrev PVL_FILT.FI (n : Fin 16) : Fld := ⟨PVL_FILT.at n, 8, 3⟩
abbrev PVL_FILT.UV (n : Fin 16) : Fld := ⟨PVL_FILT.at n, 4, 3⟩
abbrev PVL_FILT.OV (n : Fin 16) : Fld := ⟨PVL_FILT.at n, 0, 3⟩
abbrev PVL_STCFG.at (n : Fin 16) : Nat := portBase n.val + 0xd24
abbrev PVL_STCFG.STPER (n : Fin 16) : Fld := ⟨PVL_STCFG.at n, 4, 2⟩
abbrev PVL_STCFG.STEN (n : Fin 16) : Fld := ⟨PVL_STCFG.at n, 0, 1⟩

/-! ### RAF (R222) -/

abbrev RAF_STAT.at (s : Fin 48) : Nat := sliceBase s.val + 0x0
abbrev RAF_STAT.DLFAIL (s : Fin 48) : Fld := ⟨RAF_STAT.at s, 22, 1⟩
abbrev RAF_STAT.PHSLEW (s : Fin 48) : Fld := ⟨RAF_STAT.at s, 21, 1⟩
abbrev RAF_STAT.DITHOFF (s : Fin 48) : Fld := ⟨RAF_STAT.at s, 20, 1⟩
abbrev RAF_STAT.NOLOCK (s : Fin 48) : Fld := ⟨RAF_STAT.at s, 19, 1⟩
abbrev RAF_STAT.ADTNOSIG (s : Fin 48) : Fld := ⟨RAF_STAT.at s, 18, 1⟩
abbrev RAF_STAT.ADTLIMF (s : Fin 48) : Fld := ⟨RAF_STAT.at s, 17, 1⟩
abbrev RAF_STAT.ADTLIMR (s : Fin 48) : Fld := ⟨RAF_STAT.at s, 16, 1⟩
abbrev RAF_STAT.PORT (s : Fin 48) : Fld := ⟨RAF_STAT.at s, 8, 5⟩
abbrev RAF_STAT.LEG (s : Fin 48) : Fld := ⟨RAF_STAT.at s, 4, 2⟩
abbrev RAF_STAT.LEAD (s : Fin 48) : Fld := ⟨RAF_STAT.at s, 3, 1⟩
abbrev RAF_STAT.TRIPPED (s : Fin 48) : Fld := ⟨RAF_STAT.at s, 2, 1⟩
abbrev RAF_STAT.LENT (s : Fin 48) : Fld := ⟨RAF_STAT.at s, 1, 1⟩
abbrev RAF_STAT.RUN (s : Fin 48) : Fld := ⟨RAF_STAT.at s, 0, 1⟩
abbrev RAF_CTRL.at (s : Fin 48) : Nat := sliceBase s.val + 0x4
abbrev RAF_CTRL.TRIPSEL (s : Fin 48) : Fld := ⟨RAF_CTRL.at s, 16, 2⟩
abbrev RAF_CTRL.TRIPACT (s : Fin 48) : Fld := ⟨RAF_CTRL.at s, 12, 1⟩
abbrev RAF_CTRL.SNSEL (s : Fin 48) : Fld := ⟨RAF_CTRL.at s, 10, 2⟩
abbrev RAF_CTRL.POLB (s : Fin 48) : Fld := ⟨RAF_CTRL.at s, 9, 1⟩
abbrev RAF_CTRL.POLA (s : Fin 48) : Fld := ⟨RAF_CTRL.at s, 8, 1⟩
abbrev RAF_CTRL.DBGEAVE (s : Fin 48) : Fld := ⟨RAF_CTRL.at s, 6, 1⟩
abbrev RAF_CTRL.INTLV (s : Fin 48) : Fld := ⟨RAF_CTRL.at s, 5, 1⟩
abbrev RAF_CTRL.UPDHALF (s : Fin 48) : Fld := ⟨RAF_CTRL.at s, 4, 1⟩
abbrev RAF_CTRL.UPDN (s : Fin 48) : Fld := ⟨RAF_CTRL.at s, 0, 4⟩
abbrev RAF_CMD.at (s : Fin 48) : Nat := sliceBase s.val + 0x8
abbrev RAF_CMD.KEY (s : Fin 48) : Fld := ⟨RAF_CMD.at s, 24, 8⟩
abbrev RAF_CMD.DISABLE (s : Fin 48) : Fld := ⟨RAF_CMD.at s, 0, 1⟩
abbrev RAF_PERIOD.at (s : Fin 48) : Nat := sliceBase s.val + 0xc
abbrev RAF_PERIOD.PRDF (s : Fin 48) : Fld := ⟨RAF_PERIOD.at s, 16, 5⟩
abbrev RAF_PERIOD.PRD (s : Fin 48) : Fld := ⟨RAF_PERIOD.at s, 0, 16⟩
abbrev RAF_PHASE.at (s : Fin 48) : Nat := sliceBase s.val + 0x10
abbrev RAF_PHASE.PHASE (s : Fin 48) : Fld := ⟨RAF_PHASE.at s, 0, 16⟩
abbrev RAF_DITHER.at (s : Fin 48) : Nat := sliceBase s.val + 0x14
abbrev RAF_DITHER.SEED (s : Fin 48) : Fld := ⟨RAF_DITHER.at s, 16, 16⟩
abbrev RAF_DITHER.DITHER (s : Fin 48) : Fld := ⟨RAF_DITHER.at s, 0, 5⟩
abbrev RAF_DUTY.at (s : Fin 48) : Nat := sliceBase s.val + 0x18
abbrev RAF_DUTY.DUTY (s : Fin 48) : Fld := ⟨RAF_DUTY.at s, 0, 17⟩
abbrev RAF_DLIM.at (s : Fin 48) : Nat := sliceBase s.val + 0x1c
abbrev RAF_DLIM.DMAX (s : Fin 48) : Fld := ⟨RAF_DLIM.at s, 16, 11⟩
abbrev RAF_DLIM.DMIN (s : Fin 48) : Fld := ⟨RAF_DLIM.at s, 0, 11⟩
abbrev RAF_DTRISE.at (s : Fin 48) : Nat := sliceBase s.val + 0x20
abbrev RAF_DTRISE.FINE (s : Fin 48) : Fld := ⟨RAF_DTRISE.at s, 8, 5⟩
abbrev RAF_DTRISE.COARSE (s : Fin 48) : Fld := ⟨RAF_DTRISE.at s, 0, 8⟩
abbrev RAF_DTFALL.at (s : Fin 48) : Nat := sliceBase s.val + 0x24
abbrev RAF_DTFALL.FINE (s : Fin 48) : Fld := ⟨RAF_DTFALL.at s, 8, 5⟩
abbrev RAF_DTFALL.COARSE (s : Fin 48) : Fld := ⟨RAF_DTFALL.at s, 0, 8⟩
abbrev RAF_ADTCFG.at (s : Fin 48) : Nat := sliceBase s.val + 0x28
abbrev RAF_ADTCFG.FSPAN (s : Fin 48) : Fld := ⟨RAF_ADTCFG.at s, 24, 8⟩
abbrev RAF_ADTCFG.RSPAN (s : Fin 48) : Fld := ⟨RAF_ADTCFG.at s, 16, 8⟩
abbrev RAF_ADTCFG.MARGIN (s : Fin 48) : Fld := ⟨RAF_ADTCFG.at s, 8, 5⟩
abbrev RAF_ADTCFG.FADT (s : Fin 48) : Fld := ⟨RAF_ADTCFG.at s, 1, 1⟩
abbrev RAF_ADTCFG.RADT (s : Fin 48) : Fld := ⟨RAF_ADTCFG.at s, 0, 1⟩
abbrev RAF_DTNOW.at (s : Fin 48) : Nat := sliceBase s.val + 0x2c
abbrev RAF_DTNOW.FALL (s : Fin 48) : Fld := ⟨RAF_DTNOW.at s, 16, 13⟩
abbrev RAF_DTNOW.RISE (s : Fin 48) : Fld := ⟨RAF_DTNOW.at s, 0, 13⟩
abbrev RAF_BLANK.at (s : Fin 48) : Nat := sliceBase s.val + 0x30
abbrev RAF_BLANK.BLANK (s : Fin 48) : Fld := ⟨RAF_BLANK.at s, 0, 10⟩
abbrev RAF_EVCFG.at (s : Fin 48) : Nat := sliceBase s.val + 0x34
abbrev RAF_EVCFG.PRESC (s : Fin 48) : Fld := ⟨RAF_EVCFG.at s, 8, 4⟩
abbrev RAF_EVCFG.EVEN (s : Fin 48) : Fld := ⟨RAF_EVCFG.at s, 0, 6⟩
abbrev RAF_IFLG.at (s : Fin 48) : Nat := sliceBase s.val + 0x38
abbrev RAF_IFLG.CFGERR (s : Fin 48) : Fld := ⟨RAF_IFLG.at s, 8, 1⟩
abbrev RAF_IFLG.SWALLOW (s : Fin 48) : Fld := ⟨RAF_IFLG.at s, 7, 1⟩
abbrev RAF_IFLG.TRIP (s : Fin 48) : Fld := ⟨RAF_IFLG.at s, 6, 1⟩
abbrev RAF_IFLG.CMP (s : Fin 48) : Fld := ⟨RAF_IFLG.at s, 2, 4⟩
abbrev RAF_IFLG.PRD (s : Fin 48) : Fld := ⟨RAF_IFLG.at s, 1, 1⟩
abbrev RAF_IFLG.ZERO (s : Fin 48) : Fld := ⟨RAF_IFLG.at s, 0, 1⟩
abbrev RAF_CNT.at (s : Fin 48) : Nat := sliceBase s.val + 0x3c
abbrev RAF_CNT.DIR (s : Fin 48) : Fld := ⟨RAF_CNT.at s, 16, 1⟩
abbrev RAF_CNT.COUNT (s : Fin 48) : Fld := ⟨RAF_CNT.at s, 0, 16⟩
abbrev RAF_CMP.at (s : Fin 48) (k : Nat) : Nat := sliceBase s.val + 0x40 + 0x4 * k
abbrev RAF_CMP.DIR (s : Fin 48) (k : Nat) : Fld := ⟨RAF_CMP.at s k, 16, 2⟩
abbrev RAF_CMP.VALUE (s : Fin 48) (k : Nat) : Fld := ⟨RAF_CMP.at s k, 0, 16⟩
abbrev RAF_TRIPCNT.at (s : Fin 48) : Nat := sliceBase s.val + 0x50
abbrev RAF_TRIPCNT.SWALLOWS (s : Fin 48) : Fld := ⟨RAF_TRIPCNT.at s, 16, 16⟩
abbrev RAF_TRIPCNT.TRIPS (s : Fin 48) : Fld := ⟨RAF_TRIPCNT.at s, 0, 16⟩

/-! ### Descriptor rows -/

/-- Descriptor rows of block GLB (R22, R63, R494). -/
def glbRows : List RegRow := [
  /- GLB_PARTID -/ ⟨0x0, 1, 0x4, 1, 0x4, .ro, .free, 0x0, 0x0, 0x4c4e1000, []⟩,
  /- GLB_SIREV -/ ⟨0x4, 1, 0x4, 1, 0x4, .ro, .free, 0x0, 0x0, 0x4101, []⟩,
  /- GLB_PORTMASK -/ ⟨0x8, 1, 0x4, 1, 0x4, .ro, .free, 0x0, 0x0, 0xffff, []⟩,
  /- GLB_SLICEMASK0 -/ ⟨0xc, 1, 0x4, 1, 0x4, .ro, .free, 0x0, 0x0, 0xffffffff, []⟩,
  /- GLB_SLICEMASK1 -/ ⟨0x10, 1, 0x4, 1, 0x4, .ro, .free, 0x0, 0x0, 0xffff, []⟩,
  /- GLB_SERIAL0 -/ ⟨0x14, 1, 0x4, 1, 0x4, .ro, .free, 0x0, 0x0, 0x0, []⟩,
  /- GLB_SERIAL1 -/ ⟨0x18, 1, 0x4, 1, 0x4, .ro, .free, 0x0, 0x0, 0x0, []⟩,
  /- GLB_SERIAL2 -/ ⟨0x1c, 1, 0x4, 1, 0x4, .ro, .free, 0x0, 0x0, 0x0, []⟩,
  /- GLB_BOOTSTAT -/ ⟨0x40, 1, 0x4, 1, 0x4, .ro, .free, 0x0, 0x0, 0x0, []⟩,
  /- GLB_BOOTCTL -/ ⟨0x44, 1, 0x4, 1, 0x4, .rw, .configure, 0x3, 0x0, 0x0, []⟩,
  /- GLB_RESET -/ ⟨0x48, 1, 0x4, 1, 0x4, .wo, .configure, 0xff000003, 0x0, 0x0, []⟩,
  /- GLB_PORTGO -/ ⟨0x4c, 1, 0x4, 1, 0x4, .wo, .configure, 0x1, 0x0, 0x0, []⟩,
  /- GLB_SUPSTAT -/ ⟨0x50, 1, 0x4, 1, 0x4, .ro, .free, 0x0, 0x0, 0x0, []⟩,
  /- GLB_SUPCFG -/ ⟨0x54, 1, 0x4, 1, 0x4, .rw, .configure, 0xf, 0x0, 0x1, []⟩,
  /- GLB_CLKSTAT -/ ⟨0x80, 1, 0x4, 1, 0x4, .ro, .free, 0x0, 0x0, 0x0, []⟩,
  /- GLB_SPREAD -/ ⟨0x84, 1, 0x4, 1, 0x4, .ro, .free, 0x0, 0x0, 0x0, []⟩,
  /- GLB_ISLPWR -/ ⟨0x88, 1, 0x4, 1, 0x4, .ro, .free, 0x0, 0x0, 0x0, []⟩,
  /- GLB_ISLHALT -/ ⟨0x8c, 1, 0x4, 1, 0x4, .ro, .free, 0x0, 0x0, 0x0, []⟩,
  /- GLB_PLLSTAT -/ ⟨0x90, 1, 0x4, 1, 0x4, .ro, .free, 0x0, 0x0, 0x0, []⟩,
  /- GLB_DCOFLG -/ ⟨0x94, 1, 0x4, 1, 0x4, .w1c, .operate, 0x0, 0x801fffff, 0x0, []⟩]

/-- Descriptor rows of block SOF (R64, R409). -/
def sofRows : List RegRow := [
  /- SOF_RESET_CAUSE -/ ⟨0x0, 1, 0x4, 1, 0x4, .w1c, .operate, 0x0, 0x80000000, 0x0, []⟩,
  /- SOF_RESET_LAST -/ ⟨0x4, 1, 0x4, 1, 0x4, .ro, .free, 0x0, 0x0, 0x0, []⟩,
  /- SOF_RESET_TIME -/ ⟨0x8, 1, 0x4, 1, 0x4, .ro, .free, 0x0, 0x0, 0x0, []⟩,
  /- SOF_DBSTAT -/ ⟨0x10, 1, 0x4, 1, 0x4, .ro, .free, 0x0, 0x0, 0x0, []⟩,
  /- SOF_SVCCTL -/ ⟨0x14, 1, 0x4, 1, 0x4, .rw, .configure, 0x1, 0x0, 0x0, []⟩,
  /- SOF_WAKE_CFG -/ ⟨0x20, 1, 0x4, 1, 0x4, .rw, .configure, 0xf, 0x0, 0x1, []⟩,
  /- SOF_WAKE_STAT -/ ⟨0x24, 1, 0x4, 1, 0x4, .w1c, .operate, 0x0, 0xf, 0x0, []⟩,
  /- SOF_TIME_SUB -/ ⟨0x100, 1, 0x4, 1, 0x4, .ro, .free, 0x0, 0x0, 0x0, []⟩,
  /- SOF_TIME_SEC -/ ⟨0x104, 1, 0x4, 1, 0x4, .ro, .free, 0x0, 0x0, 0x0, []⟩,
  /- SOF_TIME_USEC -/ ⟨0x108, 1, 0x4, 1, 0x4, .ro, .free, 0x0, 0x0, 0x0, []⟩,
  /- SOF_TIME_STAT -/ ⟨0x10c, 1, 0x4, 1, 0x4, .ro, .free, 0x0, 0x0, 0x0, []⟩,
  /- SOF_TIME_SET -/ ⟨0x110, 1, 0x4, 1, 0x4, .wo, .configure, 0xffffffff, 0x0, 0x0, []⟩,
  /- SOF_RTCCFG -/ ⟨0x114, 1, 0x4, 1, 0x4, .rws, .configure, 0xffff0001, 0x0, 0x0, []⟩,
  /- SOF_ALARM -/ ⟨0x118, 1, 0x4, 1, 0x4, .rw, .operate, 0xffffffff, 0x0, 0x0, []⟩,
  /- SOF_ALARMCTL -/ ⟨0x11c, 1, 0x4, 1, 0x4, .rw, .operate, 0x1, 0x6, 0x0, []⟩]

/-- Descriptor rows of block OTP (R432). -/
def otpRows : List RegRow := [
  /- OTP_STAT -/ ⟨0x0, 1, 0x4, 1, 0x4, .ro, .free, 0x0, 0x0, 0x0, []⟩,
  /- OTP_CTRL -/ ⟨0x4, 1, 0x4, 1, 0x4, .rw, .configure, 0x1, 0x0, 0x0, []⟩,
  /- OTP_CMD -/ ⟨0x8, 1, 0x4, 1, 0x4, .wo, .configure, 0xff07b1ff, 0x0, 0x0, []⟩,
  /- OTP_RESULT -/ ⟨0xc, 1, 0x4, 1, 0x4, .ro, .free, 0x0, 0x0, 0x0, []⟩,
  /- OTP_CTR -/ ⟨0x10, 1, 0x4, 1, 0x4, .ro, .free, 0x0, 0x0, 0x0, []⟩,
  /- OTP_MARG -/ ⟨0x14, 1, 0x4, 1, 0x4, .ro, .free, 0x0, 0x0, 0x0, []⟩,
  /- OTP_SCRUB -/ ⟨0x18, 1, 0x4, 1, 0x4, .ro, .free, 0x0, 0x0, 0x0, []⟩,
  /- OTP_TRIMFB -/ ⟨0x1c, 1, 0x4, 1, 0x4, .ro, .free, 0x0, 0x0, 0x0, []⟩,
  /- OTP_SHADDR -/ ⟨0x20, 1, 0x4, 1, 0x4, .rw, .configure, 0x1ff, 0x0, 0x0, []⟩,
  /- OTP_SHDATA0 -/ ⟨0x24, 1, 0x4, 1, 0x4, .rw, .configure, 0xffffffff, 0x0, 0x0, []⟩,
  /- OTP_SHDATA1 -/ ⟨0x28, 1, 0x4, 1, 0x4, .rw, .configure, 0xffffffff, 0x0, 0x0, []⟩,
  /- OTP_FUSE0 -/ ⟨0x2c, 1, 0x4, 1, 0x4, .ro, .free, 0x0, 0x0, 0x0, []⟩,
  /- OTP_FUSE1 -/ ⟨0x30, 1, 0x4, 1, 0x4, .ro, .free, 0x0, 0x0, 0x0, []⟩,
  /- OTP_WSTAT -/ ⟨0x100, 64, 0x4, 1, 0x4, .ro, .free, 0x0, 0x0, 0x0, []⟩,
  /- OTP_OVRMASK -/ ⟨0x200, 16, 0x4, 1, 0x4, .ro, .free, 0x0, 0x0, 0x0, []⟩]

/-- Descriptor rows of block RDG (R190). -/
def rdgRows : List RegRow := [
  /- RDG_STAT -/ ⟨0x0, 1, 0x4, 1, 0x4, .ro, .free, 0x0, 0x0, 0x0, []⟩,
  /- RDG_CFG -/ ⟨0x4, 1, 0x4, 1, 0x4, .rws, .configure, 0x3, 0x0, 0x3, []⟩,
  /- RDG_CMD -/ ⟨0x8, 1, 0x4, 1, 0x4, .wo, .configure, 0xff0003ff, 0x0, 0x0, []⟩,
  /- RDG_SLOTS -/ ⟨0xc, 1, 0x4, 1, 0x4, .ro, .free, 0x0, 0x0, 0x0, []⟩,
  /- RDG_CNT0 -/ ⟨0x10, 1, 0x4, 1, 0x4, .ro, .free, 0x0, 0x0, 0x0, []⟩,
  /- RDG_CNT1 -/ ⟨0x14, 1, 0x4, 1, 0x4, .ro, .free, 0x0, 0x0, 0x0, []⟩,
  /- RDG_PORTOCC -/ ⟨0x20, 4, 0x4, 1, 0x4, .ro, .free, 0x0, 0x0, 0x0, []⟩,
  /- RDG_PRED -/ ⟨0x40, 16, 0x4, 1, 0x4, .ro, .free, 0x0, 0x0, 0x0, []⟩,
  /- RDG_REOFFER -/ ⟨0x80, 1, 0x4, 1, 0x4, .ro, .free, 0x0, 0x0, 0x0, []⟩,
  /- RDG_TENT -/ ⟨0x400, 16, 0x10, 4, 0x4, .ro, .free, 0x0, 0x0, 0x0, []⟩,
  /- RDG_WIN -/ ⟨0x800, 512, 0x4, 1, 0x4, .ro, .free, 0x0, 0x0, 0x0, []⟩]

/-- Descriptor rows of block TRS (R191). -/
def trsRows : List RegRow := [
  /- TRS_BUDGET -/ ⟨0x0, 1, 0x4, 1, 0x4, .rw, .operate, 0xffff, 0x0, 0x0, []⟩,
  /- TRS_EFF -/ ⟨0x4, 1, 0x4, 1, 0x4, .ro, .free, 0x0, 0x0, 0x0, []⟩,
  /- TRS_FLOORSUM -/ ⟨0x8, 1, 0x4, 1, 0x4, .ro, .free, 0x0, 0x0, 0x0, []⟩,
  /- TRS_ALLOCSUM -/ ⟨0xc, 1, 0x4, 1, 0x4, .ro, .free, 0x0, 0x0, 0x0, []⟩,
  /- TRS_HELD -/ ⟨0x10, 1, 0x4, 1, 0x4, .ro, .free, 0x0, 0x0, 0x0, []⟩,
  /- TRS_FREE -/ ⟨0x14, 1, 0x4, 1, 0x4, .ro, .free, 0x0, 0x0, 0x0, []⟩,
  /- TRS_STAT -/ ⟨0x18, 1, 0x4, 1, 0x4, .ro, .free, 0x0, 0x0, 0x0, []⟩,
  /- TRS_SHARE -/ ⟨0x20, 1, 0x4, 1, 0x4, .ro, .free, 0x0, 0x0, 0x0, []⟩,
  /- TRS_DEMAND -/ ⟨0x24, 1, 0x4, 1, 0x4, .ro, .free, 0x0, 0x0, 0x0, []⟩,
  /- TRS_ALLOC -/ ⟨0x40, 16, 0x4, 1, 0x4, .ro, .free, 0x0, 0x0, 0x0, []⟩,
  /- TRS_HOLD -/ ⟨0x80, 16, 0x4, 1, 0x4, .ro, .free, 0x0, 0x0, 0x0, []⟩,
  /- TRS_AVAIL -/ ⟨0xc0, 16, 0x4, 1, 0x4, .ro, .free, 0x0, 0x0, 0x0, []⟩]

/-- Descriptor rows of block BAT (R301). -/
def batRows : List RegRow := [
  /- BAT_STAT -/ ⟨0x0, 1, 0x4, 1, 0x4, .ro, .free, 0x0, 0x0, 0x0, []⟩,
  /- BAT_CMD -/ ⟨0x4, 1, 0x4, 1, 0x4, .wo, .operate, 0xffff1fff, 0x0, 0x0, []⟩,
  /- BAT_QSTAT -/ ⟨0x8, 1, 0x4, 1, 0x4, .ro, .free, 0x0, 0x0, 0x0, []⟩,
  /- BAT_QLOST -/ ⟨0xc, 1, 0x4, 1, 0x4, .ro, .free, 0x0, 0x0, 0x0, []⟩,
  /- BAT_QPOP -/ ⟨0x10, 4, 0x4, 1, 0x4, .ro, .free, 0x0, 0x0, 0xffffffff, []⟩,
  /- BAT_IRQEN -/ ⟨0x20, 1, 0x4, 1, 0x4, .rw, .operate, 0xffffffff, 0x0, 0x1ffffff, []⟩,
  /- BAT_IRQSTAT -/ ⟨0x24, 1, 0x4, 1, 0x4, .w1c, .operate, 0x0, 0xffffffff, 0x0, []⟩,
  /- BAT_TRSCUT -/ ⟨0x28, 1, 0x4, 1, 0x4, .rw, .configure, 0xffff, 0x0, 0xffff, []⟩,
  /- BAT_CNT -/ ⟨0x30, 4, 0x4, 1, 0x4, .ro, .free, 0x0, 0x0, 0x0, []⟩,
  /- BAT_TSCAP0 -/ ⟨0x40, 4, 0x8, 1, 0x8, .ro, .free, 0x0, 0x0, 0x0, []⟩,
  /- BAT_TSCAP1 -/ ⟨0x44, 4, 0x8, 1, 0x8, .ro, .free, 0x0, 0x0, 0x0, []⟩,
  /- BAT_RT -/ ⟨0x1000, 320, 0x10, 4, 0x4, .ro, .free, 0x0, 0x0, 0x0, []⟩,
  /- BAT_TALLY0 -/ ⟨0x2400, 144, 0x8, 1, 0x8, .rw, .configure, 0xffff00ff, 0x0, 0x0, []⟩,
  /- BAT_TALLY1 -/ ⟨0x2404, 144, 0x8, 1, 0x8, .ro, .free, 0x0, 0x0, 0x0, []⟩]

/-- Descriptor rows of block HST (R381). -/
def hstRows : List RegRow := [
  /- HST_STAT -/ ⟨0x0, 1, 0x4, 1, 0x4, .w1c, .operate, 0x0, 0x3f, 0x0, []⟩,
  /- HST_CFG -/ ⟨0x4, 1, 0x4, 1, 0x4, .rws, .configure, 0x1f, 0x0, 0x13, []⟩,
  /- HST_AUTH -/ ⟨0x8, 1, 0x4, 1, 0x4, .ro, .free, 0x0, 0x0, 0x18223, []⟩,
  /- HST_CEIL -/ ⟨0xc, 1, 0x4, 1, 0x4, .ro, .free, 0x0, 0x0, 0x1018333, []⟩,
  /- HST_LASTERR -/ ⟨0x10, 1, 0x4, 1, 0x4, .ro, .free, 0x0, 0x0, 0x0, []⟩,
  /- HST_I2CADDR -/ ⟨0x14, 1, 0x4, 1, 0x4, .ro, .free, 0x0, 0x0, 0x0, []⟩,
  /- HST_CNT0 -/ ⟨0x18, 1, 0x4, 1, 0x4, .ro, .free, 0x0, 0x0, 0x0, []⟩,
  /- HST_CMD -/ ⟨0x1c, 1, 0x4, 1, 0x4, .wo, .operate, 0xff000001, 0x0, 0x0, []⟩,
  /- HST_CNT1 -/ ⟨0x20, 1, 0x4, 1, 0x4, .ro, .free, 0x0, 0x0, 0x0, []⟩,
  /- HST_CANCTL -/ ⟨0x30, 1, 0x4, 1, 0x4, .rws, .configure, 0x1f, 0x0, 0x4, []⟩,
  /- HST_CANID -/ ⟨0x34, 1, 0x4, 1, 0x4, .rws, .configure, 0x1fffffff, 0x0, 0x300, []⟩,
  /- HST_CANBT -/ ⟨0x38, 1, 0x4, 1, 0x4, .rws, .configure, 0x7f7fff1f, 0x0, 0xf0f3e00, [⟨16, 7, 1, 127⟩, ⟨8, 8, 1, 255⟩]⟩,
  /- HST_CANDBT -/ ⟨0x3c, 1, 0x4, 1, 0x4, .rws, .configure, 0x8f0f1f1f, 0x0, 0x83030a00, []⟩,
  /- HST_CANWAKE -/ ⟨0x40, 1, 0x4, 1, 0x4, .rws, .configure, 0x1fffffff, 0x0, 0x0, []⟩,
  /- HST_CANWMASK -/ ⟨0x44, 1, 0x4, 1, 0x4, .rws, .configure, 0x1fffffff, 0x0, 0x1fffffff, []⟩,
  /- HST_CANSTAT -/ ⟨0x48, 1, 0x4, 1, 0x4, .ro, .free, 0x0, 0x0, 0x30000, []⟩,
  /- HST_GEN -/ ⟨0x80, 16, 0x4, 1, 0x4, .ro, .free, 0x0, 0x0, 0x1, []⟩]

/-- Descriptor rows of block JTL (R337). -/
def jtlRowsPart0 : List RegRow := [
  /- JTL_STAT -/ ⟨0x0, 1, 0x4, 1, 0x4, .ro, .free, 0x0, 0x0, 0x0, []⟩,
  /- JTL_CFG -/ ⟨0x4, 1, 0x4, 1, 0x4, .rws, .configure, 0xffff, 0x0, 0x1f80, [⟨8, 4, 1, 15⟩]⟩,
  /- JTL_CMD -/ ⟨0x8, 1, 0x4, 1, 0x4, .wo, .operate, 0xff00003f, 0x0, 0x0, []⟩,
  /- JTL_CHAINBUDGET -/ ⟨0xc, 1, 0x4, 1, 0x4, .rw, .operate, 0xffff, 0x0, 0x0, []⟩,
  /- JTL_IDXNUM -/ ⟨0x10, 1, 0x4, 1, 0x4, .ro, .free, 0x0, 0x0, 0x0, []⟩,
  /- JTL_LEADER -/ ⟨0x14, 3, 0x4, 1, 0x4, .ro, .free, 0x0, 0x0, 0x0, []⟩,
  /- JTL_LEADERW -/ ⟨0x20, 1, 0x4, 1, 0x4, .ro, .free, 0x0, 0x0, 0x0, []⟩,
  /- JTL_LINK -/ ⟨0x24, 2, 0x4, 1, 0x4, .ro, .free, 0x0, 0x0, 0x0, []⟩,
  /- JTL_HOPDLY -/ ⟨0x2c, 1, 0x4, 1, 0x4, .ro, .free, 0x0, 0x0, 0x0, []⟩,
  /- JTL_SLIP -/ ⟨0x30, 1, 0x4, 1, 0x4, .ro, .free, 0x0, 0x0, 0x0, []⟩,
  /- JTL_CNT -/ ⟨0x34, 1, 0x4, 1, 0x4, .ro, .free, 0x0, 0x0, 0x0, []⟩,
  /- JTL_SWCFG -/ ⟨0x38, 1, 0x4, 1, 0x4, .rws, .configure, 0xffff0003, 0x0, 0xffff0000, [⟨0, 2, 0, 2⟩]⟩,
  /- JTL_SWSTAT -/ ⟨0x3c, 1, 0x4, 1, 0x4, .ro, .free, 0x0, 0x0, 0x0, []⟩,
  /- JTL_SWNODE -/ ⟨0x40, 1, 0x4, 1, 0x4, .ro, .free, 0x0, 0x0, 0x0, []⟩,
  /- JTL_SWDEV -/ ⟨0x44, 1, 0x4, 1, 0x4, .ro, .free, 0x0, 0x0, 0x0, []⟩,
  /- JTL_EVCFG -/ ⟨0x48, 1, 0x4, 1, 0x4, .rws, .configure, 0xffffffff, 0x0, 0x0, []⟩,
  /- JTL_EVRX -/ ⟨0x50, 4, 0x4, 1, 0x4, .ro, .free, 0x0, 0x0, 0x0, []⟩,
  /- JTL_SHARETAB -/ ⟨0x80, 16, 0x4, 1, 0x4, .ro, .free, 0x0, 0x0, 0x0, []⟩,
  /- JTL_NODE -/ ⟨0x100, 16, 0x10, 4, 0x4, .ro, .free, 0x0, 0x0, 0x0, []⟩,
  /- JTL_SWRES -/ ⟨0x200, 16, 0x4, 1, 0x4, .ro, .free, 0x0, 0x0, 0x0, []⟩]
/-- Part 1 of that table. -/
def jtlRowsPart1 : List RegRow := [
  /- JTL_SWTAB -/ ⟨0x400, 16, 0x40, 16, 0x4, .ro, .free, 0x0, 0x0, 0x0, []⟩]
/-- The whole table. -/
def jtlRows : List RegRow := jtlRowsPart0 ++ jtlRowsPart1

/-- Descriptor rows of block UPD (R472). -/
def updRows : List RegRow := [
  /- UPD_STAT -/ ⟨0x0, 1, 0x4, 1, 0x4, .ro, .free, 0x0, 0x0, 0x12000, []⟩,
  /- UPD_CMD -/ ⟨0x4, 1, 0x4, 1, 0x4, .wo, .configure, 0xff00030f, 0x0, 0x0, []⟩,
  /- UPD_RESULT -/ ⟨0x8, 1, 0x4, 1, 0x4, .ro, .free, 0x0, 0x0, 0x0, []⟩,
  /- UPD_NEXT -/ ⟨0x10, 1, 0x4, 1, 0x4, .ro, .free, 0x0, 0x0, 0x0, []⟩,
  /- UPD_RECV -/ ⟨0x14, 1, 0x4, 1, 0x4, .ro, .free, 0x0, 0x0, 0x0, []⟩,
  /- UPD_AMANID -/ ⟨0x18, 1, 0x4, 1, 0x4, .ro, .free, 0x0, 0x0, 0x0, []⟩,
  /- UPD_PMANID -/ ⟨0x1c, 1, 0x4, 1, 0x4, .ro, .free, 0x0, 0x0, 0x0, []⟩,
  /- UPD_SMANID -/ ⟨0x20, 1, 0x4, 1, 0x4, .ro, .free, 0x0, 0x0, 0x0, []⟩,
  /- UPD_ROLLBACK -/ ⟨0x24, 1, 0x4, 1, 0x4, .ro, .free, 0x0, 0x0, 0x0, []⟩,
  /- UPD_CONFTIME -/ ⟨0x28, 1, 0x4, 1, 0x4, .ro, .free, 0x0, 0x0, 0x0, []⟩,
  /- UPD_BRACE -/ ⟨0x30, 1, 0x4, 1, 0x4, .ro, .free, 0x0, 0x0, 0x0, []⟩,
  /- UPD_BRMASK -/ ⟨0x34, 1, 0x4, 1, 0x4, .ro, .free, 0x0, 0x0, 0x0, []⟩,
  /- UPD_CHAIN -/ ⟨0x38, 1, 0x4, 1, 0x4, .ro, .free, 0x0, 0x0, 0x0, []⟩,
  /- UPD_CHAINST -/ ⟨0x3c, 1, 0x4, 1, 0x4, .ro, .free, 0x0, 0x0, 0x0, []⟩,
  /- UPD_DROPPED -/ ⟨0x40, 1, 0x4, 1, 0x4, .ro, .free, 0x0, 0x0, 0x0, []⟩,
  /- UPD_DATA -/ ⟨0x400, 64, 0x4, 1, 0x4, .wo, .configure, 0xffffffff, 0x0, 0x0, []⟩]

/-- Descriptor rows of block MTR (R410). -/
def mtrRowsPart0 : List RegRow := [
  /- MTR_STAT -/ ⟨0x0, 1, 0x4, 1, 0x4, .ro, .free, 0x0, 0x0, 0x0, []⟩,
  /- MTR_CFG -/ ⟨0x4, 1, 0x4, 1, 0x4, .rws, .configure, 0x1ff073f, 0x0, 0x10a000f, [⟨16, 8, 1, 60⟩, ⟨8, 3, 0, 6⟩]⟩,
  /- MTR_TZOFF -/ ⟨0x8, 1, 0x4, 1, 0x4, .rws, .configure, 0x3ffff, 0x0, 0x0, []⟩,
  /- MTR_CMD -/ ⟨0xc, 1, 0x4, 1, 0x4, .wo, .operate, 0xff3fffff, 0x0, 0x0, []⟩,
  /- MTR_IVSTART -/ ⟨0x10, 1, 0x4, 1, 0x4, .ro, .free, 0x0, 0x0, 0x0, []⟩,
  /- MTR_SCHED0 -/ ⟨0x100, 64, 0x8, 1, 0x8, .rws, .configure, 0x87ffffff, 0x0, 0x0, []⟩,
  /- MTR_SCHED1 -/ ⟨0x104, 64, 0x8, 1, 0x8, .rws, .configure, 0xffff, 0x0, 0x0, []⟩,
  /- MTR_ETOT -/ ⟨0x400, 16, 0x80, 2, 0x4, .ro, .free, 0x0, 0x0, 0x0, []⟩,
  /- MTR_PSTAT -/ ⟨0x408, 16, 0x80, 1, 0x80, .ro, .free, 0x0, 0x0, 0x0, []⟩,
  /- MTR_IVE -/ ⟨0x40c, 16, 0x80, 2, 0x4, .ro, .free, 0x0, 0x0, 0x0, []⟩,
  /- MTR_DEMAND -/ ⟨0x414, 16, 0x80, 1, 0x80, .ro, .free, 0x0, 0x0, 0x0, []⟩,
  /- MTR_DMAX -/ ⟨0x418, 16, 0x80, 1, 0x80, .ro, .free, 0x0, 0x0, 0x0, []⟩,
  /- MTR_EBAND -/ ⟨0x420, 16, 0x80, 16, 0x4, .ro, .free, 0x0, 0x0, 0x0, []⟩,
  /- MTR_SLSTAT -/ ⟨0xc00, 1, 0x4, 1, 0x4, .ro, .free, 0x0, 0x0, 0x0, []⟩,
  /- MTR_SLPTR -/ ⟨0xc04, 1, 0x4, 1, 0x4, .ro, .free, 0x0, 0x0, 0x0, []⟩,
  /- MTR_SLCOUNT -/ ⟨0xc08, 1, 0x4, 1, 0x4, .ro, .free, 0x0, 0x0, 0x0, []⟩,
  /- MTR_SLRDADDR -/ ⟨0xc0c, 1, 0x4, 1, 0x4, .rw, .operate, 0xffffffff, 0x0, 0x0, []⟩,
  /- MTR_SLRDDAT -/ ⟨0xc10, 16, 0x4, 1, 0x4, .ro, .free, 0x0, 0x0, 0x0, []⟩,
  /- MTR_SLERR -/ ⟨0xc50, 1, 0x4, 1, 0x4, .ro, .free, 0x0, 0x0, 0x0, []⟩,
  /- MTR_SLBASE -/ ⟨0xc54, 1, 0x4, 1, 0x4, .ro, .free, 0x0, 0x0, 0x0, []⟩]
/-- Part 1 of that table. -/
def mtrRowsPart1 : List RegRow := [
  /- MTR_SLLEN -/ ⟨0xc58, 1, 0x4, 1, 0x4, .ro, .free, 0x0, 0x0, 0x0, []⟩]
/-- The whole table. -/
def mtrRows : List RegRow := mtrRowsPart0 ++ mtrRowsPart1

/-- Descriptor rows of block GPC (R302). -/
def gpcRows : List RegRow := [
  /- GPC_CFG -/ ⟨0x0, 8, 0x10, 1, 0x10, .rws, .configure, 0xffff07ff, 0x0, 0x0, [⟨0, 5, 0, 17⟩]⟩,
  /- GPC_THR -/ ⟨0x4, 8, 0x10, 1, 0x10, .rws, .configure, 0xff0fff, 0x0, 0x0, []⟩,
  /- GPC_SLOPE -/ ⟨0x8, 8, 0x10, 1, 0x10, .rws, .configure, 0xf0fff, 0x0, 0x0, [⟨16, 4, 0, 10⟩]⟩,
  /- GPC_STAT -/ ⟨0x80, 1, 0x4, 1, 0x4, .ro, .free, 0x0, 0x0, 0x0, []⟩]

/-- Descriptor rows of block THA (R97). -/
def thaRows : List RegRow := [
  /- THA_STAT -/ ⟨0x0, 1, 0x4, 1, 0x4, .ro, .free, 0x0, 0x0, 0x0, []⟩,
  /- THA_IMGID -/ ⟨0x4, 1, 0x4, 1, 0x4, .ro, .free, 0x0, 0x0, 0x0, []⟩,
  /- THA_GEN -/ ⟨0x8, 1, 0x4, 1, 0x4, .ro, .free, 0x0, 0x0, 0x1, []⟩,
  /- THA_DIVMASK -/ ⟨0xc, 1, 0x4, 1, 0x4, .ro, .free, 0x0, 0x0, 0x0, []⟩,
  /- THA_EDCLAIM -/ ⟨0x10, 1, 0x4, 1, 0x4, .rw, .configure, 0x1, 0x0, 0x0, []⟩,
  /- THA_SRCTL -/ ⟨0x14, 1, 0x4, 1, 0x4, .wo, .configure, 0xff031f00, 0x0, 0x0, []⟩,
  /- THA_SRSTAT -/ ⟨0x18, 1, 0x4, 1, 0x4, .ro, .free, 0x0, 0x0, 0x0, []⟩,
  /- THA_SCRUBCFG -/ ⟨0x20, 1, 0x4, 1, 0x4, .rw, .configure, 0x7, 0x0, 0x0, [⟨0, 3, 0, 4⟩]⟩,
  /- THA_SCRUBSTAT -/ ⟨0x24, 1, 0x4, 1, 0x4, .ro, .free, 0x0, 0x0, 0x0, []⟩,
  /- THA_SCRUBPASS -/ ⟨0x28, 1, 0x4, 1, 0x4, .ro, .free, 0x0, 0x0, 0x0, []⟩,
  /- THA_ERRADDR -/ ⟨0x2c, 1, 0x4, 1, 0x4, .ro, .free, 0x0, 0x0, 0x0, []⟩]

/-- Descriptor rows of a port block (R32, R127, R163, R248, R272, R273, R300). -/
def portRowsPart0 : List RegRow := [
  /- PCC_STATUS -/ ⟨0x0, 1, 0x4, 1, 0x4, .ro, .free, 0x0, 0x0, 0x0, []⟩,
  /- PCC_CTRL -/ ⟨0x4, 1, 0x4, 1, 0x4, .rw, .operate, 0x1, 0x0, 0x0, []⟩,
  /- PCC_CMD -/ ⟨0x8, 1, 0x4, 1, 0x4, .wo, .operate, 0x7, 0x0, 0x0, []⟩,
  /- PCC_CFG -/ ⟨0x10, 1, 0x4, 1, 0x4, .rws, .configure, 0xff3f, 0x0, 0x383c, [⟨12, 4, 1, 8⟩, ⟨8, 4, 1, 15⟩]⟩,
  /- PCC_TIMERS -/ ⟨0x14, 1, 0x4, 1, 0x4, .rws, .configure, 0xffffff, 0x0, 0x3c5532, [⟨17, 7, 25, 100⟩, ⟨12, 5, 1, 20⟩, ⟨8, 4, 0, 10⟩, ⟨0, 8, 0, 100⟩]⟩,
  /- PCC_CABLECFG -/ ⟨0x18, 1, 0x4, 1, 0x4, .rws, .configure, 0xffffff, 0x0, 0xa1414, [⟨0, 8, 1, 255⟩]⟩,
  /- PCC_CCLVL -/ ⟨0x20, 1, 0x4, 1, 0x4, .ro, .free, 0x0, 0x0, 0x0, []⟩,
  /- PCC_CCREF -/ ⟨0x24, 1, 0x4, 1, 0x4, .ro, .free, 0x0, 0x0, 0x0, []⟩,
  /- PCC_VCONN -/ ⟨0x28, 1, 0x4, 1, 0x4, .ro, .free, 0x0, 0x0, 0x0, []⟩,
  /- PCC_PROBE -/ ⟨0x2c, 1, 0x4, 1, 0x4, .ro, .free, 0x0, 0x0, 0x0, []⟩,
  /- PCC_CABLE -/ ⟨0x30, 1, 0x4, 1, 0x4, .ro, .free, 0x0, 0x0, 0x0, []⟩,
  /- PCC_IDHDR -/ ⟨0x34, 1, 0x4, 1, 0x4, .ro, .free, 0x0, 0x0, 0x0, []⟩,
  /- PCC_CABLEVDO -/ ⟨0x38, 1, 0x4, 1, 0x4, .ro, .free, 0x0, 0x0, 0x0, []⟩,
  /- PCC_FARVDO -/ ⟨0x3c, 1, 0x4, 1, 0x4, .ro, .free, 0x0, 0x0, 0x0, []⟩,
  /- PCC_LENGTH -/ ⟨0x40, 1, 0x4, 1, 0x4, .ro, .free, 0x0, 0x0, 0x0, []⟩,
  /- PCC_COUNT -/ ⟨0x44, 1, 0x4, 1, 0x4, .ro, .free, 0x0, 0x0, 0x0, []⟩,
  /- PPD_STATUS -/ ⟨0x200, 1, 0x4, 1, 0x4, .ro, .free, 0x0, 0x0, 0x0, []⟩,
  /- PPD_CMD -/ ⟨0x208, 1, 0x4, 1, 0x4, .wo, .operate, 0x1f, 0x0, 0x0, []⟩,
  /- PPD_CFG -/ ⟨0x210, 1, 0x4, 1, 0x4, .rws, .configure, 0xf, 0x0, 0xd, []⟩,
  /- PPD_TIMERS -/ ⟨0x214, 1, 0x4, 1, 0x4, .rws, .configure, 0xff0fff, 0x0, 0x3200a5, [⟨16, 8, 0, 100⟩, ⟨4, 8, 5, 100⟩, ⟨0, 4, 0, 10⟩]⟩]
/-- Part 1 of that table. -/
def portRowsPart1 : List RegRow := [
  /- PPD_WARNCFG -/ ⟨0x218, 1, 0x4, 1, 0x4, .rws, .configure, 0xffff03, 0x0, 0xa0f01, [⟨16, 8, 1, 255⟩]⟩,
  /- PPD_VDMCFG -/ ⟨0x21c, 1, 0x4, 1, 0x4, .rws, .configure, 0x1ffff, 0x0, 0x13a7e, []⟩,
  /- PPD_CONTRACT -/ ⟨0x220, 1, 0x4, 1, 0x4, .ro, .free, 0x0, 0x0, 0x0, []⟩,
  /- PPD_CONTRACTVI -/ ⟨0x224, 1, 0x4, 1, 0x4, .ro, .free, 0x0, 0x0, 0x0, []⟩,
  /- PPD_LASTREJ -/ ⟨0x228, 1, 0x4, 1, 0x4, .ro, .free, 0x0, 0x0, 0x0, []⟩,
  /- PPD_OFFER -/ ⟨0x230, 11, 0x4, 1, 0x4, .ro, .free, 0x0, 0x0, 0x0, []⟩,
  /- PPD_OFFERINFO -/ ⟨0x260, 1, 0x4, 1, 0x4, .ro, .free, 0x0, 0x0, 0x0, []⟩,
  /- PPD_PSTATUS -/ ⟨0x270, 1, 0x4, 1, 0x4, .ro, .free, 0x0, 0x0, 0x0, []⟩,
  /- PPD_COUNT -/ ⟨0x280, 1, 0x4, 1, 0x4, .ro, .free, 0x0, 0x0, 0x0, []⟩,
  /- PPD_SINKPOL0 -/ ⟨0x2b0, 1, 0x4, 1, 0x4, .rws, .configure, 0x7ffffff, 0x0, 0x12c3232, [⟨16, 10, 50, 500⟩, ⟨8, 8, 50, 200⟩, ⟨0, 8, 50, 200⟩]⟩,
  /- PPD_SINKPOL1 -/ ⟨0x2b4, 1, 0x4, 1, 0x4, .rws, .configure, 0x7fffff, 0x0, 0x5a0000, [⟨16, 7, 10, 90⟩]⟩,
  /- PLP_STATUS -/ ⟨0x600, 1, 0x4, 1, 0x4, .ro, .free, 0x0, 0x0, 0xc00, []⟩,
  /- PLP_CMD -/ ⟨0x604, 1, 0x4, 1, 0x4, .wo, .operate, 0x1, 0x0, 0x0, []⟩,
  /- PLP_CFG -/ ⟨0x608, 1, 0x4, 1, 0x4, .rws, .configure, 0x1fff03f3, 0x0, 0x4320001, [⟨24, 5, 3, 30⟩, ⟨16, 8, 1, 255⟩, ⟨8, 2, 0, 2⟩, ⟨0, 2, 1, 2⟩]⟩,
  /- PLP_FRZCFG -/ ⟨0x60c, 1, 0x4, 1, 0x4, .rws, .configure, 0x3fffffff, 0x0, 0x33228402, [⟨20, 8, 10, 50⟩, ⟨12, 8, 1, 255⟩, ⟨4, 8, 16, 255⟩, ⟨0, 4, 1, 15⟩]⟩,
  /- PLP_CCOMP -/ ⟨0x610, 1, 0x4, 1, 0x4, .rws, .configure, 0x3ffffff, 0x0, 0x1323280, [⟨16, 8, 10, 255⟩]⟩,
  /- PLP_FLAGS -/ ⟨0x614, 1, 0x4, 1, 0x4, .w1c, .operate, 0x0, 0x1ff, 0x0, []⟩,
  /- PLP_REF -/ ⟨0x620, 1, 0x4, 1, 0x4, .ro, .free, 0x0, 0x0, 0x0, []⟩,
  /- PLP_COMP -/ ⟨0x624, 1, 0x4, 1, 0x4, .ro, .free, 0x0, 0x0, 0x0, []⟩,
  /- PLP_VMEAS -/ ⟨0x628, 1, 0x4, 1, 0x4, .ro, .free, 0x0, 0x0, 0x0, []⟩]
/-- Part 2 of that table. -/
def portRowsPart2 : List RegRow := [
  /- PLP_IMEAS -/ ⟨0x62c, 1, 0x4, 1, 0x4, .ro, .free, 0x0, 0x0, 0x0, []⟩,
  /- PLP_MCMD -/ ⟨0x630, 1, 0x4, 1, 0x4, .ro, .free, 0x0, 0x0, 0x0, []⟩,
  /- PLP_LASTGOOD -/ ⟨0x634, 1, 0x4, 1, 0x4, .ro, .free, 0x0, 0x0, 0x0, []⟩,
  /- PLP_VG -/ ⟨0x638, 1, 0x4, 1, 0x4, .ro, .free, 0x0, 0x0, 0x0, []⟩,
  /- PLP_BANK word 0 -/ ⟨0x680, 16, 0x38, 1, 0x4, .rws, .configure, 0xfffffff, 0x0, 0xc000000, []⟩,
  /- PLP_BANK word 1 -/ ⟨0x684, 16, 0x38, 1, 0x4, .rws, .configure, 0x77ffffff, 0x0, 0x0, []⟩,
  /- PLP_BANK word 2 -/ ⟨0x688, 16, 0x38, 1, 0x4, .rws, .configure, 0xffffffff, 0x0, 0x28000000, [⟨24, 8, 15, 255⟩]⟩,
  /- PLP_BANK word 3 -/ ⟨0x68c, 16, 0x38, 1, 0x4, .rws, .configure, 0xffffffff, 0x0, 0x28000000, [⟨24, 8, 15, 255⟩]⟩,
  /- PLP_BANK word 4 -/ ⟨0x690, 16, 0x38, 1, 0x4, .rws, .configure, 0xffffffff, 0x0, 0x10000000, []⟩,
  /- PLP_BANK word 5 -/ ⟨0x694, 16, 0x38, 1, 0x4, .rws, .configure, 0xffffffff, 0x0, 0xe6000000, [⟨24, 8, 128, 240⟩]⟩,
  /- PLP_BANK word 6 -/ ⟨0x698, 16, 0x38, 1, 0x4, .rws, .configure, 0xffffffff, 0x0, 0x33000000, [⟨24, 8, 1, 255⟩]⟩,
  /- PLP_BANK word 7 -/ ⟨0x69c, 16, 0x38, 1, 0x4, .rws, .configure, 0xffffffff, 0x0, 0x14000000, []⟩,
  /- PLP_BANK word 8 -/ ⟨0x6a0, 16, 0x38, 1, 0x4, .rws, .configure, 0xffffffff, 0x0, 0x28000000, [⟨24, 8, 1, 255⟩]⟩,
  /- PLP_BANK word 9 on -/ ⟨0x6a4, 16, 0x38, 5, 0x4, .rws, .configure, 0xffffff, 0x0, 0x0, []⟩,
  /- PEV_STATUS -/ ⟨0xa00, 1, 0x4, 1, 0x4, .ro, .free, 0x0, 0x0, 0x0, []⟩,
  /- PEV_CTRL -/ ⟨0xa04, 1, 0x4, 1, 0x4, .rws, .configure, 0xff77f7f, 0x0, 0x3261e19, [⟨20, 8, 10, 255⟩, ⟨8, 7, 1, 100⟩, ⟨0, 7, 1, 100⟩]⟩,
  /- PEV_FLAGS -/ ⟨0xa08, 1, 0x4, 1, 0x4, .w1c, .operate, 0x0, 0x3ff, 0x0, []⟩,
  /- PEV_CURVE -/ ⟨0xa0c, 1, 0x4, 1, 0x4, .ro, .free, 0x0, 0x0, 0x0, []⟩,
  /- PEV_PEND -/ ⟨0xa10, 1, 0x4, 1, 0x4, .ro, .free, 0x0, 0x0, 0x0, []⟩,
  /- PEV_ACC -/ ⟨0xa14, 1, 0x4, 1, 0x4, .ro, .free, 0x0, 0x0, 0x0, []⟩]
/-- Part 3 of that table. -/
def portRowsPart3 : List RegRow := [
  /- PEV_TRIPI -/ ⟨0xa18, 1, 0x4, 1, 0x4, .ro, .free, 0x0, 0x0, 0x0, []⟩,
  /- PEV_GATE -/ ⟨0xa1c, 1, 0x4, 1, 0x4, .ro, .free, 0x0, 0x0, 0x0, []⟩,
  /- PEV_BASE word 0 -/ ⟨0xa80, 8, 0x24, 1, 0x4, .rws, .configure, 0xff, 0x0, 0x0, [⟨0, 8, 10, 200⟩]⟩,
  /- PEV_BASE word 1 on -/ ⟨0xa84, 8, 0x24, 8, 0x4, .rws, .configure, 0xffffffff, 0x0, 0x0, []⟩,
  /- PGT_STATUS -/ ⟨0xc00, 1, 0x4, 1, 0x4, .ro, .free, 0x0, 0x0, 0x0, []⟩,
  /- PGT_CFG -/ ⟨0xc04, 1, 0x4, 1, 0x4, .rws, .configure, 0x1ffff, 0x0, 0x1c81e, [⟨8, 8, 10, 255⟩, ⟨0, 8, 5, 255⟩]⟩,
  /- PGT_FLAGS -/ ⟨0xc08, 1, 0x4, 1, 0x4, .w1c, .operate, 0x0, 0x7, 0x0, []⟩,
  /- PGT_TIME -/ ⟨0xc0c, 1, 0x4, 1, 0x4, .ro, .free, 0x0, 0x0, 0x0, []⟩,
  /- PGT_COUNT -/ ⟨0xc10, 1, 0x4, 1, 0x4, .ro, .free, 0x0, 0x0, 0x0, []⟩,
  /- PVL_STAT -/ ⟨0xd00, 1, 0x4, 1, 0x4, .ro, .free, 0x0, 0x0, 0x0, []⟩,
  /- PVL_THR -/ ⟨0xd04, 1, 0x4, 1, 0x4, .ro, .free, 0x0, 0x0, 0x0, []⟩,
  /- PVL_STCNT -/ ⟨0xd08, 1, 0x4, 1, 0x4, .ro, .free, 0x0, 0x0, 0x0, []⟩,
  /- PVL_OVCFG -/ ⟨0xd10, 1, 0x4, 1, 0x4, .rws, .configure, 0x3ffffff, 0x0, 0x3c00a1a, []⟩,
  /- PVL_UVCFG -/ ⟨0xd14, 1, 0x4, 1, 0x4, .rws, .configure, 0x1ffff, 0x0, 0x10a26, []⟩,
  /- PVL_FICFG -/ ⟨0xd18, 1, 0x4, 1, 0x4, .rws, .configure, 0x1ff, 0x0, 0x160, [⟨0, 8, 16, 127⟩]⟩,
  /- PVL_SWCFG -/ ⟨0xd1c, 1, 0x4, 1, 0x4, .rws, .configure, 0x33f3f, 0x0, 0x1030, [⟨16, 2, 0, 2⟩]⟩,
  /- PVL_FILT -/ ⟨0xd20, 1, 0x4, 1, 0x4, .rws, .configure, 0x777, 0x0, 0x52, []⟩,
  /- PVL_STCFG -/ ⟨0xd24, 1, 0x4, 1, 0x4, .rws, .configure, 0x31, 0x0, 0x11, [⟨4, 2, 0, 2⟩]⟩]
/-- The whole table. -/
def portRows : List RegRow := portRowsPart0 ++ portRowsPart1 ++ portRowsPart2 ++ portRowsPart3

/-- Descriptor rows of a Rafter slice block (R222). -/
def sliceRows : List RegRow := [
  /- RAF_STAT -/ ⟨0x0, 1, 0x4, 1, 0x4, .ro, .free, 0x0, 0x0, 0x1f30, []⟩,
  /- RAF_CTRL -/ ⟨0x4, 1, 0x4, 1, 0x4, .rws, .configure, 0x31f7f, 0x0, 0x30040, [⟨10, 2, 0, 2⟩]⟩,
  /- RAF_CMD -/ ⟨0x8, 1, 0x4, 1, 0x4, .wo, .operate, 0xff000001, 0x0, 0x0, []⟩,
  /- RAF_PERIOD -/ ⟨0xc, 1, 0x4, 1, 0x4, .rws, .configure, 0x1fffff, 0x0, 0x1f4, [⟨0, 16, 100, 4000⟩]⟩,
  /- RAF_PHASE -/ ⟨0x10, 1, 0x4, 1, 0x4, .rws, .configure, 0xffff, 0x0, 0x0, []⟩,
  /- RAF_DITHER -/ ⟨0x14, 1, 0x4, 1, 0x4, .rws, .configure, 0xffff001f, 0x0, 0xace10000, [⟨16, 16, 1, 65535⟩, ⟨0, 5, 0, 16⟩]⟩,
  /- RAF_DUTY -/ ⟨0x18, 1, 0x4, 1, 0x4, .ro, .free, 0x0, 0x0, 0x0, []⟩,
  /- RAF_DLIM -/ ⟨0x1c, 1, 0x4, 1, 0x4, .rws, .configure, 0x7ff07ff, 0x0, 0x4000000, [⟨16, 11, 0, 1024⟩, ⟨0, 11, 0, 1024⟩]⟩,
  /- RAF_DTRISE -/ ⟨0x20, 1, 0x4, 1, 0x4, .rws, .configure, 0x1fff, 0x0, 0x8, []⟩,
  /- RAF_DTFALL -/ ⟨0x24, 1, 0x4, 1, 0x4, .rws, .configure, 0x1fff, 0x0, 0x8, []⟩,
  /- RAF_ADTCFG -/ ⟨0x28, 1, 0x4, 1, 0x4, .rws, .configure, 0xffff1f03, 0x0, 0x0, []⟩,
  /- RAF_DTNOW -/ ⟨0x2c, 1, 0x4, 1, 0x4, .ro, .free, 0x0, 0x0, 0x0, []⟩,
  /- RAF_BLANK -/ ⟨0x30, 1, 0x4, 1, 0x4, .rws, .configure, 0x3ff, 0x0, 0x28, []⟩,
  /- RAF_EVCFG -/ ⟨0x34, 1, 0x4, 1, 0x4, .rws, .operate, 0xf3f, 0x0, 0x0, []⟩,
  /- RAF_IFLG -/ ⟨0x38, 1, 0x4, 1, 0x4, .w1c, .operate, 0x0, 0x1ff, 0x0, []⟩,
  /- RAF_CNT -/ ⟨0x3c, 1, 0x4, 1, 0x4, .ro, .free, 0x0, 0x0, 0x0, []⟩,
  /- RAF_CMP -/ ⟨0x40, 4, 0x4, 1, 0x4, .rws, .operate, 0x3ffff, 0x0, 0x0, [⟨16, 2, 0, 2⟩]⟩,
  /- RAF_TRIPCNT -/ ⟨0x50, 1, 0x4, 1, 0x4, .ro, .free, 0x0, 0x0, 0x0, []⟩]

/-- Does this row cover the block offset? -/
def RegRow.covers (r : RegRow) (off : Nat) : Bool :=
  decide (r.off ≤ off) &&
    (let d := off - r.off
     decide (d / r.s1 < r.n1) && ((d % r.s1) % r.s2 == 0) && decide ((d % r.s1) / r.s2 < r.n2))

/-- The blocks of the address map (R31). -/
inductive Block where
  | glb | sof | otp | rdg | trs | bat | hst | jtl | upd | mtr | gpc
  | port (n : Fin 16)
  | slice (s : Fin 48)
  | thatch
  deriving DecidableEq, Repr

/-- The block an address lies in, none in an unmapped range (R31, R33). -/
def blockOf (a : Nat) : Option Block :=
  if a < 0x1000 then some .glb
  else if a < 0x2000 then some .sof
  else if a < 0x3000 then some .otp
  else if a < 0x4000 then some .rdg
  else if a < 0x5000 then some .trs
  else if a < 0x8000 then some .bat
  else if a < 0x9000 then some .hst
  else if a < 0xA000 then some .jtl
  else if a < 0xB000 then some .upd
  else if a < 0xC000 then some .mtr
  else if a < 0xD000 then some .gpc
  else if a < 0x10000 then none
  else if h : (a - 0x10000) / 0x1000 < 16 then some (.port ⟨(a - 0x10000) / 0x1000, h⟩)
  else if a < 0x20000 then none
  else if h : (a - 0x20000) / 0x100 < 48 then some (.slice ⟨(a - 0x20000) / 0x100, h⟩)
  else if a < 0x40000 then none
  else if a < 0x60000 then some .thatch
  else none

/-- Base address of a block (R31). -/
def Block.base : Block → Nat
  | .glb => 0 | .sof => 0x1000 | .otp => 0x2000 | .rdg => 0x3000 | .trs => 0x4000 | .bat => 0x5000
  | .hst => 0x8000 | .jtl => 0x9000 | .upd => 0xA000 | .mtr => 0xB000 | .gpc => 0xC000
  | .port n => portBase n.val
  | .slice s => sliceBase s.val
  | .thatch => 0x5F000

/-- Descriptor rows of a block. -/
def Block.rows : Block → List RegRow
  | .glb => glbRows | .sof => sofRows | .otp => otpRows | .rdg => rdgRows | .trs => trsRows | .bat => batRows
  | .hst => hstRows | .jtl => jtlRows | .upd => updRows | .mtr => mtrRows | .gpc => gpcRows
  | .port _ => portRows
  | .slice _ => sliceRows
  | .thatch => thaRows

/-- The descriptor of the register at an address, none at a reserved or unmapped address. -/
def regRow (a : Nat) : Option RegRow :=
  match blockOf a with
  | none => none
  | some b => if a < b.base then none else b.rows.find? (fun r => r.covers (a - b.base))

/-- The class default of a tally as its word 0 (R294): threshold and window in ms. -/
def tallyDefault (t : Nat) : Word :=
  let w := fun (k ms : Nat) => BitVec.ofNat 32 (k + ms * 65536)
  if t < 128 then
    match t % 8 with
    | 0 => w 3 10000
    | 1 => w 3 60000
    | 2 => w 5 60000
    | 3 => w 5 60000
    | 4 => w 100 1
    | 5 => w 3 10000
    | 6 => w 3 60000
    | _ => w 2 60000
  else if t = 128 then w 16 60000
  else if t = 129 then w 3 10000
  else if t = 130 then w 4 1000
  else if t = 131 then w 8 10000
  else if t = 132 then w 4 60000
  else if t = 133 then w 1 60000
  else if t = 134 then w 1 1000
  else if t = 135 then 0
  else w 255 60000

/-- What an address reads when nothing has been written to it: the register's reset value (R10, R12), and 0 at a
reserved address (R11). For a register whose Reset column says image, OTP or Live this is the no-record or factory
value the spec gives, or the value named in the assumption log. -/
def regReset (a : Nat) : Word :=
  if 0x7400 ≤ a ∧ a < 0x7880 ∧ a % 8 = 0 then tallyDefault ((a - 0x7400) / 8)
  else match regRow a with
  | none => 0
  | some r => r.reset

end Sys2Proof.Machine
end

