-- ==== Sys2Proof/Machine/State.lean ====
section
/-!
DEFINITION. The state of the block as plain data. Every register of the spec's tables lives in one register file, a list of
(address, word) pairs in canonical form: addresses strictly rising, and no entry equal to the register's reset value, which is
what an unlisted address reads as (regReset). Values staged by an RWS write (R10) live in a second list of the same form
keyed by address. What the spec gives the block beside its registers (the operation window, apply queues, FIFOs, tables,
fuses, images, clocks, timers) is held in the structures below, one per island. The last field of State is the queue of
waiting commands.
-/

namespace Sys2Proof.Machine

/-! ### Host island (R338 to R381) -/

/-- A latched read (R189): the latched words with their addresses, kept for one host port until released. -/
structure Latch where
  trigger : Nat
  words : List (Nat × Word)
  deriving DecidableEq, Repr

/-- What the Host island keeps for one host port: its last status word (R342), the data words of its last read, the latch it
holds (R189), the time snapshot (R383) and the metering pages (R410) latched for it. -/
structure HpSt where
  status : Word
  rdData : List Word
  latch : Option Latch
  timeSnap : Nat × Nat × Nat
  pages : List (Nat × Word)
  deriving DecidableEq, Repr

/-- One order in the order stage (R368): its port, transaction, target address, value, and the grant its port held and the microsecond at the commit point. -/
structure Order where
  hp : HostPort
  txn : Nat
  addr : Nat
  val : Word
  grant : Nat
  usec : Nat
  deriving DecidableEq, Repr

/-- A write transaction that is not yet final: its port, the GEN it carries (R374), its words, the words whose group is still
open, once its ops are in the window the ops of it that are not yet committed, and the transaction whose equal order stands for its own
(R370 rule 3). -/
structure Txn where
  id : Nat
  hp : HostPort
  guard : Option (BitVec 16)
  words : List (Nat × Word)
  undecided : Nat
  opsLeft : Nat
  leader : Option Nat
  deriving DecidableEq, Repr

/-- A CAN FD request held until its response is acknowledged (R356, R340): the frame, its transaction when it is a write in
progress, and the response once it is queued. -/
structure CanHeld where
  frame : CanFrame
  txn : Option Nat
  resp : Option (Word × List Word)
  deriving DecidableEq, Repr

/-- A CAN FD event frame waiting to be sent (R358). -/
structure CanEvent where
  k : Nat
  src : Nat
  data : Nat
  sec : Nat
  usec : Nat
  edge : Nat
  serial0 : Word
  deriving DecidableEq, Repr

/-- The Host island: its ports, the order stage (R368), transactions not yet final, the I2C register pointer with its GEN (R349), CAN FD requests and
responses held (R356 to R358), and the sampled ADDR pins. -/
structure HostSt where
  ports : Vector HpSt 4
  orders : List Order
  txns : List Txn
  nextTxn : Nat
  i2cPointer : Option (Nat × Nat)
  canHeld : List CanHeld
  canLast : Option (CanFrame × Nat × Option (Word × List Word))
  canResend : List (Word × List Word)
  canEvents : List CanEvent
  addrPins : Nat
  deriving DecidableEq, Repr

/-! ### Ridge (R164 to R191) -/

/-- The answer policy has given to a received message that waits in the window (R136, R173 step 5). -/
inductive Answer where
  | accept | reject (code : Nat) | wait
  deriving DecidableEq, Repr

/-- One window entry or apply-queue entry: the record of R164 with its payload word, and, for the model's bookkeeping, the
register word a host write carries, its transaction, the answer of a MSG op and the tags of the ops that entered with it as their PRED, whether the
op was staged by the predictor, whether its hold or staging is done, the position it stands for and the device time of its entry. -/
structure Op where
  tent : Bool
  pv : Bool
  port : Nat
  cls : Nat
  src : Nat
  tag : Nat
  pred : Nat
  guard : Bool
  sub : Nat
  arg : Nat
  payload : BitVec 64
  reg : Option (Nat × Word)
  txn : Option Nat
  hp : Option HostPort
  answer : Option Answer
  members : List Nat
  predictor : Bool
  staged : Bool
  pos : Nat
  at_us : Nat
  deriving DecidableEq, Repr

/-- A cancel waiting for the end of the commit slot (R169, R186): of one named tag; of every tentative op of a port; of the ops a MSG op's Reject or Wait
names; of whatever ops are left whose PRED names a MSG op that commits without an answer. -/
inductive CancelReq where
  | named (tag : Nat)
  | portWide (port : Nat)
  | group (msgTag : Nat) (tags : List Nat)
  | rest (msgTag : Nat)
  deriving DecidableEq, Repr

/-- The Ridge: the operation window in order of entry, the last tag given (R167), ops waiting for a window entry, cancels, the budget cut in force,
whether E or a floor has changed in this slot (R183), and the ports that RAF_CMD.DISABLE has stopped in this slot (R218). -/
structure RidgeSt where
  window : List Op
  lastTag : Nat
  waiting : List Op
  cancels : List CancelReq
  cut : Option Nat
  recheck : Bool
  disabled : List Nat
  vconn : List Nat
  deriving DecidableEq, Repr

/-! ### Batten (R282 to R302) -/

/-- An edge in an island's FIFO or being delivered (R286): source, kind (0 rising, 1 falling, 2 level asserted), DATA and stamp. -/
structure Edge where
  island : Nat
  src : Nat
  kind : Nat
  data : Nat
  sec : Nat
  usec : Nat
  deriving DecidableEq, Repr

/-- An entry of the event queue (R290) and whether the host has read it. -/
structure QEntry where
  src : Nat
  kind : Nat
  data : Nat
  usec : Nat
  sec : Nat
  seq : Nat
  lost : Nat
  read : Bool
  deriving DecidableEq, Repr

/-- One BATWIRE route (R76). -/
structure Route where
  src : Nat
  dst : Nat
  mode : Nat
  queue : Bool
  deriving DecidableEq, Repr

/-- The Batten island: edges waiting in the FIFOs, the event queue with its sequence and run of losses (R290), the wiring matrix, tally bins (R293), levels
asserted, what the wired cuts have asserted (R296), rate limits, the comparators' samples, and the GPCs whose check runs or waits, the running one first (R280). -/
structure BattenSt where
  edges : List Edge
  queue : List QEntry
  seq : Nat
  lossRun : Nat
  wire : List Route
  bins : List (Nat × List Nat)
  levels : List Nat
  irqLevel : List (Nat × Nat)
  cutLevels : List Nat
  cutEdge : Bool
  cutInForce : Bool
  perrAt : List (Nat × Nat)
  pcapsAt : List (Nat × Nat)
  gpcSample : List (Nat × Nat)
  gpcTest : List Nat
  deriving DecidableEq, Repr

/-! ### Port islands -/

/-- The shadow coefficient bank of a port (R174): the policy position it was loaded for, the bank, its words, the staged
voltage in 10 mV and current in mA, with the first command m0 in Q2.22 and the ramp profile, the slews up and down in 0.1 V/ms (R232). -/
structure ShadowBank where
  pos : Nat
  bank : Nat
  words : List Word
  v10 : Nat
  ma : Nat
  m0 : Nat
  up : Nat
  dn : Nat
  deriving DecidableEq, Repr

/-- The armed Eave curve of a port (R174): base and reference current in mA. -/
structure ArmedCurve where
  fuseIdx : Nat
  iref : Nat
  deriving DecidableEq, Repr

/-- A curve as selected (R256, R258): base index, reference current in mA, fast-trip threshold in mV and the 16 levels in mA. -/
structure Curve where
  fuseIdx : Nat
  iref : Nat
  fastmv : Nat
  levels : List Nat
  deriving DecidableEq, Repr

/-- Eave of a port (R256 to R259): the curve in force, during a transition the new contract's curve, and the 16 accumulators
in 1/32 µs, the step of the slowest cool-down rate. `tripNow` says that a trip has come in the present microsecond, one evaluation of the curve (R268). -/
structure EaveSt where
  cur : Option Curve
  next : Option Curve
  acc : List Nat
  tripNow : Bool
  deriving DecidableEq, Repr

/-- The loop of a port (R227 to R243). Voltages are counted in 1/32 nV, a unit in which every slew step is whole (R233); e and u are
integers with 22 fraction bits (R227). `ilim` is the current of the SETP op or contract in mA, before the ratio of the bank (R228). `frz` is the run of samples of the
freeze test, newest first: the sum of the codes and the output of the loop in control, which `frzI` says is the current loop (R242). -/
structure LoopSt where
  bank : List Word
  ref : Nat
  target : Nat
  rampFrom : Nat
  ilim : Nat
  eV : List Int
  uV : List Int
  eI : List Int
  uI : List Int
  other : List Nat
  rm : List Nat
  rc : Nat
  comp : Nat
  sampleNo : Nat
  blockSum : Int
  blocks : List (Nat × Int)
  hrRamp : Bool
  bankNext : Option (Nat × List Word)
  lastMa : Nat
  lastMv : Nat
  frz : List (Nat × Int)
  frzI : Bool
  deriving DecidableEq, Repr

/-- What a message the port sends is (R131 to R158); one that a MSG op of SUB 1 orders is known by its type and SOP code (R165). -/
inductive MsgName where
  | accept | acceptSoft | acceptSwap | reject | wait | psRdy | softReset | notSupported | drSwap | getStatus | sourceCap | eprSourceCap | request
  | alert | status | ppsStatus | sinkCap | sinkCapExt | sourceCapExt | sourceInfo | revision | manufacturerInfo
  | eprEnterAck | eprEnterOk | eprEnterFail | eprExit | eprKeepAliveAck | vdm | discoverIdentity | chunkRequest | ordered (ty : Nat)
  deriving DecidableEq, Repr

/-- A message being sent: its name, 0 SOP, 1 SOP' or 2 SOP'', and its data objects. -/
structure PdMsg where
  name : MsgName
  sop : Nat
  objs : List Word
  deriving DecidableEq, Repr

/-- A committed setpoint and contract on its way from Accept to PS_RDY (R131 state 5, R138). -/
structure Transition where
  rdo : Word
  pos : Nat
  kind : Nat
  v10 : Nat
  ma : Nat
  power : Nat
  fuseIdx : Nat
  loopIdx : Nat
  applied : Bool
  deriving DecidableEq, Repr

/-- The protocol layer and policy engine of a port (R128 to R162): MessageID counters, the messages to send (the first is in
flight) with its retries, counters, the AMS in progress, held commands, the Request under evaluation, the transition, the
offer's positions mapped to POLICY entries, the power of the contract in force, the Alerts due and a warning met under the fixed-logic responder (R156, R160),
the chunks received, whether a discovery message is out, has missed its GoodCRC or holds back the first offer (R113, R131), whether the last message was Soft_Reset, the predictor's run with the tags of its staged ops (R184), the service sink's choice and the state
of its machine while PPD_STATUS.PSTATE reports 20 (R148). -/
structure PdSt where
  txId : List Nat
  rxId : List (Option Nat)
  firstSeen : Bool
  out : List PdMsg
  retries : Nat
  caps : Nat
  acked : Bool
  ams : Option MsgName
  held : List Nat
  offerDue : Bool
  drRetries : Nat
  reqRdo : Option (Word × Word × Bool)
  lastShort : Option (Nat × Nat × Nat)
  trans : Option Transition
  posMap : List (Option Nat)
  contractPos : Nat
  contractPower : Nat
  alertDue : Nat
  braceWarn : Bool
  reduced : Bool
  braceState : Option Nat
  getStatusSent : Bool
  chunkRx : Option Nat
  rxBuf : List Byte
  chunkTx : Option (Nat × Nat)
  bist : Bool
  farTries : Nat
  discovering : Bool
  missed : Bool
  capsDue : Bool
  lastSoft : Bool
  eprWait : Bool
  sinkWant : Option (Nat × Nat × Nat × Bool)
  run : List (Nat × Nat × Nat × Nat)
  predV : Nat
  predTags : List Nat
  missRow : Nat
  sub : Nat
  deriving DecidableEq, Repr

/-- The Valley channels of a port (R276, R280, R281): a running check (channel by index), the consecutive failures of each channel, up to 2, whether the check is to end
before the port presents Rp, and the FI threshold in 1/128 of 0.25 mV. -/
structure ValleySt where
  testing : Option Nat
  failRow : List Nat
  first : Bool
  fi : Nat
  deriving DecidableEq, Repr

/-- What a port island holds beside its registers: whether it is released, its structure in force (enabled, role, topology, R70),
whether it runs the ROM sink policy (R43), whether the load probe runs (R108), STATE_GEN (R373), its apply queue (R168), the shadow bank
and the armed curve (R174), whether it is in a fault path that discards arriving ops (R26), a trip whose path waits for a halted clock (R262), the ErrorRecovery exit conditions
(R104, R123, R269), an ErrorRecovery that waits for a halted clock (R214), the copies of the latches that Soffit holds (R125), offer composition times and trims (R178), a deficit offer (R183: 0 none, 1 due,
2 to be sent), whether an Eave trip bars the Level 1 reverse push (R61), the slice values that have reached the island since the last update point, oldest first (R205), and the parts above. -/
structure PortSt where
  released : Bool
  en : Bool
  role : Nat
  topo : Nat
  rom : Bool
  probing : Bool
  gen : Nat
  applyQ : List Op
  shadow : Option ShadowBank
  armed : Option ArmedCurve
  faultPath : Bool
  tripPending : Option Nat
  errElapsed : Bool
  recPending : Bool
  ccOver : Bool
  latched : Bool
  vconnLatched : Bool
  offerAt : Nat
  offerTrims : List Nat
  reofferAt : Option Nat
  deficitDue : Nat
  pushBlocked : Bool
  arrivals : List (Nat × Word)
  eave : EaveSt
  loop : LoopSt
  pd : PdSt
  val : ValleySt
  deriving DecidableEq, Repr

/-- An edge of an output of a slice (R195): its time in fine steps from the present period start, output B or A, active or inactive from then on. -/
structure OutEdge where
  time : Int
  b : Bool
  on : Bool
  deriving DecidableEq, Repr

/-- A Rafter slice beside its registers (R192 to R215): the loop's latest duty and the one it superseded, start pending, a stop that waits for a frozen clock (R214), the
length and on-time of the present period and the edges of P in it, in fine steps of 78.125 ps, the output edges to come, the last one that came, and the
outputs, LFSR, cut and swallow of this period, prescaler counts, the switch-node transitions seen this period, periods without one, the dead times as adapted (R209),
period number, phase, the time of the last point event against the present period start, and the trip inputs asserted. -/
structure SliceSt where
  dutyNext : Nat
  dutyPrev : Nat
  startPending : Bool
  stopPending : Bool
  tNow : Nat
  ton : Nat
  pOn : Nat
  pOff : Nat
  edges : List OutEdge
  lastEdge : Option Int
  outA : Bool
  outB : Bool
  lfsr : Nat
  cut : Bool
  swallowed : Bool
  presc : List Nat
  txR : Option Nat
  txF : Option Nat
  noSigR : Nat
  noSigF : Nat
  dtR : Nat
  dtF : Nat
  periodNo : Nat
  phase : Nat
  phaseRem : Int
  slip : Int
  evBase : Option Int
  tripIn : Nat
  deriving DecidableEq, Repr

/-! ### OTP (R411 to R432) -/

/-- A burn in progress (R422): 1 BURN of a word with its value, 2 CTRSET of a counter group up to a value, 3 REPAIR. -/
structure Burn where
  kind : Nat
  word : Nat
  value : BitVec 64
  deriving DecidableEq, Repr

/-- The fuse array: what the ECC words hold, the shadows loaded from them, the statuses of R426 of the words read otherwise than the array says, the words that
read UE when they were last loaded (R413, R428), the overrides (R419), the BURNED and the MARGINAL logical bits of the six counter groups (R416, R417), and the burn in progress. A
word not listed is 0. -/
structure OtpSt where
  fuses : List (Nat × BitVec 64)
  shadow : List (Nat × BitVec 64)
  status : List (Nat × Nat)
  ue : List Nat
  overs : List (Nat × BitVec 64)
  ctr : List (BitVec 64)
  ctrMarg : List (BitVec 64)
  burn : Option Burn
  deriving DecidableEq, Repr

/-! ### Jotil (R303 to R337) -/

/-- An election claim (R311). -/
structure Claim where
  serial : BitVec 96
  weight : Nat
  est : Bool
  hops : Nat
  deriving DecidableEq, Repr

/-- A frame the device sends (R307, R308): TYPE, DEST, SRC, SEQ, the payload fields in the order of R308 as numbers, and the ports it leaves on
(bit 0 UP, bit 1 DN). -/
structure JtlFrame where
  ty : Nat
  dest : Nat
  src : Nat
  seq : Nat
  body : List Nat
  ports : Nat
  deriving DecidableEq, Repr

/-- What the leader knows of a member (R320): serial, present-port mask, interleaved-port mask, Σ floor. -/
structure Member where
  serial : BitVec 96
  mask : Nat
  ilv : Nat
  floor : Nat
  deriving DecidableEq, Repr

/-- A node's DEMAND (R321). -/
structure Demand where
  demand : Nat
  want : Nat
  floor : Nat
  deriving DecidableEq, Repr

/-- A sweep in progress (R326): its id, phase steps, first index S, node order, the chain budget when it was announced, and the own leads'
phases to restore. -/
structure Sweep where
  budget : Nat
  id : Nat
  nph : Nat
  start : Nat
  order : List Nat
  saved : List (Nat × Nat)
  deriving DecidableEq, Repr

/-- The Jotil island (R309 to R332): election, index count, share freeze, shares and demands, members, phases, sweep, and frames: the last 64
forwarded (SRC, SEQ) pairs, the last 64 frames sent (newest first), the unicast frames a REFUSE may name and those waiting to be sent again, each
with its retransmissions. -/
structure JtlSt where
  best : Option Claim
  quiet : Nat
  led : Bool
  fresh : Bool
  goodRow : Nat
  localIdx : Option Nat
  hopsSeen : List (Option Nat)
  frz : Option Nat
  frzLead : Bool
  shareNext : Option (Nat × Nat)
  sharesKept : List (Nat × Nat)
  ownDemand : Demand
  want : Nat
  demands : List (Nat × Demand)
  heard : List Nat
  missed : List (Nat × Nat)
  braced : List (Nat × Nat)
  joining : List Member
  members : List (Nat × Member)
  periods : List (Nat × List Nat)
  phaseNext : Option (Nat × List (Nat × Nat))
  phaseSent : List (Nat × Nat × Nat)
  autoph : Bool
  unsyncReq : Bool
  lost : List (BitVec 96)
  budgetSince : Bool
  demanding : Bool
  memSent : Option Member
  bracing : Bool
  sweep : Option Sweep
  sweepPend : Bool
  sweepId : Nat
  held : Nat
  abortMeas : Option Bool
  seq : Nat
  seen : List (Nat × Nat)
  sent : List JtlFrame
  unacked : List (JtlFrame × Nat)
  refused : List (JtlFrame × Nat)
  deriving DecidableEq, Repr

/-! ### Soffit -/

/-- Soffit: the clock's second and microsecond, device time in µs, whether ports may run on VHV, and, while the Host island is unpowered, the wake identifier
and mask that were in force (R359); and the edges of E104 that the record buffer holds through a Brace hold (R516). -/
structure SoffitSt where
  sec : Nat
  usec : Nat
  uptime : Nat
  vhvOk : Bool
  wake : Option (Nat × Nat)
  warned : List Edge
  deriving DecidableEq, Repr

/-! ### Time, energy and the Slate log (R382 to R408) -/

/-- What Soffit meters for one port, energies in 2^-16 mJ wrapping at 2^64 (R388): total, eight bands, the previous band and its energy at its
close, the running interval, the present second, the peak in W, energy since the gap began, a missed tick since the last record, and the gain
correction of R389, a free value. -/
structure MeterPort where
  etot : Nat
  bands : List Nat
  prevBand : Nat
  prevE : Nat
  ivE : Nat
  secE : Nat
  peak : Nat
  gapE : Nat
  missed : Bool
  gain : BitVec 64
  deriving DecidableEq, Repr

/-- A TIME op of SUB 2 in Soffit's apply queue (R391, R392): a close or a band switch, the boundary it names, ports and band. -/
structure BandOp where
  close : Bool
  boundary : Option Nat
  mask : Nat
  band : Nat
  deriving DecidableEq, Repr

/-- A gap to be reported (R393): the second of the last commit and the one at which the time became valid. -/
structure Gap where
  last : Nat
  valid : Option Nat
  deriving DecidableEq, Repr

/-- Metering: ports, the apply queue, a staged time with its host port, missed ticks in this interval, the gap, the tick starts at which ports last
switched band and the last interval closed, the second of the last energy record, and whether the last-gasp commit is armed. -/
structure MtrSt where
  ports : Vector MeterPort 16
  ops : List BandOp
  timeSet : Option (Nat × Nat)
  incomplete : Bool
  gap : Option Gap
  swAt : Option (Nat × Nat)
  swMask : Nat
  closeAt : Option (Nat × Nat)
  lastCommit : Nat
  gaspArmed : Bool
  deriving DecidableEq, Repr

/-- A Slate record (R398): type, payload, stamp and the TV bit. -/
structure LogRec where
  ty : Nat
  payload : List Word
  sec : Nat
  usec : Nat
  tv : Bool
  deriving DecidableEq, Repr

/-- A record in the ring: its sector, byte offset and sequence. -/
structure SlRec where
  sector : Nat
  off : Nat
  seq : Nat
  body : LogRec
  deriving DecidableEq, Repr

/-- A sector that is not blank (R396): its sequence once it is in use, erases, format and mark. -/
structure Sector where
  num : Nat
  sseq : Option Nat
  erases : Nat
  fmt : Nat
  retired : Bool
  deriving DecidableEq, Repr

/-- The Slate log (R395 to R401): settings of the SLATE record, the write pointer, the records newest first, the sectors, next sequences and format,
the FRAM copy with its sequence, the records Soffit holds (oldest first), and the error that is to be retried (erase, sector). -/
structure SlateSt where
  rsv : Nat
  wear : Nat
  framBase : Nat
  cur : Option (Nat × Nat)
  ring : List SlRec
  sectors : List Sector
  seq : Nat
  sseq : Nat
  fmt : Nat
  fram : Option (Nat × LogRec)
  buf : List LogRec
  retry : Option (Bool × Nat)
  deriving DecidableEq, Repr

/-! ### Thatch operations (R83 to R95) -/

/-- A live apply or strip-and-relay in progress: its function, owner, the ports concerned, the edit buffer as validated, and when it committed. -/
structure SrOp where
  live : Bool
  func : Nat
  hp : HostPort
  ports : List Nat
  edits : List Word
  since : Nat
  deriving DecidableEq, Repr

/-- Thatch: the operation in progress, the ports being stripped to a new image (R92, R454), each as its number until its change is written and 32 more
until it relays, the ACTIVE slot's image (R89), whether Ridge reloads it on its return (R92), and whether the full scrubber pass is still due that an exit
from retention or a relay start asks for before a structure is applied (R91). -/
structure ThaSt where
  op : Option SrOp
  strips : List Nat
  active : List Word
  reload : Bool
  passDue : Bool
  deriving DecidableEq, Repr

/-! ### Replacing the image (R433 to R472) -/

/-- A directory record (R434) and the sector it lies in. -/
structure Dir where
  dseq : Nat
  act : Nat
  prev : Nat
  stag : Nat
  trial : Bool
  trials : Nat
  nextboot : Bool
  amanid : Nat
  pmanid : Nat
  smanid : Nat
  sstate : Nat
  chainApply : Nat
  sector : Nat
  deriving DecidableEq, Repr

/-- A staging session (R443): owner, mode, the manifest and the present block as received, this device's blocks kept, the length and check that
DL_BEGIN declared, and the CRC register over the blocks accepted. -/
structure Session where
  owner : Nat
  defer : Bool
  man : List Word
  block : List Word
  stored : List Word
  lenDecl : Option Nat
  crcDecl : Option Nat
  crcAll : Nat
  deriving DecidableEq, Repr

/-- A relay start (R448, R459): 0 reload ACTIVE, 1 activate STAGING, 2 fall back to PREVIOUS, 3 a fallback that a warm reset made, whose E13E the boot fires (R449); the cause to record, the DATA of E13E, whether the
hold runs and since when, and whether the roles were rotated. -/
structure Relay where
  kind : Nat
  cause : Nat
  ev : Nat
  apply : Option Nat
  started : Option Nat
  rotated : Bool
  deriving DecidableEq, Repr

/-- The hand-over record (R453). -/
structure Handover where
  budget : Nat
  share : Nat
  chain : Bool
  frozen : Bool
  frz : Option Nat
  idx : Nat
  leader : Option (BitVec 96)
  reoffer : Nat
  offerAt : List (Option Nat)
  pred : List Word
  log : Option (Nat × Nat)
  seq : Nat
  fmt : Nat
  kind : Nat
  apply : Option Nat
  deriving DecidableEq, Repr

/-- An update across the chain (R462 to R466): its manifest, package length, the nodes' reports (node, STATE, SSTATE, result), the activation index,
whether this device armed, and, at the leader, the blocks forwarded with their byte offsets, newest first, at a member the missing offset it
has reported. -/
structure ChainUpd where
  manid : Nat
  pkglen : Nat
  reports : List (Nat × Nat × Nat × Nat)
  apply : Option Nat
  armed : Bool
  blks : List (Nat × List Word)
  deriving DecidableEq, Repr

/-- Update state: the directory record in force (none while neither sector is valid), the three slots' words, the session, a flash erase or program in
progress, the relay start, the hand-over record, the chain update, the calibration overlay in force, tCONFIRM's full value, a CONFIRM that waits for its
burns (whether its directory write will succeed), and the running image at the hold's entry. -/
structure UpdSt where
  dir : Option Dir
  slots : List (List Word)
  sess : Option Session
  busy : Bool
  relay : Option Relay
  hand : Option Handover
  chain : Option ChainUpd
  overlay : List Word
  confFull : Nat
  confirming : Option Bool
  oldImage : List Word
  deriving DecidableEq, Repr

/-! ### Supplies, boot, regions and the TAP -/

/-- Boot and regions: the reset whose boot runs (0 power-on, 1 cold, 2 warm, 3 relay start), the resets that wait for a burn, the thermal hold, the next port island to
release, regions held open after a fault with the closing stages complete, VBUS sampling without a service port (R42), the Rd of ports 0 and 1 (0 none,
1 depletion, 2 both, 3 active), the bar of R37, the capture delay of XDS, a free value, the ports that a cold or warm reset has sent through
ErrorRecovery and that are not yet unpowered (R52), the device time of the cause that SOF_RESET_CAUSE.CODE holds (R56), and the
islands with a halt that waits for their release (R491). -/
structure BootSt where
  inReset : Option Nat
  waiting : List Nat
  thermal : Bool
  nextIsl : Nat
  closing : List (Nat × Nat)
  sampling : Bool
  rd : List Nat
  ovBar : Bool
  xds : BitVec 64
  recov : List Nat
  causeAt : Option Nat
  haltDue : List Nat
  deriving DecidableEq, Repr

/-- The TAP (R361, R362, R525): instruction, the data register it captured, boundary register, the last REGACC result, and what drives the balls (0 function, 1 EXTEST, 2 HIGHZ, 3 CLAMP). -/
structure JtagSt where
  ir : Nat
  dr : Word
  boundary : BitVec 513
  result : Word × Word
  drive : Nat
  deriving DecidableEq, Repr

/-- The state of the block. -/
structure State where
  regs : List (Nat × Word)
  staged : List (Nat × Word)
  freeCtr : Nat
  host : HostSt
  ridge : RidgeSt
  bat : BattenSt
  ports : Vector PortSt 16
  slices : Vector SliceSt 48
  jtl : JtlSt
  soffit : SoffitSt
  otp : OtpSt
  running : List Word
  mtr : MtrSt
  slate : SlateSt
  tha : ThaSt
  upd : UpdSt
  boot : BootSt
  jtag : JtagSt
  pending : List Instr
  deriving DecidableEq, Repr

/-! ### After reset -/

/-- Reset of a host port after a reset of the Host island (R379). -/
def HpSt.reset : HpSt :=
  { status := 0, rdData := [], latch := none, timeSnap := (0, 0, 0), pages := [] }

/-- Reset of the Host island. -/
def HostSt.reset : HostSt :=
  { ports := Vector.replicate 4 HpSt.reset, orders := [], txns := [], nextTxn := 1, i2cPointer := none, canHeld := [], canLast := none,
    canResend := [], canEvents := [], addrPins := 0 }

/-- Reset of the Ridge. -/
def RidgeSt.reset : RidgeSt :=
  { window := [], lastTag := 255, waiting := [], cancels := [], cut := none, recheck := false, disabled := [], vconn := [] }

/-- Reset of the Batten island (R298). -/
def BattenSt.reset : BattenSt :=
  { edges := [], queue := [], seq := 0, lossRun := 0, wire := [], bins := [], levels := [], irqLevel := [], cutLevels := [], cutEdge := false,
    cutInForce := false, perrAt := [], pcapsAt := [], gpcSample := [], gpcTest := [] }

/-- Reset of Eave. -/
def EaveSt.reset : EaveSt :=
  { cur := none, next := none, acc := List.replicate 16 0, tripNow := false }

/-- Reset of the loop. -/
def LoopSt.reset : LoopSt :=
  { bank := [], ref := 0, target := 0, rampFrom := 0, ilim := 0, eV := [0, 0, 0], uV := [0, 0, 0], eI := [0, 0, 0], uI := [0, 0, 0],
    other := [], rm := [], rc := 0, comp := 0, sampleNo := 0, blockSum := 0, blocks := [], hrRamp := false, bankNext := none, lastMa := 0, lastMv := 0,
    frz := [], frzI := false }

/-- Reset of the PD engine (R131, R162). -/
def PdSt.reset : PdSt :=
  { txId := [0, 0, 0], rxId := [none, none, none], firstSeen := false, out := [], retries := 0, caps := 0, acked := false, ams := none,
    held := [], offerDue := false, drRetries := 0, reqRdo := none, lastShort := none, trans := none, posMap := [], contractPos := 0,
    contractPower := 0, alertDue := 0, braceWarn := false, reduced := false, braceState := none, getStatusSent := false, chunkRx := none, rxBuf := [], chunkTx := none,
    bist := false, farTries := 0, discovering := false, missed := false, capsDue := false, lastSoft := false, eprWait := false, sinkWant := none, run := [], predV := 0,
    predTags := [], missRow := 0, sub := 0 }

/-- Reset of the Valley checks. -/
def ValleySt.reset : ValleySt :=
  { testing := none, failRow := List.replicate 5 0, first := false, fi := 0 }

/-- Reset of a port island. -/
def PortSt.reset : PortSt :=
  { released := false, en := false, role := 0, topo := 0, rom := false, probing := false, gen := 1, applyQ := [], shadow := none,
    armed := none, faultPath := false, tripPending := none, errElapsed := false, recPending := false, ccOver := false, latched := false, vconnLatched := false,
    offerAt := 0, offerTrims := [], reofferAt := none, deficitDue := 0, pushBlocked := false, arrivals := [], eave := EaveSt.reset,
    loop := LoopSt.reset, pd := PdSt.reset, val := ValleySt.reset }

/-- Reset of a slice. -/
def SliceSt.reset : SliceSt :=
  { dutyNext := 0, dutyPrev := 0, startPending := false, stopPending := false, tNow := 0, ton := 0, pOn := 0, pOff := 0, edges := [], lastEdge := none,
    outA := false, outB := false, lfsr := 0xACE1, cut := false,
    swallowed := false, presc := [], txR := none, txF := none, noSigR := 0, noSigF := 0, dtR := 0, dtF := 0, periodNo := 0, phase := 0,
    phaseRem := 0, slip := 0, evBase := none, tripIn := 0 }

/-- Reset of the fuses as the factory leaves them. -/
def OtpSt.reset : OtpSt :=
  { fuses := [(0x000, 0xFFFFFFFFFFFFFFFF), (0x0C8, 0xC100000001018333)], shadow := [], status := [], ue := [], overs := [], ctr := List.replicate 6 0,
    ctrMarg := List.replicate 6 0, burn := none }

/-- Reset of the Jotil island (R335). -/
def JtlSt.reset : JtlSt :=
  { best := none, quiet := 0, led := false, fresh := false, goodRow := 0, localIdx := none, hopsSeen := [none, none], frz := none,
    frzLead := false, shareNext := none, sharesKept := [], ownDemand := { demand := 0, want := 0, floor := 0 }, want := 0, demands := [],
    heard := [], missed := [], braced := [], joining := [], members := [], periods := [], phaseNext := none, phaseSent := [], autoph := false,
    unsyncReq := false, lost := [], budgetSince := false, demanding := false, memSent := none, bracing := false, sweep := none,
    sweepPend := false, sweepId := 0, held := 0, abortMeas := none, seq := 0, seen := [], sent := [], unacked := [], refused := [] }

/-- Reset of Soffit. -/
def SoffitSt.reset : SoffitSt :=
  { sec := 0, usec := 0, uptime := 0, vhvOk := false, wake := none, warned := [] }

/-- Reset of one port's meter. -/
def MeterPort.reset : MeterPort :=
  { etot := 0, bands := List.replicate 8 0, prevBand := 0, prevE := 0, ivE := 0, secE := 0, peak := 0, gapE := 0, missed := false, gain := 0 }

/-- Reset of metering (R407). -/
def MtrSt.reset : MtrSt :=
  { ports := Vector.replicate 16 MeterPort.reset, ops := [], timeSet := none, incomplete := false, gap := some { last := 0, valid := none },
    swAt := none, swMask := 0, closeAt := none, lastCommit := 0, gaspArmed := true }

/-- Reset of the log over a blank region. -/
def SlateSt.reset : SlateSt :=
  { rsv := 0, wear := 0, framBase := 0, cur := none, ring := [], sectors := [], seq := 0, sseq := 0, fmt := 1, fram := none, buf := [],
    retry := none }

/-- Reset of Thatch. -/
def ThaSt.reset : ThaSt :=
  { op := none, strips := [], active := [], reload := false, passDue := false }

/-- Reset of updates over a blank flash. -/
def UpdSt.reset : UpdSt :=
  { dir := none, slots := [[], [], []], sess := none, busy := false, relay := none, hand := none, chain := none, overlay := [], confFull := 0,
    confirming := none, oldImage := [] }

/-- Reset of boot and regions. -/
def BootSt.reset : BootSt :=
  { inReset := some 0, waiting := [], thermal := false, nextIsl := 0, closing := [], sampling := false, rd := [1, 1],
    ovBar := false, xds := 0, recov := [], causeAt := none, haltDue := [] }

/-- Reset of the TAP. -/
def JtagSt.reset : JtagSt :=
  { ir := 1, dr := 0, boundary := 0, result := (0, 0), drive := 0 }

/-- The machine right after power-on reset, before any supply is valid (R52, R62): every register at its reset value, factory fuses, blank external
memories and an empty queue. -/
def State.reset : State :=
  { regs := [], staged := [], freeCtr := 0, host := HostSt.reset, ridge := RidgeSt.reset, bat := BattenSt.reset,
    ports := Vector.replicate 16 PortSt.reset, slices := Vector.replicate 48 SliceSt.reset, jtl := JtlSt.reset, soffit := SoffitSt.reset,
    otp := OtpSt.reset, running := [], mtr := MtrSt.reset, slate := SlateSt.reset, tha := ThaSt.reset, upd := UpdSt.reset, boot := BootSt.reset,
    jtag := JtagSt.reset, pending := [] }

/-- Why the machine stops. -/
inductive Fault where
  /-- Nothing raises this: the spec gives every command of the table an effect in every state, so no meaning stops (safe). -/
  | impossible
  deriving DecidableEq, Repr

/-- Why a command has no meaning. -/
inductive Refusal where
  /-- Raised by the dispatch for a command without a meaning yet, by its mnemonic (safe). -/
  | notModelled (mnemonic : String)
  deriving DecidableEq, Repr

end Sys2Proof.Machine
end

