-- ==== Sys2Proof/Machine/Ops.lean ====
section
/-!
DEFINITION. The named operations over the register file that every meaning is written with: reading and writing a register
and a field of it, staged values (R10), saturating and wrapping counts, presence of ports and slices (R2, R3), islands
powered (R494), and firing an event (R284 to R288).
-/

namespace Sys2Proof.Machine

/-! ### The canonical list of (address, word) pairs -/

/-- The word listed at an address. -/
def cellGet : List (Nat × Word) → Nat → Option Word
  | [], _ => none
  | (b, v) :: t, a => if a = b then some v else cellGet t a

/-- Remove the entry of an address. -/
def cellErase (l : List (Nat × Word)) (a : Nat) : List (Nat × Word) := l.filter (fun p => p.1 != a)

/-- Set the entry of an address, keeping addresses rising. -/
def cellSet : List (Nat × Word) → Nat → Word → List (Nat × Word)
  | [], a, v => [(a, v)]
  | (b, w) :: t, a, v =>
    if a < b then (a, v) :: (b, w) :: t
    else if a = b then (a, v) :: t
    else (b, w) :: cellSet t a v

/-- Remove every entry with address in lo ≤ a < hi. -/
def cellDrop (l : List (Nat × Word)) (lo hi : Nat) : List (Nat × Word) :=
  l.filter (fun p => !(decide (lo ≤ p.1) && decide (p.1 < hi)))

/-! ### Registers and fields -/

/-- The value a register holds: what was last written, or its reset value. -/
def State.rd (s : State) (a : Nat) : Word := (cellGet s.regs a).getD (regReset a)

/-- Give a register a value. Writing the reset value removes the entry, so that equal register files are equal lists. -/
def State.wr (s : State) (a : Nat) (v : Word) : State :=
  { s with regs := if v = regReset a then cellErase s.regs a else cellSet s.regs a v }

/-- The mask of a field within its word. -/
def Fld.mask (f : Fld) : Word := BitVec.ofNat 32 ((2 ^ f.w - 1) <<< f.lo)

/-- A field's value within a word. -/
def Fld.of (f : Fld) (v : Word) : Nat := (v.toNat >>> f.lo) % 2 ^ f.w

/-- A word with a field replaced; bits of x above the field's width are dropped. -/
def Fld.set (f : Fld) (v : Word) (x : Nat) : Word :=
  (v &&& ~~~f.mask) ||| BitVec.ofNat 32 ((x % 2 ^ f.w) <<< f.lo)

/-- The value of a register field. -/
def State.get (s : State) (f : Fld) : Nat := f.of (s.rd f.addr)

/-- Give a register field a value. -/
def State.put (s : State) (f : Fld) (x : Nat) : State := s.wr f.addr (f.set (s.rd f.addr) x)

/-- Is a register field other than 0? -/
def State.bit (s : State) (f : Fld) : Bool := s.get f != 0

/-- 1 for true, 0 for false. -/
def b2n (b : Bool) : Nat := if b then 1 else 0

/-- Give a one-bit field a truth value. -/
def State.flag (s : State) (f : Fld) (b : Bool) : State := s.put f (b2n b)

/-- Set a one-bit field. -/
def State.raise (s : State) (f : Fld) : State := s.put f 1

/-- Clear a field. -/
def State.clear (s : State) (f : Fld) : State := s.put f 0

/-- Add to a field that saturates at its greatest value. -/
def State.satAdd (s : State) (f : Fld) (k : Nat) : State := s.put f (min (s.get f + k) (2 ^ f.w - 1))

/-- Count one in a saturating field. -/
def State.satInc (s : State) (f : Fld) : State := s.satAdd f 1

/-- Count in a wrapping field. -/
def State.wrapAdd (s : State) (f : Fld) (k : Nat) : State := s.put f (s.get f + k)

/-- Count one in a wrapping field. -/
def State.wrapInc (s : State) (f : Fld) : State := s.wrapAdd f 1

/-- Take a range of registers back to their reset values, staged values included. -/
def State.dropRegs (s : State) (lo hi : Nat) : State :=
  { s with regs := cellDrop s.regs lo hi, staged := cellDrop s.staged lo hi }

/-- Stage a value for an RWS register (R10). -/
def State.stage (s : State) (a : Nat) (v : Word) : State := { s with staged := cellSet s.staged a v }

/-- Bring a staged value in force, if there is one (R10). -/
def State.takeStaged (s : State) (a : Nat) : State :=
  match cellGet s.staged a with
  | none => s
  | some v => { s with staged := cellErase s.staged a }.wr a v

/-- Bring the staged values of a list of registers in force. -/
def State.takeStagedAll (s : State) (as : List Nat) : State := as.foldl State.takeStaged s

/-- The value an RWS register will take: the staged one if there is one, else the one in force. -/
def State.stagedOr (s : State) (a : Nat) : Word := (cellGet s.staged a).getD (s.rd a)

/-! ### Ports, slices, islands -/

/-- All ports in ascending order. -/
def allPorts : List (Fin 16) := List.finRange 16

/-- All slices in ascending order. -/
def allSlices : List (Fin 48) := List.finRange 48

/-- Is a port present (R2, R15)? -/
def State.present (s : State) (n : Fin 16) : Bool := (s.get GLB_PORTMASK.PRESENT).testBit n.val

/-- Is a slice present (R2, R15)? -/
def State.slicePresent (s : State) (k : Fin 48) : Bool :=
  if k.val < 32 then (s.get GLB_SLICEMASK0.PRESENT).testBit k.val
  else (s.get GLB_SLICEMASK1.PRESENT).testBit (k.val - 32)

/-- Is an island powered and released (R494)? Islands are numbered as in SOF_RESET_CAUSE. -/
def State.islandUp (s : State) (k : Nat) : Bool := (s.get GLB_ISLPWR.ISL).testBit k

/-- Numbers of the islands beside the port islands (R64). -/
def islRidge : Nat := 16
def islBatten : Nat := 17
def islHost : Nat := 18
def islJotil : Nat := 19
def islSoffit : Nat := 20

/-- A word with one bit set or cleared. -/
def setBitTo (m k : Nat) (b : Bool) : Nat := if b then m ||| (1 <<< k) else if m.testBit k then m - (1 <<< k) else m

/-- Give one bit of a mask field a truth value. -/
def State.maskBit (s : State) (f : Fld) (k : Nat) (b : Bool) : State := s.put f (setBitTo (s.get f) k b)

/-- Is an island halted (R483)? -/
def State.halted (s : State) (k : Nat) : Bool := (s.get GLB_ISLHALT.ISL).testBit k

/-- Is the port island of n powered, released and not halted? -/
def State.portUp (s : State) (n : Fin 16) : Bool := s.present n && s.islandUp n.val

/-- Update what the host island keeps. -/
def State.modHost (s : State) (f : HostSt → HostSt) : State := { s with host := f s.host }

/-- Update what the model keeps for a port island. -/
def State.modPort (s : State) (n : Fin 16) (f : PortSt → PortSt) : State :=
  { s with ports := s.ports.set n (f s.ports[n]) }

/-- Is a port held in measurement conditions of a sweep (R327)? -/
def State.swHeld (s : State) (n : Fin 16) : Bool := s.jtl.held.testBit n.val

/-- A port leaves measurement conditions early and counts as excluded (R327). -/
def State.swLeave (s : State) (n : Fin 16) : State :=
  if s.swHeld n then ({ s with jtl := { s.jtl with held := setBitTo s.jtl.held n.val false } }).satInc JTL_SWDEV.EXCL else s

/-- Use the next free value: the value and the state with the counter advanced (assumption log 3). -/
def State.free (s : State) : BitVec 64 × State :=
  (Config.freeValue s.freeCtr, { s with freeCtr := s.freeCtr + 1 })

/-! ### Events (R282 to R288) -/

/-- The island that owns an event source (R287, R288); the sources the spec gives to PI0 to PI15 together are passed by the port of their DATA. -/
def sourceIsland (e data : Nat) : Nat :=
  if e < 0x100 then e / 16
  else if e ≤ 0x106 then islSoffit
  else if e = 0x107 then islBatten
  else if e ≤ 0x10B then islSoffit
  else if e ≤ 0x10D then data % 16
  else if e ≤ 0x10F then islBatten
  else if e ≤ 0x113 then islRidge
  else if e ≤ 0x117 then islBatten
  else if e ≤ 0x11F then islRidge
  else if e ≤ 0x127 then islBatten
  else if e ≤ 0x12F then islJotil
  else if e ≤ 0x134 then islHost
  else if e ≤ 0x138 then islSoffit
  else if e ≤ 0x13E then islRidge
  else islBatten

/-- The level sources of R284; every other source is a pulse source. -/
def isLevelSource (e : Nat) : Bool :=
  if e < 0x100 then decide (e % 16 ≤ 5)
  else e == 0x101 || e == 0x102 || e == 0x103 || e == 0x104 || e == 0x107 || e == 0x117 || (decide (0x120 ≤ e) && decide (e ≤ 0x127))

/-- Put an edge into its island's FIFO. When 16 edges of the island already wait and one of them has the same source, the
edge merges into that one (R286). Nothing is carried while the Batten island is lost (R29). -/
def State.edge (s : State) (e kind data : Nat) : State :=
  if s.islandUp islBatten then
    let isl := sourceIsland e data
    let mine := s.bat.edges.filter (fun x => x.island == isl)
    if decide (16 ≤ mine.length) && mine.any (fun x => x.src == e) then s
    else { s with bat := { s.bat with edges := s.bat.edges ++
            [{ island := isl, src := e, kind := kind, data := data % 65536, sec := s.soffit.sec, usec := s.soffit.usec }] } }
  else s

/-- A pulse source fires (R284). -/
def State.fire (s : State) (e : Nat) (data : Nat := 0) : State := s.edge e 0 data

/-- A level source takes a level: a change gives a rising or a falling edge (R284). -/
def State.level (s : State) (e : Nat) (on : Bool) (data : Nat := 0) : State :=
  let was := s.bat.levels.contains e
  if on && !was then { s with bat := { s.bat with levels := s.bat.levels ++ [e] } }.edge e 0 data
  else if !on && was then { s with bat := { s.bat with levels := s.bat.levels.filter (fun x => x != e) } }.edge e 1 data
  else s

/-- Does a Brace hold run? -/
def State.holding (s : State) : Bool := s.upd.relay.any (fun r => r.started.isSome)

/-- The edges of E104 that the Soffit record buffer holds. -/
def State.setWarned (s : State) (l : List Edge) : State := { s with soffit := { s.soffit with warned := l } }

/-- A crossing of the thermal warning level (R513). In a Brace hold the Soffit record buffer holds E104 (R516). -/
def State.thermalLevel (s : State) (on : Bool) : State :=
  if s.holding && s.bat.levels.contains 0x104 != on then
    ({ s with bat := { s.bat with levels := if on then s.bat.levels ++ [0x104] else s.bat.levels.filter (fun x => x != 0x104) } } : State).setWarned
      (s.soffit.warned ++ [{ island := islSoffit, src := 0x104, kind := b2n (!on), data := b2n on, sec := s.soffit.sec, usec := s.soffit.usec }])
  else s.level 0x104 on (b2n on)

/-- After a Brace hold the Soffit record buffer delivers the edges of E104 it held (R516). -/
def State.tellWarned (s : State) : State :=
  if s.islandUp islBatten && s.upd.relay.isNone then
    ({ s with bat := { s.bat with edges := s.bat.edges ++ s.soffit.warned } } : State).setWarned []
  else s

/-- The source ID of port source k of port n (R287). -/
def portEvent (n : Fin 16) (k : Nat) : Nat := 16 * n.val + k

/-- A port source fires. -/
def State.firePort (s : State) (n : Fin 16) (k : Nat) (data : Nat := 0) : State := s.fire (portEvent n k) data

/-- A wake cause is set (R64): its bit and E108 (R288). WAKE_OUT is high while a bit of it is enabled. -/
def State.wake (s : State) (f : Fld) : State := if s.bit f then s else (s.raise f).fire 0x108

/-- Device time in microseconds since reset, advanced by the integration tick (assumption log 5). -/
def State.now (s : State) : Nat := s.soffit.uptime

/-! ### STATE_GEN (R373) -/

/-- The fields whose change makes a port island's report count (R373). -/
def State.genKey (s : State) (n : Fin 16) : List Nat :=
  [s.get (PCC_STATUS.STATE n), s.get (PCC_STATUS.ORIENT n), s.get (PCC_STATUS.LATCHED n), s.get (PCC_STATUS.VCONNLATCH n),
   s.get (PPD_STATUS.PSTATE n), s.get (PPD_STATUS.CONTRACT n), s.get (PPD_STATUS.KIND n), s.get (PPD_STATUS.EPRMODE n),
   s.get (PPD_STATUS.DROLE n), s.get (PPD_STATUS.BRACE n), s.get (PPD_CONTRACT.RDO n), s.get (PEV_STATUS.STATE n),
   s.get (PLP_STATUS.MODE n), s.get (PLP_STATUS.BANK n)]

/-- STATE_GEN after one more report: it skips 0 (R373). -/
def genNext (g : Nat) : Nat := if 0xFFFF ≤ g then 1 else g + 1

/-- The report of port n after a command: STATE_GEN counts once if a watched field changed since the state before (R373). -/
def State.report (before : State) (n : Fin 16) (s : State) : State :=
  if before.genKey n = s.genKey n then s
  else s.modPort n (fun p => { p with gen := genNext p.gen })

/-- The reports of every port. -/
def State.reportAll (before s : State) : State := allPorts.foldl (fun t n => before.report n t) s

/-- The outcome of a command. -/
abbrev Res := Host.Outcome State Fault Refusal

/-- A command that acts on port n is done: its report counts (R373). -/
def done1 (n : Fin 16) (before after : State) : Res := .next (before.report n after)

/-- A command that may act on several ports is done. -/
def doneAll (before after : State) : Res := .next (before.reportAll after)

/-- A command that acts on no port's watched fields is done. -/
def done (after : State) : Res := .next after

end Sys2Proof.Machine
end

