-- ==== Sys2Proof/Machine/JtlLink.lean ====
section
/-!
DEFINITION. The chain's frames as shared operations: this device's node number, the frames it sends (R307 to R309) and what a received
frame passes before it is acted on: duplicates, destination and forwarding.
-/

namespace Sys2Proof.Machine

/-- Update the Jotil state. -/
def State.modJtl (s : State) (f : JtlSt → JtlSt) : State := { s with jtl := f s.jtl }

/-- Is the chain enabled (JTL_CFG.EN, R335)? Its link sub-domain then sends and receives. -/
def State.chainOn (s : State) : Bool := s.bit JTL_CFG.EN

/-- The 96-bit device serial (R308). -/
def State.serial (s : State) : BitVec 96 :=
  BitVec.ofNat 96 ((s.rd GLB_SERIAL0.at).toNat + (s.rd GLB_SERIAL1.at).toNat * 2 ^ 32 + (s.rd GLB_SERIAL2.at).toNat * 2 ^ 64)

/-- Is this device the leader? -/
def State.leading (s : State) : Bool := s.bit JTL_STAT.LEADER

/-- The flags of JTL_NODE word 3: VALID and this device. -/
def nodeValid (w : Word) : Bool := w.getLsbD 16
def nodeOwn (w : Word) : Bool := w.getLsbD 17

/-- This device's node number, none before it has one (R307, R320). -/
def State.myNode (s : State) : Option Nat :=
  if s.leading then some 0 else (List.range 16).find? (fun k => nodeOwn (s.rd (JTL_NODE.at k 3)))

/-- The ports that are up: bit 0 UP, bit 1 DN. -/
def State.portsUp (s : State) : Nat := s.get JTL_STAT.UPUP + 2 * s.get JTL_STAT.DNUP

/-- The lock port as a port mask. -/
def State.lockMask (s : State) : Nat := if s.bit JTL_STAT.LOCKPORT then 2 else 1

/-- The ports a frame for the leader leaves on (R309). -/
def State.toLeader (s : State) : Nat := if s.leading then 3 else s.lockMask

/-- Frame types (R308). -/
def tyCLAIM : Nat := 1
def tyINDEX : Nat := 2
def tyMEMBER : Nat := 3
def tyASSIGN : Nat := 4
def tyPERIODS : Nat := 5
def tyDEMAND : Nat := 6
def tySHARE : Nat := 7
def tyPHASE : Nat := 8
def tySWEEP : Nat := 9
def tySWRES : Nat := 10
def tyEVENT : Nat := 11
def tyECHO : Nat := 12
def tyBUDGET : Nat := 13
def tyREFUSE : Nat := 14
def tyLOSS : Nat := 15

/-- Put a frame on the link, newest first; a unicast one is kept for a REFUSE (R310). A frame that no port carries is not sent. -/
def State.emit (s : State) (f : JtlFrame) (tries : Nat) : State :=
  if f.ports = 0 then s
  else s.modJtl (fun j => { j with
    sent := (f :: j.sent).take 64,
    unacked := if f.dest < 16 || f.dest == 0xFE then ((f, tries) :: j.unacked).take 64 else j.unacked })

/-- Send a frame of this device on the ports of a mask that are up (R307 to R309). -/
def State.sendF (s : State) (ty dest : Nat) (body : List Nat) (ports : Nat) : State :=
  if !s.chainOn then s
  else
    let f : JtlFrame := { ty := ty, dest := dest, src := s.myNode.getD 0xFE, seq := s.jtl.seq, body := body, ports := ports &&& s.portsUp }
    (s.emit f 0).modJtl (fun j => { j with seq := (j.seq + 1) % 256 })

/-- Send an EVENT frame on chain channel k for an edge (R324): channel, source node, ID, DATA, SEC, USEC. -/
def State.sendEvent (s : State) (k : Nat) (x : Edge) : State :=
  if s.islandUp islJotil then s.sendF tyEVENT 0xFF [k, s.myNode.getD 0xFE, x.src, x.data, x.sec, x.usec] 3 else s

/-- Is a received frame for this device (R309)? The neighbour, every device, its own node, or the leader when it leads. -/
def State.forMe (s : State) (dest : Nat) : Bool :=
  dest == 0xFD || dest == 0xFF || (dest == 0xFE && s.leading) || (decide (dest < 16) && s.myNode == some dest)

/-- Is a received frame passed on (R309)? Never 0xFD, never one consumed as unicast. -/
def State.passesOn (s : State) (dest : Nat) : Bool := dest != 0xFD && (dest == 0xFF || !s.forMe dest)

/-- Was a frame with this SRC and SEQ among the last 64 forwarded (R309)? -/
def State.seenBefore (s : State) (h : JtlHead) : Bool := s.jtl.seen.contains (h.src.toNat, h.seq.toNat)

/-- The other port as a mask. -/
def otherPort (p : Fin 2) : Nat := if p.val = 0 then 2 else 1

/-- Is a link port up? -/
def State.linkIsUp (s : State) (p : Fin 2) : Bool := s.bit (JTL_LINK.UP p.val)

/-- Forward a received frame on the other port and remember it (R309). -/
def State.forward (s : State) (h : JtlHead) (ty : Nat) (body : List Nat) : State :=
  let f : JtlFrame := { ty := ty, dest := h.dest.toNat, src := h.src.toNat, seq := h.seq.toNat, body := body, ports := otherPort h.p &&& s.portsUp }
  let t := if f.ports = 0 then s else s.modJtl (fun j => { j with sent := (f :: j.sent).take 64 })
  t.modJtl (fun j => { j with seen := ((h.src.toNat, h.seq.toNat) :: j.seen).take 64 })

/-- A whole frame arrives on a port that is up: one seen before is dropped; it is forwarded when R309 says so, and acted on when it is for this
device and the Jotil island runs (R332). -/
def State.receiveF (s : State) (h : JtlHead) (ty : Nat) (body : List Nat) (act : State → State) : State :=
  if !s.chainOn || !s.linkIsUp h.p || s.seenBefore h then s
  else
    let mine := s.forMe h.dest.toNat
    let t := if s.passesOn h.dest.toNat then s.forward h ty body else s
    if mine && s.islandUp islJotil && !s.halted islJotil then act t else t

/-- The timebases go on with the reference, keeping frequency and phase: none is locked to the chain tick (R480). -/
def State.leaveTick (s : State) : State := s.put GLB_PLLSTAT.CHAIN 0

end Sys2Proof.Machine
end

