-- ==== Sys2Proof/Machine/Image.lean ====
section
/-!
DEFINITION. The Thatch image as a list of 32-bit words (R65 to R79): CRC-32C, the header, the records, the encodings of the
records the image chapter owns, the checks 1 to 13 in code order, and rewriting a record in the running image (R80).
-/

namespace Sys2Proof.Machine

/-- One bit step of the reflected CRC-32C (R14: polynomial 0x1EDC_6F41). -/
def crc32cBit (c : Nat) : Nat := if c % 2 = 1 then (c / 2) ^^^ 0x82F63B78 else c / 2

/-- Iterate a function. -/
def iterN {α : Type} (f : α → α) : Nat → α → α
  | 0, x => x
  | k + 1, x => iterN f k (f x)

/-- The bytes of a word, least significant first (R9). -/
def wordBytes (w : Word) : List Nat := [w.toNat % 256, w.toNat / 256 % 256, w.toNat / 65536 % 256, w.toNat / 16777216]

/-- CRC-32C of a byte string (R14): initial and final value 0xFFFF_FFFF. -/
def crc32cBytes (bs : List Nat) : Nat := (bs.foldl (fun c b => iterN crc32cBit 8 (c ^^^ b)) 0xFFFFFFFF) ^^^ 0xFFFFFFFF

/-- CRC-32C of a list of words. -/
def crc32c (ws : List Word) : Nat := crc32cBytes (ws.flatMap wordBytes)

/-- A bit field of a word. -/
def fieldOf (w : Word) (hi lo : Nat) : Nat := (w.toNat >>> lo) % 2 ^ (hi + 1 - lo)

/-- A word of a list, 0 past its end. -/
def wordAt (ws : List Word) (i : Nat) : Word := ws.getD i 0

/-- A record of the image (R67): TYPE, INST, RGEN with the reserved half of its word, the payload, the CRC stored after it and its word offset. -/
structure ThaRec where
  ty : Nat
  inst : Nat
  hdr1 : Word
  payload : List Word
  crc : Word
  off : Nat
  deriving DecidableEq, Repr

/-- Record types (R68). -/
def tyDEVICE : Nat := 0x01
def tyAUTHORITY : Nat := 0x02
def tyPORTSTRUCT : Nat := 0x03
def tyCCCFG : Nat := 0x04
def tyPOLICY : Nat := 0x05
def tySINKPOL : Nat := 0x06
def tyLOOPSET : Nat := 0x07
def tyRAFTER : Nat := 0x08
def tyFUSEBASE : Nat := 0x09
def tyGUTTER : Nat := 0x0A
def tyVALLEY : Nat := 0x0B
def tyBATWIRE : Nat := 0x0C
def tyTALLY : Nat := 0x0D
def tyGPC : Nat := 0x0E
def tyJOTIL : Nat := 0x0F
def tyHOSTCFG : Nat := 0x10
def tyMETER : Nat := 0x11
def tySLATE : Nat := 0x12
def tyEND : Nat := 0x7F

/-- The INST of a global record (R67). -/
def instGlobal : Nat := 0xFF

/-- Where a record type may stand (R68). -/
inductive InstRule where
  | global | port | port01 | any
  deriving DecidableEq, Repr

/-- INST rule and payload length range in bytes of a record type, none when the type is reserved (R68). -/
def typeInfo (ty : Nat) : Option (InstRule × Nat × Nat) :=
  if ty = tyDEVICE then some (.global, 8, 64)
  else if ty = tyAUTHORITY then some (.global, 4, 4)
  else if ty = tyPORTSTRUCT then some (.port, 4, 12)
  else if ty = tyCCCFG then some (.port, 8, 32)
  else if ty = tyPOLICY then some (.port, 12, 92)
  else if ty = tySINKPOL then some (.port01, 8, 64)
  else if ty = tyLOOPSET then some (.port, 64, 904)
  else if ty = tyRAFTER then some (.port, 16, 96)
  else if ty = tyFUSEBASE then some (.port, 36, 288)
  else if ty = tyGUTTER then some (.port, 8, 32)
  else if ty = tyVALLEY then some (.port, 20, 80)
  else if ty = tyBATWIRE then some (.global, 4, 4096)
  else if ty = tyTALLY then some (.global, 4, 512)
  else if ty = tyGPC then some (.global, 32, 128)
  else if ty = tyJOTIL then some (.global, 8, 256)
  else if ty = tyHOSTCFG then some (.global, 8, 64)
  else if ty = tyMETER then some (.global, 8, 1024)
  else if ty = tySLATE then some (.global, 16, 64)
  else if ty = tyEND then some (.global, 0, 0)
  else if 0x80 ≤ ty ∧ ty ≤ 0xEF then some (.any, 0, 0x2000)
  else none

/-- Is a record type optional (R68)? -/
def isOptional (ty : Nat) : Bool := decide (0x80 ≤ ty) && decide (ty ≤ 0xEF)

/-- The class of a record type (R68): structure. -/
def isStructure (ty : Nat) : Bool := ty == tyAUTHORITY || ty == tyPORTSTRUCT || ty == tyBATWIRE
/-- The class of a record type (R68): load-only. -/
def isLoadOnly (ty : Nat) : Bool := ty == tySLATE
/-- The class of a record type (R68): live. -/
def isLive (ty : Nat) : Bool := !isStructure ty && !isLoadOnly ty && !isOptional ty && ty != tyEND
/-- Live records that belong to a port (R68, R86). -/
def isPortLive (ty : Nat) : Bool := decide (tyCCCFG ≤ ty) && decide (ty ≤ tyVALLEY)

/-- Do INST and LEN fit the type (R68)? -/
def typeOk (ty inst len : Nat) : Bool :=
  match typeInfo ty with
  | none => false
  | some (r, lo, hi) =>
    (match r with
     | .global => inst == instGlobal
     | .port => decide (inst < 16)
     | .port01 => decide (inst < 2)
     | .any => decide (inst < 16) || inst == instGlobal) &&
    decide (lo ≤ len) && decide (len ≤ hi) && len % 4 == 0 && (ty != tyPORTSTRUCT || len == 4 || len == 12)

/-- Read at most k records from a word offset, stopping at the first that runs past the end given (R67). The flag says whether all were read. -/
def readRecs (img : List Word) (endW : Nat) : Nat → Nat → List ThaRec × Bool
  | 0, _ => ([], true)
  | k + 1, off =>
    let w0 := wordAt img off
    let len := fieldOf w0 31 16
    let n := len / 4
    if endW < off + n + 3 ∨ len % 4 ≠ 0 then ([], false)
    else
      let r : ThaRec := { ty := fieldOf w0 7 0, inst := fieldOf w0 15 8, hdr1 := wordAt img (off + 1),
                          payload := (img.drop (off + 2)).take n, crc := wordAt img (off + 2 + n), off := off }
      let (rest, ok) := readRecs img endW k (off + n + 3)
      (r :: rest, ok)

/-- What the edit buffer holds (R85): its records up to and including END, whether each lies within the buffer, and whether there is an END. -/
structure EditRecs where
  recs : List ThaRec
  within : Bool
  ended : Bool
  deriving DecidableEq, Repr

/-- Read the edit buffer from a word offset, at most k records. No record begins where nothing but the zeros of a claim follows, or no word at all: such a
buffer holds no END (assumption log 125). -/
def readEdit (ws : List Word) : Nat → Nat → EditRecs
  | 0, _ => { recs := [], within := true, ended := false }
  | k + 1, off =>
    if (ws.drop off).all (fun w => w == 0#32) then { recs := [], within := true, ended := false }
    else match readRecs ws ws.length 1 off with
      | (r :: _, true) =>
        if r.ty = tyEND then { recs := [r], within := true, ended := true }
        else
          let rest := readEdit ws k (off + r.payload.length + 3)
          { rest with recs := r :: rest.recs }
      | _ => { recs := [], within := false, ended := false }

/-- The records of an edit buffer. -/
def editRecs (ws : List Word) : EditRecs := readEdit ws 1024 0

/-- TOTALLEN and NREC of an image (R66). -/
def imgLen (img : List Word) : Nat := (wordAt img 2).toNat
def imgNrec (img : List Word) : Nat := (wordAt img 3).toNat

/-- The records of an image and whether all NREC of them lie within TOTALLEN. -/
def imgRecs (img : List Word) : List ThaRec × Bool := readRecs img (imgLen img / 4) (min (imgNrec img) 1024) 8

/-- The words a record occupies: header, payload, CRC (R67). -/
def ThaRec.head0 (r : ThaRec) : Word := BitVec.ofNat 32 (r.ty % 256 + (r.inst % 256) * 256 + (4 * r.payload.length % 65536) * 65536)
def ThaRec.words (r : ThaRec) : List Word := r.head0 :: r.hdr1 :: (r.payload ++ [r.crc])
/-- Is the CRC of a record right (R67)? -/
def ThaRec.crcOk (r : ThaRec) : Bool := r.crc.toNat == crc32c (r.head0 :: r.hdr1 :: r.payload)

/-- The payload of the first record with a TYPE and INST. -/
def recOf (rs : List ThaRec) (ty inst : Nat) : Option (List Word) :=
  (rs.find? (fun r => r.ty == ty && r.inst == inst)).map ThaRec.payload

/-- A payload word of a record, if the record and the word are there. -/
def recWord (rs : List ThaRec) (ty inst i : Nat) : Option Word := (recOf rs ty inst).bind (fun p => p[i]?)

/-! ### PORTSTRUCT (R70 to R72) -/

/-- A port's structure (R70). -/
structure PortStruct where
  en : Bool
  role : Nat
  topo : Nat
  lend : Nat
  legs : List Nat
  deriving DecidableEq, Repr

/-- How many legs a topology uses (R71). -/
def topoLegs (topo : Nat) : Nat := if topo = 0 then 1 else if topo = 3 then 3 else 2

/-- Decode a PORTSTRUCT payload; a 4-byte payload takes slices 3n onward (R70). -/
def portStruct (n : Nat) (p : List Word) : PortStruct :=
  let w0 := wordAt p 0
  let topo := fieldOf w0 5 3
  let legs :=
    if p.length ≤ 1 then (List.range 3).map (fun k => if k < topoLegs topo then 3 * n + k else 0x3F)
    else let w1 := wordAt p 1; [fieldOf w1 5 0, fieldOf w1 13 8, fieldOf w1 21 16]
  { en := fieldOf w0 0 0 == 1, role := fieldOf w0 2 1, topo := topo, lend := fieldOf w0 10 8, legs := legs }

/-- The structure of port n in an image: disabled without a record (R69). -/
def structOf (rs : List ThaRec) (n : Nat) : PortStruct :=
  match recOf rs tyPORTSTRUCT n with
  | none => { en := false, role := 0, topo := 0, lend := 0, legs := [0x3F, 0x3F, 0x3F] }
  | some p => portStruct n p

/-- Is a slice lent by its owning port (R70, R72)? -/
def isLent (rs : List ThaRec) (k : Nat) : Bool := (structOf rs (k / 3)).lend.testBit (k % 3)

/-- Enabled ports of an image. -/
def enabledPorts (rs : List ThaRec) : List Nat := (List.range 16).filter (fun n => (structOf rs n).en)

/-- The legs in use of a port (R71). The rules of R72 for a leg are judged on these alone: a leg field that the topology does not use breaks R71, check 8,
and counts as no allotment, so that it never fails check 7 (assumption log 126). -/
def PortStruct.used (p : PortStruct) : List Nat := (p.legs.take (topoLegs p.topo)).filter (fun k => k != 0x3F)

/-! ### POLICY, FUSEBASE, BATWIRE, floors -/

/-- A POLICY entry (R74). -/
structure PolicyEntry where
  pdo : Word
  b : Word
  deriving DecidableEq, Repr

/-- The entries of a POLICY payload in order (R74). -/
def policyEntries (p : List Word) : List PolicyEntry :=
  let k := fieldOf (wordAt p 0) 2 0 + fieldOf (wordAt p 0) 5 3
  (List.range k).map (fun i => { pdo := wordAt p (1 + 2 * i), b := wordAt p (2 + 2 * i) })

def PolicyEntry.loopIdx (e : PolicyEntry) : Nat := fieldOf e.b 3 0
def PolicyEntry.fuseIdx (e : PolicyEntry) : Nat := fieldOf e.b 7 4
def PolicyEntry.need5A (e : PolicyEntry) : Bool := fieldOf e.b 8 8 == 1
def PolicyEntry.trimOk (e : PolicyEntry) : Bool := fieldOf e.b 9 9 == 1

/-- Kind of a PDO: 0 fixed, 1 PPS, 2 AVS, 3 another kind (PD encoding, R74). -/
def pdoKind (w : Word) : Nat :=
  if fieldOf w 31 30 = 0 then 0
  else if fieldOf w 31 30 = 3 then (if fieldOf w 29 28 = 0 then 1 else if fieldOf w 29 28 = 1 then 2 else 3)
  else 3

/-- Highest voltage of a PDO in 10 mV (PD encoding): fixed, Battery and Variable supplies in 50 mV, PPS and EPR AVS APDOs in 100 mV; an SPR AVS APDO has no
voltage field and ends at 20 V. -/
def pdoVmax (w : Word) : Nat :=
  if fieldOf w 31 30 = 0 then fieldOf w 19 10 * 5
  else if fieldOf w 31 30 ≠ 3 then fieldOf w 29 20 * 5
  else if fieldOf w 29 28 = 0 then fieldOf w 24 17 * 10
  else if fieldOf w 29 28 = 1 then fieldOf w 25 17 * 10
  else if fieldOf w 29 28 = 2 then 2000
  else 0

/-- Floor of port n by the image (R180): POLICY.FLOOR, else DEVICE.FLOOR, for an enabled source port; 0 otherwise. -/
def imgFloor (rs : List ThaRec) (n : Nat) : Nat :=
  let ps := structOf rs n
  if ps.en && ps.role == 0 then
    let f := fieldOf ((recWord rs tyPOLICY n 0).getD 0) 15 8
    if f = 0 then fieldOf ((recWord rs tyDEVICE instGlobal 0).getD 0) 23 16 else f
  else 0

/-- DEVICE.BUDGET (R78). -/
def imgBudget (rs : List ThaRec) : Nat := fieldOf ((recWord rs tyDEVICE instGlobal 0).getD 0) 15 0

/-- A route word (R76). -/
def routeOf (w : Word) : Nat × Nat × Nat × Bool := (fieldOf w 15 0, fieldOf w 22 16, fieldOf w 25 24, fieldOf w 26 26 == 1)

/-! ### The checks of R79, each true when it passes -/

/-- Check 1, HEADER. partLen is the number of image bytes present, rev is GLB_SIREV[15:0]. -/
def chkHeader (img : List Word) (partLen rev : Nat) : Bool :=
  wordAt img 0 == 0x54414854#32 && fieldOf (wordAt img 1) 31 16 == 1 &&
  decide (2 ≤ imgNrec img) && decide (imgNrec img ≤ 1024) &&
  (wordAt img 7).toNat == crc32c (img.take 7) &&
  decide (imgLen img ≤ 0x18000) && imgLen img % 4 == 0 && imgLen img == partLen &&
  decide (fieldOf (wordAt img 4) 15 0 ≤ rev) && fieldOf (wordAt img 4) 31 16 == 0 && wordAt img 6 == 0#32

/-- Check 2, RECCRC. -/
def chkCrc (rs : List ThaRec) : Bool := rs.all ThaRec.crcOk

/-- Check 3, TYPE; complete says that every record lies within its bounds. -/
def chkType (rs : List ThaRec) (complete : Bool) : Bool :=
  complete && rs.all (fun r => typeOk r.ty r.inst (4 * r.payload.length) && fieldOf r.hdr1 31 16 == 0)

/-- No TYPE and INST pair of a type that is not optional repeats. -/
def noDup : List ThaRec → Bool
  | [] => true
  | r :: t => (isOptional r.ty || !t.any (fun q => q.ty == r.ty && q.inst == r.inst)) && noDup t

/-- Check 4, DUP: also END missing or not last. -/
def chkDup (rs : List ThaRec) : Bool :=
  noDup rs && (match rs.getLast? with | none => false | some r => r.ty == tyEND) && !rs.dropLast.any (fun r => r.ty == tyEND)

/-- Check 5, MISSING (R69). -/
def chkMissing (rs : List ThaRec) : Bool :=
  rs.any (fun r => r.ty == tyDEVICE) &&
  (enabledPorts rs).all (fun n =>
    let has := fun ty => (recOf rs ty n).isSome
    let role := (structOf rs n).role
    has tyLOOPSET && has tyFUSEBASE && (role != 0 || has tyPOLICY) && (role != 1 || has tySINKPOL))

/-- The routes of an image. -/
def imgRoutes (rs : List ThaRec) : List (Nat × Nat × Nat × Bool) := ((recOf rs tyBATWIRE instGlobal).getD []).map routeOf

/-- Does a destination serve a port the LNS-8 lacks (R3, R4)? -/
def dstAbsent (d : Nat) : Bool := (decide (8 ≤ d) && decide (d ≤ 15)) || (decide (40 ≤ d) && decide (d ≤ 47)) || (decide (56 ≤ d) && decide (d ≤ 63))

/-- Check 6, VARIANT (R4), judged on a device that runs as an LNS-8. -/
def chkVariant (rs : List ThaRec) (lns8 : Bool) : Bool :=
  !lns8 ||
  ((enabledPorts rs).all (fun n => decide (n < 8)) &&
   rs.all (fun r => r.ty != tyPORTSTRUCT ||
     (let ps := portStruct r.inst r.payload
      (decide (r.inst < 7) || ps.lend == 0) && (decide (r.payload.length ≤ 1) || ps.legs.all (fun k => decide (k < 24) || k == 0x3F)))) &&
   rs.all (fun r => !(isPortLive r.ty && decide (8 ≤ r.inst) && decide (r.inst < 16))) &&
   (imgRoutes rs).all (fun x => !(decide (0x80 ≤ x.1) && decide (x.1 ≤ 0xFF)) && !dstAbsent x.2.1) &&
   (List.range ((((recOf rs tyGPC instGlobal).getD []).length + 3) / 4)).all (fun k =>
     let w := (recWord rs tyGPC instGlobal (4 * k)).getD 0
     !(decide (9 ≤ fieldOf w 4 0) && decide (fieldOf w 4 0 ≤ 16)) && fieldOf w 31 24 == 0))

/-- Check 7, ALLOT (R72). -/
def chkAllot (rs : List ThaRec) : Bool :=
  let legs := (enabledPorts rs).flatMap (fun n => (structOf rs n).used)
  (enabledPorts rs).all (fun n =>
    let ps := structOf rs n
    ps.used.all (fun k => (k / 3 == n && !isLent rs k) || (k / 3 + 1 == n && isLent rs k)) &&
    (ps.role != 1 || (ps.topo == 1 && ps.legs.take 2 == [3 * n, 3 * n + 1]))) &&
  legs.Nodup &&
  rs.all (fun r => r.ty != tyPORTSTRUCT ||
    (let ps := portStruct r.inst r.payload
     (r.inst != 15 || ps.lend == 0) && (ps.role != 1 || decide (r.inst < 2))))

/-- Check 8, ROLE: reserved ROLE, TOPO or bits on any PORTSTRUCT, and legs of enabled ports against R71. -/
def chkRole (rs : List ThaRec) : Bool :=
  rs.all (fun r => r.ty != tyPORTSTRUCT ||
    (let ps := portStruct r.inst r.payload
     decide (ps.role ≤ 1) && decide (ps.topo ≤ 3) &&
     fieldOf (wordAt r.payload 0) 7 6 == 0 && fieldOf (wordAt r.payload 0) 31 11 == 0 &&
     (wordAt r.payload 1).toNat &&& 0xFFC0C0C0 == 0 &&
     (!ps.en || ((ps.legs.take (topoLegs ps.topo)).all (fun k => decide (k < 48)) && (ps.legs.drop (topoLegs ps.topo)).all (fun k => k == 0x3F)))))

/-- Whole banks in a LOOPSET payload of so many words: (LEN − 8) div 56 (R235). -/
def loopBanks (words : Nat) : Nat := (words - 2) / 14

/-- Check 9, POLICY (R74), of every POLICY record. -/
def chkPolicy (rs : List ThaRec) : Bool :=
  rs.all (fun r => r.ty != tyPOLICY ||
    (let h := wordAt r.payload 0
     let nspr := fieldOf h 2 0
     let nepr := fieldOf h 5 3
     let es := policyEntries r.payload
     let banks := loopBanks ((recOf rs tyLOOPSET r.inst).getD []).length
     let bases := ((recOf rs tyFUSEBASE r.inst).getD []).length / 9
     decide (1 ≤ nspr) && decide (nepr ≤ 4) && r.payload.length == 1 + 2 * (nspr + nepr) &&
     (match es with | [] => false | e :: _ => pdoKind e.pdo == 0 && fieldOf e.pdo 19 10 == 100) &&
     es.all (fun e => decide (pdoVmax e.pdo ≤ 4800) && fieldOf e.b 31 10 == 0 && decide (e.loopIdx < banks) && decide (e.fuseIdx < bases)) &&
     (nepr == 0 || fieldOf h 6 6 == 1)))

/-- MULT[k] of a base (R75). -/
def baseMult (base : List Word) (k : Nat) : Nat :=
  let w := wordAt base (1 + k / 2)
  if k % 2 = 0 then fieldOf w 15 0 else fieldOf w 31 16

/-- Check 10, FUSE (R75), of every FUSEBASE record. -/
def chkFuse (rs : List ThaRec) : Bool :=
  rs.all (fun r => r.ty != tyFUSEBASE ||
    (r.payload.length % 9 == 0 &&
     (List.range (r.payload.length / 9)).all (fun i =>
       let b := (r.payload.drop (9 * i)).take 9
       decide (10 ≤ fieldOf (wordAt b 0) 7 0) && decide (fieldOf (wordAt b 0) 7 0 ≤ 200) && fieldOf (wordAt b 0) 31 8 == 0 &&
       (List.range 15).all (fun k => decide (baseMult b (k + 1) ≤ baseMult b k)) && decide (0x1000 ≤ baseMult b 15))))

/-- Check 11, ROUTE (R76, and the SWA and SWB rule of R284). -/
def chkRoute (rs : List ThaRec) : Bool :=
  rs.all (fun r => r.ty != tyBATWIRE ||
    (decide (r.payload.length ≤ 1024) &&
     r.payload.all (fun w =>
       let (src, dst, _, q) := routeOf w
       decide (src ≤ 0x13F) && (decide (dst ≤ 95) || dst == 0x7F) && fieldOf w 23 23 == 0 && fieldOf w 31 27 == 0 &&
       (!(decide (src < 0x100) && (src % 16 == 3 || src % 16 == 4)) ||
         (!q && ((decide (84 ≤ dst) && decide (dst ≤ 87)) || dst == 0x7F)))) &&
     (r.payload.map (fun w => fieldOf w 22 0)).Nodup))

/-- Check 12, AUTH (R77). -/
def chkAuth (rs : List ThaRec) : Bool :=
  rs.all (fun r => r.ty != tyAUTHORITY ||
    (let w := wordAt r.payload 0
     decide (fieldOf w 3 0 ≤ 3) && decide (fieldOf w 7 4 ≤ 3) && decide (fieldOf w 11 8 ≤ 3) &&
     (fieldOf w 15 12 == 0 || fieldOf w 15 12 == 8) && decide (fieldOf w 19 16 ≤ 1) && decide (fieldOf w 23 20 ≤ 3) && fieldOf w 31 24 == 0))

/-- Check 13, BUDGET. -/
def chkBudget (rs : List ThaRec) : Bool :=
  imgBudget rs != 0 && decide (((List.range 16).map (imgFloor rs)).sum ≤ imgBudget rs)

/-- The first of a list of checks that fails, by its code; 0 when all pass. -/
def firstFail : List (Nat × Bool) → Nat
  | [] => 0
  | (c, ok) :: t => if ok then firstFail t else c

/-- Checks 2 to 13 on a list of records (R79). -/
def recChecks (rs : List ThaRec) (complete lns8 : Bool) : Nat :=
  firstFail [(2, chkCrc rs), (3, chkType rs complete), (4, chkDup rs), (5, chkMissing rs), (6, chkVariant rs lns8), (7, chkAllot rs),
    (8, chkRole rs), (9, chkPolicy rs), (10, chkFuse rs), (11, chkRoute rs), (12, chkAuth rs), (13, chkBudget rs)]

/-- The checks of an image in code order: the code of the first that fails, 0 when all pass (R79). -/
def imageCheck (img : List Word) (partLen rev : Nat) (lns8 : Bool) : Nat :=
  if chkHeader img partLen rev then
    let (rs, complete) := imgRecs img
    recChecks rs complete lns8
  else 1

/-! ### Rewriting the running image (R80) -/

/-- A record with its CRC computed afresh. -/
def ThaRec.seal (r : ThaRec) : ThaRec := { r with crc := BitVec.ofNat 32 (crc32c (r.head0 :: r.hdr1 :: r.payload)) }

/-- Replace the record of the same TYPE and INST, or place a new one immediately before END (R80). -/
def replaceRec (rs : List ThaRec) (new : ThaRec) : List ThaRec :=
  if rs.any (fun r => r.ty == new.ty && r.inst == new.inst) then
    rs.map (fun r => if r.ty == new.ty && r.inst == new.inst then new else r)
  else rs.dropLast ++ [new] ++ rs.drop (rs.length - 1)

/-- The image words of a header and records: TOTALLEN, NREC and HDRCRC recomputed (R80). -/
def buildImage (old : List Word) (rs : List ThaRec) : List Word :=
  let body := rs.flatMap ThaRec.words
  let h : List Word := [wordAt old 0, wordAt old 1, BitVec.ofNat 32 (4 * (8 + body.length)), BitVec.ofNat 32 rs.length, wordAt old 4, wordAt old 5, 0]
  h ++ [BitVec.ofNat 32 (crc32c h)] ++ body

/-- The running image with edited records in place (R80). -/
def applyEdits (img : List Word) (edits : List ThaRec) : List Word :=
  buildImage img ((edits.filter (fun r => r.ty != tyEND)).foldl replaceRec (imgRecs img).1)

/-- The records of the running image. -/
def State.recs (s : State) : List ThaRec := (imgRecs s.running).1

/-- Does the device run as an LNS-8 (R2, R18)? -/
def State.lns8 (s : State) : Bool := s.get GLB_PORTMASK.PRESENT != 0xFFFF

/-- Is port n enabled as a source port, by the structure in force? -/
def State.isSource (s : State) (n : Fin 16) : Bool := s.ports[n].en && s.ports[n].role == 0
/-- Is port n enabled as a service port? -/
def State.isService (s : State) (n : Fin 16) : Bool := s.ports[n].en && s.ports[n].role == 1

/-- The policy entries of port n in force. -/
def State.policy (s : State) (n : Fin 16) : List PolicyEntry := policyEntries ((recOf s.recs tyPOLICY n.val).getD [])
/-- The policy head word of port n (R74). -/
def State.policyHead (s : State) (n : Fin 16) : Word := (recWord s.recs tyPOLICY n.val 0).getD 0

end Sys2Proof.Machine
end

