-- ==== Sys2Proof/Machine/OtpOps.lean ====
section
/-!
DEFINITION. The fuse array as shared operations (R411 to R420): shadows with their overrides, slotted items, the service records, the
ceilings and the device configuration they give, and the counters.
-/

namespace Sys2Proof.Machine

/-- A 64-bit word of a sparse list, 0 when not listed. -/
def wideGet (l : List (Nat × BitVec 64)) (w : Nat) : BitVec 64 := ((l.find? (fun p => p.1 == w)).map Prod.snd).getD 0

/-- Give a word of a sparse list a value. -/
def wideSet (l : List (Nat × BitVec 64)) (w : Nat) (v : BitVec 64) : List (Nat × BitVec 64) :=
  if v = 0 then l.filter (fun p => p.1 != w) else (w, v) :: l.filter (fun p => p.1 != w)

/-- A bit field of a 64-bit word. -/
def wideField (v : BitVec 64) (hi lo : Nat) : Nat := (v.toNat >>> lo) % 2 ^ (hi + 1 - lo)

/-- Update the OTP state. -/
def State.modOtp (s : State) (f : OtpSt → OtpSt) : State := { s with otp := f s.otp }

/-- Does a word hold an override (R419)? -/
def State.hasOver (s : State) (w : Nat) : Bool := s.otp.overs.any (fun p => p.1 == w)

/-- The shadow of a word in force, an override included (R418). -/
def State.shadow (s : State) (w : Nat) : BitVec 64 := if s.hasOver w then wideGet s.otp.overs w else wideGet s.otp.shadow w

/-- The status of a word as OTP_WSTAT gives it (R426). -/
def State.wordStatus (s : State) (w : Nat) : Nat :=
  match s.otp.status.find? (fun p => p.1 == w) with
  | some p => p.2
  | none => if wideGet s.otp.fuses w = 0 then 0 else 1

/-- The corrected value of a normal read, or the read as it stands when it is uncorrectable (R426, R427). -/
def readValue (r : OtpRead) : BitVec 64 :=
  match r.ecc with
  | .single k => (r.normal ^^^ BitVec.ofNat 72 (2 ^ k.toNat)).truncate 64
  | _ => r.normal.truncate 64

/-- The reserved bits of a device-used word (R414). -/
def reservedBits (w : Nat) : BitVec 64 :=
  if w = 0x002 then 0xFFFFFFFF00000000
  else if 0x0C8 ≤ w ∧ w ≤ 0x0CB then 0x00FFFFFFFE000000
  else if 0x0CC ≤ w ∧ w ≤ 0x0CF then 0x00FF00000000FFC0
  else if 0x0D0 ≤ w ∧ w ≤ 0x0E3 then
    (let j := (w - 0x0D0) % 5
     if j = 0 then 0x00F8000000000000 else if j = 4 then 0xFFFFFFFFF8000000 else 0xFFFF000000000000)
  else 0

/-- Does a value set a reserved bit of its word (R430)? -/
def reservedSet (w : Nat) (v : BitVec 64) : Bool := v &&& reservedBits w != 0

/-- The status of a word from its three reads (R426); a reserved bit that reads 1 makes it MARGINAL (R430). -/
def readStatus (r : OtpRead) : Nat :=
  if r.normal = 0 ∧ r.low = 0 ∧ r.high = 0 then 0
  else if r.ecc = .double then 4
  else if r.low ≠ r.normal ∨ r.high ≠ r.normal ∨ reservedSet r.word.toNat (readValue r) then 3
  else if r.ecc = .clean then 1
  else 2

/-- A slotted item (R413): its first word, words per slot, slots and tag. -/
structure SlotItem where
  base : Nat
  width : Nat
  count : Nat
  tag : Nat
  deriving DecidableEq, Repr

def itemCEIL : SlotItem := { base := 0x0C8, width := 1, count := 4, tag := 0xC1 }
def itemDEVCFG : SlotItem := { base := 0x0CC, width := 1, count := 4, tag := 0xD1 }
def itemSVC0 : SlotItem := { base := 0x0D0, width := 5, count := 2, tag := 0x5C }
def itemSVC1 : SlotItem := { base := 0x0DA, width := 5, count := 2, tag := 0x5C }

/-- Word j of slot k of an item. -/
def SlotItem.word (i : SlotItem) (k j : Nat) : Nat := i.base + i.width * k + j

/-- Is slot k written by a value function of the words (R413)? -/
def SlotItem.written (i : SlotItem) (v : Nat → BitVec 64) (k : Nat) : Bool := wideField (v (i.word k 0)) 63 56 == i.tag

/-- Is any word of slot k uncorrectable, as it was last loaded? A scrub changes no shadow in force (R428). -/
def State.slotUE (s : State) (i : SlotItem) (k : Nat) : Bool := (List.range i.width).any (fun j => s.otp.ue.contains (i.word k j))

/-- The slot in force: the highest-numbered written one that is not uncorrectable (R413). -/
def State.slotInForce (s : State) (i : SlotItem) : Option Nat :=
  (List.range i.count).reverse.find? (fun k => i.written s.shadow k && !s.slotUE i k)

/-- The highest-numbered slot that the fuses hold written and correctable: overrides do not count (R413, R415). -/
def State.slotBurned (s : State) (i : SlotItem) : Option Nat :=
  (List.range i.count).reverse.find? (fun k => i.written (wideGet s.otp.fuses) k && !s.slotUE i k)

/-- The next slot: the lowest blank slot above the slot in force (R413). -/
def State.nextSlot (s : State) (i : SlotItem) : Option Nat :=
  let from_ := match s.slotBurned i with
    | some k => k + 1
    | none => 0
  (List.range i.count).find? (fun k => decide (from_ ≤ k) && (List.range i.width).all (fun j => s.wordStatus (i.word k j) == 0))

/-- Word j of the service record in force of port 0 or 1, 0 (its unburned values) without one (R414). -/
def State.svcWord (s : State) (n j : Nat) : BitVec 64 :=
  let i := if n = 0 then itemSVC0 else itemSVC1
  match s.slotInForce i with
  | some k => s.shadow (i.word k j)
  | none => 0

/-- Service current limit in mA (R414): 0 or a value outside 50 to 500 means 3.0 A. -/
def State.svcIlim (s : State) (n : Nat) : Nat :=
  let v := wideField (s.svcWord n 0) 25 16
  if 50 ≤ v ∧ v ≤ 500 then v * 10 else 3000

/-- Is the reverse push of a service record enabled (R414)? -/
def State.svcReven (s : State) (n : Nat) : Bool := wideField (s.svcWord n 0) 50 50 == 1
/-- Reverse-push VIN_S target of a service record in mV. -/
def State.svcRevtgt (s : State) (n : Nat) : Nat := wideField (s.svcWord n 0) 15 0

/-- A field of the device configuration in force (R414), 0 without a slot. -/
def State.devcfg (s : State) (hi lo : Nat) : Nat :=
  match s.slotInForce itemDEVCFG with
  | some k => wideField (s.shadow (itemDEVCFG.word k 0)) hi lo
  | none => 0

/-- The VID of PPD_VDMCFG at reset: 0 means 0x3A7E (R414). -/
def State.otpVid (s : State) : Nat := if s.devcfg 47 32 = 0 then 0x3A7E else s.devcfg 47 32

/-! ### Counters (R416, R417) -/

/-- BURNED bits of a counter group and its MARGINAL bits, which count as burned. -/
def State.groupBits (s : State) (g : Nat) : BitVec 64 := s.otp.ctr.getD g 0 ||| s.otp.ctrMarg.getD g 0

/-- The BURNED bits of a group's reads: those that read 1 in all of them (R417). -/
def readBurned : List (BitVec 64) → BitVec 64
  | [] => 0
  | r :: rs => rs.foldl (· &&& ·) r

/-- The bits that read 1 in some read of a group: BURNED and MARGINAL (R417). -/
def readAny (rs : List (BitVec 64)) : BitVec 64 := rs.foldl (· ||| ·) 0

/-- One more than the highest set bit, 0 for none. -/
def highest (v : BitVec 64) : Nat := ((List.range 64).reverse.find? (fun k => v.getLsbD k)).elim 0 (fun k => k + 1)

/-- The value of ANTIRB, KEYREV and EPOCH (R417). -/
def State.antirb (s : State) : Nat :=
  (List.range 4).foldl (fun m g => if s.groupBits g = 0 then m else 64 * g + highest (s.groupBits g)) 0
def State.keyrev (s : State) : Nat := highest (s.groupBits 4)
def State.epoch (s : State) : Nat := highest (s.groupBits 5)

/-- Is there a gap: a BLANK bit below the highest one (R417)? -/
def State.gapIn (s : State) (g val : Nat) : Bool := (List.range 64).any (fun k => decide (k < val) && !(s.groupBits g).getLsbD k)
def State.hasGap (s : State) : Bool :=
  s.gapIn 4 s.keyrev || s.gapIn 5 s.epoch || (List.range 4).any (fun g => s.gapIn g (s.antirb - 64 * g))

/-! ### What a host may override and burn (R412, R413, R415, R419, R421) -/

/-- The slotted item a word belongs to. -/
def itemOf (w : Nat) : Option SlotItem :=
  if 0x0C8 ≤ w ∧ w ≤ 0x0CB then some itemCEIL
  else if 0x0CC ≤ w ∧ w ≤ 0x0CF then some itemDEVCFG
  else if 0x0D0 ≤ w ∧ w ≤ 0x0D9 then some itemSVC0
  else if 0x0DA ≤ w ∧ w ≤ 0x0E3 then some itemSVC1
  else none

/-- May a word hold an override at all (R412)? -/
def overridable (w : Nat) : Bool := decide (0x010 ≤ w) && decide (w ≤ 0x1DF)
/-- May a host burn a word at all (R412)? -/
def burnable (w : Nat) : Bool := decide (0x0C0 ≤ w) && decide (w ≤ 0x1DF)

/-- R415: no ceiling field above the one in force, codes as R77 allows, DORMSPI never from 0 to 1. -/
def ceilOk (old new : BitVec 64) : Bool :=
  let f := fun (v : BitVec 64) (k : Nat) => wideField v (4 * k + 3) (4 * k)
  [0, 1, 2].all (fun k => decide (f new k ≤ f old k)) &&
  (f new 3 == 0 || f new 3 == 8) && decide (f new 3 ≤ f old 3) &&
  decide (f new 4 ≤ 1) && decide (f new 4 ≤ f old 4) && decide (f new 5 ≤ 3) &&
  decide (wideField new 24 24 ≤ wideField old 24 24)

/-- Does a value of a slotted word break R413 or R415? -/
def State.slotBreaks (s : State) (w : Nat) (v : BitVec 64) : Bool :=
  match itemOf w with
  | none => false
  | some i =>
    (match s.nextSlot i with
     | none => true
     | some k => !(decide (i.word k 0 ≤ w) && decide (w < i.word (k + 1) 0))) ||
    (i.base == 0x0C8 && !(match s.slotBurned itemCEIL with
      | some k => ceilOk (wideGet s.otp.fuses (itemCEIL.word k 0)) v
      | none => ceilOk 0 v))

/-- The DETAIL an override of word w with value v is refused with (R419), none when it is accepted. -/
def State.overrideRefusal (s : State) (w : Nat) (v : BitVec 64) : Option Nat :=
  if !overridable w then some 5 else if s.slotBreaks w v then some 6 else none

/-- Is w a word of copy B of the key hash whose burned copy A word differs from v (R424)? A blank copy A word breaks the order too. -/
def State.copyBreaks (s : State) (w : Nat) (v : BitVec 64) : Bool :=
  decide (0x0C4 ≤ w) && decide (w ≤ 0x0C7) && wideGet s.otp.fuses (w - 4) != v

/-- The counter group of a CTR code: 1 KEYREV, 2 EPOCH (R421). -/
def ctrGroup (c : Nat) : Nat := if c = 1 then 4 else 5

/-- Value of the counter of a CTR code. -/
def State.ctrValue (s : State) (c : Nat) : Nat := if c = 1 then s.keyrev else s.epoch

/-- The DETAIL an OTP_CMD word is refused with, its conditions in the order of R421; none when it is taken. -/
def State.otpCmdRefusal (s : State) (v : Word) : Option Nat :=
  let op := OTP_CMD.OP.of v
  let w := OTP_CMD.ADDR.of v
  let c := OTP_CMD.CTR.of v
  let low := !s.bit OTP_STAT.VHVPGM
  let busy := s.bit OTP_STAT.BUSY
  if op = 1 then
    if low then some 2
    else if w < 0x1E0 ∧ s.wordStatus w ≠ 0 then some 3
    else if !s.hasOver w then some 4
    else if !burnable w then some 5
    else if s.slotBreaks w (s.shadow w) || s.copyBreaks w (s.shadow w) then some 6
    else if busy then some 8
    else none
  else if op = 2 then
    if low then some 2
    else if c = 0 ∨ c = 3 then some 5
    else if busy then some 8
    else if 64 < w ∨ w < s.ctrValue c then some 9
    else none
  else if op = 3 then (if low then some 2 else if busy then some 8 else none)
  else none

end Sys2Proof.Machine
end

