-- ==== Sys2Proof/Machine/Slice.lean ====
section
/-!
DEFINITION. The Rafter slices as shared operations (R192 to R215): the legs of a port, start and stop, the length of a period with
dither, phase slew and slip, edge placement, adaptive dead time and the trip of a slice. Times are in fine steps of 78.125 ps.
-/

namespace Sys2Proof.Machine

/-- Update what the model keeps for a slice. -/
def State.modSlice (s : State) (k : Fin 48) (f : SliceSt → SliceSt) : State :=
  { s with slices := s.slices.set k (f s.slices[k]) }

/-- The port island that owns a slice (R192). -/
def ownerOf (k : Fin 48) : Nat := k.val / 3

/-- Is a slice frozen, its island's clock stopped (R214)? -/
def State.frozen (s : State) (k : Fin 48) : Bool := s.halted (ownerOf k)

/-- The slices a port drives, its own legs and a borrowed one (R198, R200). -/
def State.legsOf (s : State) (n : Fin 16) : List (Fin 48) := allSlices.filter (fun k => s.get (RAF_STAT.PORT k) == n.val)

/-- The port that drives a slice. -/
def State.driver (s : State) (k : Fin 48) : Option (Fin 16) :=
  if h : s.get (RAF_STAT.PORT k) < 16 then some ⟨s.get (RAF_STAT.PORT k), h⟩ else none

/-- The lead slice of a port (R199). -/
def State.leadOf (s : State) (n : Fin 16) : Option (Fin 48) := (s.legsOf n).find? (fun k => s.bit (RAF_STAT.LEAD k))

/-- The slice whose lead-only registers a slice follows: the lead of its port, itself when nothing drives it (R199). -/
def State.leadFor (s : State) (k : Fin 48) : Fin 48 :=
  match s.driver k with
  | none => k
  | some n => (s.leadOf n).getD k

/-- The registers of a slice that are staged and enter at an update point (R205). -/
def rafStaged (k : Fin 48) : List Nat :=
  [RAF_CTRL.at k, RAF_PERIOD.at k, RAF_PHASE.at k, RAF_DITHER.at k, RAF_DLIM.at k, RAF_DTRISE.at k, RAF_DTFALL.at k, RAF_ADTCFG.at k,
   RAF_BLANK.at k, RAF_EVCFG.at k, RAF_CMP.at k 0, RAF_CMP.at k 1, RAF_CMP.at k 2, RAF_CMP.at k 3]

/-- The polarity bits of RAF_CTRL, which take effect only while the slice is disabled (R197). -/
def polMask : Word := 0x300

/-- The topology a slice serves and its leg, when a port drives it. -/
def State.legOf (s : State) (k : Fin 48) : Nat × Nat :=
  match s.driver k with
  | none => (0, 0)
  | some n => (s.ports[n].topo, s.get (RAF_STAT.LEG k))

/-- Does a slice drive the boost leg of T3, which has no switch-node sense (R198, R210)? -/
def State.boostT3 (s : State) (k : Fin 48) : Bool := s.legOf k == (3, 2)

/-- The carrier offset of a leg from the lead in Q0.16 of the period: 180° for leg 1 of T2 and T3, else 0° (R71, R198). -/
def legOffset (topo leg : Nat) : Nat := if (topo = 2 ∨ topo = 3) ∧ leg = 1 then 32768 else 0

/-- Give RAF_CTRL a value in force: a running slice keeps its polarities (R197), and SNSEL is 0 on the boost leg of T3 (R210). -/
def State.enterCtrl (s : State) (k : Fin 48) (v : Word) : State :=
  let t := s.wr (RAF_CTRL.at k) (if s.bit (RAF_STAT.RUN k) then (v &&& ~~~polMask) ||| (s.rd (RAF_CTRL.at k) &&& polMask) else v)
  if s.boostT3 k then t.clear (RAF_CTRL.SNSEL k) else t

/-- Take the staged RAF_CTRL value. While the slice runs its polarities stay in force and stay staged (R197). -/
def State.takeCtrl (s : State) (k : Fin 48) : State :=
  match cellGet s.staged (RAF_CTRL.at k) with
  | none => s
  | some v =>
    let t := s.enterCtrl k v
    if s.bit (RAF_STAT.RUN k) && v &&& polMask != s.rd (RAF_CTRL.at k) &&& polMask then t
    else { t with staged := cellErase t.staged (RAF_CTRL.at k) }

/-- A write of POLA and POLB while the slice is disabled takes effect at once; the rest of the word waits for an update point (R197, R205). -/
def State.takePol (s : State) (k : Fin 48) : State :=
  if s.bit (RAF_STAT.RUN k) then s
  else match cellGet s.staged (RAF_CTRL.at k) with
    | none => s
    | some v => s.wr (RAF_CTRL.at k) ((s.rd (RAF_CTRL.at k) &&& ~~~polMask) ||| (v &&& polMask))

/-- The programmed dead times in fine steps (R195). -/
def State.progRise (s : State) (k : Fin 48) : Nat := 32 * s.get (RAF_DTRISE.COARSE k) + s.get (RAF_DTRISE.FINE k)
def State.progFall (s : State) (k : Fin 48) : Nat := 32 * s.get (RAF_DTFALL.COARSE k) + s.get (RAF_DTFALL.FINE k)

/-- A time in fine steps as a slice can place it: on the 2.5 ns grid while fine placement is off (R220). -/
def State.onGrid (s : State) (k : Fin 48) (x : Nat) : Nat := if s.bit (RAF_STAT.DLFAIL k) then x / 32 * 32 else x

/-- Is a dead time on a bound (R209)? -/
def onBound (dt prog span : Nat) : Bool := dt == min 8191 (prog + span) || dt == prog - span

/-- Show the dead times in force, and whether an adapted one sits on a bound (R209). -/
def State.showDt (s : State) (k : Fin 48) : State :=
  let x := s.slices[k]
  (((s.put (RAF_DTNOW.RISE k) (s.onGrid k x.dtR)).put (RAF_DTNOW.FALL k) (s.onGrid k x.dtF)).flag (RAF_STAT.ADTLIMR k)
    (s.bit (RAF_ADTCFG.RADT k) && onBound x.dtR (s.progRise k) (s.get (RAF_ADTCFG.RSPAN k)))).flag (RAF_STAT.ADTLIMF k)
    (s.bit (RAF_ADTCFG.FADT k) && onBound x.dtF (s.progFall k) (s.get (RAF_ADTCFG.FSPAN k)))

/-- Adaptation restarts from the programmed values (R209, R218). -/
def State.restartDt (s : State) (k : Fin 48) : State :=
  (s.modSlice k (fun x => { x with dtR := s.progRise k, dtF := s.progFall k })).showDt k

/-- The last value of a register in a list of arrivals. -/
def lastOf (l : List (Nat × Word)) (a : Nat) : Option Word := (l.reverse.find? (fun p => p.1 == a)).map Prod.snd

/-- A staged value of a slice register enters at an update point: the one that met the guard, while one that arrived inside it stays staged (R205). -/
def State.takeMet (s : State) (early late : List (Nat × Word)) (k : Fin 48) (a : Nat) : State :=
  if late.any (fun p => p.1 == a) then
    match lastOf early a with
    | none => s
    | some v => if a = RAF_CTRL.at k then s.enterCtrl k v else s.wr a v
  else if a = RAF_CTRL.at k then s.takeCtrl k
  else s.takeStaged a

/-- Take the staged values of some registers of a slice at an update point; new dead times restart the adaptation, a new dither setting reseeds the LFSR (R203, R205,
R209). A frozen slice takes nothing (R214). -/
def State.takeSlice (s : State) (early late : List (Nat × Word)) (as : List Nat) (k : Fin 48) : State :=
  if s.frozen k then s
  else
    let enters := fun (a : Nat) => as.contains a && (if late.any (fun p => p.1 == a) then (lastOf early a).isSome else (cellGet s.staged a).isSome)
    let t := as.foldl (fun u a => u.takeMet early late k a) s
    let u := if enters (RAF_DTRISE.at k) || enters (RAF_DTFALL.at k) then t.restartDt k else t
    if enters (RAF_DITHER.at k) then u.modSlice k (fun x => { x with lfsr := u.get (RAF_DITHER.SEED k) }) else u

/-- The registers of a slice that enter at an update point: in measurement conditions of a sweep the carrier period, the phase and the dither are held (R327). -/
def State.pointRegs (s : State) (n : Fin 16) (k : Fin 48) : List Nat :=
  if s.swHeld n then (rafStaged k).filter (fun a => a != RAF_PERIOD.at k && a != RAF_PHASE.at k && a != RAF_DITHER.at k) else rafStaged k

/-- An update point of the lead of port n: the staged values enter on every leg together, but for the newest `late` arrivals, which reached the island less than
40 ns before it (R205). -/
def State.takePoint (s : State) (n : Fin 16) (late : Nat) : State :=
  let arr := s.ports[n].arrivals
  let early := arr.take (arr.length - late)
  let rest := arr.drop (arr.length - late)
  ((s.legsOf n).foldl (fun t k => t.takeSlice early rest (s.pointRegs n k) k) s).modPort n (fun p => { p with arrivals := rest })

/-- A slice value has reached its island: it is kept with its place among the arrivals until the update point that takes it (R205). -/
def State.arrive (s : State) (k : Fin 48) (a : Nat) : State :=
  match s.driver k, cellGet s.staged a with
  | some n, some v => s.modPort n (fun p => { p with arrivals := p.arrivals ++ [(a, v)] })
  | _, _ => s

/-- Carrier period in fine steps of the settings in force (R192). -/
def State.basePeriod (s : State) (lead : Fin 48) : Nat :=
  64 * s.get (RAF_PERIOD.PRD lead) + (if s.bit (RAF_STAT.DLFAIL lead) then 0 else s.get (RAF_PERIOD.PRDF lead))

/-- Does the period of a lead divide the index period of 1024 µs, so that it keeps its phase against every index (R202)? -/
def State.dividesIndex (s : State) (lead : Fin 48) : Bool := 13107200 % max 1 (s.basePeriod lead) == 0

/-- The next value of the 16-bit Fibonacci LFSR with taps 16, 14, 13 and 11 (R203). -/
def lfsrNext (l : Nat) : Nat :=
  let b := (l ^^^ (l >>> 2) ^^^ (l >>> 3) ^^^ (l >>> 5)) % 2
  l / 2 + b * 32768

/-- The dithered period: T + floor(T · 0.005·k · (r − 32768) ÷ 32768), clamped to the carrier range (R203, R193). -/
def ditherPeriod (t k r : Nat) : Nat :=
  let d : Int := (t : Int) + (t * 5 * k : Int) * ((r : Int) - 32768) / (1000 * 32768)
  min 256000 (max 6400 d.toNat)

/-- The signed way to a target phase in Q0.16, in the direction that reaches it sooner (R201). A change of exactly half a period reaches it equally soon both ways; the
model lengthens (DESIGN CHOICE, assumption log 118). -/
def phaseWay (cur target : Nat) : Int :=
  let d := (target + 65536 - cur) % 65536
  if d ≤ 32768 then (d : Int) else (d : Int) - 65536

/-- The share of a phase change that one period makes, at most an eighth of a period (R201). -/
def phaseStep (rem : Int) : Int := max (-8192) (min 8192 rem)

/-- The phase register of a lead is its new target, reached from where the carrier stands, a change under way included (R201). -/
def State.aimPhase (s : State) (l : Fin 48) : State :=
  let way := phaseWay s.slices[l].phase (s.get (RAF_PHASE.PHASE l))
  (s.modSlice l (fun y => { y with phaseRem := way })).flag (RAF_STAT.PHSLEW l) (way != 0)

/-- On-time of a duty, rounded down to whole fine steps (R194). -/
def onTime (duty t : Nat) : Nat := duty * t / 65536

/-- Edges of P in a period with top c: active from, inactive from (R194). -/
def edgesOf (c ton : Nat) : Nat × Nat := (c - ton / 2, c - ton / 2 + ton)

/-- What R196 makes of a pulse: 0 as placed, 1 P stays inactive, 2 P stays active. -/
def swallowOf (ton t dtr dtf : Nat) : Nat := if ton < dtr + 64 then 1 else if t < ton + dtf + 64 then 2 else 0

/-! ### Outputs (R195, R207, R208) -/

/-- Put an edge among those to come, in order of time. -/
def addEdge (e : OutEdge) : List OutEdge → List OutEdge
  | [] => [e]
  | x :: t => if e.time < x.time then e :: x :: t else x :: addEdge e t

/-- An output takes a level; a change of it is an edge. -/
def SliceSt.output (x : SliceSt) (e : OutEdge) : SliceSt :=
  if (if e.b then x.outB else x.outA) = e.on then x
  else { x with outA := if e.b then x.outA else e.on, outB := if e.b then e.on else x.outB, lastEdge := some e.time }

/-- The outputs at a time: every edge up to it has come. -/
def SliceSt.passTo (x : SliceSt) (t : Int) : SliceSt :=
  { (x.edges.filter (fun e => decide (e.time ≤ t))).foldl SliceSt.output x with edges := x.edges.filter (fun e => !decide (e.time ≤ t)) }

/-- P becomes active: B falls, and A rises a dead time later; a rise of B still to come is dropped (R195). -/
def SliceSt.riseP (x : SliceSt) (t dtr : Int) : SliceSt :=
  { x with edges := addEdge { time := t + dtr, b := false, on := true } (addEdge { time := t, b := true, on := false }
      (x.edges.filter (fun e => !(e.b && e.on && decide (t ≤ e.time))))) }

/-- P becomes inactive: A falls, and B rises a dead time later; a rise of A still to come is dropped (R195). -/
def SliceSt.fallP (x : SliceSt) (t dtf : Int) : SliceSt :=
  { x with edges := addEdge { time := t + dtf, b := true, on := true } (addEdge { time := t, b := false, on := false }
      (x.edges.filter (fun e => !(!e.b && e.on && decide (t ≤ e.time))))) }

/-- Is P active at the end of the present period? -/
def SliceSt.endsActive (x : SliceSt) : Bool := !x.cut && decide (x.pOn < x.pOff) && decide (x.tNow ≤ x.pOff)

/-- The next period of t fine steps begins, P active from `on` to `off`, never (sw 1) or throughout (sw 2). An output B that no dead time keeps inactive is active
while P is inactive (R195, R196, R208). -/
def SliceSt.nextPeriod (x : SliceSt) (t sw on off dtr dtf : Nat) : SliceSt :=
  let was := x.endsActive
  let y := x.passTo x.tNow
  let y : SliceSt := { y with
    edges := y.edges.map (fun (e : OutEdge) => { e with time := e.time - (x.tNow : Int) }), lastEdge := y.lastEdge.map (fun (e : Int) => e - (x.tNow : Int)), tNow := t, cut := false,
    pOn := if sw = 1 then t else if sw = 2 then 0 else on, pOff := if sw = 1 ∨ sw = 2 then t else off, swallowed := sw != 0 }
  let y :=
    if sw = 2 then (if was then y else y.riseP 0 dtr)
    else if was then y.fallP 0 dtf
    else if y.edges.any (fun e => e.b && e.on) then y
    else { y with edges := addEdge { time := 0, b := true, on := true } y.edges }
  (if sw = 0 then (y.riseP on dtr).fallP off dtf else y).passTo 0

/-- The edges of the present period from time c on follow from a new P: active from `on`, which is not after c, to `off` (R206). -/
def SliceSt.replace (x : SliceSt) (sw c on off dtr dtf : Nat) : SliceSt :=
  let y := x.passTo ((c : Int) - 1)
  let y : SliceSt := { y with
    edges := [], pOn := if sw = 1 then x.tNow else if sw = 2 then 0 else on, pOff := if sw = 1 ∨ sw = 2 then x.tNow else off, swallowed := sw != 0 }
  let y :=
    if sw = 1 then { y with edges := [{ time := c, b := false, on := false }, { time := c, b := true, on := true }] }
    else if sw = 2 then { y with edges := [{ time := c, b := true, on := false }, { time := c, b := false, on := true }] }
    else
      let z := { y with edges := [{ time := max (on : Int) c, b := true, on := false }, { time := max (on + dtr : Int) c, b := false, on := true }] }
      z.fallP off dtf
  y.passTo c

/-- A trip acts at time t of the present period (R208, R218): an active P becomes inactive at once, and one that has not risen does not rise. With TRIPACT = 1 both
outputs are inactive until the period ends (assumption log 116). -/
def SliceSt.cutAt (x : SliceSt) (t : Int) (act1 : Bool) (dtf : Int) : SliceSt :=
  let y := x.passTo t
  let y :=
    if t < (x.pOn : Int) then { y with edges := y.edges.filter (fun e => decide (e.time < (x.pOn : Int))) }
    else if t < (x.pOff : Int) then ({ y with edges := [] } : SliceSt).fallP t dtf
    else y
  ({ y with cut := true, edges := if act1 then [{ time := t, b := false, on := false }, { time := t, b := true, on := false }] else y.edges }).passTo t

/-- Is the blanking window of a slice open at a time of its period (R207)? Each edge of an output opens it anew. -/
def State.blanked (s : State) (k : Fin 48) (t : Int) : Bool :=
  match (s.slices[k].passTo t).lastEdge with
  | none => false
  | some e => decide (t < e + 32 * s.get (RAF_BLANK.BLANK k))

/-- The time in a slice's period of an instant t fine steps after the period start of its lead (R199). -/
def State.legTime (s : State) (k : Fin 48) (t : Nat) : Nat :=
  match s.legOf k with
  | (topo, leg) =>
    let off := legOffset topo leg * s.slices[k].tNow / 65536
    if off ≤ t then t - off else t + s.slices[k].tNow - off

/-- Clamp a duty to RAF_DLIM (R204). -/
def State.clampDuty (s : State) (k : Fin 48) (d : Nat) : Nat :=
  min (s.get (RAF_DLIM.DMAX k) * 64) (max (s.get (RAF_DLIM.DMIN k) * 64) d)

/-- N of the lead (R205). -/
def State.updN (s : State) (lead : Fin 48) : Nat := s.get (RAF_CTRL.UPDN lead) + 1

/-- Does a slice's output A drive a high-side switch (R198)? The boost legs of T1 and T3 drive the low side with A. -/
def State.highSideA (s : State) (k : Fin 48) : Bool :=
  !(s.legOf k == (1, 1) || s.boostT3 k)

/-- One adaptation of a dead time that was `now` in force (R209): none is no transition before the opposite output turned on. -/
def adaptStep (dt now : Nat) (tx : Option Nat) (margin prog span : Nat) : Nat :=
  let d := match tx with
    | none => dt + 1
    | some x => if now ≤ x then dt + 1 else if margin < now - x then dt - 1 else dt
  min 8191 (max (prog - span) (min (prog + span) d))

/-- The comparator a slice's adaptation uses, 0 for none (R209, R210). -/
def State.sense (s : State) (k : Fin 48) : Nat := if s.boostT3 k then 0 else s.get (RAF_CTRL.SNSEL k)

/-- Why adaptation of this period is skipped (R210, R281); noSample says that the comparator sample of a lent slice has not arrived over its channel. -/
def State.adaptSkipped (s : State) (k : Fin 48) (noSample : Bool) : Bool :=
  let x := s.slices[k]
  let sn := s.sense k
  x.cut || x.swallowed || sn == 0 || (noSample && s.bit (RAF_STAT.LENT k)) ||
  (match s.driver k with
   | none => true
   | some n => s.ports[n].val.testing == some (2 + sn) || (s.get (PVL_STAT.FAIL n)).testBit (2 + sn))

/-- Adapt both dead times of the period that ends (R209, R210): the new ones take effect at the period start that follows. -/
def State.adapt (s : State) (k : Fin 48) (noSample : Bool) : State :=
  let x := s.slices[k]
  let r := s.bit (RAF_ADTCFG.RADT k)
  let f := s.bit (RAF_ADTCFG.FADT k)
  let skip := s.adaptSkipped k noSample
  let m := s.get (RAF_ADTCFG.MARGIN k)
  let dr := if !r || skip || (decide (64 ≤ x.noSigR) && x.txR.isNone) then x.dtR
    else adaptStep x.dtR (s.get (RAF_DTNOW.RISE k)) x.txR m (s.progRise k) (s.get (RAF_ADTCFG.RSPAN k))
  let df := if !f || skip || (decide (64 ≤ x.noSigF) && x.txF.isNone) then x.dtF
    else adaptStep x.dtF (s.get (RAF_DTNOW.FALL k)) x.txF m (s.progFall k) (s.get (RAF_ADTCFG.FSPAN k))
  let nr := if r && x.txR.isNone then x.noSigR + 1 else 0
  let nf := if f && x.txF.isNone then x.noSigF + 1 else 0
  (s.modSlice k (fun y => { y with dtR := dr, dtF := df, txR := none, txF := none, noSigR := nr, noSigF := nf })).flag (RAF_STAT.ADTNOSIG k)
    (decide (64 ≤ nr) || decide (64 ≤ nf))

/-- Has the timebase of a slice's island locked (R480)? -/
def State.pllLocked (s : State) (k : Fin 48) : Bool := (s.get GLB_PLLSTAT.LOCK).testBit (ownerOf k)

/-- Disable one slice: both outputs inactive at once, staged polarities taken (R212, R197). -/
def State.disableNow (s : State) (k : Fin 48) : State :=
  let t := s.modSlice k (fun x => { x with
    startPending := false, stopPending := false, outA := false, outB := false, edges := [], lastEdge := none, cut := false, pOn := 0, pOff := 0, phaseRem := 0, slip := 0 })
  ((t.clear (RAF_STAT.RUN k)).clear (RAF_STAT.PHSLEW k)).takePol k

/-- Disable one slice; a frozen one holds its balls as they are, and stops when its clock resumes (R214). -/
def State.stopSlice (s : State) (k : Fin 48) : State :=
  if s.frozen k && s.bit (RAF_STAT.RUN k) then s.modSlice k (fun x => { x with startPending := false, stopPending := true }) else s.disableNow k

/-- Disable every leg of a port in the same coarse step (R212); the loop reports its stage stopped. -/
def State.legsOff (s : State) (n : Fin 16) : State :=
  let t := (s.legsOf n).foldl State.stopSlice s
  ((((t.put (PLP_STATUS.REGION n) 3).clear (PLP_STATUS.PRE n)).clear (PLP_STATUS.RAMP n)).clear (PLP_STATUS.CONFIRM n)).clear (PLP_STATUS.SETTLED n)

/-- Make every leg of a port wait for the lead's phase instant (R212). -/
def State.legsArm (s : State) (n : Fin 16) : State :=
  (s.legsOf n).foldl (fun t k => if t.slicePresent k then t.modSlice k (fun x => { x with startPending := true, stopPending := false, dutyNext := 0, dutyPrev := 0 }) else t) s

/-- Does a port's stage run, or wait for its start instant? A frozen leg that is to stop runs no stage any more. -/
def State.stageOn (s : State) (n : Fin 16) : Bool :=
  (s.legsOf n).any (fun k => (s.bit (RAF_STAT.RUN k) && !s.slices[k].stopPending) || s.slices[k].startPending)

/-- Is a leg of a port frozen (R214)? -/
def State.legFrozen (s : State) (n : Fin 16) : Bool := (s.legsOf n).any s.frozen

/-- Release the slices a structure names: PORT, LEG, LEAD and LENT of each leg (R198, R199, R200). -/
def State.nameLegs (s : State) (n : Fin 16) (legs : List Nat) : State :=
  (legs.zipIdx).foldl (fun t (kl : Nat × Nat) =>
    if h : kl.1 < 48 then
      let k : Fin 48 := ⟨kl.1, h⟩
      (((t.put (RAF_STAT.PORT k) n.val).put (RAF_STAT.LEG k) kl.2).flag (RAF_STAT.LEAD k) (kl.2 == 0)).flag (RAF_STAT.LENT k) (ownerOf k != n.val)
    else t) s

/-- Take a port's slices back: driven by nothing. -/
def State.dropLegs (s : State) (n : Fin 16) : State :=
  (s.legsOf n).foldl (fun t k =>
    ((((t.stopSlice k).put (RAF_STAT.PORT k) 31).put (RAF_STAT.LEG k) 3).clear (RAF_STAT.LEAD k)).clear (RAF_STAT.LENT k)) s

end Sys2Proof.Machine
end

