-- ==== Sys2Proof/Machine/Truss.lean ====
section
/-!
DEFINITION. The Ridge window and the Truss ledger (R164 to R187): the record of an op, entering the window with a rotating tag,
room and overflow per source, cancels with hold release and the re-offer rule, the ledger's sums, holds, admission and deficit.
-/

namespace Sys2Proof.Machine

/-! ### Op record (R164) -/

/-- The 64-bit record of an op (R164). -/
def Op.record (o : Op) : BitVec 64 :=
  BitVec.ofNat 64 (b2n o.tent <<< 63 ||| b2n o.pv <<< 62 ||| (o.port % 32) <<< 57 ||| (o.cls % 16) <<< 53 ||| (o.src % 16) <<< 49
    ||| (o.tag % 256) <<< 41 ||| (o.pred % 256) <<< 33 ||| b2n o.guard <<< 32 ||| (o.sub % 16) <<< 28 ||| o.arg % 2 ^ 28)

/-- Op classes (R165). -/
def clsSETP : Nat := 0
def clsLIM : Nat := 1
def clsMSG : Nat := 2
def clsSW : Nat := 3
def clsMEAS : Nat := 4
def clsTRUSS : Nat := 5
def clsLOG : Nat := 6
def clsTIME : Nat := 7
def clsCFG : Nat := 8

/-- Op sources (R166). -/
def srcPd : Nat := 5
def srcTimers : Nat := 6
def srcBatten : Nat := 7
def srcSweep : Nat := 8
def srcSoffit : Nat := 9
def srcJotil : Nat := 4

/-- The port number of global ops (R164). -/
def portGlobal : Nat := 16

/-- A plain op, to be given the fields that differ. -/
def Op.mk0 (port cls src sub arg : Nat) : Op :=
  { tent := false, pv := false, port := port, cls := cls, src := src, tag := 0, pred := 0, guard := false, sub := sub, arg := arg,
    payload := 0, reg := none, txn := none, hp := none, answer := none, members := [], predictor := false, staged := false, pos := 0, at_us := 0 }

/-- The voltage and current fields of a SETP op's ARG (R165): 10 mV units, mA. -/
def setpArg (v10 ma : Nat) : Nat := v10 % 2 ^ 13 + (ma % 2 ^ 15) <<< 13
def setpV (arg : Nat) : Nat := arg % 2 ^ 13
def setpI (arg : Nat) : Nat := (arg >>> 13) % 2 ^ 15
/-- The FUSEIDX and reference current of a LIM op's ARG (R165). -/
def limArg (idx ma : Nat) : Nat := idx % 16 + (ma % 2 ^ 15) <<< 13
def limIdx (arg : Nat) : Nat := arg % 16

/-! ### The ledger (R180) -/

/-- Sum over the ports. -/
def sumPorts (f : Fin 16 → Nat) : Nat := allPorts.foldl (fun k n => k + f n) 0

def State.floorOf (s : State) (n : Fin 16) : Nat := s.get (TRS_ALLOC.FLOOR n)
def State.allocOf (s : State) (n : Fin 16) : Nat := s.get (TRS_ALLOC.ALLOC n)
/-- The hold of a port, 0 when it has none. -/
def State.holdOf (s : State) (n : Fin 16) : Nat := if s.bit (TRS_HOLD.VALID n) then s.get (TRS_HOLD.HOLD n) else 0
def State.floorSum (s : State) : Nat := sumPorts s.floorOf
def State.allocSum (s : State) : Nat := sumPorts s.allocOf
def State.heldSum (s : State) : Nat := sumPorts s.holdOf

/-- E, the effective budget (R180), under a Batten cut while one holds (R289). -/
def State.effBudget (s : State) : Nat :=
  let e := if s.bit TRS_STAT.CHAIN then s.get TRS_SHARE.SHARE else s.get TRS_BUDGET.BUDGET
  match s.ridge.cut with
  | none => e
  | some c => min e (max c s.floorSum)

/-- free = E − Σ alloc − Σ hold (R180). -/
def State.trussFree (s : State) : Int := (s.effBudget : Int) - (s.allocSum : Int) - (s.heldSum : Int)

/-- avail(n) = alloc(n) + max(0, free) (R180). -/
def State.avail (s : State) (n : Fin 16) : Nat := s.allocOf n + s.trussFree.toNat

/-- The published demand (R180). -/
def State.demand (s : State) : Nat := s.allocSum + s.heldSum

/-- Update the window. -/
def State.modRidge (s : State) (f : RidgeSt → RidgeSt) : State := { s with ridge := f s.ridge }

/-! ### Cancels, holds and re-offers (R175, R178, R186) -/

/-- The re-offer rule of R178: each other port that composed an offer in the last 50 ms which the released hold trimmed is marked. -/
def State.reofferFor (s : State) (own : Nat) (tag : Nat) : State :=
  allPorts.foldl (fun t m =>
    let p := t.ports[m]
    if m.val != own && p.offerTrims.contains tag && decide (t.now ≤ p.offerAt + 50000)
    then t.maskBit RDG_REOFFER.PORT m.val true else t) s

/-- Remove the hold of a port, with the re-offer rule when the release comes from a cancel (R178). -/
def State.releaseHold (s : State) (n : Fin 16) : State :=
  if s.bit (TRS_HOLD.VALID n) then
    let tag := s.get (TRS_HOLD.TAG n)
    (s.wr (TRS_HOLD.at n) 0).reofferFor n.val tag
  else s

/-- What goes with a tentative op when it is cancelled: the shadow bank is emptied, the armed curve disarmed, the hold released (R174, R178). -/
def State.unstage (s : State) (o : Op) : State :=
  if h : o.port < 16 then
    let n : Fin 16 := ⟨o.port, h⟩
    if o.cls = clsSETP then (s.modPort n (fun p => { p with shadow := none })).clear (PLP_STATUS.SHADOW n)
    else if o.cls = clsLIM then s.modPort n (fun p => { p with armed := none })
    else if o.cls = clsTRUSS ∧ s.bit (TRS_HOLD.VALID n) ∧ s.get (TRS_HOLD.TAG n) = o.tag then s.releaseHold n
    else s
  else s

/-- Remove the ops with a given test from the window, undoing the staging of each tentative one and counting it (R175). -/
def State.cancelWhere (s : State) (p : Op → Bool) : State :=
  let gone := s.ridge.window.filter (fun o => o.tent && p o)
  let t := s.modRidge (fun r => { r with window := r.window.filter (fun o => !(o.tent && p o)) })
  gone.foldl (fun t o => (t.unstage o).wrapInc RDG_CNT1.CANCEL) t

/-- A named cancel of one tag, among the ops that it may mean: the tentative op goes with every op whose PRED names it; a tag that names none is a late
cancel (R175, R186). -/
def State.cancelTag (s : State) (own : Op → Bool) (tag : Nat) : State :=
  if s.ridge.window.any (fun o => o.tent && o.tag == tag && own o) then
    s.cancelWhere (fun o => (o.tag == tag && own o) || (o.pv && o.pred == tag))
  else (s.satInc RDG_CNT1.LATE).fire 0x118 tag

/-- Cancel the tentative op with a tag (R186). -/
def State.cancelNamed (s : State) (tag : Nat) : State := s.cancelTag (fun _ => true) tag

/-- A named cancel of several tags, one after the other. -/
def State.cancelTags (s : State) (own : Op → Bool) (tags : List Nat) : State := tags.foldl (fun t k => t.cancelTag own k) s

/-- Cancel whatever tentative ops a port has; it is never late (R186). -/
def State.cancelPort (s : State) (port : Nat) : State := s.cancelWhere (fun o => o.port == port)

/-- Ask for a cancel: it is resolved after the commits of the slot (R169). -/
def State.ask (s : State) (c : CancelReq) : State := s.modRidge (fun r => { r with cancels := r.cancels ++ [c] })

/-- Resolve one cancel (R186): the named ones may be late, the others never. -/
def State.resolve (s : State) (c : CancelReq) : State :=
  match c with
  | .named tag => s.cancelNamed tag
  | .portWide p => s.cancelPort p
  | .group m tags => s.cancelTags (fun o => o.pv && o.pred == m) tags
  | .rest m => s.cancelWhere (fun o => o.pv && o.pred == m)

/-- The cancels that wait are resolved after the commits (R169). -/
def State.resolveCancels (s : State) : State := s.ridge.cancels.foldl State.resolve (s.modRidge (fun r => { r with cancels := [] }))

/-- The newest tentative hold in the window. -/
def State.newestHold (s : State) : Option Op :=
  s.ridge.window.reverse.find? (fun o => o.tent && o.cls == clsTRUSS &&
    (if h : o.port < 16 then s.bit (TRS_HOLD.VALID ⟨o.port, h⟩) && s.get (TRS_HOLD.TAG ⟨o.port, h⟩) == o.tag else false))

/-- Cancel tentative holds, newest first, until free is not below 0 or none is left (R183 step 1). -/
def State.dropHolds : Nat → State → State
  | 0, s => s
  | k + 1, s =>
    if 0 ≤ s.trussFree then s
    else match s.newestHold with
      | none => s
      | some o => State.dropHolds k (s.cancelNamed o.tag)

/-- The deficit is over (R183 step 5): a deficit offer that falls due from now on is not sent. -/
def State.endDeficit (s : State) : State :=
  allPorts.foldl (fun v n => v.modPort n (fun p => { p with deficitDue := 0 })) (s.clear TRS_STAT.DEFICIT)

/-- After a change of E or a rise of floors: R183 steps 1 to 3. -/
def State.resolveDeficit (s : State) : State :=
  if 0 ≤ s.trussFree then s.endDeficit
  else
    let t := s.dropHolds 16
    if 0 ≤ t.trussFree then t.endDeficit
    else
      let u := if t.bit TRS_STAT.DEFICIT then t else (t.raise TRS_STAT.DEFICIT).fire 0x11B
      allPorts.foldl (fun v n => if v.floorOf n < v.allocOf n then v.modPort n (fun p => { p with deficitDue := 1 }) else v) u

/-- DEFICIT clears when free is not below 0 (R183 step 5). -/
def State.settleDeficit (s : State) : State := if s.bit TRS_STAT.DEFICIT && decide (0 ≤ s.trussFree) then s.endDeficit else s

/-- E or a floor changes within a slot: R183 acts when the ledger is updated at its end (R169). -/
def State.changeE (s : State) : State := s.modRidge (fun r => { r with recheck := true })

/-- After the commits of a slot: the cancels, then the ledger (R169). -/
def State.endSlot (s : State) : State :=
  let t := s.resolveCancels.modRidge (fun r => { r with disabled := [] })
  if t.ridge.recheck then (t.modRidge (fun r => { r with recheck := false })).resolveDeficit else t.settleDeficit

/-- Give a port its allocation. -/
def State.setAlloc (s : State) (n : Fin 16) (w : Nat) : State := s.put (TRS_ALLOC.ALLOC n) w

/-- On detach, Hard Reset or loss of the port island alloc(n) falls to floor(n) (R181). -/
def State.allocToFloor (s : State) (n : Fin 16) : State := (s.setAlloc n (s.floorOf n)).settleDeficit

/-- P(n) as the ledger holds it: of the contract in force, and of one that has committed and is larger (R180, R181). -/
def State.heldPower (s : State) (n : Fin 16) : Nat :=
  let d := s.ports[n].pd
  max d.contractPower ((d.trans.map Transition.power).getD 0)

/-- Set a port's floor: alloc(n) is the larger of it and P(n) (R180). -/
def State.setFloor (s : State) (n : Fin 16) (w : Nat) : State := (s.put (TRS_ALLOC.FLOOR n) w).setAlloc n (max w (s.heldPower n))

/-- Does R181 place a hold for P(new) now: H = P(new) − alloc(n) with H > 0 and H ≤ free, no deficit, and the port has none? -/
def State.holdable (s : State) (n : Fin 16) (pNew : Nat) : Bool :=
  decide (s.allocOf n < pNew) && decide (((pNew - s.allocOf n : Nat) : Int) ≤ s.trussFree) && !s.bit (TRS_HOLD.VALID n) && !s.bit TRS_STAT.DEFICIT

/-- Place a tentative hold (R181). -/
def State.placeHold (s : State) (n : Fin 16) (pNew tag : Nat) : State :=
  if s.holdable n pNew
  then ((s.put (TRS_HOLD.HOLD n) (pNew - s.allocOf n)).put (TRS_HOLD.TAG n) tag).raise (TRS_HOLD.VALID n)
  else s

/-- Would Truss grant a contract of P(new) at the MSG commit (R181)? -/
def State.admits (s : State) (n : Fin 16) (pNew : Nat) : Bool :=
  decide ((pNew : Int) - (s.allocOf n : Int) ≤ s.trussFree + (s.holdOf n : Int))

/-- Admission (R181): the hold becomes allocation, and alloc(n) becomes max(floor(n), P(new)) when the new contract is larger; R178 does not apply (R179). -/
def State.allocate (s : State) (n : Fin 16) (pNew : Nat) : State :=
  let t := s.wr (TRS_HOLD.at n) 0
  if t.allocOf n < pNew then t.setAlloc n (max (t.floorOf n) pNew) else t

/-! ### Entering the window (R164, R167, R172) -/

/-- The first free tag after the last one given, in rotation (R164). -/
def freeTag (w : List Op) (last : Nat) : Nat → Option Nat
  | 0 => none
  | k + 1 =>
    let t := (last + (256 - k)) % 256
    if w.any (fun o => o.tag == t) then freeTag w last k else some t

/-- Ops of a port in the window. -/
def occPort (w : List Op) (port : Nat) : Nat := (w.filter (fun o => o.port == port)).length

/-- PD-engine ops of a port in the window; the first four lie in the port's reserved entries (R167). -/
def occPd (w : List Op) (port : Nat) : Nat := (w.filter (fun o => o.port == port && o.src == srcPd)).length

/-- Shared entries in use (R167). -/
def sharedUsed (w : List Op) : Nat :=
  (w.filter (fun o => o.src != srcPd)).length + sumPorts (fun n => occPd w n.val - 4)

/-- Has the window room for an op (R167)? -/
def hasRoom (w : List Op) (o : Op) : Bool :=
  (o.port == portGlobal || decide (occPort w o.port < 24)) &&
  (if o.src == srcPd then decide (occPd w o.port < 4) || decide (sharedUsed w < 192) else decide (sharedUsed w < 192)) &&
  (match o.hp with
   | none => true
   | some hp => o.port == portGlobal || decide ((w.filter (fun q => q.port == o.port && q.hp == some hp)).length < 20)) &&
  decide (w.length < 256)

/-- Put an op into the window with the next tag (R164). -/
def State.push (s : State) (o : Op) : State :=
  match freeTag s.ridge.window s.ridge.lastTag 256 with
  | none => s
  | some t => s.modRidge (fun r => { r with window := r.window ++ [{ o with tag := t, at_us := s.soffit.uptime }], lastTag := t })

/-- One op has committed (RDG_CNT0). -/
def State.counted (s : State) : State := s.wrapInc RDG_CNT0.COMMITTED

/-- An op that enters and commits within one command takes the next tag and is counted (R164, R168). -/
def State.passOp (s : State) : State :=
  match freeTag s.ridge.window s.ridge.lastTag 256 with
  | none => s.counted
  | some t => (s.modRidge (fun r => { r with lastTag := t })).counted

/-- Does an op of the same source for the same port wait already (R170 rules 2 and 5)? -/
def waitsBehind (ws : List Op) (o : Op) : Bool := ws.any (fun q => q.src == o.src && q.port == o.port)

/-- How many ops of a source wait outside the window. -/
def State.waitingOf (s : State) (src : Nat) : Nat := (s.ridge.waiting.filter (fun o => o.src == src)).length

/-- An internal source offers an op: it enters, or waits, or is dropped, by the table of R172. Nothing enters while Ridge is out. -/
def State.offer (s : State) (o : Op) : State :=
  if !s.islandUp islRidge then s
  else if !waitsBehind s.ridge.waiting o && hasRoom s.ridge.window o then s.push o
  else if o.src == srcPd then
    if ¬ o.tent then s.modRidge (fun r => { r with waiting := r.waiting ++ [o] }) else s
  else if s.waitingOf o.src < 16 then s.modRidge (fun r => { r with waiting := r.waiting ++ [o] })
  else if o.src == srcJotil then s
  else (s.satInc RDG_CNT1.DROP).fire 0x119

/-- Enter all the ops of a host transaction or none (R173). -/
def State.pushAll (s : State) (os : List Op) : Option State :=
  let t := os.foldl (fun acc o =>
    match acc with
    | none => none
    | some u => if hasRoom u.ridge.window o then some (u.push o) else none) (some s)
  t

end Sys2Proof.Machine
end

