-- ==== Sys2Proof/Machine/PortOps.lean ====
section
/-!
DEFINITION. What happens to a port as a whole, as shared operations: tallies with their class actions (R293, R294), latches
(R124, R125), VCONN reservations (R112), fuse curves (R256 to R258), opening Eave and the fault path (R261, R262), Gutter discharge
(R264), the stage-fault path (R244), ErrorRecovery (R104), detach (R104, R106) and the reset of the PD engine (R131).
-/

namespace Sys2Proof.Machine

/-! ### Tallies (R293, R294) -/

def tallyCCOV : Nat := 0
def tallyVCONN : Nat := 1
def tallyPROBE : Nat := 2
def tallyPDHR : Nat := 3
def tallyRAFTRIP : Nat := 4
def tallyLOOP : Nat := 5
def tallyEAVE : Nat := 6
def tallyGUTTER : Nat := 7

/-- Index of a port tally (R294). -/
def portTally (n : Fin 16) (c : Nat) : Nat := 8 * n.val + c

/-- Give a key of an association list a value. -/
def assocSet {β : Type} (l : List (Nat × β)) (k : Nat) (v : β) : List (Nat × β) := (k, v) :: l.filter (fun p => p.1 != k)

/-- Look a key up in an association list. -/
def assocGet {β : Type} (l : List (Nat × β)) (k : Nat) : Option β := (l.find? (fun p => p.1 == k)).map Prod.snd

/-- The 16 bins of a tally, present bin first. -/
def State.binsOf (s : State) (t : Nat) : List Nat := (assocGet s.bat.bins t).getD (List.replicate 16 0)

/-- Give a tally its bins and show the count, their sum saturating at 255. -/
def State.setBins (s : State) (t : Nat) (b : List Nat) : State :=
  ({ s with bat := { s.bat with bins := assocSet s.bat.bins t b } }).put (BAT_TALLY1.COUNT t) (min 255 b.sum)

/-- Count k in a tally: true when the count reaches the threshold; then E116 fires, FIRED counts and the bins are cleared (R293).
Nothing is counted while the Batten island is lost or halted (R29, R483). -/
def State.tallyAdd (s : State) (t k : Nat) : Bool × State :=
  if !s.islandUp islBatten || s.halted islBatten || s.get (BAT_TALLY0.THRESH t) == 0 then (false, s)
  else
    let b := s.binsOf t
    let s1 := s.setBins t ((b.headD 0 + k) :: b.tail)
    if s1.get (BAT_TALLY0.THRESH t) ≤ min 255 (s1.binsOf t).sum then
      (true, ((s1.setBins t (List.replicate 16 0)).satInc (BAT_TALLY1.FIRED t)).fire 0x116 t)
    else (false, s1)

/-- Set PCC_STATUS.LATCHED with the copy Soffit holds (R124, R125). -/
def State.latch (s : State) (n : Fin 16) : State :=
  (s.raise (PCC_STATUS.LATCHED n)).modPort n (fun p => { p with latched := true })

/-- Count in a port tally whose action is LATCHED (R294). -/
def State.tallyLatch (s : State) (n : Fin 16) (c : Nat) : State :=
  match s.tallyAdd (portTally n c) 1 with
  | (true, t) => t.latch n
  | (false, t) => t

/-- Count a global tally whose only action is E116 (R294). -/
def State.tallyPlain (s : State) (t : Nat) : State := (s.tallyAdd t 1).2

/-! ### VCONN (R111, R112) -/

/-- A reservation code as half watts. -/
def vconnHalf (code : Nat) : Nat := if code = 1 then 1 else if code = 2 then 3 else 0

/-- Half watts reserved by all ports; the budget is 16 (R112). -/
def State.vconnUsed (s : State) : Nat := sumPorts (fun n => vconnHalf (s.get (PCC_VCONN.RES n)))

/-- Remove VCONN from a port and return its reservation (R112). -/
def State.vconnOff (s : State) (n : Fin 16) : State :=
  ((s.clear (PCC_STATUS.VCONNON n)).clear (PCC_VCONN.RES n)).clear (PCC_VCONN.IMA n)

/-- Clear the cable record (R104): what discovery found in this attach. -/
def State.clearCable (s : State) (n : Fin 16) : State :=
  ((((s.wr (PCC_CABLE.at n) 0).wr (PCC_IDHDR.at n) 0).wr (PCC_CABLEVDO.at n) 0).wr (PCC_FARVDO.at n) 0).wr (PCC_LENGTH.at n) 0

/-- The cable is unknown (R115): the lowest record, keeping attempts and what has been received. -/
def State.cableUnknown (s : State) (n : Fin 16) : State :=
  (((((s.put (PCC_CABLE.KIND n) 1).put (PCC_CABLE.IMAX n) 0).put (PCC_CABLE.VMAX n) 0).clear (PCC_CABLE.EPR n))).wr (PCC_LENGTH.at n) 0

/-- VCONN is not granted, or is withdrawn: VCONNLOW, and the cable is unknown (R111, R112, R115). Discovery ends with it. -/
def State.vconnRefuse (s : State) (n : Fin 16) : State :=
  (((s.vconnOff n).raise (PCC_CABLE.VCONNLOW n)).cableUnknown n).modPort n (fun p => { p with pd := { p.pd with discovering := false } })

/-- Room for so many half watts of a port: the reservations that ports with higher numbers made in the same commit slot give way, the highest first, when that
makes the room (R112). -/
def State.vconnRoom (s : State) (n : Fin 16) (need : Nat) : State :=
  let later := allPorts.reverse.filter (fun m => decide (n.val < m.val) && s.ridge.vconn.contains m.val)
  let t := later.foldl (fun t m => if t.vconnUsed + need ≤ 16 then t else t.vconnRefuse m) s
  if t.vconnUsed + need ≤ 16 then t else s

/-- Give a port a reservation, noted for the commit slot (R112). -/
def State.vconnReserve (s : State) (n : Fin 16) (code : Nat) : State :=
  (s.put (PCC_VCONN.RES n) code).modRidge (fun r => { r with vconn := r.vconn ++ [n.val] })

/-- Apply VCONN when R111 allows it, else the cable is unknown and VCONNLOW is set. A cable already known as active when VCONN is applied again after a Hard Reset
reserves 0.5 W, as every application does; no later identity raises it (DESIGN CHOICE, assumption log 130). -/
def State.vconnOn (s : State) (n : Fin 16) : State :=
  let t := if s.bit (PCC_CFG.VCONNEN n) && !s.bit (PCC_STATUS.VCONNLATCH n) then s.vconnRoom n 1 else s
  if t.bit (PCC_CFG.VCONNEN n) && !t.bit (PCC_STATUS.VCONNLATCH n) && decide (t.vconnUsed + 1 ≤ 16) then (t.raise (PCC_STATUS.VCONNON n)).vconnReserve n 1
  else t.vconnRefuse n

/-! ### The loop's estimates (R237, R238) -/

/-- Clear the cable estimate Rc and its measurements (R237). -/
def State.clearRc (s : State) (n : Fin 16) : State :=
  (s.modPort n (fun p => { p with loop := { p.loop with rm := [], rc := 0 } })).clear (PLP_COMP.RC n)

/-- Compensation goes to 0 at once (R238, Eave open). -/
def State.clearComp (s : State) (n : Fin 16) : State :=
  ((s.modPort n (fun p => { p with loop := { p.loop with comp := 0 } })).clear (PLP_COMP.COMP n)).clear (PLP_STATUS.COMPON n)

/-! ### Fuse curves (R256 to R258) -/

/-- Multiplier k of base i in force (R75, R256). -/
def State.multOf (s : State) (n : Fin 16) (i k : Nat) : Nat :=
  let w := s.rd (PEV_BASE.at n i (1 + k / 2))
  if k % 2 = 0 then w.toNat % 65536 else w.toNat / 65536

/-- Select a curve by its FUSEIDX, a four-bit field (R256, R258): staged base words take effect at the selection (R268). -/
def State.selectCurve (s : State) (n : Fin 16) (idx iref : Nat) : State × Curve :=
  let i := idx % 16
  let t := s.takeStagedAll ((List.range 9).map (fun w => PEV_BASE.at n i w))
  let f := t.rd (PEV_BASE.at n i 0)
  let mv := if t.bit (PEV_STATUS.DIR n) then min (f.toNat % 256) 80 else f.toNat % 256
  (t, { fuseIdx := i, iref := iref, fastmv := mv, levels := (List.range 16).map (fun k => t.multOf n i k * iref / 4096) })

/-- The ROM curve of Level 1 (R267). -/
def romCurve (iref : Nat) : Curve :=
  { fuseIdx := 0, iref := iref, fastmv := 60,
    levels := (List.range 16).map (fun k => (if k < 4 then 0x4000 else if k < 10 then 0x2000 else 0x1400) * iref / 4096) }

/-- Levels of the curve in force: during a transition the higher of both at each point (R258). -/
def EaveSt.levels (e : EaveSt) : List Nat :=
  match e.cur, e.next with
  | some c, some d => (c.levels.zip d.levels).map (fun p => max p.1 p.2)
  | some c, none => c.levels
  | none, some d => d.levels
  | none, none => []

/-- Fast-trip threshold in force (R258). -/
def EaveSt.fastmv (e : EaveSt) : Nat :=
  match e.cur, e.next with
  | some c, some d => max c.fastmv d.fastmv
  | some c, none => c.fastmv
  | none, some d => d.fastmv
  | none, none => 0

/-- Full scale of the current ADC in mA at the port's shunt, in the port's role direction (R223). -/
def State.fullScale (s : State) (n : Fin 16) : Nat :=
  (if s.bit (PEV_STATUS.DIR n) then 800000 else 2399200) / max 1 (s.get (PLP_CFG.RSHUNT n))

/-- Show the curve in force in PEV_CURVE, with CLIPPED for a level above full scale (R256). -/
def State.showCurve (s : State) (n : Fin 16) : State :=
  let e := s.ports[n].eave
  let top := match e.next with
    | some d => some d
    | none => e.cur
  match top with
  | none => s.wr (PEV_CURVE.at n) 0
  | some d =>
    let t := s.wr (PEV_CURVE.at n)
      (BitVec.ofNat 32 (d.fuseIdx % 16 + 16 + 32 * b2n (e.next.isSome && e.cur.isSome) + e.fastmv % 256 * 256 + d.iref % 65536 * 65536))
    if e.levels.any (fun l => decide (t.fullScale n < l)) then t.raise (PEV_FLAGS.CLIPPED n) else t

/-- Put one curve in force (R258); every accumulator is kept (R257). -/
def State.setCurve (s : State) (n : Fin 16) (c : Option Curve) : State :=
  (s.modPort n (fun p => { p with eave := { p.eave with cur := c, next := none } })).showCurve n

/-- The curve in force once a transition is over: the new one alone (R258). Without a contract it stays until the next attach gives one. -/
def State.settleCurve (s : State) (n : Fin 16) : State :=
  s.setCurve n (match s.ports[n].eave.next with
    | some c => some c
    | none => s.ports[n].eave.cur)

/-- The current of an Rp level in mA (R258). -/
def rpCurrent (lvl : Nat) : Nat := if lvl = 3 then 3000 else if lvl = 2 then 1500 else 900

/-- The entries of port n's POLICY and its entry k. -/
def State.entry (s : State) (n : Fin 16) (k : Nat) : PolicyEntry := (s.policy n).getD k { pdo := 0, b := 0 }

/-- Take the curve of R258 for the time without an explicit contract. -/
def State.implicitCurve (s : State) (n : Fin 16) : State :=
  match s.selectCurve n (s.entry n 0).fuseIdx (rpCurrent (s.get (PCC_STATUS.RPOUT n))) with
  | (t, c) => t.setCurve n (some c)

/-! ### The supply of drivers and gates (R36 to R38, R44) -/

/-- May a port run its stage and close its Eave: VHV is valid and within its window, or the port is the service port of Level 1, whose gate drive the
service LDO feeds, and no over-voltage bars it (R36, R37, R38, R44)? -/
def State.driveOk (s : State) (n : Fin 16) : Bool :=
  s.soffit.vhvOk || (s.ports[n].rom && s.get GLB_BOOTSTAT.LEVEL == 1 && !s.boot.ovBar)

/-! ### Gutter (R263 to R266) -/

/-- Show GUT as it is driven. -/
def State.setGut (s : State) (n : Fin 16) (on : Bool) (cause : Nat) : State :=
  (s.flag (PGT_STATUS.ON n) on).put (PGT_STATUS.CAUSE n) cause

/-- Start the discharge of R264: a source port whose VBUS_S stands at or above vSafe0V. It acts only in the source role, not while
GUT is in its fault path, and not without VHV (R44, R269). -/
def State.discharge (s : State) (n : Fin 16) : State :=
  if s.isSource n && !s.bit (PGT_STATUS.SAFE0 n) && !s.bit (PGT_STATUS.FAULT n) && s.bit GLB_SUPSTAT.VHVOK && s.get (PGT_STATUS.CAUSE n) != 1 then
    (s.setGut n true 1).wrapInc (PGT_COUNT.DISCH n)
  else s

/-- The ports of a list that hold a number below 16. -/
def portList (l : List Nat) : List (Fin 16) := allPorts.filter (fun n => l.contains n.val)

/-- Has a port concerned by a strip no VBUS (R87): below vSafe0V, or its island without power? An island whose region restarts is waited for (R94). -/
def State.vbusGone (s : State) (n : Fin 16) : Bool :=
  if s.portUp n then s.bit (PGT_STATUS.SAFE0 n) else !s.boot.closing.any (fun c => c.1 == n.val)

/-- Strip ends once VBUS of every port concerned is at vSafe0V: PHASE shows 4 until the change is written (R87). -/
def State.srSafe (s : State) : State :=
  if s.get THA_SRSTAT.PHASE = 3 ∧ s.islandUp islRidge ∧ s.tha.op.any (fun o => !o.live && decide (o.func < 16) && (portList o.ports).all s.vbusGone) then
    s.put THA_SRSTAT.PHASE 4
  else s

/-- Take the measured VBUS_S against vSafe0V (R264). -/
def State.seeVbus (s : State) (n : Fin 16) (below : Bool) : State :=
  let t := s.flag (PGT_STATUS.SAFE0 n) below
  if below then t.srSafe else t

/-- What VBUS_S reads against vSafe0V where Eave leaves its ramp: the spec does not say how far the ramp has come, so SAFE0 is a free
value (R252, R264). -/
def State.seeRamp (s : State) (n : Fin 16) : State :=
  if s.get (PEV_STATUS.STATE n) = 2 then
    match s.free with
    | (x, t) => t.seeVbus n !x.getLsbD 0
  else s

/-! ### The apply queue and cancels of R26 -/

/-- Discard the committed but unapplied SETP and SW ops of a port and its pending curve (R26, R259). -/
def State.dropApply (s : State) (n : Fin 16) : State :=
  ((s.modPort n (fun p => { p with
      applyQ := p.applyQ.filter (fun o => !(o.cls == clsSETP || o.cls == clsSW || o.cls == clsLIM)),
      shadow := none, armed := none })).clear (PLP_STATUS.SHADOW n)).wr (PEV_PEND.at n) 0

/-- Ridge cancels the port's tentative ops in its next slot (R26); in an outage there are none. -/
def State.cancelLater (s : State) (n : Fin 16) : State :=
  if s.islandUp islRidge then s.ask (.portWide n.val) else s

/-- R26 for port n. -/
def State.dropOps (s : State) (n : Fin 16) : State := (s.dropApply n).cancelLater n

/-! ### The PD engine reset -/

/-- The protocol layer and policy engine after a reset (R131, R162). -/
def PdSt.fresh : PdSt := PdSt.reset

/-- Update the PD engine of a port. -/
def State.modPd (s : State) (n : Fin 16) (f : PdSt → PdSt) : State := s.modPort n (fun p => { p with pd := f p.pd })

/-- The predictor's run ends (R184). -/
def State.endRun (s : State) (n : Fin 16) : State :=
  (s.modPd n (fun d => { d with run := [], predTags := [], missRow := 0 })).wr (RDG_PRED.at n) 0

/-- The protocol layer is reset (R131, R143): MessageID counters, messages in flight, the AMS. -/
def State.protoReset (s : State) (n : Fin 16) : State :=
  s.modPd n (fun d => { d with
    txId := [0, 0, 0], rxId := [none, none, none], out := [], retries := 0, ams := none, chunkRx := none,
    rxBuf := [], chunkTx := none, discovering := false, eprWait := false, lastSoft := false })

/-- No contract: registers and bookkeeping of the contract (R139, R142). -/
def State.noContract (s : State) (n : Fin 16) : State :=
  let t := ((((s.clear (PPD_STATUS.CONTRACT n)).clear (PPD_STATUS.KIND n)).clear (PPD_STATUS.EPRMODE n)).wr (PPD_CONTRACT.at n) 0).wr (PPD_CONTRACTVI.at n) 0
  (t.modPd n (fun d => { d with trans := none, reqRdo := none, contractPos := 0, contractPower := 0 })).endRun n

/-- The data role a port starts with (R144): DFP on a source port, UFP on a service port. -/
def State.startRole (s : State) (n : Fin 16) : State := s.flag (PPD_STATUS.DROLE n) (s.isService n)

/-- The revision a port runs at from attach and after a Hard Reset, until the partner's first message: 3.x, or 2.0 with REV20 (R130). -/
def State.freshRev (s : State) (n : Fin 16) : State := s.put (PPD_STATUS.REV n) (if s.bit (PPD_CFG.REV20 n) then 1 else 2)

/-- The PD engine is reset (R104, R131): policy Disabled, no contract, data role as at attach, allocation at the floor (R181), and no offer pending that a
released hold called for (R185). -/
def State.pdReset (s : State) (n : Fin 16) : State :=
  let t := (s.noContract n).modPd n (fun _ => PdSt.fresh)
  let t := (((t.clear (PPD_STATUS.PSTATE n)).clear (PPD_STATUS.REV n)).clear (PPD_STATUS.HRCOUNT n)).clear (PPD_STATUS.BRACE n)
  let t := (List.range 11).foldl (fun u k => u.wr (PPD_OFFER.at n k) 0) (t.wr (PPD_OFFERINFO.at n) 0)
  let t := (t.modPort n (fun p => { p with offerTrims := [], deficitDue := 0 })).maskBit RDG_REOFFER.PORT n.val false
  (t.startRole n).allocToFloor n

/-! ### Opening Eave -/

/-- Eave opens (R255, R257, R238): state OPEN, accumulators cleared, compensation at 0, and a discharge when VBUS stands (R264). -/
def State.eaveOpen (s : State) (n : Fin 16) : State :=
  let t := ((s.seeRamp n).clear (PEV_STATUS.STATE n)).modPort n (fun p => { p with eave := { p.eave with acc := List.replicate 16 0 } })
  ((t.wr (PEV_ACC.at n) 0).clearComp n).discharge n

/-- Is Eave other than open? -/
def State.eaveLive (s : State) (n : Fin 16) : Bool := s.get (PEV_STATUS.STATE n) == 1 || s.get (PEV_STATUS.STATE n) == 2 || s.get (PEV_STATUS.STATE n) == 3

/-- Type-C states (PCC_STATUS.STATE). -/
def ccDisabled : Nat := 0
def ccErrorRecovery : Nat := 1
def ccUnattachedSrc : Nat := 2
def ccAttachWaitSrc : Nat := 3
def ccAttachedSrc : Nat := 4
def ccUnattachedWaitSrc : Nat := 5
def ccUnattachedSnk : Nat := 6
def ccAttachWaitSnk : Nat := 7
def ccAttachedSnk : Nat := 8

def State.cc (s : State) (n : Fin 16) : Nat := s.get (PCC_STATUS.STATE n)
def State.setCc (s : State) (n : Fin 16) (x : Nat) : State := s.put (PCC_STATUS.STATE n) x

/-- Leave an attached state: CCREF is no longer valid (R118), Rc is cleared (R237), orientation and accessory marks go. -/
def State.leaveAttach (s : State) (n : Fin 16) : State :=
  (((((s.clear (PCC_CCREF.VALID n)).clearRc n).clear (PCC_STATUS.ACC n)).clear (PCC_STATUS.VBUSPRES n)).clear (PCC_VCONN.FAIL n)).clear (PCC_STATUS.RPSEEN n)

/-- The depletion and the active Rd of ports 0 and 1, with DBRD (R40, R41): 0 none, 1 depletion, 2 both, 3 active. -/
def State.setRd (s : State) (n x : Nat) : State :=
  ({ s with boot := { s.boot with rd := s.boot.rd.set n x } }).flag (if n = 0 then SOF_DBSTAT.DBRD0 else SOF_DBSTAT.DBRD1) (x == 1 || x == 2)

/-- The active Rd of a service port is on both pins, or both pins are open (R106). The depletion Rd that still stands beside it goes by itself (R41). -/
def State.driveRd (s : State) (n : Fin 16) (on : Bool) : State :=
  if 2 ≤ n.val ∨ ¬ s.isService n ∨ (on ∧ s.boot.rd.getD n.val 0 = 2) then s else s.setRd n.val (if on then 3 else 0)

/-- Entry to ErrorRecovery (R104, R106): Rp and Rd off and CC open, VCONN off, Eave opens, Gutter discharges, the stage stops, the PD engine
and the cable record are reset, and the port's ops go as R26 gives. -/
def State.errRec (s : State) (n : Fin 16) : State :=
  let t := (((s.swLeave n).setCc n ccErrorRecovery).clear (PCC_STATUS.RPOUT n)).driveRd n false
  let t := (t.vconnOff n).legsOff n
  let t := if t.eaveLive n then t.eaveOpen n else t.discharge n
  let t := ((t.pdReset n).clearCable n).leaveAttach n
  ((t.settleCurve n).dropOps n).modPort n (fun p => { p with errElapsed := false, recPending := false, probing := false })

/-- The level of Rp before a contract (R101): from the floor, lowered by PCC_CFG.RPLVL. -/
def State.rpLevel (s : State) (n : Fin 16) : Nat :=
  let f := s.floorOf n
  let l := if 15 ≤ f then 3 else if 8 ≤ f then 2 else 1
  let c := s.get (PCC_CFG.RPLVL n)
  if c = 0 then l else min c l

/-- A source port without an explicit contract that presents Rp shows the level of its floor, also when the floor changes or a contract ends (R101). Before its
first check has ended it presents no Rp (R280). -/
def State.showRp (s : State) (n : Fin 16) : State :=
  if s.isSource n && (s.cc n == ccUnattachedSrc || s.cc n == ccAttachWaitSrc || s.cc n == ccAttachedSrc) && s.get (PPD_STATUS.CONTRACT n) == 0 &&
      !s.ports[n].val.first then
    s.put (PCC_STATUS.RPOUT n) (s.rpLevel n)
  else s

/-- Entry to Disabled (R104): Rp, Rd, VCONN, the probe and Eave off. -/
def State.enterDisabled (s : State) (n : Fin 16) : State :=
  let t := ((((s.setCc n ccDisabled).clear (PCC_STATUS.RPOUT n)).vconnOff n).driveRd n false).modPort n (fun p => { p with probing := false })
  if t.eaveLive n then t.eaveOpen n else t

/-- Classifications of CC1 and CC2. -/
def State.cls1 (s : State) (n : Fin 16) : Nat := s.get (PCC_STATUS.CC1CLS n)
def State.cls2 (s : State) (n : Fin 16) : Nat := s.get (PCC_STATUS.CC2CLS n)

/-- Rd, or Rp for a sink, on at least one pin. -/
def State.someRd (s : State) (n : Fin 16) : Bool := s.cls1 n == 2 || s.cls2 n == 2

/-- Is a port idle for a check: Disabled or Unattached with its stage stopped (R280)? -/
def State.checkIdle (s : State) (n : Fin 16) : Bool :=
  s.portUp n && !s.halted n.val && (s.cc n == ccDisabled || s.cc n == ccUnattachedSrc || s.cc n == ccUnattachedSnk) && !s.stageOn n

/-- A check of the five channels of a port begins with the first one; one that runs goes on (R280). A check that is to end before the port presents Rp
withholds it. -/
def State.startCheck (s : State) (n : Fin 16) (beforeRp : Bool := false) : State :=
  if s.checkIdle n && s.ports[n].val.testing.isNone then
    let t := (s.modPort n (fun p => { p with val := { p.val with testing := some 0, first := beforeRp } })).raise (PVL_STAT.RUN n)
    if beforeRp then t.clear (PCC_STATUS.RPOUT n) else t
  else s

/-- A check of the port's channels ends or is stopped, its result then discarded (R296); an idle source presents Rp from now on (R280). -/
def State.stopCheck (s : State) (n : Fin 16) : State :=
  ((s.modPort n (fun p => { p with val := { p.val with testing := none, first := false } })).clear (PVL_STAT.RUN n)).showRp n

/-- Rd or Rp recognised in an Unattached state: the attach wait, with the attach-candidate event (R104, R106). -/
def State.candidate (s : State) (n : Fin 16) : State :=
  if s.someRd n then ((s.stopCheck n).setCc n (if s.isService n then ccAttachWaitSnk else ccAttachWaitSrc)).firePort n 6 1 else s

/-- Entry to Unattached.SRC or Unattached.SNK (R104, R106): staged PCC_CFG and PCC_TIMERS take effect (R122); a source presents Rp, a
sink its active Rd; no probe runs. A classification that already stands is a candidate at once, or after a check that withholds Rp (R280). -/
def State.enterUnattached (s : State) (n : Fin 16) : State :=
  let t := (s.takeStaged (PCC_CFG.at n)).takeStaged (PCC_TIMERS.at n)
  let t := ((t.clear (PCC_STATUS.ACC n)).clear (PCC_STATUS.VBUSPRES n)).modPort n (fun p => { p with faultPath := false, probing := false })
  let t := if t.isService n then (t.setCc n ccUnattachedSnk).driveRd n true
    else ((((t.setCc n ccUnattachedSrc).showRp n).vconnOff n).wr (PCC_PROBE.at n) 0).clearCable n
  if t.ports[n].val.first then t else t.candidate n

/-- Where a port that may not attach goes: Disabled while DISABLE or LATCHED is 1, or, for a source port, while VHV is below UVLO (R44). -/
def State.mustStayDown (s : State) (n : Fin 16) : Bool :=
  s.bit (PCC_CTRL.DISABLE n) || s.bit (PCC_STATUS.LATCHED n) || !s.ports[n].en || (s.isSource n && !s.bit GLB_SUPSTAT.VHVOK)

/-- Exit from Disabled when R104 allows. -/
def State.leaveDisabled (s : State) (n : Fin 16) : State :=
  if s.cc n = ccDisabled ∧ ¬ s.mustStayDown n ∧ s.portUp n then s.enterUnattached n else s

/-- Is a port held in ErrorRecovery by a strip whose relay is to come (R87, R454)? -/
def State.stripping (s : State) (n : Fin 16) : Bool :=
  s.tha.strips.contains n.val || s.tha.strips.contains (32 + n.val) ||
  (decide (3 ≤ s.get THA_SRSTAT.PHASE) && s.tha.op.any (fun o => !o.live && o.ports.contains n.val))

/-- The registers of a port's block and of its own slices that it has not lent take their reset values. -/
def State.dropPortRegs (s : State) (n : Fin 16) : State :=
  let t := s.dropRegs (portBase n.val) (portBase n.val + 0x1000)
  allSlices.foldl (fun u k => if ownerOf k = n.val && !(s.bit (RAF_STAT.LENT k)) then
    (u.dropRegs (sliceBase k.val) (sliceBase k.val + 0x100)).modSlice k (fun _ => SliceSt.reset) else u) t

/-- A port island loses its power: its registers and its state go, but for the latches that Soffit holds (R125). -/
def State.unpower (s : State) (n : Fin 16) : State :=
  let p := s.ports[n]
  let t := (s.dropPortRegs n).modPort n (fun _ => { PortSt.reset with latched := p.latched, vconnLatched := p.vconnLatched })
  (((t.maskBit GLB_ISLPWR.ISL n.val false).maskBit GLB_ISLHALT.ISL n.val false).maskBit GLB_PLLSTAT.LOCK n.val false).maskBit GLB_PLLSTAT.CHAIN n.val false

/-- A port that a cold or warm reset sent through ErrorRecovery is done with it (R52): it is unpowered, ports 0 and 1 with their Rd back, where the boot has
not reached it or its image leaves its island down (R482). -/
def State.endRecov (s : State) (n : Fin 16) : State × Bool :=
  if s.boot.recov.contains n.val then
    let ps := structOf s.recs n.val
    let t : State := { s with boot := { s.boot with recov := s.boot.recov.filter (fun k => k != n.val) } }
    if s.boot.nextIsl = 32 ∨ s.boot.nextIsl ≤ n.val ∨ (ps.en = false ∧ ps.lend = 0) then
      let u := t.unpower n
      (if n.val < 2 then u.setRd n.val (if s.boot.thermal then 3 else 1) else u, true)
    else (t, false)
  else (s, false)

/-- Exit from ErrorRecovery (R104, R123, R269): tErrorRecovery elapsed, VBUS below vSafe0V on a source port, no pin above the
over-voltage threshold, no Gutter fault, and no strip that holds it (R87). -/
def State.leaveErrRec (s : State) (n : Fin 16) : State :=
  let p := s.ports[n]
  if s.cc n = ccErrorRecovery ∧ p.errElapsed ∧ (s.bit (PGT_STATUS.SAFE0 n) ∨ s.isService n) ∧ ¬ p.ccOver ∧ ¬ s.bit (PGT_STATUS.FAULT n) ∧ ¬ s.stripping n then
    match s.endRecov n with
    | (u, true) => u
    | (u, false) =>
      let t := (if u.get (PEV_STATUS.STATE n) = 4 then u.clear (PEV_STATUS.STATE n) else u).modPort n (fun q => { q with faultPath := false })
      if t.mustStayDown n then t.enterDisabled n else t.enterUnattached n
  else s

/-- A port leaves the hand-over of a Brace hold (R452): UPD_BRMASK marks it. -/
def State.leaveHand (s : State) (n : Fin 16) : State := if s.upd.hand.isSome then s.maskBit UPD_BRMASK.LEFT n.val true else s

/-- The stage-fault path joins an ErrorRecovery that a hard-route trip has begun (R240): PLP_STAGEFLT fires and the fault counts once in the LOOP tally. -/
def State.joinFault (s : State) (n : Fin 16) : State := (s.firePort n 11).tallyLatch n tallyLOOP

/-- The part of an Eave trip that follows the pull-down and the discard (R262). A feedback fault in confirmation joins it, but for the crossing of a window, which
ends the confirmation as a lasting fault of its own (R240, R243). -/
def State.tripPath (s : State) (n : Fin 16) (cause : Nat) : State :=
  let t := (s.legsOff n).modPort n (fun p => { p with faultPath := true, tripPending := none, pushBlocked := p.pushBlocked || p.rom })
  let t := ((t.discharge n).errRec n).firePort n 8 cause
  let t := if cause = 8 then t else t.tallyLatch n tallyEAVE
  if s.bit (PLP_STATUS.CONFIRM n) then t.joinFault n else t

/-- A further cause in the microsecond of a trip: its flag is set too, and CAUSE is the lowest code (R261, R268). -/
def State.joinTrip (s : State) (n : Fin 16) (cause : Nat) : State :=
  if s.ports[n].eave.tripNow && s.get (PEV_STATUS.STATE n) == 4 then
    (s.put (PEV_FLAGS.TRIP n) (s.get (PEV_FLAGS.TRIP n) ||| 2 ^ (cause - 1))).put (PEV_STATUS.CAUSE n) (min cause (s.get (PEV_STATUS.CAUSE n)))
  else s

/-- An Eave trip (R261, R262): flags and cause, the currents recorded, the pull-down, the discard of R26, which waits for nothing, and the fault path, which
waits for the clock of a halted island (R214, R215). A trip of an Eave that is open already opens nothing; one in the same microsecond joins the first. -/
def State.eaveTrip (s : State) (n : Fin 16) (cause : Nat) (point : Nat := 0) : State :=
  if !s.eaveLive n then s.joinTrip n cause
  else
    let l := s.ports[n].loop
    let t := ((s.seeRamp n).leaveHand n).put (PEV_FLAGS.TRIP n) (s.get (PEV_FLAGS.TRIP n) ||| 2 ^ (cause - 1))
    let t := ((t.put (PEV_STATUS.CAUSE n) cause).put (PEV_STATUS.STATE n) 4)
    let t := if cause = 3 then t.put (PEV_STATUS.POINT n) point else t
    let t := t.wr (PEV_TRIPI.at n) (BitVec.ofNat 32 (l.lastMa % 65536 + l.lastMv / 10 % 65536 * 65536))
    let t := (((t.modPort n (fun p => { p with eave := { p.eave with acc := List.replicate 16 0, tripNow := true } })).wr (PEV_ACC.at n) 0).clearComp n).dropOps n
    if t.halted n.val then t.modPort n (fun p => { p with tripPending := some cause, faultPath := true })
    else t.tripPath n cause

/-- The stage-fault path (R244): legs disabled and Eave open in the same step (no trip), discharge, ErrorRecovery, PLP_STAGEFLT, the LOOP tally. It joins
an ErrorRecovery that is running, and on a halted island it runs after the resume (R240): tripPending 9. -/
def State.stageFault (s : State) (n : Fin 16) : State :=
  if s.halted n.val then s.modPort n (fun p => { p with tripPending := some (p.tripPending.getD 9) })
  else
  let t := ((s.leaveHand n).legsOff n).modPort n (fun p => { p with faultPath := true })
  let t := if t.eaveLive n then t.eaveOpen n else t
  (if t.cc n = ccErrorRecovery then t else t.errRec n).joinFault n

/-- A cycle trip counts in the RAF_TRIP tally; at its threshold the stage-fault path runs (R219). -/
def State.countTrip (s : State) (n : Fin 16) : State :=
  match s.tallyAdd (portTally n tallyRAFTRIP) 1 with
  | (true, t) => t.stageFault n
  | (false, t) => t

/-- A selected trip input that is asserted acts on a slice at a time of its period outside blanking (R207, R208): P is cut for the rest of the period, once a period. -/
def State.cutSlice (s : State) (k : Fin 48) (at_ : Nat) : State :=
  let x := s.slices[k]
  if s.bit (RAF_STAT.RUN k) && !s.frozen k && !x.cut && (x.tripIn &&& s.get (RAF_CTRL.TRIPSEL k)) != 0 && !s.blanked k at_ then
    let t := s.modSlice k (fun y => y.cutAt at_ (s.bit (RAF_CTRL.TRIPACT k)) (s.get (RAF_DTNOW.FALL k)))
    let t := (t.raise (RAF_IFLG.TRIP k)).satInc (RAF_TRIPCNT.TRIPS k)
    match s.driver k with
    | none => t
    | some n => (t.firePort n 15).countTrip n
  else s

/-- A trip input of a port takes a level on every slice the port drives, so many fine steps after the period start of the lead: bit 0 fast current, bit 1 VBUS OV
(R208, R283). A slice whose blanking window is open keeps the input for the end of the window (R207). -/
def State.tripInput (s : State) (n : Fin 16) (bit : Nat) (on : Bool) (at_ : Nat) : State :=
  (s.legsOf n).foldl (fun t k =>
    let u := t.modSlice k (fun y => { y with tripIn := setBitTo y.tripIn bit on })
    if on then u.cutSlice k (s.legTime k at_) else u) s

/-- The SW op of a detach (R104, R122): Eave opens, the stage stops, Gutter discharges, the PD engine is reset, the ops of the port go. -/
def State.detach (s : State) (n : Fin 16) : State :=
  let s := s.leaveHand n
  let t := if s.eaveLive n then (s.swLeave n).eaveOpen n else s.swLeave n
  let t := (((t.legsOff n).pdReset n).dropOps n).leaveAttach n
  let t := ((t.settleCurve n).clearCable n).firePort n 6 3
  if t.isService n then t.enterUnattached n
  else if t.bit (PCC_STATUS.VCONNON n) then (t.vconnOff n).setCc n ccUnattachedWaitSrc
  else t.enterUnattached n

/-- Go to ErrorRecovery by command (PCC_CMD.ERRREC, PERR, R289): not from Disabled, where nothing is presented. A halted port island enters it when its clock
resumes (R214). -/
def State.goErrRec (s : State) (n : Fin 16) : State :=
  if s.portUp n && s.cc n != ccDisabled && s.cc n != ccErrorRecovery then
    (if s.halted n.val then s.modPort n (fun p => { p with recPending := true }) else s.errRec n)
  else s

/-- Count in a latching tally of a port that is not in its fault path: at the threshold it is latched, and goes by ErrorRecovery to Disabled (R124, R161, R245). -/
def State.tallyOut (s : State) (n : Fin 16) (c : Nat) : State :=
  let t := s.tallyLatch n c
  if t.bit (PCC_STATUS.LATCHED n) then t.goErrRec n else t

/-- Count in the LOOP tally of such a port (R245). -/
def State.tallyLoop (s : State) (n : Fin 16) : State := s.tallyOut n tallyLOOP

/-- Does a port hold an explicit contract? -/
def State.hasContract (s : State) (n : Fin 16) : Bool := s.get (PPD_STATUS.CONTRACT n) != 0

/-- The check runs again before the attach of a port that two failed checks of a channel latched (R281). -/
def State.recheck (s : State) (n : Fin 16) : State :=
  if (s.ports[n].val.failRow.take 3).any (fun r => decide (2 ≤ r)) then s.startCheck n true else s

/-- Clear both latches (R124): PCC_CMD.CLRLATCH. A latched port leaves Disabled when R104 allows. -/
def State.clrLatch (s : State) (n : Fin 16) : State :=
  ((((s.clear (PCC_STATUS.LATCHED n)).clear (PCC_STATUS.VCONNLATCH n)).modPort n (fun p => { p with latched := false, vconnLatched := false })).recheck n).leaveDisabled n

end Sys2Proof.Machine
end

