-- ==== Sys2Proof/Machine/BatOps.lean ====
section
/-!
DEFINITION. The Batten event router as shared operations (R284 to R296): routes in force with the defaults of R287 and R288, the actions
of the 96 destinations, the event queue with its loss marker, the Truss cut, and the commands of BAT_CMD.
-/

namespace Sys2Proof.Machine

/-- Update the Batten state. -/
def State.modBat (s : State) (f : BattenSt → BattenSt) : State := { s with bat := f s.bat }

/-! ### Routes (R76, R282, R287, R288) -/

/-- A default route to a destination. -/
def rt (src dst : Nat) : Route := { src := src, dst := dst, mode := 0, queue := false }
/-- The default queue route: an entry for every edge of the source (assumption log 22). -/
def qt (src : Nat) : Route := { src := src, dst := 0x7F, mode := 2, queue := true }

/-- The HIRQ of a global source's default route, none where it has none (R288). -/
def globalHirq (e : Nat) : Option Nat :=
  if e ≤ 0x105 ∨ e = 0x107 then some 16
  else if 0x108 ≤ e ∧ e ≤ 0x10B then some 17
  else if e = 0x10C ∨ e = 0x10D ∨ e = 0x10E ∨ (0x114 ≤ e ∧ e ≤ 0x117) then some 20
  else if 0x111 ≤ e ∧ e ≤ 0x113 then some 18
  else if e = 0x119 ∨ e = 0x11B ∨ e = 0x11C ∨ e = 0x11F then some 19
  else if e = 0x128 ∨ e = 0x129 ∨ e = 0x12A ∨ e = 0x12C ∨ e = 0x12D ∨ e = 0x12F then some 21
  else if e = 0x130 ∨ e = 0x133 then some 22
  else if 0x136 ≤ e ∧ e ≤ 0x13A then some 23
  else if 0x13B ≤ e ∧ e ≤ 0x13E then some 24
  else none

/-- Does the default route of a global source include the queue (R288)? -/
def globalQueue (e : Nat) : Bool :=
  !(e == 0x10F || e == 0x117 || e == 0x11A || e == 0x11E || e == 0x135 || e == 0x13F)

/-- The default routes of a source (R287, R288). -/
def defaultRoutes (e : Nat) : List Route :=
  if e < 0x100 then
    let k := e % 16
    let h := if k = 0 ∨ (5 ≤ k ∧ k ≤ 9) ∨ k = 11 then [rt e (e / 16)] else []
    let q := if k ≤ 1 ∨ (5 ≤ k ∧ k ≤ 11) then [qt e] else []
    h ++ q
  else
    (match globalHirq e with
     | some h => [rt e h]
     | none => []) ++ (if globalQueue e then [qt e] else [])

/-- The routes of a source in force: those BATWIRE gives it, else its defaults (R76). -/
def State.routes (s : State) (e : Nat) : List Route :=
  if s.bat.wire.any (fun r => r.src == e) then s.bat.wire.filter (fun r => r.src == e) else defaultRoutes e

/-- Does a route act on an edge of a kind (0 rising, 1 falling) of its source (R284)? Level mode follows the source at HIRQ and TRSCUT and acts
as rising elsewhere. -/
def Route.acts (r : Route) (e kind : Nat) : Bool :=
  if isLevelSource e then
    (match r.mode with
     | 0 => kind == 0
     | 1 => kind == 1
     | 2 => true
     | _ => kind == 0 || decide (r.dst < 32) || r.dst == 81)
  else r.mode != 1 && kind == 0

/-! ### The event queue (R290 to R292) -/

/-- Entries no host port has read. -/
def State.unread (s : State) : Nat := (s.bat.queue.filter (fun x => !x.read)).length

/-- The high-water mark E117: 384 entries or more. -/
def State.markQueue (s : State) : State := s.level 0x117 (decide (384 ≤ s.bat.queue.length))

/-- Put one entry into the queue with its sequence number. -/
def State.pushEntry (s : State) (x : QEntry) : State :=
  s.modBat (fun b => { b with queue := b.queue ++ [{ x with seq := b.seq }], seq := (b.seq + 1) % 65536 })

/-- Write an entry: a full queue drops it (R292); the first one after a run of drops is preceded by a loss marker. -/
def State.enqueue (s : State) (x : QEntry) : State :=
  if 512 ≤ s.bat.queue.length then
    let t := (s.satInc BAT_QLOST.LOST).modBat (fun b => { b with lossRun := b.lossRun + 1 })
    if s.bat.lossRun = 0 then (t.fire 0x114).tallyPlain 134 else t
  else if 0 < s.bat.lossRun then
    let t := s.pushEntry { x with src := 0x1FF, kind := 0, data := 0, lost := min 65535 s.bat.lossRun }
    let t := t.modBat (fun b => { b with lossRun := 0 })
    if 512 ≤ t.bat.queue.length then
      let u := (t.satInc BAT_QLOST.LOST).modBat (fun b => { b with lossRun := 1 })
      ((u.fire 0x114).tallyPlain 134).markQueue
    else (t.pushEntry x).markQueue
  else (s.pushEntry x).markQueue

/-- Free the oldest k entries; those no host has read are skipped and counted (R291). -/
def State.freeEntries (s : State) (k : Nat) : State :=
  let gone := s.bat.queue.take k
  ((s.satAdd BAT_QLOST.SKIP (gone.filter (fun x => !x.read)).length).modBat (fun b => { b with queue := b.queue.drop k })).markQueue

/-! ### The Truss cut (R289, R165) -/

/-- E changes with a cut of c watts, or without one, at the commit of a TRUSS op of SUB 4. -/
def State.setCut (s : State) (c : Option Nat) : State := (s.modRidge (fun r => { r with cut := c })).changeE

/-- Does the cut hold now? -/
def BattenSt.cutting (b : BattenSt) : Bool := b.cutEdge || !b.cutLevels.isEmpty

/-- The TRUSS op of SUB 4 that a change of the cut enters (R165). -/
def State.cutOp (s : State) (on : Bool) : Op := Op.mk0 portGlobal clsTRUSS srcBatten 4 (s.get BAT_TRSCUT.CUT + 65536 * b2n on)

/-- Follow the cut: a change enters its op. -/
def State.followCut (s : State) : State :=
  let now := s.bat.cutting
  if now = s.bat.cutInForce then s
  else ((s.modBat (fun b => { b with cutInForce := now })).flag BAT_STAT.TRSCUT now).offer (s.cutOp now)

/-! ### Self-check (R280) -/

/-- Run the check on every idle port (destination VALST and BAT_CMD.VALST). -/
def State.checkAll (s : State) : State := allPorts.foldl State.startCheck s

/-! ### Destinations (R289) -/

/-- Has a rate limit of 100 ms passed for a port? -/
def rateOk (l : List (Nat × Nat)) (p now : Nat) : Bool :=
  match assocGet l p with
  | some t => decide (t + 100000 ≤ now)
  | none => true

/-- Set or follow an HIRQ bit (R284). -/
def State.hirq (s : State) (bit e mode kind : Nat) : State :=
  if mode = 3 ∧ isLevelSource e then
    if kind = 0 then
      (s.modBat (fun b => { b with irqLevel := (bit, e) :: b.irqLevel.filter (fun p => p != (bit, e)) })).maskBit BAT_IRQSTAT.HIRQ bit true
    else
      let t := s.modBat (fun b => { b with irqLevel := b.irqLevel.filter (fun p => p != (bit, e)) })
      if t.bat.irqLevel.any (fun p => p.1 == bit) then t else t.maskBit BAT_IRQSTAT.HIRQ bit false
  else s.maskBit BAT_IRQSTAT.HIRQ bit true

/-- A PERR action of port p: at most one in 100 ms (R284). -/
def State.perr (s : State) (p : Nat) : State :=
  if rateOk s.bat.perrAt p s.now then
    (s.modBat (fun b => { b with perrAt := assocSet b.perrAt p s.now })).offer (Op.mk0 p clsSW srcBatten 7 0)
  else s.satInc BAT_STAT.RLIM

/-- A PCAPS action of port p: at most one in 100 ms (R284). The message to send is Source_Capabilities, type 1. -/
def State.pcaps (s : State) (p : Nat) : State :=
  if rateOk s.bat.pcapsAt p s.now then
    (s.modBat (fun b => { b with pcapsAt := assocSet b.pcapsAt p s.now })).offer (Op.mk0 p clsMSG srcBatten 1 1)
  else s.satInc BAT_STAT.RLIM

/-- Queue CAN FD event frame k (R358): at most 16 wait. -/
def State.canEvent (s : State) (k : Nat) (x : Edge) (code : Nat) : State :=
  if s.islandUp islHost then
    if s.host.canEvents.length < 16 then
      s.modHost (fun hs => { hs with canEvents := hs.canEvents ++
          [{ k := k, src := x.src, data := x.data, sec := x.sec, usec := x.usec, edge := code, serial0 := s.rd GLB_SERIAL0.at }] })
    else s.satInc HST_CANSTAT.EVDROP
  else s

/-- The EDGE code of an edge delivered over a route (R290): level mode delivers a level asserted. -/
def edgeCode (r : Route) (kind : Nat) : Nat := if r.mode = 3 then 2 else kind

/-- What an edge does at one destination. -/
def State.atDest (s : State) (r : Route) (x : Edge) : State :=
  let d := r.dst
  if d < 32 then s.hirq d x.src r.mode x.kind
  else if d < 48 then s.perr (d - 32)
  else if d < 64 then s.pcaps (d - 48)
  else if d < 72 then s.canEvent (d - 64) x (edgeCode r x.kind)
  else if d < 76 then s.sendEvent (d - 72) x
  else if d < 80 then
    let k := d - 76
    (s.put (BAT_TSCAP0.SEC k) x.sec).wr (BAT_TSCAP1.at k) (BitVec.ofNat 32 (x.usec % 2 ^ 20 + x.src % 512 * 2 ^ 20 + 2 ^ 31))
  else if d = 80 then s.offer (Op.mk0 portGlobal clsMEAS srcBatten 0 0)
  else if d = 81 then
    if r.mode = 3 ∧ isLevelSource x.src then
      (s.modBat (fun b => { b with cutLevels :=
        if x.kind = 0 then x.src :: b.cutLevels.filter (fun e => e != x.src) else b.cutLevels.filter (fun e => e != x.src) })).followCut
    else (s.modBat (fun b => { b with cutEdge := true })).followCut
  else if d = 82 then s.offer (Op.mk0 portGlobal clsSW srcBatten 7 0)
  else if d = 83 then s.checkAll
  else if d < 88 then s.wrapInc (BAT_CNT.COUNT (d - 84))
  else if d < 96 then s.tallyPlain (136 + (d - 88))
  else s

/-- Deliver an edge over the routes of its source; the first queued route that acts gives the entry (R290). -/
def State.deliverEdge (s : State) (x : Edge) : State :=
  let rs := (s.routes x.src).filter (fun r => r.acts x.src x.kind)
  let t := rs.foldl (fun u r => u.atDest r x) s
  match rs.find? (fun r => r.queue && !(r.mode == 3 && x.kind == 1)) with
  | some r => t.enqueue { src := x.src, kind := edgeCode r x.kind, data := x.data, usec := x.usec, sec := x.sec, seq := 0, lost := 0, read := false }
  | none => t

/-- Does edge x come before edge y: older, or in the same microsecond of lower source (R286)? -/
def Edge.before (x y : Edge) : Bool :=
  decide (x.sec < y.sec) || (x.sec == y.sec && (decide (x.usec < y.usec) || (x.usec == y.usec && decide (x.src < y.src))))

/-- The next edge to deliver and those that stay. -/
def takeEdge : List Edge → Option (Edge × List Edge)
  | [] => none
  | x :: t =>
    match takeEdge t with
    | none => some (x, [])
    | some (y, rest) => if y.before x then some (y, x :: rest) else some (x, t)

/-! ### BAT_CMD (R301) -/

/-- Clear the bins of the tally TID names, 255 for all (R293). -/
def State.tallyClear (s : State) (tid : Nat) : State :=
  let clear := fun (t : State) k => t.setBins k (List.replicate 16 0)
  if tid = 255 then (List.range 144).foldl clear s else if tid < 144 then clear s tid else s

/-- Clear BAT_CNT. -/
def State.cntClear (s : State) : State := (List.range 4).foldl (fun t k => t.wr (BAT_CNT.at k) 0) s

/-- End an edge-mode cut (R284). -/
def State.tsClear (s : State) : State := (s.modBat (fun b => { b with cutEdge := false })).followCut

/-- Does a GPC guard INWARN or Eave (R280)? -/
def State.guards (s : State) (k : Nat) : Bool := s.bit (GPC_CFG.INWARN k) || s.get (GPC_CFG.EAVEMASK k) != 0

/-- Take the list of the GPCs to check; GPCTEST shows that the running one, the first, guards INWARN or Eave (R280, R301). -/
def State.setGpcTest (s : State) (l : List Nat) : State :=
  (s.modBat (fun b => { b with gpcTest := l })).flag BAT_STAT.GPCTEST (l.head?.any s.guards)

/-- Check the GPCs a mask selects, one after the other in ascending order (R280). -/
def State.gpcCheck (s : State) (mask : Nat) : State :=
  s.setGpcTest (s.bat.gpcTest ++ (List.range 8).filter (fun k => mask.testBit k && !s.bat.gpcTest.contains k))

/-- Everything a BAT_CMD word commands, with its KEY already judged. -/
def State.batCmd (s : State) (v : Word) : State :=
  let bit := fun (k : Nat) => v.toNat.testBit k
  let t := if bit 8 then s.tallyClear (v.toNat % 256) else s
  let t := if bit 9 then t.cntClear else t
  let t := if bit 10 then t.checkAll else t
  let t := if bit 11 then t.fire 0x13F else t
  let t := if bit 12 then t.tsClear else t
  if fieldOf v 23 16 = 0 then t else t.gpcCheck (fieldOf v 23 16)

/-- A W1C of BAT_IRQSTAT: bits a level-mode source holds stay (R284). -/
def State.irqClear (s : State) (mask : Word) : State :=
  let held := s.bat.irqLevel.foldl (fun m p => m ||| BitVec.ofNat 32 (2 ^ p.1)) (0 : Word)
  s.wr BAT_IRQSTAT.at (s.rd BAT_IRQSTAT.at &&& ~~~(mask &&& ~~~held))

end Sys2Proof.Machine
end

