-- ==== Sys2Proof/Machine/Judge.lean ====
section
/-!
DEFINITION. Judging host transactions (R338 to R343, R363 to R367): which addresses answer in which boot stage (R45), the
authority a word needs and the grant a port holds, the checks in their order, the status word, and the order stage with its
arbitration (R368 to R372).
-/

namespace Sys2Proof

/-- The number of a host port (R338). -/
def HostPort.num : HostPort → Nat
  | .spi => 1 | .i2c => 2 | .can => 3 | .jtag => 4

/-- The index of a host port's own state. -/
def HostPort.idx : HostPort → Fin 4
  | .spi => 0 | .i2c => 1 | .can => 2 | .jtag => 3

/-- The op source number of a host port: JTAG writes enter with SRC 1 (R166). -/
def HostPort.src : HostPort → Nat
  | .spi => 1 | .i2c => 2 | .can => 3 | .jtag => 1

namespace Machine

/-- Is a Ridge outage in progress (R29, RDG_STAT)? -/
def State.outage (s : State) : Bool := s.bit RDG_STAT.OUTAGE

/-- All host ports. -/
def allHostPorts : List HostPort := [.spi, .i2c, .can, .jtag]

/-- Words a transaction of a port may hold (R339, R356, R362). -/
def maxWords : HostPort → Nat
  | .spi => 64 | .i2c => 64 | .can => 14 | .jtag => 1

/-! ### Status (R342) -/

def stOK : Nat := 0x00
def stPENDING : Nat := 0x01
def stBUSY : Nat := 0x02
def stNOTREADY : Nat := 0x03
def stAUTHREF : Nat := 0x04
def stUNMAPPED : Nat := 0x05
def stABSENT : Nat := 0x06
def stSTALE : Nat := 0x07
def stLOST : Nat := 0x08
def stVALREF : Nat := 0x09
def stKEYERR : Nat := 0x0A
def stREFUSED : Nat := 0x0B
def stFORMAT : Nat := 0x0C
def stCRC : Nat := 0x0D
def stLATE : Nat := 0x0E
def stCLASH : Nat := 0x0F

/-- A status word (R342). -/
def statusWord (code detail gen : Nat) : Word := BitVec.ofNat 32 (code % 256 + (detail % 256) <<< 8 + (gen % 65536) <<< 16)

/-- Update what is kept for one host port. -/
def State.modHp (s : State) (hp : HostPort) (f : HpSt → HpSt) : State :=
  s.modHost (fun hs => { hs with ports := hs.ports.set hp.idx (f hs.ports[hp.idx]) })

/-- End a transaction of a port with a status; HST_LASTERR keeps the last one of any port other than OK (R343). -/
def State.endWith (s : State) (hp : HostPort) (code detail gen : Nat) : State :=
  let t := s.modHp hp (fun p => { p with status := statusWord code detail gen })
  if code = stOK ∨ code = stPENDING then t
  else ((t.put HST_LASTERR.CODE code).put HST_LASTERR.DETAIL detail).put HST_LASTERR.PORT hp.num

/-- One write transaction is final: its status, which also answers the CAN FD request it came in (R356). -/
def State.endOne (s : State) (id : Nat) (hp : HostPort) (code detail gen : Nat) : State :=
  let t := s.endWith hp code detail gen
  t.modHost (fun hs => { hs with canHeld := hs.canHeld.map (fun h =>
    if h.txn = some id then { h with txn := none, resp := some (statusWord code detail gen, []) } else h) })

/-- A write transaction is final, and with it those whose equal order it stood for (R370). -/
def State.endTxn (s : State) (id : Nat) (hp : HostPort) (code detail gen : Nat) : State :=
  let twins := s.host.txns.filter (fun x => x.leader == some id)
  let t := s.modHost (fun hs => { hs with txns := hs.txns.filter (fun x => x.leader != some id) })
  twins.foldl (fun u x => u.endOne x.id x.hp code detail gen) (t.endOne id hp code detail gen)

/-! ### Which port a register belongs to (R339) -/

/-- The port that drives a slice, or its owning port when none does. -/
def State.slicePort (s : State) (k : Fin 48) : Fin 16 :=
  let d := s.get (RAF_STAT.PORT k)
  if h : d < 16 then ⟨d, h⟩ else ⟨k.val / 3, by omega⟩

/-- The port a register word belongs to, none for a word of another block. -/
def State.portOf (s : State) (a : Nat) : Option (Fin 16) :=
  match blockOf a with
  | some (.port n) => some n
  | some (.slice k) => some (s.slicePort k)
  | _ => none

/-- The GEN a status carries for an address (R342): STATE_GEN of its port, else 0. -/
def State.genOf (s : State) (a : Nat) : Nat :=
  match s.portOf a with
  | some n => s.ports[n].gen
  | none => 0

/-! ### Access by boot stage and island (R45, R220, R377) -/

/-- Do the host ports answer at all (R45, R376)? -/
def State.hostOpen (s : State) : Bool := s.islandUp islHost

/-- The Host island holds the provisioning grant of R425 for its SPI port in Dormer. -/
def State.provGrant (s : State) (hp : HostPort) : Bool := hp == .spi && s.bit GLB_BOOTSTAT.DORMER && s.bit OTP_STAT.KEYBLANK

/-- May an address be accessed in the present boot stage (R45)? -/
def State.bootAllows (s : State) (hp : HostPort) (write : Bool) (a : Nat) : Bool :=
  if s.get GLB_BOOTSTAT.STAGE = 6 then true
  else if s.bit GLB_BOOTSTAT.DORMER then
    match blockOf a with
    | some .glb => !write || a == GLB_BOOTCTL.at || a == GLB_RESET.at || a == GLB_PORTGO.at
    | some .sof => !write || a == SOF_SVCCTL.at
    | some .otp => true
    | some .upd => true
    | some .rdg => !write && s.provGrant hp
    | some .trs => !write && s.provGrant hp
    | some .bat => !write && s.provGrant hp
    | some .hst => !write && s.provGrant hp
    | some .jtl => !write && s.provGrant hp
    | some .mtr => !write && s.provGrant hp
    | some .gpc => !write && s.provGrant hp
    | some (.port n) => !write && s.islandUp n.val
    | some (.slice k) => !write && s.islandUp (k.val / 3)
    | _ => false
  else
    match blockOf a with
    | some .glb => !write || a == GLB_BOOTCTL.at || a == GLB_RESET.at || a == GLB_PORTGO.at
    | some .sof => !write
    | some .otp => !write || a == OTP_SHADDR.at || a == OTP_SHDATA0.at || a == OTP_SHDATA1.at
    | _ => false

/-- Is a port island kept unpowered because its PORTSTRUCT has EN = 0 and LEND = 0? Reads of its registers then return their Reset values (R482). -/
def State.keptDown (s : State) (n : Fin 16) : Bool :=
  let ps := structOf s.recs n.val
  s.get GLB_BOOTSTAT.STAGE == 6 && !s.islandUp n.val && !ps.en && ps.lend == 0

/-- Does an access find its island unable to answer: a present port's island not released or halted, or, for a read, a port,
slice or TRS block in a Ridge outage (R220, R377)? -/
def State.islandBusy (s : State) (write : Bool) (a : Nat) : Bool :=
  let out := !write && s.outage
  match blockOf a with
  | some (.port n) => s.present n && ((!s.islandUp n.val && (write || !s.keptDown n)) || s.halted n.val || out)
  | some (.slice k) =>
    let n : Fin 16 := ⟨k.val / 3, by omega⟩
    s.slicePresent k && ((!s.islandUp n.val && (write || !s.keptDown n)) || s.halted n.val || out)
  | some .trs => out
  | _ => false

/-- Is an address in no block (R33)? -/
def isUnmapped (a : Nat) : Bool := (blockOf a).isNone

/-- Is an address in a port or slice block that the device lacks (R3)? -/
def State.isAbsent (s : State) (a : Nat) : Bool :=
  match blockOf a with
  | some (.port n) => !s.present n
  | some (.slice k) => !s.slicePresent k
  | _ => false

/-! ### Authority (R363 to R367) -/

/-- The grant code of a host port as HST_AUTH shows it (R364). -/
def State.grant (s : State) : HostPort → Nat
  | .spi => s.get HST_AUTH.SPI
  | .i2c => s.get HST_AUTH.I2C
  | .can => s.get HST_AUTH.CAN
  | .jtag => s.get HST_AUTH.JTAG

/-- Does SPI hold UPDATE in place of its grant (R367)? -/
def State.spiUpdate (s : State) : Bool := s.bit GLB_BOOTSTAT.DORMER && s.bit HST_CEIL.DORMSPI

/-- The ordered grant of a port: in Dormer every port but SPI holds at most OBSERVE (R367). -/
def State.level3 (s : State) (hp : HostPort) : Nat :=
  if s.bit GLB_BOOTSTAT.DORMER then
    if hp = .spi then (if s.spiUpdate then 0 else s.grant .spi) else min (s.grant hp) 1
  else s.grant hp

/-- The edit buffer of the Thatch window (R80). -/
def isEdit (a : Nat) : Bool := decide (0x5C000 ≤ a) && decide (a < 0x5F000)

/-- The level a write of a register word needs: 0 where the spec names none (a read-only register or a reserved address). -/
def writeLevel (a : Nat) : Nat :=
  if isEdit a then 3
  else match regRow a with
    | none => 0
    | some r => match r.auth with
      | .free => 0 | .operate => 2 | .configure => 3

/-- Does a port's authority reach a write of an address (R13, R85, R363, R425, R467)? -/
def State.mayWrite (s : State) (hp : HostPort) (a : Nat) : Bool :=
  if isEdit a then decide (3 ≤ s.level3 hp) && s.get THA_EDCLAIM.OWNER == hp.num && s.bit THA_EDCLAIM.CLAIM
  else decide (writeLevel a ≤ s.level3 hp) ||
    (s.provGrant hp && blockOf a == some .otp) ||
    (hp == .spi && s.spiUpdate && blockOf a == some .upd)

/-- Does a port's authority reach a read of an address (R13)? The edit buffer is read at CONFIGURE by its owner only (R80). -/
def State.mayRead (s : State) (hp : HostPort) (a : Nat) : Bool :=
  if isEdit a then decide (3 ≤ s.level3 hp) && s.get THA_EDCLAIM.OWNER == hp.num && s.bit THA_EDCLAIM.CLAIM
  else decide (1 ≤ s.level3 hp) || s.provGrant hp ||
    (hp == .spi && s.spiUpdate && (blockOf a == some .glb || blockOf a == some .sof || blockOf a == some .otp || blockOf a == some .upd))

/-- A port whose grant is NONE ignores frames (R365). -/
def State.listens (s : State) (hp : HostPort) : Bool :=
  s.hostOpen && (decide (1 ≤ s.level3 hp) || (hp == .spi && (s.spiUpdate || s.provGrant hp))) && (hp != .can || (s.bit HST_CANCTL.EN && !s.bit HST_CANCTL.SLEEP))

/-! ### Keys and target rules -/

/-- The KEY a command register demands in its top byte. -/
def keyOf (a : Nat) : Option Nat :=
  if a = GLB_RESET.at then some 0x5A
  else if a = THA_SRCTL.at then some 0xC3
  else if a = RDG_CMD.at then some 0xA5
  else if a = BAT_CMD.at then some 0xB7
  else if a = JTL_CMD.at then some 0x6C
  else if a = HST_CMD.at then some 0x48
  else if a = MTR_CMD.at then some 0x4D
  else if a = OTP_CMD.at then some 0x3F
  else if a = UPD_CMD.at then some 0x55
  else match blockOf a with
    | some (.slice k) => if a = RAF_CMD.at k then some 0x96 else none
    | _ => none

/-- Is the KEY of a word wrong? -/
def keyWrong (a : Nat) (v : Word) : Bool :=
  match keyOf a with
  | none => false
  | some k => v.toNat / 2 ^ 24 != k

/-- The kinds of the resets in progress: the one whose boot runs, those that wait for a burn (R57), and a relay start from its request on (R448, R60). -/
def State.resetsRunning (s : State) : List Nat :=
  s.boot.inReset.toList ++ s.boot.waiting.map (fun w => w / 256) ++ (if s.upd.relay.isSome then [3] else [])

/-- The DETAIL of a refusal that the Host decides by the register's own rule (R94, R97), none when it takes the write:
THA_SRCTL by a port that does not own the edit buffer (RESULT 6), or OP 1 or 2 while an operation is in progress (RESULT 2);
GLB_RESET during a reset of equal or wider reach (R60), or for a relay start on 1S-1S-1S (R449). -/
def State.hostRefuses (s : State) (hp : HostPort) (a : Nat) (v : Word) : Option Nat :=
  if a = THA_SRCTL.at then
    if !(s.bit THA_EDCLAIM.CLAIM && s.get THA_EDCLAIM.OWNER == hp.num) then some 6
    else if fieldOf v 17 16 != 3 && (s.get THA_SRSTAT.PHASE != 0 || !s.tha.strips.isEmpty) then some 2
    else none
  else if a = OTP_CMD.at then s.otpCmdRefusal v
  else if a = GLB_RESET.at then
    if GLB_RESET.KIND.of v ≠ 0 ∧ s.resetsRunning.any (fun k => decide (k ≤ GLB_RESET.KIND.of v)) then some 0
    else if GLB_RESET.KIND.of v = 3 ∧ s.bit GLB_SUPSTAT.XSPI1S then some 1
    else none
  else none

/-- The registers of an override, which one transaction writes together (R419). -/
def overrideRegs : List Nat := [OTP_SHADDR.at, OTP_SHDATA0.at, OTP_SHDATA1.at]

/-- The value a transaction gives a register. -/
def valIn (ws : List (Nat × Word)) (a : Nat) : Option Word := (ws.find? (fun w => w.1 == a)).map Prod.snd

/-- The DETAIL of the refusal that the override rule gives a transaction: 4 for some of the three registers only (R419). -/
def State.overrideDetail (s : State) (ws : List (Nat × Word)) : Option Nat :=
  if !ws.any (fun w => overrideRegs.contains w.1) then none
  else match valIn ws OTP_SHADDR.at, valIn ws OTP_SHDATA0.at, valIn ws OTP_SHDATA1.at with
    | some a, some d0, some d1 => s.overrideRefusal (OTP_SHADDR.ADDR.of a) (d1 ++ d0)
    | _, _, _ => some 4

/-- How many of the words belong to port n. -/
def State.wordsOfPort (s : State) (ws : List (Nat × Word)) (n : Fin 16) : Nat := (ws.filter (fun w => s.portOf w.1 == some n)).length

/-- A guarded write must have a GEN other than 0, and all its words in one port (R374). -/
def State.guardFormat (s : State) (guard : Option (BitVec 16)) (ws : List (Nat × Word)) : Bool :=
  match guard with
  | none => true
  | some g => g != 0 && (match ws with
    | [] => false
    | w :: _ => (s.portOf w.1).isSome && ws.all (fun x => s.portOf x.1 == s.portOf w.1))

/-- The first address for which a test fails. -/
def firstBad (ws : List (Nat × Word)) (bad : Nat → Word → Bool) : Option (Nat × Word) := ws.find? (fun w => bad w.1 w.2)

/-- A write to the update registers of a port that does not own the open session (R445): AUTHREF, but for a BEGIN, which ends with its code. -/
def State.updForeign (s : State) (hp : HostPort) (a : Nat) (v : Word) : Bool :=
  match s.upd.sess with
  | some x => blockOf a == some .upd && x.owner != hp.num && !(a == UPD_CMD.at && UPD_CMD.OP.of v == 1)
  | none => false

/-- Does a relay start in its preparation hold a write back (R450)? -/
def State.armedBusy (s : State) (ws : List (Nat × Word)) : Bool := s.get UPD_STAT.STATE == 4 && ws.any (fun w => blockOf w.1 != some .upd)

/-- The checks of R343 that a write meets at its commit point: code, DETAIL and the level required, in that order; code 0 means accepted. -/
def State.judgeWrite (s : State) (hp : HostPort) (guard : Option (BitVec 16)) (ws : List (Nat × Word)) : Nat × Nat × Nat :=
  if ws.isEmpty || decide (maxWords hp < ws.length) || ws.any (fun w => w.1 % 4 != 0) || !s.guardFormat guard ws ||
      allPorts.any (fun n => decide (20 < s.wordsOfPort ws n)) then (stFORMAT, 0, 0)
  else if (firstBad ws (fun a _ => !s.bootAllows hp true a || s.islandBusy true a)).isSome then (stNOTREADY, 0, 0)
  else match firstBad ws (fun a _ => isUnmapped a || s.isAbsent a) with
    | some w => (if isUnmapped w.1 then stUNMAPPED else stABSENT, 0, 0)
    | none => match firstBad ws (fun a v => !s.mayWrite hp a || s.updForeign hp a v) with
      | some w => (stAUTHREF, 0, writeLevel w.1)
      | none =>
        if (firstBad ws keyWrong).isSome then (stKEYERR, 0, 0)
        else match firstBad ws (fun a v => (s.hostRefuses hp a v).isSome) with
          | some w => (stREFUSED, (s.hostRefuses hp w.1 w.2).getD 0, 0)
          | none => match s.overrideDetail ws with
            | some d => (stREFUSED, d, 0)
            | none => if s.outage || s.armedBusy ws then (stBUSY, 0, 0) else (stOK, 0, 0)

/-- End a refused transaction: its status, and the flag, count and event of a refusal for authority (R365). -/
def State.refuseTxn (s : State) (hp : HostPort) (code detail level a : Nat) : State :=
  let t := s.endWith hp code detail (s.genOf a)
  if code = stAUTHREF then ((t.raise HST_STAT.AUTHREF).satInc HST_CNT0.AUTHREF).fire 0x132 (hp.num + level <<< 8) else t

/-! ### Writes with a row of their own (assumption log 6) -/

/-- The class of the op a register write becomes (R165, assumption log 8). -/
def opClass (a : Nat) : Nat :=
  match blockOf a with
  | some .trs => clsTRUSS
  | some .bat => if a = BAT_TRSCUT.at then clsTRUSS else clsLIM
  | some .gpc => clsLIM
  | some .sof => clsTIME
  | some .mtr => clsTIME
  | some (.port _) =>
    let off := a % 0x1000
    if off < 0x200 then clsSW else if off < 0x600 then clsMSG else if off < 0xA00 then clsSETP else if off < 0xD00 then clsSW else clsLIM
  | some (.slice _) => clsSETP
  | _ => clsCFG

/-- The op of one written word (R165). -/
def State.opOfWrite (s : State) (t : Txn) (w : Nat × Word) : Op :=
  let p := match s.portOf w.1 with
    | some n => n.val
    | none => portGlobal
  let o := Op.mk0 p (opClass w.1) t.hp.src
      (if w.1 = TRS_BUDGET.at then 2 else if w.1 = BAT_TRSCUT.at then 4 else 0)
      (if w.1 = TRS_BUDGET.at then w.2.toNat % 65536
       else if w.1 = BAT_TRSCUT.at then w.2.toNat % 65536 + 65536 * b2n s.bat.cutInForce else w.1)
  { o with
    guard := t.guard.isSome, reg := some w, txn := some t.id, hp := some t.hp,
    payload := BitVec.ofNat 64 (w.2.toNat + ((t.guard.getD 0).toNat <<< 32)) }

/-- Would the ops of a transaction commit at once: Ridge runs, and no older op of their ports is in the window (R170)? -/
def State.commitsAtOnce (s : State) (os : List Op) : Bool := !s.halted islRidge && os.all (fun o => s.ridge.window.all (fun q => q.port != o.port))

/-- A write that has a row of its own: judged as a transaction of its words, whose ops enter the window, all or none (R173). With no older op of their ports
in the window they commit in the same step, tags and counts included, the effect ends with its status, and the slot ends; else they wait there as
the ops of any write (assumption log 6). -/
def State.commandWords (s : State) (hp : HostPort) (ws : List (Nat × Word)) (effect : State → State × Nat) : State :=
  if !s.listens hp then s
  else
    let a := (ws.headD (0, 0)).1
    match s.judgeWrite hp none ws with
    | (code, detail, level) =>
      if code ≠ stOK then s.refuseTxn hp code detail level a
      else if s.outage || !s.islandUp islRidge then s.endWith hp stBUSY 0 (s.genOf a)
      else
        let id := s.host.nextTxn
        let t : Txn := { id := id, hp := hp, guard := none, words := ws, undecided := 0, opsLeft := ws.length, leader := none }
        let os := ws.map (s.opOfWrite t)
        match s.pushAll os with
        | none => s.endWith hp stBUSY 0 (s.genOf a)
        | some u =>
          if s.commitsAtOnce os then
            let r := effect (os.foldl (fun v _ => v.passOp) s)
            (r.1.endSlot).endWith hp r.2 0 (r.1.genOf a)
          else (u.modHost (fun hs => { hs with nextTxn := id + 1, txns := hs.txns ++ [t] })).endWith hp stPENDING 0 0

/-- A write of one word that has a row of its own. -/
def State.commandSt (s : State) (hp : HostPort) (a : Nat) (v : Word) (effect : State → State × Nat) : State := s.commandWords hp [(a, v)] effect

/-- A write of several words that has a row of its own. -/
def State.commandAll (s : State) (hp : HostPort) (ws : List (Nat × Word)) (effect : State → State) : State :=
  s.commandWords hp ws (fun t => (effect t, stOK))

/-- A command register write that always ends OK once it is taken. -/
def State.command (s : State) (hp : HostPort) (a : Nat) (v : Word) (effect : State → State) : State :=
  s.commandSt hp a v (fun t => (effect t, stOK))

/-! ### The order stage (R368 to R372) -/

/-- Is a target arbitrated at all (R368, R371)? W1C writes combine, and a WO register other than PCC_CMD, PPD_CMD, MTR_CMD and
SOF_TIME_SET takes both orders in arrival order. -/
def arbitrated (a : Nat) : Bool :=
  match regRow a with
  | none => false
  | some r => match r.acc with
    | .w1c => false
    | .ro => false
    | .wo => a == MTR_CMD.at || a == SOF_TIME_SET.at ||
      (match blockOf a with
       | some (.port n) => a == PCC_CMD.at n || a == PPD_CMD.at n
       | _ => false)
    | _ => true

/-- The fields of a register whose higher value is the lower-energy order (R371). -/
def highWinsMask (a : Nat) : Word :=
  match blockOf a with
  | some (.port n) =>
    if a = PCC_CTRL.at n then (PCC_CTRL.DISABLE n).mask
    else if a = PEV_CTRL.at n then (PEV_CTRL.REVEN n).mask
    else if a = PLP_FRZCFG.at n then (PLP_FRZCFG.FRZEN n).mask ||| (PLP_FRZCFG.OSDEN n).mask
    else if a = PVL_UVCFG.at n then (PVL_UVCFG.UVEN n).mask
    else if a = PVL_STCFG.at n then (PVL_STCFG.STEN n).mask
    else 0
  | some (.slice k) => if a = RAF_CTRL.at k then (RAF_CTRL.DBGEAVE k).mask ||| (RAF_CTRL.TRIPSEL k).mask else 0
  | _ => 0

/-- Rank of a command word by its highest-ranked set bit; lower ranks higher (R371). -/
def bitRank (order : List Nat) (v : Word) : Nat := order.findIdx (fun b => v.toNat.testBit b)

/-- The bits of a register word that are fields a write gives: reserved bits decide nothing (R11, R371). -/
def fieldBits (a : Nat) (v : Word) : Word :=
  match regRow a with
  | some r => v &&& r.wmask
  | none => v

/-- Does v win by its value: among the fields whose higher value wins if they differ, else by the lower value of the most significant field that differs (R371)? -/
def lowerValue (a : Nat) (v u : Word) : Bool :=
  let m := highWinsMask a
  if (v &&& m) ≠ (u &&& m) then decide ((u &&& m).toNat < (v &&& m).toNat) else decide ((fieldBits a v).toNat < (fieldBits a u).toNat)

/-- Is v the lower-energy order against u at a target (R371)? Equal orders give false. -/
def lowerEnergy (a : Nat) (v u : Word) : Bool :=
  match blockOf a with
  | some (.port n) =>
    if a = PCC_CMD.at n then decide (bitRank [0, 1, 2] v < bitRank [0, 1, 2] u)
    else if a = PPD_CMD.at n then decide (bitRank [1, 2, 4, 3, 0] v < bitRank [1, 2, 4, 3, 0] u)
    else lowerValue a v u
  | _ => lowerValue a v u

/-- Does order x win against order y (R370)? Grant first, then energy. -/
def Order.beats (x y : Order) : Bool := decide (y.grant < x.grant) || (x.grant == y.grant && lowerEnergy x.addr x.val y.val)

/-- The order each port is judged on: its last one in the group (assumption log 7). -/
def lastOfPort (grp : List Order) (hp : HostPort) : Option Order := (grp.filter (fun o => o.hp == hp)).getLast?

/-- The winner of a group (R370). -/
def groupWinner (grp : List Order) : Option Order :=
  (allHostPorts.filterMap (lastOfPort grp)).foldl (fun w o =>
    match w with
    | none => some o
    | some b => if o.beats b then some o else some b) none

/-- The orders of a group that lose, each with the DETAIL of its loss (R370, R372). -/
def groupLosers (grp : List Order) : List (Order × Nat) :=
  match grp with
  | [] => []
  | g :: _ =>
    if !arbitrated g.addr then []
    else match groupWinner grp with
      | none => []
      | some w => (grp.filter (fun o => o.hp != w.hp && (lastOfPort grp o.hp).map Order.val != some w.val)).map
          (fun o => (o, if o.grant < w.grant then 1 else 2))

/-- Enter a fully decided transaction into the window, all its ops or none (R173). -/
def State.enterTxn (s : State) (t : Txn) : State :=
  let s1 := s.modHost (fun hs => { hs with txns := hs.txns.filter (fun x => x.id != t.id) })
  let a := (t.words.headD (0, 0)).1
  if s.outage || !s.islandUp islRidge then s1.endTxn t.id t.hp stBUSY 0 (s.genOf a)
  else match s1.pushAll (t.words.map (s.opOfWrite t)) with
    | none => s1.endTxn t.id t.hp stBUSY 0 (s.genOf a)
    | some u => u.modHost (fun hs => { hs with txns := hs.txns ++ [{ t with undecided := 0, opsLeft := t.words.length }] })

/-- The order of one written word (R368). -/
def wordOrder (hp : HostPort) (id g usec : Nat) (w : Nat × Word) : Order := { hp := hp, txn := id, addr := w.1, val := w.2, grant := g, usec := usec }

/-- An accepted write enters the order stage (R369); its status is PENDING until it is final (R343). -/
def State.accept (s : State) (hp : HostPort) (guard : Option (BitVec 16)) (ws : List (Nat × Word)) : State :=
  let id := s.host.nextTxn
  let g := s.grant hp
  let t : Txn := { id := id, hp := hp, guard := guard, words := ws, undecided := ws.length, opsLeft := 0, leader := none }
  (s.modHost (fun hs => { hs with
      nextTxn := id + 1, txns := hs.txns ++ [t],
      orders := hs.orders ++ ws.map (wordOrder hp id g s.soffit.usec) })).endWith hp stPENDING 0 0

/-- The transaction number of the orders of a live apply (R368), which end no transaction. -/
def liveTxn : Nat := 0

/-- A loss counts and fires E131 (R372). -/
def State.tellLoss (s : State) (winner : HostPort) (o : Order) (detail : Nat) : State :=
  ((s.raise HST_STAT.ORDERLOST).satInc HST_CNT0.LOST).fire 0x131 (o.hp.num + winner.num * 16 + detail * 256)

/-- A losing transaction: nothing of it commits, its other orders are lost as well, LOST with DETAIL, E131 and the count (R372). -/
def State.loseTxn (s : State) (winner : HostPort) (o : Order) (detail : Nat) : State :=
  if o.txn = liveTxn then s.tellLoss winner o detail
  else if s.host.txns.any (fun t => t.id == o.txn && t.opsLeft == 0) then
    let s1 := s.modHost (fun hs => { hs with
      txns := hs.txns.filter (fun t => t.id != o.txn), orders := hs.orders.filter (fun x => x.txn != o.txn) })
    (s1.endTxn o.txn o.hp stLOST detail (s.genOf o.addr)).tellLoss winner o detail
  else s

/-- One order of a transaction is decided; when it was the last, the transaction enters the window. -/
def State.orderWon (s : State) (id : Nat) : State :=
  match s.host.txns.find? (fun t => t.id == id && t.opsLeft == 0) with
  | none => s
  | some t =>
    if t.undecided ≤ 1 then s.enterTxn t
    else s.modHost (fun hs => { hs with txns := hs.txns.map (fun x => if x.id == id then { x with undecided := x.undecided - 1 } else x) })

end Machine

end Sys2Proof
end

