-- ==== Sys2Proof/Machine/LoopOps.lean ====
section
/-!
DEFINITION. The loop of a port as shared operations (R223 to R238, R251): the fields of a coefficient bank, the compensators with
22 fraction bits, the conversion command m, its division between the legs, the reference ramp, stage start and bank switching.
Voltages are counted in 1/32 nV, currents in mA, and m, u and duties of this file in Q2.22.
-/

namespace Sys2Proof.Machine

/-- Voltage units of the loop: 1/32 nV. -/
def vUnit : Nat := 32000000000
def mvUnit : Nat := 32000000
def tenMv : Nat := 320000000
/-- One in Q2.22. -/
def q22 : Nat := 4194304

/-! ### Bank words (R236) -/

def bankWord (b : List Word) (i : Nat) : Word := wordAt b i
def bankMode (b : List Word) : Nat := fieldOf (bankWord b 0) 25 24
def bankFfen (b : List Word) : Bool := fieldOf (bankWord b 0) 26 26 == 1
def bankCompen (b : List Word) : Bool := fieldOf (bankWord b 0) 27 27 == 1
def bankVshift (b : List Word) : Nat := fieldOf (bankWord b 1) 26 24
def bankIshift (b : List Word) : Nat := fieldOf (bankWord b 1) 30 28
def bankSlewUp (b : List Word) : Nat := fieldOf (bankWord b 2) 31 24
def bankSlewDn (b : List Word) : Nat := fieldOf (bankWord b 3) 31 24
def bankIlimr (b : List Word) : Nat := fieldOf (bankWord b 4) 31 24
def bankDbk (b : List Word) : Nat := fieldOf (bankWord b 5) 31 24
def bankMbo (b : List Word) : Nat := fieldOf (bankWord b 6) 31 24
def bankHdrm (b : List Word) : Nat := fieldOf (bankWord b 7) 31 24
def bankClim (b : List Word) : Nat := fieldOf (bankWord b 8) 31 24

/-- A coefficient, 24-bit two's complement with 22 fraction bits (R227). -/
def coef (b : List Word) (i : Nat) : Int := ((bankWord b i).truncate 24).toInt

/-- The 14 words of bank k of port n in force. -/
def State.bankRegs (s : State) (n : Fin 16) (k : Nat) : List Word := (List.range 14).map (fun w => s.rd (PLP_BANK.at n k w))

/-! ### Sampling (R224, R225) -/

/-- Conversions per sampling point. -/
def State.osr (s : State) (n : Fin 16) : Nat := 2 ^ s.get (PLP_CFG.OSR n)

/-- The lead of a port, slice 3n when it has none. -/
def State.leadSlice (s : State) (n : Fin 16) : Fin 48 := (s.leadOf n).getD ⟨3 * n.val, by omega⟩

/-- Samples per period in use: 2 needs UPDHALF = 1 and UPDN = 0 on the lead (R225). -/
def State.sppUsed (s : State) (n : Fin 16) : Nat :=
  let l := s.leadSlice n
  if s.get (PLP_CFG.SPP n) = 2 ∧ s.bit (RAF_CTRL.UPDHALF l) ∧ s.get (RAF_CTRL.UPDN l) = 0 then 2 else 1

/-- Shortest sample period in fine steps: 1 µs, or 2 µs on a port that drives a lent slice (R225, R73). -/
def State.minSample (s : State) (n : Fin 16) : Nat := if (s.legsOf n).any (fun k => s.bit (RAF_STAT.LENT k)) then 25600 else 12800

/-- DECIM in use: the smallest value not below the setting that meets the rate limit (R225). -/
def State.decimUsed (s : State) (n : Fin 16) : Nat :=
  let t := max 1 (s.basePeriod (s.leadSlice n))
  max (s.get (PLP_CFG.DECIM n) + 1) ((s.minSample n * s.sppUsed n + t - 1) / t)

/-- The flags of R225 at a stage start. -/
def State.rateFlags (s : State) (n : Fin 16) : State :=
  let t := if s.get (PLP_CFG.DECIM n) + 1 < s.decimUsed n then s.raise (PLP_FLAGS.DECIMUP n) else s
  if t.get (PLP_CFG.SPP n) = 2 ∧ t.sppUsed n = 1 then t.raise (PLP_FLAGS.SPPERR n) else t

/-- One step of the reference at a slew in 0.1 V/ms, slew ÷ FS in voltage units: a fine step is 78.125 ps (R233). -/
def State.slewStep (s : State) (n : Fin 16) (slew : Nat) : Nat :=
  slew * s.basePeriod (s.leadSlice n) * s.decimUsed n * 250 / s.sppUsed n

/-! ### Compensators (R227, R229) -/

/-- The correction limit of a bank with 22 fraction bits (R227): CLIM · 0.25 V ÷ 61.44 V. -/
def climQ (b : List Word) : Int := (bankClim b * q22 * 25 / 6144 : Nat)

/-- Clamp to ±l. -/
def clampI (l x : Int) : Int := max (-l) (min l x)

/-- One sample of a compensator whose words start at i: b0 to b3, a1 to a3 (R227). -/
def compensate (b : List Word) (i shift : Nat) (e : Int) (es us : List Int) : Int :=
  let num := coef b i * e + coef b (i + 1) * es.getD 0 0 + coef b (i + 2) * es.getD 1 0 + coef b (i + 3) * es.getD 2 0
  let den := coef b (i + 4) * us.getD 0 0 + coef b (i + 5) * us.getD 1 0 + coef b (i + 6) * us.getD 2 0
  clampI (climQ b) ((2 ^ shift * num + den) / (q22 : Int))

/-- Shift a history: the newest of three first. -/
def pushHist (x : Int) (h : List Int) : List Int := (x :: h).take 3

/-- A voltage in units as a number with 22 fraction bits of 61.44 V. -/
def voltQ (v : Nat) : Nat := v * q22 / (6144 * tenMv)

/-- The reference code of a voltage (R227): 15 mV per LSB, rounded down. -/
def voltCode (v : Nat) : Nat := v / (15 * mvUnit)

/-- The code difference that a current of ma through the shunt stands for (R223, R227), rounded down. -/
def State.ampCode (s : State) (n : Fin 16) (ma : Nat) : Nat := ma * s.get (PLP_CFG.RSHUNT n) * 4 / 3125

/-- Sum of codes. -/
def codeSum (l : List (BitVec 12)) : Nat := (l.map BitVec.toNat).sum

/-- Error with 22 fraction bits of a reference code against the mean of some codes (R227): one LSB is 1/4096. -/
def errQ (ref : Int) (codes : List (BitVec 12)) : Int :=
  let k := max 1 codes.length
  (ref * k - (codeSum codes : Int)) * 1024 / k

/-- Magnitude in mA of the mean of current codes in the positive direction, 0 against it (R223). -/
def State.codeMa (s : State) (n : Fin 16) (codes : List (BitVec 12)) (reversed : Bool) : Nat :=
  let k := max 1 codes.length
  let d : Int := (codeSum codes : Int) - 1024 * k
  ((if reversed then -d else d).toNat * 3125) / (4 * k * max 1 (s.get (PLP_CFG.RSHUNT n)))

/-! ### The conversion command and the legs (R230, R231) -/

/-- Mean of the last conversions of the other voltage with 22 fraction bits, at least VINMIN in the forward modes (R230). -/
def State.vinQ (s : State) (n : Fin 16) (rev : Bool) : Nat :=
  let l := s.ports[n].loop.other
  let m := l.sum * 1024 / max 1 l.length
  if rev then max 1 m else max m (s.get (PLP_CFG.VINMIN n) * q22 * 100 / 6144)

/-- m from reference and correction, held from 0 to 3.99 (R230). -/
def convM (vt : Nat) (u : Int) (vin : Nat) : Nat := min 16735272 (((vt : Int) + u).toNat * q22 / max 1 vin)

/-- DMAX of a slice in Q2.22 (R204). -/
def State.dmaxQ (s : State) (k : Fin 48) : Nat := s.get (RAF_DLIM.DMAX k) * 4096

/-- DBK in Q2.22, below d0max (R236). -/
def dbkQ (b : List Word) (d0max : Nat) : Nat := if bankDbk b * 16384 < d0max then bankDbk b * 16384 else d0max - 16384

/-- MBO in Q2.22 (R236). -/
def mboQ (b : List Word) : Nat := (256 + bankMbo b) * 16384

/-- split(m) of R231: duties of the buck and the boost leg, and the region. -/
def splitM (b : List Word) (d0max m : Nat) : Nat × Nat × Nat :=
  let dbk := dbkQ b d0max
  let mbo := mboQ b
  if m ≤ dbk then (m, 0, 0)
  else if m < mbo then
    let d0 := dbk + (d0max - dbk) * (m - dbk) / (mbo - dbk)
    (d0, q22 - d0 * q22 / max 1 m, 1)
  else (d0max, q22 - d0max * q22 / max 1 m, 2)

/-- Duties of the legs 0, 1, 2 and the region, by topology and mode (R231). -/
def legDuties (topo : Nat) (rev : Bool) (b : List Word) (d0max m : Nat) : List Nat × Nat :=
  match splitM b d0max m with
  | (d0, d1, r) =>
    if rev then ([q22 - d1, q22 - d0], r)
    else match topo with
      | 0 => ([min m d0max], if d0max < m then 3 else 0)
      | 1 => ([d0, d1], r)
      | 2 => ([min m d0max, min m d0max], if d0max < m then 3 else 0)
      | _ => ([d0, d0, d1], r)

/-- Deliver duties to the legs of a port (R226): the loop's latest value waits for the update point. -/
def State.deliver (s : State) (n : Fin 16) (ds : List Nat) : State :=
  (s.legsOf n).foldl (fun t k => t.modSlice k (fun x => { x with dutyPrev := x.dutyNext, dutyNext := min 65536 (ds.getD (t.get (RAF_STAT.LEG k)) 0 / 64) })) s

/-! ### Reference (R232 to R234) -/

/-- Update the loop of a port. -/
def State.modLoop (s : State) (n : Fin 16) (f : LoopSt → LoopSt) : State := s.modPort n (fun p => { p with loop := f p.loop })

/-- Compensation in voltage units. -/
def compUnits (uv : Nat) : Nat := uv * 32000

/-- The full target: the setpoint and the applied compensation; in a Hard Reset the reference ramps to 0 V (R233, R238). -/
def LoopSt.goal (l : LoopSt) : Nat := if l.hrRamp then l.target else l.target + compUnits l.comp

/-- Move towards a goal by at most a step up or down. -/
def moveTo (x goal up dn : Nat) : Nat := if x < goal then min goal (x + up) else max goal (x - dn)

/-- Show the reference and the target (PLP_REF) and the ramp. -/
def State.showRef (s : State) (n : Fin 16) : State :=
  let l := s.ports[n].loop
  ((s.put (PLP_REF.REF n) (l.ref / tenMv)).put (PLP_REF.TARGET n) (l.target / tenMv)).flag (PLP_STATUS.RAMP n) (l.ref != l.goal)

/-- Give the loop a new target; a ramp begins or continues from the present reference (R233). -/
def State.setTarget (s : State) (n : Fin 16) (v10 : Nat) : State :=
  ((s.modLoop n (fun l => { l with target := v10 * tenMv, rampFrom := l.ref })).clear (PLP_STATUS.SETTLED n)).showRef n

/-- Put a bank in force (R232 step 2): the histories are set to give the present output, and MODE and BANK are shown. -/
def State.setBank (s : State) (n : Fin 16) (idx : Nat) (ws : List Word) : State :=
  let t := s.modLoop n (fun l => { l with
      bank := ws, eV := [0, 0, 0], eI := [0, 0, 0],
      uV := List.replicate 3 (l.uV.getD 0 0), uI := List.replicate 3 (l.uI.getD 0 0), bankNext := none })
  (t.put (PLP_STATUS.BANK n) idx).put (PLP_STATUS.MODE n) (bankMode ws)

/-- Does a committed shadow bank wait for its apply or for its update point (R240)? -/
def State.shadowWaits (s : State) (n : Fin 16) : Bool :=
  s.ports[n].loop.bankNext.isSome || (s.ports[n].shadow.isSome && s.ports[n].pd.trans.any (fun w => !w.applied))

/-- An update point of the lead reaches the loop (R232, R240): the committed shadow first; else, unless one waits, staged bank words enter, with the
history kept, and the bank in force follows its registers. A sweep holds the bank (R327). -/
def State.bankPoint (s : State) (n : Fin 16) : State :=
  if s.swHeld n || (s.shadowWaits n && s.ports[n].loop.bankNext.isNone) then s
  else match s.ports[n].loop.bankNext with
  | some (i, ws) => s.setBank n i ws
  | none =>
    let lo := PLP_BANK.at n 0 0
    let hi := PLP_BANK.at n 15 13 + 4
    let as := (s.staged.filter (fun p => decide (lo ≤ p.1) && decide (p.1 < hi))).map Prod.fst
    let t := s.takeStagedAll as
    let b := t.bankRegs n (t.get (PLP_STATUS.BANK n))
    if as.isEmpty then s else (t.modLoop n (fun l => { l with bank := b })).put (PLP_STATUS.MODE n) (bankMode b)

/-- The current reference of a bank (R228): CV allows the ratio ILIMR above the contract current. -/
def ilimOf (b : List Word) (ma : Nat) : Nat := if bankMode b = 0 then ma * (64 + bankIlimr b) / 64 else ma

/-- The current reference in force (R228). -/
def LoopSt.limit (l : LoopSt) : Nat := ilimOf l.bank l.ilim

/-- Start the stage of a source port (R212, R234): PLP_CFG takes effect, entry 1's bank, 5 V, pre-bias with an empty history. -/
def State.stageUp (s : State) (n : Fin 16) (ma : Nat) : State :=
  let t := ((s.takeStaged (PLP_CFG.at n)).legsArm n).rateFlags n
  let i := (t.entry n 0).loopIdx
  let b := t.bankRegs n i
  let t := t.modLoop n (fun l => { l with
      bank := b, bankNext := none, ref := 500 * tenMv, target := 500 * tenMv, rampFrom := 500 * tenMv,
      ilim := ma, eV := [0, 0, 0], uV := [0, 0, 0], eI := [0, 0, 0], uI := [0, 0, 0], sampleNo := 0, blockSum := 0, blocks := [], hrRamp := false, frz := [] })
  (((((t.put (PLP_STATUS.BANK n) i).put (PLP_STATUS.MODE n) (bankMode b)).raise (PLP_STATUS.PRE n)).clear (PLP_STATUS.CTRLI n)).put (PLP_STATUS.REGION n) 0).showRef n

/-! ### Closing Eave (R251 to R253) -/

/-- The inrush rate in mV per ms (R251). -/
def State.inrush (s : State) (n : Fin 16) : Nat :=
  let r := s.get (PEV_CTRL.RATE n) * 100
  let c := s.get (PCC_PROBE.CODE n)
  if c = 2 ∨ c = 3 then min r (s.get (PEV_CTRL.IINMAX n) * 100000 / max 1 (s.get (PCC_PROBE.CEST n))) else r

/-- A close begins (R251, R252): PEV_CTRL takes effect, the rate is chosen and reported, RATELOW when it was raised to 0.1 V/ms. -/
def State.beginClose (s : State) (n : Fin 16) (st : Nat) : State :=
  let t := s.takeStaged (PEV_CTRL.at n)
  let r := t.inrush n
  let t := t.put (PEV_STATUS.RATEUSED n) (max 100 r / 100)
  let t := if r < 100 then t.raise (PEV_FLAGS.RATELOW n) else t
  (t.flag (PEV_STATUS.DIR n) (t.isService n)).put (PEV_STATUS.STATE n) st

/-- Apply a stage-start op (R212, R252): the legs wait for the lead's phase, the stage pre-biases, Eave waits, the curve of the
implicit contract is in force. -/
def State.stageStart (s : State) (n : Fin 16) : State :=
  let t := s.stageUp n (rpCurrent (s.get (PCC_STATUS.RPOUT n)))
  ((t.beginClose n 1).implicitCurve n)

end Sys2Proof.Machine
end

