-- ==== Sys2Proof/Machine/PdOps.lean ====
section
/-!
DEFINITION. The protocol layer and policy engine of a port as shared operations (R128 to R162): receiving and sending a message, state
groups of R146, composing an offer (R133 to R135), evaluating a Request (R136), starting an AMS under collision avoidance (R119),
Hard Reset (R142, R149), Soft_Reset (R143), and the entry to Ready with what is held for it (R160).
-/

namespace Sys2Proof.Machine

/-! ### State groups (R146) -/

/-- The state groups of R146's columns; none outside them. -/
inductive PdGroup where
  | startup | neg | ready | brace | snk | dorm | none
  deriving DecidableEq, Repr

def State.pstate (s : State) (n : Fin 16) : Nat := s.get (PPD_STATUS.PSTATE n)
def State.setP (s : State) (n : Fin 16) (x : Nat) : State := s.put (PPD_STATUS.PSTATE n) x
def State.pd (s : State) (n : Fin 16) : PdSt := s.ports[n].pd

/-- The group a policy state belongs to. A service port that runs the machine at Level 1 or in Dormer shows 20 (R148). -/
def groupOf (p : Nat) : PdGroup :=
  if p = 1 ∨ p = 3 then .startup
  else if p = 4 ∨ p = 5 ∨ p = 7 ∨ p = 10 ∨ p = 11 then .neg
  else if p = 6 then .ready
  else if p = 12 then .brace
  else if 13 ≤ p ∧ p ≤ 17 then .snk
  else if p = 20 then .dorm
  else .none

def State.group (s : State) (n : Fin 16) : PdGroup := groupOf (s.pstate n)

/-- The state of a service port's sink machine (R148), whatever PSTATE reports. -/
def State.sink (s : State) (n : Fin 16) : Nat := if s.pstate n = 20 then (s.pd n).sub else s.pstate n

/-- Give the sink machine a state: at Level 1 and in Dormer PSTATE reports 20 (R148). -/
def State.setSink (s : State) (n : Fin 16) (x : Nat) : State :=
  if s.ports[n].rom then (s.modPd n (fun d => { d with sub := x })).setP n 20 else s.setP n x

/-- Does the port run at Revision 3.x (PPD_STATUS.REV)? -/
def State.rev3 (s : State) (n : Fin 16) : Bool := s.get (PPD_STATUS.REV n) != 1

/-! ### Sending -/

/-- Hand a message to the protocol layer: it is sent after those before it (R129). -/
def State.send (s : State) (n : Fin 16) (name : MsgName) (objs : List Word := []) (sop : Nat := 0) : State :=
  s.modPd n (fun d => { d with out := d.out ++ [{ name := name, sop := sop, objs := objs }] })

/-- Rp for collision avoidance in an explicit contract at Revision 3.x (R119): 3.0 A is SinkTxOk, 1.5 A is SinkTxNG. -/
def State.sinkTx (s : State) (n : Fin 16) (ok : Bool) : State :=
  if s.isSource n && s.hasContract n && s.rev3 n then s.put (PCC_STATUS.RPOUT n) (if ok then 3 else 2) else s

/-- Not_Supported (code NS of R146). -/
def State.ns (s : State) (n : Fin 16) : State := s.send n .notSupported

/-- Send Soft_Reset: the protocol layer is reset and an Accept is awaited (R143), on a source port in state 10 (assumption log 20). -/
def State.softReset (s : State) (n : Fin 16) : State :=
  let t := ((s.protoReset n).send n .softReset).satInc (PPD_COUNT.SOFT n)
  let t := t.modPd n (fun d => { d with ams := some .softReset })
  if s.isService n then t else t.setP n 10

/-! ### Hard Reset (R142, R149) -/

/-- Hard Reset, sent or received. A source port cancels its ops, removes VCONN, returns to DFP and waits tPSHardReset in state 8; one that
would exceed nHardResetCount goes to ErrorRecovery and counts in the PDHR tally. What the host ordered for the next Ready stays held (R160). A sink opens Eave, stops its stage and waits in
state 18 for VBUS; a signal received there restarts it without a second count. -/
def State.hardReset (s : State) (n : Fin 16) : State :=
  if s.pstate n = 0 then s
  else
    let t := (s.swLeave n).leaveHand n
    if s.isService n then
      let t := t.satInc (PPD_COUNT.HARD n)
      let u := if s.sink n = 18 then t else t.satInc (PPD_STATUS.HRCOUNT n)
      let u := if u.eaveLive n then u.eaveOpen n else u
      let u := ((u.legsOff n).protoReset n).noContract n
      ((u.freshRev n).modPd n (fun d => { d with sinkWant := none, firstSeen := false, held := d.held.filter (fun k => k == 3) })).setSink n 18
    else if 2 ≤ t.get (PPD_STATUS.HRCOUNT n) then (t.errRec n).tallyLatch n tallyPDHR
    else
      let u := ((((t.satInc (PPD_COUNT.HARD n)).satInc (PPD_STATUS.HRCOUNT n)).dropOps n).noContract n).protoReset n
      let u := (((u.vconnOff n).startRole n).allocToFloor n).showRp n
      let u := ((u.freshRev n).clear (PPD_STATUS.BRACE n)).modPd n (fun d => { d with
        firstSeen := false, reduced := false, lastShort := none, held := d.held.filter (fun k => k == 0 || k == 3 || k == 4), offerDue := false, braceState := none, braceWarn := false })
      (u.modLoop n (fun l => { l with target := l.ref - compUnits l.comp })).setP n 8

/-- The action * of R146: in STARTUP Soft_Reset; in NEG Soft_Reset before the Accept of the AMS and Hard Reset after it. In state 11 only a DR_Swap that has been
accepted has its Accept on the way. -/
def State.starAct (s : State) (n : Fin 16) : State :=
  let p := s.pstate n
  if p = 5 ∨ (p = 10 ∧ (s.pd n).ams ≠ some .softReset) ∨ (p = 11 ∧ (s.pd n).out.any (fun m => m.name == .acceptSwap)) then s.hardReset n else s.softReset n

/-! ### Composing an offer (R133 to R135) -/

/-- What the composition depends on: cable, revision, powers in W. -/
structure OfferEnv where
  cable5A : Bool
  cableEpr : Bool
  rev3 : Bool
  pmax : Nat
  avail : Nat
  warn : Option Nat
  rpMa : Nat
  deriving DecidableEq, Repr

/-- Current of a PDO in mA: an EPR AVS APDO carries a power instead (R133). -/
def pdoMa (w : Word) : Nat := if pdoKind w = 0 then fieldOf w 9 0 * 10 else if pdoKind w = 1 then fieldOf w 6 0 * 50 else 0

/-- Power of a PDO in mW, an APDO's at its maximum voltage (R133). -/
def pdoMw (w : Word) : Nat := if pdoKind w = 2 then fieldOf w 7 0 * 1000 else pdoVmax w * pdoMa w / 100

/-- A PDO with its current lowered to at most ma, rounded down to 10 mA or 50 mA; a trimmed PPS APDO gets its Power Limited bit when mark is set. -/
def pdoClampMa (w : Word) (ma : Nat) (mark : Bool) : Word :=
  if pdoKind w = 0 then
    if pdoMa w ≤ ma then w else BitVec.ofNat 32 (w.toNat - fieldOf w 9 0 + ma / 10)
  else if pdoKind w = 1 then
    if pdoMa w ≤ ma then w
    else BitVec.ofNat 32 (w.toNat - fieldOf w 6 0 + ma / 50) ||| (if mark then 0x08000000#32 else 0)
  else
    let cap := ma * pdoVmax w / 100000
    if fieldOf w 7 0 ≤ cap then w else BitVec.ofNat 32 (w.toNat - fieldOf w 7 0 + cap)

/-- A PDO limited to a power in W (R133 steps 3 to 5). -/
def pdoClampW (w : Word) (watts : Nat) : Word :=
  if pdoMw w ≤ watts * 1000 then w
  else if pdoKind w = 2 then BitVec.ofNat 32 (w.toNat - fieldOf w 7 0 + watts)
  else pdoClampMa w (watts * 100000 / max 1 (pdoVmax w)) true

/-- Is a PDO above a power in W? -/
def pdoOver (w : Word) (watts : Nat) : Bool := decide (watts * 1000 < pdoMw w)

/-- One step that limits an entry to a power when TRIMOK, and leaves it out when not (R133 step 4). -/
def trimStep (e : PolicyEntry) (w : Option Word) (watts : Nat) : Option Word :=
  match w with
  | none => none
  | some p => if !pdoOver p watts then some p else if e.trimOk then some (pdoClampW p watts) else none

/-- POLICY entry k (0-based) as it comes to step 4, none when it is left out before (R133). -/
def offerBefore (env : OfferEnv) (k nspr : Nat) (e : PolicyEntry) : Option Word :=
  let p := e.pdo
  let eprEntry := decide (nspr ≤ k)
  let p1 : Option Word :=
    if e.need5A && !env.cable5A then none
    else if (eprEntry || (pdoKind p == 0 && decide (2000 < pdoVmax p))) && !env.cableEpr then none
    else if !env.cable5A && !e.need5A then some (pdoClampMa p 3000 false) else some p
  let p2 := if !env.rev3 && (eprEntry || pdoKind p != 0) then none else p1
  p2.map (fun w => pdoClampW w env.pmax)

/-- Is entry k lowered or left out at step 4 (R133, R178)? -/
def offerShort (env : OfferEnv) (k nspr : Nat) (e : PolicyEntry) : Bool :=
  match offerBefore env k nspr e with
  | some w => pdoOver w env.avail
  | none => false

/-- The current in mA to which the limits of steps 3 to 5 would take an entry, were it lowered at each (R133 step 6). -/
def limitedMa (env : OfferEnv) (p : Word) : Nat :=
  let q := pdoClampW (pdoClampW p env.pmax) env.avail
  pdoMa (match env.warn with
    | none => q
    | some w => pdoClampW q w)

/-- The object of POLICY entry k (0-based) in an offer, none when it is left out (R133). Entry 1 is never left out: where a limit would take its current below that of
the pre-contract Rp level it is offered at that current (step 6); where it would be left out and the limit is no lower, it is offered at the current that POLICY gives
(DESIGN CHOICE, assumption log 133). A PPS APDO that only the cable clamps, in step 1, is not marked Power Limited (DESIGN CHOICE, assumption log 134). -/
def offerEntry (env : OfferEnv) (k nspr : Nat) (e : PolicyEntry) : Option Word :=
  let p := e.pdo
  let p4 := trimStep e (offerBefore env k nspr e) env.avail
  let p5 := match env.warn with
    | none => p4
    | some w => trimStep e p4 w
  if k = 0 then
    some (if limitedMa env p < pdoMa p ∧ limitedMa env p < env.rpMa then BitVec.ofNat 32 (p.toNat - fieldOf p 9 0 + env.rpMa / 10) else p5.getD p)
  else p5

/-- Bits [29:23] of entry 1 as the device sets them (R134). -/
def stampFirst (w : Word) (uncons drd eprcap : Bool) : Word :=
  (w &&& ~~~0x3F800000#32) ||| BitVec.ofNat 32 (b2n uncons * 2 ^ 27 + b2n drd * 2 ^ 25 + b2n eprcap * 2 ^ 23)

/-- What a port composes with now (R133); extra is power added to free, to see what a hold trimmed (R178). -/
def State.offerEnv (s : State) (n : Fin 16) (extra : Nat) : OfferEnv :=
  { cable5A := s.get (PCC_CABLE.IMAX n) == 2, cableEpr := s.get (PCC_CABLE.VMAX n) == 1 && s.bit (PCC_CABLE.EPR n),
    rev3 := s.rev3 n && !s.bit (PPD_CFG.REV20 n), pmax := fieldOf (s.policyHead n) 31 16,
    avail := (if s.ports[n].deficitDue ≠ 0 then
        let f := s.floorOf n
        let fs := s.floorSum
        f + (s.allocOf n - f) * (s.effBudget - fs) / max 1 (s.allocSum - fs)
      else s.allocOf n + (s.trussFree + (extra : Int)).toNat),
    warn := if s.bit (PPD_STATUS.INWARN n) && s.bit (PPD_WARNCFG.REOFFER n) then some (s.get (PPD_WARNCFG.WARNPW n)) else none,
    rpMa := rpCurrent (s.rpLevel n) }

/-- All entries of an offer in POLICY order. -/
def State.offerEntries (s : State) (n : Fin 16) (env : OfferEnv) : List (Option Word) :=
  let es := s.policy n
  let nspr := fieldOf (s.policyHead n) 2 0
  let h := s.policyHead n
  es.zipIdx.map (fun (ek : PolicyEntry × Nat) =>
    let w := offerEntry env ek.2 nspr ek.1
    if ek.2 = 0 then w.map (fun x => stampFirst x (fieldOf h 7 7 == 1) (s.bit (PPD_CFG.DRACC n)) (fieldOf h 6 6 == 1)) else w)

/-- Entries kept, in order, with their POLICY index. -/
def kept (l : List (Option Word × Nat)) : List (Word × Nat) := l.filterMap (fun p => p.1.map (fun w => (w, p.2)))

/-- The positions of an offer (R135): SPR entries without gaps, in EPR mode padded to 7 and followed by the EPR entries; each with its POLICY index. -/
def placeOffer (ws : List (Option Word)) (nspr : Nat) (epr : Bool) : List (Word × Option Nat) :=
  let z := ws.zipIdx
  let spr := (kept (z.filter (fun p => decide (p.2 < nspr)))).map (fun p => (p.1, some p.2))
  if epr then
    spr ++ List.replicate (7 - spr.length) (0, none) ++ (kept (z.filter (fun p => decide (nspr ≤ p.2)))).map (fun p => (p.1, some p.2))
  else spr

/-- Compose an SPR or an EPR offer and show it in PPD_OFFER and PPD_OFFERINFO, with the tags of the holds that trimmed it (R133, R178). -/
def State.composeAs (s : State) (n : Fin 16) (epr : Bool) : State :=
  let nspr := fieldOf (s.policyHead n) 2 0
  let ws := s.offerEntries n (s.offerEnv n 0)
  let pos := placeOffer ws nspr epr
  let trim := (ws.zip (s.policy n)).zipIdx.foldl (fun k (x : (Option Word × PolicyEntry) × Nat) =>
    let changed := match x.1.1 with
      | none => true
      | some w => decide (pdoMw w < pdoMw x.1.2.pdo)
    if changed then k ||| 2 ^ x.2 else k) 0
  let freed := fun (m : Fin 16) => (s.policy n).zipIdx.any (fun (ek : PolicyEntry × Nat) =>
    offerShort (s.offerEnv n 0) ek.2 nspr ek.1 && !offerShort (s.offerEnv n (s.get (TRS_HOLD.HOLD m))) ek.2 nspr ek.1)
  let tags := allPorts.filterMap (fun m => if m != n && s.bit (TRS_HOLD.VALID m) && freed m then some (s.get (TRS_HOLD.TAG m)) else none)
  let t := (List.range 11).foldl (fun u k => u.wr (PPD_OFFER.at n k) ((pos.map Prod.fst).getD k 0)) s
  let t := ((t.put (PPD_OFFERINFO.COUNT n) ((pos.filter (fun p => p.1 != 0)).length)).put (PPD_OFFERINFO.TRIM n) trim).flag (PPD_OFFERINFO.EPRMSG n) epr
  (t.modPd n (fun d => { d with posMap := pos.map Prod.snd })).modPort n (fun p => { p with offerAt := s.now, offerTrims := tags })

/-- Compose the offer that fits the port's mode. -/
def State.compose (s : State) (n : Fin 16) : State := s.composeAs n (s.bit (PPD_STATUS.EPRMODE n))

/-- The objects of the offer last composed. -/
def State.offerObjs (s : State) (n : Fin 16) : List Word := (List.range (s.pd n).posMap.length).map (fun k => s.rd (PPD_OFFER.at n k))

/-- Send the offer last composed, as Source_Capabilities or EPR_Source_Capabilities. -/
def State.sendCached (s : State) (n : Fin 16) : State :=
  s.send n (if s.bit (PPD_OFFERINFO.EPRMSG n) then .eprSourceCap else .sourceCap) (s.offerObjs n)

/-- Compose and send a fresh offer: Send_Capabilities (R131 state 3). -/
def State.sendOffer (s : State) (n : Fin 16) : State :=
  let t := (s.compose n).modPd n (fun d => { d with acked := false, offerDue := false, capsDue := false })
  ((t.modPort n (fun p => { p with deficitDue := 0 })).sendCached n).setP n 3

/-- No discovery message is out any more: a first offer that has waited for it is sent (R131 state 1). -/
def State.afterDisc (s : State) (n : Fin 16) : State :=
  if (s.pd n).capsDue && s.pstate n == 1 && !(s.pd n).discovering then s.sendOffer n else s

/-! ### Starting an AMS (R119, R160) -/

/-- The first message of an AMS of the port leaves. -/
def State.amsFirst (s : State) (n : Fin 16) (name : MsgName) : State :=
  match name with
  | .sourceCap => (s.modPd n (fun d => { d with ams := some .sourceCap })).sendOffer n
  | .drSwap =>
    let t := (s.modPd n (fun d => { d with ams := some .drSwap })).send n .drSwap
    if t.isService n then t else t.setP n 11
  | .alert => (s.modPd n (fun d => { d with ams := some .alert })).send n .alert [0x20000000]
  | .getStatus => (s.modPd n (fun d => { d with ams := some .getStatus, getStatusSent := true })).send n .getStatus
  | .softReset => s.softReset n
  | .eprExit => (((s.modPd n (fun d => { d with ams := some .eprExit })).clear (PPD_STATUS.EPRMODE n))).send n .eprExit
  | .ordered k => (s.modPd n (fun d => { d with ams := some (.ordered k) })).send n (.ordered k) [] (k / 32)
  | x => s.modPd n (fun d => { d with ams := some x })

/-- The mark of a pending AMS in the list of what is held. -/
def amsMark (name : MsgName) : Nat :=
  match name with
  | .sourceCap => 100
  | .drSwap => 101
  | .alert => 102
  | .getStatus => 103
  | .softReset => 105
  | .ordered k => 200 + k
  | _ => 104

/-- Begin an AMS from Ready: in an explicit contract at Revision 3.x SinkTxNG comes first and tSinkTx runs (R119), else the message leaves at once. -/
def State.beginAms (s : State) (n : Fin 16) (name : MsgName) : State :=
  if s.isSource n && s.hasContract n && s.rev3 n then (s.sinkTx n false).modPd n (fun d => { d with held := d.held ++ [amsMark name] })
  else s.amsFirst n name

/-- The message a mark of a pending AMS stands for. -/
def amsOf (k : Nat) : Option MsgName :=
  if k = 100 then some .sourceCap else if k = 101 then some .drSwap else if k = 102 then some .alert
  else if k = 103 then some .getStatus else if k = 104 then some .eprExit else if k = 105 then some .softReset
  else if 200 ≤ k then some (.ordered (k - 200)) else none

/-- Is an AMS of the port pending or in progress? -/
def State.amsBusy (s : State) (n : Fin 16) : Bool := (s.pd n).ams.isSome || (s.pd n).held.any (fun k => decide (100 ≤ k))

/-- May the port start an AMS of its own now: Ready, or Sink Ready while the partner shows SinkTxOk (R119)? -/
def State.mayStart (s : State) (n : Fin 16) : Bool :=
  !s.amsBusy n && (s.pstate n == 6 || (s.pstate n == 17 && (!s.rev3 n || s.get (PCC_STATUS.RPSEEN n) == 3)))

/-- Leave EPR mode as R141 gives: at 20 V or less EPR_Mode (Exit) and an SPR offer, above 20 V Hard Reset. -/
def State.leaveEpr (s : State) (n : Fin 16) : State :=
  if s.get (PPD_CONTRACTVI.V10 n) ≤ 2000 then s.beginAms n .eprExit else s.hardReset n

/-- Is an Alert due that the port may send: in an explicit contract at Revision 3.x (R156)? -/
def State.alertWaits (s : State) (n : Fin 16) : Bool := decide (0 < (s.pd n).alertDue) && s.hasContract n && s.rev3 n

/-- Begin the AMS of an Alert that was due. -/
def State.dueAlert (s : State) (n : Fin 16) : State := (s.modPd n (fun d => { d with alertDue := d.alertDue - 1 })).beginAms n .alert

/-- Entry to Ready. An AMS that the partner's message deferred is still pending, so SinkTxNG stands and tSinkTx runs again (R119, R160); else what was held is
performed, the Alert first, then an offer, DR_Swap and EPR exit (R160, R156). -/
def State.enterReady (s : State) (n : Fin 16) : State :=
  let t := (s.setP n 6).modPd n (fun d => { d with ams := none })
  let ng := t.amsBusy n
  let t := t.sinkTx n !ng
  let d := t.pd n
  if ng then t
  else if t.alertWaits n then t.dueAlert n
  else if d.offerDue || d.held.contains 0 then (t.modPd n (fun x => { x with offerDue := false, held := x.held.filter (fun k => k != 0) })).beginAms n .sourceCap
  else if d.held.contains 3 then (t.modPd n (fun x => { x with held := x.held.filter (fun k => k != 3) })).beginAms n .drSwap
  else if d.held.contains 4 then
    let u := t.modPd n (fun x => { x with held := x.held.filter (fun k => k != 4) })
    if u.bit (PPD_STATUS.EPRMODE n) then u.leaveEpr n else u
  else t

/-- What a service port owes goes out once it may begin an AMS: the Alert first, then a DR_Swap that was held (R119, R156, R160). -/
def State.sinkGo (s : State) (n : Fin 16) : State :=
  if s.isService n && s.mayStart n then
    if s.alertWaits n then s.dueAlert n
    else if (s.pd n).held.contains 3 then (s.modPd n (fun x => { x with held := x.held.filter (fun k => k != 3) })).beginAms n .drSwap
    else s
  else s

/-- End the AMS the port runs and return to Ready. -/
def State.endAms (s : State) (n : Fin 16) : State :=
  let t := s.modPd n (fun d => { d with ams := none })
  if s.isService n then t.sinkGo n else t.enterReady n

/-- Hold a command for the next Ready (R160). -/
def State.hold (s : State) (n : Fin 16) (k : Nat) : State :=
  s.modPd n (fun d => { d with held := if d.held.contains k then d.held else d.held ++ [k] })

/-- EPR is no longer available to a port in EPR mode (R141): above 20 V Hard Reset, else EPR_Mode (Exit) from Ready. -/
def State.eprLost (s : State) (n : Fin 16) : State :=
  if !s.bit (PPD_STATUS.EPRMODE n) then s
  else if 2000 < s.get (PPD_CONTRACTVI.V10 n) then s.hardReset n
  else if s.pstate n = 6 ∧ ¬ s.amsBusy n then s.leaveEpr n
  else s.hold n 4

/-- The mark of a PCAPS action that waits for the end of a sweep (R327). -/
def heldPcaps : Nat := 8

/-- A fresh offer is wanted (R116, R137, R156, R178): from Ready at once, else on the next entry to Ready. -/
def State.wantOffer (s : State) (n : Fin 16) : State :=
  if s.pstate n = 6 ∧ ¬ s.amsBusy n then s.beginAms n .sourceCap
  else if s.pstate n = 19 then s.sendOffer n
  else s.modPd n (fun d => { d with offerDue := true })

/-! ### Receiving (R129, R130) -/

/-- Can the protocol layer of a port receive: released, running, attached with a policy state other than Disabled, Hard Reset and Sink Hard Reset? -/
def State.listening (s : State) (n : Fin 16) : Bool :=
  s.portUp n && !s.halted n.val && s.pstate n != 0 && s.pstate n != 8 && s.pstate n != 9 && s.sink n != 18

/-- Is a MessageID the one of the last message of an SOP code, 0 SOP, 1 SOP' or 2 SOP'' (R129)? -/
def State.repeated (s : State) (n : Fin 16) (sop : Nat) (id : BitVec 3) : Bool := (s.pd n).rxId.getD sop none == some id.toNat

/-- Keep the MessageID of a message of an SOP code. -/
def State.keepId (s : State) (n : Fin 16) (sop : Nat) (id : BitVec 3) : State := s.modPd n (fun d => { d with rxId := d.rxId.set sop (some id.toNat) })

/-- The partner's message is taken: its MessageID is kept, and the first one fixes the revision (R129, R130). -/
def State.takeHead (s : State) (h : PdHead) : State :=
  let n := h.n
  let t := (s.keepId n 0 h.id).modPd n (fun d => { d with firstSeen := true, lastSoft := false })
  if (s.pd n).firstSeen then t else t.put (PPD_STATUS.REV n) (if h.rev20 || t.bit (PPD_CFG.REV20 n) then 1 else 2)

/-- Receive a message: one with a repeated MessageID is only acknowledged; the partner's first message fixes the revision; a port in
NoPD goes to Send_Capabilities. Then the message is handled. -/
def State.receive (s : State) (h : PdHead) (act : State → State) : State :=
  if !s.listening h.n || s.repeated h.n 0 h.id then s
  else
    let t := s.takeHead h
    if t.pstate h.n = 19 then t.sendOffer h.n else act t

/-- A message row done for its port. -/
def received (h : PdHead) (s : State) (act : State → State) : Res := doneAll s (s.receive h act)

/-! ### Requests (R136, R184) -/

/-- Position, voltage in 10 mV, current in mA of an RDO against an object of the offer (PD encoding). -/
def rdoPos (rdo : Word) : Nat := fieldOf rdo 31 28
def rdoV10 (pdo rdo : Word) : Nat :=
  if pdoKind pdo = 0 then pdoVmax pdo else if pdoKind pdo = 1 then fieldOf rdo 20 9 * 2 else fieldOf rdo 20 9 * 5 / 2
def rdoMa (pdo rdo : Word) : Nat := if pdoKind pdo = 0 then fieldOf rdo 9 0 * 10 else fieldOf rdo 6 0 * 50
/-- EPR Mode Capable and Capability Mismatch bits of an RDO. -/
def rdoEpr (rdo : Word) : Bool := fieldOf rdo 22 22 == 1
def rdoMismatch (rdo : Word) : Bool := fieldOf rdo 26 26 == 1

/-- P of a contract in W, rounded up (R180). -/
def powerW (v10 ma : Nat) : Nat := (v10 * ma + 99999) / 100000

/-- The object at a position of the offer last sent, 0 when empty or absent. -/
def State.offered (s : State) (n : Fin 16) (p : Nat) : Word :=
  if p = 0 ∨ (s.pd n).posMap.length < p then 0 else s.rd (PPD_OFFER.at n (p - 1))

/-- The reason code of R136 for which a Request is rejected, 0 when it is valid against the offer. -/
def State.rejectCode (s : State) (n : Fin 16) (rdo copy : Word) (isEpr : Bool) : Nat :=
  let p := rdoPos rdo
  let pdo := s.offered n p
  let v := rdoV10 pdo rdo
  let i := rdoMa pdo rdo
  if pdo = 0 then 1
  else if 7 < p ∧ ¬ s.bit (PPD_STATUS.EPRMODE n) then 2
  else if isEpr ∧ copy ≠ pdo then 3
  else if 7 < p ∧ ¬ rdoEpr rdo then 3
  else if pdoKind pdo = 0 then (if pdoMa pdo < fieldOf rdo 19 10 * 10 then 4 else 0)
  else if pdoKind pdo = 1 then (if v < fieldOf pdo 15 8 * 10 ∨ pdoVmax pdo < v ∨ pdoMa pdo < i then 4 else 0)
  else if v < 1500 ∨ 4800 < v ∨ fieldOf rdo 20 9 % 4 ≠ 0 ∨ fieldOf pdo 7 0 * 100000 < v * i then 4 else 0

/-- The transition a valid Request asks for. -/
def State.wanted (s : State) (n : Fin 16) (rdo : Word) : Transition :=
  let p := rdoPos rdo
  let pdo := s.offered n p
  let k := ((s.pd n).posMap.getD (p - 1) none).getD 0
  let e := s.entry n k
  { rdo := rdo, pos := p, kind := pdoKind pdo, v10 := rdoV10 pdo rdo, ma := rdoMa pdo rdo, power := powerW (rdoV10 pdo rdo) (rdoMa pdo rdo),
    fuseIdx := e.fuseIdx, loopIdx := e.loopIdx, applied := false }

/-- The three tentative ops of run-ahead or of the predictor (R173, R184): SETP(T) with the SUB of the bank's mode, LIM(T) and TRUSS(T). -/
def State.tentativeOps (s : State) (n : Fin 16) (w : Transition) (pred : Option Nat) : List Op :=
  let sub := if bankMode (s.bankRegs n w.loopIdx) = 0 then 0 else 1
  let mk := fun cls sb arg (pay : Nat) => { Op.mk0 n.val cls srcPd sb arg with
    tent := true, pv := pred.isSome, pred := pred.getD 0, predictor := pred.isNone, payload := BitVec.ofNat 64 pay, pos := w.pos }
  [mk clsSETP sub (setpArg w.v10 w.ma) w.loopIdx, mk clsLIM 0 (limArg w.fuseIdx w.ma) 0, mk clsTRUSS 0 (min w.power 65535) 0]

/-- Is an op one that the predictor staged for a port and no Request has adopted? -/
def Op.predicts (o : Op) (n : Fin 16) : Bool := o.tent && o.port == n.val && o.predictor && !o.pv

/-- Does the predictor's staged prediction match a Request: same position and current, voltage within 20 mV (R184)? -/
def State.predMatches (s : State) (n : Fin 16) (w : Transition) : Bool :=
  let d := s.pd n
  !d.predTags.isEmpty && d.contractPos == w.pos && w.kind == 1 &&
  (match d.run with
   | (_, _, i, _) :: _ => i == w.ma
   | [] => false) &&
  decide (w.v10 ≤ d.predV + 2) && decide (d.predV ≤ w.v10 + 2)

/-- The predictor's ops missed (R184): they are cancelled by name, MISSES counts, and after three misses in a row the predictor stops for the run. -/
def State.predMiss (s : State) (n : Fin 16) : State :=
  let tags := (s.pd n).predTags
  if tags.isEmpty then s
  else
    let t := s.cancelTags (fun o => o.predicts n) tags
    let k := (t.pd n).missRow + 1
    let t := ((t.modPd n (fun d => { d with predTags := [], missRow := k })).satInc (RDG_PRED.MISSES n)).fire 0x11A n.val
    if 3 ≤ k then t.raise (RDG_PRED.STOPPED n) else t

/-- Adopt the predictor's ops: their PRED becomes the MSG tag (R184). -/
def State.adopt (s : State) (n : Fin 16) (tag : Nat) : State :=
  let t := s.modRidge (fun r => { r with window := r.window.map (fun o => if o.predicts n then { o with pv := true, pred := tag } else o) })
  (t.modPd n (fun d => { d with predTags := [], missRow := 0 })).satInc (RDG_PRED.HITS n)

/-- The MSG op with a tag keeps the tags of the ops that its group holds now, which its Reject or Wait will name (R186). -/
def State.noteGroup (s : State) (tag : Nat) : State :=
  let ms := (s.ridge.window.filter (fun o => o.tent && o.pv && o.pred == tag)).map Op.tag
  s.modRidge (fun r => { r with window := r.window.map (fun o => if o.tag == tag then { o with members := ms } else o) })

/-- Behind the MSG op of a Request that has just entered with a tag: the predictor's ops, where they match and still stand, are adopted (R184); else
run-ahead enters its ops (R173), if it may (R176, R450). -/
def State.followMsg (s : State) (n : Fin 16) (tag : Nat) : State :=
  match (s.pd n).reqRdo with
  | none => s
  | some (rdo, _, _) =>
    let w := s.wanted n rdo
    let t := if s.predMatches n w && s.ridge.window.any (fun o => o.predicts n) then s.adopt n tag
      else
        let u := s.modPd n (fun d => { d with predTags := [] })
        if u.bit RDG_CFG.RAEN && u.get UPD_STAT.STATE != 4 && u.offered n w.pos != 0 then (u.tentativeOps n w (some tag)).foldl State.offer u else u
    t.noteGroup tag

/-- A Request or EPR_Request that goes to evaluation (R131 states 3 and 6): Negotiate, the MSG op, and run-ahead or the adoption of the predictor's ops. A MSG
op that finds no room enters later, and what follows it with it (R172). -/
def State.request (s : State) (n : Fin 16) (rdo copy : Word) (isEpr : Bool) : State :=
  let t := (s.modPd n (fun d => { d with reqRdo := some (rdo, copy, isEpr), acked := false, ams := none })).setP n 4
  let msg := { Op.mk0 n.val clsMSG srcPd 0 (if isEpr then 9 else 2) with payload := BitVec.ofNat 64 (rdo.toNat + copy.toNat * 2 ^ 32) }
  let u := t.offer msg
  let v := if u.predMatches n (t.wanted n rdo) then u else u.predMiss n
  if u.ridge.window.length = t.ridge.window.length then v else v.followMsg n u.ridge.lastTag

/-! ### Contracts -/

/-- The code of PPD_STATUS.CONTRACT for a new explicit contract: EPR for the positions from 8 onward (R135, assumption log 24). -/
def Transition.contractCode (w : Transition) : Nat := if 7 < w.pos then 2 else 1

/-- Record a contract in force (R139, PPD_CONTRACT): at Revision 3.x Rp now carries collision avoidance (R119). -/
def State.recordContract (s : State) (n : Fin 16) (w : Transition) : State :=
  let t := ((s.put (PPD_STATUS.CONTRACT n) w.contractCode).put (PPD_STATUS.KIND n) w.kind).wr (PPD_CONTRACT.at n) w.rdo
  let t := (t.put (PPD_CONTRACTVI.V10 n) w.v10).put (PPD_CONTRACTVI.MA n) w.ma
  t.modPd n (fun d => { d with contractPos := w.pos, contractPower := w.power })

/-- The predictor's run after an accepted Request (R184): a contract of another kind or position starts a new run. With PREDEN = 0 nothing is watched. -/
def State.noteRun (s : State) (n : Fin 16) (w : Transition) (at_us : Nat) : State :=
  if w.kind ≠ 1 ∨ ¬ s.bit RDG_CFG.PREDEN then s.endRun n
  else
    let t := if (s.pd n).contractPos = w.pos then s else s.endRun n
    let run := ((at_us, w.v10, w.ma, w.pos) :: (t.pd n).run).take 3
    let t := t.modPd n (fun d => { d with run := run })
    match run with
    | [(t3, v3, i3, _), (t2, v2, i2, _), (t1, v1, i1, _)] =>
      let a := t2 - t1
      let b := t3 - t2
      let near := fun (x y : Nat) => decide (x ≤ y + 2) && decide (y ≤ x + 2)
      let ok := decide (100000 ≤ b) && decide ((max a b - min a b) * 10 ≤ b) && near (v3 + v1) (2 * v2) && i1 == i2 && i2 == i3
      let t := t.put (RDG_PRED.INTERVAL n) (min 16383 (b / 10000))
      t.flag (RDG_PRED.QUAL n) ok
    | _ => t.clear (RDG_PRED.QUAL n)

/-! ### The fixed-logic responder (R131 state 12, R29, R451) -/

/-- The state the machine is in behind state 12. -/
def State.peff (s : State) (n : Fin 16) : Nat := if s.pstate n = 12 then (s.pd n).braceState.getD 0 else s.pstate n

/-- Give the machine a state, behind state 12 while the fixed-logic responder is in charge. -/
def State.setEff (s : State) (n : Fin 16) (x : Nat) : State :=
  if s.pstate n = 12 then s.modPd n (fun d => { d with braceState := some x }) else s.setP n x

/-- The fixed-logic responder takes over on an attached port (R131); a Request not yet answered is answered Wait (R146). -/
def State.enterBrace (s : State) (n : Fin 16) : State :=
  if s.pstate n = 0 ∨ s.pstate n = 12 then s
  else
    let p := s.pstate n
    let t := if p = 4 then (s.swLeave n).send n .wait else s.swLeave n
    let back := if p = 4 then (if s.hasContract n then 6 else 3) else p
    ((t.modPd n (fun d => { d with braceState := some back, reqRdo := none })).raise (PPD_STATUS.BRACE n)).setP n 12

/-- A warning that came under the fixed-logic responder and still holds is told now: the Alert, or at Revision 2.0 the reduced offer (R156, R160). -/
def State.tellWarning (s : State) (n : Fin 16) : State :=
  if !(s.pd n).braceWarn then s
  else if s.rev3 n then s.modPd n (fun d => { d with braceWarn := false, alertDue := d.alertDue + 1 })
  else if s.bit (PPD_WARNCFG.REOFFER n) then s.modPd n (fun d => { d with braceWarn := false, reduced := true, offerDue := true })
  else s.modPd n (fun d => { d with braceWarn := false })

/-- The policy engine resumes in the state held on entry (R131); a Soft_Reset that the host ordered meanwhile goes out, and in Ready what is held is performed (R160,
R163). -/
def State.leaveBrace (s : State) (n : Fin 16) : State :=
  if s.pstate n = 12 then
    let p := (s.pd n).braceState.getD 6
    let t := ((s.modPd n (fun d => { d with braceState := none })).clear (PPD_STATUS.BRACE n)).tellWarning n
    if (t.pd n).held.contains 7 then ((t.modPd n (fun d => { d with held := d.held.filter (fun k => k != 7) })).setP n p).softReset n
    else if p = 6 then t.enterReady n
    else t.setP n p
  else s

end Sys2Proof.Machine
end

