-- ==== Sys2Proof/Machine/JtlOps.lean ====
section
/-!
DEFINITION. The chain as shared operations (R311 to R332): claims and elections, the link and lock ports, freezes, shares, phases, the
coordinated sweep, and what every device does at an index.
-/

namespace Sys2Proof.Machine

/-! ### Membership (R320) -/

/-- The words a serial occupies, low word first. -/
def serialWord (x : BitVec 96) (i : Nat) : Word := BitVec.ofNat 32 (x.toNat >>> (32 * i))

/-- Write an entry of the node table: serial, present-port mask, VALID and this-device flags. -/
def State.setNode (s : State) (k : Nat) (serial : BitVec 96) (mask : Nat) (own : Bool) : State :=
  let t := (List.range 3).foldl (fun u i => u.wr (JTL_NODE.at k i) (serialWord serial i)) s
  t.wr (JTL_NODE.at k 3) (BitVec.ofNat 32 (mask % 65536 + 65536 + 131072 * b2n own))

/-- Clear the node table. -/
def State.clearNodes (s : State) : State :=
  (List.range 16).foldl (fun t k => (List.range 4).foldl (fun u i => u.wr (JTL_NODE.at k i) 0) t) s

/-- The serial in an entry of the node table. -/
def State.nodeSerial (s : State) (k : Nat) : BitVec 96 :=
  BitVec.ofNat 96 ((s.rd (JTL_NODE.at k 0)).toNat + (s.rd (JTL_NODE.at k 1)).toNat * 2 ^ 32 + (s.rd (JTL_NODE.at k 2)).toNat * 2 ^ 64)

/-- The serial of the leader this device follows (JTL_LEADER). -/
def State.leaderSerial (s : State) : BitVec 96 :=
  BitVec.ofNat 96 ((s.rd (JTL_LEADER.at 0)).toNat + (s.rd (JTL_LEADER.at 1)).toNat * 2 ^ 32 + (s.rd (JTL_LEADER.at 2)).toNat * 2 ^ 64)

/-- The destinations a chain event may reach under PEER (R324). -/
def peerDest (d : Nat) : Bool := decide (d < 32) || (decide (76 ≤ d) && decide (d < 80)) || d == 81 || (decide (84 ≤ d) && decide (d < 96))

/-- The valid entries of the node table. -/
def State.validNodes (s : State) : List Nat := (List.range 16).filter (fun k => nodeValid (s.rd (JTL_NODE.at k 3)))

/-- The serials of the valid nodes a mask names, this device left out. -/
def State.serialsOf (s : State) (nodes : Nat) : List (BitVec 96) :=
  (s.validNodes.filter (fun k => nodes.testBit k && s.myNode != some k)).map s.nodeSerial

/-- The present ports of the device whose lead joins the interleave (R202). -/
def State.interleaved (s : State) : List (Fin 16) :=
  allPorts.filter (fun n => s.present n && (match s.leadOf n with
    | some k => s.bit (RAF_CTRL.INTLV k)
    | none => false))

/-- A mask of ports. -/
def portMaskOf (l : List (Fin 16)) : Nat := l.foldl (fun m n => m ||| 2 ^ n.val) 0

/-- This device's MEMBER fields (R308). -/
def State.ownMember (s : State) : Member :=
  { serial := s.serial, mask := s.get GLB_PORTMASK.PRESENT, ilv := portMaskOf s.interleaved, floor := s.floorSum }

/-- Send MEMBER to the leader (R320). -/
def State.sendMember (s : State) : State :=
  let m := s.ownMember
  (s.sendF tyMEMBER 0xFE [m.serial.toNat, m.mask, m.ilv, m.floor] s.toLeader).modJtl (fun j => { j with memSent := some m })

/-- A lost node is back: it leaves the list, and SEGMENT falls with the last one (R331). -/
def State.rejoined (s : State) (x : BitVec 96) : State :=
  if s.jtl.lost.contains x then
    let l := s.jtl.lost.filter (fun y => y != x)
    (s.modJtl (fun j => { j with lost := l })).flag JTL_STAT.SEGMENT (!l.isEmpty)
  else s

/-! ### The sweep (R326 to R329) -/

/-- The steps of the schedule that a count of indices after S names: node position, phase step and whether it is the settle period. -/
def Sweep.slot (w : Sweep) (d : Nat) : Option (Nat × Nat × Bool) :=
  if d = 0 then none
  else
    let x := d - 1
    let i := x / (2 * w.nph)
    if i < w.order.length then some (i, x % (2 * w.nph) / 2, x % 2 == 0) else none

/-- Index count of the end of the schedule, from S. -/
def Sweep.last (w : Sweep) : Nat := 1 + 2 * w.nph * w.order.length

/-- Indices from S to an index, wrapping; an index before S gives none. -/
def Sweep.since (w : Sweep) (idx : Nat) : Option Nat :=
  let d := (idx + 2 ^ 32 - w.start) % 2 ^ 32
  if d < 2 ^ 31 then some d else none

/-- May a port be placed in measurement conditions (R327)? -/
def State.sweepable (s : State) (n : Fin 16) : Bool :=
  s.portUp n && s.isSource n && s.get (PPD_STATUS.PSTATE n) == 6 && !s.bit (PLP_STATUS.RAMP n) && !s.bit (PPD_STATUS.BRACE n)

/-- Every present port is placed in measurement conditions or excluded and counted (R327); the own leads' phases are kept for the end. -/
def State.placePorts (s : State) (w : Sweep) : State :=
  let ok := allPorts.filter s.sweepable
  let out := (allPorts.filter (fun n => s.present n && !s.sweepable n)).length
  let ph := (s.interleaved.filterMap s.leadOf).map (fun k => (k.val, s.get (RAF_PHASE.PHASE k)))
  let t := (s.wr JTL_SWDEV.at 0).put JTL_SWDEV.EXCL (min 15 out)
  let t := allPorts.foldl (fun u n => u.wr (JTL_SWRES.at n) 0) t
  (t.modJtl (fun j => { j with held := portMaskOf ok, sweep := some { w with saved := ph } })).put JTL_SWSTAT.STATE 1

/-- A port left with a PCAPS action that waited for the end of a sweep sends its fresh offer (R327). -/
def State.afterSweep (s : State) (n : Fin 16) : State :=
  if (s.pd n).held.contains heldPcaps then (s.modPd n (fun d => { d with held := d.held.filter (fun k => k != heldPcaps) })).wantOffer n else s

/-- A SETP op of the sweep or of the chain that assigns a lead's phase (R166, R201). -/
def phaseOp (n src : Nat) (k : Fin 48) (phase : Nat) : Op :=
  { Op.mk0 n clsSETP src 0 (RAF_PHASE.at k) with reg := some (RAF_PHASE.at k, BitVec.ofNat 32 (phase % 65536)) }

/-- Assign phases to leads by ops of a source. -/
def State.assignPhases (s : State) (src : Nat) (l : List (Nat × Nat)) : State :=
  l.foldl (fun t p => if h : p.1 < 48 then t.offer (phaseOp (p.1 / 3) src ⟨p.1, h⟩ p.2) else t) s

/-- The own leads' phases as they stood before the sweep, moved by a step (R326). -/
def movedPhases (saved : List (Nat × Nat)) (j nph : Nat) : List (Nat × Nat) :=
  saved.map (fun p => (p.1, (p.2 + 65536 * j / max 1 nph) % 65536))

/-- What one port measures in a period (R328): mean and peak-to-peak of VIN_S as free values; the lowest peak-to-peak is kept with its step. -/
def State.measurePort (s : State) (n : Fin 16) (step : Nat) : State :=
  if s.swHeld n then
    let (a, s1) := s.free
    let (b, s2) := s1.free
    let pp := min 4095 (b.toNat % 2 ^ 16)
    if s2.bit (JTL_SWRES.VALID n) && decide (s2.get (JTL_SWRES.PP n) ≤ pp) then s2
    else (((s2.put (JTL_SWRES.MEAN n) a.toNat).put (JTL_SWRES.PP n) pp).put (JTL_SWRES.STEP n) step).raise (JTL_SWRES.VALID n)
  else s

/-- A measure period of this device ends (R328): every held port, the mean of VHV and the die temperature. -/
def State.measureAll (s : State) (step : Nat) : State :=
  let t := allPorts.foldl (fun u n => u.measurePort n step) s
  let (a, t1) := t.free
  let (b, t2) := t1.free
  (t2.put JTL_SWDEV.VHV a.toNat).put JTL_SWDEV.TEMP b.toNat

/-- Send the own result to the leader, 14 ports in a frame: SWEEPID, first port, count, device word, a word for each port (R308). At the
leader it goes into its own tables. -/
def State.sendResult (s : State) (id : Nat) : State :=
  let words := allPorts.map (fun n => (s.rd (JTL_SWRES.at n)).toNat)
  let dev := (s.rd JTL_SWDEV.at).toNat
  if s.leading then
    let t := (words.zipIdx).foldl (fun u (p : Nat × Nat) => u.wr (JTL_SWTAB.at 0 p.2) (BitVec.ofNat 32 p.1)) s
    t.put JTL_SWNODE.NODES (t.get JTL_SWNODE.NODES ||| 1)
  else (s.sendF tySWRES 0xFE ([id, 0, 14, dev] ++ words.take 14) s.toLeader).sendF tySWRES 0xFE ([id, 14, 2, dev] ++ words.drop 14) s.toLeader

/-- Every port leaves measurement conditions, and what was deferred to the end of the sweep is done (R327). -/
def State.releasePorts (s : State) : State := allPorts.foldl State.afterSweep (s.modJtl (fun j => { j with held := 0 }))

/-- The state of a node in JTL_SWNODE. -/
def State.swNode (s : State) (k : Nat) : Nat := (s.get JTL_SWNODE.NODES >>> (2 * k)) % 4
def State.setSwNode (s : State) (k v : Nat) : State :=
  let m := s.get JTL_SWNODE.NODES
  s.put JTL_SWNODE.NODES (m - s.swNode k * 4 ^ k + v * 4 ^ k)

/-- The schedule ends (R326): ports leave measurement conditions, the leader sends DONE and counts nodes that did not report, E12D fires. -/
def State.endSweep (s : State) (w : Sweep) : State :=
  let t := (s.releasePorts.modJtl (fun j => { j with sweep := none })).clear JTL_STAT.SWEEP
  let t := if w.order.contains (s.myNode.getD 0xFE) then t else t.put JTL_SWSTAT.STATE 0
  let t := if t.leading then
      (w.order.foldl (fun u k => if u.swNode k = 0 then u.setSwNode k 2 else u) t).sendF tySWEEP 0xFF [2, w.id, w.nph, w.order.length, w.start] 3
    else t
  t.fire 0x12D (w.id * 256)

/-- Close a measurement that an abort left running (R329): UNREPORTED with its duration, phases restored, the own ports released. -/
def State.closeMeasure (s : State) (us : Nat) : State :=
  match s.jtl.abortMeas with
  | none => s
  | some _ =>
    let t := (s.measureAll 0).put JTL_SWSTAT.DUR (min 4095 us)
    let t := (t.put JTL_SWSTAT.STATE 4).releasePorts
    let ph := match t.jtl.sweep with
      | some w => w.saved
      | none => []
    (t.assignPhases srcSweep ph).modJtl (fun j => { j with abortMeas := none, sweep := none })

/-- A sweep aborts on this device (R329): by what its slot was, REPORTED stays, a slot in progress goes on measuring to its limit, another is
NOT REACHED and its ports are released; the leader marks every node; E12D fires. -/
def State.abortSweep (s : State) : State :=
  match s.jtl.sweep with
  | none => s.modJtl (fun j => { j with sweepPend := false })
  | some w =>
    if s.jtl.abortMeas.isSome then s
    else
      let cur := ((s.jtl.localIdx.bind w.since).bind w.slot)
      let pos := match cur with
        | some (i, _, _) => i
        | none => if (s.jtl.localIdx.bind w.since).getD 0 < w.last then 0 else w.order.length
      let started := cur.isSome
      let me := s.myNode
      let mineNow := started && (w.order[pos]?) == me
      let t := (s.clear JTL_STAT.SWEEP).modJtl (fun j => { j with sweepPend := false })
      let t := if t.leading then
          (w.order.zipIdx).foldl (fun u (p : Nat × Nat) =>
            if u.swNode p.1 = 1 then u else u.setSwNode p.1 (if started && decide (p.2 ≤ pos) then 2 else 3)) t
        else t
      let t := t.fire 0x12D (1 + w.id * 256)
      if t.get JTL_SWSTAT.STATE = 3 then (t.releasePorts).modJtl (fun j => { j with sweep := none })
      else if mineNow then
        (t.put JTL_SWSTAT.STATE 2).modJtl (fun j => { j with abortMeas := some (match cur with
          | some (_, _, settle) => !settle
          | none => false) })
      else
        let t := (t.releasePorts).modJtl (fun j => { j with sweep := none })
        t.put JTL_SWSTAT.STATE (if w.order.contains (me.getD 0xFE) then 5 else 0)

/-- Abort and tell the chain (R329): the device that detects the cause sends SWEEP ABORT on a mask of ports. -/
def State.abortAndTell (s : State) (ports : Nat) : State :=
  match s.jtl.sweep with
  | none => s.abortSweep
  | some w => if s.jtl.abortMeas.isSome then s else (s.sendF tySWEEP 0xFF [3, w.id, 0, 0, 0] ports).abortSweep

/-- Start a sweep (R326): the leader refuses while one runs, a freeze counts or BRACE holds; a member sends REQUEST to its leader. -/
def State.startSweep (s : State) : State :=
  if !s.chainOn || !s.islandUp islJotil then s
  else if s.leading then
    if s.jtl.sweep.isSome || s.jtl.sweepPend || s.jtl.frz.isSome || s.bit JTL_STAT.BRACE then s.put JTL_SWSTAT.STATE 6
    else s.modJtl (fun j => { j with sweepPend := true })
  else s.sendF tySWEEP 0xFE [4, 0, 0, 0, 0] s.toLeader

/-- Take a sweep announced by ENTER (R326). -/
def State.enterSweep (s : State) (w : Sweep) : State :=
  ((((s.modJtl (fun j => { j with sweep := some w })).raise JTL_STAT.SWEEP).put JTL_SWSTAT.SWEEPID w.id).put JTL_SWSTAT.STATE 0).put JTL_SWSTAT.DUR 0

/-- Phase steps of JTL_SWCFG.NPH. -/
def State.nph (s : State) : Nat := 2 ^ min 2 (s.get JTL_SWCFG.NPH)

/-- The leader announces a sweep in the period before S (R326). -/
def State.announceSweep (s : State) (idx : Nat) : State :=
  let id := (s.jtl.sweepId + 1) % 256
  let order := (List.range 16).filter (fun k => (s.get JTL_SWCFG.NODEMASK).testBit k && (k == 0 || s.jtl.members.any (fun m => m.1 == k)))
  let w : Sweep := { budget := s.get JTL_CHAINBUDGET.BUDGET, id := id, nph := s.nph, start := (idx + 1) % 2 ^ 32, order := order, saved := [] }
  let t := (s.sendF tySWEEP 0xFF ([1, id, w.nph, order.length, w.start] ++ order) 3).enterSweep w
  (t.wr JTL_SWNODE.at 0).modJtl (fun j => { j with sweepPend := false, sweepId := id })

/-- What the index period before was: a measurement of this device, which its MEAS op began, ends (R326, R328). -/
def State.sweepPast (s : State) (w : Sweep) (me d : Nat) : State :=
  match w.slot (d - 1) with
  | some (i, j, false) =>
    if w.order[i]? = some me then
      let u := if s.get JTL_SWSTAT.STATE = 2 then s.measureAll j else s
      if j + 1 = w.nph then (((u.sendResult w.id).assignPhases srcSweep w.saved).put JTL_SWSTAT.STATE 3).put JTL_SWSTAT.DUR 1024
      else u.put JTL_SWSTAT.STATE 1
    else s
  | _ => s

/-- What this index period is: the settling or the measurement of a node. This device then enters its SETP ops, which move its phases, or its MEAS op (R166, R326). -/
def State.sweepNow (s : State) (w : Sweep) (me d : Nat) : State :=
  match w.slot d with
  | some (i, j, settle) =>
    let u := s.put JTL_SWSTAT.SLOT (w.order.getD i 0)
    if w.order[i]? = some me then
      if settle then u.assignPhases srcSweep (movedPhases w.saved j w.nph) else u.offer (Op.mk0 portGlobal clsMEAS srcSweep 0 j)
    else u
  | none => s

/-- The schedule a number of indices after S (R326): what the period before was, then what this one is. -/
def State.sweepAt (s : State) (w : Sweep) : Option Nat → State
  | none => s
  | some d =>
    if d = 0 then s.placePorts w
    else
      let me := s.myNode.getD 0xFE
      let t := s.sweepPast w me d
      if w.last ≤ d then t.endSweep w else t.sweepNow w me d

/-- The schedule at an index (R326). -/
def State.sweepIndex (s : State) (idx : Nat) : State :=
  if s.jtl.abortMeas = some true then s.closeMeasure 1024
  else if s.jtl.abortMeas.isSome then s
  else match s.jtl.sweep with
  | none => s
  | some w => s.sweepAt w (w.since idx)

/-! ### A break in the chain (R330, R331) -/

/-- Give the share in force a value: never below the floors (R182, R322); E changes with it. -/
def State.setShare (s : State) (w : Nat) : State :=
  ((s.put TRS_SHARE.SHARE (max w s.floorSum)).flag TRS_STAT.SHARELOW (decide (w < s.floorSum))).changeE

/-- A share freeze starts (R330): TRS_STAT.FROZEN, E11F; a sweep aborts (R329). A device that froze through FRZREM and then loses the leader counts on by itself. -/
def State.startFreeze (s : State) (byLead : Bool) : State :=
  if s.jtl.frz.isSome then (if byLead then s else s.modJtl (fun j => { j with frzLead := false }))
  else
    let t := (s.abortAndTell 3).modJtl (fun j => { j with frz := some 10, frzLead := byLead, budgetSince := false })
    ((t.raise TRS_STAT.FROZEN).raise JTL_STAT.SEGMENT).fire 0x11F

/-- The freeze ends: the share falls to the floors (R330). -/
def State.endFreeze (s : State) : State :=
  let t := (s.modJtl (fun j => { j with frz := none, frzLead := false })).clear TRS_STAT.FROZEN
  if t.bit TRS_STAT.CHAIN then (t.put TRS_SHARE.SHARE t.floorSum).resolveDeficit else t

/-- One index of a freeze this device counts itself: FRZREM is 10 at the first one (R330). -/
def State.countFreeze (s : State) : State :=
  match s.jtl.frz with
  | none => s
  | some k =>
    if s.jtl.frzLead then s
    else if k = 0 then s.endFreeze else s.modJtl (fun j => { j with frz := some (k - 1) })

/-- Nodes are unreachable (R330): they are remembered as lost, the leader drops them, and the freeze starts. -/
def State.loseNodes (s : State) (nodes : Nat) (freeze : Bool) : State :=
  let gone := s.serialsOf nodes
  if gone.isEmpty then s
  else
    let t := (s.modJtl (fun j => { j with lost := j.lost ++ gone.filter (fun x => !j.lost.contains x) })).raise JTL_STAT.SEGMENT
    let t := if t.leading then
        let dead := t.validNodes.filter (fun k => nodes.testBit k && k != 0)
        let t := dead.foldl (fun u k => u.wr (JTL_NODE.at k 3) (u.rd (JTL_NODE.at k 3) &&& ~~~0x10000#32)) t
        t.modJtl (fun j => { j with
          members := j.members.filter (fun m => !dead.contains m.1), demands := j.demands.filter (fun m => !dead.contains m.1),
          missed := j.missed.filter (fun m => !dead.contains m.1), periods := j.periods.filter (fun m => !dead.contains m.1) })
      else t
    if freeze then t.startFreeze false else t

/-! ### Elections (R311 to R314) -/

/-- Is claim a better than claim b (R311)? -/
def Claim.better (a b : Claim) : Bool :=
  if a.est != b.est then a.est else if a.weight != b.weight then decide (b.weight < a.weight) else decide (a.serial < b.serial)

/-- The body of a CLAIM frame (R308). -/
def Claim.body (c : Claim) (hops : Nat) : List Nat := [c.weight, b2n c.est, hops, 0, c.serial.toNat]

/-- This device's own claim. -/
def State.ownClaim (s : State) : Claim := { serial := s.serial, weight := s.get JTL_CFG.WEIGHT, est := false, hops := 0 }

/-- Hops this device sends a best-seen claim with: its own with 0, another's with one more than it came with (R311). -/
def State.claimHops (s : State) (c : Claim) : Nat := if c.serial = s.serial then 0 else c.hops + 1

/-- Send the best-seen claim on ports. -/
def State.sendBest (s : State) (ports : Nat) : State :=
  match s.jtl.best with
  | none => s
  | some c => s.sendF tyCLAIM 0xFD (c.body (s.claimHops c)) ports

/-- The timebases of the slices re-lock later: LOCKED and the row of good indices go. -/
def State.unlock (s : State) : State := ((s.modJtl (fun j => { j with goodRow := 0 })).clear JTL_STAT.LOCKED).leaveTick

/-- An election starts on this device (R312): best-seen is the own claim, a sweep aborts (R329), UNSYNC is cleared (R319). -/
def State.startElection (s : State) : State :=
  if !s.chainOn then s
  else
    let t := s.abortAndTell 3
    let t := (((t.clear JTL_STAT.LEADER).raise JTL_STAT.ELECTING).clear JTL_STAT.UNSYNC).unlock
    let t := t.modJtl (fun j => { j with
      best := some s.ownClaim, quiet := 0, led := false, fresh := false, unsyncReq := false, hopsSeen := [none, none], demanding := false })
    (t.clear JTL_STAT.RING).sendBest 3

/-- Show a leader (JTL_LEADER, JTL_LEADERW). -/
def State.showLeader (s : State) (serial : BitVec 96) (weight : Nat) : State :=
  ((List.range 3).foldl (fun u i => u.wr (JTL_LEADER.at i) (serialWord serial i)) s).put JTL_LEADERW.WEIGHT weight

/-- The election is decided for this device: it becomes leader, node 0, and E12A fires (R311, R320). -/
def State.becomeLeader (s : State) : State :=
  let c := s.ownClaim
  let t := ((s.clearNodes).showLeader c.serial c.weight).clear JTL_STAT.ELECTING
  let t := ((((t.raise JTL_STAT.LEADER).put JTL_STAT.NODE 0).put JTL_STAT.HOPS 0).put JTL_STAT.MEMBERS 0).clear JTL_STAT.FREERUN
  let t := t.setNode 0 c.serial (s.get GLB_PORTMASK.PRESENT) true
  (t.modJtl (fun j => { j with
    led := true, fresh := false, goodRow := 0, members := [], joining := [], demands := [], heard := [], missed := [], braced := [], periods := [],
    phaseSent := [], autoph := s.bit JTL_CFG.AUTOPH, sharesKept := if j.frz.isSome then j.sharesKept else [],
    best := some { c with est := true } })).fire 0x12A

/-- Take a device as leader (R311 step 6, R313, R320): it is what an election ends in, so a sweep aborts (R329) and an own request for UNSYNC goes (R319); node numbers are
assigned afresh, MEMBER is sent, and the next index starts a new count (R318). -/
def State.takeLeader (s : State) (serial : BitVec 96) (weight hops : Nat) : State :=
  let t := (((s.abortAndTell 3).clearNodes).showLeader serial weight).clear JTL_STAT.ELECTING
  let t := ((t.clear JTL_STAT.LEADER).put JTL_STAT.NODE 0).setNode 0 serial 0 false
  let t := (t.modJtl (fun j => { j with
    led := true, fresh := true, goodRow := 0, demanding := false, unsyncReq := false, members := [], joining := [], demands := [], heard := [], missed := [],
    best := some { serial := serial, weight := weight, est := true, hops := hops } })).unlock
  (t.rejoined serial).sendMember

/-! ### Demands and shares (R321) -/

/-- The flags of this device's DEMAND: UNSYNCREQ, LOSS, BRACE. -/
def State.demandFlags (s : State) : Nat := b2n s.jtl.unsyncReq + 2 * b2n (!s.jtl.lost.isEmpty) + 4 * b2n s.jtl.bracing

/-- Take the own DEMAND values at an index and restart WANT (R321). -/
def State.takeDemand (s : State) : State :=
  s.modJtl (fun j => { j with ownDemand := { demand := s.demand, want := j.want, floor := s.floorSum }, want := 0 })

/-- Send the own DEMAND (R321, R332). -/
def State.sendDemand (s : State) : State :=
  let d := s.jtl.ownDemand
  if s.halted islJotil then s else s.sendF tyDEMAND 0xFE [d.demand, d.want, d.floor, s.demandFlags] s.toLeader

/-- The shares of R321 in whole watts: B, and for each node its demand with its present-port count. A third result says the floors do not fit. -/
def shares (b : Nat) (ds : List (Demand × Nat)) : List Nat × Bool :=
  let sd := (ds.map (fun x => x.1.demand)).sum
  let sw := (ds.map (fun x => x.1.want)).sum
  let sf := (ds.map (fun x => x.1.floor)).sum
  let sp := (ds.map Prod.snd).sum
  if sd ≤ b then
    let spare := b - sd
    (ds.map (fun x =>
      if sw ≤ spare then x.1.demand + x.1.want + (spare - sw) * x.2 / sp
      else x.1.demand + x.1.want * spare / sw), false)
  else if sf ≤ b then (ds.map (fun x => x.1.floor + (b - sf) * (x.1.demand - x.1.floor) / (sd - sf)), false)
  else (ds.map (fun x => x.1.floor), true)

/-- Ports in a present-port mask. -/
def maskCount (m : Nat) : Nat := ((List.range 16).filter (fun k => m.testBit k)).length

/-- The nodes with their demands for a share computation, node 0 first in ascending order; none while a member has sent no DEMAND yet. -/
def State.demandTable (s : State) : Option (List (Nat × Demand × Nat)) :=
  ((List.range 16).filter (fun k => k == 0 || s.jtl.members.any (fun m => m.1 == k))).foldr (fun k acc =>
    match acc with
    | none => none
    | some l =>
      if k = 0 then some ((0, s.jtl.ownDemand, maskCount (s.get GLB_PORTMASK.PRESENT)) :: l)
      else match assocGet s.jtl.demands k, assocGet s.jtl.members k with
        | some d, some m => some ((k, d, maskCount m.mask) :: l)
        | _, _ => none) (some [])

/-- May the leader publish shares (R330, R331)? -/
def State.mayPublish (s : State) : Bool :=
  s.jtl.frz.isNone && (s.jtl.lost.isEmpty || s.jtl.budgetSince || s.bit JTL_CFG.SEGAUTO)

/-- The chain budget shares are computed from: after a loss with SEGAUTO and no budget written since, the last agreed shares of the present members (R331). -/
def State.shareBudget (s : State) : Nat :=
  if !s.jtl.lost.isEmpty && !s.jtl.budgetSince && s.bit JTL_CFG.SEGAUTO then
    ((s.jtl.sharesKept.filter (fun p => p.1 == 0 || s.jtl.members.any (fun m => m.1 == p.1))).map Prod.snd).sum
  else s.get JTL_CHAINBUDGET.BUDGET

/-- Does a running sweep keep the shares in force at S (R327)? -/
def State.sweepKeeps (s : State) (idx : Nat) : Bool :=
  match s.jtl.sweep with
  | some w => (w.since idx).isSome && w.budget == s.get JTL_CHAINBUDGET.BUDGET && !s.jtl.sharesKept.isEmpty
  | none => false

/-- Send a set of shares in SHARE with an APPLY index, and show them in JTL_SHARETAB. -/
def State.sendShares (s : State) (apply : Nat) (l : List (Nat × Nat)) : State :=
  let t := l.foldl (fun u p => u.put (JTL_SHARETAB.SHARE p.1) p.2) s
  let t := t.modJtl (fun j => { j with sharesKept := l, shareNext := some (apply, (assocGet l 0).getD 0) })
  t.sendF tySHARE 0xFF (apply :: (List.range 16).map (fun k => (assocGet l k).getD 0)) 3

/-- The leader computes and sends the shares of the period (R321); a braced leader repeats the last ones (R332). -/
def State.publishShares (s : State) (idx : Nat) : State :=
  let apply := (idx + 1) % 2 ^ 32
  if !s.mayPublish then s
  else if s.jtl.bracing || s.sweepKeeps idx then s.sendShares apply s.jtl.sharesKept
  else match s.demandTable with
    | none => s
    | some tab =>
      let r := shares s.shareBudget (tab.map (fun x => (x.2.1, x.2.2)))
      let t := tab.foldl (fun u x => u.put (JTL_SHARETAB.DEMAND x.1) (min 65535 x.2.1.demand)) s
      ((t.flag JTL_STAT.OVERSUB r.2).sendShares apply ((tab.map Prod.fst).zip r.1))

/-- Does this device apply what PEER gives the chain (R322, R363)? -/
def State.peer (s : State) : Bool := s.get HST_AUTH.JOTIL == 8

/-- A stored share applies at its index as a TRUSS op of SUB 3 from Jotil (R321), not in a freeze (R330). -/
def State.applyShare (s : State) (idx : Nat) : State :=
  match s.jtl.shareNext with
  | some (a, w) =>
    if a = idx then
      let t := s.modJtl (fun j => { j with shareNext := none })
      if s.peer && s.jtl.frz.isNone then t.offer (Op.mk0 portGlobal clsTRUSS srcJotil 3 w) else t
    else s
  | none => s

/-! ### Phases (R323) -/

/-- Stored phases apply at their index as Jotil phase-assignment ops (R323, R201). -/
def State.applyPhases (s : State) (idx : Nat) : State :=
  match s.jtl.phaseNext with
  | some (a, l) =>
    if a = idx then
      let t := s.modJtl (fun j => { j with phaseNext := none })
      if s.peer then t.assignPhases srcJotil (l.filterMap (fun p =>
          if h : p.1 < 16 then (s.leadOf ⟨p.1, h⟩).map (fun k => (k.val, p.2)) else none)) else t
    else s
  | none => s

/-- Periods of this device's interleaved leads, in ascending port order (R308). -/
def State.ownPeriods (s : State) : List Nat := s.interleaved.map (fun n => s.basePeriod (s.leadSlice n))

/-- Ports of a mask in ascending order. -/
def portsIn (m : Nat) : List Nat := (List.range 16).filter (fun k => m.testBit k)

/-- All interleaved leads of the chain: node, port, period (R323). -/
def State.chainLeads (s : State) : List (Nat × Nat × Nat) :=
  let own := (s.interleaved.map (fun n => n.val)).zip s.ownPeriods |>.map (fun p => (0, p.1, p.2))
  own ++ ((List.range 16).flatMap (fun k => match assocGet s.jtl.members k, assocGet s.jtl.periods k with
    | some m, some ts => ((portsIn (m.mask &&& m.ilv)).zip ts).map (fun p => (k, p.1, p.2))
    | _, _ => []))

/-- PHASE of every lead: within the group of equal T the k-th of K takes floor(65536·k ÷ K) (R323). -/
def phasesOf (l : List (Nat × Nat × Nat)) : List (Nat × Nat × Nat) :=
  l.zipIdx.map (fun x =>
    let g := l.zipIdx.filter (fun y => y.1.2.2 == x.1.2.2)
    let k := (g.filter (fun y => decide (y.2 < x.2))).length
    (x.1.1, x.1.2.1, 65536 * k / max 1 g.length))

/-- The leader sends PHASE frames with APPLY two indices ahead, every 16 periods and after any change of the groups (R323). -/
def State.publishPhases (s : State) (idx : Nat) : State :=
  if !s.bit JTL_CFG.AUTOPH || s.jtl.bracing then s
  else
    let ph := phasesOf s.chainLeads
    if ph = s.jtl.phaseSent ∧ idx % 16 ≠ 0 then s
    else
      let apply := (idx + 2) % 2 ^ 32
      let of := fun (k : Nat) => (ph.filter (fun x => x.1 == k)).map (fun x => x.2)
      let t := s.modJtl (fun j => { j with phaseSent := ph, phaseNext := some (apply, of 0) })
      (t.jtl.members.map Prod.fst).foldl (fun u k =>
        if (of k).isEmpty then u else u.sendF tyPHASE k (apply :: (of k).flatMap (fun p => [p.1, p.2])) 3) t

/-! ### The index (R314, R317 to R320) -/

/-- Interleaved leads whose period divides the index period take up an index offset of so many ticks, one fine step a period (R202, R317). -/
def State.slipLeads (s : State) (ticks : Int) : State :=
  (s.interleaved.filterMap s.leadOf).foldl (fun t k => if t.dividesIndex k then t.modSlice k (fun x => { x with slip := x.slip + ticks * 12800 }) else t) s

/-- While the timebase runs free a lead keeps its period: what it had still to take up is dropped (R202, R317). -/
def State.dropSlips (s : State) : State := (allPorts.filterMap s.leadOf).foldl (fun t k => t.modSlice k (fun x => { x with slip := 0 })) s

/-- What every device does at an index of the chain: a freeze counts (while the timebases run free, the local index counts it, R317), shares and phases apply, the sweep goes on, ECHO runs every 64 periods (R315). -/
def State.atIndex (s : State) (idx : Nat) : State :=
  let t := (s.put JTL_IDXNUM.IDXNUM idx).modJtl (fun j => { j with localIdx := some idx })
  let t := if t.bit JTL_STAT.FREERUN then t else t.countFreeze
  let t := ((t.applyShare idx).applyPhases idx).sweepIndex idx
  if idx % 64 = 0 then t.sendF tyECHO 0xFD [0, 0] 3 else t

/-- The interleave is abandoned on this device, or no longer (R319): LOCKED falls, and no offset is left to take up. -/
def State.setUnsync (s : State) (on : Bool) : State :=
  if on then (((s.raise JTL_STAT.UNSYNC).clear JTL_STAT.LOCKED).leaveTick).dropSlips else s.clear JTL_STAT.UNSYNC

/-- Number of the next local index (R314). -/
def State.nextIdx (s : State) : Nat :=
  match s.jtl.localIdx with
  | none => 0
  | some k => (k + 1) % 2 ^ 32

/-- The leader assigns numbers to the members that joined, in ascending serial order, each the lowest free number (R320). -/
def State.assignNodes (s : State) : State :=
  let js := s.jtl.joining.insertionSort (fun a b => a.serial ≤ b.serial)
  let t := js.foldl (fun u m =>
    match (List.range 16).find? (fun k => decide (0 < k) && !u.jtl.members.any (fun x => x.1 == k)) with
    | none => u
    | some k => ((u.setNode k m.serial m.mask false).modJtl (fun j => { j with members := j.members ++ [(k, m)] })).sendF tyASSIGN 0xFF
        [m.serial.toNat, k] 3) s
  t.modJtl (fun j => { j with joining := [] })

/-- The leader's count of DEMANDs: a member silent for two periods is unreachable, but not one in a Brace hold for up to tBRACE (R330, R332). -/
def State.checkDemands (s : State) : State :=
  let miss := s.jtl.members.map (fun m =>
    (m.1, if s.jtl.heard.contains m.1 || (assocGet s.jtl.demands m.1).isNone then 0
      else if decide (0 < (assocGet s.jtl.braced m.1).getD 0) then (assocGet s.jtl.missed m.1).getD 0
      else (assocGet s.jtl.missed m.1).getD 0 + 1))
  let t := s.modJtl (fun j => { j with
    missed := miss, heard := [], braced := (j.braced.map (fun b => (b.1, b.2 - 1))).filter (fun b => decide (0 < b.2)) })
  let gone := miss.foldl (fun m x => if 2 ≤ x.2 then m ||| 2 ^ x.1 else m) 0
  if gone = 0 then t else t.loseNodes gone true

/-- FRZREM to announce: what is left of a freeze (R330). -/
def State.frzRem (s : State) : Nat := s.jtl.frz.getD 0

/-- The INDEX frame of this leader (R308). -/
def State.sendIndex (s : State) (idx frzrem : Nat) : State :=
  let flags := s.get JTL_STAT.UNSYNC + 2 * b2n s.jtl.sweep.isSome + 4 * s.get JTL_CFG.AUTOPH + 8 * s.get JTL_STAT.BRACE + 16 * s.get JTL_STAT.OVERSUB
  s.sendF tyINDEX 0xFF [idx, s.get JTL_CHAINBUDGET.BUDGET, flags, frzrem + 16 * s.jtl.members.length, s.get JTL_CFG.WEIGHT, 0, s.serial.toNat] 3

end Sys2Proof.Machine
end

