-- ==== Sys2Proof/Machine/Auth.lean ====
section
/-!
DEFINITION. Ceilings and grants in force (R77, R363 to R367, R413, R427): the OTP ceiling of each host port and the grant that the default,
the AUTHORITY record and the ceiling give it.
-/

namespace Sys2Proof.Machine

/-- CEIL slots that are written and readable, by the shadows. -/
def State.ceilSlots (s : State) : List (BitVec 64) :=
  ((List.range 4).filter (fun k => itemCEIL.written s.shadow k && !s.slotUE itemCEIL k)).map (fun k => s.shadow (itemCEIL.word k 0))

/-- Is the CEIL slot in force uncorrectable: the highest slot that is not blank (R427)? -/
def State.ceilBad (s : State) : Bool :=
  match (List.range 4).reverse.find? (fun k => s.wordStatus (itemCEIL.word k 0) != 0 || s.hasOver (itemCEIL.word k 0)) with
  | some k => s.slotUE itemCEIL k
  | none => false

/-- The least value of a list, 0 of an empty one. -/
def leastOf : List Nat → Nat
  | [] => 0
  | x :: t => t.foldl min x

/-- The ceiling word in force: the slot in force, all NONE without one; with an uncorrectable slot in force every field takes its least value
and JTAG is NONE (R413, R427). -/
def State.ceilWord (s : State) : Word :=
  if s.ceilBad then
    let f := fun (k : Nat) => leastOf (s.ceilSlots.map (fun v => wideField v (4 * k + 3) (4 * k)))
    BitVec.ofNat 32 (f 0 + f 1 * 2 ^ 4 + f 2 * 2 ^ 8 + f 3 * 2 ^ 12 + f 4 * 2 ^ 16 +
      leastOf (s.ceilSlots.map (fun v => wideField v 24 24)) * 2 ^ 24)
  else match s.slotInForce itemCEIL with
    | some k => BitVec.ofNat 32 (wideField (s.shadow (itemCEIL.word k 0)) 24 0)
    | none => 0

/-- Take the ceilings in force (R366, R420). -/
def State.loadCeil (s : State) : State :=
  let w := s.ceilWord
  (((s.wr HST_CEIL.at w).flag OTP_STAT.CEILFB s.ceilBad)).flag HST_STAT.JTAGUNL (HST_CEIL.JTAG.of w != 0)

/-- The default grants: SPI 3, I2C 2, CAN FD 2, Jotil 8, PD VDM 1, JTAG 3 (R364). -/
def defaultGrants : Word := 0x00318223

/-- The least of the default, the record's grant and the ceiling for a 4-bit port field (R364). -/
def leastGrant (k : Nat) (record : Option Word) (ceil : Word) : Nat :=
  let f := fun (w : Word) => fieldOf w (4 * k + 3) (4 * k)
  match record with
  | some r => min (f defaultGrants) (min (f r) (f ceil))
  | none => min (f defaultGrants) (f ceil)

/-- The chain gives the budget while it is enabled and the Jotil grant is PEER; else E is TRS_BUDGET (R322). -/
def State.followChain (s : State) : State :=
  let on := s.bit JTL_CFG.EN && s.get HST_AUTH.JOTIL == 8
  if on == s.bit TRS_STAT.CHAIN then s
  else if on then ((s.raise TRS_STAT.CHAIN).put TRS_SHARE.SHARE s.floorSum).resolveDeficit
  else (s.clear TRS_STAT.CHAIN).resolveDeficit

/-- Take the grants in force under an AUTHORITY record; AUTHCLAMP shows a grant above its ceiling (R77, R364). -/
def State.loadGrants (s : State) : State :=
  let r := recWord s.recs tyAUTHORITY instGlobal 0
  let c := s.rd HST_CEIL.at
  let w := BitVec.ofNat 32 (((List.range 6).map (fun k => leastGrant k r c * 16 ^ k)).sum)
  let clamp := match r with
    | some x => (List.range 6).any (fun k => decide (fieldOf c (4 * k + 3) (4 * k) < fieldOf x (4 * k + 3) (4 * k)))
    | none => false
  ((s.wr HST_AUTH.at w).flag THA_STAT.AUTHCLAMP clamp).followChain

end Sys2Proof.Machine
end

