-- ==== Sys2Proof/Machine/MtrOps.lean ====
section
/-!
DEFINITION. Metering and the Slate log as shared operations (R386 to R404): energies of the ports, energy payloads, records, the ring of
sectors, tariff bands, demand intervals and the gap.
-/

namespace Sys2Proof.Machine

/-- Update metering and the log. -/
def State.modMtr (s : State) (f : MtrSt → MtrSt) : State := { s with mtr := f s.mtr }
def State.modSlate (s : State) (f : SlateSt → SlateSt) : State := { s with slate := f s.slate }
def State.meter (s : State) (n : Fin 16) : MeterPort := s.mtr.ports[n]
def State.modMeter (s : State) (n : Fin 16) (f : MeterPort → MeterPort) : State :=
  s.modMtr (fun m => { m with ports := m.ports.set n (f m.ports[n]) })

/-! ### Time (R382, R386) -/

/-- The subsecond count of 1/32768 s at a microsecond (assumption log 5). -/
def subOf (usec : Nat) : Nat := min 32767 (usec * 32768 / 1000000)

/-- A signed field. -/
def signedOf (w x : Nat) : Int := if x < 2 ^ (w - 1) then (x : Int) else (x : Int) - 2 ^ w

/-- Local time at a second (R386). -/
def State.localAt (s : State) (sec : Nat) : Int := (sec : Int) + signedOf 18 (s.get MTR_TZOFF.TZ)
/-- Seconds of the local day. -/
def State.todAt (s : State) (sec : Nat) : Nat := (s.localAt sec % 86400).toNat
/-- Local weekday, 0 for Monday. -/
def State.dowAt (s : State) (sec : Nat) : Nat := (((s.get MTR_CFG.DOW0 : Int) + s.localAt sec / 86400) % 7).toNat

def State.timeValid (s : State) : Bool := s.bit SOF_TIME_STAT.VALID

/-- Seconds of a demand interval (R392); a length of 0 stands for the reset length of 15 minutes. -/
def State.ivSeconds (s : State) : Nat := 60 * (if s.get MTR_CFG.DILEN = 0 then 15 else s.get MTR_CFG.DILEN)
/-- Is a second an interval boundary (R392)? -/
def State.ivBoundary (s : State) (sec : Nat) : Bool := s.localAt sec % (s.ivSeconds : Int) == 0

/-- The present ports in ascending order. -/
def State.portsHere (s : State) : List (Fin 16) := allPorts.filter s.present

/-- The present tick's start (R387). -/
def State.tickStart (s : State) : Nat × Nat := (s.soffit.sec, s.soffit.usec / 1000 * 1000)

/-! ### Energies (R388) -/

/-- Whole mJ of an energy, 48 bits. -/
def mj (e : Nat) : Nat := e / 65536 % 2 ^ 48

/-- The two words of an energy (R399), the second with more bits in its upper half. -/
def eWords (e upper : Nat) : List Word := [BitVec.ofNat 32 (mj e % 2 ^ 32), BitVec.ofNat 32 (mj e / 2 ^ 32 + upper)]

/-- Add an energy to a port: total, active band, running interval, second and gap. -/
def State.addEnergy (s : State) (n : Fin 16) (e : Nat) : State :=
  let b := s.get (MTR_PSTAT.BAND n)
  let iv := s.bit MTR_STAT.IVRUN
  s.modMeter n (fun p => { p with
    etot := (p.etot + e) % 2 ^ 64, bands := p.bands.set b ((p.bands.getD b 0 + e) % 2 ^ 64), ivE := if iv then p.ivE + e else p.ivE, secE := p.secE + e,
    gapE := p.gapE + e })

/-- Does a port meter: a running stage in the source role (R388)? A halted or lost island keeps what it did before, so that its ticks are missed (R390). -/
def State.metering (s : State) (n : Fin 16) : Bool :=
  if s.portUp n && !s.halted n.val then s.isSource n && (s.legsOf n).any (fun k => s.bit (RAF_STAT.RUN k)) else s.bit (MTR_PSTAT.METERING n)

/-- What a tick, or the part of one up to a power-fail, does for a port: the report in 2^-16 mJ, none when the island sent none. -/
def State.takeReport (s : State) (n : Fin 16) (r : Option Int) : State :=
  let m := s.metering n
  let t := s.flag (MTR_PSTAT.METERING n) m
  if !m then t
  else match r with
    | some e => t.addEnergy n e.toNat
    | none => ((t.satInc (MTR_PSTAT.MISSED n)).modMeter n (fun p => { p with missed := true })).modMtr (fun x => { x with incomplete := x.incomplete || s.bit MTR_STAT.IVRUN })

/-- The reports of all present ports. -/
def State.takeReports (s : State) (rs : List (Option Int)) : State :=
  s.portsHere.foldl (fun t n => t.takeReport n ((rs[n.val]?).getD none)) s

/-! ### Records (R398 to R400) -/

/-- Is logging in operation: enabled, no error, and Ridge and VDD there to write it (R55, R395, R406)? -/
def State.slateOn (s : State) : Bool :=
  s.bit MTR_SLSTAT.EN && !s.bit MTR_SLSTAT.ERR && s.islandUp islRidge && s.bit GLB_SUPSTAT.VDDOK

/-- Hold a record for Ridge: at most 16; the newest is dropped on overflow (R400). With logging disabled there is nothing to hold it for (R395). -/
def State.logAt (s : State) (ty : Nat) (payload : List Word) (stamp : Nat × Nat) : State :=
  if s.get GLB_BOOTSTAT.STAGE = 6 ∧ s.get MTR_SLSTAT.EN = 0 then s
  else if s.slate.buf.length < 16 then
    s.modSlate (fun l => { l with buf := l.buf ++ [{ ty := ty, payload := payload, sec := stamp.1, usec := stamp.2, tv := s.timeValid }] })
  else s.raise MTR_STAT.RECLOST

/-- Hold a record stamped now. -/
def State.log (s : State) (ty : Nat) (payload : List Word) : State := s.logAt ty payload (s.soffit.sec, s.soffit.usec)

def recEVENT : Nat := 1
def recENERGY : Nat := 2
def recLASTGASP : Nat := 3
def recTARIFF : Nat := 4
def recDEMAND : Nat := 5
def recGAP : Nat := 6
def recTIME : Nat := 7
def recFAULT : Nat := 8
def recHOSTORDER : Nat := 9

/-- A FAULT record of a kind with its first data word (R399). -/
def State.logFault (s : State) (kind data : Nat) : State := s.log recFAULT [BitVec.ofNat 32 kind, BitVec.ofNat 32 data, 0, 0]

/-- The payload of an ENERGY or LASTGASP record (R399); off is the power-fail offset. -/
def State.energyPayload (s : State) (off : Nat) : List Word :=
  let run := s.bit MTR_STAT.IVRUN
  let sw := s.mtr.swAt == some s.tickStart
  let cl := s.mtr.closeAt == some s.tickStart
  let c0 := if run then s.rd MTR_IVSTART.at else 0
  let c1 := BitVec.ofNat 32 (s.get MTR_CFG.DILEN + b2n sw * 2 ^ 6 + b2n cl * 2 ^ 7 + off % 1024 * 2 ^ 8 + b2n run * 2 ^ 18)
  [c0, c1] ++ s.portsHere.flatMap (fun n =>
    let p := s.meter n
    let b := s.get (MTR_PSTAT.BAND n)
    eWords p.etot (b * 2 ^ 16 + b2n (sw && s.mtr.swMask.testBit n.val) * 2 ^ 19 + b2n p.missed * 2 ^ 21) ++
    eWords (p.bands.getD b 0) (s.get (MTR_DEMAND.DEMAND n) * 2 ^ 16) ++
    eWords p.prevE (p.prevBand * 2 ^ 16) ++
    eWords p.ivE (s.get (MTR_DEMAND.PEAK n) * 2 ^ 16))

/-- The missed-tick marks end with the record that carries them; the second of the last commit is kept for the gap (R393). -/
def State.energyTaken (s : State) : State :=
  (s.portsHere.foldl (fun t n => t.modMeter n (fun p => { p with missed := false })) s).modMtr (fun m => { m with lastCommit := s.soffit.sec })

/-- Hold an ENERGY record (R400). -/
def State.logEnergy (s : State) : State := (s.log recENERGY (s.energyPayload 0)).energyTaken

/-! ### The ring (R396, R397) -/

/-- The bytes of a record in flash. -/
def LogRec.bytes (r : LogRec) : Nat := 16 + 4 * r.payload.length

/-- The words of a record (R398). -/
def SlRec.words (x : SlRec) : List Word :=
  let w0 := BitVec.ofNat 32 (x.body.ty % 256 + x.body.payload.length % 256 * 256 + x.seq % 65536 * 65536)
  let w1 := BitVec.ofNat 32 x.body.sec
  let w2 := BitVec.ofNat 32 (x.body.usec % 2 ^ 20 + b2n x.body.tv * 2 ^ 20)
  [w0, w1, w2, BitVec.ofNat 32 (crc32c ([w0, w1, w2] ++ x.body.payload))] ++ x.body.payload

/-- The sector record of a number. -/
def SlateSt.sector (l : SlateSt) (k : Nat) : Option Sector := l.sectors.find? (fun x => x.num == k)

/-- Is a sector erased: blank, or erased and not yet in use? -/
def SlateSt.erased (l : SlateSt) (k : Nat) : Bool :=
  match l.sector k with
  | none => true
  | some x => x.sseq.isNone && !x.retired

def SlateSt.retiredCount (l : SlateSt) : Nat := (l.sectors.filter (fun x => x.retired)).length

/-- Erased sectors of a region of len sectors. -/
def SlateSt.erasedCount (l : SlateSt) (len : Nat) : Nat := len - (l.sectors.filter (fun x => x.sseq.isSome || x.retired)).length

/-- Put a sector record. -/
def SlateSt.putSector (l : SlateSt) (x : Sector) : SlateSt := { l with sectors := x :: l.sectors.filter (fun y => y.num != x.num) }

/-- The first sector from k on, around the ring, that is not retired. -/
def SlateSt.nextFrom (l : SlateSt) (len : Nat) : Nat → Nat → Nat
  | 0, k => k % max 1 len
  | f + 1, k =>
    match l.sector (k % max 1 len) with
    | some x => if x.retired then SlateSt.nextFrom l len f (k + 1) else k % max 1 len
    | none => k % max 1 len

/-- Show the ring in MTR_SLSTAT and MTR_SLPTR; logging stops when only retired sectors lie beyond the reserve (R406). -/
def State.showRing (s : State) : State :=
  let len := s.get MTR_SLLEN.LEN
  let t := (s.put MTR_SLSTAT.RETIRED (min 255 s.slate.retiredCount)).put MTR_SLSTAT.ERASED (min 65535 (s.slate.erasedCount len))
  let t := match s.slate.cur with
    | some (k, o) => t.put MTR_SLPTR.PTR (k * 4096 + o)
    | none => t
  if s.bit MTR_SLSTAT.EN && decide (len ≤ s.slate.retiredCount + s.slate.rsv) then t.raise MTR_SLSTAT.ERR else t

/-- Where a record of a size goes: the place and the log with a sector opened for it when the present one has no room. A normal record leaves
the reserve of erased sectors; a forced one, of the last-gasp commit, may use it (R397). -/
def State.place (s : State) (size : Nat) (force : Bool) : Option (Nat × Nat × SlateSt) :=
  let l := s.slate
  let len := s.get MTR_SLLEN.LEN
  let openNext := fun (from_ : Nat) =>
    let k := l.nextFrom len (l.sectors.length + 1) from_
    if l.erased k && (force || decide (l.rsv < l.erasedCount len)) then
      let e := match l.sector k with
        | some x => x.erases
        | none => 0
      some (k, 32, { l.putSector { num := k, sseq := some l.sseq, erases := e, fmt := l.fmt, retired := false } with sseq := (l.sseq + 1) % 2 ^ 32 })
    else none
  match l.cur with
  | none => openNext 0
  | some (k, o) => if o + size ≤ 4096 then some (k, o, l) else openNext (k + 1)

/-- Program a record into the ring (R398). -/
def State.ringWrite (s : State) (r : LogRec) (force : Bool) : Option State :=
  match s.place r.bytes force with
  | none => none
  | some (k, o, l) =>
    let l' : SlateSt := { l with
      ring := { sector := k, off := o, seq := l.seq, body := r } :: l.ring, seq := (l.seq + 1) % 65536, cur := some (k, o + r.bytes), retry := none }
    let t := ((s.modSlate (fun _ => l')).wrapInc MTR_SLCOUNT.COUNT).showRing
    some (if r.ty = recENERGY then t.clear MTR_STAT.RECLOST else t)

/-- The newest ENERGY or LASTGASP record among records newest first. -/
def newestEnergy (rs : List SlRec) : Option SlRec := rs.find? (fun x => x.body.ty == recENERGY || x.body.ty == recLASTGASP)

/-- The word at a byte offset of the region (R401): sector header, record, or blank. -/
def State.regionWord (s : State) (off : Nat) : Word :=
  let k := off / 4096
  let o := off % 4096
  match s.slate.sector k with
  | none => 0xFFFFFFFF
  | some x =>
    if o < 32 then
      let h : List Word := [0x534C4154, BitVec.ofNat 32 (x.sseq.getD 0), BitVec.ofNat 32 x.erases, BitVec.ofNat 32 (x.fmt % 65536 + b2n x.retired * 65536),
        0xFFFFFFFF, 0xFFFFFFFF, 0xFFFFFFFF]
      if x.sseq.isNone && !x.retired then 0xFFFFFFFF
      else (h ++ [BitVec.ofNat 32 (crc32c h)]).getD (o / 4) 0xFFFFFFFF
    else match s.slate.ring.find? (fun y => y.sector == k && decide (y.off ≤ o) && decide (o < y.off + y.body.bytes)) with
      | some y => y.words.getD ((o - y.off) / 4) 0xFFFFFFFF
      | none => 0xFFFFFFFF

/-- Fetch 64 bytes of the region into the window (R401). -/
def State.slateWindow (s : State) (off : Nat) : State :=
  (((List.range 16).foldl (fun t k => t.wr (MTR_SLRDDAT.at k) (s.regionWord (off + 4 * k))) (s.wr MTR_SLRDADDR.at (BitVec.ofNat 32 off)))).raise MTR_SLSTAT.RDRDY

/-! ### Bands (R391) -/

/-- Switch ports to a band at this tick boundary: E136 and a TARIFF record, for the ports whose band changes. -/
def State.switchBand (s : State) (mask band : Nat) : State :=
  let ns := s.portsHere.filter (fun n => mask.testBit n.val && s.get (MTR_PSTAT.BAND n) != band % 8)
  match ns with
  | [] => s
  | n0 :: _ =>
    let recs := ns.flatMap (fun n =>
      let b := s.get (MTR_PSTAT.BAND n)
      BitVec.ofNat 32 (n.val + b * 16 + band % 8 * 256) :: eWords ((s.meter n).bands.getD b 0) 0)
    let t := ns.foldl (fun u n =>
      let b := s.get (MTR_PSTAT.BAND n)
      (u.modMeter n (fun p => { p with prevBand := b, prevE := p.bands.getD b 0 })).put (MTR_PSTAT.BAND n) band) s
    let m := (ns.map (fun n => 2 ^ n.val)).sum
    let t := t.modMtr (fun x => { x with
      swMask := if x.swAt = some s.tickStart then x.swMask ||| m else m, swAt := some s.tickStart })
    (t.fire 0x136 (band % 8 + n0.val * 256)).logAt recTARIFF recs s.tickStart

/-- Does schedule entry j act at a second (R391)? -/
def State.schedHits (s : State) (j sec : Nat) : Bool :=
  s.bit (MTR_SCHED0.VALID j) && s.get (MTR_SCHED0.TOD j) == s.todAt sec && (s.get (MTR_SCHED0.DOW j)).testBit (s.dowAt sec)

/-- How long before a second entry j last acted, up to seven days; none when it does not act (R391). -/
def State.schedAge (s : State) (j sec : Nat) : Option Nat :=
  if !s.bit (MTR_SCHED0.VALID j) then none
  else
    let tod := s.get (MTR_SCHED0.TOD j)
    let now := s.todAt sec
    ((List.range 8).find? (fun d =>
      let day := (s.dowAt sec + 7 - d % 7) % 7
      (s.get (MTR_SCHED0.DOW j)).testBit day && (if d = 0 then decide (tod ≤ now) else if d = 7 then decide (now < tod) else true))).map
        (fun d => d * 86400 + now - tod)

/-- The band that the most recent entry naming a port gives it (R391): the smallest age, the higher entry number on equal ages. -/
def State.schedBand (s : State) (n : Fin 16) (sec : Nat) : Option Nat :=
  ((List.range 64).foldl (fun (best : Option (Nat × Nat)) j =>
    if !(s.get (MTR_SCHED1.PORTMASK j)).testBit n.val then best
    else match s.schedAge j sec, best with
      | none, b => b
      | some a, none => some (a, j)
      | some a, some (b, i) => if a ≤ b then some (a, j) else some (b, i)) none).map (fun x => s.get (MTR_SCHED0.BAND x.2))

/-- Every port takes the band of its most recent entry (R391). -/
def State.rebandAll (s : State) : State :=
  if s.bit MTR_CFG.SCHEDEN then
    (List.range 8).foldl (fun t b =>
      let m := (s.portsHere.map (fun n => if s.schedBand n s.soffit.sec = some b then 2 ^ n.val else 0)).sum
      if m = 0 then t else t.switchBand m b) s
  else s

/-! ### Demand intervals (R392, R393) -/

/-- The demand of an interval energy in whole watts (R392). -/
def State.demandW (s : State) (e : Nat) : Nat := mj e / (s.ivSeconds * 1000)

/-- Words of a DEMAND record (R399). -/
def State.demandPayload (s : State) (start : Word) (flags : Nat) : List Word :=
  [start, BitVec.ofNat 32 (s.get MTR_CFG.DILEN + flags)] ++ s.portsHere.flatMap (fun n =>
    eWords (s.meter n).ivE 0 ++ [BitVec.ofNat 32 (s.demandW (s.meter n).ivE % 65536 + (s.meter n).peak % 65536 * 65536)])

/-- Close the running interval: demand and peak of each port, E137 and the DEMAND record (R392, R393). -/
def State.closeIv (s : State) (tstep : Bool) : State :=
  if s.bit MTR_STAT.IVRUN then
    let t := s.logAt recDEMAND (s.demandPayload (s.rd MTR_IVSTART.at) (b2n tstep * 2 ^ 9 + b2n s.mtr.incomplete * 2 ^ 10)) s.tickStart
    let t := s.portsHere.foldl (fun u n =>
      let d := s.demandW (s.meter n).ivE
      let u := (u.put (MTR_DEMAND.DEMAND n) d).put (MTR_DEMAND.PEAK n) (s.meter n).peak
      u.put (MTR_DMAX.DMAX n) (max d (u.get (MTR_DMAX.DMAX n)))) t
    (((t.clear MTR_STAT.IVRUN).modMtr (fun m => { m with closeAt := some s.tickStart, incomplete := false })).fire 0x137)
  else s

/-- Start an interval at this second (R392). -/
def State.openIv (s : State) : State :=
  let t := s.portsHere.foldl (fun u n => u.modMeter n (fun p => { p with ivE := 0, peak := 0 })) s
  ((t.put MTR_IVSTART.SEC s.soffit.sec).raise MTR_STAT.IVRUN).modMtr (fun m => { m with incomplete := false })

/-- At an interval boundary with no interval running: the gap ends with its record and an interval starts (R393). -/
def State.endGap (s : State) : State :=
  if s.timeValid && !s.bit MTR_STAT.IVRUN && s.ivBoundary s.soffit.sec then
    let t := match s.mtr.gap with
      | some g => (s.logAt recGAP ([BitVec.ofNat 32 g.last, BitVec.ofNat 32 (g.valid.getD 0), BitVec.ofNat 32 s.soffit.sec] ++
          s.portsHere.flatMap (fun n => eWords (s.meter n).gapE 0)) s.tickStart).modMtr (fun m => { m with gap := none })
      | none => s
    t.openIv
  else s

/-- Begin a gap (R393). -/
def State.beginGap (s : State) (last : Nat) (valid : Option Nat) : State :=
  (s.portsHere.foldl (fun t n => t.modMeter n (fun p => { p with gapE := 0 })) s).modMtr (fun m => { m with gap := some { last := last, valid := valid } })

/-- Show MTR_STAT.VALID and SCHEDON. -/
def State.showMtr (s : State) : State :=
  (s.flag MTR_STAT.VALID s.timeValid).flag MTR_STAT.SCHEDON (s.timeValid && s.bit MTR_CFG.SCHEDEN)

/-! ### TIME ops (R384, R391) -/

/-- A time op of SUB 0 reaches Soffit: the value is staged (R384). -/
def State.stageTime (s : State) (sec port : Nat) : State := (s.modMtr (fun m => { m with timeSet := some (sec, port) })).raise SOF_TIME_STAT.PEND

/-- A TIME op of SUB 2 enters Soffit's apply queue. -/
def State.queueBand (s : State) (o : BandOp) : State := s.modMtr (fun m => { m with ops := m.ops ++ [o] })

/-- The payload that marks a TIME op of SUB 2: the boundary it names and whether it closes an interval. -/
def bandPayload (boundary : Nat) (close : Bool) : BitVec 64 := BitVec.ofNat 64 (boundary % 2 ^ 32 + 2 ^ 32 + b2n close * 2 ^ 33)

/-- The band op that a committed op of SUB 2 carries (assumption log 23). -/
def bandOpOf (o : Op) : BandOp :=
  { close := o.payload.getLsbD 33, boundary := if o.payload.getLsbD 32 then some (o.payload.toNat % 2 ^ 32) else none,
    mask := o.arg % 65536, band := o.arg / 65536 % 8 }

/-- MTR_CMD with its KEY judged (R410): SETBAND, CLRPEAK and CKPT. -/
def State.mtrCmd (s : State) (v : Word) : State :=
  let mask := MTR_CMD.PORTMASK.of v
  let t := if MTR_CMD.SETBAND.of v = 1 then s.queueBand { close := false, boundary := none, mask := mask, band := MTR_CMD.BAND.of v } else s
  let t := if MTR_CMD.CLRPEAK.of v = 1 then t.portsHere.foldl (fun u n => if mask.testBit n.val then u.clear (MTR_DMAX.DMAX n) else u) t else t
  if MTR_CMD.CKPT.of v = 1 then t.logEnergy else t

end Sys2Proof.Machine
end

