-- ==== Sys2Proof/Machine/Load.lean ====
section
/-!
DEFINITION. Settings as shared operations: the legal value of a write (R10, R11), staging, and loading the records of a Thatch image into
the registers of their blocks (R65 to R79, R126, R150, R217, R235, R271, R295, R299, R336, R380, R408, R493).
-/

namespace Sys2Proof.Machine

/-! ### Writes (R10, R11) -/

/-- Does a value hold a reserved value of a field (R11)? -/
def FieldRange.violated (f : FieldRange) (v : Word) : Bool :=
  let x := (v.toNat >>> f.lo) % 2 ^ f.w
  !(decide (f.least ≤ x) && decide (x ≤ f.most))

/-- The mask of a field range. -/
def FieldRange.mask (f : FieldRange) : Word := BitVec.ofNat 32 ((2 ^ f.w - 1) <<< f.lo)

/-- The fields whose combination in a word is reserved: a half-period of 4000 with a fine part (R193), DMIN above DMAX (RAF_DLIM), SWLO not below SWHI
(R300), a BASEID that is no multiple of 16 (R355), and a chain-event destination outside PEER (R324). Both fields of a pair keep their values (assumption log 111). -/
def reservedPair (a : Nat) (v : Word) : Word :=
  match blockOf a with
  | some (.slice k) =>
    if a = RAF_PERIOD.at k then
      (if (RAF_PERIOD.PRD k).of v = 4000 ∧ (RAF_PERIOD.PRDF k).of v ≠ 0 then (RAF_PERIOD.PRD k).mask ||| (RAF_PERIOD.PRDF k).mask else 0)
    else if a = RAF_DLIM.at k then
      (if (RAF_DLIM.DMAX k).of v < (RAF_DLIM.DMIN k).of v then (RAF_DLIM.DMAX k).mask ||| (RAF_DLIM.DMIN k).mask else 0)
    else 0
  | some (.port n) =>
    if a = PVL_SWCFG.at n ∧ (PVL_SWCFG.SWHI n).of v ≤ (PVL_SWCFG.SWLO n).of v then (PVL_SWCFG.SWHI n).mask ||| (PVL_SWCFG.SWLO n).mask else 0
  | some .jtl =>
    if a = JTL_EVCFG.at then (List.range 4).foldl (fun (m : Word) k =>
      if peerDest (v.toNat / 256 ^ k % 128) then m else m ||| BitVec.ofNat 32 (127 * 256 ^ k)) 0
    else 0
  | some .hst => if a = HST_CANID.at ∧ HST_CANID.BASEID.of v % 16 ≠ 0 then HST_CANID.BASEID.mask else 0
  | some .mtr =>
    if a = MTR_CFG.at then (if MTR_CFG.DILEN.of v ≠ 0 ∧ 60 % MTR_CFG.DILEN.of v = 0 then 0 else MTR_CFG.DILEN.mask)
    else if a = MTR_TZOFF.at ∧ 50400 < (signedOf 18 (MTR_TZOFF.TZ.of v)).natAbs then MTR_TZOFF.TZ.mask
    else 0
  | some .sof => if a = SOF_RTCCFG.at ∧ 2000 < (signedOf 16 (SOF_RTCCFG.TRIM.of v)).natAbs then SOF_RTCCFG.TRIM.mask else 0
  | _ => 0

/-- The word that a write leaves with every single field legal: reserved bits are ignored, and a field written with a reserved value keeps its value. -/
def RegRow.ranged (r : RegRow) (old new : Word) : Word :=
  let v := (new &&& r.wmask) ||| (old &&& ~~~r.wmask)
  r.ranges.foldl (fun x f => if f.violated new then (x &&& ~~~f.mask) ||| (old &&& f.mask) else x) v

/-- The value a write gives the register at address a that holds old (R11). -/
def RegRow.legal (r : RegRow) (a : Nat) (old new : Word) : Word :=
  let x := r.ranged old new
  let m := reservedPair a x
  (x &&& ~~~m) ||| (old &&& m)

/-- Is a reserved field value, or a reserved combination, written? -/
def RegRow.flagged (r : RegRow) (a : Nat) (old new : Word) : Bool :=
  r.ranges.any (fun f => f.violated new) || reservedPair a (r.ranged old new) != 0

/-- The error flag of a block for a reserved field value: only the slices have one (R11). -/
def State.flagReserved (s : State) (a : Nat) (bad : Bool) : State :=
  if bad then
    match blockOf a with
    | some (.slice k) => s.raise (RAF_IFLG.CFGERR k)
    | _ => s
  else s

/-- Give a register a value in force at once, discarding a staged one: how a record word is loaded. -/
def State.loadReg (s : State) (a : Nat) (v : Word) : State :=
  match regRow a with
  | none => s
  | some r =>
    let t := s.wr a (r.legal a (s.rd a) v)
    ({ t with staged := cellErase t.staged a }).flagReserved a (r.flagged a (s.rd a) v)

/-- Does a staged value of this register take effect with the op that carries it: no chapter names a later point (R10)? -/
def atOnce (a : Nat) : Bool :=
  match blockOf a with
  | some .gpc => true
  | some .jtl => a != JTL_CFG.at
  | some .hst => a == HST_CFG.at
  | some (.port n) => decide ((a - portBase n.val) / 0x100 = 2) || a == PGT_CFG.at n
  | _ => false

/-- Give a setting a value as an op applies it: staged where the register is RWS and its block has a later point (R10). A slice value joins the arrivals of its port (R205),
and polarities act on a disabled slice (R197). -/
def State.setReg (s : State) (a : Nat) (v : Word) : State :=
  match regRow a with
  | none => s
  | some r =>
    let old := if r.acc = .rws ∧ atOnce a = false then s.stagedOr a else s.rd a
    let t := s.flagReserved a (r.flagged a old v)
    if r.acc = .rws ∧ atOnce a = false then
      let u := t.stage a (r.legal a old v)
      match blockOf a with
      | some (.slice k) => (u.arrive k a).takePol k
      | _ => u
    else t.wr a (r.legal a old v)

/-- A CAN FD setting (R381): EN and SLEEP at once; the others when EN next goes from 0 to 1. -/
def State.setCan (s : State) (v : Word) : State :=
  match regRow HST_CANCTL.at with
  | none => s
  | some r =>
    let w := r.legal HST_CANCTL.at (s.stagedOr HST_CANCTL.at) v
    let was := s.bit HST_CANCTL.EN
    let t := (s.stage HST_CANCTL.at w).put HST_CANCTL.EN (HST_CANCTL.EN.of w)
    let t := t.put HST_CANCTL.SLEEP (HST_CANCTL.SLEEP.of w)
    let t := if !was && t.bit HST_CANCTL.EN then t.takeStagedAll [HST_CANCTL.at, HST_CANID.at, HST_CANBT.at, HST_CANDBT.at, HST_CANWAKE.at, HST_CANWMASK.at] else t
    if t.bit HST_CANCTL.EN && !t.bit HST_CANCTL.SLEEP then (if t.get HST_CANSTAT.STATE = 3 then t.put HST_CANSTAT.STATE 0 else t) else t.put HST_CANSTAT.STATE 3

/-- JTL_CFG: EN is held for the next relay start or Jotil reset (R337); the other fields act from now on. Without LOCKEN the timebases go on with the reference (R480). -/
def State.setJtlCfg (s : State) (v : Word) : State :=
  match regRow JTL_CFG.at with
  | none => s
  | some r =>
    let w := r.legal JTL_CFG.at (s.stagedOr JTL_CFG.at) v
    let t := (s.stage JTL_CFG.at w).wr JTL_CFG.at ((w &&& ~~~JTL_CFG.EN.mask) ||| (s.rd JTL_CFG.at &&& JTL_CFG.EN.mask))
    if t.bit JTL_CFG.LOCKEN then t else t.leaveTick

/-! ### Records to registers -/

/-- The registers that take words of a record, each with its word (RAFTER, TALLY, POLICY, DEVICE and SLATE have operations of their own). -/
def recRegs (ty inst : Nat) : List (Nat × Nat) :=
  if ty = tyHOSTCFG then
    [(HST_CFG.at, 0), (HST_CANCTL.at, 1), (HST_CANID.at, 2), (HST_CANBT.at, 3), (HST_CANDBT.at, 4), (HST_CANWAKE.at, 5), (HST_CANWMASK.at, 6)]
  else if ty = tyMETER then
    [(MTR_CFG.at, 0), (MTR_TZOFF.at, 1)] ++ (List.range 64).flatMap (fun j => [(MTR_SCHED0.at j, 2 + 2 * j), (MTR_SCHED1.at j, 3 + 2 * j)])
  else if ty = tyJOTIL then [(JTL_CFG.at, 0), (JTL_CHAINBUDGET.at, 1), (JTL_SWCFG.at, 2), (JTL_EVCFG.at, 3)]
  else if ty = tyGPC then (List.range 8).flatMap (fun k => [(GPC_CFG.at k, 4 * k), (GPC_THR.at k, 4 * k + 1), (GPC_SLOPE.at k, 4 * k + 2)])
  else if h : inst < 16 then
    let n : Fin 16 := ⟨inst, h⟩
    if ty = tyCCCFG then [(PCC_CFG.at n, 0), (PCC_TIMERS.at n, 1), (PCC_CABLECFG.at n, 2)]
    else if ty = tySINKPOL then [(PPD_SINKPOL0.at n, 0), (PPD_SINKPOL1.at n, 1)]
    else if ty = tyGUTTER then [(PGT_CFG.at n, 0), (PEV_CTRL.at n, 1)]
    else if ty = tyVALLEY then [(PVL_OVCFG.at n, 0), (PVL_UVCFG.at n, 1), (PVL_FICFG.at n, 2), (PVL_SWCFG.at n, 3), (PVL_FILT.at n, 4), (PVL_STCFG.at n, 5)]
    else if ty = tyFUSEBASE then (List.range 8).flatMap (fun i => (List.range 9).map (fun w => (PEV_BASE.at n i w, 9 * i + w)))
    else if ty = tyLOOPSET then
      [(PLP_CFG.at n, 0), (PLP_FRZCFG.at n, 1)] ++ (List.range 16).flatMap (fun k => (List.range 14).map (fun w => (PLP_BANK.at n k w, 2 + 14 * k + w)))
    else []
  else []

/-- The no-record value of a register; BASEID follows ADDR (R381). -/
def State.noRecord (s : State) (a : Nat) : Word := if a = HST_CANID.at then BitVec.ofNat 32 (0x300 + 16 * s.host.addrPins) else regReset a

/-- A word that a record gives a register: bytes after the last whole bank of a LOOPSET record give none (R235). -/
def recValue (rs : List ThaRec) (ty inst i : Nat) : Option Word :=
  if ty = tyLOOPSET ∧ 2 ≤ i ∧ loopBanks ((recOf rs ty inst).getD []).length ≤ (i - 2) / 14 then none else recWord rs ty inst i

/-- Load a record's words in force: a missing record or word gives the no-record value. -/
def State.loadRec (s : State) (rs : List ThaRec) (ty inst : Nat) : State :=
  (recRegs ty inst).foldl (fun t p => (t.wr p.1 (s.noRecord p.1)).loadReg p.1 ((recValue rs ty inst p.2).getD (s.noRecord p.1))) s

/-- Apply a record's words as ordinary ops do (R84): staged where the block has a later point. -/
def State.applyRec (s : State) (rs : List ThaRec) (ty inst : Nat) : State :=
  (recRegs ty inst).foldl (fun t p =>
    let v := (recValue rs ty inst p.2).getD (s.noRecord p.1)
    if p.1 = HST_CANCTL.at then t.setCan v else if p.1 = JTL_CFG.at then t.setJtlCfg v else t.setReg p.1 v) s

/-- The legs of a port with their numbers (R198). -/
def State.numberedLegs (s : State) (n : Fin 16) : List (Fin 48 × Nat) := (s.legsOf n).map (fun k => (k, s.get (RAF_STAT.LEG k)))

/-- The registers a RAFTER record gives a port's legs, with their values (R217): head words to the lead, blocks to the legs. -/
def rafterRegs (legs : List (Fin 48 × Nat)) (p : List Word) : List (Nat × Option Word) :=
  legs.flatMap (fun (kl : Fin 48 × Nat) =>
    let k := kl.1
    let w := fun (i : Nat) => p[4 + 6 * kl.2 + i]?
    let low := if kl.2 = 0 then (p[3]?.getD (regReset (RAF_CTRL.at k))).toNat % 256 else (regReset (RAF_CTRL.at k)).toNat % 256
    let ctrl := ((w 0).map (fun x => BitVec.ofNat 32 (x.toNat / 256 * 256 + low)))
    let ctrl := match ctrl with
      | some c => some c
      | none => if kl.2 = 0 then (p[3]?).map (fun _ => BitVec.ofNat 32 ((regReset (RAF_CTRL.at k)).toNat / 256 * 256 + low)) else none
    (if kl.2 = 0 then [(RAF_PERIOD.at k, p[0]?), (RAF_PHASE.at k, p[1]?), (RAF_DITHER.at k, p[2]?)] else []) ++
    [(RAF_CTRL.at k, ctrl), (RAF_DTRISE.at k, w 1), (RAF_DTFALL.at k, w 2), (RAF_ADTCFG.at k, w 3), (RAF_BLANK.at k, w 4), (RAF_DLIM.at k, w 5)])

/-- Load the RAFTER record of a port into its legs (R217). A leg without its block gets the no-record values of the RAF_CTRL table, SNSEL 0 among them: the table of R198 names
SWA and SWB as the sense defaults of the legs, and that table reads as what an image is to choose (DEDUCED, assumption log 120). The boost leg of T3 has none (R210). -/
def State.loadRafter (s : State) (rs : List ThaRec) (n : Fin 16) : State :=
  let p := (recOf rs tyRAFTER n.val).getD []
  let t := (rafterRegs (s.numberedLegs n) p).foldl (fun t x => (t.wr x.1 (regReset x.1)).loadReg x.1 (x.2.getD (regReset x.1))) s
  (t.legsOf n).foldl (fun u k =>
    let v := if u.boostT3 k then u.clear (RAF_CTRL.SNSEL k) else u
    (v.restartDt k).modSlice k (fun x => { x with lfsr := v.get (RAF_DITHER.SEED k) })) t

/-- Apply a RAFTER record as ops do (R205). -/
def State.applyRafter (s : State) (rs : List ThaRec) (n : Fin 16) : State :=
  (rafterRegs (s.numberedLegs n) ((recOf rs tyRAFTER n.val).getD [])).foldl (fun t x => t.setReg x.1 (x.2.getD (regReset x.1))) s

/-- A port's new floor (R180) with what follows it: the Rp level before a contract, and the reference current of the curve that stands for it (R101, R258). -/
def State.takeFloor (s : State) (n : Fin 16) (w : Nat) : State :=
  let t := (s.setFloor n w).showRp n
  if t.get (PCC_STATUS.RPOUT n) ≠ s.get (PCC_STATUS.RPOUT n) ∧ t.eaveLive n ∧ t.peff n ≠ 8 ∧ t.peff n ≠ 9 then t.implicitCurve n else t

/-- Take a PDO floor and the default floor (R180). -/
def State.applyFloors (s : State) (rs : List ThaRec) : State :=
  allPorts.foldl (fun t n => if s.present n then t.takeFloor n (imgFloor rs n.val) else t) s

/-- The tallies a TALLY entry's ID names (R295). -/
def tallyIds (id : Nat) : List Nat :=
  if id < 8 then (List.range 16).map (fun n => 8 * n + id) else if id < 24 then [128 + (id - 8)] else []

/-- Take a TALLY record (R295): defaults, then the entries in order, field by field; a changed WINDOW clears the bins (R293). -/
def State.loadTally (s : State) (rs : List ThaRec) : State :=
  let es := (recOf rs tyTALLY instGlobal).getD []
  (List.range 144).foldl (fun t k =>
    let a := BAT_TALLY0.at k
    let d := regReset a
    let v := es.foldl (fun (acc : Nat × Nat) e =>
      if (tallyIds (fieldOf e 28 24)).contains k then
        (if fieldOf e 7 0 = 0 then acc.1 else fieldOf e 7 0, if fieldOf e 23 8 = 0 ∨ 60000 < fieldOf e 23 8 then acc.2 else fieldOf e 23 8)
      else acc) ((BAT_TALLY0.THRESH k).of d, (BAT_TALLY0.WINDOW k).of d)
    let was := t.get (BAT_TALLY0.WINDOW k)
    let u := (t.put (BAT_TALLY0.THRESH k) v.1).put (BAT_TALLY0.WINDOW k) v.2
    if v.2 = was then u else u.setBins k (List.replicate 16 0)) s

/-- Take the wiring of an image (R76, R298). -/
def State.loadWire (s : State) (rs : List ThaRec) : State :=
  s.modBat (fun b => { b with wire := (imgRoutes rs).map (fun x => { src := x.1, dst := x.2.1, mode := x.2.2.1, queue := x.2.2.2 }) })

/-- Take the SLATE record (R395, R408): it is load-only. A region that overlaps the image area disables logging with CFGERR. -/
def State.loadSlate (s : State) (rs : List ThaRec) : State :=
  let w := fun (i : Nat) => (recWord rs tySLATE instGlobal i).getD 0
  let here := (recOf rs tySLATE instGlobal).isSome
  let base := (w 0).toNat
  let len := (w 1).toNat
  let want := here && (w 2).toNat % 2 == 1
  let bad := want && decide (base < 0x602)
  let t := s.modSlate (fun l => { l with rsv := fieldOf (w 2) 7 4, wear := fieldOf (w 2) 31 16, framBase := fieldOf (w 3) 15 0 })
  let t := (t.put MTR_SLBASE.BASE base).put MTR_SLLEN.LEN len
  let t := ((t.flag MTR_SLSTAT.EN (want && !bad)).flag MTR_SLSTAT.FRAM (want && !bad && fieldOf (w 2) 1 1 == 1)).flag MTR_SLSTAT.CFGERR bad
  if want && !bad then t.showRing else t.modSlate (fun l => { l with buf := [] })

/-- Take the DEVICE record's words 1 and 2 (R78, R493). -/
def State.loadDevice (s : State) (rs : List ThaRec) : State :=
  let w2 := (recWord rs tyDEVICE instGlobal 2).getD 0x3F04
  let k := fieldOf w2 3 0
  let spr := BitVec.ofNat 32 ((if 8 < k then 4 else k) + fieldOf w2 13 8 * 256 + fieldOf w2 16 16 * 65536)
  let p := fieldOf ((recWord rs tyDEVICE instGlobal 1).getD 0) 2 0
  ((s.wr GLB_SPREAD.at spr).put GLB_CLKSTAT.SPRK (if 8 < k then 4 else k)).put THA_SCRUBCFG.PERIOD (if 4 < p then s.get THA_SCRUBCFG.PERIOD else p)

/-- Truss at load (R188): E, floors, every allocation at its floor and no holds. -/
def State.loadTruss (s : State) (rs : List ThaRec) : State :=
  let t := allPorts.foldl (fun u n => ((u.wr (TRS_HOLD.at n) 0).put (TRS_ALLOC.FLOOR n) (if s.present n then imgFloor rs n.val else 0)).put (TRS_ALLOC.ALLOC n)
    (if s.present n then imgFloor rs n.val else 0)) s
  (t.put TRS_BUDGET.BUDGET (imgBudget rs)).resolveDeficit

/-- Apply JTL_CFG at a load (R335, R337): EN from the record, a host value only where one stands (kept); a SERFAULT keeps the links down (R427). -/
def State.loadJotil (s : State) (rs : List ThaRec) (hostEn : Option Nat) : State :=
  let t := s.loadRec rs tyJOTIL instGlobal
  let t := match hostEn with
    | some e => t.put JTL_CFG.EN e
    | none => t
  (if t.bit OTP_STAT.SERFAULT then t.clear JTL_CFG.EN else t).followChain

/-- The global records that take effect at boot step 5 of every boot: host, metering, log, wiring, tallies and device. -/
def State.loadHeld (s : State) (rs : List ThaRec) : State :=
  let t := (s.loadRec rs tyHOSTCFG instGlobal)
  let t := if t.bit HST_CANCTL.EN && !t.bit HST_CANCTL.SLEEP then t.put HST_CANSTAT.STATE 0 else t
  let t := (t.loadRec rs tyMETER instGlobal).showMtr
  (((t.loadSlate rs).loadWire rs).loadTally rs).loadDevice rs

/-- All global records of an image: those of step 5, GPCs, Truss, grants and chain. -/
def State.loadGlobals (s : State) (rs : List ThaRec) (hostEn : Option Nat) : State :=
  ((((s.loadHeld rs).loadRec rs tyGPC instGlobal).loadTruss rs).loadGrants).loadJotil rs hostEn

/-! ### Ports -/

/-- The port records of an image into a released port's registers (boot step 6). -/
def State.loadPortRecs (s : State) (rs : List ThaRec) (n : Fin 16) : State :=
  let t := [tyCCCFG, tySINKPOL, tyLOOPSET, tyFUSEBASE, tyGUTTER, tyVALLEY].foldl (fun u ty => u.loadRec rs ty n.val) s
  (t.put (PLP_STATUS.NBANK n) (loopBanks ((recOf rs tyLOOPSET n.val).getD []).length)).loadRafter rs n

/-- Apply a port's live records as ops do. -/
def State.applyPortRec (s : State) (rs : List ThaRec) (ty : Nat) (n : Fin 16) : State :=
  if ty = tyRAFTER then s.applyRafter rs n
  else
    let t := s.applyRec rs ty n.val
    if ty = tyLOOPSET then t.put (PLP_STATUS.NBANK n) (loopBanks ((recOf rs tyLOOPSET n.val).getD []).length) else t

/-- A changed POLICY on a port with an explicit contract: a fresh offer (R84). One that clears EPRCAP takes EPR mode from the port (R141). -/
def State.policyChanged (s : State) (n : Fin 16) : State :=
  if s.isSource n && s.hasContract n then
    if s.bit (PPD_STATUS.EPRMODE n) && fieldOf (s.policyHead n) 6 6 == 0 then s.eprLost n
    else if s.pstate n = 6 && !s.amsBusy n then s.beginAms n .sourceCap
    else s.modPd n (fun d => { d with offerDue := true })
  else s

/-- Put a structure in force on a port: role, with the direction that Eave shows for it (R253), topology and legs (R70, R198). -/
def State.setStruct (s : State) (n : Fin 16) (ps : PortStruct) : State :=
  let t := ((s.dropLegs n).modPort n (fun p => { p with en := ps.en, role := ps.role, topo := ps.topo })).flag (PEV_STATUS.DIR n) (ps.en && ps.role == 1)
  if ps.en then t.nameLegs n ps.used else t

end Sys2Proof.Machine
end

