-- ==== Sys2Proof/Machine/Otp.lean ====
section
/-!
DEFINITION. The meanings of the OTP commands (R411 to R432): overrides, burns, counters, repair and scrub, and the reading of the whole
array that boot and scrub share. What the references read is an operand; the statuses, the values and the counter bits follow from it.
-/

namespace Sys2Proof.Machine

/-! ### Reading the array (R417, R426 to R428) -/

/-- Set bits of a 64-bit word. -/
def popCount (v : BitVec 64) : Nat := ((List.range 64).filter (fun k => v.getLsbD k)).length

/-- Show the counts of R426 and R417 in OTP_MARG and the flag of a gap. -/
def State.countOtp (s : State) : State :=
  let m := (s.otp.status.filter (fun p => p.2 == 3)).length
  let u := (s.otp.status.filter (fun p => p.2 == 4)).length
  let c := (s.otp.ctrMarg.map popCount).sum
  (((s.put OTP_MARG.MARGINAL (min 511 m)).put OTP_MARG.UE (min 511 u)).put OTP_MARG.CTRMARG (min 127 c)).flag OTP_STAT.GAP s.hasGap

/-- Give a word a status; E109 fires with the word and the status when say holds (R426, R428). -/
def State.setStatus (s : State) (w code : Nat) (say : Bool) : State :=
  let t := s.modOtp (fun o => { o with
    status := (w, code) :: o.status.filter (fun p => p.1 != w) })
  if say then t.fire 0x109 (w % 512 + (code % 8) * 512) else t

/-- The counter bits as they read (R417). A bit that counted as burned keeps counting; a group without reads stays. -/
def State.readCounters (s : State) (cs : CtrReads) : State :=
  let new := fun (g : Nat) (was v : BitVec 64) => if (cs.getD g []).isEmpty then was else v
  s.modOtp (fun o => { o with
    ctr := (List.range 6).map (fun g => new g (o.ctr.getD g 0) (readBurned (cs.getD g []))),
    ctrMarg := (List.range 6).map (fun g => new g (o.ctrMarg.getD g 0) ((readAny (cs.getD g []) ||| s.groupBits g) &&& ~~~(readBurned (cs.getD g [])))) })

/-- The ECC words as they read: each takes its status and its value; E109 says a status where say holds of the old and the new one (R426, R428). Words not listed read as
the array holds them; one with a reserved bit at 1 is MARGINAL (R430). -/
def State.readWordsAt (s : State) (reads : List OtpRead) (say : Nat → Nat → Bool) : State :=
  let was := s.wordStatus
  let t := s.modOtp (fun o => { o with status := [] })
  let t := reads.foldl (fun u r =>
    (u.modOtp (fun o => { o with fuses := wideSet o.fuses r.word.toNat (readValue r) })).setStatus r.word.toNat (readStatus r) (say (was r.word.toNat) (readStatus r))) t
  (t.otp.fuses.filter (fun p => t.wordStatus p.1 == 1 && reservedSet p.1 p.2)).foldl (fun u p => u.setStatus p.1 3 (say (was p.1) 3)) t

/-- The words that read UE. -/
def State.ueWords (s : State) : List Nat := (s.otp.status.filter (fun p => p.2 == 4)).map Prod.fst

/-- Does a MARGINAL counter bit or a gap wait for repair (R423)? -/
def State.needsRepair (s : State) : Bool := s.otp.ctrMarg.any (fun v => v != 0) || s.hasGap

/-- AUTOREPAIR at the end of a boot read or a scrub pass: a repair starts when VHV allows, else it is pending (R423). -/
def State.autoRepair (s : State) : State :=
  if s.bit OTP_CTRL.AUTOREPAIR && s.needsRepair then
    if s.bit OTP_STAT.VHVPGM && !s.bit OTP_STAT.BUSY then
      ((s.modOtp (fun o => { o with burn := some { kind := 3, word := 0, value := 1 } })).raise OTP_STAT.BUSY).clear OTP_STAT.REPAIRPEND
    else s.raise OTP_STAT.REPAIRPEND
  else s.clear OTP_STAT.REPAIRPEND

/-- What the shadow of a word takes (R418, R427): the value read; of an uncorrectable word a TRIM word takes its default of ROM, and an island ID reads 0. -/
def shadowOf (ue : List Nat) (p : Nat × BitVec 64) : Nat × BitVec 64 :=
  if !ue.contains p.1 then p
  else if 0x003 ≤ p.1 ∧ p.1 ≤ 0x00A then (p.1, 0)
  else if 0x010 ≤ p.1 ∧ p.1 ≤ 0x0BF then (p.1, Config.trimDefault p.1)
  else p

/-- Every word's value is loaded into its shadow (R418). -/
def State.loadShadows (s : State) : State :=
  let ue := s.ueWords
  let l := s.otp.fuses ++ (ue.filter (fun w => s.otp.fuses.all (fun p => p.1 != w))).map (fun w => (w, (0 : BitVec 64)))
  s.modOtp (fun o => { o with ue := ue, shadow := l.map (shadowOf ue) })

/-- The port whose trim a word holds (R427). -/
def trimPort (w : Nat) : Option (Fin 16) :=
  if h : 0x010 ≤ w ∧ w < 0x0B0 then some ⟨(w - 0x010) / 10, by omega⟩ else none

/-- What an uncorrectable word of TRIM does at a boot read (R427): the fall-back is shown and the port is latched. -/
def State.trimFallback (s : State) (w : Nat) : State :=
  match trimPort w with
  | some n => (s.maskBit OTP_TRIMFB.PORT n.val true).latch n
  | none => if 0x0B0 ≤ w ∧ w ≤ 0x0BF then s.raise OTP_TRIMFB.GLOBAL else s

/-- The slice mask that fits a port mask: three slices a port. -/
def sliceMaskOf (ports : Nat) : Nat := if ports = 0xFFFF then 0xFFFFFFFFFFFF else 0xFFFFFF

/-- Take the variant (R15, R18, R427): an uncorrectable word, or masks that fit no part, make the device an LNS-8 with VARFAULT, and the fault goes to the Slate
log. -/
def State.loadVariant (s : State) : State :=
  let v := s.shadow 0
  let pm := wideField v 15 0
  let bad := s.wordStatus 0 == 4 || (pm != 0xFFFF && pm != 0x00FF) || wideField v 63 16 != sliceMaskOf pm
  let p := if bad then 0xFF else pm
  let t := ((s.put GLB_PORTMASK.PRESENT p).wr GLB_SLICEMASK0.at (BitVec.ofNat 32 (sliceMaskOf p))).wr GLB_SLICEMASK1.at (BitVec.ofNat 32 (sliceMaskOf p / 2 ^ 32))
  let t := (t.put GLB_PARTID.PORTS (if p = 0xFFFF then 16 else 8)).flag GLB_PARTID.VARFAULT bad
  if bad then t.logFault 3 0 else t

/-- Take the serial (R414); uncorrectable it is used as read, and SERFAULT shows it (R427). -/
def State.loadSerial (s : State) : State :=
  let a := s.shadow 1
  let b := s.shadow 2
  let t := (s.wr GLB_SERIAL0.at (BitVec.ofNat 32 a.toNat)).wr GLB_SERIAL1.at (BitVec.ofNat 32 (a.toNat / 2 ^ 32))
  (t.wr GLB_SERIAL2.at (BitVec.ofNat 32 b.toNat)).flag OTP_STAT.SERFAULT (s.wordStatus 1 == 4 || s.wordStatus 2 == 4)

/-- Is any key-hash word blank (R425)? -/
def State.keyBlank (s : State) : Bool := (List.range 8).any (fun k => s.wordStatus (0x0C0 + k) == 0)

/-- Is any word of a key-hash copy uncorrectable: 0 copy A, 1 copy B (R427)? -/
def State.keyCopyUE (s : State) (c : Nat) : Bool := (List.range 4).any (fun k => s.wordStatus (0x0C0 + 4 * c + k) == 4)

/-- The boot read (R426, R427, R431): statuses, values and counters as read; shadows are loaded from the fuses, the identity, the ceilings and the key flags follow,
MARGINAL words fire E109, and a repair may start. -/
def State.bootRead (s : State) (reads : List OtpRead) (cs : CtrReads) : State :=
  let t := ((s.wr OTP_RESULT.at 0).wr OTP_MARG.at 0).wr OTP_TRIMFB.at 0
  let t := t.readWordsAt reads (fun _ c => c == 3)
  let t := ((t.readCounters cs).loadShadows).countOtp
  let t := (t.loadVariant).loadSerial
  let t := t.otp.ue.foldl State.trimFallback t
  let t := (t.flag OTP_STAT.KEYBLANK t.keyBlank).flag OTP_STAT.KEYONE (!t.keyBlank && (t.keyCopyUE 0 != t.keyCopyUE 1))
  let t := (t.loadCeil.raise OTP_STAT.LOADED).put OTP_SCRUB.SINCE 0
  (t.flag OTP_STAT.OVRACT (!t.otp.overs.isEmpty)).autoRepair

/-- OTP_SCRUB: a scrub pass ends (R428): statuses and counters follow the reads, a worse status fires E109, and a repair may start. No shadow in force changes. -/
def execOtpScrub (reads : List OtpRead) (cs : CtrReads) (s : State) : Res :=
  if !s.bit OTP_STAT.LOADED then done s
  else
    let t := s.readWordsAt reads (fun a b => decide (a < b))
    let t := (t.readCounters cs).countOtp
    let t := if t.bit OTP_STAT.SCRUBRUN then t else t.put OTP_SCRUB.SINCE 0
    done (((t.clear OTP_STAT.SCRUBRUN).wrapInc OTP_SCRUB.PASSES).autoRepair)

/-! ### Overrides (R419, R420) -/

/-- After a change of a word's shadow: a ceiling takes effect (R366, R420). -/
def State.shadowChanged (s : State) (w : Nat) : State :=
  let t := s.flag OTP_STAT.OVRACT (!s.otp.overs.isEmpty)
  if 0x0C8 ≤ w ∧ w ≤ 0x0CB then t.loadCeil.loadGrants else t

/-- Set an override (R419): E10A fires with result code 0. -/
def State.setOverride (s : State) (w : Nat) (v : BitVec 64) : State :=
  let t := s.modOtp (fun o => { o with overs := (w, v) :: o.overs.filter (fun p => p.1 != w) })
  ((t.put OTP_SHADDR.ADDR w).shadowChanged w).fire 0x10A w

/-- OTP_OVERRIDE: one transaction writes OTP_SHADDR, OTP_SHDATA0 and OTP_SHDATA1 (R419). -/
def execOtpOverride (hp : HostPort) (addr : BitVec 9) (d1 d0 : BitVec 32) (s : State) : Res :=
  done (s.commandAll hp [(OTP_SHADDR.at, BitVec.ofNat 32 addr.toNat), (OTP_SHDATA0.at, d0), (OTP_SHDATA1.at, d1)]
    (fun t => t.setOverride addr.toNat (d1 ++ d0)))

/-- Drop one override, or all of them (R419). -/
def State.dropOverride (s : State) (w : Nat) (all : Bool) : State :=
  let ws := if all then s.otp.overs.map Prod.fst else [w]
  let t := s.modOtp (fun o => { o with overs := if all then [] else o.overs.filter (fun p => p.1 != w) })
  (ws.foldl State.shadowChanged (t.shadowChanged w)).fire 0x10A w

/-! ### Burning (R421, R422) -/

/-- Start a burn. -/
def State.startBurn (s : State) (b : Burn) : State := (s.modOtp (fun o => { o with burn := some b })).raise OTP_STAT.BUSY

/-- Everything an OTP_CMD word commands, with its conditions already judged (R421). -/
def State.otpCmd (s : State) (v : Word) : State :=
  let op := OTP_CMD.OP.of v
  let w := OTP_CMD.ADDR.of v
  if op = 1 then s.startBurn { kind := 1, word := w, value := s.shadow w }
  else if op = 2 then s.startBurn { kind := 2, word := OTP_CMD.CTR.of v, value := BitVec.ofNat 64 w }
  else if op = 3 then s.startBurn { kind := 3, word := 0, value := 0 }
  else if op = 4 then (s.raise OTP_STAT.SCRUBRUN).put OTP_SCRUB.SINCE 0
  else if op = 5 then s.dropOverride w (OTP_CMD.ALL.of v == 1)
  else s

/-- An OTP_CMD word. -/
def otpWord (key : Byte) (op low : Nat) : Word := BitVec.ofNat 32 (key.toNat * 2 ^ 24 + op * 65536 + low)

/-- An OTP_CMD write. -/
def State.otpCommand (s : State) (hp : HostPort) (v : Word) : Res := done (s.command hp OTP_CMD.at v (fun t => t.otpCmd v))

/-- BURN (R421, R422). -/
def execBurn (hp : HostPort) (key : Byte) (addr : BitVec 9) (s : State) : Res := s.otpCommand hp (otpWord key 1 addr.toNat)
/-- CTRSET (R421, R422). -/
def execCtrset (hp : HostPort) (key : Byte) (ctr : BitVec 2) (value : BitVec 9) (s : State) : Res :=
  s.otpCommand hp (otpWord key 2 (value.toNat + ctr.toNat * 4096))
/-- REPAIR (R423). -/
def execRepair (hp : HostPort) (key : Byte) (s : State) : Res := s.otpCommand hp (otpWord key 3 0)
/-- RESCRUB (R428). -/
def execRescrub (hp : HostPort) (key : Byte) (s : State) : Res := s.otpCommand hp (otpWord key 4 0)
/-- DROPOVR (R419). -/
def execDropovr (hp : HostPort) (key : Byte) (all : Bool) (addr : BitVec 9) (s : State) : Res :=
  s.otpCommand hp (otpWord key 5 (addr.toNat + 32768 * b2n all))

/-- End of a burn: OTP_RESULT, E10A with the word or logical bit and the code (R422). -/
def State.burnResult (s : State) (ok : Bool) (pulses word : Nat) : State :=
  let code := if ok then 1 else 7
  let t := ((s.put OTP_RESULT.CODE code).put OTP_RESULT.PULSES pulses).put OTP_RESULT.WORD word
  ((t.modOtp (fun o => { o with burn := none })).clear OTP_STAT.BUSY).fire 0x10A (word % 512 + code * 4096)

/-- Bits of a group a repair re-burns: the MARGINAL ones, and with gaps the BLANK ones below the counter's value (R423). -/
def State.repairBits (s : State) (g : Nat) (gaps : Bool) : BitVec 64 :=
  let val := if g < 4 then s.antirb - 64 * g else highest (s.groupBits g)
  let gap := BitVec.ofNat 64 (2 ^ min 64 val - 1) &&& ~~~s.groupBits g
  s.otp.ctrMarg.getD g 0 ||| (if gaps then gap else 0)

/-- OTP_BURN_VHV_DROP: VHV falls below 7.5 V; pulsing stops, and the burn ends with its verify reads (R422). -/
def execOtpBurnVhvDrop (s : State) : Res := done (s.clear OTP_STAT.VHVPGM)

end Sys2Proof.Machine
end

