-- ==== Sys2Proof/Machine/UpdLink.lean ====
section
/-!
DEFINITION. Where the chain meets the update engine (R462 to R466): asking for a relay start, the update frames, disarming, and what the leader checks
at an index.
-/

namespace Sys2Proof.Machine

def State.modUpd (s : State) (f : UpdSt → UpdSt) : State := { s with upd := f s.upd }

/-- Update states (R472). -/
def usIDLE : Nat := 0
def usRECEIVING : Nat := 1
def usSTAGED : Nat := 3
def usARMED : Nat := 4
def usBRACE : Nat := 5
def usTRIAL : Nat := 6
def usFALLBACK : Nat := 7

def State.updState (s : State) : Nat := s.get UPD_STAT.STATE
def State.setUpd (s : State) (x : Nat) : State := s.put UPD_STAT.STATE x

/-- UPD_RESULT takes a code with its DETAIL and block (R447). -/
def State.result (s : State) (code : Nat) (detail : Nat := 0) (block : Nat := 0) : State :=
  ((s.put UPD_RESULT.CODE code).put UPD_RESULT.DETAIL detail).put UPD_RESULT.BLOCK block

/-- Ask for a relay start: the preparation follows (R448). One that is asked for already stands. -/
def State.askRelay (s : State) (kind cause ev : Nat) (apply : Option Nat := none) : State :=
  if s.upd.relay.isSome then s
  else s.modUpd (fun u => { u with relay := some { kind := kind, cause := cause, ev := ev, apply := apply, started := none, rotated := false } })

/-- Frame types (R463). -/
def tyUPDPART : Nat := 0x10
def tyUPDSTAT : Nat := 0x11
def tyUPDACT : Nat := 0x12
def tyUPDBEGIN : Nat := 0x13

/-- Commands of UPDACT. -/
def actVERIFY : Nat := 1
def actACTIVATE : Nat := 2
def actABORT : Nat := 3
def actCONFIRM : Nat := 4
def actFALLBACK : Nat := 5

/-- The leader sends UPDACT (R463). -/
def State.sendAct (s : State) (cmd apply : Nat) : State :=
  match s.upd.chain with
  | none => s
  | some c => s.sendF tyUPDACT 0xFF [c.manid, cmd, apply] 3

/-- A member reports its status under a manifest. -/
def State.sendStatAs (s : State) (manid missing : Nat) : State :=
  s.sendF tyUPDSTAT 0xFE [manid, s.updState, s.get UPD_STAT.SSTATE, s.get UPD_RESULT.CODE, s.get UPD_RESULT.DETAIL, missing] s.toLeader

/-- A member reports its status (R463); missing is the offset of the first missing byte, or 0xFFFFFF. -/
def State.sendStat (s : State) (missing : Nat := 0xFFFFFF) : State :=
  if s.leading then s
  else match s.upd.chain with
  | none => s
  | some c => s.sendStatAs c.manid missing

/-- A device armed for a chain activation disarms (R464): nothing rotates. -/
def State.disarm (s : State) : State :=
  match s.upd.relay with
  | none => s
  | some r =>
    if r.apply.isSome ∧ r.started = none then
      let t := s.modUpd (fun u => { u with relay := none, chain := u.chain.map (fun c => { c with armed := false, apply := none }) })
      (t.setUpd usSTAGED).result 19
    else s

/-- The leader's ACTIVATE fails (R464): UPDACT ABORT, code 19. -/
def State.abortChain (s : State) : State := ((s.sendAct actABORT 0).disarm).result 19

/-- The members that the manifest addresses and that are in the chain have reported a state (by node). -/
def ChainUpd.all (c : ChainUpd) (nodes : List Nat) (st : Nat) : Bool :=
  nodes.all (fun k => c.reports.any (fun r => r.1 == k && r.2.1 == st))

/-- The nodes of the device table other than this device, as last found (R464). -/
def State.updNodes (s : State) : List Nat :=
  match s.upd.chain with
  | none => []
  | some c => c.reports.map Prod.fst

/-- Is ACTIVE in TRIAL (R456)? -/
def State.inTrial (s : State) : Bool := s.upd.dir.any (fun d => d.trial)

/-- What the leader checks at an index (R464 step 3, R465): every device, itself included, ARMED by APPLY − 8; every device in TRIAL by APPLY + 100. -/
def State.updIndex (s : State) : State :=
  match s.upd.chain with
  | none => s
  | some c =>
    match c.apply with
    | none => s
    | some a =>
      if !s.leading then s
      else
        let now := s.get JTL_IDXNUM.IDXNUM
        if (a + 2 ^ 32 - now) % 2 ^ 32 = 8 ∧ s.upd.relay.any (fun r => r.started.isNone) then
          if s.updState = usARMED ∧ c.all s.updNodes usARMED then s else s.abortChain
        else if (now + 2 ^ 32 - a) % 2 ^ 32 = 100 then
          if s.updState = usTRIAL ∧ c.all s.updNodes usTRIAL then s
          else (let t := s.sendAct actFALLBACK 0; if s.inTrial then t.askRelay 2 0x11 0x22 else t)
        else s

end Sys2Proof.Machine
end

