-- ==== Sys2Proof/Machine/BootOps.lean ====
section
/-!
DEFINITION. Supplies, resets and island loss as shared operations (R29, R34, R37, R44, R52 to R64, R125, R188, R298, R335, R379): recording a
cause, waking, feeds, losing and releasing islands, and the reset kinds.
-/

namespace Sys2Proof.Machine

def State.modBoot (s : State) (f : BootSt → BootSt) : State := { s with boot := f s.boot }
/-- The running image is another one. -/
def State.setRunning (s : State) (img : List Word) : State := { s with running := img }
def State.modTha (s : State) (f : ThaSt → ThaSt) : State := { s with tha := f s.tha }

/-! ### Causes (R56, R62, R64) -/

/-- The number of the device as a whole in a cause record. -/
def islDevice : Nat := 31

/-- Hold a cause in SOF_RESET_CAUSE, with its second (R64). -/
def State.holdCause (s : State) (code island : Nat) : State :=
  (((s.put SOF_RESET_CAUSE.CODE code).put SOF_RESET_CAUSE.ISLAND island).raise SOF_RESET_CAUSE.CLEAR).put SOF_RESET_TIME.TIME s.soffit.sec

/-- A later cause: it counts in MORE. Of two causes within 1 µs the lower code is held (R56); whether two causes of one millisecond tick are that close is
a free value (assumption log 112). -/
def State.moreCause (s : State) (code island : Nat) : State :=
  let t := s.satInc SOF_RESET_CAUSE.MORE
  if s.boot.causeAt = some s.now ∧ code < s.get SOF_RESET_CAUSE.CODE then
    match t.free with
    | (x, u) => if x.getLsbD 0 then u.holdCause code island else u
  else t

/-- Record a cause (R56, R64): the first one stands until it is cleared; each is written to the log. -/
def State.cause (s : State) (code island : Nat) : State :=
  let t := (s.put SOF_RESET_LAST.CODE code).put SOF_RESET_LAST.ISLAND island
  let t := if t.get SOF_RESET_CAUSE.CODE = 0 then (t.holdCause code island).modBoot (fun b => { b with causeAt := some s.now })
    else t.moreCause code island
  t.logFault 1 (code + island * 256)

/-! ### Supplies (R34, R37, R44) -/

/-- The Underlay's source (R34): 0 VDD, 1 VHV, 2 the service LDO. -/
def State.feedNow (s : State) : Nat := if s.bit GLB_SUPSTAT.VDDOK then 0 else if s.bit GLB_SUPSTAT.VHVOK then 1 else 2

/-- Follow the Underlay's source; a change fires E106. -/
def State.followFeed (s : State) : State :=
  if s.feedNow = s.get GLB_SUPSTAT.FEED then s else (s.put GLB_SUPSTAT.FEED s.feedNow).fire 0x106 s.feedNow

/-- May ports run on VHV: above UVLO and not barred by an over-voltage (R37, R44)? -/
def State.followVhv (s : State) : State := { s with soffit := { s.soffit with vhvOk := s.bit GLB_SUPSTAT.VHVOK && !s.boot.ovBar } }

/-- Do ports that the image enables wait for VHV (R44)? -/
def State.followWait (s : State) : State :=
  s.flag GLB_BOOTSTAT.VHVWAIT (s.get GLB_BOOTSTAT.LEVEL == 2 && !s.bit GLB_SUPSTAT.VHVOK && allPorts.any (fun n => s.ports[n].en && !s.ports[n].rom))

/-- Ports that waited for VHV begin their attach (R44). -/
def State.vhvReturn (s : State) : State :=
  (allPorts.foldl (fun t n => if t.ports[n].released then t.leaveDisabled n else t) s).followWait

/-- Without VHV, or with too much of it, every port with a contract or with its stage or Eave on goes to ErrorRecovery (R37, R44). -/
def State.vhvGone (s : State) : State :=
  (allPorts.foldl (fun t n => if t.hasContract n || t.stageOn n || t.eaveLive n then t.goErrRec n else t) s).followWait

/-- One port when VHV falls below UVLO (R44): with a contract, or with its stage or Eave on, it goes to ErrorRecovery; a source port that waits for an attach
takes its Rp away. GUT cannot be driven (R269). The service port of Level 1 runs on from the service LDO (R38). -/
def State.loseVhv (s : State) (n : Fin 16) : State :=
  if s.driveOk n then s
  else
    let s := if s.bit (PGT_STATUS.ON n) then s.setGut n false 0 else s
    if s.hasContract n || s.stageOn n || s.eaveLive n || (s.isSource n && s.cc n == ccAttachedSrc) then s.goErrRec n
    else if s.isSource n && (s.cc n == ccUnattachedSrc || s.cc n == ccAttachWaitSrc || s.cc n == ccUnattachedWaitSrc) then s.enterDisabled n
    else s

/-- VHV below UVLO (R44). -/
def State.vhvLow (s : State) : State := (allPorts.foldl State.loseVhv s).followWait

/-! ### Losing an island (R29) -/

/-- Uncommitted host writes with ops of port n end NOTREADY with the port as DETAIL, and those ops go (R377). -/
def State.failTxns (s : State) (n : Fin 16) : State :=
  let hit := s.host.txns.filter (fun t => s.ridge.window.any (fun o => o.txn == some t.id && o.port == n.val))
  let t := s.modRidge (fun r => { r with window := r.window.filter (fun o => o.port != n.val), waiting := r.waiting.filter (fun o => o.port != n.val) })
  hit.foldl (fun u x =>
    let v := u.modHost (fun hs => { hs with txns := hs.txns.filter (fun y => y.id != x.id) })
    (v.modRidge (fun r => { r with window := r.window.map (fun o => if o.txn = some x.id then { o with txn := none } else o) })).endTxn x.id x.hp stNOTREADY n.val 0) t

/-- What is cut off at once when a port island goes: legs, Eave and GUT (R489). -/
def State.portSafe (s : State) (n : Fin 16) : State :=
  let t := s.legsOff n
  let t := if t.eaveLive n then t.clear (PEV_STATUS.STATE n) else t
  t.setGut n false 0

/-- Port island n is lost: its ops are cancelled, its allocation returns, and its state goes, but for the latches that Soffit holds (R29, R125, R188). -/
def State.losePort (s : State) (n : Fin 16) : State :=
  let t := (((s.swLeave n).cancelPort n.val).failTxns n).allocToFloor n
  ((t.portSafe n).dropLegs n).unpower n

/-- Every transaction in progress ends without commit (R29). -/
def State.dropTxns (s : State) : State := s.modHost (fun hs => { hs with orders := [], txns := [], i2cPointer := none, canHeld := [] })

/-- What the cancelled tentative ops of a port had staged goes; the bank and the curve of a committed transition wait in its apply queue and stay (R168). -/
def State.dropStaging (s : State) (n : Fin 16) : State :=
  if s.ports[n].pd.trans.isSome then s
  else (s.modPort n (fun p => { p with shadow := none, armed := none })).clear (PLP_STATUS.SHADOW n)

/-- An open staging session ends with code 17 with Ridge (R471). The directory tells LOADING until Ridge writes it again. -/
def State.loseSession (s : State) : State :=
  let t := (s.modUpd (fun u => { u with sess := none, busy := false })).result 17
  (((t.setUpd usIDLE).put UPD_STAT.SSTATE 0).put UPD_STAT.OWNER 0).clear UPD_STAT.DEFER

/-- The Ridge is lost (R29, R188): window, holds and waiting ops go, the predictors are unqualified, the ports' fixed logic takes over, a session ends and a
chain arming fails (R471). -/
def State.loseRidge (s : State) : State :=
  let t := s.modRidge (fun _ => RidgeSt.reset)
  let t := allPorts.foldl (fun u n => (((u.wr (TRS_HOLD.at n) 0).endRun n).dropStaging n).enterBrace n) t
  let t := s.host.txns.foldl (fun u x => if x.opsLeft = 0 then u else u.endTxn x.id x.hp stBUSY 0 0) t
  let t : State := t.modHost (fun hs => { hs with txns := hs.txns.filter (fun x => x.opsLeft == 0) })
  let t := (if t.upd.sess.isSome then t.loseSession else t).disarm
  let t := if t.get THA_SRSTAT.PHASE = 1 ∨ t.get THA_SRSTAT.PHASE = 2 then
      (((t.modTha (fun h => { h with op := none })).clear THA_SRSTAT.PHASE).put THA_SRSTAT.RESULT 4).fire 0x113 else t
  ((t.maskBit GLB_ISLPWR.ISL islRidge false).maskBit GLB_ISLHALT.ISL islRidge false).raise RDG_STAT.OUTAGE

/-- The Batten island is lost (R29, R297): the queue, FIFOs and tallies go; the count of the entries lost is kept for E115. -/
def State.loseBatten (s : State) : State :=
  let lost := s.bat.queue.length
  let t := s.modBat (fun b => { BattenSt.reset with wire := b.wire, levels := b.levels, gpcTest := [], gpcSample := b.gpcSample, lossRun := lost })
  let t := (List.range 144).foldl (fun u k => u.wr (BAT_TALLY1.at k) 0) t
  (((t.wr BAT_IRQSTAT.at 0).clear BAT_STAT.TRSCUT).maskBit GLB_ISLPWR.ISL islBatten false).maskBit GLB_ISLHALT.ISL islBatten false

/-- The Host island goes without power: Soffit keeps the wake identifier and mask in force (R359). -/
def State.keepWake (s : State) : State :=
  if s.islandUp islHost then
    { s with soffit := { s.soffit with wake := if s.bit HST_CANCTL.WAKEEN then some (s.get HST_CANWAKE.WAKEID, s.get HST_CANWMASK.MASK) else none } }
  else s

/-- The ops of host transactions that have not committed go: their transactions end without commit (R29). -/
def State.dropHostOps (s : State) : State :=
  s.modRidge (fun r => { r with window := r.window.filter (fun o => o.txn.isNone), waiting := r.waiting.filter (fun o => o.txn.isNone) })

/-- What a host port keeps of a Host island that is lost: a port with a write in progress shows NOTREADY until the host-ready point (R377). -/
def State.lostPorts (s : State) : Vector HpSt 4 :=
  s.host.txns.foldl (fun (v : Vector HpSt 4) t => v.set t.hp.idx { HpSt.reset with status := statusWord stNOTREADY 0 0 }) HostSt.reset.ports

/-- The Host island is lost (R29, R379). -/
def State.loseHost (s : State) : State :=
  let s := s.keepWake.dropHostOps
  let t := { s with host := { HostSt.reset with addrPins := s.host.addrPins, ports := s.lostPorts } }
  ((t.dropRegs 0x8000 0x9000).maskBit GLB_ISLPWR.ISL islHost false).maskBit GLB_ISLHALT.ISL islHost false

/-- The Jotil island is lost (R29): peers see a chain break; the share freezes as on the loss of the way to the leader. -/
def State.loseJotil (s : State) : State :=
  let t := s.startFreeze false
  let t := ({ t with jtl := { JtlSt.reset with seq := t.jtl.seq, frz := t.jtl.frz, frzLead := t.jtl.frzLead } }).dropRegs 0x9010 0x9030
  (((t.wr JTL_STAT.at 0).leaveTick).maskBit GLB_ISLPWR.ISL islJotil false).maskBit GLB_ISLHALT.ISL islJotil false

/-! ### Power-on, cold and warm reset (R52, R62) -/

/-- Power-on: everything but the fuses, the external memories, the device's own free values and the waiting commands (R52). -/
def State.powerOn (s : State) : State :=
  let r := State.reset
  { r with
    freeCtr := s.freeCtr, pending := s.pending
    otp := { r.otp with fuses := s.otp.fuses, ctr := s.otp.ctr, ctrMarg := s.otp.ctrMarg }
    slate := { s.slate with buf := [], retry := none }
    upd := { r.upd with dir := s.upd.dir, slots := s.upd.slots } }

/-- The registers a cold or warm reset keeps (R52, R62, R407, R456): supplies, causes, wake logic, clock and metering; RECOVREQ and LEVEL1; at a warm reset also
the identity, the reference, GLB_BOOTCTL and the OTP block (assumption log 113). -/
def keptRegs (warm : Bool) (a : Nat) : Bool :=
  a == GLB_SUPSTAT.at || a == SOF_RESET_CAUSE.at || a == SOF_RESET_LAST.at || a == SOF_RESET_TIME.at || a == SOF_DBSTAT.at || a == SOF_WAKE_CFG.at ||
  a == SOF_WAKE_STAT.at || (decide (0x1100 ≤ a) && decide (a < 0x2000)) || (decide (0xB000 ≤ a) && decide (a < 0xC000)) || a == UPD_CONFTIME.at ||
  (warm && (decide (a < 0x20) || a == GLB_BOOTCTL.at || a == GLB_CLKSTAT.at || a == GLB_DCOFLG.at || (decide (0x2000 ≤ a) && decide (a < 0x3000))))

/-- A cold or warm reset of the device: every island but Soffit is reset; the ports, which go through ErrorRecovery, are left unpowered (R52). -/
def State.deviceReset (s : State) (warm : Bool) : State :=
  let s := s.keepWake
  let r := State.reset
  let t : State := { r with
    regs := s.regs.filter (fun p => keptRegs warm p.1), staged := s.staged.filter (fun p => keptRegs warm p.1)
    freeCtr := s.freeCtr, pending := s.pending, soffit := s.soffit, mtr := s.mtr, slate := s.slate, jtag := s.jtag
    otp := if warm then s.otp else { r.otp with fuses := s.otp.fuses, ctr := s.otp.ctr, ctrMarg := s.otp.ctrMarg }
    upd := { r.upd with dir := s.upd.dir, slots := s.upd.slots, confFull := s.upd.confFull }
    boot := { r.boot with
      inReset := some (if warm then 2 else 1), rd := if s.boot.thermal then [3, 3] else [1, 1], ovBar := s.boot.ovBar, thermal := s.boot.thermal
      xds := s.boot.xds, causeAt := s.boot.causeAt }
    bat := { r.bat with levels := s.bat.levels } }
  let t := (((t.put SOF_DBSTAT.SVCPORT 0).clear GLB_SUPSTAT.XSPI1S).clear GLB_CLKSTAT.SPRK).maskBit GLB_ISLPWR.ISL islSoffit true
  let t := (t.flag SOF_DBSTAT.DBRD0 (!s.boot.thermal)).flag SOF_DBSTAT.DBRD1 (!s.boot.thermal)
  if warm then t.put GLB_BOOTSTAT.STAGE 3 else t

/-- Port n of the state before a cold or warm reset goes through ErrorRecovery (R52): its Eave is open, Gutter discharges and CC is open; its island keeps its
power until then. The two latches are cleared by either reset (R125). -/
def State.recoverPort (before s : State) (n : Fin 16) : State :=
  if before.portUp n && before.cc n != ccDisabled then
    let x := before.errRec n
    let p := before.ports[n]
    let t := s.modPort n (fun _ => { PortSt.reset with
      released := true, en := p.en, role := p.role, topo := p.topo })
    let t := ((t.setCc n ccErrorRecovery).wr (PGT_STATUS.at n) (x.rd (PGT_STATUS.at n))).maskBit GLB_ISLPWR.ISL n.val true
    let t := t.modBoot (fun b => { b with recov := b.recov ++ [n.val] })
    if n.val < 2 ∧ ¬ s.boot.thermal then t.setRd n.val 0 else t
  else s

/-- The reset itself, with the ports on their way through ErrorRecovery. -/
def State.wholeReset (s : State) (warm : Bool) : State := allPorts.foldl (fun t n => s.recoverPort t n) (s.deviceReset warm)

/-- Do a cold or warm reset and record its cause; during an OTP burn it waits (R57). The request is kept as kind * 256 + code. -/
def State.resetDevice (s : State) (warm : Bool) (code : Nat) : State :=
  if s.otp.burn.isSome then s.modBoot (fun b => { b with waiting := b.waiting ++ [(if warm then 2 else 1) * 256 + code] })
  else (s.wholeReset warm).cause code islDevice

/-- The resets that waited for a burn happen when the burn has ended (R57): the one with the widest reach runs, and each leaves its cause (R56). -/
def State.resetNow (s : State) : State :=
  let ws := s.boot.waiting
  if ws.isEmpty || s.otp.burn.isSome then s
  else ws.foldl (fun t w => t.cause (w % 256) islDevice) ((s.modBoot (fun b => { b with waiting := [] })).wholeReset (ws.all (fun w => w / 256 == 2)))

/-- GLB_RESET with its KEY judged (R52, R448): 1 cold, 2 warm, 3 relay start, which takes the image that NEXTBOOT armed if there is one. -/
def State.resetCmd (s : State) (v : Word) : State :=
  let k := GLB_RESET.KIND.of v
  if k = 1 then s.resetDevice false 0x06
  else if k = 2 then s.resetDevice true 0x10
  else if k = 3 then s.askRelay (if s.bit UPD_STAT.NEXTBOOT then 1 else 0) 0x11 0
  else s

/-! ### Releasing islands (R45, R47, R49, R379) -/

/-- The grants until an image is loaded: defaults under the ceilings (R379). -/
def State.bootGrants (s : State) : State :=
  let c := s.rd HST_CEIL.at
  s.wr HST_AUTH.at (BitVec.ofNat 32 (((List.range 6).map (fun k => leastGrant k none c * 16 ^ k)).sum))

/-- The Host island is released: ADDR is sampled, the ports read OK, the CAN FD controller is off the bus (R349, R379). -/
def State.releaseHost (s : State) (addr : Nat) : State :=
  let t := { s with host := { HostSt.reset with addrPins := addr } }
  let t := ((t.put HST_I2CADDR.ADDR (0x20 + addr)).wr HST_CANID.at (BitVec.ofNat 32 (0x300 + 16 * addr))).loadCeil
  let rc := t.get GLB_CLKSTAT.REFSRC = 0
  let t := ((t.flag HST_STAT.CANRC rc).flag HST_CANSTAT.RCREF rc).put HST_CANSTAT.STATE 3
  t.maskBit GLB_ISLPWR.ISL islHost true

/-- Apply the latches that Soffit holds (R125). -/
def State.giveLatches (s : State) (n : Fin 16) : State :=
  (s.flag (PCC_STATUS.LATCHED n) s.ports[n].latched).flag (PCC_STATUS.VCONNLATCH n) s.ports[n].vconnLatched

/-- Release port island n with its image settings (R47 step 6, R125, R482): a port that is neither enabled nor lending stays unpowered. An input
warning that holds shows on it (R155). -/
def State.releasePort (s : State) (n : Fin 16) : State :=
  let rs := s.recs
  let ps := structOf rs n.val
  if !s.present n || (!ps.en && ps.lend == 0) then s
  else
    let t := (s.dropPortRegs n).modPort n (fun p => { PortSt.reset with latched := p.latched, vconnLatched := p.vconnLatched, released := true })
    let t := ((t.maskBit GLB_ISLPWR.ISL n.val true).setStruct n ps).loadPortRecs rs n
    let t := ((t.put (PPD_VDMCFG.VID n) t.otpVid).giveLatches n).startRole n
    ((t.put (PGT_STATUS.SAFE0 n) 1).flag (PPD_STATUS.INWARN n) (t.bat.levels.contains 0x107)).setP n 0

/-- The first Type-C state of a released port: Unattached unless it must stay down (R125, R44). The channels are checked once before it first presents
Rp (R280). -/
def State.firstState (s : State) (n : Fin 16) : State :=
  if !s.ports[n].released then s else ((if s.mustStayDown n then s.enterDisabled n else s.enterUnattached n)).startCheck n true

/-- A Level 1 service contract meets step 6 (R49): a service port takes over; a port that becomes a source stops, opens, and starts anew. -/
def State.promote (s : State) (n : Fin 16) : State :=
  let ps := structOf s.recs n.val
  if ps.en && ps.role == 1 then
    let sub := (s.pd n).sub
    let was := s.pstate n
    let t := s.modPort n (fun p => { p with rom := false, en := true, role := 1, topo := ps.topo, released := true })
    let t := (t.loadPortRecs t.recs n).put (PPD_VDMCFG.VID n) t.otpVid
    (if was = 20 then t.setP n sub else t).flag GLB_BOOTSTAT.SVCPROMO (s.hasContract n)
  else
    let t := (s.legsOff n)
    let t := if t.eaveLive n then t.eaveOpen n else t
    ((t.losePort n).releasePort n).firstState n

/-- The next island of step 6 (R47, R49). Port 0 or 1 that becomes a source gives up its Rd at release (R121), one that becomes a
sink has its active Rd (R106), one that the image does not enable keeps the depletion Rd. A port that an aborted hold left in ErrorRecovery only takes its new settings (R455). -/
def State.releaseNext (s : State) : State :=
  if h : s.boot.nextIsl < 16 then
    let n : Fin 16 := ⟨s.boot.nextIsl, h⟩
    let t := s.modBoot (fun b => { b with nextIsl := b.nextIsl + 1 })
    let t := if n.val < 2 then t.setRd n.val (if !(structOf s.recs n.val).en then 1 else if (structOf s.recs n.val).role = 1 then 3 else 0) else t
    if s.ports[n].rom && s.islandUp n.val then t.promote n
    else if s.boot.recov.contains n.val then
      let u := ((t.setStruct n (structOf t.recs n.val)).loadPortRecs t.recs n).giveLatches n
      (u.put (PPD_VDMCFG.VID n) u.otpVid).startRole n
    else if s.ports[n].released && s.islandUp n.val then (t.setStruct n (structOf t.recs n.val)).loadPortRecs t.recs n
    else (t.releasePort n).firstState n
  else s

/-- GLB_PORTGO.GO releases the port islands held at step 6 (R48). -/
def State.portGo (s : State) (v : Word) : State :=
  if GLB_PORTGO.GO.of v = 1 ∧ s.get GLB_BOOTSTAT.STAGE = 5 ∧ s.bit GLB_BOOTCTL.HOLDPORTS ∧ s.boot.nextIsl = 32 then s.modBoot (fun b => { b with nextIsl := 0 }) else s

/-- Every level-mode route takes up the present level of its source (R297). -/
def State.retakeLevels (s : State) : State :=
  s.bat.levels.foldl (fun u e => (u.routes e).foldl (fun v r =>
    if r.mode = 3 ∧ (r.dst < 32 ∨ r.dst = 81) then
      v.atDest r { island := sourceIsland e 0, src := e, kind := 0, data := 0, sec := v.soffit.sec, usec := v.soffit.usec } else v) u) s

/-- The reset of the Batten island ends: every level-mode route takes up the present level of its source, and E115 tells the loss (R297). -/
def State.returnBatten (s : State) : State :=
  (((s.modBat (fun b => { b with lossRun := 0 })).maskBit GLB_ISLPWR.ISL islBatten true).retakeLevels.fire 0x115 s.bat.lossRun).tellWarned

/-- The ledger from the ports' applied contracts (R185, R188): each port's floor or its contract's power, and no holds. -/
def State.refillTruss (s : State) : State :=
  allPorts.foldl (fun u n => (u.wr (TRS_HOLD.at n) 0).put (TRS_ALLOC.ALLOC n) (max (u.floorOf n) (u.pd n).contractPower)) s

/-- Truss is rebuilt (R185, R187): REBUILT and E11C, DATA 1 for a failed ledger check and 2 for a return of Ridge. -/
def State.rebuildTruss (s : State) (why : Nat) : State := (((s.refillTruss.raise TRS_STAT.REBUILT).fire 0x11C why).tallyPlain 129).resolveDeficit

/-- The Ridge is back (R185): Truss is rebuilt and the policy engines resume. Its memory leaves retention, so a full scrubber pass is due (R91). -/
def State.returnRidge (s : State) : State :=
  let t := (s.maskBit GLB_ISLPWR.ISL islRidge true).clear RDG_STAT.OUTAGE
  let t := [RDG_SLOTS.at, RDG_CNT0.at, RDG_CNT1.at].foldl (fun u a => u.wr a 0) t
  let t := (t.rebuildTruss 2).modTha (fun h => { h with passDue := true })
  allPorts.foldl (fun u n => u.leaveBrace n) t

end Sys2Proof.Machine
end

