-- ==== Sys2Proof/Machine/Meter.lean ====
section
/-!
DEFINITION. Time, energy and the Slate log: the meanings of the seconds boundary, the integration tick, the band schedule, demand intervals,
checkpoints, the ring, the restore and the queue drain (R382 to R407, R291).
-/

namespace Sys2Proof.Machine

/-! ### The clock -/

/-- The staged time takes effect at the seconds boundary (R384, R385, R391, R393): a TIME record, the alarm stepped past, the running interval closed with TSTEP,
pending scheduled ops dropped, a gap begun and the bands taken from the schedule. -/
def State.applyTime (s : State) : State :=
  match s.mtr.timeSet with
  | none => s
  | some (v, port) =>
    let old := s.soffit.sec
    let t := s.closeIv true
    let t := if t.bit SOF_ALARMCTL.EN && decide (old ≤ t.get SOF_ALARM.SEC) && decide (t.get SOF_ALARM.SEC < v) then t.raise SOF_ALARMCTL.SKIPPED else t
    let t := t.modMtr (fun m => { m with timeSet := none, ops := m.ops.filter (fun o => o.boundary.isNone) })
    let t := { t with soffit := { t.soffit with sec := v % 2 ^ 32, usec := 0 } }
    let last := match t.mtr.gap with
      | some g => if s.timeValid then t.mtr.lastCommit else g.last
      | none => t.mtr.lastCommit
    let t := if s.timeValid then t.beginGap last (some v) else t.modMtr (fun m => { m with gap := m.gap.map (fun g => { g with valid := some v }) })
    let t := ((t.clear SOF_TIME_STAT.PEND).raise SOF_TIME_STAT.VALID).log recTIME
      [BitVec.ofNat 32 old, 0, BitVec.ofNat 32 v, BitVec.ofNat 32 port]
    t.showMtr.rebandAll

/-- The alarm at a boundary (R385). -/
def State.alarm (s : State) : State :=
  if s.bit SOF_ALARMCTL.EN && s.soffit.sec == s.get SOF_ALARM.SEC then
    (((s.wake SOF_WAKE_STAT.RTCALM).raise SOF_ALARMCTL.FIRED).clear SOF_ALARMCTL.EN).fire 0x10B
  else s

/-- The settings that take effect at a seconds boundary (R409, R410). -/
def boundaryRegs : List Nat :=
  [SOF_RTCCFG.at, MTR_CFG.at, MTR_TZOFF.at] ++ (List.range 64).flatMap (fun j => [MTR_SCHED0.at j, MTR_SCHED1.at j])

/-- The peak takes the mean power of the second that ends (R392). -/
def State.endSecond (s : State) : State :=
  s.portsHere.foldl (fun t n => t.modMeter n (fun p => { p with peak := if s.bit MTR_STAT.IVRUN then max p.peak (mj p.secE / 1000) else p.peak, secE := 0 })) s

/-- The FRAM copy of the energy payload (R400). -/
def State.framCopy (s : State) (ty off : Nat) : State :=
  if s.bit MTR_SLSTAT.FRAM && s.slateOn then
    s.modSlate (fun l => { l with fram := some (l.seq, { ty := ty, payload := s.energyPayload off, sec := s.soffit.sec, usec := s.soffit.usec, tv := s.timeValid }) })
  else s

/-- SECOND_BOUNDARY (R385, R384, R393, R400, R432). -/
def execSecondBoundary (s : State) : Res :=
  let t := s.endSecond
  let t := { t with soffit := { t.soffit with sec := (t.soffit.sec + 1) % 2 ^ 32, usec := 0 } }
  let src := (cellGet t.staged SOF_RTCCFG.at).isSome
  let t := t.takeStagedAll boundaryRegs
  let t := (if src then t.put SOF_TIME_STAT.SRC (t.get SOF_RTCCFG.SRC) else t).showMtr
  let t := t.applyTime
  let t := t.put UPD_CONFTIME.SECS (t.get UPD_CONFTIME.SECS - 1)
  let t := if t.bit OTP_STAT.LOADED then t.satInc OTP_SCRUB.SINCE else t
  let t := (t.fire 0x135).alarm
  done (t.endGap.framCopy recENERGY 0)

/-- SOF_TIME_SET (R384). -/
def execSofTimeSet (hp : HostPort) (secs : BitVec 32) (s : State) : Res :=
  done (s.command hp SOF_TIME_SET.at secs (fun t => t.stageTime secs.toNat hp.num))

/-- RTC_CRYSTAL_FAIL (R406): the clock moves to the reference without a step; without effect while the crystal is not the source. -/
def execRtcCrystalFail (s : State) : Res :=
  if s.bit SOF_TIME_STAT.SRC then done (((s.clear SOF_TIME_STAT.SRC).raise SOF_TIME_STAT.X32FAIL).fire 0x105 1) else done s

/-! ### The tick -/

/-- INTEGRATION_TICK (R387 to R390): the ports' reports in 2^-16 mJ in port order, none for a port that sends none. -/
def execIntegrationTick (reports : List (Option Int)) (s : State) : Res :=
  let t := s.takeReports reports
  done { t with soffit := { t.soffit with usec := min 999999 (t.soffit.usec + 1000), uptime := t.soffit.uptime + 1000 } }

/-- HOUSEKEEPING_GAIN_SAMPLE (R389, R406): the gain correction of a port's products is renewed; its value is not stated. It is held when the converter is unavailable. -/
def execHousekeepingGainSample (n : Fin 16) (available : Bool) (s : State) : Res :=
  if available && s.present n then
    let (v, t) := s.free
    done (t.modMeter n (fun p => { p with gain := v }))
  else done s

/-! ### Bands and intervals -/

/-- SCHEDULE_ENTRY (R391, R392): 10 ms before a boundary the timers source enters the band op of each entry that acts there, in entry order, and the close of an
interval that ends there. -/
def execScheduleEntry (s : State) : Res :=
  let b := (s.soffit.sec + 1) % 2 ^ 32
  let op := fun (close : Bool) (arg : Nat) => { Op.mk0 portGlobal clsTIME srcTimers 2 arg with payload := bandPayload b close }
  let t := if s.timeValid && s.bit MTR_STAT.IVRUN && s.ivBoundary b then s.offer (op true 0) else s
  let t := if s.bit MTR_STAT.SCHEDON then
    (List.range 64).foldl (fun u j =>
      if s.schedHits j b then u.offer (op false (s.get (MTR_SCHED1.PORTMASK j) + s.get (MTR_SCHED0.BAND j) * 65536)) else u) t
    else t
  done t

/-- May an op act at the present tick boundary? -/
def State.opDue (s : State) (o : BandOp) : Bool :=
  match o.boundary with
  | none => true
  | some b => decide (b ≤ s.soffit.sec)

/-- An op that acts after its boundary (R405). -/
def State.markLate (s : State) (o : BandOp) : State :=
  match o.boundary with
  | some b => if s.tickStart = (b, 0) then s else s.raise MTR_STAT.LATEBAND
  | none => s

/-- The due close: the interval closes and the next one starts (R392, R394 step 1). -/
def State.closeDue (s : State) : State :=
  match s.mtr.ops.find? (fun o => o.close && s.opDue o) with
  | none => s
  | some o =>
    let t := s.modMtr (fun m => { m with ops := m.ops.filter (fun x => !(x.close && s.opDue x)) })
    if t.bit MTR_STAT.IVRUN then ((t.markLate o).closeIv false).openIv.put MTR_IVSTART.SEC (o.boundary.getD s.soffit.sec) else t

/-- The due band ops of one boundary: a port that several of them name takes the band of the last, the higher entry or the one committed later (R391, R405). -/
def State.takeBands (s : State) (os : List BandOp) : State :=
  os.zipIdx.foldl (fun u x =>
    let later := (os.drop (x.2 + 1)).foldl (fun m o => m ||| o.mask) 0
    (u.markLate x.1).switchBand (x.1.mask - (x.1.mask &&& later)) x.1.band) s

/-- BAND_SWITCH (R391, R394, R405): the due band ops act, after a due close. -/
def execBandSwitch (s : State) : Res :=
  let t := s.closeDue
  let due := t.mtr.ops.filter (fun o => !o.close && t.opDue o)
  let t := t.modMtr (fun m => { m with ops := m.ops.filter (fun x => x.close || !t.opDue x) })
  done (t.takeBands due)

/-- DEMAND_CLOSE (R392). -/
def execDemandClose (s : State) : Res := done s.closeDue

/-- A MTR_CMD word with a key, masks and bits. -/
def mtrWord (key : Byte) (bits : Nat) : Word := BitVec.ofNat 32 (key.toNat * 2 ^ 24 + bits)
def State.mtrCommand (s : State) (hp : HostPort) (v : Word) : Res := done (s.command hp MTR_CMD.at v (fun t => t.mtrCmd v))

/-- SETBAND (R391): the op acts at the next tick boundary. -/
def execSetband (hp : HostPort) (key : Byte) (mask : BitVec 16) (band : BitVec 3) (s : State) : Res :=
  s.mtrCommand hp (mtrWord key (mask.toNat + band.toNat * 2 ^ 16 + 2 ^ 19))
/-- CLRPEAK (R410). -/
def execClrpeak (hp : HostPort) (key : Byte) (mask : BitVec 16) (s : State) : Res := s.mtrCommand hp (mtrWord key (mask.toNat + 2 ^ 20))
/-- CKPT (R400). -/
def execCkpt (hp : HostPort) (key : Byte) (s : State) : Res := s.mtrCommand hp (mtrWord key (2 ^ 21))

/-- ENERGY_CHECKPOINT (R400). -/
def execEnergyCheckpoint (s : State) : Res := done s.logEnergy

/-! ### The log -/

/-- SLATE_RECORD_WRITE (R398): the oldest record held is programmed; without room it waits. Records are discarded while logging is disabled (R395). -/
def execSlateRecordWrite (s : State) : Res :=
  match s.slate.buf with
  | [] => done s
  | r :: rest =>
    if !s.bit MTR_SLSTAT.EN then done (s.modSlate (fun l => { l with buf := [] }))
    else if s.slateOn then
      match s.ringWrite r false with
      | some t => done (t.modSlate (fun l => { l with buf := rest }))
      | none => done s
    else done s

/-- The used sector that was opened first, beside the present one. -/
def oldestSector (l : SlateSt) : Option Sector :=
  l.sectors.foldl (fun (best : Option Sector) x =>
    match x.sseq with
    | none => best
    | some q =>
      if x.retired || l.cur.map Prod.fst == some x.num then best
      else match best with
        | none => some x
        | some b => if q < b.sseq.getD 0 then some x else best) none

/-- Erase a sector: its records go, its erases count, and at the wear limit it is retired with E13A (R397). -/
def State.eraseSector (s : State) (x : Sector) : State :=
  let e := x.erases + 1
  let out := decide (0 < s.slate.wear) && decide (s.slate.wear * 1000 ≤ e)
  let t := s.modSlate (fun l => { (l.putSector { num := x.num, sseq := none, erases := e, fmt := l.fmt, retired := out }) with
    ring := l.ring.filter (fun y => y.sector != x.num), retry := none })
  if out then t.showRing.fire 0x13A t.slate.retiredCount else t.showRing

/-- SECTOR_ERASE (R397): when only the reserve is left, the sector ahead is erased, after a fresh ENERGY record when it holds the newest energy state. -/
def execSectorErase (s : State) : Res :=
  if s.slateOn && decide (s.slate.erasedCount (s.get MTR_SLLEN.LEN) ≤ s.slate.rsv) then
    match oldestSector s.slate with
    | none => done s
    | some x =>
      match newestEnergy s.slate.ring with
      | some y =>
        if y.sector = x.num then
          let r : LogRec := { ty := recENERGY, payload := s.energyPayload 0, sec := s.soffit.sec, usec := s.soffit.usec, tv := s.timeValid }
          match s.ringWrite r true with
          | some t => done (t.energyTaken.eraseSector x)
          | none => done s
        else done (s.eraseSector x)
      | none => done (s.eraseSector x)
  else done s

/-- Retire a sector after an error that repeats (R406). -/
def State.retireSector (s : State) (k : Nat) : State :=
  let old := (s.slate.sector k).getD { num := k, sseq := none, erases := 0, fmt := s.slate.fmt, retired := false }
  let t := s.modSlate (fun l => { (l.putSector { old with retired := true }) with
    retry := none, cur := match l.cur with
      | some (c, o) => if c = k then some (c, 4096) else some (c, o)
      | none => none })
  (t.showRing.fire 0x139 k).logFault 4 k

/-- An energy of 48 bits from two payload words. -/
def eOf (lo hi : Word) : Nat := lo.toNat + hi.toNat % 65536 * 2 ^ 32

/-- Add a stored port entry to the port's deltas and take its active band (R404 steps 2 and 3). -/
def State.restorePort (s : State) (n : Fin 16) (w : List Word) : State :=
  let b := fieldOf (wordAt w 1) 18 16
  let pb := fieldOf (wordAt w 5) 18 16
  let add := fun (l : List Nat) (k e : Nat) => l.set k ((l.getD k 0 + e * 65536) % 2 ^ 64)
  (s.modMeter n (fun p => { p with
    etot := (p.etot + eOf (wordAt w 0) (wordAt w 1) * 65536) % 2 ^ 64
    bands := (let l := add p.bands b (eOf (wordAt w 2) (wordAt w 3)); if pb = b then l else add l pb (eOf (wordAt w 4) (wordAt w 5)))
    prevBand := pb, prevE := eOf (wordAt w 4) (wordAt w 5) * 65536 })).put (MTR_PSTAT.BAND n) b

/-- The energy state to restore: the FRAM copy when its check holds and it is newer, else the newest readable record (R404 step 1). -/
def State.restoreFrom (s : State) (bad : List (BitVec 32)) (framOk : Bool) : Option LogRec :=
  let rec? := newestEnergy (s.slate.ring.filter (fun x => !bad.any (fun b => b.toNat == x.sector * 4096 + x.off)))
  match s.slate.fram, rec? with
  | some (q, f), some x => if framOk && decide (0 < (q + 65536 - x.seq) % 65536) && decide ((q + 65536 - x.seq) % 65536 < 32768) then some f else some x.body
  | some (_, f), none => if framOk then some f else none
  | none, some x => some x.body
  | none, none => none

/-- The DEMAND record of an interval that a power loss cut (R393, R404 step 4): its peak is not stored, a free value. -/
def State.logShort (s : State) (w : List Word) : State :=
  let d := 60 * max 1 (fieldOf (wordAt w 1) 5 0)
  let (ps, t) := s.portsHere.zipIdx.foldl (fun (acc : List Word × State) x =>
    let (v, u) := acc.2.free
    let e := eOf (wordAt w (8 + 8 * x.2)) (wordAt w (9 + 8 * x.2))
    (acc.1 ++ eWords (e * 65536) 0 ++ [BitVec.ofNat 32 (e / (d * 1000) % 65536 + v.toNat % 65536 * 65536)], u)) ([], s)
  t.log recDEMAND ([wordAt w 0, BitVec.ofNat 32 (fieldOf (wordAt w 1) 5 0 + 2 ^ 8)] ++ ps)

/-- A FAULT record of KIND 5; what its data words hold is not stated (R399, R405). -/
def State.logRestore (s : State) : State :=
  let (a, s) := s.free
  let (b, s) := s.free
  let (c, s) := s.free
  s.log recFAULT [5, a.truncate 32, b.truncate 32, c.truncate 32]

/-- ENERGY_RESTORE (R404): once after a power-on. The operands say which records' checks fail, by byte offset, and whether the FRAM copy's check holds. -/
def execEnergyRestore (bad : List (BitVec 32)) (framOk : Bool) (s : State) : Res :=
  if s.bit MTR_SLSTAT.RESTORED || s.bit MTR_STAT.NORESTORE || !s.slateOn then done s
  else match s.restoreFrom bad framOk with
    | none => done (s.raise MTR_STAT.NORESTORE)
    | some r =>
      let t := s.portsHere.zipIdx.foldl (fun u x => u.restorePort x.1 ((r.payload.drop (2 + 8 * x.2)).take 8)) s
      let t := t.beginGap r.sec none
      let t := if fieldOf (wordAt r.payload 1) 18 18 = 1 then t.logShort r.payload else t
      done (t.logRestore.raise MTR_SLSTAT.RESTORED)

/-- SLATE_WINDOW_READ (R401): the low 6 bits of the offset do not count. -/
def execSlateWindowRead (hp : HostPort) (off : BitVec 32) (s : State) : Res :=
  done (s.command hp MTR_SLRDADDR.at off (fun t => t.slateWindow (off.toNat / 64 * 64)))

/-- The four words of a queue entry (R290). -/
def QEntry.words (x : QEntry) : List Word :=
  [BitVec.ofNat 32 (x.src % 512 + x.kind % 4 * 512 + x.data % 65536 * 65536), BitVec.ofNat 32 (x.usec % 2 ^ 20), BitVec.ofNat 32 x.sec,
   BitVec.ofNat 32 (x.seq % 65536 + x.lost % 65536 * 65536)]

/-- A block of at most 63 entries is written and its entries are freed (R291, R399). -/
def State.drainBlock (s : State) : State :=
  let es := s.bat.queue.take 63
  if es.isEmpty || !s.slateOn || !s.islandUp islBatten then s
  else match s.ringWrite { ty := recEVENT, payload := es.flatMap QEntry.words, sec := s.soffit.sec, usec := s.soffit.usec, tv := s.timeValid } false with
    | some t => t.freeEntries es.length
    | none => s

/-- QUEUE_DRAIN (R291). -/
def execQueueDrain (s : State) : Res := done s.drainBlock

/-! ### The last-gasp commit (R394, R402) -/

/-- The reports of a partial tick: an island that sent nothing in it has missed no tick (R390). -/
def partialReports (rs : List (Option Int)) : List (Option Int) := (List.range 16).map (fun k => some (((rs[k]?).getD none).getD 0))

/-- The commit: the partial tick closes, the DEMAND and TARIFF records of this tick that are not yet written go into the one record, FRAM is written first, and E138
fires. Without Ridge, or with logging disabled, no commit is written (R405). -/
def State.lastGasp (s : State) (off : Nat) (reports : List (Option Int)) : State :=
  let t := s.takeReports (partialReports reports)
  if !t.mtr.gaspArmed then t
  else
    let t := t.modMtr (fun m => { m with gaspArmed := false })
    if !t.slateOn then t
    else
      let st := t.tickStart
      let r : LogRec := { ty := recLASTGASP, payload := t.energyPayload off, sec := st.1, usec := st.2, tv := t.timeValid }
      let u := (t.framCopy recLASTGASP off).modSlate (fun l => { l with
        buf := l.buf.filter (fun x => !((x.ty == recTARIFF || x.ty == recDEMAND) && x.sec == st.1 && x.usec == st.2)) })
      match u.ringWrite r true with
      | some v => v.energyTaken.fire 0x138
      | none => t

end Sys2Proof.Machine
end

