-- ==== Sys2Proof/Machine/Pd.lean ====
section
/-!
DEFINITION. The meanings of the contract commands of a source port (R128 to R161): offers, acknowledgements, Requests, the
transition to PS_RDY, EPR mode, resets, data role, and the policy commands of the host. The sink side is in Sink, the other messages in PdMsg.
-/

namespace Sys2Proof.Machine

/-- Answer by the state group of R146. -/
def State.byGroup (s : State) (n : Fin 16) (startup neg ready brace snk dorm : State → State) : State :=
  match s.group n with
  | .startup => startup s
  | .neg => neg s
  | .ready => ready s
  | .brace => brace s
  | .snk => snk s
  | .dorm => dorm s
  | .none => s

/-- Acknowledged and logged only (code IG of R146). -/
def ig (s : State) : State := s
/-- The action * of R146. -/
def star (n : Fin 16) (s : State) : State := s.starAct n
/-- Soft_Reset is sent (code SR of R146). -/
def sr (n : Fin 16) (s : State) : State := s.softReset n
/-- Not_Supported is sent (code NS of R146). -/
def nsup (n : Fin 16) (s : State) : State := s.ns n

/-! ### First offer -/

/-- TFIRSTCAP_EXPIRE: tFIRSTCAP has elapsed; the offer goes out once no discovery message is out (R131 state 1). -/
def execTfirstcapExpire (n : Fin 16) (s : State) : Res :=
  if s.pstate n = 1 ∧ ¬ s.halted n.val then doneAll s ((s.modPd n (fun d => { d with capsDue := true })).afterDisc n) else done s

/-- TTYPEC_SEND_SOURCE_CAP: the capabilities are resent; at nCapsCount the port goes to NoPD (R131 state 3). -/
def execTtypecSendSourceCap (n : Fin 16) (s : State) : Res :=
  if s.pstate n = 3 ∧ ¬ (s.pd n).acked ∧ ¬ s.halted n.val then
    if 50 ≤ (s.pd n).caps then done1 n s (s.setP n 19) else doneAll s (s.sendOffer n)
  else done s

/-- A sink whose exchange got no answer sends Hard Reset; one that has entered state 18 more than nHardResetCount times without a PS_RDY sends no further one and
waits for capabilities at the implicit 5 V contract (R148, R149). -/
def State.sinkHard (s : State) (n : Fin 16) : State :=
  if 3 ≤ s.get (PPD_STATUS.HRCOUNT n) then (s.modPd n (fun d => { d with ams := none })).setSink n 14 else s.hardReset n

/-- TSENDER_RESPONSE: no answer. An offer without a Request, a Soft_Reset without its Accept and a sink's Request end in Hard Reset (R131,
R143, R148); another AMS of the port ends (R146). -/
def execTsenderResponse (n : Fin 16) (s : State) : Res :=
  let d := s.pd n
  if s.halted n.val then done s
  else if s.isService n ∧ (d.ams = some .softReset ∨ s.sink n = 15) then doneAll s (s.sinkHard n)
  else if (s.pstate n = 3 ∧ d.acked) ∨ d.ams = some .softReset then doneAll s (s.hardReset n)
  else if d.ams.isSome ∧ (s.pstate n = 6 ∨ s.pstate n = 11 ∨ s.isService n) then doneAll s (s.endAms n)
  else done s

/-! ### Acknowledgements (R129) -/

/-- Chunks of a message that carries k data objects as extended data (R129). -/
def chunksOf (k : Nat) : Nat := (4 * k + 25) / 26

/-- The data role changes, in headers and on DROLE (R144). -/
def State.swapRole (s : State) (n : Fin 16) : State := s.flag (PPD_STATUS.DROLE n) (!s.bit (PPD_STATUS.DROLE n))

/-- The answer to EPR_Mode (Enter), conditions in the order of R140. -/
def State.eprReason (s : State) (n : Fin 16) : Nat :=
  if fieldOf (s.policyHead n) 6 6 = 0 then 5
  else if !rdoEpr (s.rd (PPD_CONTRACT.at n)) then 3
  else if s.bit (PCC_CABLE.VCONNLOW n) then 2
  else if !(s.bit (PCC_CABLE.EPR n) && s.get (PCC_CABLE.VMAX n) == 1) then 1
  else if s.bit (PPD_STATUS.INWARN n) then 4
  else
    let nspr := fieldOf (s.policyHead n) 2 0
    if ((s.offerEntries n (s.offerEnv n 0)).drop nspr).any Option.isSome then 0 else 4

/-- Decide an EPR entry (R140): Enter Succeeded sets EPR mode, Enter Failed returns to Ready. -/
def State.eprDecide (s : State) (n : Fin 16) : State :=
  let r := s.eprReason n
  let t := s.modPd n (fun d => { d with eprWait := false })
  if r = 0 then (t.raise (PPD_STATUS.EPRMODE n)).send n .eprEnterOk
  else (t.send n .eprEnterFail [BitVec.ofNat 32 (4 * 2 ^ 24 + r * 2 ^ 16)]).enterReady n

/-- May one more SOP' attempt be made for an undiscovered cable (R140)? -/
def State.eprAttempt (s : State) (n : Fin 16) : Bool :=
  s.cc n == ccAttachedSrc && s.bit (PCC_CFG.DISCEN n) && s.bit (PCC_STATUS.VCONNON n) && s.get (PCC_CABLE.KIND n) == 0 && !(s.pd n).discovering

/-- What follows the GoodCRC of Alert: the AMS ends, and a source sends a reduced offer while the warning holds, or the full one after it (R156). -/
def State.afterAlert (s : State) (n : Fin 16) : State :=
  let t := s.endAms n
  if s.isService n then t
  else if s.bit (PPD_STATUS.INWARN n) then
    if s.bit (PPD_WARNCFG.REOFFER n) then (t.modPd n (fun d => { d with reduced := true })).wantOffer n else t
  else if (s.pd n).reduced then (t.modPd n (fun d => { d with reduced := false })).wantOffer n
  else t

/-- Does a control message of this type ask for an answer: Get_Source_Cap, Get_Sink_Cap, DR_Swap, PR_Swap, VCONN_Swap, and the types 17 to 24 (R146)? -/
def asksAnswer (ty : Nat) : Bool := (7 ≤ ty && ty ≤ 11) || (17 ≤ ty && ty ≤ 24)

/-- What follows the GoodCRC of a message of the port. -/
def State.afterGoodCrc (s : State) (n : Fin 16) (m : PdMsg) : State :=
  match m.name with
  | .sourceCap => s.modPd n (fun d => { d with acked := true })
  | .eprSourceCap =>
    let k := chunksOf m.objs.length
    match (s.pd n).chunkTx with
    | none => s.modPd n (fun d => if 1 < k then { d with chunkTx := some (1, k) } else { d with acked := true })
    | some (j, t) => s.modPd n (fun d => if j + 1 < t then { d with chunkTx := some (j + 1, t) } else { d with chunkTx := none, acked := true })
  | .accept => s.modPd n (fun d => { d with acked := true })
  | .acceptSoft =>
    if s.pstate n = 12 then s.sendCached n
    else if s.isService n then s.setSink n 14
    else s.sendOffer n
  | .acceptSwap => if s.pstate n = 11 then (s.swapRole n).enterReady n else s.swapRole n
  | .reject => if s.pstate n = 11 ∧ (s.pd n).ams ≠ some .drSwap then s.enterReady n else s
  | .alert => s.afterAlert n
  | .eprEnterAck =>
    if s.pstate n ≠ 7 then s
    else if (s.eprReason n = 1 ∨ s.eprReason n = 0) ∧ s.eprAttempt n then
      ((s.put (PCC_CABLE.ATTEMPTS n) (s.get (PCC_CABLE.ATTEMPTS n) + 1)).send n .discoverIdentity [] 1).modPd n (fun d => { d with discovering := true, eprWait := true })
    else s.eprDecide n
  | .eprEnterOk => s.sendOffer n
  | .eprExit => s.sendOffer n
  | .ordered k => if (s.pd n).ams = some (.ordered k) ∧ ¬ asksAnswer (k % 32) then s.endAms n else s
  | _ => s

/-- GOODCRC: the message in flight has been received; its MessageID counter goes on and what waited for the acknowledgement follows (R129). -/
def execGoodcrc (n : Fin 16) (s : State) : Res :=
  if s.halted n.val then done s
  else match (s.pd n).out with
    | [] => done s
    | m :: rest =>
      let t := s.modPd n (fun d => { d with out := rest, retries := 0, txId := d.txId.set m.sop ((d.txId.getD m.sop 0 + 1) % 8) })
      doneAll s (t.afterGoodCrc n m)

/-- A message that stays unacknowledged after nRetryCount retries. -/
def State.sendFailed (s : State) (n : Fin 16) (m : PdMsg) : State :=
  match m.name with
  | .psRdy => (s.hardReset n).tallyOut n tallyPDHR
  | .softReset => if s.isService n then s.sinkHard n else s.hardReset n
  | .discoverIdentity =>
    let t := s.modPd n (fun d => { d with discovering := false, missed := true })
    let t := if m.sop = 1 ∧ s.cc n = ccAttachedSrc ∧ 20 ≤ s.get (PCC_CABLE.ATTEMPTS n) ∧ s.get (PCC_CABLE.KIND n) = 0 then t.cableUnknown n else t
    if (t.pd n).eprWait then t.eprDecide n else t.afterDisc n
  | _ =>
    if s.pstate n = 3 then s.modPd n (fun d => { d with caps := d.caps + 1, acked := false, chunkTx := none })
    else if s.pstate n = 5 then s.hardReset n
    else if s.pstate n = 7 then (s.clear (PPD_STATUS.EPRMODE n)).enterReady n
    else if s.pstate n = 10 then s.sendOffer n
    else if (s.pd n).ams.isSome ∨ s.pstate n = 11 then s.endAms n
    else s

/-- TRECEIVE: no GoodCRC within tReceive: the message is retried nRetryCount times and then fails (R129, R131, R161). CapsCounter keeps its count when a port leaves
NoPD, so that one more failure takes it back there (R132; DESIGN CHOICE, assumption log 132). -/
def execTreceive (n : Fin 16) (s : State) : Res :=
  if s.halted n.val then done s
  else match (s.pd n).out with
    | [] => done s
    | m :: rest =>
      if (s.pd n).retries < 2 then done (s.modPd n (fun d => { d with retries := d.retries + 1 }))
      else
        let t := s.modPd n (fun d => { d with out := rest, retries := 0, txId := d.txId.set m.sop ((d.txId.getD m.sop 0 + 1) % 8) })
        let u := t.sendFailed n m
        doneAll s (if u.pstate n = 3 ∧ 50 ≤ (u.pd n).caps then u.setP n 19 else u)

/-- CRC_ERROR: dropped without GoodCRC and counted (R129). -/
def execCrcError (n : Fin 16) (s : State) : Res :=
  if s.listening n then done (s.satInc (PPD_COUNT.CRCERR n)) else done s

/-- CHUNK_REQUEST: the next chunk of the chunked message being sent is sent; one that matches none is ignored (R129). -/
def execChunkRequest (h : PdHead) (num : BitVec 4) (s : State) : Res :=
  received h s (fun t =>
    match (t.pd h.n).chunkTx with
    | some (k, _) => if num.toNat = k then t.send h.n .eprSourceCap (t.offerObjs h.n) else t
    | none => t)

/-- CHUNK_TIMEOUT: a chunking timer expires; the chunked exchange is abandoned (R147). An offer being sent counts as unanswered. -/
def execChunkTimeout (n : Fin 16) (s : State) : Res :=
  if s.halted n.val then done s
  else done (s.modPd n (fun d => { d with chunkTx := none, chunkRx := none, rxBuf := [] }))

/-! ### Requests (R136) -/

/-- PD_REQUEST: a Request is received (R136, R146, R173): MSG op and run-ahead, Wait under the fixed-logic responder. -/
def execPdRequest (h : PdHead) (rdo : Word) (s : State) : Res :=
  received h s (fun t => t.byGroup h.n
    (fun u => u.request h.n rdo 0 false) (star h.n) (fun u => u.request h.n rdo 0 false) (fun u => u.send h.n .wait) (sr h.n) (sr h.n))

/-- An EPR_Request outside BRACE and NEG: R136 in EPR mode, otherwise Soft_Reset. -/
def State.eprRequest (s : State) (n : Fin 16) (rdo pdo : Word) : State :=
  if s.bit (PPD_STATUS.EPRMODE n) then s.request n rdo pdo true else s.softReset n

/-- EPR_REQUEST: an EPR_Request is received (R136, R146). -/
def execEprRequest (h : PdHead) (rdo pdo : Word) (s : State) : Res :=
  received h s (fun t => t.byGroup h.n
    (fun u => u.eprRequest h.n rdo pdo) (star h.n) (fun u => u.eprRequest h.n rdo pdo) (fun u => u.send h.n .wait) (sr h.n) (sr h.n))

/-! ### Transition (R138) -/

/-- Take the committed SETP and LIM ops of a transition from the apply queue. -/
def State.takeTransition (s : State) (n : Fin 16) : Option (State × Op) :=
  let q := s.ports[n].applyQ
  match q.find? (fun o => o.cls == clsSETP) with
  | none => none
  | some o => some (s.modPort n (fun p => { p with applyQ := p.applyQ.filter (fun x => !(x.cls == clsSETP || x.cls == clsLIM)) }), o)

/-- Apply the committed setpoint and the armed curve (R138, R174, R232, R258): the shadow bank enters at the next update point, the
reference heads for the new voltage, and the new contract's curve joins the one in force. -/
def State.applyTransition (s : State) (n : Fin 16) (w : Transition) : State :=
  let b := match s.ports[n].shadow with
    | some b => b.words
    | none => s.bankRegs n w.loopIdx
  let t := (s.modPort n (fun p => { p with shadow := none, armed := none })).clear (PLP_STATUS.SHADOW n)
  let same := decide (t.get (PLP_STATUS.BANK n) = w.loopIdx)
  let t := t.modLoop n (fun l => { l with bankNext := if same then l.bankNext else some (w.loopIdx, b), ilim := w.ma })
  let t := t.setTarget n w.v10
  match t.selectCurve n w.fuseIdx w.ma with
  | (u, c) =>
    let v := ((u.modPort n (fun p => { p with eave := { p.eave with next := some c } })).wr (PEV_PEND.at n) 0).showCurve n
    v.modPd n (fun d => { d with trans := some { w with applied := true } })

/-- TSRC_TRANSITION: tSrcTransition after the GoodCRC of Accept has elapsed (R138). -/
def execTsrcTransition (n : Fin 16) (s : State) : Res :=
  if s.peff n = 5 ∧ (s.pd n).acked ∧ ¬ s.halted n.val then
    match (s.pd n).trans, s.takeTransition n with
    | some w, some (t, _) => if w.applied then done s else done1 n s (t.applyTransition n w)
    | _, _ => done s
  else done s

/-- The state after PS_RDY: Ready, kept behind state 12 while the fixed-logic responder is in charge (R131). -/
def State.afterPsRdy (s : State) (n : Fin 16) : State := if s.pstate n = 12 then s.setEff n 6 else s.enterReady n

/-- PS_RDY is sent: the new contract is in force (assumption log 24) with its curve alone (R258), a smaller contract lowers the allocation (R181), HRCOUNT restarts, Ready. -/
def State.psRdyOut (s : State) (n : Fin 16) : State :=
  let t := ((s.raise (PLP_STATUS.SETTLED n)).send n .psRdy).clear (PPD_STATUS.HRCOUNT n)
  let t := t.settleCurve n
  let t := match (t.pd n).trans with
    | some w => t.recordContract n w
    | none => t
  let t := if s.islandUp islRidge then (t.setAlloc n (max (t.floorOf n) (t.pd n).contractPower)).settleDeficit else t
  let t := t.modPd n (fun d => { d with trans := none, acked := false })
  t.afterPsRdy n

/-- Is a transition under way whose setpoint has been applied? -/
def State.ramping (s : State) (n : Fin 16) : Bool :=
  s.peff n == 5 && !s.halted n.val && (match (s.pd n).trans with
    | some w => w.applied
    | none => false)

/-- VBUS_SETTLED: VBUS_S has stayed within 2 % of the target for 1.0 ms; in a transition PS_RDY is sent (R138). -/
def execVbusSettled (n : Fin 16) (s : State) : Res :=
  if s.ramping n then doneAll s (s.psRdyOut n)
  else if s.get (PEV_STATUS.STATE n) = 3 ∧ ¬ s.bit (PLP_STATUS.RAMP n) ∧ ¬ s.halted n.val then done (s.raise (PLP_STATUS.SETTLED n)) else done s

/-- SETTLE_TIMEOUT: VBUS has not settled in time: Hard Reset and a count in the LOOP tally (R161), which at its threshold takes the port out (R245). -/
def execSettleTimeout (n : Fin 16) (s : State) : Res :=
  if s.ramping n then doneAll s ((s.hardReset n).tallyLoop n) else done s

/-- TPPS_TIMEOUT: no Request within tPPSTimeout in a PPS contract (R139). -/
def execTppsTimeout (n : Fin 16) (s : State) : Res :=
  if s.hasContract n && s.get (PPD_STATUS.KIND n) == 1 && s.pstate n != 12 && s.isSource n && !s.halted n.val then doneAll s (s.hardReset n) else done s

/-! ### EPR (R140, R141) -/

/-- EPR_MODE_ENTER: EPR_Mode (Enter) is acknowledged and decided (R140); a braced port answers Enter Failed 0x04 (R146). -/
def execEprModeEnter (h : PdHead) (s : State) : Res :=
  received h s (fun t => t.byGroup h.n (star h.n) (star h.n)
    (fun u => (u.setP h.n 7).send h.n .eprEnterAck) (fun u => u.send h.n .eprEnterFail [0x04040000]) (sr h.n) (sr h.n))

/-- EPR_Mode (Exit) received (R141): an SPR offer at 20 V or less, above it Hard Reset. -/
def State.eprExitIn (s : State) (n : Fin 16) : State :=
  if s.get (PPD_CONTRACTVI.V10 n) ≤ 2000 then (s.clear (PPD_STATUS.EPRMODE n)).sendOffer n else s.hardReset n

/-- EPR_Mode (Exit) under the fixed-logic responder: the cached SPR offer, or the fixed-logic Hard Reset (R146). -/
def State.eprExitBrace (s : State) (n : Fin 16) : State :=
  if s.get (PPD_CONTRACTVI.V10 n) ≤ 2000 then
    (s.clear (PPD_STATUS.EPRMODE n)).send n .sourceCap (((s.offerObjs n).take 7).filter (fun w => w != 0))
  else s.hardReset n

/-- EPR_MODE_EXIT: EPR_Mode (Exit) is received (R141, R146). -/
def execEprModeExit (h : PdHead) (s : State) : Res :=
  received h s (fun t => t.byGroup h.n (star h.n) (star h.n) (fun u => u.eprExitIn h.n) (fun u => u.eprExitBrace h.n) (sr h.n) (sr h.n))

/-- TSOURCE_EPR_KEEPALIVE: tSourceEPRKeepAlive expires; it is paused during an AMS (R141). -/
def execTsourceEprKeepalive (n : Fin 16) (s : State) : Res :=
  if s.pstate n = 6 ∧ s.bit (PPD_STATUS.EPRMODE n) ∧ ¬ s.amsBusy n ∧ ¬ s.halted n.val then doneAll s (s.hardReset n) else done s

/-- EPR_KEEPALIVE: answered EPR_KeepAlive_Ack in EPR mode (R146). -/
def execEprKeepalive (h : PdHead) (s : State) : Res :=
  received h s (fun t =>
    let epr := t.bit (PPD_STATUS.EPRMODE h.n)
    t.byGroup h.n (star h.n) (star h.n) (fun u => if epr then u.send h.n .eprKeepAliveAck else u.softReset h.n)
      (fun u => if epr then u.send h.n .eprKeepAliveAck else u) (sr h.n) (sr h.n))

/-! ### Resets (R142, R143) -/

/-- HARD_RESET: a Hard Reset signal is received (R142, R149). -/
def execHardReset (n : Fin 16) (s : State) : Res :=
  if s.portUp n && !s.halted n.val then doneAll s (s.hardReset n) else done s

/-- TPS_HARD_RESET: tPSHardReset elapses; the stage ramps VBUS to 0 V with Gutter's discharge and assist; the applied compensation is held until Eave opens or its tick
takes it down (R142, R233, R238, R264). -/
def execTpsHardReset (n : Fin 16) (s : State) : Res :=
  if s.peff n = 8 ∧ ¬ s.halted n.val then
    let t := (s.setTarget n 0).modLoop n (fun l => { l with hrRamp := true })
    done1 n s (((t.showRef n).discharge n).setEff n 9)
  else done s

/-- TSRC_RECOVER: tSrcRecover elapses; VBUS returns to vSafe5V by a ramp from 0 V, VCONN is applied and policy restarts in Startup, CapsCounter at 0 (R131, R142,
R233, R111). -/
def execTsrcRecover (n : Fin 16) (s : State) : Res :=
  if s.peff n = 9 ∧ ¬ s.halted n.val then
    let i := (s.entry n 0).loopIdx
    let b := s.bankRegs n i
    let t := ((s.setGut n false 0).legsArm n).modLoop n (fun l => { l with
        bank := b, bankNext := none, ref := 0, hrRamp := false, ilim := rpCurrent (s.rpLevel n), eV := [0, 0, 0], uV := [0, 0, 0], eI := [0, 0, 0], uI := [0, 0, 0],
        sampleNo := 0, blockSum := 0, blocks := [], frz := [] })
    let t := ((t.put (PLP_STATUS.BANK n) i).put (PLP_STATUS.MODE n) (bankMode b)).setTarget n 500
    let t := ((t.put (PCC_STATUS.RPOUT n) (t.rpLevel n)).vconnOn n).modPd n (fun d => { d with caps := 0, missed := false, capsDue := false })
    let t := if t.get (PEV_STATUS.STATE n) = 3 then t.seeVbus n false else t
    done1 n s ((t.implicitCurve n).setEff n 1)
  else done s

/-- Is a transition under way whose setpoint has not been applied? -/
def State.unapplied (s : State) (n : Fin 16) : Bool := (s.pd n).trans.any (fun w => !w.applied)

/-- Give up a transition whose setpoint has not been applied: its committed setpoint, bank and curve, and the power beyond the contract in force (R143). -/
def State.dropTransition (s : State) (n : Fin 16) : State :=
  let t := (s.modPort n (fun p => { p with
    applyQ := p.applyQ.filter (fun o => !(o.cls == clsSETP || o.cls == clsLIM)), shadow := none, armed := none })).clear (PLP_STATUS.SHADOW n)
  let t := (t.wr (PEV_PEND.at n) 0).modPd n (fun d => { d with trans := none })
  if t.islandUp islRidge then (t.setAlloc n (max (t.floorOf n) (t.pd n).contractPower)).settleDeficit else t

/-- Soft_Reset received: Accept, the protocol layer is reset, and the offer is resent (R143); a sink goes to Wait for
Capabilities; during tSrcTransition it is a Hard Reset (R160). The contract and VBUS stand, so a transition that has not begun is given up. -/
def State.softIn (s : State) (n : Fin 16) (id : BitVec 3) : State :=
  if s.pstate n = 5 ∧ (s.pd n).acked ∧ s.unapplied n then s.hardReset n
  else
    let t := if s.pstate n = 5 ∧ s.unapplied n then s.dropTransition n else s
    let t := (((t.satInc (PPD_COUNT.SOFT n)).protoReset n).keepId n 0 id).modPd n (fun d => { d with lastSoft := true })
    let u := t.send n .acceptSoft
    if s.pstate n = 12 ∨ s.isService n then u else u.setP n 10

/-- SOFT_RESET: Soft_Reset is received (R143, R146). One that repeats the MessageID of a Soft_Reset just received is the same message again (R129). -/
def execSoftReset (h : PdHead) (s : State) : Res :=
  if !s.listening h.n || ((s.pd h.n).lastSoft && s.repeated h.n 0 h.id) then done s
  else
    let t := s.takeHead h
    doneAll s (if t.pstate h.n = 19 then t.sendOffer h.n else t.softIn h.n h.id)

/-! ### Data role (R144) -/

/-- DR_Swap received in Ready or by a sink: Accept when DRACC = 1, else Reject; a source passes through state 11 (R131). -/
def State.drSwapIn (s : State) (n : Fin 16) : State :=
  (if s.isService n then s else s.setP n 11).send n (if s.bit (PPD_CFG.DRACC n) then .acceptSwap else .reject)

/-- DR_SWAP: DR_Swap is received (R144, R146). -/
def execDrSwap (h : PdHead) (s : State) : Res :=
  received h s (fun t => t.byGroup h.n (star h.n) (star h.n) (fun u => u.drSwapIn h.n) (fun u => u.send h.n .wait) (fun u => u.drSwapIn h.n)
    (fun u => u.send h.n .reject))

/-- DR_SWAP_RETRY: 100 ms after a Wait, at most three times (R144). -/
def execDrSwapRetry (n : Fin 16) (s : State) : Res :=
  if (s.pd n).held.contains 5 ∧ ¬ s.halted n.val then
    let t := s.modPd n (fun d => { d with held := d.held.filter (fun k => k != 5), drRetries := d.drRetries + 1 })
    done1 n s (if t.mayStart n then t.beginAms n .drSwap else t.hold n 3)
  else done s

/-! ### Policy commands of the host (R163) -/

/-- PPD_CMD.SENDCAPS in effect (R131, R160). -/
def State.cmdSendcaps (s : State) (n : Fin 16) : State :=
  if ¬ s.isSource n then s
  else if s.pstate n = 6 ∧ ¬ s.amsBusy n then s.beginAms n .sourceCap
  else if s.pstate n = 19 then s.sendOffer n
  else s.hold n 0

/-- PPD_CMD.SOFTRESET in effect: the protocol layer must be running (R163). From Ready it is an AMS of the port (R119): it comes before one that is pending, and cuts
short one that runs. Under the fixed-logic responder it waits for the policy engine. -/
def State.cmdSoftreset (s : State) (n : Fin 16) : State :=
  if !s.listening n then s
  else if s.pstate n = 12 then s.hold n 7
  else if s.pstate n = 6 ∧ ¬ s.amsBusy n then s.beginAms n .softReset
  else if s.pstate n = 6 ∧ (s.pd n).ams = none then s.modPd n (fun d => { d with held := amsMark .softReset :: d.held })
  else s.softReset n

/-- PPD_CMD.DRSWAP in effect (R144, R160). -/
def State.cmdDrswap (s : State) (n : Fin 16) : State :=
  let t := s.modPd n (fun d => { d with drRetries := 0 })
  if t.mayStart n then t.beginAms n .drSwap else t.hold n 3

/-- PPD_CMD.EPREXIT in effect (R141, R160). -/
def State.cmdEprexit (s : State) (n : Fin 16) : State :=
  if ¬ s.isSource n then s
  else if s.pstate n = 6 ∧ ¬ s.amsBusy n then (if s.bit (PPD_STATUS.EPRMODE n) then s.leaveEpr n else s)
  else s.hold n 4

/-- PPD_CMD.HARDRESET in effect (R142). -/
def State.cmdHardreset (s : State) (n : Fin 16) : State := s.hardReset n

/-- SENDCAPS: PPD_CMD.SENDCAPS. -/
def execSendcaps (hp : HostPort) (n : Fin 16) (s : State) : Res := doneAll s (s.command hp (PPD_CMD.at n) 1 (fun t => t.cmdSendcaps n))
/-- HARDRESET: PPD_CMD.HARDRESET. -/
def execHardreset (hp : HostPort) (n : Fin 16) (s : State) : Res := doneAll s (s.command hp (PPD_CMD.at n) 2 (fun t => t.cmdHardreset n))
/-- SOFTRESET: PPD_CMD.SOFTRESET. -/
def execSoftreset (hp : HostPort) (n : Fin 16) (s : State) : Res := doneAll s (s.command hp (PPD_CMD.at n) 4 (fun t => t.cmdSoftreset n))
/-- DRSWAP: PPD_CMD.DRSWAP. -/
def execDrswap (hp : HostPort) (n : Fin 16) (s : State) : Res := doneAll s (s.command hp (PPD_CMD.at n) 8 (fun t => t.cmdDrswap n))
/-- EPREXIT: PPD_CMD.EPREXIT. -/
def execEprexit (hp : HostPort) (n : Fin 16) (s : State) : Res := doneAll s (s.command hp (PPD_CMD.at n) 16 (fun t => t.cmdEprexit n))

/-! ### Input warning (R155, R156) -/

/-- The Alert of a trip or a release is due on a port with a contract, or, at Revision 2.0, the offer without it: one for each trip and one for each release (R156).
Under the fixed-logic responder a trip waits for its end, and a release before that leaves nothing to tell (R160). -/
def State.warnPort (s : State) (n : Fin 16) (on : Bool) : State :=
  if !s.portUp n then s
  else
    let t := s.flag (PPD_STATUS.INWARN n) on
    if !t.bit (PPD_WARNCFG.ALERTEN n) || !t.hasContract n then t
    else if t.pstate n = 12 ∧ on then t.modPd n (fun d => { d with braceWarn := true })
    else if t.pstate n = 12 ∧ (t.pd n).braceWarn then t.modPd n (fun d => { d with braceWarn := false })
    else if t.rev3 n then
      if t.mayStart n ∧ ¬ t.halted n.val then t.beginAms n .alert else t.modPd n (fun d => { d with alertDue := d.alertDue + 1 })
    else if !t.isSource n then t
    else if on && t.bit (PPD_WARNCFG.REOFFER n) then (t.modPd n (fun d => { d with reduced := true })).wantOffer n
    else if !on && (t.pd n).reduced then (t.modPd n (fun d => { d with reduced := false })).wantOffer n
    else t

/-- INWARN is driven low and every port takes the warning (R155); a second comparator changes nothing. -/
def State.inputWarning (s : State) : State :=
  if s.bat.levels.contains 0x107 then s else allPorts.foldl (fun t n => t.warnPort n true) (s.level 0x107 true 1)

/-- Does an assigned comparator still stand tripped? -/
def State.warnHeld (s : State) : Bool :=
  (List.range 8).any (fun k => (s.get GPC_STAT.OUT).testBit k && s.bit (GPC_CFG.INWARN k))

/-- INWARN is released (R155). -/
def State.inputWarningEnd (s : State) : State :=
  if s.bat.levels.contains 0x107 then allPorts.foldl (fun t n => t.warnPort n false) (s.level 0x107 false) else s

/-- INPUT_WARNING: an assigned comparator trips (R155). -/
def execInputWarning (s : State) : Res := doneAll s s.inputWarning

/-- INWARN_RELEASE: every assigned comparator has been clear for HOLD (R155). -/
def execInwarnRelease (s : State) : Res := if s.warnHeld then done s else doneAll s s.inputWarningEnd

end Sys2Proof.Machine
end

