-- ==== Sys2Proof/Machine/Sink.lean ====
section
/-!
DEFINITION. The sink policy of a service port (R43, R148 to R154) and the messages that end an AMS of the port: capabilities and the
Request they bring, Accept, Reject, Wait, PS_RDY, the Sink Hard Reset, and the reverse push.
-/

namespace Sys2Proof.Machine

/-! ### Selecting a Request (R43, R152) -/

/-- The choice of R152 over fixed PDOs: position, voltage in 10 mV, current in mA; pdo 1 is the start. -/
def sinkBest (caps : List Word) (imax vmin vreq : Nat) : Nat × Nat × Nat :=
  let first := caps.headD 0
  caps.zipIdx.foldl (fun (best : Nat × Nat × Nat) (p : Word × Nat) =>
    if p.1 = 0 ∨ pdoKind p.1 ≠ 0 then best
    else
      let v := pdoVmax p.1
      let i := min (pdoMa p.1) imax
      if vmin ≤ v ∧ v ≤ vreq ∧ best.2.1 * best.2.2 < v * i then (p.2 + 1, v, i) else best)
    (1, pdoVmax first, min (pdoMa first) imax)

/-- The Request a service port makes: position, voltage in 10 mV, current in mA, Capability Mismatch. At Level 1 and in Dormer it is PDO 1 at
the service limit (R43). -/
def State.sinkChoice (s : State) (n : Fin 16) (caps : List Word) : Nat × Nat × Nat × Bool :=
  if s.ports[n].rom then
    let p := caps.headD 0
    (1, pdoVmax p, min (pdoMa p) (s.svcIlim n.val), false)
  else
    let imax := s.get (PPD_SINKPOL0.IMAX n) * 10
    let vreq := s.get (PPD_SINKPOL0.VREQ n) * 10
    let b := sinkBest caps imax (s.get (PPD_SINKPOL0.VMIN n) * 10) vreq
    (b.1, b.2.1, b.2.2, !caps.any (fun p => pdoKind p == 0 && p != 0 && pdoVmax p == vreq && decide (imax ≤ pdoMa p)))

/-- The RDO of a fixed Request: operating and maximum current alike (R152). -/
def sinkRdo (pos ma : Nat) (mismatch : Bool) : Word :=
  BitVec.ofNat 32 (pos % 16 * 2 ^ 28 + b2n mismatch * 2 ^ 26 + ma / 10 % 1024 * 1024 + ma / 10 % 1024)

/-- Send the Request chosen: Select Capability (R148 state 15). -/
def State.sendRequest (s : State) (n : Fin 16) : State :=
  match (s.pd n).sinkWant with
  | none => s
  | some (pos, _, ma, mm) => ((s.modPd n (fun d => { d with ams := none })).send n .request [sinkRdo pos ma mm]).setSink n 15

/-- Capabilities received by a sink (R148, R152): kept in PPD_OFFER, and the Request goes out. -/
def State.sinkCaps (s : State) (n : Fin 16) (caps : List Word) : State :=
  let t := (List.range 11).foldl (fun u k => u.wr (PPD_OFFER.at n k) (caps.getD k 0)) s
  let c := t.sinkChoice n caps
  (t.modPd n (fun d => { d with sinkWant := some c })).sendRequest n

/-- The words of little-endian bytes. -/
def wordsOf : List Byte → List Word
  | a :: b :: c :: d :: rest => (d ++ c ++ b ++ a) :: wordsOf rest
  | _ => []

/-- A chunk of EPR_Source_Capabilities (R129): the first, or the one asked for, joins those before it; the next is asked for until the Data Size is reached, and the
whole message is then taken. Another chunk is acknowledged only. -/
def State.chunkIn (s : State) (n : Fin 16) (num size : Nat) (data : List Byte) : State :=
  if num ≠ 0 ∧ (s.pd n).chunkRx ≠ some num then s
  else
    let buf := (if num = 0 then [] else (s.pd n).rxBuf) ++ data
    if size ≤ buf.length then (s.modPd n (fun d => { d with chunkRx := none, rxBuf := [] })).sinkCaps n (wordsOf (buf.take size))
    else (s.modPd n (fun d => { d with chunkRx := some (num + 1), rxBuf := buf })).send n .chunkRequest [BitVec.ofNat 32 (num + 1)]

/-- Capabilities received by a sink, whole or by chunks. -/
def State.capsIn (s : State) (n : Fin 16) (c : CapsIn) : State :=
  match c with
  | .plain caps => s.sinkCaps n caps
  | .chunk num size data => s.chunkIn n num.toNat size.toNat data

/-- SOURCE_CAPABILITIES: Source_Capabilities or EPR_Source_Capabilities is received (R146, R152). -/
def execSourceCapabilities (h : PdHead) (caps : CapsIn) (s : State) : Res :=
  received h s (fun t => t.byGroup h.n (star h.n) (star h.n) (sr h.n) ig (fun u => u.capsIn h.n caps) (fun u => u.capsIn h.n caps))

/-! ### Reverse push (R43, R154) -/

/-- Byte [31:24] of a bank word at reset (R236). -/
def bankByte (n : Fin 16) (w : Nat) : Nat := (regReset (PLP_BANK.at n 0 w)).toNat / 2 ^ 24

/-- The REV bank of a service record with the fixed ROM current set (R414). -/
def State.svcBank (s : State) (n : Fin 16) : List Word :=
  let c := fun j hi lo => wideField (s.svcWord n.val j) hi lo
  let mk := fun (b k : Nat) => BitVec.ofNat 32 (b * 2 ^ 24 + k)
  [mk 7 (c 1 23 0), mk (c 4 26 24) (c 1 47 24), mk (bankByte n 2) (c 2 23 0), mk (bankByte n 3) (c 2 47 24),
   mk (bankByte n 4) (c 3 23 0), mk (bankByte n 5) (c 3 47 24), mk (bankByte n 6) (c 4 23 0), mk 20 0x10000, mk 40 0,
   mk (bankByte n 9) 0, mk (bankByte n 10) 0, mk (bankByte n 11) 0x400000, mk (bankByte n 12) 0, mk (bankByte n 13) 0]

/-- The bank a Level 2 reverse push runs: the first of MODE 3, else bank 0 read as MODE 3 (assumption log 21). -/
def State.revBank (s : State) (n : Fin 16) : Nat × List Word :=
  let k := ((List.range 16).find? (fun k => bankMode (s.bankRegs n k) == 3)).getD 0
  let b := s.bankRegs n k
  (k, b.set 0 (bankWord b 0 ||| 0x03000000))

/-- Start the reverse push when it is enabled (R43, R154): target of VIN_S in mV and share of the contract current. One that runs takes the limit of the new
contract. Without the supply of its drivers the stage does not start (R36, R37, R44). -/
def State.startPush (s : State) (n : Fin 16) : State :=
  let rom := s.ports[n].rom
  let tgt := if rom then s.svcRevtgt n.val else s.get (PPD_SINKPOL1.REVTGT n)
  let pct := if rom then 90 else s.get (PPD_SINKPOL1.REVPCT n)
  let on := if rom then s.svcReven n.val && !s.ports[n].pushBlocked else s.bit (PPD_SINKPOL0.REVPUSH n) && tgt != 0
  if !on || !s.driveOk n then s
  else if s.stageOn n then s.modLoop n (fun l => { l with ilim := s.get (PPD_CONTRACTVI.MA n) * pct / 100 })
  else
    let kb := if rom then (0, s.svcBank n) else s.revBank n
    let t := ((s.takeStaged (PLP_CFG.at n)).legsArm n).rateFlags n
    let v := t.get (PLP_VMEAS.VIN n) * tenMv
    let t := t.modLoop n (fun l => { l with
        bank := kb.2, bankNext := none, ref := v, rampFrom := v, target := tgt * mvUnit, ilim := t.get (PPD_CONTRACTVI.MA n) * pct / 100,
        eV := [0, 0, 0], uV := [0, 0, 0], eI := [0, 0, 0], uI := [0, 0, 0], sampleNo := 0, blockSum := 0, blocks := [], hrRamp := false, frz := [] })
    ((t.put (PLP_STATUS.BANK n) kb.1).put (PLP_STATUS.MODE n) 3).showRef n

/-- Eave closes in the sink direction (R253) with the curve of R258. -/
def State.sinkClose (s : State) (n : Fin 16) (ma : Nat) : State :=
  let t := if s.eaveLive n || !s.driveOk n then s else s.beginClose n 2
  if t.ports[n].rom then t.setCurve n (some (romCurve ma))
  else match t.selectCurve n 0 ma with
    | (u, c) => u.setCurve n (some c)

/-- PS_RDY received in Transition Sink (R148): the contract is recorded, Eave closes, the reverse push runs, and what was held for Sink Ready is performed (R160). -/
def State.sinkReady (s : State) (n : Fin 16) : State :=
  match (s.pd n).sinkWant with
  | none => s.setSink n 17
  | some (pos, v10, ma, mm) =>
    let w : Transition := { rdo := sinkRdo pos ma mm, pos := pos, kind := 0, v10 := v10, ma := ma, power := powerW v10 ma, fuseIdx := 0, loopIdx := 0, applied := true }
    ((((((s.recordContract n w).clear (PPD_STATUS.HRCOUNT n)).setSink n 17).sinkClose n ma)).startPush n).sinkGo n

/-- PS_RDY: ends Transition Sink (R146, R148). -/
def execPsRdy (h : PdHead) (s : State) : Res :=
  let act := fun (u : State) => if u.sink h.n = 16 then u.sinkReady h.n else u.softReset h.n
  received h s (fun t => t.byGroup h.n (star h.n) (star h.n) (sr h.n) ig act act)

/-- REVERSE_PUSH_STOP: VIN_S has stayed above the target plus 0.5 V for 10 ms (R43, R154). -/
def execReversePushStop (n : Fin 16) (s : State) : Res :=
  if s.isService n && s.stageOn n && s.get (PLP_STATUS.MODE n) == 3 && !s.halted n.val then done1 n s (s.legsOff n) else done s

/-! ### Answers that end the device's AMS (R146, R148) -/

/-- The device's AMS ends without an Accept. -/
def State.amsOver (s : State) (n : Fin 16) : State :=
  if s.isService n ∨ s.pstate n = 6 then s.endAms n
  else if s.pstate n = 10 ∨ s.pstate n = 11 then
    let t := s.modPd n (fun d => { d with ams := none })
    if t.hasContract n then t.enterReady n else t.sendOffer n
  else s.modPd n (fun d => { d with ams := none })

/-- Accept: the AMS it answers goes on. -/
def State.acceptIn (s : State) (n : Fin 16) : State :=
  let a := (s.pd n).ams
  if a = some .softReset then (if s.isService n then (s.modPd n (fun d => { d with ams := none })).setSink n 14 else s.sendOffer n)
  else if a = some .drSwap then (s.swapRole n).endAms n
  else if s.sink n = 15 then s.setSink n 16
  else s.amsOver n

/-- Does an answer end an AMS of the port here (R146)? -/
def State.awaits (s : State) (n : Fin 16) : Bool := (s.pd n).ams.isSome || s.sink n == 15

/-- A message that ends the device's AMS in READY, SNK and DORM, and is otherwise answered Soft_Reset. -/
def endsAms (n : Fin 16) (act : State → State) (u : State) : State := if u.awaits n then act u else u.softReset n

/-- ACCEPT: Accept is received. -/
def execAcceptMsg (h : PdHead) (s : State) : Res :=
  let act := fun (u : State) => u.acceptIn h.n
  received h s (fun t => t.byGroup h.n (star h.n) act (endsAms h.n act) ig (endsAms h.n act) (endsAms h.n act))

/-- Reject: a sink returns to Sink Ready with a contract, else to Wait for Capabilities (R148). -/
def State.rejectIn (s : State) (n : Fin 16) : State :=
  if s.sink n = 15 ∧ (s.pd n).ams = none then (s.setSink n (if s.hasContract n then 17 else 14)).sinkGo n else s.amsOver n

/-- REJECT: Reject is received. -/
def execRejectMsg (h : PdHead) (s : State) : Res :=
  let act := fun (u : State) => u.rejectIn h.n
  received h s (fun t => t.byGroup h.n (star h.n) act (endsAms h.n act) ig (endsAms h.n act) (endsAms h.n act))

/-- Wait: a sink repeats its Request after tSinkRequest (R148); a DR_Swap is retried, at most three times (R144). -/
def State.waitIn (s : State) (n : Fin 16) : State :=
  if s.sink n = 15 ∧ (s.pd n).ams = none then (s.hold n 6).setSink n (if s.hasContract n then 17 else 15)
  else if (s.pd n).ams = some .drSwap ∧ (s.pd n).drRetries < 3 then (s.hold n 5).amsOver n
  else s.amsOver n

/-- WAIT: Wait is received. -/
def execWaitMsg (h : PdHead) (s : State) : Res :=
  let act := fun (u : State) => u.waitIn h.n
  received h s (fun t => t.byGroup h.n (star h.n) act (endsAms h.n act) ig (endsAms h.n act) (endsAms h.n act))

/-! ### Timers (R148, R149) -/

/-- TSINK_WAIT_CAP: no capabilities: Hard Reset, until nHardResetCount is reached (R148 state 14). -/
def execTsinkWaitCap (n : Fin 16) (s : State) : Res :=
  if s.sink n = 14 ∧ s.get (PPD_STATUS.HRCOUNT n) < 2 ∧ ¬ s.halted n.val then done1 n s (s.hardReset n) else done s

/-- TSINK_REQUEST: tSinkRequest after a Wait: the Request is repeated (R148). -/
def execTsinkRequest (n : Fin 16) (s : State) : Res :=
  if (s.pd n).held.contains 6 ∧ ¬ s.halted n.val then
    let t := s.modPd n (fun d => { d with held := d.held.filter (fun k => k != 6) })
    done1 n s (if t.sink n = 15 ∨ t.sink n = 17 then t.sendRequest n else t)
  else done s

/-- TPS_TRANSITION: tPSTransition expires in Transition Sink (R148). -/
def execTpsTransition (n : Fin 16) (s : State) : Res :=
  if s.sink n = 16 ∧ ¬ s.halted n.val then done1 n s (s.sinkHard n) else done s

/-- Sink Hard Reset ends: Sink Startup and Wait for Capabilities under an implicit 5 V contract (R149). -/
def State.sinkRestart (s : State) (n : Fin 16) : State := (s.protoReset n).setSink n 14

/-- SINK_HR_VBUS_RETURN: VBUS_S has fallen below 0.8 V and returned to 4.0 V for 1 ms (R149). -/
def execSinkHrVbusReturn (n : Fin 16) (s : State) : Res :=
  if s.sink n = 18 ∧ ¬ s.halted n.val then done1 n s (s.sinkRestart n) else done s

/-- SINK_HR_VBUS_HELD: VBUS_S has not fallen below 0.8 V within 1.0 s and stands at or above 4.0 V (R149). -/
def execSinkHrVbusHeld (n : Fin 16) (s : State) : Res :=
  if s.sink n = 18 ∧ ¬ s.halted n.val then done1 n s (s.sinkRestart n) else done s

/-- TSNKHRWAIT: VBUS is not back; the port detaches to Unattached.SNK (R149). -/
def execTsnkhrwait (n : Fin 16) (s : State) : Res :=
  if s.sink n = 18 ∧ ¬ s.halted n.val then done1 n s (s.detach n) else done s

end Sys2Proof.Machine
end

