-- ==== Sys2Proof/Machine/Cc.lean ====
section
/-!
DEFINITION. The meanings of the attach commands (R98 to R127): classification of the CC pins, attach and detach, the load probe, cable
discovery and the ground-return bound, CC over-voltage, VCONN faults and the PCC command register.
-/

namespace Sys2Proof

/-- Code of a classification (PCC_STATUS.CC1CLS). -/
def CcClass.code : CcClass → Nat
  | .opened => 0 | .ra => 1 | .rdRp => 2 | .over => 3

namespace Machine

/-! ### Patterns on the CC pins -/

/-- Rd on exactly one pin and Open or Ra on the other (R104). -/
def State.oneRd (s : State) (n : Fin 16) : Bool := (s.cls1 n == 2 && decide (s.cls2 n < 2)) || (s.cls2 n == 2 && decide (s.cls1 n < 2))
/-- Both pins alike: an unsupported accessory (R105). -/
def State.accPattern (s : State) (n : Fin 16) : Bool := (s.cls1 n == 2 && s.cls2 n == 2) || (s.cls1 n == 1 && s.cls2 n == 1)
/-- Classification of the monitored pin. -/
def State.monClass (s : State) (n : Fin 16) : Nat := if s.bit (PCC_STATUS.ORIENT n) then s.cls2 n else s.cls1 n

/-- CC_CLASS_CHANGE: a classification is recognised on the pins (R102). Rd or Rp begins the attach wait with the attach-candidate event;
a changed pattern ends ACC; Rd lost stops the probe (R104, R106, R108). -/
def execCcClassChange (n : Fin 16) (c1 c2 : CcClass) (s : State) : Res :=
  if !s.portUp n || s.halted n.val then done s
  else
    let t := (s.put (PCC_STATUS.CC1CLS n) c1.code).put (PCC_STATUS.CC2CLS n) c2.code
    let t := if t.bit (PCC_STATUS.ACC n) && !t.accPattern n then t.clear (PCC_STATUS.ACC n) else t
    let t := if !t.someRd n then t.modPort n (fun p => { p with probing := false }) else t
    done1 n s (if t.cc n = ccUnattachedSrc ∨ t.cc n = ccUnattachedSnk then t.candidate n else t)

/-- The policy engine starts with a protocol layer that is reset (R131, R148); what the host has ordered for the next Ready stays held (R160). -/
def State.freshPd (s : State) (n : Fin 16) : State :=
  (s.modPd n (fun d => { PdSt.fresh with held := d.held.filter (fun k => decide (k < 5)) })).freshRev n

/-- The policy engine of a source port starts (R131, R130): Startup, protocol layer reset. -/
def State.pdStart (s : State) (n : Fin 16) : State :=
  let t := s.freshPd n
  (t.startRole n).setP n 1

/-- Entry to Attached.SRC (R104): orientation, VCONN, the attached event, the PD engine, and the stage-start op in the apply queue. The SW op of the
attach enters and commits within the command (R104). -/
def State.attachSrc (s : State) (n : Fin 16) : State :=
  let t := ((s.passOp.flag (PCC_STATUS.ORIENT n) (s.cls2 n == 2)).clear (PCC_STATUS.ACC n)).clear (PCC_STATUS.VBUSPRES n)
  let t := ((t.setCc n ccAttachedSrc).vconnOn n).wrapInc (PCC_COUNT.ATTACHES n)
  let t := (t.firePort n 6 2).pdStart n
  t.modPort n (fun p => { p with applyQ := p.applyQ ++ [Op.mk0 n.val clsSW srcPd 4 0] })

/-- tCCDebounce has expired with a pattern (R104): accessory, VBUS present, or attach. The SW op of the attach needs Ridge (R25). -/
def State.tryAttachSrc (s : State) (n : Fin 16) : State :=
  if s.accPattern n then s.raise (PCC_STATUS.ACC n)
  else if !s.oneRd n then s
  else if !s.bit (PGT_STATUS.SAFE0 n) then
    if s.bit (PCC_STATUS.VBUSPRES n) then s else (s.raise (PCC_STATUS.VBUSPRES n)).firePort n 7 2
  else if s.islandUp islRidge && !s.outage && s.soffit.vhvOk then s.attachSrc n
  else s

/-- ATTACHED_SRC: tCCDebounce expires in AttachWait.SRC; below says that VBUS_S is below vSafe0V (R104). -/
def execAttachedSrc (n : Fin 16) (below : Bool) (s : State) : Res :=
  if s.portUp n && !s.halted n.val && s.cc n == ccAttachWaitSrc then done1 n s ((s.seeVbus n below).tryAttachSrc n) else done s

/-- PD_DEBOUNCE_EXPIRE: no Rd, or Rp, on either pin for tPDDebounce in an attach wait (R104, R106). -/
def execPdDebounceExpire (n : Fin 16) (s : State) : Res :=
  if (s.cc n = ccAttachWaitSrc ∨ s.cc n = ccAttachWaitSnk) ∧ ¬ s.someRd n ∧ ¬ s.halted n.val then done1 n s (s.enterUnattached n) else done s

/-- LOAD_PROBE_START: 10 ms after entering AttachWait.SRC (R108): SKIPPED without PROBEEN, VBUSPRES at or above vSafe0V, else the probe runs. -/
def execLoadProbeStart (n : Fin 16) (below : Bool) (s : State) : Res :=
  if s.cc n = ccAttachWaitSrc ∧ ¬ s.halted n.val then
    let t := s.seeVbus n below
    if !t.bit (PCC_CFG.PROBEEN n) then done (t.wr (PCC_PROBE.at n) 6)
    else if !below then done (t.wr (PCC_PROBE.at n) 5)
    else done (t.modPort n (fun p => { p with probing := true }))
  else done s

/-- The record of a probe outcome (R109): time to 0.50 V in µs when reached, voltages at 2.5 ms and 5 ms in mV. -/
def probeRecord (reached : Bool) (t v25 v5 : Nat) : Word :=
  if reached then
    if t ≤ 100 then 1 else BitVec.ofNat 32 (2 + 20 * t / 1000 % 4096 * 65536)
  else if 20 ≤ v5 then BitVec.ofNat 32 (3 + 8 * b2n (decide (10 * v5 < 12 * v25)) + max 100 (min 2500 (50000 / v5)) * 65536)
  else BitVec.ofNat 32 (4 + 4095 * 65536)

/-- LOAD_PROBE_END: the probe stops at 0.50 V or at 5 ms; LOWZ is a probe fault and goes to ErrorRecovery (R109, R104, R124). -/
def execLoadProbeEnd (n : Fin 16) (reached : Bool) (t v25 v5 : Nat) (s : State) : Res :=
  if s.cc n = ccAttachWaitSrc ∧ s.ports[n].probing ∧ ¬ s.halted n.val then
    let u := (s.wr (PCC_PROBE.at n) (probeRecord reached t v25 v5)).modPort n (fun p => { p with probing := false })
    if u.get (PCC_PROBE.CODE n) = 4 then done1 n s (((u.firePort n 7 1).errRec n).tallyLatch n tallyPROBE) else done1 n s u
  else done s

/-- SRC_DISCONNECT: the monitored pin has been Open for tSRCDisconnect (R104). -/
def execSrcDisconnect (n : Fin 16) (s : State) : Res :=
  if s.cc n = ccAttachedSrc ∧ s.monClass n = 0 ∧ ¬ s.halted n.val then done1 n s (s.detach n) else done s

/-- ERROR_RECOVERY_EXIT: tErrorRecovery has elapsed (R104). -/
def execErrorRecoveryExit (n : Fin 16) (s : State) : Res :=
  if s.cc n = ccErrorRecovery ∧ ¬ s.halted n.val then done1 n s ((s.modPort n (fun p => { p with errElapsed := true })).leaveErrRec n) else done s

/-- UNATTACHED_WAIT_EXIT: tVCONNOFF has elapsed (R104). -/
def execUnattachedWaitExit (n : Fin 16) (s : State) : Res :=
  if s.cc n = ccUnattachedWaitSrc ∧ ¬ s.halted n.val then
    done1 n s (if s.mustStayDown n then s.enterDisabled n else s.enterUnattached n)
  else done s

/-- ATTACHED_SNK: tCCDebounce expires in AttachWait.SNK (R106); rp is the partner's level, vbus4 says VBUS stands at 4.0 V or more. -/
def execAttachedSnk (n : Fin 16) (rp : Fin 4) (vbus4 : Bool) (s : State) : Res :=
  if s.cc n = ccAttachWaitSnk ∧ ¬ s.halted n.val then
    if s.cls1 n = 2 ∧ s.cls2 n = 2 then done1 n s (s.raise (PCC_STATUS.ACC n))
    else if s.someRd n ∧ vbus4 then
      let t := ((s.flag (PCC_STATUS.ORIENT n) (s.cls2 n == 2)).clear (PCC_STATUS.ACC n)).put (PCC_STATUS.RPSEEN n) rp.val
      let t := (((t.seeVbus n false).setCc n ccAttachedSnk).wrapInc (PCC_COUNT.ATTACHES n)).firePort n 6 2
      let t := t.freshPd n
      done1 n s (((t.startRole n).setSink n 14).wake SOF_WAKE_STAT.SVC)
    else done s
  else done s

/-- The sink disconnect level in mV (R106, R153). -/
def State.sinkLevel (s : State) (n : Fin 16) : Nat :=
  if !s.hasContract n then 3670
  else
    let v := s.get (PPD_CONTRACTVI.V10 n)
    let w := match (s.pd n).sinkWant with
      | some (_, v10, _, _) => if s.sink n = 16 then min v v10 else v
      | none => v
    max 3670 (w * 75 / 10)

/-- SINK_VBUS_LOSS: VBUS_S in mV against the disconnect level; the test is suspended in Sink Hard Reset (R106, R149). -/
def execSinkVbusLoss (n : Fin 16) (mv : Nat) (s : State) : Res :=
  if s.cc n = ccAttachedSnk ∧ s.sink n ≠ 18 ∧ mv < s.sinkLevel n ∧ ¬ s.halted n.val then done1 n s (s.detach n) else done s

/-- SINK_RP_CHANGE: the partner's Rp has been stable for 15 ms at a new level, which may let the port begin an AMS (R106, R119). -/
def execSinkRpChange (n : Fin 16) (rp : Fin 4) (s : State) : Res :=
  if s.cc n = ccAttachedSnk ∧ ¬ s.halted n.val then doneAll s ((s.put (PCC_STATUS.RPSEEN n) rp.val).sinkGo n) else done s

/-- The port's share of a CC over-voltage (R123): isolation of Rp and Rd, VCONN open, Eave trip, ErrorRecovery and its tally. A halted island enters ErrorRecovery when
its clock resumes (R214). -/
def State.ccTrip (s : State) (n : Fin 16) (pin : Fin 2) : State :=
  let t := if pin.val = 0 then s.put (PCC_STATUS.CC1CLS n) 3 else s.put (PCC_STATUS.CC2CLS n) 3
  let t := ((t.level (portEvent n 5) true).satInc (PCC_COUNT.CCOV n)).modPort n (fun p => { p with ccOver := true })
  let t := (((t.clear (PCC_STATUS.RPOUT n)).vconnOff n).driveRd n false).eaveTrip n 2
  let t := if t.cc n = ccDisabled ∨ t.cc n = ccErrorRecovery then t
    else if t.halted n.val then t.modPort n (fun p => { p with faultPath := true, recPending := true })
    else (t.modPort n (fun p => { p with faultPath := true })).errRec n
  t.tallyLatch n tallyCCOV

/-- CC_OVERVOLTAGE: a CC pin exceeds 6.0 V, or, with on false, both pins are below it again, which lets a waiting ErrorRecovery exit (R123). -/
def execCcOvervoltage (n : Fin 16) (pin : Fin 2) (on : Bool) (s : State) : Res :=
  if !s.portUp n then done s
  else if on then done1 n s (s.ccTrip n pin)
  else
    let t := (s.level (portEvent n 5) false).modPort n (fun p => { p with ccOver := false })
    let t := if t.cls1 n = 3 then t.clear (PCC_STATUS.CC1CLS n) else t
    let t := if t.cls2 n = 3 then t.clear (PCC_STATUS.CC2CLS n) else t
    done1 n s (t.leaveErrRec n)

/-- Does the contract exceed the limits of an unknown cable, 20 V and 3 A (R115)? -/
def State.overUnknown (s : State) (n : Fin 16) : Bool :=
  s.hasContract n && (decide (2000 < s.get (PPD_CONTRACTVI.V10 n)) || decide (3000 < s.get (PPD_CONTRACTVI.MA n)))

/-- The cable has become unknown in a contract (R124, R141): Hard Reset above its limits, else EPR mode is left. -/
def State.afterCableLoss (s : State) (n : Fin 16) : State := if s.overUnknown n then s.hardReset n else s.eprLost n

/-- An EPR entry that waits for a SOP' attempt is decided (R140). -/
def State.eprResume (s : State) (n : Fin 16) : State := if (s.pd n).eprWait then s.eprDecide n else s

/-- No discovery message is out: what has waited for it, an EPR entry or the first offer, goes on (R140, R131). -/
def State.discOver (s : State) (n : Fin 16) : State := ((s.modPd n (fun d => { d with discovering := false })).eprResume n).afterDisc n

/-- VCONN_FAULT: current limit for tVCONNOCP or back-driven (R124). -/
def execVconnFault (n : Fin 16) (s : State) : Res :=
  if s.bit (PCC_STATUS.VCONNON n) ∧ ¬ s.halted n.val then
    let t := ((s.vconnOff n).firePort n 7 3).raise (PCC_VCONN.FAIL n)
    let t := ((t.satInc (PCC_COUNT.VCONNF n)).raise (PCC_CABLE.VCONNLOW n)).cableUnknown n
    let t := match t.tallyAdd (portTally n tallyVCONN) 1 with
      | (true, u) => (u.raise (PCC_STATUS.VCONNLATCH n)).modPort n (fun p => { p with vconnLatched := true })
      | (false, u) => u
    doneAll s ((t.discOver n).afterCableLoss n)
  else done s

/-! ### Cable discovery (R113 to R117) -/

/-- May a SOP' attempt be made: attached, VCONN on, discovery enabled and not ended, fewer than 20 attempts (R113)? -/
def State.mayDiscover (s : State) (n : Fin 16) : Bool :=
  s.cc n == ccAttachedSrc && s.bit (PCC_CFG.DISCEN n) && s.bit (PCC_STATUS.VCONNON n) && s.get (PCC_CABLE.KIND n) == 0 && !s.halted n.val

/-- One SOP' attempt. -/
def State.discover (s : State) (n : Fin 16) : State :=
  ((s.put (PCC_CABLE.ATTEMPTS n) (s.get (PCC_CABLE.ATTEMPTS n) + 1)).send n .discoverIdentity [] 1).modPd n (fun d => { d with discovering := true, missed := false })

/-- May discovery messages go out now: before the first Source_Capabilities, and in Ready after the first explicit contract (R113)? -/
def State.discTime (s : State) (n : Fin 16) : Bool := s.pstate n == 1 || (s.pstate n == 6 && s.hasContract n)

/-- Is a SOP'' attempt to be made: an active cable that has not answered, SOP'' enabled, fewer than two attempts (R114)? -/
def State.mayFar (s : State) (n : Fin 16) : Bool :=
  s.cc n == ccAttachedSrc && s.bit (PCC_CFG.SOPPEN n) && s.bit (PCC_STATUS.VCONNON n) && s.get (PCC_CABLE.KIND n) == 3 && !s.bit (PCC_CABLE.FAR n) &&
  decide ((s.pd n).farTries < 2) && !s.halted n.val

/-- One SOP'' attempt (R114). -/
def State.farAttempt (s : State) (n : Fin 16) : State :=
  (s.send n .discoverIdentity [] 2).modPd n (fun d => { d with farTries := d.farTries + 1, discovering := true, missed := false })

/-- DISCDLY_EXPIRE: DISCDLY after VCONN on, the first attempt (R113). -/
def execDiscdlyExpire (n : Fin 16) (s : State) : Res :=
  if s.mayDiscover n && s.get (PCC_CABLE.ATTEMPTS n) == 0 then done1 n s (s.discover n) else done s

/-- Is an attempt due at a retry timer: before the first offer the second one, 5 ms after a first that had no GoodCRC; in Ready after the first explicit contract one
each 45 ms (R113, R114)? `made` is how many have been made. -/
def State.retryDue (s : State) (n : Fin 16) (made : Nat) : Bool :=
  s.discTime n && (s.pstate n == 6 || (decide (made < 2) && ((s.pd n).missed || made == 0)))

/-- TDISCOVER_IDENTITY: a retry timer expires: another attempt over SOP', the 20th unanswered one making the cable unknown (R113), or over SOP'' (R114). Where none is
due an attempt that is out has gone unanswered. -/
def execTdiscoverIdentity (n : Fin 16) (s : State) : Res :=
  if s.halted n.val || s.cc n != ccAttachedSrc then done s
  else if s.mayDiscover n then
    if (s.pd n).eprWait then doneAll s (s.discOver n)
    else if 20 ≤ s.get (PCC_CABLE.ATTEMPTS n) then doneAll s ((s.cableUnknown n).discOver n)
    else if s.retryDue n (s.get (PCC_CABLE.ATTEMPTS n)) then done1 n s (s.discover n)
    else doneAll s (s.discOver n)
  else if s.mayFar n && s.retryDue n (s.pd n).farTries then done1 n s (s.farAttempt n)
  else doneAll s (s.discOver n)

/-- PCC_LENGTH of a latency code (R117): lengths in mm, resistance in µΩ, then rounded down to dm and mΩ. -/
def lengthRecord (code lpns rgpm rconn rated : Nat) : Word :=
  if code = 0 ∨ 7 < code then 0
  else
    let lmin := 50 * (code - 1) * lpns
    let lmax := 50 * code * lpns
    let rg := min (lmax * rgpm + rconn * 1000) (250000 / rated)
    BitVec.ofNat 32 (min 255 (lmin / 100) + min 255 (lmax / 100) * 256 + rg / 1000 * 65536 + 2 ^ 24)

/-- The cable record of a SOP' ACK (R115, R112, R117). -/
def State.cableRecord (s : State) (n : Fin 16) (idHdr vdo : Word) : State :=
  let t := ((s.wr (PCC_IDHDR.at n) idHdr).wr (PCC_CABLEVDO.at n) vdo).modPd n (fun d => { d with discovering := false })
  let kind := fieldOf idHdr 29 27
  let cur := fieldOf vdo 6 5
  if kind ≠ 3 ∧ kind ≠ 4 then t.cableUnknown n
  else if cur = 0 ∨ cur = 3 then (t.raise (PCC_CABLE.INVALID n)).cableUnknown n
  else if kind = 4 ∧ 16 < (t.vconnRoom n (3 - vconnHalf (t.get (PCC_VCONN.RES n)))).vconnUsed + (3 - vconnHalf (t.get (PCC_VCONN.RES n))) then t.vconnRefuse n
  else
    let t := if kind = 4 then (t.vconnRoom n (3 - vconnHalf (t.get (PCC_VCONN.RES n)))).vconnReserve n 2 else t
    let t := (t.put (PCC_CABLE.KIND n) (if kind = 3 then 2 else 3)).put (PCC_CABLE.IMAX n) cur
    let t := (t.flag (PCC_CABLE.VMAX n) (fieldOf vdo 10 9 == 3)).flag (PCC_CABLE.EPR n) (fieldOf vdo 17 17 == 1)
    let t := t.takeStaged (PCC_CABLECFG.at n)
    t.wr (PCC_LENGTH.at n) (lengthRecord (fieldOf vdo 16 13) (t.get (PCC_CABLECFG.LPNS n)) (t.get (PCC_CABLECFG.RGPM n))
      (t.get (PCC_CABLECFG.RCONN n)) (if cur = 2 then 5 else 3))

/-- Does the cable raise capability above the unknown cable (R116)? An IMAX of 1 is the 3 A that the unknown cable is treated as: it raises nothing (DESIGN CHOICE,
assumption log 131). -/
def State.cableRaises (s : State) (n : Fin 16) : Bool :=
  s.get (PCC_CABLE.IMAX n) == 2 || s.get (PCC_CABLE.VMAX n) == 1 || s.bit (PCC_CABLE.EPR n)

/-- The SOP' answer has completed discovery: an active cable is asked over SOP'' where the time allows (R114), an EPR entry that waited is decided (R140), and capability
raised after the first Source_Capabilities brings a fresh offer, unless the entry succeeded, which brings one itself (R116). -/
def State.discovered (s : State) (n : Fin 16) : State :=
  let u := if s.mayFar n && s.discTime n then s.farAttempt n else s.afterDisc n
  let v := u.eprResume n
  if s.pstate n ≠ 1 ∧ s.cableRaises n ∧ (v.bit (PPD_STATUS.EPRMODE n) = s.bit (PPD_STATUS.EPRMODE n)) then v.wantOffer n else v

/-- CABLE_ACK: the SOP' ACK with its MessageID, ID Header and Cable VDO (R115 to R117). -/
def execCableAck (h : CableHead) (idHdr vdo : Word) (s : State) : Res :=
  if s.mayDiscover h.n && !s.repeated h.n 1 h.id then doneAll s (((s.keepId h.n 1 h.id).cableRecord h.n idHdr vdo).discovered h.n) else done s

/-- CABLE_NAK: a NAK with its MessageID, or, without one, the end of the 20th unanswered attempt, makes the cable unknown (R113). -/
def execCableNak (h : CableMiss) (s : State) : Res :=
  if !s.mayDiscover h.n then done s
  else match h.id with
    | some k => if s.repeated h.n 1 k then done s else doneAll s (((s.keepId h.n 1 k).cableUnknown h.n).discOver h.n)
    | none => if 20 ≤ s.get (PCC_CABLE.ATTEMPTS h.n) then doneAll s ((s.cableUnknown h.n).discOver h.n) else done s

/-- FAR_ACK: the SOP'' answer of an active cable is stored; it changes no capability (R114). -/
def execFarAck (h : CableHead) (vdo : Word) (s : State) : Res :=
  if s.cc h.n = ccAttachedSrc ∧ s.get (PCC_CABLE.KIND h.n) = 3 ∧ 0 < (s.pd h.n).farTries ∧ ¬ s.halted h.n.val ∧ ¬ s.repeated h.n 2 h.id then
    doneAll s ((((s.keepId h.n 2 h.id).wr (PCC_FARVDO.at h.n) vdo).raise (PCC_CABLE.FAR h.n)).discOver h.n)
  else done s

/-- CCREF_CAPTURE: below 50 mA for 1 ms in Attached.SRC the level of the monitored pin is captured (R118). -/
def execCcrefCapture (n : Fin 16) (lvl : BitVec 16) (s : State) : Res :=
  if s.cc n = ccAttachedSrc ∧ s.get (PEV_STATUS.STATE n) = 3 ∧ ¬ s.halted n.val then
    done (((s.put (PCC_CCREF.LEVEL n) lvl.toNat).put (PCC_CCREF.RPLVL n) (s.get (PCC_STATUS.RPOUT n))).raise (PCC_CCREF.VALID n))
  else done s

/-- TSINKTX_EXPIRE: tSinkTx after SinkTxNG has elapsed; the first message of the pending AMS leaves (R119). -/
def execTsinktxExpire (n : Fin 16) (s : State) : Res :=
  if s.pstate n = 6 ∧ ¬ s.halted n.val then
    match (s.pd n).held.findSome? (fun k => (amsOf k).map (fun m => (k, m))) with
    | none => done s
    | some (k, m) => doneAll s ((s.modPd n (fun d => { d with held := d.held.filter (fun x => x != k) })).amsFirst n m)
  else done s

/-! ### Commands (R127) -/

/-- PCC_CTRL.DISABLE written (R104, R122). -/
def State.setDisable (s : State) (n : Fin 16) (d : Bool) : State :=
  let t := s.flag (PCC_CTRL.DISABLE n) d
  if !t.portUp n then t
  else if d then
    if t.cc n = ccAttachedSrc ∨ t.cc n = ccAttachedSnk then t.errRec n
    else if t.cc n = ccErrorRecovery then t else t.enterDisabled n
  else t.leaveDisabled n

/-- PCC_DISABLE: a write of PCC_CTRL. -/
def execPccDisable (hp : HostPort) (n : Fin 16) (d : Bool) (s : State) : Res :=
  doneAll s (s.command hp (PCC_CTRL.at n) (BitVec.ofNat 32 (b2n d)) (fun t => t.setDisable n d))

/-- REDISC in effect, with its status: BUSY and ignored while discovery runs, until the cable is known or unknown, or outside Attached.SRC (R122). The
first attempt goes out when R113 gives it time. -/
def State.redisc (s : State) (n : Fin 16) : State × Nat :=
  if s.cc n = ccAttachedSrc ∧ ¬ (s.pd n).discovering ∧ ¬ s.mayDiscover n then
    let t := ((s.clearCable n).flag (PCC_CABLE.VCONNLOW n) (s.bit (PCC_CABLE.VCONNLOW n))).modPd n (fun d => { d with farTries := 0 })
    (if !t.mayDiscover n then t.put (PCC_CABLE.KIND n) 1 else if t.discTime n then t.discover n else t, stOK)
  else (s, stBUSY)

/-- REDISC: PCC_CMD.REDISC. -/
def execRedisc (hp : HostPort) (n : Fin 16) (s : State) : Res :=
  doneAll s (s.commandSt hp (PCC_CMD.at n) 4 (fun t => t.redisc n))

/-- CLRLATCH: PCC_CMD.CLRLATCH (R124). -/
def execClrlatch (hp : HostPort) (n : Fin 16) (s : State) : Res :=
  doneAll s (s.command hp (PCC_CMD.at n) 2 (fun t => t.clrLatch n))

/-- ERRREC: PCC_CMD.ERRREC (R104). -/
def execErrrec (hp : HostPort) (n : Fin 16) (s : State) : Res :=
  doneAll s (s.command hp (PCC_CMD.at n) 1 (fun t => t.goErrRec n))

/-- VBUS_BELOW_VSAFE0V: VBUS_S falls below vSafe0V: SAFE0 reads 1 (R264), an attach that found VBUS present is judged again, a waiting
ErrorRecovery exits, and in a Hard Reset the legs are disabled (R104, R233). -/
def execVbusBelowVsafe0v (n : Fin 16) (s : State) : Res :=
  if !s.portUp n || s.halted n.val then done s
  else
    let t := s.seeVbus n true
    if t.cc n = ccAttachWaitSrc ∧ t.bit (PCC_STATUS.VBUSPRES n) then done1 n s ((t.clear (PCC_STATUS.VBUSPRES n)).tryAttachSrc n)
    else if t.peff n = 9 then done1 n s (t.legsOff n)
    else done1 n s (t.leaveErrRec n)

end Machine

end Sys2Proof
end

