-- ==== Sys2Proof/Machine/Valley.lean ====
section
/-!
DEFINITION. The meanings of the Valley and Batten commands (R274 to R302): thresholds, channel crossings with their hard routes,
self-checks, the delivery of a logged edge, tally bins, and the commands of BAT_CMD.
-/

namespace Sys2Proof.Machine

/-! ### Thresholds (R275) -/

/-- Highest and lowest reference of the window in voltage units (R275). -/
def State.windowRef (s : State) (n : Fin 16) : Nat × Nat :=
  let five := 500 * tenMv
  if s.isService n then
    (if s.ports[n].rom || !s.hasContract n then (five, five) else (s.get (PPD_CONTRACTVI.V10 n) * tenMv, s.get (PPD_CONTRACTVI.V10 n) * tenMv))
  else if !s.hasContract n then (five, five)
  else
    let l := s.ports[n].loop
    if s.bit (PLP_STATUS.RAMP n) then (max l.rampFrom l.goal, min l.rampFrom l.goal) else (l.ref, l.ref)

/-- The OV code, in 60 mV rounded up (R275). -/
def ovCode (vh pct mn abs : Nat) : Nat :=
  let u := 60 * mvUnit
  min ((max (vh * (256 + pct)) ((vh + mn * 50 * mvUnit) * 256) + 256 * u - 1) / (256 * u)) abs

/-- The UV code, in 60 mV rounded down (R275). -/
def uvCode (vl pct mn : Nat) : Nat := min (vl * (256 - pct)) ((vl - mn * 50 * mvUnit) * 256) / (256 * 60 * mvUnit)

/-- The PVL configuration registers. -/
def pvlStaged (n : Fin 16) : List Nat := [PVL_OVCFG.at n, PVL_UVCFG.at n, PVL_FICFG.at n, PVL_SWCFG.at n, PVL_FILT.at n, PVL_STCFG.at n]

/-- The FI threshold, in 1/128 of 0.25 mV: FASTMV of the curve in force, the higher one during a transition, times FIPCT (R276). -/
def State.fiThreshold (s : State) (n : Fin 16) : Nat := s.ports[n].eave.fastmv * s.get (PVL_FICFG.FIPCT n) * 4

/-- Staged PVL values enter and the window of a port follows the reference in force (R275, R276, R300). -/
def State.setWindow (s : State) (n : Fin 16) : State :=
  let t := s.takeStagedAll (pvlStaged n)
  match t.windowRef n with
  | (vh, vl) =>
    (t.put (PVL_THR.OV n) (ovCode vh (t.get (PVL_OVCFG.OVPCT n)) (t.get (PVL_OVCFG.OVMIN n)) (t.get (PVL_OVCFG.OVABS n)))).put
      (PVL_THR.UV n) (uvCode vl (t.get (PVL_UVCFG.UVPCT n)) (t.get (PVL_UVCFG.UVMIN n)))

/-! ### Channel crossings (R275, R283) -/

/-- Show a channel's output and give its level source its level. -/
def State.channel (s : State) (n : Fin 16) (ch : Nat) (on : Bool) : State := (s.maskBit (PVL_STAT.OUT n) ch on).level (portEvent n ch) on

/-- Is a channel under its check, so that its output is held (R280)? -/
def State.held (s : State) (n : Fin 16) (ch : Nat) : Bool := s.ports[n].val.testing == some ch

/-- When the OV, UV and FI channels are enabled (R275, R300): OV while the stage runs, Eave is other than OPEN or a sink is attached; UV while Eave is
ON, but for pre-bias and the ramp-down of a Hard Reset. -/
def State.chanEnabled (s : State) (n : Fin 16) (ch : Nat) : Bool :=
  if ch = 0 then s.stageOn n || s.get (PEV_STATUS.STATE n) != 0 || (s.isService n && s.cc n == ccAttachedSnk)
  else if ch = 1 then s.get (PEV_STATUS.STATE n) == 3 && s.bit (PVL_UVCFG.UVEN n) && !s.bit (PLP_STATUS.PRE n) && s.peff n != 9
  else s.bit (PVL_FICFG.FIEN n)

/-- The glitch filter of a code in ns (R278). -/
def filterNs (code : Nat) : Nat := [0, 25, 50, 100, 200, 400, 800, 1600].getD code 0

/-- The output of a comparator: it becomes active where the input is beyond the threshold and inactive where it is short of the release point; between them it
keeps its state (R274). -/
def withHysteresis (was beyond short : Bool) : Bool := beyond || (was && !short)

/-- The output of an enabled OV, UV or FI channel for an input; a disabled channel reads inactive (R275, R276). -/
def State.output (s : State) (n : Fin 16) (ch : Nat) (beyond short : Bool) : Bool :=
  s.chanEnabled n ch && withHysteresis ((s.get (PVL_STAT.OUT n)).testBit ch) beyond short

/-- A crossing of the OV or UV window ends a feedback confirmation as a lasting fault (R243). -/
def State.endConfirm (s : State) (confirming : Bool) (n : Fin 16) : State := if confirming then s.stageFault n else s

/-- The output of the OV channel with its hard routes: active, it cuts the legs outside their blanking and trips Eave with cause 2 (R283); a trip that ends a
feedback confirmation is joined by the stage-fault path (R240, R243). -/
def State.ovOutput (s : State) (n : Fin 16) (on : Bool) (at_ : Nat) : State :=
  if on then
    let t := ((s.channel n 0 true).tripInput n 1 true at_).eaveTrip n 2
    t.endConfirm (t.bit (PLP_STATUS.CONFIRM n) && !t.halted n.val) n
  else (s.channel n 0 false).tripInput n 1 false at_

/-- The output of the UV channel (R243, R287). -/
def State.uvOutput (s : State) (n : Fin 16) (on : Bool) : State :=
  if on then (s.channel n 1 true).endConfirm (s.bit (PLP_STATUS.CONFIRM n)) n else s.channel n 1 false

/-- The output of the FI channel, which is the fast-current trip input of the slices (R283). -/
def State.fiOutput (s : State) (n : Fin 16) (on : Bool) (at_ : Nat) : State := (s.channel n 2 on).tripInput n 0 on at_

/-- VAL_OV: VBUS_S of a port whose island is present and powered (R2) has stood at a voltage in mV for so many ns, so many fine steps after the period start of
the lead. The OV channel has a hysteresis of 1 % of its threshold (R274, R275, R278). -/
def execValOv (n : Fin 16) (c : Stood) (at_ : Nat) (s : State) : Res :=
  if !s.portUp n || s.held n 0 || decide (c.ns < filterNs (s.get (PVL_FILT.OV n))) then done s
  else
    let thr := s.get (PVL_THR.OV n) * 60
    done1 n s (s.ovOutput n (s.output n 0 (decide (thr < c.v)) (decide (c.v * 100 < thr * 99))) at_)

/-- VAL_UV: VBUS_S has stood at a voltage in mV for so many ns; the UV channel has a hysteresis of 1 % of its threshold (R274, R275, R278). -/
def execValUv (n : Fin 16) (c : Stood) (s : State) : Res :=
  if !s.portUp n || s.held n 1 || decide (c.ns < filterNs (s.get (PVL_FILT.UV n))) then done s
  else
    let thr := s.get (PVL_THR.UV n) * 60
    done1 n s (s.uvOutput n (s.output n 1 (decide (c.v < thr)) (decide (thr * 101 < c.v * 100))))

/-- VAL_FI: ISP − ISN in the role direction, in 0.25 mV, has stood for so many ns, so many fine steps after the period start of the lead; the hysteresis is 1 mV
(R274, R276, R278). -/
def execValFi (n : Fin 16) (c : Stood) (at_ : Nat) (s : State) : Res :=
  if !s.portUp n || s.held n 2 || decide (c.ns < filterNs (s.get (PVL_FILT.FI n))) then done s
  else
    let thr := s.ports[n].val.fi
    done1 n s (s.fiOutput n (s.output n 2 (decide (thr < c.v * 128)) (decide (c.v * 128 + 4 * 128 < thr))) at_)

/-- A channel that is no longer enabled reads inactive (R275); one under its check keeps its output (R280). -/
def State.dropDisabled (s : State) (n : Fin 16) (ch : Nat) : State :=
  if (s.get (PVL_STAT.OUT n)).testBit ch && !s.chanEnabled n ch && !s.held n ch then
    if ch = 0 then s.ovOutput n false 0 else if ch = 1 then s.uvOutput n false else s.fiOutput n false 0
  else s

/-- THRESHOLD_UPDATE: every 1 µs the thresholds follow the reference and the curve in force (R275, R276), and channels that are disabled drop. -/
def execThresholdUpdate (n : Fin 16) (s : State) : Res :=
  if !s.portUp n || s.halted n.val then done s
  else
    let t := s.setWindow n
    let t := t.modPort n (fun p => { p with val := { p.val with fi := t.fiThreshold n } })
    done1 n s ((List.range 3).foldl (fun u ch => u.dropDisabled n ch) t)

/-- A GPC output takes a level: its wires to INWARN and to Eave act (R283). -/
def State.gpcOutput (s : State) (k : Fin 8) (on : Bool) : State :=
  let t := (s.maskBit GPC_STAT.OUT k.val on).level (0x120 + k.val) on
  if !on then t
  else
    let u := allPorts.foldl (fun v n => if (v.get (GPC_CFG.EAVEMASK k.val)).testBit n.val then v.eaveTrip n 2 else v) t
    if u.bit (GPC_CFG.INWARN k.val) then u.inputWarning else u

/-- The output of a GPC for an input in 15 mV: below or above its threshold with its hysteresis, or fallen by more than SLOPETHR below the held sample, where it
stays active to the next sample (R279). -/
def State.gpcActive (s : State) (k : Fin 8) (code : Nat) : Bool :=
  let was := (s.get GPC_STAT.OUT).testBit k.val
  let thr := s.get (GPC_THR.THR k.val)
  let hys := s.get (GPC_THR.HYS k.val)
  match s.get (GPC_CFG.MODE k.val) with
  | 0 => false
  | 1 => withHysteresis was (decide (code < thr)) (decide (thr + hys < code))
  | 2 => withHysteresis was (decide (thr < code)) (decide (code + hys < thr))
  | _ => was || (assocGet s.bat.gpcSample k.val).any (fun x => decide (code + s.get (GPC_SLOPE.SLOPETHR k.val) < x))

/-- GPC_CROSSING: the input that INSEL selects has stood at a code of 15 mV for so many ns, and the output of the GPC follows it (R278, R279); one under its check
holds its wires (R296). -/
def execGpcCrossing (k : Fin 8) (c : Stood) (s : State) : Res :=
  if s.bat.gpcTest.head? = some k.val ∨ c.ns < filterNs (s.get (GPC_CFG.FILT k.val)) then done s
  else doneAll s (s.gpcOutput k (s.gpcActive k c.v))

/-- A new GPC setting is in force: a GPC that is now off releases its output, and new INWARN and EAVEMASK bits act for an output that is active (R279, R283). -/
def State.gpcTaken (s : State) (k : Fin 8) : State :=
  if (s.get GPC_STAT.OUT).testBit k.val && s.bat.gpcTest.head? != some k.val then s.gpcOutput k (s.get (GPC_CFG.MODE k.val) != 0) else s

/-- The GPCs. -/
def allGpcs : List (Fin 8) := List.finRange 8

/-- New settings of every GPC are in force. -/
def State.gpcsTaken (s : State) : State := allGpcs.foldl State.gpcTaken s

/-- GPC_SLOPE_SAMPLE: a slope-mode GPC takes a new sample, code in 15 mV; against it nothing has fallen yet, so the output releases (R279). -/
def execGpcSlopeSample (k : Fin 8) (code : BitVec 12) (s : State) : Res :=
  if s.get (GPC_CFG.MODE k.val) = 3 then
    let t := s.modBat (fun b => { b with gpcSample := assocSet b.gpcSample k.val code.toNat })
    done (if (t.get GPC_STAT.OUT).testBit k.val && t.bat.gpcTest.head? != some k.val then t.gpcOutput k false else t)
  else done s

/-! ### Self-check (R280, R281) -/

/-- SELF_CHECK: the interval of STPER passes for an idle port with STEN = 1 (units 0 to 15), or that of 10 s for a GPC (16 + k) that guards nothing and is
inactive; its check begins. -/
def execSelfCheck (unit : Fin 24) (s : State) : Res :=
  if h : unit.val < 16 then done (if s.bit (PVL_STCFG.STEN ⟨unit.val, h⟩) then s.startCheck ⟨unit.val, h⟩ else s)
  else if (s.get GPC_STAT.OUT).testBit (unit.val - 16) || s.guards (unit.val - 16) then done s
  else done (s.gpcCheck (2 ^ (unit.val - 16)))

/-- A channel of a port fails (R281). -/
def State.checkFail (s : State) (n : Fin 16) (ch : Nat) : State :=
  let t := ((s.maskBit (PVL_STAT.FAIL n) ch true).satInc (PVL_STCNT.FAILS n)).fire 0x10E (n.val * 256 + ch)
  let t := t.tallyPlain 133
  let row := min 2 (t.ports[n].val.failRow.getD ch 0 + 1)
  let t := t.modPort n (fun p => { p with val := { p.val with failRow := p.val.failRow.set ch row } })
  if ch < 3 ∧ 2 ≤ row then
    let u := t.latch n
    if u.cc n = ccUnattachedSrc ∨ u.cc n = ccUnattachedSnk then u.enterDisabled n else u
  else t

/-- A channel of a port passes: its fail bit clears. -/
def State.checkPass (s : State) (n : Fin 16) (ch : Nat) : State :=
  ((s.maskBit (PVL_STAT.FAIL n) ch false).wrapInc (PVL_STCNT.PASSES n)).modPort n
    (fun p => { p with val := { p.val with failRow := p.val.failRow.set ch 0 } })

/-- The next channel of the pass, or its end with E10F. -/
def State.checkNext (s : State) (n : Fin 16) (ch : Nat) : State :=
  if ch < 4 then s.modPort n (fun p => { p with val := { p.val with testing := some (ch + 1) } })
  else
    let t := s.stopCheck n
    let t := if s.ports[n].val.first && (t.cc n == ccUnattachedSrc || t.cc n == ccUnattachedSnk) then t.candidate n else t
    t.fire 0x10F

/-- SELF_CHECK_RESULT: the 5 µs of the channel under test end (R281). -/
def execSelfCheckResult (unit : Fin 24) (ok : Bool) (s : State) : Res :=
  if h : unit.val < 16 then
    let n : Fin 16 := ⟨unit.val, h⟩
    match s.ports[n].val.testing with
    | none => done s
    | some ch => done1 n s ((if ok then s.checkPass n ch else s.checkFail n ch).checkNext n ch)
  else
    let k := unit.val - 16
    if s.bat.gpcTest.head? = some k then
      let t := s.setGpcTest s.bat.gpcTest.tail
      done ((if ok then t.maskBit GPC_STAT.FAIL k false
        else ((t.maskBit GPC_STAT.FAIL k true).fire 0x10E ((16 + k) * 256)).tallyPlain 133).fire 0x10F)
    else done s

/-! ### Batten -/

/-- LOGGED_EDGE: the next waiting edge is delivered over its logged routes (R284, R286). -/
def execLoggedEdge (s : State) : Res :=
  if !s.islandUp islBatten || s.halted islBatten then done s
  else match takeEdge s.bat.edges with
    | none => done s
    | some (x, rest) => doneAll s ((s.modBat (fun b => { b with edges := rest })).deliverEdge x)

/-- TALLY_BIN_ADVANCE: a bin boundary of a tally passes (R293). -/
def execTallyBinAdvance (t : Fin 144) (s : State) : Res :=
  if s.islandUp islBatten then done (s.setBins t.val (0 :: (s.binsOf t.val).take 15)) else done s

/-- HIRQ_CLEAR: a W1C of BAT_IRQSTAT (R284). -/
def execHirqClear (hp : HostPort) (mask : Word) (s : State) : Res := done (s.command hp BAT_IRQSTAT.at mask (fun t => t.irqClear mask))

/-- A BAT_CMD word of one operation with its key. -/
def batWord (key : Byte) (low : Nat) : Word := BitVec.ofNat 32 (key.toNat * 2 ^ 24 + low)

/-- TALLYCLR: BAT_CMD.TALLYCLR (R293). -/
def execTallyclr (hp : HostPort) (key tid : Byte) (s : State) : Res :=
  done (s.command hp BAT_CMD.at (batWord key (256 + tid.toNat)) (fun t => t.tallyClear tid.toNat))

/-- CNTCLR: BAT_CMD.CNTCLR (R301). -/
def execCntclr (hp : HostPort) (key : Byte) (s : State) : Res := done (s.command hp BAT_CMD.at (batWord key 512) State.cntClear)

/-- VALST: BAT_CMD.VALST (R280). -/
def execValst (hp : HostPort) (key : Byte) (s : State) : Res := done (s.command hp BAT_CMD.at (batWord key 1024) State.checkAll)

/-- SWEVT: BAT_CMD.SWEVT fires E13F (R288). -/
def execSwevt (hp : HostPort) (key : Byte) (s : State) : Res := done (s.command hp BAT_CMD.at (batWord key 2048) (fun t => t.fire 0x13F))

/-- TSCLR: BAT_CMD.TSCLR ends an edge-mode cut (R284). -/
def execTsclr (hp : HostPort) (key : Byte) (s : State) : Res := done (s.command hp BAT_CMD.at (batWord key 4096) State.tsClear)

/-- GPCSEL: BAT_CMD.GPCSEL checks a guarding GPC (R280). -/
def execGpcsel (hp : HostPort) (key mask : Byte) (s : State) : Res :=
  done (s.command hp BAT_CMD.at (batWord key (mask.toNat * 65536)) (fun t => t.gpcCheck mask.toNat))

/-- A new cut value (R296): while a cut holds, E follows it at the commit of the write's op. -/
def State.writeCut (s : State) (v : Nat) : State :=
  let t := s.put BAT_TRSCUT.CUT v
  if t.bat.cutInForce then t.setCut (some v) else t

/-- BAT_TRSCUT_WRITE: a write of BAT_TRSCUT (R296). -/
def execBatTrscutWrite (hp : HostPort) (watts : BitVec 16) (s : State) : Res :=
  done (s.command hp BAT_TRSCUT.at (BitVec.ofNat 32 watts.toNat) (fun t => t.writeCut watts.toNat))

end Sys2Proof.Machine
end

