-- ==== Sys2Proof/Machine/Crypto.lean ====
section
/-!
DEFINITION. The two named standards behind an image signature (R14, R441): SHA-256 over a byte string (FIPS 180-4) and the verification of an ECDSA signature
over P-256 (FIPS 186-5). Byte strings stand for integers with the most significant byte first, as both standards give them.
-/

namespace Sys2Proof.Machine

/-! ### SHA-256 (FIPS 180-4) -/

/-- The 64 constants: the first 32 bits of the fractional parts of the cube roots of the first 64 primes. -/
def shaK : List Word :=
  [0x428a2f98, 0x71374491, 0xb5c0fbcf, 0xe9b5dba5, 0x3956c25b, 0x59f111f1, 0x923f82a4, 0xab1c5ed5] ++
  [0xd807aa98, 0x12835b01, 0x243185be, 0x550c7dc3, 0x72be5d74, 0x80deb1fe, 0x9bdc06a7, 0xc19bf174] ++
  [0xe49b69c1, 0xefbe4786, 0x0fc19dc6, 0x240ca1cc, 0x2de92c6f, 0x4a7484aa, 0x5cb0a9dc, 0x76f988da] ++
  [0x983e5152, 0xa831c66d, 0xb00327c8, 0xbf597fc7, 0xc6e00bf3, 0xd5a79147, 0x06ca6351, 0x14292967] ++
  [0x27b70a85, 0x2e1b2138, 0x4d2c6dfc, 0x53380d13, 0x650a7354, 0x766a0abb, 0x81c2c92e, 0x92722c85] ++
  [0xa2bfe8a1, 0xa81a664b, 0xc24b8b70, 0xc76c51a3, 0xd192e819, 0xd6990624, 0xf40e3585, 0x106aa070] ++
  [0x19a4c116, 0x1e376c08, 0x2748774c, 0x34b0bcb5, 0x391c0cb3, 0x4ed8aa4a, 0x5b9cca4f, 0x682e6ff3] ++
  [0x748f82ee, 0x78a5636f, 0x84c87814, 0x8cc70208, 0x90befffa, 0xa4506ceb, 0xbef9a3f7, 0xc67178f2]

/-- The eight working variables, which are also the chaining value. -/
structure ShaVars where
  a : Word
  b : Word
  c : Word
  d : Word
  e : Word
  f : Word
  g : Word
  h : Word
  deriving DecidableEq, Repr

/-- The initial hash value: the first 32 bits of the fractional parts of the square roots of the first 8 primes. -/
def shaInit : ShaVars := ⟨0x6a09e667, 0xbb67ae85, 0x3c6ef372, 0xa54ff53a, 0x510e527f, 0x9b05688c, 0x1f83d9ab, 0x5be0cd19⟩

/-- Three rotations, or two with a shift, combined: the functions of a word that the standard names. -/
def rot3 (x : Word) (i j k : Nat) : Word := x.rotateRight i ^^^ x.rotateRight j ^^^ x.rotateRight k
def rot2Shift (x : Word) (i j k : Nat) : Word := x.rotateRight i ^^^ x.rotateRight j ^^^ (x >>> k)

/-- One of the 64 rounds: the variables step with the oldest of the 16 schedule words, and the schedule moves on by one. -/
def shaRound (x : ShaVars × List Word) (k : Word) : ShaVars × List Word :=
  let v := x.1
  let w := fun (i : Nat) => x.2.getD i 0
  let t1 := v.h + rot3 v.e 6 11 25 + ((v.e &&& v.f) ^^^ (~~~v.e &&& v.g)) + k + w 0
  let t2 := rot3 v.a 2 13 22 + ((v.a &&& v.b) ^^^ (v.a &&& v.c) ^^^ (v.b &&& v.c))
  (⟨t1 + t2, v.a, v.b, v.c, v.d + t1, v.e, v.f, v.g⟩, x.2.drop 1 ++ [rot2Shift (w 14) 17 19 10 + w 9 + rot2Shift (w 1) 7 18 3 + w 0])

/-- The compression of one block of 16 words. -/
def shaBlock (v : ShaVars) (ws : List Word) : ShaVars :=
  let u := (shaK.foldl shaRound (v, ws)).1
  ⟨v.a + u.a, v.b + u.b, v.c + u.c, v.d + u.d, v.e + u.e, v.f + u.f, v.g + u.g, v.h + u.h⟩

/-- The number that a byte string stands for. -/
def bytesNat (bs : List Byte) : Nat := bs.foldl (fun n b => n * 256 + b.toNat) 0

/-- The padding behind a message of k bytes: a 1 bit, zeros, and the length in bits. -/
def shaPad (k : Nat) : List Byte :=
  (0x80 : Byte) :: (List.replicate ((119 - k % 64) % 64) 0 ++ (List.range 8).map (fun i => BitVec.ofNat 8 (k * 8 / 2 ^ (8 * (7 - i)))))

/-- The 16 words of a block of 64 bytes. -/
def shaWords (bs : List Byte) : List Word := (List.range 16).map (fun i => BitVec.ofNat 32 (bytesNat ((bs.drop (4 * i)).take 4)))

/-- Compress a number of blocks of a padded message. -/
def shaBlocks : Nat → ShaVars → List Byte → ShaVars
  | 0, v, _ => v
  | k + 1, v, bs => shaBlocks k (shaBlock v (shaWords (bs.take 64))) (bs.drop 64)

/-- SHA-256 of a byte string (R14, FIPS 180-4). -/
def sha256 (bs : List Byte) : BitVec 256 :=
  let m := bs ++ shaPad bs.length
  let v := shaBlocks (m.length / 64) shaInit m
  v.a ++ v.b ++ v.c ++ v.d ++ v.e ++ v.f ++ v.g ++ v.h

/-! ### P-256 (FIPS 186-5) -/

def p256p : Nat := 0xffffffff00000001000000000000000000000000ffffffffffffffffffffffff
def p256n : Nat := 0xffffffff00000000ffffffffffffffffbce6faada7179e84f3b9cac2fc632551
def p256b : Nat := 0x5ac635d8aa3a93e7b3ebbd55769886bc651d06b0cc53b0f63bce3c3e27d2604b
def p256gx : Nat := 0x6b17d1f2e12c4247f8bce6e563a440f277037d812deb33a0f4a13945d898c296
def p256gy : Nat := 0x4fe342e2fe1a7f9b8ee7eb4a7c0f9e162bce33576b315ececbb6406837bf51f5

/-- A point in Jacobian coordinates: x = X ÷ Z², y = Y ÷ Z³ modulo p; Z = 0 is the point at infinity. -/
structure P256 where
  x : Nat
  y : Nat
  z : Nat
  deriving DecidableEq, Repr

def P256.infinity : P256 := ⟨1, 1, 0⟩

/-- Products and differences modulo p. -/
def pMul (a b : Nat) : Nat := a * b % p256p
def pSub (a b : Nat) : Nat := (a + p256p - b % p256p) % p256p

/-- Twice a point of the curve y² = x³ − 3x + b. -/
def P256.double (q : P256) : P256 :=
  let yy := pMul q.y q.y
  let s := pMul (4 * q.x) yy
  let zz := pMul q.z q.z
  let m := pMul (3 * pSub q.x zz) (q.x + zz)
  let x := pSub (pMul m m) (2 * s)
  if q.z = 0 then .infinity else ⟨x, pSub (pMul m (pSub s x)) (8 * pMul yy yy), pMul (2 * q.y) q.z⟩

/-- The sum of two points. -/
def P256.add (q r : P256) : P256 :=
  if q.z = 0 then r
  else if r.z = 0 then q
  else
    let qz := pMul q.z q.z
    let rz := pMul r.z r.z
    let u := pMul q.x rz
    let s := pMul q.y (pMul rz r.z)
    let h := pSub (pMul r.x qz) u
    let d := pSub (pMul r.y (pMul qz q.z)) s
    if h = 0 then (if d = 0 then q.double else .infinity)
    else
      let hh := pMul h h
      let v := pMul u hh
      let x := pSub (pSub (pMul d d) (pMul hh h)) (2 * v)
      ⟨x, pSub (pMul d (pSub v x)) (pMul s (pMul hh h)), pMul h (pMul q.z r.z)⟩

/-- A multiple of a point, from the most significant of 256 bits down. -/
def P256.times (k : Nat) (q : P256) : P256 :=
  (List.range 256).foldl (fun acc i => if k.testBit (255 - i) then acc.double.add q else acc.double) .infinity

/-- A power modulo n, from the most significant of 256 exponent bits down. -/
def nPow (a e : Nat) : Nat :=
  (List.range 256).foldl (fun acc i => if e.testBit (255 - i) then acc * acc % p256n * a % p256n else acc * acc % p256n) 1

/-- Is (x, y) a point of the curve? -/
def onCurve (x y : Nat) : Bool :=
  decide (x < p256p) && decide (y < p256p) && y * y % p256p == (x * x * x + (p256p - 3) * x + p256b) % p256p

/-- Does an ECDSA signature, r then s, verify over a hash under a public key, X then Y (R14, R441, FIPS 186-5)? The inverse of s modulo the prime n is a power of
it; the x of the sum is compared with r in Jacobian form. -/
def ecdsaOk (key : List Byte) (hash : BitVec 256) (signature : List Byte) : Bool :=
  let qx := bytesNat (key.take 32)
  let qy := bytesNat (key.drop 32)
  let r := bytesNat (signature.take 32)
  let s := bytesNat (signature.drop 32)
  if r = 0 ∨ s = 0 ∨ p256n ≤ r ∨ p256n ≤ s ∨ onCurve qx qy = false then false
  else
    let w := nPow s (p256n - 2)
    let v := ((⟨p256gx, p256gy, 1⟩ : P256).times (hash.toNat * w % p256n)).add ((⟨qx, qy, 1⟩ : P256).times (r * w % p256n))
    let zz := pMul v.z v.z
    v.z != 0 && (v.x % p256p == pMul r zz || (decide (r + p256n < p256p) && v.x % p256p == pMul (r + p256n) zz))

end Sys2Proof.Machine
end

