-- ==== Sys2Proof/Machine/UpdOps.lean ====
section
/-!
DEFINITION. Replacing the image as shared operations (R433 to R472): the manifest and its tables, verification with the result codes, the directory,
the staging session, activation, confirmation and fallback.
-/

namespace Sys2Proof.Machine

/-! ### Bytes (R9, R437) -/

/-- The bytes of words, least significant first. -/
def wbytes (ws : List Word) : List Byte := ws.flatMap (fun w => (wordBytes w).map (BitVec.ofNat 8))

/-- The byte and the 32-bit number at a byte offset. -/
def byteOf (ws : List Word) (o : Nat) : Nat := (wordAt ws (o / 4)).toNat / 2 ^ (8 * (o % 4)) % 256
def numOf (ws : List Word) (o : Nat) : Nat := byteOf ws o + byteOf ws (o + 1) * 2 ^ 8 + byteOf ws (o + 2) * 2 ^ 16 + byteOf ws (o + 3) * 2 ^ 24

/-- k bytes at a byte offset. -/
def bytesAt (ws : List Word) (o k : Nat) : List Byte := (List.range k).map (fun i => BitVec.ofNat 8 (byteOf ws (o + i)))

/-- The 32 bytes of a hash in the order of FIPS 180-4 (R437). -/
def hashBytes (h : BitVec 256) : List Byte := (List.range 32).map (fun i => BitVec.ofNat 8 (h.toNat / 2 ^ (8 * (31 - i))))

/-- Words of a block. -/
def blockWords : Nat := 1024

/-! ### The manifest (R438, R439) -/

def manPkgLen (m : List Word) : Nat := (wordAt m 2).toNat
def manId (m : List Word) : Nat := (wordAt m 3).toNat
def manRollback (m : List Word) : Nat := (wordAt m 4).toNat
def manEpoch (m : List Word) : Nat := (wordAt m 5).toNat
def manConf (m : List Word) : Nat := if (wordAt m 6).toNat = 0 then 600 else (wordAt m 6).toNat
def manChain (m : List Word) : Bool := fieldOf (wordAt m 7) 0 0 == 1
def manRevoke (m : List Word) : Bool := fieldOf (wordAt m 7) 1 1 == 1
def manTrialMax (m : List Word) : Nat := if fieldOf (wordAt m 7) 6 4 = 0 then 3 else fieldOf (wordAt m 7) 6 4
def manBlks (m : List Word) : Nat := fieldOf (wordAt m 7) 15 8
def manMinrev (m : List Word) : Nat := fieldOf (wordAt m 8) 15 0
def manFmtMin (m : List Word) : Nat := fieldOf (wordAt m 8) 23 16
def manFmtNew (m : List Word) : Nat := fieldOf (wordAt m 8) 31 24
def manNdev (m : List Word) : Nat := fieldOf (wordAt m 9) 7 0
def manNpart (m : List Word) : Nat := fieldOf (wordAt m 9) 15 8
def manCrcOff (m : List Word) : Nat := (wordAt m 12).toNat

/-- Bytes of the signed region (R438): all of the manifest but the signature block. -/
def signedLen (m : List Word) : Nat := manBlks m * 4096 - 288

/-- k bytes of the signature block at an offset (R441). -/
def sigBytes (m : List Word) (o k : Nat) : List Byte := bytesAt m (signedLen m + o) k
/-- The signing-key generation (R441). -/
def manGen (m : List Word) : Nat := numOf m (signedLen m + 128)

/-- A part-table entry (R439). -/
structure Part where
  ty : Nat
  off : Nat
  len : Nat
  clean : Bool
  hash : List Byte
  deriving DecidableEq, Repr

/-- Part k of the part table; clean says that its reserved bytes are 0. -/
def manPart (m : List Word) (k : Nat) : Part :=
  let o := (wordAt m 11).toNat + 48 * k
  { ty := byteOf m o, off := numOf m (o + 4), len := numOf m (o + 8), clean := numOf m o / 256 == 0 && numOf m (o + 12) == 0, hash := bytesAt m (o + 16) 32 }

/-- Blocks of a part. -/
def Part.blocks (p : Part) : Nat := (p.len + 4095) / 4096

/-- A device-table entry (R439): serial, first part, part count, and whether its reserved bytes are 0. -/
def manDev (m : List Word) (k : Nat) : BitVec 96 × Nat × Nat × Bool :=
  let o := (wordAt m 10).toNat + 16 * k
  (BitVec.ofNat 96 (numOf m o + numOf m (o + 4) * 2 ^ 32 + numOf m (o + 8) * 2 ^ 64), byteOf m (o + 12), byteOf m (o + 13), byteOf m (o + 14) == 0 && byteOf m (o + 15) == 0)

/-- Length limit of a part type (R439). -/
def partMax (ty : Nat) : Nat := if ty = 1 then 96 * 1024 else if ty = 2 then 416 * 1024 else 4096

/-- A part's own rules (R439). -/
def partOk (m : List Word) (p : Part) : Bool :=
  decide (1 ≤ p.ty) && decide (p.ty ≤ 3) && p.clean && p.off % 4096 == 0 && decide (manBlks m * 4096 ≤ p.off) && decide (p.off + p.len ≤ manPkgLen m) &&
    decide (p.len ≤ partMax p.ty)

/-- A device entry's rules: its parts are one Thatch image, one microcode and at most one overlay (R439). -/
def devOk (m : List Word) (k : Nat) : Bool :=
  match manDev m k with
  | (ser, first, count, clean) =>
    let ps := (List.range count).map (fun j => (manPart m (first + j)).ty)
    clean && decide (first + count ≤ manNpart m) && (ser != 0 || (manNdev m == 1 && !manChain m)) &&
      ps.count 1 == 1 && ps.count 2 == 1 && decide (ps.count 3 ≤ 1)

/-- The manifest format of code 5 (R438, R439, R441). -/
def manOk (m : List Word) : Bool :=
  let f := (wordAt m 7).toNat
  let conf := (wordAt m 6).toNat
  wordAt m 0 == 0x4C4E4D46#32 && fieldOf (wordAt m 1) 31 16 == 1 && (wordAt m 15).toNat == crc32c (m.take 15) &&
  decide (1 ≤ manBlks m) && decide (manBlks m ≤ 8) &&
  (wordAt m 14).toNat == crc32c ((m.take (signedLen m / 4)).drop 16) &&
  manPkgLen m % 4096 == 0 && decide (manBlks m * 4096 ≤ manPkgLen m) && decide (manPkgLen m ≤ 0x1000000) &&
  manId m != 0 && decide (manRollback m ≤ 256) && decide (manEpoch m ≤ 64) && (manEpoch m == 0 || manChain m) &&
  (conf == 0 || (decide (10 ≤ conf) && decide (conf ≤ 86400))) && f / 65536 == 0 && fieldOf (wordAt m 7) 3 2 == 0 && fieldOf (wordAt m 7) 7 7 == 0 &&
  wordAt m 13 == 0#32 && decide (1 ≤ manNdev m) && decide (manNdev m ≤ 16) && decide (1 ≤ manNpart m) && decide (manNpart m ≤ 48) &&
  decide ((wordAt m 10).toNat + 16 * manNdev m ≤ signedLen m) && decide ((wordAt m 11).toNat + 48 * manNpart m ≤ signedLen m) &&
  decide (manCrcOff m + manPkgLen m / 1024 ≤ signedLen m) &&
  (sigBytes m 132 28).all (fun b => b == 0) &&
  (List.range (manNpart m)).all (fun k => partOk m (manPart m k)) && (List.range (manNdev m)).all (devOk m)

/-- The device entry that a serial matches (R439). -/
def manEntry (m : List Word) (ser : BitVec 96) : Option Nat :=
  (List.range (manNdev m)).find? (fun k => (manDev m k).1 == ser || (manDev m k).1 == 0)

/-- This device's parts in part-table order. -/
def ownParts (m : List Word) (ser : BitVec 96) : List Part :=
  match manEntry m ser with
  | none => []
  | some k => (List.range (manDev m k).2.2.1).map (fun j => manPart m ((manDev m k).2.1 + j))

/-- Where the slot stores each part: words from its start (R444). -/
def slotParts (m : List Word) (ser : BitVec 96) : List (Part × Nat) :=
  ((ownParts m ser).foldl (fun (acc : List (Part × Nat) × Nat) p => (acc.1 ++ [(p, acc.2)], acc.2 + p.blocks * blockWords)) ([], manBlks m * blockWords)).1

/-- The content of a part in a slot. -/
def partWords (slot : List Word) (p : Part × Nat) : List Word := (slot.drop p.2).take ((p.1.len + 3) / 4)

/-- The part of a type in a slot. -/
def slotPart (slot : List Word) (ser : BitVec 96) (ty : Nat) : Option (List Word) :=
  ((slotParts slot ser).find? (fun p => p.1.ty == ty)).map (partWords slot)

/-! ### Verification (R427, R440, R441, R446, R447) -/

/-- Bytes of a key-hash copy: 0 copy A, 1 copy B. -/
def State.keyCopy (s : State) (c : Nat) : List Byte :=
  (List.range 4).flatMap (fun j => (List.range 8).map (fun i => BitVec.ofNat 8 ((s.shadow (0x0C0 + 4 * c + j)).toNat / 2 ^ (8 * i))))

/-- The key hash in force, none when the copies disagree (R427). -/
def State.keyHash (s : State) : Option (List Byte) :=
  match s.keyCopyUE 0, s.keyCopyUE 1 with
  | true, true => none
  | false, true => some (s.keyCopy 0)
  | true, false => some (s.keyCopy 1)
  | false, false => if s.keyCopy 0 = s.keyCopy 1 then some (s.keyCopy 0) else none

/-- Is an overlay entry a listed item within its range (R440)? -/
def overlayItemOk (item : Nat) (v : Word) : Bool :=
  let gain := decide ((((v.toNat % 2 ^ 24 : Nat) : Int) - 4194304).natAbs * 50 ≤ 4194304)
  let offs := decide ((signedOf 8 (v.toNat % 256)).natAbs ≤ 16)
  if item = 0x2000 then gain
  else if 0x1000 ≤ item ∧ item < 0x1100 ∧ item % 16 < 4 then (if item % 2 = 0 then gain else offs)
  else false

/-- The overlay check (R440). -/
def overlayOk (ws : List Word) : Bool :=
  ws.length % 2 == 0 && (List.range (ws.length / 2)).all (fun k => overlayItemOk (fieldOf (wordAt ws (2 * k)) 15 0) (wordAt ws (2 * k + 1)))

/-- Code 14: the Thatch image as R79 gives with its check code as DETAIL, or the overlay. -/
def State.imageCode (s : State) (slot : List Word) : Option Nat :=
  let ps := slotParts slot s.serial
  match ps.find? (fun p => p.1.ty == 1) with
  | none => some 1
  | some p =>
    let c := imageCheck (partWords slot p) p.1.len (s.rd GLB_SIREV.at).toNat s.lns8
    if c ≠ 0 then some c
    else if ps.any (fun q => q.1.ty == 3 && !overlayOk (partWords slot q)) then some 0
    else none

/-- The checks of codes 5 to 15 on a slot in code order: the first that fails with its DETAIL, (0, 0) when all pass (R447). -/
def State.verify (s : State) (slot : List Word) : Nat × Nat :=
  let m := slot.take (manBlks slot * blockWords)
  if !manOk m then (5, 0)
  else if s.keyHash ≠ some (hashBytes (sha256 (sigBytes m 0 64))) then (6, 0)
  else if !ecdsaOk (sigBytes m 0 64) (sha256 (sigBytes m 64 96)) (sigBytes m 160 64) || decide (manGen m < s.keyrev) then (7, 0)
  else if !ecdsaOk (sigBytes m 64 64) (sha256 (bytesAt m 0 (signedLen m))) (sigBytes m 224 64) then (8, 0)
  else if manRollback m < s.antirb then (9, 0)
  else if manEpoch m < s.epoch then (10, 0)
  else if (s.rd GLB_SIREV.at).toNat % 65536 < manMinrev m then (11, 0)
  else if (manEntry m s.serial).isNone then (12, 0)
  else if (slotParts slot s.serial).any (fun p => hashBytes (sha256 (bytesAt (slot.drop p.2) 0 p.1.len)) != p.1.hash) then (13, 0)
  else match s.imageCode slot with
    | some d => (14, d)
    | none => if s.slate.fmt < manFmtMin m then (15, 0) else (0, 0)

/-- A Thatch image refused by a check of R79: its code goes to THA_SRSTAT.CHECK and to the Slate log. -/
def State.noteImage (s : State) (c : Nat × Nat) : State :=
  if c.1 = 14 ∧ c.2 ≠ 0 then (s.put THA_SRSTAT.CHECK c.2).logFault 2 c.2 else s

/-! ### The directory (R434 to R436) -/

/-- The directory while neither sector holds a valid record (R435). -/
def Dir.initial : Dir :=
  { dseq := 0, act := 0, prev := 1, stag := 2, trial := false, trials := 0, nextboot := false, amanid := 0, pmanid := 0, smanid := 0, sstate := 0, chainApply := 0, sector := 1 }

def State.dirNow (s : State) : Dir := s.upd.dir.getD Dir.initial
def State.slot (s : State) (k : Nat) : List Word := s.upd.slots.getD k []

/-- Activation rotates the roles; the image runs in TRIAL (R436, R451 step 3). -/
def Dir.rotate (d : Dir) (apply : Nat) : Dir :=
  { d with act := d.stag, prev := d.act, stag := d.prev, amanid := d.smanid, pmanid := d.amanid, smanid := d.pmanid, sstate := 0, trial := true, trials := 1, nextboot := false, chainApply := apply }
/-- Fallback reverses the rotation and marks STAGING as REJECTED (R436, R459). -/
def Dir.unrotate (d : Dir) : Dir :=
  { d with act := d.prev, prev := d.stag, stag := d.act, amanid := d.pmanid, pmanid := d.smanid, smanid := d.amanid, sstate := 4, trial := false, trials := 0, nextboot := false, chainApply := 0 }
/-- ACTIVE and PREVIOUS exchange their roles (R461). -/
def Dir.exchange (d : Dir) : Dir := { d with act := d.prev, prev := d.act, amanid := d.pmanid, pmanid := d.amanid }

/-- Show the directory in the UPD registers (R471). -/
def State.showDir (s : State) : State :=
  let d := s.dirNow
  let t := ((s.put UPD_STAT.ACTPS d.act).put UPD_STAT.PREVPS d.prev).put UPD_STAT.STAGPS d.stag
  let t := ((t.put UPD_STAT.SSTATE d.sstate).flag UPD_STAT.NEXTBOOT d.nextboot).put UPD_STAT.TRIALS d.trials
  let t := ((t.put UPD_AMANID.MANID d.amanid).put UPD_PMANID.MANID d.pmanid).put UPD_SMANID.MANID d.smanid
  (t.put UPD_ROLLBACK.ACTIVE (manRollback (t.slot d.act))).put UPD_ROLLBACK.STAGING (if d.sstate = 2 ∨ d.sstate = 3 then manRollback (t.slot d.stag) else 0)

/-- Write a directory record into the other sector (R435). -/
def State.writeDir (s : State) (f : Dir → Dir) : State :=
  let d := f s.dirNow
  (s.modUpd (fun u => { u with dir := some { d with dseq := (s.dirNow.dseq + 1) % 2 ^ 32, sector := 1 - s.dirNow.sector } })).showDir

/-- Give a physical slot its content. -/
def State.setSlot (s : State) (k : Nat) (ws : List Word) : State := s.modUpd (fun u => { u with slots := u.slots.set k ws })

/-! ### Staging (R443 to R446, R462, R467, R468) -/

def State.inDormer (s : State) : Bool := s.bit GLB_BOOTSTAT.DORMER

/-- Why a BEGIN is refused: 16 without a flash (R467), 17 in a wrong state (R445), 0 when it is not. -/
def State.beginCode (s : State) : Nat :=
  if s.inDormer ∧ s.get GLB_BOOTSTAT.DCAUSE = 3 then 16
  else if s.upd.sess.isSome ∨ s.dirNow.trial ∨ s.updState ≠ usIDLE ∨ s.upd.relay.isSome then 17
  else 0

/-- BEGIN (R443): the first erase runs. owner is numbered as UPD_STAT.OWNER. -/
def State.updBegin (s : State) (owner : Nat) (defer : Bool) (len crc : Option Nat) : State :=
  let c := s.beginCode
  if c ≠ 0 then s.result c
  else
    let df := defer && !s.inDormer
    let t := s.modUpd (fun u => { u with
      sess := some { owner := owner, defer := df, man := [], block := [], stored := [], lenDecl := len, crcDecl := crc, crcAll := 0xFFFFFFFF }, busy := true, chain := none })
    let t := ((t.setSlot t.dirNow.stag []).writeDir (fun d => { d with sstate := 1, smanid := 0 })).result 0
    let t := ((t.put UPD_NEXT.OFFS 0).put UPD_RECV.BYTES 0).clear UPD_STAT.CHAIN
    ((t.flag UPD_STAT.DEFER df).put UPD_STAT.OWNER owner).setUpd usRECEIVING

/-- The session ends; SSTATE becomes EMPTY (R443). -/
def State.endSession (s : State) : State :=
  let t := s.modUpd (fun u => { u with sess := none, busy := false })
  let t := (t.writeDir (fun d => { d with sstate := 0, smanid := 0 })).setUpd usIDLE
  (t.put UPD_STAT.OWNER 0).clear UPD_STAT.DEFER

/-- The session ends with a code (R443); the leader of a chain session tells its members. -/
def State.failSession (s : State) (code : Nat) (detail : Nat := 0) : State :=
  let t := if s.leading then s.sendAct actABORT 0 else s
  (t.endSession.result code detail).sendStat

/-- Put words into a list at a position; what lies between reads as erased flash. -/
def putWords (l : List Word) (pos : Nat) (ws : List Word) : List Word :=
  let l' := l ++ List.replicate (pos - l.length) 0xFFFFFFFF
  l'.take pos ++ ws ++ l'.drop (pos + ws.length)

/-- Forward a block of the package as 74 UPDPART frames (R462, R463), and keep it for a resend (R463). -/
def State.forwardBlock (s : State) (b : Nat) (ws : List Word) : State :=
  match s.upd.chain with
  | none => s
  | some c =>
    if !s.leading then s
    else
      let t := (List.range 74).foldl (fun u k =>
        u.sendF tyUPDPART 0xFF (c.manid :: (4096 * b + 56 * k) :: ((ws.drop (14 * k)).take 14).map BitVec.toNat) 3) s
      t.modUpd (fun u => { u with chain := u.chain.map (fun x => { x with blks := (4096 * b, ws) :: x.blks }) })

/-- A device that the manifest does not address takes no part in the chain update (R462). -/
def State.leaveChain (s : State) : State := (s.endSession.modUpd (fun u => { u with chain := none })).clear UPD_STAT.CHAIN

/-- The blocks of the manifest are complete (R443 step 3, R462, R468). -/
def State.manifestDone (s : State) (x : Session) : State :=
  let m := x.man
  if !manOk m then s.failSession 5
  else if (manEntry m s.serial).isNone then (if x.owner = 5 then s.leaveChain else s.failSession 12)
  else if x.lenDecl.any (fun l => l != manPkgLen m) then s.failSession 4
  else if x.crcDecl.any (fun c => c != (wordAt m 14).toNat) then s.failSession 5
  else if manChain m then
    if x.owner = 5 then s.modUpd (fun u => { u with sess := some { x with defer := false } })
    else if !s.leading then s.failSession 19
    else
      let nodes := s.jtl.members.filter (fun k => (manEntry m k.2.serial).isSome)
      let t := s.modUpd (fun u => { u with
        sess := some { x with defer := false },
        chain := some { manid := manId m, pkglen := manPkgLen m, reports := nodes.map (fun k => (k.1, 0, 0, 0)), apply := none, armed := false, blks := [] } })
      let t := ((t.raise UPD_STAT.CHAIN).clear UPD_STAT.DEFER).wr UPD_CHAINST.at 0
      let t := t.sendF tyUPDBEGIN 0xFF [manId m, manPkgLen m] 3
      (List.range (manBlks m)).foldl (fun u b => u.forwardBlock b ((m.drop (b * blockWords)).take blockWords)) t
  else s

/-- A block of the package has arrived (R443 step 4, R444): manifest blocks are collected; a later one is checked against its word of the table, stored where it is a
part of this device, and forwarded by a leader. One that fails is discarded. -/
def State.blockDone (s : State) (x : Session) (b : Nat) : State :=
  let need := min 8 (max 1 (manBlks (x.man ++ x.block)))
  let crc := x.block.foldl (fun c w => (wordBytes w).foldl (fun c b => iterN crc32cBit 8 (c ^^^ b)) c) x.crcAll
  if x.man.length < need * blockWords then
    let y := { x with man := x.man ++ x.block, block := [], crcAll := crc }
    let t := s.modUpd (fun u => { u with sess := some y, busy := true })
    if y.man.length = need * blockWords then t.manifestDone y else t
  else if manPkgLen x.man ≤ 4096 * b then s.failSession 4
  else if crc32c x.block ≠ numOf x.man (manCrcOff x.man + 4 * b) then
    let t := s.modUpd (fun u => { u with sess := some { x with block := [] } })
    ((t.put UPD_NEXT.OFFS (4096 * b)).put UPD_RECV.BYTES (4096 * b)).result 3 0 b
  else
    let mine := (slotParts x.man s.serial).filter (fun p => decide (p.1.off ≤ 4096 * b) && decide (4096 * b < p.1.off + p.1.blocks * 4096))
    let st := mine.foldl (fun l p => putWords l (p.2 - manBlks x.man * blockWords + (4096 * b - p.1.off) / 4) x.block) x.stored
    let t := s.modUpd (fun u => { u with sess := some { x with block := [], stored := st, crcAll := crc }, busy := u.busy || !mine.isEmpty })
    t.forwardBlock b x.block

/-- One word of package data is appended at UPD_NEXT; the flag says that a block failed and the rest of the transaction is discarded. -/
def State.updWord (acc : State × Bool) (w : Word) : State × Bool :=
  match acc.2, acc.1.upd.sess with
  | false, some x =>
    let s := acc.1
    let off := s.get UPD_NEXT.OFFS + 4
    let y := { x with block := x.block ++ [w] }
    let t := ((s.modUpd (fun u => { u with sess := some y })).put UPD_NEXT.OFFS off).put UPD_RECV.BYTES off
    if off % 4096 = 0 then
      let u := t.blockDone y (off / 4096 - 1)
      (u, decide (u.get UPD_NEXT.OFFS ≠ off))
    else (t, false)
  | _, _ => acc

/-- Package data of the owner (R443 step 2): the words and whether the flash was busy. Without a session it ends with code 17. -/
def State.updData (s : State) (ws : List Word) : State × Bool :=
  if s.upd.sess.isNone then (s.result 17, false)
  else if s.upd.busy then (s, true)
  else ((ws.foldl State.updWord (s, false)).1, false)

/-- The checks of END (R446, R447): code and DETAIL. -/
def State.endCode (s : State) (x : Session) : Nat × Nat :=
  let need := manBlks x.man * blockWords
  if x.man = [] ∨ x.man.length ≠ need ∨ x.block ≠ [] ∨ s.get UPD_RECV.BYTES ≠ manPkgLen x.man % 2 ^ 25 then (4, 0)
  else if x.defer then (if manOk x.man then (0, 0) else (5, 0))
  else s.verify (x.man ++ x.stored)

/-- END with the checks a code gives (R443 step 5): the slot, the directory and E13B; RECOVREQ clears on success in Dormer (R62). -/
def State.endWithCode (s : State) (x : Session) (c : Nat × Nat) : State :=
  if c.1 = 0 then
    let t := s.setSlot s.dirNow.stag (x.man ++ x.stored)
    let t := t.modUpd (fun u => { u with sess := none, busy := false })
    let t := (t.writeDir (fun d => { d with sstate := if x.defer then 3 else 2, smanid := manId x.man })).setUpd usSTAGED
    let t := (t.put UPD_STAT.OWNER 0).result 0
    let t := if s.inDormer then t.clear SOF_DBSTAT.RECOVREQ else t
    let t := if s.leading ∧ s.upd.chain.isSome then (t.put UPD_CHAINST.STAGED (t.get UPD_CHAINST.STAGED ||| 1)).sendAct actVERIFY 0 else t
    t.fire 0x13B 0
  else ((s.noteImage c).failSession c.1 c.2).fire 0x13B c.1

/-- END (R443, R446). -/
def State.updEnd (s : State) : State :=
  match s.upd.sess with
  | none => s.result 17
  | some x => s.endWithCode x (s.endCode x)

/-- ABORT (R443). -/
def State.updAbort (s : State) : State :=
  if s.upd.sess.isNone then s.result 17
  else
    let t := if s.leading then s.sendAct actABORT 0 else s
    t.endSession

/-! ### Activation, confirmation and fallback (R448, R449, R457 to R459, R464, R466, R467) -/

/-- The manifest of ACTIVE and of STAGING. -/
def State.actMan (s : State) : List Word := s.slot s.dirNow.act
def State.stagMan (s : State) : List Word := s.slot s.dirNow.stag

/-- Dormer: the roles rotate and ACTIVE boots in TRIAL, its tCONFIRM at the full value, from step 4 of R47; the service port goes on (R467). -/
def State.dormerBoot (s : State) : State :=
  let t := s.writeDir (fun d => d.rotate 0)
  let t := ((t.loseRidge.loseBatten).loseHost).loseJotil
  let t := ((t.clear RDG_STAT.OUTAGE).clear GLB_BOOTSTAT.DORMER).put GLB_BOOTSTAT.DCAUSE 0
  let t := (t.modUpd (fun u => { u with confFull := manConf t.actMan })).put UPD_CONFTIME.SECS (manConf t.actMan)
  (((t.put GLB_BOOTSTAT.STAGE 3).setUpd usIDLE)).modBoot (fun b => { b with inReset := some 2 })

/-- ACTIVATE (R448, R449, R464, R467); dirOk says that the directory write, with its retry, succeeds (R470). -/
def State.updActivate (s : State) (nextboot dirOk : Bool) : State :=
  let d := s.dirNow
  let chain := manChain s.stagMan
  if (d.sstate ≠ 2 ∧ d.sstate ≠ 3) ∨ d.trial ∨ s.upd.sess.isSome ∨ s.upd.relay.isSome then s.result 17
  else if s.inDormer then
    if nextboot then s.result 17 else if dirOk then (s.result 0).dormerBoot else s.result 16
  else if s.get GLB_BOOTSTAT.STAGE ≠ 6 then s.result 17
  else if nextboot then
    if chain then s.result 17 else if dirOk then (s.writeDir (fun x => { x with nextboot := true })).result 0 else s.result 16
  else if s.bit GLB_SUPSTAT.XSPI1S then s.result 17 1
  else if chain then
    if !s.leading then s.result 17
    else match s.upd.chain with
      | none => s.result 19
      | some c =>
        if c.reports.all (fun r => r.2.2.1 == 2 && s.jtl.members.any (fun k => k.1 == r.1)) then
          let a := (s.get JTL_IDXNUM.IDXNUM + 64) % 2 ^ 32
          let t := (s.modUpd (fun u => { u with chain := u.chain.map (fun x => { x with apply := some a, armed := true }) })).put UPD_CHAIN.IDX a
          ((t.askRelay 1 0x11 0 (some a)).sendAct actACTIVATE a).result 0
        else s.result 19
  else (s.askRelay 1 0x11 0).result 0

/-- The next burn that CONFIRM still needs (R457): ANTIRB, KEYREV with REVOKEOLD, EPOCH for a chain manifest. -/
def State.confirmBurn (s : State) : Option Burn :=
  let m := s.actMan
  if s.antirb < manRollback m then some { kind := 4, word := 0, value := BitVec.ofNat 64 (manRollback m) }
  else if manRevoke m ∧ s.keyrev < manGen m then some { kind := 2, word := 1, value := BitVec.ofNat 64 (manGen m) }
  else if manChain m ∧ s.epoch < manEpoch m then some { kind := 2, word := 2, value := BitVec.ofNat 64 (manEpoch m) }
  else none

/-- The log changes format at CONFIRM (R458): a fresh sector in SLFMTNEW that begins with an ENERGY record. -/
def State.newFormat (s : State) (fmt : Nat) : State :=
  if s.slate.fmt < fmt then
    let r : LogRec := { ty := recENERGY, payload := s.energyPayload 0, sec := s.soffit.sec, usec := s.soffit.usec, tv := s.timeValid }
    (s.modSlate (fun l => { l with fmt := fmt, cur := l.cur.map (fun c => (c.1, 4096)), buf := r :: l.buf })).energyTaken
  else s

/-- Show whether PREVIOUS would fail verification (R457, R472). -/
def State.showPrev (s : State) : State := s.flag UPD_STAT.PREVBAD ((s.verify (s.slot s.dirNow.prev)).1 != 0)

/-- CONFIRM is made (R457 steps 2 to 4). -/
def State.confirmed (s : State) : State :=
  let t := (s.writeDir (fun d => { d with trial := false, trials := 0, chainApply := 0 })).newFormat (manFmtNew s.actMan)
  let t := ((t.setUpd usIDLE).put UPD_CONFTIME.SECS 0).clear UPD_STAT.CHAIN
  let t := t.showPrev.result 0
  (t.modUpd (fun u => { u with confirming := none, chain := none })).fire 0x13D t.antirb

/-- CONFIRM goes on (R457): the next burn, or its end. It waits while a burn runs (R469). -/
def State.confirmStep (s : State) : State :=
  match s.upd.confirming with
  | none => s
  | some dirOk =>
    if s.otp.burn.isSome then s
    else match s.confirmBurn with
      | some b => s.startBurn b
      | none => if dirOk then s.confirmed else (s.modUpd (fun u => { u with confirming := none })).result 16

/-- CONFIRM (R457, R466, R467). -/
def State.updConfirm (s : State) (dirOk : Bool) : State :=
  if !s.dirNow.trial || s.inDormer || s.upd.relay.isSome || s.upd.confirming.isSome || (manChain s.actMan && !s.leading) then s.result 17
  else if s.confirmBurn.isSome && !s.bit OTP_STAT.VHVPGM then s.result 18
  else
    let t := if manChain s.actMan then s.sendAct actCONFIRM 0 else s
    (t.modUpd (fun u => { u with confirming := some dirOk })).confirmStep

/-- REVERT (R459, R466, R467). -/
def State.updRevert (s : State) : State :=
  if s.inDormer || s.upd.relay.isSome || (manChain s.actMan && !s.leading) || (!s.dirNow.trial && s.bit UPD_STAT.PREVBAD) ||
      s.get GLB_BOOTSTAT.STAGE != 6 then s.result 17
  else
    let t := if manChain s.actMan && s.dirNow.trial then s.sendAct actFALLBACK 0 else s
    (t.askRelay 2 0x11 0x21).result 0

/-- A member that fell back reports it when it joins the chain again (R466). -/
def State.reportFallback (s : State) : State :=
  if s.dirNow.sstate = 4 ∧ manChain s.stagMan then s.sendStatAs (manId s.stagMan) 0xFFFFFF else s

/-- Everything a UPD_CMD word commands, with its KEY already judged; owner is the writer's number. -/
def State.updCmd (s : State) (owner : Nat) (v : Word) (dirOk : Bool) : State :=
  let op := UPD_CMD.OP.of v
  if op = 1 then s.updBegin owner (UPD_CMD.DEFER.of v == 1) none none
  else if op = 2 then s.updEnd
  else if op = 3 then s.updActivate (UPD_CMD.NEXTBOOT.of v == 1) dirOk
  else if op = 4 then s.updConfirm dirOk
  else if op = 5 then s.updAbort
  else if op = 6 then s.updRevert
  else s

end Sys2Proof.Machine
end

