-- ==== Sys2Proof/Machine/Views.lean ====
section
/-!
DEFINITION. What a read of a register returns (R10, R80, R189 to R191, R199, R291, R301, R383, R410, R432): words that are computed from the rest of the
state, the latched groups of a host port, and what a completed read does (R340).
-/

namespace Sys2Proof.Machine

/-! ### OTP window (R432) -/

/-- A counter word at the normal reference: every burned bit, and which marginal bits read 1 in this copy is open (assumption log 9). -/
def State.counterWord (s : State) (w : Nat) : BitVec 64 :=
  let g := (w - 0x1E0) / 3
  if w < 0x1F2 then s.otp.ctr.getD g 0 ||| (s.otp.ctrMarg.getD g 0 &&& Config.marginRead w (s.otp.ctrMarg.getD g 0)) else 0

/-- The shadow and the fuse value of the window's word. -/
def State.windowShadow (s : State) : BitVec 64 :=
  let w := s.get OTP_SHADDR.ADDR
  if w < 0x1E0 then s.shadow w else s.counterWord w
def State.windowFuse (s : State) : BitVec 64 :=
  let w := s.get OTP_SHADDR.ADDR
  if w < 0x1E0 then wideGet s.otp.fuses w else s.counterWord w

/-- OTP_WSTAT[j]: eight status codes. -/
def State.wstatWord (s : State) (j : Nat) : Word :=
  BitVec.ofNat 32 (((List.range 8).map (fun i => (if 8 * j + i < 0x1E0 then s.wordStatus (8 * j + i) else 0) * 16 ^ i)).sum)

/-- OTP_OVRMASK[j]: the words that hold an override. -/
def State.ovrWord (s : State) (j : Nat) : Word :=
  BitVec.ofNat 32 (((List.range 32).map (fun i => b2n (s.hasOver (32 * j + i)) * 2 ^ i)).sum)

/-- The computed words of the OTP block. -/
def State.otpView (s : State) (a : Nat) : Word :=
  if a = OTP_CTR.at then BitVec.ofNat 32 (s.antirb % 512 + s.keyrev % 128 * 2 ^ 16 + s.epoch % 128 * 2 ^ 24)
  else if a = OTP_SHDATA0.at then s.windowShadow.truncate 32
  else if a = OTP_SHDATA1.at then (s.windowShadow >>> 32).truncate 32
  else if a = OTP_FUSE0.at then s.windowFuse.truncate 32
  else if a = OTP_FUSE1.at then (s.windowFuse >>> 32).truncate 32
  else if 0x2100 ≤ a ∧ a < 0x2200 then s.wstatWord ((a - 0x2100) / 4)
  else if 0x2200 ≤ a ∧ a < 0x2240 then s.ovrWord ((a - 0x2200) / 4)
  else s.rd a

/-! ### Ridge and Truss (R190, R191) -/

/-- The tentative ops of a port. -/
def State.tentOf (s : State) (n : Fin 16) : List Op := s.ridge.window.filter (fun o => o.tent && o.port == n.val)

/-- RDG_TENT[n][w], the tentative view (R177, R190). -/
def State.tentWord (s : State) (n : Fin 16) (w : Nat) : Word :=
  match s.tentOf n with
  | [] => 0
  | o :: rest =>
    let ops := o :: rest
    let p := s.ports[n]
    let sh := if ops.any (fun x => x.cls == clsSETP) then p.shadow else none
    let ar := if ops.any (fun x => x.cls == clsLIM) then p.armed else none
    let hold := ops.any (fun x => x.cls == clsTRUSS && s.bit (TRS_HOLD.VALID n) && s.get (TRS_HOLD.TAG n) == x.tag)
    let tag := if o.pv then o.pred else 0
    BitVec.ofNat 32 (match w with
      | 0 => b2n sh.isSome + 2 * b2n ar.isSome + 4 * b2n hold + ops.length % 256 * 2 ^ 8 + tag % 256 * 2 ^ 16 + b2n o.predictor * 2 ^ 30 + 2 ^ 31
      | 1 => (sh.map ShadowBank.v10).getD 0 % 65536 + (sh.map ShadowBank.ma).getD 0 % 65536 * 65536
      | 2 => (ar.map ArmedCurve.fuseIdx).getD 0 % 16 + (ar.map ArmedCurve.iref).getD 0 % 65536 * 65536
      | _ => (if hold then s.holdOf n else 0) % 65536 + min 65535 ((s.now - o.at_us) / 10) * 65536)

/-- The record of the window entry with a tag, 0 when it is empty. -/
def State.winRecord (s : State) (tag : Nat) : BitVec 64 :=
  match s.ridge.window.find? (fun o => o.tag == tag) with
  | some o => o.record
  | none => 0

/-- The computed words of the RDG block. -/
def State.rdgView (s : State) (a : Nat) : Word :=
  if a = RDG_STAT.at then
    BitVec.ofNat 32 (s.ridge.window.length % 512 + (s.ridge.window.filter Op.tent).length % 256 * 2 ^ 16 + b2n s.outage * 2 ^ 24)
  else if 0x3020 ≤ a ∧ a < 0x3030 then
    BitVec.ofNat 32 (((List.range 4).map (fun k => occPort s.ridge.window (a - 0x3020 + k) % 256 * 256 ^ k)).sum)
  else if h : 0x3400 ≤ a ∧ a < 0x3500 then s.tentWord ⟨(a - 0x3400) / 16, by omega⟩ ((a - 0x3400) % 16 / 4)
  else if 0x3800 ≤ a then
    if (a - 0x3800) % 8 = 0 then (s.winRecord ((a - 0x3800) / 8)).truncate 32 else (s.winRecord ((a - 0x3800) / 8) >>> 32).truncate 32
  else s.rd a

/-- A count in a 16-bit field. -/
def word16 (k : Nat) : Word := BitVec.ofNat 32 (min 65535 k)

/-- TRS_FREE: max(0, free), the deficit, and whether free is below 0. -/
def State.freeWord (s : State) : Word :=
  let f := s.trussFree
  BitVec.ofNat 32 (min 65535 f.toNat + min 32767 (-f).toNat * 65536 + b2n (decide (f < 0)) * 2 ^ 31)

/-- The computed words of the TRS block. -/
def State.trsView (s : State) (a : Nat) : Word :=
  if a = TRS_EFF.at then word16 s.effBudget
  else if a = TRS_FLOORSUM.at then word16 s.floorSum
  else if a = TRS_ALLOCSUM.at then word16 s.allocSum
  else if a = TRS_HELD.at then word16 s.heldSum
  else if a = TRS_FREE.at then s.freeWord
  else if a = TRS_DEMAND.at then word16 s.demand
  else if h : 0x40C0 ≤ a ∧ a < 0x4100 then word16 (s.avail ⟨(a - 0x40C0) / 4, by omega⟩)
  else s.rd a

/-! ### Batten (R290, R291, R301) -/

/-- Word w of a queue entry (R290). -/
def QEntry.word (x : QEntry) (w : Nat) : Word :=
  BitVec.ofNat 32 (match w with
    | 0 => x.src % 512 + x.kind % 4 * 512 + x.data % 65536 * 65536
    | 1 => x.usec % 2 ^ 20
    | 2 => x.sec
    | _ => x.seq % 65536 + x.lost % 65536 * 65536)

/-- The oldest entry no host port has read. -/
def State.nextUnread (s : State) : Option QEntry := s.bat.queue.find? (fun x => !x.read)

/-- Sources with a hard route (R283). -/
def hardSource (e : Nat) : Bool :=
  if e < 0x100 then [0, 2, 3, 4, 5, 8, 11].contains (e % 16) else decide (0x120 ≤ e) && decide (e ≤ 0x127)

/-- Is a source or a destination of it absent on this device (R3)? -/
def State.routeAbsent (s : State) (e : Nat) : Bool :=
  s.lns8 && ((decide (0x080 ≤ e) && decide (e < 0x100)) || (s.routes e).any (fun r => dstAbsent r.dst))

/-- BAT_RT[e][w]. -/
def State.routeWord (s : State) (e w : Nat) : Word :=
  let rs := s.routes e
  if w < 3 then BitVec.ofNat 32 (((List.range 32).map (fun i => b2n (rs.any (fun r => r.dst == 32 * w + i)) * 2 ^ i)).sum)
  else BitVec.ofNat 32 (b2n (rs.any Route.queue) + 2 * b2n (hardSource e) + 4 * b2n (s.routeAbsent e))

/-- The computed words of the BAT block; BAT_QPOP reads all ones here, since only a host port pops it (R291). -/
def State.batView (s : State) (a : Nat) : Word :=
  if a = BAT_STAT.at then (s.rd a &&& ~~~3#32) ||| BitVec.ofNat 32 (b2n (s.unread != 0) + 2 * b2n (decide (384 ≤ s.bat.queue.length)))
  else if a = BAT_QSTAT.at then BitVec.ofNat 32 (s.bat.queue.length % 1024 + s.unread % 1024 * 65536)
  else if 0x5010 ≤ a ∧ a < 0x5020 then 0xFFFFFFFF
  else if 0x6000 ≤ a ∧ a < 0x7400 then s.routeWord ((a - 0x6000) / 16) ((a - 0x6000) % 16 / 4)
  else s.rd a

/-! ### Metering (R410) -/

/-- Word i of a port's metering page. -/
def State.pageWord (s : State) (n : Fin 16) (i : Nat) : Word :=
  let m := s.meter n
  if i < 2 then wordAt (eWords m.etot 0) i
  else if i = 3 ∨ i = 4 then wordAt (eWords m.ivE 0) (i - 3)
  else if 8 ≤ i ∧ i < 24 then wordAt (eWords (m.bands.getD ((i - 8) / 2) 0) 0) ((i - 8) % 2)
  else s.rd (0xB400 + 0x80 * n.val + 4 * i)

/-- The computed words of the MTR block. -/
def State.mtrView (s : State) (a : Nat) : Word :=
  if h : 0xB400 ≤ a ∧ a < 0xBC00 then s.pageWord ⟨(a - 0xB400) / 0x80, by omega⟩ ((a - 0xB400) % 0x80 / 4) else s.rd a

/-! ### Thatch (R80, R97) -/

/-- The directory word i of the running image: two words for each record (R80). -/
def State.dirWord (s : State) (i : Nat) : Word :=
  match s.recs[i / 2]? with
  | none => 0
  | some r => if i % 2 = 0 then r.head0 else BitVec.ofNat 32 (4 * r.off)

/-- The contents of the records that a test selects, without their places. -/
def recsWhere (rs : List ThaRec) (p : ThaRec → Bool) : List (Nat × Nat × List Word) := (rs.filter p).map (fun r => (r.ty, r.inst, r.payload))

/-- The functions whose records differ from ACTIVE (R89): 0 to 15 the ports, 16 the wiring, 17 the authority map. -/
def State.diverged (s : State) : List Nat :=
  let a := s.recs
  let b := (imgRecs s.tha.active).1
  (List.range 18).filter (fun f =>
    let p := fun (r : ThaRec) => if f < 16 then r.inst == f else if f = 16 then r.ty == tyBATWIRE else r.ty == tyAUTHORITY
    recsWhere a p != recsWhere b p)

/-- THA_DIVMASK. -/
def State.divWord (s : State) : Word := BitVec.ofNat 32 ((s.diverged.map (fun f => 2 ^ f)).sum)

/-- The computed words of the Thatch window. -/
def State.thaView (s : State) (a : Nat) : Word :=
  if a < 0x58000 then (if (a - 0x40000) / 4 < imgLen s.running / 4 then wordAt s.running ((a - 0x40000) / 4) else 0)
  else if a < 0x5A000 then s.dirWord ((a - 0x58000) / 4)
  else if a = THA_DIVMASK.at then s.divWord
  else if a = THA_STAT.at then THA_STAT.DIVERGED.set (s.rd a) (b2n (!s.diverged.isEmpty))
  else s.rd a

/-! ### Slices (R199) -/

/-- The fields of RAF_CTRL that the lead alone holds: UPDN, UPDHALF, INTLV and DBGEAVE. -/
def leadMask : Word := (RAF_CTRL.UPDN 0).mask ||| (RAF_CTRL.UPDHALF 0).mask ||| (RAF_CTRL.INTLV 0).mask ||| (RAF_CTRL.DBGEAVE 0).mask

/-- A read of a lead-only register or field of another leg returns the lead's value. -/
def State.sliceView (s : State) (k : Fin 48) (a : Nat) : Word :=
  let l := s.leadFor k
  if a = RAF_PERIOD.at k then s.rd (RAF_PERIOD.at l)
  else if a = RAF_PHASE.at k then s.rd (RAF_PHASE.at l)
  else if a = RAF_DITHER.at k then s.rd (RAF_DITHER.at l)
  else if a = RAF_CTRL.at k then (s.rd a &&& ~~~leadMask) ||| (s.rd (RAF_CTRL.at l) &&& leadMask)
  else s.rd a

/-! ### Soffit, Host, Jotil, ports -/

/-- Does a Level 1 reverse push run (SOF_DBSTAT.REVPUSH)? -/
def State.revPushing (s : State) : Bool := [(0 : Fin 16), 1].any (fun n => s.ports[n].rom && s.stageOn n)

/-- The computed words of the SOF block; the time words are live here (R383). -/
def State.sofView (s : State) (a : Nat) : Word :=
  if a = SOF_DBSTAT.at then SOF_DBSTAT.REVPUSH.set (s.rd a) (b2n s.revPushing)
  else if a = SOF_SVCCTL.at then BitVec.ofNat 32 (s.get SOF_DBSTAT.RECOVREQ)
  else if a = SOF_TIME_SUB.at then BitVec.ofNat 32 (subOf s.soffit.usec)
  else if a = SOF_TIME_SEC.at then BitVec.ofNat 32 s.soffit.sec
  else if a = SOF_TIME_USEC.at then BitVec.ofNat 32 s.soffit.usec
  else s.rd a

/-- The computed words of the HST block. -/
def State.hstView (s : State) (a : Nat) : Word :=
  if a = HST_STAT.at then HST_STAT.UPDATE.set (s.rd a) (b2n s.spiUpdate)
  else if h : 0x8080 ≤ a ∧ a < 0x80C0 then BitVec.ofNat 32 s.ports[(⟨(a - 0x8080) / 4, by omega⟩ : Fin 16)].gen
  else s.rd a

/-- The computed words of a port block. -/
def State.portView (s : State) (n : Fin 16) (a : Nat) : Word :=
  if a = PCC_STATUS.at n then
    (PCC_STATUS.DBRD n).set (s.rd a) (if !s.islandUp n.val then 0 else if n.val = 0 then s.get SOF_DBSTAT.DBRD0 else if n.val = 1 then s.get SOF_DBSTAT.DBRD1 else 0)
  else s.rd a

/-- The live value that a read of an address returns, 0 for a write-only register (R10) and for an absent port or slice (R3). -/
def State.view (s : State) (a : Nat) : Word :=
  if s.isAbsent a || (regRow a).any (fun r => r.acc == .wo) then 0
  else match blockOf a with
    | none => 0
    | some .glb => s.rd a
    | some .sof => s.sofView a
    | some .otp => s.otpView a
    | some .rdg => s.rdgView a
    | some .trs => s.trsView a
    | some .bat => s.batView a
    | some .hst => s.hstView a
    | some .jtl => if a = JTL_STAT.at then JTL_STAT.EN.set (s.rd a) (s.get JTL_CFG.EN) else s.rd a
    | some .upd => s.rd a
    | some .mtr => s.mtrView a
    | some .gpc => s.rd a
    | some (.port n) => s.portView n a
    | some (.slice k) => s.sliceView k a
    | some .thatch => s.thaView a

/-! ### A read by a host port (R189, R340) -/

/-- The group a word latches, without the word itself: none for a word that latches nothing (R189, R291, R432). -/
def latchGroup (a : Nat) : List Nat :=
  if a = OTP_SHDATA0.at then [OTP_SHDATA1.at]
  else if a = OTP_FUSE0.at then [OTP_FUSE1.at]
  else if a = 0x5010 then [0x5014, 0x5018, 0x501C]
  else if 0x3400 ≤ a ∧ a < 0x3500 ∧ a % 16 = 0 then [a + 4, a + 8, a + 12]
  else if 0x3800 ≤ a ∧ a < 0x4000 ∧ a % 8 = 0 then [a + 4]
  else []

/-- Mark the oldest unread entry of the event queue as read (R291). -/
def markFirst : List QEntry → List QEntry
  | [] => []
  | x :: t => if x.read then x :: markFirst t else { x with read := true } :: t

/-- A host port reads the first word of a latched group: the group's other words are latched for it; BAT_QPOP also pops. -/
def State.latchRead (s : State) (hp : HostPort) (a : Nat) : Word × State :=
  if a = 0x5010 then
    match s.nextUnread with
    | none => (0xFFFFFFFF, s.modHp hp (fun p => { p with latch := none }))
    | some x =>
      (x.word 0, (s.modBat (fun b => { b with queue := markFirst b.queue })).modHp hp (fun p => { p with
        latch := some { trigger := a, words := [(0x5014, x.word 1), (0x5018, x.word 2), (0x501C, x.word 3)] } }))
  else (s.view a, s.modHp hp (fun p => { p with latch := some { trigger := a, words := (latchGroup a).map (fun b => (b, s.view b)) } }))

/-- The first word of a port's metering page, none elsewhere (R410). -/
def pageStart (a : Nat) : Bool := decide (0xB400 ≤ a) && decide (a < 0xBC00) && a % 0x80 == 0

/-- The page of a port is latched for a host port (R410). -/
def State.latchPage (s : State) (hp : HostPort) (a : Nat) : State :=
  s.modHp hp (fun p => { p with
    pages := (List.range 31).map (fun i => (a + 4 + 4 * i, s.view (a + 4 + 4 * i))) ++ p.pages.filter (fun w => !(decide (a ≤ w.1) && decide (w.1 < a + 0x80))) })

/-- What a read of one word does beside latching: TRS_STAT clears REBUILT (R191), SOF_TIME_SUB takes the snapshot (R383), a page is latched (R410). -/
def State.readEffect (s : State) (hp : HostPort) (a : Nat) : State :=
  if a = TRS_STAT.at then s.clear TRS_STAT.REBUILT
  else if a = SOF_TIME_SUB.at then s.modHp hp (fun p => { p with timeSnap := (subOf s.soffit.usec, s.soffit.sec, s.soffit.usec) })
  else if pageStart a then s.latchPage hp a
  else s

/-- A word whose value is what the hardware finds at the read, made of a free value: the gate voltage PEV_GATE (assumption log 10), the VCONN current while VCONN is on
(R111), and the counter of a running slice between 0 and PRD (R222, assumption log 121). -/
def State.measured (s : State) (a : Nat) (v : BitVec 64) : Option Word :=
  match blockOf a with
  | some (.port n) =>
    if !s.present n then none
    else if a = PEV_GATE.at n then some ((v.truncate 8).zeroExtend 32)
    else if a = PCC_VCONN.at n ∧ s.bit (PCC_STATUS.VCONNON n) then some ((PCC_VCONN.IMA n).set (s.rd a) v.toNat)
    else none
  | some (.slice k) =>
    if a = RAF_CNT.at k ∧ s.slicePresent k ∧ s.bit (RAF_STAT.RUN k) then
      some ((RAF_CNT.COUNT k).set (s.rd a) (v.toNat % (s.get (RAF_PERIOD.PRD (s.leadFor k)) + 1)))
    else none
  | _ => none

/-- The word a host port reads where no latch holds it: its time snapshot, its latched page, a measured word, else the live value. -/
def State.readLive (s : State) (hp : HostPort) (a : Nat) : Word :=
  if a = SOF_TIME_SEC.at then BitVec.ofNat 32 s.host.ports[hp.idx].timeSnap.2.1
  else if a = SOF_TIME_USEC.at then BitVec.ofNat 32 s.host.ports[hp.idx].timeSnap.2.2
  else if 0xB400 ≤ a ∧ a < 0xBC00 then (cellGet s.host.ports[hp.idx].pages a).getD (s.view a)
  else (s.measured a (Config.freeValue s.freeCtr)).getD (s.view a)

/-- The word a reader without latches sees: a VDM READ (R158). -/
def State.readShared (s : State) (a : Nat) : Word := (s.measured a (Config.freeValue s.freeCtr)).getD (s.view a)

/-- Does a read of this word use a free value? -/
def State.readFree (s : State) (a : Nat) : State := if (s.measured a 0).isSome then { s with freeCtr := s.freeCtr + 1 } else s

/-- A host port reads one word (R189): its value and the state with what the read does. -/
def State.readWord (s : State) (hp : HostPort) (a : Nat) : Word × State :=
  if !(latchGroup a).isEmpty then s.latchRead hp a
  else match s.host.ports[hp.idx].latch.bind (fun l => cellGet l.words a) with
    | some v => (v, s)
    | none => (s.readLive hp a, ((s.readFree a).modHp hp (fun p => { p with latch := none })).readEffect hp a)

/-- Read words in ascending order: the words and the state with every side effect. -/
def State.readWords (s : State) (hp : HostPort) : List Nat → List Word × State
  | [] => ([], s)
  | a :: t =>
    match s.readWord hp a with
    | (v, u) =>
      match u.readWords hp t with
      | (vs, w) => (v :: vs, w)

end Sys2Proof.Machine
end

