-- ==== Sys2Proof/Machine/ThaOps.lean ====
section
/-!
DEFINITION. Thatch operations (R80 to R97): the edit buffer and its claim, the checks of an edit, the phases of a live apply and of a
strip-and-relay, and the outcomes of the scrubber.
-/

namespace Sys2Proof.Machine

/-! ### The edit buffer (R80, R85) -/

/-- The 3072 words of the edit buffer. -/
def State.editWords (s : State) : List Word := (List.range 3072).map (fun i => s.rd (0x5C000 + 4 * i))

/-- Clear the edit buffer. -/
def State.clearEdit (s : State) : State := s.dropRegs 0x5C000 0x5F000

/-- A write of THA_EDCLAIM by host port number p: 1 claims and clears the buffer unless another port holds it; 0 by the owner releases it. -/
def State.edClaim (s : State) (p : Nat) (v : Word) : State :=
  let held := s.bit THA_EDCLAIM.CLAIM
  if v.toNat % 2 = 1 then
    if held && s.get THA_EDCLAIM.OWNER != p then s
    else ((s.clearEdit).put THA_EDCLAIM.OWNER p).raise THA_EDCLAIM.CLAIM
  else if held && s.get THA_EDCLAIM.OWNER == p then (s.clear THA_EDCLAIM.CLAIM).clear THA_EDCLAIM.OWNER
  else s

/-! ### Ending an operation (R87, R95) -/

/-- The operation in progress ends with a RESULT: E112 tells it done, E113 any other end. -/
def State.endSr (s : State) (result : Nat) : State :=
  (((s.modTha (fun h => { h with op := none })).clear THA_SRSTAT.PHASE).put THA_SRSTAT.RESULT result).fire (if result = 1 then 0x112 else 0x113)

/-- The running image takes the edits, and THA_GEN counts (R80, R82). -/
def State.takeEdits (s : State) (edits : List Word) : State :=
  (s.setRunning (applyEdits s.running (editRecs edits).recs)).wrapInc THA_GEN.GEN

/-! ### Checks of an edit (R79, R84, R87) -/

/-- The slices port n lends and those of them that port n + 1 drives, in an image (R86). -/
def lentUse (rs : List ThaRec) (n : Nat) : Nat × List Nat :=
  let up := structOf rs (n + 1)
  ((structOf rs n).lend, if up.en then up.used.filter (fun k => k / 3 == n) else [])

/-- The ports a strip-and-relay of function f concerns (R86): port n, and n + 1 when a slice that n lends to it changes. -/
def concerned (old new : List ThaRec) (f : Nat) : List Nat :=
  if 16 ≤ f then [] else if f < 15 ∧ lentUse old f ≠ lentUse new f then [f, f + 1] else [f]

/-- Check 14: no grant of an edited authority map is above the one in ACTIVE's image (R88). -/
def State.chkRaise (s : State) (er : List ThaRec) : Bool :=
  let a := (recWord (imgRecs s.tha.active).1 tyAUTHORITY instGlobal 0).getD defaultGrants
  er.all (fun r => r.ty != tyAUTHORITY || (List.range 6).all (fun k =>
    decide (fieldOf (wordAt r.payload 0) (4 * k + 3) (4 * k) ≤ fieldOf a (4 * k + 3) (4 * k))))

/-- May a live apply hold this record: a live one, of DEVICE only with its load-only words as they are (R68, R83)? -/
def State.liveEdit (s : State) (r : ThaRec) : Bool :=
  isLive r.ty && (r.ty != tyDEVICE || r.payload.drop 2 == ((recOf s.recs tyDEVICE instGlobal).getD []).drop 2)

/-- Check 15: every record lies within what the operation may change (R86). -/
def State.chkScope (s : State) (o : SrOp) (ports : List Nat) (er : List ThaRec) : Bool :=
  er.all (fun r =>
    if o.live then s.liveEdit r || isOptional r.ty
    else if o.func < 16 then (r.ty == tyPORTSTRUCT || isPortLive r.ty) && ports.contains r.inst
    else if o.func = 16 then r.ty == tyBATWIRE
    else r.ty == tyAUTHORITY)

/-- The checks of an operation on the running image as it would be: the code of the first that fails, 0 when all pass (R84, R87). -/
def State.editCheck (s : State) (o : SrOp) : Nat :=
  let e := editRecs o.edits
  let er := e.recs.filter (fun r => r.ty != tyEND)
  let new := applyEdits s.running er
  let w := (imgRecs new).1
  firstFail [(1, decide (imgLen new ≤ 0x18000) && decide (imgNrec new ≤ 1024)), (2, chkCrc e.recs), (3, chkType e.recs e.within),
    (4, noDup e.recs && e.ended), (5, chkMissing w), (6, chkVariant w s.lns8), (7, chkAllot w), (8, chkRole w), (9, chkPolicy w), (10, chkFuse w),
    (11, chkRoute w), (12, chkAuth w), (13, chkBudget w), (14, o.live || s.chkRaise er), (15, s.chkScope o (concerned s.recs w o.func) er)]

/-! ### Starting, cancelling, validating (R84, R87, R94) -/

/-- Remove the CFG op of the operation in progress from the window and from the ops that wait. -/
def State.dropCfg (s : State) : State :=
  let keep := fun (o : Op) => !(o.cls == clsCFG && o.reg.isNone)
  s.modRidge (fun r => { r with window := r.window.filter keep, waiting := r.waiting.filter keep })

/-- A cancel that is ignored is logged (R94): a host-order record, the one record of R399 that holds a host's order (assumption log 127). -/
def State.logCancel (s : State) (hp : HostPort) (v : Word) : State :=
  s.log recHOSTORDER [BitVec.ofNat 32 (hp.num + 8 + 256 * stOK), BitVec.ofNat 32 THA_SRCTL.at, v, BitVec.ofNat 32 s.soffit.usec]

/-- A write of THA_SRCTL at its commit, its KEY and refusals judged: OP 1 and 2 begin an operation with the buffer as it stands, OP 3 cancels one
before its commit and is logged after it. R87 gives PHASE for a restructure only; a live apply shows PHASE 1 while it is validated and 2 until its op commits, and
FUNC 0 then and after: that is this model's choice (assumption log 128). -/
def State.srCtl (s : State) (hp : HostPort) (v : Word) : State :=
  let op := THA_SRCTL.OP.of v
  let f := THA_SRCTL.FUNC.of v
  if op = 3 then
    if s.get THA_SRSTAT.PHASE = 1 ∨ s.get THA_SRSTAT.PHASE = 2 then s.dropCfg.endSr 7
    else if 3 ≤ s.get THA_SRSTAT.PHASE then s.logCancel hp v
    else s
  else if op = 0 ∨ (op = 2 ∧ 17 < f) then s
  else
    let t := s.modTha (fun h => { h with op := some {
      live := op == 1, func := if op = 1 then 0 else f, hp := hp, ports := [], edits := s.editWords, since := s.now } })
    (((t.put THA_SRSTAT.PHASE 1).put THA_SRSTAT.FUNC (if op = 1 then 0 else f)).clear THA_SRSTAT.RESULT).clear THA_SRSTAT.CHECK

/-- Validation ends: a failure ends the operation with RESULT 3 and its CHECK; else the CFG op enters, and every tentative op of the ports concerned is
cancelled (R87 phase 2). -/
def State.validated (s : State) (o : SrOp) : State :=
  let c := s.editCheck o
  if c ≠ 0 then ((s.put THA_SRSTAT.CHECK c).endSr 3).logFault 2 c
  else
    let new := (imgRecs (applyEdits s.running (editRecs o.edits).recs)).1
    let ports := if o.live then [] else concerned s.recs new o.func
    let t := (s.modTha (fun h => { h with op := some { o with ports := ports } })).put THA_SRSTAT.PHASE 2
    let t := ports.foldl (fun u n => u.cancelPort n) t
    t.offer (Op.mk0 (ports.headD portGlobal) clsCFG o.hp.src (if o.live then 1 else 2) o.func)

/-! ### Live apply (R84) -/

/-- A changed DEVICE record: the scrub period, and the budget through a TRUSS op. -/
def State.liveDevice (s : State) (o : SrOp) (rs : List ThaRec) : State :=
  let p := fieldOf ((recWord rs tyDEVICE instGlobal 1).getD 0) 2 0
  let t := if p ≤ 4 then s.put THA_SCRUBCFG.PERIOD p else s
  if imgBudget rs = s.get TRS_BUDGET.BUDGET then t else t.offer (Op.mk0 portGlobal clsTRUSS o.hp.src 2 (imgBudget rs))

/-- One record of a live apply becomes the settings of its block. -/
def State.liveRec (s : State) (o : SrOp) (rs : List ThaRec) (r : ThaRec) : State :=
  if isPortLive r.ty then
    if h : r.inst < 16 then
      let n : Fin 16 := ⟨r.inst, h⟩
      if !s.portUp n then s
      else if r.ty = tyPOLICY then s.policyChanged n
      else s.applyPortRec rs r.ty n
    else s
  else if r.ty = tyDEVICE then s.liveDevice o rs
  else if r.ty = tyTALLY then s.loadTally rs
  else if r.ty = tyMETER then (s.applyRec rs tyMETER instGlobal).showMtr
  else if r.ty = tyGPC then (s.applyRec rs tyGPC instGlobal).gpcsTaken
  else s.applyRec rs r.ty instGlobal

/-- The register words that a record of a live apply orders, POLICY, which has no register, none (R84). -/
def State.liveWords (s : State) (rs : List ThaRec) (r : ThaRec) : List (Nat × Word) :=
  if r.ty = tyDEVICE then
    [(TRS_BUDGET.at, BitVec.ofNat 32 (imgBudget rs)), (THA_SCRUBCFG.at, BitVec.ofNat 32 (fieldOf ((recWord rs tyDEVICE instGlobal 1).getD 0) 2 0))]
  else if r.ty = tyTALLY then let t := s.loadTally rs; (List.range 144).map (fun k => (BAT_TALLY0.at k, t.rd (BAT_TALLY0.at k)))
  else if r.ty = tyRAFTER then
    if h : r.inst < 16 then (rafterRegs (s.numberedLegs ⟨r.inst, h⟩) r.payload).filterMap (fun x => x.2.map (fun v => (x.1, v))) else []
  else (recRegs r.ty r.inst).filterMap (fun p => (recValue rs r.ty r.inst p.2).map (fun v => (p.1, v)))

/-- The orders of a record's words (R368): of the port that wrote THA_SRCTL, at its grant. -/
def State.liveOrders (s : State) (o : SrOp) (ws : List (Nat × Word)) : List Order := ws.map (wordOrder o.hp liveTxn (s.grant o.hp) s.soffit.usec)

/-- Does an order of a live apply lose against the orders that wait for the same target (R94, R370)? -/
def State.liveLoses (s : State) (x : Order) : Bool := (groupLosers (s.host.orders.filter (fun y => y.addr == x.addr) ++ [x])).any (fun l => l.1.txn == liveTxn)

/-- One record of a live apply at the commit (R84, R94, R368): its words join the order groups of their targets, and it takes effect where none of them loses. -/
def State.liveOrder (s : State) (o : SrOp) (rs : List ThaRec) (r : ThaRec) : State :=
  let xs := s.liveOrders o (s.liveWords rs r)
  let t : State := s.modHost (fun hs => { hs with orders := hs.orders ++ xs })
  if xs.any s.liveLoses then t else t.liveRec o rs r

/-- The commit of a live apply: its records take effect in one step and the running image changes. -/
def State.commitLive (s : State) (o : SrOp) : State :=
  let t := s.takeEdits o.edits
  let rs := t.recs
  let er := (editRecs o.edits).recs.filter (fun r => isLive r.ty)
  (((er.foldl (fun u r => u.liveOrder o rs r) t).applyFloors rs).changeE).endSr 1

/-! ### Strip-and-relay (R87, R94, R95) -/

/-- Deliver every edge that waits, in order. -/
def State.deliverAll : Nat → State → State
  | 0, s => s
  | k + 1, s =>
    match takeEdge s.bat.edges with
    | none => s
    | some (x, rest) => State.deliverAll k ((s.modBat (fun b => { b with edges := rest })).deliverEdge x)

/-- The swap point of FUNC 16: earlier edges follow the old wiring, every level-mode hold of it ends, and present levels are taken under the new one. -/
def State.swapWire (s : State) : State :=
  let t := (State.deliverAll s.bat.edges.length s).loadWire s.recs
  ((t.modBat (fun b => { b with irqLevel := [], cutLevels := [] })).followCut).retakeLevels

/-- Strip a port: it goes through ErrorRecovery, joining one that runs already. -/
def State.strip (s : State) (n : Fin 16) : State :=
  if s.portUp n && s.cc n != ccErrorRecovery then s.errRec n else s

/-- The commit of a strip-and-relay (R87 phase 3). The swap of FUNC 16 is one point of the commit itself, so that its phases 3 and 4 begin and end there; the ports
of a FUNC below 16 are stripped, and those without VBUS wait in phase 4 for the change. -/
def State.commitStrip (s : State) (o : SrOp) : State :=
  if o.func = 16 then ((s.takeEdits o.edits).swapWire).put THA_SRSTAT.PHASE 5
  else if o.func = 17 then s.put THA_SRSTAT.PHASE 3
  else
    let t := (s.modTha (fun h => { h with op := some { o with since := s.now } })).put THA_SRSTAT.PHASE 3
    ((portList o.ports).foldl State.strip t).srSafe

/-- A CFG op without a register commits (R84, R87). -/
def State.commitCfg (s : State) (sub : Nat) : State :=
  match s.tha.op with
  | none => s
  | some o =>
    if s.get THA_SRSTAT.PHASE ≠ 2 then s else if o.live ∧ sub = 1 then s.commitLive o else if ¬ o.live ∧ sub = 2 then s.commitStrip o else s

/-- Write the structure and the records of the running image to a stripped port (R87 phase 4); a port without power that the new structure needs is released. -/
def State.restructure (s : State) (n : Fin 16) : State :=
  let ps := structOf s.recs n.val
  if s.portUp n then ((s.setStruct n ps).loadPortRecs s.recs n).startRole n
  else if s.ports[n].released then s
  else (s.releasePort n).firstState n

/-- The change of the operation in progress: the new structure is in force from now on. -/
def State.srChange (s : State) (o : SrOp) : State :=
  let t := s.takeEdits o.edits
  let t := (portList o.ports).foldl (fun u n => u.dropLegs n) t
  let t := (portList o.ports).foldl State.restructure t
  ((t.applyFloors t.recs).resolveDeficit).put THA_SRSTAT.PHASE 5

/-- A stripped port relays: tErrorRecovery has elapsed and the change is complete. -/
def State.relayPort (s : State) (n : Fin 16) : State := (s.modPort n (fun p => { p with errElapsed := true })).leaveErrRec n

/-- The port strips of a new image (R92, R454): the change of those without VBUS. -/
def State.stripsChange (s : State) : State :=
  let ns := (portList s.tha.strips).filter s.vbusGone
  let t := ns.foldl (fun u n => u.dropLegs n) s
  let t := ns.foldl State.restructure t
  t.modTha (fun h => { h with strips := h.strips.map (fun x => if ns.any (fun n => n.val == x) then 32 + x else x) })

/-- The port strips whose change is complete relay, each as a function of its own; THA_SRSTAT reports the last (R454). -/
def State.stripsRelay (s : State) : State :=
  (allPorts.filter (fun n => s.tha.strips.contains (32 + n.val) && s.vbusGone n)).foldl (fun t n =>
    let u := t.modTha (fun h => { h with strips := h.strips.filter (fun x => x != 32 + n.val) })
    (((u.put THA_SRSTAT.FUNC n.val).put THA_SRSTAT.RESULT 1).fire 0x112).relayPort n) s

/-- Begin the strips of ports whose structure differs from the one that was in force (R92, R454). -/
def State.beginStrips (s : State) (ns : List (Fin 16)) : State :=
  ns.foldl State.strip (s.modTha (fun h => { h with strips := h.strips ++ ns.map (fun n => n.val) }))

/-! ### Scrubbing (R91, R92) -/

/-- The record a byte offset of the image area lies in. -/
def recAt (rs : List ThaRec) (a : Nat) : Option ThaRec := rs.find? (fun r => decide (4 * r.off ≤ a) && decide (a < 4 * (r.off + r.payload.length + 3)))

/-- May a word be fetched again from ACTIVE: its record, or the header, does not differ there; words past the image hold nothing (R92)? -/
def State.fetchable (s : State) (a : Nat) : Bool :=
  if imgLen s.running ≤ a then true
  else if a < 32 then s.running.take 8 == s.tha.active.take 8
  else match recAt s.recs a with
    | none => false
    | some r => (imgRecs s.tha.active).1.any (fun q => q.ty == r.ty && q.inst == r.inst && q.payload == r.payload && q.hdr1 == r.hdr1)

/-- A single-bit error is corrected in place. -/
def State.scrubCe (s : State) (a : Nat) : State :=
  ((((s.satInc THA_SCRUBSTAT.CE).put THA_ERRADDR.ADDR a).clear THA_ERRADDR.DOUBLE).fire 0x110).tallyPlain 128

/-- A double-bit error (R92): fetched again, the edit buffer cleared, or the Ridge reset with code 0x0F. -/
def State.scrubUe (s : State) (fetchOk : Bool) (a : Nat) : State :=
  let t := ((s.satInc THA_SCRUBSTAT.UE).put THA_ERRADDR.ADDR a).raise THA_ERRADDR.DOUBLE
  if 0x1C000 ≤ a ∧ a < 0x1F000 then
    let u := t.clearEdit
    let u := if u.get THA_SRSTAT.PHASE = 1 then (u.put THA_SRSTAT.CHECK 2).endSr 3 else u
    u.fire 0x111
  else if a < 0x18000 ∧ s.fetchable a ∧ fetchOk then t.fire 0x111
  else if 0x1A000 ≤ a then t.fire 0x111
  else ((t.loseRidge).modTha (fun h => { h with reload := true })).cause 0x0F islRidge

/-- A word of the Thatch SRAM that a read finds in error: with two bits wrong, or with one. -/
def State.scrubWord (s : State) (fetchOk : Bool) (x : Nat × Bool) : State := if x.2 then s.scrubUe fetchOk x.1 else s.scrubCe x.1

/-- Put a word into a list in ascending address order. -/
def insertWord (x : Nat × Bool) : List (Nat × Bool) → List (Nat × Bool)
  | [] => [x]
  | y :: t => if x.1 ≤ y.1 then x :: y :: t else y :: insertWord x t

/-- The words in error that a reader finds, in the ascending order in which it reads them (R91). -/
def faultWords (ce ue : List (BitVec 17)) : List (Nat × Bool) :=
  (ce.map (fun a => (a.toNat, false)) ++ ue.map (fun a => (a.toNat, true))).foldr insertWord []

/-- Take words in error in order, until one of them resets the Ridge. -/
def State.scrubWords (s : State) (fetchOk : Bool) (ws : List (Nat × Bool)) : State :=
  ws.foldl (fun u x => if u.islandUp islRidge then u.scrubWord fetchOk x else u) s

/-- The global live records of an image reloaded by Ridge that differ from those of before (R92). -/
def State.reloadGlobals (s : State) (old new : List ThaRec) : State :=
  let differs := fun (ty : Nat) => recOf old ty instGlobal != recOf new ty instGlobal
  let t := [tyHOSTCFG, tyJOTIL, tyGPC, tyMETER].foldl (fun u ty => if differs ty then u.applyRec new ty instGlobal else u) s
  let t := if differs tyGPC then t.gpcsTaken else t
  let t := if differs tyMETER then t.showMtr else t
  let t := if differs tyTALLY then t.loadTally new else t
  if differs tyDEVICE then ((t.loadDevice new).put TRS_BUDGET.BUDGET (imgBudget new)).changeE else t

/-- The live records of a port whose structure stays that differ in the image reloaded (R92). -/
def State.reloadPort (s : State) (old new : List ThaRec) (n : Fin 16) : State :=
  let differs := fun (ty : Nat) => recOf old ty n.val != recOf new ty n.val
  let t := [tyCCCFG, tySINKPOL, tyLOOPSET, tyRAFTER, tyFUSEBASE, tyGUTTER, tyVALLEY].foldl (fun v ty => if differs ty then v.applyPortRec new ty n else v) s
  if differs tyPOLICY then t.policyChanged n else t

/-- Ridge reloads an image after a reset for an uncorrectable word: what differs is taken, and ports of another structure are stripped and relayed to it (R92). -/
def State.reloadImage (s : State) (img : List Word) : State :=
  let old := s.recs
  let t := (s.setRunning img).modTha (fun h => { h with active := img, reload := false, op := none })
  let t := (t.wr THA_SRSTAT.at 0).wr THA_GEN.at 1
  let t := (t.put THA_STAT.FMTMIN (min 255 (fieldOf (wordAt img 1) 15 0))).put THA_IMGID.ID (wordAt img 5).toNat
  let new := t.recs
  let differs := fun (n : Fin 16) => structOf old n.val != structOf new n.val
  let t := if imgRoutes old = imgRoutes new then t else t.swapWire
  let t := (t.loadGrants).reloadGlobals old new
  let t := allPorts.foldl (fun u n => if u.portUp n && !differs n then u.reloadPort old new n else u) t
  ((t.applyFloors new).resolveDeficit).beginStrips (allPorts.filter differs)

end Sys2Proof.Machine
end

