-- ==== Sys2Proof/Machine/Boot.lean ====
section
/-!
DEFINITION. The meanings of the supply, boot and reset commands of chapter 02 (R34 to R62): what the monitors and the sequencers find is an
operand. HOST_READY_POINT, ROM_BOOT and the relay start stand with the update commands.
-/

namespace Sys2Proof.Machine

/-! ### Soffit starts (R41, R47) -/

/-- Soffit is powered and clocked: after a power-on the cause POR is recorded (R64), and the depletion Rd of ports 0 and 1 shows (R40). -/
def State.soffitUp (s : State) : State :=
  if s.islandUp islSoffit then s
  else
    let t := s.maskBit GLB_ISLPWR.ISL islSoffit true
    let t := (t.flag SOF_DBSTAT.DBRD0 (s.boot.rd.getD 0 0 == 1)).flag SOF_DBSTAT.DBRD1 (s.boot.rd.getD 1 0 == 1)
    if s.boot.inReset = some 0 ∧ t.get SOF_RESET_CAUSE.CODE = 0 then t.cause 0x01 islDevice else t

/-- The reset values that DEVCFG gives (R414), taken at a power-on (R52, R407). -/
def State.loadDevcfg (s : State) : State :=
  if s.boot.inReset = some 0 then
    let t := (s.put SOF_RTCCFG.SRC (s.devcfg 2 2)).put SOF_RTCCFG.TRIM (s.devcfg 31 16)
    let t := t.put SOF_TIME_STAT.SRC (s.devcfg 2 2)
    ((t.put SOF_WAKE_CFG.SVC (1 - s.devcfg 3 3)).put SOF_WAKE_CFG.CANWAKE (s.devcfg 4 4)).put SOF_WAKE_CFG.RTCALM (s.devcfg 5 5)
  else s

/-- The array is read and its shadows are loaded (R426, R431). -/
def State.readOtp (s : State) (reads : List OtpRead) (cs : CtrReads) : State := (s.bootRead reads cs).loadDevcfg

/-- Is the device waiting for its array to be read? -/
def State.wantsOtp (s : State) : Bool :=
  s.islandUp islSoffit && !s.bit OTP_STAT.LOADED && !s.boot.thermal && (s.boot.inReset == some 0 || s.boot.inReset == some 1)

/-- The service port is chosen (R41 steps 2 to 5): its island is released with the ROM sink policy on slices 3n and 3n + 1, its carrier and shunt from the service record
(R414), and both Rd are on. -/
def State.serviceUp (s : State) (n : Fin 16) : State :=
  let t := (s.dropPortRegs n).modPort n (fun p => { PortSt.reset with
    latched := p.latched, vconnLatched := p.vconnLatched, released := true, en := true, role := 1, topo := 1, rom := true })
  let t := (t.maskBit GLB_ISLPWR.ISL n.val true).nameLegs n [3 * n.val, 3 * n.val + 1]
  let prd := wideField (t.svcWord n.val 0) 49 34
  let prd := if 100 ≤ prd ∧ prd ≤ 4000 then prd else 500
  let rs := wideField (t.svcWord n.val 0) 33 26
  let t := (t.legsOf n).foldl (fun u k => (u.put (RAF_PERIOD.PRD k) prd).restartDt k) t
  let t := (t.put (PLP_CFG.RSHUNT n) (if rs = 0 then 50 else rs)).put (PPD_VDMCFG.VID n) t.otpVid
  let t := (((t.giveLatches n).startRole n).put (PGT_STATUS.SAFE0 n) 1).raise (PEV_STATUS.DIR n)
  let t := ((t.put SOF_DBSTAT.SVCPORT (n.val + 1)).raise SOF_DBSTAT.LEVEL1).put GLB_BOOTSTAT.LEVEL 1
  ((t.setRd n.val 2).setP n 0).firstState n

/-- Take a sample of VBUS0 and VBUS1 against the LDO start threshold. -/
def State.seeService (s : State) (v0 v1 : Bool) : State := (s.flag GLB_SUPSTAT.VBUS0SVC v0).flag GLB_SUPSTAT.VBUS1SVC v1

/-- Choose the service port (R41 step 2, R58), or go on sampling (R42). -/
def State.chooseService (s : State) : State :=
  if s.bit GLB_SUPSTAT.VBUS0SVC then (s.modBoot (fun b => { b with sampling := false })).serviceUp 0
  else if s.bit GLB_SUPSTAT.VBUS1SVC then (s.modBoot (fun b => { b with sampling := false })).serviceUp 1
  else s.modBoot (fun b => { b with sampling := true })

/-- POWER_ON_RESET: Soffit loses every source (R52). -/
def execPowerOnReset (s : State) : Res := done s.powerOn

/-- VDD_VALID: the boot sequence starts, or resumes at step 3 with the shadows loaded (R47); once the boot has passed its host-ready point it is a return of VDD. -/
def execVddValid (s : State) : Res :=
  let t := (s.raise GLB_SUPSTAT.VDDOK).followFeed
  if 4 ≤ s.get GLB_BOOTSTAT.STAGE ∨ s.bit GLB_SUPSTAT.VDDOK then done t
  else done ((t.modBoot (fun b => { b with sampling := false })).put GLB_BOOTSTAT.STAGE (if s.bit OTP_STAT.LOADED then 2 else 0))

/-- SOFFIT_DCO_LOCK: step 1 ends (R47). -/
def execSoffitDcoLock (s : State) : Res :=
  let t := s.soffitUp
  done (if s.bit GLB_SUPSTAT.VDDOK ∧ s.get GLB_BOOTSTAT.STAGE = 0 ∧ s.boot.inReset.isSome ∧ ¬ s.boot.thermal then t.put GLB_BOOTSTAT.STAGE 1 else t)

/-- OTP_BOOT_READ: step 2 ends (R47, R426): the words that read otherwise than the array holds them, and the reads of the counters. -/
def execOtpBootRead (reads : List OtpRead) (cs : CtrReads) (s : State) : Res :=
  if s.wantsOtp then
    let t := s.readOtp reads cs
    done (if s.bit GLB_SUPSTAT.VDDOK then t.put GLB_BOOTSTAT.STAGE 2 else t)
  else done s

/-! ### The reference (R476) -/

/-- Frequencies of R476 in 0.1 MHz, by REFCODE. -/
def refTable : List Nat := [160, 192, 200, 240, 250, 260, 320, 384, 400]

/-- The REFCODE of a count of XIN cycles over 64 µs: within ±2 % of a value (R476). -/
def refCode (cycles : Nat) : Option Nat :=
  (refTable.zipIdx.find? (fun p => decide (cycles * 500 ≤ p.1 * 64 * 51) && decide (p.1 * 64 * 49 ≤ cycles * 500))).map Prod.snd

/-- REFERENCE_SELECT: step 3 ends (R47, R476): the cycles counted, none when XIN does not start or fails its amplitude check. -/
def execReferenceSelect (cycles : Option (BitVec 12)) (s : State) : Res :=
  if s.get GLB_BOOTSTAT.STAGE = 2 ∧ s.bit GLB_SUPSTAT.VDDOK then
    let sel := s.devcfg 1 0
    let t := s.put GLB_BOOTSTAT.STAGE 3
    if sel = 1 ∨ sel = 2 then
      match cycles.bind (fun c => refCode c.toNat) with
      | some k => done ((t.put GLB_CLKSTAT.REFSRC sel).put GLB_CLKSTAT.REFCODE k)
      | none => done (((t.raise GLB_BOOTSTAT.XTALFAIL).put GLB_CLKSTAT.REFSRC 0).put GLB_CLKSTAT.REFCODE 15)
    else done ((t.put GLB_CLKSTAT.REFSRC 0).put GLB_CLKSTAT.REFCODE 15)
  else done s

/-! ### Steps 6 and 7 (R47 to R49) -/

/-- PORTGO: GLB_PORTGO is written (R48). -/
def execPortgo (hp : HostPort) (go : Bool) (s : State) : Res :=
  done (s.command hp GLB_PORTGO.at (BitVec.ofNat 32 (b2n go)) (fun t => t.portGo (BitVec.ofNat 32 (b2n go))))

/-- BOOT_DONE: step 7 (R47): the service level is 2 and E100 fires. -/
def execBootDone (s : State) : Res :=
  if s.get GLB_BOOTSTAT.STAGE = 5 ∧ s.boot.nextIsl = 16 ∧ s.upd.relay.isNone then
    let t := ((s.put GLB_BOOTSTAT.STAGE 6).put GLB_BOOTSTAT.LEVEL 2).modBoot (fun b => { b with inReset := none })
    done ((t.fire 0x100).followWait)
  else done s

/-! ### Level 1 (R41 to R43) -/

/-- DEAD_BATTERY_SEQUENCE: Soffit is powered without VDD (R41): VBUS0 and VBUS1 against the LDO start threshold, and what the array reads. -/
def execDeadBatterySequence (v0 v1 : Bool) (reads : List OtpRead) (cs : CtrReads) (s : State) : Res :=
  let t := ((s.seeService v0 v1).soffitUp).followFeed
  if !s.bit GLB_SUPSTAT.VDDOK && t.wantsOtp then done ((t.readOtp reads cs).chooseService) else done t

/-- SERVICE_VBUS_SAMPLE: the 1 ms sample of VBUS0 and VBUS1 (R42, R58). -/
def execServiceVbusSample (v0 v1 : Bool) (s : State) : Res :=
  let t := s.seeService v0 v1
  done (if s.boot.sampling && (!s.bit GLB_SUPSTAT.VDDOK || s.bit GLB_BOOTSTAT.DORMER) && (v0 || v1) then t.chooseService else t)

/-- DEPLETION_RD_OFF: 100 µs after the active Rd was applied (R41 step 4). -/
def execDepletionRdOff (s : State) : Res :=
  done ([0, 1].foldl (fun t n => if s.boot.rd.getD n 0 = 2 then t.setRd n 3 else t) s)

/-- Level 1 ends without VDD: the service port island loses its supply and the sequencer samples again (R38, R42). -/
def State.serviceDown (s : State) : State :=
  let k := s.get SOF_DBSTAT.SVCPORT
  let t := if h : 1 ≤ k ∧ k ≤ 2 then (s.losePort ⟨k - 1, by omega⟩).setRd (k - 1) 1 else s
  ((t.put SOF_DBSTAT.SVCPORT 0).put GLB_BOOTSTAT.LEVEL 0).modBoot (fun b => { b with sampling := true })

/-- After a supply has gone: without any, a power-on; on the service LDO alone, which feeds only Soffit and the service port (R51), the other islands lose power. -/
def State.afterLoss (s : State) : State :=
  if s.bit GLB_SUPSTAT.VDDOK || s.bit GLB_SUPSTAT.VHVOK then s.followFeed
  else if s.bit GLB_SUPSTAT.VBUS0SVC || s.bit GLB_SUPSTAT.VBUS1SVC then
    (if 3 ≤ s.get GLB_BOOTSTAT.STAGE then s.deviceReset false else s).followFeed
  else s.powerOn

/-- SERVICE_LDO_STOP: VBUS0 and VBUS1 fall below the LDO stop threshold (R35): Soffit, with no other source, is held in reset. -/
def execServiceLdoStop (s : State) : Res :=
  let t := s.seeService false false
  if t.bit GLB_SUPSTAT.VDDOK then done t
  else if t.bit GLB_SUPSTAT.VHVOK then doneAll s (if t.get GLB_BOOTSTAT.LEVEL = 1 then t.serviceDown else t)
  else done t.powerOn

/-! ### Supplies at Level 2 (R35, R37, R44, R55) -/

/-- VDD_POWER_FAIL: VDD falls through the power-fail threshold (R35, R402): off is the place in the tick in µs, reports the part of the tick up to then. -/
def execVddPowerFail (off : BitVec 10) (reports : List (Option Int)) (s : State) : Res :=
  done ((((s.raise GLB_SUPSTAT.PFAIL).level 0x102 true)).lastGasp off.toNat reports)

/-- VDD_POWER_FAIL_RELEASE: PFAIL clears, E102 releases and the last-gasp commit is armed again (R402, R497). -/
def execVddPowerFailRelease (s : State) : Res :=
  done (((s.clear GLB_SUPSTAT.PFAIL).level 0x102 false).modMtr (fun m => { m with gaspArmed := true }))

/-- VDD_LOSS: VDD falls below POR (R55): with VHV valid the Host island is reset, code 0x08. -/
def execVddLoss (s : State) : Res :=
  let t := s.clear GLB_SUPSTAT.VDDOK
  if s.bit GLB_SUPSTAT.VHVOK then
    done ((if s.islandUp islHost then (t.loseHost).cause 0x08 islHost else t).followFeed)
  else done t.afterLoss

/-- The Host island returns: authority from the image, the CAN FD controller back on the bus (R29). -/
def State.hostBack (s : State) : State :=
  let t := s.releaseHost s.host.addrPins
  if s.bit THA_STAT.LOADED then
    let t := t.loadRec t.recs tyHOSTCFG instGlobal
    (if t.bit HST_CANCTL.EN && !t.bit HST_CANCTL.SLEEP then t.put HST_CANSTAT.STATE 0 else t).loadGrants
  else t.bootGrants

/-- VDD_RETURN: the Host island is released and the queued events drain (R55). -/
def execVddReturn (s : State) : Res :=
  let t := (s.raise GLB_SUPSTAT.VDDOK).followFeed
  done (if 4 ≤ s.get GLB_BOOTSTAT.STAGE ∧ ¬ s.islandUp islHost ∧ s.upd.relay.isNone then t.hostBack else t)

/-- Gates and drivers have their supply again: waiting ports begin their attach (R44), and a service port with a contract closes the Eave and starts the push
that it could not drive (assumption log 114). -/
def State.resumeDrive (s : State) : State :=
  allPorts.foldl (fun t n =>
    if t.isService n && t.hasContract n && t.sink n == 17 && t.driveOk n && !t.eaveLive n then (t.sinkClose n (t.get (PPD_CONTRACTVI.MA n))).startPush n else t)
    s.vhvReturn

/-- VHV_OVERVOLTAGE (R37). -/
def execVhvOvervoltage (s : State) : Res :=
  let t := ((s.raise GLB_SUPSTAT.VHVOV).level 0x101 true).modBoot (fun b => { b with ovBar := true })
  doneAll s (t.followVhv.vhvGone)

/-- VHV_OVERVOLTAGE_RELEASE: E101 releases and the 10 ms of R37 start; VHVOV reads 1 until they have passed. -/
def execVhvOvervoltageRelease (s : State) : Res := done (s.level 0x101 false)

/-- VHV_OV_RECOVERY: VHV has stayed within its window for 10 ms (R37). -/
def execVhvOvRecovery (s : State) : Res :=
  if s.bat.levels.contains 0x101 || !s.boot.ovBar || !s.bit GLB_SUPSTAT.VHVOK then done s
  else doneAll s ((((s.clear GLB_SUPSTAT.VHVOV).modBoot (fun b => { b with ovBar := false })).followVhv).resumeDrive)

/-- VHV_UVLO: VHV falls below UVLO (R44). -/
def execVhvUvlo (s : State) : Res :=
  let t := (((s.clear GLB_SUPSTAT.VHVOK).clear OTP_STAT.VHVPGM).level 0x103 true).followVhv
  doneAll s (t.vhvLow.afterLoss)

/-- VHV_VALID: VHV rises above UVLO (R44); pgm says whether it allows OTP programming (R36, R421). -/
def execVhvValid (pgm : Bool) (s : State) : Res :=
  let t := (((s.raise GLB_SUPSTAT.VHVOK).flag OTP_STAT.VHVPGM pgm).level 0x103 false).followVhv
  doneAll s (t.resumeDrive.followFeed)

/-! ### Thermal and resets (R52, R53, R57, R60, R513) -/

/-- THERMAL_SHUTDOWN: the device is held in cold reset with the active Rd on ports 0 and 1 (R53). -/
def execThermalShutdown (s : State) : Res :=
  done ((s.modBoot (fun b => { b with thermal := true, rd := [3, 3] })).resetDevice false 0x02)

/-- THERMAL_RESTART: the hold ends; the boot runs from step 1 (R53). -/
def execThermalRestart (s : State) : Res :=
  if s.boot.thermal then done (([0, 1].foldl (fun t n => t.setRd n 1) s).modBoot (fun b => { b with thermal := false })) else done s

/-- THERMAL_WARNING: a crossing of the warning level (R513, R516). -/
def execThermalWarning (on : Bool) (s : State) : Res := done (s.thermalLevel on)

/-- RST_N: a low pulse of ns nanoseconds (R52): one of at least 1.0 µs is accepted and one under 0.2 µs rejected; between them the spec leaves it open. -/
def execRstN (ns : Nat) (s : State) : Res :=
  if ns < 200 then done s
  else if 1000 ≤ ns then done (s.resetDevice false 0x05)
  else match s.free with
    | (v, t) => done (if v.getLsbD 0 then t.resetDevice false 0x05 else t)

/-- A GLB_RESET write; its status is final before the reset begins. -/
def State.resetWrite (s : State) (hp : HostPort) (key : Byte) (kind : Nat) : State :=
  let v := BitVec.ofNat 32 (key.toNat * 2 ^ 24 + kind)
  if !s.listens hp then s
  else match s.judgeWrite hp none [(GLB_RESET.at, v)] with
    | (code, detail, level) =>
      if code = stOK then (s.endWith hp stOK 0 0).resetCmd v else s.refuseTxn hp code detail level GLB_RESET.at

/-- RESET_COLD. -/
def execResetCold (hp : HostPort) (key : Byte) (s : State) : Res := done (s.resetWrite hp key 1)
/-- RESET_WARM. -/
def execResetWarm (hp : HostPort) (key : Byte) (s : State) : Res := done (s.resetWrite hp key 2)
/-- RESET_RELAY (R448, R449). -/
def execResetRelay (hp : HostPort) (key : Byte) (s : State) : Res := done (s.resetWrite hp key 3)

/-! ### Ridge and Batten (R29, R54, R185, R297) -/

/-- RIDGE_WATCHDOG: Ridge has missed its heartbeat for 10 ms; the check is suspended while a halt holds (R54, R483). -/
def execRidgeWatchdog (s : State) : Res :=
  if s.islandUp islRidge && !s.halted islRidge then doneAll s ((s.loseRidge).cause 0x07 islRidge) else done s

/-- Write the directory, or report the flash error that leaves the roles as before (R470). -/
def State.tryDir (s : State) (dirOk : Bool) (f : Dir → Dir) : State := if dirOk then s.writeDir f else s.result 16

/-- Cause code of a Dormer entry (R64). -/
def dormerCode (c : Nat) : Nat := if c = 1 then 0x0C else if c = 2 then 0x09 else if c = 3 then 0x0A else 0x0B

/-- The service port that Dormer runs: the one of Level 1, or the one that VBUS0 or VBUS1 gives (R50). LEVEL stays as it is. -/
def State.dormerService (s : State) : State :=
  if s.get SOF_DBSTAT.SVCPORT ≠ 0 then s
  else ((s.chooseService).put GLB_BOOTSTAT.LEVEL (s.get GLB_BOOTSTAT.LEVEL)).put SOF_DBSTAT.LEVEL1 (s.get SOF_DBSTAT.LEVEL1)

/-- Ports that a Brace hold kept go to ErrorRecovery and lose power in Dormer; the chain link ends. -/
def State.dropHold (s : State) : State :=
  let t := allPorts.foldl (fun u n => if u.islandUp n.val && !u.ports[n].rom then (u.errRec n).losePort n else u) s
  let t := (t.loseJotil.clear JTL_CFG.EN).maskBit GLB_ISLPWR.ISL islJotil true
  (t.modUpd (fun u => { u with relay := none, hand := none, oldImage := [] })).tellWarned

/-- Enter Dormer with a cause (R50): STAGE keeps 4. -/
def State.toDormer (s : State) (c : Nat) : State :=
  let t := if s.holding then s.dropHold else s.modUpd (fun u => { u with relay := none })
  let t := (((t.raise GLB_BOOTSTAT.DORMER).put GLB_BOOTSTAT.DCAUSE c).clear GLB_BOOTCTL.DORMERNEXT).setUpd usIDLE
  ((t.cause (dormerCode c) islDevice).modBoot (fun b => { b with inReset := none, nextIsl := 0 })).dormerService

/-- ACTIVE has failed with a code and PREVIOUS passes: the roles move and E13E tells it (R461). -/
def State.fallBack (s : State) (code : Nat) : State :=
  (if s.dirNow.trial then s.writeDir Dir.unrotate else s.writeDir Dir.exchange).fire 0x13E (0x20 + code)

/-- Ridge reloads ACTIVE under the slot decision (R92, R461): ACTIVE where it passes, else PREVIOUS, which takes its role, else Dormer. NEXTBOOT and the count of a
trial belong to a boot, which this is not (assumption log 129). -/
def State.reloadActive (s : State) (dirOk : Bool) : State :=
  let av := s.verify (s.slot s.dirNow.act)
  let pv := s.verify (s.slot s.dirNow.prev)
  let img := fun (t : State) => (slotPart (t.slot t.dirNow.act) t.serial 1).getD []
  if av.1 = 0 then s.reloadImage (img s)
  else if pv.1 = 0 ∧ dirOk then
    let t := (s.noteImage av).fallBack av.1
    ((t.reloadImage (img t)).put GLB_BOOTSTAT.SLOT 2).logFault 2 av.1
  else ((((if dirOk then s else s.result 16).noteImage av).noteImage pv).dropHold.put GLB_BOOTSTAT.STAGE 4).toDormer 4

/-- Ridge is back from an island reset (R92, R94, R185): it reloads ACTIVE after an uncorrectable word, and resumes a restructure from its phase else.
A slot that its loss left in LOADING becomes EMPTY (R471). Whether a directory write that this asks for succeeds is a free value (assumption log 129). -/
def State.ridgeBack (s : State) : State :=
  if s.tha.reload ∨ s.dirNow.sstate = 1 then
    match s.free with
    | (v, s) =>
      let ok := v.getLsbD 0
      let t := if s.tha.reload then s.returnRidge.reloadActive ok else s.returnRidge.srSafe
      if t.dirNow.sstate = 1 then t.tryDir ok (fun d => { d with sstate := 0, smanid := 0 }) else t
  else s.returnRidge.srSafe

/-- RIDGE_RETURN: Ridge returns from an island reset (R185). -/
def execRidgeReturn (s : State) : Res :=
  if s.bit RDG_STAT.OUTAGE && !s.islandUp islRidge && decide (4 ≤ s.get GLB_BOOTSTAT.STAGE) && s.upd.relay.all (fun r => r.started.isNone) then doneAll s s.ridgeBack else done s

/-- RIDGE_OUTAGE_TIMEOUT: 80 ms without Ridge (R29); a window kept through a halt is lost then (R483). -/
def execRidgeOutageTimeout (s : State) : Res :=
  if s.bit RDG_STAT.OUTAGE then
    let t := allPorts.foldl (fun u n => if s.hasContract n then u.goErrRec n else u) s
    doneAll s (t.modRidge (fun r => { RidgeSt.reset with cut := r.cut }))
  else done s

/-- BATTEN_RETURN (R297). -/
def execBattenReturn (s : State) : Res :=
  if !s.islandUp islBatten && decide (4 ≤ s.get GLB_BOOTSTAT.STAGE) && s.upd.relay.all (fun r => r.started.isNone) then done s.returnBatten else done s

end Sys2Proof.Machine
end

