-- ==== Sys2Proof/Machine/Jotil.lean ====
section
/-!
DEFINITION. The meanings of the chain's commands (R303 to R337): link up and down, the election, the index at the leader and at a member,
every received frame type, retransmission, and the commands of JTL_CMD.
-/

namespace Sys2Proof.Machine

/-! ### Links (R306, R312, R315, R330) -/

/-- Show a link port up or down. -/
def State.showLink (s : State) (p : Fin 2) (up : Bool) : State :=
  (s.flag (JTL_LINK.UP p.val) up).flag (if p.val = 0 then JTL_STAT.UPUP else JTL_STAT.DNUP) up

/-- Make a port the lock port (R316). -/
def State.setLockPort (s : State) (p : Nat) : State :=
  ((s.put JTL_STAT.LOCKPORT p).flag (JTL_LINK.LOCKSRC 0) (p == 0)).flag (JTL_LINK.LOCKSRC 1) (p == 1)

/-- The mask of one port. -/
def portBit (p : Fin 2) : Nat := p.val + 1

/-- LINK_UP: E128, an ECHO exchange, and an election when the device has no leader (R306, R312, R315). A device that has one sends its leader's claim, so that the claims of two
running chains meet (R313, assumption log 158). -/
def execLinkUp (p : Fin 2) (s : State) : Res :=
  if !s.chainOn || s.linkIsUp p then done s
  else
    let t := (s.showLink p true).fire 0x128 p.val
    let t := (if t.jtl.led then t.sendBest (portBit p) else t).sendF tyECHO 0xFD [0, 0] (portBit p)
    done (if t.jtl.led then t else t.startElection)

/-- LINK_DOWN: E129 and the LINKLOSS tally; a sweep aborts; the leader loses the nodes beyond, a member changes its lock port, freezes, or sends LOSS
with the nodes beyond (R306, R316, R329, R330). The nodes only that port reached are an operand. -/
def execLinkDown (p : Fin 2) (beyond : BitVec 16) (s : State) : Res :=
  if !s.chainOn || !s.linkIsUp p then done s
  else
    let t := (((s.disarm.showLink p false).satInc (JTL_LINK.DOWNS p.val)).fire 0x129 p.val).tallyPlain 132
    let other := 1 - p.val
    let t := (t.modJtl (fun j => { j with hopsSeen := j.hopsSeen.set p.val none })).clear JTL_STAT.RING
    let t := t.abortAndTell (otherPort p)
    if !t.jtl.led then done t
    else if t.leading then done (t.loseNodes beyond.toNat true)
    else if t.get JTL_STAT.LOCKPORT = p.val then
      match t.jtl.hopsSeen[other]? with
      | some (some _) => done (t.setLockPort other)
      | _ => done ((t.loseNodes beyond.toNat false).startFreeze false)
    else if beyond = 0 then done t
    else done ((t.loseNodes beyond.toNat false).sendF tyLOSS 0xFE [beyond.toNat] t.lockMask)

/-! ### Election (R311 to R313) -/

/-- Adopt a better claim as best-seen and pass it on with one hop more (R311 step 2). -/
def State.adoptClaim (s : State) (c : Claim) (ports : Nat) : State :=
  match s.jtl.best with
  | none => s
  | some b =>
    if c.better b then ((s.modJtl (fun j => { j with best := some c, quiet := 0 })).sendF tyCLAIM 0xFD (c.body (c.hops + 1)) ports) else s

/-- CLAIM: a device with a leader answers its leader's claim with ESTABLISHED set on the same port (R313); a better claim is adopted and sent on (R311). -/
def execClaim (h : JtlHead) (weight : Byte) (est : Bool) (hops : Byte) (serial : BitVec 96) (s : State) : Res :=
  let c : Claim := { serial := serial, weight := weight.toNat, est := est, hops := hops.toNat }
  done (s.receiveF h tyCLAIM (c.body hops.toNat) (fun t =>
    let u := if t.jtl.led then t.sendBest (portBit h.p) else t
    u.adoptClaim c (otherPort h.p)))

/-- ELECTION_SETTLE: the best-seen claim is sent again; after two periods without a change the election is decided (R311 steps 4 and 5). -/
def execElectionSettle (s : State) : Res :=
  if !s.chainOn || !s.bit JTL_STAT.ELECTING then done s
  else
    let t := (s.sendBest 3).modJtl (fun j => { j with quiet := j.quiet + 1 })
    if t.jtl.quiet < 2 then done t
    else if (t.jtl.best.map Claim.serial) = some t.serial then done t.becomeLeader
    else done (t.clear JTL_STAT.ELECTING)

/-- INDEX_TIMEOUT: no index for two index periods starts an election on a device that is not the leader (R312). -/
def execIndexTimeout (s : State) : Res :=
  if !s.chainOn || s.leading then done s else done s.startElection

/-! ### The index (R314, R317 to R319) -/

/-- The interleaved carriers that run go back to their phases against the index when the timebases lock, by the phase-change rule (R317, R319, R201). Where a free run has
left a carrier is a free value (assumption log 117). -/
def State.regainPhases (s : State) : State :=
  (s.interleaved.filterMap s.leadOf).foldl (fun t k =>
    if t.dividesIndex k && t.bit (RAF_STAT.RUN k) then
      match t.free with
      | (v, u) => (u.modSlice k (fun x => { x with phase := v.toNat % 65536, slip := 0 })).aimPhase k
    else t) s

/-- The timebases lock to the chain tick, with LOCKEN and without UNSYNC (R316, R319); those that did not follow it regain their phases. -/
def State.relock (s : State) : State :=
  let on := s.bit JTL_CFG.LOCKEN && !s.bit JTL_STAT.UNSYNC
  let t := if on && !s.bit JTL_STAT.LOCKED then s.regainPhases else s
  if on then t.raise JTL_STAT.LOCKED else (t.clear JTL_STAT.LOCKED).leaveTick

/-- The leader's index (R314): what every device does, the loss of silent members, INDEX, ENTER, ASSIGN, SHARE and PHASE, and the own demand of
the new period. A braced leader keeps only INDEX and the last SHARE going (R332). -/
def State.leaderIndex (s : State) : State :=
  let idx := s.nextIdx
  let r := s.frzRem
  if s.jtl.bracing then
    let t := (s.put JTL_IDXNUM.IDXNUM idx).modJtl (fun j => { j with localIdx := some idx })
    let t := (t.countFreeze.sendIndex idx r)
    if t.jtl.sharesKept.isEmpty then t else t.publishShares idx
  else
    let t := (s.atIndex idx).checkDemands
    let t := (t.flag JTL_STAT.BRACE (!t.jtl.braced.isEmpty)).relock
    let t := (t.sendIndex idx r).put JTL_STAT.MEMBERS t.jtl.members.length
    let t := if t.jtl.sweepPend then t.announceSweep idx else t
    let t := t.assignNodes
    let t := (t.put JTL_STAT.MEMBERS t.jtl.members.length).publishShares idx
    (t.publishPhases idx).takeDemand

/-- One local index of a device that follows no chain index: it is numbered, and a freeze of its own counts (R314, R317, R330). -/
def State.localIndex (s : State) : State :=
  ((s.put JTL_IDXNUM.IDXNUM s.nextIdx).modJtl (fun j => { j with localIdx := some s.nextIdx })).countFreeze

/-- INDEX_GENERATE: every 1024 own ticks the leader marks its index; a device that follows no index counts a local one (R201, R314, R317). -/
def execIndexGenerate (s : State) : Res :=
  if s.chainOn && s.leading then doneAll s s.leaderIndex.updIndex
  else if !s.chainOn || !s.jtl.led || s.bit JTL_STAT.FREERUN then doneAll s s.localIndex
  else done s

/-- The interleave is abandoned when the IDXSLIP tally reaches its threshold (R319). -/
def State.tallySlip (s : State) : State :=
  match s.tallyAdd 131 1 with
  | (true, t) => ((t.modJtl (fun j => { j with unsyncReq := true })).setUnsync true).fire 0x12C
  | (false, t) => t

/-- A major slip (R317): the timebases run free, E12B with DATA, the count and the tally; the next index starts a new count. -/
def State.majorSlip (s : State) (offs : Nat) : State :=
  let t := ((s.satInc JTL_SLIP.MAJOR).put JTL_SLIP.OFFS offs).fire 0x12B offs
  let t := ((t.raise JTL_STAT.FREERUN).clear JTL_STAT.LOCKED).leaveTick
  (t.dropSlips.modJtl (fun j => { j with fresh := true, goodRow := 0 })).tallySlip

/-- A minor slip (R317): the local index moves to the marker, and the carriers take the offset up one fine step a period (R202). -/
def State.minorSlip (s : State) (offs : Int) : State :=
  let w := (offs + 65536).toNat % 65536
  let t := ((s.satInc JTL_SLIP.MINOR).put JTL_SLIP.OFFS w).fire 0x12B w
  let t := if t.bit JTL_STAT.LOCKED then t.slipLeads offs else t
  if t.bit JTL_STAT.LOCKED then t else t.modJtl (fun j => { j with goodRow := 0 })

/-- A good index (R317): after two in a row the timebases lock, with LOCKEN, and DEMANDs begin (R316, R319). -/
def State.goodIndex (s : State) : State :=
  let t := s.modJtl (fun j => { j with goodRow := min 2 (j.goodRow + 1) })
  if t.jtl.goodRow < 2 then t
  else
    let t := t.modJtl (fun j => { j with demanding := true })
    (t.clear JTL_STAT.FREERUN).relock

/-- Classify the count an index arrives at (R317, R318). -/
def State.countIndex (s : State) (c : Nat) : State :=
  if s.jtl.fresh then s.modJtl (fun j => { j with fresh := false, goodRow := 0 })
  else if c = 1024 then s.goodIndex
  else if c = 1023 then s.minorSlip (-1)
  else if c = 1025 then s.minorSlip 1
  else s.majorSlip (((c : Int) - 1024 + 65536).toNat % 65536)

/-- The freeze a leader announces (R330). -/
def State.followFreeze (s : State) (rem : Nat) : State :=
  match s.jtl.frz with
  | none => if 0 < rem then s.startFreeze true else s
  | some _ => if !s.jtl.frzLead then s else if rem = 0 then s.endFreeze else s.modJtl (fun j => { j with frz := some rem })

/-- The flags and the budget every device copies from an INDEX (R319, R320, R323). -/
def State.copyIndex (s : State) (x : IndexInfo) : State :=
  let f := fun (k : Nat) => x.flags.getLsbD k
  let t := s.put JTL_CHAINBUDGET.BUDGET x.budget.toNat
  let t := ((t.flag JTL_STAT.BRACE (f 3)).flag JTL_STAT.OVERSUB (f 4)).put JTL_STAT.MEMBERS x.members.toNat
  let t := t.modJtl (fun j => { j with autoph := f 2 })
  if f 0 && !t.bit JTL_STAT.UNSYNC then t.setUnsync true
  else if !f 0 && t.bit JTL_STAT.UNSYNC && !t.jtl.unsyncReq then (t.setUnsync false).unlock
  else if f 0 then t.modJtl (fun j => { j with unsyncReq := false })
  else t

/-- What a member sends in the period that an index opens: MEMBER after a change, PERIODS while AUTOPH holds, DEMAND once it has locked (R320, R321, R323). -/
def State.memberFrames (s : State) : State :=
  let t := s.takeDemand
  let t := if t.jtl.memSent = some t.ownMember then t else t.sendMember
  let t := if t.jtl.autoph && !t.interleaved.isEmpty then t.sendF tyPERIODS 0xFE t.ownPeriods t.lockMask else t
  if t.jtl.demanding && t.myNode.isSome then t.sendDemand else t

/-- A device that lost nodes it cannot name leaves the segment when every valid node is a member again (R331). -/
def State.wholeAgain (s : State) (members : Nat) : State :=
  if s.jtl.lost.isEmpty && s.jtl.frz.isNone && decide (s.validNodes.length ≤ members + 1) then s.clear JTL_STAT.SEGMENT else s

/-- The ports that deliver the leader's INDEX, the lock port among them by lower HOPS, UP on a tie (R316). -/
def State.seeHops (s : State) (p : Fin 2) (hops : Nat) : State :=
  let t := s.modJtl (fun j => { j with hopsSeen := j.hopsSeen.set p.val (some hops) })
  let a := (t.jtl.hopsSeen.getD 0 none)
  let b := (t.jtl.hopsSeen.getD 1 none)
  let t := t.flag JTL_STAT.RING (a.isSome && b.isSome)
  let (port, h) := match a, b with
    | some x, some y => if x ≤ y then (0, x) else (1, y)
    | some x, none => (0, x)
    | none, some y => (1, y)
    | none, none => (0, 0)
  (t.setLockPort port).put JTL_STAT.HOPS (min 15 (h + 1))

/-- The body of an INDEX frame with one hop more. -/
def indexBody (x : IndexInfo) : List Nat :=
  [x.idxnum.toNat, x.budget.toNat, x.flags.toNat, x.frzrem.toNat + 16 * x.members.toNat, x.weight.toNat, x.hops.toNat + 1, x.serial.toNat]

/-- The leader's INDEX at a device that is not the leader (R316 to R320, R330). In a Brace hold only the tick and the number go on (R332). -/
def State.takeIndex (s : State) (x : IndexInfo) : State :=
  if s.jtl.bracing then (s.put JTL_IDXNUM.IDXNUM x.idxnum.toNat).modJtl (fun j => { j with localIdx := some x.idxnum.toNat })
  else
    let known := s.jtl.led && !s.leading && s.leaderSerial == x.serial
    let t := if known && !s.bit JTL_STAT.ELECTING then s.countIndex x.count else s.takeLeader x.serial x.weight.toNat x.hops.toNat
    let t := t.copyIndex x
    let t := if t.jtl.frzLead || t.jtl.frz.isNone then (t.followFreeze x.frzrem.toNat) else t
    let t := t.atIndex x.idxnum.toNat
    (t.memberFrames).wholeAgain x.members.toNat

/-- INDEX: the leader's farewell starts an election (R312); the INDEX of the best-seen leader is taken, once, from the port it comes on first, also by the leader of a chain
that has lost to it (R311, R313). -/
def execIndex (h : JtlHead) (x : IndexInfo) (s : State) : Res :=
  let farewell := decide (x.weight = 0) && decide (x.serial = BitVec.allOnes 96)
  let mine := (s.jtl.best.map Claim.serial) == some x.serial && x.serial != s.serial
  let t := if mine && s.chainOn && s.linkIsUp h.p then s.seeHops h.p x.hops.toNat else s
  doneAll s (t.receiveF h tyINDEX (indexBody x) (fun u =>
    if farewell then (if u.leading then u else u.startElection)
    else if mine then u.takeIndex x
    else u))

/-- INDEX_MISSING: no index by count 1026 is a major slip with DATA 0x7FFF; the local index goes on (R317). -/
def execIndexMissing (s : State) : Res :=
  if !s.chainOn || s.leading || !s.jtl.led || s.jtl.fresh then done s
  else doneAll s ((s.disarm.majorSlip 0x7FFF).localIndex)

/-! ### Membership and shares (R320 to R323) -/

/-- MEMBER: the leader records a node or its changed fields; a node that was lost has rejoined (R320, R331). -/
def execMember (h : JtlHead) (serial : BitVec 96) (mask ilv floor : BitVec 16) (s : State) : Res :=
  let m : Member := { serial := serial, mask := mask.toNat, ilv := ilv.toNat, floor := floor.toNat }
  done (s.receiveF h tyMEMBER [serial.toNat, m.mask, m.ilv, m.floor] (fun t =>
    let u := t.rejoined serial
    match u.jtl.members.find? (fun x => x.2.serial == serial) with
    | some (k, _) => (u.setNode k serial m.mask false).modJtl (fun j => { j with members := j.members.map (fun x => if x.1 == k then (k, m) else x) })
    | none => u.modJtl (fun j => { j with joining := m :: j.joining.filter (fun x => x.serial != serial) })))

/-- ASSIGN: the serial gets its node number in every node table; the device it names takes it (R320), and reports a fallback it made alone (R466). -/
def execAssign (h : JtlHead) (serial : BitVec 96) (node : Fin 16) (s : State) : Res :=
  done (s.receiveF h tyASSIGN [serial.toNat, node.val] (fun t =>
    if t.leading then t
    else if serial = t.serial then ((t.setNode node.val serial (t.get GLB_PORTMASK.PRESENT) true).put JTL_STAT.NODE node.val).reportFallback
    else (t.setNode node.val serial 0 false).rejoined serial))

/-- PERIODS: the leader keeps a member's lead periods (R323). -/
def execPeriods (h : JtlHead) (ts : List (BitVec 24)) (s : State) : Res :=
  done (s.receiveF h tyPERIODS (ts.map BitVec.toNat) (fun t =>
    t.modJtl (fun j => { j with periods := assocSet j.periods h.src.toNat (ts.map BitVec.toNat) })))

/-- DEMAND: the leader keeps a member's demand of the period; UNSYNCREQ sets UNSYNC (R319), BRACE excuses the member (R332). -/
def execDemand (h : JtlHead) (demand want floor : BitVec 16) (flags : Byte) (s : State) : Res :=
  done (s.receiveF h tyDEMAND [demand.toNat, want.toNat, floor.toNat, flags.toNat] (fun t =>
    let k := h.src.toNat
    if !t.jtl.members.any (fun m => m.1 == k) then t
    else
      let u := t.modJtl (fun j => { j with
        demands := assocSet j.demands k { demand := demand.toNat, want := want.toNat, floor := floor.toNat },
        heard := k :: j.heard.filter (fun x => x != k), missed := assocSet j.missed k 0,
        braced := if flags.getLsbD 2 then assocSet j.braced k 79 else j.braced.filter (fun b => b.1 != k) })
      let u := (u.put (JTL_SHARETAB.DEMAND k) demand.toNat).flag JTL_STAT.BRACE (!u.jtl.braced.isEmpty || u.jtl.bracing)
      if flags.getLsbD 0 then u.setUnsync true else u))

/-- Is the Jotil input buffer full (R310)? -/
def State.jtlFull (s : State) : Bool := decide (16 ≤ s.waitingOf srcJotil)

/-- SHARE: the shares are shown, and the own one is stored for its APPLY index (R321); with the input buffer full the frame is discarded and counted (R310). -/
def execShare (h : JtlHead) (apply : BitVec 32) (ws : List (BitVec 16)) (s : State) : Res :=
  done (s.receiveF h tySHARE (apply.toNat :: ws.map BitVec.toNat) (fun t =>
    if t.leading then t
    else if t.jtlFull then t.satInc JTL_CNT.REFUSED
    else
      let u := (List.range 16).foldl (fun v k => match ws[k]? with
        | some w => v.put (JTL_SHARETAB.SHARE k) w.toNat
        | none => v) t
      match u.myNode.bind (fun k => ws[k]?) with
      | some w => u.modJtl (fun j => { j with shareNext := some (apply.toNat, w.toNat) })
      | none => u))

/-- PHASE: the phases are stored for their APPLY index (R323); with the input buffer full the frame is refused (R310), without PEER it is dropped and counted (R334). -/
def execPhase (h : JtlHead) (apply : BitVec 32) (ps : List (Fin 16 × BitVec 16)) (s : State) : Res :=
  let l := ps.map (fun p => (p.1.val, p.2.toNat))
  done (s.receiveF h tyPHASE (apply.toNat :: l.flatMap (fun p => [p.1, p.2])) (fun t =>
    if t.jtlFull then t.sendF tyREFUSE h.src.toNat [h.seq.toNat] 3
    else if !t.peer then t.satInc JTL_CNT.REFUSED
    else t.modJtl (fun j => { j with phaseNext := some (apply.toNat, l) })))

/-! ### The sweep (R326 to R329) -/

/-- SWEEP: ENTER takes the schedule, DONE ends one that still runs, ABORT aborts, REQUEST starts one at the leader (R326, R329); other codes do nothing. -/
def execSweep (h : JtlHead) (cmd id nph : Byte) (start : BitVec 32) (order : List Byte) (s : State) : Res :=
  doneAll s (s.receiveF h tySWEEP ([cmd.toNat, id.toNat, nph.toNat, order.length, start.toNat] ++ order.map BitVec.toNat) (fun t =>
    if cmd = 1 then
      if t.leading || t.jtl.sweep.isSome then t
      else t.enterSweep { budget := 0, id := id.toNat, nph := max 1 nph.toNat, start := start.toNat, order := order.map BitVec.toNat, saved := [] }
    else if cmd = 2 then
      match t.jtl.sweep with
      | some w => if w.id = id.toNat ∧ t.jtl.abortMeas = none then t.endSweep w else t
      | none => t
    else if cmd = 3 then t.abortSweep
    else if cmd = 4 then (if t.leading then t.startSweep else t)
    else t))

/-- SWEEP_ABORT: a cause of R329 aborts the sweep of this device, which tells the chain. -/
def execSweepAbort (s : State) : Res :=
  doneAll s (s.abortAndTell 3)

/-- SWEEP_ABORT_MEASURE_LIMIT: 1 ms after an abort a measurement still running ends as UNREPORTED with its duration (R329). -/
def execSweepAbortMeasureLimit (us : BitVec 12) (s : State) : Res :=
  doneAll s (s.closeMeasure us.toNat)

/-- SWRES: the leader stores a node's results while the sweep of that id runs (R328, R329). -/
def execSwres (h : JtlHead) (id first : Byte) (dev : BitVec 32) (ws : List (BitVec 32)) (s : State) : Res :=
  done (s.receiveF h tySWRES ([id.toNat, first.toNat, ws.length, dev.toNat] ++ ws.map BitVec.toNat) (fun t =>
    match t.jtl.sweep with
    | some w =>
      if w.id = id.toNat ∧ t.jtl.abortMeas = none ∧ h.src.toNat < 16 then
        let u := (ws.zipIdx).foldl (fun v (p : BitVec 32 × Nat) =>
          if first.toNat + p.2 < 16 then v.wr (JTL_SWTAB.at h.src.toNat (first.toNat + p.2)) p.1 else v) t
        u.setSwNode h.src.toNat 1
      else t
    | none => t))

/-! ### Events, ECHO, budget, refusal, loss (R307, R310, R315, R324, R330) -/

/-- The JTL_EVCFG byte of a channel. -/
def State.evCfg (s : State) (k : Fin 4) : Nat := (s.rd JTL_EVCFG.at).toNat / 256 ^ k.val % 256

/-- EVENT: the event is recorded and delivered to the local destination of its channel, not at its sender, to which a ring brings it back (R324); a destination PEER does not reach, or no PEER, drops and counts it (R334). -/
def execChainEvent (h : JtlHead) (k : Fin 4) (node : Byte) (ev data : BitVec 16) (sec : BitVec 32) (usec : BitVec 24) (s : State) : Res :=
  doneAll s (s.receiveF h tyEVENT [k.val, node.toNat, ev.toNat, data.toNat, sec.toNat, usec.toNat] (fun t =>
    let c := t.evCfg k
    if t.myNode = some h.src.toNat then t
    else if !t.peer || (decide (128 ≤ c) && !peerDest (c % 128)) then t.satInc JTL_CNT.REFUSED
    else
      let u := ((t.wrapInc (JTL_EVRX.COUNT k.val)).put (JTL_EVRX.NODE k.val) node.toNat).put (JTL_EVRX.SRC k.val) ev.toNat
      if c < 128 then u
      else u.atDest { src := ev.toNat % 512, dst := c % 128, mode := 0, queue := false }
        { island := islJotil, src := ev.toNat % 512, kind := 0, data := data.toNat, sec := sec.toNat, usec := usec.toNat }))

/-- The hop-delay field of a port. -/
def hopDly (p : Fin 2) : Fld := if p.val = 0 then JTL_HOPDLY.UP else JTL_HOPDLY.DN

/-- ECHO: a request is answered with the own turnaround, which rtt then gives; a reply gives the delay as half the round trip less the neighbour's turnaround (R315). -/
def execEcho (h : JtlHead) (reply : Bool) (turn rtt : BitVec 32) (s : State) : Res :=
  done (s.receiveF h tyECHO [b2n reply, turn.toNat] (fun t =>
    if reply then (t.put (hopDly h.p) (min 65535 ((rtt.toNat - turn.toNat) / 2))).clear (JTL_LINK.NODLY h.p.val)
    else t.sendF tyECHO 0xFD [1, rtt.toNat] (portBit h.p)))

/-- ECHO_TIMEOUT: no reply in 100 µs; the delay counts as 0 and NODLY is set (R334). -/
def execEchoTimeout (p : Fin 2) (s : State) : Res :=
  if s.chainOn && s.linkIsUp p then done ((s.put (hopDly p) 0).raise (JTL_LINK.NODLY p.val)) else done s

/-- BUDGET: the leader adopts the chain budget (R320, R331). -/
def execBudget (h : JtlHead) (watts : BitVec 16) (s : State) : Res :=
  done (s.receiveF h tyBUDGET [watts.toNat] (fun t =>
    (t.put JTL_CHAINBUDGET.BUDGET watts.toNat).modJtl (fun j => { j with budgetSince := true })))

/-- REFUSE: the named unicast frame waits 50 µs to be sent again (R310). -/
def execRefuse (h : JtlHead) (seq : Byte) (s : State) : Res :=
  done (s.receiveF h tyREFUSE [seq.toNat] (fun t =>
    match t.jtl.unacked.find? (fun f => f.1.seq == seq.toNat) with
    | none => t
    | some f => t.modJtl (fun j => { j with unacked := j.unacked.filter (fun g => g.1.seq != seq.toNat), refused := j.refused ++ [f] })))

/-- FRAME_RETRANSMIT: the refused frame is sent again, or dropped and counted after eight retransmissions (R310). -/
def execFrameRetransmit (seq : Byte) (s : State) : Res :=
  match s.jtl.refused.find? (fun f => f.1.seq == seq.toNat) with
  | none => done s
  | some (f, k) =>
    let t := s.modJtl (fun j => { j with refused := j.refused.filter (fun g => g.1.seq != seq.toNat) })
    done (if k < 8 then t.emit f (k + 1) else t.satInc JTL_CNT.GIVEUP)

/-- LOSS: the leader drops the nodes named and starts a share freeze (R330). -/
def execLoss (h : JtlHead) (nodes : BitVec 16) (s : State) : Res :=
  doneAll s (s.receiveF h tyLOSS [nodes.toNat] (fun t => t.loseNodes nodes.toNat true))

/-- FRAME_ERROR: code violations are counted, and a frame that is dropped is counted and fires E12E (R306, R307). -/
def execFrameError (p : Fin 2) (e : LinkErrors) (s : State) : Res :=
  if s.chainOn && s.linkIsUp p then
    let t := s.satAdd (JTL_LINK.CODEERR p.val) e.codes.toNat
    done (if e.dropped then (t.satInc (JTL_LINK.FRMERR p.val)).fire 0x12E else t)
  else done s

/-! ### Commands of JTL_CMD (R337) -/

/-- CLRCNT in effect. -/
def State.jtlClear (s : State) : State :=
  let t := (s.wr JTL_SLIP.at 0).wr JTL_CNT.at 0
  [0, 1].foldl (fun u p => ((u.clear (JTL_LINK.DOWNS p)).clear (JTL_LINK.FRMERR p)).clear (JTL_LINK.CODEERR p)) t

/-- RESYNC in effect: the leader ends UNSYNC (R319). -/
def State.jtlResync (s : State) : State := if s.leading then s.setUnsync false else s

/-- RESIGN and ELECT in effect: the leader sends the farewell INDEX and starts an election (R312). -/
def State.jtlResign (s : State) : State :=
  if s.leading then
    (s.sendF tyINDEX 0xFF [s.jtl.localIdx.getD 0, s.get JTL_CHAINBUDGET.BUDGET, 0, 0, 0, 0, 2 ^ 96 - 1] 3).startElection
  else s

/-- Everything a JTL_CMD word commands, with its KEY already judged. -/
def State.jtlCmd (s : State) (v : Word) : State :=
  if !s.islandUp islJotil then s
  else
    let bit := fun (k : Nat) => v.getLsbD k
    let t := if bit 5 then s.jtlClear else s
    let t := if bit 2 then t.jtlResync else t
    let t := if bit 4 then t.abortAndTell 3 else t
    let t := if bit 3 then t.startSweep else t
    if bit 1 || bit 0 then t.jtlResign else t

/-- A JTL_CMD write with one bit set. -/
def State.jtlCommand (s : State) (hp : HostPort) (key : Byte) (bit : Nat) : Res :=
  let v := BitVec.ofNat 32 (key.toNat * 2 ^ 24 + 2 ^ bit)
  doneAll s (s.command hp JTL_CMD.at v (fun t => t.jtlCmd v))

/-- JTL_CLRCNT (R337). -/
def execJtlClrcnt (hp : HostPort) (key : Byte) (s : State) : Res := s.jtlCommand hp key 5
/-- SWABORT (R329). -/
def execSwabort (hp : HostPort) (key : Byte) (s : State) : Res := s.jtlCommand hp key 4
/-- SWSTART (R326). -/
def execSwstart (hp : HostPort) (key : Byte) (s : State) : Res := s.jtlCommand hp key 3
/-- RESYNC (R319). -/
def execResync (hp : HostPort) (key : Byte) (s : State) : Res := s.jtlCommand hp key 2
/-- RESIGN (R312). -/
def execResign (hp : HostPort) (key : Byte) (s : State) : Res := s.jtlCommand hp key 1
/-- ELECT (R312). -/
def execElect (hp : HostPort) (key : Byte) (s : State) : Res := s.jtlCommand hp key 0

/-- A chain budget written on this device: the leader keeps it for its next INDEX, a member sends BUDGET (R320, R331). -/
def State.writeChainBudget (s : State) (watts : Nat) : State :=
  let t := s.put JTL_CHAINBUDGET.BUDGET watts
  if !t.chainOn then t
  else if t.leading then t.modJtl (fun j => { j with budgetSince := true })
  else t.sendF tyBUDGET 0xFE [watts] t.lockMask

/-- CHAINBUDGET_WRITE: a JTL_CHAINBUDGET write (R320, R331). -/
def execChainbudgetWrite (hp : HostPort) (watts : BitVec 16) (s : State) : Res :=
  done (s.command hp JTL_CHAINBUDGET.at (BitVec.ofNat 32 watts.toNat) (fun t => t.writeChainBudget watts.toNat))

/-- A Brace hold of this device begins or ends (R332): it is announced in a DEMAND, and the link sub-domain goes on. -/
def State.chainBrace (s : State) (on : Bool) : State :=
  if on then
    let t := s.modJtl (fun j => { j with bracing := true })
    if t.chainOn then (if t.leading then t.raise JTL_STAT.BRACE else t.sendDemand) else t
  else (s.modJtl (fun j => { j with bracing := false })).clear JTL_STAT.BRACE

end Sys2Proof.Machine
end

