-- ==== Sys2Proof/Machine/Rafter.lean ====
section
/-!
DEFINITION. The meanings of the Rafter commands (R192 to R222): period start and top, the points, the cycle trip, the end of blanking,
the switch-node transitions, stage start and stop, DISABLE and the delay-line calibration.
-/

namespace Sys2Proof.Machine

/-- Draw the length of a period of the lead (R192, R201, R202, R203): dither or the base period, the share of a phase change, one fine
step of index slip where the period divides the index period, as if INTLV were 0 while the interleave is abandoned (R319); a sweep holds dither off (R327), and without fine placement the period stands on the 2.5 ns grid (R220).
Answers the length and the state with LFSR, phase and slip advanced. PHSLEW reads 1 through the last period that is adjusted. -/
def State.drawPeriod (s : State) (l : Fin 48) : Nat × State :=
  let x := s.slices[l]
  let t0 := s.basePeriod l
  let inl := s.bit (RAF_CTRL.INTLV l) && !s.bit JTL_STAT.UNSYNC
  let k := s.get (RAF_DITHER.DITHER l)
  let held := match s.driver l with
    | some n => s.swHeld n
    | none => false
  let s1 := (s.flag (RAF_STAT.DITHOFF l) (inl && k != 0)).flag (RAF_STAT.NOLOCK l) (inl && !s.dividesIndex l)
  let (t1, s2) :=
    if k != 0 && !inl && !held then (s.onGrid l (ditherPeriod t0 k (lfsrNext x.lfsr)), s1.modSlice l (fun y => { y with lfsr := lfsrNext y.lfsr }))
    else (t0, s1)
  let st := phaseStep x.phaseRem
  let adj := s.onGrid l (st.natAbs * t1 / 65536)
  let sl : Int := if inl && s.dividesIndex l && !s.bit (RAF_STAT.DLFAIL l) then max (-1) (min 1 x.slip) else 0
  let t2 := ((if st < 0 then (t1 : Int) - adj else (t1 : Int) + adj) + sl).toNat
  (t2, (s2.modSlice l (fun y => { y with
      phaseRem := y.phaseRem - st, slip := y.slip - sl, phase := (((y.phase : Int) + st + 65536) % 65536).toNat })).flag (RAF_STAT.PHSLEW l) (x.phaseRem != 0))

/-- A leg starts to run (R212, R209): its dead times as programmed, its first period still to come. -/
def State.runLeg (s : State) (k : Fin 48) : State :=
  ((s.raise (RAF_STAT.RUN k)).restartDt k).modSlice k (fun x => { x with
    startPending := true, periodNo := 0, tNow := 0, cut := false, swallowed := false, edges := [], lastEdge := none, pOn := 0, pOff := 0, noSigR := 0, noSigF := 0,
    presc := [0, 0, 0, 0, 0, 0], lfsr := s.get (RAF_DITHER.SEED k), phaseRem := 0, slip := 0, evBase := none })

/-- The first period of a stage begins: every leg that waits starts with the lead; a frozen one starts when its clock has resumed (R212, R214). -/
def State.beginLegs (s : State) (n : Fin 16) : State :=
  (s.legsOf n).foldl (fun t k => if t.slices[k].startPending && !t.frozen k then t.runLeg k else t) s

/-- Is the duty of a period taken at its top as well (R206)? Then its pulse results from both on-times. -/
def State.halfUpdates (s : State) (l : Fin 48) : Bool := s.bit (RAF_CTRL.UPDHALF l) && s.updN l == 1

/-- The top of a period of t fine steps, PRD · 2.5 ns after its start (R192); the middle of a dithered or adjusted one (assumption log 18). -/
def State.topOf (s : State) (k : Fin 48) (t : Nat) : Nat :=
  let l := s.leadFor k
  if t = s.basePeriod l then 32 * s.get (RAF_PERIOD.PRD l) else s.onGrid k (t / 2)

/-- Place the edges of a period of a slice from its duty in force (R194, R195): P active whole, inactive whole or as placed. With two on-times R196 is applied at the
top, to the pulse that results (R206). -/
def State.placeEdges (s : State) (k : Fin 48) (t : Nat) : State :=
  let s := s.showDt k
  let r := s.get (RAF_DTNOW.RISE k)
  let f := s.get (RAF_DTNOW.FALL k)
  let ton := onTime (s.get (RAF_DUTY.DUTY k)) t
  let sw := if s.halfUpdates (s.leadFor k) then 0 else swallowOf ton t r f
  let e := edgesOf (s.topOf k t) ton
  let u := s.modSlice k (fun x => { x.nextPeriod t sw (s.onGrid k e.1) (s.onGrid k e.2) r f with ton := ton })
  if sw = 0 then u else (u.raise (RAF_IFLG.SWALLOW k)).satInc (RAF_TRIPCNT.SWALLOWS k)

/-- Take the loop's duty at a point, clamped (R204): the latest, or the one before it when the latest arrived inside the guard (R205, R218). -/
def State.takeDuty (s : State) (k : Fin 48) (late : Bool) : State :=
  let x := s.slices[k]
  let t := s.put (RAF_DUTY.DUTY k) (s.clampDuty k (if late then x.dutyPrev else x.dutyNext))
  if late then t else t.modSlice k (fun y => { y with dutyPrev := y.dutyNext })

/-- An update point of the lead (R205, R225, R232): the staged values enter on every leg, a changed carrier sets the rate flags, and the loop's banks follow. -/
def State.updatePoint (s : State) (n : Fin 16) (l : Fin 48) (late : Nat) : State :=
  let t := s.takePoint n late
  let t := if t.basePeriod l = s.basePeriod l ∧ t.halfUpdates l = s.halfUpdates l then t else t.rateFlags n
  t.bankPoint n

/-- PERIOD_START: the slice reaches its period start. The period that ends is adapted and its trip shown; at an update point of the
lead the staged values enter on every leg of the port, but for the newest `late`, which arrived inside the guard (R205); a start waits for the timebases' lock (R480); the duty
is taken, unless it arrived inside the guard (dutyLate), and the edges are placed (R194, R195). noSample says that the comparator sample of a lent slice has not arrived (R210). -/
def execPeriodStart (k : Fin 48) (p : PeriodLate) (s : State) : Res :=
  if s.frozen k || !s.slicePresent k then done s
  else match s.driver k with
  | none => done s
  | some n =>
    let l := s.leadFor k
    let first := s.slices[k].startPending
    let s1 :=
      if first && k == l && (s.legsOf n).all s.pllLocked then s.beginLegs n
      else if first && k != l && s.bit (RAF_STAT.RUN l) && !s.bit (RAF_STAT.RUN k) then s.runLeg k
      else s
    if !s1.bit (RAF_STAT.RUN k) then done s1
    else
      let s2 := if first then s1.modSlice k (fun x => { x with startPending := false }) else
        ((s1.adapt k p.noSample).flag (RAF_STAT.TRIPPED k) s1.slices[k].cut).modSlice k (fun x => { x with
          periodNo := x.periodNo + 1, evBase := x.evBase.map (fun (e : Int) => e - (x.tNow : Int)) })
      let upd := s2.slices[l].periodNo % s2.updN l == 0
      let s3 := if upd && k == l then s2.updatePoint n l p.late else s2
      let s4 :=
        if k != l then s3.modSlice k (fun x => { x with phase := (s3.slices[l].phase + legOffset s3.ports[n].topo (s3.get (RAF_STAT.LEG k))) % 65536 })
        else if first then s3.modSlice l (fun x => { x with phase := s3.get (RAF_PHASE.PHASE l), phaseRem := 0 })
        else if upd then s3.aimPhase l
        else s3
      let s5 := if upd then s4.takeDuty k p.dutyLate else s4
      let (t, s6) := if k == l then s5.drawPeriod l else (s5.slices[l].tNow, s5)
      done (((s6.placeEdges k t).put (RAF_CNT.COUNT k) 0).clear (RAF_CNT.DIR k))

/-- Does the duty of a sample at the period start reach the slices before the top, 440 ns and 100 ns for each further conversion after it (R226)? -/
def State.reachesTop (s : State) (n : Fin 16) (t : Nat) : Bool := decide (5632 + (s.osr n - 1) * 1280 ≤ t / 2)

/-- PERIOD_TOP: the counter reaches PRD. With UPDHALF and N = 1 the loop's duty is taken again when that of the sample at the period start is there (R226), and the falling
edge of P follows from the second on-time; R196 is applied to the pulse that results (R206). Else nothing but the counter turns. -/
def execPeriodTop (k : Fin 48) (s : State) : Res :=
  if s.frozen k || !s.bit (RAF_STAT.RUN k) || s.slices[k].startPending then done s
  else
    let l := s.leadFor k
    let s1 := (s.put (RAF_CNT.COUNT k) (s.get (RAF_PERIOD.PRD l))).raise (RAF_CNT.DIR k)
    let x := s1.slices[k]
    let c := s1.topOf k x.tNow
    if s1.halfUpdates l && !x.cut then
      let s2 := match s1.driver k with
        | some n => if s1.reachesTop n x.tNow then s1.takeDuty k false else s1
        | none => s1
      let r := s2.get (RAF_DTNOW.RISE k)
      let f := s2.get (RAF_DTNOW.FALL k)
      let ton1 := onTime (s2.get (RAF_DUTY.DUTY k)) x.tNow
      let on := s2.onGrid k (c - x.ton / 2)
      let off := s2.onGrid k (c + ton1 - ton1 / 2)
      let sw := swallowOf (off - on) x.tNow r f
      let s3 := s2.modSlice k (fun y => y.replace sw c on off r f)
      done (if sw = 0 then s3 else (s3.raise (RAF_IFLG.SWALLOW k)).satInc (RAF_TRIPCNT.SWALLOWS k))
    else done (s1.modSlice k (fun y => y.passTo c))

/-- Time of a point within the present period (R211): ZERO at 0, PRD at the top, a compare when the counter passes its value. -/
def State.pointTime (s : State) (k : Fin 48) (pt : Nat) (down : Bool) : Nat :=
  let t := s.slices[k].tNow
  if pt = 0 then 0
  else if pt = 1 then t / 2
  else if down then t - 32 * s.get (RAF_CMP.VALUE k (pt - 2)) else 32 * s.get (RAF_CMP.VALUE k (pt - 2))

/-- Does a point occur: a compare above PRD never matches, and only in the direction it names (R211)? -/
def State.pointOccurs (s : State) (k : Fin 48) (pt : Nat) (down : Bool) : Bool :=
  if pt < 2 then true
  else
    let d := s.get (RAF_CMP.DIR k (pt - 2))
    decide (s.get (RAF_CMP.VALUE k (pt - 2)) ≤ s.get (RAF_PERIOD.PRD (s.leadFor k))) && (d == 2 || d == b2n down)

/-- Flag a point in RAF_IFLG: ZERO bit 0, PRD bit 1, CMP0 to CMP3 bits 2 to 5. -/
def State.flagPoint (s : State) (k : Fin 48) (pt : Nat) : State :=
  s.wr (RAF_IFLG.at k) (s.rd (RAF_IFLG.at k) ||| BitVec.ofNat 32 (2 ^ pt))

/-- Does a point event at a time merge with the slice's last one, within 200 ns, which is 2560 fine steps (R211)? -/
def State.mergesEvent (s : State) (k : Fin 48) (t : Int) : Bool :=
  match s.slices[k].evBase with
  | none => false
  | some b => decide (t - b < 2560)

/-- COMPARE_POINT: point 0 ZERO, 1 PRD, 2 to 5 CMP0 to CMP3. After the prescaler it sets its flag and, when enabled, fires the slice's
point event under its owner's number (R211). -/
def execComparePoint (k : Fin 48) (pt : Fin 6) (down : Bool) (s : State) : Res :=
  if s.frozen k || !s.bit (RAF_STAT.RUN k) || !s.pointOccurs k pt.val down then done s
  else
    let c := s.slices[k].presc.getD pt.val 0 + 1
    let hit := decide (s.get (RAF_EVCFG.PRESC k) + 1 ≤ c)
    let s1 := s.modSlice k (fun x => { x with presc := x.presc.set pt.val (if hit then 0 else c) })
    if !hit then done s1
    else
      let s2 := s1.flagPoint k pt.val
      if !(s2.get (RAF_EVCFG.EVEN k)).testBit pt.val then done s2
      else
        let t : Int := s2.pointTime k pt.val down
        if s2.mergesEvent k t then done s2
        else done ((s2.modSlice k (fun x => { x with evBase := some t })).fire (16 * ownerOf k + 12 + k.val % 3) pt.val)

/-- CYCLE_TRIP: a trip input (0 fast current, 1 VBUS OV) is asserted on a slice, so many fine steps after its period start: a selected one acts outside blanking (R207,
R208). -/
def execCycleTrip (c : SliceTime) (input : Fin 2) (s : State) : Res :=
  let t := s.modSlice c.k (fun x => { x with tripIn := setBitTo x.tripIn input.val true })
  doneAll s (t.cutSlice c.k c.at_)

/-- BLANKING_END: the window has closed at a time of the slice's period; an input still asserted acts (R207, R208). -/
def execBlankingEnd (c : SliceTime) (s : State) : Res := doneAll s (s.cutSlice c.k c.at_)

/-- The reference of a switch-node channel, with VIN_S and ISP in mV (R277): VIN_S for SWA; for SWB as SWBREF says, where 0 means ISP under T1 and VIN_S under T2 and
T3, and nothing is said of T0. -/
def State.swRef (s : State) (n : Fin 16) (sw : Fin 2) (vin isp : Nat) : Option Nat :=
  if sw = 0 then some vin
  else match s.get (PVL_SWCFG.SWBREF n), s.ports[n].topo with
    | 0, 0 => none
    | 0, 1 => some isp
    | 0, _ => some vin
    | 1, _ => some vin
    | _, _ => some isp

/-- The output of a switch-node channel takes a level, tx fine steps after the edge that opened the dead time: every slice that names the channel takes the first
stamp of the period in the expected direction (R209, R277); the level source changes. -/
def State.swOutput (s : State) (n : Fin 16) (sw : Fin 2) (rising : Bool) (tx : Nat) : State :=
  let t := s.put (PVL_STAT.OUT n) (setBitTo (s.get (PVL_STAT.OUT n)) (3 + sw.val) rising)
  let t := t.level (portEvent n (3 + sw.val)) rising
  (t.legsOf n).foldl (fun u k =>
    if u.sense k == sw.val + 1 && !u.frozen k then
      if u.highSideA k == rising then u.modSlice k (fun x => { x with txR := if x.txR.isNone then some tx else x.txR })
      else u.modSlice k (fun x => { x with txF := if x.txF.isNone then some tx else x.txF })
    else u) t

/-- SWITCH_NODE_TRANSITION: SWA (0) or SWB (1) of a port whose island is present and powered (R2) stands at a voltage, with VIN_S and ISP beside it, all in mV. The output
goes high above SWHI ÷ 64 of the reference and low below SWLO ÷ 64 of it (R277); a channel under its check keeps it (R280). Under T0 the spec names no reference of SWB
for SWBREF 0, so whether its output changes is a free value. -/
def execSwitchNodeTransition (n : Fin 16) (sw : Fin 2) (v : NodeVolts) (tx : Nat) (s : State) : Res :=
  if !s.portUp n || s.ports[n].val.testing == some (3 + sw.val) then done s
  else
    let was := (s.get (PVL_STAT.OUT n)).testBit (3 + sw.val)
    match s.swRef n sw v.vin v.isp with
    | some r =>
      if !was && decide (s.get (PVL_SWCFG.SWHI n) * r < v.mv * 64) then done (s.swOutput n sw true tx)
      else if was && decide (v.mv * 64 < s.get (PVL_SWCFG.SWLO n) * r) then done (s.swOutput n sw false tx)
      else done s
    | none =>
      match s.free with
      | (x, t) => done (if x.getLsbD 0 then t.swOutput n sw (!was) tx else t)

/-- DELAY_LINE_CAL: every 100 µs the delay line is recalibrated, and from the next period start fine parts act accordingly. While it cannot span a coarse step fine parts count as 0 on every
slice of the island and E10D fires; success restores them (R220). -/
def execDelayLineCal (n : Fin 16) (ok : Bool) (s : State) : Res :=
  if !s.portUp n || s.halted n.val then done s
  else
    let t := (allSlices.filter (fun k => ownerOf k == n.val)).foldl (fun u k => u.flag (RAF_STAT.DLFAIL k) (!ok)) s
    done (if ok then t else t.fire 0x10D n.val)

/-- Take the front op of a port's apply queue when it passes a test. -/
def State.takeFront (s : State) (n : Fin 16) (p : Op → Bool) : Option State :=
  match s.ports[n].applyQ with
  | [] => none
  | o :: rest => if p o && !s.halted n.val then some (s.modPort n (fun q => { q with applyQ := rest })) else none

/-- STAGE_START: the committed stage-start op at the front of the apply queue is applied (R212, R252); it waits for the supply of the drivers (R36, R44) and for the clock of
a frozen leg (R218). -/
def execStageStart (n : Fin 16) (s : State) : Res :=
  match s.takeFront n (fun o => o.cls == clsSW && o.sub == 4 && s.driveOk n && !s.legFrozen n) with
  | none => done s
  | some t => done1 n s (t.stageStart n)

/-- STAGE_STOP: the committed stage-stop op at the front of the apply queue disables every leg in the same coarse step (R212). -/
def execStageStop (n : Fin 16) (s : State) : Res :=
  match s.takeFront n (fun o => o.cls == clsSW && o.sub == 5) with
  | none => done s
  | some t => done1 n s (t.legsOff n)

/-- DISABLE in effect (R213): the legs of the driving port stop, RAF_TRIP fires and the stage-fault path runs; a slice that no leg names changes nothing. A second one for
the same port in one slot is the same disable (R218). -/
def State.disableSlice (s : State) (k : Fin 48) : State :=
  match s.driver k with
  | none => s
  | some n =>
    if s.ridge.disabled.contains n.val then s
    else (((s.legsOff n).firePort n 15).stageFault n).modRidge (fun r => { r with disabled := r.disabled ++ [n.val] })

/-- DISABLE: RAF_CMD of a slice written with bit 0 set (R213). -/
def execRafDisable (hp : HostPort) (k : Fin 48) (key : Byte) (s : State) : Res :=
  doneAll s (s.command hp (RAF_CMD.at k) (BitVec.ofNat 32 (key.toNat * 2 ^ 24 + 1)) (fun t => t.disableSlice k))

end Sys2Proof.Machine
end

