-- ==== Sys2Proof/Machine/Clock.lean ====
section
/-!
DEFINITION. The meanings of the commands of chapter 16 (R473 to R494): detectors and regions of the Underlay, the reference, the DCOs, the timebases
and the debug halt.
-/

namespace Sys2Proof.Machine

/-! ### The Underlay (R484 to R491) -/

/-- The slices that PIn lends are lost with its timebase (R491, R220): their borrower drives them no more. -/
def State.loseLent (s : State) (n : Fin 16) : State :=
  allSlices.foldl (fun t k =>
    if ownerOf k = n.val && t.bit (RAF_STAT.LENT k) then
      (t.disableNow k).dropRegs (sliceBase k.val) (sliceBase k.val + 0x100)
    else t) s

/-- An island is lost (R29); sub says that one of its sub-domains is lost as well (R473). The Soffit region takes the device to power-on with its supplies as they are. -/
def State.loseIsland (s : State) (isl : Nat) (sub : Bool) : State :=
  if h : isl < 16 then (if sub then s.loseLent ⟨isl, h⟩ else s).losePort ⟨isl, h⟩
  else if isl = islRidge then s.loseRidge
  else if isl = islBatten then s.loseBatten
  else if isl = islHost then (if sub then { s with jtag := JtagSt.reset } else s).loseHost
  else if isl = islJotil then s.loseJotil
  else s.powerOn.wr GLB_SUPSTAT.at (s.rd GLB_SUPSTAT.at)

/-- UNDERLAY_FAULT: a detector of a region, or of a sub-domain of its island (sub), acts: crack or over-current (R488, R489). A Brace hold that loses Ridge goes on from
step 4 once Ridge is released (R491). -/
def execUnderlayFault (isl : Fin 21) (sub crack : Bool) (s : State) : Res :=
  if s.islandUp isl.val then
    let t := s.loseIsland isl.val sub
    let t := if isl.val = islRidge ∧ s.holding then t.put GLB_BOOTSTAT.STAGE 3 else t
    let t := if isl.val = islSoffit then t else t.modBoot (fun b => { b with closing := assocSet b.closing isl.val 0 })
    doneAll s (t.cause (if crack then 0x03 else 0x04) isl.val)
  else done s

/-- The first region that is closing: regions close one at a time in ascending order (R485, R491). -/
def BootSt.closingNow (b : BootSt) : Option Nat :=
  (List.range 21).find? (fun k => match assocGet b.closing k with
    | some c => decide (c < 8)
    | none => false)

/-- HEADER_STAGE: one of the eight stages of the region that closes is complete (R485). -/
def execHeaderStage (s : State) : Res :=
  match s.boot.closingNow with
  | none => done s
  | some k => done (s.modBoot (fun b => { b with closing := assocSet b.closing k ((assocGet b.closing k).getD 0 + 1) }))

/-- An island comes back after a fault of its region (R29, R489): a port island is released into ErrorRecovery. -/
def State.returnIsland (s : State) (isl : Nat) : State :=
  if h : isl < 16 then
    let n : Fin 16 := ⟨isl, h⟩
    if s.get SOF_DBSTAT.SVCPORT = isl + 1 ∧ s.get GLB_BOOTSTAT.STAGE ≤ 4 then (s.serviceUp n).errRec n
    else if 5 ≤ s.get GLB_BOOTSTAT.STAGE then
      let t := s.releasePort n
      (if t.ports[n].released then t.errRec n else t).srSafe
    else s
  else if s.get GLB_BOOTSTAT.STAGE < 4 then s
  else if isl = islRidge then (if s.islandUp islRidge then s else s.ridgeBack)
  else if isl = islBatten then (if s.islandUp islBatten then s else s.returnBatten)
  else if isl = islHost then (if s.islandUp islHost then s else s.hostBack)
  else if isl = islJotil ∧ ¬ s.islandUp islJotil then
    let en := (cellGet s.staged JTL_CFG.at).map (fun v => JTL_CFG.EN.of v)
    let t := (s.maskBit GLB_ISLPWR.ISL islJotil true).loadJotil s.recs en
    if t.chainOn ∧ t.portsUp ≠ 0 then t.startElection else t
  else s

/-! ### Reference, DCOs and timebases (R477, R480, R481, R492) -/

/-- REFERENCE_FAIL: XIN stops or leaves ±5 % (R477): every consumer switches to the RC, E105 with DATA 0. -/
def execReferenceFail (s : State) : Res :=
  if s.get GLB_CLKSTAT.REFSRC = 0 then done s
  else
    let t := ((s.put GLB_CLKSTAT.REFSRC 0).put GLB_CLKSTAT.REFCODE 15).raise GLB_BOOTSTAT.XTALFAIL
    let t := ((t.raise GLB_DCOFLG.XTALSW).raise HST_STAT.CANRC).raise HST_CANSTAT.RCREF
    done (t.fire 0x105 0)

/-- DCO_HOLDOVER: an island's logic DCO keeps its last control word (R492). -/
def execDcoHoldover (isl : Fin 21) (s : State) : Res := done (s.maskBit GLB_DCOFLG.HOLD isl.val true)

/-- TIMEBASE_LOCK: the timebase of PIn locks to the chain tick while the device is locked to the chain, else to the reference (R480). -/
def execTimebaseLock (n : Fin 16) (s : State) : Res :=
  if s.portUp n then
    done ((s.maskBit GLB_PLLSTAT.LOCK n.val true).maskBit GLB_PLLSTAT.CHAIN n.val (s.bit JTL_CFG.LOCKEN && s.bit JTL_STAT.LOCKED && s.chainOn))
  else done s

/-- PLL_UNLOCK: the timebase holds its last control word (R481). -/
def execPllUnlock (n : Fin 16) (s : State) : Res :=
  done ((s.maskBit GLB_PLLSTAT.LOCK n.val false).maskBit GLB_PLLSTAT.CHAIN n.val false)

/-- PLL_HOLDOVER_TIMEOUT: no lock within 1 ms: the port is disabled as RAF_CMD.DISABLE does, and the stage-fault path follows (R481, R213). -/
def execPllHoldoverTimeout (n : Fin 16) (s : State) : Res :=
  if s.portUp n && !(s.get GLB_PLLSTAT.LOCK).testBit n.val && !s.halted n.val then doneAll s (((s.legsOff n).firePort n 15).stageFault n) else done s

/-! ### Debug halt (R214, R215, R362, R483) -/

/-- Does an island take a halt: Host, Soffit and the bits above do not (R483, R491)? -/
def haltable (isl : Nat) : Bool := decide (isl < 16) || isl == islRidge || isl == islBatten || isl == islJotil

/-- The ports whose Eave a debug halt of PIn trips: port n, and port n + 1 when PIn lends it a slice, each with DBGEAVE on its lead (R215, R218). -/
def State.haltTrips (s : State) (n : Fin 16) : List (Fin 16) :=
  allPorts.filter (fun m => (m == n || (s.legsOf m).any (fun k => ownerOf k == n.val)) && s.bit (RAF_CTRL.DBGEAVE (s.leadSlice m)))

/-- An island halts; one that is not released yet halts at its release (R491). Ridge is out for the port islands, its window kept; DBGEAVE on the lead trips the port's Eave (R215, R483). -/
def State.haltIsland (s : State) (isl : Nat) : State :=
  if !haltable isl || s.halted isl then s
  else if !s.islandUp isl then s.modBoot (fun b => { b with haltDue := if b.haltDue.contains isl then b.haltDue else isl :: b.haltDue })
  else
    let t := s.maskBit GLB_ISLHALT.ISL isl true
    if h : isl < 16 then
      let n : Fin 16 := ⟨isl, h⟩
      (t.haltTrips n).foldl (fun u m => u.eaveTrip m 8) t
    else if isl = islRidge then allPorts.foldl (fun u n => u.enterBrace n) (t.raise RDG_STAT.OUTAGE)
    else t

/-- Did a halt of PIn freeze a running slice? -/
def State.frozeSlice (s : State) (n : Fin 16) : Bool := allSlices.any (fun k => ownerOf k == n.val && s.bit (RAF_STAT.RUN k))

/-- An island resumes: E10C for frozen slices (R214), which stop if they were ordered to, the fault path of a trip that waited (R215), an ErrorRecovery that waited, the
policy engines after Ridge. -/
def State.resumeIsland (s : State) (isl : Nat) : State :=
  let s := s.modBoot (fun b => { b with haltDue := b.haltDue.filter (fun k => k != isl) })
  if !s.halted isl then s
  else
    let t := s.maskBit GLB_ISLHALT.ISL isl false
    if h : isl < 16 then
      let n : Fin 16 := ⟨isl, h⟩
      let t := if s.frozeSlice n then t.fire 0x10C isl else t
      let t := (allSlices.filter (fun k => ownerOf k == n.val && t.slices[k].stopPending)).foldl State.disableNow t
      match t.ports[n].tripPending with
      | some c => if c = 9 then (t.modPort n (fun p => { p with tripPending := none })).stageFault n else t.tripPath n c
      | none => if t.ports[n].recPending then (t.modPort n (fun p => { p with recPending := false })).goErrRec n else t
    else if isl = islRidge then allPorts.foldl (fun u n => u.leaveBrace n) (t.clear RDG_STAT.OUTAGE)
    else t

/-- A halt that waited for the release of its island takes effect (R491). -/
def State.haltDue (s : State) (isl : Nat) : State :=
  if s.islandUp isl ∧ isl ∈ s.boot.haltDue then (s.modBoot (fun b => { b with haltDue := b.haltDue.filter (fun k => k != isl) })).haltIsland isl else s

/-- ISLAND_RELEASE: the next port island is released (R47 step 6), after the scrubber pass that a relay start asks for (R91). -/
def execIslandRelease (s : State) : Res :=
  if s.get GLB_BOOTSTAT.STAGE = 5 ∧ s.upd.relay.isNone ∧ ¬ s.tha.passDue then doneAll s (s.releaseNext.haltDue s.boot.nextIsl) else done s

/-- REGION_RESTART: the off time has ended, the region's headers have closed and its island is released (R489). A port island, which takes its
structure then, waits for the scrubber pass that is due (R91). -/
def execRegionRestart (isl : Fin 21) (s : State) : Res :=
  if (assocGet s.boot.closing isl.val).isSome ∧ ¬ (isl.val < 16 ∧ s.tha.passDue) then
    doneAll s (((s.modBoot (fun b => { b with closing := b.closing.filter (fun p => p.1 != isl.val) })).returnIsland isl.val).haltDue isl.val)
  else done s

/-- The JTAG instruction register after an instruction that needs a level: BYPASS when the grant does not meet it (R361). -/
def State.selectIr (s : State) (code level : Nat) : State :=
  { s with jtag := { s.jtag with ir := if level ≤ s.level3 .jtag then code else 0xFF } }

/-- ISLAND_HALT: the HALT register is written with this island's bit 1 (R362, R483). -/
def execIslandHalt (isl : Fin 24) (s : State) : Res :=
  let t := s.selectIr 0x11 3
  if t.jtag.ir = 0x11 then doneAll s (t.haltIsland isl.val) else done t

/-- ISLAND_RESUME: the HALT register is written with this island's bit 0 (R362, R483). -/
def execIslandResume (isl : Fin 24) (s : State) : Res :=
  let t := s.selectIr 0x11 3
  if t.jtag.ir = 0x11 then doneAll s (t.resumeIsland isl.val) else done t

end Sys2Proof.Machine
end

