-- ==== Sys2Proof/Machine/RegWrite.lean ====
section
/-!
DEFINITION. What a committed register write does (R10, R11, R168): the registers whose write is more than taking a value, block by block, and the
general rule for all others. Each answers the state and the code and DETAIL the word ends with.
-/

namespace Sys2Proof.Machine

/-- The outcome of one committed word: state, status code, DETAIL. -/
abbrev WordDone := State × Nat × Nat

/-- A word that ends OK. -/
def okWord (s : State) : WordDone := (s, stOK, 0)

/-- The general rule (R10, R11): writable fields take the value, bits written 1 of W1C fields clear. -/
def State.plainWrite (s : State) (a : Nat) (v : Word) : State :=
  match regRow a with
  | none => s
  | some r =>
    let t := s.setReg a v
    if r.cmask &&& v = 0 then t else t.wr a (t.rd a &&& ~~~(v &&& r.cmask))

/-! ### GLB, SOF, OTP -/

/-- A write of a GLB register. GLB_RESET acts after its transaction has ended (R52). -/
def State.glbWrite (s : State) (a : Nat) (v : Word) : WordDone :=
  if a = GLB_RESET.at then okWord (s.resetCmd v)
  else if a = GLB_PORTGO.at then okWord (s.portGo v)
  else okWord (s.plainWrite a v)

/-- A write of a SOF register (R64, R384, R409). Every write of 1 to WAKE_CFG.HOST is a wake cause, the one that enables it included (DESIGN CHOICE, assumption log 123). -/
def State.sofWrite (s : State) (hp : HostPort) (a : Nat) (v : Word) : WordDone :=
  if a = SOF_RESET_CAUSE.at then
    okWord (if v.toNat.testBit 31 then (s.wr SOF_RESET_CAUSE.at 0).wr SOF_RESET_TIME.at 0 else s)
  else if a = SOF_SVCCTL.at then okWord (s.put SOF_DBSTAT.RECOVREQ (v.toNat % 2))
  else if a = SOF_WAKE_CFG.at then
    let t := s.plainWrite a v
    okWord (if SOF_WAKE_CFG.HOST.of v = 1 then t.wake SOF_WAKE_STAT.HOST else t)
  else if a = SOF_TIME_SET.at then okWord (s.stageTime v.toNat hp.num)
  else okWord (s.plainWrite a v)

/-- A write of an OTP register. The three words of an override commit together: the last of them sets it (R419). -/
def State.otpWrite (s : State) (a : Nat) (v : Word) : WordDone :=
  if a = OTP_CMD.at then
    match s.otpCmdRefusal v with
    | some d => (s, stREFUSED, d)
    | none => okWord (s.otpCmd v)
  else if a = OTP_SHDATA1.at then okWord (s.setOverride (s.get OTP_SHADDR.ADDR) (v ++ s.rd OTP_SHDATA0.at))
  else okWord (s.plainWrite a v)

/-! ### RDG, TRS, BAT -/

/-- Clear the counts of the Ridge (R190). -/
def State.clearRdg (s : State) : State := (s.wr RDG_CNT0.at 0).wr RDG_CNT1.at 0

/-- A cancel of a named tag waits for the end of the slot (R169, R186). -/
def State.askCancel (s : State) (tag : Nat) : State := s.ask (.named tag)

/-- A write of an RDG register (R190). -/
def State.rdgWrite (s : State) (a : Nat) (v : Word) : WordDone :=
  if a = RDG_CMD.at then
    let t := if RDG_CMD.CLRCNT.of v = 1 then s.clearRdg else s
    okWord (if RDG_CMD.CANCEL.of v = 1 then t.askCancel (RDG_CMD.TAG.of v) else t)
  else okWord (s.plainWrite a v)

/-- A budget in force (R182): below Σ floor it is refused; else E follows it and R183 applies at the end of the slot. -/
def State.takeBudget (s : State) (w : Nat) : WordDone :=
  if w < s.floorSum then (s, stVALREF, 0) else okWord (s.put TRS_BUDGET.BUDGET w).changeE

/-- A write of a TRS register. -/
def State.trsWrite (s : State) (a : Nat) (v : Word) : WordDone :=
  if a = TRS_BUDGET.at then s.takeBudget (v.toNat % 65536) else okWord (s.plainWrite a v)

/-- A write of a tally's threshold and window (R293): a value outside its range keeps the field; a changed WINDOW clears the bins. -/
def State.writeTally (s : State) (k : Nat) (v : Word) : State :=
  let th := (BAT_TALLY0.THRESH k).of v
  let w := (BAT_TALLY0.WINDOW k).of v
  let t := if th = 0 then s else s.put (BAT_TALLY0.THRESH k) th
  if w = 0 ∨ 60000 < w ∨ w = s.get (BAT_TALLY0.WINDOW k) then t else (t.put (BAT_TALLY0.WINDOW k) w).setBins k (List.replicate 16 0)

/-- A write of a BAT register (R284, R293, R296, R301). -/
def State.batWrite (s : State) (a : Nat) (v : Word) : WordDone :=
  if a = BAT_CMD.at then okWord (s.batCmd v)
  else if a = BAT_IRQSTAT.at then okWord (s.irqClear v)
  else if a = BAT_TRSCUT.at then okWord (s.writeCut (v.toNat % 65536))
  else if 0x7400 ≤ a ∧ a < 0x7880 ∧ a % 8 = 0 then okWord (s.writeTally ((a - 0x7400) / 8) v)
  else okWord (s.plainWrite a v)

/-! ### HST, JTL, UPD, MTR, Thatch -/

/-- Clear the counts of the Host (R381). -/
def State.clearHst (s : State) : State := (s.wr HST_CNT0.at 0).wr HST_CNT1.at 0

/-- A write of an HST register. -/
def State.hstWrite (s : State) (a : Nat) (v : Word) : WordDone :=
  if a = HST_CMD.at then okWord (if v.toNat % 2 = 1 then s.clearHst else s)
  else if a = HST_CANCTL.at then okWord (s.setCan v)
  else okWord (s.plainWrite a v)

/-- A write of a JTL register (R320, R337). -/
def State.jtlWrite (s : State) (a : Nat) (v : Word) : WordDone :=
  if a = JTL_CMD.at then okWord (s.jtlCmd v)
  else if a = JTL_CHAINBUDGET.at then okWord (s.writeChainBudget (v.toNat % 65536))
  else if a = JTL_CFG.at then okWord (s.setJtlCfg v)
  else okWord (s.plainWrite a v)

/-- A write of a UPD register (R443, R472): data while the flash is busy ends BUSY. -/
def State.updWrite (s : State) (hp : HostPort) (a : Nat) (v : Word) : WordDone :=
  if a = UPD_CMD.at then okWord (s.updCmd hp.num v true)
  else if 0xA400 ≤ a then
    if (s.updData [v]).2 then (s, stBUSY, 0) else okWord (s.updData [v]).1
  else okWord (s.plainWrite a v)

/-- A write of an MTR register (R401, R410). -/
def State.mtrWrite (s : State) (a : Nat) (v : Word) : WordDone :=
  if a = MTR_CMD.at then okWord (s.mtrCmd v)
  else if a = MTR_SLRDADDR.at then okWord (s.slateWindow (v.toNat / 64 * 64))
  else okWord (s.plainWrite a v)

/-- A write of the Thatch window (R80, R85, R94, R97): ownership is judged again at the commit. -/
def State.thaWrite (s : State) (hp : HostPort) (a : Nat) (v : Word) : WordDone :=
  if isEdit a then okWord (if s.bit THA_EDCLAIM.CLAIM && s.get THA_EDCLAIM.OWNER == hp.num then s.wr a v else s)
  else if a = THA_EDCLAIM.at then okWord (s.edClaim hp.num v)
  else if a = THA_SRCTL.at then
    match s.hostRefuses hp a v with
    | some d => (s, stREFUSED, d)
    | none => okWord (s.srCtl hp v)
  else okWord (s.plainWrite a v)

/-! ### Ports and slices -/

/-- PCC_CMD: the highest-ranked bit first (R122, R371). -/
def State.pccCmd (s : State) (n : Fin 16) (v : Word) : WordDone :=
  let bit := fun (k : Nat) => v.toNat.testBit k
  let t := if bit 0 then s.goErrRec n else s
  let t := if bit 1 then t.clrLatch n else t
  if bit 2 then
    match t.redisc n with
    | (u, c) => (u, c, 0)
  else okWord t

/-- PPD_CMD (R131, R142 to R144, R160). -/
def State.ppdCmd (s : State) (n : Fin 16) (v : Word) : State :=
  let bit := fun (k : Nat) => v.toNat.testBit k
  if bit 1 then s.cmdHardreset n
  else
    let t := if bit 2 then s.cmdSoftreset n else s
    let t := if bit 4 then t.cmdEprexit n else t
    let t := if bit 3 then t.cmdDrswap n else t
    if bit 0 then t.cmdSendcaps n else t

/-- A write of a port register. PGT_CFG takes effect at once (R268). -/
def State.portWrite (s : State) (n : Fin 16) (a : Nat) (v : Word) : WordDone :=
  if a = PCC_CTRL.at n then okWord (s.setDisable n (v.toNat % 2 == 1))
  else if a = PCC_CMD.at n then s.pccCmd n v
  else if a = PPD_CMD.at n then okWord (s.ppdCmd n v)
  else if a = PLP_CMD.at n then okWord (if v.toNat % 2 = 1 then s.clearRc n else s)
  else if a = PGT_CFG.at n then okWord ((s.plainWrite a v).takeStaged a)
  else okWord (s.plainWrite a v)

/-- A write of a slice register (R199, R213): lead-only registers and fields of another leg are discarded with CFGERR. A RAF_CTRL word always carries the lead-only fields: one
that repeats the lead's values in force asks for no change of them and sets no CFGERR (DESIGN CHOICE, assumption log 122). -/
def State.sliceWrite (s : State) (k : Fin 48) (a : Nat) (v : Word) : WordDone :=
  let other := s.leadFor k != k
  if a = RAF_CMD.at k then okWord (if v.toNat % 2 = 1 then s.disableSlice k else s)
  else if other && (a == RAF_PERIOD.at k || a == RAF_PHASE.at k || a == RAF_DITHER.at k) then okWord (s.raise (RAF_IFLG.CFGERR k))
  else if other && a == RAF_CTRL.at k then
    let own := (v &&& ~~~leadMask) ||| (s.stagedOr a &&& leadMask)
    let t := s.plainWrite a own
    okWord (if v &&& leadMask = s.rd (RAF_CTRL.at (s.leadFor k)) &&& leadMask then t else t.raise (RAF_IFLG.CFGERR k))
  else okWord (s.plainWrite a v)

/-! ### Every register -/

/-- A committed write of one register word by a host port. -/
def State.regWrite (s : State) (hp : HostPort) (a : Nat) (v : Word) : WordDone :=
  match blockOf a with
  | none => okWord s
  | some .glb => s.glbWrite a v
  | some .sof => s.sofWrite hp a v
  | some .otp => s.otpWrite a v
  | some .rdg => s.rdgWrite a v
  | some .trs => s.trsWrite a v
  | some .bat => s.batWrite a v
  | some .hst => s.hstWrite a v
  | some .jtl => s.jtlWrite a v
  | some .upd => s.updWrite hp a v
  | some .mtr => s.mtrWrite a v
  | some .gpc => okWord ((s.plainWrite a v).gpcsTaken)
  | some (.port n) => s.portWrite n a v
  | some (.slice k) => s.sliceWrite k a v
  | some .thatch => s.thaWrite hp a v

end Sys2Proof.Machine
end

