-- ==== Sys2Proof/Machine/Commit.lean ====
section
/-!
DEFINITION. The commit slot of Ridge (R168 to R176, R181 to R187) and the other Ridge commands: which ops are ready, groups, admission and the answer to a
Request, what each class of op does at its commit, the end of a host transaction, cancels, staging, re-offers and the predictor.
-/

namespace Sys2Proof.Machine

/-! ### Window lookups -/

/-- The window op with a tag. -/
def State.opAt (s : State) (tag : Nat) : Option Op := s.ridge.window.find? (fun o => o.tag == tag)

/-- Remove the op with a tag from the window: it has committed (R168). -/
def State.dropOp (s : State) (tag : Nat) : State := s.modRidge (fun r => { r with window := r.window.filter (fun o => o.tag != tag) })

/-- Replace the window op with a tag. -/
def State.setOp (s : State) (tag : Nat) (f : Op → Op) : State :=
  s.modRidge (fun r => { r with window := r.window.map (fun o => if o.tag == tag then f o else o) })

/-- Is an op the evaluation of a received message (SUB 0 of MSG)? -/
def Op.isEval (o : Op) : Bool := o.cls == clsMSG && o.sub == 0 && o.reg.isNone

/-- The ops of a port in entry order. -/
def State.opsOf (s : State) (port : Nat) : List Op := s.ridge.window.filter (fun o => o.port == port)

/-- A MSG op whose Request is gone: the port has left Negotiate, or a newer one waits behind it. -/
def State.staleMsg (s : State) (n : Fin 16) (o : Op) : Bool :=
  s.pstate n != 4 || (s.pd n).reqRdo.isNone || ((s.opsOf n.val).filter Op.isEval).getLast? != some o

/-! ### Staging (R174, R176) -/

/-- The shadow bank for a setpoint: the words of the bank in force and its staged ones. -/
def State.bankStaged (s : State) (n : Fin 16) (k : Nat) : List Word := (List.range 14).map (fun w => s.stagedOr (PLP_BANK.at n k w))

/-- What a SETP op stages (R174, R232): the bank, the first command m0 = VT ÷ VIN for the new target, and the ramp profile. -/
def State.shadowFor (s : State) (n : Fin 16) (pos k v10 ma : Nat) : ShadowBank :=
  let ws := s.bankStaged n k
  { pos := pos, bank := k, words := ws, v10 := v10, ma := ma, m0 := convM (voltQ (v10 * tenMv)) 0 (s.vinQ n (bankMode ws == 3)), up := bankSlewUp ws, dn := bankSlewDn ws }

/-- The staging of a transition (R174): load the shadow bank and arm the curve. -/
def State.stageFor (s : State) (n : Fin 16) (w : Transition) : State :=
  (s.modPort n (fun p => { p with
    shadow := some (s.shadowFor n w.pos w.loopIdx w.v10 w.ma)
    armed := some { fuseIdx := w.fuseIdx, iref := w.ma } })).raise (PLP_STATUS.SHADOW n)

/-- The staging of one tentative op. -/
def State.stageOp (s : State) (n : Fin 16) (o : Op) : State :=
  if o.cls = clsSETP then
    (s.modPort n (fun p => { p with
      shadow := some (s.shadowFor n o.pos (o.payload.toNat % 16) (setpV o.arg) (setpI o.arg)) })).raise
      (PLP_STATUS.SHADOW n)
  else if o.cls = clsLIM then s.modPort n (fun p => { p with armed := some { fuseIdx := limIdx o.arg, iref := setpI o.arg } })
  else s

/-- Is what a transition needs staged? -/
def State.stagedFor (s : State) (n : Fin 16) (w : Transition) : Bool :=
  s.ports[n].shadow.any (fun b => b.bank == w.loopIdx && b.v10 == w.v10 && b.ma == w.ma) &&
  s.ports[n].armed.any (fun a => a.fuseIdx == w.fuseIdx && a.iref == w.ma)

/-- Show the committed curve that waits for its apply (R258, PEV_PEND). -/
def State.showPend (s : State) (n : Fin 16) (w : Transition) : State :=
  (((s.put (PEV_PEND.IREF n) w.ma).put (PEV_PEND.FASTMV n) (fieldOf (s.stagedOr (PEV_BASE.at n w.fuseIdx 0)) 7 0)).put (PEV_PEND.FUSEIDX n) w.fuseIdx).raise (PEV_PEND.VALID n)

/-! ### The answer to a Request (R131, R136, R137, R171, R181) -/

/-- Where the policy engine goes after Reject or Wait: Ready with an explicit contract, else Send_Capabilities (R131 state 4). -/
def State.afterNo (s : State) (n : Fin 16) : State :=
  let t := s.modPd n (fun d => { d with reqRdo := none, acked := false })
  if t.hasContract n then t.enterReady n else t.setP n 3

/-- Put a committed op into its port's apply queue; in a fault path or in ErrorRecovery an op that moves the output is discarded on arrival (R26, R104). -/
def State.toApply (s : State) (n : Fin 16) (o : Op) : State :=
  if (o.cls == clsSETP || o.cls == clsSW || o.cls == clsLIM) && (s.ports[n].faultPath || s.cc n == ccErrorRecovery) then s
  else s.modPort n (fun p => { p with applyQ := p.applyQ ++ [{ o with tent := false }] })

/-- The committed form of the ops of a transition: SETP, LIM and TRUSS for the setpoint that the Request asks for (R176, R184). -/
def State.firmOps (s : State) (n : Fin 16) (w : Transition) : List Op := (s.tentativeOps n w none).map (fun o => { o with tent := false, predictor := false })

/-- Put the committed ops of a transition that are of the classes given into the apply queue. -/
def State.firmToApply (s : State) (n : Fin 16) (w : Transition) (cs : List Nat) : State :=
  ((s.firmOps n w).filter (fun o => o.cls != clsTRUSS && cs.contains o.cls)).foldl (fun u o => u.toApply n o) s

/-- Accept at the group commit: admission, staging completed (R176), Accept. The ops that no member of the group stands for go to the apply queue now; with
run-ahead off all of them enter the window without TENT (R176). -/
def State.acceptMsg (s : State) (n : Fin 16) (w : Transition) (at_us : Nat) (missing : List Nat) : State :=
  let t := s.allocate n w.power
  let t := if t.stagedFor n w then t else t.stageFor n w
  let t := if t.bit RDG_CFG.RAEN then t.firmToApply n w missing else (t.firmOps n w).foldl State.offer t
  let t := (t.noteRun n w at_us).showPend n w
  ((t.modPd n (fun d => { d with contractPos := w.pos, trans := some w, reqRdo := none, acked := false, lastShort := none })).send n .accept).setP n 5

/-- Truss cannot grant the power (R137): Wait the first time, then within 1 s for the same position and power Reject with a fresh offer. -/
def State.shortMsg (s : State) (n : Fin 16) (w : Transition) : State :=
  let again := match (s.pd n).lastShort with
    | some (p, pw, t) => p == w.pos && pw == w.power && decide (s.now ≤ t + 1000000)
    | none => false
  let t := s.modPd n (fun d => { d with lastShort := some (w.pos, w.power, s.now) })
  if again then
    match t.free with
    | (x, u) => (((u.put (PPD_LASTREJ.CODE n) x.toNat).send n .reject).modPd n (fun d => { d with offerDue := true, lastShort := none })).afterNo n
  else (t.send n .wait).afterNo n

/-- A MSG op that commits without Accept leaves the window; the cancel of its group is resolved after the commits of the slot (R169, R175, R186). -/
def State.refuseMsg (s : State) (o : Op) : State := ((s.dropOp o.tag).counted).ask (.group o.tag o.members)

/-- The MSG op of port n commits with Reject or Wait, or with what R137 gives when Truss cannot grant the power. -/
def State.commitNo (s : State) (n : Fin 16) (o : Op) : State :=
  match (s.pd n).reqRdo, o.answer with
  | some (rdo, _, _), some .accept => (s.refuseMsg o).shortMsg n (s.wanted n rdo)
  | _, some (.reject c) => (((s.refuseMsg o).put (PPD_LASTREJ.CODE n) c).send n .reject).afterNo n
  | _, _ => ((s.refuseMsg o).send n .wait).afterNo n

/-! ### Host words at their commit (R168, R173, R343, R374) -/

/-- What stops a whole transaction at its first commit: a stale guard, or a budget below the floors. -/
def State.txnStop (s : State) (t : Txn) : Option (Nat × Nat) :=
  let gen := (t.words.head?.bind (fun w => s.portOf w.1)).map (fun n => (n, s.ports[n].gen))
  match t.guard, gen with
  | some g, some (n, x) => if g.toNat = x then none else some (stSTALE, n.val)
  | _, _ => if t.words.any (fun w => w.1 == TRS_BUDGET.at && decide (w.2.toNat % 65536 < s.floorSum)) then some (stVALREF, 0) else none

/-- Forget a transaction and the ops of it that are left. -/
def State.forgetTxn (s : State) (id : Nat) : State :=
  let t := s.modHost (fun hs => { hs with txns := hs.txns.filter (fun x => x.id != id) })
  t.modRidge (fun r => { r with window := r.window.filter (fun o => o.txn != some id) })

/-- A transaction that stops commits nothing (R182, R374). -/
def State.stopTxn (s : State) (t : Txn) (code port : Nat) : State :=
  let a := (t.words.headD (0, 0)).1
  let u := (s.forgetTxn t.id).endTxn t.id t.hp code 0 (s.genOf a)
  if code = stSTALE then ((u.raise HST_STAT.STALE).satInc HST_CNT0.STALE).fire 0x134 port else u

/-- A word of a transaction has committed: the last one ends it; a code other than OK ends it now. -/
def State.wordDone (s : State) (t : Txn) (a code detail : Nat) : State :=
  if code ≠ stOK ∨ t.opsLeft ≤ 1 then
    let u := s.modHost (fun hs => { hs with txns := hs.txns.filter (fun x => x.id != t.id) })
    u.endTxn t.id t.hp code detail (u.genOf a)
  else s.modHost (fun hs => { hs with txns := hs.txns.map (fun x => if x.id = t.id then { x with opsLeft := x.opsLeft - 1 } else x) })

/-- A committed op that carries a register word. GLB_RESET acts after its transaction has ended (R52). -/
def State.commitReg (s : State) (o : Op) (hp : HostPort) (w : Nat × Word) : State :=
  match s.host.txns.find? (fun t => o.txn = some t.id) with
  | none => ((s.dropOp o.tag).counted.regWrite hp w.1 w.2).1
  | some t =>
    match (if t.opsLeft = t.words.length then s.txnStop t else none) with
    | some (c, p) => s.stopTxn t c p
    | none =>
      let u := (s.dropOp o.tag).counted
      if w.1 = GLB_RESET.at then ((u.wordDone t w.1 stOK 0).regWrite hp w.1 w.2).1
      else match u.regWrite hp w.1 w.2 with
        | (v, c, d) => v.wordDone t w.1 c d

/-! ### The other classes at their commit (R165, R168) -/

/-- A committed SW op: SUB 7 acts at once, on every port with a contract when it is global; the others wait in the apply queue. -/
def State.commitSw (s : State) (o : Op) : State :=
  if h : o.port < 16 then
    let n : Fin 16 := ⟨o.port, h⟩
    if o.sub = 7 then s.goErrRec n else if o.sub < 7 ∧ s.portUp n then s.toApply n o else s
  else if o.sub = 7 then allPorts.foldl (fun t n => if t.hasContract n then t.goErrRec n else t) s
  else s

/-- A committed TRUSS op (R181, R182, R289, R321). -/
def State.commitTruss (s : State) (o : Op) : State :=
  if o.sub = 2 then (s.takeBudget (o.arg % 65536)).1
  else if o.sub = 3 then (s.setShare (o.arg % 65536)).fire 0x11E (o.arg % 65536)
  else if o.sub = 4 then s.setCut (if o.arg.testBit 16 then some (o.arg % 65536) else none)
  else if h : o.port < 16 then
    let n : Fin 16 := ⟨o.port, h⟩
    if o.sub = 0 then (if s.admits n (o.arg % 65536) then s.allocate n (o.arg % 65536) else s) else if o.sub = 1 then s.releaseHold n else s
  else s

/-- A committed MSG op of SUB 1 (R165): Source_Capabilities, the message Batten can order (R289), is a fresh offer, in measurement conditions after the sweep (R327); a message of another type goes out without
data objects, to the partner as an AMS of the port from Ready, to the cable while VCONN is on (assumption log 115). -/
def State.commitSend (s : State) (n : Fin 16) (o : Op) : State :=
  let ty := o.arg % 32
  let sop := o.arg / 32 % 8
  if s.pstate n = 0 ∨ ¬ s.portUp n then s
  else if sop = 0 then
    (if ty = 1 then
      (if !s.isSource n then s
       else if s.swHeld n then s.modPd n (fun d => { d with held := heldPcaps :: d.held.filter (fun k => k != heldPcaps) })
       else s.wantOffer n)
     else if ty = 13 then (if s.isSource n && s.pstate n == 6 && !s.amsBusy n then s.beginAms n .softReset else s)
     else if s.pstate n = 6 ∧ ¬ s.amsBusy n then s.beginAms n (.ordered ty) else s)
  else if sop ≤ 2 ∧ s.bit (PCC_STATUS.VCONNON n) then s.send n (.ordered (ty + 32 * sop)) [] sop
  else s

/-- A committed op without a register, by its class. A MEAS op of the sweep sequencer begins this device's measurement (R166, R328), another one starts a sweep (R326). -/
def State.commitClass (s : State) (o : Op) : State :=
  if o.cls = clsSW then s.commitSw o
  else if o.cls = clsTRUSS then s.commitTruss o
  else if o.cls = clsMEAS then
    (if o.src = srcSweep then s.put JTL_SWSTAT.STATE 2 else if o.port = portGlobal then s.startSweep else s)
  else if o.cls = clsLOG then s.log recEVENT [BitVec.ofNat 32 (o.arg % 512), BitVec.ofNat 32 s.soffit.usec, BitVec.ofNat 32 s.soffit.sec, 0]
  else if o.cls = clsTIME then
    (if o.sub = 0 then s.stageTime o.payload.toNat o.src
     else if o.sub = 1 then (s.wr SOF_ALARM.at (o.payload.truncate 32)).raise SOF_ALARMCTL.EN
     else if o.sub = 2 then s.queueBand (bandOpOf o) else s)
  else if o.cls = clsCFG then s.commitCfg o.sub
  else if h : o.port < 16 then
    let n : Fin 16 := ⟨o.port, h⟩
    if o.cls = clsMSG then s.commitSend n o
    else if (o.cls = clsSETP ∨ o.cls = clsLIM) ∧ s.portUp n then s.toApply n o
    else s
  else s

/-- Commit one op that stands alone. A register word that no host port wrote is a phase that the chain or the sweep assigns (R166, R201): the sweep's is in force at
once, since a phase that is staged waits for the end of the sweep (R327). -/
def State.commitOne (s : State) (o : Op) : State :=
  match o.reg, o.hp with
  | some w, some hp => s.commitReg o hp w
  | some w, none =>
    let t := (s.dropOp o.tag).counted
    if o.src = srcSweep then t.wr w.1 w.2 else t.plainWrite w.1 w.2
  | none, _ => ((s.dropOp o.tag).counted).commitClass o

/-! ### One slot (R169 to R171) -/

/-- Is an op at the head of its port, or of the global ops? -/
def State.atHead (s : State) (o : Op) : Bool := (s.opsOf o.port).head?.map Op.tag == some o.tag

/-- Does an op belong to the group of a MSG op (R171)? -/
def Op.inGroup (q : Op) (tag : Nat) : Bool := q.tag == tag || (q.tent && q.pv && q.pred == tag)

/-- Is a MSG op at the head of its port: only ops of its own group, the adopted predictor ops (R184), stand before it? -/
def State.msgAtHead (s : State) (o : Op) : Bool := (s.opsOf o.port).head?.any (fun q => q.inGroup o.tag)

/-- A CFG op of a strip-and-relay of two ports waits for the earlier ops of both (R87). -/
def State.cfgReady (s : State) (o : Op) : Bool :=
  o.cls != clsCFG || o.reg.isSome || o.sub != 2 ||
  (match s.tha.op with
   | none => true
   | some x => (s.ridge.window.takeWhile (fun q => q.tag != o.tag)).all (fun q => !x.ports.contains q.port))

/-- The ops of the port that commit with a MSG op, in entry order: its group, and the others that entered before the last of the group (R171). -/
def State.groupRun (s : State) (o : Op) : List Op := ((s.opsOf o.port).reverse.dropWhile (fun q => !q.inGroup o.tag)).reverse

/-- One op of an accepted group's run commits: the MSG op, a member, whose committed form goes to the apply queue, or an op between them (R171). -/
def State.groupStep (o : Op) (n : Fin 16) (w : Transition) (missing : List Nat) (s : State) (q : Op) : State :=
  if q.tag = o.tag then ((s.dropOp q.tag).counted).acceptMsg n w q.at_us missing
  else if q.inGroup o.tag then ((s.dropOp q.tag).counted).firmToApply n w [q.cls]
  else s.commitOne q

/-- The group of an accepted Request that Truss admits commits in one slot, every op of its run in entry order (R170 rule 1, R171). -/
def State.commitGroup (s : State) (n : Fin 16) (o : Op) (w : Transition) : State :=
  let run := s.groupRun o
  let here := (run.filter (fun q => q.inGroup o.tag)).map Op.cls
  run.foldl (State.groupStep o n w ([clsSETP, clsLIM].filter (fun c => !here.contains c))) s

/-- Can the run of a MSG op not commit in this slot, with k places left: too few places, or an op between that is not ready (R171)? -/
def State.groupWaits (s : State) (o : Op) (k : Nat) : Bool :=
  let run := s.groupRun o
  decide (k < run.length) || run.any (fun q => !q.inGroup o.tag && (q.tent || q.isEval || !s.cfgReady q))

/-- Take the op with a tag in this slot, with k places left: place a hold, commit it, commit its group, or leave it. -/
def State.slotOp (acc : State × Nat) (tag : Nat) : State × Nat :=
  let s := acc.1
  let k := acc.2
  match s.opAt tag with
  | none => acc
  | some o =>
    if o.tent then
      if o.cls = clsTRUSS ∧ ¬ o.staged then
        (match (if h : o.port < 16 then some (⟨o.port, h⟩ : Fin 16) else none) with
         | some n => ((s.placeHold n (o.arg % 65536) o.tag).setOp tag (fun q => { q with staged := true }), k)
         | none => acc)
      else acc
    else if !(if o.isEval then s.msgAtHead o else s.atHead o) || !s.cfgReady o || k = 0 then acc
    else if o.isEval then
      (match (if h : o.port < 16 then some (⟨o.port, h⟩ : Fin 16) else none) with
       | none => ((s.dropOp o.tag).counted, k - 1)
       | some n =>
         if s.staleMsg n o then (((s.dropOp o.tag).counted).ask (.rest o.tag), k - 1)
         else match (s.pd n).reqRdo, o.answer with
           | some (rdo, _, _), some .accept =>
             if s.groupWaits o k then acc
             else if s.admits n (s.wanted n rdo).power then (s.commitGroup n o (s.wanted n rdo), k - (s.groupRun o).length)
             else (s.commitNo n o, k - 1)
           | some _, some _ => (s.commitNo n o, k - 1)
           | _, _ => acc)
    else (s.commitOne o, k - 1)

/-- Staged RDG_CFG takes effect in a slot with no tentative op in the window (R190); a predictor that goes off watches no run (R184). -/
def State.takeRdgCfg (s : State) : State :=
  if s.ridge.window.any Op.tent then s
  else
    let t := s.takeStaged RDG_CFG.at
    if s.bit RDG_CFG.PREDEN && !t.bit RDG_CFG.PREDEN then allPorts.foldl State.endRun t else t

/-- A waiting op is offered again (R172): one behind an op of its source for the same port stays; behind a MSG op that enters now comes what its Request
brings. -/
def State.offerAgain (s : State) (o : Op) : State :=
  if !waitsBehind s.ridge.waiting o && hasRoom s.ridge.window o then
    let t := s.push o
    if h : o.port < 16 then (if o.isEval then t.followMsg ⟨o.port, h⟩ t.ridge.lastTag else t) else t
  else s.modRidge (fun r => { r with waiting := r.waiting ++ [o] })

/-- Each slot the waiting ops are offered again, oldest first (R172). -/
def State.offerWaiting (s : State) : State := s.ridge.waiting.foldl State.offerAgain (s.modRidge (fun r => { r with waiting := [] }))

/-- One commit slot: at most `places` ops commit, oldest first; then cancels, then the ledger (R169). -/
def State.commitSlot (s : State) (places : Nat) : State :=
  let t := s.offerWaiting.takeRdgCfg
  ((((t.ridge.window.map Op.tag).foldl State.slotOp (t, places)).1.endSlot).modRidge (fun r => { r with vconn := [] })).wrapInc RDG_SLOTS.SLOTS

/-- Does Ridge run? -/
def State.ridgeRuns (s : State) : Bool := s.islandUp islRidge && !s.halted islRidge

/-- COMMIT_SLOT: one slot (R169); `ledgerBad` says that the ledger check at its end fails, which rebuilds Truss (R187). -/
def execCommitSlot (ledgerBad : Bool) (s : State) : Res :=
  if s.ridgeRuns then
    let t := s.commitSlot 8
    doneAll s (if ledgerBad then (t.cancelWhere (fun o => o.cls == clsTRUSS)).rebuildTruss 1 else t)
  else done s

/-! ### Entering and applying ops -/

/-- The host port of an op source: 1 SPI, 2 I2C, 3 CAN FD (R166). -/
def srcHost (src : Nat) : Option HostPort :=
  if src = 1 then some .spi else if src = 2 then some .i2c else if src = 3 then some .can else none

/-- OP_ENTER: an op of a source enters the window, waits or is dropped (R170, R172). A host port's op, of which 20 of one port may stand in the window (R167),
ends its transaction where it finds no room, so it neither waits nor counts. Reserved sources, classes and ports enter nothing. -/
def execOpEnter (src : BitVec 4) (port : BitVec 5) (cls sub : BitVec 4) (arg : BitVec 28) (s : State) : Res :=
  let o := { Op.mk0 port.toNat cls.toNat src.toNat sub.toNat arg.toNat with hp := srcHost src.toNat }
  if src = 0 ∨ 9 < src.toNat ∨ 16 < port.toNat ∨ 8 < cls.toNat ∨ ¬ s.ridgeRuns then done s
  else if src.toNat ≤ 3 then done (if hasRoom s.ridge.window o then s.push o else s)
  else done (s.offer o)

/-- An ordered Eave close (R252, R253): a source waits for its pre-bias; a service port closes in the sink direction, and only in Attached.SNK. -/
def State.orderClose (s : State) (n : Fin 16) : State :=
  if s.eaveLive n then s
  else if !s.isService n then s.beginClose n 1
  else if s.cc n = ccAttachedSnk then s.beginClose n 2
  else s

/-- An ordered stage start: on a service port the stage runs only as the reverse push of Sink Ready (R43, R154). -/
def State.orderStart (s : State) (n : Fin 16) : State :=
  if !s.isService n then s.stageStart n else if s.sink n = 17 then s.startPush n else s

/-- Apply an op of the apply queue (R165, R168). A LIM op of SUB 1 brings the Valley window to the reference in force (assumption log 115). -/
def State.applyOp (s : State) (n : Fin 16) (o : Op) : State :=
  if o.cls = clsSETP then (s.modLoop n (fun l => { l with ilim := setpI o.arg })).setTarget n (setpV o.arg)
  else if o.cls = clsLIM then
    if o.sub = 0 then
      match s.selectCurve n (limIdx o.arg) (setpI o.arg) with
      | (t, c) => t.setCurve n (some c)
    else if o.sub = 1 then s.setWindow n
    else s
  else if o.cls = clsSW then
    if o.sub = 0 then s.orderClose n
    else if o.sub = 1 then (if s.eaveLive n then s.eaveOpen n else s)
    else if o.sub = 2 then s.vconnOn n
    else if o.sub = 3 then s.vconnOff n
    else if o.sub = 4 then s.orderStart n
    else if o.sub = 5 then s.legsOff n
    else if o.sub = 6 then s.discharge n
    else s
  else s

/-- Does the head of an apply queue wait for the end of tSrcTransition (R138)? -/
def State.waitsTransition (s : State) (n : Fin 16) (o : Op) : Bool :=
  (o.cls == clsSETP || o.cls == clsLIM) && s.unapplied n

/-- Does the head of an apply queue wait for the drivers' supply (R36, R37, R44): a close of Eave, or a stage start? -/
def State.waitsDrive (s : State) (n : Fin 16) (o : Op) : Bool := o.cls == clsSW && (o.sub == 0 || o.sub == 4) && !s.driveOk n

/-- OP_APPLY: the op at the front of a port's apply queue applies (R168); those of a transition wait for the end of tSrcTransition. -/
def execOpApply (n : Fin 16) (s : State) : Res :=
  match s.ports[n].applyQ with
  | [] => done s
  | o :: rest =>
    if s.halted n.val || s.waitsTransition n o || s.waitsDrive n o then done s
    else doneAll s ((s.modPort n (fun p => { p with applyQ := rest })).applyOp n o)

/-- STAGING_COMPLETE: the port island has loaded the shadow bank, computed the profile and armed the curve of its tentative ops (R174). -/
def execStagingComplete (n : Fin 16) (s : State) : Res :=
  if s.ridgeRuns && s.portUp n && !s.halted n.val then
    let ops := (s.tentOf n).filter (fun o => o.cls != clsTRUSS)
    done (ops.foldl (fun t o => (t.stageOp n o).setOp o.tag (fun q => { q with staged := true })) s)
  else done s

/-- Give the newest MSG op of a port its answer, in the window or where it waits. -/
def State.answerMsg (s : State) (n : Fin 16) (a : Answer) : State :=
  match ((s.opsOf n.val).filter Op.isEval).getLast? with
  | some o => s.setOp o.tag (fun q => { q with answer := some a })
  | none => s.modRidge (fun r => { r with waiting := r.waiting.map (fun o => if o.port == n.val && o.isEval then { o with answer := some a } else o) })

/-- REQUEST_EVALUATED: policy has evaluated the Request against the offer last sent (R136); Truss is asked at the commit. A port in measurement conditions of a sweep
answers Wait (R327). -/
def execRequestEvaluated (n : Fin 16) (s : State) : Res :=
  match (s.pd n).reqRdo with
  | some (rdo, copy, epr) =>
    if s.pstate n = 4 ∧ s.ridgeRuns then
      let c := s.rejectCode n rdo copy epr
      done (s.answerMsg n (if s.swHeld n then .wait else if c = 0 then .accept else .reject c))
    else done s
  | none => done s

/-- SPEC_TIMEOUT: a tentative op reaches its lifetime limit: it is cancelled, with E11D (R175, R187). -/
def execSpecTimeout (tag : Byte) (s : State) : Res :=
  if s.ridgeRuns && (s.opAt tag.toNat).any Op.tent then done ((s.cancelNamed tag.toNat).fire 0x11D tag.toNat) else done s

/-- The word of an RDG_CMD write. -/
def rdgCmdWord (key : Byte) (low : Nat) : Word := BitVec.ofNat 32 (key.toNat * 2 ^ 24 + low)

/-- CANCEL: RDG_CMD.CANCEL names an op by its tag (R186). -/
def execCancel (hp : HostPort) (key tag : Byte) (s : State) : Res :=
  done (s.command hp RDG_CMD.at (rdgCmdWord key (256 + tag.toNat)) (fun t => t.askCancel tag.toNat))

/-- CLRCNT: RDG_CMD.CLRCNT (R190). -/
def execClrcnt (hp : HostPort) (key : Byte) (s : State) : Res := done (s.command hp RDG_CMD.at (rdgCmdWord key 512) State.clearRdg)

/-- BUDGET_WRITE: a write of TRS_BUDGET (R182). -/
def execBudgetWrite (hp : HostPort) (watts : BitVec 16) (s : State) : Res :=
  done (s.commandSt hp TRS_BUDGET.at (BitVec.ofNat 32 watts.toNat) (fun t => ((t.takeBudget watts.toNat).1, (t.takeBudget watts.toNat).2.1)))

/-! ### Re-offers and deficit offers (R178, R183) -/

/-- A qualifying port sends its fresh offer, if it differs from the last one sent; one in any 500 ms, and none in measurement conditions of a sweep (R327). -/
def State.reoffer (s : State) (n : Fin 16) : State :=
  if s.pstate n = 0 ∨ ¬ s.isSource n then s.maskBit RDG_REOFFER.PORT n.val false
  else if s.ports[n].reofferAt.isSome ∨ s.pstate n ≠ 6 ∨ s.amsBusy n ∨ s.swHeld n then s
  else
    let t := s.maskBit RDG_REOFFER.PORT n.val false
    if (t.compose n).offerObjs n = t.offerObjs n then t
    else (t.modPort n (fun p => { p with reofferAt := some s.now })).beginAms n .sourceCap

/-- REOFFER: a port marked by the re-offer rule composes afresh (R178). -/
def execReoffer (n : Fin 16) (s : State) : Res :=
  if s.ridgeRuns && s.portUp n && (s.get RDG_REOFFER.PORT).testBit n.val then done1 n s (s.reoffer n) else done s

/-- REOFFER_PERIOD_END: the 500 ms of a port's last re-offer have passed; a deferred one is composed afresh (R178). -/
def execReofferPeriodEnd (n : Fin 16) (s : State) : Res :=
  let t := s.modPort n (fun p => { p with reofferAt := none })
  if t.ridgeRuns && t.portUp n && (t.get RDG_REOFFER.PORT).testBit n.val then done1 n s (t.reoffer n) else done t

/-- Is a deficit offer of a port due: above its floor, with a policy engine that can send (R183 step 3)? -/
def State.deficitReady (s : State) (n : Fin 16) : Bool :=
  s.ports[n].deficitDue == 1 && decide (s.floorOf n < s.allocOf n) && s.isSource n && s.pstate n != 0

/-- Is it a port's turn: no other port that is due stands further above its floor (R183 step 3)? -/
def State.deficitTurn (s : State) (n : Fin 16) : Bool :=
  allPorts.all (fun m => !s.deficitReady m || decide (s.allocOf m - s.floorOf m ≤ s.allocOf n - s.floorOf n))

/-- DEFICIT_OFFER: a port above its floor sends its reduced offer, leaving the measurement conditions of a sweep (R327), in descending order of what it holds above its floor (R183 step 3); not after the deficit has
cleared or at the floor. -/
def execDeficitOffer (n : Fin 16) (s : State) : Res :=
  if s.ridgeRuns && s.bit TRS_STAT.DEFICIT && s.deficitReady n then
    (if s.deficitTurn n then done1 n s (((s.swLeave n).modPort n (fun p => { p with deficitDue := 2 })).wantOffer n) else done s)
  else done (s.modPort n (fun p => { p with deficitDue := if p.deficitDue = 2 then 2 else 0 }))

/-! ### The predictor (R184) -/

/-- The transition predicted from the last two Requests of a run, none outside the APDO's range or at the contract voltage. -/
def State.predicted (s : State) (n : Fin 16) : Option Transition :=
  match (s.pd n).run with
  | (_, v3, i3, p) :: (_, v2, _, _) :: _ =>
    let v := 2 * v3 - v2
    let pdo := s.offered n p
    let e := s.entry n (((s.pd n).posMap.getD (p - 1) none).getD 0)
    if v = s.get (PPD_CONTRACTVI.V10 n) ∨ v < fieldOf pdo 15 8 * 10 ∨ pdoVmax pdo < v ∨ pdoKind pdo ≠ 1 then none
    else some { rdo := 0, pos := p, kind := 1, v10 := v, ma := i3, power := powerW v i3, fuseIdx := e.fuseIdx, loopIdx := e.loopIdx, applied := false }
  | _ => none

/-- May the predictor stage for a port now? With RAEN = 0 no tentative op enters (R176). -/
def State.mayPredict (s : State) (n : Fin 16) : Bool :=
  s.ridgeRuns && s.bit RDG_CFG.PREDEN && s.bit RDG_CFG.RAEN && s.bit (RDG_PRED.QUAL n) && !s.bit (RDG_PRED.STOPPED n) && (s.pd n).predTags.isEmpty && s.pstate n == 6 &&
  s.get (PPD_STATUS.KIND n) == 1 && s.hasContract n && s.get UPD_STAT.STATE != 4

/-- PREDICTOR_STAGE: 5 ms before the due time the predictor enters SETP(T), LIM(T) and, when R181 places a hold, TRUSS(T) (R184). -/
def execPredictorStage (n : Fin 16) (s : State) : Res :=
  if s.mayPredict n then
    match s.predicted n with
    | none => done s
    | some w =>
      let t := ((s.tentativeOps n w none).filter (fun o => o.cls != clsTRUSS || s.holdable n w.power)).foldl State.offer s
      done (t.modPd n (fun d => { d with predV := w.v10, predTags := (t.ridge.window.filter (fun o => o.predicts n)).map Op.tag }))
  else done s

/-- PREDICTOR_MISS: no Request by the due time + 50 ms (R184). -/
def execPredictorMiss (n : Fin 16) (s : State) : Res := if s.ridgeRuns then done (s.predMiss n) else done s

end Sys2Proof.Machine
end

