-- ==== Sys2Proof/Machine/Eave.lean ====
section
/-!
DEFINITION. The meanings of the Eave and Gutter commands (R249 to R273): the close sequence, the trips, the time-current curve, and the
discharge, assist, budget and fault path of Gutter.
-/

namespace Sys2Proof.Machine

/-- EAVE_FULLY_ON: GATE − GSRC has risen above the fully-on threshold; Eave is ON, pre-bias ends and the voltage loop closes from zero history (R252, R234). VBUS_S stands at
the target, so SAFE0 reads 0 (R264). -/
def execEaveFullyOn (n : Fin 16) (s : State) : Res :=
  if s.get (PEV_STATUS.STATE n) = 2 ∧ ¬ s.halted n.val then
    done1 n s ((((s.put (PEV_STATUS.STATE n) 3).seeVbus n false).clear (PLP_STATUS.PRE n)).modLoop n (fun l => { l with eV := [0, 0, 0], uV := [0, 0, 0] }))
  else done s

/-- PREBIAS_READY: ISP stands at 90 % of the target, not before 0.2 ms; the ramp begins (R252 step 2). -/
def execPrebiasReady (n : Fin 16) (s : State) : Res :=
  if s.get (PEV_STATUS.STATE n) = 1 ∧ ¬ s.halted n.val then done1 n s (s.put (PEV_STATUS.STATE n) 2) else done s

/-- PREBIAS_TIMEOUT: ISP has not reached 90 % 5 ms after the apply (R252). -/
def execPrebiasTimeout (n : Fin 16) (s : State) : Res :=
  if s.get (PEV_STATUS.STATE n) = 1 ∧ ¬ s.halted n.val then done1 n s (s.eaveTrip n 6) else done s

/-- RAMPFAIL: VBUS_S has not reached 90 % within the ramp limit (R252). -/
def execRampfail (n : Fin 16) (s : State) : Res :=
  if s.get (PEV_STATUS.STATE n) = 2 ∧ ¬ s.halted n.val then done1 n s (s.eaveTrip n 5) else done s

/-- The fast-trip threshold in mV: FASTMV of the curve in force, at most 80 mV in the sink direction (R254, R258). -/
def State.fastThreshold (s : State) (n : Fin 16) : Nat :=
  let mv := s.ports[n].eave.fastmv
  if s.bit (PEV_STATUS.DIR n) then min mv 80 else mv

/-- FAST_TRIP: the shunt voltage in the role direction, in mV, has crossed the fast-trip threshold; it acts whether or not the island's clock runs (R254). -/
def execFastTrip (c : ShuntRead) (s : State) : Res := if s.fastThreshold c.n ≤ c.v then done1 c.n s (s.eaveTrip c.n 1) else done s

/-- The times t(k) in µs (R256). -/
def curveTime (k : Nat) : Nat :=
  [10, 25, 63, 158, 398, 1000, 2512, 6310, 15849, 39811, 100000, 251189, 630957, 1584893, 3981072, 10000000].getD k 0

/-- What an accumulator loses in 1 µs, in 1/32 µs (R257). -/
def coolStep (code : Nat) : Nat := [32, 16, 4, 1].getD code 0

/-- The accumulators after 1 µs at a current (R257). -/
def curveAcc (levels acc : List Nat) (i cool : Nat) : List Nat :=
  (List.range 16).map (fun k =>
    let a := acc.getD k 0
    if levels.getD k 0 < i then a + 32 else a - min a (coolStep cool))

/-- The lowest point whose accumulator has reached its time (R257). -/
def curvePoint (acc : List Nat) : Option Nat := (List.range 16).find? (fun k => decide (curveTime k * 32 ≤ acc.getD k 0))

/-- The highest fill acc(k) ÷ t(k) in 1/256 and its point (R257). -/
def curveFill (acc : List Nat) : Nat × Nat :=
  (List.range 16).foldl (fun b k =>
    let f := acc.getD k 0 * 8 / curveTime k
    if b.1 < f then (f, k) else b) (0, 0)

/-- CURVE_EVAL: every 1 µs the curve in force is evaluated on the latest conversion, the current in mA in the role's direction; the
accumulators are not evaluated while Eave is open (R257). With it the microsecond of an earlier trip is over (R268). -/
def execCurveEval (n : Fin 16) (ma : BitVec 16) (s : State) : Res :=
  if s.halted n.val || !s.portUp n then done s
  else if !s.eaveLive n then done (s.modPort n (fun p => { p with eave := { p.eave with tripNow := false } }))
  else
    let e := s.ports[n].eave
    let acc := if e.levels.isEmpty then e.acc else curveAcc e.levels e.acc (min ma.toNat (s.fullScale n)) (s.get (PEV_CTRL.COOL n))
    let t := (s.modPort n (fun p => { p with eave := { p.eave with acc := acc } })).modLoop n (fun l => { l with lastMa := ma.toNat })
    match curvePoint acc with
    | some k => done1 n s (t.eaveTrip n 3 k)
    | none =>
      let f := curveFill acc
      done1 n s ((t.put (PEV_ACC.FILL n) (min 255 f.1)).put (PEV_ACC.POINT n) f.2)

/-- Is the reverse test suppressed: a ramp, a Hard Reset, REV mode, pre-bias (R260)? -/
def State.revSuppressed (s : State) (n : Fin 16) : Bool :=
  s.bit (PLP_STATUS.RAMP n) || s.peff n == 8 || s.peff n == 9 || s.get (PLP_STATUS.MODE n) == 3 || s.bit (PLP_STATUS.PRE n)

/-- REVERSE_TRIP: the shunt voltage has stood against the role direction for 20 µs, at so many 0.1 mV; beyond REVMV it trips Eave (R260). -/
def execReverseTrip (c : ShuntRead) (s : State) : Res :=
  let n := c.n
  if decide (s.get (PEV_CTRL.REVMV n) < c.v) && s.bit (PEV_CTRL.REVEN n) && s.get (PEV_STATUS.STATE n) == 3 && !s.revSuppressed n && !s.halted n.val then done1 n s (s.eaveTrip n 4) else done s

/-- GATE_TRIP: GATE − GSRC has been below the fully-on threshold for 100 µs while ON (R261). -/
def execGateTrip (n : Fin 16) (s : State) : Res :=
  if s.get (PEV_STATUS.STATE n) = 3 ∧ ¬ s.halted n.val then done1 n s (s.eaveTrip n 7) else done s

/-- GUTTER_DISCHARGE_END: VBUS_S has been below 0.70 V for 1 ms; GUT turns off and the duration is recorded in 0.1 ms
(R264); in a Hard Reset the legs are disabled (R233). -/
def execGutterDischargeEnd (n : Fin 16) (tenths : BitVec 16) (s : State) : Res :=
  if s.get (PGT_STATUS.CAUSE n) = 1 ∧ ¬ s.halted n.val then
    let t := ((s.setGut n false 0).seeVbus n true).put (PGT_TIME.LAST n) tenths.toNat
    done1 n s (if t.peff n = 9 then t.legsOff n else t.leaveErrRec n)
  else done s

/-- The Gutter fault path (R269): GUT off, FAULT, GUT_FAULT, the tally, and the port is held in ErrorRecovery. -/
def State.gutterFault (s : State) (n : Fin 16) : State :=
  let t := ((s.setGut n false 0).raise (PGT_STATUS.FAULT n)).satInc (PGT_COUNT.FAULTS n)
  let t := if t.cc n = ccErrorRecovery then t else t.errRec n
  (t.firePort n 9).tallyLatch n tallyGUTTER

/-- GUTTER_TIMEOUT: a discharge has not reached SAFE0 within 650 ms (R264, R269). -/
def execGutterTimeout (n : Fin 16) (s : State) : Res :=
  if s.get (PGT_STATUS.CAUSE n) = 1 ∧ ¬ s.bit (PGT_STATUS.SAFE0 n) ∧ ¬ s.halted n.val then
    done1 n s ((s.raise (PGT_FLAGS.TIMEOUT n)).gutterFault n)
  else done s

/-- DRVFLT: the read-back of GUT disagrees with its drive (R263, R269). -/
def execDrvflt (n : Fin 16) (s : State) : Res :=
  if s.portUp n && s.isSource n && !s.halted n.val then done1 n s ((s.raise (PGT_FLAGS.DRVFLT n)).gutterFault n) else done s

/-- GUTTER_FAULT_CLEAR: VBUS_S has been below 0.70 V for 10 ms; the port continues from the fault path (R269). -/
def execGutterFaultClear (n : Fin 16) (s : State) : Res :=
  if s.bit (PGT_STATUS.FAULT n) && !s.halted n.val then done1 n s (((s.clear (PGT_STATUS.FAULT n)).seeVbus n true).leaveErrRec n) else done s

/-- May Gutter assist: Eave closed and the reference falling (R265)? -/
def State.mayAssist (s : State) (n : Fin 16) : Bool :=
  let l := s.ports[n].loop
  s.bit (PGT_CFG.ASSIST n) && s.get (PEV_STATUS.STATE n) == 3 && s.isSource n && (decide (l.goal < l.ref) || l.hrRamp) &&
  !s.bit (PGT_STATUS.BUDGET n) && !s.bit (PGT_STATUS.FAULT n) && s.bit GLB_SUPSTAT.VHVOK

/-- GUTTER_ASSIST: VBUS_S against the falling reference, the excess in mV: GUT turns on above GHYS and off below half of it (R265). A
discharge is not touched (R266). -/
def execGutterAssist (n : Fin 16) (excess : Nat) (s : State) : Res :=
  let t := s.takeStaged (PGT_CFG.at n)
  if t.halted n.val || t.get (PGT_STATUS.CAUSE n) == 1 then done t
  else if t.mayAssist n && decide (t.get (PGT_CFG.GHYS n) * 10 < excess) then done (t.setGut n true 2)
  else if t.get (PGT_STATUS.CAUSE n) == 2 && (!t.mayAssist n || decide (2 * excess < t.get (PGT_CFG.GHYS n) * 10)) then done (t.setGut n false 0)
  else done t

/-- GUTTER_BUDGET: the on-time of the sliding 10 s window in 10 ms; at MAXON assist stops until the total falls below it (R266). -/
def execGutterBudget (n : Fin 16) (used : BitVec 16) (s : State) : Res :=
  let t := (s.takeStaged (PGT_CFG.at n)).put (PGT_TIME.WIN n) used.toNat
  if t.get (PGT_CFG.MAXON n) ≤ used.toNat then
    let u := (t.raise (PGT_STATUS.BUDGET n)).raise (PGT_FLAGS.BUDGET n)
    done (if u.get (PGT_STATUS.CAUSE n) = 2 then u.setGut n false 0 else u)
  else done (t.clear (PGT_STATUS.BUDGET n))

end Sys2Proof.Machine
end

