-- ==== Sys2Proof/Machine/Host.lean ====
section
/-!
DEFINITION. Transactions of the host ports (R338 to R381): reads with their side effects, writes and guarded writes with the SPI CRC, abnormal ends, the
order groups, I2C clash and timeout, the CAN FD port, and the reads that have a row of their own.
-/

namespace Sys2Proof.Machine

/-! ### SPI CRC-8 (R347) -/

/-- One bit of CRC-8 with polynomial 0x2F, most significant bit first. -/
def crc8Bit (c : Nat) : Nat := (if 128 ≤ c then (c * 2) ^^^ 0x2F else c * 2) % 256

/-- CRC-8 of a byte string: initial value 0xFF, final XOR 0xFF. -/
def crc8 (bs : List Nat) : Nat := (bs.foldl (fun c b => iterN crc8Bit 8 (c ^^^ b)) 0xFF) ^^^ 0xFF

/-- CMD and the address bytes of a frame (R345). -/
def frameHead (op count addr : Nat) : List Nat := [op * 64 + (count - 1) % 64, addr % 256, addr / 256 % 256, addr / 65536 % 256]

/-- The bytes of a write frame before its CRC. -/
def writeFrame (guard : Option (BitVec 16)) (addr : Nat) (data : List Word) : List Nat :=
  (match guard with
   | none => frameHead 1 data.length addr
   | some g => frameHead 2 data.length addr ++ [g.toNat % 256, g.toNat / 256]) ++ data.flatMap wordBytes

/-- Does the SPI CRC of a frame mismatch? -/
def State.crcBad (s : State) (hp : HostPort) (frame : List Nat) (crc : Byte) : Bool := hp == .spi && s.bit HST_CFG.SPICRC && crc8 frame != crc.toNat

/-- A CRC mismatch: CRC status, the flag and the count; nothing commits. -/
def State.crcFail (s : State) (hp : HostPort) : State := ((s.endWith hp stCRC 0 0).raise HST_STAT.CRCERR).satInc HST_CNT1.CRCERR

/-- A JTAG transaction runs under REGACC (R362). -/
def State.tap (s : State) (hp : HostPort) : State := if hp = .jtag then { s with jtag := { s.jtag with ir := 0x10, drive := 0 } } else s

/-! ### Reads (R340, R343) -/

/-- The word addresses of a transaction. -/
def wordAddrs (addr count : Nat) : List Nat := (List.range count).map (fun i => addr + 4 * i)

/-- The checks of a read: code, level required and the first address that fails. -/
def State.judgeRead (s : State) (hp : HostPort) (addr count : Nat) : Nat × Nat × Nat :=
  let as := wordAddrs addr count
  if count = 0 ∨ maxWords hp < count ∨ addr % 4 ≠ 0 then (stFORMAT, 0, addr)
  else match as.find? (fun a => !s.bootAllows hp false a || s.islandBusy false a) with
    | some a => (stNOTREADY, 0, a)
    | none => match as.find? (fun a => isUnmapped a || s.isAbsent a) with
      | some a => (if isUnmapped a then stUNMAPPED else stABSENT, 0, a)
      | none => match as.find? (fun a => !s.mayRead hp a) with
        | some a => (stAUTHREF, if isEdit a then 3 else 1, a)
        | none => (stOK, 0, addr)

/-- Keep the words a port has read. -/
def State.giveWords (s : State) (hp : HostPort) (ws : List Word) : State := s.modHp hp (fun p => { p with rdData := ws })

/-- An accepted read that ends in one of three ways: only a normal end takes its side effects; words that are late read 0 (R348). -/
def State.readDone (s : State) (hp : HostPort) (addr count : Nat) (fin : ReadEnd) : State :=
  match s.readWords hp (wordAddrs addr count) with
  | (ws, t) =>
    if fin = .late ∧ hp = .spi then (s.giveWords hp (List.replicate count 0)).endWith hp stLATE 0 (s.genOf addr)
    else if fin = .early then (({ s with freeCtr := t.freeCtr }).giveWords hp ws).endWith hp stOK 0 (s.genOf addr)
    else (t.giveWords hp ws).endWith hp stOK 0 (s.genOf addr)

/-- The I2C pointer: address and count, held until the next transaction of the port (R350). -/
def State.setPointer (s : State) (hp : HostPort) (p : Option (Nat × Nat)) : State :=
  if hp = .i2c then s.modHost (fun hs => { hs with i2cPointer := p }) else s

/-- The words a refused read gives: zeros for an address that is unmapped (R33) or absent (R3), none otherwise. -/
def refusedWords (code count : Nat) : List Word := if code = stUNMAPPED ∨ code = stABSENT then List.replicate count 0 else []

/-- A read transaction whose frame is sound. -/
def State.readTxn (s : State) (hp : HostPort) (addr count : Nat) (fin : ReadEnd) : State :=
  if !s.listens hp then s
  else
    let t := (s.tap hp).setPointer hp (some (addr, count))
    match t.judgeRead hp addr count with
    | (code, level, a) => if code = stOK then t.readDone hp addr count fin else (t.giveWords hp (refusedWords code count)).refuseTxn hp code 0 level a

/-- The words of the Thatch SRAM that an accepted read finds in error are taken before their values are (R91, R92). -/
def State.checkRead (s : State) (hp : HostPort) (addr count : Nat) (ce ue : List (BitVec 17)) (fetchOk : Bool) : State :=
  let ws := (faultWords ce ue).filter (fun x => (wordAddrs addr count).contains (0x40000 + x.1))
  if ws.isEmpty || !s.listens hp || (s.judgeRead hp addr count).1 != stOK then s else s.reportAll (s.scrubWords fetchOk ws)

/-- HOST_READ (R340, R345, R348), with the words of the Thatch SRAM it finds with one and with two bits in error (R91) and fetchOk as for SCRUB_PASS. -/
def execHostRead (hp : HostPort) (addr : BitVec 24) (count : Nat) (crc : Byte) (r : ReadMeets) (s : State) : Res :=
  if s.listens hp && decide (1 ≤ count) && decide (count ≤ 64) && s.crcBad hp (frameHead 0 count addr.toNat) crc then done (s.crcFail hp)
  else done ((s.checkRead hp addr.toNat count r.ce r.ue r.fetchOk).readTxn hp addr.toNat count r.fin)

/-- TRS_STAT_READ: REBUILT clears (R191). -/
def execTrsStatRead (hp : HostPort) (s : State) : Res := done (s.readTxn hp TRS_STAT.at 1 .normal)
/-- LATCHED_READ: a word that latches its group (R189). -/
def execLatchedRead (hp : HostPort) (addr : BitVec 24) (s : State) : Res := done (s.readTxn hp addr.toNat 1 .normal)
/-- BAT_QPOP: the oldest unread entry (R291). -/
def execBatQpop (hp : HostPort) (s : State) : Res := done (s.readTxn hp 0x5010 1 .normal)
/-- SOF_TIME_SUB_READ: the time snapshot (R383). -/
def execSofTimeSubRead (hp : HostPort) (s : State) : Res := done (s.readTxn hp SOF_TIME_SUB.at 1 .normal)
/-- METER_PAGE_READ: the page of a port (R410). -/
def execMeterPageRead (hp : HostPort) (n : Fin 16) (s : State) : Res := done (s.readTxn hp (0xB400 + 0x80 * n.val) 1 .normal)

/-! ### Writes (R339, R343, R374) -/

/-- The words of a write with their addresses. -/
def targets (addr : Nat) (data : List Word) : List (Nat × Word) := data.zipIdx.map (fun (x : Word × Nat) => (addr + 4 * x.2, x.1))

/-- A write transaction at its commit point: FORMAT, then CRC, then the other checks; an accepted one enters the order stage. -/
def State.writeTxn (s : State) (hp : HostPort) (guard : Option (BitVec 16)) (addr : Nat) (data : List Word) (crcBad : Bool) : State :=
  if !s.listens hp then s
  else
    let t := (s.tap hp).setPointer hp none
    match t.judgeWrite hp guard (targets addr data) with
    | (code, detail, level) =>
      if code = stFORMAT then t.refuseTxn hp stFORMAT 0 0 addr
      else if crcBad then t.crcFail hp
      else if code = stOK then t.accept hp guard (targets addr data)
      else t.refuseTxn hp code detail level addr

/-- HOST_WRITE (R339). -/
def execHostWrite (hp : HostPort) (addr : BitVec 24) (data : List Word) (crc : Byte) (s : State) : Res :=
  done (s.writeTxn hp none addr.toNat data (s.crcBad hp (writeFrame none addr.toNat data) crc))

/-- GUARDED_WRITE (R374): the GEN is compared at the Ridge commit. -/
def execGuardedWrite (hp : HostPort) (addr : BitVec 24) (gen : BitVec 16) (data : List Word) (crc : Byte) (s : State) : Res :=
  done (s.writeTxn hp (some gen) addr.toNat data (s.crcBad hp (writeFrame (some gen) addr.toNat data) crc))

/-- STATUS_READ (R346, R362): the last status word of the port; JTAG captures it with the read data. -/
def execStatusRead (hp : HostPort) (s : State) : Res :=
  if !s.listens hp then done s
  else
    let p := s.host.ports[hp.idx]
    let t := s.tap hp
    if hp = .jtag then done { t with jtag := { t.jtag with result := (p.status, p.rdData.headD 0) } }
    else done ((t.setPointer hp none).giveWords hp [p.status])

/-- TRANSACTION_ABORT: nothing commits (R338); a frame of the wrong length ends with FORMAT (R345, R350). -/
def execTransactionAbort (hp : HostPort) (kind : AbortKind) (s : State) : Res :=
  if !s.listens hp then done s
  else
    let t := s.setPointer hp none
    done (if kind = .badLength then t.endWith hp stFORMAT 0 0 else t)

/-! ### Order groups (R368 to R372) -/

/-- What a host-order record holds of an order (R399): port, whether it wins, status, address, value, microsecond of its commit point. -/
def orderWords (o : Order) (wins : Bool) : List Word :=
  [BitVec.ofNat 32 (o.hp.num + 8 * b2n wins + 256 * (if wins then stPENDING else stLOST)), BitVec.ofNat 32 o.addr, o.val, BitVec.ofNat 32 o.usec]

/-- The host-order record of a group (R372, R399): its orders as they came. -/
def State.logGroup (s : State) (grp win : List Order) : State := s.log recHOSTORDER (grp.flatMap (fun o => orderWords o (win.contains o)))

/-- A further order that stands. Equal values of two ports count as one order (R370): where both transactions are that one plain word, the
second follows the first, whose op is in the window. -/
def State.alsoWon (s : State) (w x : Order) : State :=
  let plain := fun (id left : Nat) => s.host.txns.any (fun t => t.id == id && t.opsLeft == left && t.words.length == 1 && t.guard.isNone)
  if x.val == w.val && x.hp != w.hp && plain w.txn 1 && plain x.txn 0 then
    s.modHost (fun hs => { hs with txns := hs.txns.map (fun t =>
      if t.id == x.txn then { t with undecided := 0, opsLeft := 1, leader := some w.txn } else t) })
  else s.orderWon x.txn

/-- Close the group of the oldest order: the losers' transactions are lost, and the orders that stand are decided. -/
def State.closeGroup (s : State) : State :=
  match s.host.orders with
  | [] => s
  | o :: _ =>
    let grp := s.host.orders.filter (fun x => x.addr == o.addr)
    let t := s.modHost (fun hs => { hs with orders := hs.orders.filter (fun x => x.addr != o.addr) })
    let lose := groupLosers grp
    let win := grp.filter (fun x => !(lose.map Prod.fst).contains x)
    let t := if lose.isEmpty then t else t.logGroup grp win
    let t := match groupWinner grp with
      | none => t
      | some w => lose.foldl (fun u x => u.loseTxn w.hp x.1 x.2) t
    match win with
    | [] => t
    | w :: rest => rest.foldl (fun u x => u.alsoWon w x) (t.orderWon w.txn)

/-- ORDER_GROUP_CLOSE: tORDERWIN after the first order to a target (R369). -/
def execOrderGroupClose (s : State) : Res := done s.closeGroup

/-! ### I2C (R351, R352) -/

/-- I2C_CLASH: a released bit reads low at a byte offset of the data: no side effect of the read is taken. -/
def execI2cClash (offset : BitVec 16) (s : State) : Res :=
  if !s.listens .i2c then done s
  else
    let g := match s.host.i2cPointer with
      | some p => s.genOf p.1
      | none => 0
    let t := ((s.raise HST_STAT.I2C_CLASH).satInc HST_CNT0.CLASH).tallyPlain 130
    done ((t.fire 0x130 offset.toNat).endWith .i2c stCLASH 0 g)

/-- I2C_TIMEOUT: the transaction is discarded. -/
def execI2cTimeout (s : State) : Res :=
  if s.listens .i2c && s.bit HST_CFG.I2CTOEN then done (((s.setPointer .i2c none).raise HST_STAT.I2CTO).satInc HST_CNT1.I2CTO) else done s

/-! ### CAN FD (R354 to R360) -/

/-- Is the controller on the bus and able to receive? -/
def State.canOn (s : State) : Bool := s.listens .can && decide (s.get HST_CANSTAT.STATE < 2)

/-- Hold a request, with its response or its transaction. -/
def State.holdCan (s : State) (f : CanFrame) (txn : Option Nat) (resp : Option (Word × List Word)) : State :=
  s.modHost (fun h => { h with canHeld := h.canHeld ++ [{ frame := f, txn := txn, resp := resp }] })

/-- A write request: accepted it waits for its status, else it is answered (R356). -/
def State.canWrite (s : State) (f : CanFrame) (guard : Option (BitVec 16)) : State :=
  let ws := targets f.addr.toNat f.data
  if f.count ≠ f.data.length then let t := s.refuseTxn .can stFORMAT 0 0 f.addr.toNat; t.holdCan f none (some (t.host.ports[HostPort.can.idx].status, []))
  else match s.judgeWrite .can guard ws with
    | (code, detail, level) =>
      if code = stOK then (s.accept .can guard ws).holdCan f (some s.host.nextTxn) none
      else let t := s.refuseTxn .can code detail level f.addr.toNat; t.holdCan f none (some (t.host.ports[HostPort.can.idx].status, []))

/-- A read request: its words and status are queued; its side effects wait for the acknowledgment (R340). -/
def State.canRead (s : State) (f : CanFrame) : State :=
  match s.judgeRead .can f.addr.toNat f.count with
  | (code, level, a) =>
    if code = stOK then
      let r := s.readWords .can (wordAddrs f.addr.toNat f.count)
      let t := ({ s with freeCtr := r.2.freeCtr }).endWith .can stOK 0 (s.genOf f.addr.toNat)
      t.holdCan f none (some (statusWord stOK 0 (s.genOf f.addr.toNat), r.1))
    else
      let t := s.refuseTxn .can code 0 level a
      t.holdCan f none (some (t.host.ports[HostPort.can.idx].status, refusedWords code f.count))

/-- Carry out a request that is not a repetition, as the last request of the port. -/
def State.canNew (s : State) (f : CanFrame) : State :=
  let last := fun (r : Option (Word × List Word)) (t : State) => t.modHost (fun h => { h with canLast := some (f, s.now, r) })
  if 4 ≤ s.host.canHeld.length then
    let r := (statusWord stBUSY 0 0, [])
    last (some r) ((s.endWith .can stBUSY 0 0).modHost (fun h => { h with canResend := h.canResend ++ [r] }))
  else if f.op = 0 then last none (s.canRead f)
  else if f.op = 1 then last none (s.canWrite f none)
  else if f.op = 2 then last none (s.canWrite f (some f.gen))
  else last none (s.holdCan f none (some (s.host.ports[HostPort.can.idx].status, [])))

/-- CAN_REQUEST: a request frame arrives (R356); one that repeats the last request within 1 s is not executed again (R357). -/
def execCanRequest (frame : CanFrame) (s : State) : Res :=
  if !s.canOn then done s
  else match s.host.canLast with
    | some (f, at_us, cached) =>
      if f = frame ∧ s.now ≤ at_us + 1000000 then
        let t := s.satInc HST_CNT1.CANDUP
        match cached with
        | some r => done (t.modHost (fun h => { h with canResend := h.canResend ++ [r] }))
        | none => done t
      else done (s.canNew frame)
    | none => done (s.canNew frame)

/-- Take the first held request whose response is queued. -/
def takeAnswered : List CanHeld → Option (CanHeld × List CanHeld)
  | [] => none
  | h :: t =>
    if h.resp.isSome then some (h, t)
    else match takeAnswered t with
      | none => none
      | some (x, u) => some (x, h :: u)

/-- The response to a request has been acknowledged: it is the cached one of the last request, and a read takes its side effects (R340). -/
def State.canAnswered (s : State) (h : CanHeld) : State :=
  let t := s.modHost (fun x => { x with canLast := match x.canLast with
    | some (f, u, c) => if f = h.frame then some (f, u, h.resp) else some (f, u, c)
    | none => none })
  if h.frame.op = 0 ∧ h.resp.any (fun r => r.1.toNat % 256 == stOK && !r.2.isEmpty) then
    ((t.readWords .can (wordAddrs h.frame.addr.toNat h.frame.count)).2).giveWords .can ((h.resp.map Prod.snd).getD [])
  else t

/-- CAN_FRAME_ACKNOWLEDGED: the frame the controller sends first is acknowledged: a response sent again, a response, else an event frame (R340, R357, R358). -/
def execCanFrameAcknowledged (s : State) : Res :=
  if !s.canOn then done s
  else match s.host.canResend with
    | _ :: rest => done (s.modHost (fun h => { h with canResend := rest }))
    | [] => match takeAnswered s.host.canHeld with
      | some (x, rest) => done ((s.modHost (fun h => { h with canHeld := rest })).canAnswered x)
      | none => done (s.modHost (fun h => { h with canEvents := h.canEvents.drop 1 }))

/-- CAN_ERROR_STATE: entry to error-passive or bus-off with the counters and the last error; E133 (R360). -/
def execCanErrorState (busOff : Bool) (tec rec : Byte) (lec : BitVec 3) (s : State) : Res :=
  let st := if busOff then 2 else 1
  if s.islandUp islHost && s.bit HST_CANCTL.EN && !s.bit HST_CANCTL.SLEEP then
    let t := ((s.put HST_CANSTAT.TEC tec.toNat).put HST_CANSTAT.REC rec.toNat).put HST_CANSTAT.LEC lec.toNat
    done (if s.get HST_CANSTAT.STATE = st then t else (t.put HST_CANSTAT.STATE st).fire 0x133 st)
  else done s

/-- CAN_BUSOFF_RECOVERY: the controller re-integrates (R360). -/
def execCanBusoffRecovery (s : State) : Res :=
  if s.islandUp islHost && s.get HST_CANSTAT.STATE == 2 then done (((s.put HST_CANSTAT.STATE 0).put HST_CANSTAT.TEC 0).put HST_CANSTAT.REC 0) else done s

/-- CAN_WAKE_FRAME: Soffit decodes an identifier while the controller sleeps or the Host island is unpowered (R359). -/
def execCanWakeFrame (id : BitVec 29) (s : State) : Res :=
  let set := if s.islandUp islHost then
      (if s.bit HST_CANCTL.WAKEEN && s.bit HST_CANCTL.SLEEP then some (s.get HST_CANWAKE.WAKEID, s.get HST_CANWMASK.MASK) else none)
    else s.soffit.wake
  match set with
  | some (w, m) => if id.toNat &&& m = w &&& m then done (s.wake SOF_WAKE_STAT.CANWAKE) else done s
  | none => done s

/-! ### Counts (R381) -/

/-- HST_CMD_CLRCNT. -/
def execHstCmdClrcnt (hp : HostPort) (key : Byte) (s : State) : Res :=
  done (s.command hp HST_CMD.at (BitVec.ofNat 32 (key.toNat * 2 ^ 24 + 1)) State.clearHst)

end Sys2Proof.Machine
end

