-- ==== Sys2Proof/Machine/Balls.lean ====
section
/-!
DEFINITION. The balls of the package (R500, R519 to R525) and the state each takes (R197, R533, R535): the 400-ball map, the boundary register's
cells, and each ball as a view of the state.
-/

namespace Sys2Proof.Machine

/-! ### The map (R519 to R523) -/

/-- The function of a ball. `second` is CC2, `b` output B or switch node B, `down` the down-link, `rx` the receiver and `neg` the negative conductor of a pair. -/
inductive Ball where
  | cc (n : Fin 16) (second : Bool)
  | vbusS (n : Fin 16) | vinS (n : Fin 16) | isp (n : Fin 16) | isn (n : Fin 16)
  | gate (n : Fin 16) | gsrc (n : Fin 16) | sw (n : Fin 16) (b : Bool) | gut (n : Fin 16)
  | pwm (k : Fin 48) (b : Bool)
  | drole (n : Fin 16)
  | gnd | vdd | vhv | vbus (n : Fin 2)
  | csN | sclk | sdi | sdo | sda | scl | intN | inwarn | canTx | canRx | wakeOut | rstN
  | xin | xout | xrtcI | xrtcO | addr (k : Fin 3) | tck | tms | tdi | tdo | trstN
  | xck | xds | xcs (k : Fin 2) | xio (k : Fin 8)
  | link (down rx neg : Bool)
  deriving DecidableEq, Repr

/-- The names of the rows (R519). -/
def rowNames : List String := ["A", "B", "C", "D", "E", "F", "G", "H", "J", "K", "L", "M", "N", "P", "T", "U", "V", "W", "Y", "AA"]

/-- A ball is named by its row and its column (R519). -/
def ballName (row col : Fin 20) : String := rowNames.getD row.val "" ++ toString (col.val + 1)

/-- Slice j of a port's own three (R70). -/
def ownSlice (n : Fin 16) (j : Fin 3) : Fin 48 := ⟨3 * n.val + j.val, by omega⟩

/-- The block of port n, by row index from the package edge (R520). -/
def blockBall (n : Fin 16) (i : Nat) (inner : Bool) : Ball :=
  match i, inner with
  | 0, b => .cc n b
  | 1, false => .vbusS n
  | 1, true => .vinS n
  | 2, false => .isp n
  | 2, true => .isn n
  | 3, false => .gate n
  | 3, true => .gsrc n
  | 4, false => .sw n false
  | 4, true => .gut n
  | 5, false => .sw n true
  | 6, b => .pwm (ownSlice n 0) b
  | 7, b => .pwm (ownSlice n 1) b
  | 8, b => .pwm (ownSlice n 2) b
  | 9, false => .drole n
  | _, _ => .gnd

/-- Columns 9 to 12, row by row (R522). -/
def sharedBalls : List (List Ball) :=
  [[.vbus 0, .gnd, .gnd, .vbus 1], [.gnd, .vhv, .vhv, .gnd],
   [.link false false false, .link false false true, .link false true false, .link false true true], [.gnd, .gnd, .gnd, .gnd],
   [.gnd, .vdd, .vdd, .gnd], [.csN, .sclk, .sdi, .sdo], [.sda, .scl, .intN, .inwarn], [.canTx, .canRx, .wakeOut, .rstN],
   [.xin, .xout, .vdd, .vdd], [.xrtcI, .xrtcO, .gnd, .gnd], [.addr 0, .addr 1, .addr 2, .trstN], [.tck, .tms, .tdi, .tdo],
   [.xck, .xds, .xcs 0, .xcs 1], [.xio 0, .xio 1, .xio 2, .xio 3], [.xio 4, .xio 5, .xio 6, .xio 7], [.gnd, .vdd, .vdd, .gnd],
   [.gnd, .gnd, .gnd, .gnd], [.link true false false, .link true false true, .link true true false, .link true true true],
   [.gnd, .vhv, .vhv, .gnd], [.gnd, .gnd, .gnd, .gnd]]

/-- The port k of a half whose block holds a column, and whether it is the block's inner column (R521): the outer columns are 1 + 2k and, from k = 4 on, 6 + 2k. -/
def colBlock (col : Fin 20) : Option (Nat × Bool) :=
  let c := col.val + 1
  if c ≤ 8 then some ((c - 1) / 2, c % 2 == 0)
  else if 13 ≤ c then some ((c - 5) / 2, c % 2 == 1)
  else none

/-- The ball at a row and a column (R521, R522): ports 0 to 7 from row A inward, ports 8 to 15 from row AA inward. -/
def ballAt (row col : Fin 20) : Ball :=
  match colBlock col with
  | some (k, inner) =>
    if row.val < 10 then blockBall (Fin.ofNat 16 k) row.val inner else blockBall (Fin.ofNat 16 (k + 8)) (19 - row.val) inner
  | none => (sharedBalls.getD row.val []).getD (col.val - 8) .gnd

/-- Every ball in ball order: row A before row B, column 1 before column 20 (R525). -/
def ballsInOrder : List Ball := (List.finRange 20).flatMap (fun r => (List.finRange 20).map (ballAt r))

/-- The classes of R500. -/
inductive BallClass where
  | hostDigital | i2c | openDrain | soffitDigital | xspi | pwm | gateDrive | gutter | cc | sense | clock | link | supply
  deriving DecidableEq, Repr

/-- The class of a ball (R500). -/
def Ball.cls : Ball → BallClass
  | .cc _ _ => .cc
  | .vbusS _ | .vinS _ | .isp _ | .isn _ | .sw _ _ => .sense
  | .gate _ | .gsrc _ => .gateDrive
  | .gut _ => .gutter
  | .pwm _ _ => .pwm
  | .gnd | .vdd | .vhv | .vbus _ => .supply
  | .sda | .scl => .i2c
  | .intN | .inwarn => .openDrain
  | .canRx | .wakeOut => .soffitDigital
  | .xin | .xout | .xrtcI | .xrtcO => .clock
  | .xck | .xds | .xcs _ | .xio _ => .xspi
  | .link _ _ _ => .link
  | .drole _ | .csN | .sclk | .sdi | .sdo | .canTx | .rstN | .addr _ | .tck | .tms | .tdi | .tdo | .trstN => .hostDigital

/-! ### Boundary scan (R362, R525) -/

/-- Does the boundary register hold a cell of a ball (R525)? -/
def Ball.scanned (b : Ball) : Bool :=
  match b with
  | .tck | .tms | .tdi | .tdo | .trstN | .gsrc _ => false
  | _ => match b.cls with
    | .hostDigital | .i2c | .openDrain | .soffitDigital | .xspi | .pwm | .gateDrive | .gutter => true
    | _ => false

/-- Can a scanned ball drive (R535)? -/
def Ball.drives : Ball → Bool
  | .csN | .sclk | .sdi | .addr _ | .rstN | .canRx => false
  | _ => true

/-- The cells of the boundary register, from TDI to TDO (R525). -/
def boundaryCells : List Ball := ballsInOrder.filter Ball.scanned

/-- The place of bit j of cell c: capture, update data and output enable in that order from TDI, bit 0 of the register next to TDO (assumption log 140). -/
def cellBit (c j : Nat) : Nat := 512 - (3 * c + j)

/-- The output-enable bits of the cells whose balls cannot drive: they read 0 (R525). -/
def inputCells : BitVec 513 :=
  (boundaryCells.zipIdx.filter (fun p => !p.1.drives)).foldl (fun m p => m ||| (1#513 <<< cellBit p.2 2)) 0

/-- The boundary register as it reads (R525). -/
def boundaryValue (v : BitVec 513) : BitVec 513 := v &&& ~~~inputCells

/-- The update data and the output enable of a ball's cell, none for a ball without one. -/
def cellOf (v : BitVec 513) (b : Ball) : Option (Bool × Bool) :=
  (boundaryCells.zipIdx.find? (fun p => p.1 == b)).map (fun p => (v.getLsbD (cellBit p.2 1), v.getLsbD (cellBit p.2 2)))

/-! ### The state of a ball (R535) -/

/-- What a ball does: nothing, one of its passive terminations, a level it drives, a pull-down or pull-up of CC, a measurement, an oscillation, or a bus that a
transaction drives. -/
inductive BallState where
  | hiZ
  | input
  | load
  | depletionRd
  | bothRd
  | activeRd
  | rp (level : Nat)
  | vconn
  | sensing
  | heldToGsrc
  | gateOn
  | gateOff
  | pulledLow
  | low
  | high
  | released
  | driving
  | off
  | oscillating
  | supply
  deriving DecidableEq, Repr

/-- A level. -/
def levelOf (b : Bool) : BallState := if b then .high else .low

/-- Has the island of a port been released, so that its balls have their functions (R535)? A port of the ROM sink policy has them too. -/
def State.ballsLive (s : State) (n : Fin 16) : Bool := s.portUp n && s.ports[n].released

/-- The level of an output ball: active high, or active low with its polarity bit; a disabled slice drives both inactive (R197). The balls of a lent slice follow
the borrowing port, whatever its owner's island does (R220, R533). At Level 1 only slices 3n and 3n + 1 of the service port are driven (R502). Before release
a ball is not driven. -/
def State.pwmBall (s : State) (k : Fin 48) (b : Bool) : Option Bool :=
  let n := (s.driver k).getD (Fin.ofNat 16 (ownerOf k))
  if s.ballsLive n && !(s.ports[n].rom && k.val % 3 == 2) then
    some (xor (if b then s.slices[k].outB else s.slices[k].outA) (if b then s.bit (RAF_CTRL.POLB k) else s.bit (RAF_CTRL.POLA k)))
  else none

/-- A CC pin of port n (R98, R104, R106, R111, R120): Rd of ports 0 and 1 as the dead-battery sequencer and the sink drive it, VCONN on the pin that is not monitored,
and Rp at the level applied. -/
def State.ccBall (s : State) (n : Fin 16) (second : Bool) : BallState :=
  match (if n.val < 2 then s.boot.rd.getD n.val 0 else 0) with
  | 1 => .depletionRd
  | 2 => .bothRd
  | 3 => .activeRd
  | _ =>
    if !s.ballsLive n then .hiZ
    else if s.bit (PCC_STATUS.VCONNON n) && s.bit (PCC_STATUS.ORIENT n) != second then .vconn
    else if s.get (PCC_STATUS.RPOUT n) = 0 then .hiZ
    else .rp (s.get (PCC_STATUS.RPOUT n))

/-- Is VDD present, so that the host digital balls drive (R501, R535)? -/
def State.vddHere (s : State) : Bool := s.bit GLB_SUPSTAT.VDDOK

/-- Has a boot step begun (R46)? A relay start keeps the shared balls but for those of the Host island (R533). -/
def State.reached (s : State) (step : Nat) : Bool := s.vddHere && (decide (step ≤ s.get GLB_BOOTSTAT.STAGE + 1) || s.holding)

/-- INT_N is low while BAT_IRQSTAT and BAT_IRQEN have a bit in common, and not driven while the Host island is unpowered or in reset (R376). -/
def State.intLow (s : State) : Bool := s.islandUp islHost && s.rd BAT_IRQSTAT.at &&& s.rd BAT_IRQEN.at != 0

/-- A ball with its function, when no JTAG instruction has taken the balls over (R535). -/
def State.ballFn (s : State) : Ball → BallState
  | .cc n second => s.ccBall n second
  | .vbusS n | .vinS n | .isp n | .isn n | .sw n _ => if s.ballsLive n then .sensing else .load
  | .gate n => if !s.ballsLive n then .heldToGsrc else if s.eaveLive n then .gateOn else .gateOff
  | .gsrc _ => .input
  | .gut n => if !s.portUp n then .pulledLow else levelOf (s.bit (PGT_STATUS.ON n))
  | .pwm k b => match s.pwmBall k b with
    | none => .pulledLow
    | some v => levelOf v
  | .drole n => if s.vddHere && s.ballsLive n then levelOf (s.bit (PPD_STATUS.DROLE n)) else .hiZ
  | .gnd | .vdd | .vhv | .vbus _ => .supply
  | .csN | .sclk | .sdi | .addr _ | .rstN | .canRx | .tck | .tms | .tdi | .trstN => .input
  | .sdo | .tdo => .hiZ
  | .sda | .scl => .released
  | .intN => if s.intLow then .low else .released
  | .inwarn => if s.vddHere && s.bat.levels.contains 0x107 then .low else .released
  | .canTx => if s.reached 4 then .high else .hiZ
  | .wakeOut => if s.islandUp islSoffit then levelOf (s.rd SOF_WAKE_CFG.at &&& s.rd SOF_WAKE_STAT.at != 0) else .hiZ
  | .xin | .xout => if s.reached 3 then .oscillating else .off
  | .xrtcI | .xrtcO => if s.islandUp islSoffit && s.bit SOF_RTCCFG.SRC then .oscillating else .off
  | .xck | .xds | .xcs _ | .xio _ => if s.reached 5 then .driving else .hiZ
  | .link _ rx _ => if rx then .input else if s.reached 4 && s.bit JTL_CFG.EN && (s.islandUp islJotil || s.holding) then .driving else .hiZ

/-- A ball (R362, R535): EXTEST and CLAMP drive the scanned balls from the boundary register, GATE by its pull-up or pull-down (R525), and HIGHZ drives none. -/
def State.ball (s : State) (b : Ball) : BallState :=
  if s.jtag.drive = 0 then s.ballFn b
  else match cellOf s.jtag.boundary b with
    | none => s.ballFn b
    | some (v, en) =>
      if s.jtag.drive = 2 || !b.drives then (if b.drives then .hiZ else .input)
      else if !en then .hiZ
      else match b with
        | .gate _ => if v then .gateOn else .gateOff
        | _ => levelOf v

end Sys2Proof.Machine
end

