-- ==== Sys2Proof/Machine/Jtag.lean ====
section
/-!
DEFINITION. The JTAG instructions beside REGACC and HALT (R361, R362, R525). An instruction whose authority the JTAG grant does not meet selects
BYPASS. REGACC transactions are host reads and writes of the JTAG port.
-/

namespace Sys2Proof.Machine

/-- Update the TAP. -/
def State.modJtag (s : State) (f : JtagSt → JtagSt) : State := { s with jtag := f s.jtag }

/-- IDCODE (R361): version, part, manufacturer 0x63B and 1. -/
def State.idcode (s : State) : Word :=
  BitVec.ofNat 32 (1 + 0x63B * 2 + (if s.lns8 then 0x4C08 else 0x4C16) * 2 ^ 12 + s.get GLB_SIREV.MINOR % 16 * 2 ^ 28)

/-- Select an instruction that leaves the balls to their functions, with the data register it captures. -/
def State.passive (s : State) (code level : Nat) (dr : Word) : State :=
  let t := s.selectIr code level
  t.modJtag (fun j => { j with drive := 0, dr := if j.ir = code then dr else 0 })

/-- Every port takes the stage-stop and Eave-open actions of ErrorRecovery (R362). -/
def State.testStop (s : State) : State :=
  allPorts.foldl (fun t n =>
    if t.portUp n then
      let u := t.legsOff n
      (if u.eaveLive n then u.eaveOpen n else u).goErrRec n
    else t) s

/-- Select an instruction that takes the balls over: on entry every port stops first; without the authority it selects BYPASS. -/
def State.takeBalls (s : State) (code how : Nat) : State :=
  let t := s.selectIr code 3
  if t.jtag.ir = code then (if s.jtag.drive = 0 then t.testStop else t).modJtag (fun j => { j with drive := how })
  else t.modJtag (fun j => { j with drive := 0, dr := 0 })

/-- BYPASS. -/
def execBypass (s : State) : Res := done (s.passive 0xFF 0 0)
/-- IDCODE (R361). -/
def execIdcode (s : State) : Res := done (s.passive 0x01 0 s.idcode)

/-- SAMPLE_PRELOAD: the boundary register as captured and shifted (R525); no ball changes (R533). -/
def execSamplePreload (capture : BitVec 513) (s : State) : Res :=
  let t := s.passive 0x02 1 0
  done (if t.jtag.ir = 0x02 then t.modJtag (fun j => { j with boundary := boundaryValue capture }) else t)

/-- EXTEST: the balls are driven from the boundary register (R362). -/
def execExtest (s : State) : Res := doneAll s (s.takeBalls 0x00 1)
/-- HIGHZ: every output ball is high-impedance (R362). -/
def execHighz (s : State) : Res := doneAll s (s.takeBalls 0x03 2)
/-- CLAMP: the outputs are driven from the boundary register (R362). -/
def execClamp (s : State) : Res := doneAll s (s.takeBalls 0x04 3)

end Sys2Proof.Machine
end

