-- ==== Sys2Proof/Machine/Loop.lean ====
section
/-!
DEFINITION. The meanings of the loop commands (R223 to R248): the sampling point with both compensators, cable compensation, the
feedback-fault detectors with their confirmation, and the input-range fault.
-/

namespace Sys2Proof.Machine

/-! ### LOOP_SAMPLE -/

/-- Is the voltage loop held at c = 0 (pre-bias, R234)? -/
def State.prebias (s : State) (n : Fin 16) : Bool := s.bit (PLP_STATUS.PRE n)

/-- Move the reference one sample towards its goal at the slews of the bank in force (R233). In pre-bias it stands at the target; in
measurement conditions of a sweep it is held (R327). -/
def State.stepRef (s : State) (n : Fin 16) : State :=
  let l := s.ports[n].loop
  let up := s.slewStep n (bankSlewUp l.bank)
  let dn := s.slewStep n (bankSlewDn l.bank)
  if s.swHeld n then s
  else (s.modLoop n (fun x => { x with ref := moveTo x.ref x.goal up dn })).showRef n

/-- The errors of a sample, kept as history. -/
def State.errors (s : State) (n : Fin 16) (v i : List (BitVec 12)) : Int × Int :=
  let l := s.ports[n].loop
  let amp : Int := (s.ampCode n l.limit : Nat)
  let k := max 1 i.length
  (errQ (voltCode l.ref : Nat) v,
   if bankMode l.bank == 3 then ((1024 + amp) * k - (2048 * (k : Int) - (codeSum i : Int))) * 1024 / k else errQ (1024 + amp) i)

/-- Both corrections of a sample with the anti-windup of R229: (cV, cI) before the choice. -/
def State.corrections (s : State) (n : Fin 16) (v i : List (BitVec 12)) : Int × Int :=
  let l := s.ports[n].loop
  match s.errors n v i with
  | (eV, eI) =>
    (compensate l.bank 0 (bankVshift l.bank) eV l.eV l.uV, compensate l.bank 7 (bankIshift l.bank) eI l.eI l.uI)

/-- Keep the last-good average: the mean of m over each complete block of FRZN samples, with the sample its block ended at (R243). Sixteen blocks of at least 16 samples reach
back beyond the longest interval of R241 or R242. -/
def State.keepBlock (s : State) (n : Fin 16) (m : Nat) : State :=
  let l := s.ports[n].loop
  let k := max 1 (s.get (PLP_FRZCFG.FRZN n))
  let no := l.sampleNo + 1
  let sum := l.blockSum + m
  if no % k = 0 then s.modLoop n (fun x => { x with sampleNo := no, blockSum := 0, blocks := ((no, sum / k) :: x.blocks).take 16 })
  else s.modLoop n (fun x => { x with sampleNo := no, blockSum := sum })

/-- Deliver m to the legs and show it (R230, R231). -/
def State.drive (s : State) (n : Fin 16) (m : Nat) : State :=
  let l := s.ports[n].loop
  match legDuties s.ports[n].topo (bankMode l.bank == 3) l.bank (s.dmaxQ (s.leadSlice n)) m with
  | (ds, r) => ((s.deliver n ds).put (PLP_MCMD.M n) m).put (PLP_STATUS.REGION n) r

/-- Take a sample into the run of the freeze test (R242): the codes and the compensator output of the loop in control; a change of control begins a new run. -/
def State.keepFreeze (s : State) (n : Fin 16) (ctrlI : Bool) (codes : Nat) (u : Int) : State :=
  s.modLoop n (fun l => { l with frz := ((codes, u) :: (if l.frzI == ctrlI then l.frz else [])).take 255, frzI := ctrlI })

/-- Is the signal of the loop in control frozen over the last FRZN samples (R242): codes within FRZLSB of the first of them while the output spans more than FRZMOV in 0.1 % of
full scale; or, with the current loop in control, codes at one end of the range (R246)? -/
def State.frozenNow (s : State) (n : Fin 16) : Bool :=
  let l := s.ports[n].loop
  let k := max 1 (s.get (PLP_FRZCFG.FRZN n))
  let w := l.frz.take k
  let band := s.get (PLP_FRZCFG.FRZLSB n) * s.osr n
  let c0 := (w.getLastD (0, 0)).1
  let us := w.map Prod.snd
  let hi := us.foldl max ((us.headD 0))
  let lo := us.foldl min ((us.headD 0))
  decide (w.length = k) &&
  ((w.all (fun p => decide (p.1 ≤ c0 + band) && decide (c0 ≤ p.1 + band)) && decide ((s.get (PLP_FRZCFG.FRZMOV n) * q22 : Nat) < (hi - lo) * 1000)) ||
   (l.frzI && (w.all (fun p => p.1 == 0) || w.all (fun p => p.1 == 4095 * s.osr n))))

/-- One sample of the loop (R227 to R234). -/
def State.loopSample (s : State) (n : Fin 16) (v i other : List (BitVec 12)) : State :=
  let s0 := (s.takeStaged (PLP_FRZCFG.at n)).takeStaged (PLP_CCOMP.at n)
  let rev := bankMode s0.ports[n].loop.bank == 3
  let s1 := s0.modLoop n (fun l => { l with
    other := ((other.map BitVec.toNat).reverse ++ l.other).take 4,
    lastMv := codeSum v * 15 / max 1 v.length, lastMa := s0.codeMa n i (rev || s0.bit (PEV_STATUS.DIR n)) })
  if s1.bit (PLP_STATUS.CONFIRM n) then s1.drive n (s1.get (PLP_LASTGOOD.M n) * 98 / 100)
  else
    let s2 := s1.stepRef n
    let l := s2.ports[n].loop
    match s2.corrections n v i, s2.errors n v i with
    | (cv0, ci), (eV, eI) =>
      let pre := s2.prebias n
      let cv : Int := if pre then 0 else cv0
      let head : Int := (bankHdrm l.bank * 4096 : Nat)
      let ctrlI := decide (ci < cv)
      let c := min cv ci
      let uv := if ctrlI && !pre then min cv (c + head) else cv
      let ui := if ctrlI then ci else min ci (c + head)
      let s3 := s2.modLoop n (fun x => { x with
        eV := if pre then [0, 0, 0] else pushHist eV x.eV, uV := if pre then [0, 0, 0] else pushHist uv x.uV,
        eI := pushHist eI x.eI, uI := pushHist ui x.uI })
      let vt := if bankFfen l.bank || pre then voltQ l.ref else 0
      let m := convM vt c (s3.vinQ n rev)
      (((s3.flag (PLP_STATUS.CTRLI n) ctrlI).drive n m).keepBlock n m).keepFreeze n ctrlI (codeSum (if ctrlI then i else v)) (if ctrlI then ui else if pre then 0 else uv)

/-- LOOP_SAMPLE: at a sampling point the codes arrive: the OSR codes of the loop's voltage and current (R224), and the free-slot conversions of
the other voltage since the last sample. Further codes of the loop's inputs go to the telemetry, and with fewer than OSR the conversions of the point are not complete. Nothing runs
before a stage start (R247) or on a halted island (R240). -/
def execLoopSample (n : Fin 16) (v i other : List (BitVec 12)) (s : State) : Res :=
  let k := s.osr n
  if s.portUp n && !s.halted n.val && s.stageOn n && decide (k ≤ v.length) && decide (k ≤ i.length) then done1 n s (s.loopSample n (v.take k) (i.take k) other) else done s

/-! ### Cable compensation (R237, R238) -/

/-- The voltage of the monitored pin. -/
def State.monitored (s : State) (n : Fin 16) : Nat := if s.bit (PCC_STATUS.ORIENT n) then s.get (PCC_CCLVL.CC2 n) else s.get (PCC_CCLVL.CC1 n)

/-- May the ground drop be measured (R237)? quiet says that no BMC traffic and no change of Rp fell in the 4 ms interval. -/
def State.mayMeasure (s : State) (n : Fin 16) (quiet : Bool) : Bool :=
  s.cc n == ccAttachedSrc && s.bit (PCC_CCREF.VALID n) && s.get (PCC_CCREF.RPLVL n) == s.get (PCC_STATUS.RPOUT n) && quiet &&
  decide (s.get (PLP_CCOMP.IMINC n) * 10 ≤ s.get (PLP_IMEAS.MA n) ∧ s.get (PLP_IMEAS.MA n) < 32768)

/-- One ground-drop measurement (R237): Vg in 0.1 mV, Rm in µΩ bounded by RGMAX, Rc the mean of the last four. -/
def State.measure (s : State) (n : Fin 16) : State :=
  let vg := s.monitored n - s.get (PCC_CCREF.LEVEL n)
  let raw := vg * 100000 / max 1 (s.get (PLP_IMEAS.MA n))
  let bound := s.get (PCC_LENGTH.RGMAX n) * 1000
  let rm := (min raw bound :: s.ports[n].loop.rm).take 4
  let rc := rm.sum / rm.length
  let t := s.modLoop n (fun l => { l with rm := rm, rc := rc })
  (((t.put (PLP_VG.VG n) (min vg 65535)).flag (PLP_VG.CLAMP n) (decide (bound < raw))).raise (PLP_VG.VALID n)).put (PLP_COMP.RC n) (rc / 100)

/-- CC_LEVEL_UPDATE: the 4 ms update of PCC_CCLVL in 0.1 mV; both fields read 0xFFFF while the housekeeping converter is unavailable (STALE),
when CCREF is no longer valid (R124). A measurement follows when R237 allows. -/
def execCcLevelUpdate (n : Fin 16) (cc1 cc2 : BitVec 16) (stale quiet : Bool) (s : State) : Res :=
  if !s.portUp n then done s
  else if stale then done ((s.wr (PCC_CCLVL.at n) 0xFFFFFFFF).clear (PCC_CCREF.VALID n))
  else
    let t := (s.put (PCC_CCLVL.CC1 n) cc1.toNat).put (PCC_CCLVL.CC2 n) cc2.toNat
    done (if t.mayMeasure n quiet then t.measure n else t)

/-- Is compensation allowed at this moment (R238)? -/
def State.compAllowed (s : State) (n : Fin 16) : Bool :=
  s.bit (PLP_CCOMP.EN n) && bankCompen s.ports[n].loop.bank &&
  !(s.get (PPD_STATUS.KIND n) == 1 && s.get (PPD_STATUS.CONTRACT n) != 0 && !s.bit (PLP_CCOMP.PPSEN n)) &&
  s.get (PCC_LENGTH.RGMAX n) != 0 && bankMode s.ports[n].loop.bank != 3 && bankMode s.ports[n].loop.bank != 1

/-- The compensation target in µV (R238): CGAIN ÷ 64 · Rc · I, at most CMAX and 5 % of the contract voltage. -/
def State.compTarget (s : State) (n : Fin 16) : Nat :=
  if !s.compAllowed n then 0
  else
    let i := if s.get (PLP_IMEAS.MA n) < 32768 then s.get (PLP_IMEAS.MA n) else 0
    let raw := s.get (PLP_CCOMP.CGAIN n) * s.ports[n].loop.rc * i / 64000
    let v := if s.hasContract n then s.get (PPD_CONTRACTVI.V10 n) else 500
    min raw (min (s.get (PLP_CCOMP.CMAX n) * 10000) (v * 500))

/-- COMPENSATION_TICK: the 1 ms means (VBUS_S in mV, VIN_S in 10 mV, current in mA signed) enter PLP_VMEAS and PLP_IMEAS, and the applied
compensation moves by at most 50 mV towards its target, held during a ramp and a sweep (R327) and 0 with Eave open (R238). -/
def execCompensationTick (n : Fin 16) (vbus vin ma : BitVec 16) (s : State) : Res :=
  if !s.portUp n || s.halted n.val then done s
  else
    let t := ((s.put (PLP_VMEAS.VBUS n) vbus.toNat).put (PLP_VMEAS.VIN n) vin.toNat).put (PLP_IMEAS.MA n) ma.toNat
    if t.get (PEV_STATUS.STATE n) ≠ 3 ∨ t.bit (PLP_STATUS.RAMP n) ∨ t.swHeld n then done t
    else
      let c := moveTo t.ports[n].loop.comp (t.compTarget n) 50000 50000
      done (((t.modLoop n (fun l => { l with comp := c })).put (PLP_COMP.COMP n) (c / 1000)).flag (PLP_STATUS.COMPON n) (c != 0))

/-- CLEARRC: PLP_CMD.CLEARRC clears Rc and restarts the measurement (R237). -/
def execClearrc (hp : HostPort) (n : Fin 16) (s : State) : Res :=
  doneAll s (s.command hp (PLP_CMD.at n) 1 (fun t => t.clearRc n))

/-- RC_STALE_TIMEOUT: the housekeeping converter has been unavailable for 100 ms; Rc is cleared (R246). -/
def execRcStaleTimeout (n : Fin 16) (s : State) : Res :=
  if s.rd (PCC_CCLVL.at n) = 0xFFFFFFFF then done (s.clearRc n) else done s

/-! ### Feedback faults (R241 to R244) -/

/-- Samples that make up an interval in fine steps. -/
def State.samplesIn (s : State) (n : Fin 16) (fine : Nat) : Nat :=
  let t := s.basePeriod (s.leadSlice n) * s.decimUsed n / s.sppUsed n
  (fine + t - 1) / max 1 t

/-- The last-good average: the most recent complete block that ended before the run of some samples began (R243). With no such block the spec gives no average: a free
value (assumption log 124). -/
def State.lastGood (s : State) (n : Fin 16) (run : Nat) : Nat × State :=
  let l := s.ports[n].loop
  match l.blocks.find? (fun b => decide (b.1 + run ≤ l.sampleNo)) with
  | some b => (b.2.toNat, s)
  | none => match s.free with
    | (x, t) => (x.toNat % 16735273, t)

/-- Confirmation begins (R243): m is clamped to the last-good average, CONFIRM is set and PLP_FBFAULT fires with PLP_FLAGS[5:0]. -/
def State.beginConfirm (s : State) (n : Fin 16) (run : Nat) : State :=
  match s.lastGood n run with
  | (m, u) =>
    let t := ((u.put (PLP_LASTGOOD.M n) m).raise (PLP_STATUS.CONFIRM n)).modLoop n (fun l => { l with frz := [] })
    (t.drive n (m * 98 / 100)).firePort n 10 ((t.rd (PLP_FLAGS.at n)).toNat % 64)

/-- OPEN_SENSE: a sense pin (0 VBUS_S, 1 ISP or ISN, 2 VIN_S) is declared open after three half-periods, 150 µs, whether or not the stage runs (R241). One more declaration
within a confirmation is recorded and fires, and the window goes on (R243). -/
def execOpenSense (n : Fin 16) (pin : Fin 3) (s : State) : Res :=
  if s.portUp n && !s.halted n.val && s.bit (PLP_FRZCFG.OSDEN n) then
    let t := s.wr (PLP_FLAGS.at n) (s.rd (PLP_FLAGS.at n) ||| BitVec.ofNat 32 (2 ^ pin.val))
    done (if t.bit (PLP_STATUS.CONFIRM n) then t.firePort n 10 ((t.rd (PLP_FLAGS.at n)).toNat % 64) else t.beginConfirm n (t.samplesIn n 1920000))
  else done s

/-- FROZEN_SIGNAL: the samples meet the freeze test (R242, R246); FRZV or FRZI names the loop in control. It acts in pre-bias and in a ramp as well (R234), where the codes
decide (R240). -/
def execFrozenSignal (n : Fin 16) (s : State) : Res :=
  if s.bit (PLP_FRZCFG.FRZEN n) && s.portUp n && !s.halted n.val && s.stageOn n && !s.bit (PLP_STATUS.CONFIRM n) && s.frozenNow n then
    let t := if s.bit (PLP_STATUS.CTRLI n) then s.raise (PLP_FLAGS.FRZI n) else s.raise (PLP_FLAGS.FRZV n)
    done (t.beginConfirm n (t.get (PLP_FRZCFG.FRZN n)))
  else done s

/-- FEEDBACK_TRANSIENT: before the window ends the frozen code moves or the pin reads connected; the loop resumes with histories that give
the clamped m, TRANS is set and the fault counts in the LOOP tally, which at its threshold takes the port out (R243, R245). -/
def execFeedbackTransient (n : Fin 16) (s : State) : Res :=
  if s.bit (PLP_STATUS.CONFIRM n) && !s.halted n.val then
    let l := s.ports[n].loop
    let vt := if bankFfen l.bank || s.prebias n then voltQ l.ref else 0
    let u : Int := (s.get (PLP_LASTGOOD.M n) * s.vinQ n (bankMode l.bank == 3) / q22 : Nat) - (vt : Int)
    let t := s.modLoop n (fun x => { x with eV := [0, 0, 0], eI := [0, 0, 0], uV := [u, u, u], uI := [u, u, u] })
    done1 n s (((t.clear (PLP_STATUS.CONFIRM n)).raise (PLP_FLAGS.TRANS n)).tallyLoop n)
  else done s

/-- CONFIRM_WINDOW_END: the window ends without recovery; the fault is lasting and the stage-fault path runs (R243, R244). -/
def execConfirmWindowEnd (n : Fin 16) (s : State) : Res :=
  if s.bit (PLP_STATUS.CONFIRM n) && !s.halted n.val then done1 n s (s.stageFault n) else done s

/-- VIN_RANGE_FAULT: VIN_S has been below VINMIN or above 60 V for 100 µs while the stage runs (R244). -/
def execVinRangeFault (n : Fin 16) (s : State) : Res :=
  if s.portUp n && !s.halted n.val && s.stageOn n then done1 n s ((s.raise (PLP_FLAGS.VINRANGE n)).stageFault n) else done s

end Sys2Proof.Machine
end

