-- ==== Sys2Proof/Machine/PdMsg.lean ====
section
/-!
DEFINITION. The meanings of the remaining PD messages (R145, R146, R156): what a port answers to questions about itself, to unsupported and
informational messages, Alert, BIST and Cable Reset. The contents the spec does not state are free values (assumption log 3).
-/

namespace Sys2Proof.Machine

/-- k words the spec does not state. -/
def State.freeWords (s : State) : Nat → List Word × State
  | 0 => ([], s)
  | k + 1 =>
    let r := State.freeWords { s with freeCtr := s.freeCtr + 1 } k
    ((Config.freeValue s.freeCtr).truncate 32 :: r.1, r.2)

/-- Send a message of k unstated words. -/
def State.sendFree (s : State) (n : Fin 16) (name : MsgName) (k : Nat) : State :=
  match s.freeWords k with
  | (ws, t) => t.send n name ws

/-- An answer that is an extended message: at Revision 2.0 none is sent, and Not_Supported takes its place (R130; DESIGN CHOICE, assumption log 136). -/
def State.extended (s : State) (n : Fin 16) (ans : State → State) : State := if s.rev3 n then ans s else s.ns n

/-- Source_Capabilities, or EPR_Source_Capabilities, composed and sent as an answer; the policy state stands. -/
def State.answerCaps (s : State) (n : Fin 16) (epr : Bool) : State := (s.composeAs n epr).sendCached n

/-- The port's Sink_Capabilities (R151): 5 V at the lower of 3 A and IMAX, and VREQ at IMAX unless VREQ is 5 V. -/
def State.sinkPdos (s : State) (n : Fin 16) : List Word :=
  let imax := s.get (PPD_SINKPOL0.IMAX n)
  let vreq := s.get (PPD_SINKPOL0.VREQ n)
  let first := BitVec.ofNat 32 (b2n (s.bit (PPD_CFG.DRACC n)) * 2 ^ 25 + 100 * 1024 + min 300 imax)
  if vreq = 50 then [first] else [first, BitVec.ofNat 32 (vreq * 2 * 1024 + imax)]

/-- PID of the part (R146). -/
def State.pid (s : State) : Nat := if s.lns8 then 0x4C08 else 0x4C16

/-- PING: acknowledged only. -/
def execPing (h : PdHead) (s : State) : Res :=
  received h s (fun t => t.byGroup h.n ig ig ig ig ig ig)

/-- NOT_SUPPORTED: in Ready it ends the device's AMS. -/
def execNotSupported (h : PdHead) (s : State) : Res :=
  received h s (fun t => t.byGroup h.n ig ig (fun u => if u.awaits h.n then u.amsOver h.n else u) ig ig ig)

/-- GET_SOURCE_CAP: the capabilities for the mode; from the cache under the fixed-logic responder. -/
def execGetSourceCap (h : PdHead) (s : State) : Res :=
  received h s (fun t => t.byGroup h.n (fun u => u.sendOffer h.n) (star h.n)
    (fun u => u.answerCaps h.n (u.bit (PPD_STATUS.EPRMODE h.n))) (fun u => u.sendCached h.n) (nsup h.n) (nsup h.n))

/-- GET_SINK_CAP: Sink_Capabilities of a service port (R151); at Level 1 and in Dormer one PDO, 5 V at the service limit. -/
def execGetSinkCap (h : PdHead) (s : State) : Res :=
  received h s (fun t => t.byGroup h.n (star h.n) (star h.n) (nsup h.n) (nsup h.n) (fun u => u.send h.n .sinkCap (u.sinkPdos h.n))
    (fun u => u.send h.n .sinkCap [BitVec.ofNat 32 (100 * 1024 + u.svcIlim h.n.val / 10)]))

/-- UNSUPPORTED_MESSAGE: Not_Supported (R145, R129). -/
def execUnsupportedMessage (h : PdHead) (s : State) : Res :=
  received h s (fun t => t.byGroup h.n (star h.n) (star h.n) (nsup h.n) (nsup h.n) (nsup h.n) (nsup h.n))

/-- GET_SOURCE_CAP_EXTENDED: Source_Capabilities_Extended. -/
def execGetSourceCapExtended (h : PdHead) (s : State) : Res :=
  let ans := fun (u : State) => u.extended h.n (fun v => v.sendFree h.n .sourceCapExt 7)
  received h s (fun t => t.byGroup h.n (star h.n) (star h.n) ans ans (nsup h.n) (nsup h.n))

/-- The Status message: Present Input shows External Power unless the input warning holds (R156). -/
def State.sendStatus (s : State) (n : Fin 16) : State :=
  match s.freeWords 2 with
  | (ws, t) =>
    let w := (wordAt ws 0 &&& ~~~0x200#32) ||| (if s.bit (PPD_STATUS.INWARN n) then 0 else 0x200#32)
    t.send n .status (w :: ws.drop 1)

/-- GET_STATUS: Status. -/
def execGetStatus (h : PdHead) (s : State) : Res :=
  let ans := fun (u : State) => u.extended h.n (fun v => v.sendStatus h.n)
  received h s (fun t => t.byGroup h.n (star h.n) (star h.n) ans ig ans (nsup h.n))

/-- GET_PPS_STATUS: PPS_Status in a PPS contract; the Operating Mode Flag shows the current loop in control (R228). -/
def execGetPpsStatus (h : PdHead) (s : State) : Res :=
  received h s (fun t => t.byGroup h.n (star h.n) (star h.n)
    (fun u => if u.rev3 h.n && u.hasContract h.n && u.get (PPD_STATUS.KIND h.n) == 1 then
        (match u.freeWords 1 with
         | (ws, v) => v.send h.n .ppsStatus [(wordAt ws 0 &&& ~~~0x08000000#32) |||
             (if u.bit (PLP_STATUS.CTRLI h.n) && u.get (PLP_STATUS.MODE h.n) == 2 then 0x08000000#32 else 0)])
      else u.ns h.n) ig (nsup h.n) (nsup h.n))

/-- GET_SINK_CAP_EXTENDED: Sink_Capabilities_Extended of a service port. -/
def execGetSinkCapExtended (h : PdHead) (s : State) : Res :=
  received h s (fun t => t.byGroup h.n (star h.n) (star h.n) (nsup h.n) ig (fun u => u.extended h.n (fun v => v.sendFree h.n .sinkCapExt 6)) (nsup h.n))

/-- GET_SOURCE_INFO: Source_Info of a managed port with PMAX as its maximum PDP. -/
def execGetSourceInfo (h : PdHead) (s : State) : Res :=
  let ans := fun (u : State) =>
    match u.freeWords 1 with
    | (ws, v) => v.send h.n .sourceInfo [(wordAt ws 0 &&& 0x7F00FFFF#32) ||| BitVec.ofNat 32 (min 255 (fieldOf (u.policyHead h.n) 31 16) * 65536)]
  received h s (fun t => t.byGroup h.n (star h.n) (star h.n) ans ans (nsup h.n) (nsup h.n))

/-- GET_REVISION: Revision 3.1, version 1.8. -/
def execGetRevision (h : PdHead) (s : State) : Res :=
  let ans := fun (u : State) => u.send h.n .revision [0x31180000]
  received h s (fun t => t.byGroup h.n ans (star h.n) ans ans ans ans)

/-- GET_MANUFACTURER_INFO: VID, PID and the part string "LNS-16" or "LNS-8". -/
def execGetManufacturerInfo (h : PdHead) (s : State) : Res :=
  let ans := fun (u : State) => u.extended h.n (fun v => v.send h.n .manufacturerInfo
    (BitVec.ofNat 32 (v.get (PPD_VDMCFG.VID h.n) + v.pid * 65536) :: (if v.lns8 then [0x2D534E4C, 0x38] else [0x2D534E4C, 0x3631])))
  received h s (fun t => t.byGroup h.n (star h.n) (star h.n) ans ig ans (nsup h.n))

/-- EPR_GET_SOURCE_CAP: EPR_Source_Capabilities when EPRCAP = 1. -/
def execEprGetSourceCap (h : PdHead) (s : State) : Res :=
  received h s (fun t => t.byGroup h.n (star h.n) (star h.n)
    (fun u => if fieldOf (u.policyHead h.n) 6 6 = 1 then u.extended h.n (fun v => v.answerCaps h.n true) else u.ns h.n)
    (fun u => u.extended h.n (fun v => v.sendCached h.n)) (nsup h.n) (nsup h.n))

/-- EPR_GET_SINK_CAP: Not_Supported. -/
def execEprGetSinkCap (h : PdHead) (s : State) : Res :=
  received h s (fun t => t.byGroup h.n (star h.n) (star h.n) (nsup h.n) (nsup h.n) (nsup h.n) (nsup h.n))

/-- ALERT: logged; in Ready Get_Status is sent when ALERTGS = 1 and the port does not run at Revision 2.0 (R130). -/
def execAlertMsg (h : PdHead) (s : State) : Res :=
  received h s (fun t => t.byGroup h.n (star h.n) (star h.n)
    (fun u => if u.bit (PPD_CFG.ALERTGS h.n) && u.rev3 h.n && !u.amsBusy h.n then u.beginAms h.n .getStatus else u) ig ig ig)

/-- Execute BIST at vSafe5V when BISTEN = 1 (R146): Carrier Mode runs until tBISTContMode. -/
def State.bistIn (s : State) (n : Fin 16) (carrier : Bool) : State :=
  if s.bit (PPD_CFG.BISTEN n) && (!s.hasContract n || s.get (PPD_CONTRACTVI.V10 n) == 500) then s.modPd n (fun d => { d with bist := d.bist || carrier }) else s

/-- BIST: executed or acknowledged only. -/
def execBist (h : PdHead) (carrier : Bool) (s : State) : Res :=
  let act := fun (u : State) => u.bistIn h.n carrier
  received h s (fun t => t.byGroup h.n act ig act ig act ig)

/-- BIST_CONT_MODE_END: BIST Carrier Mode ends (R147). -/
def execBistContModeEnd (n : Fin 16) (s : State) : Res :=
  if s.halted n.val then done s else done (s.modPd n (fun d => { d with bist := false }))

/-- INFORMATIONAL_MESSAGE: acknowledged only; a solicited Status is stored and ends its AMS, as the answer to a message that a MSG op ordered does. -/
def execInformationalMessage (h : PdHead) (status : Option Word) (s : State) : Res :=
  received h s (fun t => t.byGroup h.n ig ig
    (fun u => match status with
      | some w => if (u.pd h.n).ams = some .getStatus ∨ (u.pd h.n).ams = some (.ordered 18) then (u.wr (PPD_PSTATUS.at h.n) w).endAms h.n else u
      | none => match (u.pd h.n).ams with
        | some (.ordered _) => u.endAms h.n
        | _ => u) ig ig ig)

/-- CABLE_RESET: a Cable Reset signal is ignored. -/
def execCableReset (_n : Fin 16) (s : State) : Res := done (ig s)

end Sys2Proof.Machine
end

