-- ==== Sys2Proof/Machine/Relay.lean ====
section
/-!
DEFINITION. Boot steps 4 and 5 and the relay start (R45 to R50, R298, R335, R379, R435, R448 to R456, R459, R461, R471): the host-ready point, the ROM boot with
the slot decision, the preparation, the Brace hold, the hand-over and the end of tBRACE.
-/

namespace Sys2Proof.Machine

/-! ### Step 4: the host-ready point (R45, R298, R335, R379) -/

/-- The headers of Ridge, Batten, Host and Jotil close. The present level of E103 is known; what a relay start lost of the queue is told by E115 (R297, R450),
and a full scrubber pass is due after it (R91). -/
def State.hostReady (s : State) (addr : Nat) : State :=
  let back := !s.islandUp islBatten
  let t := [islRidge, islBatten, islJotil].foldl (fun u k => u.maskBit GLB_ISLPWR.ISL k true) s
  let t := if t.bit GLB_SUPSTAT.VHVOK || t.bat.levels.contains 0x103 then t else t.modBat (fun b => { b with levels := b.levels ++ [0x103] })
  let t := if back && (t.holding || decide (0 < t.bat.lossRun)) then (t.modBat (fun b => { b with lossRun := 0 })).fire 0x115 t.bat.lossRun else t
  let t := if t.bit GLB_SUPSTAT.VDDOK && !t.islandUp islHost then (t.releaseHost addr).bootGrants else t
  (t.modTha (fun h => { h with passDue := t.holding })).put GLB_BOOTSTAT.STAGE 4

/-- The majority of three samples of the ADDR balls (R533). -/
def majority (a b c : BitVec 3) : BitVec 3 := (a &&& b) ||| (a &&& c) ||| (b &&& c)

/-- HOST_READY_POINT: step 4 ends; the ADDR balls are sampled three times (R45, R349, R533). A Brace hold that lost Ridge waits for its region and goes on here (R491). -/
def execHostReadyPoint (a b c : BitVec 3) (s : State) : Res :=
  if s.get GLB_BOOTSTAT.STAGE = 3 ∧ s.boot.inReset.isSome ∧ (assocGet s.boot.closing islRidge).isNone then done (s.hostReady (majority a b c).toNat) else done s

/-! ### Step 5: the ROM boot (R47, R50, R435, R456, R461, R471) -/

/-- The first three causes of Dormer (R50), 0 when none holds. -/
def State.dormerCause (s : State) (flashOk : Bool) : Nat :=
  if s.bit SOF_DBSTAT.RECOVREQ || s.bit GLB_BOOTCTL.DORMERNEXT then 1 else if s.keyHash.isNone then 2 else if !flashOk then 3 else 0

/-- The directory at step 5: an initial record when there is none (R435), and a slot left in LOADING becomes EMPTY (R461). -/
def State.openDir (s : State) (dirOk : Bool) : State :=
  let t := if s.upd.dir.isNone then s.tryDir dirOk id else s
  if t.dirNow.sstate = 1 then t.tryDir dirOk (fun d => { d with sstate := 0, smanid := 0 }) else t

/-- The first two lines of the slot decision (R461); a trial counts one more boot at a power-on (R456). -/
def State.bootRoles (s : State) (dirOk : Bool) : State :=
  let t := if s.dirNow.nextboot then s.tryDir dirOk (fun d => d.rotate 0)
    else if s.dirNow.trial && s.boot.inReset == some 0 then s.tryDir dirOk (fun d => { d with trials := min 15 (d.trials + 1) }) else s
  if t.dirNow.trial && decide (manTrialMax t.actMan < t.dirNow.trials) then t.tryDir dirOk Dir.unrotate else t

/-- Load the image in ACTIVE (R47 step 5, R96): which says whether it was tried first. At a relay start the ports' ledger, the GPCs and the chain wait
for the end of the hold (R188, R298, R335). -/
def State.loadImage (s : State) (which : Nat) : State :=
  let sl := s.slot s.dirNow.act
  let img := (slotPart sl s.serial 1).getD []
  let t := ((s.setRunning img).modTha (fun h => { h with active := img, op := none, reload := false })).modUpd (fun u => { u with
    overlay := (slotPart sl s.serial 3).getD [] })
  let t := ((t.raise THA_STAT.LOADED).put THA_STAT.FMTMIN (min 255 (fieldOf (wordAt img 1) 15 0))).put THA_IMGID.ID (wordAt img 5).toNat
  let t := (t.wr THA_GEN.at 1).put GLB_BOOTSTAT.SLOT which
  let en := (cellGet t.staged JTL_CFG.at).map (fun v => JTL_CFG.EN.of v)
  let t := if t.holding then (t.loadHeld t.recs).loadGrants else t.loadGlobals t.recs en
  let t := if t.chainOn && !t.jtl.led && !t.holding then t.startElection else t
  t.retakeLevels

/-- The full value of tCONFIRM (R456, R466): a member of a chain manifest waits 10 s more. -/
def State.confTime (s : State) : Nat := manConf s.actMan + (if manChain s.actMan && !s.leading then 10 else 0)

/-- The state of UPD_STAT while no update step runs. -/
def State.restState (s : State) : Nat := if s.dirNow.trial then usTRIAL else usIDLE

/-- The trial of the image loaded: tCONFIRM starts anew for a new trial and at a power-on, and runs on else (R456); a chain manifest is remembered. -/
def State.followTrial (s : State) (fresh : Bool) : State :=
  if s.dirNow.trial then
    let t := if fresh then (s.modUpd (fun u => { u with confFull := s.confTime })).put UPD_CONFTIME.SECS s.confTime else s
    if manChain t.actMan then
      (t.raise UPD_STAT.CHAIN).modUpd (fun u => { u with chain := match u.chain with
        | some c => some c
        | none => some { manid := manId t.actMan, pkglen := manPkgLen t.actMan, reports := [], apply := none, armed := false, blks := [] } })
    else t
  else s.put UPD_CONFTIME.SECS 0

/-- Step 5 has loaded an image: the UPD registers show the directory and whether PREVIOUS would fail verification, and step 6 begins or is held (R48, R471). A fallback that a warm reset made is told (R449). -/
def State.bootLoaded (s : State) (fresh : Bool) : State :=
  let t := (s.showDir).followTrial fresh
  let t := (if t.holding then t else t.setUpd t.restState).showPrev
  let t := match t.upd.relay with
    | some r => if r.kind = 3 then (t.modUpd (fun u => { u with relay := none })).fire 0x13E r.ev else t
    | none => t
  (t.put GLB_BOOTSTAT.STAGE 5).modBoot (fun b => { b with nextIsl := if s.bit GLB_BOOTCTL.HOLDPORTS then 32 else 0 })

/-- The slot decision (R461) with the images' checks. -/
def State.decideSlot (s : State) (dirOk : Bool) : State :=
  let fresh := s.dirNow.nextboot || s.boot.inReset == some 0 || s.upd.relay.any (fun r => r.rotated)
  let t := s.bootRoles dirOk
  let av := t.verify (t.slot t.dirNow.act)
  let pv := t.verify (t.slot t.dirNow.prev)
  let a := av.1
  if a = 0 then (t.loadImage 1).bootLoaded fresh
  else if pv.1 = 0 ∧ dirOk then ((((t.noteImage av).fallBack a).loadImage 2).bootLoaded false).logFault 2 a
  else (((if dirOk then t else t.result 16).noteImage av).noteImage pv).toDormer 4

/-- ROM_BOOT: step 5 (R47), by Ridge: whether the flash answers its identification read, whether VDD is above 3.55 V, and whether directory writes succeed. -/
def execRomBoot (flashOk vddHigh dirOk : Bool) (s : State) : Res :=
  if s.get GLB_BOOTSTAT.STAGE = 4 ∧ ¬ s.inDormer ∧ s.islandUp islRidge then
    match s.free with
    | (v, s1) =>
      let t := (s1.flag GLB_SUPSTAT.XSPI1S vddHigh).modBoot (fun b => { b with xds := v })
      let c := t.dormerCause flashOk
      let t := if flashOk then t else t.put MTR_SLERR.ERR 3
      if c = 3 then doneAll s (t.toDormer 3)
      else if c ≠ 0 then doneAll s (((t.openDir (flashOk && dirOk)).showDir).toDormer c)
      else doneAll s ((t.openDir dirOk).decideSlot dirOk)
  else done s

/-! ### The preparation phase (R449, R450, R469) -/

/-- A fallback while the flash runs 1S-1S-1S (R449): the roles move, then a warm reset. -/
def State.warmFallback (s : State) (r : Relay) (dirOk : Bool) : State :=
  if dirOk then
    let t := ((s.writeDir Dir.unrotate).deviceReset true).cause r.cause islDevice
    (t.logFault 2 r.ev).modUpd (fun u => { u with relay := some { r with kind := 3 } })
  else (s.modUpd (fun u => { u with relay := none })).result 16

/-- RELAY_PREPARE: a relay start that was asked for enters ARMED (R450). It waits for a burn, and for a Thatch operation that has committed; one that has not is
abandoned (R94). -/
def execRelayPrepare (dirOk : Bool) (s : State) : Res :=
  match s.upd.relay with
  | none => done s
  | some r =>
    if r.started.isSome || r.kind == 3 || s.updState == usARMED || s.otp.burn.isSome || s.get GLB_BOOTSTAT.STAGE != 6 || !s.tha.strips.isEmpty ||
        decide (3 ≤ s.get THA_SRSTAT.PHASE) then done s
    else
      let t := if s.get THA_SRSTAT.PHASE = 0 then s else s.dropCfg.endSr 4
      if r.kind = 2 ∧ t.bit GLB_SUPSTAT.XSPI1S then done (t.warmFallback r dirOk)
      else done ((t.setUpd usARMED).sendStat)

/-! ### The Brace hold (R451 to R453) -/

/-- The hand-over record (R453). -/
def State.capture (s : State) (r : Relay) : Handover :=
  { budget := s.get TRS_BUDGET.BUDGET, share := s.get TRS_SHARE.SHARE, chain := s.bit TRS_STAT.CHAIN, frozen := s.bit TRS_STAT.FROZEN, frz := s.jtl.frz
    idx := s.get JTL_IDXNUM.IDXNUM
    leader := if s.jtl.led then some (s.rd (JTL_LEADER.at 2) ++ s.rd (JTL_LEADER.at 1) ++ s.rd (JTL_LEADER.at 0)) else none
    reoffer := s.get RDG_REOFFER.PORT, offerAt := allPorts.map (fun n => s.ports[n].reofferAt), pred := allPorts.map (fun n => s.rd (RDG_PRED.at n))
    log := s.slate.cur, seq := s.slate.seq, fmt := s.slate.fmt, kind := r.kind, apply := r.apply }

/-- Step 1: every port takes the fixed logic, tentative ops and holds go, ready ops commit for 50 slots, the rest is discarded and counted. -/
def State.holdEntry (s : State) : State :=
  let t := allPorts.foldl (fun u n => u.enterBrace n) s
  let t := (t.cancelWhere (fun _ => true)).modRidge (fun r => { r with cancels := [] })
  let t := iterN (fun u => State.commitSlot u 8) 50 t
  let n := t.ridge.window.length + t.ridge.waiting.length
  (t.modRidge (fun r => { r with window := [], waiting := [] })).put UPD_DROPPED.OPS (min 255 n)

/-- Step 2: Ridge, Batten and Host are reset, and Jotil but for its link sub-domain (R52, R96, R298, R332). RDG_CFG is in retention. -/
def State.holdReset (s : State) : State :=
  let cfg := s.rd RDG_CFG.at
  let t := (((s.modRidge (fun _ => RidgeSt.reset)).dropRegs 0x3000 0x5000).wr RDG_CFG.at cfg).dropRegs 0x5C000 0x60000
  let t := ((t.modTha (fun h => { h with op := none, strips := [] })).loseBatten.dropRegs 0x5000 0x8000).modBat (fun b => { b with wire := [] })
  let t := allPorts.foldl (fun u n => u.modPort n (fun p => { p with reofferAt := none })) t.loseHost
  let t := [islRidge, islJotil].foldl (fun u k => (u.maskBit GLB_ISLPWR.ISL k false).maskBit GLB_ISLHALT.ISL k false) t
  t.chainBrace true

/-- Step 3: the directory; says whether the roles rotated. -/
def State.holdRoles (s : State) (r : Relay) (dirOk : Bool) : State × Bool :=
  if r.kind = 1 then (s.tryDir dirOk (fun d => d.rotate (r.apply.getD 0)), dirOk)
  else if r.kind = 2 then (s.tryDir dirOk Dir.unrotate, false)
  else (s, false)

/-- The hold begins (R451 steps 1 to 3). Ridge drains the queue to the Slate log, block by block, before Batten is reset (R298). The registers of the boot take their reset values, LEVEL then the level in force (R62, assumption log 113). -/
def State.beginHold (s : State) (r : Relay) (dirOk : Bool) : State :=
  let t := iterN State.drainBlock 9 s.holdEntry
  let h := t.capture r
  let t := t.modUpd (fun u => { u with hand := some h, oldImage := s.running })
  match (t.holdReset).holdRoles r dirOk with
  | (u, rot) =>
    let u := u.modUpd (fun x => { x with relay := some { r with started := some s.now, rotated := rot } })
    let u := ((((u.setUpd usBRACE).wr UPD_BRMASK.at 0).wr GLB_BOOTSTAT.at 0).put GLB_BOOTSTAT.LEVEL (t.get GLB_BOOTSTAT.LEVEL)).put GLB_BOOTSTAT.STAGE 3
    let u := ((u.wr GLB_SUPCFG.at (regReset GLB_SUPCFG.at)).clear GLB_SUPSTAT.XSPI1S).clear GLB_CLKSTAT.SPRK
    (u.modBoot (fun b => { b with inReset := some 3 })).cause r.cause islDevice

/-- BRACE_HOLD: the preparation phase ends (R450, R451); a chain activation begins at the index tick APPLY (R464). -/
def execBraceHold (dirOk : Bool) (s : State) : Res :=
  match s.upd.relay with
  | none => done s
  | some r =>
    if r.started.isSome || s.updState != usARMED || s.otp.burn.isSome || r.apply.any (fun a => decide (2 ^ 31 ≤ (s.get JTL_IDXNUM.IDXNUM + 2 ^ 32 - a) % 2 ^ 32)) then done s
    else doneAll s (s.beginHold r dirOk)

/-! ### The hand-over and the end of the hold (R188, R453, R454) -/

/-- Step 7: the ledger from the ports' contracts with the new image's budget and floors, the share, the re-offers and the predictors. -/
def State.handOver (s : State) (handOk : Bool) : State :=
  let rs := s.recs
  let h := s.upd.hand
  let t := (s.put TRS_BUDGET.BUDGET (imgBudget rs))
  let t := allPorts.foldl (fun u n => u.put (TRS_ALLOC.FLOOR n) (if u.present n then imgFloor rs n.val else 0)) t
  let t := t.refillTruss
  let t := (t.loadRec rs tyGPC instGlobal).gpcsTaken.loadJotil rs ((cellGet t.staged JTL_CFG.at).map (fun v => JTL_CFG.EN.of v))
  let t := match handOk, h with
    | true, some x =>
      let u := (t.put RDG_REOFFER.PORT x.reoffer).flag TRS_STAT.FROZEN x.frozen
      let u := allPorts.foldl (fun (v : State) n => (v.wr (RDG_PRED.at n) (x.pred.getD n.val 0)).modPort n (fun p => { p with reofferAt := x.offerAt.getD n.val none })) u
      if u.bit TRS_STAT.CHAIN then u.setShare (if x.chain then x.share else u.floorSum) else u
    | _, _ =>
      let u := allPorts.foldl (fun (v : State) n => v.endRun n) t
      (if u.bit TRS_STAT.CHAIN then u.setShare u.floorSum else u).logFault 5 0
  t.resolveDeficit

/-- Step 8 for a port whose structure is unchanged (R454): it takes the live records that changed, returns to the state held on entry, and offers afresh
when its POLICY changed and the offer differs from the last one sent. -/
def State.leaveHold (s : State) (old new : List ThaRec) (n : Fin 16) : State :=
  if !s.portUp n then s
  else
    let t := [tyCCCFG, tySINKPOL, tyLOOPSET, tyRAFTER, tyFUSEBASE, tyGUTTER, tyVALLEY].foldl (fun v ty =>
      if recOf old ty n.val = recOf new ty n.val then v else v.applyPortRec new ty n) s
    let t := t.leaveBrace n
    let lost := t.bit (PPD_STATUS.EPRMODE n) && fieldOf (t.policyHead n) 6 6 == 0
    if recOf old tyPOLICY n.val = recOf new tyPOLICY n.val ∨ ((t.compose n).offerObjs n = t.offerObjs n ∧ ¬ lost) then t else t.policyChanged n

/-- The hold has ended: E13C with its duration in 10 µs, a fallback's E13E and FAULT record, and a report to the chain (R451, R459, R465). -/
def State.holdDone (s : State) (r : Relay) (dur : Nat) : State :=
  let t := s.modUpd (fun u => { u with relay := none, hand := none, oldImage := [] })
  let t := ((t.chainBrace false).put GLB_BOOTSTAT.STAGE 6).modBoot (fun b => { b with inReset := none })
  let t := ((t.setUpd t.restState).put UPD_BRACE.DUR dur).clear UPD_BRACE.ABORTED
  let t := t.fire 0x13C dur
  (if r.ev = 0 then t else (t.fire 0x13E r.ev).logFault 2 r.ev).tellWarned.sendStat

/-- BRACE_RELEASE: steps 7 and 8 (R451, R454): the hold's duration in 10 µs and whether the check of the hand-over record passes. -/
def execBraceRelease (dur : BitVec 16) (handOk : Bool) (s : State) : Res :=
  match s.upd.relay with
  | none => done s
  | some r =>
    if r.started.isNone || s.get GLB_BOOTSTAT.STAGE != 5 || !s.islandUp islRidge then done s
    else
      let old := (imgRecs s.upd.oldImage).1
      let new := s.recs
      let differ := allPorts.filter (fun n => s.present n && structOf old n.val != structOf new n.val)
      let t := s.handOver handOk
      let t := allPorts.foldl (fun u n => if differ.contains n then u else u.leaveHold old new n) t
      let t := (t.put UPD_BRMASK.STRIPPED (portMaskOf differ)).holdDone r dur.toNat
      doneAll s (t.beginStrips differ)

/-! ### tBRACE (R455) -/

/-- The hold is given up: braced ports go to ErrorRecovery, a rotation is reversed, and the boot goes on from step 5, or to the release of the ports. -/
def State.abortHold (s : State) (r : Relay) (dirOk : Bool) : State :=
  let t := allPorts.foldl (fun u n => if u.pstate n = 12 then u.errRec n else u) s
  let t := (t.modUpd (fun u => { u with relay := none, hand := none, oldImage := [] })).tellWarned.chainBrace false
  let t := if r.rotated then t.tryDir dirOk Dir.unrotate else t
  let back := r.rotated && dirOk && decide (4 ≤ s.get GLB_BOOTSTAT.STAGE)
  let t := if back then (t.put GLB_BOOTSTAT.STAGE 4).setUpd usFALLBACK
    else if s.get GLB_BOOTSTAT.STAGE = 5 then
      (t.loadGlobals t.recs ((cellGet t.staged JTL_CFG.at).map (fun v => JTL_CFG.EN.of v))).setUpd t.restState
    else t.setUpd usFALLBACK
  let t := ((t.modBoot (fun b => { b with nextIsl := 0 })).raise UPD_BRACE.ABORTED).cause 0x0D islDevice
  (t.fire 0x13E 0x0D).logFault 2 0x0D

/-- BRACE_TIMEOUT: tBRACE expires before step 8 is complete. -/
def execBraceTimeout (dirOk : Bool) (s : State) : Res :=
  match s.upd.relay with
  | none => done s
  | some r => if r.started.isSome then doneAll s (s.abortHold r dirOk) else done s

end Sys2Proof.Machine
end

