-- ==== Sys2Proof/Machine/Thatch.lean ====
section
/-!
DEFINITION. The Thatch commands (R80 to R95): the edit buffer, live apply, strip-and-relay and the scrubber.
-/

namespace Sys2Proof.Machine

/-- THA_EDCLAIM_CLAIM: CLAIM written 1 (R85). -/
def execThaEdclaimClaim (hp : HostPort) (s : State) : Res := done (s.command hp THA_EDCLAIM.at 1 (fun t => t.edClaim hp.num 1))

/-- THA_EDCLAIM_RELEASE: CLAIM written 0 (R85). -/
def execThaEdclaimRelease (hp : HostPort) (s : State) : Res := done (s.command hp THA_EDCLAIM.at 0 (fun t => t.edClaim hp.num 0))

/-- EDIT_CLAIM_LAPSE: 10 s without an owner write (R85). -/
def execEditClaimLapse (s : State) : Res := done ((s.clear THA_EDCLAIM.CLAIM).clear THA_EDCLAIM.OWNER)

/-- The words of a write to the edit buffer from a word offset. -/
def editTargets (word : Nat) (ws : List Word) : List (Nat × Word) := ws.zipIdx.map (fun (x : Word × Nat) => (0x5C000 + 4 * (word + x.2), x.1))

/-- EDIT_BUFFER_WRITE: words into the edit buffer, by its owner only (R80, R85). -/
def execEditBufferWrite (hp : HostPort) (word : Fin 3072) (ws : List Word) (s : State) : Res :=
  let ts := editTargets word.val ws
  done (s.commandAll hp ts (fun t => ts.foldl (fun u x => u.wr x.1 x.2) t))

/-- The word of a THA_SRCTL write. -/
def srWord (key : Byte) (op func : Nat) : Word := BitVec.ofNat 32 (key.toNat * 2 ^ 24 + op * 2 ^ 16 + func * 2 ^ 8)

/-- LIVE_APPLY: THA_SRCTL with OP 1 (R84). -/
def execLiveApply (hp : HostPort) (key : Byte) (s : State) : Res := done (s.command hp THA_SRCTL.at (srWord key 1 0) (fun t => t.srCtl hp (srWord key 1 0)))

/-- STRIP_AND_RELAY: THA_SRCTL with OP 2 (R86, R87). -/
def execStripAndRelay (hp : HostPort) (key : Byte) (func : BitVec 5) (s : State) : Res :=
  done (s.command hp THA_SRCTL.at (srWord key 2 func.toNat) (fun t => t.srCtl hp (srWord key 2 func.toNat)))

/-- SR_CANCEL: THA_SRCTL with OP 3 (R94). -/
def execSrCancel (hp : HostPort) (key : Byte) (s : State) : Res := done (s.command hp THA_SRCTL.at (srWord key 3 0) (fun t => t.srCtl hp (srWord key 3 0)))

/-- VALIDATE_DONE: PHASE 1 ends (R84, R87). -/
def execValidateDone (s : State) : Res :=
  match s.tha.op with
  | some o => if s.get THA_SRSTAT.PHASE = 1 ∧ s.islandUp islRidge then doneAll s (s.validated o) else done s
  | none => done s

/-- SR_CHANGE: VBUS of the ports concerned is at vSafe0V; the change is written (R87 phase 4, R454). No structure is applied before the scrubber pass that an exit
from retention or a relay start asks for (R91), nor while the island of a port concerned restarts (R94). -/
def execSrChange (s : State) : Res :=
  if !s.islandUp islRidge || s.tha.passDue then done s
  else
    let t := match s.tha.op with
      | some o => if s.get THA_SRSTAT.PHASE = 4 ∧ o.func < 16 ∧ ¬ o.live ∧ (portList o.ports).all s.vbusGone then s.srChange o else s
      | none => s
    doneAll s t.stripsChange

/-- SR_RELAY: tErrorRecovery has elapsed and the change is complete; the ports relay, Batten delivers under the new wiring or the Host checks under the new map, and
E112 fires (R87 phase 5, R454). A port whose island restarts is waited for (R94). -/
def execSrRelay (s : State) : Res :=
  let t := match s.tha.op with
    | some o => if s.get THA_SRSTAT.PHASE = 5 ∧ (portList o.ports).all s.vbusGone then (portList o.ports).foldl State.relayPort (s.endSr 1) else s
    | none => s
  doneAll s t.stripsRelay

/-- AUTHORITY_SWAP: the Host's next commit boundary of a FUNC 17 change: the new map replaces the old in one step, which is phase 4, and phase 5 begins (R87). -/
def execAuthoritySwap (s : State) : Res :=
  match s.tha.op with
  | some o =>
    if s.get THA_SRSTAT.PHASE = 3 ∧ o.func = 17 ∧ s.islandUp islRidge then done (((s.takeEdits o.edits).loadGrants).put THA_SRSTAT.PHASE 5) else done s
  | none => done s

/-- Does VBUS of a port concerned still stand (R95)? -/
def State.vbusStands (s : State) (n : Fin 16) : Bool := s.portUp n && !s.bit (PGT_STATUS.SAFE0 n)

/-- A port whose VBUS still stands 650 ms after its strip: the Gutter fault path, joined where it runs already (R95). -/
def State.stripFault (s : State) (n : Fin 16) : State := if s.vbusStands n && !s.bit (PGT_STATUS.FAULT n) then s.gutterFault n else s

/-- The strips of a new image that VBUS holds up end with RESULT 5, each as a function of its own: the port keeps its old structure (R95, R454). -/
def State.stripsTimeout (s : State) : State :=
  ((portList s.tha.strips).filter s.vbusStands).foldl (fun t n =>
    let u := t.modTha (fun h => { h with strips := h.strips.filter (fun x => x != n.val) })
    (((u.put THA_SRSTAT.FUNC n.val).put THA_SRSTAT.RESULT 5).fire 0x113).stripFault n) s

/-- SR_VBUS_TIMEOUT: 650 ms after the commit a port concerned still has VBUS: RESULT 5, and it enters the Gutter fault path (R95), be it stripped by an operation
of the host or to a new image. -/
def execSrVbusTimeout (s : State) : Res :=
  let t := match s.tha.op with
    | some o => if s.get THA_SRSTAT.PHASE = 3 ∧ o.func < 16 ∧ (portList o.ports).any s.vbusStands then (portList o.ports).foldl State.stripFault (s.endSr 5) else s
    | none => s
  doneAll s t.stripsTimeout

/-- SCRUB_PASS: one full pass of the scrubber, in ascending address order: the words it finds with a single-bit and with a double-bit error, and whether a record
can be fetched again from ACTIVE with a right CRC (R91, R92). A pass that ends in a reset of the Ridge is not complete. -/
def execScrubPass (ce ue : List (BitVec 17)) (fetchOk : Bool) (s : State) : Res :=
  if !s.bit THA_STAT.LOADED || !s.islandUp islRidge then done s
  else
    let t := s.scrubWords fetchOk (faultWords ce ue)
    doneAll s (if t.islandUp islRidge then (t.wrapInc THA_SCRUBPASS.PASSES).modTha (fun h => { h with passDue := false }) else t)

end Sys2Proof.Machine
end

