-- ==== Sys2Proof/Machine/Upd.lean ====
section
/-!
DEFINITION. The update commands of the host and the chain (R422, R443 to R448, R457 to R469, R511): the staging session, the commands of UPD_CMD, the verify
reads of a burn with what CONFIRM does next, tCONFIRM, and the update frames.
-/

namespace Sys2Proof.Machine

/-! ### The host's commands (R443 to R448, R457, R459) -/

/-- The word of a UPD_CMD write. -/
def updKeyWord (key : Byte) (low : Nat) : Word := BitVec.ofNat 32 (key.toNat * 2 ^ 24 + low)

/-- A UPD_CMD write with its effect. -/
def State.updCommand (s : State) (hp : HostPort) (key : Byte) (low : Nat) (dirOk : Bool) : State :=
  s.command hp UPD_CMD.at (updKeyWord key low) (fun t => t.updCmd hp.num (updKeyWord key low) dirOk)

/-- BEGIN (R443, R445). -/
def execBeginSession (hp : HostPort) (key : Byte) (deferred : Bool) (s : State) : Res := done (s.updCommand hp key (1 + 256 * b2n deferred) true)
/-- END (R446, R447). -/
def execEndSession (hp : HostPort) (key : Byte) (s : State) : Res := done (s.updCommand hp key 2 true)
/-- ACTIVATE (R448, R449, R464, R467). -/
def execActivate (hp : HostPort) (key : Byte) (nextboot dirOk : Bool) (s : State) : Res := doneAll s (s.updCommand hp key (3 + 512 * b2n nextboot) dirOk)
/-- CONFIRM (R457, R466). -/
def execConfirm (hp : HostPort) (key : Byte) (dirOk : Bool) (s : State) : Res := done (s.updCommand hp key 4 dirOk)
/-- ABORT (R443). -/
def execAbortSession (hp : HostPort) (key : Byte) (s : State) : Res := done (s.updCommand hp key 5 true)
/-- REVERT (R459, R466). -/
def execRevert (hp : HostPort) (key : Byte) (s : State) : Res := done (s.updCommand hp key 6 true)

/-- UPD_DATA_WRITE: a run of words from UPD_DATA[0] (R443); while the flash is busy it ends with BUSY and changes nothing (R444). -/
def execUpdDataWrite (hp : HostPort) (ws : List Word) (s : State) : Res :=
  done (s.commandWords hp (ws.zipIdx.map (fun (x : Word × Nat) => (0xA400 + 4 * x.2, x.1))) (fun t =>
    ((t.updData ws).1, if (t.updData ws).2 then stBUSY else stOK)))

/-- SESSION_IDLE_TIMEOUT: 10 s without a write of the owner (R445). -/
def execSessionIdleTimeout (s : State) : Res := if s.upd.sess.isSome then done (s.failSession 17) else done s

/-- STAGING_FLASH_DONE: an erase or a block program has ended (R444), or failed, which ends the session with code 16 (R470). -/
def execStagingFlashDone (ok : Bool) (s : State) : Res :=
  if s.upd.sess.isSome ∧ s.upd.busy then done (if ok then (s.modUpd (fun u => { u with busy := false })).modSlate (fun l => { l with retry := none }) else s.failSession 16) else done s

/-- An error in the image area that repeats (R406, R470): E139 and a FAULT record tell the sector, and a staging session that programs the flash ends with code 16. -/
def State.imageFlashError (s : State) (k : Nat) : State :=
  let t := ((s.modSlate (fun l => { l with retry := none })).fire 0x139 k).logFault 4 k
  if t.upd.sess.isSome ∧ t.upd.busy then t.failSession 16 else t

/-- FLASH_ERROR (R406, R470): a program or an erase fails in a sector of the Slate region, or of the image area. It is retried once; then a sector of the region is
retired. -/
def execFlashError (erase : Bool) (f : FlashSector) (s : State) : Res :=
  let k := f.sector.toNat
  let id := k + 65536 * b2n f.image
  let t := (s.put MTR_SLERR.SECTOR k).put MTR_SLERR.ERR (if erase then 2 else 1)
  if s.slate.retry = some (erase, id) then done (if f.image then t.imageFlashError k else t.retireSector k)
  else done (t.modSlate (fun l => { l with retry := some (erase, id) }))

/-- CONFIRM_TIMEOUT: tCONFIRM expires in TRIAL (R459); a CONFIRM that has committed completes (R469). The leader of a chain tells its members. -/
def execConfirmTimeout (s : State) : Res :=
  if s.dirNow.trial && s.upd.confirming.isNone && s.upd.relay.isNone && !s.inDormer then
    let t := if manChain s.actMan && s.leading then s.sendAct actFALLBACK 0 else s
    done ((t.askRelay 2 0x0E 0x0E).put UPD_CONFTIME.SECS 0)
  else done s

/-! ### The end of a burn (R422, R457) -/

/-- The bits of ANTIRB group g below a value. -/
def antirbBits (v g : Nat) : BitVec 64 := BitVec.ofNat 64 (2 ^ min 64 (v - 64 * g) - 1)

/-- The logical bits of group g that a counter burn or a repair burns (R422, R423). -/
def State.burnWants (s : State) (b : Burn) (g : Nat) : BitVec 64 :=
  if b.kind = 2 then (if g = ctrGroup b.word then BitVec.ofNat 64 (2 ^ min 64 b.value.toNat - 1) else 0)
  else if b.kind = 3 then s.repairBits g (b.value != 0)
  else if g < 4 then antirbBits b.value.toNat g
  else 0

/-- The first logical bit, counted through the groups, of those wanted that is not BURNED: the burn ends there (R422). -/
def firstUnburned (want burned : Nat → BitVec 64) : Option Nat :=
  (List.range 6).findSome? (fun g => ((List.range 64).find? (fun k => (want g).getLsbD k && !(burned g).getLsbD k)).map (fun k => 64 * g + k))

/-- The last logical bit wanted. -/
def lastWanted (want : Nat → BitVec 64) : Nat := (List.range 6).foldl (fun m g => if want g = 0 then m else 64 * g + highest (want g) - 1) 0

/-- A logical bit as OTP_RESULT and E10A name it: within its counter, or, of a repair, through all groups. -/
def burnBit (b : Burn) (k : Nat) : Nat := if b.kind = 2 then k % 64 else k

/-- The verify reads of a burn (R422): whether it passed, and the state. A word is classified as at boot (GOOD means that the value
ordered was blown) and its shadow is loaded anew, the override dropped. The bits of a
counter burn or a repair are judged by the nine reads of their group. -/
def State.verifyBurn (s : State) (b : Burn) (read : OtpRead) (cs : CtrReads) (pulses : Nat) : Bool × State :=
  if b.kind = 1 then
    let r := { read with word := BitVec.ofNat 9 b.word }
    let v := if readStatus r = 1 then b.value else readValue r
    let t := s.modOtp (fun o => { o with
      fuses := wideSet o.fuses b.word v, overs := o.overs.filter (fun p => p.1 != b.word)
      ue := if readStatus r = 4 then b.word :: o.ue.filter (fun w => w != b.word) else o.ue.filter (fun w => w != b.word) })
    let t := t.modOtp (fun o => { o with shadow := wideSet o.shadow b.word (shadowOf o.ue (b.word, v)).2 })
    let t := (t.setStatus b.word (readStatus r) (readStatus r == 3)).countOtp
    (readStatus r == 1, (t.shadowChanged b.word).burnResult (readStatus r == 1) pulses b.word)
  else
    let want := s.burnWants b
    let t := (s.readCounters cs).countOtp
    match firstUnburned want (fun g => t.otp.ctr.getD g 0) with
    | none => (true, t.burnResult true pulses (burnBit b (lastWanted want)))
    | some k => (false, t.burnResult false pulses (burnBit b k))

/-- The reads of the six counter groups: the four of ANTIRB, then those of KEYREV and of EPOCH (R416). -/
def groupReads (anti keys : CtrReads) : CtrReads := (List.range 4).map (fun g => anti.getD g []) ++ keys

/-- OTP_BURN_DONE: the verify reads of the burn in progress (R422), of a counter burn those of the groups; a CONFIRM that waits for it goes on, or ends with code 16 when its own burn failed (R457); a reset that
waits for it happens (R57). -/
def execOtpBurnDone (read : OtpRead) (anti keys : CtrReads) (pulses : BitVec 4) (s : State) : Res :=
  match s.otp.burn with
  | none => done s
  | some b =>
    match s.verifyBurn b read (groupReads anti keys) pulses.toNat with
    | (ok, t) =>
      let mine := s.upd.confirming.isSome && s.confirmBurn == some b
      let t := if mine && !ok then (t.modUpd (fun u => { u with confirming := none })).result 16 else t.confirmStep
      done t.resetNow

/-! ### Update frames at a member (R462 to R466) -/

/-- A chain session opens (R462): the leader is its OWNER. A device that cannot open one reports why. -/
def State.chainBegin (s : State) (manid pkglen : Nat) : State :=
  let c := s.beginCode
  if c ≠ 0 then (s.result c).sendStatAs manid 0xFFFFFF
  else
    let t := (s.updBegin 5 false none none).modUpd (fun u => { u with
      chain := some { manid := manid, pkglen := pkglen, reports := [], apply := none, armed := false, blks := [] } })
    t.raise UPD_STAT.CHAIN

/-- UPDBEGIN. -/
def execUpdbegin (h : JtlHead) (manid pkglen : BitVec 32) (s : State) : Res :=
  done (s.receiveF h tyUPDBEGIN [manid.toNat, pkglen.toNat] (fun t =>
    if !t.peer then t.satInc JTL_CNT.REFUSED else if t.leading then t else t.chainBegin manid.toNat pkglen.toNat))

/-- Is a frame's manifest the one of the chain update this device takes part in? -/
def State.inChain (s : State) (manid : BitVec 32) : Bool := s.upd.chain.any (fun c => c.manid == manid.toNat)

/-- Remember the missing offset that was reported, once a gap (R463). -/
def State.reportGap (s : State) (off : Nat) : State :=
  if s.upd.chain.any (fun c => c.blks == [(off, [])]) then s
  else (s.modUpd (fun u => { u with chain := u.chain.map (fun c => { c with blks := [(off, [])] }) })).sendStat off

/-- Package data of the leader: bytes at the next offset are taken, a gap is reported, what has arrived before is passed over; a block that fails its check is
reported with its start (R463). -/
def State.chainPart (s : State) (off : Nat) (data : List Word) : State :=
  let next := s.get UPD_NEXT.OFFS
  if next < off then s.reportGap next
  else if off < next then s
  else
    let t := (s.updData data).1
    if t.upd.sess.isSome && decide (t.get UPD_NEXT.OFFS < next) then t.reportGap (t.get UPD_NEXT.OFFS)
    else if (s.updData data).2 then t
    else t.modUpd (fun u => { u with chain := u.chain.map (fun c => { c with blks := [] }) })

/-- UPDPART. -/
def execUpdpart (h : JtlHead) (manid : BitVec 32) (off : BitVec 24) (data : List Word) (s : State) : Res :=
  done (s.receiveF h tyUPDPART (manid.toNat :: off.toNat :: data.map BitVec.toNat) (fun t =>
    if !t.peer then t.satInc JTL_CNT.REFUSED
    else if t.leading || !t.inChain manid || !t.upd.sess.any (fun x => x.owner == 5) then t
    else t.chainPart off.toNat data))

/-- VERIFY: the checks of END, answered with UPDSTAT. -/
def State.chainVerify (s : State) : State :=
  if s.upd.sess.any (fun x => x.owner == 5) then
    let t := s.updEnd
    if t.updState = usSTAGED then t.sendStat else t
  else s.sendStat

/-- ACTIVATE at a member: it arms for APPLY, or reports code 17, DETAIL 1 for 1S-1S-1S (R449, R464). -/
def State.chainArm (s : State) (apply : Nat) : State :=
  if s.bit GLB_SUPSTAT.XSPI1S then (s.result 17 1).sendStat
  else if s.dirNow.sstate ≠ 2 ∨ s.dirNow.trial ∨ s.upd.sess.isSome ∨ s.upd.relay.isSome ∨ s.get GLB_BOOTSTAT.STAGE ≠ 6 then (s.result 17).sendStat
  else
    let t := (s.modUpd (fun u => { u with chain := u.chain.map (fun c => { c with apply := some apply, armed := true }) })).put UPD_CHAIN.IDX apply
    (t.askRelay 1 0x11 0 (some apply)).result 0

/-- CONFIRM at a member (R457, R466). -/
def State.chainConfirm (s : State) : State :=
  if !s.dirNow.trial || s.upd.relay.isSome || s.upd.confirming.isSome then (s.result 17).sendStat
  else if s.confirmBurn.isSome && !s.bit OTP_STAT.VHVPGM then (s.result 18).sendStat
  else (s.modUpd (fun u => { u with confirming := some true })).confirmStep

/-- UPDACT: a command of the leader. -/
def State.chainAct (s : State) (cmd apply : Nat) : State :=
  if cmd = actVERIFY then s.chainVerify
  else if cmd = actACTIVATE then s.chainArm apply
  else if cmd = actABORT then (if s.upd.sess.any (fun x => x.owner == 5) then s.endSession else s.disarm)
  else if cmd = actCONFIRM then s.chainConfirm
  else if cmd = actFALLBACK then (if s.dirNow.trial then s.askRelay 2 0x11 0x22 else s)
  else s

/-- UPDACT (R463, R464, R466). -/
def execUpdact (h : JtlHead) (manid : BitVec 32) (cmd : Byte) (apply : BitVec 32) (s : State) : Res :=
  done (s.receiveF h tyUPDACT [manid.toNat, cmd.toNat, apply.toNat] (fun t =>
    if !t.peer then t.satInc JTL_CNT.REFUSED
    else if t.leading || !t.inChain manid then t
    else t.chainAct cmd.toNat apply.toNat))

/-! ### Status frames at the leader (R462 to R465) -/

/-- Send a block again to a node (R463). -/
def State.resend (s : State) (node missing : Nat) : State :=
  match s.upd.chain with
  | none => s
  | some c =>
    let b := missing / 4096
    let ws := ((c.blks.find? (fun x => x.1 == 4096 * b)).map Prod.snd).getD []
    if ws.isEmpty then s
    else (List.range 74).foldl (fun u k => u.sendF tyUPDPART node (c.manid :: (4096 * b + 56 * k) :: ((ws.drop (14 * k)).take 14).map BitVec.toNat) 3) s

/-- A member's report: UPD_CHAINST, a resend, and what a failure or a fallback brings about. A device that the manifest does not address has no part in the activation. -/
def State.takeStat (s : State) (node st sst code missing : Nat) : State :=
  let t := s.modUpd (fun u => { u with chain := u.chain.map (fun c => { c with
    reports := c.reports.map (fun r => if r.1 = node then (node, st, sst, code) else r) }) })
  let named := s.updNodes.contains node
  let t := if named then (t.maskBit UPD_CHAINST.STAGED node (sst == 2 || st == usARMED)).maskBit UPD_CHAINST.FAILED node (code != 0) else t
  let t := if missing = 0xFFFFFF then t else t.resend node missing
  if named ∧ t.upd.relay.any (fun r => r.apply.isSome && r.started.isNone) ∧ code ≠ 0 then t.abortChain
  else if t.dirNow.trial ∧ manChain t.actMan ∧ (st = usFALLBACK ∨ sst = 4) then (t.sendAct actFALLBACK 0).askRelay 2 0x11 0x22
  else t

/-- UPDSTAT. -/
def execUpdstat (h : JtlHead) (manid : BitVec 32) (st sst code detail : Byte) (missing : BitVec 24) (s : State) : Res :=
  done (s.receiveF h tyUPDSTAT [manid.toNat, st.toNat, sst.toNat, code.toNat, detail.toNat, missing.toNat] (fun t =>
    if !t.peer then t.satInc JTL_CNT.REFUSED
    else if !t.leading || !t.inChain manid then t
    else t.takeStat h.src.toNat st.toNat sst.toNat code.toNat missing.toNat))

/-! ### The flash interface (R511) -/

/-- XDS_CALIBRATION: the capture delay is found anew; its value is free (assumption log 3). -/
def execXdsCalibration (s : State) : Res :=
  if s.islandUp islRidge && decide (4 ≤ s.get GLB_BOOTSTAT.STAGE) then
    match s.free with
    | (v, t) => done (t.modBoot (fun b => { b with xds := v }))
  else done s

end Sys2Proof.Machine
end

