-- ==== Sys2Proof/Machine/Vdm.lean ====
section
/-!
DEFINITION. Structured VDMs on SOP (R146, R157 to R159, R468): discovery, the Praeth commands and the download.
-/

namespace Sys2Proof.Machine

/-- The Praeth SVID (R157) and the standard one. -/
def svidPraeth : Nat := 0x3A7E
def svidStd : Nat := 0xFF00

/-- A VDM header of Structured VDM Version 2.1, object position 0 (R157, R14): type 1 ACK, 2 NAK, 3 BUSY. -/
def vdmHead (svid ty cmd : Nat) : Word := BitVec.ofNat 32 (cmd % 32 + ty % 4 * 2 ^ 6 + 0x5 * 2 ^ 11 + 2 ^ 15 + svid * 2 ^ 16)

/-- Answers to a VDM. -/
def State.vdmAck (s : State) (n : Fin 16) (svid cmd : Nat) (ws : List Word) : State := s.send n .vdm (vdmHead svid 1 cmd :: ws)
def State.vdmNak (s : State) (n : Fin 16) (svid cmd : Nat) : State := s.send n .vdm [vdmHead svid 2 cmd]
def State.vdmBusy (s : State) (n : Fin 16) (svid cmd : Nat) : State := s.send n .vdm [vdmHead svid 3 cmd]

/-- A structured VDM (R146): ignored in STARTUP and NEG, BUSY under the fixed-logic responder, handled in READY and SNK, and in DORM as given. -/
def vdmIn (h : PdHead) (svid cmd : Nat) (s : State) (act dorm : State → State) : Res :=
  received h s (fun t => t.byGroup h.n ig ig act (fun u => u.vdmBusy h.n svid cmd) act dorm)

/-- NAK to what DORM does not handle: all but the recovery commands. -/
def nak (n : Fin 16) (svid cmd : Nat) (s : State) : State := s.vdmNak n svid cmd

/-- Is a block being written to flash (R159)? -/
def State.flashBusy (s : State) : Bool := s.upd.sess.isSome && s.upd.busy

/-- A Praeth command that needs OBSERVE (R159). -/
def State.praeth (s : State) (n : Fin 16) (cmd : Nat) (act : State → State) : State :=
  if s.get HST_AUTH.PDVDM = 0 then s.vdmNak n svidPraeth cmd else if s.flashBusy then s.vdmBusy n svidPraeth cmd else act s

/-! ### Discovery (R157) -/

/-- The ID Header: VID, and the product type as a DFP power brick for a source port; the connector type is unstated. -/
def State.idHeader (s : State) (n : Fin 16) (free : BitVec 64) : Word :=
  BitVec.ofNat 32 (s.get (PPD_VDMCFG.VID n) % 65536 + (if s.isService n then 0 else 3 * 2 ^ 23) + free.toNat % 4 * 2 ^ 21)

/-- DISCOVER_IDENTITY. -/
def execDiscoverIdentity (h : PdHead) (s : State) : Res :=
  vdmIn h svidStd 1 s (fun t =>
    if t.bit (PPD_VDMCFG.DISCID h.n) then
      match t.free with
      | (v, u) => u.vdmAck h.n svidStd 1 [u.idHeader h.n v, 0, BitVec.ofNat 32 (u.pid * 2 ^ 16 + (u.rd GLB_SIREV.at).toNat % 65536)]
    else t.vdmNak h.n svidStd 1) (nak h.n svidStd 1)

/-- DISCOVER_SVIDS: the Praeth SVID only. -/
def execDiscoverSvids (h : PdHead) (s : State) : Res :=
  vdmIn h svidStd 2 s (fun t => t.vdmAck h.n svidStd 2 [BitVec.ofNat 32 (svidPraeth * 2 ^ 16)]) (nak h.n svidStd 2)

/-- The Praeth command numbers that have a meaning (R158). -/
def praethCmds : List Nat := [16, 17, 18, 19, 24, 25, 26, 27, 28]

/-- Is a structured VDM one that is always answered NAK: Discover_Modes, Enter_Mode, Exit_Mode (R157), or a Praeth command number that is not listed (R158)? -/
def nakVdm (svid cmd : Nat) : Bool := (3 ≤ cmd && cmd ≤ 5) || (svid == svidPraeth && 16 ≤ cmd && !praethCmds.contains cmd)

/-- DISCOVER_MODES, and Enter_Mode, Exit_Mode and the Praeth commands not listed: NAK, with the SVID and the command number received. Any other structured VDM
without a row of its own is received and not answered. -/
def execDiscoverModes (h : VdmHead) (s : State) : Res :=
  let v := h.svid.toNat
  let c := h.cmd.toNat
  if nakVdm v c then vdmIn h.toPdHead v c s (nak h.n v c) (nak h.n v c) else received h.toPdHead s ig

/-- ATTENTION is ignored. -/
def execAttention (h : PdHead) (s : State) : Res := received h s ig

/-! ### Praeth commands with OBSERVE (R158) -/

/-- INFO. -/
def execInfoVdm (h : PdHead) (s : State) : Res :=
  vdmIn h svidPraeth 16 s (fun t => t.praeth h.n 16 (fun u => u.vdmAck h.n svidPraeth 16
    [u.rd GLB_PARTID.at, BitVec.ofNat 32 ((u.rd GLB_SIREV.at).toNat % 65536 + h.n.val * 65536), u.rd GLB_SERIAL0.at, u.rd GLB_SERIAL1.at, u.rd GLB_SERIAL2.at,
     u.rd THA_IMGID.at])) (nak h.n svidPraeth 16)

/-- May READ read these words: mapped, present, answering, and open to OBSERVE? -/
def State.vdmReads (s : State) (addr count : Nat) : Bool :=
  decide (1 ≤ count) && decide (count ≤ 5) && addr % 4 == 0 && (List.range count).all (fun i =>
    let a := addr + 4 * i
    !isUnmapped a && !s.isAbsent a && !isEdit a && !s.islandBusy false a)

/-- READ: words of live values; a VDM is no host port and latches nothing. REBUILT clears by the read. -/
def execReadVdm (h : PdHead) (addr : BitVec 24) (count : BitVec 3) (s : State) : Res :=
  vdmIn h svidPraeth 17 s (fun t => t.praeth h.n 17 (fun u =>
    if u.vdmReads addr.toNat count.toNat then
      let as := (List.range count.toNat).map (fun i => addr.toNat + 4 * i)
      let v := as.foldl (fun x a => x.readFree a) u
      let v := if as.contains TRS_STAT.at then v.clear TRS_STAT.REBUILT else v
      v.vdmAck h.n svidPraeth 17 (BitVec.ofNat 32 (addr.toNat + count.toNat * 2 ^ 24) :: (as.foldl (fun (acc : List Word × State) a =>
        (acc.1 ++ [acc.2.readShared a], acc.2.readFree a)) ([], u)).1)
    else u.vdmNak h.n svidPraeth 17)) (nak h.n svidPraeth 17)

/-- Energy in whole mJ. -/
def milliJ (e : Nat) : Nat := e / 65536 % 2 ^ 48

/-- TELEM: the measured VBUS_S, current, die temperature and VIN_S are operands. -/
def execTelemVdm (h : PdHead) (mv ma temp vin : BitVec 16) (s : State) : Res :=
  vdmIn h svidPraeth 18 s (fun t => t.praeth h.n 18 (fun u =>
    let e := milliJ (u.meter h.n).etot
    u.vdmAck h.n svidPraeth 18
      [BitVec.ofNat 32 (mv.toNat + ma.toNat * 65536), u.rd (PPD_CONTRACT.at h.n), BitVec.ofNat 32 (temp.toNat + vin.toNat * 65536), BitVec.ofNat 32 e,
       BitVec.ofNat 32 (e / 2 ^ 32 + u.get (MTR_PSTAT.BAND h.n) * 65536 + u.get (PPD_STATUS.INWARN h.n) * 2 ^ 24 + u.get (PPD_STATUS.EPRMODE h.n) * 2 ^ 25),
       BitVec.ofNat 32 u.soffit.sec])) (nak h.n svidPraeth 18)

/-- ENERGY of a band. -/
def execEnergyVdm (h : PdHead) (band : BitVec 3) (s : State) : Res :=
  vdmIn h svidPraeth 19 s (fun t => t.praeth h.n 19 (fun u =>
    let e := milliJ ((u.meter h.n).bands.getD band.toNat 0)
    u.vdmAck h.n svidPraeth 19 [BitVec.ofNat 32 band.toNat, BitVec.ofNat 32 e, BitVec.ofNat 32 (e / 2 ^ 32), BitVec.ofNat 32 (u.get (MTR_DEMAND.PEAK h.n))]))
    (nak h.n svidPraeth 19)

/-! ### Recovery (R43, R158, R159, R468) -/

/-- A recovery command: UPDATE is held only by a service port at Level 1 or in Dormer; dl says that it needs the flash, which Level 1 does not power. -/
def State.recovery (s : State) (n : Fin 16) (cmd : Nat) (dl : Bool) (act : State → State) : State :=
  if !s.ports[n].rom || s.get HST_AUTH.PDVDM != 1 && s.islandUp islHost || (dl && !s.inDormer) then s.vdmNak n svidPraeth cmd
  else if s.flashBusy then s.vdmBusy n svidPraeth cmd
  else act s

/-- RECOV_ENTER: the next boot enters Dormer. -/
def execRecovEnter (h : PdHead) (magic : BitVec 32) (s : State) : Res :=
  vdmIn h svidPraeth 24 s (nak h.n svidPraeth 24) (fun t => t.recovery h.n 24 false (fun u =>
    if magic = 0x52454356 then (u.raise SOF_DBSTAT.RECOVREQ).vdmAck h.n svidPraeth 24 [] else u.vdmNak h.n svidPraeth 24))

/-- Is the open session the VDM's? -/
def State.vdmSession (s : State) : Bool := s.upd.sess.any (fun x => x.owner == 6)

/-- DL_BEGIN: BEGIN with the length and the manifest's check. -/
def execDlBegin (h : PdHead) (len crc : BitVec 32) (s : State) : Res :=
  vdmIn h svidPraeth 25 s (nak h.n svidPraeth 25) (fun t => t.recovery h.n 25 true (fun u =>
    if u.beginCode = 0 then (u.updBegin 6 false (some len.toNat) (some crc.toNat)).vdmAck h.n svidPraeth 25 [4096]
    else (u.result u.beginCode).vdmNak h.n svidPraeth 25))

/-- DL_DATA: bytes at the next offset; the ACK gives the offset expected next. -/
def execDlData (h : PdHead) (off : BitVec 24) (ws : List Word) (s : State) : Res :=
  vdmIn h svidPraeth 26 s (nak h.n svidPraeth 26) (fun t => t.recovery h.n 26 true (fun u =>
    if !u.vdmSession || off.toNat != u.get UPD_NEXT.OFFS || ws.length != 5 then (if u.vdmSession then u.result 2 else u).vdmNak h.n svidPraeth 26
    else
      let v := (u.updData ws).1
      v.vdmAck h.n svidPraeth 26 [BitVec.ofNat 32 (v.get UPD_NEXT.OFFS)]))

/-- DL_END: the length and the CRC over all bytes, END, and ACTIVATE when END is OK; the ACK carries the code. -/
def State.dlEnd (s : State) (len crc : Nat) : State :=
  match s.upd.sess with
  | none => s.result 17
  | some x =>
    if len ≠ manPkgLen x.man then s.endWithCode x (4, 0)
    else if s.get UPD_RECV.BYTES = len % 2 ^ 25 ∧ crc ≠ x.crcAll ^^^ 0xFFFFFFFF then s.endWithCode x (3, 0)
    else s.updEnd

/-- DL_END. -/
def execDlEnd (h : PdHead) (len crc : BitVec 32) (s : State) : Res :=
  vdmIn h svidPraeth 27 s (nak h.n svidPraeth 27) (fun t => t.recovery h.n 27 true (fun u =>
    if !u.vdmSession then (u.result 17).vdmAck h.n svidPraeth 27 [17]
    else
      let v := u.dlEnd len.toNat crc.toNat
      let c := v.get UPD_RESULT.CODE
      let w := v.vdmAck h.n svidPraeth 27 [BitVec.ofNat 32 c]
      if c = 0 then w.updActivate false true else w))

/-- DL_STATUS. -/
def execDlStatus (h : PdHead) (s : State) : Res :=
  vdmIn h svidPraeth 28 s (nak h.n svidPraeth 28) (fun t => t.recovery h.n 28 false (fun u =>
    u.vdmAck h.n svidPraeth 28 [BitVec.ofNat 32 u.updState, u.rd UPD_RECV.at, BitVec.ofNat 32 (u.get UPD_RESULT.CODE)]))

end Sys2Proof.Machine
end

