-- ==== Sys2Proof/Machine/Dispatch.lean ====
section
/-!
DEFINITION. The dispatch of a command to its meaning: one arm per constructor, each one direct call.
-/

namespace Sys2Proof.Machine

/-- The effect of a command on everything but the queue. -/
def exec (i : Instr) (s : State) : Host.Outcome State Fault Refusal :=
  match i with
  | .powerOnReset => Sys2Proof.Machine.execPowerOnReset s
  | .vddValid => Sys2Proof.Machine.execVddValid s
  | .soffitDcoLock => Sys2Proof.Machine.execSoffitDcoLock s
  | .otpBootRead reads cs => Sys2Proof.Machine.execOtpBootRead reads cs s
  | .referenceSelect cycles => Sys2Proof.Machine.execReferenceSelect cycles s
  | .hostReadyPoint a b c => Sys2Proof.Machine.execHostReadyPoint a b c s
  | .romBoot flashOk vddHigh dirOk => Sys2Proof.Machine.execRomBoot flashOk vddHigh dirOk s
  | .islandRelease => Sys2Proof.Machine.execIslandRelease s
  | .portgo hp go => Sys2Proof.Machine.execPortgo hp go s
  | .bootDone => Sys2Proof.Machine.execBootDone s
  | .deadBatterySequence v0 v1 reads cs => Sys2Proof.Machine.execDeadBatterySequence v0 v1 reads cs s
  | .serviceVbusSample v0 v1 => Sys2Proof.Machine.execServiceVbusSample v0 v1 s
  | .depletionRdOff => Sys2Proof.Machine.execDepletionRdOff s
  | .serviceLdoStop => Sys2Proof.Machine.execServiceLdoStop s
  | .reversePushStop n => Sys2Proof.Machine.execReversePushStop n s
  | .vddPowerFail off reports => Sys2Proof.Machine.execVddPowerFail off reports s
  | .vddLoss => Sys2Proof.Machine.execVddLoss s
  | .vddReturn => Sys2Proof.Machine.execVddReturn s
  | .vhvOvervoltage => Sys2Proof.Machine.execVhvOvervoltage s
  | .vhvOvRecovery => Sys2Proof.Machine.execVhvOvRecovery s
  | .vhvUvlo => Sys2Proof.Machine.execVhvUvlo s
  | .vhvValid pgm => Sys2Proof.Machine.execVhvValid pgm s
  | .thermalShutdown => Sys2Proof.Machine.execThermalShutdown s
  | .thermalRestart => Sys2Proof.Machine.execThermalRestart s
  | .thermalWarning on => Sys2Proof.Machine.execThermalWarning on s
  | .rstN ns => Sys2Proof.Machine.execRstN ns s
  | .resetCold hp key => Sys2Proof.Machine.execResetCold hp key s
  | .resetWarm hp key => Sys2Proof.Machine.execResetWarm hp key s
  | .resetRelay hp key => Sys2Proof.Machine.execResetRelay hp key s
  | .ridgeWatchdog => Sys2Proof.Machine.execRidgeWatchdog s
  | .ridgeReturn => Sys2Proof.Machine.execRidgeReturn s
  | .ridgeOutageTimeout => Sys2Proof.Machine.execRidgeOutageTimeout s
  | .battenReturn => Sys2Proof.Machine.execBattenReturn s
  | .underlayFault isl sub crack => Sys2Proof.Machine.execUnderlayFault isl sub crack s
  | .regionRestart isl => Sys2Proof.Machine.execRegionRestart isl s
  | .headerStage => Sys2Proof.Machine.execHeaderStage s
  | .referenceFail => Sys2Proof.Machine.execReferenceFail s
  | .dcoHoldover isl => Sys2Proof.Machine.execDcoHoldover isl s
  | .timebaseLock n => Sys2Proof.Machine.execTimebaseLock n s
  | .pllUnlock n => Sys2Proof.Machine.execPllUnlock n s
  | .pllHoldoverTimeout n => Sys2Proof.Machine.execPllHoldoverTimeout n s
  | .islandHalt isl => Sys2Proof.Machine.execIslandHalt isl s
  | .islandResume isl => Sys2Proof.Machine.execIslandResume isl s
  | .bypass => Sys2Proof.Machine.execBypass s
  | .idcode => Sys2Proof.Machine.execIdcode s
  | .samplePreload capture => Sys2Proof.Machine.execSamplePreload capture s
  | .extest => Sys2Proof.Machine.execExtest s
  | .highz => Sys2Proof.Machine.execHighz s
  | .clamp => Sys2Proof.Machine.execClamp s
  | .hostRead hp addr count crc r => Sys2Proof.Machine.execHostRead hp addr count crc r s
  | .hostWrite hp addr data crc => Sys2Proof.Machine.execHostWrite hp addr data crc s
  | .guardedWrite hp addr gen data crc => Sys2Proof.Machine.execGuardedWrite hp addr gen data crc s
  | .statusRead hp => Sys2Proof.Machine.execStatusRead hp s
  | .transactionAbort hp kind => Sys2Proof.Machine.execTransactionAbort hp kind s
  | .orderGroupClose => Sys2Proof.Machine.execOrderGroupClose s
  | .i2cClash offset => Sys2Proof.Machine.execI2cClash offset s
  | .i2cTimeout => Sys2Proof.Machine.execI2cTimeout s
  | .canRequest frame => Sys2Proof.Machine.execCanRequest frame s
  | .canErrorState busOff tec rec lec => Sys2Proof.Machine.execCanErrorState busOff tec rec lec s
  | .canBusoffRecovery => Sys2Proof.Machine.execCanBusoffRecovery s
  | .canWakeFrame id => Sys2Proof.Machine.execCanWakeFrame id s
  | .hstCmdClrcnt hp key => Sys2Proof.Machine.execHstCmdClrcnt hp key s
  | .opEnter src port cls sub arg => Sys2Proof.Machine.execOpEnter src port cls sub arg s
  | .commitSlot ledgerBad => Sys2Proof.Machine.execCommitSlot ledgerBad s
  | .opApply n => Sys2Proof.Machine.execOpApply n s
  | .stagingComplete n => Sys2Proof.Machine.execStagingComplete n s
  | .requestEvaluated n => Sys2Proof.Machine.execRequestEvaluated n s
  | .specTimeout tag => Sys2Proof.Machine.execSpecTimeout tag s
  | .cancel hp key tag => Sys2Proof.Machine.execCancel hp key tag s
  | .clrcnt hp key => Sys2Proof.Machine.execClrcnt hp key s
  | .reoffer n => Sys2Proof.Machine.execReoffer n s
  | .reofferPeriodEnd n => Sys2Proof.Machine.execReofferPeriodEnd n s
  | .deficitOffer n => Sys2Proof.Machine.execDeficitOffer n s
  | .budgetWrite hp watts => Sys2Proof.Machine.execBudgetWrite hp watts s
  | .trsStatRead hp => Sys2Proof.Machine.execTrsStatRead hp s
  | .latchedRead hp addr => Sys2Proof.Machine.execLatchedRead hp addr s
  | .predictorStage n => Sys2Proof.Machine.execPredictorStage n s
  | .predictorMiss n => Sys2Proof.Machine.execPredictorMiss n s
  | .thaEdclaimClaim hp => Sys2Proof.Machine.execThaEdclaimClaim hp s
  | .thaEdclaimRelease hp => Sys2Proof.Machine.execThaEdclaimRelease hp s
  | .editClaimLapse => Sys2Proof.Machine.execEditClaimLapse s
  | .editBufferWrite hp word ws => Sys2Proof.Machine.execEditBufferWrite hp word ws s
  | .liveApply hp key => Sys2Proof.Machine.execLiveApply hp key s
  | .stripAndRelay hp key func => Sys2Proof.Machine.execStripAndRelay hp key func s
  | .srCancel hp key => Sys2Proof.Machine.execSrCancel hp key s
  | .validateDone => Sys2Proof.Machine.execValidateDone s
  | .srChange => Sys2Proof.Machine.execSrChange s
  | .srRelay => Sys2Proof.Machine.execSrRelay s
  | .authoritySwap => Sys2Proof.Machine.execAuthoritySwap s
  | .srVbusTimeout => Sys2Proof.Machine.execSrVbusTimeout s
  | .scrubPass ce ue fetchOk => Sys2Proof.Machine.execScrubPass ce ue fetchOk s
  | .ccClassChange n c1 c2 => Sys2Proof.Machine.execCcClassChange n c1 c2 s
  | .attachedSrc n below => Sys2Proof.Machine.execAttachedSrc n below s
  | .pdDebounceExpire n => Sys2Proof.Machine.execPdDebounceExpire n s
  | .loadProbeStart n below => Sys2Proof.Machine.execLoadProbeStart n below s
  | .loadProbeEnd n reached t v25 v5 => Sys2Proof.Machine.execLoadProbeEnd n reached t v25 v5 s
  | .srcDisconnect n => Sys2Proof.Machine.execSrcDisconnect n s
  | .errorRecoveryExit n => Sys2Proof.Machine.execErrorRecoveryExit n s
  | .unattachedWaitExit n => Sys2Proof.Machine.execUnattachedWaitExit n s
  | .attachedSnk n rp vbus4 => Sys2Proof.Machine.execAttachedSnk n rp vbus4 s
  | .sinkVbusLoss n mv => Sys2Proof.Machine.execSinkVbusLoss n mv s
  | .sinkRpChange n rp => Sys2Proof.Machine.execSinkRpChange n rp s
  | .ccOvervoltage n pin on => Sys2Proof.Machine.execCcOvervoltage n pin on s
  | .vconnFault n => Sys2Proof.Machine.execVconnFault n s
  | .discdlyExpire n => Sys2Proof.Machine.execDiscdlyExpire n s
  | .tdiscoverIdentity n => Sys2Proof.Machine.execTdiscoverIdentity n s
  | .cableAck h idHdr vdo => Sys2Proof.Machine.execCableAck h idHdr vdo s
  | .cableNak h => Sys2Proof.Machine.execCableNak h s
  | .farAck h vdo => Sys2Proof.Machine.execFarAck h vdo s
  | .ccrefCapture n lvl => Sys2Proof.Machine.execCcrefCapture n lvl s
  | .tsinktxExpire n => Sys2Proof.Machine.execTsinktxExpire n s
  | .pccDisable hp n d => Sys2Proof.Machine.execPccDisable hp n d s
  | .redisc hp n => Sys2Proof.Machine.execRedisc hp n s
  | .clrlatch hp n => Sys2Proof.Machine.execClrlatch hp n s
  | .errrec hp n => Sys2Proof.Machine.execErrrec hp n s
  | .tfirstcapExpire n => Sys2Proof.Machine.execTfirstcapExpire n s
  | .ttypecSendSourceCap n => Sys2Proof.Machine.execTtypecSendSourceCap n s
  | .tsenderResponse n => Sys2Proof.Machine.execTsenderResponse n s
  | .treceive n => Sys2Proof.Machine.execTreceive n s
  | .goodcrc n => Sys2Proof.Machine.execGoodcrc n s
  | .crcError n => Sys2Proof.Machine.execCrcError n s
  | .chunkRequest h num => Sys2Proof.Machine.execChunkRequest h num s
  | .pdRequest h rdo => Sys2Proof.Machine.execPdRequest h rdo s
  | .eprRequest h rdo pdo => Sys2Proof.Machine.execEprRequest h rdo pdo s
  | .tsrcTransition n => Sys2Proof.Machine.execTsrcTransition n s
  | .vbusSettled n => Sys2Proof.Machine.execVbusSettled n s
  | .settleTimeout n => Sys2Proof.Machine.execSettleTimeout n s
  | .tppsTimeout n => Sys2Proof.Machine.execTppsTimeout n s
  | .eprModeEnter h => Sys2Proof.Machine.execEprModeEnter h s
  | .eprModeExit h => Sys2Proof.Machine.execEprModeExit h s
  | .tsourceEprKeepalive n => Sys2Proof.Machine.execTsourceEprKeepalive n s
  | .eprKeepalive h => Sys2Proof.Machine.execEprKeepalive h s
  | .hardReset n => Sys2Proof.Machine.execHardReset n s
  | .tpsHardReset n => Sys2Proof.Machine.execTpsHardReset n s
  | .tsrcRecover n => Sys2Proof.Machine.execTsrcRecover n s
  | .softReset h => Sys2Proof.Machine.execSoftReset h s
  | .drSwap h => Sys2Proof.Machine.execDrSwap h s
  | .drSwapRetry n => Sys2Proof.Machine.execDrSwapRetry n s
  | .acceptMsg h => Sys2Proof.Machine.execAcceptMsg h s
  | .rejectMsg h => Sys2Proof.Machine.execRejectMsg h s
  | .waitMsg h => Sys2Proof.Machine.execWaitMsg h s
  | .psRdy h => Sys2Proof.Machine.execPsRdy h s
  | .ping h => Sys2Proof.Machine.execPing h s
  | .notSupported h => Sys2Proof.Machine.execNotSupported h s
  | .getSourceCap h => Sys2Proof.Machine.execGetSourceCap h s
  | .getSinkCap h => Sys2Proof.Machine.execGetSinkCap h s
  | .unsupportedMessage h => Sys2Proof.Machine.execUnsupportedMessage h s
  | .getSourceCapExtended h => Sys2Proof.Machine.execGetSourceCapExtended h s
  | .getStatus h => Sys2Proof.Machine.execGetStatus h s
  | .getPpsStatus h => Sys2Proof.Machine.execGetPpsStatus h s
  | .getSinkCapExtended h => Sys2Proof.Machine.execGetSinkCapExtended h s
  | .getSourceInfo h => Sys2Proof.Machine.execGetSourceInfo h s
  | .getRevision h => Sys2Proof.Machine.execGetRevision h s
  | .getManufacturerInfo h => Sys2Proof.Machine.execGetManufacturerInfo h s
  | .sourceCapabilities h caps => Sys2Proof.Machine.execSourceCapabilities h caps s
  | .eprGetSourceCap h => Sys2Proof.Machine.execEprGetSourceCap h s
  | .eprGetSinkCap h => Sys2Proof.Machine.execEprGetSinkCap h s
  | .alertMsg h => Sys2Proof.Machine.execAlertMsg h s
  | .bist h carrier => Sys2Proof.Machine.execBist h carrier s
  | .informationalMessage h status => Sys2Proof.Machine.execInformationalMessage h status s
  | .cableReset n => Sys2Proof.Machine.execCableReset n s
  | .tsinkWaitCap n => Sys2Proof.Machine.execTsinkWaitCap n s
  | .tsinkRequest n => Sys2Proof.Machine.execTsinkRequest n s
  | .tpsTransition n => Sys2Proof.Machine.execTpsTransition n s
  | .sinkHrVbusReturn n => Sys2Proof.Machine.execSinkHrVbusReturn n s
  | .tsnkhrwait n => Sys2Proof.Machine.execTsnkhrwait n s
  | .sendcaps hp n => Sys2Proof.Machine.execSendcaps hp n s
  | .hardreset hp n => Sys2Proof.Machine.execHardreset hp n s
  | .softreset hp n => Sys2Proof.Machine.execSoftreset hp n s
  | .drswap hp n => Sys2Proof.Machine.execDrswap hp n s
  | .eprexit hp n => Sys2Proof.Machine.execEprexit hp n s
  | .inputWarning => Sys2Proof.Machine.execInputWarning s
  | .inwarnRelease => Sys2Proof.Machine.execInwarnRelease s
  | .discoverIdentity h => Sys2Proof.Machine.execDiscoverIdentity h s
  | .discoverSvids h => Sys2Proof.Machine.execDiscoverSvids h s
  | .discoverModes h => Sys2Proof.Machine.execDiscoverModes h s
  | .attention h => Sys2Proof.Machine.execAttention h s
  | .infoVdm h => Sys2Proof.Machine.execInfoVdm h s
  | .readVdm h addr count => Sys2Proof.Machine.execReadVdm h addr count s
  | .telemVdm h mv ma temp vin => Sys2Proof.Machine.execTelemVdm h mv ma temp vin s
  | .energyVdm h band => Sys2Proof.Machine.execEnergyVdm h band s
  | .recovEnter h magic => Sys2Proof.Machine.execRecovEnter h magic s
  | .dlBegin h len crc => Sys2Proof.Machine.execDlBegin h len crc s
  | .dlData h off ws => Sys2Proof.Machine.execDlData h off ws s
  | .dlEnd h len crc => Sys2Proof.Machine.execDlEnd h len crc s
  | .dlStatus h => Sys2Proof.Machine.execDlStatus h s
  | .periodStart k p => Sys2Proof.Machine.execPeriodStart k p s
  | .periodTop k => Sys2Proof.Machine.execPeriodTop k s
  | .comparePoint k pt down => Sys2Proof.Machine.execComparePoint k pt down s
  | .cycleTrip c input => Sys2Proof.Machine.execCycleTrip c input s
  | .blankingEnd c => Sys2Proof.Machine.execBlankingEnd c s
  | .stageStart n => Sys2Proof.Machine.execStageStart n s
  | .stageStop n => Sys2Proof.Machine.execStageStop n s
  | .rafDisable hp k key => Sys2Proof.Machine.execRafDisable hp k key s
  | .delayLineCal n ok => Sys2Proof.Machine.execDelayLineCal n ok s
  | .loopSample n vs is other => Sys2Proof.Machine.execLoopSample n vs is other s
  | .eaveFullyOn n => Sys2Proof.Machine.execEaveFullyOn n s
  | .ccLevelUpdate n cc1 cc2 stale quiet => Sys2Proof.Machine.execCcLevelUpdate n cc1 cc2 stale quiet s
  | .compensationTick n vbus vin ma => Sys2Proof.Machine.execCompensationTick n vbus vin ma s
  | .clearrc hp n => Sys2Proof.Machine.execClearrc hp n s
  | .rcStaleTimeout n => Sys2Proof.Machine.execRcStaleTimeout n s
  | .openSense n pin => Sys2Proof.Machine.execOpenSense n pin s
  | .frozenSignal n => Sys2Proof.Machine.execFrozenSignal n s
  | .feedbackTransient n => Sys2Proof.Machine.execFeedbackTransient n s
  | .confirmWindowEnd n => Sys2Proof.Machine.execConfirmWindowEnd n s
  | .vinRangeFault n => Sys2Proof.Machine.execVinRangeFault n s
  | .prebiasReady n => Sys2Proof.Machine.execPrebiasReady n s
  | .prebiasTimeout n => Sys2Proof.Machine.execPrebiasTimeout n s
  | .rampfail n => Sys2Proof.Machine.execRampfail n s
  | .fastTrip c => Sys2Proof.Machine.execFastTrip c s
  | .curveEval n ma => Sys2Proof.Machine.execCurveEval n ma s
  | .reverseTrip c => Sys2Proof.Machine.execReverseTrip c s
  | .gateTrip n => Sys2Proof.Machine.execGateTrip n s
  | .gutterDischargeEnd n tenths => Sys2Proof.Machine.execGutterDischargeEnd n tenths s
  | .gutterTimeout n => Sys2Proof.Machine.execGutterTimeout n s
  | .drvflt n => Sys2Proof.Machine.execDrvflt n s
  | .gutterFaultClear n => Sys2Proof.Machine.execGutterFaultClear n s
  | .gutterAssist n excess => Sys2Proof.Machine.execGutterAssist n excess s
  | .gutterBudget n used => Sys2Proof.Machine.execGutterBudget n used s
  | .thresholdUpdate n => Sys2Proof.Machine.execThresholdUpdate n s
  | .valOv n c at_ => Sys2Proof.Machine.execValOv n c at_ s
  | .valUv n c => Sys2Proof.Machine.execValUv n c s
  | .valFi n c at_ => Sys2Proof.Machine.execValFi n c at_ s
  | .switchNodeTransition n sw v tx => Sys2Proof.Machine.execSwitchNodeTransition n sw v tx s
  | .gpcCrossing k c => Sys2Proof.Machine.execGpcCrossing k c s
  | .gpcSlopeSample k code => Sys2Proof.Machine.execGpcSlopeSample k code s
  | .selfCheck unit => Sys2Proof.Machine.execSelfCheck unit s
  | .selfCheckResult unit ok => Sys2Proof.Machine.execSelfCheckResult unit ok s
  | .loggedEdge => Sys2Proof.Machine.execLoggedEdge s
  | .tallyBinAdvance t => Sys2Proof.Machine.execTallyBinAdvance t s
  | .queueDrain => Sys2Proof.Machine.execQueueDrain s
  | .batQpop hp => Sys2Proof.Machine.execBatQpop hp s
  | .hirqClear hp mask => Sys2Proof.Machine.execHirqClear hp mask s
  | .tallyclr hp key tid => Sys2Proof.Machine.execTallyclr hp key tid s
  | .cntclr hp key => Sys2Proof.Machine.execCntclr hp key s
  | .valst hp key => Sys2Proof.Machine.execValst hp key s
  | .swevt hp key => Sys2Proof.Machine.execSwevt hp key s
  | .tsclr hp key => Sys2Proof.Machine.execTsclr hp key s
  | .gpcsel hp key mask => Sys2Proof.Machine.execGpcsel hp key mask s
  | .batTrscutWrite hp watts => Sys2Proof.Machine.execBatTrscutWrite hp watts s
  | .linkUp p => Sys2Proof.Machine.execLinkUp p s
  | .linkDown p beyond => Sys2Proof.Machine.execLinkDown p beyond s
  | .claim h weight est hops serial => Sys2Proof.Machine.execClaim h weight est hops serial s
  | .electionSettle => Sys2Proof.Machine.execElectionSettle s
  | .indexTimeout => Sys2Proof.Machine.execIndexTimeout s
  | .indexGenerate => Sys2Proof.Machine.execIndexGenerate s
  | .index h x => Sys2Proof.Machine.execIndex h x s
  | .indexMissing => Sys2Proof.Machine.execIndexMissing s
  | .member h serial mask ilv floor => Sys2Proof.Machine.execMember h serial mask ilv floor s
  | .assign h serial node => Sys2Proof.Machine.execAssign h serial node s
  | .periods h ts => Sys2Proof.Machine.execPeriods h ts s
  | .demand h demand want floor flags => Sys2Proof.Machine.execDemand h demand want floor flags s
  | .share h apply ws => Sys2Proof.Machine.execShare h apply ws s
  | .phase h apply ps => Sys2Proof.Machine.execPhase h apply ps s
  | .sweep h cmd id nph start order => Sys2Proof.Machine.execSweep h cmd id nph start order s
  | .sweepAbort => Sys2Proof.Machine.execSweepAbort s
  | .swres h id first dev ws => Sys2Proof.Machine.execSwres h id first dev ws s
  | .chainEvent h k node ev data sec usec => Sys2Proof.Machine.execChainEvent h k node ev data sec usec s
  | .echo h reply turn rtt => Sys2Proof.Machine.execEcho h reply turn rtt s
  | .echoTimeout p => Sys2Proof.Machine.execEchoTimeout p s
  | .budget h watts => Sys2Proof.Machine.execBudget h watts s
  | .refuse h seq => Sys2Proof.Machine.execRefuse h seq s
  | .frameRetransmit seq => Sys2Proof.Machine.execFrameRetransmit seq s
  | .loss h nodes => Sys2Proof.Machine.execLoss h nodes s
  | .frameError p e => Sys2Proof.Machine.execFrameError p e s
  | .jtlClrcnt hp key => Sys2Proof.Machine.execJtlClrcnt hp key s
  | .swabort hp key => Sys2Proof.Machine.execSwabort hp key s
  | .swstart hp key => Sys2Proof.Machine.execSwstart hp key s
  | .resync hp key => Sys2Proof.Machine.execResync hp key s
  | .resign hp key => Sys2Proof.Machine.execResign hp key s
  | .elect hp key => Sys2Proof.Machine.execElect hp key s
  | .chainbudgetWrite hp watts => Sys2Proof.Machine.execChainbudgetWrite hp watts s
  | .secondBoundary => Sys2Proof.Machine.execSecondBoundary s
  | .sofTimeSet hp secs => Sys2Proof.Machine.execSofTimeSet hp secs s
  | .sofTimeSubRead hp => Sys2Proof.Machine.execSofTimeSubRead hp s
  | .rtcCrystalFail => Sys2Proof.Machine.execRtcCrystalFail s
  | .integrationTick reports => Sys2Proof.Machine.execIntegrationTick reports s
  | .scheduleEntry => Sys2Proof.Machine.execScheduleEntry s
  | .bandSwitch => Sys2Proof.Machine.execBandSwitch s
  | .demandClose => Sys2Proof.Machine.execDemandClose s
  | .setband hp key mask band => Sys2Proof.Machine.execSetband hp key mask band s
  | .clrpeak hp key mask => Sys2Proof.Machine.execClrpeak hp key mask s
  | .ckpt hp key => Sys2Proof.Machine.execCkpt hp key s
  | .meterPageRead hp n => Sys2Proof.Machine.execMeterPageRead hp n s
  | .energyCheckpoint => Sys2Proof.Machine.execEnergyCheckpoint s
  | .slateRecordWrite => Sys2Proof.Machine.execSlateRecordWrite s
  | .sectorErase => Sys2Proof.Machine.execSectorErase s
  | .flashError erase f => Sys2Proof.Machine.execFlashError erase f s
  | .energyRestore bad framOk => Sys2Proof.Machine.execEnergyRestore bad framOk s
  | .slateWindowRead hp off => Sys2Proof.Machine.execSlateWindowRead hp off s
  | .otpOverride hp addr d1 d0 => Sys2Proof.Machine.execOtpOverride hp addr d1 d0 s
  | .burn hp key addr => Sys2Proof.Machine.execBurn hp key addr s
  | .ctrset hp key ctr value => Sys2Proof.Machine.execCtrset hp key ctr value s
  | .repair hp key => Sys2Proof.Machine.execRepair hp key s
  | .rescrub hp key => Sys2Proof.Machine.execRescrub hp key s
  | .dropovr hp key all addr => Sys2Proof.Machine.execDropovr hp key all addr s
  | .otpBurnDone read anti keys pulses => Sys2Proof.Machine.execOtpBurnDone read anti keys pulses s
  | .otpBurnVhvDrop => Sys2Proof.Machine.execOtpBurnVhvDrop s
  | .otpScrub reads cs => Sys2Proof.Machine.execOtpScrub reads cs s
  | .beginSession hp key deferred => Sys2Proof.Machine.execBeginSession hp key deferred s
  | .updDataWrite hp ws => Sys2Proof.Machine.execUpdDataWrite hp ws s
  | .endSession hp key => Sys2Proof.Machine.execEndSession hp key s
  | .activate hp key nextboot dirOk => Sys2Proof.Machine.execActivate hp key nextboot dirOk s
  | .confirm hp key dirOk => Sys2Proof.Machine.execConfirm hp key dirOk s
  | .abortSession hp key => Sys2Proof.Machine.execAbortSession hp key s
  | .revert hp key => Sys2Proof.Machine.execRevert hp key s
  | .sessionIdleTimeout => Sys2Proof.Machine.execSessionIdleTimeout s
  | .stagingFlashDone ok => Sys2Proof.Machine.execStagingFlashDone ok s
  | .relayPrepare dirOk => Sys2Proof.Machine.execRelayPrepare dirOk s
  | .braceHold dirOk => Sys2Proof.Machine.execBraceHold dirOk s
  | .braceRelease dur handOk => Sys2Proof.Machine.execBraceRelease dur handOk s
  | .braceTimeout dirOk => Sys2Proof.Machine.execBraceTimeout dirOk s
  | .confirmTimeout => Sys2Proof.Machine.execConfirmTimeout s
  | .updbegin h manid pkglen => Sys2Proof.Machine.execUpdbegin h manid pkglen s
  | .updpart h manid off data => Sys2Proof.Machine.execUpdpart h manid off data s
  | .updstat h manid st sst code detail missing => Sys2Proof.Machine.execUpdstat h manid st sst code detail missing s
  | .updact h manid cmd apply => Sys2Proof.Machine.execUpdact h manid cmd apply s
  | .vbusBelowVsafe0v n => Sys2Proof.Machine.execVbusBelowVsafe0v n s
  | .vddPowerFailRelease => Sys2Proof.Machine.execVddPowerFailRelease s
  | .vhvOvervoltageRelease => Sys2Proof.Machine.execVhvOvervoltageRelease s
  | .canFrameAcknowledged => Sys2Proof.Machine.execCanFrameAcknowledged s
  | .sinkHrVbusHeld n => Sys2Proof.Machine.execSinkHrVbusHeld n s
  | .sweepAbortMeasureLimit us => Sys2Proof.Machine.execSweepAbortMeasureLimit us s
  | .xdsCalibration => Sys2Proof.Machine.execXdsCalibration s
  | .housekeepingGainSample n available => Sys2Proof.Machine.execHousekeepingGainSample n available s
  | .bistContModeEnd n => Sys2Proof.Machine.execBistContModeEnd n s
  | .chunkTimeout n => Sys2Proof.Machine.execChunkTimeout n s

end Sys2Proof.Machine
end

