-- ==== Sys2Proof/WellFormed.lean ====
section
/-!
DEFINITION. Well-formed commands: the counts and the lengths of operand lists that the spec's formats allow. The widths of the other operands are those of
their types.
-/

namespace Sys2Proof

/-- The sender of a chain frame is a node or has no node number yet (R307). -/
def JtlHead.wf (h : JtlHead) : Bool := decide (h.src.toNat ≤ 15) || h.src == 0xFE

/-- A CAN FD request has a COUNT byte, and its data fit the longest frame (R356). -/
def CanFrame.wf (f : CanFrame) : Bool := decide (f.count < 256) && decide (f.data.length ≤ 14)

/-- Are the operands of a command within the spec's formats? -/
def Instr.wf : Instr → Bool
  | .hostRead _ _ count _ _ => decide (1 ≤ count) && decide (count ≤ 64)
  | .hostWrite _ _ ws _ => decide (1 ≤ ws.length) && decide (ws.length ≤ 64)
  | .guardedWrite _ _ _ ws _ => decide (1 ≤ ws.length) && decide (ws.length ≤ 64)
  | .canRequest f => f.wf
  | .vddPowerFail off rs => decide (off.toNat < 1000) && rs.length == 16
  | .integrationTick rs => rs.length == 16
  | .editBufferWrite _ word ws => decide (1 ≤ ws.length) && decide (word.val + ws.length ≤ 3072) && decide (ws.length ≤ 64)
  | .loopSample _ v i _ => decide (1 ≤ v.length) && decide (1 ≤ i.length)
  | .sourceCapabilities _ (.plain caps) => decide (1 ≤ caps.length) && decide (caps.length ≤ 7)
  | .sourceCapabilities _ (.chunk _ size data) => decide (1 ≤ data.length) && decide (data.length ≤ 26) && decide (size.toNat ≤ 260)
  | .dlData _ _ ws => ws.length == 5
  | .updDataWrite _ ws => decide (1 ≤ ws.length) && decide (ws.length ≤ 64)
  | .claim h _ _ _ _ => h.wf
  | .index h _ => h.wf
  | .member h _ _ _ _ => h.wf
  | .assign h _ _ => h.wf
  | .periods h ts => h.wf && decide (ts.length ≤ 16)
  | .demand h _ _ _ _ => h.wf
  | .share h _ ws => h.wf && decide (ws.length ≤ 16)
  | .phase h _ ps => h.wf && decide (ps.length ≤ 16)
  | .sweep h _ _ _ _ order => h.wf && decide (order.length ≤ 16)
  | .swres h _ _ _ ws => h.wf && decide (ws.length ≤ 14)
  | .updpart h _ _ data => h.wf && decide (data.length ≤ 14)
  | _ => true

end Sys2Proof
end

