-- ==== Sys2Proof/Safety.lean ====
section
/-!
DEFINITION. What a sound state of the block is, in the terms claims use: the register file in its one canonical form, and the states of ports and islands
that the claims' hypotheses name.
-/

namespace Sys2Proof.Machine

/-- Are the addresses of a list of cells strictly rising? -/
def rising : List (Nat × Word) → Bool
  | [] => true
  | [_] => true
  | x :: y :: t => decide (x.1 < y.1) && rising (y :: t)

/-- The canonical form of the register file: addresses strictly rising, and no entry equal to what an unlisted address reads as. -/
def regsWf (l : List (Nat × Word)) : Bool := rising l && l.all (fun p => p.2 != regReset p.1)

/-- The register file and the list of staged values are in their canonical forms. -/
def State.wf (s : State) : Prop := regsWf s.regs = true ∧ rising s.staged = true

/-! ### Words the claims are written with -/

/-- The command c completes in state s, and the next state meets P. -/
def Next (c : Instr) (s : State) (P : State → Prop) : Prop := ∃ t, exec c s = .next t ∧ P t

/-- From s to t every register reads as before but those at the listed addresses. -/
def State.regsBut (s t : State) (l : List Nat) : Prop := ∀ a, a ∉ l → t.rd a = s.rd a

/-- From s to t every register reads as before but those of the areas that p names. -/
def State.regsKept (s t : State) (p : Nat → Bool) : Prop := ∀ a, p a = false → t.rd a = s.rd a

/-- Addresses from lo up to hi. -/
def within (lo hi a : Nat) : Bool := decide (lo ≤ a) && decide (a < hi)

/-- The registers of port n's block. -/
def inPort (n : Fin 16) (a : Nat) : Bool := within (portBase n.val) (portBase n.val + 0x1000) a

/-- The registers of the slice blocks. -/
def inSlices (a : Nat) : Bool := within (sliceBase 0) (sliceBase 48) a

/-- From s to t every port island is as before but those listed. -/
def State.portsBut (s t : State) (l : List (Fin 16)) : Prop := ∀ m, m ∉ l → t.ports[m] = s.ports[m]

/-- From s to t every slice is as before but those listed. -/
def State.slicesBut (s t : State) (l : List (Fin 48)) : Prop := ∀ k, k ∉ l → t.slices[k] = s.slices[k]

/-- A host port's write of these words is accepted: the port listens and no check of R343 ends the transaction. -/
abbrev State.accepts (s : State) (hp : HostPort) (ws : List (Nat × Word)) : Prop :=
  s.listens hp = true ∧ s.judgeWrite hp none ws = (stOK, 0, 0)

/-- The ops that a write of these words becomes (R165). -/
def State.opsFor (s : State) (hp : HostPort) (ws : List (Nat × Word)) : List Op :=
  ws.map (s.opOfWrite { id := s.host.nextTxn, hp := hp, guard := none, words := ws, undecided := 0, opsLeft := ws.length, leader := none })

/-- The op that OP_ENTER enters (R164, R166). -/
def enteringOp (src port cls sub arg : Nat) : Op := { Op.mk0 port cls src sub arg with hp := srcHost src }

/-- Nothing waits for the end of a commit slot: no cancel, no change of the budget, and a deficit only while Truss is below 0 (R169, R183). -/
abbrev State.slotClean (s : State) : Prop :=
  s.ridge.cancels = [] ∧ s.ridge.disabled = [] ∧ s.ridge.recheck = false ∧ (s.bit TRS_STAT.DEFICIT && decide (0 ≤ s.trussFree)) = false

/-- A host port's command, a write of these words, is accepted and its ops commit in the same step: Ridge runs, the window has room for them and holds no older
op of their ports (assumption log 6). -/
abbrev State.takesAll (s : State) (hp : HostPort) (ws : List (Nat × Word)) : Prop :=
  s.accepts hp ws ∧ s.islandUp islRidge = true ∧ (s.pushAll (s.opsFor hp ws)).isSome = true ∧ s.commitsAtOnce (s.opsFor hp ws) = true ∧ s.slotClean

/-- As takesAll, for a command of one word. -/
abbrev State.takes (s : State) (hp : HostPort) (a : Nat) (v : Word) : Prop := s.takesAll hp [(a, v)]

/-- The words that a write of the data window gives (R443): each at its own address, from UPD_DATA on. -/
def dataWrites (ws : List Word) : List (Nat × Word) := ws.zipIdx.map (fun (y : Word × Nat) => (0xA400 + 4 * y.2, y.1))

/-- The state s once the ops of these words have taken their tags and are counted (R164, R168). -/
def State.passOps (s : State) (ws : List (Nat × Word)) : State := ws.foldl (fun v _ => v.passOp) s

/-- From s to t the Host island is as before but for the status word of one host port. -/
def State.hostSays (s t : State) (hp : HostPort) (code detail gen : Nat) : Prop :=
  t.host = (s.modHp hp (fun p => { p with status := statusWord code detail gen })).host

/-- The registers of the 4 KiB block with the given number (R31): 3 Ridge, 4 Truss, 7 Batten, 9 Jotil, 10 update engine, 11 meters and slate, 12 GPC. -/
def block (b a : Nat) : Bool := a / 0x1000 == b

/-- The registers that the policy of port n may reach: its own block, the slices, Ridge, Truss, the tallies, the masks of a sweep and of a relay, the phase of a strip, and
the Rd of ports 0 and 1. -/
def policyArea (n : Fin 16) (a : Nat) : Bool :=
  inPort n a || inSlices a || block 3 a || block 4 a || block 7 a || a == JTL_SWDEV.at || a == UPD_BRMASK.at || a == THA_SRSTAT.at ||
    (decide (n.val < 2) && a == SOF_DBSTAT.at)

/-- From s to t the parts of the block that no port's policy acts on are as before. -/
def State.farKept (s t : State) : Prop :=
  t = { s with regs := t.regs, staged := t.staged, freeCtr := t.freeCtr, ridge := t.ridge, bat := t.bat, ports := t.ports, slices := t.slices, jtl := t.jtl
               boot := { s.boot with rd := t.boot.rd } }

/-- As farKept, and the status of the host port that gave the command has changed too. -/
def State.farButHost (s t : State) : Prop :=
  t = { s with regs := t.regs, staged := t.staged, freeCtr := t.freeCtr, host := t.host, ridge := t.ridge, bat := t.bat, ports := t.ports, slices := t.slices, jtl := t.jtl
               boot := { s.boot with rd := t.boot.rd } }

/-- A message of header h is taken: its port listens and the MessageID differs from the last one received (R129). -/
abbrev State.hears (s : State) (h : PdHead) : Prop := s.listening h.n = true ∧ s.repeated h.n 0 h.id = false

/-- Does the port run at Revision 3.x once the message of header h is taken, the partner's first one fixing the revision (R130)? -/
def State.rev3With (s : State) (h : PdHead) : Bool := if (s.pd h.n).firstSeen then s.rev3 h.n else !(h.rev20 || s.bit (PPD_CFG.REV20 h.n))

/-- From s to t the message of header h is noted: its MessageID is stored, and the first message of the partner fixes the revision (R129, R130). -/
def State.noted (s t : State) (h : PdHead) : Prop :=
  (t.pd h.n).rxId = (s.pd h.n).rxId.set 0 (some h.id.toNat) ∧ (t.pd h.n).firstSeen = true ∧
    t.get (PPD_STATUS.REV h.n) = if (s.pd h.n).firstSeen then s.get (PPD_STATUS.REV h.n) else if h.rev20 || s.bit (PPD_CFG.REV20 h.n) then 1 else 2

/-- From s to t port n hands the messages ms to its protocol layer, behind those it still has to send. -/
def State.sends (s t : State) (n : Fin 16) (ms : List PdMsg) : Prop := (t.pd n).out = (s.pd n).out ++ ms

/-- From s to t the message of header h is noted and the messages ms go out; nothing else changes but the revision that the first message fixes. -/
def State.answers (s t : State) (h : PdHead) (ms : List PdMsg) : Prop :=
  s.noted t h ∧ s.sends t h.n ms ∧ t.pstate h.n = s.pstate h.n ∧ s.regsBut t [PPD_STATUS.at h.n] ∧ s.portsBut t [h.n] ∧
    t = { s with freeCtr := t.freeCtr, regs := t.regs, ports := t.ports }

/-- From s to t a source port has sent Soft_Reset: the protocol layer starts anew and the policy waits in state 10 (R143). -/
def State.sentSoft (s t : State) (n : Fin 16) : Prop :=
  (t.pd n).out = [{ name := .softReset, sop := 0, objs := [] }] ∧ (t.pd n).ams = some .softReset ∧ (t.pd n).txId = [0, 0, 0] ∧
    (t.pd n).rxId = [none, none, none] ∧ t.pstate n = 10 ∧ t.get (PPD_COUNT.SOFT n) = min (s.get (PPD_COUNT.SOFT n) + 1) (2 ^ (PPD_COUNT.SOFT n).w - 1) ∧
    s.regsBut t [PPD_STATUS.at n, PPD_COUNT.at n] ∧ s.portsBut t [n] ∧ t = { s with regs := t.regs, ports := t.ports }

/-- May a Hard Reset of source port n run, HRCOUNT below nHardResetCount (R142)? -/
abbrev State.mayHardReset (s : State) (n : Fin 16) : Prop := s.isService n = false ∧ s.get (PPD_STATUS.HRCOUNT n) < 2

/-- From s to t a Hard Reset has begun on source port n (R142): policy state 8, counts, no contract, VCONN off, DFP, allocation at the floor. -/
def State.beganHardReset (s t : State) (n : Fin 16) : Prop :=
  t.pstate n = 8 ∧ t.get (PPD_COUNT.HARD n) = min (s.get (PPD_COUNT.HARD n) + 1) (2 ^ (PPD_COUNT.HARD n).w - 1) ∧
    t.get (PPD_STATUS.HRCOUNT n) = s.get (PPD_STATUS.HRCOUNT n) + 1 ∧ t.get (PPD_STATUS.CONTRACT n) = 0 ∧ t.bit (PPD_STATUS.EPRMODE n) = false ∧
    t.rd (PPD_CONTRACT.at n) = 0 ∧ t.bit (PCC_STATUS.VCONNON n) = false ∧ t.bit (PPD_STATUS.DROLE n) = false ∧ (t.pd n).out = [] ∧
    (t.pd n).trans = none ∧ t.allocOf n = s.floorOf n ∧ t.cc n = s.cc n

/-- Is nothing held for the next Ready of port n (R160, R156)? -/
abbrev State.nothingHeld (s : State) (n : Fin 16) : Prop :=
  (s.pd n).held = [] ∧ (s.pd n).offerDue = false ∧ (s.pd n).alertDue = 0

/-- A recovery command of header h is performed: a service port in Dormer's or Level 1's state 20, VDM authority UPDATE, no block being written (R158, R159). -/
abbrev State.recovers (s : State) (h : PdHead) : Prop :=
  s.hears h ∧ s.pstate h.n = 20 ∧ s.ports[h.n].rom = true ∧ s.get HST_AUTH.PDVDM = 1 ∧ s.flashBusy = false

/-- A Praeth command with OBSERVE is performed: READY or SNK, VDM authority at least OBSERVE, no block being written (R146, R159). -/
abbrev State.observes (s : State) (h : PdHead) : Prop :=
  s.hears h ∧ (s.group h.n = .ready ∨ s.group h.n = .snk) ∧ s.get HST_AUTH.PDVDM ≠ 0 ∧ s.flashBusy = false

/-- The VDM of header words ws, as a message. -/
def vdmMsg (ws : List Word) : PdMsg := { name := .vdm, sop := 0, objs := ws }

/-- An SOP message with its data objects. -/
def sopMsg (m : MsgName) (ws : List Word) : PdMsg := { name := m, sop := 0, objs := ws }

/-- A message without data objects. -/
def bareMsg (m : MsgName) : PdMsg := { name := m, sop := 0, objs := [] }

/-- In t port n stands in ErrorRecovery as its entry leaves it (R104): stage and Eave off, Rp and VCONN removed, policy disabled, no contract. -/
def State.recovering (t : State) (n : Fin 16) : Prop :=
  t.cc n = ccErrorRecovery ∧ t.stageOn n = false ∧ t.eaveLive n = false ∧ t.get (PCC_STATUS.RPOUT n) = 0 ∧ t.bit (PCC_STATUS.VCONNON n) = false ∧
    t.pstate n = 0 ∧ t.get (PPD_STATUS.CONTRACT n) = 0 ∧ t.rd (PPD_CONTRACT.at n) = 0

/-- From s to t Eave of port n has tripped with a cause and its fault path has run (R261, R262). -/
def State.tripped (s t : State) (n : Fin 16) (cause : Nat) : Prop :=
  t.recovering n ∧ t.get (PEV_STATUS.STATE n) = 4 ∧ t.get (PEV_STATUS.CAUSE n) = cause ∧
    t.get (PEV_FLAGS.TRIP n) = s.get (PEV_FLAGS.TRIP n) ||| 2 ^ (cause - 1) ∧ t.ports[n].faultPath = true

/-- From s to t the device has been reset (R52): the ports that were up and not Disabled stand in ErrorRecovery, their islands powered until it ends; every other
port island is at its reset and unpowered. -/
def State.portsRecover (s t : State) : Prop :=
  (∀ n : Fin 16, s.portUp n = true → s.cc n ≠ ccDisabled → t.cc n = ccErrorRecovery ∧ t.islandUp n.val = true) ∧
    (∀ n : Fin 16, s.portUp n = false ∨ s.cc n = ccDisabled → t.ports[n] = PortSt.reset ∧ t.islandUp n.val = false) ∧
    t.islandUp islSoffit = true ∧ t.islandUp islRidge = false ∧ t.islandUp islHost = false

/-- No register of the block waits with a staged value. -/
abbrev State.noneStaged (s : State) : Prop := s.staged = []

/-! ### The chain -/

/-- A whole frame of header h arrives on a running link, is not a repetition, and the Jotil island runs (R309, R332). -/
abbrev State.gets (s : State) (h : JtlHead) : Prop :=
  s.chainOn = true ∧ s.linkIsUp h.p = true ∧ s.seenBefore h = false ∧ s.islandUp islJotil = true ∧ s.halted islJotil = false

/-- The frame of this device that state s sends next (R307 to R309). -/
def State.frameOf (s : State) (ty dest : Nat) (body : List Nat) (ports : Nat) : JtlFrame :=
  { ty := ty, dest := dest, src := s.myNode.getD 0xFE, seq := s.jtl.seq, body := body, ports := ports &&& s.portsUp }

/-- The frame sent last. -/
def State.newest (s : State) : Option JtlFrame := s.jtl.sent.head?

/-- In t this device takes part in an election it has just started (R312). -/
def State.electing (s t : State) : Prop :=
  t.bit JTL_STAT.ELECTING = true ∧ t.leading = false ∧ t.bit JTL_STAT.UNSYNC = false ∧ t.bit JTL_STAT.LOCKED = false ∧ t.jtl.best = some s.ownClaim ∧
    t.jtl.led = false ∧ t.jtl.quiet = 0

end Sys2Proof.Machine
end

