-- ==== Sys2Proof/Certificates/Slice0/Obligations.lean ====
section
/-!
DEFINITION. The statements about the block, for the provers: for every family of commands what each command of it answers and what it leaves alone, and the
statements about every step. Each docstring names the rules of the spec that the statement rests on, and the entries of the assumption log where it also rests on
choices and readings of the model. A clause about one command reads: for every state and operands that meet its hypotheses, exec answers a next state of which the rest
holds (`Next`, Sys2Proof/Safety.lean).
-/

open Sys2Proof Sys2Proof.Machine

/-- The supplies (R35, R37, R44, R53, R55, R402, R497, R513): PFAIL, VHVOV and the thermal warning with their level sources, the end of the thermal hold and
of the depletion Rd, VDD lost and returned, VHV over-voltage, under-voltage and return. A power-fail also counts the part of the tick and disarms the
last-gasp commit. The model's choices in it: assumption log 5, 72, 76, 114 and 139. -/
def Obligations.Supplies : Prop :=
  (∀ (s : State) (off : BitVec 10) (rs : List (Option Int)),
    Next (.vddPowerFail off rs) s fun t =>
      t.rd GLB_SUPSTAT.at = GLB_SUPSTAT.PFAIL.set (s.rd GLB_SUPSTAT.at) 1 ∧
      0x102 ∈ t.bat.levels ∧ t.mtr.gaspArmed = false ∧
      s.regsKept t (fun a => a == GLB_SUPSTAT.at || within 0xB000 0xC000 a) ∧
      t = { s with regs := t.regs, bat := t.bat, mtr := t.mtr, slate := t.slate }) ∧
  (∀ s : State,
    Next .vddPowerFailRelease s fun t =>
      t.rd GLB_SUPSTAT.at = GLB_SUPSTAT.PFAIL.set (s.rd GLB_SUPSTAT.at) 0 ∧
      t.bat = (s.level 0x102 false).bat ∧ 0x102 ∉ t.bat.levels ∧
      s.regsBut t [GLB_SUPSTAT.at] ∧
      t = { s with regs := t.regs, bat := t.bat, mtr := { s.mtr with gaspArmed := true } }) ∧
  (∀ s : State,
    Next .vhvOvervoltageRelease s fun t =>
      t.bat = (s.level 0x101 false).bat ∧ 0x101 ∉ t.bat.levels ∧ t = { s with bat := t.bat }) ∧
  (∀ (s : State) (on : Bool),
    s.holding = false →
    Next (.thermalWarning on) s fun t =>
      (0x104 ∈ t.bat.levels ↔ on = true) ∧ t = { s with bat := (s.level 0x104 on (b2n on)).bat }) ∧
  (∀ (s : State) (on : Bool),
    s.holding = true →
    Next (.thermalWarning on) s fun t =>
      (0x104 ∈ t.bat.levels ↔ on = true) ∧ t.bat.edges = s.bat.edges ∧
      ((0x104 ∈ s.bat.levels ↔ on = true) → t = s) ∧
      (¬ (0x104 ∈ s.bat.levels ↔ on = true) → t.soffit.warned.length = s.soffit.warned.length + 1) ∧
      t = { s with bat := { s.bat with levels := t.bat.levels }, soffit := { s.soffit with warned := t.soffit.warned } }) ∧
  (∀ s : State,
    s.boot.thermal = true →
    Next .thermalRestart s fun t =>
      t.get SOF_DBSTAT.DBRD0 = 1 ∧ t.get SOF_DBSTAT.DBRD1 = 1 ∧
      s.regsBut t [SOF_DBSTAT.at] ∧
      t = { s with regs := t.regs, boot := { s.boot with rd := (s.boot.rd.set 0 1).set 1 1, thermal := false } }) ∧
  (∀ (s : State) (a b : Nat),
    s.boot.rd = [a, b] →
    Next .depletionRdOff s fun t =>
      t.boot.rd = [if a = 2 then 3 else a, if b = 2 then 3 else b] ∧
      (a = 2 → t.get SOF_DBSTAT.DBRD0 = 0) ∧ (b = 2 → t.get SOF_DBSTAT.DBRD1 = 0) ∧
      s.regsBut t [SOF_DBSTAT.at] ∧
      t = { s with regs := t.regs, boot := { s.boot with rd := t.boot.rd } }) ∧
  (∀ s : State,
    s.bit GLB_SUPSTAT.VHVOK = true →
    s.islandUp islHost = true →
    Next .vddLoss s fun t =>
      t.get GLB_SUPSTAT.VDDOK = 0 ∧ t.get GLB_SUPSTAT.FEED = 1 ∧ t.islandUp islHost = false ∧
      t.host = { HostSt.reset with addrPins := s.host.addrPins, ports := s.lostPorts } ∧
      t.get SOF_RESET_LAST.CODE = 0x08 ∧ t.get SOF_RESET_LAST.ISLAND = 18 ∧
      s.regsKept t (fun a => a == GLB_SUPSTAT.at || a == GLB_ISLPWR.at || a == GLB_ISLHALT.at || within 0x8000 0x9000 a ||
        a == SOF_RESET_CAUSE.at || a == SOF_RESET_LAST.at || a == SOF_RESET_TIME.at || a == MTR_STAT.at) ∧
      t.ridge = s.dropHostOps.ridge ∧
      t = { s with regs := t.regs, staged := t.staged, freeCtr := t.freeCtr, host := t.host, ridge := t.ridge, bat := t.bat, soffit := t.soffit, slate := t.slate,
                   boot := t.boot }) ∧
  (∀ s : State,
    4 ≤ s.get GLB_BOOTSTAT.STAGE →
    s.islandUp islHost = false →
    s.upd.relay = none →
    Next .vddReturn s fun t =>
      t.get GLB_SUPSTAT.VDDOK = 1 ∧ t.get GLB_SUPSTAT.FEED = 0 ∧ t.islandUp islHost = true ∧
      t.host.addrPins = s.host.addrPins ∧ t.host.orders = [] ∧ t.host.txns = [] ∧
      t.get HST_I2CADDR.ADDR = (0x20 + s.host.addrPins) % 2 ^ HST_I2CADDR.ADDR.w ∧
      t.slices = s.slices ∧ t.otp = s.otp ∧ t.upd = s.upd ∧ t.mtr = s.mtr ∧ t.pending = s.pending) ∧
  (∀ s : State,
    Next .vhvOvervoltage s fun t =>
      t.get GLB_SUPSTAT.VHVOV = 1 ∧ 0x101 ∈ t.bat.levels ∧ t.boot.ovBar = true ∧ t.soffit.vhvOk = false ∧
      (∀ n : Fin 16, s.portUp n = true → s.halted n.val = false → s.hasContract n = true → s.cc n ≠ ccDisabled → t.cc n = ccErrorRecovery) ∧
      t.otp = s.otp ∧ t.upd = s.upd ∧ t.mtr = s.mtr ∧ t.slate = s.slate ∧ t.host = s.host ∧ t.pending = s.pending) ∧
  (∀ s : State,
    0x101 ∉ s.bat.levels →
    s.boot.ovBar = true →
    s.bit GLB_SUPSTAT.VHVOK = true →
    Next .vhvOvRecovery s fun t =>
      t.get GLB_SUPSTAT.VHVOV = 0 ∧ t.boot.ovBar = false ∧ t.soffit.vhvOk = true ∧
      (∀ n : Fin 16, s.ports[n].released = true → s.ports[n].en = true → s.portUp n = true → s.cc n = ccDisabled →
        s.isSource n = true → s.bit (PCC_CTRL.DISABLE n) = false → s.bit (PCC_STATUS.LATCHED n) = false →
        t.cc n = ccUnattachedSrc ∨ t.cc n = ccAttachWaitSrc) ∧
      t.otp = s.otp ∧ t.upd = s.upd ∧ t.mtr = s.mtr ∧ t.slate = s.slate ∧ t.host = s.host ∧ t.ridge = s.ridge ∧ t.pending = s.pending) ∧
  (∀ s : State,
    s.bit GLB_SUPSTAT.VDDOK = true →
    Next .vhvUvlo s fun t =>
      t.get GLB_SUPSTAT.VHVOK = 0 ∧ t.get OTP_STAT.VHVPGM = 0 ∧ 0x103 ∈ t.bat.levels ∧ t.soffit.vhvOk = false ∧
      (∀ n : Fin 16, s.portUp n = true → s.halted n.val = false → s.hasContract n = true → s.ports[n].rom = false → s.cc n ≠ ccDisabled →
        t.cc n = ccErrorRecovery) ∧
      t.otp = s.otp ∧ t.upd = s.upd ∧ t.mtr = s.mtr ∧ t.slate = s.slate ∧ t.host = s.host ∧ t.pending = s.pending) ∧
  (∀ (s : State) (pgm : Bool),
    Next (.vhvValid pgm) s fun t =>
      t.get GLB_SUPSTAT.VHVOK = 1 ∧ t.bit OTP_STAT.VHVPGM = pgm ∧ 0x103 ∉ t.bat.levels ∧ t.soffit.vhvOk = !s.boot.ovBar ∧
      t.otp = s.otp ∧ t.upd = s.upd ∧ t.mtr = s.mtr ∧ t.slate = s.slate ∧ t.host = s.host ∧ t.ridge = s.ridge ∧ t.pending = s.pending)

/-- The boot sequence to its step 3, and the ROM boot's end (R45, R47, R426, R476). The model's choices in it: assumption log 1, 2 and 138. -/
def Obligations.BootSequence : Prop :=
  (∀ s : State,
    s.get GLB_BOOTSTAT.STAGE < 4 →
    s.bit GLB_SUPSTAT.VDDOK = false →
    Next .vddValid s fun t =>
      t.get GLB_SUPSTAT.VDDOK = 1 ∧ t.get GLB_SUPSTAT.FEED = 0 ∧
      t.rd GLB_BOOTSTAT.at = GLB_BOOTSTAT.STAGE.set (s.rd GLB_BOOTSTAT.at) (if s.bit OTP_STAT.LOADED then 2 else 0) ∧
      t.boot = { s.boot with sampling := false } ∧
      s.regsBut t [GLB_SUPSTAT.at, GLB_BOOTSTAT.at] ∧
      t = { s with regs := t.regs, bat := t.bat, boot := t.boot }) ∧
  (∀ s : State,
    s.bit GLB_SUPSTAT.VDDOK = true →
    s.get GLB_BOOTSTAT.STAGE = 0 →
    s.boot.inReset.isSome = true →
    s.boot.thermal = false →
    Next .soffitDcoLock s fun t =>
      t.rd GLB_BOOTSTAT.at = GLB_BOOTSTAT.STAGE.set (s.rd GLB_BOOTSTAT.at) 1 ∧ t.islandUp islSoffit = true ∧
      (s.islandUp islSoffit = false → s.boot.inReset = some 0 → s.get SOF_RESET_CAUSE.CODE = 0 →
        t.get SOF_RESET_CAUSE.CODE = 1 ∧ t.get SOF_RESET_LAST.CODE = 1) ∧
      (s.islandUp islSoffit = true → s.regsBut t [GLB_BOOTSTAT.at]) ∧
      s.regsBut t [GLB_BOOTSTAT.at, GLB_ISLPWR.at, SOF_DBSTAT.at, SOF_RESET_CAUSE.at, SOF_RESET_LAST.at, SOF_RESET_TIME.at, MTR_STAT.at] ∧
      t = { s with regs := t.regs, slate := t.slate, boot := { s.boot with causeAt := t.boot.causeAt } }) ∧
  (∀ (s : State) (reads : List OtpRead) (cs : CtrReads),
    s.wantsOtp = true →
    s.bit GLB_SUPSTAT.VDDOK = true →
    Next (.otpBootRead reads cs) s fun t =>
      t.get GLB_BOOTSTAT.STAGE = 2 ∧ t.get OTP_STAT.LOADED = 1 ∧
      (∀ w : Fin 512, reads.all (fun r => r.word.toNat != w.val) = true →
        wideGet t.otp.fuses w.val = wideGet s.otp.fuses w.val ∧ wideGet t.otp.shadow w.val = wideGet s.otp.fuses w.val) ∧
      (∀ r : OtpRead, reads = [r] → r.ecc ≠ .double →
        t.wordStatus r.word.toNat = readStatus r ∧ wideGet t.otp.shadow r.word.toNat = readValue r) ∧
      s.regsKept t (fun a => within 0x0000 0x0100 a || within 0x1000 0x3000 a || within 0x8000 0x9000 a || within 0x10000 0x20000 a || within 0xB000 0xC000 a) ∧
      t.upd = s.upd ∧ t.jtl = s.jtl ∧ t.slices = s.slices ∧ t.pending = s.pending) ∧
  (∀ (s : State) (c : BitVec 12) (k : Nat),
    s.get GLB_BOOTSTAT.STAGE = 2 →
    s.bit GLB_SUPSTAT.VDDOK = true →
    s.devcfg 1 0 = 1 →
    refCode c.toNat = some k →
    Next (.referenceSelect (some c)) s fun t =>
      t.rd GLB_BOOTSTAT.at = GLB_BOOTSTAT.STAGE.set (s.rd GLB_BOOTSTAT.at) 3 ∧
      t.get GLB_CLKSTAT.REFSRC = 1 ∧ t.get GLB_CLKSTAT.REFCODE = k % 16 ∧
      s.regsBut t [GLB_BOOTSTAT.at, GLB_CLKSTAT.at] ∧ t = { s with regs := t.regs }) ∧
  (∀ s : State,
    s.get GLB_BOOTSTAT.STAGE = 2 →
    s.bit GLB_SUPSTAT.VDDOK = true →
    s.devcfg 1 0 = 1 →
    Next (.referenceSelect none) s fun t =>
      t.get GLB_BOOTSTAT.STAGE = 3 ∧ t.get GLB_BOOTSTAT.XTALFAIL = 1 ∧
      t.get GLB_CLKSTAT.REFSRC = 0 ∧ t.get GLB_CLKSTAT.REFCODE = 15 ∧
      s.regsBut t [GLB_BOOTSTAT.at, GLB_CLKSTAT.at] ∧ t = { s with regs := t.regs })

/-- Boot steps 4 to 7 (R45, R47 to R49, R349, R379, R461): the host-ready point, the ROM boot, the release of port islands, GLB_PORTGO and the end of the
boot. The model's choices in it: assumption log 35, 82 and 146. -/
def Obligations.BootReleasesIslands : Prop :=
  (∀ (s : State) (a b c : BitVec 3),
    s.get GLB_BOOTSTAT.STAGE = 3 →
    s.boot.inReset.isSome = true →
    assocGet s.boot.closing islRidge = none →
    Next (.hostReadyPoint a b c) s fun t =>
      t.get GLB_BOOTSTAT.STAGE = 4 ∧
      t.islandUp islRidge = true ∧ t.islandUp islBatten = true ∧ t.islandUp islJotil = true ∧
      (s.bit GLB_SUPSTAT.VDDOK = true → s.islandUp islHost = false → t.islandUp islHost = true ∧ t.host.addrPins = (majority a b c).toNat ∧
        t.get HST_I2CADDR.ADDR = 0x20 + (majority a b c).toNat ∧ t.rd HST_CANID.at = BitVec.ofNat 32 (0x300 + 16 * (majority a b c).toNat)) ∧
      (s.bit GLB_SUPSTAT.VDDOK = false ∨ s.islandUp islHost = true → t.islandUp islHost = s.islandUp islHost ∧ t.host = s.host) ∧
      t.tha = { s.tha with passDue := s.holding } ∧
      s.regsKept t (fun x => x == GLB_BOOTSTAT.at || x == GLB_ISLPWR.at || x == OTP_STAT.at || within 0x8000 0x9000 x) ∧
      t = { s with regs := t.regs, host := t.host, bat := t.bat, tha := t.tha }) ∧
  (∀ (s : State) (d : Dir) (vddHigh : Bool),
    s.get GLB_BOOTSTAT.STAGE = 4 →
    s.bit GLB_BOOTSTAT.DORMER = false →
    s.bit SOF_DBSTAT.RECOVREQ = false →
    s.bit GLB_BOOTCTL.DORMERNEXT = false →
    s.keyHash.isSome = true →
    s.upd.dir = some d →
    d.sstate = 0 →
    d.trial = false →
    d.nextboot = false →
    s.islandUp islRidge = true →
    Next (.romBoot true vddHigh true) s fun t =>
      t.bit GLB_SUPSTAT.XSPI1S = vddHigh ∧
      ((s.verify (s.slot d.act)).1 = 0 →
        t.get GLB_BOOTSTAT.STAGE = 5 ∧ t.get THA_STAT.LOADED = 1 ∧ t.get GLB_BOOTSTAT.SLOT = 1 ∧ t.freeCtr = s.freeCtr + 1 ∧
        t.running = (slotPart (s.slot d.act) s.serial 1).getD [] ∧ t.tha.active = t.running ∧ t.upd.dir = some d ∧
        t.boot.nextIsl = if s.bit GLB_BOOTCTL.HOLDPORTS then 32 else 0) ∧
      ((s.verify (s.slot d.act)).1 ≠ 0 → (s.verify (s.slot d.prev)).1 ≠ 0 →
        t.get GLB_BOOTSTAT.DORMER = 1 ∧ t.get GLB_BOOTSTAT.DCAUSE = 4 ∧ t.get GLB_BOOTSTAT.STAGE = 4 ∧ t.upd.dir = some d) ∧
      t.otp = s.otp ∧ t.jtag = s.jtag ∧ t.pending = s.pending) ∧
  (∀ (s : State) (vddHigh dirOk : Bool),
    s.get GLB_BOOTSTAT.STAGE = 4 →
    s.bit GLB_BOOTSTAT.DORMER = false →
    s.bit SOF_DBSTAT.RECOVREQ = false →
    s.bit GLB_BOOTCTL.DORMERNEXT = false →
    s.keyHash.isSome = true →
    s.islandUp islRidge = true →
    Next (.romBoot false vddHigh dirOk) s fun t =>
      t.get GLB_BOOTSTAT.DORMER = 1 ∧ t.get GLB_BOOTSTAT.DCAUSE = 3 ∧ t.get GLB_BOOTSTAT.STAGE = 4 ∧ t.get SOF_RESET_LAST.CODE = 0x0A ∧
      t.running = s.running ∧ t.otp = s.otp ∧ t.pending = s.pending) ∧
  (∀ (s : State) (n : Fin 16),
    s.get GLB_BOOTSTAT.STAGE = 5 →
    s.upd.relay = none →
    s.boot.nextIsl = n.val →
    s.tha.passDue = false →
    Next .islandRelease s fun t =>
      t.boot.nextIsl = n.val + 1 ∧
      (s.present n = true → n.val ∉ s.boot.recov → s.ports[n].rom = false → s.ports[n].released = false → (structOf s.recs n.val).en = true →
        t.islandUp n.val = true ∧ t.ports[n].released = true ∧ t.ports[n].en = true ∧ t.ports[n].role = (structOf s.recs n.val).role) ∧
      (n.val ∈ s.boot.recov → s.ports[n].rom = false → t.ports[n].en = (structOf s.recs n.val).en ∧ t.islandUp n.val = s.islandUp n.val) ∧
      (n.val ∉ s.boot.recov → n.val ∉ s.boot.haltDue → s.ports[n].rom = false → s.ports[n].released = false → (structOf s.recs n.val).en = false →
        (structOf s.recs n.val).lend = 0 →
        t.ports = s.ports ∧ t.islandUp n.val = s.islandUp n.val) ∧
      s.portsBut t [n] ∧ t.pending = s.pending ∧ t.otp = s.otp ∧ t.upd = s.upd ∧ (s.ports[n].rom = false → t.host = s.host)) ∧
  (∀ (s : State) (hp : HostPort),
    s.takes hp GLB_PORTGO.at 1 →
    s.get GLB_BOOTSTAT.STAGE = 5 →
    s.bit GLB_BOOTCTL.HOLDPORTS = true →
    s.boot.nextIsl = 32 →
    Next (.portgo hp true) s fun t =>
      t.boot.nextIsl = 0 ∧ s.hostSays t hp stOK 0 0 ∧
      t = { s.passOp with host := t.host, boot := { s.boot with nextIsl := 0 } }) ∧
  (∀ s : State,
    s.get GLB_BOOTSTAT.STAGE = 5 →
    s.boot.nextIsl = 16 →
    s.upd.relay = none →
    Next .bootDone s fun t =>
      t.get GLB_BOOTSTAT.STAGE = 6 ∧ t.get GLB_BOOTSTAT.LEVEL = 2 ∧
      t.boot = { s.boot with inReset := none } ∧ t.bat = (s.fire 0x100).bat ∧
      t.bit GLB_BOOTSTAT.VHVWAIT = (!s.bit GLB_SUPSTAT.VHVOK && allPorts.any (fun n => s.ports[n].en && !s.ports[n].rom)) ∧
      s.regsBut t [GLB_BOOTSTAT.at] ∧
      t = { s with regs := t.regs, bat := t.bat, boot := t.boot })

/-- Level 1 and its end (R35, R38, R41 to R43, R51, R58): the dead-battery sequence, the 1 ms samples, the service LDO and the reverse push. The model's
choices in it: assumption log 14, 35, 76, 138 and 139. -/
def Obligations.ServiceBoot : Prop :=
  (∀ (s : State) (v0 v1 : Bool) (reads : List OtpRead) (cs : CtrReads),
    s.bit GLB_SUPSTAT.VDDOK = false →
    s.bit OTP_STAT.LOADED = false →
    s.boot.thermal = false →
    s.boot.inReset = some 0 →
    Next (.deadBatterySequence v0 v1 reads cs) s fun t =>
      t.get OTP_STAT.LOADED = 1 ∧ t.islandUp islSoffit = true ∧
      t.bit GLB_SUPSTAT.VBUS0SVC = v0 ∧ t.bit GLB_SUPSTAT.VBUS1SVC = v1 ∧
      (v0 = true → t.get SOF_DBSTAT.SVCPORT = 1 ∧ t.islandUp 0 = true ∧ t.ports[(0 : Fin 16)].rom = true) ∧
      (v0 = false → v1 = true → t.get SOF_DBSTAT.SVCPORT = 2 ∧ t.islandUp 1 = true ∧ t.ports[(1 : Fin 16)].rom = true) ∧
      (v0 || v1 → t.get SOF_DBSTAT.LEVEL1 = 1 ∧ t.get GLB_BOOTSTAT.LEVEL = 1 ∧ t.boot.sampling = false) ∧
      (v0 = false → v1 = false → t.boot.sampling = true) ∧
      (∀ w : Fin 512, reads.all (fun r => r.word.toNat != w.val) = true → wideGet t.otp.fuses w.val = wideGet s.otp.fuses w.val) ∧ t.upd = s.upd ∧ t.host = s.host ∧ t.pending = s.pending) ∧
  (∀ (s : State) (v0 v1 : Bool),
    s.boot.sampling = true →
    s.bit GLB_SUPSTAT.VDDOK = false →
    v0 || v1 →
    Next (.serviceVbusSample v0 v1) s fun t =>
      t.bit GLB_SUPSTAT.VBUS0SVC = v0 ∧ t.bit GLB_SUPSTAT.VBUS1SVC = v1 ∧ t.boot.sampling = false ∧
      t.get SOF_DBSTAT.SVCPORT = (if v0 then 1 else 2) ∧ t.get SOF_DBSTAT.LEVEL1 = 1 ∧ t.get GLB_BOOTSTAT.LEVEL = 1 ∧
      t.ports[(if v0 then 0 else 1 : Fin 16)].rom = true ∧ s.portsBut t [if v0 then 0 else 1] ∧
      t.otp = s.otp ∧ t.upd = s.upd ∧ t.host = s.host ∧ t.pending = s.pending) ∧
  (∀ s : State,
    s.bit GLB_SUPSTAT.VDDOK = true →
    Next .serviceLdoStop s fun t =>
      t.get GLB_SUPSTAT.VBUS0SVC = 0 ∧ t.get GLB_SUPSTAT.VBUS1SVC = 0 ∧
      s.regsBut t [GLB_SUPSTAT.at] ∧ t = { s with regs := t.regs }) ∧
  (∀ s : State,
    s.bit GLB_SUPSTAT.VDDOK = false →
    s.bit GLB_SUPSTAT.VHVOK = false →
    Next .serviceLdoStop s fun t =>
      t.regs = [] ∧ t.staged = [] ∧ t.ports = State.reset.ports ∧ t.boot = BootSt.reset ∧
      t.otp.fuses = s.otp.fuses ∧ t.slate = { s.slate with buf := [], retry := none } ∧ t.upd.slots = s.upd.slots ∧ t.pending = s.pending) ∧
  (∀ (s : State) (n : Fin 16),
    s.isService n = true →
    s.stageOn n = true →
    s.get (PLP_STATUS.MODE n) = 3 →
    s.halted n.val = false →
    Next (.reversePushStop n) s fun t =>
      t.stageOn n = false ∧ t.get (PLP_STATUS.REGION n) = 3 ∧ t.get (PLP_STATUS.SETTLED n) = 0 ∧
      t.ports = s.ports ∧ s.regsKept t (fun a => a == PLP_STATUS.at n || inSlices a) ∧
      t = { s with regs := t.regs, staged := t.staged, slices := t.slices })



/-- Resets of the device (R52, R53, R57, R60, R62, R448): what each does, the cause it records, and what it keeps. The model's choices in it: assumption log
32, 77, 78, 112 and 113. -/
def Obligations.DeviceResets : Prop :=
  (∀ s : State,
    Next .powerOnReset s fun t =>
      t.regs = [] ∧ t.staged = [] ∧ t.ports = State.reset.ports ∧ t.slices = State.reset.slices ∧ t.host = HostSt.reset ∧ t.boot = BootSt.reset ∧
      t.otp = { OtpSt.reset with fuses := s.otp.fuses, ctr := s.otp.ctr, ctrMarg := s.otp.ctrMarg } ∧
      t.slate = { s.slate with buf := [], retry := none } ∧ t.upd.dir = s.upd.dir ∧ t.upd.slots = s.upd.slots ∧ t.pending = s.pending) ∧
  (∀ s : State,
    s.otp.burn = none →
    Next .thermalShutdown s fun t =>
      t.get SOF_RESET_LAST.CODE = 0x02 ∧ t.get SOF_RESET_LAST.ISLAND = 31 ∧ t.boot.thermal = true ∧ t.boot.rd = [3, 3] ∧ t.boot.inReset = some 1 ∧
      t.get GLB_BOOTSTAT.STAGE = 0 ∧ s.portsRecover t ∧
      t.host = HostSt.reset ∧ t.mtr = s.mtr ∧ t.otp.fuses = s.otp.fuses ∧ t.pending = s.pending) ∧
  (∀ s : State,
    s.otp.burn.isSome = true →
    Next .thermalShutdown s fun t =>
      t = { s with boot := { s.boot with thermal := true, rd := [3, 3], waiting := s.boot.waiting ++ [256 + 2] } }) ∧
  (∀ (s : State) (ns : Nat),
    1000 ≤ ns →
    s.otp.burn = none →
    Next (.rstN ns) s fun t =>
      t.get SOF_RESET_LAST.CODE = 0x05 ∧ t.get SOF_RESET_LAST.ISLAND = 31 ∧ t.boot.inReset = some 1 ∧
      t.get GLB_BOOTSTAT.STAGE = 0 ∧ s.portsRecover t ∧
      t.host = HostSt.reset ∧ t.mtr = s.mtr ∧ t.otp.fuses = s.otp.fuses ∧ t.pending = s.pending) ∧
  (∀ (s : State) (ns : Nat), ns < 200 → Next (.rstN ns) s fun t => t = s) ∧
  (∀ (s : State) (hp : HostPort),
    s.accepts hp [(GLB_RESET.at, 0x5A000001)] →
    s.otp.burn = none →
    Next (.resetCold hp 0x5A) s fun t =>
      t.get SOF_RESET_LAST.CODE = 0x06 ∧ t.get SOF_RESET_LAST.ISLAND = 31 ∧ t.boot.inReset = some 1 ∧ t.get GLB_BOOTSTAT.STAGE = 0 ∧
      s.portsRecover t ∧ t.otp.shadow = [] ∧ t.host = HostSt.reset ∧ t.mtr = s.mtr ∧ t.pending = s.pending) ∧
  (∀ (s : State) (hp : HostPort),
    s.accepts hp [(GLB_RESET.at, 0x5A000002)] →
    s.otp.burn = none →
    Next (.resetWarm hp 0x5A) s fun t =>
      t.get SOF_RESET_LAST.CODE = 0x10 ∧ t.get SOF_RESET_LAST.ISLAND = 31 ∧ t.boot.inReset = some 2 ∧ t.get GLB_BOOTSTAT.STAGE = 3 ∧
      s.portsRecover t ∧ t.otp = s.otp ∧ t.host = HostSt.reset ∧ t.get GLB_CLKSTAT.REFSRC = s.get GLB_CLKSTAT.REFSRC ∧ t.mtr = s.mtr ∧
      t.pending = s.pending) ∧
  (∀ (s : State) (hp : HostPort),
    s.accepts hp [(GLB_RESET.at, 0x5A000003)] →
    s.upd.relay = none →
    Next (.resetRelay hp 0x5A) s fun t =>
      t.upd.relay = some { kind := if s.bit UPD_STAT.NEXTBOOT then 1 else 0, cause := 0x11, ev := 0, apply := none, started := none, rotated := false } ∧
      s.hostSays t hp stOK 0 0 ∧ t = { s with host := t.host, upd := { s.upd with relay := t.upd.relay } })

/-- Ridge and Batten lost and returned (R29, R54, R185, R297). The model's choices in it: assumption log 27, 79, 87 and 129. -/
def Obligations.RidgeAndBattenLoss : Prop :=
  (∀ s : State,
    s.islandUp islRidge = true →
    s.halted islRidge = false →
    Next .ridgeWatchdog s fun t =>
      t.islandUp islRidge = false ∧ t.get RDG_STAT.OUTAGE = 1 ∧ t.ridge = RidgeSt.reset ∧
      t.get SOF_RESET_LAST.CODE = 0x07 ∧ t.get SOF_RESET_LAST.ISLAND = 16 ∧
      (∀ n : Fin 16, s.pstate n ≠ 0 → t.pstate n = 12) ∧ (∀ n : Fin 16, t.rd (TRS_HOLD.at n) = 0) ∧
      t.otp = s.otp ∧ t.mtr = s.mtr ∧ t.boot = { s.boot with causeAt := t.boot.causeAt } ∧ t.pending = s.pending) ∧
  (∀ s : State,
    s.bit RDG_STAT.OUTAGE = true →
    s.islandUp islRidge = false →
    4 ≤ s.get GLB_BOOTSTAT.STAGE →
    s.upd.relay = none →
    s.tha.reload = false →
    s.dirNow.sstate ≠ 1 →
    Next .ridgeReturn s fun t =>
      t.islandUp islRidge = true ∧ t.get RDG_STAT.OUTAGE = 0 ∧ t.get TRS_STAT.REBUILT = 1 ∧
      (∀ n : Fin 16, t.rd (TRS_HOLD.at n) = 0) ∧
      (∀ n : Fin 16, t.get (TRS_ALLOC.ALLOC n) = max (s.floorOf n) (s.pd n).contractPower % 2 ^ (TRS_ALLOC.ALLOC n).w) ∧
      t.otp = s.otp ∧ t.mtr = s.mtr ∧ t.boot = s.boot ∧ t.pending = s.pending) ∧
  (∀ s : State,
    s.bit RDG_STAT.OUTAGE = true →
    Next .ridgeOutageTimeout s fun t =>
      t.ridge = { RidgeSt.reset with cut := t.ridge.cut } ∧
      (∀ n : Fin 16, s.portUp n = true → s.halted n.val = false → s.hasContract n = true → s.cc n ≠ ccDisabled → t.cc n = ccErrorRecovery) ∧
      t.otp = s.otp ∧ t.mtr = s.mtr ∧ t.boot = { s.boot with rd := t.boot.rd } ∧ t.host = s.host ∧ t.pending = s.pending) ∧
  (∀ s : State,
    s.islandUp islBatten = false →
    4 ≤ s.get GLB_BOOTSTAT.STAGE →
    s.upd.relay = none →
    Next .battenReturn s fun t =>
      t.islandUp islBatten = true ∧ t.bat.lossRun = 0 ∧ t.bat.levels = s.bat.levels ∧ t.bat.wire = s.bat.wire ∧
      t.otp = s.otp ∧ t.mtr = s.mtr ∧ t.boot = s.boot ∧ t.host = s.host ∧ t.ports = s.ports ∧ t.pending = s.pending)

/-- Regions of the Underlay (R29, R485, R488, R489, R491): a detector's action, the stages of a closing header and the restart. The model's choices in it:
assumption log 14, 79 and 80. -/
def Obligations.UnderlayRegions : Prop :=
  (∀ (s : State) (isl : Fin 21) (sub crack : Bool),
    s.islandUp isl.val = true →
    isl.val < 20 →
    Next (.underlayFault isl sub crack) s fun t =>
      t.islandUp isl.val = false ∧ t.get SOF_RESET_LAST.CODE = (if crack then 0x03 else 0x04) ∧ t.get SOF_RESET_LAST.ISLAND = isl.val ∧
      assocGet t.boot.closing isl.val = some 0 ∧
      t.otp = s.otp ∧ t.mtr.ports = s.mtr.ports ∧ t.pending = s.pending) ∧
  (∀ (s : State) (sub crack : Bool),
    s.islandUp islSoffit = true →
    Next (.underlayFault 20 sub crack) s fun t =>
      t.get SOF_RESET_LAST.CODE = (if crack then 0x03 else 0x04) ∧ t.get SOF_RESET_LAST.ISLAND = 20 ∧ t.rd GLB_SUPSTAT.at = s.rd GLB_SUPSTAT.at ∧
      t.get GLB_ISLPWR.ISL = 0 ∧ t.boot = { BootSt.reset with causeAt := t.boot.causeAt } ∧ t.otp.fuses = s.otp.fuses ∧ t.pending = s.pending) ∧
  (∀ s : State, s.boot.closingNow = none → Next .headerStage s fun t => t = s) ∧
  (∀ (s : State) (k c : Nat),
    s.boot.closingNow = some k →
    assocGet s.boot.closing k = some c →
    Next .headerStage s fun t =>
      assocGet t.boot.closing k = some (c + 1) ∧ t = { s with boot := { s.boot with closing := t.boot.closing } }) ∧
  (∀ (s : State) (isl : Fin 21) (n : Fin 16),
    isl.val = n.val →
    (assocGet s.boot.closing n.val).isSome = true →
    5 ≤ s.get GLB_BOOTSTAT.STAGE →
    s.get SOF_DBSTAT.SVCPORT ≠ n.val + 1 →
    s.present n = true →
    (structOf s.recs n.val).en = true →
    s.tha.passDue = false →
    n.val ∉ s.boot.haltDue →
    Next (.regionRestart isl) s fun t =>
      t.islandUp n.val = true ∧ t.ports[n].released = true ∧ t.cc n = ccErrorRecovery ∧
      assocGet t.boot.closing n.val = none ∧ s.portsBut t [n] ∧
      t.otp = s.otp ∧ t.mtr = s.mtr ∧ t.host = s.host ∧ t.pending = s.pending)

/-- The reference and the DCOs (R477, R480, R481, R492). The model's choices in it: assumption log 80. -/
def Obligations.ClockEvents : Prop :=
  (∀ s : State,
    s.get GLB_CLKSTAT.REFSRC ≠ 0 →
    Next .referenceFail s fun t =>
      t.get GLB_CLKSTAT.REFSRC = 0 ∧ t.get GLB_CLKSTAT.REFCODE = 15 ∧ t.get GLB_BOOTSTAT.XTALFAIL = 1 ∧ t.get GLB_DCOFLG.XTALSW = 1 ∧
      t.get HST_STAT.CANRC = 1 ∧ t.get HST_CANSTAT.RCREF = 1 ∧ t.bat = (s.fire 0x105 0).bat ∧
      s.regsBut t [GLB_CLKSTAT.at, GLB_BOOTSTAT.at, GLB_DCOFLG.at, HST_STAT.at, HST_CANSTAT.at] ∧
      t = { s with regs := t.regs, bat := t.bat }) ∧
  (∀ s : State, s.get GLB_CLKSTAT.REFSRC = 0 → Next .referenceFail s fun t => t = s) ∧
  (∀ (s : State) (isl : Fin 21),
    Next (.dcoHoldover isl) s fun t =>
      (∀ k : Fin 21, (t.get GLB_DCOFLG.HOLD).testBit k.val = ((s.get GLB_DCOFLG.HOLD).testBit k.val || k == isl)) ∧
      s.regsBut t [GLB_DCOFLG.at] ∧ t = { s with regs := t.regs }) ∧
  (∀ (s : State) (n : Fin 16),
    s.portUp n = true →
    Next (.timebaseLock n) s fun t =>
      (∀ k : Fin 16, (t.get GLB_PLLSTAT.LOCK).testBit k.val = ((s.get GLB_PLLSTAT.LOCK).testBit k.val || k == n)) ∧
      (t.get GLB_PLLSTAT.CHAIN).testBit n.val = (s.bit JTL_CFG.LOCKEN && s.bit JTL_STAT.LOCKED && s.chainOn) ∧
      (∀ k : Fin 16, k ≠ n → (t.get GLB_PLLSTAT.CHAIN).testBit k.val = (s.get GLB_PLLSTAT.CHAIN).testBit k.val) ∧
      s.regsBut t [GLB_PLLSTAT.at] ∧ t = { s with regs := t.regs }) ∧
  (∀ (s : State) (n : Fin 16),
    Next (.pllUnlock n) s fun t =>
      (∀ k : Fin 16, (t.get GLB_PLLSTAT.LOCK).testBit k.val = ((s.get GLB_PLLSTAT.LOCK).testBit k.val && k != n)) ∧
      (∀ k : Fin 16, (t.get GLB_PLLSTAT.CHAIN).testBit k.val = ((s.get GLB_PLLSTAT.CHAIN).testBit k.val && k != n)) ∧
      s.regsBut t [GLB_PLLSTAT.at] ∧ t = { s with regs := t.regs }) ∧
  (∀ (s : State) (n : Fin 16),
    s.portUp n = true →
    (s.get GLB_PLLSTAT.LOCK).testBit n.val = false →
    s.halted n.val = false →
    Next (.pllHoldoverTimeout n) s fun t =>
      t.cc n = ccErrorRecovery ∧ t.stageOn n = false ∧ t.eaveLive n = false ∧ t.ports[n].faultPath = true ∧
      t.otp = s.otp ∧ t.mtr = s.mtr ∧ t.host = s.host ∧ t.pending = s.pending)

/-- The TAP and the debug halt (R214, R215, R361, R362, R483, R525): the HALT register halts and resumes an island at CONFIGURE; an instruction whose
authority the JTAG grant does not meet selects BYPASS. The model's choices in it: assumption log 31, 75, 79 and 140. -/
def Obligations.TapAndDebugHalt : Prop :=
  (∀ (s : State) (isl : Fin 24),
    3 ≤ s.level3 .jtag →
    haltable isl.val = true →
    s.islandUp isl.val = true →
    s.halted isl.val = false →
    Next (.islandHalt isl) s fun t =>
      t.halted isl.val = true ∧ t.jtag.ir = 0x11 ∧ (isl.val = islRidge → t.get RDG_STAT.OUTAGE = 1 ∧ t.ridge = s.ridge) ∧
      t.otp = s.otp ∧ t.mtr = s.mtr ∧ t.host = s.host ∧ t.boot = s.boot ∧ t.pending = s.pending) ∧
  (∀ (s : State) (isl : Fin 24),
    s.level3 .jtag < 3 →
    Next (.islandHalt isl) s fun t => t = { s with jtag := { s.jtag with ir := 0xFF } }) ∧
  (∀ (s : State) (isl : Fin 24),
    3 ≤ s.level3 .jtag →
    haltable isl.val = true →
    s.halted isl.val = true →
    Next (.islandResume isl) s fun t =>
      t.halted isl.val = false ∧ t.jtag.ir = 0x11 ∧ (isl.val = islRidge → t.get RDG_STAT.OUTAGE = 0) ∧
      t.otp = s.otp ∧ t.mtr = s.mtr ∧ t.host = s.host ∧
      t.boot = { s.boot with rd := t.boot.rd, haltDue := s.boot.haltDue.filter (fun k => k != isl.val) } ∧ t.pending = s.pending) ∧
  (∀ (s : State) (isl : Fin 24),
    s.level3 .jtag < 3 →
    Next (.islandResume isl) s fun t => t = { s with jtag := { s.jtag with ir := 0xFF } }) ∧
  (∀ s : State, Next .bypass s fun t => t = { s with jtag := { s.jtag with ir := 0xFF, drive := 0, dr := 0 } }) ∧
  (∀ (s : State) (capture : BitVec 513),
    1 ≤ s.level3 .jtag →
    Next (.samplePreload capture) s fun t => t = { s with jtag := { s.jtag with ir := 0x02, drive := 0, dr := 0, boundary := boundaryValue capture } }) ∧
  (∀ (s : State) (capture : BitVec 513),
    s.level3 .jtag = 0 →
    Next (.samplePreload capture) s fun t => t = { s with jtag := { s.jtag with ir := 0xFF, drive := 0, dr := 0 } }) ∧
  (∀ s : State,
    3 ≤ s.level3 .jtag →
    Next .extest s fun t =>
      t.jtag.ir = 0x00 ∧ t.jtag.drive = 1 ∧ t.jtag.boundary = s.jtag.boundary ∧
      (s.jtag.drive = 0 → ∀ n : Fin 16, s.portUp n = true → t.eaveLive n = false ∧
        (s.halted n.val = false → s.cc n ≠ ccDisabled → t.cc n = ccErrorRecovery)) ∧
      (s.jtag.drive ≠ 0 → t = { s with jtag := t.jtag }) ∧
      t.otp = s.otp ∧ t.mtr = s.mtr ∧ t.host = s.host ∧ t.pending = s.pending) ∧
  (∀ s : State,
    3 ≤ s.level3 .jtag →
    Next .highz s fun t =>
      t.jtag.ir = 0x03 ∧ t.jtag.drive = 2 ∧ t.jtag.boundary = s.jtag.boundary ∧
      (s.jtag.drive = 0 → ∀ n : Fin 16, s.portUp n = true → t.eaveLive n = false ∧
        (s.halted n.val = false → s.cc n ≠ ccDisabled → t.cc n = ccErrorRecovery)) ∧
      (s.jtag.drive ≠ 0 → t = { s with jtag := t.jtag }) ∧
      t.otp = s.otp ∧ t.mtr = s.mtr ∧ t.host = s.host ∧ t.pending = s.pending) ∧
  (∀ s : State,
    3 ≤ s.level3 .jtag →
    Next .clamp s fun t =>
      t.jtag.ir = 0x04 ∧ t.jtag.drive = 3 ∧ t.jtag.boundary = s.jtag.boundary ∧
      (s.jtag.drive = 0 → ∀ n : Fin 16, s.portUp n = true → t.eaveLive n = false ∧
        (s.halted n.val = false → s.cc n ≠ ccDisabled → t.cc n = ccErrorRecovery)) ∧
      (s.jtag.drive ≠ 0 → t = { s with jtag := t.jtag }) ∧
      t.otp = s.otp ∧ t.mtr = s.mtr ∧ t.host = s.host ∧ t.pending = s.pending) ∧
  (∀ s : State,
    s.level3 .jtag < 3 →
    Next .extest s fun t => t = { s with jtag := { s.jtag with ir := 0xFF, drive := 0, dr := 0 } })

/-- Reads by a host port (R3, R33, R189, R340, R346, R383, R410, R291, R191): the words and the status given, the side effects of the words that have one,
that a read leaves every register but TRS_STAT, and that one of an unmapped or absent address gives zeros. The model's choices in it: assumption log 15, 87,
92 and 121. -/
def Obligations.HostReads : Prop :=
  (∀ (s : State) (hp : HostPort) (addr : BitVec 24) (count : Nat) (crc : Byte) (ce ue : List (BitVec 17)) (fetchOk : Bool),
    s.listens hp = true →
    1 ≤ count →
    count ≤ 64 →
    s.crcBad hp (frameHead 0 count addr.toNat) crc = false →
    s.judgeRead hp addr.toNat count = (stOK, 0, addr.toNat) →
    (faultWords ce ue).all (fun x => !(wordAddrs addr.toNat count).contains (0x40000 + x.1)) = true →
    Next (.hostRead hp addr count crc ⟨.normal, ce, ue, fetchOk⟩) s fun t =>
      t.host.ports[hp.idx].rdData.length = count ∧
      t.host.ports[hp.idx].status = statusWord stOK 0 (s.genOf addr.toNat) ∧
      (∀ k : Fin 4, k ≠ hp.idx → t.host.ports[k] = s.host.ports[k]) ∧
      t.host.orders = s.host.orders ∧ t.host.txns = s.host.txns ∧
      s.regsBut t [TRS_STAT.at] ∧
      t = { s with regs := t.regs, freeCtr := t.freeCtr, host := t.host, bat := t.bat, jtag := t.jtag }) ∧
  (∀ (s : State) (hp : HostPort) (addr : BitVec 24) (count : Nat) (crc : Byte) (fin : ReadEnd) (ce ue : List (BitVec 17)) (fetchOk : Bool),
    s.listens hp = true →
    1 ≤ count →
    count ≤ 64 →
    s.crcBad hp (frameHead 0 count addr.toNat) crc = false →
    (s.judgeRead hp addr.toNat count).1 = stUNMAPPED ∨ (s.judgeRead hp addr.toNat count).1 = stABSENT →
    Next (.hostRead hp addr count crc ⟨fin, ce, ue, fetchOk⟩) s fun t =>
      t.host.ports[hp.idx].rdData = List.replicate count 0 ∧
      t.host.ports[hp.idx].status.toNat % 256 = (s.judgeRead hp addr.toNat count).1 ∧
      s.regsBut t [HST_LASTERR.at] ∧ t = { s with regs := t.regs, host := t.host, jtag := t.jtag }) ∧
  (∀ (s : State) (hp : HostPort) (addr : BitVec 24) (crc : Byte) (ce ue : List (BitVec 17)) (fetchOk : Bool),
    s.listens hp = true →
    s.crcBad hp (frameHead 0 1 addr.toNat) crc = false →
    s.judgeRead hp addr.toNat 1 = (stOK, 0, addr.toNat) →
    blockOf addr.toNat = some .glb →
    s.host.ports[hp.idx].latch = none →
    Next (.hostRead hp addr 1 crc ⟨.normal, ce, ue, fetchOk⟩) s fun t =>
      t.host.ports[hp.idx].rdData = [if (regRow addr.toNat).any (fun r => r.acc == .wo) then 0 else s.rd addr.toNat] ∧
      t.host.ports[hp.idx].status = statusWord stOK 0 0 ∧
      t.regs = s.regs ∧ t = { s with host := t.host, jtag := t.jtag }) ∧
  (∀ (s : State) (hp : HostPort),
    s.listens hp = true →
    hp ≠ .jtag →
    Next (.statusRead hp) s fun t =>
      t.host.ports[hp.idx].rdData = [s.host.ports[hp.idx].status] ∧ t.host.ports[hp.idx].status = s.host.ports[hp.idx].status ∧
      (∀ k : Fin 4, k ≠ hp.idx → t.host.ports[k] = s.host.ports[k]) ∧ t = { s with host := t.host }) ∧
  (∀ s : State,
    s.listens .jtag = true →
    Next (.statusRead .jtag) s fun t =>
      t.jtag.ir = 0x10 ∧ t.jtag.result = (s.host.ports[HostPort.jtag.idx].status, s.host.ports[HostPort.jtag.idx].rdData.headD 0) ∧
      t = { s with jtag := t.jtag }) ∧
  (∀ (s : State) (hp : HostPort) (addr : BitVec 24),
    s.listens hp = true →
    s.judgeRead hp addr.toNat 1 = (stOK, 0, addr.toNat) →
    addr.toNat ≠ 0x5010 →
    latchGroup addr.toNat ≠ [] →
    Next (.latchedRead hp addr) s fun t =>
      t.host.ports[hp.idx].rdData = [s.view addr.toNat] ∧
      t.host.ports[hp.idx].latch = some { trigger := addr.toNat, words := (latchGroup addr.toNat).map (fun b => (b, s.view b)) } ∧
      t.host.ports[hp.idx].status = statusWord stOK 0 (s.genOf addr.toNat) ∧
      t = { s with host := t.host, jtag := t.jtag }) ∧
  (∀ (s : State) (hp : HostPort),
    s.listens hp = true →
    s.judgeRead hp TRS_STAT.at 1 = (stOK, 0, TRS_STAT.at) →
    s.host.ports[hp.idx].latch = none →
    Next (.trsStatRead hp) s fun t =>
      t.host.ports[hp.idx].rdData = [s.rd TRS_STAT.at] ∧ t.rd TRS_STAT.at = TRS_STAT.REBUILT.set (s.rd TRS_STAT.at) 0 ∧
      t.host.ports[hp.idx].status = statusWord stOK 0 0 ∧
      s.regsBut t [TRS_STAT.at] ∧ t = { s with regs := t.regs, host := t.host, jtag := t.jtag }) ∧
  (∀ (s : State) (hp : HostPort),
    s.listens hp = true →
    s.judgeRead hp SOF_TIME_SUB.at 1 = (stOK, 0, SOF_TIME_SUB.at) →
    s.host.ports[hp.idx].latch = none →
    Next (.sofTimeSubRead hp) s fun t =>
      t.host.ports[hp.idx].rdData = [BitVec.ofNat 32 (subOf s.soffit.usec)] ∧
      t.host.ports[hp.idx].timeSnap = (subOf s.soffit.usec, s.soffit.sec, s.soffit.usec) ∧
      t = { s with host := t.host, jtag := t.jtag }) ∧
  (∀ (s : State) (hp : HostPort) (n : Fin 16),
    s.listens hp = true →
    s.judgeRead hp (0xB400 + 0x80 * n.val) 1 = (stOK, 0, 0xB400 + 0x80 * n.val) →
    Next (.meterPageRead hp n) s fun t =>
      (∀ i : Fin 31, cellGet t.host.ports[hp.idx].pages (0xB400 + 0x80 * n.val + 4 + 4 * i.val) = some (s.view (0xB400 + 0x80 * n.val + 4 + 4 * i.val))) ∧
      t.host.ports[hp.idx].status = statusWord stOK 0 0 ∧ t = { s with host := t.host, jtag := t.jtag }) ∧
  (∀ (s : State) (hp : HostPort) (x : QEntry),
    s.listens hp = true →
    s.judgeRead hp 0x5010 1 = (stOK, 0, 0x5010) →
    s.nextUnread = some x →
    Next (.batQpop hp) s fun t =>
      t.host.ports[hp.idx].rdData = [x.word 0] ∧
      t.host.ports[hp.idx].latch = some { trigger := 0x5010, words := [(0x5014, x.word 1), (0x5018, x.word 2), (0x501C, x.word 3)] } ∧
      t.unread + 1 = s.unread ∧ t.bat.queue.length = s.bat.queue.length ∧
      t = { s with host := t.host, bat := { s.bat with queue := t.bat.queue }, jtag := t.jtag }) ∧
  (∀ (s : State) (hp : HostPort),
    s.listens hp = true →
    s.judgeRead hp 0x5010 1 = (stOK, 0, 0x5010) →
    s.nextUnread = none →
    Next (.batQpop hp) s fun t =>
      t.host.ports[hp.idx].rdData = [0xFFFFFFFF] ∧ t.host.ports[hp.idx].latch = none ∧
      t = { s with host := t.host, jtag := t.jtag })

/-- Writes by a host port (R338, R339, R343, R345, R365, R369, R374): an accepted one enters the order stage as PENDING and changes nothing else; a
refused one commits nothing; an order alone in its group enters the window. The model's choices in it: assumption log 6, 7 and 8. -/
def Obligations.HostWrites : Prop :=
  (∀ (s : State) (hp : HostPort) (addr : BitVec 24) (data : List Word) (crc : Byte),
    s.listens hp = true →
    s.crcBad hp (writeFrame none addr.toNat data) crc = false →
    s.judgeWrite hp none (targets addr.toNat data) = (stOK, 0, 0) →
    Next (.hostWrite hp addr data crc) s fun t =>
      t.host.txns = s.host.txns ++ [{ id := s.host.nextTxn, hp := hp, guard := none, words := targets addr.toNat data, undecided := data.length, opsLeft := 0, leader := none }] ∧
      t.host.orders = s.host.orders ++ (targets addr.toNat data).map (wordOrder hp s.host.nextTxn (s.grant hp) s.soffit.usec) ∧
      t.host.nextTxn = s.host.nextTxn + 1 ∧ t.host.ports[hp.idx].status = statusWord stPENDING 0 0 ∧
      t.regs = s.regs ∧ t = { s with host := t.host, jtag := t.jtag }) ∧
  (∀ (s : State) (hp : HostPort) (addr : BitVec 24) (gen : BitVec 16) (data : List Word) (crc : Byte),
    s.listens hp = true →
    s.crcBad hp (writeFrame (some gen) addr.toNat data) crc = false →
    s.judgeWrite hp (some gen) (targets addr.toNat data) = (stOK, 0, 0) →
    Next (.guardedWrite hp addr gen data crc) s fun t =>
      t.host.txns = s.host.txns ++ [{ id := s.host.nextTxn, hp := hp, guard := some gen, words := targets addr.toNat data, undecided := data.length, opsLeft := 0, leader := none }] ∧
      t.host.orders = s.host.orders ++ (targets addr.toNat data).map (wordOrder hp s.host.nextTxn (s.grant hp) s.soffit.usec) ∧
      t.host.nextTxn = s.host.nextTxn + 1 ∧ t.host.ports[hp.idx].status = statusWord stPENDING 0 0 ∧
      t.regs = s.regs ∧ t = { s with host := t.host, jtag := t.jtag }) ∧
  (∀ (s : State) (hp : HostPort) (addr : BitVec 24) (data : List Word) (crc : Byte),
    s.listens hp = true →
    (s.judgeWrite hp none (targets addr.toNat data)).1 ≠ stOK →
    Next (.hostWrite hp addr data crc) s fun t =>
      t.host.txns = s.host.txns ∧ t.host.orders = s.host.orders ∧ t.host.nextTxn = s.host.nextTxn ∧
      s.regsBut t [HST_LASTERR.at, HST_STAT.at, HST_CNT0.at, HST_CNT1.at] ∧
      t = { s with regs := t.regs, host := t.host, bat := t.bat, jtag := t.jtag }) ∧
  (∀ (s : State) (hp : HostPort),
    s.listens hp = true →
    Next (.transactionAbort hp .badLength) s fun t =>
      t.host.ports[hp.idx].status = statusWord stFORMAT 0 0 ∧ t.host.orders = s.host.orders ∧ t.host.txns = s.host.txns ∧
      t.get HST_LASTERR.CODE = stFORMAT ∧ t.get HST_LASTERR.PORT = hp.num ∧
      s.regsBut t [HST_LASTERR.at] ∧ t = { s with regs := t.regs, host := t.host }) ∧
  (∀ (s : State) (hp : HostPort) (kind : AbortKind),
    kind ≠ .badLength →
    Next (.transactionAbort hp kind) s fun t =>
      t.host.ports = s.host.ports ∧ t.host.orders = s.host.orders ∧ t.host.txns = s.host.txns ∧ t = { s with host := t.host }) ∧
  (∀ (s : State) (o : Order) (x : Txn),
    s.host.orders = [o] →
    s.host.txns = [x] →
    x.id = o.txn →
    x.undecided = 1 →
    x.opsLeft = 0 →
    x.words = [(o.addr, o.val)] →
    s.islandUp islRidge = true →
    s.outage = false →
    s.ridge.window = [] →
    Next .orderGroupClose s fun t =>
      t.host.orders = [] ∧ t.host.txns = [{ x with undecided := 0, opsLeft := 1 }] ∧
      t.ridge.window.length = 1 ∧ t.ridge.window.all (fun p => p.reg == some (o.addr, o.val) && p.txn == some x.id && p.hp == some x.hp && p.cls == opClass o.addr && !p.tent) ∧
      t.regs = s.regs ∧ t = { s with host := { s.host with orders := [], txns := t.host.txns }, ridge := { s.ridge with window := t.ridge.window, lastTag := t.ridge.lastTag } }) ∧
  (∀ s : State, s.host.orders = [] → Next .orderGroupClose s fun t => t = s) ∧
  (∀ (s : State) (hp : HostPort),
    s.takes hp HST_CMD.at 0x48000001 →
    Next (.hstCmdClrcnt hp 0x48) s fun t =>
      t.rd HST_CNT0.at = 0 ∧ t.rd HST_CNT1.at = 0 ∧ s.hostSays t hp stOK 0 0 ∧
      s.passOp.regsBut t [HST_CNT0.at, HST_CNT1.at, HST_LASTERR.at] ∧ t = { s.passOp with regs := t.regs, host := t.host }) ∧
  (∀ (s u : State) (hp : HostPort),
    s.accepts hp [(HST_CMD.at, 0x48000001)] →
    s.islandUp islRidge = true →
    s.pushAll (s.opsFor hp [(HST_CMD.at, 0x48000001)]) = some u →
    s.commitsAtOnce (s.opsFor hp [(HST_CMD.at, 0x48000001)]) = false →
    Next (.hstCmdClrcnt hp 0x48) s fun t =>
      t.ridge = u.ridge ∧ t.ridge.window.length = s.ridge.window.length + 1 ∧
      t.host.txns = s.host.txns ++ [{ id := s.host.nextTxn, hp := hp, guard := none, words := [(HST_CMD.at, 0x48000001)], undecided := 0, opsLeft := 1, leader := none }] ∧
      t.host.ports[hp.idx].status = statusWord stPENDING 0 0 ∧ t.regs = s.regs ∧ t = { s with host := t.host, ridge := t.ridge }) ∧
  (∀ (s : State) (hp : HostPort),
    s.accepts hp [(HST_CMD.at, 0x48000001)] →
    s.islandUp islRidge = false →
    Next (.hstCmdClrcnt hp 0x48) s fun t =>
      s.hostSays t hp stBUSY 0 0 ∧ s.regsBut t [HST_LASTERR.at] ∧ t = { s with regs := t.regs, host := t.host })

/-- The operation window and the apply queue (R26, R164, R167 to R170, R172 to R175, R186, R190): an op entering, waiting or finding no room, a slot that
commits a single op, one that ends a host write, the application of an op, staging, the answer to a Request, a lifetime limit, a named cancel and the clearing
of the counts. The model's choices in it: assumption log 6, 8, 88, 89, 115 and 139. -/
def Obligations.WindowAndApplyQueue : Prop :=
  (∀ (s : State) (src : BitVec 4) (port : BitVec 5) (cls sub : BitVec 4) (arg : BitVec 28) (tag : Nat),
    1 ≤ src.toNat →
    src.toNat ≤ 9 →
    port.toNat ≤ 16 →
    cls.toNat ≤ 8 →
    s.ridgeRuns = true →
    (4 ≤ src.toNat → waitsBehind s.ridge.waiting (enteringOp src.toNat port.toNat cls.toNat sub.toNat arg.toNat) = false) →
    hasRoom s.ridge.window (enteringOp src.toNat port.toNat cls.toNat sub.toNat arg.toNat) = true →
    freeTag s.ridge.window s.ridge.lastTag 256 = some tag →
    Next (.opEnter src port cls sub arg) s fun t =>
      t.ridge.window = s.ridge.window ++ [{ enteringOp src.toNat port.toNat cls.toNat sub.toNat arg.toNat with tag := tag, at_us := s.soffit.uptime }] ∧
      t.ridge.lastTag = tag ∧ t = { s with ridge := { s.ridge with window := t.ridge.window, lastTag := t.ridge.lastTag } }) ∧
  (∀ (s : State) (src : BitVec 4) (port : BitVec 5) (cls sub : BitVec 4) (arg : BitVec 28),
    1 ≤ src.toNat →
    src.toNat ≤ 3 →
    port.toNat ≤ 16 →
    cls.toNat ≤ 8 →
    hasRoom s.ridge.window (enteringOp src.toNat port.toNat cls.toNat sub.toNat arg.toNat) = false →
    Next (.opEnter src port cls sub arg) s fun t => t = s) ∧
  (∀ (s : State) (src : BitVec 4) (port : BitVec 5) (cls sub : BitVec 4) (arg : BitVec 28),
    4 ≤ src.toNat →
    src.toNat ≤ 9 →
    port.toNat ≤ 16 →
    cls.toNat ≤ 8 →
    s.ridgeRuns = true →
    hasRoom s.ridge.window (enteringOp src.toNat port.toNat cls.toNat sub.toNat arg.toNat) = false →
    s.waitingOf src.toNat < 16 →
    Next (.opEnter src port cls sub arg) s fun t =>
      t = { s with ridge := { s.ridge with waiting := s.ridge.waiting ++ [enteringOp src.toNat port.toNat cls.toNat sub.toNat arg.toNat] } }) ∧
  (∀ (s : State) (src : BitVec 4) (port : BitVec 5) (cls sub : BitVec 4) (arg : BitVec 28),
    6 ≤ src.toNat →
    src.toNat ≤ 9 →
    port.toNat ≤ 16 →
    cls.toNat ≤ 8 →
    s.ridgeRuns = true →
    hasRoom s.ridge.window (enteringOp src.toNat port.toNat cls.toNat sub.toNat arg.toNat) = false →
    16 ≤ s.waitingOf src.toNat →
    Next (.opEnter src port cls sub arg) s fun t =>
      t.get RDG_CNT1.DROP = min (s.get RDG_CNT1.DROP + 1) (2 ^ RDG_CNT1.DROP.w - 1) ∧ t.bat = (s.fire 0x119).bat ∧
      s.regsBut t [RDG_CNT1.at] ∧ t = { s with regs := t.regs, bat := t.bat }) ∧
  (∀ (s : State) (o : Op) (n : Fin 16),
    s.ridgeRuns = true →
    s.ridge.window = [o] →
    s.ridge.waiting = [] →
    s.slotClean →
    cellGet s.staged RDG_CFG.at = none →
    o.tent = false →
    o.reg = none →
    o.cls = clsSW →
    o.sub < 7 →
    o.port = n.val →
    s.portUp n = true →
    s.ports[n].faultPath = false →
    s.cc n ≠ ccErrorRecovery →
    Next (.commitSlot false) s fun t =>
      t.ridge.window = [] ∧ t.ports[n].applyQ = s.ports[n].applyQ ++ [o] ∧
      t.get RDG_CNT0.COMMITTED = (s.get RDG_CNT0.COMMITTED + 1) % 2 ^ RDG_CNT0.COMMITTED.w ∧ t.get RDG_SLOTS.SLOTS = (s.get RDG_SLOTS.SLOTS + 1) % 2 ^ RDG_SLOTS.SLOTS.w ∧
      s.portsBut t [n] ∧ s.regsBut t [RDG_CNT0.at, RDG_SLOTS.at] ∧
      t = { s with regs := t.regs, ridge := { s.ridge with window := [], vconn := [] }, ports := t.ports }) ∧
  (∀ (s : State) (o : Op) (n : Fin 16),
    s.ridgeRuns = true →
    s.ridge.window = [o] →
    s.ridge.waiting = [] →
    s.slotClean →
    cellGet s.staged RDG_CFG.at = none →
    o.tent = false →
    o.reg = none →
    o.cls = clsSETP ∨ o.cls = clsLIM ∨ o.cls = clsSW ∧ o.sub < 7 →
    o.port = n.val →
    s.ports[n].faultPath = true ∨ s.cc n = ccErrorRecovery →
    Next (.commitSlot false) s fun t =>
      t.ports = s.ports ∧ s.regsBut t [RDG_CNT0.at, RDG_SLOTS.at] ∧
      t = { s with regs := t.regs, ridge := { s.ridge with window := [], vconn := [] } }) ∧
  (∀ (s : State) (o : Op) (x : Txn) (v : Word) (hp : HostPort),
    s.ridgeRuns = true →
    s.ridge.window = [o] →
    s.ridge.waiting = [] →
    s.slotClean →
    cellGet s.staged RDG_CFG.at = none →
    o.tent = false →
    o.port = 16 →
    o.cls = clsCFG →
    o.reg = some (GLB_BOOTCTL.at, v) →
    o.hp = some hp →
    o.txn = some x.id →
    s.host.txns = [x] →
    x.hp = hp →
    x.guard = none →
    x.leader = none →
    x.words = [(GLB_BOOTCTL.at, v)] →
    x.opsLeft = 1 →
    Next (.commitSlot false) s fun t =>
      t.ridge.window = [] ∧ t.host.txns = [] ∧ t.host.ports[hp.idx].status = statusWord stOK 0 0 ∧
      t.get GLB_BOOTCTL.HOLDPORTS = GLB_BOOTCTL.HOLDPORTS.of v ∧ t.get GLB_BOOTCTL.DORMERNEXT = GLB_BOOTCTL.DORMERNEXT.of v ∧
      s.regsBut t [GLB_BOOTCTL.at, RDG_CNT0.at, RDG_SLOTS.at] ∧
      t = { s with regs := t.regs, staged := t.staged, ridge := { s.ridge with window := [], vconn := [] }, host := t.host }) ∧
  (∀ (s : State) (n : Fin 16) (o : Op) (rest : List Op),
    s.ports[n].applyQ = o :: rest →
    s.halted n.val = false →
    o.cls = clsSW →
    o.sub = 5 →
    Next (.opApply n) s fun t =>
      t.ports[n].applyQ = rest ∧ t.stageOn n = false ∧ t.get (PLP_STATUS.REGION n) = 3 ∧ s.portsBut t [n] ∧
      s.regsKept t (fun a => a == PLP_STATUS.at n || inSlices a) ∧
      t = { s with regs := t.regs, staged := t.staged, ports := t.ports, slices := t.slices }) ∧
  (∀ (s : State) (n : Fin 16) (o : Op) (rest : List Op),
    s.ports[n].applyQ = o :: rest →
    s.halted n.val = false →
    o.cls = clsSETP ∨ o.cls = clsLIM →
    (s.pd n).trans.any (fun w => !w.applied) = true →
    Next (.opApply n) s fun t => t = s) ∧
  (∀ (s : State) (n : Fin 16),
    s.ridgeRuns = true →
    s.portUp n = true →
    s.halted n.val = false →
    Next (.stagingComplete n) s fun t =>
      (t.tentOf n).all (fun o => o.cls == clsTRUSS || o.staged) = true ∧ t.ridge.window.length = s.ridge.window.length ∧
      s.portsBut t [n] ∧ s.regsBut t [PLP_STATUS.at n] ∧ t = { s with regs := t.regs, ports := t.ports, ridge := { s.ridge with window := t.ridge.window } }) ∧
  (∀ (s : State) (n : Fin 16) (rdo copy : Word) (epr : Bool) (o : Op),
    (s.pd n).reqRdo = some (rdo, copy, epr) →
    s.pstate n = 4 →
    s.ridgeRuns = true →
    ((s.opsOf n.val).filter Op.isEval).getLast? = some o →
    Next (.requestEvaluated n) s fun t =>
      t.ridge.window = s.ridge.window.map (fun q => if q.tag == o.tag then
        { q with answer := some (if s.swHeld n then .wait else if s.rejectCode n rdo copy epr = 0 then .accept else .reject (s.rejectCode n rdo copy epr)) } else q) ∧
      t = { s with ridge := { s.ridge with window := t.ridge.window } }) ∧
  (∀ (s : State) (tag : Byte),
    s.ridgeRuns = true →
    (s.opAt tag.toNat).any Op.tent = true →
    Next (.specTimeout tag) s fun t =>
      t.ridge.window = s.ridge.window.filter (fun o => !(o.tent && (o.tag == tag.toNat || (o.pv && o.pred == tag.toNat)))) ∧
      t.bat = (s.fire 0x11D tag.toNat).bat ∧ (t.opAt tag.toNat).any Op.tent = false ∧ s.farKept t) ∧
  (∀ (s : State) (hp : HostPort) (tag : Byte),
    s.takes hp RDG_CMD.at (rdgCmdWord 0xA5 (256 + tag.toNat)) →
    s.ridge.window.any (fun o => o.tent && o.tag == tag.toNat) = true →
    Next (.cancel hp 0xA5 tag) s fun t =>
      t.ridge.window = s.ridge.window.filter (fun o => !(o.tent && (o.tag == tag.toNat || (o.pv && o.pred == tag.toNat)))) ∧
      t.ridge.cancels = [] ∧ t.get RDG_CNT1.LATE = s.get RDG_CNT1.LATE ∧ s.hostSays t hp stOK 0 0 ∧ s.farButHost t) ∧
  (∀ (s : State) (hp : HostPort) (tag : Byte),
    s.takes hp RDG_CMD.at (rdgCmdWord 0xA5 (256 + tag.toNat)) →
    s.ridge.window.any (fun o => o.tent && o.tag == tag.toNat) = false →
    Next (.cancel hp 0xA5 tag) s fun t =>
      t.ridge.window = s.ridge.window ∧ t.get RDG_CNT1.LATE = min (s.get RDG_CNT1.LATE + 1) (2 ^ RDG_CNT1.LATE.w - 1) ∧
      t.bat = (s.fire 0x118 tag.toNat).bat ∧ s.hostSays t hp stOK 0 0 ∧
      s.passOp.regsBut t [RDG_CNT1.at] ∧ t = { s.passOp with regs := t.regs, host := t.host, bat := t.bat }) ∧
  (∀ (s : State) (hp : HostPort),
    s.takes hp RDG_CMD.at 0xA5000200 →
    Next (.clrcnt hp 0xA5) s fun t =>
      t.rd RDG_CNT0.at = 0 ∧ t.rd RDG_CNT1.at = 0 ∧ s.hostSays t hp stOK 0 0 ∧
      s.regsBut t [RDG_CNT0.at, RDG_CNT1.at] ∧ t = { s.passOp with regs := t.regs, host := t.host })

/-- Truss, re-offers and the predictor (R178, R180 to R184), and each of the window's own rows completing on a window of one op (R164, R165, R168, R169, R174,
R175, R186). The model's choices in it: assumption log 8, 48, 88, 89, 105 and 156. -/
def Obligations.BudgetOffersAndPredictor : Prop :=
  (∀ (s : State) (hp : HostPort) (watts : BitVec 16),
    s.takes hp TRS_BUDGET.at (BitVec.ofNat 32 watts.toNat) →
    s.floorSum ≤ watts.toNat →
    Next (.budgetWrite hp watts) s fun t =>
      t.get TRS_BUDGET.BUDGET = watts.toNat ∧ s.hostSays t hp stOK 0 0 ∧
      (s.bit TRS_STAT.CHAIN = false → s.ridge.cut = none → t.effBudget = watts.toNat) ∧
      (0 ≤ t.trussFree ↔ t.get TRS_STAT.DEFICIT = 0) ∧
      t.slices = s.slices ∧ t.otp = s.otp ∧ t.mtr = s.mtr ∧ t.pending = s.pending) ∧
  (∀ (s : State) (hp : HostPort) (watts : BitVec 16),
    s.takes hp TRS_BUDGET.at (BitVec.ofNat 32 watts.toNat) →
    watts.toNat < s.floorSum →
    Next (.budgetWrite hp watts) s fun t =>
      t.host.ports[hp.idx].status = statusWord stVALREF 0 0 ∧ s.passOp.regsBut t [HST_LASTERR.at] ∧ t = { s.passOp with regs := t.regs, host := t.host }) ∧
  (∀ (s : State) (n : Fin 16),
    s.ridgeRuns = true →
    s.portUp n = true →
    (s.get RDG_REOFFER.PORT).testBit n.val = true →
    s.isSource n = true →
    s.pstate n = 6 →
    s.amsBusy n = false →
    s.swHeld n = false →
    s.ports[n].reofferAt = none →
    Next (.reoffer n) s fun t =>
      (t.get RDG_REOFFER.PORT).testBit n.val = false ∧
      ((s.compose n).offerObjs n ≠ s.offerObjs n → t.ports[n].reofferAt = some s.now ∧ (t.amsBusy n = true ∨ t.pstate n = 3)) ∧
      ((s.compose n).offerObjs n = s.offerObjs n → t.ports[n] = s.ports[n]) ∧
      s.portsBut t [n] ∧ t.slices = s.slices ∧ t.host = s.host ∧ t.ridge = s.ridge ∧ t.otp = s.otp ∧ t.pending = s.pending) ∧
  (∀ (s : State) (n : Fin 16),
    (s.get RDG_REOFFER.PORT).testBit n.val = false →
    Next (.reofferPeriodEnd n) s fun t =>
      t.ports[n] = { s.ports[n] with reofferAt := none } ∧ s.portsBut t [n] ∧ t = { s with ports := t.ports }) ∧
  (∀ (s : State) (n : Fin 16),
    s.ridgeRuns = true →
    s.bit TRS_STAT.DEFICIT = true →
    s.deficitReady n = true →
    s.deficitTurn n = true →
    Next (.deficitOffer n) s fun t =>
      (t.ports[n].deficitDue = 2 ∨ t.ports[n].deficitDue = 0 ∧ t.pstate n = 3) ∧
      (s.pstate n = 6 → s.amsBusy n = false → t.amsBusy n = true ∨ t.pstate n = 3) ∧
      (s.pstate n ≠ 6 → s.pstate n ≠ 19 → t.ports[n] = { s.ports[n] with deficitDue := 2, pd := { (s.pd n) with offerDue := true } }) ∧
      s.portsBut t [n] ∧ t.slices = s.slices ∧ t.host = s.host ∧ t.ridge = s.ridge ∧ t.otp = s.otp ∧ t.pending = s.pending) ∧
  (∀ (s : State) (n : Fin 16) (w : Transition),
    s.mayPredict n = true →
    s.predicted n = some w →
    s.ridge.waiting = [] →
    s.ridge.window = [] →
    Next (.predictorStage n) s fun t =>
      (t.pd n).predTags = t.ridge.window.map Op.tag ∧ (t.pd n).predV = w.v10 ∧
      t.ridge.window.length = (if s.holdable n w.power then 3 else 2) ∧
      t.ridge.window.all (fun o => o.tent && o.predictor && o.port == n.val && (o.cls == clsSETP || o.cls == clsLIM || o.cls == clsTRUSS)) = true ∧
      s.portsBut t [n] ∧ t.regs = s.regs ∧ t = { s with ports := t.ports, ridge := { s.ridge with window := t.ridge.window, lastTag := t.ridge.lastTag } }) ∧
  (∀ (s : State) (n : Fin 16),
    s.ridgeRuns = true →
    (s.pd n).predTags ≠ [] →
    Next (.predictorMiss n) s fun t =>
      (t.pd n).predTags = [] ∧ (t.pd n).missRow = (s.pd n).missRow + 1 ∧
      t.ridge.window.any (fun o => o.predicts n && (s.pd n).predTags.contains o.tag) = false ∧
      t.get (RDG_PRED.MISSES n) = min (s.get (RDG_PRED.MISSES n) + 1) (2 ^ (RDG_PRED.MISSES n).w - 1) ∧
      (3 ≤ (s.pd n).missRow + 1 → t.get (RDG_PRED.STOPPED n) = 1) ∧
      t.host = s.host ∧ t.slices = s.slices ∧ t.otp = s.otp ∧ t.pending = s.pending) ∧
  (∀ (s : State) (src : BitVec 4) (port : BitVec 5) (cls sub : BitVec 4) (arg : BitVec 28),
    1 ≤ src.toNat →
    src.toNat ≤ 9 →
    port.toNat ≤ 16 →
    cls.toNat ≤ 8 →
    s.ridgeRuns = true →
    s.ridge.window = [] →
    s.ridge.waiting = [] →
    Next (.opEnter src port cls sub arg) s fun t =>
      t.ridge.window.length = 1 ∧ t.ridge.window.all (fun o => o.src == src.toNat && o.port == port.toNat && o.cls == cls.toNat && o.sub == sub.toNat &&
        o.arg == arg.toNat && o.at_us == s.now && !o.tent) = true ∧ t.ridge.waiting = [] ∧ t.regs = s.regs ∧ t.ports = s.ports) ∧
  (∀ (s : State) (o : Op) (n : Fin 16),
    s.ridgeRuns = true →
    s.ridge.window = [o] →
    s.ridge.waiting = [] →
    s.slotClean →
    cellGet s.staged RDG_CFG.at = none →
    o.tent = false →
    o.reg = none →
    o.cls = clsSETP →
    o.port = n.val →
    s.portUp n = true →
    s.ports[n].faultPath = false →
    s.cc n ≠ ccErrorRecovery →
    Next (.commitSlot false) s fun t =>
      t.ridge.window = [] ∧ t.ports[n].applyQ = s.ports[n].applyQ ++ [o] ∧ t.get RDG_SLOTS.SLOTS = (s.get RDG_SLOTS.SLOTS + 1) % 2 ^ RDG_SLOTS.SLOTS.w ∧
      s.portsBut t [n] ∧ s.regsBut t [RDG_CNT0.at, RDG_SLOTS.at]) ∧
  (∀ (s : State) (n : Fin 16) (o : Op) (rest : List Op),
    s.ports[n].applyQ = o :: rest →
    s.halted n.val = false →
    o.cls = clsSETP →
    (s.pd n).trans = none →
    Next (.opApply n) s fun t =>
      t.ports[n].applyQ = rest ∧ t.ports[n].loop.target = setpV o.arg * tenMv ∧ t.ports[n].loop.ilim = setpI o.arg ∧ t.get (PLP_STATUS.SETTLED n) = 0 ∧
      s.portsBut t [n] ∧ s.regsKept t (inPort n) ∧ t = { s with regs := t.regs, ports := t.ports, bat := t.bat }) ∧
  (∀ (s : State) (n : Fin 16) (o : Op),
    s.ridgeRuns = true →
    s.portUp n = true →
    s.halted n.val = false →
    s.ridge.window = [o] →
    o.port = n.val →
    o.tent = true →
    o.cls = clsLIM →
    Next (.stagingComplete n) s fun t =>
      t.ridge.window = [{ o with staged := true }] ∧ t.ports[n].armed = some { fuseIdx := limIdx o.arg, iref := setpI o.arg } ∧
      s.portsBut t [n] ∧ t.slices = s.slices ∧ t.host = s.host) ∧
  (∀ (s : State) (n : Fin 16) (rdo copy : Word) (epr : Bool) (o : Op),
    s.ridgeRuns = true →
    s.pstate n = 4 →
    (s.pd n).reqRdo = some (rdo, copy, epr) →
    s.ridge.window = [o] →
    o.port = n.val →
    o.isEval = true →
    s.swHeld n = false →
    Next (.requestEvaluated n) s fun t =>
      t.ridge.window = [{ o with answer := some (if s.rejectCode n rdo copy epr = 0 then .accept else .reject (s.rejectCode n rdo copy epr)) }] ∧
      t.regs = s.regs ∧ t.ports = s.ports) ∧
  (∀ (s : State) (o : Op),
    s.ridgeRuns = true →
    s.ridge.window = [o] →
    o.tent = true →
    o.tag < 256 →
    Next (.specTimeout (BitVec.ofNat 8 o.tag)) s fun t =>
      t.ridge.window = [] ∧ t.bat = (s.fire 0x11D o.tag).bat ∧
      t.get RDG_CNT1.CANCEL = (s.get RDG_CNT1.CANCEL + 1) % 2 ^ RDG_CNT1.CANCEL.w ∧ t.host = s.host) ∧
  (∀ (s : State) (hp : HostPort) (o : Op),
    s.takes hp RDG_CMD.at (rdgCmdWord 0xA5 (256 + o.tag)) →
    s.ridge.window = [o] →
    o.tent = true →
    o.tag < 256 →
    Next (.cancel hp 0xA5 (BitVec.ofNat 8 o.tag)) s fun t =>
      t.ridge.window = [] ∧ s.hostSays t hp stOK 0 0) ∧
  (∀ (s : State) (hp : HostPort),
    s.takes hp RDG_CMD.at 0xA5000200 →
    Next (.clrcnt hp 0xA5) s fun t =>
      t.rd RDG_CNT0.at = 0 ∧ t.rd RDG_CNT1.at = 0 ∧ t.ports = s.ports ∧ s.hostSays t hp stOK 0 0)

/-- The I2C and CAN FD ports (R351, R352, R354, R356 to R360, R340): clash, timeout, requests with their answers and repetitions, acknowledgments,
error states, recovery and wake. The model's choices in it: assumption log 5, 93 and 94. -/
def Obligations.I2cAndCan : Prop :=
  (∀ (s : State) (offset : BitVec 16),
    s.listens .i2c = true →
    Next (.i2cClash offset) s fun t =>
      t.get HST_STAT.I2C_CLASH = 1 ∧ t.get HST_CNT0.CLASH = min (s.get HST_CNT0.CLASH + 1) (2 ^ HST_CNT0.CLASH.w - 1) ∧
      t.get HST_LASTERR.CODE = stCLASH ∧ t.get HST_LASTERR.PORT = 2 ∧ t.host.ports[HostPort.i2c.idx].status.toNat % 256 = stCLASH ∧
      t.host.orders = s.host.orders ∧ t.host.txns = s.host.txns ∧ t.host.i2cPointer = s.host.i2cPointer ∧
      s.regsKept t (fun a => a == HST_STAT.at || a == HST_CNT0.at || a == HST_LASTERR.at || within 0x5000 0x8000 a) ∧
      t = { s with regs := t.regs, host := t.host, bat := t.bat }) ∧
  (∀ s : State,
    s.listens .i2c = true →
    s.bit HST_CFG.I2CTOEN = true →
    Next .i2cTimeout s fun t =>
      t.get HST_STAT.I2CTO = 1 ∧ t.get HST_CNT1.I2CTO = min (s.get HST_CNT1.I2CTO + 1) (2 ^ HST_CNT1.I2CTO.w - 1) ∧
      s.regsBut t [HST_STAT.at, HST_CNT1.at] ∧ t = { s with regs := t.regs, host := { s.host with i2cPointer := none } }) ∧
  (∀ (s : State) (f : CanFrame),
    s.canOn = true →
    s.host.canLast = none →
    s.host.canHeld.length < 4 →
    f.op = 0 →
    s.judgeRead .can f.addr.toNat f.count = (stOK, 0, f.addr.toNat) →
    Next (.canRequest f) s fun t =>
      t.host.canHeld = s.host.canHeld ++ [{ frame := f, txn := none, resp := some (statusWord stOK 0 (s.genOf f.addr.toNat), (s.readWords .can (wordAddrs f.addr.toNat f.count)).1) }] ∧
      t.host.canLast = some (f, s.now, none) ∧ t.regs = s.regs ∧ t = { s with freeCtr := t.freeCtr, host := t.host }) ∧
  (∀ (s : State) (f : CanFrame),
    s.canOn = true →
    s.host.canLast = none →
    s.host.canHeld.length < 4 →
    f.op = 1 →
    f.count = f.data.length →
    s.judgeWrite .can none (targets f.addr.toNat f.data) = (stOK, 0, 0) →
    Next (.canRequest f) s fun t =>
      t.host.canHeld = s.host.canHeld ++ [{ frame := f, txn := some s.host.nextTxn, resp := none }] ∧
      t.host.orders = s.host.orders ++ (targets f.addr.toNat f.data).map (wordOrder .can s.host.nextTxn (s.grant .can) s.soffit.usec) ∧
      t.host.ports[HostPort.can.idx].status = statusWord stPENDING 0 0 ∧ t.regs = s.regs ∧ t = { s with host := t.host }) ∧
  (∀ (s : State) (f : CanFrame) (at_us : Nat) (r : Word × List Word),
    s.canOn = true →
    s.host.canLast = some (f, at_us, some r) →
    s.now ≤ at_us + 1000000 →
    Next (.canRequest f) s fun t =>
      t.host = { s.host with canResend := s.host.canResend ++ [r] } ∧
      t.get HST_CNT1.CANDUP = min (s.get HST_CNT1.CANDUP + 1) (2 ^ HST_CNT1.CANDUP.w - 1) ∧
      s.regsBut t [HST_CNT1.at] ∧ t = { s with regs := t.regs, host := t.host }) ∧
  (∀ (s : State) (r : Word × List Word) (rest : List (Word × List Word)),
    s.canOn = true →
    s.host.canResend = r :: rest →
    Next .canFrameAcknowledged s fun t => t = { s with host := { s.host with canResend := rest } }) ∧
  (∀ s : State,
    s.canOn = true →
    s.host.canResend = [] →
    s.host.canHeld = [] →
    Next .canFrameAcknowledged s fun t => t = { s with host := { s.host with canEvents := s.host.canEvents.drop 1 } }) ∧
  (∀ (s : State) (busOff : Bool) (tec rec : Byte) (lec : BitVec 3),
    s.islandUp islHost = true →
    s.bit HST_CANCTL.EN = true →
    s.bit HST_CANCTL.SLEEP = false →
    s.get HST_CANSTAT.STATE ≠ (if busOff then 2 else 1) →
    Next (.canErrorState busOff tec rec lec) s fun t =>
      t.get HST_CANSTAT.STATE = (if busOff then 2 else 1) ∧ t.get HST_CANSTAT.TEC = tec.toNat ∧ t.get HST_CANSTAT.REC = rec.toNat ∧
      t.get HST_CANSTAT.LEC = lec.toNat ∧ t.bat = (s.fire 0x133 (if busOff then 2 else 1)).bat ∧
      s.regsBut t [HST_CANSTAT.at] ∧ t = { s with regs := t.regs, bat := t.bat }) ∧
  (∀ s : State,
    s.islandUp islHost = true →
    s.get HST_CANSTAT.STATE = 2 →
    Next .canBusoffRecovery s fun t =>
      t.get HST_CANSTAT.STATE = 0 ∧ t.get HST_CANSTAT.TEC = 0 ∧ t.get HST_CANSTAT.REC = 0 ∧
      s.regsBut t [HST_CANSTAT.at] ∧ t = { s with regs := t.regs }) ∧
  (∀ (s : State) (id : BitVec 29),
    s.islandUp islHost = true →
    s.bit HST_CANCTL.WAKEEN = true →
    s.bit HST_CANCTL.SLEEP = true →
    id.toNat &&& s.get HST_CANWMASK.MASK = s.get HST_CANWAKE.WAKEID &&& s.get HST_CANWMASK.MASK →
    Next (.canWakeFrame id) s fun t =>
      t.get SOF_WAKE_STAT.CANWAKE = 1 ∧ (s.get SOF_WAKE_STAT.CANWAKE = 0 → t.bat = (s.fire 0x108).bat) ∧
      s.regsBut t [SOF_WAKE_STAT.at] ∧ t = { s with regs := t.regs, bat := t.bat }) ∧
  (∀ (s : State) (id : BitVec 29) (w m : Nat),
    s.islandUp islHost = false →
    s.soffit.wake = some (w, m) →
    id.toNat &&& m = w &&& m →
    Next (.canWakeFrame id) s fun t =>
      t.get SOF_WAKE_STAT.CANWAKE = 1 ∧ s.regsBut t [SOF_WAKE_STAT.at] ∧ t = { s with regs := t.regs, bat := t.bat })

/-- The edit buffer and the Thatch operations' beginning and end before a commit (R80, R84 to R87, R94). The model's choices in it: assumption log 85, 86,
125, 127 and 128. -/
def Obligations.ThatchEdits : Prop :=
  (∀ (s : State) (hp : HostPort),
    s.takes hp THA_EDCLAIM.at 1 →
    s.bit THA_EDCLAIM.CLAIM = false →
    Next (.thaEdclaimClaim hp) s fun t =>
      t.get THA_EDCLAIM.CLAIM = 1 ∧ t.get THA_EDCLAIM.OWNER = hp.num ∧ (∀ i : Fin 3072, t.rd (0x5C000 + 4 * i.val) = 0) ∧
      s.hostSays t hp stOK 0 0 ∧ s.passOp.regsKept t (fun a => a == THA_EDCLAIM.at || isEdit a) ∧
      t = { s.passOp with regs := t.regs, staged := t.staged, host := t.host }) ∧
  (∀ (s : State) (hp : HostPort),
    s.takes hp THA_EDCLAIM.at 1 →
    s.bit THA_EDCLAIM.CLAIM = true →
    s.get THA_EDCLAIM.OWNER ≠ hp.num →
    Next (.thaEdclaimClaim hp) s fun t => s.hostSays t hp stOK 0 0 ∧ t = { s.passOp with host := t.host }) ∧
  (∀ (s : State) (hp : HostPort),
    s.takes hp THA_EDCLAIM.at 0 →
    s.bit THA_EDCLAIM.CLAIM = true →
    s.get THA_EDCLAIM.OWNER = hp.num →
    Next (.thaEdclaimRelease hp) s fun t =>
      t.get THA_EDCLAIM.CLAIM = 0 ∧ t.get THA_EDCLAIM.OWNER = 0 ∧ s.hostSays t hp stOK 0 0 ∧
      s.passOp.regsBut t [THA_EDCLAIM.at] ∧ t = { s.passOp with regs := t.regs, host := t.host }) ∧
  (∀ s : State,
    Next .editClaimLapse s fun t =>
      t.get THA_EDCLAIM.CLAIM = 0 ∧ t.get THA_EDCLAIM.OWNER = 0 ∧ s.regsBut t [THA_EDCLAIM.at] ∧ t = { s with regs := t.regs }) ∧
  (∀ (s : State) (hp : HostPort) (word : Fin 3072) (ws : List Word),
    s.takesAll hp (editTargets word.val ws) →
    Next (.editBufferWrite hp word ws) s fun t =>
      (∀ i : Fin ws.length, t.rd (0x5C000 + 4 * (word.val + i.val)) = ws[i]) ∧ s.hostSays t hp stOK 0 0 ∧
      (s.passOps (editTargets word.val ws)).regsKept t (fun a => within (0x5C000 + 4 * word.val) (0x5C000 + 4 * (word.val + ws.length)) a) ∧
      t = { s.passOps (editTargets word.val ws) with regs := t.regs, host := t.host }) ∧
  (∀ (s : State) (hp : HostPort),
    s.takes hp THA_SRCTL.at (srWord 0xC3 1 0) →
    Next (.liveApply hp 0xC3) s fun t =>
      t.get THA_SRSTAT.PHASE = 1 ∧ t.get THA_SRSTAT.RESULT = 0 ∧ t.get THA_SRSTAT.CHECK = 0 ∧
      t.tha.op = some { live := true, func := 0, hp := hp, ports := [], edits := s.editWords, since := s.now } ∧
      s.hostSays t hp stOK 0 0 ∧ s.passOp.regsBut t [THA_SRSTAT.at] ∧
      t = { s.passOp with regs := t.regs, host := t.host, tha := { s.tha with op := t.tha.op } }) ∧
  (∀ (s : State) (hp : HostPort) (func : BitVec 5),
    s.takes hp THA_SRCTL.at (srWord 0xC3 2 func.toNat) →
    func.toNat ≤ 17 →
    Next (.stripAndRelay hp 0xC3 func) s fun t =>
      t.get THA_SRSTAT.PHASE = 1 ∧ t.get THA_SRSTAT.FUNC = func.toNat ∧ t.get THA_SRSTAT.RESULT = 0 ∧ t.get THA_SRSTAT.CHECK = 0 ∧
      t.tha.op = some { live := false, func := func.toNat, hp := hp, ports := [], edits := s.editWords, since := s.now } ∧
      s.hostSays t hp stOK 0 0 ∧ s.passOp.regsBut t [THA_SRSTAT.at] ∧
      t = { s.passOp with regs := t.regs, host := t.host, tha := { s.tha with op := t.tha.op } }) ∧
  (∀ (s : State) (hp : HostPort),
    s.takes hp THA_SRCTL.at (srWord 0xC3 3 0) →
    s.get THA_SRSTAT.PHASE = 1 ∨ s.get THA_SRSTAT.PHASE = 2 →
    Next (.srCancel hp 0xC3) s fun t =>
      t.get THA_SRSTAT.PHASE = 0 ∧ t.get THA_SRSTAT.RESULT = 7 ∧ t.tha.op = none ∧ t.bat = (s.fire 0x113).bat ∧
      t.ridge.window.any (fun o => o.cls == clsCFG && o.reg.isNone) = false ∧ s.hostSays t hp stOK 0 0 ∧ s.passOp.regsBut t [THA_SRSTAT.at] ∧
      t = { s.passOp with regs := t.regs, host := t.host, bat := t.bat, ridge := t.ridge, tha := { s.tha with op := none } })

/-- The phases of a Thatch operation and the scrubber (R84, R87, R91, R92, R94, R95, R454). The model's choices in it: assumption log 86 and 87. -/
def Obligations.ThatchOperations : Prop :=
  (∀ (s : State) (o : SrOp),
    s.tha.op = some o →
    s.get THA_SRSTAT.PHASE = 1 →
    s.islandUp islRidge = true →
    Next .validateDone s fun t =>
      (s.editCheck o ≠ 0 → t.get THA_SRSTAT.PHASE = 0 ∧ t.get THA_SRSTAT.RESULT = 3 ∧ t.get THA_SRSTAT.CHECK = s.editCheck o ∧
        t.tha.op = none ∧ t.bat = (s.fire 0x113).bat) ∧
      (s.editCheck o = 0 → t.get THA_SRSTAT.PHASE = 2 ∧ t.tha.op.isSome = true ∧ t.rd THA_GEN.at = s.rd THA_GEN.at) ∧
      t.running = s.running ∧ t.host = s.host ∧ t.slices = s.slices ∧ t.otp = s.otp ∧ t.pending = s.pending) ∧
  (∀ (s : State) (o : SrOp),
    s.tha.op = some o →
    s.get THA_SRSTAT.PHASE = 4 →
    s.islandUp islRidge = true →
    s.tha.passDue = false →
    s.tha.strips = [] →
    o.func < 16 →
    o.live = false →
    (portList o.ports).all s.vbusGone = true →
    Next .srChange s fun t =>
      t.get THA_SRSTAT.PHASE = 5 ∧ t.running = applyEdits s.running (editRecs o.edits).recs ∧
      t.get THA_GEN.GEN = (s.get THA_GEN.GEN + 1) % 2 ^ THA_GEN.GEN.w ∧ t.host = s.host ∧ t.otp = s.otp ∧ t.mtr = s.mtr ∧ t.pending = s.pending) ∧
  (∀ (s : State) (o : SrOp),
    s.get THA_SRSTAT.PHASE = 5 →
    s.tha.op = some o →
    s.tha.strips = [] →
    (portList o.ports).all s.vbusGone = true →
    Next .srRelay s fun t =>
      t.get THA_SRSTAT.PHASE = 0 ∧ t.get THA_SRSTAT.RESULT = 1 ∧ t.tha.op = none ∧ t.running = s.running ∧
      t.host = s.host ∧ t.otp = s.otp ∧ t.mtr = s.mtr ∧ t.pending = s.pending) ∧
  (∀ (s : State) (o : SrOp),
    s.tha.op = some o →
    s.get THA_SRSTAT.PHASE = 3 →
    s.islandUp islRidge = true →
    o.func = 17 →
    Next .authoritySwap s fun t =>
      t.get THA_SRSTAT.PHASE = 5 ∧ t.get THA_SRSTAT.RESULT = s.get THA_SRSTAT.RESULT ∧ t.tha.op = some o ∧
      t.running = applyEdits s.running (editRecs o.edits).recs ∧ t.get THA_GEN.GEN = (s.get THA_GEN.GEN + 1) % 2 ^ THA_GEN.GEN.w ∧
      (∀ k : Fin 6, fieldOf (t.rd HST_AUTH.at) (4 * k.val + 3) (4 * k.val) = leastGrant k.val (recWord t.recs tyAUTHORITY instGlobal 0) (s.rd HST_CEIL.at)) ∧
      t.host = s.host ∧ t.slices = s.slices ∧ t.otp = s.otp ∧ t.mtr = s.mtr ∧ t.pending = s.pending) ∧
  (∀ (s : State) (o : SrOp),
    s.tha.op = some o →
    s.get THA_SRSTAT.PHASE = 3 →
    o.func < 16 →
    s.tha.strips = [] →
    (portList o.ports).any s.vbusStands = true →
    Next .srVbusTimeout s fun t =>
      t.get THA_SRSTAT.PHASE = 0 ∧ t.get THA_SRSTAT.RESULT = 5 ∧ t.tha.op = none ∧ t.running = s.running ∧
      t.host = s.host ∧ t.otp = s.otp ∧ t.mtr = s.mtr ∧ t.pending = s.pending) ∧
  (∀ (s : State) (ce : List (BitVec 17)) (fetchOk : Bool),
    s.bit THA_STAT.LOADED = true →
    s.islandUp islRidge = true →
    Next (.scrubPass ce [] fetchOk) s fun t =>
      t.get THA_SCRUBPASS.PASSES = (s.get THA_SCRUBPASS.PASSES + 1) % 2 ^ THA_SCRUBPASS.PASSES.w ∧
      t.get THA_SCRUBSTAT.CE = min (s.get THA_SCRUBSTAT.CE + ce.length) (2 ^ THA_SCRUBSTAT.CE.w - 1) ∧
      t.running = s.running ∧ s.regsKept t (fun a => a == THA_SCRUBPASS.at || a == THA_SCRUBSTAT.at || a == THA_ERRADDR.at || within 0x5000 0x8000 a) ∧
      t = { s with regs := t.regs, bat := t.bat, tha := { s.tha with passDue := false } })

/-- Attach and detach of a source port (R102, R104, R105, R108, R109, R122). The model's choices in it: assumption log 33, 36, 37, 146 and 155. -/
def Obligations.SourceAttach : Prop :=
  (∀ (s : State) (n : Fin 16) (c1 c2 : CcClass),
    s.portUp n = true →
    s.halted n.val = false →
    Next (.ccClassChange n c1 c2) s fun t =>
      t.get (PCC_STATUS.CC1CLS n) = c1.code ∧ t.get (PCC_STATUS.CC2CLS n) = c2.code ∧
      (s.cc n = ccUnattachedSrc → (c1 = .rdRp ∨ c2 = .rdRp) → t.cc n = if s.isService n then ccAttachWaitSnk else ccAttachWaitSrc) ∧
      (c1 ≠ .rdRp → c2 ≠ .rdRp → t.cc n = s.cc n ∧ t.ports[n].probing = false) ∧
      s.portsBut t [n] ∧ s.regsBut t [PCC_STATUS.at n, PVL_STAT.at n] ∧ t = { s with regs := t.regs, bat := t.bat, ports := t.ports }) ∧
  (∀ (s : State) (n : Fin 16),
    s.portUp n = true →
    s.halted n.val = false →
    s.cc n = ccAttachWaitSrc →
    s.accPattern n = false →
    s.oneRd n = true →
    s.islandUp islRidge = true →
    s.outage = false →
    s.soffit.vhvOk = true →
    Next (.attachedSrc n true) s fun t =>
      t.cc n = ccAttachedSrc ∧ t.bit (PCC_STATUS.ORIENT n) = (s.cls2 n == 2) ∧ t.get (PCC_STATUS.ACC n) = 0 ∧ t.get (PCC_STATUS.VBUSPRES n) = 0 ∧
      t.pstate n = 1 ∧ t.get (PPD_STATUS.REV n) = (if s.bit (PPD_CFG.REV20 n) then 1 else 2) ∧ t.bit (PPD_STATUS.DROLE n) = s.isService n ∧
      t.get (PCC_COUNT.ATTACHES n) = (s.get (PCC_COUNT.ATTACHES n) + 1) % 2 ^ (PCC_COUNT.ATTACHES n).w ∧
      t.ports[n].applyQ = s.ports[n].applyQ ++ [Op.mk0 n.val clsSW srcPd 4 0] ∧
      (t.pd n).out = [] ∧ (t.pd n).ams = none ∧ (t.pd n).caps = 0 ∧ t.get RDG_CNT0.COMMITTED = (s.get RDG_CNT0.COMMITTED + 1) % 2 ^ RDG_CNT0.COMMITTED.w ∧
      s.portsBut t [n] ∧ t.slices = s.slices ∧ t.host = s.host ∧ t.otp = s.otp ∧ t.mtr = s.mtr ∧ t.pending = s.pending) ∧
  (∀ (s : State) (n : Fin 16),
    s.portUp n = true →
    s.halted n.val = false →
    s.cc n = ccAttachWaitSrc →
    s.accPattern n = false →
    s.oneRd n = true →
    Next (.attachedSrc n false) s fun t =>
      t.cc n = ccAttachWaitSrc ∧ t.get (PCC_STATUS.VBUSPRES n) = 1 ∧ t.get (PGT_STATUS.SAFE0 n) = 0 ∧
      (s.get (PCC_STATUS.VBUSPRES n) = 0 → t.bat = (s.firePort n 7 2).bat) ∧
      s.regsBut t [PCC_STATUS.at n, PGT_STATUS.at n] ∧ t = { s with regs := t.regs, bat := t.bat, ports := t.ports }) ∧
  (∀ (s : State) (n : Fin 16),
    s.cc n = ccAttachWaitSrc ∨ s.cc n = ccAttachWaitSnk →
    s.someRd n = false →
    s.halted n.val = false →
    Next (.pdDebounceExpire n) s fun t =>
      t.cc n = (if s.isService n then ccUnattachedSnk else ccUnattachedSrc) ∧ t.get (PCC_STATUS.ACC n) = 0 ∧ t.get (PCC_STATUS.VBUSPRES n) = 0 ∧
      (s.isService n = false → t.rd (PCC_PROBE.at n) = 0 ∧ t.get (PCC_STATUS.VCONNON n) = 0 ∧ t.get (PCC_CABLE.KIND n) = 0) ∧
      s.portsBut t [n] ∧ s.regsKept t (fun a => inPort n a || (decide (n.val < 2) && a == SOF_DBSTAT.at)) ∧
      t = { s with regs := t.regs, staged := t.staged, bat := t.bat, ports := t.ports, boot := { s.boot with rd := t.boot.rd } }) ∧
  (∀ (s : State) (n : Fin 16) (below : Bool),
    s.cc n = ccAttachWaitSrc →
    s.halted n.val = false →
    Next (.loadProbeStart n below) s fun t =>
      t.bit (PGT_STATUS.SAFE0 n) = below ∧
      (s.bit (PCC_CFG.PROBEEN n) = false → t.rd (PCC_PROBE.at n) = 6 ∧ t.ports = s.ports) ∧
      (s.bit (PCC_CFG.PROBEEN n) = true → below = false → t.rd (PCC_PROBE.at n) = 5 ∧ t.ports = s.ports) ∧
      (s.bit (PCC_CFG.PROBEEN n) = true → below = true → t.ports[n] = { s.ports[n] with probing := true } ∧ t.rd (PCC_PROBE.at n) = s.rd (PCC_PROBE.at n)) ∧
      s.portsBut t [n] ∧ s.regsBut t [PGT_STATUS.at n, PCC_PROBE.at n] ∧ t = { s with regs := t.regs, ports := t.ports }) ∧
  (∀ (s : State) (n : Fin 16) (reached : Bool) (us v25 v5 : Nat),
    s.cc n = ccAttachWaitSrc →
    s.ports[n].probing = true →
    s.halted n.val = false →
    Next (.loadProbeEnd n reached us v25 v5) s fun t =>
      t.ports[n].probing = false ∧
      (reached = true → us ≤ 100 → t.get (PCC_PROBE.CODE n) = 1 ∧ t.cc n = ccAttachWaitSrc) ∧
      (reached = true → 100 < us → t.get (PCC_PROBE.CODE n) = 2 ∧ t.cc n = ccAttachWaitSrc) ∧
      (reached = false → 20 ≤ v5 → t.get (PCC_PROBE.CODE n) = 3 ∧ t.cc n = ccAttachWaitSrc) ∧
      (reached = false → v5 < 20 → t.get (PCC_PROBE.CODE n) = 4 ∧ t.cc n = ccErrorRecovery) ∧
      s.portsBut t [n] ∧ t.host = s.host ∧ t.otp = s.otp ∧ t.mtr = s.mtr ∧ t.pending = s.pending) ∧
  (∀ (s : State) (n : Fin 16),
    s.cc n = ccAttachedSrc →
    s.monClass n = 0 →
    s.halted n.val = false →
    s.isService n = false →
    Next (.srcDisconnect n) s fun t =>
      (s.get (PCC_STATUS.VCONNON n) = 1 → t.cc n = ccUnattachedWaitSrc) ∧
      (s.get (PCC_STATUS.VCONNON n) = 0 → t.cc n = ccUnattachedSrc ∨ t.cc n = ccAttachWaitSrc) ∧
      t.get (PCC_STATUS.VCONNON n) = 0 ∧ t.pstate n = 0 ∧ t.get (PPD_STATUS.CONTRACT n) = 0 ∧ t.rd (PPD_CONTRACT.at n) = 0 ∧
      t.eaveLive n = false ∧ t.stageOn n = false ∧ t.allocOf n = s.floorOf n ∧ t.get (PCC_CCREF.VALID n) = 0 ∧
      t.host = s.host ∧ t.otp = s.otp ∧ t.mtr = s.mtr ∧ t.pending = s.pending) ∧
  (∀ (s : State) (n : Fin 16),
    s.cc n = ccErrorRecovery →
    s.halted n.val = false →
    s.bit (PGT_STATUS.SAFE0 n) = true →
    s.ports[n].ccOver = false →
    s.bit (PGT_STATUS.FAULT n) = false →
    s.stripping n = false →
    s.mustStayDown n = false →
    n.val ∉ s.boot.recov →
    Next (.errorRecoveryExit n) s fun t =>
      t.cc n = (if s.someRd n && !s.ports[n].val.first then (if s.isService n then ccAttachWaitSnk else ccAttachWaitSrc)
        else if s.isService n then ccUnattachedSnk else ccUnattachedSrc) ∧
      t.ports[n].faultPath = false ∧ t.get (PEV_STATUS.STATE n) ≠ 4 ∧
      s.portsBut t [n] ∧ s.regsKept t (fun a => inPort n a || (decide (n.val < 2) && a == SOF_DBSTAT.at)) ∧
      t = { s with regs := t.regs, staged := t.staged, bat := t.bat, ports := t.ports, boot := { s.boot with rd := t.boot.rd } }) ∧
  (∀ (s : State) (n : Fin 16),
    s.cc n = ccErrorRecovery →
    s.halted n.val = false →
    s.bit (PGT_STATUS.SAFE0 n) = false →
    s.isService n = false →
    Next (.errorRecoveryExit n) s fun t =>
      t.ports[n] = { s.ports[n] with errElapsed := true } ∧ s.portsBut t [n] ∧ t = { s with ports := t.ports }) ∧
  (∀ (s : State) (n : Fin 16),
    s.cc n = ccUnattachedWaitSrc →
    s.halted n.val = false →
    Next (.unattachedWaitExit n) s fun t =>
      (s.mustStayDown n = true → t.cc n = ccDisabled) ∧
      (s.mustStayDown n = false → s.isService n = false → t.cc n = if s.someRd n && !s.ports[n].val.first then ccAttachWaitSrc else ccUnattachedSrc) ∧
      s.portsBut t [n] ∧ s.regsKept t (inPort n) ∧ t.host = s.host ∧ t.otp = s.otp ∧ t.mtr = s.mtr ∧ t.slices = s.slices ∧ t.pending = s.pending)

/-- Attach of a service port and the faults of the CC pins (R106, R123, R124, R264). The model's choices in it: assumption log 31, 36 and 79. -/
def Obligations.SinkAttachAndCcFaults : Prop :=
  (∀ (s : State) (n : Fin 16) (rp : Fin 4),
    s.cc n = ccAttachWaitSnk →
    s.halted n.val = false →
    s.someRd n = true →
    s.cls1 n ≠ s.cls2 n →
    Next (.attachedSnk n rp true) s fun t =>
      t.cc n = ccAttachedSnk ∧ t.get (PCC_STATUS.RPSEEN n) = rp.val ∧ t.bit (PCC_STATUS.ORIENT n) = (s.cls2 n == 2) ∧ t.get (PGT_STATUS.SAFE0 n) = 0 ∧
      t.sink n = 14 ∧ t.get SOF_WAKE_STAT.SVC = 1 ∧ t.get (PCC_COUNT.ATTACHES n) = (s.get (PCC_COUNT.ATTACHES n) + 1) % 2 ^ (PCC_COUNT.ATTACHES n).w ∧
      s.portsBut t [n] ∧ s.regsKept t (fun a => inPort n a || a == SOF_WAKE_STAT.at) ∧ t = { s with regs := t.regs, bat := t.bat, ports := t.ports }) ∧
  (∀ (s : State) (n : Fin 16) (mv : Nat),
    s.cc n = ccAttachedSnk →
    s.sink n ≠ 18 →
    mv < s.sinkLevel n →
    s.halted n.val = false →
    s.isService n = true →
    Next (.sinkVbusLoss n mv) s fun t =>
      t.cc n = (if s.someRd n && !s.ports[n].val.first then ccAttachWaitSnk else ccUnattachedSnk) ∧ t.pstate n = 0 ∧ t.get (PPD_STATUS.CONTRACT n) = 0 ∧
      t.eaveLive n = false ∧ t.stageOn n = false ∧ t.host = s.host ∧ t.otp = s.otp ∧ t.mtr = s.mtr ∧ t.pending = s.pending) ∧
  (∀ (s : State) (n : Fin 16) (rp : Fin 4),
    s.cc n = ccAttachedSnk →
    s.halted n.val = false →
    Next (.sinkRpChange n rp) s fun t =>
      t.rd (PCC_STATUS.at n) = (PCC_STATUS.RPSEEN n).set (s.rd (PCC_STATUS.at n)) rp.val ∧ s.regsBut t [PCC_STATUS.at n] ∧
      ((s.pd n).held = [] → (s.pd n).alertDue = 0 → t.ports = s.ports) ∧ s.portsBut t [n] ∧ t = { s with regs := t.regs, ports := t.ports }) ∧
  (∀ (s : State) (n : Fin 16) (pin : Fin 2),
    s.portUp n = true →
    s.halted n.val = false →
    s.cc n ≠ ccDisabled →
    Next (.ccOvervoltage n pin true) s fun t =>
      t.cc n = ccErrorRecovery ∧ portEvent n 5 ∈ t.bat.levels ∧ t.ports[n].ccOver = true ∧
      (if pin = 0 then t.get (PCC_STATUS.CC1CLS n) else t.get (PCC_STATUS.CC2CLS n)) = 3 ∧
      t.get (PCC_COUNT.CCOV n) = min (s.get (PCC_COUNT.CCOV n) + 1) (2 ^ (PCC_COUNT.CCOV n).w - 1) ∧
      t.get (PCC_STATUS.RPOUT n) = 0 ∧ t.get (PCC_STATUS.VCONNON n) = 0 ∧ t.eaveLive n = false ∧
      t.host = s.host ∧ t.otp = s.otp ∧ t.mtr = s.mtr ∧ t.pending = s.pending) ∧
  (∀ (s : State) (n : Fin 16) (pin : Fin 2),
    s.portUp n = true →
    s.cc n ≠ ccErrorRecovery →
    Next (.ccOvervoltage n pin false) s fun t =>
      portEvent n 5 ∉ t.bat.levels ∧ t.ports[n] = { s.ports[n] with ccOver := false } ∧ t.cc n = s.cc n ∧
      t.get (PCC_STATUS.CC1CLS n) = (if s.cls1 n = 3 then 0 else s.cls1 n) ∧ t.get (PCC_STATUS.CC2CLS n) = (if s.cls2 n = 3 then 0 else s.cls2 n) ∧
      s.portsBut t [n] ∧ s.regsBut t [PCC_STATUS.at n] ∧ t = { s with regs := t.regs, bat := t.bat, ports := t.ports }) ∧
  (∀ (s : State) (n : Fin 16),
    s.bit (PCC_STATUS.VCONNON n) = true →
    s.halted n.val = false →
    s.hasContract n = false →
    s.bit (PPD_STATUS.EPRMODE n) = false →
    Next (.vconnFault n) s fun t =>
      t.get (PCC_STATUS.VCONNON n) = 0 ∧ t.get (PCC_VCONN.FAIL n) = 1 ∧ t.get (PCC_CABLE.VCONNLOW n) = 1 ∧ t.get (PCC_CABLE.KIND n) = 1 ∧
      t.get (PCC_COUNT.VCONNF n) = min (s.get (PCC_COUNT.VCONNF n) + 1) (2 ^ (PCC_COUNT.VCONNF n).w - 1) ∧
      s.portsBut t [n] ∧ t.slices = s.slices ∧ t.host = s.host ∧ t.otp = s.otp ∧ t.mtr = s.mtr ∧ t.pending = s.pending) ∧
  (∀ (s : State) (n : Fin 16),
    s.portUp n = true →
    s.halted n.val = false →
    s.bit (PCC_STATUS.VBUSPRES n) = false →
    s.peff n ≠ 9 →
    s.cc n ≠ ccErrorRecovery →
    Next (.vbusBelowVsafe0v n) s fun t =>
      t.rd (PGT_STATUS.at n) = (PGT_STATUS.SAFE0 n).set (s.rd (PGT_STATUS.at n)) 1 ∧ s.regsBut t [PGT_STATUS.at n] ∧ t = { s with regs := t.regs }) ∧
  (∀ (s : State) (n : Fin 16),
    s.portUp n = true →
    s.halted n.val = false →
    s.peff n = 9 →
    s.cc n = ccAttachedSrc →
    Next (.vbusBelowVsafe0v n) s fun t =>
      t.get (PGT_STATUS.SAFE0 n) = 1 ∧ t.stageOn n = false ∧ t.cc n = ccAttachedSrc ∧ t.pstate n = s.pstate n ∧ t.ports = s.ports ∧
      s.regsKept t (fun a => inPort n a || inSlices a) ∧ t = { s with regs := t.regs, staged := t.staged, slices := t.slices })

/-- Cable discovery, the ground-return level and SinkTx (R113 to R119). The model's choices in it: assumption log 49, 130, 131 and 137. -/
def Obligations.CableDiscovery : Prop :=
  (∀ (s : State) (n : Fin 16),
    s.mayDiscover n = true →
    s.get (PCC_CABLE.ATTEMPTS n) = 0 →
    Next (.discdlyExpire n) s fun t =>
      t.get (PCC_CABLE.ATTEMPTS n) = 1 ∧ (t.pd n).discovering = true ∧ (t.pd n).out = (s.pd n).out ++ [{ name := .discoverIdentity, sop := 1, objs := [] }] ∧
      s.portsBut t [n] ∧ s.regsBut t [PCC_CABLE.at n] ∧ t = { s with regs := t.regs, ports := t.ports }) ∧
  (∀ (s : State) (n : Fin 16),
    s.mayDiscover n = true →
    (s.pd n).eprWait = false →
    s.get (PCC_CABLE.ATTEMPTS n) < 20 →
    s.pstate n = 6 →
    s.hasContract n = true →
    Next (.tdiscoverIdentity n) s fun t =>
      t.get (PCC_CABLE.ATTEMPTS n) = s.get (PCC_CABLE.ATTEMPTS n) + 1 ∧ (t.pd n).discovering = true ∧
      (t.pd n).out = (s.pd n).out ++ [{ name := .discoverIdentity, sop := 1, objs := [] }] ∧
      s.portsBut t [n] ∧ s.regsBut t [PCC_CABLE.at n] ∧ t = { s with regs := t.regs, ports := t.ports }) ∧
  (∀ (s : State) (n : Fin 16),
    s.mayDiscover n = true →
    (s.pd n).eprWait = false →
    20 ≤ s.get (PCC_CABLE.ATTEMPTS n) →
    Next (.tdiscoverIdentity n) s fun t =>
      t.get (PCC_CABLE.KIND n) = 1 ∧ (t.pd n).discovering = false ∧ s.portsBut t [n] ∧ s.regsKept t (inPort n) ∧ t = { s with regs := t.regs, ports := t.ports }) ∧
  (∀ (s : State) (n : Fin 16) (id : BitVec 3) (idHdr vdo : BitVec 32),
    s.mayDiscover n = true →
    s.repeated n 1 id = false →
    fieldOf idHdr 29 27 = 3 →
    fieldOf vdo 6 5 = 1 ∨ fieldOf vdo 6 5 = 2 →
    s.pstate n = 1 →
    (s.pd n).eprWait = false →
    Next (.cableAck ⟨n, id⟩ idHdr vdo) s fun t =>
      t.get (PCC_CABLE.KIND n) = 2 ∧ t.get (PCC_CABLE.IMAX n) = fieldOf vdo 6 5 ∧ t.bit (PCC_CABLE.VMAX n) = (fieldOf vdo 10 9 == 3) ∧
      t.bit (PCC_CABLE.EPR n) = (fieldOf vdo 17 17 == 1) ∧ t.rd (PCC_IDHDR.at n) = idHdr ∧ t.rd (PCC_CABLEVDO.at n) = vdo ∧ (t.pd n).discovering = false ∧
      s.portsBut t [n] ∧ s.regsKept t (inPort n) ∧ t = { s with regs := t.regs, staged := t.staged, ports := t.ports }) ∧
  (∀ (s : State) (n : Fin 16) (id : BitVec 3) (idHdr vdo : BitVec 32),
    s.mayDiscover n = true →
    s.repeated n 1 id = true →
    Next (.cableAck ⟨n, id⟩ idHdr vdo) s fun t => t = s) ∧
  (∀ (s : State) (n : Fin 16) (id : Option (BitVec 3)),
    s.mayDiscover n = true →
    (s.pd n).eprWait = false →
    id.all (fun k => !s.repeated n 1 k) = true →
    (id = none → 20 ≤ s.get (PCC_CABLE.ATTEMPTS n)) →
    Next (.cableNak ⟨n, id⟩) s fun t =>
      t.get (PCC_CABLE.KIND n) = 1 ∧ (t.pd n).discovering = false ∧ s.portsBut t [n] ∧ s.regsKept t (inPort n) ∧ t = { s with regs := t.regs, ports := t.ports }) ∧
  (∀ (s : State) (n : Fin 16) (id : BitVec 3) (vdo : BitVec 32),
    s.cc n = ccAttachedSrc →
    s.get (PCC_CABLE.KIND n) = 3 →
    0 < (s.pd n).farTries →
    s.halted n.val = false →
    s.repeated n 2 id = false →
    (s.pd n).eprWait = false →
    s.pstate n = 6 →
    Next (.farAck ⟨n, id⟩ vdo) s fun t =>
      t.rd (PCC_FARVDO.at n) = vdo ∧ t.rd (PCC_CABLE.at n) = (PCC_CABLE.FAR n).set (s.rd (PCC_CABLE.at n)) 1 ∧ (t.pd n).discovering = false ∧
      s.portsBut t [n] ∧ s.regsBut t [PCC_FARVDO.at n, PCC_CABLE.at n] ∧ t = { s with regs := t.regs, ports := t.ports }) ∧
  (∀ (s : State) (n : Fin 16) (lvl : BitVec 16),
    s.cc n = ccAttachedSrc →
    s.get (PEV_STATUS.STATE n) = 3 →
    s.halted n.val = false →
    Next (.ccrefCapture n lvl) s fun t =>
      t.get (PCC_CCREF.LEVEL n) = lvl.toNat % 2 ^ (PCC_CCREF.LEVEL n).w ∧ t.get (PCC_CCREF.RPLVL n) = s.get (PCC_STATUS.RPOUT n) ∧ t.get (PCC_CCREF.VALID n) = 1 ∧
      s.regsBut t [PCC_CCREF.at n] ∧ t = { s with regs := t.regs }) ∧
  (∀ (s : State) (n : Fin 16),
    s.pstate n = 6 →
    s.halted n.val = false →
    (s.pd n).held = [101] →
    s.isService n = false →
    Next (.tsinktxExpire n) s fun t =>
      (t.pd n).held = [] ∧ (t.pd n).ams = some .drSwap ∧ t.pstate n = 11 ∧ (t.pd n).out = (s.pd n).out ++ [{ name := .drSwap, sop := 0, objs := [] }] ∧
      s.portsBut t [n] ∧ s.regsBut t [PPD_STATUS.at n] ∧ t = { s with regs := t.regs, ports := t.ports })

/-- The attach commands of a host port (R104, R122, R124, R127): PCC_CTRL.DISABLE and the bits of PCC_CMD. The model's choices in it: assumption log
34. -/
def Obligations.AttachCommands : Prop :=
  (∀ (s : State) (hp : HostPort) (n : Fin 16),
    s.takes hp (PCC_CTRL.at n) 1 →
    Next (.pccDisable hp n true) s fun t =>
      t.get (PCC_CTRL.DISABLE n) = 1 ∧
      (s.cc n = ccAttachedSrc ∨ s.cc n = ccAttachedSnk ∨ s.cc n = ccErrorRecovery → t.cc n = ccErrorRecovery) ∧
      (s.cc n ≠ ccAttachedSrc → s.cc n ≠ ccAttachedSnk → s.cc n ≠ ccErrorRecovery → t.cc n = ccDisabled ∧ t.get (PCC_STATUS.RPOUT n) = 0) ∧
      s.hostSays t hp stOK 0 s.ports[n].gen ∧ t.otp = s.otp ∧ t.mtr = s.mtr ∧ t.pending = s.pending) ∧
  (∀ (s : State) (hp : HostPort) (n : Fin 16),
    s.takes hp (PCC_CTRL.at n) 0 →
    Next (.pccDisable hp n false) s fun t =>
      t.get (PCC_CTRL.DISABLE n) = 0 ∧
      (s.cc n = ccDisabled → s.bit (PCC_STATUS.LATCHED n) = false → s.ports[n].en = true → s.isSource n = true → s.bit GLB_SUPSTAT.VHVOK = true →
        t.cc n = if s.someRd n && !s.ports[n].val.first then ccAttachWaitSrc else ccUnattachedSrc) ∧
      (s.cc n ≠ ccDisabled → t.cc n = s.cc n) ∧
      s.hostSays t hp stOK 0 s.ports[n].gen ∧ s.portsBut t [n] ∧ t.slices = s.slices ∧ t.otp = s.otp ∧ t.mtr = s.mtr ∧ t.pending = s.pending) ∧
  (∀ (s : State) (hp : HostPort) (n : Fin 16),
    s.takes hp (PCC_CMD.at n) 4 →
    s.cc n = ccAttachedSrc →
    (s.pd n).discovering = false →
    s.mayDiscover n = false →
    Next (.redisc hp n) s fun t =>
      (s.bit (PCC_CFG.DISCEN n) = true → s.bit (PCC_STATUS.VCONNON n) = true → s.discTime n = true → t.get (PCC_CABLE.ATTEMPTS n) = 1 ∧ (t.pd n).discovering = true) ∧
      (s.bit (PCC_CFG.DISCEN n) = false → t.get (PCC_CABLE.KIND n) = 1) ∧
      s.hostSays t hp stOK 0 s.ports[n].gen ∧ s.portsBut t [n] ∧ s.passOp.regsKept t (inPort n) ∧ t = { s.passOp with regs := t.regs, host := t.host, ports := t.ports }) ∧
  (∀ (s : State) (hp : HostPort) (n : Fin 16),
    s.takes hp (PCC_CMD.at n) 4 →
    s.cc n ≠ ccAttachedSrc ∨ (s.pd n).discovering = true ∨ s.mayDiscover n = true →
    Next (.redisc hp n) s fun t =>
      t.host.ports[hp.idx].status = statusWord stBUSY 0 s.ports[n].gen ∧ t.get HST_LASTERR.CODE = stBUSY ∧ s.passOp.regsBut t [HST_LASTERR.at] ∧
      t = { s.passOp with regs := t.regs, host := t.host }) ∧
  (∀ (s : State) (hp : HostPort) (n : Fin 16),
    s.takes hp (PCC_CMD.at n) 2 →
    Next (.clrlatch hp n) s fun t =>
      t.get (PCC_STATUS.LATCHED n) = 0 ∧ t.get (PCC_STATUS.VCONNLATCH n) = 0 ∧ t.ports[n].latched = false ∧ t.ports[n].vconnLatched = false ∧
      (s.cc n ≠ ccDisabled → t.cc n = s.cc n) ∧
      s.hostSays t hp stOK 0 s.ports[n].gen ∧ s.portsBut t [n] ∧ t.slices = s.slices ∧ t.otp = s.otp ∧ t.mtr = s.mtr ∧ t.pending = s.pending) ∧
  (∀ (s : State) (hp : HostPort) (n : Fin 16),
    s.takes hp (PCC_CMD.at n) 1 →
    s.cc n ≠ ccDisabled →
    Next (.errrec hp n) s fun t =>
      t.cc n = ccErrorRecovery ∧ (s.cc n ≠ ccErrorRecovery → t.pstate n = 0 ∧ t.stageOn n = false ∧ t.eaveLive n = false ∧ t.get (PCC_STATUS.RPOUT n) = 0) ∧
      s.hostSays t hp stOK 0 s.ports[n].gen ∧ t.otp = s.otp ∧ t.mtr = s.mtr ∧ t.pending = s.pending)

/-- Sending, acknowledgement and retry (R129, R131, R146, R147): the timers of an offer, GoodCRC, tReceive, chunks. The model's choices in it: assumption log
39, 40, 54, 132 and 137. -/
def Obligations.ProtocolLayer : Prop :=
  (∀ (s : State) (n : Fin 16),
    s.pstate n = 1 →
    s.halted n.val = false →
    (s.pd n).discovering = true →
    Next (.tfirstcapExpire n) s fun t =>
      t.pd n = { s.pd n with capsDue := true } ∧ s.portsBut t [n] ∧ t = { s with ports := t.ports }) ∧
  (∀ (s : State) (n : Fin 16),
    s.pstate n = 1 →
    s.halted n.val = false →
    (s.pd n).discovering = false →
    Next (.tfirstcapExpire n) s fun t =>
      t.pstate n = 3 ∧ s.sends t n [{ name := if s.bit (PPD_STATUS.EPRMODE n) then .eprSourceCap else .sourceCap, sop := 0, objs := t.offerObjs n }] ∧
      (t.pd n).acked = false ∧ t.bit (PPD_OFFERINFO.EPRMSG n) = s.bit (PPD_STATUS.EPRMODE n) ∧
      s.portsBut t [n] ∧ s.regsKept t (inPort n) ∧ t = { s with regs := t.regs, ports := t.ports }) ∧
  (∀ (s : State) (n : Fin 16),
    s.pstate n = 3 →
    (s.pd n).acked = false →
    s.halted n.val = false →
    (s.pd n).caps < 50 →
    Next (.ttypecSendSourceCap n) s fun t =>
      t.pstate n = 3 ∧ s.sends t n [{ name := if s.bit (PPD_STATUS.EPRMODE n) then .eprSourceCap else .sourceCap, sop := 0, objs := t.offerObjs n }] ∧
      (t.pd n).caps = (s.pd n).caps ∧ s.portsBut t [n] ∧ s.regsKept t (inPort n) ∧ t = { s with regs := t.regs, ports := t.ports }) ∧
  (∀ (s : State) (n : Fin 16),
    s.pstate n = 3 →
    (s.pd n).acked = false →
    s.halted n.val = false →
    50 ≤ (s.pd n).caps →
    Next (.ttypecSendSourceCap n) s fun t =>
      t.pstate n = 19 ∧ s.sends t n [] ∧ s.portsBut t [n] ∧ s.regsBut t [PPD_STATUS.at n] ∧ t = { s with regs := t.regs, ports := t.ports }) ∧
  (∀ (s : State) (n : Fin 16),
    s.pstate n = 3 →
    (s.pd n).acked = true →
    s.halted n.val = false →
    s.mayHardReset n →
    Next (.tsenderResponse n) s fun t =>
      s.beganHardReset t n ∧ s.regsKept t (policyArea n) ∧ s.farKept t) ∧
  (∀ (s : State) (n : Fin 16),
    s.pstate n = 6 →
    (s.pd n).ams = some .getStatus →
    s.halted n.val = false →
    s.isService n = false →
    s.nothingHeld n →
    Next (.tsenderResponse n) s fun t =>
      (t.pd n).ams = none ∧ t.pstate n = 6 ∧ s.sends t n [] ∧
      (s.isSource n = true → s.hasContract n = true → s.rev3 n = true → t.get (PCC_STATUS.RPOUT n) = 3) ∧
      s.portsBut t [n] ∧ s.regsBut t [PCC_STATUS.at n, PPD_STATUS.at n] ∧ t = { s with regs := t.regs, ports := t.ports }) ∧
  (∀ (s : State) (n : Fin 16) (m : PdMsg) (rest : List PdMsg),
    s.halted n.val = false →
    (s.pd n).out = m :: rest →
    m.name = .notSupported ∨ m.name = .wait ∨ m.name = .revision ∨ m.name = .vdm ∨ m.name = .accept ∨ m.name = .sourceCap →
    Next (.goodcrc n) s fun t =>
      (t.pd n).out = rest ∧ (t.pd n).retries = 0 ∧ (t.pd n).txId = (s.pd n).txId.set m.sop (((s.pd n).txId.getD m.sop 0 + 1) % 8) ∧
      (t.pd n).acked = ((s.pd n).acked || m.name == .accept || m.name == .sourceCap) ∧
      s.portsBut t [n] ∧ t = { s with ports := t.ports }) ∧
  (∀ (s : State) (n : Fin 16) (m : PdMsg) (rest : List PdMsg),
    s.halted n.val = false →
    (s.pd n).out = m :: rest →
    m.name = .acceptSwap →
    s.pstate n = 11 →
    s.nothingHeld n →
    Next (.goodcrc n) s fun t =>
      (t.pd n).out = rest ∧ t.bit (PPD_STATUS.DROLE n) = !s.bit (PPD_STATUS.DROLE n) ∧ t.pstate n = 6 ∧
      s.portsBut t [n] ∧ s.regsBut t [PPD_STATUS.at n, PCC_STATUS.at n] ∧ t = { s with regs := t.regs, ports := t.ports }) ∧
  (∀ (s : State) (n : Fin 16) (m : PdMsg) (rest : List PdMsg),
    s.halted n.val = false →
    (s.pd n).out = m :: rest →
    (s.pd n).retries < 2 →
    Next (.treceive n) s fun t =>
      (t.pd n).out = (s.pd n).out ∧ (t.pd n).txId = (s.pd n).txId ∧ (t.pd n).retries = (s.pd n).retries + 1 ∧
      s.portsBut t [n] ∧ t = { s with ports := t.ports }) ∧
  (∀ (s : State) (n : Fin 16) (m : PdMsg) (rest : List PdMsg),
    s.halted n.val = false →
    (s.pd n).out = m :: rest →
    2 ≤ (s.pd n).retries →
    m.name = .softReset →
    s.pstate n ≠ 0 →
    s.mayHardReset n →
    Next (.treceive n) s fun t =>
      s.beganHardReset t n ∧ s.regsKept t (policyArea n) ∧ s.farKept t) ∧
  (∀ (s : State) (n : Fin 16) (m : PdMsg) (rest : List PdMsg),
    s.halted n.val = false →
    (s.pd n).out = m :: rest →
    2 ≤ (s.pd n).retries →
    m.name = .psRdy →
    s.pstate n ≠ 0 →
    s.mayHardReset n →
    Next (.treceive n) s fun t =>
      (s.beganHardReset t n ∨ t.bit (PCC_STATUS.LATCHED n) = true) ∧
      t.get (PPD_COUNT.HARD n) = min (s.get (PPD_COUNT.HARD n) + 1) (2 ^ (PPD_COUNT.HARD n).w - 1) ∧ s.regsKept t (policyArea n) ∧ s.farKept t) ∧
  (∀ (s : State) (n : Fin 16) (m : PdMsg) (rest : List PdMsg),
    s.halted n.val = false →
    (s.pd n).out = m :: rest →
    2 ≤ (s.pd n).retries →
    m.name = .sourceCap →
    s.pstate n = 3 →
    Next (.treceive n) s fun t =>
      (t.pd n).out = rest ∧ (t.pd n).retries = 0 ∧ (t.pd n).caps = (s.pd n).caps + 1 ∧ t.pstate n = (if 50 ≤ (s.pd n).caps + 1 then 19 else 3) ∧
      s.portsBut t [n] ∧ s.regsBut t [PPD_STATUS.at n] ∧ t = { s with regs := t.regs, ports := t.ports }) ∧
  (∀ (s : State) (n : Fin 16),
    s.listening n = true →
    Next (.crcError n) s fun t =>
      t.get (PPD_COUNT.CRCERR n) = min (s.get (PPD_COUNT.CRCERR n) + 1) (2 ^ (PPD_COUNT.CRCERR n).w - 1) ∧
      s.regsBut t [PPD_COUNT.at n] ∧ t = { s with regs := t.regs }) ∧
  (∀ (s : State) (h : PdHead) (num : BitVec 4) (k j : Nat),
    s.hears h →
    s.pstate h.n ≠ 19 →
    (s.pd h.n).chunkTx = some (k, j) →
    Next (.chunkRequest h num) s fun t =>
      s.answers t h (if num.toNat = k then [{ name := .eprSourceCap, sop := 0, objs := s.offerObjs h.n }] else [])) ∧
  (∀ (s : State) (n : Fin 16),
    s.halted n.val = false →
    Next (.chunkTimeout n) s fun t =>
      t.pd n = { s.pd n with chunkTx := none, chunkRx := none, rxBuf := [] } ∧ s.portsBut t [n] ∧ t = { s with ports := t.ports })

/-- A Request, its transition and PS_RDY (R136, R138, R139, R146, R161, R173). The model's choices in it: assumption log 24, 38, 42 and 135. -/
def Obligations.RequestsAndTransitions : Prop :=
  (∀ (s : State) (h : PdHead) (rdo : Word),
    s.hears h →
    s.group h.n = .ready ∨ s.group h.n = .startup →
    Next (.pdRequest h rdo) s fun t =>
      t.pstate h.n = 4 ∧ (t.pd h.n).reqRdo = some (rdo, 0, false) ∧ (t.pd h.n).acked = false ∧ (t.pd h.n).ams = none ∧ s.noted t h ∧
      s.regsKept t (policyArea h.n) ∧ s.farKept t) ∧
  (∀ (s : State) (h : PdHead) (rdo : Word),
    s.hears h →
    s.group h.n = .brace →
    Next (.pdRequest h rdo) s fun t =>
      s.answers t h [bareMsg .wait]) ∧
  (∀ (s : State) (h : PdHead) (rdo : Word),
    s.hears h →
    s.pstate h.n = 4 →
    s.isService h.n = false →
    Next (.pdRequest h rdo) s fun t =>
      s.sentSoft t h.n) ∧
  (∀ (s : State) (h : PdHead) (rdo pdo : Word),
    s.hears h →
    s.group h.n = .ready ∨ s.group h.n = .startup →
    s.bit (PPD_STATUS.EPRMODE h.n) = true →
    Next (.eprRequest h rdo pdo) s fun t =>
      t.pstate h.n = 4 ∧ (t.pd h.n).reqRdo = some (rdo, pdo, true) ∧ (t.pd h.n).acked = false ∧ s.noted t h ∧
      s.regsKept t (policyArea h.n) ∧ s.farKept t) ∧
  (∀ (s : State) (h : PdHead) (rdo pdo : Word),
    s.hears h →
    s.group h.n = .ready ∨ s.group h.n = .startup →
    s.bit (PPD_STATUS.EPRMODE h.n) = false →
    s.isService h.n = false →
    Next (.eprRequest h rdo pdo) s fun t =>
      s.sentSoft t h.n) ∧
  (∀ (s : State) (n : Fin 16) (w : Transition),
    s.pstate n = 5 →
    (s.pd n).acked = true →
    s.halted n.val = false →
    (s.pd n).trans = some w →
    w.applied = false →
    s.ports[n].applyQ.any (fun o => o.cls == clsSETP) = true →
    Next (.tsrcTransition n) s fun t =>
      (t.pd n).trans = some { w with applied := true } ∧ t.ports[n].loop.target = w.v10 * tenMv ∧ t.get (PLP_STATUS.SETTLED n) = 0 ∧
      t.ports[n].shadow = none ∧ t.ports[n].armed = none ∧ t.ports[n].applyQ.any (fun o => o.cls == clsSETP || o.cls == clsLIM) = false ∧ t.pstate n = 5 ∧
      t.rd (PEV_PEND.at n) = 0 ∧ s.portsBut t [n] ∧ s.regsKept t (inPort n) ∧
      t = { s with regs := t.regs, staged := t.staged, bat := t.bat, ports := t.ports }) ∧
  (∀ (s : State) (n : Fin 16) (w : Transition),
    s.pstate n = 5 →
    s.halted n.val = false →
    (s.pd n).trans = some w →
    w.applied = true →
    s.nothingHeld n →
    s.isService n = false →
    Next (.vbusSettled n) s fun t =>
      s.sends t n [bareMsg .psRdy] ∧ t.pstate n = 6 ∧ (t.pd n).trans = none ∧ t.get (PLP_STATUS.SETTLED n) = 1 ∧
      t.get (PPD_STATUS.HRCOUNT n) = 0 ∧ t.get (PPD_STATUS.CONTRACT n) = (if 7 < w.pos then 2 else 1) ∧ t.get (PPD_STATUS.KIND n) = w.kind % 4 ∧
      t.rd (PPD_CONTRACT.at n) = w.rdo ∧ t.get (PPD_CONTRACTVI.V10 n) = w.v10 % 2 ^ (PPD_CONTRACTVI.V10 n).w ∧
      t.get (PPD_CONTRACTVI.MA n) = w.ma % 2 ^ (PPD_CONTRACTVI.MA n).w ∧ (t.pd n).contractPower = w.power ∧
      s.regsKept t (fun a => inPort n a || block 4 a) ∧ s.farKept t) ∧
  (∀ (s : State) (n : Fin 16) (w : Transition),
    s.pstate n = 5 →
    s.halted n.val = false →
    (s.pd n).trans = some w →
    w.applied = true →
    s.mayHardReset n →
    Next (.settleTimeout n) s fun t =>
      (s.beganHardReset t n ∨ t.bit (PCC_STATUS.LATCHED n) = true) ∧
      t.get (PPD_COUNT.HARD n) = min (s.get (PPD_COUNT.HARD n) + 1) (2 ^ (PPD_COUNT.HARD n).w - 1) ∧ s.regsKept t (policyArea n) ∧ s.farKept t) ∧
  (∀ (s : State) (n : Fin 16),
    s.hasContract n = true →
    s.get (PPD_STATUS.KIND n) = 1 →
    s.pstate n ≠ 12 →
    s.pstate n ≠ 0 →
    s.isSource n = true →
    s.halted n.val = false →
    s.mayHardReset n →
    Next (.tppsTimeout n) s fun t =>
      s.beganHardReset t n ∧ s.regsKept t (policyArea n) ∧ s.farKept t)

/-- Extended power range (R140, R141, R146). The model's choices in it: assumption log 38 and 49. -/
def Obligations.EprMode : Prop :=
  (∀ (s : State) (h : PdHead),
    s.hears h →
    s.group h.n = .ready →
    Next (.eprModeEnter h) s fun t =>
      t.pstate h.n = 7 ∧ s.sends t h.n [bareMsg .eprEnterAck] ∧ s.noted t h ∧
      s.portsBut t [h.n] ∧ s.regsBut t [PPD_STATUS.at h.n] ∧ t = { s with regs := t.regs, ports := t.ports }) ∧
  (∀ (s : State) (h : PdHead),
    s.hears h →
    s.group h.n = .brace →
    Next (.eprModeEnter h) s fun t =>
      s.answers t h [{ name := .eprEnterFail, sop := 0, objs := [0x04040000] }]) ∧
  (∀ (s : State) (h : PdHead),
    s.hears h →
    s.group h.n = .ready →
    s.get (PPD_CONTRACTVI.V10 h.n) ≤ 2000 →
    Next (.eprModeExit h) s fun t =>
      t.bit (PPD_STATUS.EPRMODE h.n) = false ∧ t.pstate h.n = 3 ∧ s.sends t h.n [{ name := .sourceCap, sop := 0, objs := t.offerObjs h.n }] ∧ s.noted t h ∧
      s.portsBut t [h.n] ∧ s.regsKept t (inPort h.n) ∧ t = { s with regs := t.regs, ports := t.ports }) ∧
  (∀ (s : State) (h : PdHead),
    s.hears h →
    s.group h.n = .ready →
    2000 < s.get (PPD_CONTRACTVI.V10 h.n) →
    s.mayHardReset h.n →
    Next (.eprModeExit h) s fun t =>
      s.beganHardReset t h.n ∧ s.regsKept t (policyArea h.n) ∧ s.farKept t) ∧
  (∀ (s : State) (n : Fin 16),
    s.pstate n = 6 →
    s.bit (PPD_STATUS.EPRMODE n) = true →
    s.amsBusy n = false →
    s.halted n.val = false →
    s.mayHardReset n →
    Next (.tsourceEprKeepalive n) s fun t =>
      s.beganHardReset t n ∧ s.regsKept t (policyArea n) ∧ s.farKept t) ∧
  (∀ (s : State) (h : PdHead),
    s.hears h →
    s.group h.n = .ready ∨ s.group h.n = .brace →
    s.bit (PPD_STATUS.EPRMODE h.n) = true →
    Next (.eprKeepalive h) s fun t =>
      s.answers t h [bareMsg .eprKeepAliveAck])

/-- Hard Reset, Soft_Reset and the data role (R142, R143, R144, R149, R233). The model's choices in it: assumption log 20, 41, 44, 46 and 135. -/
def Obligations.ResetsAndDataRole : Prop :=
  (∀ (s : State) (n : Fin 16),
    s.portUp n = true →
    s.halted n.val = false →
    s.pstate n ≠ 0 →
    s.mayHardReset n →
    Next (.hardReset n) s fun t =>
      s.beganHardReset t n ∧ s.regsKept t (policyArea n) ∧ s.farKept t) ∧
  (∀ (s : State) (n : Fin 16),
    s.portUp n = true →
    s.halted n.val = false →
    s.pstate n ≠ 0 →
    s.isService n = false →
    2 ≤ s.get (PPD_STATUS.HRCOUNT n) →
    Next (.hardReset n) s fun t =>
      t.cc n = ccErrorRecovery ∧ t.pstate n = 0 ∧ t.get (PPD_STATUS.CONTRACT n) = 0 ∧ t.eaveLive n = false ∧ t.stageOn n = false ∧
      t.get (PCC_STATUS.RPOUT n) = 0 ∧ s.regsKept t (policyArea n) ∧ s.farKept t) ∧
  (∀ (s : State) (n : Fin 16),
    s.portUp n = true →
    s.halted n.val = false →
    s.pstate n ≠ 0 →
    s.isService n = true →
    Next (.hardReset n) s fun t =>
      t.sink n = 18 ∧ t.eaveLive n = false ∧ t.stageOn n = false ∧ t.get (PPD_STATUS.CONTRACT n) = 0 ∧
      t.get (PPD_COUNT.HARD n) = min (s.get (PPD_COUNT.HARD n) + 1) (2 ^ (PPD_COUNT.HARD n).w - 1) ∧
      (s.sink n = 18 → t.get (PPD_STATUS.HRCOUNT n) = s.get (PPD_STATUS.HRCOUNT n)) ∧ s.regsKept t (policyArea n) ∧ s.farKept t) ∧
  (∀ (s : State) (n : Fin 16),
    s.pstate n = 8 →
    s.halted n.val = false →
    Next (.tpsHardReset n) s fun t =>
      t.pstate n = 9 ∧ t.ports[n].loop.target = 0 ∧ t.ports[n].loop.hrRamp = true ∧ t.get (PLP_REF.TARGET n) = 0 ∧
      s.portsBut t [n] ∧ s.regsKept t (inPort n) ∧ t = { s with regs := t.regs, ports := t.ports }) ∧
  (∀ (s : State) (n : Fin 16),
    s.pstate n = 9 →
    s.halted n.val = false →
    Next (.tsrcRecover n) s fun t =>
      t.pstate n = 1 ∧ t.ports[n].loop.target = 500 * tenMv ∧ t.ports[n].loop.hrRamp = false ∧ t.ports[n].loop.ref = 0 ∧
      t.get (PCC_STATUS.RPOUT n) = s.rpLevel n ∧ s.portsBut t [n] ∧ s.regsKept t (fun a => inPort n a || inSlices a) ∧ s.farKept t) ∧
  (∀ (s : State) (h : PdHead),
    s.listening h.n = true →
    ((s.pd h.n).lastSoft && s.repeated h.n 0 h.id) = false →
    (s.pstate h.n = 5 → s.unapplied h.n = false) →
    s.pstate h.n ≠ 19 →
    s.pstate h.n ≠ 12 →
    s.isService h.n = false →
    Next (.softReset h) s fun t =>
      (t.pd h.n).out = [bareMsg .acceptSoft] ∧ (t.pd h.n).txId = [0, 0, 0] ∧ (t.pd h.n).rxId = [some h.id.toNat, none, none] ∧ t.pstate h.n = 10 ∧
      t.get (PPD_COUNT.SOFT h.n) = min (s.get (PPD_COUNT.SOFT h.n) + 1) (2 ^ (PPD_COUNT.SOFT h.n).w - 1) ∧
      s.portsBut t [h.n] ∧ s.regsBut t [PPD_STATUS.at h.n, PPD_COUNT.at h.n] ∧ t = { s with regs := t.regs, ports := t.ports }) ∧
  (∀ (s : State) (h : PdHead),
    s.listening h.n = true →
    ((s.pd h.n).lastSoft && s.repeated h.n 0 h.id) = true →
    Next (.softReset h) s fun t => t = s) ∧
  (∀ (s : State) (h : PdHead),
    s.listening h.n = true →
    ((s.pd h.n).lastSoft && s.repeated h.n 0 h.id) = false →
    s.pstate h.n = 5 →
    (s.pd h.n).acked = true →
    s.unapplied h.n = true →
    s.mayHardReset h.n →
    Next (.softReset h) s fun t =>
      s.beganHardReset t h.n ∧ s.regsKept t (policyArea h.n) ∧ s.farKept t) ∧
  (∀ (s : State) (h : PdHead),
    s.listening h.n = true →
    ((s.pd h.n).lastSoft && s.repeated h.n 0 h.id) = false →
    s.pstate h.n = 5 →
    (s.pd h.n).acked = false →
    s.unapplied h.n = true →
    s.isService h.n = false →
    Next (.softReset h) s fun t =>
      (t.pd h.n).out = [bareMsg .acceptSoft] ∧ t.pstate h.n = 10 ∧ (t.pd h.n).trans = none ∧ t.rd (PPD_CONTRACT.at h.n) = s.rd (PPD_CONTRACT.at h.n) ∧
      t.ports[h.n].applyQ.any (fun o => o.cls == clsSETP || o.cls == clsLIM) = false ∧ t.ports[h.n].shadow = none ∧ t.ports[h.n].armed = none ∧
      s.regsKept t (policyArea h.n) ∧ s.farKept t) ∧
  (∀ (s : State) (h : PdHead),
    s.hears h →
    s.pstate h.n = 6 →
    s.isService h.n = false →
    Next (.drSwap h) s fun t =>
      t.pstate h.n = 11 ∧ s.sends t h.n [{ name := if s.bit (PPD_CFG.DRACC h.n) then .acceptSwap else .reject, sop := 0, objs := [] }] ∧ s.noted t h ∧
      s.portsBut t [h.n] ∧ s.regsBut t [PPD_STATUS.at h.n] ∧ t = { s with regs := t.regs, ports := t.ports }) ∧
  (∀ (s : State) (h : PdHead),
    s.hears h →
    s.group h.n = .brace →
    Next (.drSwap h) s fun t =>
      s.answers t h [bareMsg .wait]) ∧
  (∀ (s : State) (h : PdHead),
    s.hears h →
    s.group h.n = .dorm →
    Next (.drSwap h) s fun t =>
      s.answers t h [bareMsg .reject]) ∧
  (∀ (s : State) (n : Fin 16),
    (s.pd n).held = [5] →
    s.halted n.val = false →
    (s.pd n).ams = none →
    s.pstate n = 6 →
    Next (.drSwapRetry n) s fun t =>
      (t.pd n).drRetries = (s.pd n).drRetries + 1 ∧
      (s.isSource n = true → s.hasContract n = true → s.rev3 n = true → (t.pd n).held = [101] ∧ t.get (PCC_STATUS.RPOUT n) = 2 ∧ s.sends t n []) ∧
      (s.isSource n = true → s.hasContract n = false → s.isService n = false → (t.pd n).held = [] ∧ t.pstate n = 11 ∧ s.sends t n [bareMsg .drSwap]) ∧
      s.portsBut t [n] ∧ s.regsBut t [PPD_STATUS.at n, PCC_STATUS.at n] ∧ t = { s with regs := t.regs, ports := t.ports })

/-- The answers that end an AMS of the port: Accept, Reject, Wait, PS_RDY, Not_Supported (R143, R144, R146, R148). The model's choices in it:
assumption log 42 and 44. -/
def Obligations.AnswersToThePort : Prop :=
  (∀ (s : State) (h : PdHead),
    s.hears h →
    s.pstate h.n = 10 →
    (s.pd h.n).ams = some .softReset →
    s.isService h.n = false →
    Next (.acceptMsg h) s fun t =>
      t.pstate h.n = 3 ∧ (t.pd h.n).acked = false ∧ s.noted t h ∧
      s.sends t h.n [{ name := if s.bit (PPD_STATUS.EPRMODE h.n) then .eprSourceCap else .sourceCap, sop := 0, objs := t.offerObjs h.n }] ∧
      s.portsBut t [h.n] ∧ s.regsKept t (inPort h.n) ∧ t = { s with regs := t.regs, ports := t.ports }) ∧
  (∀ (s : State) (h : PdHead),
    s.hears h →
    s.pstate h.n = 11 →
    (s.pd h.n).ams = some .drSwap →
    s.isService h.n = false →
    s.nothingHeld h.n →
    Next (.acceptMsg h) s fun t =>
      t.bit (PPD_STATUS.DROLE h.n) = !s.bit (PPD_STATUS.DROLE h.n) ∧ t.pstate h.n = 6 ∧ (t.pd h.n).ams = none ∧ s.noted t h ∧ s.sends t h.n [] ∧
      s.portsBut t [h.n] ∧ s.regsBut t [PPD_STATUS.at h.n, PCC_STATUS.at h.n] ∧ t = { s with regs := t.regs, ports := t.ports }) ∧
  (∀ (s : State) (h : PdHead),
    s.hears h →
    s.pstate h.n = 15 →
    (s.pd h.n).ams = none →
    s.ports[h.n].rom = false →
    Next (.acceptMsg h) s fun t =>
      t.pstate h.n = 16 ∧ s.noted t h ∧ s.sends t h.n [] ∧ s.portsBut t [h.n] ∧ s.regsBut t [PPD_STATUS.at h.n] ∧ t = { s with regs := t.regs, ports := t.ports }) ∧
  (∀ (s : State) (h : PdHead),
    s.hears h →
    s.pstate h.n = 6 →
    (s.pd h.n).ams = none →
    s.isService h.n = false →
    Next (.acceptMsg h) s fun t =>
      s.sentSoft t h.n) ∧
  (∀ (s : State) (h : PdHead),
    s.hears h →
    s.pstate h.n = 15 →
    (s.pd h.n).ams = none →
    s.ports[h.n].rom = false →
    s.nothingHeld h.n →
    Next (.rejectMsg h) s fun t =>
      t.pstate h.n = (if s.hasContract h.n then 17 else 14) ∧ s.noted t h ∧ s.sends t h.n [] ∧
      s.portsBut t [h.n] ∧ s.regsBut t [PPD_STATUS.at h.n] ∧ t = { s with regs := t.regs, ports := t.ports }) ∧
  (∀ (s : State) (h : PdHead),
    s.hears h →
    s.pstate h.n = 11 →
    (s.pd h.n).ams = some .drSwap →
    s.isService h.n = false →
    s.hasContract h.n = true →
    s.nothingHeld h.n →
    Next (.rejectMsg h) s fun t =>
      t.pstate h.n = 6 ∧ (t.pd h.n).ams = none ∧ (t.pd h.n).held = [] ∧ t.bit (PPD_STATUS.DROLE h.n) = s.bit (PPD_STATUS.DROLE h.n) ∧ s.noted t h ∧
      s.portsBut t [h.n] ∧ s.regsBut t [PPD_STATUS.at h.n, PCC_STATUS.at h.n] ∧ t = { s with regs := t.regs, ports := t.ports }) ∧
  (∀ (s : State) (h : PdHead),
    s.hears h →
    s.pstate h.n = 15 →
    (s.pd h.n).ams = none →
    s.ports[h.n].rom = false →
    (s.pd h.n).held = [] →
    Next (.waitMsg h) s fun t =>
      t.pstate h.n = (if s.hasContract h.n then 17 else 15) ∧ (t.pd h.n).held = [6] ∧ s.noted t h ∧ s.sends t h.n [] ∧
      s.portsBut t [h.n] ∧ s.regsBut t [PPD_STATUS.at h.n] ∧ t = { s with regs := t.regs, ports := t.ports }) ∧
  (∀ (s : State) (h : PdHead),
    s.hears h →
    s.pstate h.n = 11 →
    (s.pd h.n).ams = some .drSwap →
    s.isService h.n = false →
    s.hasContract h.n = true →
    s.nothingHeld h.n →
    Next (.waitMsg h) s fun t =>
      t.pstate h.n = 6 ∧ (t.pd h.n).ams = none ∧ (t.pd h.n).held = (if (s.pd h.n).drRetries < 3 then [5] else []) ∧ s.noted t h ∧
      s.portsBut t [h.n] ∧ s.regsBut t [PPD_STATUS.at h.n, PCC_STATUS.at h.n] ∧ t = { s with regs := t.regs, ports := t.ports }) ∧
  (∀ (s : State) (h : PdHead) (pos v10 ma : Nat) (mm : Bool),
    s.hears h →
    s.pstate h.n = 16 →
    s.ports[h.n].rom = false →
    (s.pd h.n).sinkWant = some (pos, v10, ma, mm) →
    s.driveOk h.n = true →
    s.nothingHeld h.n →
    Next (.psRdy h) s fun t =>
      t.pstate h.n = 17 ∧ t.get (PPD_STATUS.CONTRACT h.n) = (if 7 < pos then 2 else 1) ∧ t.get (PPD_STATUS.KIND h.n) = 0 ∧ t.get (PPD_STATUS.HRCOUNT h.n) = 0 ∧
      t.rd (PPD_CONTRACT.at h.n) = sinkRdo pos ma mm ∧ t.get (PPD_CONTRACTVI.V10 h.n) = v10 % 2 ^ (PPD_CONTRACTVI.V10 h.n).w ∧
      t.get (PPD_CONTRACTVI.MA h.n) = ma % 2 ^ (PPD_CONTRACTVI.MA h.n).w ∧ t.eaveLive h.n = true ∧ s.noted t h ∧
      s.portsBut t [h.n] ∧ s.regsKept t (fun a => inPort h.n a || inSlices a) ∧ s.farKept t) ∧
  (∀ (s : State) (h : PdHead),
    s.hears h →
    s.pstate h.n = 6 →
    s.isService h.n = false →
    Next (.psRdy h) s fun t =>
      s.sentSoft t h.n) ∧
  (∀ (s : State) (h : PdHead),
    s.hears h →
    s.pstate h.n = 6 →
    (s.pd h.n).ams = none →
    Next (.notSupported h) s fun t =>
      s.answers t h []) ∧
  (∀ (s : State) (h : PdHead) (a : MsgName),
    s.hears h →
    s.pstate h.n = 6 →
    (s.pd h.n).ams = some a →
    s.isService h.n = false →
    s.nothingHeld h.n →
    Next (.notSupported h) s fun t =>
      t.pstate h.n = 6 ∧ (t.pd h.n).ams = none ∧ s.noted t h ∧ s.sends t h.n [] ∧
      s.portsBut t [h.n] ∧ s.regsBut t [PPD_STATUS.at h.n, PCC_STATUS.at h.n] ∧ t = { s with regs := t.regs, ports := t.ports })

/-- What a port answers to questions about itself (R145, R146, R151, R156): its columns READY, BRACE, SNK and DORM. The model's choices in it: assumption log
3, 45 and 136. -/
def Obligations.QuestionsToThePort : Prop :=
  (∀ (s : State) (h : PdHead),
    s.hears h →
    s.pstate h.n ≠ 19 →
    Next (.ping h) s fun t =>
      s.answers t h []) ∧
  (∀ (s : State) (h : PdHead),
    s.hears h →
    s.group h.n = .ready →
    Next (.getSourceCap h) s fun t =>
      t.pstate h.n = 6 ∧ s.noted t h ∧ s.sends t h.n [{ name := if s.bit (PPD_STATUS.EPRMODE h.n) then .eprSourceCap else .sourceCap, sop := 0, objs := t.offerObjs h.n }] ∧
      s.portsBut t [h.n] ∧ s.regsKept t (inPort h.n) ∧ t = { s with regs := t.regs, ports := t.ports }) ∧
  (∀ (s : State) (h : PdHead),
    s.hears h →
    s.group h.n = .snk →
    Next (.getSourceCap h) s fun t =>
      s.answers t h [bareMsg .notSupported]) ∧
  (∀ (s : State) (h : PdHead),
    s.hears h →
    s.group h.n = .snk →
    Next (.getSinkCap h) s fun t =>
      s.answers t h [sopMsg .sinkCap (s.sinkPdos h.n)]) ∧
  (∀ (s : State) (h : PdHead),
    s.hears h →
    s.group h.n = .dorm →
    Next (.getSinkCap h) s fun t =>
      s.answers t h [sopMsg .sinkCap ([BitVec.ofNat 32 (100 * 1024 + s.svcIlim h.n.val / 10)])]) ∧
  (∀ (s : State) (h : PdHead),
    s.hears h →
    s.group h.n = .ready ∨ s.group h.n = .brace →
    Next (.getSinkCap h) s fun t =>
      s.answers t h [bareMsg .notSupported]) ∧
  (∀ (s : State) (h : PdHead),
    s.hears h →
    s.group h.n = .ready ∨ s.group h.n = .brace ∨ s.group h.n = .snk ∨ s.group h.n = .dorm →
    Next (.unsupportedMessage h) s fun t =>
      s.answers t h [bareMsg .notSupported]) ∧
  (∀ (s : State) (h : PdHead),
    s.hears h →
    s.group h.n = .startup →
    s.isService h.n = false →
    Next (.unsupportedMessage h) s fun t =>
      s.sentSoft t h.n) ∧
  (∀ (s : State) (h : PdHead),
    s.hears h →
    s.group h.n = .ready ∨ s.group h.n = .brace →
    s.rev3With h = true →
    Next (.getSourceCapExtended h) s fun t =>
      s.answers t h [sopMsg .sourceCapExt ((s.freeWords 7).1)] ∧ t.freeCtr = s.freeCtr + 7) ∧
  (∀ (s : State) (h : PdHead),
    s.hears h →
    s.group h.n = .ready →
    s.rev3With h = false →
    Next (.getSourceCapExtended h) s fun t =>
      s.answers t h [bareMsg .notSupported]) ∧
  (∀ (s : State) (h : PdHead),
    s.hears h →
    s.group h.n = .ready ∨ s.group h.n = .snk →
    s.rev3With h = false →
    Next (.getStatus h) s fun t =>
      s.answers t h [bareMsg .notSupported]) ∧
  (∀ (s : State) (h : PdHead),
    s.hears h →
    s.group h.n = .ready ∨ s.group h.n = .snk →
    s.rev3With h = false →
    Next (.getManufacturerInfo h) s fun t =>
      s.answers t h [bareMsg .notSupported]) ∧
  (∀ (s : State) (h : PdHead),
    s.hears h →
    s.group h.n = .ready ∨ s.group h.n = .snk →
    s.rev3With h = true →
    Next (.getStatus h) s fun t =>
      s.answers t h [sopMsg .status (((wordAt (s.freeWords 2).1 0 &&& ~~~0x200#32) ||| (if s.bit (PPD_STATUS.INWARN h.n) then 0 else 0x200#32)) :: (s.freeWords 2).1.drop 1)] ∧
      t.freeCtr = s.freeCtr + 2) ∧
  (∀ (s : State) (h : PdHead),
    s.hears h →
    s.group h.n = .ready →
    s.rev3With h = true →
    s.hasContract h.n = true →
    s.get (PPD_STATUS.KIND h.n) = 1 →
    Next (.getPpsStatus h) s fun t =>
      s.answers t h [{ name := .ppsStatus, sop := 0, objs := [(wordAt (s.freeWords 1).1 0 &&& ~~~0x08000000#32) |||
        (if s.bit (PLP_STATUS.CTRLI h.n) && s.get (PLP_STATUS.MODE h.n) == 2 then 0x08000000#32 else 0)] }]) ∧
  (∀ (s : State) (h : PdHead),
    s.hears h →
    s.group h.n = .ready →
    s.rev3With h = false ∨ s.hasContract h.n = false ∨ s.get (PPD_STATUS.KIND h.n) ≠ 1 →
    Next (.getPpsStatus h) s fun t =>
      s.answers t h [bareMsg .notSupported]) ∧
  (∀ (s : State) (h : PdHead),
    s.hears h →
    s.group h.n = .snk →
    s.rev3With h = true →
    Next (.getSinkCapExtended h) s fun t =>
      s.answers t h [sopMsg .sinkCapExt ((s.freeWords 6).1)]) ∧
  (∀ (s : State) (h : PdHead),
    s.hears h →
    s.group h.n = .ready ∨ s.group h.n = .brace →
    Next (.getSourceInfo h) s fun t =>
      s.answers t h [sopMsg .sourceInfo ([(wordAt (s.freeWords 1).1 0 &&& 0x7F00FFFF#32) ||| BitVec.ofNat 32 (min 255 (fieldOf (s.policyHead h.n) 31 16) * 65536)])]) ∧
  (∀ (s : State) (h : PdHead),
    s.hears h →
    s.group h.n ≠ .neg →
    s.group h.n ≠ .none →
    Next (.getRevision h) s fun t =>
      s.answers t h [sopMsg .revision ([0x31180000])]) ∧
  (∀ (s : State) (h : PdHead),
    s.hears h →
    s.group h.n = .ready ∨ s.group h.n = .snk →
    s.rev3With h = true →
    Next (.getManufacturerInfo h) s fun t =>
      s.answers t h [sopMsg .manufacturerInfo (BitVec.ofNat 32 (s.get (PPD_VDMCFG.VID h.n) + s.pid * 65536) :: (if s.lns8 then [0x2D534E4C, 0x38] else [0x2D534E4C, 0x3631]))]) ∧
  (∀ (s : State) (h : PdHead),
    s.hears h →
    s.group h.n = .ready →
    fieldOf (s.policyHead h.n) 6 6 = 1 →
    s.rev3With h = true →
    Next (.eprGetSourceCap h) s fun t =>
      t.pstate h.n = 6 ∧ s.noted t h ∧ s.sends t h.n [sopMsg .eprSourceCap (t.offerObjs h.n)] ∧
      s.portsBut t [h.n] ∧ s.regsKept t (inPort h.n) ∧ t = { s with regs := t.regs, ports := t.ports }) ∧
  (∀ (s : State) (h : PdHead),
    s.hears h →
    s.group h.n = .ready →
    fieldOf (s.policyHead h.n) 6 6 ≠ 1 ∨ s.rev3With h = false →
    Next (.eprGetSourceCap h) s fun t =>
      s.answers t h [bareMsg .notSupported]) ∧
  (∀ (s : State) (h : PdHead),
    s.hears h →
    s.group h.n = .ready ∨ s.group h.n = .brace ∨ s.group h.n = .snk ∨ s.group h.n = .dorm →
    Next (.eprGetSinkCap h) s fun t =>
      s.answers t h [bareMsg .notSupported]) ∧
  (∀ (s : State) (h : PdHead),
    s.hears h →
    s.group h.n = .ready →
    s.bit (PPD_CFG.ALERTGS h.n) = false →
    Next (.alertMsg h) s fun t =>
      s.answers t h []) ∧
  (∀ (s : State) (h : PdHead),
    s.hears h →
    s.group h.n = .ready →
    s.bit (PPD_CFG.ALERTGS h.n) = true →
    (s.pd h.n).firstSeen = true →
    s.rev3 h.n = true →
    (s.pd h.n).ams = none →
    (s.pd h.n).held = [] →
    s.isSource h.n = true →
    s.hasContract h.n = true →
    Next (.alertMsg h) s fun t =>
      (t.pd h.n).held = [103] ∧ t.get (PCC_STATUS.RPOUT h.n) = 2 ∧ s.noted t h ∧ s.sends t h.n [] ∧
      s.portsBut t [h.n] ∧ s.regsBut t [PCC_STATUS.at h.n] ∧ t = { s with regs := t.regs, ports := t.ports }) ∧
  (∀ (s : State) (h : PdHead) (carrier : Bool),
    s.hears h →
    s.group h.n = .ready →
    Next (.bist h carrier) s fun t =>
      s.answers t h [] ∧
      (t.pd h.n).bist = ((s.pd h.n).bist || s.bit (PPD_CFG.BISTEN h.n) && (!s.hasContract h.n || s.get (PPD_CONTRACTVI.V10 h.n) == 500) && carrier)) ∧
  (∀ (s : State) (n : Fin 16),
    s.halted n.val = false →
    Next (.bistContModeEnd n) s fun t =>
      t.pd n = { s.pd n with bist := false } ∧ s.portsBut t [n] ∧ t = { s with ports := t.ports }) ∧
  (∀ (s : State) (h : PdHead),
    s.hears h →
    s.group h.n = .ready →
    (∀ k : Nat, (s.pd h.n).ams ≠ some (.ordered k)) →
    Next (.informationalMessage h none) s fun t =>
      s.answers t h []) ∧
  (∀ (s : State) (h : PdHead) (w : Word),
    s.hears h →
    s.group h.n = .ready →
    (s.pd h.n).ams = some .getStatus →
    s.isService h.n = false →
    s.nothingHeld h.n →
    Next (.informationalMessage h (some w)) s fun t =>
      t.rd (PPD_PSTATUS.at h.n) = w ∧ (t.pd h.n).ams = none ∧ t.pstate h.n = 6 ∧ s.noted t h ∧ s.sends t h.n [] ∧
      s.portsBut t [h.n] ∧ s.regsBut t [PPD_PSTATUS.at h.n, PPD_STATUS.at h.n, PCC_STATUS.at h.n] ∧ t = { s with regs := t.regs, ports := t.ports }) ∧
  (∀ (s : State) (n : Fin 16),
    Next (.cableReset n) s fun t =>
      t = s)

/-- The sink policy of a service port: capabilities and the Request they bring, the waits, the Sink Hard Reset (R148, R149, R152). The model's choices in it:
assumption log 21, 46, 54 and 142. -/
def Obligations.SinkPolicy : Prop :=
  (∀ (s : State) (h : PdHead) (caps : List Word),
    s.hears h →
    s.group h.n = .snk →
    s.ports[h.n].rom = false →
    Next (.sourceCapabilities h (.plain caps)) s fun t =>
      let c := s.sinkChoice h.n caps
      t.pstate h.n = 15 ∧ (t.pd h.n).ams = none ∧ (t.pd h.n).sinkWant = some c ∧ s.sends t h.n [sopMsg .request ([sinkRdo c.1 c.2.2.1 c.2.2.2])] ∧
      (∀ k : Fin 11, t.rd (PPD_OFFER.at h.n k.val) = caps.getD k.val 0) ∧ s.noted t h ∧
      s.portsBut t [h.n] ∧ s.regsKept t (inPort h.n) ∧ t = { s with regs := t.regs, ports := t.ports }) ∧
  (∀ (s : State) (h : PdHead) (size : BitVec 9) (data : List Byte),
    s.hears h →
    s.group h.n = .snk →
    s.ports[h.n].rom = false →
    size.toNat ≤ data.length →
    Next (.sourceCapabilities h (.chunk 0 size data)) s fun t =>
      t.pstate h.n = 15 ∧ (t.pd h.n).sinkWant = some (s.sinkChoice h.n (wordsOf (data.take size.toNat))) ∧ (t.pd h.n).chunkRx = none ∧ s.noted t h ∧
      s.portsBut t [h.n] ∧ s.regsKept t (inPort h.n) ∧ t = { s with regs := t.regs, ports := t.ports }) ∧
  (∀ (s : State) (h : PdHead) (num : BitVec 4) (size : BitVec 9) (data : List Byte),
    s.hears h →
    s.group h.n = .snk →
    num ≠ 0 →
    (s.pd h.n).chunkRx = some num.toNat →
    (s.pd h.n).rxBuf.length + data.length < size.toNat →
    Next (.sourceCapabilities h (.chunk num size data)) s fun t =>
      s.answers t h [{ name := .chunkRequest, sop := 0, objs := [BitVec.ofNat 32 (num.toNat + 1)] }] ∧
      (t.pd h.n).chunkRx = some (num.toNat + 1) ∧ (t.pd h.n).rxBuf = (s.pd h.n).rxBuf ++ data) ∧
  (∀ (s : State) (h : PdHead) (caps : CapsIn),
    s.hears h →
    s.group h.n = .ready →
    s.isService h.n = false →
    Next (.sourceCapabilities h caps) s fun t =>
      s.sentSoft t h.n) ∧
  (∀ (s : State) (n : Fin 16),
    s.sink n = 14 →
    s.get (PPD_STATUS.HRCOUNT n) < 2 →
    s.halted n.val = false →
    s.isService n = true →
    Next (.tsinkWaitCap n) s fun t =>
      t.sink n = 18 ∧ t.get (PPD_STATUS.HRCOUNT n) = s.get (PPD_STATUS.HRCOUNT n) + 1 ∧ t.eaveLive n = false ∧ t.stageOn n = false ∧
      t.get (PPD_STATUS.CONTRACT n) = 0 ∧ s.regsKept t (policyArea n) ∧ s.farKept t) ∧
  (∀ (s : State) (n : Fin 16) (pos v10 ma : Nat) (mm : Bool),
    (s.pd n).held = [6] →
    s.halted n.val = false →
    s.pstate n = 15 ∨ s.pstate n = 17 →
    s.ports[n].rom = false →
    (s.pd n).sinkWant = some (pos, v10, ma, mm) →
    Next (.tsinkRequest n) s fun t =>
      t.pstate n = 15 ∧ (t.pd n).held = [] ∧ s.sends t n [sopMsg .request ([sinkRdo pos ma mm])] ∧
      s.portsBut t [n] ∧ s.regsBut t [PPD_STATUS.at n] ∧ t = { s with regs := t.regs, ports := t.ports }) ∧
  (∀ (s : State) (n : Fin 16),
    s.sink n = 16 →
    s.halted n.val = false →
    s.isService n = true →
    3 ≤ s.get (PPD_STATUS.HRCOUNT n) →
    Next (.tpsTransition n) s fun t =>
      t.sink n = 14 ∧ t.get (PPD_STATUS.HRCOUNT n) = s.get (PPD_STATUS.HRCOUNT n) ∧ s.portsBut t [n] ∧ s.regsBut t [PPD_STATUS.at n] ∧
      t = { s with regs := t.regs, ports := t.ports }) ∧
  (∀ (s : State) (n : Fin 16),
    s.sink n = 16 →
    s.halted n.val = false →
    s.isService n = true →
    s.get (PPD_STATUS.HRCOUNT n) < 3 →
    Next (.tpsTransition n) s fun t =>
      t.sink n = 18 ∧ t.eaveLive n = false ∧ t.stageOn n = false ∧ t.get (PPD_STATUS.CONTRACT n) = 0 ∧
      s.regsKept t (policyArea n) ∧ s.farKept t) ∧
  (∀ (s : State) (n : Fin 16),
    s.sink n = 18 →
    s.halted n.val = false →
    Next (.sinkHrVbusReturn n) s fun t =>
      t.sink n = 14 ∧ (t.pd n).out = [] ∧ (t.pd n).txId = [0, 0, 0] ∧ s.portsBut t [n] ∧ s.regsBut t [PPD_STATUS.at n] ∧
      t = { s with regs := t.regs, ports := t.ports }) ∧
  (∀ (s : State) (n : Fin 16),
    s.sink n = 18 →
    s.halted n.val = false →
    Next (.sinkHrVbusHeld n) s fun t =>
      t.sink n = 14 ∧ (t.pd n).out = [] ∧ (t.pd n).txId = [0, 0, 0] ∧ s.portsBut t [n] ∧ s.regsBut t [PPD_STATUS.at n] ∧
      t = { s with regs := t.regs, ports := t.ports }) ∧
  (∀ (s : State) (n : Fin 16),
    s.sink n = 18 →
    s.halted n.val = false →
    s.isService n = true →
    Next (.tsnkhrwait n) s fun t =>
      t.cc n = (if s.someRd n && !s.ports[n].val.first then ccAttachWaitSnk else ccUnattachedSnk) ∧ t.pstate n = 0 ∧ t.eaveLive n = false ∧ t.stageOn n = false ∧
      s.regsKept t (policyArea n) ∧ s.farKept t)

/-- The policy commands of a host port and the input warning (R141, R142, R144, R155, R156, R160, R163). The model's choices in it: assumption log 47
and 55. -/
def Obligations.PolicyCommandsAndWarning : Prop :=
  (∀ (s : State) (hp : HostPort) (n : Fin 16),
    s.takes hp (PPD_CMD.at n) 1 →
    s.pstate n = 6 →
    s.isSource n = true →
    s.hasContract n = true →
    s.rev3 n = true →
    (s.pd n).ams = none →
    (s.pd n).held = [] →
    Next (.sendcaps hp n) s fun t =>
      (t.pd n).held = [100] ∧ t.get (PCC_STATUS.RPOUT n) = 2 ∧ s.hostSays t hp stOK 0 s.ports[n].gen ∧
      s.portsBut t [n] ∧ s.passOp.regsBut t [PCC_STATUS.at n] ∧ t = { s.passOp with regs := t.regs, host := t.host, ports := t.ports }) ∧
  (∀ (s : State) (hp : HostPort) (n : Fin 16),
    s.takes hp (PPD_CMD.at n) 1 →
    s.pstate n = 4 →
    s.isSource n = true →
    (s.pd n).held = [] →
    Next (.sendcaps hp n) s fun t =>
      (t.pd n).held = [0] ∧ s.hostSays t hp stOK 0 s.ports[n].gen ∧ s.portsBut t [n] ∧ t = { s.passOp with host := t.host, ports := t.ports }) ∧
  (∀ (s : State) (hp : HostPort) (n : Fin 16),
    s.takes hp (PPD_CMD.at n) 2 →
    s.pstate n ≠ 0 →
    s.mayHardReset n →
    Next (.hardreset hp n) s fun t =>
      s.beganHardReset t n ∧ s.hostSays t hp stOK 0 s.ports[n].gen ∧ s.passOp.regsKept t (policyArea n) ∧ s.farButHost t) ∧
  (∀ (s : State) (hp : HostPort) (n : Fin 16),
    s.takes hp (PPD_CMD.at n) 4 →
    s.listening n = true →
    s.pstate n ≠ 6 →
    s.pstate n ≠ 12 →
    s.isService n = false →
    Next (.softreset hp n) s fun t =>
      (t.pd n).out = [bareMsg .softReset] ∧ (t.pd n).ams = some .softReset ∧ t.pstate n = 10 ∧ s.hostSays t hp stOK 0 s.ports[n].gen ∧
      s.portsBut t [n] ∧ s.passOp.regsBut t [PPD_STATUS.at n, PPD_COUNT.at n] ∧ t = { s.passOp with regs := t.regs, host := t.host, ports := t.ports }) ∧
  (∀ (s : State) (hp : HostPort) (n : Fin 16),
    s.takes hp (PPD_CMD.at n) 8 →
    s.pstate n = 6 →
    s.isService n = false →
    s.hasContract n = false →
    (s.pd n).ams = none →
    (s.pd n).held = [] →
    Next (.drswap hp n) s fun t =>
      t.pstate n = 11 ∧ (t.pd n).drRetries = 0 ∧ (t.pd n).ams = some .drSwap ∧ s.sends t n [bareMsg .drSwap] ∧ s.hostSays t hp stOK 0 s.ports[n].gen ∧
      s.portsBut t [n] ∧ s.passOp.regsBut t [PPD_STATUS.at n] ∧ t = { s.passOp with regs := t.regs, host := t.host, ports := t.ports }) ∧
  (∀ (s : State) (hp : HostPort) (n : Fin 16),
    s.takes hp (PPD_CMD.at n) 8 →
    s.pstate n = 4 →
    (s.pd n).held = [] →
    Next (.drswap hp n) s fun t =>
      (t.pd n).held = [3] ∧ (t.pd n).drRetries = 0 ∧ s.sends t n [] ∧ s.hostSays t hp stOK 0 s.ports[n].gen ∧
      s.portsBut t [n] ∧ t = { s.passOp with host := t.host, ports := t.ports }) ∧
  (∀ (s : State) (hp : HostPort) (n : Fin 16),
    s.takes hp (PPD_CMD.at n) 16 →
    s.pstate n = 6 →
    s.bit (PPD_STATUS.EPRMODE n) = true →
    s.isSource n = true →
    s.hasContract n = true →
    s.rev3 n = true →
    (s.pd n).ams = none →
    (s.pd n).held = [] →
    s.get (PPD_CONTRACTVI.V10 n) ≤ 2000 →
    Next (.eprexit hp n) s fun t =>
      (t.pd n).held = [104] ∧ t.get (PCC_STATUS.RPOUT n) = 2 ∧ s.hostSays t hp stOK 0 s.ports[n].gen ∧
      s.portsBut t [n] ∧ s.passOp.regsBut t [PCC_STATUS.at n] ∧ t = { s.passOp with regs := t.regs, host := t.host, ports := t.ports }) ∧
  (∀ (s : State) (hp : HostPort) (n : Fin 16),
    s.takes hp (PPD_CMD.at n) 16 →
    s.bit (PPD_STATUS.EPRMODE n) = false →
    s.pstate n = 6 →
    s.amsBusy n = false →
    Next (.eprexit hp n) s fun t =>
      s.hostSays t hp stOK 0 s.ports[n].gen ∧ t = { s.passOp with host := t.host }) ∧
  (∀ (s : State) (hp : HostPort) (n : Fin 16),
    s.takes hp (PPD_CMD.at n) 16 →
    s.isSource n = true →
    s.pstate n ≠ 6 →
    (s.pd n).held = [] →
    Next (.eprexit hp n) s fun t =>
      (t.pd n).held = [4] ∧ s.hostSays t hp stOK 0 s.ports[n].gen ∧ s.portsBut t [n] ∧ t = { s.passOp with host := t.host, ports := t.ports }) ∧
  (∀ (s : State),
    0x107 ∉ s.bat.levels →
    Next .inputWarning s fun t =>
      0x107 ∈ t.bat.levels ∧ t.bat = (s.level 0x107 true 1).bat ∧
      (∀ n : Fin 16, t.bit (PPD_STATUS.INWARN n) = (s.bit (PPD_STATUS.INWARN n) || s.portUp n)) ∧
      s.regsKept t (within (portBase 0) (portBase 16)) ∧ t = { s with regs := t.regs, bat := t.bat, ports := t.ports }) ∧
  (∀ (s : State),
    s.warnHeld = false →
    0x107 ∈ s.bat.levels →
    Next .inwarnRelease s fun t =>
      0x107 ∉ t.bat.levels ∧ t.bat = (s.level 0x107 false).bat ∧
      (∀ n : Fin 16, t.bit (PPD_STATUS.INWARN n) = (s.bit (PPD_STATUS.INWARN n) && !s.portUp n)) ∧
      s.regsKept t (within (portBase 0) (portBase 16)) ∧ t = { s with regs := t.regs, bat := t.bat, ports := t.ports })

/-- Structured VDMs (R146, R157, R158, R159): discovery and the Praeth commands with OBSERVE. The model's choices in it: assumption log 3, 101, 102 and 154. -/
def Obligations.VendorMessages : Prop :=
  (∀ (s : State) (h : PdHead),
    s.hears h →
    s.group h.n = .ready ∨ s.group h.n = .snk →
    Next (.discoverIdentity h) s fun t =>
      s.answers t h [vdmMsg (if s.bit (PPD_VDMCFG.DISCID h.n) then
        [vdmHead svidStd 1 1, s.idHeader h.n (Config.freeValue s.freeCtr), 0, BitVec.ofNat 32 (s.pid * 2 ^ 16 + (s.rd GLB_SIREV.at).toNat % 65536)] else [vdmHead svidStd 2 1])]) ∧
  (∀ (s : State) (h : PdHead),
    s.hears h →
    s.group h.n = .ready ∨ s.group h.n = .snk →
    Next (.discoverSvids h) s fun t =>
      s.answers t h [vdmMsg [vdmHead svidStd 1 2, 0x3A7E0000]]) ∧
  (∀ (s : State) (h : PdHead),
    s.hears h →
    s.group h.n = .brace →
    Next (.discoverSvids h) s fun t =>
      s.answers t h [vdmMsg [vdmHead svidStd 3 2]]) ∧
  (∀ (s : State) (h : PdHead) (svid : BitVec 16) (cmd : BitVec 5),
    s.hears h →
    s.group h.n = .ready ∨ s.group h.n = .snk →
    Next (.discoverModes ⟨h, svid, cmd⟩) s fun t =>
      s.answers t h (if nakVdm svid.toNat cmd.toNat then [vdmMsg [vdmHead svid.toNat 2 cmd.toNat]] else [])) ∧
  (∀ (s : State) (h : PdHead) (svid : BitVec 16) (cmd : BitVec 5),
    s.hears h →
    s.group h.n = .brace →
    Next (.discoverModes ⟨h, svid, cmd⟩) s fun t =>
      s.answers t h (if nakVdm svid.toNat cmd.toNat then [vdmMsg [vdmHead svid.toNat 3 cmd.toNat]] else [])) ∧
  (∀ (s : State) (h : PdHead),
    s.hears h →
    s.pstate h.n ≠ 19 →
    Next (.attention h) s fun t =>
      s.answers t h []) ∧
  (∀ (s : State) (h : PdHead),
    s.observes h →
    Next (.infoVdm h) s fun t =>
      s.answers t h [vdmMsg [vdmHead svidPraeth 1 16, s.rd GLB_PARTID.at, BitVec.ofNat 32 ((s.rd GLB_SIREV.at).toNat % 65536 + h.n.val * 65536),
        s.rd GLB_SERIAL0.at, s.rd GLB_SERIAL1.at, s.rd GLB_SERIAL2.at, s.rd THA_IMGID.at]]) ∧
  (∀ (s : State) (h : PdHead),
    s.hears h →
    s.group h.n = .ready ∨ s.group h.n = .snk →
    s.get HST_AUTH.PDVDM = 0 →
    Next (.infoVdm h) s fun t =>
      s.answers t h [vdmMsg [vdmHead svidPraeth 2 16]]) ∧
  (∀ (s : State) (h : PdHead) (addr : BitVec 24),
    s.observes h →
    (s.pd h.n).firstSeen = true →
    s.vdmReads addr.toNat 1 = true →
    addr.toNat ≠ TRS_STAT.at →
    Next (.readVdm h addr 1) s fun t =>
      s.answers t h [vdmMsg [vdmHead svidPraeth 1 17, BitVec.ofNat 32 (addr.toNat + 2 ^ 24), s.readShared addr.toNat]]) ∧
  (∀ (s : State) (h : PdHead) (addr : BitVec 24) (count : BitVec 3),
    s.observes h →
    s.vdmReads addr.toNat count.toNat = false →
    Next (.readVdm h addr count) s fun t =>
      s.answers t h [vdmMsg [vdmHead svidPraeth 2 17]]) ∧
  (∀ (s : State) (h : PdHead) (mv ma temp vin : BitVec 16),
    s.observes h →
    Next (.telemVdm h mv ma temp vin) s fun t =>
      s.answers t h [vdmMsg [vdmHead svidPraeth 1 18, BitVec.ofNat 32 (mv.toNat + ma.toNat * 65536), s.rd (PPD_CONTRACT.at h.n),
        BitVec.ofNat 32 (temp.toNat + vin.toNat * 65536), BitVec.ofNat 32 (milliJ (s.meter h.n).etot),
        BitVec.ofNat 32 (milliJ (s.meter h.n).etot / 2 ^ 32 + s.get (MTR_PSTAT.BAND h.n) * 65536 + s.get (PPD_STATUS.INWARN h.n) * 2 ^ 24 + s.get (PPD_STATUS.EPRMODE h.n) * 2 ^ 25),
        BitVec.ofNat 32 s.soffit.sec]]) ∧
  (∀ (s : State) (h : PdHead) (band : BitVec 3),
    s.observes h →
    Next (.energyVdm h band) s fun t =>
      s.answers t h [vdmMsg [vdmHead svidPraeth 1 19, BitVec.ofNat 32 band.toNat, BitVec.ofNat 32 (milliJ ((s.meter h.n).bands.getD band.toNat 0)),
        BitVec.ofNat 32 (milliJ ((s.meter h.n).bands.getD band.toNat 0) / 2 ^ 32), BitVec.ofNat 32 (s.get (MTR_DEMAND.PEAK h.n))]])

/-- The recovery commands of a service port in state 20 (R158, R159, R443, R468). The model's choices in it: assumption log 83 and 102. -/
def Obligations.RecoveryDownload : Prop :=
  (∀ (s : State) (h : PdHead) (magic : BitVec 32),
    s.recovers h →
    Next (.recovEnter h magic) s fun t =>
      s.noted t h ∧ s.sends t h.n [vdmMsg [vdmHead svidPraeth (if magic = 0x52454356 then 1 else 2) 24]] ∧
      t.rd SOF_DBSTAT.at = (if magic = 0x52454356 then SOF_DBSTAT.RECOVREQ.set (s.rd SOF_DBSTAT.at) 1 else s.rd SOF_DBSTAT.at) ∧
      s.portsBut t [h.n] ∧ s.regsBut t [SOF_DBSTAT.at, PPD_STATUS.at h.n] ∧ t = { s with regs := t.regs, ports := t.ports }) ∧
  (∀ (s : State) (h : PdHead) (len crc : BitVec 32),
    s.recovers h →
    s.inDormer = true →
    s.beginCode = 0 →
    Next (.dlBegin h len crc) s fun t =>
      t.updState = usRECEIVING ∧ t.upd.sess = some { owner := 6, defer := false, man := [], block := [], stored := [], lenDecl := some len.toNat, crcDecl := some crc.toNat, crcAll := 0xFFFFFFFF } ∧
      t.upd.busy = true ∧ t.dirNow.sstate = 1 ∧ t.slot t.dirNow.stag = [] ∧ t.get UPD_NEXT.OFFS = 0 ∧ t.get UPD_RECV.BYTES = 0 ∧ t.get UPD_RESULT.CODE = 0 ∧
      t.get UPD_STAT.OWNER = 6 ∧ s.sends t h.n [vdmMsg [vdmHead svidPraeth 1 25, 4096]] ∧
      s.portsBut t [h.n] ∧ s.regsKept t (fun a => block 10 a || a == PPD_STATUS.at h.n) ∧ t = { s with regs := t.regs, ports := t.ports, upd := t.upd }) ∧
  (∀ (s : State) (h : PdHead) (len crc : BitVec 32),
    s.recovers h →
    s.inDormer = true →
    s.beginCode ≠ 0 →
    Next (.dlBegin h len crc) s fun t =>
      t.get UPD_RESULT.CODE = s.beginCode ∧ s.sends t h.n [vdmMsg [vdmHead svidPraeth 2 25]] ∧ s.noted t h ∧
      s.portsBut t [h.n] ∧ s.regsBut t [UPD_RESULT.at, PPD_STATUS.at h.n] ∧ t = { s with regs := t.regs, ports := t.ports }) ∧
  (∀ (s : State) (h : PdHead) (off : BitVec 24) (w0 w1 w2 w3 w4 : Word) (x : Session),
    s.recovers h →
    s.inDormer = true →
    s.upd.sess = some x →
    x.owner = 6 →
    off.toNat = s.get UPD_NEXT.OFFS →
    off.toNat % 4096 < 4076 →
    Next (.dlData h off [w0, w1, w2, w3, w4]) s fun t =>
      t.upd.sess = some { x with block := x.block ++ [w0, w1, w2, w3, w4] } ∧ t.get UPD_NEXT.OFFS = off.toNat + 20 ∧ t.get UPD_RECV.BYTES = off.toNat + 20 ∧
      s.sends t h.n [vdmMsg [vdmHead svidPraeth 1 26, BitVec.ofNat 32 (off.toNat + 20)]] ∧ s.noted t h ∧
      s.portsBut t [h.n] ∧ s.regsBut t [UPD_NEXT.at, UPD_RECV.at, PPD_STATUS.at h.n] ∧ t = { s with regs := t.regs, ports := t.ports, upd := t.upd }) ∧
  (∀ (s : State) (h : PdHead) (off : BitVec 24) (ws : List Word),
    s.recovers h →
    s.inDormer = true →
    s.vdmSession = true →
    off.toNat ≠ s.get UPD_NEXT.OFFS →
    Next (.dlData h off ws) s fun t =>
      t.get UPD_RESULT.CODE = 2 ∧ t.get UPD_NEXT.OFFS = s.get UPD_NEXT.OFFS ∧ s.sends t h.n [vdmMsg [vdmHead svidPraeth 2 26]] ∧
      s.portsBut t [h.n] ∧ s.regsBut t [UPD_RESULT.at, PPD_STATUS.at h.n] ∧ t = { s with regs := t.regs, ports := t.ports }) ∧
  (∀ (s : State) (h : PdHead) (len crc : BitVec 32) (x : Session),
    s.recovers h →
    s.inDormer = true →
    s.upd.sess = some x →
    x.owner = 6 →
    s.leading = false →
    len.toNat = manPkgLen x.man →
    crc.toNat = x.crcAll ^^^ 0xFFFFFFFF →
    Next (.dlEnd h len crc) s fun t =>
      t.upd.sess = none ∧ t.upd.busy = false ∧ t.get UPD_RESULT.CODE = (s.endCode x).1 % 2 ^ UPD_RESULT.CODE.w ∧
      ((s.endCode x).1 ≠ 0 → t.dirNow.sstate = 0 ∧ t.updState = usIDLE ∧ s.sends t h.n [vdmMsg [vdmHead svidPraeth 1 27, BitVec.ofNat 32 ((s.endCode x).1 % 2 ^ UPD_RESULT.CODE.w)]]) ∧
      t.otp = s.otp ∧ t.mtr = s.mtr ∧ t.pending = s.pending) ∧
  (∀ (s : State) (h : PdHead) (len crc : BitVec 32) (x : Session),
    s.recovers h →
    s.inDormer = true →
    s.upd.sess = some x →
    x.owner = 6 →
    s.leading = false →
    len.toNat ≠ manPkgLen x.man →
    Next (.dlEnd h len crc) s fun t =>
      t.upd.sess = none ∧ t.get UPD_RESULT.CODE = 4 ∧ t.dirNow.sstate = 0 ∧ t.updState = usIDLE ∧ t.bat = (s.fire 0x13B 4).bat ∧
      s.sends t h.n [vdmMsg [vdmHead svidPraeth 1 27, 4]] ∧ s.portsBut t [h.n] ∧ s.regsKept t (fun a => block 10 a || a == PPD_STATUS.at h.n) ∧
      (s.upd.chain = none → t.jtl = s.jtl) ∧ t = { s with regs := t.regs, ports := t.ports, bat := t.bat, upd := t.upd, jtl := t.jtl }) ∧
  (∀ (s : State) (h : PdHead),
    s.recovers h →
    Next (.dlStatus h) s fun t =>
      s.answers t h [vdmMsg [vdmHead svidPraeth 1 28, BitVec.ofNat 32 s.updState, s.rd UPD_RECV.at, BitVec.ofNat 32 (s.get UPD_RESULT.CODE)]])

/-- A period of a slice, its points, trips and blanking (R192, R194, R204 to R208, R211). The model's choices in it: assumption log 18, 28, 29, 116, 118 and
119. -/
def Obligations.SlicePeriods : Prop :=
  (∀ (s : State) (k : Fin 48) (n : Fin 16) (late : Nat) (dutyLate noSample : Bool),
    s.frozen k = false →
    s.slicePresent k = true →
    s.driver k = some n →
    s.slices[k].startPending = false →
    s.bit (RAF_STAT.RUN k) = true →
    Next (.periodStart k ⟨late, dutyLate, noSample⟩) s fun t =>
      t.get (RAF_CNT.COUNT k) = 0 ∧ t.bit (RAF_CNT.DIR k) = false ∧ t.bit (RAF_STAT.TRIPPED k) = s.slices[k].cut ∧ t.slices[k].cut = false ∧
      t.slices[k].periodNo = s.slices[k].periodNo + 1 ∧ t.slices[k].ton = onTime (t.get (RAF_DUTY.DUTY k)) t.slices[k].tNow ∧
      (s.noneStaged → late = 0 → s.leadFor k = k → (s.slices[k].periodNo + 1) % s.updN k = 0 →
        t.get (RAF_DUTY.DUTY k) = s.clampDuty k (if dutyLate then s.slices[k].dutyPrev else s.slices[k].dutyNext) % 2 ^ (RAF_DUTY.DUTY k).w) ∧
      (s.leadFor k = k → (s.slices[k].periodNo + 1) % s.updN k ≠ 0 → t.get (RAF_DUTY.DUTY k) = s.get (RAF_DUTY.DUTY k)) ∧
      s.portsBut t [n] ∧ s.regsKept t (fun a => inPort n a || inSlices a) ∧ t = { s with regs := t.regs, staged := t.staged, slices := t.slices, ports := t.ports }) ∧
  (∀ (s : State) (k : Fin 48) (n : Fin 16) (late : Nat) (dutyLate noSample : Bool),
    s.frozen k = false →
    s.slicePresent k = true →
    s.driver k = some n →
    s.leadFor k = k →
    s.slices[k].startPending = true →
    (s.legsOf n).all s.pllLocked = true →
    Next (.periodStart k ⟨late, dutyLate, noSample⟩) s fun t =>
      t.bit (RAF_STAT.RUN k) = true ∧ t.slices[k].startPending = false ∧ t.slices[k].periodNo = 0 ∧ t.get (RAF_CNT.COUNT k) = 0 ∧
      s.portsBut t [n] ∧ s.regsKept t (fun a => inPort n a || inSlices a) ∧ t = { s with regs := t.regs, staged := t.staged, slices := t.slices, ports := t.ports }) ∧
  (∀ (s : State) (k : Fin 48),
    s.frozen k = false →
    s.bit (RAF_STAT.RUN k) = true →
    s.slices[k].startPending = false →
    Next (.periodTop k) s fun t =>
      t.get (RAF_CNT.COUNT k) = s.get (RAF_PERIOD.PRD (s.leadFor k)) % 2 ^ (RAF_CNT.COUNT k).w ∧ t.bit (RAF_CNT.DIR k) = true ∧
      (s.bit (RAF_CTRL.UPDHALF (s.leadFor k)) = false → t.get (RAF_DUTY.DUTY k) = s.get (RAF_DUTY.DUTY k) ∧ t.slices[k].pOff = s.slices[k].pOff) ∧
      (∀ n : Fin 16, s.bit (RAF_CTRL.UPDHALF (s.leadFor k)) = true → s.updN (s.leadFor k) = 1 → s.slices[k].cut = false → s.driver k = some n →
        t.get (RAF_DUTY.DUTY k) =
          if 5632 + (s.osr n - 1) * 1280 ≤ s.slices[k].tNow / 2 then s.clampDuty k s.slices[k].dutyNext % 2 ^ (RAF_DUTY.DUTY k).w else s.get (RAF_DUTY.DUTY k)) ∧
      s.slicesBut t [k] ∧ s.regsBut t [RAF_CNT.at k, RAF_DUTY.at k, RAF_IFLG.at k, RAF_TRIPCNT.at k] ∧ t = { s with regs := t.regs, slices := t.slices }) ∧
  (∀ (s : State) (k : Fin 48) (pt : Fin 6) (down : Bool),
    s.frozen k = false →
    s.bit (RAF_STAT.RUN k) = true →
    s.pointOccurs k pt.val down = true →
    s.get (RAF_EVCFG.PRESC k) ≤ s.slices[k].presc.getD pt.val 0 →
    Next (.comparePoint k pt down) s fun t =>
      t.rd (RAF_IFLG.at k) = s.rd (RAF_IFLG.at k) ||| BitVec.ofNat 32 (2 ^ pt.val) ∧ t.slices[k].presc = s.slices[k].presc.set pt.val 0 ∧
      ((s.get (RAF_EVCFG.EVEN k)).testBit pt.val = false → t.bat = s.bat) ∧
      ((s.get (RAF_EVCFG.EVEN k)).testBit pt.val = true → s.mergesEvent k (s.pointTime k pt.val down) = false →
        t.bat = (s.fire (16 * ownerOf k + 12 + k.val % 3) pt.val).bat) ∧
      s.slicesBut t [k] ∧ s.regsBut t [RAF_IFLG.at k] ∧ t = { s with regs := t.regs, slices := t.slices, bat := t.bat }) ∧
  (∀ (s : State) (k : Fin 48) (pt : Fin 6) (down : Bool),
    s.frozen k = false →
    s.bit (RAF_STAT.RUN k) = true →
    s.pointOccurs k pt.val down = true →
    s.slices[k].presc.getD pt.val 0 < s.get (RAF_EVCFG.PRESC k) →
    Next (.comparePoint k pt down) s fun t =>
      t.slices[k].presc = s.slices[k].presc.set pt.val (s.slices[k].presc.getD pt.val 0 + 1) ∧ s.slicesBut t [k] ∧ t = { s with slices := t.slices }) ∧
  (∀ (s : State) (k : Fin 48) (input : Fin 2) (at_ : Nat) (n : Fin 16),
    s.bit (RAF_STAT.RUN k) = true →
    s.frozen k = false →
    s.slices[k].cut = false →
    (setBitTo s.slices[k].tripIn input.val true &&& s.get (RAF_CTRL.TRIPSEL k)) ≠ 0 →
    s.blanked k at_ = false →
    s.driver k = some n →
    s.get (BAT_TALLY0.THRESH (portTally n tallyRAFTRIP)) = 0 →
    Next (.cycleTrip ⟨k, at_⟩ input) s fun t =>
      t.slices[k].cut = true ∧ t.bit (RAF_IFLG.TRIP k) = true ∧
      (s.bit (RAF_CTRL.TRIPACT k) = true → t.slices[k].outA = false ∧ t.slices[k].outB = false ∧ t.slices[k].edges = []) ∧
      (s.bit (RAF_CTRL.TRIPACT k) = false → s.slices[k].pOn ≤ at_ → at_ < s.slices[k].pOff → 0 < s.get (RAF_DTNOW.FALL k) →
        t.slices[k].outA = false ∧ t.slices[k].edges = [{ time := (at_ : Int) + s.get (RAF_DTNOW.FALL k), b := true, on := true }]) ∧
      t.get (RAF_TRIPCNT.TRIPS k) = min (s.get (RAF_TRIPCNT.TRIPS k) + 1) (2 ^ (RAF_TRIPCNT.TRIPS k).w - 1) ∧ t.bat = (s.firePort n 15).bat ∧
      s.slicesBut t [k] ∧ s.regsBut t [RAF_IFLG.at k, RAF_TRIPCNT.at k] ∧ t = { s with regs := t.regs, slices := t.slices, bat := t.bat }) ∧
  (∀ (s : State) (k : Fin 48) (input : Fin 2) (at_ : Nat),
    s.slices[k].cut = true ∨ s.blanked k at_ = true →
    Next (.cycleTrip ⟨k, at_⟩ input) s fun t =>
      t.slices[k] = { s.slices[k] with tripIn := setBitTo s.slices[k].tripIn input.val true } ∧
      s.slicesBut t [k] ∧ t = { s with slices := t.slices }) ∧
  (∀ (s : State) (k : Fin 48) (at_ : Nat),
    (s.slices[k].tripIn &&& s.get (RAF_CTRL.TRIPSEL k)) = 0 →
    Next (.blankingEnd ⟨k, at_⟩) s fun t =>
      t = s) ∧
  (∀ (s : State) (k : Fin 48) (at_ : Nat) (n : Fin 16),
    s.frozen k = false →
    s.bit (RAF_STAT.RUN k) = true →
    s.slices[k].cut = false →
    (s.slices[k].tripIn &&& s.get (RAF_CTRL.TRIPSEL k)) ≠ 0 →
    s.blanked k at_ = false →
    s.driver k = some n →
    s.get (BAT_TALLY0.THRESH (portTally n tallyRAFTRIP)) = 0 →
    Next (.blankingEnd ⟨k, at_⟩) s fun t =>
      t.slices[k].cut = true ∧ (s.bit (RAF_CTRL.TRIPACT k) = true → t.slices[k].outA = false ∧ t.slices[k].outB = false) ∧
      t.bit (RAF_IFLG.TRIP k) = true ∧ t.bat = (s.firePort n 15).bat ∧
      s.slicesBut t [k] ∧ s.regsBut t [RAF_IFLG.at k, RAF_TRIPCNT.at k] ∧ t = { s with regs := t.regs, slices := t.slices, bat := t.bat })

/-- Start and stop of a stage, RAF_CMD.DISABLE, the delay lines, and the feedback faults with their confirmation (R212, R213, R220, R240 to R244, R252). The
model's choices in it: assumption log 29, 30, 32, 124, 139 and 157. -/
def Obligations.StageStartStopAndFaults : Prop :=
  (∀ (s : State) (n : Fin 16) (o : Op) (rest : List Op),
    s.ports[n].applyQ = o :: rest →
    o.cls = clsSW →
    o.sub = 4 →
    s.halted n.val = false →
    s.driveOk n = true →
    s.legFrozen n = false →
    Next (.stageStart n) s fun t =>
      t.ports[n].applyQ = rest ∧ t.get (PEV_STATUS.STATE n) = 1 ∧ t.bit (PLP_STATUS.PRE n) = true ∧ t.ports[n].loop.target = 500 * tenMv ∧
      t.get (PLP_STATUS.BANK n) = (s.entry n 0).loopIdx % 2 ^ (PLP_STATUS.BANK n).w ∧ t.bit (PEV_STATUS.DIR n) = s.isService n ∧
      (∀ k : Fin 48, k ∈ s.legsOf n → s.slicePresent k = true → t.slices[k].startPending = true ∧ t.slices[k].dutyNext = 0) ∧
      s.portsBut t [n] ∧ s.regsKept t (inPort n) ∧ t = { s with regs := t.regs, staged := t.staged, slices := t.slices, ports := t.ports }) ∧
  (∀ (s : State) (n : Fin 16) (o : Op) (rest : List Op),
    s.ports[n].applyQ = o :: rest →
    o.cls = clsSW →
    o.sub = 4 →
    s.driveOk n = false ∨ s.legFrozen n = true →
    Next (.stageStart n) s fun t => t = s) ∧
  (∀ (s : State) (n : Fin 16) (o : Op) (rest : List Op),
    s.ports[n].applyQ = o :: rest →
    o.cls = clsSW →
    o.sub = 5 →
    s.halted n.val = false →
    Next (.stageStop n) s fun t =>
      t.ports[n].applyQ = rest ∧ t.stageOn n = false ∧ t.get (PLP_STATUS.REGION n) = 3 ∧
      (∀ k : Fin 48, k ∈ s.legsOf n → s.frozen k = false → t.slices[k].outA = false ∧ t.slices[k].outB = false ∧ t.bit (RAF_STAT.RUN k) = false) ∧
      (∀ k : Fin 48, k ∈ s.legsOf n → s.frozen k = true → s.bit (RAF_STAT.RUN k) = true → t.slices[k] = { s.slices[k] with startPending := false, stopPending := true }) ∧
      s.portsBut t [n] ∧ s.regsKept t (fun a => inPort n a || inSlices a) ∧ t = { s with regs := t.regs, staged := t.staged, slices := t.slices, ports := t.ports }) ∧
  (∀ (s : State) (hp : HostPort) (k : Fin 48) (key : Byte) (n : Fin 16),
    s.takes hp (RAF_CMD.at k) (BitVec.ofNat 32 (key.toNat * 2 ^ 24 + 1)) →
    s.driver k = some n →
    s.halted n.val = false →
    s.cc n ≠ ccErrorRecovery →
    Next (.rafDisable hp k key) s fun t =>
      t.recovering n ∧ t.ports[n].faultPath = true ∧ s.hostSays t hp stOK 0 (s.genOf (RAF_CMD.at k)) ∧ s.passOp.regsKept t (policyArea n) ∧ s.farButHost t) ∧
  (∀ (s : State) (hp : HostPort) (k : Fin 48) (key : Byte),
    s.takes hp (RAF_CMD.at k) (BitVec.ofNat 32 (key.toNat * 2 ^ 24 + 1)) →
    s.driver k = none →
    Next (.rafDisable hp k key) s fun t =>
      s.hostSays t hp stOK 0 (s.genOf (RAF_CMD.at k)) ∧ t = { s.passOp with host := t.host }) ∧
  (∀ (s : State) (n : Fin 16) (ok : Bool),
    s.portUp n = true →
    s.halted n.val = false →
    Next (.delayLineCal n ok) s fun t =>
      (∀ k : Fin 48, ownerOf k = n.val → t.bit (RAF_STAT.DLFAIL k) = !ok) ∧ t.bat = (if ok then s.bat else (s.fire 0x10D n.val).bat) ∧
      s.regsKept t (fun a => allSlices.any (fun k => ownerOf k == n.val && a == RAF_STAT.at k)) ∧ t = { s with regs := t.regs, bat := t.bat }) ∧
  (∀ (s : State) (n : Fin 16) (pin : Fin 3),
    s.portUp n = true →
    s.halted n.val = false →
    s.bit (PLP_FRZCFG.OSDEN n) = true →
    s.bit (PLP_STATUS.CONFIRM n) = false →
    Next (.openSense n pin) s fun t =>
      t.bit (PLP_STATUS.CONFIRM n) = true ∧ (t.rd (PLP_FLAGS.at n)) = s.rd (PLP_FLAGS.at n) ||| BitVec.ofNat 32 (2 ^ pin.val) ∧
      t.get (PLP_MCMD.M n) = (s.lastGood n (s.samplesIn n 1920000)).1 * 98 / 100 % 2 ^ (PLP_MCMD.M n).w ∧
      t.bat = (s.firePort n 10 ((t.rd (PLP_FLAGS.at n)).toNat % 64)).bat ∧ t.ports[n] = { s.ports[n] with loop := { s.ports[n].loop with frz := [] } } ∧ s.portsBut t [n] ∧
      s.regsBut t [PLP_FLAGS.at n, PLP_LASTGOOD.at n, PLP_STATUS.at n, PLP_MCMD.at n] ∧
      t = { s with regs := t.regs, slices := t.slices, bat := t.bat, ports := t.ports, freeCtr := t.freeCtr }) ∧
  (∀ (s : State) (n : Fin 16) (pin : Fin 3),
    s.portUp n = true →
    s.halted n.val = false →
    s.bit (PLP_FRZCFG.OSDEN n) = true →
    s.bit (PLP_STATUS.CONFIRM n) = true →
    Next (.openSense n pin) s fun t =>
      (t.rd (PLP_FLAGS.at n)) = s.rd (PLP_FLAGS.at n) ||| BitVec.ofNat 32 (2 ^ pin.val) ∧
      t.bat = (s.firePort n 10 ((t.rd (PLP_FLAGS.at n)).toNat % 64)).bat ∧ s.regsBut t [PLP_FLAGS.at n] ∧ t = { s with regs := t.regs, bat := t.bat }) ∧
  (∀ (s : State) (n : Fin 16),
    s.bit (PLP_FRZCFG.FRZEN n) = true →
    s.portUp n = true →
    s.halted n.val = false →
    s.stageOn n = true →
    s.bit (PLP_STATUS.CONFIRM n) = false →
    s.frozenNow n = true →
    Next (.frozenSignal n) s fun t =>
      t.bit (PLP_STATUS.CONFIRM n) = true ∧ (if s.bit (PLP_STATUS.CTRLI n) then t.bit (PLP_FLAGS.FRZI n) = true else t.bit (PLP_FLAGS.FRZV n) = true) ∧
      t.get (PLP_MCMD.M n) = (s.lastGood n (s.get (PLP_FRZCFG.FRZN n))).1 * 98 / 100 % 2 ^ (PLP_MCMD.M n).w ∧
      t.bat = (s.firePort n 10 ((t.rd (PLP_FLAGS.at n)).toNat % 64)).bat ∧ t.ports[n] = { s.ports[n] with loop := { s.ports[n].loop with frz := [] } } ∧ s.portsBut t [n] ∧
      s.regsBut t [PLP_FLAGS.at n, PLP_LASTGOOD.at n, PLP_STATUS.at n, PLP_MCMD.at n] ∧
      t = { s with regs := t.regs, slices := t.slices, bat := t.bat, ports := t.ports, freeCtr := t.freeCtr }) ∧
  (∀ (s : State) (n : Fin 16),
    s.bit (PLP_STATUS.CONFIRM n) = true →
    s.halted n.val = false →
    s.bit (PCC_STATUS.LATCHED n) = false →
    (s.tallyAdd (portTally n tallyLOOP) 1).1 = false →
    Next (.feedbackTransient n) s fun t =>
      t.bit (PLP_STATUS.CONFIRM n) = false ∧ t.bit (PLP_FLAGS.TRANS n) = true ∧ t.ports[n].loop.eV = [0, 0, 0] ∧ t.ports[n].loop.eI = [0, 0, 0] ∧
      t.ports[n].loop.uV = t.ports[n].loop.uI ∧ t.slices = s.slices ∧
      s.portsBut t [n] ∧ s.regsKept t (fun a => inPort n a || block 7 a) ∧ t = { s with regs := t.regs, bat := t.bat, ports := t.ports }) ∧
  (∀ (s : State) (n : Fin 16),
    s.bit (PLP_STATUS.CONFIRM n) = true →
    s.halted n.val = false →
    s.portUp n = true →
    s.cc n ≠ ccDisabled →
    s.cc n ≠ ccErrorRecovery →
    (s.tallyAdd (portTally n tallyLOOP) 1).1 = true →
    Next (.feedbackTransient n) s fun t =>
      t.recovering n ∧ t.bit (PCC_STATUS.LATCHED n) = true ∧ t.bit (PLP_FLAGS.TRANS n) = true ∧ s.regsKept t (policyArea n) ∧ s.farKept t) ∧
  (∀ (s : State) (n : Fin 16),
    s.bit (PLP_STATUS.CONFIRM n) = true →
    s.halted n.val = false →
    s.cc n ≠ ccErrorRecovery →
    Next (.confirmWindowEnd n) s fun t =>
      t.recovering n ∧ t.ports[n].faultPath = true ∧ t.bit (PLP_STATUS.CONFIRM n) = false ∧ s.regsKept t (policyArea n) ∧ s.farKept t) ∧
  (∀ (s : State) (n : Fin 16),
    s.portUp n = true →
    s.halted n.val = false →
    s.stageOn n = true →
    s.cc n ≠ ccErrorRecovery →
    Next (.vinRangeFault n) s fun t =>
      t.recovering n ∧ t.ports[n].faultPath = true ∧ t.bit (PLP_FLAGS.VINRANGE n) = true ∧ s.regsKept t (policyArea n) ∧ s.farKept t)

/-- The loop at a sampling point and cable compensation (R224 to R238, R243, R246). The model's choices in it: assumption log 12, 14 and 151. -/
def Obligations.LoopAndCompensation : Prop :=
  (∀ (s : State) (n : Fin 16) (v i other : List (BitVec 12)),
    s.portUp n = true →
    s.halted n.val = false →
    s.stageOn n = true →
    s.bit (PLP_STATUS.CONFIRM n) = false →
    s.swHeld n = false →
    s.noneStaged →
    s.osr n ≤ v.length →
    s.osr n ≤ i.length →
    Next (.loopSample n v i other) s fun t =>
      let l := s.ports[n].loop
      t.ports[n].loop.ref = moveTo l.ref l.goal (s.slewStep n (bankSlewUp l.bank)) (s.slewStep n (bankSlewDn l.bank)) ∧
      t.ports[n].loop.sampleNo = l.sampleNo + 1 ∧ t.ports[n].loop.lastMv = codeSum (v.take (s.osr n)) * 15 / s.osr n ∧
      t.ports[n].loop.target = l.target ∧ t.bit (PLP_STATUS.RAMP n) = (t.ports[n].loop.ref != l.goal) ∧
      (s.bit (PLP_STATUS.PRE n) = true → t.ports[n].loop.eV = [0, 0, 0] ∧ t.ports[n].loop.uV = [0, 0, 0]) ∧
      t.get (PLP_MCMD.M n) ≤ 16735272 ∧
      s.portsBut t [n] ∧ s.regsKept t (inPort n) ∧ t = { s with regs := t.regs, slices := t.slices, ports := t.ports }) ∧
  (∀ (s : State) (n : Fin 16) (v i other : List (BitVec 12)),
    s.portUp n = true →
    s.halted n.val = false →
    s.stageOn n = true →
    s.bit (PLP_STATUS.CONFIRM n) = true →
    s.noneStaged →
    s.osr n ≤ v.length →
    s.osr n ≤ i.length →
    Next (.loopSample n v i other) s fun t =>
      t.get (PLP_MCMD.M n) = s.get (PLP_LASTGOOD.M n) * 98 / 100 ∧ t.ports[n].loop.ref = s.ports[n].loop.ref ∧ t.ports[n].loop.uV = s.ports[n].loop.uV ∧
      s.portsBut t [n] ∧ s.regsBut t [PLP_MCMD.at n, PLP_STATUS.at n] ∧ t = { s with regs := t.regs, slices := t.slices, ports := t.ports }) ∧
  (∀ (s : State) (n : Fin 16),
    s.get (PEV_STATUS.STATE n) = 2 →
    s.halted n.val = false →
    Next (.eaveFullyOn n) s fun t =>
      t.get (PEV_STATUS.STATE n) = 3 ∧ t.get (PGT_STATUS.SAFE0 n) = 0 ∧ t.bit (PLP_STATUS.PRE n) = false ∧
      t.ports[n].loop = { s.ports[n].loop with eV := [0, 0, 0], uV := [0, 0, 0] } ∧
      s.portsBut t [n] ∧ s.regsBut t [PEV_STATUS.at n, PGT_STATUS.at n, PLP_STATUS.at n] ∧ t = { s with regs := t.regs, ports := t.ports }) ∧
  (∀ (s : State) (n : Fin 16) (c1 c2 : BitVec 16) (quiet : Bool),
    s.portUp n = true →
    Next (.ccLevelUpdate n c1 c2 true quiet) s fun t =>
      t.rd (PCC_CCLVL.at n) = 0xFFFFFFFF ∧ t.get (PCC_CCREF.VALID n) = 0 ∧ s.regsBut t [PCC_CCLVL.at n, PCC_CCREF.at n] ∧ t = { s with regs := t.regs }) ∧
  (∀ (s : State) (n : Fin 16) (c1 c2 : BitVec 16),
    s.portUp n = true →
    Next (.ccLevelUpdate n c1 c2 false false) s fun t =>
      t.get (PCC_CCLVL.CC1 n) = c1.toNat ∧ t.get (PCC_CCLVL.CC2 n) = c2.toNat ∧ s.regsBut t [PCC_CCLVL.at n] ∧ t = { s with regs := t.regs }) ∧
  (∀ (s : State) (n : Fin 16) (c1 c2 : BitVec 16),
    s.portUp n = true →
    s.mayMeasure n true = true →
    Next (.ccLevelUpdate n c1 c2 false true) s fun t =>
      let vg := (if s.bit (PCC_STATUS.ORIENT n) then c2.toNat else c1.toNat) - s.get (PCC_CCREF.LEVEL n)
      t.get (PLP_VG.VG n) = vg ∧ t.get (PLP_VG.VALID n) = 1 ∧
      t.ports[n].loop.rm.head? = some (min (vg * 100000 / max 1 (s.get (PLP_IMEAS.MA n))) (s.get (PCC_LENGTH.RGMAX n) * 1000)) ∧
      t.ports[n].loop.rc = t.ports[n].loop.rm.sum / t.ports[n].loop.rm.length ∧
      s.portsBut t [n] ∧ s.regsBut t [PCC_CCLVL.at n, PLP_VG.at n, PLP_COMP.at n] ∧ t = { s with regs := t.regs, ports := t.ports }) ∧
  (∀ (s : State) (n : Fin 16) (vbus vin ma : BitVec 16),
    s.portUp n = true →
    s.halted n.val = false →
    s.get (PEV_STATUS.STATE n) = 3 →
    s.bit (PLP_STATUS.RAMP n) = false →
    s.swHeld n = false →
    Next (.compensationTick n vbus vin ma) s fun t =>
      t.get (PLP_VMEAS.VBUS n) = vbus.toNat ∧ t.get (PLP_VMEAS.VIN n) = vin.toNat ∧ t.get (PLP_IMEAS.MA n) = ma.toNat ∧
      t.ports[n].loop.comp = moveTo s.ports[n].loop.comp (t.compTarget n) 50000 50000 ∧ t.bit (PLP_STATUS.COMPON n) = (t.ports[n].loop.comp != 0) ∧
      s.portsBut t [n] ∧ s.regsBut t [PLP_VMEAS.at n, PLP_IMEAS.at n, PLP_COMP.at n, PLP_STATUS.at n] ∧ t = { s with regs := t.regs, ports := t.ports }) ∧
  (∀ (s : State) (hp : HostPort) (n : Fin 16),
    s.takes hp (PLP_CMD.at n) 1 →
    Next (.clearrc hp n) s fun t =>
      t.ports[n].loop = { s.ports[n].loop with rm := [], rc := 0 } ∧ t.get (PLP_COMP.RC n) = 0 ∧ s.hostSays t hp stOK 0 s.ports[n].gen ∧
      s.portsBut t [n] ∧ s.passOp.regsBut t [PLP_COMP.at n] ∧ t = { s.passOp with regs := t.regs, host := t.host, ports := t.ports }) ∧
  (∀ (s : State) (n : Fin 16),
    s.rd (PCC_CCLVL.at n) = 0xFFFFFFFF →
    Next (.rcStaleTimeout n) s fun t =>
      t.ports[n].loop = { s.ports[n].loop with rm := [], rc := 0 } ∧ t.get (PLP_COMP.RC n) = 0 ∧
      s.portsBut t [n] ∧ s.regsBut t [PLP_COMP.at n] ∧ t = { s with regs := t.regs, ports := t.ports })



/-- The close sequence of Eave, its time-current curve and its trips (R252, R254, R257, R260, R261, R262). The model's choices in it: assumption log 11, 31,
52, 143 and 144. -/
def Obligations.EaveCloseAndTrips : Prop :=
  (∀ (s : State) (n : Fin 16),
    s.get (PEV_STATUS.STATE n) = 1 →
    s.halted n.val = false →
    Next (.prebiasReady n) s fun t =>
      t.rd (PEV_STATUS.at n) = (PEV_STATUS.STATE n).set (s.rd (PEV_STATUS.at n)) 2 ∧ s.portsBut t [n] ∧ s.regsBut t [PEV_STATUS.at n] ∧
      t = { s with regs := t.regs, ports := t.ports }) ∧
  (∀ (s : State) (n : Fin 16),
    s.get (PEV_STATUS.STATE n) = 1 →
    s.halted n.val = false →
    Next (.prebiasTimeout n) s fun t =>
      s.tripped t n 6 ∧ s.regsKept t (policyArea n) ∧ s.farKept t) ∧
  (∀ (s : State) (n : Fin 16),
    s.get (PEV_STATUS.STATE n) = 2 →
    s.halted n.val = false →
    Next (.rampfail n) s fun t =>
      s.tripped t n 5 ∧ s.regsKept t (policyArea n) ∧ s.farKept t) ∧
  (∀ (s : State) (n : Fin 16) (mv : Nat),
    (if s.bit (PEV_STATUS.DIR n) then min s.ports[n].eave.fastmv 80 else s.ports[n].eave.fastmv) ≤ mv →
    s.eaveLive n = true →
    s.halted n.val = false →
    Next (.fastTrip ⟨n, mv⟩) s fun t =>
      s.tripped t n 1 ∧ s.regsKept t (policyArea n) ∧ s.farKept t) ∧
  (∀ (s : State) (n : Fin 16) (mv : Nat),
    (if s.bit (PEV_STATUS.DIR n) then min s.ports[n].eave.fastmv 80 else s.ports[n].eave.fastmv) ≤ mv →
    s.eaveLive n = true →
    s.halted n.val = true →
    Next (.fastTrip ⟨n, mv⟩) s fun t =>
      t.get (PEV_STATUS.STATE n) = 4 ∧ t.get (PEV_STATUS.CAUSE n) = 1 ∧ t.ports[n].tripPending = some 1 ∧ t.ports[n].faultPath = true ∧ t.cc n = s.cc n ∧
      s.portsBut t [n] ∧ s.regsKept t (fun a => inPort n a || a == UPD_BRMASK.at || a == THA_SRSTAT.at) ∧
      t = { s with regs := t.regs, freeCtr := t.freeCtr, ridge := t.ridge, ports := t.ports }) ∧
  (∀ (s : State) (n : Fin 16) (mv : Nat),
    mv < (if s.bit (PEV_STATUS.DIR n) then min s.ports[n].eave.fastmv 80 else s.ports[n].eave.fastmv) →
    Next (.fastTrip ⟨n, mv⟩) s fun t => t = s) ∧
  (∀ (s : State) (n : Fin 16) (ma : BitVec 16),
    s.eaveLive n = true →
    s.halted n.val = false →
    s.portUp n = true →
    s.ports[n].eave.levels ≠ [] →
    Next (.curveEval n ma) s fun t =>
      let acc := curveAcc s.ports[n].eave.levels s.ports[n].eave.acc (min ma.toNat (s.fullScale n)) (s.get (PEV_CTRL.COOL n))
      (∀ k, curvePoint acc = some k → s.tripped t n 3 ∧ t.get (PEV_STATUS.POINT n) = k) ∧
      (curvePoint acc = none → t.ports[n].eave.acc = acc ∧ t.get (PEV_ACC.FILL n) = min 255 (curveFill acc).1 ∧ t.get (PEV_ACC.POINT n) = (curveFill acc).2 ∧
        s.portsBut t [n] ∧ s.regsBut t [PEV_ACC.at n] ∧ t = { s with regs := t.regs, ports := t.ports }) ∧
      s.regsKept t (policyArea n) ∧ s.farKept t) ∧
  (∀ (s : State) (n : Fin 16) (tenths : Nat),
    s.get (PEV_CTRL.REVMV n) < tenths →
    s.bit (PEV_CTRL.REVEN n) = true →
    s.get (PEV_STATUS.STATE n) = 3 →
    s.revSuppressed n = false →
    s.halted n.val = false →
    Next (.reverseTrip ⟨n, tenths⟩) s fun t =>
      s.tripped t n 4 ∧ s.regsKept t (policyArea n) ∧ s.farKept t) ∧
  (∀ (s : State) (n : Fin 16),
    s.get (PEV_STATUS.STATE n) = 3 →
    s.halted n.val = false →
    Next (.gateTrip n) s fun t =>
      s.tripped t n 7 ∧ s.regsKept t (policyArea n) ∧ s.farKept t)

/-- The discharge, assist, budget and fault path of Gutter (R264 to R266, R269). The model's choices in it: assumption log 32 and 52. -/
def Obligations.GutterPaths : Prop :=
  (∀ (s : State) (n : Fin 16) (tenths : BitVec 16),
    s.get (PGT_STATUS.CAUSE n) = 1 →
    s.halted n.val = false →
    s.cc n ≠ ccErrorRecovery →
    Next (.gutterDischargeEnd n tenths) s fun t =>
      t.bit (PGT_STATUS.ON n) = false ∧ t.get (PGT_STATUS.CAUSE n) = 0 ∧ t.bit (PGT_STATUS.SAFE0 n) = true ∧ t.get (PGT_TIME.LAST n) = tenths.toNat ∧
      (s.peff n = 9 → t.stageOn n = false) ∧ (s.peff n ≠ 9 → t.slices = s.slices) ∧
      s.portsBut t [n] ∧ s.regsKept t (fun a => inPort n a || inSlices a || a == THA_SRSTAT.at) ∧ t = { s with regs := t.regs, staged := t.staged, slices := t.slices, ports := t.ports }) ∧
  (∀ (s : State) (n : Fin 16),
    s.get (PGT_STATUS.CAUSE n) = 1 →
    s.bit (PGT_STATUS.SAFE0 n) = false →
    s.halted n.val = false →
    Next (.gutterTimeout n) s fun t =>
      t.bit (PGT_FLAGS.TIMEOUT n) = true ∧ t.bit (PGT_STATUS.FAULT n) = true ∧ t.bit (PGT_STATUS.ON n) = false ∧ t.cc n = ccErrorRecovery ∧
      t.get (PGT_COUNT.FAULTS n) = min (s.get (PGT_COUNT.FAULTS n) + 1) (2 ^ (PGT_COUNT.FAULTS n).w - 1) ∧
      s.regsKept t (policyArea n) ∧ s.farKept t) ∧
  (∀ (s : State) (n : Fin 16),
    s.portUp n = true →
    s.isSource n = true →
    s.halted n.val = false →
    Next (.drvflt n) s fun t =>
      t.bit (PGT_FLAGS.DRVFLT n) = true ∧ t.bit (PGT_STATUS.FAULT n) = true ∧ t.bit (PGT_STATUS.ON n) = false ∧ t.cc n = ccErrorRecovery ∧
      t.get (PGT_COUNT.FAULTS n) = min (s.get (PGT_COUNT.FAULTS n) + 1) (2 ^ (PGT_COUNT.FAULTS n).w - 1) ∧
      s.regsKept t (policyArea n) ∧ s.farKept t) ∧
  (∀ (s : State) (n : Fin 16),
    s.bit (PGT_STATUS.FAULT n) = true →
    s.halted n.val = false →
    s.ports[n].errElapsed = false →
    Next (.gutterFaultClear n) s fun t =>
      t.bit (PGT_STATUS.FAULT n) = false ∧ t.bit (PGT_STATUS.SAFE0 n) = true ∧ t.cc n = s.cc n ∧ s.regsBut t [PGT_STATUS.at n, THA_SRSTAT.at] ∧ t = { s with regs := t.regs }) ∧
  (∀ (s : State) (n : Fin 16) (excess : Nat),
    s.noneStaged →
    s.halted n.val = false →
    s.get (PGT_STATUS.CAUSE n) ≠ 1 →
    s.mayAssist n = true →
    s.get (PGT_CFG.GHYS n) * 10 < excess →
    Next (.gutterAssist n excess) s fun t =>
      t.bit (PGT_STATUS.ON n) = true ∧ t.get (PGT_STATUS.CAUSE n) = 2 ∧ s.regsBut t [PGT_STATUS.at n] ∧ t = { s with regs := t.regs }) ∧
  (∀ (s : State) (n : Fin 16) (excess : Nat),
    s.noneStaged →
    s.halted n.val = false →
    s.get (PGT_STATUS.CAUSE n) = 2 →
    2 * excess < s.get (PGT_CFG.GHYS n) * 10 →
    Next (.gutterAssist n excess) s fun t =>
      t.bit (PGT_STATUS.ON n) = false ∧ t.get (PGT_STATUS.CAUSE n) = 0 ∧ s.regsBut t [PGT_STATUS.at n] ∧ t = { s with regs := t.regs }) ∧
  (∀ (s : State) (n : Fin 16) (used : BitVec 16),
    s.noneStaged →
    Next (.gutterBudget n used) s fun t =>
      t.get (PGT_TIME.WIN n) = used.toNat ∧ t.bit (PGT_STATUS.BUDGET n) = decide (s.get (PGT_CFG.MAXON n) ≤ used.toNat) ∧
      (s.get (PGT_CFG.MAXON n) ≤ used.toNat → t.bit (PGT_FLAGS.BUDGET n) = true ∧ (s.get (PGT_STATUS.CAUSE n) = 2 → t.bit (PGT_STATUS.ON n) = false)) ∧
      s.regsBut t [PGT_TIME.at n, PGT_STATUS.at n, PGT_FLAGS.at n] ∧ t = { s with regs := t.regs })

/-- Valley's thresholds, channels and self-checks (R209, R275, R276, R279 to R281, R283). The model's choices in it: assumption log 55, 144, 145 and 146. -/
def Obligations.ValleyChannels : Prop :=
  (∀ (s : State) (n : Fin 16),
    s.portUp n = true →
    s.halted n.val = false →
    s.noneStaged →
    (∀ ch : Fin 3, (s.get (PVL_STAT.OUT n)).testBit ch.val = true → s.chanEnabled n ch.val = true) →
    Next (.thresholdUpdate n) s fun t =>
      t.get (PVL_THR.OV n) = ovCode (s.windowRef n).1 (s.get (PVL_OVCFG.OVPCT n)) (s.get (PVL_OVCFG.OVMIN n)) (s.get (PVL_OVCFG.OVABS n)) % 2 ^ (PVL_THR.OV n).w ∧
      t.get (PVL_THR.UV n) = uvCode (s.windowRef n).2 (s.get (PVL_UVCFG.UVPCT n)) (s.get (PVL_UVCFG.UVMIN n)) % 2 ^ (PVL_THR.UV n).w ∧
      t.ports[n].val = { s.ports[n].val with fi := s.ports[n].eave.fastmv * s.get (PVL_FICFG.FIPCT n) * 4 } ∧ s.portsBut t [n] ∧
      s.regsBut t [PVL_THR.at n] ∧ t = { s with regs := t.regs, ports := t.ports }) ∧
  (∀ (s : State) (n : Fin 16),
    s.portUp n = true →
    s.halted n.val = false →
    s.noneStaged →
    (s.get (PVL_STAT.OUT n)) = 2 →
    s.chanEnabled n 1 = false →
    s.held n 1 = false →
    Next (.thresholdUpdate n) s fun t =>
      t.get (PVL_STAT.OUT n) = 0 ∧ t.bat = (s.level (portEvent n 1) false).bat ∧ s.regsBut t [PVL_THR.at n, PVL_STAT.at n] ∧
      t = { s with regs := t.regs, bat := t.bat, ports := t.ports }) ∧
  (∀ (s : State) (n : Fin 16) (mv ns at_ : Nat),
    s.portUp n = true →
    s.held n 0 = false →
    filterNs (s.get (PVL_FILT.OV n)) ≤ ns →
    s.chanEnabled n 0 = true →
    s.get (PVL_THR.OV n) * 60 < mv →
    s.eaveLive n = true →
    s.halted n.val = false →
    s.cc n ≠ ccErrorRecovery →
    Next (.valOv n ⟨mv, ns⟩ at_) s fun t =>
      (s.get (BAT_TALLY0.THRESH (portTally n tallyRAFTRIP)) = 0 → s.tripped t n 2) ∧ t.recovering n ∧
      (t.get (PVL_STAT.OUT n)).testBit 0 = true ∧ portEvent n 0 ∈ t.bat.levels ∧
      s.regsKept t (policyArea n) ∧ s.farKept t) ∧
  (∀ (s : State) (n : Fin 16) (mv ns at_ : Nat),
    s.portUp n = true →
    s.held n 0 = false →
    filterNs (s.get (PVL_FILT.OV n)) ≤ ns →
    mv ≤ s.get (PVL_THR.OV n) * 60 →
    (s.get (PVL_STAT.OUT n)).testBit 0 = false ∨ mv * 100 < s.get (PVL_THR.OV n) * 60 * 99 →
    Next (.valOv n ⟨mv, ns⟩ at_) s fun t =>
      (t.get (PVL_STAT.OUT n)).testBit 0 = false ∧ portEvent n 0 ∉ t.bat.levels ∧
      (∀ k : Fin 48, k ∈ s.legsOf n → t.slices[k] = { s.slices[k] with tripIn := setBitTo s.slices[k].tripIn 1 false }) ∧
      s.regsBut t [PVL_STAT.at n] ∧ t = { s with regs := t.regs, bat := t.bat, slices := t.slices }) ∧
  (∀ (s : State) (n : Fin 16) (mv ns at_ : Nat),
    s.portUp n = false ∨ s.held n 0 = true ∨ ns < filterNs (s.get (PVL_FILT.OV n)) →
    Next (.valOv n ⟨mv, ns⟩ at_) s fun t => t = s) ∧
  (∀ (s : State) (n : Fin 16) (mv ns : Nat),
    s.portUp n = true →
    s.held n 1 = false →
    filterNs (s.get (PVL_FILT.UV n)) ≤ ns →
    s.chanEnabled n 1 = true →
    mv < s.get (PVL_THR.UV n) * 60 →
    s.bit (PLP_STATUS.CONFIRM n) = false →
    Next (.valUv n ⟨mv, ns⟩) s fun t =>
      (t.get (PVL_STAT.OUT n)).testBit 1 = true ∧ portEvent n 1 ∈ t.bat.levels ∧ t.bat = (s.level (portEvent n 1) true).bat ∧
      s.regsBut t [PVL_STAT.at n] ∧ t = { s with regs := t.regs, bat := t.bat }) ∧
  (∀ (s : State) (n : Fin 16) (mv ns : Nat),
    s.portUp n = true →
    s.held n 1 = false →
    filterNs (s.get (PVL_FILT.UV n)) ≤ ns →
    s.get (PVL_THR.UV n) * 60 ≤ mv →
    (s.get (PVL_STAT.OUT n)).testBit 1 = false ∨ s.get (PVL_THR.UV n) * 60 * 101 < mv * 100 →
    Next (.valUv n ⟨mv, ns⟩) s fun t =>
      (t.get (PVL_STAT.OUT n)).testBit 1 = false ∧ portEvent n 1 ∉ t.bat.levels ∧ s.regsBut t [PVL_STAT.at n] ∧ t = { s with regs := t.regs, bat := t.bat }) ∧
  (∀ (s : State) (n : Fin 16) (mv ns : Nat),
    s.portUp n = false ∨ s.held n 1 = true ∨ ns < filterNs (s.get (PVL_FILT.UV n)) →
    Next (.valUv n ⟨mv, ns⟩) s fun t => t = s) ∧
  (∀ (s : State) (n : Fin 16) (q ns at_ : Nat),
    s.portUp n = true →
    s.held n 2 = false →
    filterNs (s.get (PVL_FILT.FI n)) ≤ ns →
    s.chanEnabled n 2 = true →
    s.ports[n].val.fi < q * 128 →
    s.get (BAT_TALLY0.THRESH (portTally n tallyRAFTRIP)) = 0 →
    Next (.valFi n ⟨q, ns⟩ at_) s fun t =>
      (t.get (PVL_STAT.OUT n)).testBit 2 = true ∧ portEvent n 2 ∈ t.bat.levels ∧
      (∀ k : Fin 48, k ∈ s.legsOf n → s.blanked k (s.legTime k at_) = true →
        t.slices[k] = { s.slices[k] with tripIn := setBitTo s.slices[k].tripIn 0 true }) ∧
      (∀ k : Fin 48, k ∈ s.legsOf n → s.blanked k (s.legTime k at_) = false → s.bit (RAF_STAT.RUN k) = true → s.frozen k = false →
        (s.get (RAF_CTRL.TRIPSEL k)).testBit 0 = true → t.slices[k].cut = true) ∧
      s.regsKept t (policyArea n) ∧ s.farKept t) ∧
  (∀ (s : State) (n : Fin 16) (q ns at_ : Nat),
    s.portUp n = true →
    s.held n 2 = false →
    filterNs (s.get (PVL_FILT.FI n)) ≤ ns →
    q * 128 ≤ s.ports[n].val.fi →
    (s.get (PVL_STAT.OUT n)).testBit 2 = false ∨ q * 128 + 512 < s.ports[n].val.fi →
    Next (.valFi n ⟨q, ns⟩ at_) s fun t =>
      (t.get (PVL_STAT.OUT n)).testBit 2 = false ∧ portEvent n 2 ∉ t.bat.levels ∧
      (∀ k : Fin 48, k ∈ s.legsOf n → t.slices[k] = { s.slices[k] with tripIn := setBitTo s.slices[k].tripIn 0 false }) ∧
      s.regsBut t [PVL_STAT.at n] ∧ t = { s with regs := t.regs, bat := t.bat, slices := t.slices }) ∧
  (∀ (s : State) (n : Fin 16) (q ns at_ : Nat),
    s.portUp n = false ∨ s.held n 2 = true ∨ ns < filterNs (s.get (PVL_FILT.FI n)) →
    Next (.valFi n ⟨q, ns⟩ at_) s fun t => t = s) ∧
  (∀ (s : State) (n : Fin 16) (sw : Fin 2) (rising : Bool) (mv vin isp tx r : Nat),
    s.portUp n = true →
    s.held n (3 + sw.val) = false →
    s.swRef n sw vin isp = some r →
    (s.get (PVL_STAT.OUT n)).testBit (3 + sw.val) = !rising →
    (if rising then s.get (PVL_SWCFG.SWHI n) * r < mv * 64 else mv * 64 < s.get (PVL_SWCFG.SWLO n) * r) →
    Next (.switchNodeTransition n sw ⟨mv, vin, isp⟩ tx) s fun t =>
      (t.get (PVL_STAT.OUT n)).testBit (3 + sw.val) = rising ∧ t.bat = (s.level (portEvent n (3 + sw.val)) rising).bat ∧
      (∀ k : Fin 48, k ∈ s.legsOf n → s.sense k = sw.val + 1 → s.frozen k = false →
        (s.highSideA k = rising → s.slices[k].txR = none → t.slices[k].txR = some tx) ∧
        (s.highSideA k = rising → s.slices[k].txR ≠ none → t.slices[k] = s.slices[k]) ∧
        (s.highSideA k ≠ rising → s.slices[k].txF = none → t.slices[k].txF = some tx)) ∧
      s.regsBut t [PVL_STAT.at n] ∧ t = { s with regs := t.regs, bat := t.bat, slices := t.slices }) ∧
  (∀ (s : State) (n : Fin 16) (sw : Fin 2) (mv vin isp tx r : Nat),
    s.swRef n sw vin isp = some r →
    s.portUp n = false ∨ s.held n (3 + sw.val) = true ∨ (mv * 64 ≤ s.get (PVL_SWCFG.SWHI n) * r ∧ s.get (PVL_SWCFG.SWLO n) * r ≤ mv * 64) →
    Next (.switchNodeTransition n sw ⟨mv, vin, isp⟩ tx) s fun t => t = s) ∧
  (∀ (s : State) (n : Fin 16) (mv vin isp tx : Nat),
    s.portUp n = true →
    s.held n 4 = false →
    s.get (PVL_SWCFG.SWBREF n) = 0 →
    s.ports[n].topo = 0 →
    Next (.switchNodeTransition n 1 ⟨mv, vin, isp⟩ tx) s fun t =>
      (t.get (PVL_STAT.OUT n)).testBit 4 = ((s.get (PVL_STAT.OUT n)).testBit 4 != (Config.freeValue s.freeCtr).getLsbD 0) ∧
      s.regsBut t [PVL_STAT.at n] ∧ t = { s with regs := t.regs, bat := t.bat, slices := t.slices, freeCtr := s.freeCtr + 1 }) ∧
  (∀ (s : State) (k : Fin 8) (code : BitVec 12) (ns : Nat),
    s.bat.gpcTest.head? ≠ some k.val →
    filterNs (s.get (GPC_CFG.FILT k.val)) ≤ ns →
    s.get (GPC_CFG.EAVEMASK k.val) = 0 →
    s.bit (GPC_CFG.INWARN k.val) = false →
    Next (.gpcCrossing k ⟨code.toNat, ns⟩) s fun t =>
      let on := (t.get GPC_STAT.OUT).testBit k.val
      (s.get (GPC_CFG.MODE k.val) = 0 → on = false) ∧
      (s.get (GPC_CFG.MODE k.val) = 1 → code.toNat < s.get (GPC_THR.THR k.val) → on = true) ∧
      (s.get (GPC_CFG.MODE k.val) = 1 → s.get (GPC_THR.THR k.val) + s.get (GPC_THR.HYS k.val) < code.toNat → on = false) ∧
      (s.get (GPC_CFG.MODE k.val) = 2 → s.get (GPC_THR.THR k.val) < code.toNat → on = true) ∧
      (s.get (GPC_CFG.MODE k.val) = 2 → code.toNat + s.get (GPC_THR.HYS k.val) < s.get (GPC_THR.THR k.val) → on = false) ∧
      (s.get (GPC_CFG.MODE k.val) = 3 →
        on = ((s.get GPC_STAT.OUT).testBit k.val || (assocGet s.bat.gpcSample k.val).any (fun x => decide (code.toNat + s.get (GPC_SLOPE.SLOPETHR k.val) < x)))) ∧
      t.bat = (s.level (0x120 + k.val) on).bat ∧ s.regsBut t [GPC_STAT.at] ∧ t = { s with regs := t.regs, bat := t.bat }) ∧
  (∀ (s : State) (k : Fin 8) (code : BitVec 12) (ns : Nat),
    s.bat.gpcTest.head? = some k.val ∨ ns < filterNs (s.get (GPC_CFG.FILT k.val)) →
    Next (.gpcCrossing k ⟨code.toNat, ns⟩) s fun t => t = s) ∧
  (∀ (s : State) (k : Fin 8) (n : Fin 16) (code : BitVec 12) (ns : Nat),
    s.bat.gpcTest.head? ≠ some k.val →
    filterNs (s.get (GPC_CFG.FILT k.val)) ≤ ns →
    s.get (GPC_CFG.MODE k.val) = 2 →
    s.get (GPC_THR.THR k.val) < code.toNat →
    s.get (GPC_CFG.EAVEMASK k.val) = 2 ^ n.val →
    s.eaveLive n = true →
    s.halted n.val = false →
    s.bit (GPC_CFG.INWARN k.val) = false →
    Next (.gpcCrossing k ⟨code.toNat, ns⟩) s fun t =>
      (t.get GPC_STAT.OUT).testBit k.val = true ∧ s.tripped t n 2 ∧ s.regsKept t (fun a => policyArea n a || a == GPC_STAT.at) ∧ s.farKept t) ∧
  (∀ (s : State) (k : Fin 8) (code : BitVec 12),
    s.get (GPC_CFG.MODE k.val) = 3 →
    s.bat.gpcTest.head? ≠ some k.val →
    Next (.gpcSlopeSample k code) s fun t =>
      assocGet t.bat.gpcSample k.val = some code.toNat ∧ (t.get GPC_STAT.OUT).testBit k.val = false ∧
      s.regsBut t [GPC_STAT.at] ∧ t = { s with regs := t.regs, bat := t.bat }) ∧
  (∀ (s : State) (n : Fin 16),
    s.bit (PVL_STCFG.STEN n) = true →
    s.checkIdle n = true →
    s.ports[n].val.testing = none →
    Next (.selfCheck ⟨n.val, by omega⟩) s fun t =>
      t.ports[n].val = { s.ports[n].val with testing := some 0, first := false } ∧ t.bit (PVL_STAT.RUN n) = true ∧ s.portsBut t [n] ∧ s.regsBut t [PVL_STAT.at n] ∧ t = { s with regs := t.regs, ports := t.ports }) ∧
  (∀ (s : State) (n : Fin 16) (ch : Nat),
    s.ports[n].val.testing = some ch →
    ch < 4 →
    Next (.selfCheckResult ⟨n.val, by omega⟩ true) s fun t =>
      t.ports[n].val.testing = some (ch + 1) ∧ (t.get (PVL_STAT.FAIL n)).testBit ch = false ∧
      t.get (PVL_STCNT.PASSES n) = (s.get (PVL_STCNT.PASSES n) + 1) % 2 ^ (PVL_STCNT.PASSES n).w ∧
      s.portsBut t [n] ∧ s.regsBut t [PVL_STAT.at n, PVL_STCNT.at n] ∧ t = { s with regs := t.regs, ports := t.ports }) ∧
  (∀ (s : State) (n : Fin 16),
    s.ports[n].val.testing = some 4 →
    s.ports[n].val.first = false →
    Next (.selfCheckResult ⟨n.val, by omega⟩ true) s fun t =>
      t.ports[n].val.testing = none ∧ t.bit (PVL_STAT.RUN n) = false ∧ t.bat = (s.fire 0x10F).bat ∧
      s.portsBut t [n] ∧ s.regsBut t [PVL_STAT.at n, PVL_STCNT.at n, PCC_STATUS.at n] ∧ t = { s with regs := t.regs, bat := t.bat, ports := t.ports }) ∧
  (∀ (s : State) (n : Fin 16),
    s.ports[n].val.testing = some 4 →
    s.ports[n].val.first = true →
    s.cc n = ccUnattachedSrc →
    s.isService n = false →
    Next (.selfCheckResult ⟨n.val, by omega⟩ true) s fun t =>
      t.ports[n].val.testing = none ∧ t.ports[n].val.first = false ∧ t.bit (PVL_STAT.RUN n) = false ∧
      t.cc n = (if s.someRd n then ccAttachWaitSrc else ccUnattachedSrc) ∧
      t.bat = ((if s.someRd n then s.firePort n 6 1 else s).fire 0x10F).bat ∧
      s.portsBut t [n] ∧ s.regsBut t [PVL_STAT.at n, PVL_STCNT.at n, PCC_STATUS.at n] ∧ t = { s with regs := t.regs, bat := t.bat, ports := t.ports }) ∧
  (∀ (s : State) (n : Fin 16) (ch : Nat),
    s.ports[n].val.testing = some ch →
    ch < 4 →
    3 ≤ ch ∨ s.ports[n].val.failRow.getD ch 0 = 0 →
    Next (.selfCheckResult ⟨n.val, by omega⟩ false) s fun t =>
      t.ports[n].val.testing = some (ch + 1) ∧ (t.get (PVL_STAT.FAIL n)).testBit ch = true ∧
      t.get (PVL_STCNT.FAILS n) = min (s.get (PVL_STCNT.FAILS n) + 1) (2 ^ (PVL_STCNT.FAILS n).w - 1) ∧
      s.portsBut t [n] ∧ s.regsBut t [PVL_STAT.at n, PVL_STCNT.at n, BAT_TALLY1.at 133] ∧ t = { s with regs := t.regs, bat := t.bat, ports := t.ports }) ∧
  (∀ (s : State) (n : Fin 16) (ch : Nat),
    s.ports[n].val.testing = some ch →
    ch < 3 →
    s.ports[n].val.failRow.getD ch 0 = 1 →
    s.ports[n].val.failRow.length = 5 →
    s.cc n ≠ ccUnattachedSrc →
    s.cc n ≠ ccUnattachedSnk →
    Next (.selfCheckResult ⟨n.val, by omega⟩ false) s fun t =>
      t.bit (PCC_STATUS.LATCHED n) = true ∧ t.ports[n].latched = true ∧ (t.get (PVL_STAT.FAIL n)).testBit ch = true ∧ t.ports[n].val.failRow.getD ch 0 = 2 ∧
      t.ports[n].val.testing = some (ch + 1) ∧ s.portsBut t [n] ∧
      s.regsBut t [PVL_STAT.at n, PVL_STCNT.at n, PCC_STATUS.at n, BAT_TALLY1.at 133] ∧ t = { s with regs := t.regs, bat := t.bat, ports := t.ports }) ∧
  (∀ (s : State) (k : Fin 8),
    (s.get GPC_STAT.OUT).testBit k.val = false →
    s.guards k.val = false →
    Next (.selfCheck ⟨16 + k.val, by omega⟩) s fun t =>
      t.bat = { s.bat with gpcTest := if s.bat.gpcTest.contains k.val then s.bat.gpcTest else s.bat.gpcTest ++ [k.val] } ∧
      t.bit BAT_STAT.GPCTEST = t.bat.gpcTest.head?.any s.guards ∧ s.regsBut t [BAT_STAT.at] ∧ t = { s with regs := t.regs, bat := t.bat }) ∧
  (∀ (s : State) (k : Fin 8) (rest : List Nat),
    s.bat.gpcTest = k.val :: rest →
    Next (.selfCheckResult ⟨16 + k.val, by omega⟩ true) s fun t =>
      t.bat.gpcTest = rest ∧ (t.get GPC_STAT.FAIL).testBit k.val = false ∧ t.bit BAT_STAT.GPCTEST = rest.head?.any s.guards ∧
      s.regsBut t [BAT_STAT.at, GPC_STAT.at] ∧ t = { s with regs := t.regs, bat := t.bat })

/-- Batten: delivery, tallies, the queue and the commands of BAT_CMD, BAT_IRQSTAT and BAT_TRSCUT (R280, R284 to R296, R301). The model's choices in
it: assumption log 22 and 27. -/
def Obligations.BattenRouter : Prop :=
  (∀ (s : State) (x : Edge) (rest : List Edge) (b : Nat),
    s.islandUp islBatten = true →
    s.halted islBatten = false →
    takeEdge s.bat.edges = some (x, rest) →
    s.routes x.src = [rt x.src b] →
    x.kind = 0 →
    b < 32 →
    Next .loggedEdge s fun t =>
      t.bat.edges = rest ∧ (t.get BAT_IRQSTAT.HIRQ).testBit b = true ∧ t.bat.queue = s.bat.queue ∧ s.regsBut t [BAT_IRQSTAT.at] ∧ t = { s with regs := t.regs, bat := t.bat }) ∧
  (∀ (s : State) (x : Edge) (rest : List Edge),
    s.islandUp islBatten = true →
    s.halted islBatten = false →
    takeEdge s.bat.edges = some (x, rest) →
    s.routes x.src = [qt x.src] →
    x.kind = 0 →
    s.bat.queue.length < 383 →
    s.bat.lossRun = 0 →
    0x117 ∉ s.bat.levels →
    Next .loggedEdge s fun t =>
      t.bat.queue = s.bat.queue ++ [{ src := x.src, kind := 0, data := x.data, usec := x.usec, sec := x.sec, seq := s.bat.seq, lost := 0, read := false }] ∧
      t.bat.seq = (s.bat.seq + 1) % 65536 ∧ t.bat.edges = rest ∧ t.regs = s.regs ∧ t = { s with bat := t.bat, ports := t.ports }) ∧
  (∀ (s : State) (j : Fin 144),
    s.islandUp islBatten = true →
    Next (.tallyBinAdvance j) s fun t =>
      t.binsOf j.val = 0 :: (s.binsOf j.val).take 15 ∧ t.get (BAT_TALLY1.COUNT j.val) = min 255 (t.binsOf j.val).sum ∧
      s.regsBut t [BAT_TALLY1.at j.val] ∧ t = { s with regs := t.regs, bat := t.bat }) ∧
  (∀ (s : State) (hp : HostPort) (mask : Word),
    s.takes hp BAT_IRQSTAT.at mask →
    s.bat.irqLevel = [] →
    Next (.hirqClear hp mask) s fun t =>
      t.rd BAT_IRQSTAT.at = s.rd BAT_IRQSTAT.at &&& ~~~mask ∧ s.hostSays t hp stOK 0 0 ∧ s.passOp.regsBut t [BAT_IRQSTAT.at] ∧ t = { s.passOp with regs := t.regs, host := t.host }) ∧
  (∀ (s : State) (hp : HostPort) (key tid : Byte),
    s.takes hp BAT_CMD.at (batWord key (256 + tid.toNat)) →
    tid.toNat < 144 →
    Next (.tallyclr hp key tid) s fun t =>
      t.binsOf tid.toNat = List.replicate 16 0 ∧ t.get (BAT_TALLY1.COUNT tid.toNat) = 0 ∧ s.hostSays t hp stOK 0 0 ∧
      s.passOp.regsBut t [BAT_TALLY1.at tid.toNat] ∧ t = { s.passOp with regs := t.regs, bat := t.bat, host := t.host }) ∧
  (∀ (s : State) (hp : HostPort) (key : Byte),
    s.takes hp BAT_CMD.at (batWord key 512) →
    Next (.cntclr hp key) s fun t =>
      (∀ k : Fin 4, t.rd (BAT_CNT.at k.val) = 0) ∧ s.hostSays t hp stOK 0 0 ∧
      s.passOp.regsBut t [BAT_CNT.at 0, BAT_CNT.at 1, BAT_CNT.at 2, BAT_CNT.at 3] ∧ t = { s.passOp with regs := t.regs, host := t.host }) ∧
  (∀ (s : State) (hp : HostPort) (key : Byte),
    s.takes hp BAT_CMD.at (batWord key 1024) →
    Next (.valst hp key) s fun t =>
      (∀ n : Fin 16, t.ports[n].val.testing = if s.checkIdle n && s.ports[n].val.testing.isNone then some 0 else s.ports[n].val.testing) ∧
      (∀ n : Fin 16, t.bit (PVL_STAT.RUN n) = (s.bit (PVL_STAT.RUN n) || (s.checkIdle n && s.ports[n].val.testing.isNone))) ∧ s.hostSays t hp stOK 0 0 ∧
      s.passOp.regsKept t (within (portBase 0) (portBase 16)) ∧ t = { s.passOp with regs := t.regs, host := t.host, ports := t.ports }) ∧
  (∀ (s : State) (hp : HostPort) (key : Byte),
    s.takes hp BAT_CMD.at (batWord key 2048) →
    Next (.swevt hp key) s fun t =>
      t.bat = (s.fire 0x13F).bat ∧ s.hostSays t hp stOK 0 0 ∧ t = { s.passOp with bat := t.bat, host := t.host }) ∧
  (∀ (s : State) (hp : HostPort) (key : Byte),
    s.takes hp BAT_CMD.at (batWord key 4096) →
    s.bat.cutLevels ≠ [] ∨ s.bat.cutInForce = false →
    s.bat.cutLevels = [] ∨ s.bat.cutInForce = true →
    Next (.tsclr hp key) s fun t =>
      t.bat = { s.bat with cutEdge := false } ∧ s.hostSays t hp stOK 0 0 ∧ t = { s.passOp with bat := t.bat, host := t.host }) ∧
  (∀ (s : State) (hp : HostPort) (key mask : Byte) (k : Fin 8),
    s.takes hp BAT_CMD.at (batWord key (mask.toNat * 65536)) →
    mask.toNat = 2 ^ k.val →
    Next (.gpcsel hp key mask) s fun t =>
      t.bat = { s.bat with gpcTest := if s.bat.gpcTest.contains k.val then s.bat.gpcTest else s.bat.gpcTest ++ [k.val] } ∧
      t.bit BAT_STAT.GPCTEST = t.bat.gpcTest.head?.any s.guards ∧ s.hostSays t hp stOK 0 0 ∧
      s.passOp.regsBut t [BAT_STAT.at] ∧ t = { s.passOp with regs := t.regs, bat := t.bat, host := t.host }) ∧
  (∀ (s : State) (hp : HostPort) (watts : BitVec 16),
    s.takes hp BAT_TRSCUT.at (BitVec.ofNat 32 watts.toNat) →
    s.bat.cutInForce = false →
    Next (.batTrscutWrite hp watts) s fun t =>
      t.get BAT_TRSCUT.CUT = watts.toNat ∧ s.hostSays t hp stOK 0 0 ∧ s.passOp.regsBut t [BAT_TRSCUT.at] ∧ t = { s.passOp with regs := t.regs, host := t.host })

/-- Links and elections of the chain (R306, R311 to R316, R319, R330, R337). The model's choices in it: assumption log 58, 62 and 148. -/
def Obligations.LinksAndElections : Prop :=
  (∀ (s : State) (p : Fin 2),
    s.chainOn = true →
    s.linkIsUp p = false →
    s.jtl.led = true →
    Next (.linkUp p) s fun t =>
      t.linkIsUp p = true ∧ t.portsUp = s.portsUp ||| (p.val + 1) ∧ t.bat = (s.fire 0x128 p.val).bat ∧
      t.newest = some { ty := tyECHO, dest := 0xFD, src := s.myNode.getD 0xFE, seq := t.newest.elim 0 JtlFrame.seq, body := [0, 0], ports := p.val + 1 } ∧
      (s.jtl.best = none → t.newest.map JtlFrame.seq = some s.jtl.seq) ∧
      (∀ c, s.jtl.best = some c → t.jtl.sent[1]? =
        some { ty := tyCLAIM, dest := 0xFD, src := s.myNode.getD 0xFE, seq := s.jtl.seq, body := c.body (s.claimHops c), ports := p.val + 1 }) ∧
      t.jtl = { s.jtl with sent := t.jtl.sent, seq := t.jtl.seq } ∧ s.regsBut t [JTL_LINK.at p.val, JTL_STAT.at] ∧ t = { s with regs := t.regs, bat := t.bat, jtl := t.jtl }) ∧
  (∀ (s : State) (p : Fin 2),
    s.chainOn = true →
    s.linkIsUp p = false →
    s.jtl.led = false →
    s.jtl.sweep = none →
    Next (.linkUp p) s fun t =>
      t.linkIsUp p = true ∧ s.electing t ∧ t.bat = (s.fire 0x128 p.val).bat ∧ s.regsBut t [JTL_LINK.at p.val, JTL_STAT.at] ∧
      t = { s with regs := t.regs, bat := t.bat, jtl := t.jtl }) ∧
  (∀ (s : State) (p : Fin 2) (k : Nat),
    s.chainOn = true →
    s.linkIsUp p = true →
    s.jtl.led = true →
    s.leading = false →
    s.get JTL_STAT.LOCKPORT = p.val →
    s.jtl.hopsSeen[(1 - p).val]? = some (some k) →
    s.jtl.sweep = none →
    s.upd.relay = none →
    Next (.linkDown p 0) s fun t =>
      t.linkIsUp p = false ∧ t.get JTL_STAT.LOCKPORT = (1 - p).val ∧ t.bit JTL_STAT.RING = false ∧ t.jtl.frz = s.jtl.frz ∧
      t.get (JTL_LINK.DOWNS p.val) = min (s.get (JTL_LINK.DOWNS p.val) + 1) (2 ^ (JTL_LINK.DOWNS p.val).w - 1) ∧
      s.regsKept t (fun a => block 9 a || block 7 a || block 10 a) ∧ t.mtr = s.mtr ∧ t.otp = s.otp ∧ t.host = s.host ∧ t.ports = s.ports ∧ t.pending = s.pending) ∧
  (∀ (s : State) (p : Fin 2) (beyond : BitVec 16),
    s.chainOn = true →
    s.linkIsUp p = true →
    s.jtl.led = true →
    s.leading = false →
    s.get JTL_STAT.LOCKPORT = p.val →
    s.jtl.hopsSeen[(1 - p).val]? = some none →
    s.jtl.frz = none →
    Next (.linkDown p beyond) s fun t =>
      t.linkIsUp p = false ∧ t.jtl.frz = some 10 ∧ t.jtl.frzLead = false ∧ t.get TRS_STAT.FROZEN = 1 ∧ t.bit JTL_STAT.SEGMENT = true ∧
      t.mtr = s.mtr ∧ t.otp = s.otp ∧ t.host = s.host ∧ t.pending = s.pending) ∧
  (∀ (s : State) (h : JtlHead) (weight : Byte) (est : Bool) (hops : Byte) (serial : BitVec 96) (b : Claim),
    s.gets h →
    h.dest = 0xFD →
    s.jtl.led = false →
    s.jtl.best = some b →
    Claim.better { serial := serial, weight := weight.toNat, est := est, hops := hops.toNat } b = true →
    Next (.claim h weight est hops serial) s fun t =>
      t.jtl.best = some { serial := serial, weight := weight.toNat, est := est, hops := hops.toNat } ∧ t.jtl.quiet = 0 ∧
      (otherPort h.p &&& s.portsUp ≠ 0 → t.newest = some (s.frameOf tyCLAIM 0xFD [weight.toNat, b2n est, hops.toNat + 1, 0, serial.toNat] (otherPort h.p))) ∧
      t = { s with jtl := t.jtl }) ∧
  (∀ (s : State) (h : JtlHead) (weight : Byte) (est : Bool) (hops : Byte) (serial : BitVec 96) (b : Claim),
    s.gets h →
    h.dest = 0xFD →
    s.jtl.led = true →
    s.jtl.best = some b →
    Claim.better { serial := serial, weight := weight.toNat, est := est, hops := hops.toNat } b = false →
    Next (.claim h weight est hops serial) s fun t =>
      t.jtl.best = some b ∧ t.jtl.led = true ∧
      (portBit h.p &&& s.portsUp ≠ 0 → t.newest = some (s.frameOf tyCLAIM 0xFD (b.body (s.claimHops b)) (portBit h.p))) ∧ t = { s with jtl := t.jtl }) ∧
  (∀ (s : State),
    s.chainOn = true →
    s.bit JTL_STAT.ELECTING = true →
    s.jtl.quiet = 0 →
    Next .electionSettle s fun t =>
      t.jtl.quiet = 1 ∧ t.jtl.best = s.jtl.best ∧ t = { s with jtl := t.jtl }) ∧
  (∀ (s : State) (b : Claim),
    s.chainOn = true →
    s.bit JTL_STAT.ELECTING = true →
    1 ≤ s.jtl.quiet →
    s.jtl.best = some b →
    b.serial = s.serial →
    Next .electionSettle s fun t =>
      t.leading = true ∧ t.bit JTL_STAT.ELECTING = false ∧ t.myNode = some 0 ∧ t.get JTL_STAT.NODE = 0 ∧ t.get JTL_STAT.MEMBERS = 0 ∧
      t.nodeSerial 0 = s.serial ∧ t.validNodes = [0] ∧ t.jtl.led = true ∧ t.jtl.members = [] ∧ t.bat = (s.fire 0x12A).bat ∧
      s.regsKept t (block 9) ∧ t = { s with regs := t.regs, bat := t.bat, jtl := t.jtl }) ∧
  (∀ (s : State) (b : Claim),
    s.chainOn = true →
    s.bit JTL_STAT.ELECTING = true →
    1 ≤ s.jtl.quiet →
    s.jtl.best = some b →
    b.serial ≠ s.serial →
    Next .electionSettle s fun t =>
      t.bit JTL_STAT.ELECTING = false ∧ t.leading = s.leading ∧ s.regsBut t [JTL_STAT.at] ∧ t = { s with regs := t.regs, jtl := t.jtl }) ∧
  (∀ (s : State),
    s.chainOn = true →
    s.leading = false →
    s.jtl.sweep = none →
    Next .indexTimeout s fun t =>
      s.electing t ∧ s.regsBut t [JTL_STAT.at] ∧ t = { s with regs := t.regs, jtl := t.jtl }) ∧
  (∀ (s : State) (hp : HostPort) (key : Byte),
    s.takes hp JTL_CMD.at (BitVec.ofNat 32 (key.toNat * 2 ^ 24 + 4)) →
    s.islandUp islJotil = true →
    Next (.resync hp key) s fun t =>
      t.bit JTL_STAT.UNSYNC = (s.bit JTL_STAT.UNSYNC && !s.leading) ∧ s.hostSays t hp stOK 0 0 ∧ s.passOp.regsBut t [JTL_STAT.at] ∧ t = { s.passOp with regs := t.regs, host := t.host }) ∧
  (∀ (s : State) (hp : HostPort) (key : Byte),
    s.takes hp JTL_CMD.at (BitVec.ofNat 32 (key.toNat * 2 ^ 24 + 2)) →
    s.islandUp islJotil = true →
    s.chainOn = true →
    s.leading = true →
    s.jtl.sweep = none →
    Next (.resign hp key) s fun t =>
      s.electing t ∧ s.hostSays t hp stOK 0 0 ∧ s.passOp.regsBut t [JTL_STAT.at] ∧ t = { s.passOp with regs := t.regs, jtl := t.jtl, host := t.host }) ∧
  (∀ (s : State) (hp : HostPort) (key : Byte),
    s.takes hp JTL_CMD.at (BitVec.ofNat 32 (key.toNat * 2 ^ 24 + 1)) →
    s.islandUp islJotil = true →
    s.chainOn = true →
    s.leading = true →
    s.jtl.sweep = none →
    Next (.elect hp key) s fun t =>
      s.electing t ∧ s.hostSays t hp stOK 0 0 ∧ s.passOp.regsBut t [JTL_STAT.at] ∧ t = { s.passOp with regs := t.regs, jtl := t.jtl, host := t.host }) ∧
  (∀ (s : State) (hp : HostPort) (key : Byte),
    s.takes hp JTL_CMD.at (BitVec.ofNat 32 (key.toNat * 2 ^ 24 + 1)) →
    s.leading = false →
    Next (.elect hp key) s fun t =>
      s.hostSays t hp stOK 0 0 ∧ t = { s.passOp with host := t.host })

/-- The chain index at the leader and at a member, and the hop delays (R314 to R319, R334). The model's choices in it: assumption log 58, 60, 65, 117 and 148. -/
def Obligations.ChainIndex : Prop :=
  (∀ (s : State),
    s.chainOn = true →
    s.leading = true →
    s.jtl.bracing = false →
    s.jtl.sweep = none →
    s.jtl.sweepPend = false →
    s.jtl.frz = none →
    s.jtl.members = [] →
    s.jtl.joining = [] →
    Next .indexGenerate s fun t =>
      t.get JTL_IDXNUM.IDXNUM = s.nextIdx % 2 ^ 32 ∧ t.jtl.localIdx = some s.nextIdx ∧ t.get JTL_STAT.MEMBERS = 0 ∧
      (s.portsUp ≠ 0 → t.jtl.sent.any (fun f => f.ty == tyINDEX && f.body.headD 0 == s.nextIdx && f.ports == s.portsUp) = true) ∧
      t.jtl.ownDemand.demand = s.demand ∧ t.mtr = s.mtr ∧ t.otp = s.otp ∧ t.host = s.host ∧ t.pending = s.pending) ∧
  (∀ (s : State),
    s.chainOn = false →
    s.jtl.frz = none →
    Next .indexGenerate s fun t =>
      t.get JTL_IDXNUM.IDXNUM = s.nextIdx % 2 ^ 32 ∧ t.jtl = { s.jtl with localIdx := some s.nextIdx } ∧ s.regsBut t [JTL_IDXNUM.at] ∧ t = { s with regs := t.regs, jtl := t.jtl }) ∧
  (∀ (s : State) (h : JtlHead) (x : IndexInfo) (b : Claim),
    s.gets h →
    h.dest = 0xFF →
    s.leading = false →
    s.jtl.led = true →
    s.bit JTL_STAT.ELECTING = false →
    s.jtl.best = some b →
    b.serial = x.serial →
    s.leaderSerial = x.serial →
    x.serial ≠ s.serial →
    x.weight ≠ 0 →
    s.jtl.bracing = false →
    s.jtl.fresh = false →
    s.jtl.frz = none →
    x.frzrem = 0 →
    s.jtl.abortMeas = none →
    s.jtl.sweep = none →
    s.jtl.shareNext = none →
    s.jtl.phaseNext = none →
    x.count = 1024 →
    Next (.index h x) s fun t =>
      t.get JTL_IDXNUM.IDXNUM = x.idxnum.toNat ∧ t.jtl.localIdx = some x.idxnum.toNat ∧ t.get JTL_CHAINBUDGET.BUDGET = x.budget.toNat ∧
      t.get JTL_STAT.MEMBERS = x.members.toNat ∧ (s.bit JTL_STAT.UNSYNC = false → x.flags.getLsbD 0 = false → t.jtl.goodRow = min 2 (s.jtl.goodRow + 1)) ∧
      t.jtl.hopsSeen = s.jtl.hopsSeen.set h.p.val (some x.hops.toNat) ∧ t.jtl.ownDemand.demand = s.demand ∧ t.leading = false ∧
      s.regsKept t (block 9) ∧ t = { s with regs := t.regs, jtl := t.jtl, slices := t.slices }) ∧
  (∀ (s : State) (h : JtlHead) (x : IndexInfo),
    s.gets h →
    h.dest = 0xFF →
    s.leading = false →
    x.weight = 0 →
    x.serial = BitVec.allOnes 96 →
    s.jtl.sweep = none →
    Next (.index h x) s fun t =>
      s.electing t ∧ s.regsKept t (block 9) ∧ t = { s with regs := t.regs, jtl := t.jtl }) ∧
  (∀ (s : State),
    s.chainOn = true →
    s.leading = false →
    s.jtl.led = true →
    s.jtl.fresh = false →
    s.jtl.frz = none →
    s.upd.relay = none →
    Next .indexMissing s fun t =>
      t.get JTL_SLIP.MAJOR = min (s.get JTL_SLIP.MAJOR + 1) (2 ^ JTL_SLIP.MAJOR.w - 1) ∧ t.get JTL_SLIP.OFFS = 0x7FFF ∧ t.bit JTL_STAT.FREERUN = true ∧
      t.bit JTL_STAT.LOCKED = false ∧ t.get JTL_IDXNUM.IDXNUM = s.nextIdx % 2 ^ 32 ∧ t.jtl.fresh = true ∧ t.jtl.goodRow = 0 ∧
      s.regsKept t (fun a => block 9 a || block 7 a || block 10 a) ∧ t.mtr = s.mtr ∧ t.otp = s.otp ∧ t.host = s.host ∧ t.ports = s.ports ∧ t.pending = s.pending) ∧
  (∀ (s : State) (h : JtlHead) (turn rtt : BitVec 32),
    s.gets h →
    h.dest = 0xFD →
    Next (.echo h false turn rtt) s fun t =>
      (portBit h.p &&& s.portsUp ≠ 0 → t.newest = some (s.frameOf tyECHO 0xFD [1, rtt.toNat] (portBit h.p))) ∧ t = { s with jtl := t.jtl }) ∧
  (∀ (s : State) (h : JtlHead) (turn rtt : BitVec 32),
    s.gets h →
    h.dest = 0xFD →
    Next (.echo h true turn rtt) s fun t =>
      t.get (hopDly h.p) = min 65535 ((rtt.toNat - turn.toNat) / 2) ∧ t.bit (JTL_LINK.NODLY h.p.val) = false ∧
      s.regsBut t [JTL_HOPDLY.at, JTL_LINK.at h.p.val] ∧ t = { s with regs := t.regs }) ∧
  (∀ (s : State) (p : Fin 2),
    s.chainOn = true →
    s.linkIsUp p = true →
    Next (.echoTimeout p) s fun t =>
      t.get (hopDly p) = 0 ∧ t.bit (JTL_LINK.NODLY p.val) = true ∧ s.regsBut t [JTL_HOPDLY.at, JTL_LINK.at p.val] ∧ t = { s with regs := t.regs })

/-- Membership, demands, shares, phases and the chain budget (R310, R320 to R323, R331, R332, R334). The model's choices in it: assumption log 59 and
63. -/
def Obligations.ChainMembersAndShares : Prop :=
  (∀ (s : State) (h : JtlHead) (serial : BitVec 96) (mask ilv floor : BitVec 16),
    s.gets h →
    s.forMe h.dest.toNat = true →
    s.jtl.lost = [] →
    s.jtl.members.all (fun x => x.2.serial != serial) = true →
    Next (.member h serial mask ilv floor) s fun t =>
      t.jtl.joining = { serial := serial, mask := mask.toNat, ilv := ilv.toNat, floor := floor.toNat } :: s.jtl.joining.filter (fun x => x.serial != serial) ∧
      t.jtl.members = s.jtl.members ∧ t = { s with jtl := t.jtl }) ∧
  (∀ (s : State) (h : JtlHead) (serial : BitVec 96) (mask ilv floor : BitVec 16) (k : Fin 16) (m : Member),
    s.gets h →
    s.forMe h.dest.toNat = true →
    s.jtl.lost = [] →
    s.jtl.members = [(k.val, m)] →
    m.serial = serial →
    Next (.member h serial mask ilv floor) s fun t =>
      t.jtl.members = [(k.val, { serial := serial, mask := mask.toNat, ilv := ilv.toNat, floor := floor.toNat })] ∧ t.nodeSerial k.val = serial ∧
      t.rd (JTL_NODE.at k.val 3) = BitVec.ofNat 32 (mask.toNat + 65536) ∧
      s.regsBut t [JTL_NODE.at k.val 0, JTL_NODE.at k.val 1, JTL_NODE.at k.val 2, JTL_NODE.at k.val 3] ∧ t = { s with regs := t.regs, jtl := t.jtl }) ∧
  (∀ (s : State) (h : JtlHead) (serial : BitVec 96) (node : Fin 16),
    s.gets h →
    s.forMe h.dest.toNat = true →
    s.leading = false →
    serial = s.serial →
    Next (.assign h serial node) s fun t =>
      t.get JTL_STAT.NODE = node.val ∧ t.nodeSerial node.val = serial ∧ t.rd (JTL_NODE.at node.val 3) = BitVec.ofNat 32 (s.get GLB_PORTMASK.PRESENT % 65536 + 0x30000) ∧
      s.regsBut t [JTL_STAT.at, JTL_NODE.at node.val 0, JTL_NODE.at node.val 1, JTL_NODE.at node.val 2, JTL_NODE.at node.val 3] ∧ t = { s with regs := t.regs, jtl := t.jtl }) ∧
  (∀ (s : State) (h : JtlHead) (serial : BitVec 96) (node : Fin 16),
    s.gets h →
    s.forMe h.dest.toNat = true →
    s.leading = false →
    s.jtl.lost = [] →
    serial ≠ s.serial →
    Next (.assign h serial node) s fun t =>
      t.get JTL_STAT.NODE = s.get JTL_STAT.NODE ∧ t.nodeSerial node.val = serial ∧ t.rd (JTL_NODE.at node.val 3) = 0x10000 ∧
      s.regsBut t [JTL_NODE.at node.val 0, JTL_NODE.at node.val 1, JTL_NODE.at node.val 2, JTL_NODE.at node.val 3] ∧ t = { s with regs := t.regs, jtl := t.jtl }) ∧
  (∀ (s : State) (h : JtlHead) (ts : List (BitVec 24)),
    s.gets h →
    s.forMe h.dest.toNat = true →
    Next (.periods h ts) s fun t =>
      assocGet t.jtl.periods h.src.toNat = some (ts.map BitVec.toNat) ∧ t = { s with jtl := t.jtl }) ∧
  (∀ (s : State) (h : JtlHead) (demand want floor : BitVec 16) (flags : Byte),
    s.gets h →
    s.forMe h.dest.toNat = true →
    s.jtl.members.any (fun m => m.1 == h.src.toNat) = true →
    h.src.toNat < 16 →
    Next (.demand h demand want floor flags) s fun t =>
      assocGet t.jtl.demands h.src.toNat = some { demand := demand.toNat, want := want.toNat, floor := floor.toNat } ∧ h.src.toNat ∈ t.jtl.heard ∧
      assocGet t.jtl.missed h.src.toNat = some 0 ∧ t.get (JTL_SHARETAB.DEMAND h.src.toNat) = demand.toNat ∧
      (flags.getLsbD 0 = true → t.bit JTL_STAT.UNSYNC = true) ∧ (flags.getLsbD 2 = true → t.bit JTL_STAT.BRACE = true) ∧
      (flags.getLsbD 0 = false → s.regsBut t [JTL_SHARETAB.at h.src.toNat, JTL_STAT.at] ∧ t.slices = s.slices) ∧
      s.regsBut t [JTL_SHARETAB.at h.src.toNat, JTL_STAT.at, GLB_PLLSTAT.at] ∧
      (∀ k : Fin 48, t.slices[k] = { s.slices[k] with slip := t.slices[k].slip }) ∧ t = { s with regs := t.regs, jtl := t.jtl, slices := t.slices }) ∧
  (∀ (s : State) (h : JtlHead) (apply : BitVec 32) (ws : List (BitVec 16)) (k : Nat) (w : BitVec 16),
    s.gets h →
    s.forMe h.dest.toNat = true →
    s.leading = false →
    s.jtlFull = false →
    s.myNode = some k →
    ws[k]? = some w →
    Next (.share h apply ws) s fun t =>
      t.jtl.shareNext = some (apply.toNat, w.toNat) ∧ (∀ j : Fin 16, ∀ x, ws[j.val]? = some x → t.get (JTL_SHARETAB.SHARE j.val) = x.toNat) ∧
      s.regsKept t (fun a => (List.range 16).any (fun j => a == JTL_SHARETAB.at j)) ∧ t = { s with regs := t.regs, jtl := t.jtl }) ∧
  (∀ (s : State) (h : JtlHead) (apply : BitVec 32) (ws : List (BitVec 16)),
    s.gets h →
    s.forMe h.dest.toNat = true →
    s.leading = false →
    s.jtlFull = true →
    Next (.share h apply ws) s fun t =>
      t.get JTL_CNT.REFUSED = min (s.get JTL_CNT.REFUSED + 1) (2 ^ JTL_CNT.REFUSED.w - 1) ∧ t.jtl.shareNext = s.jtl.shareNext ∧
      s.regsBut t [JTL_CNT.at] ∧ t = { s with regs := t.regs, jtl := t.jtl }) ∧
  (∀ (s : State) (h : JtlHead) (apply : BitVec 32) (ps : List (Fin 16 × BitVec 16)),
    s.gets h →
    s.forMe h.dest.toNat = true →
    s.jtlFull = false →
    s.peer = true →
    Next (.phase h apply ps) s fun t =>
      t.jtl.phaseNext = some (apply.toNat, ps.map (fun p => (p.1.val, p.2.toNat))) ∧ t = { s with jtl := t.jtl }) ∧
  (∀ (s : State) (h : JtlHead) (apply : BitVec 32) (ps : List (Fin 16 × BitVec 16)),
    s.gets h →
    s.forMe h.dest.toNat = true →
    s.jtlFull = false →
    s.peer = false →
    Next (.phase h apply ps) s fun t =>
      t.get JTL_CNT.REFUSED = min (s.get JTL_CNT.REFUSED + 1) (2 ^ JTL_CNT.REFUSED.w - 1) ∧ t.jtl.phaseNext = s.jtl.phaseNext ∧
      s.regsBut t [JTL_CNT.at] ∧ t = { s with regs := t.regs, jtl := t.jtl }) ∧
  (∀ (s : State) (h : JtlHead) (watts : BitVec 16),
    s.gets h →
    s.forMe h.dest.toNat = true →
    Next (.budget h watts) s fun t =>
      t.get JTL_CHAINBUDGET.BUDGET = watts.toNat ∧ t.jtl.budgetSince = true ∧ s.regsBut t [JTL_CHAINBUDGET.at] ∧ t = { s with regs := t.regs, jtl := t.jtl }) ∧
  (∀ (s : State) (hp : HostPort) (watts : BitVec 16),
    s.takes hp JTL_CHAINBUDGET.at (BitVec.ofNat 32 watts.toNat) →
    s.chainOn = true →
    Next (.chainbudgetWrite hp watts) s fun t =>
      t.get JTL_CHAINBUDGET.BUDGET = watts.toNat ∧ (s.leading = true → t.jtl = { s.jtl with budgetSince := true }) ∧
      (s.leading = false → s.lockMask &&& s.portsUp ≠ 0 → t.newest = some (s.frameOf tyBUDGET 0xFE [watts.toNat] s.lockMask)) ∧
      s.hostSays t hp stOK 0 0 ∧ s.passOp.regsBut t [JTL_CHAINBUDGET.at] ∧ t = { s.passOp with regs := t.regs, jtl := t.jtl, host := t.host })

/-- Refusals, lost nodes, bad frames, chain events and sweeps (R306, R310, R324, R326 to R331, R334, R337). The model's choices in it: assumption log 56, 61,
64 and 147. -/
def Obligations.ChainFaultsAndSweeps : Prop :=
  (∀ (s : State) (h : JtlHead) (seq : Byte) (f : JtlFrame × Nat),
    s.gets h →
    s.forMe h.dest.toNat = true →
    s.jtl.unacked.find? (fun g => g.1.seq == seq.toNat) = some f →
    Next (.refuse h seq) s fun t =>
      t.jtl.refused = s.jtl.refused ++ [f] ∧ t.jtl.unacked = s.jtl.unacked.filter (fun g => g.1.seq != seq.toNat) ∧ t = { s with jtl := t.jtl }) ∧
  (∀ (s : State) (seq : Byte) (f : JtlFrame) (k : Nat),
    s.jtl.refused.find? (fun g => g.1.seq == seq.toNat) = some (f, k) →
    k < 8 →
    f.ports ≠ 0 →
    Next (.frameRetransmit seq) s fun t =>
      t.newest = some f ∧ t.jtl.refused = s.jtl.refused.filter (fun g => g.1.seq != seq.toNat) ∧ t = { s with jtl := t.jtl }) ∧
  (∀ (s : State) (seq : Byte) (f : JtlFrame) (k : Nat),
    s.jtl.refused.find? (fun g => g.1.seq == seq.toNat) = some (f, k) →
    8 ≤ k →
    Next (.frameRetransmit seq) s fun t =>
      t.get JTL_CNT.GIVEUP = min (s.get JTL_CNT.GIVEUP + 1) (2 ^ JTL_CNT.GIVEUP.w - 1) ∧ t.jtl.sent = s.jtl.sent ∧
      t.jtl.refused = s.jtl.refused.filter (fun g => g.1.seq != seq.toNat) ∧ s.regsBut t [JTL_CNT.at] ∧ t = { s with regs := t.regs, jtl := t.jtl }) ∧
  (∀ (s : State) (h : JtlHead) (nodes : BitVec 16) (k : Fin 16),
    s.gets h →
    s.forMe h.dest.toNat = true →
    s.leading = true →
    s.jtl.frz = none →
    s.jtl.sweep = none →
    k.val ≠ 0 →
    nodes.toNat.testBit k.val = true →
    nodeValid (s.rd (JTL_NODE.at k.val 3)) = true →
    Next (.loss h nodes) s fun t =>
      nodeValid (t.rd (JTL_NODE.at k.val 3)) = false ∧ t.jtl.members.all (fun m => m.1 != k.val) = true ∧ t.jtl.lost.contains (s.nodeSerial k.val) = true ∧
      t.jtl.frz = some 10 ∧ t.get TRS_STAT.FROZEN = 1 ∧ t.bit JTL_STAT.SEGMENT = true ∧
      s.regsKept t (fun a => block 9 a || a == TRS_STAT.at) ∧ t = { s with regs := t.regs, bat := t.bat, jtl := t.jtl }) ∧
  (∀ (s : State) (p : Fin 2) (codes : Byte),
    s.chainOn = true →
    s.linkIsUp p = true →
    Next (.frameError p ⟨true, codes⟩) s fun t =>
      t.get (JTL_LINK.FRMERR p.val) = min (s.get (JTL_LINK.FRMERR p.val) + 1) (2 ^ (JTL_LINK.FRMERR p.val).w - 1) ∧
      t.get (JTL_LINK.CODEERR p.val) = min (s.get (JTL_LINK.CODEERR p.val) + codes.toNat) (2 ^ (JTL_LINK.CODEERR p.val).w - 1) ∧
      t.bat = (s.fire 0x12E).bat ∧ s.regsBut t [JTL_LINK.at p.val] ∧ t = { s with regs := t.regs, bat := t.bat }) ∧
  (∀ (s : State) (p : Fin 2) (codes : Byte),
    s.chainOn = true →
    s.linkIsUp p = true →
    Next (.frameError p ⟨false, codes⟩) s fun t =>
      t.rd (JTL_LINK.at p.val) = (s.satAdd (JTL_LINK.CODEERR p.val) codes.toNat).rd (JTL_LINK.at p.val) ∧
      s.regsBut t [JTL_LINK.at p.val] ∧ t = { s with regs := t.regs }) ∧
  (∀ (s : State) (hp : HostPort) (key : Byte),
    s.takes hp JTL_CMD.at (BitVec.ofNat 32 (key.toNat * 2 ^ 24 + 32)) →
    s.islandUp islJotil = true →
    Next (.jtlClrcnt hp key) s fun t =>
      t.rd JTL_SLIP.at = 0 ∧ t.rd JTL_CNT.at = 0 ∧ (∀ p : Fin 2, t.get (JTL_LINK.DOWNS p.val) = 0 ∧ t.get (JTL_LINK.FRMERR p.val) = 0 ∧ t.get (JTL_LINK.CODEERR p.val) = 0) ∧
      s.hostSays t hp stOK 0 0 ∧ s.passOp.regsBut t [JTL_SLIP.at, JTL_CNT.at, JTL_LINK.at 0, JTL_LINK.at 1] ∧ t = { s.passOp with regs := t.regs, host := t.host }) ∧
  (∀ (s : State) (h : JtlHead) (k : Fin 4) (node : Byte) (ev data : BitVec 16) (sec : BitVec 32) (usec : BitVec 24),
    s.gets h →
    s.forMe h.dest.toNat = true →
    s.peer = true →
    s.myNode ≠ some h.src.toNat →
    s.evCfg k < 128 →
    Next (.chainEvent h k node ev data sec usec) s fun t =>
      t.get (JTL_EVRX.COUNT k.val) = (s.get (JTL_EVRX.COUNT k.val) + 1) % 2 ^ (JTL_EVRX.COUNT k.val).w ∧ t.get (JTL_EVRX.NODE k.val) = node.toNat % 2 ^ (JTL_EVRX.NODE k.val).w ∧
      t.get (JTL_EVRX.SRC k.val) = ev.toNat % 2 ^ (JTL_EVRX.SRC k.val).w ∧ s.regsBut t [JTL_EVRX.at k.val] ∧ t = { s with regs := t.regs, jtl := t.jtl }) ∧
  (∀ (s : State) (h : JtlHead) (k : Fin 4) (node : Byte) (ev data : BitVec 16) (sec : BitVec 32) (usec : BitVec 24),
    s.gets h →
    s.forMe h.dest.toNat = true →
    s.peer = true →
    s.myNode ≠ some h.src.toNat →
    128 ≤ s.evCfg k →
    s.evCfg k % 128 < 32 →
    Next (.chainEvent h k node ev data sec usec) s fun t =>
      t.get (JTL_EVRX.COUNT k.val) = (s.get (JTL_EVRX.COUNT k.val) + 1) % 2 ^ (JTL_EVRX.COUNT k.val).w ∧
      (t.get BAT_IRQSTAT.HIRQ).testBit (s.evCfg k % 128) = true ∧ s.regsBut t [JTL_EVRX.at k.val, BAT_IRQSTAT.at] ∧
      t = { s with regs := t.regs, bat := t.bat, jtl := t.jtl }) ∧
  (∀ (s : State) (h : JtlHead) (k : Fin 4) (node : Byte) (ev data : BitVec 16) (sec : BitVec 32) (usec : BitVec 24),
    s.gets h →
    s.forMe h.dest.toNat = true →
    s.peer = false ∨ (128 ≤ s.evCfg k ∧ peerDest (s.evCfg k % 128) = false) →
    s.myNode ≠ some h.src.toNat →
    Next (.chainEvent h k node ev data sec usec) s fun t =>
      t.get JTL_CNT.REFUSED = min (s.get JTL_CNT.REFUSED + 1) (2 ^ JTL_CNT.REFUSED.w - 1) ∧ s.regsBut t [JTL_CNT.at] ∧ t = { s with regs := t.regs, jtl := t.jtl }) ∧
  (∀ (s : State) (h : JtlHead) (k : Fin 4) (node : Byte) (ev data : BitVec 16) (sec : BitVec 32) (usec : BitVec 24),
    s.gets h →
    s.myNode = some h.src.toNat →
    Next (.chainEvent h k node ev data sec usec) s fun t => t = { s with jtl := t.jtl }) ∧
  (∀ (s : State) (h : JtlHead) (id nph : Byte) (start : BitVec 32) (order : List Byte),
    s.gets h →
    s.forMe h.dest.toNat = true →
    s.leading = false →
    s.jtl.sweep = none →
    Next (.sweep h 1 id nph start order) s fun t =>
      t.jtl.sweep = some { budget := 0, id := id.toNat, nph := max 1 nph.toNat, start := start.toNat, order := order.map BitVec.toNat, saved := [] } ∧
      t.bit JTL_STAT.SWEEP = true ∧ t.get JTL_SWSTAT.SWEEPID = id.toNat ∧ t.get JTL_SWSTAT.STATE = 0 ∧ t.get JTL_SWSTAT.DUR = 0 ∧
      s.regsBut t [JTL_STAT.at, JTL_SWSTAT.at] ∧ t = { s with regs := t.regs, jtl := t.jtl }) ∧
  (∀ (s : State) (w : Sweep),
    s.jtl.sweep = some w →
    s.jtl.abortMeas = none →
    s.jtl.localIdx = none →
    w.order = [] →
    s.get JTL_SWSTAT.STATE ≠ 3 →
    Next .sweepAbort s fun t =>
      t.jtl.sweep = none ∧ t.jtl.held = 0 ∧ t.bit JTL_STAT.SWEEP = false ∧ t.bat = (s.fire 0x12D (1 + w.id * 256)).bat ∧
      ((∀ n : Fin 16, heldPcaps ∉ (s.pd n).held) → s.regsKept t (block 9) ∧ t = { s with regs := t.regs, bat := t.bat, jtl := t.jtl }) ∧
      (∀ n : Fin 16, heldPcaps ∉ (s.pd n).held → t.ports[n] = s.ports[n]) ∧
      (∀ n : Fin 16, heldPcaps ∈ (s.pd n).held → heldPcaps ∉ (t.pd n).held ∧ (s.pstate n ≠ 6 → s.pstate n ≠ 19 → (t.pd n).offerDue = true)) ∧
      t = { s with regs := t.regs, staged := t.staged, freeCtr := t.freeCtr, bat := t.bat, jtl := t.jtl, ports := t.ports }) ∧
  (∀ (s : State),
    s.jtl.sweep = none →
    Next .sweepAbort s fun t =>
      t = { s with jtl := { s.jtl with sweepPend := false } }) ∧
  (∀ (s : State) (us : BitVec 12) (b : Bool),
    s.jtl.abortMeas = some b →
    s.jtl.held = 0 →
    s.jtl.sweep = none →
    Next (.sweepAbortMeasureLimit us) s fun t =>
      t.get JTL_SWSTAT.DUR = us.toNat ∧ t.get JTL_SWSTAT.STATE = 4 ∧ t.jtl.abortMeas = none ∧ t.freeCtr = s.freeCtr + 2 ∧
      ((∀ n : Fin 16, heldPcaps ∉ (s.pd n).held) → s.regsBut t [JTL_SWSTAT.at, JTL_SWDEV.at] ∧ t = { s with regs := t.regs, freeCtr := t.freeCtr, jtl := t.jtl }) ∧
      (∀ n : Fin 16, heldPcaps ∉ (s.pd n).held → t.ports[n] = s.ports[n]) ∧
      (∀ n : Fin 16, heldPcaps ∈ (s.pd n).held → heldPcaps ∉ (t.pd n).held ∧ (s.pstate n ≠ 6 → s.pstate n ≠ 19 → (t.pd n).offerDue = true)) ∧
      t = { s with regs := t.regs, staged := t.staged, freeCtr := t.freeCtr, bat := t.bat, jtl := t.jtl, ports := t.ports }) ∧
  (∀ (s : State) (h : JtlHead) (id : Byte) (dev w0 : BitVec 32) (w : Sweep) (first : Byte),
    s.gets h →
    s.forMe h.dest.toNat = true →
    s.jtl.sweep = some w →
    w.id = id.toNat →
    s.jtl.abortMeas = none →
    h.src.toNat < 16 →
    first.toNat < 16 →
    Next (.swres h id first dev [w0]) s fun t =>
      t.rd (JTL_SWTAB.at h.src.toNat first.toNat) = w0 ∧ t.swNode h.src.toNat = 1 ∧
      s.regsBut t [JTL_SWTAB.at h.src.toNat first.toNat, JTL_SWNODE.at] ∧ t = { s with regs := t.regs, jtl := t.jtl }) ∧
  (∀ (s : State) (hp : HostPort) (key : Byte),
    s.takes hp JTL_CMD.at (BitVec.ofNat 32 (key.toNat * 2 ^ 24 + 16)) →
    s.islandUp islJotil = true →
    s.jtl.sweep = none →
    Next (.swabort hp key) s fun t =>
      t.jtl = { s.jtl with sweepPend := false } ∧ s.hostSays t hp stOK 0 0 ∧ t = { s.passOp with jtl := t.jtl, host := t.host }) ∧
  (∀ (s : State) (hp : HostPort) (key : Byte),
    s.takes hp JTL_CMD.at (BitVec.ofNat 32 (key.toNat * 2 ^ 24 + 8)) →
    s.islandUp islJotil = true →
    s.chainOn = true →
    s.leading = true →
    Next (.swstart hp key) s fun t =>
      (s.jtl.sweep = none → s.jtl.sweepPend = false → s.jtl.frz = none → s.bit JTL_STAT.BRACE = false → t.jtl = { s.jtl with sweepPend := true } ∧ t.regs = s.passOp.regs) ∧
      (s.jtl.sweepPend = true → t.get JTL_SWSTAT.STATE = 6 ∧ t.jtl = s.jtl) ∧
      s.hostSays t hp stOK 0 0 ∧ s.passOp.regsBut t [JTL_SWSTAT.at] ∧ t = { s.passOp with regs := t.regs, jtl := t.jtl, host := t.host })

/-- The clock: seconds boundary, alarm, a staged time, the crystal, the capture delay (R382 to R385, R391, R393, R400, R406, R409, R511). The model's choices
in it: assumption log 5, 68 and 99. -/
def Obligations.SecondsBoundary : Prop :=
  (∀ (s : State),
    s.mtr.timeSet = none →
    s.bit SOF_ALARMCTL.EN = false →
    Next .secondBoundary s fun t =>
      let u := { s with soffit := { s.soffit with sec := (s.soffit.sec + 1) % 2 ^ 32, usec := 0 } }
      t.soffit = u.soffit ∧ t.get UPD_CONFTIME.SECS = s.get UPD_CONFTIME.SECS - 1 ∧ t.bat = (u.fire 0x135).bat ∧
      boundaryRegs.all (fun a => t.rd a == (cellGet s.staged a).getD (s.rd a)) = true ∧
      s.regsKept t (fun a => boundaryRegs.contains a || [SOF_TIME_STAT.at, MTR_STAT.at, UPD_CONFTIME.at, MTR_IVSTART.at, OTP_SCRUB.at].contains a) ∧
      t.get OTP_SCRUB.SINCE = (if s.bit OTP_STAT.LOADED then min (s.get OTP_SCRUB.SINCE + 1) 65535 else s.get OTP_SCRUB.SINCE) ∧
      (∀ n : Fin 16, s.present n = true → (t.meter n).secE = 0) ∧
      (∀ n : Fin 16, (t.meter n).etot = (s.meter n).etot ∧ (t.meter n).bands = (s.meter n).bands) ∧
      t = { s with regs := t.regs, staged := t.staged, soffit := t.soffit, bat := t.bat, mtr := t.mtr, slate := t.slate }) ∧
  (∀ (s : State),
    s.mtr.timeSet = none →
    s.bit SOF_ALARMCTL.EN = true →
    s.get SOF_ALARM.SEC = (s.soffit.sec + 1) % 2 ^ 32 →
    Next .secondBoundary s fun t =>
      t.bit SOF_ALARMCTL.EN = false ∧ t.bit SOF_ALARMCTL.FIRED = true ∧ t.bit SOF_WAKE_STAT.RTCALM = true ∧ t.soffit.sec = (s.soffit.sec + 1) % 2 ^ 32 ∧
      s.regsKept t (fun a => boundaryRegs.contains a || [SOF_TIME_STAT.at, MTR_STAT.at, UPD_CONFTIME.at, MTR_IVSTART.at, OTP_SCRUB.at, SOF_ALARMCTL.at, SOF_WAKE_STAT.at].contains a) ∧
      t = { s with regs := t.regs, staged := t.staged, soffit := t.soffit, bat := t.bat, mtr := t.mtr, slate := t.slate }) ∧
  (∀ (s : State) (v port : Nat),
    s.mtr.timeSet = some (v, port) →
    s.slate.buf.length < 14 →
    s.bit MTR_SLSTAT.EN = true →
    Next .secondBoundary s fun t =>
      t.soffit.sec = v % 2 ^ 32 ∧ t.soffit.usec = 0 ∧ t.mtr.timeSet = none ∧ t.bit SOF_TIME_STAT.VALID = true ∧ t.bit SOF_TIME_STAT.PEND = false ∧
      t.bit MTR_STAT.VALID = true ∧ t.mtr.ops = s.mtr.ops.filter (fun o => o.boundary.isNone) ∧
      t.slate.buf.any (fun r => r.ty == recTIME && r.payload == [BitVec.ofNat 32 ((s.soffit.sec + 1) % 2 ^ 32), 0, BitVec.ofNat 32 v, BitVec.ofNat 32 port]) = true ∧
      t = { s with regs := t.regs, staged := t.staged, soffit := t.soffit, bat := t.bat, mtr := t.mtr, slate := t.slate }) ∧
  (∀ (s : State),
    s.mtr.timeSet = none →
    s.timeValid = true →
    s.bit MTR_STAT.IVRUN = false →
    s.noneStaged →
    s.ivBoundary ((s.soffit.sec + 1) % 2 ^ 32) = true →
    Next .secondBoundary s fun t =>
      t.bit MTR_STAT.IVRUN = true ∧ t.get MTR_IVSTART.SEC = (s.soffit.sec + 1) % 2 ^ 32 ∧ t.mtr.gap = none ∧ t.mtr.incomplete = false ∧
      (∀ n : Fin 16, s.present n = true → (t.meter n).ivE = 0 ∧ (t.meter n).peak = 0) ∧
      t = { s with regs := t.regs, staged := t.staged, soffit := t.soffit, bat := t.bat, mtr := t.mtr, slate := t.slate }) ∧
  (∀ (s : State) (hp : HostPort) (secs : BitVec 32),
    s.takes hp SOF_TIME_SET.at secs →
    Next (.sofTimeSet hp secs) s fun t =>
      t.mtr = { s.mtr with timeSet := some (secs.toNat, hp.num) } ∧ t.bit SOF_TIME_STAT.PEND = true ∧ s.hostSays t hp stOK 0 0 ∧
      s.passOp.regsBut t [SOF_TIME_STAT.at] ∧ t = { s.passOp with regs := t.regs, host := t.host, mtr := t.mtr }) ∧
  (∀ (s : State),
    s.bit SOF_TIME_STAT.SRC = true →
    Next .rtcCrystalFail s fun t =>
      t.bit SOF_TIME_STAT.SRC = false ∧ t.bit SOF_TIME_STAT.X32FAIL = true ∧ t.bat = (s.fire 0x105 1).bat ∧ s.regsBut t [SOF_TIME_STAT.at] ∧
      t = { s with regs := t.regs, bat := t.bat }) ∧
  (∀ (s : State),
    s.bit SOF_TIME_STAT.SRC = false →
    Next .rtcCrystalFail s fun t => t = s) ∧
  (∀ (s : State),
    s.islandUp islRidge = true →
    4 ≤ s.get GLB_BOOTSTAT.STAGE →
    Next .xdsCalibration s fun t => t.boot = { s.boot with xds := Config.freeValue s.freeCtr } ∧ t = { s with freeCtr := s.freeCtr + 1, boot := t.boot })

/-- The integration tick: energies, device time and the gain (R387 to R389, R406). The model's choices in it: assumption log 3, 5, 69 and 151. -/
def Obligations.EnergyTicks : Prop :=
  (∀ (s : State) (n : Fin 16) (e : Int) (reports : List (Option Int)),
    s.present n = true →
    s.metering n = true →
    reports[n.val]? = some (some e) →
    Next (.integrationTick reports) s fun t =>
      t.bit (MTR_PSTAT.METERING n) = true ∧ (t.meter n).etot = ((s.meter n).etot + e.toNat) % 2 ^ 64 ∧
      (t.meter n).bands = (s.meter n).bands.set (s.get (MTR_PSTAT.BAND n)) (((s.meter n).bands.getD (s.get (MTR_PSTAT.BAND n)) 0 + e.toNat) % 2 ^ 64) ∧
      (t.meter n).ivE = (if s.bit MTR_STAT.IVRUN then (s.meter n).ivE + e.toNat else (s.meter n).ivE) ∧ (t.meter n).secE = (s.meter n).secE + e.toNat ∧
      t.get (MTR_PSTAT.MISSED n) = s.get (MTR_PSTAT.MISSED n) ∧ (t.meter n).missed = (s.meter n).missed) ∧
  (∀ (s : State) (reports : List (Option Int)),
    Next (.integrationTick reports) s fun t =>
      t.soffit = { s.soffit with usec := min 999999 (s.soffit.usec + 1000), uptime := s.soffit.uptime + 1000 } ∧
      (∀ n : Fin 16, s.present n = false ∨ s.metering n = false → t.meter n = s.meter n) ∧
      (∀ n : Fin 16, s.present n = true → t.bit (MTR_PSTAT.METERING n) = s.metering n ∧ t.get (MTR_PSTAT.BAND n) = s.get (MTR_PSTAT.BAND n)) ∧
      s.regsKept t (block 11) ∧ t = { s with regs := t.regs, mtr := t.mtr, soffit := t.soffit }) ∧
  (∀ (s : State) (n : Fin 16),
    s.present n = true →
    Next (.housekeepingGainSample n true) s fun t =>
      t.meter n = { s.meter n with gain := Config.freeValue s.freeCtr } ∧ (∀ m : Fin 16, m ≠ n → t.meter m = s.meter m) ∧
      t = { s with freeCtr := s.freeCtr + 1, mtr := { s.mtr with ports := t.mtr.ports } }) ∧
  (∀ (s : State) (n : Fin 16),
    Next (.housekeepingGainSample n false) s fun t => t = s)

/-- Tariff bands and demand intervals (R391, R392, R394, R405, R410). The model's choices in it: assumption log 23, 70 and 73. -/
def Obligations.BandsAndIntervals : Prop :=
  (∀ (s : State) (j : Fin 64),
    s.bit MTR_STAT.SCHEDON = true →
    s.bit MTR_STAT.IVRUN = false →
    (∀ i : Fin 64, s.schedHits i.val ((s.soffit.sec + 1) % 2 ^ 32) = true ↔ i = j) →
    Next .scheduleEntry s fun t =>
      t = s.offer { Op.mk0 portGlobal clsTIME srcTimers 2 (s.get (MTR_SCHED1.PORTMASK j.val) + s.get (MTR_SCHED0.BAND j.val) * 65536) with payload := bandPayload ((s.soffit.sec + 1) % 2 ^ 32) false }) ∧
  (∀ (s : State),
    s.bit MTR_STAT.SCHEDON = false →
    s.timeValid = true →
    s.bit MTR_STAT.IVRUN = true →
    s.ivBoundary ((s.soffit.sec + 1) % 2 ^ 32) = true →
    Next .scheduleEntry s fun t =>
      t = s.offer { Op.mk0 portGlobal clsTIME srcTimers 2 0 with payload := bandPayload ((s.soffit.sec + 1) % 2 ^ 32) true }) ∧
  (∀ (s : State) (n : Fin 16) (b : Nat),
    s.mtr.ops = [{ close := false, boundary := none, mask := 2 ^ n.val, band := b }] →
    b < 8 →
    s.present n = true →
    s.get (MTR_PSTAT.BAND n) ≠ b →
    s.slate.buf.length < 16 →
    s.bit MTR_SLSTAT.EN = true →
    Next .bandSwitch s fun t =>
      t.get (MTR_PSTAT.BAND n) = b ∧ (t.meter n).prevBand = s.get (MTR_PSTAT.BAND n) ∧
      (t.meter n).prevE = (s.meter n).bands.getD (s.get (MTR_PSTAT.BAND n)) 0 ∧ t.bat = (s.fire 0x136 (b + n.val * 256)).bat ∧
      (∀ m : Fin 16, m ≠ n → t.meter m = s.meter m) ∧ t.mtr.ops = [] ∧ (t.slate.buf.map LogRec.ty) = s.slate.buf.map LogRec.ty ++ [recTARIFF] ∧
      s.regsBut t [MTR_PSTAT.at n] ∧ t = { s with regs := t.regs, bat := t.bat, mtr := t.mtr, slate := t.slate }) ∧
  (∀ (s : State),
    s.mtr.ops = [] →
    Next .bandSwitch s fun t => t = s) ∧
  (∀ (s : State) (b : Nat),
    s.mtr.ops = [{ close := true, boundary := some b, mask := 0, band := 0 }] →
    b ≤ s.soffit.sec →
    s.bit MTR_STAT.IVRUN = true →
    s.slate.buf.length < 16 →
    s.bit MTR_SLSTAT.EN = true →
    Next .demandClose s fun t =>
      t.bit MTR_STAT.IVRUN = true ∧ t.get MTR_IVSTART.SEC = b % 2 ^ 32 ∧ t.bat = (s.fire 0x137).bat ∧ t.mtr.ops = [] ∧
      (∀ n : Fin 16, s.present n = true → t.get (MTR_DEMAND.DEMAND n) = s.demandW (s.meter n).ivE % 2 ^ 16 ∧ t.get (MTR_DEMAND.PEAK n) = (s.meter n).peak % 2 ^ 16 ∧
        t.get (MTR_DMAX.DMAX n) = max (s.demandW (s.meter n).ivE) (s.get (MTR_DMAX.DMAX n)) % 2 ^ 16 ∧ (t.meter n).ivE = 0 ∧ (t.meter n).peak = 0) ∧
      t.bit MTR_STAT.LATEBAND = (s.bit MTR_STAT.LATEBAND || s.tickStart != (b, 0)) ∧
      (t.slate.buf.map LogRec.ty) = s.slate.buf.map LogRec.ty ++ [recDEMAND] ∧
      s.regsKept t (block 11) ∧ t = { s with regs := t.regs, bat := t.bat, mtr := t.mtr, slate := t.slate }) ∧
  (∀ (s : State),
    (∀ o ∈ s.mtr.ops, o.close = false) →
    Next .demandClose s fun t => t = s) ∧
  (∀ (s : State) (hp : HostPort) (key : Byte) (mask : BitVec 16) (band : BitVec 3),
    s.takes hp MTR_CMD.at (mtrWord key (mask.toNat + band.toNat * 2 ^ 16 + 2 ^ 19)) →
    Next (.setband hp key mask band) s fun t =>
      t.mtr.ops = s.mtr.ops ++ [{ close := false, boundary := none, mask := mask.toNat, band := band.toNat }] ∧ s.hostSays t hp stOK 0 0 ∧
      t = { s.passOp with host := t.host, mtr := { s.mtr with ops := t.mtr.ops } }) ∧
  (∀ (s : State) (hp : HostPort) (key : Byte) (mask : BitVec 16),
    s.takes hp MTR_CMD.at (mtrWord key (mask.toNat + 2 ^ 20)) →
    Next (.clrpeak hp key mask) s fun t =>
      (∀ n : Fin 16, t.get (MTR_DMAX.DMAX n) = if s.present n && mask.getLsbD n.val then 0 else s.get (MTR_DMAX.DMAX n)) ∧ s.hostSays t hp stOK 0 0 ∧
      s.passOp.regsKept t (fun a => (List.finRange 16).any (fun n => a == MTR_DMAX.at n)) ∧ t = { s.passOp with regs := t.regs, host := t.host }) ∧
  (∀ (s : State) (hp : HostPort) (key : Byte),
    s.takes hp MTR_CMD.at (mtrWord key (2 ^ 21)) →
    s.slate.buf.length < 16 →
    s.bit MTR_SLSTAT.EN = true →
    Next (.ckpt hp key) s fun t =>
      t.slate.buf = s.slate.buf ++ [{ ty := recENERGY, payload := s.energyPayload 0, sec := s.soffit.sec, usec := s.soffit.usec, tv := s.timeValid }] ∧
      t.mtr.lastCommit = s.soffit.sec ∧ (∀ n : Fin 16, s.present n = true → (t.meter n).missed = false) ∧ t.regs = s.passOp.regs ∧ s.hostSays t hp stOK 0 0 ∧
      t = { s.passOp with host := t.host, mtr := t.mtr, slate := t.slate })

/-- The Slate log: records, sectors and errors (R396 to R400, R406). The model's choices in it: assumption log 71, 74 and 152. -/
def Obligations.SlateRecords : Prop :=
  (∀ (s : State),
    s.slate.buf.length < 16 →
    s.bit MTR_SLSTAT.EN = true →
    Next .energyCheckpoint s fun t =>
      t.slate.buf = s.slate.buf ++ [{ ty := recENERGY, payload := s.energyPayload 0, sec := s.soffit.sec, usec := s.soffit.usec, tv := s.timeValid }] ∧
      t.mtr.lastCommit = s.soffit.sec ∧ (∀ n : Fin 16, s.present n = true → (t.meter n).missed = false) ∧ t.regs = s.regs ∧
      t = { s with mtr := t.mtr, slate := t.slate }) ∧
  (∀ (s : State),
    16 ≤ s.slate.buf.length →
    s.bit MTR_SLSTAT.EN = true →
    Next .energyCheckpoint s fun t =>
      t.slate = s.slate ∧ t.bit MTR_STAT.RECLOST = true ∧ s.regsBut t [MTR_STAT.at] ∧ t = { s with regs := t.regs, mtr := t.mtr }) ∧
  (∀ (s : State) (r : LogRec) (rest : List LogRec) (k o : Nat),
    s.slate.buf = r :: rest →
    s.slateOn = true →
    s.slate.cur = some (k, o) →
    o + r.bytes ≤ 4096 →
    Next .slateRecordWrite s fun t =>
      t.slate.ring = { sector := k, off := o, seq := s.slate.seq, body := r } :: s.slate.ring ∧ t.slate.cur = some (k, o + r.bytes) ∧
      t.slate.seq = (s.slate.seq + 1) % 65536 ∧ t.slate.buf = rest ∧ t.get MTR_SLPTR.PTR = (k * 4096 + (o + r.bytes)) % 2 ^ 32 ∧
      t.get MTR_SLCOUNT.COUNT = (s.get MTR_SLCOUNT.COUNT + 1) % 2 ^ 32 ∧ s.regsBut t [MTR_SLSTAT.at, MTR_SLPTR.at, MTR_SLCOUNT.at, MTR_STAT.at] ∧
      t = { s with regs := t.regs, slate := t.slate }) ∧
  (∀ (s : State) (r : LogRec) (rest : List LogRec) (k o : Nat),
    s.slate.buf = r :: rest →
    s.slateOn = true →
    s.slate.cur = some (k, o) →
    4096 < o + r.bytes →
    s.slate.sectors.all (fun x => !x.retired) = true →
    k + 1 < s.get MTR_SLLEN.LEN →
    s.slate.erased (k + 1) = true →
    s.slate.rsv < s.slate.erasedCount (s.get MTR_SLLEN.LEN) →
    Next .slateRecordWrite s fun t =>
      t.slate.ring = { sector := k + 1, off := 32, seq := s.slate.seq, body := r } :: s.slate.ring ∧ t.slate.cur = some (k + 1, 32 + r.bytes) ∧
      t.slate.sector (k + 1) = some { num := k + 1, sseq := some s.slate.sseq, erases := ((s.slate.sector (k + 1)).map Sector.erases).getD 0, fmt := s.slate.fmt, retired := false } ∧
      t.slate.sseq = (s.slate.sseq + 1) % 2 ^ 32 ∧ t.slate.buf = rest ∧ t = { s with regs := t.regs, slate := t.slate }) ∧
  (∀ (s : State) (r : LogRec) (rest : List LogRec),
    s.slate.buf = r :: rest →
    s.bit MTR_SLSTAT.EN = false →
    Next .slateRecordWrite s fun t => t.slate.buf = [] ∧ t = { s with slate := { s.slate with buf := t.slate.buf } }) ∧
  (∀ (s : State),
    s.slate.buf = [] →
    Next .slateRecordWrite s fun t => t = s) ∧
  (∀ (s : State) (x : Sector) (y : SlRec),
    s.slateOn = true →
    s.slate.erasedCount (s.get MTR_SLLEN.LEN) ≤ s.slate.rsv →
    oldestSector s.slate = some x →
    newestEnergy s.slate.ring = some y →
    y.sector ≠ x.num →
    Next .sectorErase s fun t =>
      t.slate.ring = s.slate.ring.filter (fun z => z.sector != x.num) ∧
      t.slate.sector x.num = some { num := x.num, sseq := none, erases := x.erases + 1, fmt := s.slate.fmt, retired := decide (0 < s.slate.wear ∧ s.slate.wear * 1000 ≤ x.erases + 1) } ∧
      (∀ k : Fin 64, k.val ≠ x.num → t.slate.sector k.val = s.slate.sector k.val) ∧
      t.bat = (if 0 < s.slate.wear ∧ s.slate.wear * 1000 ≤ x.erases + 1 then (s.fire 0x13A t.slate.retiredCount).bat else s.bat) ∧
      s.regsBut t [MTR_SLSTAT.at, MTR_SLPTR.at] ∧ t = { s with regs := t.regs, bat := t.bat, slate := t.slate }) ∧
  (∀ (s : State),
    s.slate.rsv < s.slate.erasedCount (s.get MTR_SLLEN.LEN) →
    Next .sectorErase s fun t => t = s) ∧
  (∀ (s : State) (erase : Bool) (sector : BitVec 16),
    s.slate.retry ≠ some (erase, sector.toNat) →
    Next (.flashError erase ⟨false, sector⟩) s fun t =>
      t.get MTR_SLERR.SECTOR = sector.toNat ∧ t.get MTR_SLERR.ERR = (if erase then 2 else 1) ∧ t.slate = { s.slate with retry := some (erase, sector.toNat) } ∧
      s.regsBut t [MTR_SLERR.at] ∧ t = { s with regs := t.regs, slate := t.slate }) ∧
  (∀ (s : State) (erase : Bool) (sector : BitVec 16),
    s.slate.retry ≠ some (erase, sector.toNat + 65536) →
    Next (.flashError erase ⟨true, sector⟩) s fun t =>
      t.get MTR_SLERR.SECTOR = sector.toNat ∧ t.get MTR_SLERR.ERR = (if erase then 2 else 1) ∧
      t.slate = { s.slate with retry := some (erase, sector.toNat + 65536) } ∧ s.regsBut t [MTR_SLERR.at] ∧ t = { s with regs := t.regs, slate := t.slate }) ∧
  (∀ (s : State) (erase : Bool) (sector : BitVec 16),
    s.slate.retry = some (erase, sector.toNat + 65536) →
    s.slate.buf.length < 16 →
    s.bit MTR_SLSTAT.EN = true →
    s.upd.busy = false →
    Next (.flashError erase ⟨true, sector⟩) s fun t =>
      t.slate.retry = none ∧ t.bat = (s.fire 0x139 sector.toNat).bat ∧ t.slate.ring = s.slate.ring ∧ t.slate.sectors = s.slate.sectors ∧
      t.slate.buf.map (fun r => (r.ty, r.payload)) = s.slate.buf.map (fun r => (r.ty, r.payload)) ++ [(recFAULT, [4, BitVec.ofNat 32 sector.toNat, 0, 0])] ∧
      s.regsBut t [MTR_SLERR.at] ∧ t = { s with regs := t.regs, bat := t.bat, slate := t.slate }) ∧
  (∀ (s : State) (erase : Bool) (sector : BitVec 16),
    s.slate.retry = some (erase, sector.toNat) →
    s.slate.buf.length < 16 →
    s.bit MTR_SLSTAT.EN = true →
    Next (.flashError erase ⟨false, sector⟩) s fun t =>
      t.get MTR_SLERR.SECTOR = sector.toNat ∧ (t.slate.sector sector.toNat).map Sector.retired = some true ∧ t.slate.retry = none ∧
      t.bat = (s.fire 0x139 sector.toNat).bat ∧ t.slate.ring = s.slate.ring ∧
      t.slate.buf.map (fun r => (r.ty, r.payload)) = s.slate.buf.map (fun r => (r.ty, r.payload)) ++ [(recFAULT, [4, BitVec.ofNat 32 sector.toNat, 0, 0])] ∧
      s.regsBut t [MTR_SLERR.at, MTR_SLSTAT.at, MTR_SLPTR.at] ∧ t = { s with regs := t.regs, bat := t.bat, slate := t.slate })

/-- The restore of the energies, the host's window and the drain of the event queue (R290, R291, R399, R404, R405). The model's choices in it: assumption log
71, 73, 74 and 150. -/
def Obligations.SlateRestoreAndWindow : Prop :=
  (∀ (s : State) (bad : List (BitVec 32)) (framOk : Bool),
    s.bit MTR_SLSTAT.RESTORED = true ∨ s.bit MTR_STAT.NORESTORE = true ∨ s.slateOn = false →
    Next (.energyRestore bad framOk) s fun t => t = s) ∧
  (∀ (s : State) (bad : List (BitVec 32)) (framOk : Bool),
    s.bit MTR_SLSTAT.RESTORED = false →
    s.bit MTR_STAT.NORESTORE = false →
    s.slateOn = true →
    s.restoreFrom bad framOk = none →
    Next (.energyRestore bad framOk) s fun t =>
      t.bit MTR_STAT.NORESTORE = true ∧ s.regsBut t [MTR_STAT.at] ∧ t = { s with regs := t.regs }) ∧
  (∀ (s : State) (bad : List (BitVec 32)) (framOk : Bool) (r : LogRec) (n : Fin 16) (rest : List (Fin 16)),
    s.bit MTR_SLSTAT.RESTORED = false →
    s.bit MTR_STAT.NORESTORE = false →
    s.slateOn = true →
    s.restoreFrom bad framOk = some r →
    s.portsHere = n :: rest →
    Next (.energyRestore bad framOk) s fun t =>
      t.bit MTR_SLSTAT.RESTORED = true ∧ t.mtr.gap = some { last := r.sec, valid := none } ∧
      (t.meter n).etot = ((s.meter n).etot + eOf (wordAt r.payload 2) (wordAt r.payload 3) * 65536) % 2 ^ 64 ∧
      t.get (MTR_PSTAT.BAND n) = fieldOf (wordAt r.payload 3) 18 16 ∧ (t.meter n).prevBand = fieldOf (wordAt r.payload 7) 18 16 ∧ (t.meter n).gapE = 0 ∧
      (∀ m : Fin 16, s.present m = false → t.meter m = s.meter m) ∧
      s.regsKept t (block 11) ∧ t = { s with regs := t.regs, freeCtr := t.freeCtr, mtr := t.mtr, slate := t.slate }) ∧
  (∀ (s : State) (hp : HostPort) (off : BitVec 32),
    s.takes hp MTR_SLRDADDR.at off →
    off.toNat % 64 ≠ 0 →
    Next (.slateWindowRead hp off) s fun t =>
      (∀ k : Fin 16, t.rd (MTR_SLRDDAT.at k.val) = s.regionWord (off.toNat / 64 * 64 + 4 * k.val)) ∧ t.get MTR_SLRDADDR.OFFS = off.toNat / 64 * 64 ∧
      t.bit MTR_SLSTAT.RDRDY = true ∧ s.hostSays t hp stOK 0 0 ∧
      s.passOp.regsKept t (fun a => (List.range 16).any (fun k => a == MTR_SLRDDAT.at k) || a == MTR_SLRDADDR.at || a == MTR_SLSTAT.at) ∧
      t = { s.passOp with regs := t.regs, host := t.host }) ∧
  (∀ (s : State) (k o : Nat),
    s.bat.queue ≠ [] →
    s.slateOn = true →
    s.islandUp islBatten = true →
    s.slate.cur = some (k, o) →
    o + 16 + 16 * 63 ≤ 4096 →
    Next .queueDrain s fun t =>
      t.bat.queue = s.bat.queue.drop 63 ∧
      t.slate.ring.head? = some { sector := k, off := o, seq := s.slate.seq, body := { ty := recEVENT, payload := (s.bat.queue.take 63).flatMap QEntry.words, sec := s.soffit.sec, usec := s.soffit.usec, tv := s.timeValid } } ∧
      t.slate.ring.tail = s.slate.ring ∧
      t.get BAT_QLOST.SKIP = min (s.get BAT_QLOST.SKIP + ((s.bat.queue.take 63).filter (fun x => !x.read)).length) (2 ^ BAT_QLOST.SKIP.w - 1) ∧
      s.regsKept t (fun a => [BAT_QLOST.at, MTR_SLSTAT.at, MTR_SLPTR.at, MTR_SLCOUNT.at].contains a) ∧
      t = { s with regs := t.regs, bat := t.bat, slate := t.slate }) ∧
  (∀ (s : State),
    s.bat.queue = [] →
    Next .queueDrain s fun t => t = s)

/-- Commands of the fuse array: overrides, burns, counters, repair, scrub (R412, R415, R419 to R423, R428). The model's choices in it: assumption log
66 and 67. -/
def Obligations.OtpCommands : Prop :=
  (∀ (s : State) (hp : HostPort) (addr : BitVec 9) (d1 d0 : BitVec 32),
    s.takesAll hp [(OTP_SHADDR.at, BitVec.ofNat 32 addr.toNat), (OTP_SHDATA0.at, d0), (OTP_SHDATA1.at, d1)] →
    ¬ (0x0C8 ≤ addr.toNat ∧ addr.toNat ≤ 0x0CB) →
    Next (.otpOverride hp addr d1 d0) s fun t =>
      t.shadow addr.toNat = d1 ++ d0 ∧ t.otp = { s.otp with overs := (addr.toNat, d1 ++ d0) :: s.otp.overs.filter (fun p => p.1 != addr.toNat) } ∧
      t.get OTP_SHADDR.ADDR = addr.toNat ∧ t.bit OTP_STAT.OVRACT = true ∧ t.bat = (s.fire 0x10A addr.toNat).bat ∧ s.hostSays t hp stOK 0 0 ∧
      let u := s.passOps [(OTP_SHADDR.at, BitVec.ofNat 32 addr.toNat), (OTP_SHDATA0.at, d0), (OTP_SHDATA1.at, d1)]
      u.regsBut t [OTP_SHADDR.at, OTP_STAT.at] ∧ t = { u with regs := t.regs, host := t.host, bat := t.bat, otp := t.otp }) ∧
  (∀ (s : State) (hp : HostPort) (addr : BitVec 9) (d1 d0 : BitVec 32),
    s.takesAll hp [(OTP_SHADDR.at, BitVec.ofNat 32 addr.toNat), (OTP_SHDATA0.at, d0), (OTP_SHDATA1.at, d1)] →
    0x0C8 ≤ addr.toNat ∧ addr.toNat ≤ 0x0CB →
    Next (.otpOverride hp addr d1 d0) s fun t =>
      t.shadow addr.toNat = d1 ++ d0 ∧ t.rd HST_CEIL.at = t.ceilWord ∧ t.bit OTP_STAT.OVRACT = true ∧ t.get OTP_SHADDR.ADDR = addr.toNat ∧
      t.pending = s.pending ∧ t.mtr = s.mtr ∧ t.upd = s.upd ∧ t.slices = s.slices) ∧
  (∀ (s : State) (hp : HostPort) (key : Byte) (addr : BitVec 9),
    s.takes hp OTP_CMD.at (otpWord key 1 addr.toNat) →
    Next (.burn hp key addr) s fun t =>
      t.otp = { s.otp with burn := some { kind := 1, word := addr.toNat, value := s.shadow addr.toNat } } ∧ t.bit OTP_STAT.BUSY = true ∧
      s.hasOver addr.toNat = true ∧ s.bit OTP_STAT.VHVPGM = true ∧ burnable addr.toNat = true ∧
      s.hostSays t hp stOK 0 0 ∧ s.passOp.regsBut t [OTP_STAT.at] ∧ t = { s.passOp with regs := t.regs, host := t.host, otp := t.otp }) ∧
  (∀ (s : State) (hp : HostPort) (key : Byte) (ctr : BitVec 2) (value : BitVec 9),
    s.takes hp OTP_CMD.at (otpWord key 2 (value.toNat + ctr.toNat * 4096)) →
    Next (.ctrset hp key ctr value) s fun t =>
      t.otp = { s.otp with burn := some { kind := 2, word := ctr.toNat, value := BitVec.ofNat 64 value.toNat } } ∧ t.bit OTP_STAT.BUSY = true ∧
      (ctr = 1 ∨ ctr = 2) ∧ s.ctrValue ctr.toNat ≤ value.toNat ∧ value.toNat ≤ 64 ∧ s.bit OTP_STAT.VHVPGM = true ∧
      s.hostSays t hp stOK 0 0 ∧ s.passOp.regsBut t [OTP_STAT.at] ∧ t = { s.passOp with regs := t.regs, host := t.host, otp := t.otp }) ∧
  (∀ (s : State) (hp : HostPort) (key : Byte),
    s.takes hp OTP_CMD.at (otpWord key 3 0) →
    Next (.repair hp key) s fun t =>
      t.otp = { s.otp with burn := some { kind := 3, word := 0, value := 0 } } ∧ t.bit OTP_STAT.BUSY = true ∧ s.bit OTP_STAT.VHVPGM = true ∧
      s.hostSays t hp stOK 0 0 ∧ s.passOp.regsBut t [OTP_STAT.at] ∧ t = { s.passOp with regs := t.regs, host := t.host, otp := t.otp }) ∧
  (∀ (s : State) (hp : HostPort) (key : Byte),
    s.takes hp OTP_CMD.at (otpWord key 4 0) →
    Next (.rescrub hp key) s fun t =>
      t.bit OTP_STAT.SCRUBRUN = true ∧ t.get OTP_SCRUB.SINCE = 0 ∧ s.hostSays t hp stOK 0 0 ∧ s.passOp.regsBut t [OTP_STAT.at, OTP_SCRUB.at] ∧
      t = { s.passOp with regs := t.regs, host := t.host }) ∧
  (∀ (s : State) (hp : HostPort) (key : Byte) (addr : BitVec 9),
    s.takes hp OTP_CMD.at (otpWord key 5 addr.toNat) →
    ¬ (0x0C8 ≤ addr.toNat ∧ addr.toNat ≤ 0x0CB) →
    Next (.dropovr hp key false addr) s fun t =>
      t.otp = { s.otp with overs := s.otp.overs.filter (fun p => p.1 != addr.toNat) } ∧ t.bit OTP_STAT.OVRACT = !t.otp.overs.isEmpty ∧
      t.bat = (s.fire 0x10A addr.toNat).bat ∧ s.hostSays t hp stOK 0 0 ∧ s.passOp.regsBut t [OTP_STAT.at] ∧ t = { s.passOp with regs := t.regs, host := t.host, bat := t.bat, otp := t.otp }) ∧
  (∀ (s : State) (hp : HostPort) (key : Byte) (addr : BitVec 9),
    s.takes hp OTP_CMD.at (otpWord key 5 (addr.toNat + 32768)) →
    Next (.dropovr hp key true addr) s fun t =>
      t.otp = { s.otp with overs := [] } ∧ t.bit OTP_STAT.OVRACT = false ∧ (∀ w : Fin 512, t.shadow w.val = wideGet s.otp.shadow w.val) ∧
      t.mtr = s.mtr ∧ t.upd = s.upd ∧ t.slices = s.slices ∧ t.pending = s.pending)

/-- What the fuse array does by itself: the end of a burn, the loss of VHV, a scrub pass (R413, R417, R418, R422, R426, R428). The model's choices in it:
assumption log 9, 67 and 138. -/
def Obligations.OtpBurnsAndScrub : Prop :=
  (∀ (s : State) (b : Burn) (read : OtpRead) (anti keys : CtrReads) (pulses : BitVec 4),
    s.otp.burn = some b →
    b.kind = 1 →
    b.value ≠ 0 →
    b.word < 512 →
    readStatus { read with word := BitVec.ofNat 9 b.word } = 1 →
    ¬ (0x0C8 ≤ b.word ∧ b.word ≤ 0x0CB) →
    s.upd.confirming = none →
    s.boot.waiting = [] →
    Next (.otpBurnDone read anti keys pulses) s fun t =>
      wideGet t.otp.fuses b.word = b.value ∧ t.shadow b.word = b.value ∧ t.hasOver b.word = false ∧ t.wordStatus b.word = 1 ∧ t.otp.burn = none ∧
      (∀ w : Fin 512, w.val ≠ b.word → wideGet t.otp.fuses w.val = wideGet s.otp.fuses w.val ∧ t.shadow w.val = s.shadow w.val ∧ t.wordStatus w.val = s.wordStatus w.val) ∧
      t.get OTP_RESULT.CODE = 1 ∧ t.get OTP_RESULT.PULSES = pulses.toNat ∧ t.get OTP_RESULT.WORD = b.word ∧ t.bit OTP_STAT.BUSY = false ∧
      t.bat = (s.fire 0x10A (b.word + 4096)).bat ∧ s.regsBut t [OTP_RESULT.at, OTP_STAT.at, OTP_MARG.at] ∧ t = { s with regs := t.regs, bat := t.bat, otp := t.otp }) ∧
  (∀ (s : State) (b : Burn) (read : OtpRead) (anti keys : CtrReads) (pulses : BitVec 4),
    s.otp.burn = some b →
    b.kind = 1 →
    b.word < 512 →
    read.normal ≠ 0 →
    read.ecc = .double →
    ¬ (0x0C8 ≤ b.word ∧ b.word ≤ 0x0CB) →
    s.upd.confirming = none →
    s.boot.waiting = [] →
    Next (.otpBurnDone read anti keys pulses) s fun t =>
      wideGet t.otp.fuses b.word = read.normal.truncate 64 ∧ t.wordStatus b.word = 4 ∧ b.word ∈ t.otp.ue ∧ t.hasOver b.word = false ∧ t.otp.burn = none ∧ t.get OTP_RESULT.CODE = 7 ∧
      t.bit OTP_STAT.BUSY = false ∧ t.bat = (s.fire 0x10A (b.word + 7 * 4096)).bat ∧ s.regsBut t [OTP_RESULT.at, OTP_STAT.at, OTP_MARG.at] ∧
      t = { s with regs := t.regs, bat := t.bat, otp := t.otp }) ∧
  (∀ (s : State) (b : Burn) (read : OtpRead) (anti : CtrReads) (c4 c5 : List (BitVec 64)) (pulses : BitVec 4),
    s.otp.burn = some b →
    b.kind = 2 →
    b.value.toNat ≤ 64 →
    0 < b.value.toNat →
    (if b.word = 1 then c4 else c5) ≠ [] →
    readBurned (if b.word = 1 then c4 else c5) &&& BitVec.ofNat 64 (2 ^ b.value.toNat - 1) = BitVec.ofNat 64 (2 ^ b.value.toNat - 1) →
    s.upd.confirming = none →
    s.boot.waiting = [] →
    Next (.otpBurnDone read anti [c4, c5] pulses) s fun t =>
      t.otp.ctr.getD (ctrGroup b.word) 0 = readBurned (if b.word = 1 then c4 else c5) ∧ b.value.toNat ≤ highest (t.groupBits (ctrGroup b.word)) ∧
      t.otp.fuses = s.otp.fuses ∧ t.otp.overs = s.otp.overs ∧ t.otp.burn = none ∧ t.get OTP_RESULT.CODE = 1 ∧ t.bit OTP_STAT.BUSY = false ∧
      t.bat = (s.fire 0x10A (b.value.toNat - 1 + 4096)).bat ∧ s.regsBut t [OTP_RESULT.at, OTP_STAT.at, OTP_MARG.at] ∧
      t = { s with regs := t.regs, bat := t.bat, otp := t.otp }) ∧
  (∀ (s : State) (b : Burn) (read : OtpRead) (anti : CtrReads) (c4 c5 : List (BitVec 64)) (pulses : BitVec 4),
    s.otp.burn = some b →
    b.kind = 2 →
    0 < b.value.toNat →
    (if b.word = 1 then c4 else c5) ≠ [] →
    (readBurned (if b.word = 1 then c4 else c5)).getLsbD 0 = false →
    s.upd.confirming = none →
    s.boot.waiting = [] →
    Next (.otpBurnDone read anti [c4, c5] pulses) s fun t =>
      t.otp.burn = none ∧ t.get OTP_RESULT.CODE = 7 ∧ t.get OTP_RESULT.WORD = 0 ∧ t.bit OTP_STAT.BUSY = false ∧ t.bat = (s.fire 0x10A (7 * 4096)).bat ∧
      s.regsBut t [OTP_RESULT.at, OTP_STAT.at, OTP_MARG.at] ∧ t = { s with regs := t.regs, bat := t.bat, otp := t.otp }) ∧
  (∀ (s : State) (read : OtpRead) (anti keys : CtrReads) (pulses : BitVec 4),
    s.otp.burn = none →
    Next (.otpBurnDone read anti keys pulses) s fun t => t = s) ∧
  (∀ (s : State),
    Next .otpBurnVhvDrop s fun t =>
      t.bit OTP_STAT.VHVPGM = false ∧ t.bit OTP_STAT.BUSY = s.bit OTP_STAT.BUSY ∧ s.regsBut t [OTP_STAT.at] ∧ t = { s with regs := t.regs }) ∧
  (∀ (s : State) (cs : CtrReads),
    s.bit OTP_STAT.LOADED = true →
    s.bit OTP_CTRL.AUTOREPAIR = false →
    s.otp.fuses = [] →
    Next (.otpScrub [] cs) s fun t =>
      t.otp.status = [] ∧
      (∀ g : Fin 6, t.otp.ctr.getD g.val 0 = if cs.getD g.val [] = [] then s.otp.ctr.getD g.val 0 else readBurned (cs.getD g.val [])) ∧
      (∀ g : Fin 6, cs.getD g.val [] ≠ [] → t.groupBits g.val = s.groupBits g.val ||| readAny (cs.getD g.val [])) ∧
      t.get OTP_MARG.MARGINAL = 0 ∧ t.get OTP_MARG.UE = 0 ∧ t.get OTP_SCRUB.PASSES = (s.get OTP_SCRUB.PASSES + 1) % 2 ^ 16 ∧
      t.bit OTP_STAT.SCRUBRUN = false ∧ t.bit OTP_STAT.REPAIRPEND = false ∧ t.otp.fuses = s.otp.fuses ∧ t.otp.shadow = s.otp.shadow ∧ t.otp.overs = s.otp.overs ∧
      s.regsBut t [OTP_MARG.at, OTP_STAT.at, OTP_SCRUB.at] ∧ t = { s with regs := t.regs, otp := t.otp }) ∧
  (∀ (s : State) (r : OtpRead) (cs : CtrReads),
    s.bit OTP_STAT.LOADED = true →
    s.bit OTP_CTRL.AUTOREPAIR = false →
    s.otp.fuses = [] →
    readStatus r ≠ 1 →
    Next (.otpScrub [r] cs) s fun t =>
      t.otp.status = [(r.word.toNat, readStatus r)] ∧ t.wordStatus r.word.toNat = readStatus r ∧ t.shadow r.word.toNat = s.shadow r.word.toNat ∧
      t.bat = (if s.wordStatus r.word.toNat < readStatus r then s.fire 0x109 (r.word.toNat + readStatus r * 512) else s).bat ∧
      s.regsBut t [OTP_MARG.at, OTP_STAT.at, OTP_SCRUB.at] ∧ t = { s with regs := t.regs, bat := t.bat, otp := t.otp }) ∧
  (∀ (s : State) (reads : List OtpRead) (cs : CtrReads),
    s.bit OTP_STAT.LOADED = false →
    Next (.otpScrub reads cs) s fun t => t = s)

/-- The staging session (R443 to R447, R467, R470). The model's choices in it: assumption log 81. -/
def Obligations.StagingSession : Prop :=
  (∀ (s : State) (hp : HostPort) (key : Byte) (deferred : Bool),
    s.takes hp UPD_CMD.at (updKeyWord key (1 + 256 * b2n deferred)) →
    s.beginCode = 0 →
    Next (.beginSession hp key deferred) s fun t =>
      t.upd.sess = some { owner := hp.num, defer := deferred && !s.inDormer, man := [], block := [], stored := [], lenDecl := none, crcDecl := none, crcAll := 0xFFFFFFFF } ∧
      t.upd.busy = true ∧ t.upd.chain = none ∧ t.slot s.dirNow.stag = [] ∧
      t.dirNow = { s.dirNow with sstate := 1, smanid := 0, dseq := (s.dirNow.dseq + 1) % 2 ^ 32, sector := 1 - s.dirNow.sector } ∧
      t.updState = usRECEIVING ∧ t.get UPD_STAT.OWNER = hp.num ∧ t.bit UPD_STAT.DEFER = (deferred && !s.inDormer) ∧ t.get UPD_STAT.SSTATE = 1 ∧
      t.get UPD_NEXT.OFFS = 0 ∧ t.get UPD_RECV.BYTES = 0 ∧ t.get UPD_RESULT.CODE = 0 ∧ s.hostSays t hp stOK 0 0 ∧ s.passOp.regsKept t (block 10) ∧
      t = { s.passOp with regs := t.regs, host := t.host, upd := t.upd }) ∧
  (∀ (s : State) (hp : HostPort) (key : Byte) (deferred : Bool),
    s.takes hp UPD_CMD.at (updKeyWord key (1 + 256 * b2n deferred)) →
    s.beginCode ≠ 0 →
    Next (.beginSession hp key deferred) s fun t =>
      t.get UPD_RESULT.CODE = s.beginCode ∧ t.get UPD_RESULT.DETAIL = 0 ∧ s.hostSays t hp stOK 0 0 ∧ s.passOp.regsBut t [UPD_RESULT.at] ∧ t = { s.passOp with regs := t.regs, host := t.host }) ∧
  (∀ (s : State) (hp : HostPort) (ws : List Word) (x : Session),
    s.takesAll hp (dataWrites ws) →
    s.upd.sess = some x →
    s.upd.busy = false →
    s.get UPD_NEXT.OFFS % 4096 + 4 * ws.length < 4096 →
    ws ≠ [] →
    Next (.updDataWrite hp ws) s fun t =>
      t.upd = { s.upd with sess := some { x with block := x.block ++ ws } } ∧ t.get UPD_NEXT.OFFS = s.get UPD_NEXT.OFFS + 4 * ws.length ∧
      t.get UPD_RECV.BYTES = s.get UPD_NEXT.OFFS + 4 * ws.length ∧ s.hostSays t hp stOK 0 0 ∧
      (s.passOps (dataWrites ws)).regsBut t [UPD_NEXT.at, UPD_RECV.at] ∧ t = { s.passOps (dataWrites ws) with regs := t.regs, host := t.host, upd := t.upd }) ∧
  (∀ (s : State) (hp : HostPort) (ws : List Word),
    s.takesAll hp (dataWrites ws) →
    s.upd.sess ≠ none →
    s.upd.busy = true →
    Next (.updDataWrite hp ws) s fun t =>
      s.hostSays t hp stBUSY 0 0 ∧ t.get HST_LASTERR.CODE = stBUSY ∧ 
      (s.passOps (dataWrites ws)).regsBut t [HST_LASTERR.at] ∧ t = { s.passOps (dataWrites ws) with regs := t.regs, host := t.host }) ∧
  (∀ (s : State) (hp : HostPort) (w : Word) (x : Session) (b : Nat),
    s.takesAll hp (dataWrites [w]) →
    s.upd.sess = some x →
    s.upd.busy = false →
    s.get UPD_NEXT.OFFS = 4096 * b + 4092 →
    min 8 (max 1 (manBlks (x.man ++ (x.block ++ [w])))) * blockWords ≤ x.man.length →
    4096 * b < manPkgLen x.man →
    crc32c (x.block ++ [w]) ≠ numOf x.man (manCrcOff x.man + 4 * b) →
    Next (.updDataWrite hp [w]) s fun t =>
      t.upd = { s.upd with sess := some { x with block := [] } } ∧ t.get UPD_NEXT.OFFS = 4096 * b ∧ t.get UPD_RECV.BYTES = 4096 * b ∧
      t.get UPD_RESULT.CODE = 3 ∧ t.get UPD_RESULT.BLOCK = b ∧ s.hostSays t hp stOK 0 0 ∧
      (s.passOps (dataWrites [w])).regsBut t [UPD_NEXT.at, UPD_RECV.at, UPD_RESULT.at] ∧
      t = { s.passOps (dataWrites [w]) with regs := t.regs, host := t.host, upd := t.upd }) ∧
  (∀ (s : State) (hp : HostPort) (key : Byte) (x : Session),
    s.takes hp UPD_CMD.at (updKeyWord key 2) →
    s.upd.sess = some x →
    s.leading = false →
    s.upd.chain = none →
    Next (.endSession hp key) s fun t =>
      t.upd.sess = none ∧ t.upd.busy = false ∧ t.get UPD_RESULT.CODE = (s.endCode x).1 % 256 ∧ t.bat = (s.fire 0x13B (s.endCode x).1).bat ∧
      ((s.endCode x).1 = 0 → t.updState = usSTAGED ∧ t.dirNow.sstate = (if x.defer then 3 else 2) ∧ t.dirNow.smanid = manId x.man) ∧
      ((s.endCode x).1 ≠ 0 → t.updState = usIDLE ∧ t.dirNow.sstate = 0 ∧ t.dirNow.smanid = 0 ∧ t.upd.slots = s.upd.slots) ∧
      s.hostSays t hp stOK 0 0 ∧ s.passOp.regsKept t (fun a => block 10 a || [SOF_DBSTAT.at, THA_SRSTAT.at, MTR_STAT.at].contains a) ∧
      t = { s.passOp with regs := t.regs, host := t.host, bat := t.bat, upd := t.upd, slate := t.slate }) ∧
  (∀ (s : State) (hp : HostPort) (key : Byte),
    s.takes hp UPD_CMD.at (updKeyWord key 2) →
    s.upd.sess = none →
    Next (.endSession hp key) s fun t =>
      t.get UPD_RESULT.CODE = 17 ∧ s.hostSays t hp stOK 0 0 ∧ s.passOp.regsBut t [UPD_RESULT.at] ∧ t = { s.passOp with regs := t.regs, host := t.host }) ∧
  (∀ (s : State) (hp : HostPort) (key : Byte),
    s.takes hp UPD_CMD.at (updKeyWord key 5) →
    s.upd.sess ≠ none →
    s.leading = false →
    Next (.abortSession hp key) s fun t =>
      t.upd.sess = none ∧ t.upd.busy = false ∧ t.updState = usIDLE ∧ t.get UPD_STAT.OWNER = 0 ∧ t.bit UPD_STAT.DEFER = false ∧
      t.dirNow = { s.dirNow with sstate := 0, smanid := 0, dseq := (s.dirNow.dseq + 1) % 2 ^ 32, sector := 1 - s.dirNow.sector } ∧
      s.hostSays t hp stOK 0 0 ∧ s.passOp.regsKept t (block 10) ∧ t = { s.passOp with regs := t.regs, host := t.host, upd := t.upd }) ∧
  (∀ (s : State) (hp : HostPort) (key : Byte),
    s.takes hp UPD_CMD.at (updKeyWord key 5) →
    s.upd.sess = none →
    Next (.abortSession hp key) s fun t =>
      t.get UPD_RESULT.CODE = 17 ∧ s.hostSays t hp stOK 0 0 ∧ s.passOp.regsBut t [UPD_RESULT.at] ∧ t = { s.passOp with regs := t.regs, host := t.host }) ∧
  (∀ (s : State),
    s.upd.sess ≠ none →
    s.leading = false →
    s.upd.chain = none →
    Next .sessionIdleTimeout s fun t =>
      t.upd.sess = none ∧ t.upd.busy = false ∧ t.updState = usIDLE ∧ t.get UPD_RESULT.CODE = 17 ∧ t.dirNow.sstate = 0 ∧ s.regsKept t (block 10) ∧
      t = { s with regs := t.regs, upd := t.upd }) ∧
  (∀ (s : State),
    s.upd.sess = none →
    Next .sessionIdleTimeout s fun t => t = s) ∧
  (∀ (s : State),
    s.upd.sess ≠ none →
    s.upd.busy = true →
    Next (.stagingFlashDone true) s fun t => t = { s with upd := { s.upd with busy := false }, slate := { s.slate with retry := none } }) ∧
  (∀ (s : State),
    s.upd.sess ≠ none →
    s.upd.busy = true →
    s.leading = false →
    s.upd.chain = none →
    Next (.stagingFlashDone false) s fun t =>
      t.upd.sess = none ∧ t.updState = usIDLE ∧ t.get UPD_RESULT.CODE = 16 ∧ t.dirNow.sstate = 0 ∧ s.regsKept t (block 10) ∧
      t = { s with regs := t.regs, upd := t.upd })

/-- Activation, confirmation and the fallback on request (R436, R448, R457, R459, R467, R470). The model's choices in it: assumption log 82 and 83. -/
def Obligations.ActivationAndConfirm : Prop :=
  (∀ (s : State) (hp : HostPort) (key : Byte) (dirOk : Bool),
    s.takes hp UPD_CMD.at (updKeyWord key 3) →
    (s.dirNow.sstate = 2 ∨ s.dirNow.sstate = 3) →
    s.dirNow.trial = false →
    s.upd.sess = none →
    s.upd.relay = none →
    s.inDormer = false →
    s.get GLB_BOOTSTAT.STAGE = 6 →
    s.bit GLB_SUPSTAT.XSPI1S = false →
    manChain s.stagMan = false →
    Next (.activate hp key false dirOk) s fun t =>
      t.upd = { s.upd with relay := some { kind := 1, cause := 0x11, ev := 0, apply := none, started := none, rotated := false } } ∧ t.get UPD_RESULT.CODE = 0 ∧
      s.hostSays t hp stOK 0 0 ∧ s.passOp.regsBut t [UPD_RESULT.at] ∧ t = { s.passOp with regs := t.regs, host := t.host, upd := t.upd }) ∧
  (∀ (s : State) (hp : HostPort) (key : Byte) (dirOk : Bool),
    s.takes hp UPD_CMD.at (updKeyWord key (3 + 512)) →
    (s.dirNow.sstate = 2 ∨ s.dirNow.sstate = 3) →
    s.dirNow.trial = false →
    s.upd.sess = none →
    s.upd.relay = none →
    s.inDormer = false →
    s.get GLB_BOOTSTAT.STAGE = 6 →
    manChain s.stagMan = false →
    Next (.activate hp key true dirOk) s fun t =>
      (dirOk = true → t.dirNow = { s.dirNow with nextboot := true, dseq := (s.dirNow.dseq + 1) % 2 ^ 32, sector := 1 - s.dirNow.sector } ∧ t.bit UPD_STAT.NEXTBOOT = true ∧
        t.get UPD_RESULT.CODE = 0) ∧
      (dirOk = false → t.upd = s.upd ∧ t.get UPD_RESULT.CODE = 16) ∧ s.hostSays t hp stOK 0 0 ∧ s.passOp.regsKept t (block 10) ∧
      t = { s.passOp with regs := t.regs, host := t.host, upd := t.upd }) ∧
  (∀ (s : State) (hp : HostPort) (key : Byte),
    s.takes hp UPD_CMD.at (updKeyWord key 3) →
    (s.dirNow.sstate = 2 ∨ s.dirNow.sstate = 3) →
    s.dirNow.trial = false →
    s.upd.sess = none →
    s.upd.relay = none →
    s.inDormer = true →
    Next (.activate hp key false true) s fun t =>
      t.dirNow = { s.dirNow.rotate 0 with dseq := (s.dirNow.dseq + 1) % 2 ^ 32, sector := 1 - s.dirNow.sector } ∧ t.inDormer = false ∧
      t.get GLB_BOOTSTAT.STAGE = 3 ∧ t.boot.inReset = some 2 ∧ t.get GLB_BOOTSTAT.DCAUSE = 0 ∧ t.updState = usIDLE ∧ t.otp = s.otp ∧ t.mtr = s.mtr ∧ t.pending = s.pending) ∧
  (∀ (s : State) (hp : HostPort) (key : Byte) (nextboot dirOk : Bool),
    s.takes hp UPD_CMD.at (updKeyWord key (3 + 512 * b2n nextboot)) →
    (s.dirNow.sstate ≠ 2 ∧ s.dirNow.sstate ≠ 3) ∨ s.dirNow.trial = true ∨ s.upd.sess ≠ none ∨ s.upd.relay ≠ none →
    Next (.activate hp key nextboot dirOk) s fun t =>
      t.get UPD_RESULT.CODE = 17 ∧ s.hostSays t hp stOK 0 0 ∧ s.passOp.regsBut t [UPD_RESULT.at] ∧ t = { s.passOp with regs := t.regs, host := t.host }) ∧
  (∀ (s : State) (hp : HostPort) (key : Byte),
    s.takes hp UPD_CMD.at (updKeyWord key 4) →
    s.dirNow.trial = true →
    s.inDormer = false →
    s.upd.relay = none →
    s.upd.confirming = none →
    manChain s.actMan = false →
    s.confirmBurn = none →
    s.otp.burn = none →
    manFmtNew s.actMan ≤ s.slate.fmt →
    Next (.confirm hp key true) s fun t =>
      t.dirNow = { s.dirNow with trial := false, trials := 0, chainApply := 0, dseq := (s.dirNow.dseq + 1) % 2 ^ 32, sector := 1 - s.dirNow.sector } ∧
      t.updState = usIDLE ∧ t.get UPD_CONFTIME.SECS = 0 ∧ t.get UPD_RESULT.CODE = 0 ∧ t.get UPD_STAT.TRIALS = 0 ∧ t.upd.confirming = none ∧ t.upd.chain = none ∧
      t.bat = (s.fire 0x13D s.antirb).bat ∧ s.hostSays t hp stOK 0 0 ∧ s.passOp.regsKept t (block 10) ∧ t = { s.passOp with regs := t.regs, host := t.host, bat := t.bat, upd := t.upd }) ∧
  (∀ (s : State) (hp : HostPort) (key : Byte) (dirOk : Bool) (b : Burn),
    s.takes hp UPD_CMD.at (updKeyWord key 4) →
    s.dirNow.trial = true →
    s.inDormer = false →
    s.upd.relay = none →
    s.upd.confirming = none →
    manChain s.actMan = false →
    s.confirmBurn = some b →
    s.otp.burn = none →
    s.bit OTP_STAT.VHVPGM = true →
    Next (.confirm hp key dirOk) s fun t =>
      t.otp = { s.otp with burn := some b } ∧ t.bit OTP_STAT.BUSY = true ∧ t.upd = { s.upd with confirming := some dirOk } ∧ s.hostSays t hp stOK 0 0 ∧
      s.passOp.regsBut t [OTP_STAT.at] ∧ t = { s.passOp with regs := t.regs, host := t.host, otp := t.otp, upd := t.upd }) ∧
  (∀ (s : State) (hp : HostPort) (key : Byte) (dirOk : Bool),
    s.takes hp UPD_CMD.at (updKeyWord key 4) →
    s.dirNow.trial = false →
    Next (.confirm hp key dirOk) s fun t =>
      t.get UPD_RESULT.CODE = 17 ∧ s.hostSays t hp stOK 0 0 ∧ s.passOp.regsBut t [UPD_RESULT.at] ∧ t = { s.passOp with regs := t.regs, host := t.host }) ∧
  (∀ (s : State) (hp : HostPort) (key : Byte),
    s.takes hp UPD_CMD.at (updKeyWord key 6) →
    s.inDormer = false →
    s.upd.relay = none →
    manChain s.actMan = false →
    (s.dirNow.trial = true ∨ s.bit UPD_STAT.PREVBAD = false) →
    s.get GLB_BOOTSTAT.STAGE = 6 →
    Next (.revert hp key) s fun t =>
      t.upd = { s.upd with relay := some { kind := 2, cause := 0x11, ev := 0x21, apply := none, started := none, rotated := false } } ∧ t.get UPD_RESULT.CODE = 0 ∧
      s.hostSays t hp stOK 0 0 ∧ s.passOp.regsBut t [UPD_RESULT.at] ∧ t = { s.passOp with regs := t.regs, host := t.host, upd := t.upd }) ∧
  (∀ (s : State) (hp : HostPort) (key : Byte),
    s.takes hp UPD_CMD.at (updKeyWord key 6) →
    s.inDormer = true →
    Next (.revert hp key) s fun t =>
      t.get UPD_RESULT.CODE = 17 ∧ s.hostSays t hp stOK 0 0 ∧ s.passOp.regsBut t [UPD_RESULT.at] ∧ t = { s.passOp with regs := t.regs, host := t.host })

/-- Relay starts: the preparation, the Brace hold, its end, tBRACE and tCONFIRM (R435, R436, R448 to R456, R459). The model's choices in it: assumption log
97, 98, 99 and 113. -/
def Obligations.RelayStarts : Prop :=
  (∀ (s : State) (r : Relay) (dirOk : Bool),
    s.upd.relay = some r →
    r.started = none →
    r.kind ≠ 3 →
    (r.kind = 2 → s.bit GLB_SUPSTAT.XSPI1S = false) →
    s.updState ≠ usARMED →
    s.otp.burn = none →
    s.get GLB_BOOTSTAT.STAGE = 6 →
    s.tha.strips = [] →
    s.get THA_SRSTAT.PHASE = 0 →
    s.upd.chain = none →
    Next (.relayPrepare dirOk) s fun t => t.updState = usARMED ∧ s.regsBut t [UPD_STAT.at] ∧ t = { s with regs := t.regs }) ∧
  (∀ (s : State) (dirOk : Bool),
    s.upd.relay = none ∨ s.otp.burn ≠ none →
    Next (.relayPrepare dirOk) s fun t => t = s) ∧
  (∀ (s : State) (r : Relay),
    s.upd.relay = some r →
    r.started = none →
    r.kind = 2 →
    s.bit GLB_SUPSTAT.XSPI1S = true →
    s.updState ≠ usARMED →
    s.otp.burn = none →
    s.get GLB_BOOTSTAT.STAGE = 6 →
    s.tha.strips = [] →
    s.get THA_SRSTAT.PHASE = 0 →
    Next (.relayPrepare true) s fun t =>
      t.dirNow = { s.dirNow.unrotate with dseq := (s.dirNow.dseq + 1) % 2 ^ 32, sector := 1 - s.dirNow.sector } ∧ t.upd.relay = some { r with kind := 3 } ∧
      t.boot.inReset = some 2 ∧ t.upd.slots = s.upd.slots ∧ t.otp.fuses = s.otp.fuses ∧ t.pending = s.pending) ∧
  (∀ (s : State) (r : Relay) (dirOk : Bool),
    s.upd.relay = some r →
    r.started = none →
    r.apply = none →
    s.updState = usARMED →
    s.otp.burn = none →
    Next (.braceHold dirOk) s fun t =>
      t.updState = usBRACE ∧ t.upd.relay = some { r with started := some s.now, rotated := decide (r.kind = 1) && dirOk } ∧
      t.get GLB_BOOTSTAT.STAGE = 3 ∧ t.boot.inReset = some 3 ∧ t.rd UPD_BRMASK.at = 0 ∧ t.ridge = RidgeSt.reset ∧
      t.islandUp islRidge = false ∧ t.islandUp islJotil = false) ∧
  (∀ (s : State) (r : Relay) (dirOk : Bool),
    s.upd.relay = some r →
    r.started = none →
    r.apply = none →
    s.updState = usARMED →
    s.otp.burn = none →
    s.ridge.window = [] →
    s.ridge.waiting = [] →
    Next (.braceHold dirOk) s fun t =>
      t.upd.oldImage = s.running ∧
      (r.kind = 1 ∧ dirOk = true → t.dirNow = { s.dirNow.rotate 0 with dseq := (s.dirNow.dseq + 1) % 2 ^ 32, sector := 1 - s.dirNow.sector }) ∧
      (r.kind = 2 ∧ dirOk = true → t.dirNow = { s.dirNow.unrotate with dseq := (s.dirNow.dseq + 1) % 2 ^ 32, sector := 1 - s.dirNow.sector }) ∧
      (dirOk = false ∨ r.kind = 0 → t.dirNow = s.dirNow) ∧
      (∀ n : Fin 16, s.pstate n ≠ 0 → t.pstate n = 12) ∧ t.mtr = s.mtr ∧ t.otp = s.otp ∧ t.pending = s.pending) ∧
  (∀ (s : State) (dirOk : Bool),
    s.upd.relay = none ∨ s.otp.burn ≠ none ∨ s.updState ≠ usARMED →
    Next (.braceHold dirOk) s fun t => t = s) ∧
  (∀ (s : State) (r : Relay) (dur : BitVec 16) (handOk : Bool),
    s.upd.relay = some r →
    r.started ≠ none →
    s.get GLB_BOOTSTAT.STAGE = 5 →
    s.islandUp islRidge = true →
    Next (.braceRelease dur handOk) s fun t =>
      t.upd.relay = none ∧ t.upd.hand = none ∧ t.get GLB_BOOTSTAT.STAGE = 6 ∧ t.boot.inReset = none ∧ t.get UPD_BRACE.DUR = dur.toNat ∧
      t.bit UPD_BRACE.ABORTED = false ∧ t.updState = s.restState ∧ t.dirNow = s.dirNow ∧ t.get TRS_BUDGET.BUDGET = imgBudget s.recs % 2 ^ 16 ∧
      (∀ n : Fin 16, (t.get UPD_BRMASK.STRIPPED).testBit n.val = (s.present n && structOf (imgRecs s.upd.oldImage).1 n.val != structOf s.recs n.val)) ∧
      t.otp = s.otp ∧ t.upd.slots = s.upd.slots ∧ t.pending = s.pending) ∧
  (∀ (s : State) (r : Relay) (dirOk : Bool),
    s.upd.relay = some r →
    r.started ≠ none →
    s.get GLB_BOOTSTAT.STAGE ≠ 5 →
    Next (.braceTimeout dirOk) s fun t =>
      t.upd.relay = none ∧ t.upd.hand = none ∧ t.bit UPD_BRACE.ABORTED = true ∧ t.updState = usFALLBACK ∧ t.boot.nextIsl = 0 ∧
      (∀ n : Fin 16, s.pstate n = 12 → t.cc n = ccErrorRecovery ∧ t.pstate n = 0) ∧
      (r.rotated = true ∧ dirOk = true → t.dirNow = { s.dirNow.unrotate with dseq := (s.dirNow.dseq + 1) % 2 ^ 32, sector := 1 - s.dirNow.sector }) ∧
      (r.rotated = false ∨ dirOk = false → t.dirNow = s.dirNow) ∧ t.otp = s.otp ∧ t.upd.slots = s.upd.slots ∧ t.pending = s.pending) ∧
  (∀ (s : State) (dirOk : Bool),
    s.upd.relay = none →
    Next (.braceTimeout dirOk) s fun t => t = s) ∧
  (∀ (s : State),
    s.dirNow.trial = true →
    s.upd.confirming = none →
    s.upd.relay = none →
    s.inDormer = false →
    manChain s.actMan = false →
    Next .confirmTimeout s fun t =>
      t.upd = { s.upd with relay := some { kind := 2, cause := 0x0E, ev := 0x0E, apply := none, started := none, rotated := false } } ∧
      t.get UPD_CONFTIME.SECS = 0 ∧ s.regsBut t [UPD_CONFTIME.at] ∧ t = { s with regs := t.regs, upd := t.upd }) ∧
  (∀ (s : State),
    s.dirNow.trial = false ∨ s.upd.confirming ≠ none →
    Next .confirmTimeout s fun t => t = s)

/-- The update frames of the chain (R462 to R466). The model's choices in it: assumption log 63 and 100. -/
def Obligations.ChainUpdates : Prop :=
  (∀ (s : State) (h : JtlHead) (manid pkglen : BitVec 32),
    s.gets h →
    s.forMe h.dest.toNat = true →
    s.peer = true →
    s.leading = false →
    s.beginCode = 0 →
    Next (.updbegin h manid pkglen) s fun t =>
      t.upd.sess = some { owner := 5, defer := false, man := [], block := [], stored := [], lenDecl := none, crcDecl := none, crcAll := 0xFFFFFFFF } ∧
      t.upd.chain = some { manid := manid.toNat, pkglen := pkglen.toNat, reports := [], apply := none, armed := false, blks := [] } ∧
      t.bit UPD_STAT.CHAIN = true ∧ t.get UPD_STAT.OWNER = 5 ∧ t.updState = usRECEIVING ∧ t.get UPD_NEXT.OFFS = 0 ∧ s.regsKept t (block 10) ∧
      t = { s with regs := t.regs, jtl := t.jtl, upd := t.upd }) ∧
  (∀ (s : State) (h : JtlHead) (manid pkglen : BitVec 32),
    s.gets h →
    s.forMe h.dest.toNat = true →
    s.peer = true →
    s.leading = false →
    s.beginCode ≠ 0 →
    Next (.updbegin h manid pkglen) s fun t =>
      t.get UPD_RESULT.CODE = s.beginCode ∧ t.upd = s.upd ∧
      (s.lockMask &&& s.portsUp ≠ 0 →
        t.newest.map (fun f => (f.ty, f.dest, f.body)) = some (tyUPDSTAT, 0xFE, [manid.toNat, s.updState, s.get UPD_STAT.SSTATE, s.beginCode, 0, 0xFFFFFF])) ∧
      s.regsBut t [UPD_RESULT.at] ∧ t = { s with regs := t.regs, jtl := t.jtl }) ∧
  (∀ (s : State) (h : JtlHead) (manid pkglen : BitVec 32),
    s.gets h →
    s.forMe h.dest.toNat = true →
    s.peer = false →
    Next (.updbegin h manid pkglen) s fun t =>
      t.get JTL_CNT.REFUSED = min (s.get JTL_CNT.REFUSED + 1) (2 ^ JTL_CNT.REFUSED.w - 1) ∧ s.regsBut t [JTL_CNT.at] ∧ t = { s with regs := t.regs, jtl := t.jtl }) ∧
  (∀ (s : State) (h : JtlHead) (manid : BitVec 32) (off : BitVec 24) (data : List Word) (x : Session) (c : ChainUpd),
    s.gets h →
    s.forMe h.dest.toNat = true →
    s.peer = true →
    s.leading = false →
    s.upd.chain = some c →
    c.manid = manid.toNat →
    s.upd.sess = some x →
    x.owner = 5 →
    s.upd.busy = false →
    s.get UPD_NEXT.OFFS = off.toNat →
    off.toNat % 4096 + 4 * data.length < 4096 →
    Next (.updpart h manid off data) s fun t =>
      t.upd = { s.upd with sess := some { x with block := x.block ++ data }, chain := some { c with blks := [] } } ∧
      t.get UPD_NEXT.OFFS = off.toNat + 4 * data.length ∧ s.regsBut t [UPD_NEXT.at, UPD_RECV.at] ∧ t = { s with regs := t.regs, jtl := t.jtl, upd := t.upd }) ∧
  (∀ (s : State) (h : JtlHead) (manid : BitVec 32) (off : BitVec 24) (data : List Word) (x : Session) (c : ChainUpd),
    s.gets h →
    s.forMe h.dest.toNat = true →
    s.peer = true →
    s.leading = false →
    s.upd.chain = some c →
    c.manid = manid.toNat →
    c.blks = [] →
    s.upd.sess = some x →
    x.owner = 5 →
    s.get UPD_NEXT.OFFS < off.toNat →
    Next (.updpart h manid off data) s fun t =>
      (s.lockMask &&& s.portsUp ≠ 0 → t.newest.map (fun f => (f.ty, f.dest, f.body)) =
        some (tyUPDSTAT, 0xFE, [manid.toNat, s.updState, s.get UPD_STAT.SSTATE, s.get UPD_RESULT.CODE, s.get UPD_RESULT.DETAIL, s.get UPD_NEXT.OFFS])) ∧
      t.upd.sess = s.upd.sess ∧ t.regs = s.regs ∧ t = { s with jtl := t.jtl, upd := t.upd }) ∧
  (∀ (s : State) (h : JtlHead) (manid : BitVec 32) (off : BitVec 24) (data : List Word) (x : Session) (c : ChainUpd),
    s.gets h →
    s.forMe h.dest.toNat = true →
    s.peer = true →
    s.leading = false →
    s.upd.chain = some c →
    c.manid = manid.toNat →
    s.upd.sess = some x →
    x.owner = 5 →
    off.toNat < s.get UPD_NEXT.OFFS →
    Next (.updpart h manid off data) s fun t => t = { s with jtl := t.jtl }) ∧
  (∀ (s : State) (h : JtlHead) (manid : BitVec 32) (st sst code detail : Byte) (c : ChainUpd),
    s.gets h →
    s.forMe h.dest.toNat = true →
    s.peer = true →
    s.leading = true →
    s.upd.chain = some c →
    c.manid = manid.toNat →
    (∃ r ∈ c.reports, r.1 = h.src.toNat) →
    h.src.toNat < 16 →
    s.upd.relay = none →
    s.dirNow.trial = false →
    Next (.updstat h manid st sst code detail 0xFFFFFF) s fun t =>
      t.upd = { s.upd with chain := some { c with reports := c.reports.map (fun r => if r.1 = h.src.toNat then (h.src.toNat, st.toNat, sst.toNat, code.toNat) else r) } } ∧
      (t.get UPD_CHAINST.STAGED).testBit h.src.toNat = decide (sst.toNat = 2 ∨ st.toNat = usARMED) ∧ (t.get UPD_CHAINST.FAILED).testBit h.src.toNat = decide (code ≠ 0) ∧
      s.regsBut t [UPD_CHAINST.at] ∧ t = { s with regs := t.regs, jtl := t.jtl, upd := t.upd }) ∧
  (∀ (s : State) (h : JtlHead) (manid apply : BitVec 32) (c : ChainUpd),
    s.gets h →
    s.forMe h.dest.toNat = true →
    s.peer = true →
    s.leading = false →
    s.upd.chain = some c →
    c.manid = manid.toNat →
    s.bit GLB_SUPSTAT.XSPI1S = false →
    s.dirNow.sstate = 2 →
    s.dirNow.trial = false →
    s.upd.sess = none →
    s.upd.relay = none →
    s.get GLB_BOOTSTAT.STAGE = 6 →
    Next (.updact h manid 2 apply) s fun t =>
      t.upd.relay = some { kind := 1, cause := 0x11, ev := 0, apply := some apply.toNat, started := none, rotated := false } ∧
      t.upd.chain = some { c with apply := some apply.toNat, armed := true } ∧ t.get UPD_CHAIN.IDX = apply.toNat ∧ t.get UPD_RESULT.CODE = 0 ∧
      s.regsBut t [UPD_CHAIN.at, UPD_RESULT.at] ∧ t = { s with regs := t.regs, jtl := t.jtl, upd := t.upd }) ∧
  (∀ (s : State) (h : JtlHead) (manid apply : BitVec 32) (c : ChainUpd),
    s.gets h →
    s.forMe h.dest.toNat = true →
    s.peer = true →
    s.leading = false →
    s.upd.chain = some c →
    c.manid = manid.toNat →
    s.upd.relay = none →
    Next (.updact h manid 5 apply) s fun t =>
      (s.dirNow.trial = true → t.upd.relay = some { kind := 2, cause := 0x11, ev := 0x22, apply := none, started := none, rotated := false }) ∧
      (s.dirNow.trial = false → t.upd = s.upd) ∧ t = { s with jtl := t.jtl, upd := t.upd })

/-- IDCODE of the LNS-16 and the LNS-8 (R361). -/
def Obligations.IdcodeNamesTheDevice : Prop :=
  (∀ s : State, Next .idcode s fun t =>
      t.jtag.dr.toNat % 2 = 1 ∧ t.jtag.dr.toNat / 2 % 2 ^ 11 = 0x63B ∧
      t.jtag.dr.toNat / 2 ^ 12 % 2 ^ 16 = (if s.lns8 then 0x4C08 else 0x4C16) ∧ t.jtag.dr.toNat / 2 ^ 28 = s.get GLB_SIREV.MINOR % 16 ∧
      (s.get GLB_SIREV.MINOR = 1 → t.jtag.dr = if s.lns8 then 0x14C08C77 else 0x14C16C77) ∧
      t = { s with jtag := { s.jtag with ir := 0x01, drive := 0, dr := t.jtag.dr } })

/-- A tick without a report (R390): the port's energies stay, its missed ticks count up, and a running demand interval is marked. -/
def Obligations.MissedTickAddsNothing : Prop :=
  (∀ (s : State) (n : Fin 16) (reports : List (Option Int)),
    s.present n = true →
    s.metering n = true →
    (reports[n.val]?).getD none = none →
    Next (.integrationTick reports) s fun t =>
      t.get (MTR_PSTAT.MISSED n) = min (s.get (MTR_PSTAT.MISSED n) + 1) (2 ^ (MTR_PSTAT.MISSED n).w - 1) ∧ t.meter n = { s.meter n with missed := true } ∧
      (s.bit MTR_STAT.IVRUN = true → t.mtr.incomplete = true))

/-- The window into the Slate region and the ring's write pointer (R401). -/
def Obligations.SlateWindowShowsRegion : Prop :=
  (∀ (s : State) (hp : HostPort) (off : BitVec 32),
    s.takes hp MTR_SLRDADDR.at off →
    off.toNat % 64 = 0 →
    Next (.slateWindowRead hp off) s fun t =>
      t.bit MTR_SLSTAT.RDRDY = true ∧ (∀ k : Fin 16, t.rd (MTR_SLRDDAT.at k.val) = s.regionWord (off.toNat + 4 * k.val)) ∧
      t.get MTR_SLRDADDR.OFFS = off.toNat ∧ s.hostSays t hp stOK 0 0 ∧
      s.passOp.regsKept t (fun a => (List.range 16).any (fun k => a == MTR_SLRDDAT.at k) || a == MTR_SLRDADDR.at || a == MTR_SLSTAT.at) ∧
      t = { s.passOp with regs := t.regs, host := t.host }) ∧
  (∀ (s : State) (k o : Nat),
    s.bat.queue ≠ [] →
    s.slateOn = true →
    s.islandUp islBatten = true →
    s.slate.cur = some (k, o) →
    o + 16 + 16 * 63 ≤ 4096 →
    Next .queueDrain s fun t =>
      t.get MTR_SLPTR.PTR = (k * 4096 + o + 16 + 16 * (s.bat.queue.take 63).length) % 2 ^ 32)

/-- The block right after reset: the reset values that the register tables state (R12), no command waiting, and the register file in its canonical
form. -/
def Obligations.ResetState : Prop :=
  State.reset.pending = [] ∧ State.reset.wf ∧ State.reset.rd 0x54 = 0x1 ∧ State.reset.get GLB_BOOTSTAT.STAGE = 0 ∧
  State.reset.rd THA_GEN.at = 1 ∧ State.reset.rd RDG_CFG.at = 3 ∧ State.reset.rd BAT_IRQEN.at = 0x01FFFFFF ∧ State.reset.rd BAT_TRSCUT.at = 0xFFFF ∧
  State.reset.rd HST_CANSTAT.at = 0x00030000 ∧ State.reset.rd UPD_STAT.at = 0x00012000 ∧ State.reset.rd MTR_STAT.at = 0 ∧
  (∀ n : Fin 16, State.reset.rd (PPD_CFG.at n) = 0xD ∧ State.reset.rd (PPD_TIMERS.at n) = 0x003200A5 ∧ State.reset.rd (PPD_WARNCFG.at n) = 0x000A0F01 ∧
    State.reset.rd (PLP_STATUS.at n) = 0xC00 ∧ State.reset.rd (PLP_CCOMP.at n) = 0x01323280 ∧ State.reset.rd (PVL_OVCFG.at n) = 0x03C00A1A ∧
    State.reset.rd (PVL_FILT.at n) = 0x52 ∧ State.reset.rd (PCC_STATUS.at n) = 0) ∧
  (∀ k : Fin 48, State.reset.rd (RAF_STAT.at k) = 0x1F30)

/-- A step takes the command at the front of the queue and runs it with the queue's rest; with no command waiting the block idles. The model's choices
in it: assumption log 2. -/
def Obligations.StepRunsFront : Prop :=
  (∀ (c : Instr) (s : State), step (s.setPending (c :: s.pending)) = exec c s) ∧ (∀ s : State, s.pending = [] → step s = .next s)

/-- Every command has an effect in every state, and it leaves the commands that still wait as they are. The model's choices in it: assumption log 2.
-/
def Obligations.EveryCommandCompletes : Prop :=
  ∀ (c : Instr) (s : State), ∃ t, exec c s = .next t ∧ t.pending = s.pending

/-- Every step keeps the register file and the staged values in their canonical forms: addresses strictly rising, and no entry at its reset value. -/
def Obligations.StepKeepsCanonicalForm : Prop :=
  ∀ s t : State, s.wf → step s = .next t → t.wf

/-- Burned fuses stay burned: whatever the block does, a counter bit that has read as burned counts as burned, so no counter ever falls (R417). -/
def Obligations.CountersNeverFall : Prop :=
  ∀ s t : State, s.otp.ctr.length = 6 → step s = .next t →
    t.otp.ctr.length = 6 ∧ (∀ g : Fin 6, s.groupBits g.val &&& t.groupBits g.val = s.groupBits g.val) ∧ s.antirb ≤ t.antirb ∧ s.keyrev ≤ t.keyrev ∧ s.epoch ≤ t.epoch
end

