-- ==== Sys2Proof/Laws/State.lean ====
section
/-!
SUPPORT. What each named update of the state leaves and gives, one lemma per field, true by rfl.
-/

namespace Sys2Proof.Machine

variable (s : State)

/-! ### State.wr -/

@[simp] theorem State.wr_staged (a : Nat) (v : Word) : (s.wr a v).staged = s.staged := rfl
@[simp] theorem State.wr_freeCtr (a : Nat) (v : Word) : (s.wr a v).freeCtr = s.freeCtr := rfl
@[simp] theorem State.wr_host (a : Nat) (v : Word) : (s.wr a v).host = s.host := rfl
@[simp] theorem State.wr_ridge (a : Nat) (v : Word) : (s.wr a v).ridge = s.ridge := rfl
@[simp] theorem State.wr_bat (a : Nat) (v : Word) : (s.wr a v).bat = s.bat := rfl
@[simp] theorem State.wr_ports (a : Nat) (v : Word) : (s.wr a v).ports = s.ports := rfl
@[simp] theorem State.wr_slices (a : Nat) (v : Word) : (s.wr a v).slices = s.slices := rfl
@[simp] theorem State.wr_jtl (a : Nat) (v : Word) : (s.wr a v).jtl = s.jtl := rfl
@[simp] theorem State.wr_soffit (a : Nat) (v : Word) : (s.wr a v).soffit = s.soffit := rfl
@[simp] theorem State.wr_otp (a : Nat) (v : Word) : (s.wr a v).otp = s.otp := rfl
@[simp] theorem State.wr_running (a : Nat) (v : Word) : (s.wr a v).running = s.running := rfl
@[simp] theorem State.wr_mtr (a : Nat) (v : Word) : (s.wr a v).mtr = s.mtr := rfl
@[simp] theorem State.wr_slate (a : Nat) (v : Word) : (s.wr a v).slate = s.slate := rfl
@[simp] theorem State.wr_tha (a : Nat) (v : Word) : (s.wr a v).tha = s.tha := rfl
@[simp] theorem State.wr_upd (a : Nat) (v : Word) : (s.wr a v).upd = s.upd := rfl
@[simp] theorem State.wr_boot (a : Nat) (v : Word) : (s.wr a v).boot = s.boot := rfl
@[simp] theorem State.wr_jtag (a : Nat) (v : Word) : (s.wr a v).jtag = s.jtag := rfl
@[simp] theorem State.wr_pending (a : Nat) (v : Word) : (s.wr a v).pending = s.pending := rfl

/-! ### State.put -/

@[simp] theorem State.put_staged (f : Fld) (x : Nat) : (s.put f x).staged = s.staged := rfl
@[simp] theorem State.put_freeCtr (f : Fld) (x : Nat) : (s.put f x).freeCtr = s.freeCtr := rfl
@[simp] theorem State.put_host (f : Fld) (x : Nat) : (s.put f x).host = s.host := rfl
@[simp] theorem State.put_ridge (f : Fld) (x : Nat) : (s.put f x).ridge = s.ridge := rfl
@[simp] theorem State.put_bat (f : Fld) (x : Nat) : (s.put f x).bat = s.bat := rfl
@[simp] theorem State.put_ports (f : Fld) (x : Nat) : (s.put f x).ports = s.ports := rfl
@[simp] theorem State.put_slices (f : Fld) (x : Nat) : (s.put f x).slices = s.slices := rfl
@[simp] theorem State.put_jtl (f : Fld) (x : Nat) : (s.put f x).jtl = s.jtl := rfl
@[simp] theorem State.put_soffit (f : Fld) (x : Nat) : (s.put f x).soffit = s.soffit := rfl
@[simp] theorem State.put_otp (f : Fld) (x : Nat) : (s.put f x).otp = s.otp := rfl
@[simp] theorem State.put_running (f : Fld) (x : Nat) : (s.put f x).running = s.running := rfl
@[simp] theorem State.put_mtr (f : Fld) (x : Nat) : (s.put f x).mtr = s.mtr := rfl
@[simp] theorem State.put_slate (f : Fld) (x : Nat) : (s.put f x).slate = s.slate := rfl
@[simp] theorem State.put_tha (f : Fld) (x : Nat) : (s.put f x).tha = s.tha := rfl
@[simp] theorem State.put_upd (f : Fld) (x : Nat) : (s.put f x).upd = s.upd := rfl
@[simp] theorem State.put_boot (f : Fld) (x : Nat) : (s.put f x).boot = s.boot := rfl
@[simp] theorem State.put_jtag (f : Fld) (x : Nat) : (s.put f x).jtag = s.jtag := rfl
@[simp] theorem State.put_pending (f : Fld) (x : Nat) : (s.put f x).pending = s.pending := rfl

/-! ### State.stage -/

@[simp] theorem State.stage_regs (a : Nat) (v : Word) : (s.stage a v).regs = s.regs := rfl
@[simp] theorem State.stage_staged (a : Nat) (v : Word) : (s.stage a v).staged = cellSet s.staged a v := rfl
@[simp] theorem State.stage_freeCtr (a : Nat) (v : Word) : (s.stage a v).freeCtr = s.freeCtr := rfl
@[simp] theorem State.stage_host (a : Nat) (v : Word) : (s.stage a v).host = s.host := rfl
@[simp] theorem State.stage_ridge (a : Nat) (v : Word) : (s.stage a v).ridge = s.ridge := rfl
@[simp] theorem State.stage_bat (a : Nat) (v : Word) : (s.stage a v).bat = s.bat := rfl
@[simp] theorem State.stage_ports (a : Nat) (v : Word) : (s.stage a v).ports = s.ports := rfl
@[simp] theorem State.stage_slices (a : Nat) (v : Word) : (s.stage a v).slices = s.slices := rfl
@[simp] theorem State.stage_jtl (a : Nat) (v : Word) : (s.stage a v).jtl = s.jtl := rfl
@[simp] theorem State.stage_soffit (a : Nat) (v : Word) : (s.stage a v).soffit = s.soffit := rfl
@[simp] theorem State.stage_otp (a : Nat) (v : Word) : (s.stage a v).otp = s.otp := rfl
@[simp] theorem State.stage_running (a : Nat) (v : Word) : (s.stage a v).running = s.running := rfl
@[simp] theorem State.stage_mtr (a : Nat) (v : Word) : (s.stage a v).mtr = s.mtr := rfl
@[simp] theorem State.stage_slate (a : Nat) (v : Word) : (s.stage a v).slate = s.slate := rfl
@[simp] theorem State.stage_tha (a : Nat) (v : Word) : (s.stage a v).tha = s.tha := rfl
@[simp] theorem State.stage_upd (a : Nat) (v : Word) : (s.stage a v).upd = s.upd := rfl
@[simp] theorem State.stage_boot (a : Nat) (v : Word) : (s.stage a v).boot = s.boot := rfl
@[simp] theorem State.stage_jtag (a : Nat) (v : Word) : (s.stage a v).jtag = s.jtag := rfl
@[simp] theorem State.stage_pending (a : Nat) (v : Word) : (s.stage a v).pending = s.pending := rfl

/-! ### State.modPort -/

@[simp] theorem State.modPort_regs (n : Fin 16) (f : PortSt → PortSt) : (s.modPort n f).regs = s.regs := rfl
@[simp] theorem State.modPort_staged (n : Fin 16) (f : PortSt → PortSt) : (s.modPort n f).staged = s.staged := rfl
@[simp] theorem State.modPort_freeCtr (n : Fin 16) (f : PortSt → PortSt) : (s.modPort n f).freeCtr = s.freeCtr := rfl
@[simp] theorem State.modPort_host (n : Fin 16) (f : PortSt → PortSt) : (s.modPort n f).host = s.host := rfl
@[simp] theorem State.modPort_ridge (n : Fin 16) (f : PortSt → PortSt) : (s.modPort n f).ridge = s.ridge := rfl
@[simp] theorem State.modPort_bat (n : Fin 16) (f : PortSt → PortSt) : (s.modPort n f).bat = s.bat := rfl
@[simp] theorem State.modPort_ports (n : Fin 16) (f : PortSt → PortSt) : (s.modPort n f).ports = s.ports.set n (f s.ports[n]) := rfl
@[simp] theorem State.modPort_slices (n : Fin 16) (f : PortSt → PortSt) : (s.modPort n f).slices = s.slices := rfl
@[simp] theorem State.modPort_jtl (n : Fin 16) (f : PortSt → PortSt) : (s.modPort n f).jtl = s.jtl := rfl
@[simp] theorem State.modPort_soffit (n : Fin 16) (f : PortSt → PortSt) : (s.modPort n f).soffit = s.soffit := rfl
@[simp] theorem State.modPort_otp (n : Fin 16) (f : PortSt → PortSt) : (s.modPort n f).otp = s.otp := rfl
@[simp] theorem State.modPort_running (n : Fin 16) (f : PortSt → PortSt) : (s.modPort n f).running = s.running := rfl
@[simp] theorem State.modPort_mtr (n : Fin 16) (f : PortSt → PortSt) : (s.modPort n f).mtr = s.mtr := rfl
@[simp] theorem State.modPort_slate (n : Fin 16) (f : PortSt → PortSt) : (s.modPort n f).slate = s.slate := rfl
@[simp] theorem State.modPort_tha (n : Fin 16) (f : PortSt → PortSt) : (s.modPort n f).tha = s.tha := rfl
@[simp] theorem State.modPort_upd (n : Fin 16) (f : PortSt → PortSt) : (s.modPort n f).upd = s.upd := rfl
@[simp] theorem State.modPort_boot (n : Fin 16) (f : PortSt → PortSt) : (s.modPort n f).boot = s.boot := rfl
@[simp] theorem State.modPort_jtag (n : Fin 16) (f : PortSt → PortSt) : (s.modPort n f).jtag = s.jtag := rfl
@[simp] theorem State.modPort_pending (n : Fin 16) (f : PortSt → PortSt) : (s.modPort n f).pending = s.pending := rfl

/-! ### State.modSlice -/

@[simp] theorem State.modSlice_regs (k : Fin 48) (f : SliceSt → SliceSt) : (s.modSlice k f).regs = s.regs := rfl
@[simp] theorem State.modSlice_staged (k : Fin 48) (f : SliceSt → SliceSt) : (s.modSlice k f).staged = s.staged := rfl
@[simp] theorem State.modSlice_freeCtr (k : Fin 48) (f : SliceSt → SliceSt) : (s.modSlice k f).freeCtr = s.freeCtr := rfl
@[simp] theorem State.modSlice_host (k : Fin 48) (f : SliceSt → SliceSt) : (s.modSlice k f).host = s.host := rfl
@[simp] theorem State.modSlice_ridge (k : Fin 48) (f : SliceSt → SliceSt) : (s.modSlice k f).ridge = s.ridge := rfl
@[simp] theorem State.modSlice_bat (k : Fin 48) (f : SliceSt → SliceSt) : (s.modSlice k f).bat = s.bat := rfl
@[simp] theorem State.modSlice_ports (k : Fin 48) (f : SliceSt → SliceSt) : (s.modSlice k f).ports = s.ports := rfl
@[simp] theorem State.modSlice_slices (k : Fin 48) (f : SliceSt → SliceSt) : (s.modSlice k f).slices = s.slices.set k (f s.slices[k]) := rfl
@[simp] theorem State.modSlice_jtl (k : Fin 48) (f : SliceSt → SliceSt) : (s.modSlice k f).jtl = s.jtl := rfl
@[simp] theorem State.modSlice_soffit (k : Fin 48) (f : SliceSt → SliceSt) : (s.modSlice k f).soffit = s.soffit := rfl
@[simp] theorem State.modSlice_otp (k : Fin 48) (f : SliceSt → SliceSt) : (s.modSlice k f).otp = s.otp := rfl
@[simp] theorem State.modSlice_running (k : Fin 48) (f : SliceSt → SliceSt) : (s.modSlice k f).running = s.running := rfl
@[simp] theorem State.modSlice_mtr (k : Fin 48) (f : SliceSt → SliceSt) : (s.modSlice k f).mtr = s.mtr := rfl
@[simp] theorem State.modSlice_slate (k : Fin 48) (f : SliceSt → SliceSt) : (s.modSlice k f).slate = s.slate := rfl
@[simp] theorem State.modSlice_tha (k : Fin 48) (f : SliceSt → SliceSt) : (s.modSlice k f).tha = s.tha := rfl
@[simp] theorem State.modSlice_upd (k : Fin 48) (f : SliceSt → SliceSt) : (s.modSlice k f).upd = s.upd := rfl
@[simp] theorem State.modSlice_boot (k : Fin 48) (f : SliceSt → SliceSt) : (s.modSlice k f).boot = s.boot := rfl
@[simp] theorem State.modSlice_jtag (k : Fin 48) (f : SliceSt → SliceSt) : (s.modSlice k f).jtag = s.jtag := rfl
@[simp] theorem State.modSlice_pending (k : Fin 48) (f : SliceSt → SliceSt) : (s.modSlice k f).pending = s.pending := rfl

/-! ### State.modBat -/

@[simp] theorem State.modBat_regs (f : BattenSt → BattenSt) : (s.modBat f).regs = s.regs := rfl
@[simp] theorem State.modBat_staged (f : BattenSt → BattenSt) : (s.modBat f).staged = s.staged := rfl
@[simp] theorem State.modBat_freeCtr (f : BattenSt → BattenSt) : (s.modBat f).freeCtr = s.freeCtr := rfl
@[simp] theorem State.modBat_host (f : BattenSt → BattenSt) : (s.modBat f).host = s.host := rfl
@[simp] theorem State.modBat_ridge (f : BattenSt → BattenSt) : (s.modBat f).ridge = s.ridge := rfl
@[simp] theorem State.modBat_bat (f : BattenSt → BattenSt) : (s.modBat f).bat = f s.bat := rfl
@[simp] theorem State.modBat_ports (f : BattenSt → BattenSt) : (s.modBat f).ports = s.ports := rfl
@[simp] theorem State.modBat_slices (f : BattenSt → BattenSt) : (s.modBat f).slices = s.slices := rfl
@[simp] theorem State.modBat_jtl (f : BattenSt → BattenSt) : (s.modBat f).jtl = s.jtl := rfl
@[simp] theorem State.modBat_soffit (f : BattenSt → BattenSt) : (s.modBat f).soffit = s.soffit := rfl
@[simp] theorem State.modBat_otp (f : BattenSt → BattenSt) : (s.modBat f).otp = s.otp := rfl
@[simp] theorem State.modBat_running (f : BattenSt → BattenSt) : (s.modBat f).running = s.running := rfl
@[simp] theorem State.modBat_mtr (f : BattenSt → BattenSt) : (s.modBat f).mtr = s.mtr := rfl
@[simp] theorem State.modBat_slate (f : BattenSt → BattenSt) : (s.modBat f).slate = s.slate := rfl
@[simp] theorem State.modBat_tha (f : BattenSt → BattenSt) : (s.modBat f).tha = s.tha := rfl
@[simp] theorem State.modBat_upd (f : BattenSt → BattenSt) : (s.modBat f).upd = s.upd := rfl
@[simp] theorem State.modBat_boot (f : BattenSt → BattenSt) : (s.modBat f).boot = s.boot := rfl
@[simp] theorem State.modBat_jtag (f : BattenSt → BattenSt) : (s.modBat f).jtag = s.jtag := rfl
@[simp] theorem State.modBat_pending (f : BattenSt → BattenSt) : (s.modBat f).pending = s.pending := rfl

/-! ### State.modRidge -/

@[simp] theorem State.modRidge_regs (f : RidgeSt → RidgeSt) : (s.modRidge f).regs = s.regs := rfl
@[simp] theorem State.modRidge_staged (f : RidgeSt → RidgeSt) : (s.modRidge f).staged = s.staged := rfl
@[simp] theorem State.modRidge_freeCtr (f : RidgeSt → RidgeSt) : (s.modRidge f).freeCtr = s.freeCtr := rfl
@[simp] theorem State.modRidge_host (f : RidgeSt → RidgeSt) : (s.modRidge f).host = s.host := rfl
@[simp] theorem State.modRidge_ridge (f : RidgeSt → RidgeSt) : (s.modRidge f).ridge = f s.ridge := rfl
@[simp] theorem State.modRidge_bat (f : RidgeSt → RidgeSt) : (s.modRidge f).bat = s.bat := rfl
@[simp] theorem State.modRidge_ports (f : RidgeSt → RidgeSt) : (s.modRidge f).ports = s.ports := rfl
@[simp] theorem State.modRidge_slices (f : RidgeSt → RidgeSt) : (s.modRidge f).slices = s.slices := rfl
@[simp] theorem State.modRidge_jtl (f : RidgeSt → RidgeSt) : (s.modRidge f).jtl = s.jtl := rfl
@[simp] theorem State.modRidge_soffit (f : RidgeSt → RidgeSt) : (s.modRidge f).soffit = s.soffit := rfl
@[simp] theorem State.modRidge_otp (f : RidgeSt → RidgeSt) : (s.modRidge f).otp = s.otp := rfl
@[simp] theorem State.modRidge_running (f : RidgeSt → RidgeSt) : (s.modRidge f).running = s.running := rfl
@[simp] theorem State.modRidge_mtr (f : RidgeSt → RidgeSt) : (s.modRidge f).mtr = s.mtr := rfl
@[simp] theorem State.modRidge_slate (f : RidgeSt → RidgeSt) : (s.modRidge f).slate = s.slate := rfl
@[simp] theorem State.modRidge_tha (f : RidgeSt → RidgeSt) : (s.modRidge f).tha = s.tha := rfl
@[simp] theorem State.modRidge_upd (f : RidgeSt → RidgeSt) : (s.modRidge f).upd = s.upd := rfl
@[simp] theorem State.modRidge_boot (f : RidgeSt → RidgeSt) : (s.modRidge f).boot = s.boot := rfl
@[simp] theorem State.modRidge_jtag (f : RidgeSt → RidgeSt) : (s.modRidge f).jtag = s.jtag := rfl
@[simp] theorem State.modRidge_pending (f : RidgeSt → RidgeSt) : (s.modRidge f).pending = s.pending := rfl

/-! ### State.modHost -/

@[simp] theorem State.modHost_regs (f : HostSt → HostSt) : (s.modHost f).regs = s.regs := rfl
@[simp] theorem State.modHost_staged (f : HostSt → HostSt) : (s.modHost f).staged = s.staged := rfl
@[simp] theorem State.modHost_freeCtr (f : HostSt → HostSt) : (s.modHost f).freeCtr = s.freeCtr := rfl
@[simp] theorem State.modHost_host (f : HostSt → HostSt) : (s.modHost f).host = f s.host := rfl
@[simp] theorem State.modHost_ridge (f : HostSt → HostSt) : (s.modHost f).ridge = s.ridge := rfl
@[simp] theorem State.modHost_bat (f : HostSt → HostSt) : (s.modHost f).bat = s.bat := rfl
@[simp] theorem State.modHost_ports (f : HostSt → HostSt) : (s.modHost f).ports = s.ports := rfl
@[simp] theorem State.modHost_slices (f : HostSt → HostSt) : (s.modHost f).slices = s.slices := rfl
@[simp] theorem State.modHost_jtl (f : HostSt → HostSt) : (s.modHost f).jtl = s.jtl := rfl
@[simp] theorem State.modHost_soffit (f : HostSt → HostSt) : (s.modHost f).soffit = s.soffit := rfl
@[simp] theorem State.modHost_otp (f : HostSt → HostSt) : (s.modHost f).otp = s.otp := rfl
@[simp] theorem State.modHost_running (f : HostSt → HostSt) : (s.modHost f).running = s.running := rfl
@[simp] theorem State.modHost_mtr (f : HostSt → HostSt) : (s.modHost f).mtr = s.mtr := rfl
@[simp] theorem State.modHost_slate (f : HostSt → HostSt) : (s.modHost f).slate = s.slate := rfl
@[simp] theorem State.modHost_tha (f : HostSt → HostSt) : (s.modHost f).tha = s.tha := rfl
@[simp] theorem State.modHost_upd (f : HostSt → HostSt) : (s.modHost f).upd = s.upd := rfl
@[simp] theorem State.modHost_boot (f : HostSt → HostSt) : (s.modHost f).boot = s.boot := rfl
@[simp] theorem State.modHost_jtag (f : HostSt → HostSt) : (s.modHost f).jtag = s.jtag := rfl
@[simp] theorem State.modHost_pending (f : HostSt → HostSt) : (s.modHost f).pending = s.pending := rfl

/-! ### State.modJtl -/

@[simp] theorem State.modJtl_regs (f : JtlSt → JtlSt) : (s.modJtl f).regs = s.regs := rfl
@[simp] theorem State.modJtl_staged (f : JtlSt → JtlSt) : (s.modJtl f).staged = s.staged := rfl
@[simp] theorem State.modJtl_freeCtr (f : JtlSt → JtlSt) : (s.modJtl f).freeCtr = s.freeCtr := rfl
@[simp] theorem State.modJtl_host (f : JtlSt → JtlSt) : (s.modJtl f).host = s.host := rfl
@[simp] theorem State.modJtl_ridge (f : JtlSt → JtlSt) : (s.modJtl f).ridge = s.ridge := rfl
@[simp] theorem State.modJtl_bat (f : JtlSt → JtlSt) : (s.modJtl f).bat = s.bat := rfl
@[simp] theorem State.modJtl_ports (f : JtlSt → JtlSt) : (s.modJtl f).ports = s.ports := rfl
@[simp] theorem State.modJtl_slices (f : JtlSt → JtlSt) : (s.modJtl f).slices = s.slices := rfl
@[simp] theorem State.modJtl_jtl (f : JtlSt → JtlSt) : (s.modJtl f).jtl = f s.jtl := rfl
@[simp] theorem State.modJtl_soffit (f : JtlSt → JtlSt) : (s.modJtl f).soffit = s.soffit := rfl
@[simp] theorem State.modJtl_otp (f : JtlSt → JtlSt) : (s.modJtl f).otp = s.otp := rfl
@[simp] theorem State.modJtl_running (f : JtlSt → JtlSt) : (s.modJtl f).running = s.running := rfl
@[simp] theorem State.modJtl_mtr (f : JtlSt → JtlSt) : (s.modJtl f).mtr = s.mtr := rfl
@[simp] theorem State.modJtl_slate (f : JtlSt → JtlSt) : (s.modJtl f).slate = s.slate := rfl
@[simp] theorem State.modJtl_tha (f : JtlSt → JtlSt) : (s.modJtl f).tha = s.tha := rfl
@[simp] theorem State.modJtl_upd (f : JtlSt → JtlSt) : (s.modJtl f).upd = s.upd := rfl
@[simp] theorem State.modJtl_boot (f : JtlSt → JtlSt) : (s.modJtl f).boot = s.boot := rfl
@[simp] theorem State.modJtl_jtag (f : JtlSt → JtlSt) : (s.modJtl f).jtag = s.jtag := rfl
@[simp] theorem State.modJtl_pending (f : JtlSt → JtlSt) : (s.modJtl f).pending = s.pending := rfl

/-! ### State.modOtp -/

@[simp] theorem State.modOtp_regs (f : OtpSt → OtpSt) : (s.modOtp f).regs = s.regs := rfl
@[simp] theorem State.modOtp_staged (f : OtpSt → OtpSt) : (s.modOtp f).staged = s.staged := rfl
@[simp] theorem State.modOtp_freeCtr (f : OtpSt → OtpSt) : (s.modOtp f).freeCtr = s.freeCtr := rfl
@[simp] theorem State.modOtp_host (f : OtpSt → OtpSt) : (s.modOtp f).host = s.host := rfl
@[simp] theorem State.modOtp_ridge (f : OtpSt → OtpSt) : (s.modOtp f).ridge = s.ridge := rfl
@[simp] theorem State.modOtp_bat (f : OtpSt → OtpSt) : (s.modOtp f).bat = s.bat := rfl
@[simp] theorem State.modOtp_ports (f : OtpSt → OtpSt) : (s.modOtp f).ports = s.ports := rfl
@[simp] theorem State.modOtp_slices (f : OtpSt → OtpSt) : (s.modOtp f).slices = s.slices := rfl
@[simp] theorem State.modOtp_jtl (f : OtpSt → OtpSt) : (s.modOtp f).jtl = s.jtl := rfl
@[simp] theorem State.modOtp_soffit (f : OtpSt → OtpSt) : (s.modOtp f).soffit = s.soffit := rfl
@[simp] theorem State.modOtp_otp (f : OtpSt → OtpSt) : (s.modOtp f).otp = f s.otp := rfl
@[simp] theorem State.modOtp_running (f : OtpSt → OtpSt) : (s.modOtp f).running = s.running := rfl
@[simp] theorem State.modOtp_mtr (f : OtpSt → OtpSt) : (s.modOtp f).mtr = s.mtr := rfl
@[simp] theorem State.modOtp_slate (f : OtpSt → OtpSt) : (s.modOtp f).slate = s.slate := rfl
@[simp] theorem State.modOtp_tha (f : OtpSt → OtpSt) : (s.modOtp f).tha = s.tha := rfl
@[simp] theorem State.modOtp_upd (f : OtpSt → OtpSt) : (s.modOtp f).upd = s.upd := rfl
@[simp] theorem State.modOtp_boot (f : OtpSt → OtpSt) : (s.modOtp f).boot = s.boot := rfl
@[simp] theorem State.modOtp_jtag (f : OtpSt → OtpSt) : (s.modOtp f).jtag = s.jtag := rfl
@[simp] theorem State.modOtp_pending (f : OtpSt → OtpSt) : (s.modOtp f).pending = s.pending := rfl

/-! ### State.modMtr -/

@[simp] theorem State.modMtr_regs (f : MtrSt → MtrSt) : (s.modMtr f).regs = s.regs := rfl
@[simp] theorem State.modMtr_staged (f : MtrSt → MtrSt) : (s.modMtr f).staged = s.staged := rfl
@[simp] theorem State.modMtr_freeCtr (f : MtrSt → MtrSt) : (s.modMtr f).freeCtr = s.freeCtr := rfl
@[simp] theorem State.modMtr_host (f : MtrSt → MtrSt) : (s.modMtr f).host = s.host := rfl
@[simp] theorem State.modMtr_ridge (f : MtrSt → MtrSt) : (s.modMtr f).ridge = s.ridge := rfl
@[simp] theorem State.modMtr_bat (f : MtrSt → MtrSt) : (s.modMtr f).bat = s.bat := rfl
@[simp] theorem State.modMtr_ports (f : MtrSt → MtrSt) : (s.modMtr f).ports = s.ports := rfl
@[simp] theorem State.modMtr_slices (f : MtrSt → MtrSt) : (s.modMtr f).slices = s.slices := rfl
@[simp] theorem State.modMtr_jtl (f : MtrSt → MtrSt) : (s.modMtr f).jtl = s.jtl := rfl
@[simp] theorem State.modMtr_soffit (f : MtrSt → MtrSt) : (s.modMtr f).soffit = s.soffit := rfl
@[simp] theorem State.modMtr_otp (f : MtrSt → MtrSt) : (s.modMtr f).otp = s.otp := rfl
@[simp] theorem State.modMtr_running (f : MtrSt → MtrSt) : (s.modMtr f).running = s.running := rfl
@[simp] theorem State.modMtr_mtr (f : MtrSt → MtrSt) : (s.modMtr f).mtr = f s.mtr := rfl
@[simp] theorem State.modMtr_slate (f : MtrSt → MtrSt) : (s.modMtr f).slate = s.slate := rfl
@[simp] theorem State.modMtr_tha (f : MtrSt → MtrSt) : (s.modMtr f).tha = s.tha := rfl
@[simp] theorem State.modMtr_upd (f : MtrSt → MtrSt) : (s.modMtr f).upd = s.upd := rfl
@[simp] theorem State.modMtr_boot (f : MtrSt → MtrSt) : (s.modMtr f).boot = s.boot := rfl
@[simp] theorem State.modMtr_jtag (f : MtrSt → MtrSt) : (s.modMtr f).jtag = s.jtag := rfl
@[simp] theorem State.modMtr_pending (f : MtrSt → MtrSt) : (s.modMtr f).pending = s.pending := rfl

/-! ### State.modSlate -/

@[simp] theorem State.modSlate_regs (f : SlateSt → SlateSt) : (s.modSlate f).regs = s.regs := rfl
@[simp] theorem State.modSlate_staged (f : SlateSt → SlateSt) : (s.modSlate f).staged = s.staged := rfl
@[simp] theorem State.modSlate_freeCtr (f : SlateSt → SlateSt) : (s.modSlate f).freeCtr = s.freeCtr := rfl
@[simp] theorem State.modSlate_host (f : SlateSt → SlateSt) : (s.modSlate f).host = s.host := rfl
@[simp] theorem State.modSlate_ridge (f : SlateSt → SlateSt) : (s.modSlate f).ridge = s.ridge := rfl
@[simp] theorem State.modSlate_bat (f : SlateSt → SlateSt) : (s.modSlate f).bat = s.bat := rfl
@[simp] theorem State.modSlate_ports (f : SlateSt → SlateSt) : (s.modSlate f).ports = s.ports := rfl
@[simp] theorem State.modSlate_slices (f : SlateSt → SlateSt) : (s.modSlate f).slices = s.slices := rfl
@[simp] theorem State.modSlate_jtl (f : SlateSt → SlateSt) : (s.modSlate f).jtl = s.jtl := rfl
@[simp] theorem State.modSlate_soffit (f : SlateSt → SlateSt) : (s.modSlate f).soffit = s.soffit := rfl
@[simp] theorem State.modSlate_otp (f : SlateSt → SlateSt) : (s.modSlate f).otp = s.otp := rfl
@[simp] theorem State.modSlate_running (f : SlateSt → SlateSt) : (s.modSlate f).running = s.running := rfl
@[simp] theorem State.modSlate_mtr (f : SlateSt → SlateSt) : (s.modSlate f).mtr = s.mtr := rfl
@[simp] theorem State.modSlate_slate (f : SlateSt → SlateSt) : (s.modSlate f).slate = f s.slate := rfl
@[simp] theorem State.modSlate_tha (f : SlateSt → SlateSt) : (s.modSlate f).tha = s.tha := rfl
@[simp] theorem State.modSlate_upd (f : SlateSt → SlateSt) : (s.modSlate f).upd = s.upd := rfl
@[simp] theorem State.modSlate_boot (f : SlateSt → SlateSt) : (s.modSlate f).boot = s.boot := rfl
@[simp] theorem State.modSlate_jtag (f : SlateSt → SlateSt) : (s.modSlate f).jtag = s.jtag := rfl
@[simp] theorem State.modSlate_pending (f : SlateSt → SlateSt) : (s.modSlate f).pending = s.pending := rfl

/-! ### State.modTha -/

@[simp] theorem State.modTha_regs (f : ThaSt → ThaSt) : (s.modTha f).regs = s.regs := rfl
@[simp] theorem State.modTha_staged (f : ThaSt → ThaSt) : (s.modTha f).staged = s.staged := rfl
@[simp] theorem State.modTha_freeCtr (f : ThaSt → ThaSt) : (s.modTha f).freeCtr = s.freeCtr := rfl
@[simp] theorem State.modTha_host (f : ThaSt → ThaSt) : (s.modTha f).host = s.host := rfl
@[simp] theorem State.modTha_ridge (f : ThaSt → ThaSt) : (s.modTha f).ridge = s.ridge := rfl
@[simp] theorem State.modTha_bat (f : ThaSt → ThaSt) : (s.modTha f).bat = s.bat := rfl
@[simp] theorem State.modTha_ports (f : ThaSt → ThaSt) : (s.modTha f).ports = s.ports := rfl
@[simp] theorem State.modTha_slices (f : ThaSt → ThaSt) : (s.modTha f).slices = s.slices := rfl
@[simp] theorem State.modTha_jtl (f : ThaSt → ThaSt) : (s.modTha f).jtl = s.jtl := rfl
@[simp] theorem State.modTha_soffit (f : ThaSt → ThaSt) : (s.modTha f).soffit = s.soffit := rfl
@[simp] theorem State.modTha_otp (f : ThaSt → ThaSt) : (s.modTha f).otp = s.otp := rfl
@[simp] theorem State.modTha_running (f : ThaSt → ThaSt) : (s.modTha f).running = s.running := rfl
@[simp] theorem State.modTha_mtr (f : ThaSt → ThaSt) : (s.modTha f).mtr = s.mtr := rfl
@[simp] theorem State.modTha_slate (f : ThaSt → ThaSt) : (s.modTha f).slate = s.slate := rfl
@[simp] theorem State.modTha_tha (f : ThaSt → ThaSt) : (s.modTha f).tha = f s.tha := rfl
@[simp] theorem State.modTha_upd (f : ThaSt → ThaSt) : (s.modTha f).upd = s.upd := rfl
@[simp] theorem State.modTha_boot (f : ThaSt → ThaSt) : (s.modTha f).boot = s.boot := rfl
@[simp] theorem State.modTha_jtag (f : ThaSt → ThaSt) : (s.modTha f).jtag = s.jtag := rfl
@[simp] theorem State.modTha_pending (f : ThaSt → ThaSt) : (s.modTha f).pending = s.pending := rfl

/-! ### State.modUpd -/

@[simp] theorem State.modUpd_regs (f : UpdSt → UpdSt) : (s.modUpd f).regs = s.regs := rfl
@[simp] theorem State.modUpd_staged (f : UpdSt → UpdSt) : (s.modUpd f).staged = s.staged := rfl
@[simp] theorem State.modUpd_freeCtr (f : UpdSt → UpdSt) : (s.modUpd f).freeCtr = s.freeCtr := rfl
@[simp] theorem State.modUpd_host (f : UpdSt → UpdSt) : (s.modUpd f).host = s.host := rfl
@[simp] theorem State.modUpd_ridge (f : UpdSt → UpdSt) : (s.modUpd f).ridge = s.ridge := rfl
@[simp] theorem State.modUpd_bat (f : UpdSt → UpdSt) : (s.modUpd f).bat = s.bat := rfl
@[simp] theorem State.modUpd_ports (f : UpdSt → UpdSt) : (s.modUpd f).ports = s.ports := rfl
@[simp] theorem State.modUpd_slices (f : UpdSt → UpdSt) : (s.modUpd f).slices = s.slices := rfl
@[simp] theorem State.modUpd_jtl (f : UpdSt → UpdSt) : (s.modUpd f).jtl = s.jtl := rfl
@[simp] theorem State.modUpd_soffit (f : UpdSt → UpdSt) : (s.modUpd f).soffit = s.soffit := rfl
@[simp] theorem State.modUpd_otp (f : UpdSt → UpdSt) : (s.modUpd f).otp = s.otp := rfl
@[simp] theorem State.modUpd_running (f : UpdSt → UpdSt) : (s.modUpd f).running = s.running := rfl
@[simp] theorem State.modUpd_mtr (f : UpdSt → UpdSt) : (s.modUpd f).mtr = s.mtr := rfl
@[simp] theorem State.modUpd_slate (f : UpdSt → UpdSt) : (s.modUpd f).slate = s.slate := rfl
@[simp] theorem State.modUpd_tha (f : UpdSt → UpdSt) : (s.modUpd f).tha = s.tha := rfl
@[simp] theorem State.modUpd_upd (f : UpdSt → UpdSt) : (s.modUpd f).upd = f s.upd := rfl
@[simp] theorem State.modUpd_boot (f : UpdSt → UpdSt) : (s.modUpd f).boot = s.boot := rfl
@[simp] theorem State.modUpd_jtag (f : UpdSt → UpdSt) : (s.modUpd f).jtag = s.jtag := rfl
@[simp] theorem State.modUpd_pending (f : UpdSt → UpdSt) : (s.modUpd f).pending = s.pending := rfl

/-! ### State.modBoot -/

@[simp] theorem State.modBoot_regs (f : BootSt → BootSt) : (s.modBoot f).regs = s.regs := rfl
@[simp] theorem State.modBoot_staged (f : BootSt → BootSt) : (s.modBoot f).staged = s.staged := rfl
@[simp] theorem State.modBoot_freeCtr (f : BootSt → BootSt) : (s.modBoot f).freeCtr = s.freeCtr := rfl
@[simp] theorem State.modBoot_host (f : BootSt → BootSt) : (s.modBoot f).host = s.host := rfl
@[simp] theorem State.modBoot_ridge (f : BootSt → BootSt) : (s.modBoot f).ridge = s.ridge := rfl
@[simp] theorem State.modBoot_bat (f : BootSt → BootSt) : (s.modBoot f).bat = s.bat := rfl
@[simp] theorem State.modBoot_ports (f : BootSt → BootSt) : (s.modBoot f).ports = s.ports := rfl
@[simp] theorem State.modBoot_slices (f : BootSt → BootSt) : (s.modBoot f).slices = s.slices := rfl
@[simp] theorem State.modBoot_jtl (f : BootSt → BootSt) : (s.modBoot f).jtl = s.jtl := rfl
@[simp] theorem State.modBoot_soffit (f : BootSt → BootSt) : (s.modBoot f).soffit = s.soffit := rfl
@[simp] theorem State.modBoot_otp (f : BootSt → BootSt) : (s.modBoot f).otp = s.otp := rfl
@[simp] theorem State.modBoot_running (f : BootSt → BootSt) : (s.modBoot f).running = s.running := rfl
@[simp] theorem State.modBoot_mtr (f : BootSt → BootSt) : (s.modBoot f).mtr = s.mtr := rfl
@[simp] theorem State.modBoot_slate (f : BootSt → BootSt) : (s.modBoot f).slate = s.slate := rfl
@[simp] theorem State.modBoot_tha (f : BootSt → BootSt) : (s.modBoot f).tha = s.tha := rfl
@[simp] theorem State.modBoot_upd (f : BootSt → BootSt) : (s.modBoot f).upd = s.upd := rfl
@[simp] theorem State.modBoot_boot (f : BootSt → BootSt) : (s.modBoot f).boot = f s.boot := rfl
@[simp] theorem State.modBoot_jtag (f : BootSt → BootSt) : (s.modBoot f).jtag = s.jtag := rfl
@[simp] theorem State.modBoot_pending (f : BootSt → BootSt) : (s.modBoot f).pending = s.pending := rfl

/-! ### State.modJtag -/

@[simp] theorem State.modJtag_regs (f : JtagSt → JtagSt) : (s.modJtag f).regs = s.regs := rfl
@[simp] theorem State.modJtag_staged (f : JtagSt → JtagSt) : (s.modJtag f).staged = s.staged := rfl
@[simp] theorem State.modJtag_freeCtr (f : JtagSt → JtagSt) : (s.modJtag f).freeCtr = s.freeCtr := rfl
@[simp] theorem State.modJtag_host (f : JtagSt → JtagSt) : (s.modJtag f).host = s.host := rfl
@[simp] theorem State.modJtag_ridge (f : JtagSt → JtagSt) : (s.modJtag f).ridge = s.ridge := rfl
@[simp] theorem State.modJtag_bat (f : JtagSt → JtagSt) : (s.modJtag f).bat = s.bat := rfl
@[simp] theorem State.modJtag_ports (f : JtagSt → JtagSt) : (s.modJtag f).ports = s.ports := rfl
@[simp] theorem State.modJtag_slices (f : JtagSt → JtagSt) : (s.modJtag f).slices = s.slices := rfl
@[simp] theorem State.modJtag_jtl (f : JtagSt → JtagSt) : (s.modJtag f).jtl = s.jtl := rfl
@[simp] theorem State.modJtag_soffit (f : JtagSt → JtagSt) : (s.modJtag f).soffit = s.soffit := rfl
@[simp] theorem State.modJtag_otp (f : JtagSt → JtagSt) : (s.modJtag f).otp = s.otp := rfl
@[simp] theorem State.modJtag_running (f : JtagSt → JtagSt) : (s.modJtag f).running = s.running := rfl
@[simp] theorem State.modJtag_mtr (f : JtagSt → JtagSt) : (s.modJtag f).mtr = s.mtr := rfl
@[simp] theorem State.modJtag_slate (f : JtagSt → JtagSt) : (s.modJtag f).slate = s.slate := rfl
@[simp] theorem State.modJtag_tha (f : JtagSt → JtagSt) : (s.modJtag f).tha = s.tha := rfl
@[simp] theorem State.modJtag_upd (f : JtagSt → JtagSt) : (s.modJtag f).upd = s.upd := rfl
@[simp] theorem State.modJtag_boot (f : JtagSt → JtagSt) : (s.modJtag f).boot = s.boot := rfl
@[simp] theorem State.modJtag_jtag (f : JtagSt → JtagSt) : (s.modJtag f).jtag = f s.jtag := rfl
@[simp] theorem State.modJtag_pending (f : JtagSt → JtagSt) : (s.modJtag f).pending = s.pending := rfl

/-! ### State.setPending -/

@[simp] theorem State.setPending_regs (q : List Instr) : (s.setPending q).regs = s.regs := rfl
@[simp] theorem State.setPending_staged (q : List Instr) : (s.setPending q).staged = s.staged := rfl
@[simp] theorem State.setPending_freeCtr (q : List Instr) : (s.setPending q).freeCtr = s.freeCtr := rfl
@[simp] theorem State.setPending_host (q : List Instr) : (s.setPending q).host = s.host := rfl
@[simp] theorem State.setPending_ridge (q : List Instr) : (s.setPending q).ridge = s.ridge := rfl
@[simp] theorem State.setPending_bat (q : List Instr) : (s.setPending q).bat = s.bat := rfl
@[simp] theorem State.setPending_ports (q : List Instr) : (s.setPending q).ports = s.ports := rfl
@[simp] theorem State.setPending_slices (q : List Instr) : (s.setPending q).slices = s.slices := rfl
@[simp] theorem State.setPending_jtl (q : List Instr) : (s.setPending q).jtl = s.jtl := rfl
@[simp] theorem State.setPending_soffit (q : List Instr) : (s.setPending q).soffit = s.soffit := rfl
@[simp] theorem State.setPending_otp (q : List Instr) : (s.setPending q).otp = s.otp := rfl
@[simp] theorem State.setPending_running (q : List Instr) : (s.setPending q).running = s.running := rfl
@[simp] theorem State.setPending_mtr (q : List Instr) : (s.setPending q).mtr = s.mtr := rfl
@[simp] theorem State.setPending_slate (q : List Instr) : (s.setPending q).slate = s.slate := rfl
@[simp] theorem State.setPending_tha (q : List Instr) : (s.setPending q).tha = s.tha := rfl
@[simp] theorem State.setPending_upd (q : List Instr) : (s.setPending q).upd = s.upd := rfl
@[simp] theorem State.setPending_boot (q : List Instr) : (s.setPending q).boot = s.boot := rfl
@[simp] theorem State.setPending_jtag (q : List Instr) : (s.setPending q).jtag = s.jtag := rfl
@[simp] theorem State.setPending_pending (q : List Instr) : (s.setPending q).pending = q := rfl

end Sys2Proof.Machine
end

