-- ==== Sys2Proof/Laws/Regs.lean ====
section
/-!
SUPPORT. The register file: a read after a write, the fields of a word, the canonical form, and what the named operations over them leave.
-/

namespace Sys2Proof.Machine

/-! ### The list of cells -/

theorem rising_tail {x : Nat × Word} {l : List (Nat × Word)} (h : rising (x :: l) = true) : rising l = true := by
  cases l with
  | nil => rfl
  | cons y t => simp [rising] at h; exact h.2

theorem rising_head_lt {x : Nat × Word} {l : List (Nat × Word)} (h : rising (x :: l) = true) : ∀ y ∈ l, x.1 < y.1 := by
  induction l generalizing x with
  | nil => simp
  | cons y t ih =>
    simp [rising] at h
    intro z hz
    rcases List.mem_cons.1 hz with rfl | hz
    · exact h.1
    · exact h.1.trans (ih h.2 z hz)

theorem rising_cons {x : Nat × Word} {l : List (Nat × Word)} (h : ∀ y ∈ l, x.1 < y.1) (r : rising l = true) : rising (x :: l) = true := by
  cases l with
  | nil => rfl
  | cons y t => simp [rising]; exact ⟨h y (by simp), r⟩

theorem rising_filter (p : Nat × Word → Bool) {l : List (Nat × Word)} (h : rising l = true) : rising (l.filter p) = true := by
  induction l with
  | nil => rfl
  | cons x t ih =>
    rw [List.filter_cons]
    split
    · exact rising_cons (fun y hy => rising_head_lt h y (List.mem_filter.1 hy).1) (ih (rising_tail h))
    · exact ih (rising_tail h)

theorem mem_cellSet {l : List (Nat × Word)} {a : Nat} {v : Word} {y : Nat × Word} (h : y ∈ cellSet l a v) : y = (a, v) ∨ y ∈ l := by
  induction l with
  | nil => simpa [cellSet] using h
  | cons x t ih =>
    obtain ⟨b, w⟩ := x
    simp only [cellSet] at h
    split at h
    · simpa using h
    · split at h
      · rcases List.mem_cons.1 h with h | h
        · exact .inl h
        · exact .inr (by simp [h])
      · rcases List.mem_cons.1 h with h | h
        · exact .inr (by simp [h])
        · rcases ih h with h | h
          · exact .inl h
          · exact .inr (by simp [h])

theorem rising_cellSet {l : List (Nat × Word)} (a : Nat) (v : Word) (h : rising l = true) : rising (cellSet l a v) = true := by
  induction l with
  | nil => rfl
  | cons x t ih =>
    obtain ⟨b, w⟩ := x
    simp only [cellSet]
    split
    · rename_i hab
      exact rising_cons (by
        intro y hy
        rcases List.mem_cons.1 hy with rfl | hy
        · exact hab
        · exact Nat.lt_trans hab (rising_head_lt h y hy)) h
    · split
      · rename_i hab
        subst hab
        exact rising_cons (fun y hy => rising_head_lt h y hy) (rising_tail h)
      · rename_i h1 h2
        refine rising_cons (fun y hy => ?_) (ih (rising_tail h))
        rcases mem_cellSet hy with rfl | hy
        · show b < a
          omega
        · exact rising_head_lt h y hy

@[simp] theorem cellGet_cellSet_same (l : List (Nat × Word)) (a : Nat) (v : Word) : cellGet (cellSet l a v) a = some v := by
  induction l with
  | nil => simp [cellSet, cellGet]
  | cons x t ih =>
    obtain ⟨b, w⟩ := x
    simp only [cellSet]
    split
    · simp [cellGet]
    · split
      · simp [cellGet]
      · simp [cellGet, *]

@[simp] theorem cellGet_cellSet_ne (l : List (Nat × Word)) {a b : Nat} (v : Word) (h : b ≠ a) : cellGet (cellSet l a v) b = cellGet l b := by
  induction l with
  | nil => simp [cellSet, cellGet, h]
  | cons x t ih =>
    obtain ⟨c, w⟩ := x
    simp only [cellSet]
    split
    · simp [cellGet, h]
    · split
      · rename_i h2
        subst h2
        simp [cellGet, h]
      · simp [cellGet, ih]

@[simp] theorem cellGet_cellErase_same (l : List (Nat × Word)) (a : Nat) : cellGet (cellErase l a) a = none := by
  induction l with
  | nil => rfl
  | cons x t ih =>
    obtain ⟨b, w⟩ := x
    by_cases h : b = a
    · simpa [cellErase, h] using ih
    · have : (a = b) = False := eq_false (fun e => h e.symm)
      simpa [cellErase, cellGet, h, this] using ih

@[simp] theorem cellGet_cellErase_ne (l : List (Nat × Word)) {a b : Nat} (h : b ≠ a) : cellGet (cellErase l a) b = cellGet l b := by
  induction l with
  | nil => rfl
  | cons x t ih =>
    obtain ⟨c, w⟩ := x
    by_cases hc : c = a
    · subst hc
      simpa [cellErase, cellGet, h] using ih
    · simp [cellErase, cellGet, hc] at ih ⊢
      rw [ih]

/-! ### Reads after writes -/

/-- A register reads what was written to it. -/
@[simp] theorem State.rd_wr_same (s : State) (a : Nat) (v : Word) : (s.wr a v).rd a = v := by
  unfold State.rd State.wr
  by_cases h : v = regReset a <;> simp [h]

/-- A write leaves every other register. -/
@[simp] theorem State.rd_wr_ne (s : State) {a b : Nat} (v : Word) (h : b ≠ a) : (s.wr a v).rd b = s.rd b := by
  unfold State.rd State.wr
  split <;> simp [h]

/-- Writing a register twice leaves the second value in every register. -/
theorem State.rd_wr (s : State) (a b : Nat) (v : Word) : (s.wr a v).rd b = if b = a then v else s.rd b := by
  split
  · subst b; simp
  · simp [*]

/-- A change of the rest of the state leaves every register. -/
theorem State.rd_of_regs {s t : State} (h : t.regs = s.regs) (a : Nat) : t.rd a = s.rd a := by simp [State.rd, h]

theorem State.get_of_regs {s t : State} (h : t.regs = s.regs) (f : Fld) : t.get f = s.get f := by simp [State.get, State.rd, h]

/-- A field of another register is left. -/
@[simp] theorem State.get_wr_ne (s : State) {a : Nat} (v : Word) (f : Fld) (h : f.addr ≠ a) : (s.wr a v).get f = s.get f := by
  simp [State.get, h]

/-- A field of a register written whole. -/
@[simp] theorem State.get_wr_same (s : State) (f : Fld) (v : Word) : (s.wr f.addr v).get f = f.of v := by simp [State.get]

theorem State.put_eq (s : State) (f : Fld) (x : Nat) : s.put f x = s.wr f.addr (f.set (s.rd f.addr) x) := rfl

/-- A field of another register is left by a field write. -/
@[simp] theorem State.get_put_ne (s : State) (f g : Fld) (x : Nat) (h : g.addr ≠ f.addr) : (s.put f x).get g = s.get g := by
  simp [State.put, h]

@[simp] theorem State.rd_put_ne (s : State) (f : Fld) (x a : Nat) (h : a ≠ f.addr) : (s.put f x).rd a = s.rd a := by
  simp [State.put, h]

theorem testBit_shl (m i k : Nat) : (m <<< k).testBit i = (decide (k ≤ i) && m.testBit (i - k)) := by
  simp [Nat.testBit_shiftLeft]

/-- The bits of a word after a field write (R12): the field's bits from the value, the others as before. -/
theorem Fld.getLsbD_set (f : Fld) (v : Word) (x i : Nat) (h : i < 32) :
    (f.set v x).getLsbD i = if f.lo ≤ i ∧ i < f.lo + f.w then x.testBit (i - f.lo) else v.getLsbD i := by
  have hm : f.mask.getLsbD i = (decide (f.lo ≤ i) && decide (i - f.lo < f.w)) := by
    simp only [Fld.mask, BitVec.getLsbD_ofNat, testBit_shl, Nat.testBit_two_pow_sub_one]
    simp [h]
  have hx : (BitVec.ofNat 32 ((x % 2 ^ f.w) <<< f.lo)).getLsbD i = (decide (f.lo ≤ i) && (decide (i - f.lo < f.w) && x.testBit (i - f.lo))) := by
    simp only [BitVec.getLsbD_ofNat, testBit_shl, Nat.testBit_mod_two_pow]
    simp [h]
  simp only [Fld.set, BitVec.getLsbD_or, BitVec.getLsbD_and, BitVec.getLsbD_not, hm, hx, h]
  by_cases h1 : f.lo ≤ i
  · by_cases h2 : i - f.lo < f.w
    · have h3 : i < f.lo + f.w := by omega
      simp [h1, h2, h3]
    · have h3 : ¬ i < f.lo + f.w := by omega
      simp [h2, h3]
  · simp [h1]

/-- The bits of a field's value. -/
theorem Fld.testBit_of (f : Fld) (v : Word) (i : Nat) : (f.of v).testBit i = (decide (i < f.w) && v.getLsbD (i + f.lo)) := by
  simp only [Fld.of, Nat.testBit_mod_two_pow, Nat.testBit_shiftRight]
  simp [BitVec.getLsbD, Nat.add_comm]

/-- A field reads the value given to it, modulo its width. -/
theorem Fld.of_set (f : Fld) (v : Word) (x : Nat) (h : f.lo + f.w ≤ 32) : f.of (f.set v x) = x % 2 ^ f.w := by
  apply Nat.eq_of_testBit_eq
  intro i
  rw [Fld.testBit_of, Nat.testBit_mod_two_pow]
  by_cases hi : i < f.w
  · rw [Fld.getLsbD_set _ _ _ _ (by omega)]
    have h1 : f.lo ≤ i + f.lo := by omega
    have h2 : i + f.lo < f.lo + f.w := by omega
    simp [hi, h1, h2]
  · simp [hi]

/-- A field write leaves a field of the same register with no bit in common. -/
theorem Fld.of_set_disjoint (f g : Fld) (v : Word) (x : Nat) (h : g.lo + g.w ≤ f.lo ∨ f.lo + f.w ≤ g.lo) (hg : g.lo + g.w ≤ 32) :
    g.of (f.set v x) = g.of v := by
  apply Nat.eq_of_testBit_eq
  intro i
  rw [Fld.testBit_of, Fld.testBit_of]
  by_cases hi : i < g.w
  · rw [Fld.getLsbD_set _ _ _ _ (by omega)]
    have h1 : ¬ (f.lo ≤ i + g.lo ∧ i + g.lo < f.lo + f.w) := by omega
    simp [h1]
  · simp [hi]

/-- A field reads what was put into it. -/
theorem State.get_put_same (s : State) (f : Fld) (x : Nat) (h : f.lo + f.w ≤ 32) : (s.put f x).get f = x % 2 ^ f.w := by
  simp [State.get, State.put, Fld.of_set _ _ _ h]

/-- A field write leaves every field it has no bit in common with. -/
theorem State.get_put_disjoint (s : State) (f g : Fld) (x : Nat) (h : g.addr ≠ f.addr ∨ g.lo + g.w ≤ f.lo ∨ f.lo + f.w ≤ g.lo)
    (hg : g.lo + g.w ≤ 32) : (s.put f x).get g = s.get g := by
  by_cases ha : g.addr = f.addr
  · have hd := h.resolve_left (not_not.2 ha)
    simp only [State.get, State.put, ha, State.rd_wr_same]
    exact Fld.of_set_disjoint f g _ x hd hg
  · exact State.get_put_ne s f g x ha

/-- A field's value is below 2 to its width. -/
theorem State.get_lt (s : State) (f : Fld) : s.get f < 2 ^ f.w := Nat.mod_lt _ (Nat.two_pow_pos _)

/-! ### The canonical form -/

theorem regsWf_erase {l : List (Nat × Word)} (a : Nat) (h : regsWf l = true) : regsWf (cellErase l a) = true := by
  simp only [regsWf, Bool.and_eq_true, List.all_eq_true] at h ⊢
  exact ⟨rising_filter _ h.1, fun x hx => h.2 x (List.mem_filter.1 hx).1⟩

theorem regsWf_drop {l : List (Nat × Word)} (lo hi : Nat) (h : regsWf l = true) : regsWf (cellDrop l lo hi) = true := by
  simp only [regsWf, Bool.and_eq_true, List.all_eq_true] at h ⊢
  exact ⟨rising_filter _ h.1, fun x hx => h.2 x (List.mem_filter.1 hx).1⟩

/-- A register write keeps the canonical form. -/
theorem State.wf_wr {s : State} (a : Nat) (v : Word) (h : s.wf) : (s.wr a v).wf := by
  refine ⟨?_, h.2⟩
  unfold State.wr
  split
  · exact regsWf_erase a h.1
  · rename_i hv
    have h1 := h.1
    simp only [regsWf, Bool.and_eq_true, List.all_eq_true] at h1 ⊢
    refine ⟨rising_cellSet a v h1.1, fun x hx => ?_⟩
    rcases mem_cellSet hx with rfl | hx
    · simpa using hv
    · exact h1.2 x hx

theorem State.wf_put {s : State} (f : Fld) (x : Nat) (h : s.wf) : (s.put f x).wf := State.wf_wr _ _ h

theorem State.wf_stage {s : State} (a : Nat) (v : Word) (h : s.wf) : (s.stage a v).wf := ⟨h.1, rising_cellSet a v h.2⟩

theorem State.wf_dropRegs {s : State} (lo hi : Nat) (h : s.wf) : (s.dropRegs lo hi).wf :=
  ⟨regsWf_drop lo hi h.1, rising_filter _ h.2⟩

theorem State.wf_takeStaged {s : State} (a : Nat) (h : s.wf) : (s.takeStaged a).wf := by
  unfold State.takeStaged
  split
  · exact h
  · exact State.wf_wr _ _ ⟨h.1, rising_filter _ h.2⟩

/-- A fold of operations that each keep the canonical form keeps it. -/
theorem State.wf_foldl {α : Type} {f : State → α → State} (hf : ∀ s a, s.wf → (f s a).wf) (l : List α) {s : State} (h : s.wf) : (l.foldl f s).wf := by
  induction l generalizing s with
  | nil => exact h
  | cons a t ih => exact ih (hf s a h)

theorem State.wf_takeStagedAll {s : State} (as : List Nat) (h : s.wf) : (s.takeStagedAll as).wf :=
  State.wf_foldl (fun _ a ht => State.wf_takeStaged a ht) as h

/-- The canonical form depends on the two lists alone. -/
theorem State.wf_of {s t : State} (h : s.wf) (h1 : t.regs = s.regs) (h2 : t.staged = s.staged) : t.wf := by
  unfold State.wf; rw [h1, h2]; exact h

/-! ### Events -/

/-- An edge changes nothing but the Batten's FIFOs. -/
@[simp] theorem State.edge_regs (s : State) (e k d : Nat) : (s.edge e k d).regs = s.regs := by
  unfold State.edge; split <;> [(dsimp only; split <;> rfl); rfl]

@[simp] theorem State.edge_staged (s : State) (e k d : Nat) : (s.edge e k d).staged = s.staged := by
  unfold State.edge; split <;> [(dsimp only; split <;> rfl); rfl]

@[simp] theorem State.fire_regs (s : State) (e d : Nat) : (s.fire e d).regs = s.regs := State.edge_regs s e 0 d

@[simp] theorem State.fire_staged (s : State) (e d : Nat) : (s.fire e d).staged = s.staged := State.edge_staged s e 0 d

@[simp] theorem State.level_regs (s : State) (e : Nat) (on : Bool) (d : Nat) : (s.level e on d).regs = s.regs := by
  unfold State.level; dsimp only; split
  · simp
  · split <;> simp

@[simp] theorem State.level_staged (s : State) (e : Nat) (on : Bool) (d : Nat) : (s.level e on d).staged = s.staged := by
  unfold State.level; dsimp only; split
  · simp
  · split <;> simp

/-- The reports of the ports change no register. -/
@[simp] theorem State.report_regs (b s : State) (n : Fin 16) : (State.report b n s).regs = s.regs := by
  unfold State.report; split <;> rfl

@[simp] theorem State.report_staged (b s : State) (n : Fin 16) : (State.report b n s).staged = s.staged := by
  unfold State.report; split <;> rfl

end Sys2Proof.Machine
end

