-- ==== Sys2Proof/Laws/Keeps.lean ====
section
/-!
SUPPORT. What an operation may change: a relation between the state before it and the state after it, its rules, and the operations that write a part
of the state directly.
-/

namespace Sys2Proof.Machine

/-! ### The parts of the state, one bit each -/

abbrev pRegs : Nat := 1
abbrev pStaged : Nat := 2
abbrev pFreeCtr : Nat := 4
abbrev pHost : Nat := 8
abbrev pRidge : Nat := 16
abbrev pBat : Nat := 32
abbrev pPorts : Nat := 64
abbrev pSlices : Nat := 128
abbrev pJtl : Nat := 256
abbrev pSoffit : Nat := 512
abbrev pOtp : Nat := 1024
abbrev pRunning : Nat := 2048
abbrev pMtr : Nat := 4096
abbrev pSlate : Nat := 8192
abbrev pTha : Nat := 16384
abbrev pUpd : Nat := 32768
abbrev pBoot : Nat := 65536
abbrev pJtag : Nat := 131072
abbrev pPending : Nat := 262144

/-- The counters of the fuse array never lose a bit that reads as burned (R417). -/
def OtpSt.burnedIn (o p : OtpSt) : Prop :=
  o.ctr.length = 6 → p.ctr.length = 6 ∧ ∀ g < 6, (o.ctr.getD g 0 ||| o.ctrMarg.getD g 0) &&& (p.ctr.getD g 0 ||| p.ctrMarg.getD g 0) = o.ctr.getD g 0 ||| o.ctrMarg.getD g 0

/-- The part of the state at bit k of a mask is the same in two states. -/
def State.agree (s t : State) : Nat → Prop
  | 0 => t.regs = s.regs
  | 1 => t.staged = s.staged
  | 2 => t.freeCtr = s.freeCtr
  | 3 => t.host = s.host
  | 4 => t.ridge = s.ridge
  | 5 => t.bat = s.bat
  | 6 => t.ports = s.ports
  | 7 => t.slices = s.slices
  | 8 => t.jtl = s.jtl
  | 9 => t.soffit = s.soffit
  | 10 => t.otp = s.otp
  | 11 => t.running = s.running
  | 12 => t.mtr = s.mtr
  | 13 => t.slate = s.slate
  | 14 => t.tha = s.tha
  | 15 => t.upd = s.upd
  | 16 => t.boot = s.boot
  | 17 => t.jtag = s.jtag
  | 18 => t.pending = s.pending
  | _ => True

/-- From s to t only the parts in m may differ, the canonical form is kept, and no counter bit that reads as burned is lost. -/
structure State.Keeps (s : State) (m : Nat) (t : State) : Prop where
  parts (k : Nat) : m.testBit k = false → s.agree t k
  wf : s.wf → t.wf
  burned : s.otp.burnedIn t.otp

theorem State.agree_refl (s : State) (k : Nat) : s.agree s k := by
  unfold State.agree; split <;> trivial

theorem State.agree_trans {s t u : State} {k : Nat} (h : s.agree t k) (g : t.agree u k) : s.agree u k := by
  unfold State.agree at *; split <;> first | exact g.trans h | trivial
theorem OtpSt.burnedIn_refl (o : OtpSt) : o.burnedIn o := fun h => ⟨h, fun _ _ => BitVec.and_self⟩

theorem OtpSt.burnedIn_trans {o p q : OtpSt} (h : o.burnedIn p) (k : p.burnedIn q) : o.burnedIn q := fun l => by
  obtain ⟨l1, h1⟩ := h l
  obtain ⟨l2, h2⟩ := k l1
  refine ⟨l2, fun g hg => ?_⟩
  rw [← h1 g hg, BitVec.and_assoc, h2 g hg]

theorem or_sub {a b m : Nat} (h : a ||| b = b) (k : b ||| m = m) : a ||| m = m := by
  rw [← k, ← Nat.or_assoc, h]

/-- A part outside a mask is outside every mask that it includes. -/
theorem testBit_of_or {a m k : Nat} (h : a ||| m = m) (hk : m.testBit k = false) : a.testBit k = false := by
  rw [← h, Nat.testBit_or, Bool.or_eq_false_iff] at hk
  exact hk.1

namespace State.Keeps

/-! One part -/

theorem regs {s t : State} {m : Nat} (h : s.Keeps m t) (b : m.testBit 0 = false) : t.regs = s.regs := h.parts 0 b
theorem staged {s t : State} {m : Nat} (h : s.Keeps m t) (b : m.testBit 1 = false) : t.staged = s.staged := h.parts 1 b
theorem freeCtr {s t : State} {m : Nat} (h : s.Keeps m t) (b : m.testBit 2 = false) : t.freeCtr = s.freeCtr := h.parts 2 b
theorem host {s t : State} {m : Nat} (h : s.Keeps m t) (b : m.testBit 3 = false) : t.host = s.host := h.parts 3 b
theorem ridge {s t : State} {m : Nat} (h : s.Keeps m t) (b : m.testBit 4 = false) : t.ridge = s.ridge := h.parts 4 b
theorem bat {s t : State} {m : Nat} (h : s.Keeps m t) (b : m.testBit 5 = false) : t.bat = s.bat := h.parts 5 b
theorem ports {s t : State} {m : Nat} (h : s.Keeps m t) (b : m.testBit 6 = false) : t.ports = s.ports := h.parts 6 b
theorem slices {s t : State} {m : Nat} (h : s.Keeps m t) (b : m.testBit 7 = false) : t.slices = s.slices := h.parts 7 b
theorem jtl {s t : State} {m : Nat} (h : s.Keeps m t) (b : m.testBit 8 = false) : t.jtl = s.jtl := h.parts 8 b
theorem soffit {s t : State} {m : Nat} (h : s.Keeps m t) (b : m.testBit 9 = false) : t.soffit = s.soffit := h.parts 9 b
theorem otp {s t : State} {m : Nat} (h : s.Keeps m t) (b : m.testBit 10 = false) : t.otp = s.otp := h.parts 10 b
theorem running {s t : State} {m : Nat} (h : s.Keeps m t) (b : m.testBit 11 = false) : t.running = s.running := h.parts 11 b
theorem mtr {s t : State} {m : Nat} (h : s.Keeps m t) (b : m.testBit 12 = false) : t.mtr = s.mtr := h.parts 12 b
theorem slate {s t : State} {m : Nat} (h : s.Keeps m t) (b : m.testBit 13 = false) : t.slate = s.slate := h.parts 13 b
theorem tha {s t : State} {m : Nat} (h : s.Keeps m t) (b : m.testBit 14 = false) : t.tha = s.tha := h.parts 14 b
theorem upd {s t : State} {m : Nat} (h : s.Keeps m t) (b : m.testBit 15 = false) : t.upd = s.upd := h.parts 15 b
theorem boot {s t : State} {m : Nat} (h : s.Keeps m t) (b : m.testBit 16 = false) : t.boot = s.boot := h.parts 16 b
theorem jtag {s t : State} {m : Nat} (h : s.Keeps m t) (b : m.testBit 17 = false) : t.jtag = s.jtag := h.parts 17 b
theorem pending {s t : State} {m : Nat} (h : s.Keeps m t) (b : m.testBit 18 = false) : t.pending = s.pending := h.parts 18 b

/-! The rules -/

theorem refl (m : Nat) (s : State) : s.Keeps m s := ⟨fun k _ => s.agree_refl k, id, OtpSt.burnedIn_refl _⟩

theorem trans {s t u : State} {m : Nat} (h : s.Keeps m t) (g : t.Keeps m u) : s.Keeps m u :=
  ⟨fun k b => State.agree_trans (h.parts k b) (g.parts k b), fun w => g.wf (h.wf w), OtpSt.burnedIn_trans h.burned g.burned⟩

theorem mono {s t : State} {a m : Nat} (h : s.Keeps a t) (ha : a ||| m = m) : s.Keeps m t :=
  ⟨fun k b => h.parts k (testBit_of_or ha b), h.wf, h.burned⟩

/-- One more operation. -/
theorem step {s t u : State} {a m : Nat} (k : t.Keeps a u) (ha : a ||| m = m) (h : s.Keeps m t) : s.Keeps m u := h.trans (k.mono ha)

/-- A fold of operations. -/
theorem foldl {α : Type} {f : State → α → State} {s t : State} {m : Nat} {l : List α} (hf : ∀ u a, s.Keeps m u → s.Keeps m (f u a)) (h : s.Keeps m t) :
    s.Keeps m (l.foldl f t) := by
  induction l generalizing t with
  | nil => exact h
  | cons a l ih => exact ih (hf t a h)

/-- Both branches. -/
theorem ite {c : Prop} [Decidable c] {s t u : State} {m : Nat} (h : c → s.Keeps m t) (k : ¬c → s.Keeps m u) : s.Keeps m (if c then t else u) := by
  split
  · exact h ‹_›
  · exact k ‹_›

/-- A fold whose accumulator ends with the state. -/
theorem foldl_snd {α β : Type} {f : β × State → α → β × State} {s : State} {m : Nat} {l : List α} {acc : β × State}
    (hf : ∀ p a, s.Keeps m p.2 → s.Keeps m (f p a).2) (h : s.Keeps m acc.2) : s.Keeps m (l.foldl f acc).2 := by
  induction l generalizing acc with
  | nil => exact h
  | cons a l ih => exact ih (hf acc a h)

/-- A fold whose accumulator begins with the state. -/
theorem foldl_fst {α β : Type} {f : State × β → α → State × β} {s : State} {m : Nat} {l : List α} {acc : State × β}
    (hf : ∀ p a, s.Keeps m p.1 → s.Keeps m (f p a).1) (h : s.Keeps m acc.1) : s.Keeps m (l.foldl f acc).1 := by
  induction l generalizing acc with
  | nil => exact h
  | cons a l ih => exact ih (hf acc a h)

/-- A change of the one part at bit i. -/
theorem one {s t u : State} {m : Nat} (i : Nat) (hm : m.testBit i = true) (h : s.Keeps m t) (hk : ∀ k, k ≠ i → t.agree u k) (hw : t.wf → u.wf)
    (ho : t.otp.burnedIn u.otp) : s.Keeps m u :=
  h.trans ⟨fun k b => hk k (fun e => by subst e; simp [hm] at b), hw, ho⟩

theorem with_freeCtr {s t : State} {m : Nat} (v) (hm : m.testBit 2 = true) (h : s.Keeps m t) : s.Keeps m { t with freeCtr := v } :=
  h.one 2 hm (fun k hk => by unfold State.agree; split <;> trivial) id (OtpSt.burnedIn_refl _)

theorem with_host {s t : State} {m : Nat} (v) (hm : m.testBit 3 = true) (h : s.Keeps m t) : s.Keeps m { t with host := v } :=
  h.one 3 hm (fun k hk => by unfold State.agree; split <;> trivial) id (OtpSt.burnedIn_refl _)

theorem with_ridge {s t : State} {m : Nat} (v) (hm : m.testBit 4 = true) (h : s.Keeps m t) : s.Keeps m { t with ridge := v } :=
  h.one 4 hm (fun k hk => by unfold State.agree; split <;> trivial) id (OtpSt.burnedIn_refl _)

theorem with_bat {s t : State} {m : Nat} (v) (hm : m.testBit 5 = true) (h : s.Keeps m t) : s.Keeps m { t with bat := v } :=
  h.one 5 hm (fun k hk => by unfold State.agree; split <;> trivial) id (OtpSt.burnedIn_refl _)

theorem with_ports {s t : State} {m : Nat} (v) (hm : m.testBit 6 = true) (h : s.Keeps m t) : s.Keeps m { t with ports := v } :=
  h.one 6 hm (fun k hk => by unfold State.agree; split <;> trivial) id (OtpSt.burnedIn_refl _)

theorem with_slices {s t : State} {m : Nat} (v) (hm : m.testBit 7 = true) (h : s.Keeps m t) : s.Keeps m { t with slices := v } :=
  h.one 7 hm (fun k hk => by unfold State.agree; split <;> trivial) id (OtpSt.burnedIn_refl _)

theorem with_jtl {s t : State} {m : Nat} (v) (hm : m.testBit 8 = true) (h : s.Keeps m t) : s.Keeps m { t with jtl := v } :=
  h.one 8 hm (fun k hk => by unfold State.agree; split <;> trivial) id (OtpSt.burnedIn_refl _)

theorem with_soffit {s t : State} {m : Nat} (v) (hm : m.testBit 9 = true) (h : s.Keeps m t) : s.Keeps m { t with soffit := v } :=
  h.one 9 hm (fun k hk => by unfold State.agree; split <;> trivial) id (OtpSt.burnedIn_refl _)

theorem with_running {s t : State} {m : Nat} (v) (hm : m.testBit 11 = true) (h : s.Keeps m t) : s.Keeps m { t with running := v } :=
  h.one 11 hm (fun k hk => by unfold State.agree; split <;> trivial) id (OtpSt.burnedIn_refl _)

theorem with_mtr {s t : State} {m : Nat} (v) (hm : m.testBit 12 = true) (h : s.Keeps m t) : s.Keeps m { t with mtr := v } :=
  h.one 12 hm (fun k hk => by unfold State.agree; split <;> trivial) id (OtpSt.burnedIn_refl _)

theorem with_slate {s t : State} {m : Nat} (v) (hm : m.testBit 13 = true) (h : s.Keeps m t) : s.Keeps m { t with slate := v } :=
  h.one 13 hm (fun k hk => by unfold State.agree; split <;> trivial) id (OtpSt.burnedIn_refl _)

theorem with_tha {s t : State} {m : Nat} (v) (hm : m.testBit 14 = true) (h : s.Keeps m t) : s.Keeps m { t with tha := v } :=
  h.one 14 hm (fun k hk => by unfold State.agree; split <;> trivial) id (OtpSt.burnedIn_refl _)

theorem with_upd {s t : State} {m : Nat} (v) (hm : m.testBit 15 = true) (h : s.Keeps m t) : s.Keeps m { t with upd := v } :=
  h.one 15 hm (fun k hk => by unfold State.agree; split <;> trivial) id (OtpSt.burnedIn_refl _)

theorem with_boot {s t : State} {m : Nat} (v) (hm : m.testBit 16 = true) (h : s.Keeps m t) : s.Keeps m { t with boot := v } :=
  h.one 16 hm (fun k hk => by unfold State.agree; split <;> trivial) id (OtpSt.burnedIn_refl _)

theorem with_jtag {s t : State} {m : Nat} (v) (hm : m.testBit 17 = true) (h : s.Keeps m t) : s.Keeps m { t with jtag := v } :=
  h.one 17 hm (fun k hk => by unfold State.agree; split <;> trivial) id (OtpSt.burnedIn_refl _)

theorem with_pending {s t : State} {m : Nat} (v) (hm : m.testBit 18 = true) (h : s.Keeps m t) : s.Keeps m { t with pending := v } :=
  h.one 18 hm (fun k hk => by unfold State.agree; split <;> trivial) id (OtpSt.burnedIn_refl _)

theorem with_erased {s t : State} {m : Nat} (a : Nat) (hm : m.testBit 1 = true) (h : s.Keeps m t) : s.Keeps m { t with staged := cellErase t.staged a } :=
  h.one 1 hm (fun k hk => by unfold State.agree; split <;> trivial) (fun w => ⟨w.1, rising_filter _ w.2⟩) (OtpSt.burnedIn_refl _)

/-- Cut a proof at a state. -/
theorem cut {s t u : State} {m : Nat} (h : s.Keeps m t) (k : s.Keeps m t → s.Keeps m u) : s.Keeps m u := k h

end State.Keeps

end Sys2Proof.Machine
end

