-- ==== Sys2Proof/Laws/Ops.lean ====
section
/-!
SUPPORT. What the operations of Machine/Ops.lean may change, one lemma each.
-/

set_option linter.unusedTactic false
set_option linter.unreachableTactic false
set_option linter.tactic.unusedName false

namespace Sys2Proof.Machine

theorem State.wr_keeps (s : State) (a : Nat) (v : Word) : s.Keeps pRegs (s.wr a v) :=
  (State.Keeps.refl _ s).one 0 (by decide) (fun k hk => by unfold State.agree; split <;> trivial) (State.wf_wr _ _) (OtpSt.burnedIn_refl _)

theorem State.put_keeps (s : State) (f : Fld) (x : Nat) : s.Keeps pRegs (State.put s f x) := by
  unfold State.put
  repeat' first
    | with_reducible assumption
    | with_reducible apply State.Keeps.refl
    | (with_reducible apply State.Keeps.step (State.wr_keeps ..); on_goal 1 => decide)

theorem State.flag_keeps (s : State) (f : Fld) (b : Bool) : s.Keeps pRegs (State.flag s f b) := by
  unfold State.flag
  repeat' first
    | with_reducible assumption
    | with_reducible apply State.Keeps.refl
    | (with_reducible apply State.Keeps.step (State.put_keeps ..); on_goal 1 => decide)

theorem State.raise_keeps (s : State) (f : Fld) : s.Keeps pRegs (State.raise s f) := by
  unfold State.raise
  repeat' first
    | with_reducible assumption
    | with_reducible apply State.Keeps.refl
    | (with_reducible apply State.Keeps.step (State.put_keeps ..); on_goal 1 => decide)

theorem State.clear_keeps (s : State) (f : Fld) : s.Keeps pRegs (State.clear s f) := by
  unfold State.clear
  repeat' first
    | with_reducible assumption
    | with_reducible apply State.Keeps.refl
    | (with_reducible apply State.Keeps.step (State.put_keeps ..); on_goal 1 => decide)

theorem State.satAdd_keeps (s : State) (f : Fld) (k : Nat) : s.Keeps pRegs (State.satAdd s f k) := by
  unfold State.satAdd
  repeat' first
    | with_reducible assumption
    | with_reducible apply State.Keeps.refl
    | (with_reducible apply State.Keeps.step (State.put_keeps ..); on_goal 1 => decide)

theorem State.satInc_keeps (s : State) (f : Fld) : s.Keeps pRegs (State.satInc s f) := by
  unfold State.satInc
  repeat' first
    | with_reducible assumption
    | with_reducible apply State.Keeps.refl
    | (with_reducible apply State.Keeps.step (State.satAdd_keeps ..); on_goal 1 => decide)

theorem State.wrapAdd_keeps (s : State) (f : Fld) (k : Nat) : s.Keeps pRegs (State.wrapAdd s f k) := by
  unfold State.wrapAdd
  repeat' first
    | with_reducible assumption
    | with_reducible apply State.Keeps.refl
    | (with_reducible apply State.Keeps.step (State.put_keeps ..); on_goal 1 => decide)

theorem State.wrapInc_keeps (s : State) (f : Fld) : s.Keeps pRegs (State.wrapInc s f) := by
  unfold State.wrapInc
  repeat' first
    | with_reducible assumption
    | with_reducible apply State.Keeps.refl
    | (with_reducible apply State.Keeps.step (State.wrapAdd_keeps ..); on_goal 1 => decide)

theorem State.dropRegs_keeps (s : State) (lo hi : Nat) : s.Keeps (pRegs ||| pStaged) (s.dropRegs lo hi) :=
  ⟨fun k b => by unfold State.agree; split <;> first | trivial | exact absurd b (by decide), State.wf_dropRegs _ _, OtpSt.burnedIn_refl _⟩

theorem State.stage_keeps (s : State) (a : Nat) (v : Word) : s.Keeps pStaged (s.stage a v) :=
  (State.Keeps.refl _ s).one 1 (by decide) (fun k hk => by unfold State.agree; split <;> trivial) (State.wf_stage _ _) (OtpSt.burnedIn_refl _)

theorem State.takeStaged_keeps (s : State) (a : Nat) : s.Keeps (pRegs ||| pStaged) (State.takeStaged s a) := by
  unfold State.takeStaged
  repeat' first
    | with_reducible assumption
    | with_reducible apply State.Keeps.refl
    | split
    | (with_reducible apply State.Keeps.step (State.wr_keeps ..); on_goal 1 => decide)
    | (with_reducible apply State.Keeps.with_erased; on_goal 1 => decide)

theorem State.takeStagedAll_keeps (s : State) (as : List Nat) : s.Keeps (pRegs ||| pStaged) (State.takeStagedAll s as) := by
  unfold State.takeStagedAll
  repeat' first
    | with_reducible assumption
    | with_reducible apply State.Keeps.refl
    | (with_reducible apply State.Keeps.step (State.takeStaged_keeps ..); on_goal 1 => decide)
    | with_reducible apply State.Keeps.foldl
    | (intro _; intros; beta_reduce)

theorem State.maskBit_keeps (s : State) (f : Fld) (k : Nat) (b : Bool) : s.Keeps pRegs (State.maskBit s f k b) := by
  unfold State.maskBit
  repeat' first
    | with_reducible assumption
    | with_reducible apply State.Keeps.refl
    | (with_reducible apply State.Keeps.step (State.put_keeps ..); on_goal 1 => decide)

theorem State.modHost_keeps (s : State) (f : HostSt → HostSt) : s.Keeps pHost (State.modHost s f) := by
  unfold State.modHost
  repeat' first
    | with_reducible assumption
    | with_reducible apply State.Keeps.refl
    | (with_reducible apply State.Keeps.with_host; on_goal 1 => decide)

theorem State.modPort_keeps (s : State) (n : Fin 16) (f : PortSt → PortSt) : s.Keeps pPorts (State.modPort s n f) := by
  unfold State.modPort
  repeat' first
    | with_reducible assumption
    | with_reducible apply State.Keeps.refl
    | (with_reducible apply State.Keeps.with_ports; on_goal 1 => decide)

theorem State.swLeave_keeps (s : State) (n : Fin 16) : s.Keeps (pRegs ||| pJtl) (State.swLeave s n) := by
  unfold State.swLeave
  repeat' first
    | with_reducible assumption
    | with_reducible apply State.Keeps.refl
    | (with_reducible apply State.Keeps.ite <;> intro _)
    | (with_reducible apply State.Keeps.step (State.satInc_keeps ..); on_goal 1 => decide)
    | (with_reducible apply State.Keeps.with_jtl; on_goal 1 => decide)

theorem State.free_keeps (s : State) : s.Keeps pFreeCtr (State.free s).2 := by
  unfold State.free
  repeat' first
    | with_reducible assumption
    | with_reducible apply State.Keeps.refl
    | (with_reducible apply State.Keeps.with_freeCtr; on_goal 1 => decide)

theorem State.free_keeps_of {s : State} {u : State} {x₁ : BitVec 64} (h : State.free s = (x₁, u)) : s.Keeps pFreeCtr u := by
  have := State.free_keeps s
  rwa [h] at this

theorem State.edge_keeps (s : State) (e : Nat) (kind : Nat) (data : Nat) : s.Keeps pBat (State.edge s e kind data) := by
  unfold State.edge
  repeat' first
    | with_reducible assumption
    | with_reducible apply State.Keeps.refl
    | (extract_lets +onlyGivenNames t; (refine State.Keeps.cut (t := t) ?_ (fun _ => ?_)) <;> [subst t; clear_value t])
    | (extract_lets +onlyGivenNames x; first | clear_value x | subst x)
    | (with_reducible apply State.Keeps.ite <;> intro _)
    | (with_reducible apply State.Keeps.with_bat; on_goal 1 => decide)

theorem State.fire_keeps (s : State) (e : Nat) (data : Nat) : s.Keeps pBat (State.fire s e data) := by
  unfold State.fire
  repeat' first
    | with_reducible assumption
    | with_reducible apply State.Keeps.refl
    | (with_reducible apply State.Keeps.step (State.edge_keeps ..); on_goal 1 => decide)

theorem State.level_keeps (s : State) (e : Nat) (on : Bool) (data : Nat) : s.Keeps pBat (State.level s e on data) := by
  unfold State.level
  repeat' first
    | with_reducible assumption
    | with_reducible apply State.Keeps.refl
    | (extract_lets +onlyGivenNames t; (refine State.Keeps.cut (t := t) ?_ (fun _ => ?_)) <;> [subst t; clear_value t])
    | (extract_lets +onlyGivenNames x; first | clear_value x | subst x)
    | (with_reducible apply State.Keeps.ite <;> intro _)
    | (with_reducible apply State.Keeps.step (State.edge_keeps ..); on_goal 1 => decide)
    | (with_reducible apply State.Keeps.with_bat; on_goal 1 => decide)

theorem State.setWarned_keeps (s : State) (l : List Edge) : s.Keeps pSoffit (State.setWarned s l) := by
  unfold State.setWarned
  repeat' first
    | with_reducible assumption
    | with_reducible apply State.Keeps.refl
    | (with_reducible apply State.Keeps.with_soffit; on_goal 1 => decide)

theorem State.thermalLevel_keeps (s : State) (on : Bool) : s.Keeps (pBat ||| pSoffit) (State.thermalLevel s on) := by
  unfold State.thermalLevel
  repeat' first
    | with_reducible assumption
    | with_reducible apply State.Keeps.refl
    | (with_reducible apply State.Keeps.ite <;> intro _)
    | (with_reducible apply State.Keeps.step (State.setWarned_keeps ..); on_goal 1 => decide)
    | (with_reducible apply State.Keeps.step (State.level_keeps ..); on_goal 1 => decide)
    | (with_reducible apply State.Keeps.with_bat; on_goal 1 => decide)

theorem State.tellWarned_keeps (s : State) : s.Keeps (pBat ||| pSoffit) (State.tellWarned s) := by
  unfold State.tellWarned
  repeat' first
    | with_reducible assumption
    | with_reducible apply State.Keeps.refl
    | (with_reducible apply State.Keeps.ite <;> intro _)
    | (with_reducible apply State.Keeps.step (State.setWarned_keeps ..); on_goal 1 => decide)
    | (with_reducible apply State.Keeps.with_bat; on_goal 1 => decide)

theorem State.firePort_keeps (s : State) (n : Fin 16) (k : Nat) (data : Nat) : s.Keeps pBat (State.firePort s n k data) := by
  unfold State.firePort
  repeat' first
    | with_reducible assumption
    | with_reducible apply State.Keeps.refl
    | (with_reducible apply State.Keeps.step (State.fire_keeps ..); on_goal 1 => decide)

theorem State.wake_keeps (s : State) (f : Fld) : s.Keeps (pRegs ||| pBat) (State.wake s f) := by
  unfold State.wake
  repeat' first
    | with_reducible assumption
    | with_reducible apply State.Keeps.refl
    | (with_reducible apply State.Keeps.ite <;> intro _)
    | (with_reducible apply State.Keeps.step (State.fire_keeps ..); on_goal 1 => decide)
    | (with_reducible apply State.Keeps.step (State.raise_keeps ..); on_goal 1 => decide)

theorem State.report_keeps (before : State) (n : Fin 16) (s : State) : s.Keeps pPorts (State.report before n s) := by
  unfold State.report
  repeat' first
    | with_reducible assumption
    | with_reducible apply State.Keeps.refl
    | (with_reducible apply State.Keeps.ite <;> intro _)
    | (with_reducible apply State.Keeps.step (State.modPort_keeps ..); on_goal 1 => decide)

theorem State.reportAll_keeps (before : State) (s : State) : s.Keeps pPorts (State.reportAll before s) := by
  unfold State.reportAll
  repeat' first
    | with_reducible assumption
    | with_reducible apply State.Keeps.refl
    | (with_reducible apply State.Keeps.step (State.report_keeps ..); on_goal 1 => decide)
    | with_reducible apply State.Keeps.foldl
    | (intro _; intros; beta_reduce)

end Sys2Proof.Machine
end

