-- ==== Sys2Proof/Laws/Truss.lean ====
section
/-!
SUPPORT. What the operations of Machine/Truss.lean may change, one lemma each.
-/

set_option linter.unusedTactic false
set_option linter.unreachableTactic false
set_option linter.tactic.unusedName false

namespace Sys2Proof.Machine

theorem State.modRidge_keeps (s : State) (f : RidgeSt → RidgeSt) : s.Keeps pRidge (State.modRidge s f) := by
  unfold State.modRidge
  repeat' first
    | with_reducible assumption
    | with_reducible apply State.Keeps.refl
    | (with_reducible apply State.Keeps.with_ridge; on_goal 1 => decide)

theorem State.reofferFor_keeps (s : State) (own : Nat) (tag : Nat) : s.Keeps pRegs (State.reofferFor s own tag) := by
  unfold State.reofferFor
  repeat' first
    | with_reducible assumption
    | with_reducible apply State.Keeps.refl
    | (extract_lets +onlyGivenNames t; (refine State.Keeps.cut (t := t) ?_ (fun _ => ?_)) <;> [subst t; clear_value t])
    | (extract_lets +onlyGivenNames x; first | clear_value x | subst x)
    | (with_reducible apply State.Keeps.ite <;> intro _)
    | (with_reducible apply State.Keeps.step (State.maskBit_keeps ..); on_goal 1 => decide)
    | with_reducible apply State.Keeps.foldl
    | (intro _; intros; beta_reduce)

theorem State.releaseHold_keeps (s : State) (n : Fin 16) : s.Keeps pRegs (State.releaseHold s n) := by
  unfold State.releaseHold
  repeat' first
    | with_reducible assumption
    | with_reducible apply State.Keeps.refl
    | (extract_lets +onlyGivenNames t; (refine State.Keeps.cut (t := t) ?_ (fun _ => ?_)) <;> [subst t; clear_value t])
    | (extract_lets +onlyGivenNames x; first | clear_value x | subst x)
    | (with_reducible apply State.Keeps.ite <;> intro _)
    | (with_reducible apply State.Keeps.step (State.wr_keeps ..); on_goal 1 => decide)
    | (with_reducible apply State.Keeps.step (State.reofferFor_keeps ..); on_goal 1 => decide)

theorem State.unstage_keeps (s : State) (o : Op) : s.Keeps (pRegs ||| pPorts) (State.unstage s o) := by
  unfold State.unstage
  repeat' first
    | with_reducible assumption
    | with_reducible apply State.Keeps.refl
    | (extract_lets +onlyGivenNames t; (refine State.Keeps.cut (t := t) ?_ (fun _ => ?_)) <;> [subst t; clear_value t])
    | (extract_lets +onlyGivenNames x; first | clear_value x | subst x)
    | (with_reducible apply State.Keeps.ite <;> intro _)
    | split
    | (with_reducible apply State.Keeps.step (State.modPort_keeps ..); on_goal 1 => decide)
    | (with_reducible apply State.Keeps.step (State.clear_keeps ..); on_goal 1 => decide)
    | (with_reducible apply State.Keeps.step (State.releaseHold_keeps ..); on_goal 1 => decide)

theorem State.cancelWhere_keeps (s : State) (p : Op → Bool) : s.Keeps (pRegs ||| pRidge ||| pPorts) (State.cancelWhere s p) := by
  unfold State.cancelWhere
  repeat' first
    | with_reducible assumption
    | with_reducible apply State.Keeps.refl
    | (extract_lets +onlyGivenNames t; (refine State.Keeps.cut (t := t) ?_ (fun _ => ?_)) <;> [subst t; clear_value t])
    | (extract_lets +onlyGivenNames x; first | clear_value x | subst x)
    | (with_reducible apply State.Keeps.step (State.unstage_keeps ..); on_goal 1 => decide)
    | (with_reducible apply State.Keeps.step (State.modRidge_keeps ..); on_goal 1 => decide)
    | (with_reducible apply State.Keeps.step (State.wrapInc_keeps ..); on_goal 1 => decide)
    | with_reducible apply State.Keeps.foldl
    | (intro _; intros; beta_reduce)

theorem State.cancelTag_keeps (s : State) (own : Op → Bool) (tag : Nat) : s.Keeps (pRegs ||| pRidge ||| pBat ||| pPorts) (State.cancelTag s own tag) := by
  unfold State.cancelTag
  repeat' first
    | with_reducible assumption
    | with_reducible apply State.Keeps.refl
    | (with_reducible apply State.Keeps.ite <;> intro _)
    | split
    | (with_reducible apply State.Keeps.step (State.fire_keeps ..); on_goal 1 => decide)
    | (with_reducible apply State.Keeps.step (State.satInc_keeps ..); on_goal 1 => decide)
    | (with_reducible apply State.Keeps.step (State.cancelWhere_keeps ..); on_goal 1 => decide)

theorem State.cancelNamed_keeps (s : State) (tag : Nat) : s.Keeps (pRegs ||| pRidge ||| pBat ||| pPorts) (State.cancelNamed s tag) := by
  unfold State.cancelNamed
  repeat' first
    | with_reducible assumption
    | with_reducible apply State.Keeps.refl
    | (with_reducible apply State.Keeps.step (State.cancelTag_keeps ..); on_goal 1 => decide)

theorem State.cancelTags_keeps (s : State) (own : Op → Bool) (tags : List Nat) : s.Keeps (pRegs ||| pRidge ||| pBat ||| pPorts) (State.cancelTags s own tags) := by
  unfold State.cancelTags
  repeat' first
    | with_reducible assumption
    | with_reducible apply State.Keeps.refl
    | (with_reducible apply State.Keeps.step (State.cancelTag_keeps ..); on_goal 1 => decide)
    | with_reducible apply State.Keeps.foldl
    | (intro _; intros; beta_reduce)

theorem State.cancelPort_keeps (s : State) (port : Nat) : s.Keeps (pRegs ||| pRidge ||| pPorts) (State.cancelPort s port) := by
  unfold State.cancelPort
  repeat' first
    | with_reducible assumption
    | with_reducible apply State.Keeps.refl
    | (with_reducible apply State.Keeps.step (State.cancelWhere_keeps ..); on_goal 1 => decide)

theorem State.ask_keeps (s : State) (c : CancelReq) : s.Keeps pRidge (State.ask s c) := by
  unfold State.ask
  repeat' first
    | with_reducible assumption
    | with_reducible apply State.Keeps.refl
    | (with_reducible apply State.Keeps.step (State.modRidge_keeps ..); on_goal 1 => decide)

theorem State.resolve_keeps (s : State) (c : CancelReq) : s.Keeps (pRegs ||| pRidge ||| pBat ||| pPorts) (State.resolve s c) := by
  unfold State.resolve
  repeat' first
    | with_reducible assumption
    | with_reducible apply State.Keeps.refl
    | split
    | (with_reducible apply State.Keeps.step (State.cancelTags_keeps ..); on_goal 1 => decide)
    | (with_reducible apply State.Keeps.step (State.cancelPort_keeps ..); on_goal 1 => decide)
    | (with_reducible apply State.Keeps.step (State.cancelNamed_keeps ..); on_goal 1 => decide)
    | (with_reducible apply State.Keeps.step (State.cancelWhere_keeps ..); on_goal 1 => decide)

theorem State.resolveCancels_keeps (s : State) : s.Keeps (pRegs ||| pRidge ||| pBat ||| pPorts) (State.resolveCancels s) := by
  unfold State.resolveCancels
  repeat' first
    | with_reducible assumption
    | with_reducible apply State.Keeps.refl
    | (with_reducible apply State.Keeps.step (State.resolve_keeps ..); on_goal 1 => decide)
    | (with_reducible apply State.Keeps.step (State.modRidge_keeps ..); on_goal 1 => decide)
    | with_reducible apply State.Keeps.foldl
    | (intro _; intros; beta_reduce)

theorem State.dropHolds_keeps (k : Nat) (s : State) : s.Keeps (pRegs ||| pRidge ||| pBat ||| pPorts) (State.dropHolds k s) := by
  induction k generalizing s with
  | zero => exact State.Keeps.refl _ _
  | succ k ih =>
    unfold State.dropHolds
    split
    · exact State.Keeps.refl _ _
    · split
      · exact State.Keeps.refl _ _
      · exact (State.cancelNamed_keeps ..).trans (ih _)

theorem State.endDeficit_keeps (s : State) : s.Keeps (pRegs ||| pPorts) (State.endDeficit s) := by
  unfold State.endDeficit
  repeat' first
    | with_reducible assumption
    | with_reducible apply State.Keeps.refl
    | (with_reducible apply State.Keeps.step (State.modPort_keeps ..); on_goal 1 => decide)
    | (with_reducible apply State.Keeps.step (State.clear_keeps ..); on_goal 1 => decide)
    | with_reducible apply State.Keeps.foldl
    | (intro _; intros; beta_reduce)

theorem State.resolveDeficit_keeps (s : State) : s.Keeps (pRegs ||| pRidge ||| pBat ||| pPorts) (State.resolveDeficit s) := by
  unfold State.resolveDeficit
  repeat' first
    | with_reducible assumption
    | with_reducible apply State.Keeps.refl
    | (extract_lets +onlyGivenNames t; (refine State.Keeps.cut (t := t) ?_ (fun _ => ?_)) <;> [subst t; clear_value t])
    | (extract_lets +onlyGivenNames x; first | clear_value x | subst x)
    | (with_reducible apply State.Keeps.ite <;> intro _)
    | (with_reducible apply State.Keeps.step (State.modPort_keeps ..); on_goal 1 => decide)
    | (with_reducible apply State.Keeps.step (State.fire_keeps ..); on_goal 1 => decide)
    | (with_reducible apply State.Keeps.step (State.raise_keeps ..); on_goal 1 => decide)
    | (with_reducible apply State.Keeps.step (State.dropHolds_keeps ..); on_goal 1 => decide)
    | (with_reducible apply State.Keeps.step (State.endDeficit_keeps ..); on_goal 1 => decide)
    | with_reducible apply State.Keeps.foldl
    | (intro _; intros; beta_reduce)

theorem State.settleDeficit_keeps (s : State) : s.Keeps (pRegs ||| pPorts) (State.settleDeficit s) := by
  unfold State.settleDeficit
  repeat' first
    | with_reducible assumption
    | with_reducible apply State.Keeps.refl
    | (with_reducible apply State.Keeps.ite <;> intro _)
    | (with_reducible apply State.Keeps.step (State.endDeficit_keeps ..); on_goal 1 => decide)

theorem State.changeE_keeps (s : State) : s.Keeps pRidge (State.changeE s) := by
  unfold State.changeE
  repeat' first
    | with_reducible assumption
    | with_reducible apply State.Keeps.refl
    | (with_reducible apply State.Keeps.step (State.modRidge_keeps ..); on_goal 1 => decide)

theorem State.endSlot_keeps (s : State) : s.Keeps (pRegs ||| pRidge ||| pBat ||| pPorts) (State.endSlot s) := by
  unfold State.endSlot
  repeat' first
    | with_reducible assumption
    | with_reducible apply State.Keeps.refl
    | (extract_lets +onlyGivenNames t; (refine State.Keeps.cut (t := t) ?_ (fun _ => ?_)) <;> [subst t; clear_value t])
    | (extract_lets +onlyGivenNames x; first | clear_value x | subst x)
    | (with_reducible apply State.Keeps.ite <;> intro _)
    | (with_reducible apply State.Keeps.step (State.resolveDeficit_keeps ..); on_goal 1 => decide)
    | (with_reducible apply State.Keeps.step (State.settleDeficit_keeps ..); on_goal 1 => decide)
    | (with_reducible apply State.Keeps.step (State.resolveCancels_keeps ..); on_goal 1 => decide)
    | (with_reducible apply State.Keeps.step (State.modRidge_keeps ..); on_goal 1 => decide)

theorem State.setAlloc_keeps (s : State) (n : Fin 16) (w : Nat) : s.Keeps pRegs (State.setAlloc s n w) := by
  unfold State.setAlloc
  repeat' first
    | with_reducible assumption
    | with_reducible apply State.Keeps.refl
    | (with_reducible apply State.Keeps.step (State.put_keeps ..); on_goal 1 => decide)

theorem State.allocToFloor_keeps (s : State) (n : Fin 16) : s.Keeps (pRegs ||| pPorts) (State.allocToFloor s n) := by
  unfold State.allocToFloor
  repeat' first
    | with_reducible assumption
    | with_reducible apply State.Keeps.refl
    | (with_reducible apply State.Keeps.step (State.setAlloc_keeps ..); on_goal 1 => decide)
    | (with_reducible apply State.Keeps.step (State.settleDeficit_keeps ..); on_goal 1 => decide)

theorem State.setFloor_keeps (s : State) (n : Fin 16) (w : Nat) : s.Keeps pRegs (State.setFloor s n w) := by
  unfold State.setFloor
  repeat' first
    | with_reducible assumption
    | with_reducible apply State.Keeps.refl
    | (with_reducible apply State.Keeps.step (State.setAlloc_keeps ..); on_goal 1 => decide)
    | (with_reducible apply State.Keeps.step (State.put_keeps ..); on_goal 1 => decide)

theorem State.placeHold_keeps (s : State) (n : Fin 16) (pNew : Nat) (tag : Nat) : s.Keeps pRegs (State.placeHold s n pNew tag) := by
  unfold State.placeHold
  repeat' first
    | with_reducible assumption
    | with_reducible apply State.Keeps.refl
    | (with_reducible apply State.Keeps.ite <;> intro _)
    | (with_reducible apply State.Keeps.step (State.raise_keeps ..); on_goal 1 => decide)
    | (with_reducible apply State.Keeps.step (State.put_keeps ..); on_goal 1 => decide)

theorem State.allocate_keeps (s : State) (n : Fin 16) (pNew : Nat) : s.Keeps pRegs (State.allocate s n pNew) := by
  unfold State.allocate
  repeat' first
    | with_reducible assumption
    | with_reducible apply State.Keeps.refl
    | (extract_lets +onlyGivenNames t; (refine State.Keeps.cut (t := t) ?_ (fun _ => ?_)) <;> [subst t; clear_value t])
    | (extract_lets +onlyGivenNames x; first | clear_value x | subst x)
    | (with_reducible apply State.Keeps.ite <;> intro _)
    | (with_reducible apply State.Keeps.step (State.setAlloc_keeps ..); on_goal 1 => decide)
    | (with_reducible apply State.Keeps.step (State.wr_keeps ..); on_goal 1 => decide)

theorem State.push_keeps (s : State) (o : Op) : s.Keeps pRidge (State.push s o) := by
  unfold State.push
  repeat' first
    | with_reducible assumption
    | with_reducible apply State.Keeps.refl
    | split
    | (with_reducible apply State.Keeps.step (State.modRidge_keeps ..); on_goal 1 => decide)

theorem State.counted_keeps (s : State) : s.Keeps pRegs (State.counted s) := by
  unfold State.counted
  repeat' first
    | with_reducible assumption
    | with_reducible apply State.Keeps.refl
    | (with_reducible apply State.Keeps.step (State.wrapInc_keeps ..); on_goal 1 => decide)

theorem State.passOp_keeps (s : State) : s.Keeps (pRegs ||| pRidge) (State.passOp s) := by
  unfold State.passOp
  repeat' first
    | with_reducible assumption
    | with_reducible apply State.Keeps.refl
    | split
    | (with_reducible apply State.Keeps.step (State.counted_keeps ..); on_goal 1 => decide)
    | (with_reducible apply State.Keeps.step (State.modRidge_keeps ..); on_goal 1 => decide)

theorem State.offer_keeps (s : State) (o : Op) : s.Keeps (pRegs ||| pRidge ||| pBat) (State.offer s o) := by
  unfold State.offer
  repeat' first
    | with_reducible assumption
    | with_reducible apply State.Keeps.refl
    | (with_reducible apply State.Keeps.ite <;> intro _)
    | (with_reducible apply State.Keeps.step (State.fire_keeps ..); on_goal 1 => decide)
    | (with_reducible apply State.Keeps.step (State.satInc_keeps ..); on_goal 1 => decide)
    | (with_reducible apply State.Keeps.step (State.push_keeps ..); on_goal 1 => decide)
    | (with_reducible apply State.Keeps.step (State.modRidge_keeps ..); on_goal 1 => decide)

theorem State.pushAll_keeps_of {s t : State} {os : List Op} (h : s.pushAll os = some t) : s.Keeps pRidge t := by
  unfold State.pushAll at h
  suffices g : ∀ (l : List Op) (acc : Option State), (∀ u, acc = some u → s.Keeps pRidge u) → ∀ u, l.foldl (fun acc o => match acc with
      | none => none
      | some u => if hasRoom u.ridge.window o then some (u.push o) else none) acc = some u → s.Keeps pRidge u by
    exact g os (some s) (fun u e => by cases e; exact State.Keeps.refl _ _) t h
  intro l
  induction l with
  | nil => exact fun acc k u e => k u e
  | cons o l ih =>
    intro acc k u e
    refine ih _ (fun v ev => ?_) u e
    dsimp only at ev
    split at ev
    · cases ev
    · split at ev
      · cases ev
        exact (k _ rfl).trans ((State.push_keeps ..).mono (by decide))
      · cases ev

end Sys2Proof.Machine
end

