-- ==== Sys2Proof/Laws/Auth.lean ====
section
/-!
SUPPORT. What the operations of Machine/Auth.lean may change, one lemma each.
-/

set_option linter.unusedTactic false
set_option linter.unreachableTactic false
set_option linter.tactic.unusedName false

namespace Sys2Proof.Machine

theorem State.loadCeil_keeps (s : State) : s.Keeps pRegs (State.loadCeil s) := by
  unfold State.loadCeil
  repeat' first
    | with_reducible assumption
    | with_reducible apply State.Keeps.refl
    | (extract_lets +onlyGivenNames t; (refine State.Keeps.cut (t := t) ?_ (fun _ => ?_)) <;> [subst t; clear_value t])
    | (extract_lets +onlyGivenNames x; first | clear_value x | subst x)
    | (with_reducible apply State.Keeps.step (State.wr_keeps ..); on_goal 1 => decide)
    | (with_reducible apply State.Keeps.step (State.flag_keeps ..); on_goal 1 => decide)

theorem State.followChain_keeps (s : State) : s.Keeps (pRegs ||| pRidge ||| pBat ||| pPorts) (State.followChain s) := by
  unfold State.followChain
  repeat' first
    | with_reducible assumption
    | with_reducible apply State.Keeps.refl
    | (extract_lets +onlyGivenNames t; (refine State.Keeps.cut (t := t) ?_ (fun _ => ?_)) <;> [subst t; clear_value t])
    | (extract_lets +onlyGivenNames x; first | clear_value x | subst x)
    | (with_reducible apply State.Keeps.ite <;> intro _)
    | (with_reducible apply State.Keeps.step (State.clear_keeps ..); on_goal 1 => decide)
    | (with_reducible apply State.Keeps.step (State.resolveDeficit_keeps ..); on_goal 1 => decide)
    | (with_reducible apply State.Keeps.step (State.raise_keeps ..); on_goal 1 => decide)
    | (with_reducible apply State.Keeps.step (State.put_keeps ..); on_goal 1 => decide)

theorem State.loadGrants_keeps (s : State) : s.Keeps (pRegs ||| pRidge ||| pBat ||| pPorts) (State.loadGrants s) := by
  unfold State.loadGrants
  repeat' first
    | with_reducible assumption
    | with_reducible apply State.Keeps.refl
    | (extract_lets +onlyGivenNames t; (refine State.Keeps.cut (t := t) ?_ (fun _ => ?_)) <;> [subst t; clear_value t])
    | (extract_lets +onlyGivenNames x; first | clear_value x | subst x)
    | split
    | (with_reducible apply State.Keeps.step (State.followChain_keeps ..); on_goal 1 => decide)
    | (with_reducible apply State.Keeps.step (State.wr_keeps ..); on_goal 1 => decide)
    | (with_reducible apply State.Keeps.step (State.flag_keeps ..); on_goal 1 => decide)

end Sys2Proof.Machine
end

