-- ==== Sys2Proof/Laws/JtlLink.lean ====
section
/-!
SUPPORT. What the operations of Machine/JtlLink.lean may change, one lemma each.
-/

set_option linter.unusedTactic false
set_option linter.unreachableTactic false
set_option linter.tactic.unusedName false

namespace Sys2Proof.Machine

theorem State.modJtl_keeps (s : State) (f : JtlSt → JtlSt) : s.Keeps pJtl (State.modJtl s f) := by
  unfold State.modJtl
  repeat' first
    | with_reducible assumption
    | with_reducible apply State.Keeps.refl
    | (with_reducible apply State.Keeps.with_jtl; on_goal 1 => decide)

theorem State.emit_keeps (s : State) (f : JtlFrame) (tries : Nat) : s.Keeps pJtl (State.emit s f tries) := by
  unfold State.emit
  repeat' first
    | with_reducible assumption
    | with_reducible apply State.Keeps.refl
    | (with_reducible apply State.Keeps.ite <;> intro _)
    | split
    | (with_reducible apply State.Keeps.step (State.modJtl_keeps ..); on_goal 1 => decide)

theorem State.sendF_keeps (s : State) (ty : Nat) (dest : Nat) (body : List Nat) (ports : Nat) : s.Keeps pJtl (State.sendF s ty dest body ports) := by
  unfold State.sendF
  repeat' first
    | with_reducible assumption
    | with_reducible apply State.Keeps.refl
    | (extract_lets +onlyGivenNames t; (refine State.Keeps.cut (t := t) ?_ (fun _ => ?_)) <;> [subst t; clear_value t])
    | (extract_lets +onlyGivenNames x; first | clear_value x | subst x)
    | (with_reducible apply State.Keeps.ite <;> intro _)
    | (with_reducible apply State.Keeps.step (State.modJtl_keeps ..); on_goal 1 => decide)
    | (with_reducible apply State.Keeps.step (State.emit_keeps ..); on_goal 1 => decide)

theorem State.sendEvent_keeps (s : State) (k : Nat) (x : Edge) : s.Keeps pJtl (State.sendEvent s k x) := by
  unfold State.sendEvent
  repeat' first
    | with_reducible assumption
    | with_reducible apply State.Keeps.refl
    | (with_reducible apply State.Keeps.ite <;> intro _)
    | (with_reducible apply State.Keeps.step (State.sendF_keeps ..); on_goal 1 => decide)

theorem State.forward_keeps (s : State) (h : JtlHead) (ty : Nat) (body : List Nat) : s.Keeps pJtl (State.forward s h ty body) := by
  unfold State.forward
  repeat' first
    | with_reducible assumption
    | with_reducible apply State.Keeps.refl
    | (extract_lets +onlyGivenNames t; (refine State.Keeps.cut (t := t) ?_ (fun _ => ?_)) <;> [subst t; clear_value t])
    | (extract_lets +onlyGivenNames x; first | clear_value x | subst x)
    | (with_reducible apply State.Keeps.ite <;> intro _)
    | (with_reducible apply State.Keeps.step (State.modJtl_keeps ..); on_goal 1 => decide)

theorem State.receiveF_keeps {s₀ s : State} {h : JtlHead} {ty : Nat} {body : List Nat} {act : State → State} {m : Nat} (hm : pJtl ||| m = m) (hact : ∀ u, s₀.Keeps m u → s₀.Keeps m (act u)) (hs : s₀.Keeps m s) :
    s₀.Keeps m (State.receiveF s h ty body act) := by
  unfold State.receiveF
  repeat' first
    | with_reducible assumption
    | (extract_lets +onlyGivenNames t; (refine State.Keeps.cut (t := t) ?_ (fun _ => ?_)) <;> [subst t; clear_value t])
    | (extract_lets +onlyGivenNames x; first | clear_value x | subst x)
    | (with_reducible apply State.Keeps.ite <;> intro _)
    | split
    | with_reducible apply hact
    | (with_reducible apply State.Keeps.step (State.forward_keeps ..); on_goal 1 => exact or_sub (by decide) hm)

theorem State.leaveTick_keeps (s : State) : s.Keeps pRegs (State.leaveTick s) := by
  unfold State.leaveTick
  repeat' first
    | with_reducible assumption
    | with_reducible apply State.Keeps.refl
    | (with_reducible apply State.Keeps.step (State.put_keeps ..); on_goal 1 => decide)

end Sys2Proof.Machine
end

