-- ==== Sys2Proof/Laws/Slice.lean ====
section
/-!
SUPPORT. What the operations of Machine/Slice.lean may change, one lemma each.
-/

set_option linter.unusedTactic false
set_option linter.unreachableTactic false
set_option linter.tactic.unusedName false

namespace Sys2Proof.Machine

theorem State.modSlice_keeps (s : State) (k : Fin 48) (f : SliceSt → SliceSt) : s.Keeps pSlices (State.modSlice s k f) := by
  unfold State.modSlice
  repeat' first
    | with_reducible assumption
    | with_reducible apply State.Keeps.refl
    | (with_reducible apply State.Keeps.with_slices; on_goal 1 => decide)

theorem State.enterCtrl_keeps (s : State) (k : Fin 48) (v : Word) : s.Keeps pRegs (State.enterCtrl s k v) := by
  unfold State.enterCtrl
  repeat' first
    | with_reducible assumption
    | with_reducible apply State.Keeps.refl
    | (extract_lets +onlyGivenNames t; (refine State.Keeps.cut (t := t) ?_ (fun _ => ?_)) <;> [subst t; clear_value t])
    | (extract_lets +onlyGivenNames x; first | clear_value x | subst x)
    | (with_reducible apply State.Keeps.ite <;> intro _)
    | split
    | (with_reducible apply State.Keeps.step (State.clear_keeps ..); on_goal 1 => decide)
    | (with_reducible apply State.Keeps.step (State.wr_keeps ..); on_goal 1 => decide)

theorem State.takeCtrl_keeps (s : State) (k : Fin 48) : s.Keeps (pRegs ||| pStaged) (State.takeCtrl s k) := by
  unfold State.takeCtrl
  repeat' first
    | with_reducible assumption
    | with_reducible apply State.Keeps.refl
    | (extract_lets +onlyGivenNames t; (refine State.Keeps.cut (t := t) ?_ (fun _ => ?_)) <;> [subst t; clear_value t])
    | (extract_lets +onlyGivenNames x; first | clear_value x | subst x)
    | (with_reducible apply State.Keeps.ite <;> intro _)
    | split
    | (with_reducible apply State.Keeps.step (State.enterCtrl_keeps ..); on_goal 1 => decide)
    | (with_reducible apply State.Keeps.with_erased; on_goal 1 => decide)

theorem State.takePol_keeps (s : State) (k : Fin 48) : s.Keeps pRegs (State.takePol s k) := by
  unfold State.takePol
  repeat' first
    | with_reducible assumption
    | with_reducible apply State.Keeps.refl
    | (with_reducible apply State.Keeps.ite <;> intro _)
    | split
    | (with_reducible apply State.Keeps.step (State.wr_keeps ..); on_goal 1 => decide)

theorem State.showDt_keeps (s : State) (k : Fin 48) : s.Keeps pRegs (State.showDt s k) := by
  unfold State.showDt
  repeat' first
    | with_reducible assumption
    | with_reducible apply State.Keeps.refl
    | (extract_lets +onlyGivenNames t; (refine State.Keeps.cut (t := t) ?_ (fun _ => ?_)) <;> [subst t; clear_value t])
    | (extract_lets +onlyGivenNames x; first | clear_value x | subst x)
    | (with_reducible apply State.Keeps.step (State.put_keeps ..); on_goal 1 => decide)
    | (with_reducible apply State.Keeps.step (State.flag_keeps ..); on_goal 1 => decide)

theorem State.restartDt_keeps (s : State) (k : Fin 48) : s.Keeps (pRegs ||| pSlices) (State.restartDt s k) := by
  unfold State.restartDt
  repeat' first
    | with_reducible assumption
    | with_reducible apply State.Keeps.refl
    | (with_reducible apply State.Keeps.step (State.showDt_keeps ..); on_goal 1 => decide)
    | (with_reducible apply State.Keeps.step (State.modSlice_keeps ..); on_goal 1 => decide)

theorem State.takeMet_keeps (s : State) (early : List (Nat × Word)) (late : List (Nat × Word)) (k : Fin 48) (a : Nat) : s.Keeps (pRegs ||| pStaged) (State.takeMet s early late k a) := by
  unfold State.takeMet
  repeat' first
    | with_reducible assumption
    | with_reducible apply State.Keeps.refl
    | (with_reducible apply State.Keeps.ite <;> intro _)
    | split
    | (with_reducible apply State.Keeps.step (State.takeStaged_keeps ..); on_goal 1 => decide)
    | (with_reducible apply State.Keeps.step (State.wr_keeps ..); on_goal 1 => decide)
    | (with_reducible apply State.Keeps.step (State.enterCtrl_keeps ..); on_goal 1 => decide)
    | (with_reducible apply State.Keeps.step (State.takeCtrl_keeps ..); on_goal 1 => decide)

theorem State.takeSlice_keeps (s : State) (early : List (Nat × Word)) (late : List (Nat × Word)) (as : List Nat) (k : Fin 48) : s.Keeps (pRegs ||| pStaged ||| pSlices) (State.takeSlice s early late as k) := by
  unfold State.takeSlice
  repeat' first
    | with_reducible assumption
    | with_reducible apply State.Keeps.refl
    | (extract_lets +onlyGivenNames t; (refine State.Keeps.cut (t := t) ?_ (fun _ => ?_)) <;> [subst t; clear_value t])
    | (extract_lets +onlyGivenNames x; first | clear_value x | subst x)
    | (with_reducible apply State.Keeps.ite <;> intro _)
    | split
    | (with_reducible apply State.Keeps.step (State.modSlice_keeps ..); on_goal 1 => decide)
    | (with_reducible apply State.Keeps.step (State.takeMet_keeps ..); on_goal 1 => decide)
    | (with_reducible apply State.Keeps.step (State.restartDt_keeps ..); on_goal 1 => decide)
    | with_reducible apply State.Keeps.foldl
    | with_reducible apply State.Keeps.foldl_fst
    | with_reducible apply State.Keeps.foldl_snd
    | (intro _; intros; beta_reduce)

theorem State.takePoint_keeps (s : State) (n : Fin 16) (late : Nat) : s.Keeps (pRegs ||| pStaged ||| pPorts ||| pSlices) (State.takePoint s n late) := by
  unfold State.takePoint
  repeat' first
    | with_reducible assumption
    | with_reducible apply State.Keeps.refl
    | (extract_lets +onlyGivenNames t; (refine State.Keeps.cut (t := t) ?_ (fun _ => ?_)) <;> [subst t; clear_value t])
    | (extract_lets +onlyGivenNames x; first | clear_value x | subst x)
    | (with_reducible apply State.Keeps.step (State.modPort_keeps ..); on_goal 1 => decide)
    | (with_reducible apply State.Keeps.step (State.takeSlice_keeps ..); on_goal 1 => decide)
    | with_reducible apply State.Keeps.foldl
    | (intro _; intros; beta_reduce)

theorem State.arrive_keeps (s : State) (k : Fin 48) (a : Nat) : s.Keeps pPorts (State.arrive s k a) := by
  unfold State.arrive
  repeat' first
    | with_reducible assumption
    | with_reducible apply State.Keeps.refl
    | split
    | (with_reducible apply State.Keeps.step (State.modPort_keeps ..); on_goal 1 => decide)

theorem State.aimPhase_keeps (s : State) (l : Fin 48) : s.Keeps (pRegs ||| pSlices) (State.aimPhase s l) := by
  unfold State.aimPhase
  repeat' first
    | with_reducible assumption
    | with_reducible apply State.Keeps.refl
    | (extract_lets +onlyGivenNames t; (refine State.Keeps.cut (t := t) ?_ (fun _ => ?_)) <;> [subst t; clear_value t])
    | (extract_lets +onlyGivenNames x; first | clear_value x | subst x)
    | (with_reducible apply State.Keeps.step (State.modSlice_keeps ..); on_goal 1 => decide)
    | (with_reducible apply State.Keeps.step (State.flag_keeps ..); on_goal 1 => decide)

theorem State.adapt_keeps (s : State) (k : Fin 48) (noSample : Bool) : s.Keeps (pRegs ||| pSlices) (State.adapt s k noSample) := by
  unfold State.adapt
  repeat' first
    | with_reducible assumption
    | with_reducible apply State.Keeps.refl
    | (extract_lets +onlyGivenNames t; (refine State.Keeps.cut (t := t) ?_ (fun _ => ?_)) <;> [subst t; clear_value t])
    | (extract_lets +onlyGivenNames x; first | clear_value x | subst x)
    | (with_reducible apply State.Keeps.ite <;> intro _)
    | split
    | (with_reducible apply State.Keeps.step (State.modSlice_keeps ..); on_goal 1 => decide)
    | (with_reducible apply State.Keeps.step (State.flag_keeps ..); on_goal 1 => decide)

theorem State.disableNow_keeps (s : State) (k : Fin 48) : s.Keeps (pRegs ||| pSlices) (State.disableNow s k) := by
  unfold State.disableNow
  repeat' first
    | with_reducible assumption
    | with_reducible apply State.Keeps.refl
    | (extract_lets +onlyGivenNames t; (refine State.Keeps.cut (t := t) ?_ (fun _ => ?_)) <;> [subst t; clear_value t])
    | (extract_lets +onlyGivenNames x; first | clear_value x | subst x)
    | (with_reducible apply State.Keeps.step (State.clear_keeps ..); on_goal 1 => decide)
    | (with_reducible apply State.Keeps.step (State.modSlice_keeps ..); on_goal 1 => decide)
    | (with_reducible apply State.Keeps.step (State.takePol_keeps ..); on_goal 1 => decide)

theorem State.stopSlice_keeps (s : State) (k : Fin 48) : s.Keeps (pRegs ||| pSlices) (State.stopSlice s k) := by
  unfold State.stopSlice
  repeat' first
    | with_reducible assumption
    | with_reducible apply State.Keeps.refl
    | (with_reducible apply State.Keeps.ite <;> intro _)
    | (with_reducible apply State.Keeps.step (State.disableNow_keeps ..); on_goal 1 => decide)
    | (with_reducible apply State.Keeps.step (State.modSlice_keeps ..); on_goal 1 => decide)

theorem State.legsOff_keeps (s : State) (n : Fin 16) : s.Keeps (pRegs ||| pSlices) (State.legsOff s n) := by
  unfold State.legsOff
  repeat' first
    | with_reducible assumption
    | with_reducible apply State.Keeps.refl
    | (extract_lets +onlyGivenNames t; (refine State.Keeps.cut (t := t) ?_ (fun _ => ?_)) <;> [subst t; clear_value t])
    | (extract_lets +onlyGivenNames x; first | clear_value x | subst x)
    | (with_reducible apply State.Keeps.step (State.clear_keeps ..); on_goal 1 => decide)
    | (with_reducible apply State.Keeps.step (State.stopSlice_keeps ..); on_goal 1 => decide)
    | (with_reducible apply State.Keeps.step (State.put_keeps ..); on_goal 1 => decide)
    | with_reducible apply State.Keeps.foldl
    | (intro _; intros; beta_reduce)

theorem State.legsArm_keeps (s : State) (n : Fin 16) : s.Keeps pSlices (State.legsArm s n) := by
  unfold State.legsArm
  repeat' first
    | with_reducible assumption
    | with_reducible apply State.Keeps.refl
    | (with_reducible apply State.Keeps.ite <;> intro _)
    | (with_reducible apply State.Keeps.step (State.modSlice_keeps ..); on_goal 1 => decide)
    | with_reducible apply State.Keeps.foldl
    | (intro _; intros; beta_reduce)

theorem State.nameLegs_keeps (s : State) (n : Fin 16) (legs : List Nat) : s.Keeps pRegs (State.nameLegs s n legs) := by
  unfold State.nameLegs
  repeat' first
    | with_reducible assumption
    | with_reducible apply State.Keeps.refl
    | (extract_lets +onlyGivenNames t; (refine State.Keeps.cut (t := t) ?_ (fun _ => ?_)) <;> [subst t; clear_value t])
    | (extract_lets +onlyGivenNames x; first | clear_value x | subst x)
    | (with_reducible apply State.Keeps.ite <;> intro _)
    | split
    | (with_reducible apply State.Keeps.step (State.put_keeps ..); on_goal 1 => decide)
    | (with_reducible apply State.Keeps.step (State.flag_keeps ..); on_goal 1 => decide)
    | with_reducible apply State.Keeps.foldl
    | with_reducible apply State.Keeps.foldl_fst
    | with_reducible apply State.Keeps.foldl_snd
    | (intro _; intros; beta_reduce)

theorem State.dropLegs_keeps (s : State) (n : Fin 16) : s.Keeps (pRegs ||| pSlices) (State.dropLegs s n) := by
  unfold State.dropLegs
  repeat' first
    | with_reducible assumption
    | with_reducible apply State.Keeps.refl
    | (with_reducible apply State.Keeps.step (State.clear_keeps ..); on_goal 1 => decide)
    | (with_reducible apply State.Keeps.step (State.stopSlice_keeps ..); on_goal 1 => decide)
    | (with_reducible apply State.Keeps.step (State.put_keeps ..); on_goal 1 => decide)
    | with_reducible apply State.Keeps.foldl
    | (intro _; intros; beta_reduce)

end Sys2Proof.Machine
end

