-- ==== Sys2Proof/Laws/PortOps.lean ====
section
/-!
SUPPORT. What the operations of Machine/PortOps.lean may change, one lemma each.
-/

set_option linter.unusedTactic false
set_option linter.unreachableTactic false
set_option linter.tactic.unusedName false

namespace Sys2Proof.Machine

theorem State.setBins_keeps (s : State) (t : Nat) (b : List Nat) : s.Keeps (pRegs ||| pBat) (State.setBins s t b) := by
  unfold State.setBins
  repeat' first
    | with_reducible assumption
    | with_reducible apply State.Keeps.refl
    | (with_reducible apply State.Keeps.step (State.put_keeps ..); on_goal 1 => decide)
    | (with_reducible apply State.Keeps.with_bat; on_goal 1 => decide)

theorem State.tallyAdd_keeps (s : State) (t : Nat) (k : Nat) : s.Keeps (pRegs ||| pBat) (State.tallyAdd s t k).2 := by
  unfold State.tallyAdd
  repeat' first
    | with_reducible assumption
    | with_reducible apply State.Keeps.refl
    | (extract_lets +onlyGivenNames t; (refine State.Keeps.cut (t := t) ?_ (fun _ => ?_)) <;> [subst t; clear_value t])
    | (extract_lets +onlyGivenNames x; first | clear_value x | subst x)
    | split
    | (with_reducible apply State.Keeps.step (State.fire_keeps ..); on_goal 1 => decide)
    | (with_reducible apply State.Keeps.step (State.satInc_keeps ..); on_goal 1 => decide)
    | (with_reducible apply State.Keeps.step (State.setBins_keeps ..); on_goal 1 => decide)

theorem State.tallyAdd_keeps_of {s : State} {t : Nat} {k : Nat} {u : State} {x₁ : Bool} (h : State.tallyAdd s t k = (x₁, u)) : s.Keeps (pRegs ||| pBat) u := by
  have := State.tallyAdd_keeps s t k
  rwa [h] at this

theorem State.latch_keeps (s : State) (n : Fin 16) : s.Keeps (pRegs ||| pPorts) (State.latch s n) := by
  unfold State.latch
  repeat' first
    | with_reducible assumption
    | with_reducible apply State.Keeps.refl
    | (with_reducible apply State.Keeps.step (State.modPort_keeps ..); on_goal 1 => decide)
    | (with_reducible apply State.Keeps.step (State.raise_keeps ..); on_goal 1 => decide)

theorem State.tallyLatch_keeps (s : State) (n : Fin 16) (c : Nat) : s.Keeps (pRegs ||| pBat ||| pPorts) (State.tallyLatch s n c) := by
  unfold State.tallyLatch
  repeat' first
    | with_reducible assumption
    | with_reducible apply State.Keeps.refl
    | split
    | (with_reducible apply State.Keeps.step (State.tallyAdd_keeps ..); on_goal 1 => decide)
    | (with_reducible apply State.Keeps.step (State.tallyAdd_keeps_of (by assumption)); on_goal 1 => decide)
    | (with_reducible apply State.Keeps.step (State.latch_keeps ..); on_goal 1 => decide)

theorem State.tallyPlain_keeps (s : State) (t : Nat) : s.Keeps (pRegs ||| pBat) (State.tallyPlain s t) := by
  unfold State.tallyPlain
  repeat' first
    | with_reducible assumption
    | with_reducible apply State.Keeps.refl
    | (with_reducible apply State.Keeps.step (State.tallyAdd_keeps ..); on_goal 1 => decide)
    | (with_reducible apply State.Keeps.step (State.tallyAdd_keeps_of (by assumption)); on_goal 1 => decide)

theorem State.vconnOff_keeps (s : State) (n : Fin 16) : s.Keeps pRegs (State.vconnOff s n) := by
  unfold State.vconnOff
  repeat' first
    | with_reducible assumption
    | with_reducible apply State.Keeps.refl
    | (with_reducible apply State.Keeps.step (State.clear_keeps ..); on_goal 1 => decide)

theorem State.clearCable_keeps (s : State) (n : Fin 16) : s.Keeps pRegs (State.clearCable s n) := by
  unfold State.clearCable
  repeat' first
    | with_reducible assumption
    | with_reducible apply State.Keeps.refl
    | (with_reducible apply State.Keeps.step (State.wr_keeps ..); on_goal 1 => decide)

theorem State.cableUnknown_keeps (s : State) (n : Fin 16) : s.Keeps pRegs (State.cableUnknown s n) := by
  unfold State.cableUnknown
  repeat' first
    | with_reducible assumption
    | with_reducible apply State.Keeps.refl
    | (with_reducible apply State.Keeps.step (State.clear_keeps ..); on_goal 1 => decide)
    | (with_reducible apply State.Keeps.step (State.wr_keeps ..); on_goal 1 => decide)
    | (with_reducible apply State.Keeps.step (State.put_keeps ..); on_goal 1 => decide)

theorem State.vconnRefuse_keeps (s : State) (n : Fin 16) : s.Keeps (pRegs ||| pPorts) (State.vconnRefuse s n) := by
  unfold State.vconnRefuse
  repeat' first
    | with_reducible assumption
    | with_reducible apply State.Keeps.refl
    | (with_reducible apply State.Keeps.step (State.modPort_keeps ..); on_goal 1 => decide)
    | (with_reducible apply State.Keeps.step (State.cableUnknown_keeps ..); on_goal 1 => decide)
    | (with_reducible apply State.Keeps.step (State.raise_keeps ..); on_goal 1 => decide)
    | (with_reducible apply State.Keeps.step (State.vconnOff_keeps ..); on_goal 1 => decide)

theorem State.vconnRoom_keeps (s : State) (n : Fin 16) (need : Nat) : s.Keeps (pRegs ||| pPorts) (State.vconnRoom s n need) := by
  unfold State.vconnRoom
  repeat' first
    | with_reducible assumption
    | with_reducible apply State.Keeps.refl
    | (extract_lets +onlyGivenNames t; (refine State.Keeps.cut (t := t) ?_ (fun _ => ?_)) <;> [subst t; clear_value t])
    | (extract_lets +onlyGivenNames x; first | clear_value x | subst x)
    | (with_reducible apply State.Keeps.ite <;> intro _)
    | (with_reducible apply State.Keeps.step (State.vconnRefuse_keeps ..); on_goal 1 => decide)
    | with_reducible apply State.Keeps.foldl
    | (intro _; intros; beta_reduce)

theorem State.vconnReserve_keeps (s : State) (n : Fin 16) (code : Nat) : s.Keeps (pRegs ||| pRidge) (State.vconnReserve s n code) := by
  unfold State.vconnReserve
  repeat' first
    | with_reducible assumption
    | with_reducible apply State.Keeps.refl
    | (with_reducible apply State.Keeps.step (State.put_keeps ..); on_goal 1 => decide)
    | (with_reducible apply State.Keeps.step (State.modRidge_keeps ..); on_goal 1 => decide)

theorem State.vconnOn_keeps (s : State) (n : Fin 16) : s.Keeps (pRegs ||| pRidge ||| pPorts) (State.vconnOn s n) := by
  unfold State.vconnOn
  repeat' first
    | with_reducible assumption
    | with_reducible apply State.Keeps.refl
    | (extract_lets +onlyGivenNames t; (refine State.Keeps.cut (t := t) ?_ (fun _ => ?_)) <;> [subst t; clear_value t])
    | (extract_lets +onlyGivenNames x; first | clear_value x | subst x)
    | (with_reducible apply State.Keeps.ite <;> intro _)
    | (with_reducible apply State.Keeps.step (State.vconnReserve_keeps ..); on_goal 1 => decide)
    | (with_reducible apply State.Keeps.step (State.raise_keeps ..); on_goal 1 => decide)
    | (with_reducible apply State.Keeps.step (State.vconnRoom_keeps ..); on_goal 1 => decide)
    | (with_reducible apply State.Keeps.step (State.vconnRefuse_keeps ..); on_goal 1 => decide)

theorem State.clearRc_keeps (s : State) (n : Fin 16) : s.Keeps (pRegs ||| pPorts) (State.clearRc s n) := by
  unfold State.clearRc
  repeat' first
    | with_reducible assumption
    | with_reducible apply State.Keeps.refl
    | (with_reducible apply State.Keeps.step (State.modPort_keeps ..); on_goal 1 => decide)
    | (with_reducible apply State.Keeps.step (State.clear_keeps ..); on_goal 1 => decide)

theorem State.clearComp_keeps (s : State) (n : Fin 16) : s.Keeps (pRegs ||| pPorts) (State.clearComp s n) := by
  unfold State.clearComp
  repeat' first
    | with_reducible assumption
    | with_reducible apply State.Keeps.refl
    | (with_reducible apply State.Keeps.step (State.modPort_keeps ..); on_goal 1 => decide)
    | (with_reducible apply State.Keeps.step (State.clear_keeps ..); on_goal 1 => decide)

theorem State.selectCurve_keeps (s : State) (n : Fin 16) (idx : Nat) (iref : Nat) : s.Keeps (pRegs ||| pStaged) (State.selectCurve s n idx iref).1 := by
  unfold State.selectCurve
  repeat' first
    | with_reducible assumption
    | with_reducible apply State.Keeps.refl
    | (extract_lets +onlyGivenNames t; (refine State.Keeps.cut (t := t) ?_ (fun _ => ?_)) <;> [subst t; clear_value t])
    | (extract_lets +onlyGivenNames x; first | clear_value x | subst x)
    | split
    | (with_reducible apply State.Keeps.step (State.takeStagedAll_keeps ..); on_goal 1 => decide)

theorem State.selectCurve_keeps_of {s : State} {n : Fin 16} {idx : Nat} {iref : Nat} {u : State} {x₁ : Curve} (h : State.selectCurve s n idx iref = (u, x₁)) : s.Keeps (pRegs ||| pStaged) u := by
  have := State.selectCurve_keeps s n idx iref
  rwa [h] at this

theorem State.showCurve_keeps (s : State) (n : Fin 16) : s.Keeps pRegs (State.showCurve s n) := by
  unfold State.showCurve
  repeat' first
    | with_reducible assumption
    | with_reducible apply State.Keeps.refl
    | (extract_lets +onlyGivenNames t; (refine State.Keeps.cut (t := t) ?_ (fun _ => ?_)) <;> [subst t; clear_value t])
    | (extract_lets +onlyGivenNames x; first | clear_value x | subst x)
    | (with_reducible apply State.Keeps.ite <;> intro _)
    | split
    | (with_reducible apply State.Keeps.step (State.wr_keeps ..); on_goal 1 => decide)
    | (with_reducible apply State.Keeps.step (State.raise_keeps ..); on_goal 1 => decide)

theorem State.setCurve_keeps (s : State) (n : Fin 16) (c : Option Curve) : s.Keeps (pRegs ||| pPorts) (State.setCurve s n c) := by
  unfold State.setCurve
  repeat' first
    | with_reducible assumption
    | with_reducible apply State.Keeps.refl
    | (with_reducible apply State.Keeps.step (State.modPort_keeps ..); on_goal 1 => decide)
    | (with_reducible apply State.Keeps.step (State.showCurve_keeps ..); on_goal 1 => decide)

theorem State.settleCurve_keeps (s : State) (n : Fin 16) : s.Keeps (pRegs ||| pPorts) (State.settleCurve s n) := by
  unfold State.settleCurve
  repeat' first
    | with_reducible assumption
    | with_reducible apply State.Keeps.refl
    | split
    | (with_reducible apply State.Keeps.step (State.setCurve_keeps ..); on_goal 1 => decide)

theorem State.implicitCurve_keeps (s : State) (n : Fin 16) : s.Keeps (pRegs ||| pStaged ||| pPorts) (State.implicitCurve s n) := by
  unfold State.implicitCurve
  repeat' first
    | with_reducible assumption
    | with_reducible apply State.Keeps.refl
    | split
    | (with_reducible apply State.Keeps.step (State.selectCurve_keeps ..); on_goal 1 => decide)
    | (with_reducible apply State.Keeps.step (State.selectCurve_keeps_of (by assumption)); on_goal 1 => decide)
    | (with_reducible apply State.Keeps.step (State.setCurve_keeps ..); on_goal 1 => decide)

theorem State.setGut_keeps (s : State) (n : Fin 16) (on : Bool) (cause : Nat) : s.Keeps pRegs (State.setGut s n on cause) := by
  unfold State.setGut
  repeat' first
    | with_reducible assumption
    | with_reducible apply State.Keeps.refl
    | (with_reducible apply State.Keeps.step (State.put_keeps ..); on_goal 1 => decide)
    | (with_reducible apply State.Keeps.step (State.flag_keeps ..); on_goal 1 => decide)

theorem State.discharge_keeps (s : State) (n : Fin 16) : s.Keeps pRegs (State.discharge s n) := by
  unfold State.discharge
  repeat' first
    | with_reducible assumption
    | with_reducible apply State.Keeps.refl
    | (with_reducible apply State.Keeps.ite <;> intro _)
    | (with_reducible apply State.Keeps.step (State.setGut_keeps ..); on_goal 1 => decide)
    | (with_reducible apply State.Keeps.step (State.wrapInc_keeps ..); on_goal 1 => decide)

theorem State.srSafe_keeps (s : State) : s.Keeps pRegs (State.srSafe s) := by
  unfold State.srSafe
  repeat' first
    | with_reducible assumption
    | with_reducible apply State.Keeps.refl
    | (with_reducible apply State.Keeps.ite <;> intro _)
    | (with_reducible apply State.Keeps.step (State.put_keeps ..); on_goal 1 => decide)

theorem State.seeVbus_keeps (s : State) (n : Fin 16) (below : Bool) : s.Keeps pRegs (State.seeVbus s n below) := by
  unfold State.seeVbus
  repeat' first
    | with_reducible assumption
    | with_reducible apply State.Keeps.refl
    | (extract_lets +onlyGivenNames t; (refine State.Keeps.cut (t := t) ?_ (fun _ => ?_)) <;> [subst t; clear_value t])
    | (extract_lets +onlyGivenNames x; first | clear_value x | subst x)
    | (with_reducible apply State.Keeps.ite <;> intro _)
    | (with_reducible apply State.Keeps.step (State.flag_keeps ..); on_goal 1 => decide)
    | (with_reducible apply State.Keeps.step (State.srSafe_keeps ..); on_goal 1 => decide)

theorem State.seeRamp_keeps (s : State) (n : Fin 16) : s.Keeps (pRegs ||| pFreeCtr) (State.seeRamp s n) := by
  unfold State.seeRamp
  repeat' first
    | with_reducible assumption
    | with_reducible apply State.Keeps.refl
    | (with_reducible apply State.Keeps.ite <;> intro _)
    | split
    | (with_reducible apply State.Keeps.step (State.free_keeps ..); on_goal 1 => decide)
    | (with_reducible apply State.Keeps.step (State.free_keeps_of (by assumption)); on_goal 1 => decide)
    | (with_reducible apply State.Keeps.step (State.seeVbus_keeps ..); on_goal 1 => decide)

theorem State.dropApply_keeps (s : State) (n : Fin 16) : s.Keeps (pRegs ||| pPorts) (State.dropApply s n) := by
  unfold State.dropApply
  repeat' first
    | with_reducible assumption
    | with_reducible apply State.Keeps.refl
    | split
    | (with_reducible apply State.Keeps.step (State.modPort_keeps ..); on_goal 1 => decide)
    | (with_reducible apply State.Keeps.step (State.clear_keeps ..); on_goal 1 => decide)
    | (with_reducible apply State.Keeps.step (State.wr_keeps ..); on_goal 1 => decide)

theorem State.cancelLater_keeps (s : State) (n : Fin 16) : s.Keeps pRidge (State.cancelLater s n) := by
  unfold State.cancelLater
  repeat' first
    | with_reducible assumption
    | with_reducible apply State.Keeps.refl
    | (with_reducible apply State.Keeps.ite <;> intro _)
    | (with_reducible apply State.Keeps.step (State.ask_keeps ..); on_goal 1 => decide)

theorem State.dropOps_keeps (s : State) (n : Fin 16) : s.Keeps (pRegs ||| pRidge ||| pPorts) (State.dropOps s n) := by
  unfold State.dropOps
  repeat' first
    | with_reducible assumption
    | with_reducible apply State.Keeps.refl
    | (with_reducible apply State.Keeps.step (State.dropApply_keeps ..); on_goal 1 => decide)
    | (with_reducible apply State.Keeps.step (State.cancelLater_keeps ..); on_goal 1 => decide)

theorem State.modPd_keeps (s : State) (n : Fin 16) (f : PdSt → PdSt) : s.Keeps pPorts (State.modPd s n f) := by
  unfold State.modPd
  repeat' first
    | with_reducible assumption
    | with_reducible apply State.Keeps.refl
    | (with_reducible apply State.Keeps.step (State.modPort_keeps ..); on_goal 1 => decide)

theorem State.endRun_keeps (s : State) (n : Fin 16) : s.Keeps (pRegs ||| pPorts) (State.endRun s n) := by
  unfold State.endRun
  repeat' first
    | with_reducible assumption
    | with_reducible apply State.Keeps.refl
    | (with_reducible apply State.Keeps.step (State.modPd_keeps ..); on_goal 1 => decide)
    | (with_reducible apply State.Keeps.step (State.wr_keeps ..); on_goal 1 => decide)

theorem State.protoReset_keeps (s : State) (n : Fin 16) : s.Keeps pPorts (State.protoReset s n) := by
  unfold State.protoReset
  repeat' first
    | with_reducible assumption
    | with_reducible apply State.Keeps.refl
    | (with_reducible apply State.Keeps.step (State.modPd_keeps ..); on_goal 1 => decide)

theorem State.noContract_keeps (s : State) (n : Fin 16) : s.Keeps (pRegs ||| pPorts) (State.noContract s n) := by
  unfold State.noContract
  repeat' first
    | with_reducible assumption
    | with_reducible apply State.Keeps.refl
    | (extract_lets +onlyGivenNames t; (refine State.Keeps.cut (t := t) ?_ (fun _ => ?_)) <;> [subst t; clear_value t])
    | (extract_lets +onlyGivenNames x; first | clear_value x | subst x)
    | (with_reducible apply State.Keeps.step (State.clear_keeps ..); on_goal 1 => decide)
    | (with_reducible apply State.Keeps.step (State.modPd_keeps ..); on_goal 1 => decide)
    | (with_reducible apply State.Keeps.step (State.wr_keeps ..); on_goal 1 => decide)
    | (with_reducible apply State.Keeps.step (State.endRun_keeps ..); on_goal 1 => decide)

theorem State.startRole_keeps (s : State) (n : Fin 16) : s.Keeps pRegs (State.startRole s n) := by
  unfold State.startRole
  repeat' first
    | with_reducible assumption
    | with_reducible apply State.Keeps.refl
    | (with_reducible apply State.Keeps.step (State.flag_keeps ..); on_goal 1 => decide)

theorem State.freshRev_keeps (s : State) (n : Fin 16) : s.Keeps pRegs (State.freshRev s n) := by
  unfold State.freshRev
  repeat' first
    | with_reducible assumption
    | with_reducible apply State.Keeps.refl
    | (with_reducible apply State.Keeps.ite <;> intro _)
    | (with_reducible apply State.Keeps.step (State.put_keeps ..); on_goal 1 => decide)

theorem State.pdReset_keeps (s : State) (n : Fin 16) : s.Keeps (pRegs ||| pPorts) (State.pdReset s n) := by
  unfold State.pdReset
  repeat' first
    | with_reducible assumption
    | with_reducible apply State.Keeps.refl
    | (extract_lets +onlyGivenNames t; (refine State.Keeps.cut (t := t) ?_ (fun _ => ?_)) <;> [subst t; clear_value t])
    | (extract_lets +onlyGivenNames x; first | clear_value x | subst x)
    | (with_reducible apply State.Keeps.step (State.modPort_keeps ..); on_goal 1 => decide)
    | (with_reducible apply State.Keeps.step (State.clear_keeps ..); on_goal 1 => decide)
    | (with_reducible apply State.Keeps.step (State.allocToFloor_keeps ..); on_goal 1 => decide)
    | (with_reducible apply State.Keeps.step (State.startRole_keeps ..); on_goal 1 => decide)
    | (with_reducible apply State.Keeps.step (State.modPd_keeps ..); on_goal 1 => decide)
    | (with_reducible apply State.Keeps.step (State.wr_keeps ..); on_goal 1 => decide)
    | (with_reducible apply State.Keeps.step (State.maskBit_keeps ..); on_goal 1 => decide)
    | (with_reducible apply State.Keeps.step (State.noContract_keeps ..); on_goal 1 => decide)
    | with_reducible apply State.Keeps.foldl
    | (intro _; intros; beta_reduce)

theorem State.eaveOpen_keeps (s : State) (n : Fin 16) : s.Keeps (pRegs ||| pFreeCtr ||| pPorts) (State.eaveOpen s n) := by
  unfold State.eaveOpen
  repeat' first
    | with_reducible assumption
    | with_reducible apply State.Keeps.refl
    | (extract_lets +onlyGivenNames t; (refine State.Keeps.cut (t := t) ?_ (fun _ => ?_)) <;> [subst t; clear_value t])
    | (extract_lets +onlyGivenNames x; first | clear_value x | subst x)
    | (with_reducible apply State.Keeps.step (State.modPort_keeps ..); on_goal 1 => decide)
    | (with_reducible apply State.Keeps.step (State.clear_keeps ..); on_goal 1 => decide)
    | (with_reducible apply State.Keeps.step (State.wr_keeps ..); on_goal 1 => decide)
    | (with_reducible apply State.Keeps.step (State.discharge_keeps ..); on_goal 1 => decide)
    | (with_reducible apply State.Keeps.step (State.clearComp_keeps ..); on_goal 1 => decide)
    | (with_reducible apply State.Keeps.step (State.seeRamp_keeps ..); on_goal 1 => decide)

theorem State.setCc_keeps (s : State) (n : Fin 16) (x : Nat) : s.Keeps pRegs (State.setCc s n x) := by
  unfold State.setCc
  repeat' first
    | with_reducible assumption
    | with_reducible apply State.Keeps.refl
    | (with_reducible apply State.Keeps.step (State.put_keeps ..); on_goal 1 => decide)

theorem State.leaveAttach_keeps (s : State) (n : Fin 16) : s.Keeps (pRegs ||| pPorts) (State.leaveAttach s n) := by
  unfold State.leaveAttach
  repeat' first
    | with_reducible assumption
    | with_reducible apply State.Keeps.refl
    | (with_reducible apply State.Keeps.step (State.clear_keeps ..); on_goal 1 => decide)
    | (with_reducible apply State.Keeps.step (State.clearRc_keeps ..); on_goal 1 => decide)

theorem State.setRd_keeps (s : State) (n : Nat) (x : Nat) : s.Keeps (pRegs ||| pBoot) (State.setRd s n x) := by
  unfold State.setRd
  repeat' first
    | with_reducible assumption
    | with_reducible apply State.Keeps.refl
    | (with_reducible apply State.Keeps.ite <;> intro _)
    | split
    | (with_reducible apply State.Keeps.step (State.flag_keeps ..); on_goal 1 => decide)
    | (with_reducible apply State.Keeps.with_boot; on_goal 1 => decide)

theorem State.driveRd_keeps (s : State) (n : Fin 16) (on : Bool) : s.Keeps (pRegs ||| pBoot) (State.driveRd s n on) := by
  unfold State.driveRd
  repeat' first
    | with_reducible assumption
    | with_reducible apply State.Keeps.refl
    | (with_reducible apply State.Keeps.ite <;> intro _)
    | (with_reducible apply State.Keeps.step (State.setRd_keeps ..); on_goal 1 => decide)

theorem State.errRec_keeps (s : State) (n : Fin 16) : s.Keeps (pRegs ||| pFreeCtr ||| pRidge ||| pPorts ||| pSlices ||| pJtl ||| pBoot) (State.errRec s n) := by
  unfold State.errRec
  repeat' first
    | with_reducible assumption
    | with_reducible apply State.Keeps.refl
    | (extract_lets +onlyGivenNames t; (refine State.Keeps.cut (t := t) ?_ (fun _ => ?_)) <;> [subst t; clear_value t])
    | (extract_lets +onlyGivenNames x; first | clear_value x | subst x)
    | (with_reducible apply State.Keeps.ite <;> intro _)
    | (with_reducible apply State.Keeps.step (State.modPort_keeps ..); on_goal 1 => decide)
    | (with_reducible apply State.Keeps.step (State.clearCable_keeps ..); on_goal 1 => decide)
    | (with_reducible apply State.Keeps.step (State.clear_keeps ..); on_goal 1 => decide)
    | (with_reducible apply State.Keeps.step (State.leaveAttach_keeps ..); on_goal 1 => decide)
    | (with_reducible apply State.Keeps.step (State.settleCurve_keeps ..); on_goal 1 => decide)
    | (with_reducible apply State.Keeps.step (State.eaveOpen_keeps ..); on_goal 1 => decide)
    | (with_reducible apply State.Keeps.step (State.driveRd_keeps ..); on_goal 1 => decide)
    | (with_reducible apply State.Keeps.step (State.discharge_keeps ..); on_goal 1 => decide)
    | (with_reducible apply State.Keeps.step (State.legsOff_keeps ..); on_goal 1 => decide)
    | (with_reducible apply State.Keeps.step (State.vconnOff_keeps ..); on_goal 1 => decide)
    | (with_reducible apply State.Keeps.step (State.swLeave_keeps ..); on_goal 1 => decide)
    | (with_reducible apply State.Keeps.step (State.setCc_keeps ..); on_goal 1 => decide)
    | (with_reducible apply State.Keeps.step (State.pdReset_keeps ..); on_goal 1 => decide)
    | (with_reducible apply State.Keeps.step (State.dropOps_keeps ..); on_goal 1 => decide)

theorem State.showRp_keeps (s : State) (n : Fin 16) : s.Keeps pRegs (State.showRp s n) := by
  unfold State.showRp
  repeat' first
    | with_reducible assumption
    | with_reducible apply State.Keeps.refl
    | (with_reducible apply State.Keeps.ite <;> intro _)
    | split
    | (with_reducible apply State.Keeps.step (State.put_keeps ..); on_goal 1 => decide)

theorem State.enterDisabled_keeps (s : State) (n : Fin 16) : s.Keeps (pRegs ||| pFreeCtr ||| pPorts ||| pBoot) (State.enterDisabled s n) := by
  unfold State.enterDisabled
  repeat' first
    | with_reducible assumption
    | with_reducible apply State.Keeps.refl
    | (extract_lets +onlyGivenNames t; (refine State.Keeps.cut (t := t) ?_ (fun _ => ?_)) <;> [subst t; clear_value t])
    | (extract_lets +onlyGivenNames x; first | clear_value x | subst x)
    | (with_reducible apply State.Keeps.ite <;> intro _)
    | (with_reducible apply State.Keeps.step (State.modPort_keeps ..); on_goal 1 => decide)
    | (with_reducible apply State.Keeps.step (State.clear_keeps ..); on_goal 1 => decide)
    | (with_reducible apply State.Keeps.step (State.eaveOpen_keeps ..); on_goal 1 => decide)
    | (with_reducible apply State.Keeps.step (State.driveRd_keeps ..); on_goal 1 => decide)
    | (with_reducible apply State.Keeps.step (State.vconnOff_keeps ..); on_goal 1 => decide)
    | (with_reducible apply State.Keeps.step (State.setCc_keeps ..); on_goal 1 => decide)

theorem State.startCheck_keeps (s : State) (n : Fin 16) (beforeRp : Bool) : s.Keeps (pRegs ||| pPorts) (State.startCheck s n beforeRp) := by
  unfold State.startCheck
  repeat' first
    | with_reducible assumption
    | with_reducible apply State.Keeps.refl
    | (extract_lets +onlyGivenNames t; (refine State.Keeps.cut (t := t) ?_ (fun _ => ?_)) <;> [subst t; clear_value t])
    | (extract_lets +onlyGivenNames x; first | clear_value x | subst x)
    | (with_reducible apply State.Keeps.ite <;> intro _)
    | (with_reducible apply State.Keeps.step (State.modPort_keeps ..); on_goal 1 => decide)
    | (with_reducible apply State.Keeps.step (State.clear_keeps ..); on_goal 1 => decide)
    | (with_reducible apply State.Keeps.step (State.raise_keeps ..); on_goal 1 => decide)

theorem State.stopCheck_keeps (s : State) (n : Fin 16) : s.Keeps (pRegs ||| pPorts) (State.stopCheck s n) := by
  unfold State.stopCheck
  repeat' first
    | with_reducible assumption
    | with_reducible apply State.Keeps.refl
    | (with_reducible apply State.Keeps.step (State.modPort_keeps ..); on_goal 1 => decide)
    | (with_reducible apply State.Keeps.step (State.clear_keeps ..); on_goal 1 => decide)
    | (with_reducible apply State.Keeps.step (State.showRp_keeps ..); on_goal 1 => decide)

theorem State.candidate_keeps (s : State) (n : Fin 16) : s.Keeps (pRegs ||| pBat ||| pPorts) (State.candidate s n) := by
  unfold State.candidate
  repeat' first
    | with_reducible assumption
    | with_reducible apply State.Keeps.refl
    | (with_reducible apply State.Keeps.ite <;> intro _)
    | (with_reducible apply State.Keeps.step (State.stopCheck_keeps ..); on_goal 1 => decide)
    | (with_reducible apply State.Keeps.step (State.firePort_keeps ..); on_goal 1 => decide)
    | (with_reducible apply State.Keeps.step (State.setCc_keeps ..); on_goal 1 => decide)

theorem State.enterUnattached_keeps (s : State) (n : Fin 16) : s.Keeps (pRegs ||| pStaged ||| pBat ||| pPorts ||| pBoot) (State.enterUnattached s n) := by
  unfold State.enterUnattached
  repeat' first
    | with_reducible assumption
    | with_reducible apply State.Keeps.refl
    | (extract_lets +onlyGivenNames t; (refine State.Keeps.cut (t := t) ?_ (fun _ => ?_)) <;> [subst t; clear_value t])
    | (extract_lets +onlyGivenNames x; first | clear_value x | subst x)
    | (with_reducible apply State.Keeps.ite <;> intro _)
    | (with_reducible apply State.Keeps.step (State.modPort_keeps ..); on_goal 1 => decide)
    | (with_reducible apply State.Keeps.step (State.candidate_keeps ..); on_goal 1 => decide)
    | (with_reducible apply State.Keeps.step (State.takeStaged_keeps ..); on_goal 1 => decide)
    | (with_reducible apply State.Keeps.step (State.clearCable_keeps ..); on_goal 1 => decide)
    | (with_reducible apply State.Keeps.step (State.clear_keeps ..); on_goal 1 => decide)
    | (with_reducible apply State.Keeps.step (State.showRp_keeps ..); on_goal 1 => decide)
    | (with_reducible apply State.Keeps.step (State.wr_keeps ..); on_goal 1 => decide)
    | (with_reducible apply State.Keeps.step (State.driveRd_keeps ..); on_goal 1 => decide)
    | (with_reducible apply State.Keeps.step (State.vconnOff_keeps ..); on_goal 1 => decide)
    | (with_reducible apply State.Keeps.step (State.setCc_keeps ..); on_goal 1 => decide)

theorem State.leaveDisabled_keeps (s : State) (n : Fin 16) : s.Keeps (pRegs ||| pStaged ||| pBat ||| pPorts ||| pBoot) (State.leaveDisabled s n) := by
  unfold State.leaveDisabled
  repeat' first
    | with_reducible assumption
    | with_reducible apply State.Keeps.refl
    | (with_reducible apply State.Keeps.ite <;> intro _)
    | (with_reducible apply State.Keeps.step (State.enterUnattached_keeps ..); on_goal 1 => decide)

theorem State.dropPortRegs_keeps (s : State) (n : Fin 16) : s.Keeps (pRegs ||| pStaged ||| pSlices) (State.dropPortRegs s n) := by
  unfold State.dropPortRegs
  repeat' first
    | with_reducible assumption
    | with_reducible apply State.Keeps.refl
    | (extract_lets +onlyGivenNames t; (refine State.Keeps.cut (t := t) ?_ (fun _ => ?_)) <;> [subst t; clear_value t])
    | (extract_lets +onlyGivenNames x; first | clear_value x | subst x)
    | (with_reducible apply State.Keeps.ite <;> intro _)
    | (with_reducible apply State.Keeps.step (State.modSlice_keeps ..); on_goal 1 => decide)
    | (with_reducible apply State.Keeps.step (State.dropRegs_keeps ..); on_goal 1 => decide)
    | with_reducible apply State.Keeps.foldl
    | (intro _; intros; beta_reduce)

theorem State.unpower_keeps (s : State) (n : Fin 16) : s.Keeps (pRegs ||| pStaged ||| pPorts ||| pSlices) (State.unpower s n) := by
  unfold State.unpower
  repeat' first
    | with_reducible assumption
    | with_reducible apply State.Keeps.refl
    | (extract_lets +onlyGivenNames t; (refine State.Keeps.cut (t := t) ?_ (fun _ => ?_)) <;> [subst t; clear_value t])
    | (extract_lets +onlyGivenNames x; first | clear_value x | subst x)
    | (with_reducible apply State.Keeps.step (State.modPort_keeps ..); on_goal 1 => decide)
    | (with_reducible apply State.Keeps.step (State.dropPortRegs_keeps ..); on_goal 1 => decide)
    | (with_reducible apply State.Keeps.step (State.maskBit_keeps ..); on_goal 1 => decide)

theorem State.endRecov_keeps (s : State) (n : Fin 16) : s.Keeps (pRegs ||| pStaged ||| pPorts ||| pSlices ||| pBoot) (State.endRecov s n).1 := by
  unfold State.endRecov
  repeat' first
    | with_reducible assumption
    | with_reducible apply State.Keeps.refl
    | (extract_lets +onlyGivenNames t; (refine State.Keeps.cut (t := t) ?_ (fun _ => ?_)) <;> [subst t; clear_value t])
    | (extract_lets +onlyGivenNames x; first | clear_value x | subst x)
    | split
    | (with_reducible apply State.Keeps.step (State.unpower_keeps ..); on_goal 1 => decide)
    | (with_reducible apply State.Keeps.step (State.setRd_keeps ..); on_goal 1 => decide)
    | (with_reducible apply State.Keeps.with_boot; on_goal 1 => decide)

theorem State.endRecov_keeps_of {s : State} {n : Fin 16} {u : State} {x₁ : Bool} (h : State.endRecov s n = (u, x₁)) : s.Keeps (pRegs ||| pStaged ||| pPorts ||| pSlices ||| pBoot) u := by
  have := State.endRecov_keeps s n
  rwa [h] at this

theorem State.leaveErrRec_keeps (s : State) (n : Fin 16) : s.Keeps (pRegs ||| pStaged ||| pFreeCtr ||| pBat ||| pPorts ||| pSlices ||| pBoot) (State.leaveErrRec s n) := by
  unfold State.leaveErrRec
  repeat' first
    | with_reducible assumption
    | with_reducible apply State.Keeps.refl
    | (extract_lets +onlyGivenNames t; (refine State.Keeps.cut (t := t) ?_ (fun _ => ?_)) <;> [subst t; clear_value t])
    | (extract_lets +onlyGivenNames x; first | clear_value x | subst x)
    | (with_reducible apply State.Keeps.ite <;> intro _)
    | split
    | (with_reducible apply State.Keeps.step (State.modPort_keeps ..); on_goal 1 => decide)
    | (with_reducible apply State.Keeps.step (State.clear_keeps ..); on_goal 1 => decide)
    | (with_reducible apply State.Keeps.step (State.enterDisabled_keeps ..); on_goal 1 => decide)
    | (with_reducible apply State.Keeps.step (State.enterUnattached_keeps ..); on_goal 1 => decide)
    | (with_reducible apply State.Keeps.step (State.endRecov_keeps ..); on_goal 1 => decide)
    | (with_reducible apply State.Keeps.step (State.endRecov_keeps_of (by assumption)); on_goal 1 => decide)

theorem State.leaveHand_keeps (s : State) (n : Fin 16) : s.Keeps pRegs (State.leaveHand s n) := by
  unfold State.leaveHand
  repeat' first
    | with_reducible assumption
    | with_reducible apply State.Keeps.refl
    | (with_reducible apply State.Keeps.ite <;> intro _)
    | (with_reducible apply State.Keeps.step (State.maskBit_keeps ..); on_goal 1 => decide)

theorem State.joinFault_keeps (s : State) (n : Fin 16) : s.Keeps (pRegs ||| pBat ||| pPorts) (State.joinFault s n) := by
  unfold State.joinFault
  repeat' first
    | with_reducible assumption
    | with_reducible apply State.Keeps.refl
    | (with_reducible apply State.Keeps.step (State.tallyLatch_keeps ..); on_goal 1 => decide)
    | (with_reducible apply State.Keeps.step (State.firePort_keeps ..); on_goal 1 => decide)

theorem State.tripPath_keeps (s : State) (n : Fin 16) (cause : Nat) : s.Keeps (pRegs ||| pFreeCtr ||| pRidge ||| pBat ||| pPorts ||| pSlices ||| pJtl ||| pBoot) (State.tripPath s n cause) := by
  unfold State.tripPath
  repeat' first
    | with_reducible assumption
    | with_reducible apply State.Keeps.refl
    | (extract_lets +onlyGivenNames t; (refine State.Keeps.cut (t := t) ?_ (fun _ => ?_)) <;> [subst t; clear_value t])
    | (extract_lets +onlyGivenNames x; first | clear_value x | subst x)
    | (with_reducible apply State.Keeps.ite <;> intro _)
    | split
    | (with_reducible apply State.Keeps.step (State.modPort_keeps ..); on_goal 1 => decide)
    | (with_reducible apply State.Keeps.step (State.errRec_keeps ..); on_goal 1 => decide)
    | (with_reducible apply State.Keeps.step (State.tallyLatch_keeps ..); on_goal 1 => decide)
    | (with_reducible apply State.Keeps.step (State.firePort_keeps ..); on_goal 1 => decide)
    | (with_reducible apply State.Keeps.step (State.discharge_keeps ..); on_goal 1 => decide)
    | (with_reducible apply State.Keeps.step (State.joinFault_keeps ..); on_goal 1 => decide)
    | (with_reducible apply State.Keeps.step (State.legsOff_keeps ..); on_goal 1 => decide)

theorem State.joinTrip_keeps (s : State) (n : Fin 16) (cause : Nat) : s.Keeps pRegs (State.joinTrip s n cause) := by
  unfold State.joinTrip
  repeat' first
    | with_reducible assumption
    | with_reducible apply State.Keeps.refl
    | (with_reducible apply State.Keeps.ite <;> intro _)
    | split
    | (with_reducible apply State.Keeps.step (State.put_keeps ..); on_goal 1 => decide)

theorem State.eaveTrip_keeps (s : State) (n : Fin 16) (cause : Nat) (point : Nat) : s.Keeps (pRegs ||| pFreeCtr ||| pRidge ||| pBat ||| pPorts ||| pSlices ||| pJtl ||| pBoot) (State.eaveTrip s n cause point) := by
  unfold State.eaveTrip
  repeat' first
    | with_reducible assumption
    | with_reducible apply State.Keeps.refl
    | (extract_lets +onlyGivenNames t; (refine State.Keeps.cut (t := t) ?_ (fun _ => ?_)) <;> [subst t; clear_value t])
    | (extract_lets +onlyGivenNames x; first | clear_value x | subst x)
    | (with_reducible apply State.Keeps.ite <;> intro _)
    | split
    | (with_reducible apply State.Keeps.step (State.modPort_keeps ..); on_goal 1 => decide)
    | (with_reducible apply State.Keeps.step (State.tripPath_keeps ..); on_goal 1 => decide)
    | (with_reducible apply State.Keeps.step (State.joinTrip_keeps ..); on_goal 1 => decide)
    | (with_reducible apply State.Keeps.step (State.wr_keeps ..); on_goal 1 => decide)
    | (with_reducible apply State.Keeps.step (State.put_keeps ..); on_goal 1 => decide)
    | (with_reducible apply State.Keeps.step (State.clearComp_keeps ..); on_goal 1 => decide)
    | (with_reducible apply State.Keeps.step (State.leaveHand_keeps ..); on_goal 1 => decide)
    | (with_reducible apply State.Keeps.step (State.seeRamp_keeps ..); on_goal 1 => decide)
    | (with_reducible apply State.Keeps.step (State.dropOps_keeps ..); on_goal 1 => decide)

theorem State.stageFault_keeps (s : State) (n : Fin 16) : s.Keeps (pRegs ||| pFreeCtr ||| pRidge ||| pBat ||| pPorts ||| pSlices ||| pJtl ||| pBoot) (State.stageFault s n) := by
  unfold State.stageFault
  repeat' first
    | with_reducible assumption
    | with_reducible apply State.Keeps.refl
    | (extract_lets +onlyGivenNames t; (refine State.Keeps.cut (t := t) ?_ (fun _ => ?_)) <;> [subst t; clear_value t])
    | (extract_lets +onlyGivenNames x; first | clear_value x | subst x)
    | (with_reducible apply State.Keeps.ite <;> intro _)
    | (with_reducible apply State.Keeps.step (State.modPort_keeps ..); on_goal 1 => decide)
    | (with_reducible apply State.Keeps.step (State.errRec_keeps ..); on_goal 1 => decide)
    | (with_reducible apply State.Keeps.step (State.eaveOpen_keeps ..); on_goal 1 => decide)
    | (with_reducible apply State.Keeps.step (State.joinFault_keeps ..); on_goal 1 => decide)
    | (with_reducible apply State.Keeps.step (State.legsOff_keeps ..); on_goal 1 => decide)
    | (with_reducible apply State.Keeps.step (State.leaveHand_keeps ..); on_goal 1 => decide)

theorem State.countTrip_keeps (s : State) (n : Fin 16) : s.Keeps (pRegs ||| pFreeCtr ||| pRidge ||| pBat ||| pPorts ||| pSlices ||| pJtl ||| pBoot) (State.countTrip s n) := by
  unfold State.countTrip
  repeat' first
    | with_reducible assumption
    | with_reducible apply State.Keeps.refl
    | split
    | (with_reducible apply State.Keeps.step (State.tallyAdd_keeps ..); on_goal 1 => decide)
    | (with_reducible apply State.Keeps.step (State.tallyAdd_keeps_of (by assumption)); on_goal 1 => decide)
    | (with_reducible apply State.Keeps.step (State.stageFault_keeps ..); on_goal 1 => decide)

theorem State.cutSlice_keeps (s : State) (k : Fin 48) (at_ : Nat) : s.Keeps (pRegs ||| pFreeCtr ||| pRidge ||| pBat ||| pPorts ||| pSlices ||| pJtl ||| pBoot) (State.cutSlice s k at_) := by
  unfold State.cutSlice
  repeat' first
    | with_reducible assumption
    | with_reducible apply State.Keeps.refl
    | (extract_lets +onlyGivenNames t; (refine State.Keeps.cut (t := t) ?_ (fun _ => ?_)) <;> [subst t; clear_value t])
    | (extract_lets +onlyGivenNames x; first | clear_value x | subst x)
    | (with_reducible apply State.Keeps.ite <;> intro _)
    | split
    | (with_reducible apply State.Keeps.step (State.satInc_keeps ..); on_goal 1 => decide)
    | (with_reducible apply State.Keeps.step (State.firePort_keeps ..); on_goal 1 => decide)
    | (with_reducible apply State.Keeps.step (State.modSlice_keeps ..); on_goal 1 => decide)
    | (with_reducible apply State.Keeps.step (State.countTrip_keeps ..); on_goal 1 => decide)
    | (with_reducible apply State.Keeps.step (State.raise_keeps ..); on_goal 1 => decide)

theorem State.tripInput_keeps (s : State) (n : Fin 16) (bit : Nat) (on : Bool) (at_ : Nat) : s.Keeps (pRegs ||| pFreeCtr ||| pRidge ||| pBat ||| pPorts ||| pSlices ||| pJtl ||| pBoot) (State.tripInput s n bit on at_) := by
  unfold State.tripInput
  repeat' first
    | with_reducible assumption
    | with_reducible apply State.Keeps.refl
    | (extract_lets +onlyGivenNames t; (refine State.Keeps.cut (t := t) ?_ (fun _ => ?_)) <;> [subst t; clear_value t])
    | (extract_lets +onlyGivenNames x; first | clear_value x | subst x)
    | (with_reducible apply State.Keeps.ite <;> intro _)
    | (with_reducible apply State.Keeps.step (State.modSlice_keeps ..); on_goal 1 => decide)
    | (with_reducible apply State.Keeps.step (State.cutSlice_keeps ..); on_goal 1 => decide)
    | with_reducible apply State.Keeps.foldl
    | (intro _; intros; beta_reduce)

theorem State.detach_keeps (s : State) (n : Fin 16) : s.Keeps (pRegs ||| pStaged ||| pFreeCtr ||| pRidge ||| pBat ||| pPorts ||| pSlices ||| pJtl ||| pBoot) (State.detach s n) := by
  unfold State.detach
  repeat' first
    | with_reducible assumption
    | with_reducible apply State.Keeps.refl
    | (extract_lets +onlyGivenNames t; (refine State.Keeps.cut (t := t) ?_ (fun _ => ?_)) <;> [subst t; clear_value t])
    | (extract_lets +onlyGivenNames x; first | clear_value x | subst x)
    | (with_reducible apply State.Keeps.ite <;> intro _)
    | (with_reducible apply State.Keeps.step (State.clearCable_keeps ..); on_goal 1 => decide)
    | (with_reducible apply State.Keeps.step (State.leaveAttach_keeps ..); on_goal 1 => decide)
    | (with_reducible apply State.Keeps.step (State.settleCurve_keeps ..); on_goal 1 => decide)
    | (with_reducible apply State.Keeps.step (State.eaveOpen_keeps ..); on_goal 1 => decide)
    | (with_reducible apply State.Keeps.step (State.firePort_keeps ..); on_goal 1 => decide)
    | (with_reducible apply State.Keeps.step (State.legsOff_keeps ..); on_goal 1 => decide)
    | (with_reducible apply State.Keeps.step (State.enterUnattached_keeps ..); on_goal 1 => decide)
    | (with_reducible apply State.Keeps.step (State.vconnOff_keeps ..); on_goal 1 => decide)
    | (with_reducible apply State.Keeps.step (State.swLeave_keeps ..); on_goal 1 => decide)
    | (with_reducible apply State.Keeps.step (State.setCc_keeps ..); on_goal 1 => decide)
    | (with_reducible apply State.Keeps.step (State.leaveHand_keeps ..); on_goal 1 => decide)
    | (with_reducible apply State.Keeps.step (State.pdReset_keeps ..); on_goal 1 => decide)
    | (with_reducible apply State.Keeps.step (State.dropOps_keeps ..); on_goal 1 => decide)

theorem State.goErrRec_keeps (s : State) (n : Fin 16) : s.Keeps (pRegs ||| pFreeCtr ||| pRidge ||| pPorts ||| pSlices ||| pJtl ||| pBoot) (State.goErrRec s n) := by
  unfold State.goErrRec
  repeat' first
    | with_reducible assumption
    | with_reducible apply State.Keeps.refl
    | (with_reducible apply State.Keeps.ite <;> intro _)
    | (with_reducible apply State.Keeps.step (State.modPort_keeps ..); on_goal 1 => decide)
    | (with_reducible apply State.Keeps.step (State.errRec_keeps ..); on_goal 1 => decide)

theorem State.tallyOut_keeps (s : State) (n : Fin 16) (c : Nat) : s.Keeps (pRegs ||| pFreeCtr ||| pRidge ||| pBat ||| pPorts ||| pSlices ||| pJtl ||| pBoot) (State.tallyOut s n c) := by
  unfold State.tallyOut
  repeat' first
    | with_reducible assumption
    | with_reducible apply State.Keeps.refl
    | (extract_lets +onlyGivenNames t; (refine State.Keeps.cut (t := t) ?_ (fun _ => ?_)) <;> [subst t; clear_value t])
    | (extract_lets +onlyGivenNames x; first | clear_value x | subst x)
    | (with_reducible apply State.Keeps.ite <;> intro _)
    | (with_reducible apply State.Keeps.step (State.tallyLatch_keeps ..); on_goal 1 => decide)
    | (with_reducible apply State.Keeps.step (State.goErrRec_keeps ..); on_goal 1 => decide)

theorem State.tallyLoop_keeps (s : State) (n : Fin 16) : s.Keeps (pRegs ||| pFreeCtr ||| pRidge ||| pBat ||| pPorts ||| pSlices ||| pJtl ||| pBoot) (State.tallyLoop s n) := by
  unfold State.tallyLoop
  repeat' first
    | with_reducible assumption
    | with_reducible apply State.Keeps.refl
    | (with_reducible apply State.Keeps.step (State.tallyOut_keeps ..); on_goal 1 => decide)

theorem State.recheck_keeps (s : State) (n : Fin 16) : s.Keeps (pRegs ||| pPorts) (State.recheck s n) := by
  unfold State.recheck
  repeat' first
    | with_reducible assumption
    | with_reducible apply State.Keeps.refl
    | (with_reducible apply State.Keeps.ite <;> intro _)
    | (with_reducible apply State.Keeps.step (State.startCheck_keeps ..); on_goal 1 => decide)

theorem State.clrLatch_keeps (s : State) (n : Fin 16) : s.Keeps (pRegs ||| pStaged ||| pBat ||| pPorts ||| pBoot) (State.clrLatch s n) := by
  unfold State.clrLatch
  repeat' first
    | with_reducible assumption
    | with_reducible apply State.Keeps.refl
    | (with_reducible apply State.Keeps.step (State.modPort_keeps ..); on_goal 1 => decide)
    | (with_reducible apply State.Keeps.step (State.clear_keeps ..); on_goal 1 => decide)
    | (with_reducible apply State.Keeps.step (State.recheck_keeps ..); on_goal 1 => decide)
    | (with_reducible apply State.Keeps.step (State.leaveDisabled_keeps ..); on_goal 1 => decide)

end Sys2Proof.Machine
end

