-- ==== Sys2Proof/Laws/BatOps.lean ====
section
/-!
SUPPORT. What the operations of Machine/BatOps.lean may change, one lemma each.
-/

set_option linter.unusedTactic false
set_option linter.unreachableTactic false
set_option linter.tactic.unusedName false

namespace Sys2Proof.Machine

theorem State.modBat_keeps (s : State) (f : BattenSt → BattenSt) : s.Keeps pBat (State.modBat s f) := by
  unfold State.modBat
  repeat' first
    | with_reducible assumption
    | with_reducible apply State.Keeps.refl
    | (with_reducible apply State.Keeps.with_bat; on_goal 1 => decide)

theorem State.markQueue_keeps (s : State) : s.Keeps pBat (State.markQueue s) := by
  unfold State.markQueue
  repeat' first
    | with_reducible assumption
    | with_reducible apply State.Keeps.refl
    | (with_reducible apply State.Keeps.step (State.level_keeps ..); on_goal 1 => decide)

theorem State.pushEntry_keeps (s : State) (x : QEntry) : s.Keeps pBat (State.pushEntry s x) := by
  unfold State.pushEntry
  repeat' first
    | with_reducible assumption
    | with_reducible apply State.Keeps.refl
    | (with_reducible apply State.Keeps.step (State.modBat_keeps ..); on_goal 1 => decide)

theorem State.enqueue_keeps (s : State) (x : QEntry) : s.Keeps (pRegs ||| pBat) (State.enqueue s x) := by
  unfold State.enqueue
  repeat' first
    | with_reducible assumption
    | with_reducible apply State.Keeps.refl
    | (extract_lets +onlyGivenNames t; (refine State.Keeps.cut (t := t) ?_ (fun _ => ?_)) <;> [subst t; clear_value t])
    | (extract_lets +onlyGivenNames x; first | clear_value x | subst x)
    | (with_reducible apply State.Keeps.ite <;> intro _)
    | (with_reducible apply State.Keeps.step (State.fire_keeps ..); on_goal 1 => decide)
    | (with_reducible apply State.Keeps.step (State.modBat_keeps ..); on_goal 1 => decide)
    | (with_reducible apply State.Keeps.step (State.satInc_keeps ..); on_goal 1 => decide)
    | (with_reducible apply State.Keeps.step (State.tallyPlain_keeps ..); on_goal 1 => decide)
    | (with_reducible apply State.Keeps.step (State.pushEntry_keeps ..); on_goal 1 => decide)
    | (with_reducible apply State.Keeps.step (State.markQueue_keeps ..); on_goal 1 => decide)

theorem State.freeEntries_keeps (s : State) (k : Nat) : s.Keeps (pRegs ||| pBat) (State.freeEntries s k) := by
  unfold State.freeEntries
  repeat' first
    | with_reducible assumption
    | with_reducible apply State.Keeps.refl
    | (extract_lets +onlyGivenNames t; (refine State.Keeps.cut (t := t) ?_ (fun _ => ?_)) <;> [subst t; clear_value t])
    | (extract_lets +onlyGivenNames x; first | clear_value x | subst x)
    | (with_reducible apply State.Keeps.step (State.modBat_keeps ..); on_goal 1 => decide)
    | (with_reducible apply State.Keeps.step (State.markQueue_keeps ..); on_goal 1 => decide)
    | (with_reducible apply State.Keeps.step (State.satAdd_keeps ..); on_goal 1 => decide)

theorem State.setCut_keeps (s : State) (c : Option Nat) : s.Keeps pRidge (State.setCut s c) := by
  unfold State.setCut
  repeat' first
    | with_reducible assumption
    | with_reducible apply State.Keeps.refl
    | (with_reducible apply State.Keeps.step (State.changeE_keeps ..); on_goal 1 => decide)
    | (with_reducible apply State.Keeps.step (State.modRidge_keeps ..); on_goal 1 => decide)

theorem State.followCut_keeps (s : State) : s.Keeps (pRegs ||| pRidge ||| pBat) (State.followCut s) := by
  unfold State.followCut
  repeat' first
    | with_reducible assumption
    | with_reducible apply State.Keeps.refl
    | (extract_lets +onlyGivenNames t; (refine State.Keeps.cut (t := t) ?_ (fun _ => ?_)) <;> [subst t; clear_value t])
    | (extract_lets +onlyGivenNames x; first | clear_value x | subst x)
    | (with_reducible apply State.Keeps.ite <;> intro _)
    | (with_reducible apply State.Keeps.step (State.modBat_keeps ..); on_goal 1 => decide)
    | (with_reducible apply State.Keeps.step (State.offer_keeps ..); on_goal 1 => decide)
    | (with_reducible apply State.Keeps.step (State.flag_keeps ..); on_goal 1 => decide)

theorem State.checkAll_keeps (s : State) : s.Keeps (pRegs ||| pPorts) (State.checkAll s) := by
  unfold State.checkAll
  repeat' first
    | with_reducible assumption
    | with_reducible apply State.Keeps.refl
    | (with_reducible apply State.Keeps.step (State.startCheck_keeps ..); on_goal 1 => decide)
    | with_reducible apply State.Keeps.foldl
    | (intro _; intros; beta_reduce)

theorem State.hirq_keeps (s : State) (bit : Nat) (e : Nat) (mode : Nat) (kind : Nat) : s.Keeps (pRegs ||| pBat) (State.hirq s bit e mode kind) := by
  unfold State.hirq
  repeat' first
    | with_reducible assumption
    | with_reducible apply State.Keeps.refl
    | (extract_lets +onlyGivenNames t; (refine State.Keeps.cut (t := t) ?_ (fun _ => ?_)) <;> [subst t; clear_value t])
    | (extract_lets +onlyGivenNames x; first | clear_value x | subst x)
    | (with_reducible apply State.Keeps.ite <;> intro _)
    | (with_reducible apply State.Keeps.step (State.modBat_keeps ..); on_goal 1 => decide)
    | (with_reducible apply State.Keeps.step (State.maskBit_keeps ..); on_goal 1 => decide)

theorem State.perr_keeps (s : State) (p : Nat) : s.Keeps (pRegs ||| pRidge ||| pBat) (State.perr s p) := by
  unfold State.perr
  repeat' first
    | with_reducible assumption
    | with_reducible apply State.Keeps.refl
    | (with_reducible apply State.Keeps.ite <;> intro _)
    | (with_reducible apply State.Keeps.step (State.modBat_keeps ..); on_goal 1 => decide)
    | (with_reducible apply State.Keeps.step (State.satInc_keeps ..); on_goal 1 => decide)
    | (with_reducible apply State.Keeps.step (State.offer_keeps ..); on_goal 1 => decide)

theorem State.pcaps_keeps (s : State) (p : Nat) : s.Keeps (pRegs ||| pRidge ||| pBat) (State.pcaps s p) := by
  unfold State.pcaps
  repeat' first
    | with_reducible assumption
    | with_reducible apply State.Keeps.refl
    | (with_reducible apply State.Keeps.ite <;> intro _)
    | (with_reducible apply State.Keeps.step (State.modBat_keeps ..); on_goal 1 => decide)
    | (with_reducible apply State.Keeps.step (State.satInc_keeps ..); on_goal 1 => decide)
    | (with_reducible apply State.Keeps.step (State.offer_keeps ..); on_goal 1 => decide)

theorem State.canEvent_keeps (s : State) (k : Nat) (x : Edge) (code : Nat) : s.Keeps (pRegs ||| pHost) (State.canEvent s k x code) := by
  unfold State.canEvent
  repeat' first
    | with_reducible assumption
    | with_reducible apply State.Keeps.refl
    | (with_reducible apply State.Keeps.ite <;> intro _)
    | (with_reducible apply State.Keeps.step (State.satInc_keeps ..); on_goal 1 => decide)
    | (with_reducible apply State.Keeps.step (State.modHost_keeps ..); on_goal 1 => decide)

theorem State.atDest_keeps (s : State) (r : Route) (x : Edge) : s.Keeps (pRegs ||| pHost ||| pRidge ||| pBat ||| pPorts ||| pJtl) (State.atDest s r x) := by
  unfold State.atDest
  repeat' first
    | with_reducible assumption
    | with_reducible apply State.Keeps.refl
    | (extract_lets +onlyGivenNames t; (refine State.Keeps.cut (t := t) ?_ (fun _ => ?_)) <;> [subst t; clear_value t])
    | (extract_lets +onlyGivenNames x; first | clear_value x | subst x)
    | (with_reducible apply State.Keeps.ite <;> intro _)
    | (with_reducible apply State.Keeps.step (State.modBat_keeps ..); on_goal 1 => decide)
    | (with_reducible apply State.Keeps.step (State.pcaps_keeps ..); on_goal 1 => decide)
    | (with_reducible apply State.Keeps.step (State.checkAll_keeps ..); on_goal 1 => decide)
    | (with_reducible apply State.Keeps.step (State.tallyPlain_keeps ..); on_goal 1 => decide)
    | (with_reducible apply State.Keeps.step (State.wr_keeps ..); on_goal 1 => decide)
    | (with_reducible apply State.Keeps.step (State.offer_keeps ..); on_goal 1 => decide)
    | (with_reducible apply State.Keeps.step (State.perr_keeps ..); on_goal 1 => decide)
    | (with_reducible apply State.Keeps.step (State.sendEvent_keeps ..); on_goal 1 => decide)
    | (with_reducible apply State.Keeps.step (State.put_keeps ..); on_goal 1 => decide)
    | (with_reducible apply State.Keeps.step (State.hirq_keeps ..); on_goal 1 => decide)
    | (with_reducible apply State.Keeps.step (State.canEvent_keeps ..); on_goal 1 => decide)
    | (with_reducible apply State.Keeps.step (State.followCut_keeps ..); on_goal 1 => decide)
    | (with_reducible apply State.Keeps.step (State.wrapInc_keeps ..); on_goal 1 => decide)

theorem State.deliverEdge_keeps (s : State) (x : Edge) : s.Keeps (pRegs ||| pHost ||| pRidge ||| pBat ||| pPorts ||| pJtl) (State.deliverEdge s x) := by
  unfold State.deliverEdge
  repeat' first
    | with_reducible assumption
    | with_reducible apply State.Keeps.refl
    | (extract_lets +onlyGivenNames t; (refine State.Keeps.cut (t := t) ?_ (fun _ => ?_)) <;> [subst t; clear_value t])
    | (extract_lets +onlyGivenNames x; first | clear_value x | subst x)
    | split
    | (with_reducible apply State.Keeps.step (State.enqueue_keeps ..); on_goal 1 => decide)
    | (with_reducible apply State.Keeps.step (State.atDest_keeps ..); on_goal 1 => decide)
    | with_reducible apply State.Keeps.foldl
    | (intro _; intros; beta_reduce)

theorem State.tallyClear_keeps (s : State) (tid : Nat) : s.Keeps (pRegs ||| pBat) (State.tallyClear s tid) := by
  unfold State.tallyClear
  repeat' first
    | with_reducible assumption
    | with_reducible apply State.Keeps.refl
    | (extract_lets +onlyGivenNames t; (refine State.Keeps.cut (t := t) ?_ (fun _ => ?_)) <;> [subst t; clear_value t])
    | (extract_lets +onlyGivenNames x; subst x)
    | (with_reducible apply State.Keeps.ite <;> intro _)
    | (with_reducible apply State.Keeps.step (State.setBins_keeps ..); on_goal 1 => decide)
    | with_reducible apply State.Keeps.foldl
    | (intro _; intros; beta_reduce)

theorem State.cntClear_keeps (s : State) : s.Keeps pRegs (State.cntClear s) := by
  unfold State.cntClear
  repeat' first
    | with_reducible assumption
    | with_reducible apply State.Keeps.refl
    | (with_reducible apply State.Keeps.step (State.wr_keeps ..); on_goal 1 => decide)
    | with_reducible apply State.Keeps.foldl
    | (intro _; intros; beta_reduce)

theorem State.tsClear_keeps (s : State) : s.Keeps (pRegs ||| pRidge ||| pBat) (State.tsClear s) := by
  unfold State.tsClear
  repeat' first
    | with_reducible assumption
    | with_reducible apply State.Keeps.refl
    | (with_reducible apply State.Keeps.step (State.modBat_keeps ..); on_goal 1 => decide)
    | (with_reducible apply State.Keeps.step (State.followCut_keeps ..); on_goal 1 => decide)

theorem State.setGpcTest_keeps (s : State) (l : List Nat) : s.Keeps (pRegs ||| pBat) (State.setGpcTest s l) := by
  unfold State.setGpcTest
  repeat' first
    | with_reducible assumption
    | with_reducible apply State.Keeps.refl
    | (with_reducible apply State.Keeps.step (State.modBat_keeps ..); on_goal 1 => decide)
    | (with_reducible apply State.Keeps.step (State.flag_keeps ..); on_goal 1 => decide)

theorem State.gpcCheck_keeps (s : State) (mask : Nat) : s.Keeps (pRegs ||| pBat) (State.gpcCheck s mask) := by
  unfold State.gpcCheck
  repeat' first
    | with_reducible assumption
    | with_reducible apply State.Keeps.refl
    | (with_reducible apply State.Keeps.step (State.setGpcTest_keeps ..); on_goal 1 => decide)

theorem State.batCmd_keeps (s : State) (v : Word) : s.Keeps (pRegs ||| pRidge ||| pBat ||| pPorts) (State.batCmd s v) := by
  unfold State.batCmd
  repeat' first
    | with_reducible assumption
    | with_reducible apply State.Keeps.refl
    | (extract_lets +onlyGivenNames t; (refine State.Keeps.cut (t := t) ?_ (fun _ => ?_)) <;> [subst t; clear_value t])
    | (extract_lets +onlyGivenNames x; first | clear_value x | subst x)
    | (with_reducible apply State.Keeps.ite <;> intro _)
    | (with_reducible apply State.Keeps.step (State.fire_keeps ..); on_goal 1 => decide)
    | (with_reducible apply State.Keeps.step (State.checkAll_keeps ..); on_goal 1 => decide)
    | (with_reducible apply State.Keeps.step (State.gpcCheck_keeps ..); on_goal 1 => decide)
    | (with_reducible apply State.Keeps.step (State.cntClear_keeps ..); on_goal 1 => decide)
    | (with_reducible apply State.Keeps.step (State.tallyClear_keeps ..); on_goal 1 => decide)
    | (with_reducible apply State.Keeps.step (State.tsClear_keeps ..); on_goal 1 => decide)

theorem State.irqClear_keeps (s : State) (mask : Word) : s.Keeps pRegs (State.irqClear s mask) := by
  unfold State.irqClear
  repeat' first
    | with_reducible assumption
    | with_reducible apply State.Keeps.refl
    | (extract_lets +onlyGivenNames t; (refine State.Keeps.cut (t := t) ?_ (fun _ => ?_)) <;> [subst t; clear_value t])
    | (extract_lets +onlyGivenNames x; first | clear_value x | subst x)
    | split
    | (with_reducible apply State.Keeps.step (State.wr_keeps ..); on_goal 1 => decide)
    | with_reducible apply State.Keeps.foldl
    | with_reducible apply State.Keeps.foldl_fst
    | with_reducible apply State.Keeps.foldl_snd
    | (intro _; intros; beta_reduce)

end Sys2Proof.Machine
end

