-- ==== Sys2Proof/Laws/LoopOps.lean ====
section
/-!
SUPPORT. What the operations of Machine/LoopOps.lean may change, one lemma each.
-/

set_option linter.unusedTactic false
set_option linter.unreachableTactic false
set_option linter.tactic.unusedName false

namespace Sys2Proof.Machine

theorem State.rateFlags_keeps (s : State) (n : Fin 16) : s.Keeps pRegs (State.rateFlags s n) := by
  unfold State.rateFlags
  repeat' first
    | with_reducible assumption
    | with_reducible apply State.Keeps.refl
    | (extract_lets +onlyGivenNames t; (refine State.Keeps.cut (t := t) ?_ (fun _ => ?_)) <;> [subst t; clear_value t])
    | (extract_lets +onlyGivenNames x; first | clear_value x | subst x)
    | (with_reducible apply State.Keeps.ite <;> intro _)
    | (with_reducible apply State.Keeps.step (State.raise_keeps ..); on_goal 1 => decide)

theorem State.deliver_keeps (s : State) (n : Fin 16) (ds : List Nat) : s.Keeps pSlices (State.deliver s n ds) := by
  unfold State.deliver
  repeat' first
    | with_reducible assumption
    | with_reducible apply State.Keeps.refl
    | (with_reducible apply State.Keeps.step (State.modSlice_keeps ..); on_goal 1 => decide)
    | with_reducible apply State.Keeps.foldl
    | (intro _; intros; beta_reduce)

theorem State.modLoop_keeps (s : State) (n : Fin 16) (f : LoopSt → LoopSt) : s.Keeps pPorts (State.modLoop s n f) := by
  unfold State.modLoop
  repeat' first
    | with_reducible assumption
    | with_reducible apply State.Keeps.refl
    | (with_reducible apply State.Keeps.step (State.modPort_keeps ..); on_goal 1 => decide)

theorem State.showRef_keeps (s : State) (n : Fin 16) : s.Keeps pRegs (State.showRef s n) := by
  unfold State.showRef
  repeat' first
    | with_reducible assumption
    | with_reducible apply State.Keeps.refl
    | (extract_lets +onlyGivenNames t; (refine State.Keeps.cut (t := t) ?_ (fun _ => ?_)) <;> [subst t; clear_value t])
    | (extract_lets +onlyGivenNames x; first | clear_value x | subst x)
    | (with_reducible apply State.Keeps.step (State.put_keeps ..); on_goal 1 => decide)
    | (with_reducible apply State.Keeps.step (State.flag_keeps ..); on_goal 1 => decide)

theorem State.setTarget_keeps (s : State) (n : Fin 16) (v10 : Nat) : s.Keeps (pRegs ||| pPorts) (State.setTarget s n v10) := by
  unfold State.setTarget
  repeat' first
    | with_reducible assumption
    | with_reducible apply State.Keeps.refl
    | (with_reducible apply State.Keeps.step (State.clear_keeps ..); on_goal 1 => decide)
    | (with_reducible apply State.Keeps.step (State.showRef_keeps ..); on_goal 1 => decide)
    | (with_reducible apply State.Keeps.step (State.modLoop_keeps ..); on_goal 1 => decide)

theorem State.setBank_keeps (s : State) (n : Fin 16) (idx : Nat) (ws : List Word) : s.Keeps (pRegs ||| pPorts) (State.setBank s n idx ws) := by
  unfold State.setBank
  repeat' first
    | with_reducible assumption
    | with_reducible apply State.Keeps.refl
    | (extract_lets +onlyGivenNames t; (refine State.Keeps.cut (t := t) ?_ (fun _ => ?_)) <;> [subst t; clear_value t])
    | (extract_lets +onlyGivenNames x; first | clear_value x | subst x)
    | (with_reducible apply State.Keeps.step (State.put_keeps ..); on_goal 1 => decide)
    | (with_reducible apply State.Keeps.step (State.modLoop_keeps ..); on_goal 1 => decide)

theorem State.bankPoint_keeps (s : State) (n : Fin 16) : s.Keeps (pRegs ||| pStaged ||| pPorts) (State.bankPoint s n) := by
  unfold State.bankPoint
  repeat' first
    | with_reducible assumption
    | with_reducible apply State.Keeps.refl
    | (extract_lets +onlyGivenNames t; (refine State.Keeps.cut (t := t) ?_ (fun _ => ?_)) <;> [subst t; clear_value t])
    | (extract_lets +onlyGivenNames x; first | clear_value x | subst x)
    | (with_reducible apply State.Keeps.ite <;> intro _)
    | split
    | (with_reducible apply State.Keeps.step (State.takeStagedAll_keeps ..); on_goal 1 => decide)
    | (with_reducible apply State.Keeps.step (State.setBank_keeps ..); on_goal 1 => decide)
    | (with_reducible apply State.Keeps.step (State.put_keeps ..); on_goal 1 => decide)
    | (with_reducible apply State.Keeps.step (State.modLoop_keeps ..); on_goal 1 => decide)

theorem State.stageUp_keeps (s : State) (n : Fin 16) (ma : Nat) : s.Keeps (pRegs ||| pStaged ||| pPorts ||| pSlices) (State.stageUp s n ma) := by
  unfold State.stageUp
  repeat' first
    | with_reducible assumption
    | with_reducible apply State.Keeps.refl
    | (extract_lets +onlyGivenNames t; (refine State.Keeps.cut (t := t) ?_ (fun _ => ?_)) <;> [subst t; clear_value t])
    | (extract_lets +onlyGivenNames x; first | clear_value x | subst x)
    | (with_reducible apply State.Keeps.step (State.takeStaged_keeps ..); on_goal 1 => decide)
    | (with_reducible apply State.Keeps.step (State.rateFlags_keeps ..); on_goal 1 => decide)
    | (with_reducible apply State.Keeps.step (State.clear_keeps ..); on_goal 1 => decide)
    | (with_reducible apply State.Keeps.step (State.showRef_keeps ..); on_goal 1 => decide)
    | (with_reducible apply State.Keeps.step (State.raise_keeps ..); on_goal 1 => decide)
    | (with_reducible apply State.Keeps.step (State.put_keeps ..); on_goal 1 => decide)
    | (with_reducible apply State.Keeps.step (State.modLoop_keeps ..); on_goal 1 => decide)
    | (with_reducible apply State.Keeps.step (State.legsArm_keeps ..); on_goal 1 => decide)

theorem State.beginClose_keeps (s : State) (n : Fin 16) (st : Nat) : s.Keeps (pRegs ||| pStaged) (State.beginClose s n st) := by
  unfold State.beginClose
  repeat' first
    | with_reducible assumption
    | with_reducible apply State.Keeps.refl
    | (extract_lets +onlyGivenNames t; (refine State.Keeps.cut (t := t) ?_ (fun _ => ?_)) <;> [subst t; clear_value t])
    | (extract_lets +onlyGivenNames x; first | clear_value x | subst x)
    | (with_reducible apply State.Keeps.ite <;> intro _)
    | (with_reducible apply State.Keeps.step (State.takeStaged_keeps ..); on_goal 1 => decide)
    | (with_reducible apply State.Keeps.step (State.raise_keeps ..); on_goal 1 => decide)
    | (with_reducible apply State.Keeps.step (State.put_keeps ..); on_goal 1 => decide)
    | (with_reducible apply State.Keeps.step (State.flag_keeps ..); on_goal 1 => decide)

theorem State.stageStart_keeps (s : State) (n : Fin 16) : s.Keeps (pRegs ||| pStaged ||| pPorts ||| pSlices) (State.stageStart s n) := by
  unfold State.stageStart
  repeat' first
    | with_reducible assumption
    | with_reducible apply State.Keeps.refl
    | (extract_lets +onlyGivenNames t; (refine State.Keeps.cut (t := t) ?_ (fun _ => ?_)) <;> [subst t; clear_value t])
    | (extract_lets +onlyGivenNames x; first | clear_value x | subst x)
    | (with_reducible apply State.Keeps.step (State.beginClose_keeps ..); on_goal 1 => decide)
    | (with_reducible apply State.Keeps.step (State.stageUp_keeps ..); on_goal 1 => decide)
    | (with_reducible apply State.Keeps.step (State.implicitCurve_keeps ..); on_goal 1 => decide)

end Sys2Proof.Machine
end

