-- ==== Sys2Proof/Laws/PdOps.lean ====
section
/-!
SUPPORT. What the operations of Machine/PdOps.lean may change, one lemma each.
-/

set_option linter.unusedTactic false
set_option linter.unreachableTactic false
set_option linter.tactic.unusedName false

namespace Sys2Proof.Machine

theorem State.setP_keeps (s : State) (n : Fin 16) (x : Nat) : s.Keeps pRegs (State.setP s n x) := by
  unfold State.setP
  repeat' first
    | with_reducible assumption
    | with_reducible apply State.Keeps.refl
    | (with_reducible apply State.Keeps.step (State.put_keeps ..); on_goal 1 => decide)

theorem State.setSink_keeps (s : State) (n : Fin 16) (x : Nat) : s.Keeps (pRegs ||| pPorts) (State.setSink s n x) := by
  unfold State.setSink
  repeat' first
    | with_reducible assumption
    | with_reducible apply State.Keeps.refl
    | (with_reducible apply State.Keeps.ite <;> intro _)
    | (with_reducible apply State.Keeps.step (State.modPd_keeps ..); on_goal 1 => decide)
    | (with_reducible apply State.Keeps.step (State.setP_keeps ..); on_goal 1 => decide)

theorem State.send_keeps (s : State) (n : Fin 16) (name : MsgName) (objs : (List Word)) (sop : Nat) : s.Keeps pPorts (State.send s n name objs sop) := by
  unfold State.send
  repeat' first
    | with_reducible assumption
    | with_reducible apply State.Keeps.refl
    | (with_reducible apply State.Keeps.step (State.modPd_keeps ..); on_goal 1 => decide)

theorem State.sinkTx_keeps (s : State) (n : Fin 16) (ok : Bool) : s.Keeps pRegs (State.sinkTx s n ok) := by
  unfold State.sinkTx
  repeat' first
    | with_reducible assumption
    | with_reducible apply State.Keeps.refl
    | (with_reducible apply State.Keeps.ite <;> intro _)
    | (with_reducible apply State.Keeps.step (State.put_keeps ..); on_goal 1 => decide)

theorem State.ns_keeps (s : State) (n : Fin 16) : s.Keeps pPorts (State.ns s n) := by
  unfold State.ns
  repeat' first
    | with_reducible assumption
    | with_reducible apply State.Keeps.refl
    | (with_reducible apply State.Keeps.step (State.send_keeps ..); on_goal 1 => decide)

theorem State.softReset_keeps (s : State) (n : Fin 16) : s.Keeps (pRegs ||| pPorts) (State.softReset s n) := by
  unfold State.softReset
  repeat' first
    | with_reducible assumption
    | with_reducible apply State.Keeps.refl
    | (extract_lets +onlyGivenNames t; (refine State.Keeps.cut (t := t) ?_ (fun _ => ?_)) <;> [subst t; clear_value t])
    | (extract_lets +onlyGivenNames x; first | clear_value x | subst x)
    | (with_reducible apply State.Keeps.ite <;> intro _)
    | (with_reducible apply State.Keeps.step (State.satInc_keeps ..); on_goal 1 => decide)
    | (with_reducible apply State.Keeps.step (State.modPd_keeps ..); on_goal 1 => decide)
    | (with_reducible apply State.Keeps.step (State.protoReset_keeps ..); on_goal 1 => decide)
    | (with_reducible apply State.Keeps.step (State.setP_keeps ..); on_goal 1 => decide)
    | (with_reducible apply State.Keeps.step (State.send_keeps ..); on_goal 1 => decide)

theorem State.hardReset_keeps (s : State) (n : Fin 16) : s.Keeps (pRegs ||| pFreeCtr ||| pRidge ||| pBat ||| pPorts ||| pSlices ||| pJtl ||| pBoot) (State.hardReset s n) := by
  unfold State.hardReset
  repeat' first
    | with_reducible assumption
    | with_reducible apply State.Keeps.refl
    | (extract_lets +onlyGivenNames t; (refine State.Keeps.cut (t := t) ?_ (fun _ => ?_)) <;> [subst t; clear_value t])
    | (extract_lets +onlyGivenNames x; first | clear_value x | subst x)
    | (with_reducible apply State.Keeps.ite <;> intro _)
    | split
    | (with_reducible apply State.Keeps.step (State.errRec_keeps ..); on_goal 1 => decide)
    | (with_reducible apply State.Keeps.step (State.clear_keeps ..); on_goal 1 => decide)
    | (with_reducible apply State.Keeps.step (State.satInc_keeps ..); on_goal 1 => decide)
    | (with_reducible apply State.Keeps.step (State.allocToFloor_keeps ..); on_goal 1 => decide)
    | (with_reducible apply State.Keeps.step (State.freshRev_keeps ..); on_goal 1 => decide)
    | (with_reducible apply State.Keeps.step (State.startRole_keeps ..); on_goal 1 => decide)
    | (with_reducible apply State.Keeps.step (State.tallyLatch_keeps ..); on_goal 1 => decide)
    | (with_reducible apply State.Keeps.step (State.showRp_keeps ..); on_goal 1 => decide)
    | (with_reducible apply State.Keeps.step (State.modPd_keeps ..); on_goal 1 => decide)
    | (with_reducible apply State.Keeps.step (State.eaveOpen_keeps ..); on_goal 1 => decide)
    | (with_reducible apply State.Keeps.step (State.protoReset_keeps ..); on_goal 1 => decide)
    | (with_reducible apply State.Keeps.step (State.noContract_keeps ..); on_goal 1 => decide)
    | (with_reducible apply State.Keeps.step (State.setP_keeps ..); on_goal 1 => decide)
    | (with_reducible apply State.Keeps.step (State.legsOff_keeps ..); on_goal 1 => decide)
    | (with_reducible apply State.Keeps.step (State.modLoop_keeps ..); on_goal 1 => decide)
    | (with_reducible apply State.Keeps.step (State.vconnOff_keeps ..); on_goal 1 => decide)
    | (with_reducible apply State.Keeps.step (State.swLeave_keeps ..); on_goal 1 => decide)
    | (with_reducible apply State.Keeps.step (State.setSink_keeps ..); on_goal 1 => decide)
    | (with_reducible apply State.Keeps.step (State.leaveHand_keeps ..); on_goal 1 => decide)
    | (with_reducible apply State.Keeps.step (State.dropOps_keeps ..); on_goal 1 => decide)

theorem State.starAct_keeps (s : State) (n : Fin 16) : s.Keeps (pRegs ||| pFreeCtr ||| pRidge ||| pBat ||| pPorts ||| pSlices ||| pJtl ||| pBoot) (State.starAct s n) := by
  unfold State.starAct
  repeat' first
    | with_reducible assumption
    | with_reducible apply State.Keeps.refl
    | (extract_lets +onlyGivenNames t; (refine State.Keeps.cut (t := t) ?_ (fun _ => ?_)) <;> [subst t; clear_value t])
    | (extract_lets +onlyGivenNames x; first | clear_value x | subst x)
    | (with_reducible apply State.Keeps.ite <;> intro _)
    | (with_reducible apply State.Keeps.step (State.hardReset_keeps ..); on_goal 1 => decide)
    | (with_reducible apply State.Keeps.step (State.softReset_keeps ..); on_goal 1 => decide)

theorem State.composeAs_keeps (s : State) (n : Fin 16) (epr : Bool) : s.Keeps (pRegs ||| pPorts) (State.composeAs s n epr) := by
  unfold State.composeAs
  repeat' first
    | with_reducible assumption
    | with_reducible apply State.Keeps.refl
    | (extract_lets +onlyGivenNames t; (refine State.Keeps.cut (t := t) ?_ (fun _ => ?_)) <;> [subst t; clear_value t])
    | (extract_lets +onlyGivenNames x; first | clear_value x | subst x)
    | (with_reducible apply State.Keeps.ite <;> intro _)
    | split
    | (with_reducible apply State.Keeps.step (State.modPort_keeps ..); on_goal 1 => decide)
    | (with_reducible apply State.Keeps.step (State.modPd_keeps ..); on_goal 1 => decide)
    | (with_reducible apply State.Keeps.step (State.wr_keeps ..); on_goal 1 => decide)
    | (with_reducible apply State.Keeps.step (State.put_keeps ..); on_goal 1 => decide)
    | (with_reducible apply State.Keeps.step (State.flag_keeps ..); on_goal 1 => decide)
    | with_reducible apply State.Keeps.foldl
    | with_reducible apply State.Keeps.foldl_fst
    | with_reducible apply State.Keeps.foldl_snd
    | (intro _; intros; beta_reduce)

theorem State.compose_keeps (s : State) (n : Fin 16) : s.Keeps (pRegs ||| pPorts) (State.compose s n) := by
  unfold State.compose
  repeat' first
    | with_reducible assumption
    | with_reducible apply State.Keeps.refl
    | (with_reducible apply State.Keeps.step (State.composeAs_keeps ..); on_goal 1 => decide)

theorem State.sendCached_keeps (s : State) (n : Fin 16) : s.Keeps pPorts (State.sendCached s n) := by
  unfold State.sendCached
  repeat' first
    | with_reducible assumption
    | with_reducible apply State.Keeps.refl
    | (with_reducible apply State.Keeps.ite <;> intro _)
    | (with_reducible apply State.Keeps.step (State.send_keeps ..); on_goal 1 => decide)

theorem State.sendOffer_keeps (s : State) (n : Fin 16) : s.Keeps (pRegs ||| pPorts) (State.sendOffer s n) := by
  unfold State.sendOffer
  repeat' first
    | with_reducible assumption
    | with_reducible apply State.Keeps.refl
    | (extract_lets +onlyGivenNames t; (refine State.Keeps.cut (t := t) ?_ (fun _ => ?_)) <;> [subst t; clear_value t])
    | (extract_lets +onlyGivenNames x; first | clear_value x | subst x)
    | (with_reducible apply State.Keeps.step (State.modPort_keeps ..); on_goal 1 => decide)
    | (with_reducible apply State.Keeps.step (State.compose_keeps ..); on_goal 1 => decide)
    | (with_reducible apply State.Keeps.step (State.modPd_keeps ..); on_goal 1 => decide)
    | (with_reducible apply State.Keeps.step (State.setP_keeps ..); on_goal 1 => decide)
    | (with_reducible apply State.Keeps.step (State.sendCached_keeps ..); on_goal 1 => decide)

theorem State.afterDisc_keeps (s : State) (n : Fin 16) : s.Keeps (pRegs ||| pPorts) (State.afterDisc s n) := by
  unfold State.afterDisc
  repeat' first
    | with_reducible assumption
    | with_reducible apply State.Keeps.refl
    | (with_reducible apply State.Keeps.ite <;> intro _)
    | (with_reducible apply State.Keeps.step (State.sendOffer_keeps ..); on_goal 1 => decide)

theorem State.amsFirst_keeps (s : State) (n : Fin 16) (name : MsgName) : s.Keeps (pRegs ||| pPorts) (State.amsFirst s n name) := by
  unfold State.amsFirst
  repeat' first
    | with_reducible assumption
    | with_reducible apply State.Keeps.refl
    | (extract_lets +onlyGivenNames t; (refine State.Keeps.cut (t := t) ?_ (fun _ => ?_)) <;> [subst t; clear_value t])
    | (extract_lets +onlyGivenNames x; first | clear_value x | subst x)
    | (with_reducible apply State.Keeps.ite <;> intro _)
    | split
    | (with_reducible apply State.Keeps.step (State.sendOffer_keeps ..); on_goal 1 => decide)
    | (with_reducible apply State.Keeps.step (State.clear_keeps ..); on_goal 1 => decide)
    | (with_reducible apply State.Keeps.step (State.modPd_keeps ..); on_goal 1 => decide)
    | (with_reducible apply State.Keeps.step (State.setP_keeps ..); on_goal 1 => decide)
    | (with_reducible apply State.Keeps.step (State.softReset_keeps ..); on_goal 1 => decide)
    | (with_reducible apply State.Keeps.step (State.send_keeps ..); on_goal 1 => decide)

theorem State.beginAms_keeps (s : State) (n : Fin 16) (name : MsgName) : s.Keeps (pRegs ||| pPorts) (State.beginAms s n name) := by
  unfold State.beginAms
  repeat' first
    | with_reducible assumption
    | with_reducible apply State.Keeps.refl
    | (with_reducible apply State.Keeps.ite <;> intro _)
    | (with_reducible apply State.Keeps.step (State.sinkTx_keeps ..); on_goal 1 => decide)
    | (with_reducible apply State.Keeps.step (State.modPd_keeps ..); on_goal 1 => decide)
    | (with_reducible apply State.Keeps.step (State.amsFirst_keeps ..); on_goal 1 => decide)

theorem State.leaveEpr_keeps (s : State) (n : Fin 16) : s.Keeps (pRegs ||| pFreeCtr ||| pRidge ||| pBat ||| pPorts ||| pSlices ||| pJtl ||| pBoot) (State.leaveEpr s n) := by
  unfold State.leaveEpr
  repeat' first
    | with_reducible assumption
    | with_reducible apply State.Keeps.refl
    | (with_reducible apply State.Keeps.ite <;> intro _)
    | (with_reducible apply State.Keeps.step (State.hardReset_keeps ..); on_goal 1 => decide)
    | (with_reducible apply State.Keeps.step (State.beginAms_keeps ..); on_goal 1 => decide)

theorem State.dueAlert_keeps (s : State) (n : Fin 16) : s.Keeps (pRegs ||| pPorts) (State.dueAlert s n) := by
  unfold State.dueAlert
  repeat' first
    | with_reducible assumption
    | with_reducible apply State.Keeps.refl
    | (with_reducible apply State.Keeps.step (State.modPd_keeps ..); on_goal 1 => decide)
    | (with_reducible apply State.Keeps.step (State.beginAms_keeps ..); on_goal 1 => decide)

theorem State.enterReady_keeps (s : State) (n : Fin 16) : s.Keeps (pRegs ||| pFreeCtr ||| pRidge ||| pBat ||| pPorts ||| pSlices ||| pJtl ||| pBoot) (State.enterReady s n) := by
  unfold State.enterReady
  repeat' first
    | with_reducible assumption
    | with_reducible apply State.Keeps.refl
    | (extract_lets +onlyGivenNames t; (refine State.Keeps.cut (t := t) ?_ (fun _ => ?_)) <;> [subst t; clear_value t])
    | (extract_lets +onlyGivenNames x; first | clear_value x | subst x)
    | (with_reducible apply State.Keeps.ite <;> intro _)
    | split
    | (with_reducible apply State.Keeps.step (State.leaveEpr_keeps ..); on_goal 1 => decide)
    | (with_reducible apply State.Keeps.step (State.dueAlert_keeps ..); on_goal 1 => decide)
    | (with_reducible apply State.Keeps.step (State.sinkTx_keeps ..); on_goal 1 => decide)
    | (with_reducible apply State.Keeps.step (State.modPd_keeps ..); on_goal 1 => decide)
    | (with_reducible apply State.Keeps.step (State.beginAms_keeps ..); on_goal 1 => decide)
    | (with_reducible apply State.Keeps.step (State.setP_keeps ..); on_goal 1 => decide)

theorem State.sinkGo_keeps (s : State) (n : Fin 16) : s.Keeps (pRegs ||| pPorts) (State.sinkGo s n) := by
  unfold State.sinkGo
  repeat' first
    | with_reducible assumption
    | with_reducible apply State.Keeps.refl
    | (with_reducible apply State.Keeps.ite <;> intro _)
    | (with_reducible apply State.Keeps.step (State.dueAlert_keeps ..); on_goal 1 => decide)
    | (with_reducible apply State.Keeps.step (State.modPd_keeps ..); on_goal 1 => decide)
    | (with_reducible apply State.Keeps.step (State.beginAms_keeps ..); on_goal 1 => decide)

theorem State.endAms_keeps (s : State) (n : Fin 16) : s.Keeps (pRegs ||| pFreeCtr ||| pRidge ||| pBat ||| pPorts ||| pSlices ||| pJtl ||| pBoot) (State.endAms s n) := by
  unfold State.endAms
  repeat' first
    | with_reducible assumption
    | with_reducible apply State.Keeps.refl
    | (extract_lets +onlyGivenNames t; (refine State.Keeps.cut (t := t) ?_ (fun _ => ?_)) <;> [subst t; clear_value t])
    | (extract_lets +onlyGivenNames x; first | clear_value x | subst x)
    | (with_reducible apply State.Keeps.ite <;> intro _)
    | (with_reducible apply State.Keeps.step (State.sinkGo_keeps ..); on_goal 1 => decide)
    | (with_reducible apply State.Keeps.step (State.enterReady_keeps ..); on_goal 1 => decide)
    | (with_reducible apply State.Keeps.step (State.modPd_keeps ..); on_goal 1 => decide)

theorem State.hold_keeps (s : State) (n : Fin 16) (k : Nat) : s.Keeps pPorts (State.hold s n k) := by
  unfold State.hold
  repeat' first
    | with_reducible assumption
    | with_reducible apply State.Keeps.refl
    | (with_reducible apply State.Keeps.ite <;> intro _)
    | (with_reducible apply State.Keeps.step (State.modPd_keeps ..); on_goal 1 => decide)

theorem State.eprLost_keeps (s : State) (n : Fin 16) : s.Keeps (pRegs ||| pFreeCtr ||| pRidge ||| pBat ||| pPorts ||| pSlices ||| pJtl ||| pBoot) (State.eprLost s n) := by
  unfold State.eprLost
  repeat' first
    | with_reducible assumption
    | with_reducible apply State.Keeps.refl
    | (with_reducible apply State.Keeps.ite <;> intro _)
    | (with_reducible apply State.Keeps.step (State.hardReset_keeps ..); on_goal 1 => decide)
    | (with_reducible apply State.Keeps.step (State.leaveEpr_keeps ..); on_goal 1 => decide)
    | (with_reducible apply State.Keeps.step (State.hold_keeps ..); on_goal 1 => decide)

theorem State.wantOffer_keeps (s : State) (n : Fin 16) : s.Keeps (pRegs ||| pPorts) (State.wantOffer s n) := by
  unfold State.wantOffer
  repeat' first
    | with_reducible assumption
    | with_reducible apply State.Keeps.refl
    | (with_reducible apply State.Keeps.ite <;> intro _)
    | (with_reducible apply State.Keeps.step (State.sendOffer_keeps ..); on_goal 1 => decide)
    | (with_reducible apply State.Keeps.step (State.modPd_keeps ..); on_goal 1 => decide)
    | (with_reducible apply State.Keeps.step (State.beginAms_keeps ..); on_goal 1 => decide)

theorem State.keepId_keeps (s : State) (n : Fin 16) (sop : Nat) (id : BitVec 3) : s.Keeps pPorts (State.keepId s n sop id) := by
  unfold State.keepId
  repeat' first
    | with_reducible assumption
    | with_reducible apply State.Keeps.refl
    | (with_reducible apply State.Keeps.step (State.modPd_keeps ..); on_goal 1 => decide)

theorem State.takeHead_keeps (s : State) (h : PdHead) : s.Keeps (pRegs ||| pPorts) (State.takeHead s h) := by
  unfold State.takeHead
  repeat' first
    | with_reducible assumption
    | with_reducible apply State.Keeps.refl
    | (extract_lets +onlyGivenNames t; (refine State.Keeps.cut (t := t) ?_ (fun _ => ?_)) <;> [subst t; clear_value t])
    | (extract_lets +onlyGivenNames x; first | clear_value x | subst x)
    | (with_reducible apply State.Keeps.ite <;> intro _)
    | split
    | (with_reducible apply State.Keeps.step (State.keepId_keeps ..); on_goal 1 => decide)
    | (with_reducible apply State.Keeps.step (State.modPd_keeps ..); on_goal 1 => decide)
    | (with_reducible apply State.Keeps.step (State.put_keeps ..); on_goal 1 => decide)

theorem State.receive_keeps {s₀ s : State} {h : PdHead} {act : State → State} {m : Nat} (hm : (pRegs ||| pPorts) ||| m = m) (hact : ∀ u, s₀.Keeps m u → s₀.Keeps m (act u)) (hs : s₀.Keeps m s) :
    s₀.Keeps m (State.receive s h act) := by
  unfold State.receive
  repeat' first
    | with_reducible assumption
    | (extract_lets +onlyGivenNames t; (refine State.Keeps.cut (t := t) ?_ (fun _ => ?_)) <;> [subst t; clear_value t])
    | (extract_lets +onlyGivenNames x; first | clear_value x | subst x)
    | (with_reducible apply State.Keeps.ite <;> intro _)
    | split
    | with_reducible apply hact
    | (with_reducible apply State.Keeps.step (State.sendOffer_keeps ..); on_goal 1 => exact or_sub (by decide) hm)
    | (with_reducible apply State.Keeps.step (State.takeHead_keeps ..); on_goal 1 => exact or_sub (by decide) hm)

theorem State.predMiss_keeps (s : State) (n : Fin 16) : s.Keeps (pRegs ||| pRidge ||| pBat ||| pPorts) (State.predMiss s n) := by
  unfold State.predMiss
  repeat' first
    | with_reducible assumption
    | with_reducible apply State.Keeps.refl
    | (extract_lets +onlyGivenNames t; (refine State.Keeps.cut (t := t) ?_ (fun _ => ?_)) <;> [subst t; clear_value t])
    | (extract_lets +onlyGivenNames x; first | clear_value x | subst x)
    | (with_reducible apply State.Keeps.ite <;> intro _)
    | (with_reducible apply State.Keeps.step (State.fire_keeps ..); on_goal 1 => decide)
    | (with_reducible apply State.Keeps.step (State.cancelTags_keeps ..); on_goal 1 => decide)
    | (with_reducible apply State.Keeps.step (State.satInc_keeps ..); on_goal 1 => decide)
    | (with_reducible apply State.Keeps.step (State.modPd_keeps ..); on_goal 1 => decide)
    | (with_reducible apply State.Keeps.step (State.raise_keeps ..); on_goal 1 => decide)

theorem State.adopt_keeps (s : State) (n : Fin 16) (tag : Nat) : s.Keeps (pRegs ||| pRidge ||| pPorts) (State.adopt s n tag) := by
  unfold State.adopt
  repeat' first
    | with_reducible assumption
    | with_reducible apply State.Keeps.refl
    | (extract_lets +onlyGivenNames t; (refine State.Keeps.cut (t := t) ?_ (fun _ => ?_)) <;> [subst t; clear_value t])
    | (extract_lets +onlyGivenNames x; first | clear_value x | subst x)
    | (with_reducible apply State.Keeps.ite <;> intro _)
    | (with_reducible apply State.Keeps.step (State.satInc_keeps ..); on_goal 1 => decide)
    | (with_reducible apply State.Keeps.step (State.modPd_keeps ..); on_goal 1 => decide)
    | (with_reducible apply State.Keeps.step (State.modRidge_keeps ..); on_goal 1 => decide)

theorem State.noteGroup_keeps (s : State) (tag : Nat) : s.Keeps pRidge (State.noteGroup s tag) := by
  unfold State.noteGroup
  repeat' first
    | with_reducible assumption
    | with_reducible apply State.Keeps.refl
    | (extract_lets +onlyGivenNames t; (refine State.Keeps.cut (t := t) ?_ (fun _ => ?_)) <;> [subst t; clear_value t])
    | (extract_lets +onlyGivenNames x; first | clear_value x | subst x)
    | (with_reducible apply State.Keeps.ite <;> intro _)
    | (with_reducible apply State.Keeps.step (State.modRidge_keeps ..); on_goal 1 => decide)

theorem State.followMsg_keeps (s : State) (n : Fin 16) (tag : Nat) : s.Keeps (pRegs ||| pRidge ||| pBat ||| pPorts) (State.followMsg s n tag) := by
  unfold State.followMsg
  repeat' first
    | with_reducible assumption
    | with_reducible apply State.Keeps.refl
    | (extract_lets +onlyGivenNames t; (refine State.Keeps.cut (t := t) ?_ (fun _ => ?_)) <;> [subst t; clear_value t])
    | (extract_lets +onlyGivenNames x; first | clear_value x | subst x)
    | (with_reducible apply State.Keeps.ite <;> intro _)
    | split
    | (with_reducible apply State.Keeps.step (State.modPd_keeps ..); on_goal 1 => decide)
    | (with_reducible apply State.Keeps.step (State.offer_keeps ..); on_goal 1 => decide)
    | (with_reducible apply State.Keeps.step (State.noteGroup_keeps ..); on_goal 1 => decide)
    | (with_reducible apply State.Keeps.step (State.adopt_keeps ..); on_goal 1 => decide)
    | with_reducible apply State.Keeps.foldl
    | (intro _; intros; beta_reduce)

theorem State.request_keeps (s : State) (n : Fin 16) (rdo : Word) (copy : Word) (isEpr : Bool) : s.Keeps (pRegs ||| pRidge ||| pBat ||| pPorts) (State.request s n rdo copy isEpr) := by
  unfold State.request
  repeat' first
    | with_reducible assumption
    | with_reducible apply State.Keeps.refl
    | (extract_lets +onlyGivenNames t; (refine State.Keeps.cut (t := t) ?_ (fun _ => ?_)) <;> [subst t; clear_value t])
    | (extract_lets +onlyGivenNames x; first | clear_value x | subst x)
    | (with_reducible apply State.Keeps.ite <;> intro _)
    | (with_reducible apply State.Keeps.step (State.followMsg_keeps ..); on_goal 1 => decide)
    | (with_reducible apply State.Keeps.step (State.modPd_keeps ..); on_goal 1 => decide)
    | (with_reducible apply State.Keeps.step (State.offer_keeps ..); on_goal 1 => decide)
    | (with_reducible apply State.Keeps.step (State.predMiss_keeps ..); on_goal 1 => decide)
    | (with_reducible apply State.Keeps.step (State.setP_keeps ..); on_goal 1 => decide)

theorem State.recordContract_keeps (s : State) (n : Fin 16) (w : Transition) : s.Keeps (pRegs ||| pPorts) (State.recordContract s n w) := by
  unfold State.recordContract
  repeat' first
    | with_reducible assumption
    | with_reducible apply State.Keeps.refl
    | (extract_lets +onlyGivenNames t; (refine State.Keeps.cut (t := t) ?_ (fun _ => ?_)) <;> [subst t; clear_value t])
    | (extract_lets +onlyGivenNames x; first | clear_value x | subst x)
    | (with_reducible apply State.Keeps.step (State.modPd_keeps ..); on_goal 1 => decide)
    | (with_reducible apply State.Keeps.step (State.wr_keeps ..); on_goal 1 => decide)
    | (with_reducible apply State.Keeps.step (State.put_keeps ..); on_goal 1 => decide)

theorem State.noteRun_keeps (s : State) (n : Fin 16) (w : Transition) (at_us : Nat) : s.Keeps (pRegs ||| pPorts) (State.noteRun s n w at_us) := by
  unfold State.noteRun
  repeat' first
    | with_reducible assumption
    | with_reducible apply State.Keeps.refl
    | (extract_lets +onlyGivenNames t; (refine State.Keeps.cut (t := t) ?_ (fun _ => ?_)) <;> [subst t; clear_value t])
    | (extract_lets +onlyGivenNames x; first | clear_value x | subst x)
    | (with_reducible apply State.Keeps.ite <;> intro _)
    | split
    | (with_reducible apply State.Keeps.step (State.clear_keeps ..); on_goal 1 => decide)
    | (with_reducible apply State.Keeps.step (State.modPd_keeps ..); on_goal 1 => decide)
    | (with_reducible apply State.Keeps.step (State.endRun_keeps ..); on_goal 1 => decide)
    | (with_reducible apply State.Keeps.step (State.put_keeps ..); on_goal 1 => decide)
    | (with_reducible apply State.Keeps.step (State.flag_keeps ..); on_goal 1 => decide)

theorem State.setEff_keeps (s : State) (n : Fin 16) (x : Nat) : s.Keeps (pRegs ||| pPorts) (State.setEff s n x) := by
  unfold State.setEff
  repeat' first
    | with_reducible assumption
    | with_reducible apply State.Keeps.refl
    | (with_reducible apply State.Keeps.ite <;> intro _)
    | (with_reducible apply State.Keeps.step (State.modPd_keeps ..); on_goal 1 => decide)
    | (with_reducible apply State.Keeps.step (State.setP_keeps ..); on_goal 1 => decide)

theorem State.enterBrace_keeps (s : State) (n : Fin 16) : s.Keeps (pRegs ||| pPorts ||| pJtl) (State.enterBrace s n) := by
  unfold State.enterBrace
  repeat' first
    | with_reducible assumption
    | with_reducible apply State.Keeps.refl
    | (extract_lets +onlyGivenNames t; (refine State.Keeps.cut (t := t) ?_ (fun _ => ?_)) <;> [subst t; clear_value t])
    | (extract_lets +onlyGivenNames x; first | clear_value x | subst x)
    | (with_reducible apply State.Keeps.ite <;> intro _)
    | (with_reducible apply State.Keeps.step (State.modPd_keeps ..); on_goal 1 => decide)
    | (with_reducible apply State.Keeps.step (State.raise_keeps ..); on_goal 1 => decide)
    | (with_reducible apply State.Keeps.step (State.setP_keeps ..); on_goal 1 => decide)
    | (with_reducible apply State.Keeps.step (State.swLeave_keeps ..); on_goal 1 => decide)
    | (with_reducible apply State.Keeps.step (State.send_keeps ..); on_goal 1 => decide)

theorem State.tellWarning_keeps (s : State) (n : Fin 16) : s.Keeps pPorts (State.tellWarning s n) := by
  unfold State.tellWarning
  repeat' first
    | with_reducible assumption
    | with_reducible apply State.Keeps.refl
    | (with_reducible apply State.Keeps.ite <;> intro _)
    | (with_reducible apply State.Keeps.step (State.modPd_keeps ..); on_goal 1 => decide)

theorem State.leaveBrace_keeps (s : State) (n : Fin 16) : s.Keeps (pRegs ||| pFreeCtr ||| pRidge ||| pBat ||| pPorts ||| pSlices ||| pJtl ||| pBoot) (State.leaveBrace s n) := by
  unfold State.leaveBrace
  repeat' first
    | with_reducible assumption
    | with_reducible apply State.Keeps.refl
    | (extract_lets +onlyGivenNames t; (refine State.Keeps.cut (t := t) ?_ (fun _ => ?_)) <;> [subst t; clear_value t])
    | (extract_lets +onlyGivenNames x; first | clear_value x | subst x)
    | (with_reducible apply State.Keeps.ite <;> intro _)
    | (with_reducible apply State.Keeps.step (State.clear_keeps ..); on_goal 1 => decide)
    | (with_reducible apply State.Keeps.step (State.enterReady_keeps ..); on_goal 1 => decide)
    | (with_reducible apply State.Keeps.step (State.modPd_keeps ..); on_goal 1 => decide)
    | (with_reducible apply State.Keeps.step (State.tellWarning_keeps ..); on_goal 1 => decide)
    | (with_reducible apply State.Keeps.step (State.setP_keeps ..); on_goal 1 => decide)
    | (with_reducible apply State.Keeps.step (State.softReset_keeps ..); on_goal 1 => decide)

end Sys2Proof.Machine
end

