-- ==== Sys2Proof/Laws/JtlOps.lean ====
section
/-!
SUPPORT. What the operations of Machine/JtlOps.lean may change, one lemma each.
-/

set_option linter.unusedTactic false
set_option linter.unreachableTactic false
set_option linter.tactic.unusedName false

namespace Sys2Proof.Machine

theorem State.setNode_keeps (s : State) (k : Nat) (serial : BitVec 96) (mask : Nat) (own : Bool) : s.Keeps pRegs (State.setNode s k serial mask own) := by
  unfold State.setNode
  repeat' first
    | with_reducible assumption
    | with_reducible apply State.Keeps.refl
    | (extract_lets +onlyGivenNames t; (refine State.Keeps.cut (t := t) ?_ (fun _ => ?_)) <;> [subst t; clear_value t])
    | (extract_lets +onlyGivenNames x; first | clear_value x | subst x)
    | (with_reducible apply State.Keeps.step (State.wr_keeps ..); on_goal 1 => decide)
    | with_reducible apply State.Keeps.foldl
    | (intro _; intros; beta_reduce)

theorem State.clearNodes_keeps (s : State) : s.Keeps pRegs (State.clearNodes s) := by
  unfold State.clearNodes
  repeat' first
    | with_reducible assumption
    | with_reducible apply State.Keeps.refl
    | (with_reducible apply State.Keeps.step (State.wr_keeps ..); on_goal 1 => decide)
    | with_reducible apply State.Keeps.foldl
    | (intro _; intros; beta_reduce)

theorem State.sendMember_keeps (s : State) : s.Keeps pJtl (State.sendMember s) := by
  unfold State.sendMember
  repeat' first
    | with_reducible assumption
    | with_reducible apply State.Keeps.refl
    | (extract_lets +onlyGivenNames t; (refine State.Keeps.cut (t := t) ?_ (fun _ => ?_)) <;> [subst t; clear_value t])
    | (extract_lets +onlyGivenNames x; first | clear_value x | subst x)
    | (with_reducible apply State.Keeps.step (State.modJtl_keeps ..); on_goal 1 => decide)
    | (with_reducible apply State.Keeps.step (State.sendF_keeps ..); on_goal 1 => decide)

theorem State.rejoined_keeps (s : State) (x : BitVec 96) : s.Keeps (pRegs ||| pJtl) (State.rejoined s x) := by
  unfold State.rejoined
  repeat' first
    | with_reducible assumption
    | with_reducible apply State.Keeps.refl
    | (extract_lets +onlyGivenNames t; (refine State.Keeps.cut (t := t) ?_ (fun _ => ?_)) <;> [subst t; clear_value t])
    | (extract_lets +onlyGivenNames x; first | clear_value x | subst x)
    | (with_reducible apply State.Keeps.ite <;> intro _)
    | (with_reducible apply State.Keeps.step (State.modJtl_keeps ..); on_goal 1 => decide)
    | (with_reducible apply State.Keeps.step (State.flag_keeps ..); on_goal 1 => decide)

theorem State.placePorts_keeps (s : State) (w : Sweep) : s.Keeps (pRegs ||| pJtl) (State.placePorts s w) := by
  unfold State.placePorts
  repeat' first
    | with_reducible assumption
    | with_reducible apply State.Keeps.refl
    | (extract_lets +onlyGivenNames t; (refine State.Keeps.cut (t := t) ?_ (fun _ => ?_)) <;> [subst t; clear_value t])
    | (extract_lets +onlyGivenNames x; first | clear_value x | subst x)
    | (with_reducible apply State.Keeps.step (State.modJtl_keeps ..); on_goal 1 => decide)
    | (with_reducible apply State.Keeps.step (State.wr_keeps ..); on_goal 1 => decide)
    | (with_reducible apply State.Keeps.step (State.put_keeps ..); on_goal 1 => decide)
    | with_reducible apply State.Keeps.foldl
    | (intro _; intros; beta_reduce)

theorem State.afterSweep_keeps (s : State) (n : Fin 16) : s.Keeps (pRegs ||| pPorts) (State.afterSweep s n) := by
  unfold State.afterSweep
  repeat' first
    | with_reducible assumption
    | with_reducible apply State.Keeps.refl
    | (with_reducible apply State.Keeps.ite <;> intro _)
    | (with_reducible apply State.Keeps.step (State.modPd_keeps ..); on_goal 1 => decide)
    | (with_reducible apply State.Keeps.step (State.wantOffer_keeps ..); on_goal 1 => decide)

theorem State.assignPhases_keeps (s : State) (src : Nat) (l : List (Nat × Nat)) : s.Keeps (pRegs ||| pRidge ||| pBat) (State.assignPhases s src l) := by
  unfold State.assignPhases
  repeat' first
    | with_reducible assumption
    | with_reducible apply State.Keeps.refl
    | (with_reducible apply State.Keeps.ite <;> intro _)
    | split
    | (with_reducible apply State.Keeps.step (State.offer_keeps ..); on_goal 1 => decide)
    | with_reducible apply State.Keeps.foldl
    | with_reducible apply State.Keeps.foldl_fst
    | with_reducible apply State.Keeps.foldl_snd
    | (intro _; intros; beta_reduce)

theorem State.measurePort_keeps (s : State) (n : Fin 16) (step : Nat) : s.Keeps (pRegs ||| pFreeCtr) (State.measurePort s n step) := by
  unfold State.measurePort
  repeat' first
    | with_reducible assumption
    | with_reducible apply State.Keeps.refl
    | (extract_lets +onlyGivenNames t; (refine State.Keeps.cut (t := t) ?_ (fun _ => ?_)) <;> [subst t; clear_value t])
    | (extract_lets +onlyGivenNames x; first | clear_value x | subst x)
    | (with_reducible apply State.Keeps.ite <;> intro _)
    | (with_reducible apply State.Keeps.step (State.free_keeps ..); on_goal 1 => decide)
    | (with_reducible apply State.Keeps.step (State.free_keeps_of (by assumption)); on_goal 1 => decide)
    | (with_reducible apply State.Keeps.step (State.raise_keeps ..); on_goal 1 => decide)
    | (with_reducible apply State.Keeps.step (State.put_keeps ..); on_goal 1 => decide)

theorem State.measureAll_keeps (s : State) (step : Nat) : s.Keeps (pRegs ||| pFreeCtr) (State.measureAll s step) := by
  unfold State.measureAll
  repeat' first
    | with_reducible assumption
    | with_reducible apply State.Keeps.refl
    | (extract_lets +onlyGivenNames t; (refine State.Keeps.cut (t := t) ?_ (fun _ => ?_)) <;> [subst t; clear_value t])
    | (extract_lets +onlyGivenNames x; first | clear_value x | subst x)
    | (with_reducible apply State.Keeps.step (State.free_keeps ..); on_goal 1 => decide)
    | (with_reducible apply State.Keeps.step (State.free_keeps_of (by assumption)); on_goal 1 => decide)
    | (with_reducible apply State.Keeps.step (State.put_keeps ..); on_goal 1 => decide)
    | (with_reducible apply State.Keeps.step (State.measurePort_keeps ..); on_goal 1 => decide)
    | with_reducible apply State.Keeps.foldl
    | (intro _; intros; beta_reduce)

theorem State.sendResult_keeps (s : State) (id : Nat) : s.Keeps (pRegs ||| pJtl) (State.sendResult s id) := by
  unfold State.sendResult
  repeat' first
    | with_reducible assumption
    | with_reducible apply State.Keeps.refl
    | (extract_lets +onlyGivenNames t; (refine State.Keeps.cut (t := t) ?_ (fun _ => ?_)) <;> [subst t; clear_value t])
    | (extract_lets +onlyGivenNames x; first | clear_value x | subst x)
    | (with_reducible apply State.Keeps.ite <;> intro _)
    | split
    | (with_reducible apply State.Keeps.step (State.wr_keeps ..); on_goal 1 => decide)
    | (with_reducible apply State.Keeps.step (State.put_keeps ..); on_goal 1 => decide)
    | (with_reducible apply State.Keeps.step (State.sendF_keeps ..); on_goal 1 => decide)
    | with_reducible apply State.Keeps.foldl
    | with_reducible apply State.Keeps.foldl_fst
    | with_reducible apply State.Keeps.foldl_snd
    | (intro _; intros; beta_reduce)

theorem State.releasePorts_keeps (s : State) : s.Keeps (pRegs ||| pPorts ||| pJtl) (State.releasePorts s) := by
  unfold State.releasePorts
  repeat' first
    | with_reducible assumption
    | with_reducible apply State.Keeps.refl
    | (with_reducible apply State.Keeps.step (State.modJtl_keeps ..); on_goal 1 => decide)
    | (with_reducible apply State.Keeps.step (State.afterSweep_keeps ..); on_goal 1 => decide)
    | with_reducible apply State.Keeps.foldl
    | (intro _; intros; beta_reduce)

theorem State.setSwNode_keeps (s : State) (k : Nat) (v : Nat) : s.Keeps pRegs (State.setSwNode s k v) := by
  unfold State.setSwNode
  repeat' first
    | with_reducible assumption
    | with_reducible apply State.Keeps.refl
    | (extract_lets +onlyGivenNames t; (refine State.Keeps.cut (t := t) ?_ (fun _ => ?_)) <;> [subst t; clear_value t])
    | (extract_lets +onlyGivenNames x; first | clear_value x | subst x)
    | (with_reducible apply State.Keeps.step (State.put_keeps ..); on_goal 1 => decide)

theorem State.endSweep_keeps (s : State) (w : Sweep) : s.Keeps (pRegs ||| pBat ||| pPorts ||| pJtl) (State.endSweep s w) := by
  unfold State.endSweep
  repeat' first
    | with_reducible assumption
    | with_reducible apply State.Keeps.refl
    | (extract_lets +onlyGivenNames t; (refine State.Keeps.cut (t := t) ?_ (fun _ => ?_)) <;> [subst t; clear_value t])
    | (extract_lets +onlyGivenNames x; first | clear_value x | subst x)
    | (with_reducible apply State.Keeps.ite <;> intro _)
    | (with_reducible apply State.Keeps.step (State.fire_keeps ..); on_goal 1 => decide)
    | (with_reducible apply State.Keeps.step (State.modJtl_keeps ..); on_goal 1 => decide)
    | (with_reducible apply State.Keeps.step (State.clear_keeps ..); on_goal 1 => decide)
    | (with_reducible apply State.Keeps.step (State.put_keeps ..); on_goal 1 => decide)
    | (with_reducible apply State.Keeps.step (State.releasePorts_keeps ..); on_goal 1 => decide)
    | (with_reducible apply State.Keeps.step (State.setSwNode_keeps ..); on_goal 1 => decide)
    | (with_reducible apply State.Keeps.step (State.sendF_keeps ..); on_goal 1 => decide)
    | with_reducible apply State.Keeps.foldl
    | (intro _; intros; beta_reduce)

theorem State.closeMeasure_keeps (s : State) (us : Nat) : s.Keeps (pRegs ||| pFreeCtr ||| pRidge ||| pBat ||| pPorts ||| pJtl) (State.closeMeasure s us) := by
  unfold State.closeMeasure
  repeat' first
    | with_reducible assumption
    | with_reducible apply State.Keeps.refl
    | (extract_lets +onlyGivenNames t; (refine State.Keeps.cut (t := t) ?_ (fun _ => ?_)) <;> [subst t; clear_value t])
    | (extract_lets +onlyGivenNames x; first | clear_value x | subst x)
    | split
    | (with_reducible apply State.Keeps.step (State.modJtl_keeps ..); on_goal 1 => decide)
    | (with_reducible apply State.Keeps.step (State.assignPhases_keeps ..); on_goal 1 => decide)
    | (with_reducible apply State.Keeps.step (State.measureAll_keeps ..); on_goal 1 => decide)
    | (with_reducible apply State.Keeps.step (State.put_keeps ..); on_goal 1 => decide)
    | (with_reducible apply State.Keeps.step (State.releasePorts_keeps ..); on_goal 1 => decide)

theorem State.abortSweep_keeps (s : State) : s.Keeps (pRegs ||| pBat ||| pPorts ||| pJtl) (State.abortSweep s) := by
  unfold State.abortSweep
  repeat' first
    | with_reducible assumption
    | with_reducible apply State.Keeps.refl
    | (extract_lets +onlyGivenNames t; (refine State.Keeps.cut (t := t) ?_ (fun _ => ?_)) <;> [subst t; clear_value t])
    | (extract_lets +onlyGivenNames x; first | clear_value x | subst x)
    | (with_reducible apply State.Keeps.ite <;> intro _)
    | split
    | (with_reducible apply State.Keeps.step (State.fire_keeps ..); on_goal 1 => decide)
    | (with_reducible apply State.Keeps.step (State.modJtl_keeps ..); on_goal 1 => decide)
    | (with_reducible apply State.Keeps.step (State.clear_keeps ..); on_goal 1 => decide)
    | (with_reducible apply State.Keeps.step (State.put_keeps ..); on_goal 1 => decide)
    | (with_reducible apply State.Keeps.step (State.releasePorts_keeps ..); on_goal 1 => decide)
    | (with_reducible apply State.Keeps.step (State.setSwNode_keeps ..); on_goal 1 => decide)
    | with_reducible apply State.Keeps.foldl
    | with_reducible apply State.Keeps.foldl_fst
    | with_reducible apply State.Keeps.foldl_snd
    | (intro _; intros; beta_reduce)

theorem State.abortAndTell_keeps (s : State) (ports : Nat) : s.Keeps (pRegs ||| pBat ||| pPorts ||| pJtl) (State.abortAndTell s ports) := by
  unfold State.abortAndTell
  repeat' first
    | with_reducible assumption
    | with_reducible apply State.Keeps.refl
    | (with_reducible apply State.Keeps.ite <;> intro _)
    | split
    | (with_reducible apply State.Keeps.step (State.abortSweep_keeps ..); on_goal 1 => decide)
    | (with_reducible apply State.Keeps.step (State.sendF_keeps ..); on_goal 1 => decide)

theorem State.startSweep_keeps (s : State) : s.Keeps (pRegs ||| pJtl) (State.startSweep s) := by
  unfold State.startSweep
  repeat' first
    | with_reducible assumption
    | with_reducible apply State.Keeps.refl
    | (with_reducible apply State.Keeps.ite <;> intro _)
    | split
    | (with_reducible apply State.Keeps.step (State.modJtl_keeps ..); on_goal 1 => decide)
    | (with_reducible apply State.Keeps.step (State.put_keeps ..); on_goal 1 => decide)
    | (with_reducible apply State.Keeps.step (State.sendF_keeps ..); on_goal 1 => decide)

theorem State.enterSweep_keeps (s : State) (w : Sweep) : s.Keeps (pRegs ||| pJtl) (State.enterSweep s w) := by
  unfold State.enterSweep
  repeat' first
    | with_reducible assumption
    | with_reducible apply State.Keeps.refl
    | (with_reducible apply State.Keeps.step (State.modJtl_keeps ..); on_goal 1 => decide)
    | (with_reducible apply State.Keeps.step (State.raise_keeps ..); on_goal 1 => decide)
    | (with_reducible apply State.Keeps.step (State.put_keeps ..); on_goal 1 => decide)

theorem State.announceSweep_keeps (s : State) (idx : Nat) : s.Keeps (pRegs ||| pJtl) (State.announceSweep s idx) := by
  unfold State.announceSweep
  repeat' first
    | with_reducible assumption
    | with_reducible apply State.Keeps.refl
    | (extract_lets +onlyGivenNames t; (refine State.Keeps.cut (t := t) ?_ (fun _ => ?_)) <;> [subst t; clear_value t])
    | (extract_lets +onlyGivenNames x; first | clear_value x | subst x)
    | split
    | (with_reducible apply State.Keeps.step (State.modJtl_keeps ..); on_goal 1 => decide)
    | (with_reducible apply State.Keeps.step (State.wr_keeps ..); on_goal 1 => decide)
    | (with_reducible apply State.Keeps.step (State.enterSweep_keeps ..); on_goal 1 => decide)
    | (with_reducible apply State.Keeps.step (State.sendF_keeps ..); on_goal 1 => decide)

theorem State.sweepPast_keeps (s : State) (w : Sweep) (me : Nat) (d : Nat) : s.Keeps (pRegs ||| pFreeCtr ||| pRidge ||| pBat ||| pJtl) (State.sweepPast s w me d) := by
  unfold State.sweepPast
  repeat' first
    | with_reducible assumption
    | with_reducible apply State.Keeps.refl
    | (extract_lets +onlyGivenNames t; (refine State.Keeps.cut (t := t) ?_ (fun _ => ?_)) <;> [subst t; clear_value t])
    | (extract_lets +onlyGivenNames x; first | clear_value x | subst x)
    | (with_reducible apply State.Keeps.ite <;> intro _)
    | split
    | (with_reducible apply State.Keeps.step (State.assignPhases_keeps ..); on_goal 1 => decide)
    | (with_reducible apply State.Keeps.step (State.measureAll_keeps ..); on_goal 1 => decide)
    | (with_reducible apply State.Keeps.step (State.put_keeps ..); on_goal 1 => decide)
    | (with_reducible apply State.Keeps.step (State.sendResult_keeps ..); on_goal 1 => decide)

theorem State.sweepNow_keeps (s : State) (w : Sweep) (me : Nat) (d : Nat) : s.Keeps (pRegs ||| pRidge ||| pBat) (State.sweepNow s w me d) := by
  unfold State.sweepNow
  repeat' first
    | with_reducible assumption
    | with_reducible apply State.Keeps.refl
    | (extract_lets +onlyGivenNames t; (refine State.Keeps.cut (t := t) ?_ (fun _ => ?_)) <;> [subst t; clear_value t])
    | (extract_lets +onlyGivenNames x; first | clear_value x | subst x)
    | (with_reducible apply State.Keeps.ite <;> intro _)
    | split
    | (with_reducible apply State.Keeps.step (State.offer_keeps ..); on_goal 1 => decide)
    | (with_reducible apply State.Keeps.step (State.assignPhases_keeps ..); on_goal 1 => decide)
    | (with_reducible apply State.Keeps.step (State.put_keeps ..); on_goal 1 => decide)

theorem State.sweepAt_keeps (s : State) (w : Sweep) (a : Option Nat) : s.Keeps (pRegs ||| pFreeCtr ||| pRidge ||| pBat ||| pPorts ||| pJtl) (State.sweepAt s w a) := by
  unfold State.sweepAt
  repeat' first
    | with_reducible assumption
    | with_reducible apply State.Keeps.refl
    | (extract_lets +onlyGivenNames t; (refine State.Keeps.cut (t := t) ?_ (fun _ => ?_)) <;> [subst t; clear_value t])
    | (extract_lets +onlyGivenNames x; first | clear_value x | subst x)
    | (with_reducible apply State.Keeps.ite <;> intro _)
    | split
    | (with_reducible apply State.Keeps.step (State.endSweep_keeps ..); on_goal 1 => decide)
    | (with_reducible apply State.Keeps.step (State.placePorts_keeps ..); on_goal 1 => decide)
    | (with_reducible apply State.Keeps.step (State.sweepPast_keeps ..); on_goal 1 => decide)
    | (with_reducible apply State.Keeps.step (State.sweepNow_keeps ..); on_goal 1 => decide)

theorem State.sweepIndex_keeps (s : State) (idx : Nat) : s.Keeps (pRegs ||| pFreeCtr ||| pRidge ||| pBat ||| pPorts ||| pJtl) (State.sweepIndex s idx) := by
  unfold State.sweepIndex
  repeat' first
    | with_reducible assumption
    | with_reducible apply State.Keeps.refl
    | (with_reducible apply State.Keeps.ite <;> intro _)
    | split
    | (with_reducible apply State.Keeps.step (State.closeMeasure_keeps ..); on_goal 1 => decide)
    | (with_reducible apply State.Keeps.step (State.sweepAt_keeps ..); on_goal 1 => decide)

theorem State.setShare_keeps (s : State) (w : Nat) : s.Keeps (pRegs ||| pRidge) (State.setShare s w) := by
  unfold State.setShare
  repeat' first
    | with_reducible assumption
    | with_reducible apply State.Keeps.refl
    | (with_reducible apply State.Keeps.step (State.changeE_keeps ..); on_goal 1 => decide)
    | (with_reducible apply State.Keeps.step (State.put_keeps ..); on_goal 1 => decide)
    | (with_reducible apply State.Keeps.step (State.flag_keeps ..); on_goal 1 => decide)

theorem State.startFreeze_keeps (s : State) (byLead : Bool) : s.Keeps (pRegs ||| pBat ||| pPorts ||| pJtl) (State.startFreeze s byLead) := by
  unfold State.startFreeze
  repeat' first
    | with_reducible assumption
    | with_reducible apply State.Keeps.refl
    | (extract_lets +onlyGivenNames t; (refine State.Keeps.cut (t := t) ?_ (fun _ => ?_)) <;> [subst t; clear_value t])
    | (extract_lets +onlyGivenNames x; first | clear_value x | subst x)
    | (with_reducible apply State.Keeps.ite <;> intro _)
    | (with_reducible apply State.Keeps.step (State.fire_keeps ..); on_goal 1 => decide)
    | (with_reducible apply State.Keeps.step (State.modJtl_keeps ..); on_goal 1 => decide)
    | (with_reducible apply State.Keeps.step (State.raise_keeps ..); on_goal 1 => decide)
    | (with_reducible apply State.Keeps.step (State.abortAndTell_keeps ..); on_goal 1 => decide)

theorem State.endFreeze_keeps (s : State) : s.Keeps (pRegs ||| pRidge ||| pBat ||| pPorts ||| pJtl) (State.endFreeze s) := by
  unfold State.endFreeze
  repeat' first
    | with_reducible assumption
    | with_reducible apply State.Keeps.refl
    | (extract_lets +onlyGivenNames t; (refine State.Keeps.cut (t := t) ?_ (fun _ => ?_)) <;> [subst t; clear_value t])
    | (extract_lets +onlyGivenNames x; first | clear_value x | subst x)
    | (with_reducible apply State.Keeps.ite <;> intro _)
    | (with_reducible apply State.Keeps.step (State.modJtl_keeps ..); on_goal 1 => decide)
    | (with_reducible apply State.Keeps.step (State.clear_keeps ..); on_goal 1 => decide)
    | (with_reducible apply State.Keeps.step (State.resolveDeficit_keeps ..); on_goal 1 => decide)
    | (with_reducible apply State.Keeps.step (State.put_keeps ..); on_goal 1 => decide)

theorem State.countFreeze_keeps (s : State) : s.Keeps (pRegs ||| pRidge ||| pBat ||| pPorts ||| pJtl) (State.countFreeze s) := by
  unfold State.countFreeze
  repeat' first
    | with_reducible assumption
    | with_reducible apply State.Keeps.refl
    | (with_reducible apply State.Keeps.ite <;> intro _)
    | split
    | (with_reducible apply State.Keeps.step (State.modJtl_keeps ..); on_goal 1 => decide)
    | (with_reducible apply State.Keeps.step (State.endFreeze_keeps ..); on_goal 1 => decide)

theorem State.loseNodes_keeps (s : State) (nodes : Nat) (freeze : Bool) : s.Keeps (pRegs ||| pBat ||| pPorts ||| pJtl) (State.loseNodes s nodes freeze) := by
  unfold State.loseNodes
  repeat' first
    | with_reducible assumption
    | with_reducible apply State.Keeps.refl
    | (extract_lets +onlyGivenNames t; (refine State.Keeps.cut (t := t) ?_ (fun _ => ?_)) <;> [subst t; clear_value t])
    | (extract_lets +onlyGivenNames x; first | clear_value x | subst x)
    | (with_reducible apply State.Keeps.ite <;> intro _)
    | (with_reducible apply State.Keeps.step (State.modJtl_keeps ..); on_goal 1 => decide)
    | (with_reducible apply State.Keeps.step (State.wr_keeps ..); on_goal 1 => decide)
    | (with_reducible apply State.Keeps.step (State.startFreeze_keeps ..); on_goal 1 => decide)
    | (with_reducible apply State.Keeps.step (State.raise_keeps ..); on_goal 1 => decide)
    | with_reducible apply State.Keeps.foldl
    | with_reducible apply State.Keeps.foldl_fst
    | with_reducible apply State.Keeps.foldl_snd
    | (intro _; intros; beta_reduce)

theorem State.sendBest_keeps (s : State) (ports : Nat) : s.Keeps pJtl (State.sendBest s ports) := by
  unfold State.sendBest
  repeat' first
    | with_reducible assumption
    | with_reducible apply State.Keeps.refl
    | split
    | (with_reducible apply State.Keeps.step (State.sendF_keeps ..); on_goal 1 => decide)

theorem State.unlock_keeps (s : State) : s.Keeps (pRegs ||| pJtl) (State.unlock s) := by
  unfold State.unlock
  repeat' first
    | with_reducible assumption
    | with_reducible apply State.Keeps.refl
    | (with_reducible apply State.Keeps.step (State.modJtl_keeps ..); on_goal 1 => decide)
    | (with_reducible apply State.Keeps.step (State.clear_keeps ..); on_goal 1 => decide)
    | (with_reducible apply State.Keeps.step (State.leaveTick_keeps ..); on_goal 1 => decide)

theorem State.startElection_keeps (s : State) : s.Keeps (pRegs ||| pBat ||| pPorts ||| pJtl) (State.startElection s) := by
  unfold State.startElection
  repeat' first
    | with_reducible assumption
    | with_reducible apply State.Keeps.refl
    | (extract_lets +onlyGivenNames t; (refine State.Keeps.cut (t := t) ?_ (fun _ => ?_)) <;> [subst t; clear_value t])
    | (extract_lets +onlyGivenNames x; first | clear_value x | subst x)
    | (with_reducible apply State.Keeps.ite <;> intro _)
    | (with_reducible apply State.Keeps.step (State.modJtl_keeps ..); on_goal 1 => decide)
    | (with_reducible apply State.Keeps.step (State.clear_keeps ..); on_goal 1 => decide)
    | (with_reducible apply State.Keeps.step (State.sendBest_keeps ..); on_goal 1 => decide)
    | (with_reducible apply State.Keeps.step (State.raise_keeps ..); on_goal 1 => decide)
    | (with_reducible apply State.Keeps.step (State.abortAndTell_keeps ..); on_goal 1 => decide)
    | (with_reducible apply State.Keeps.step (State.unlock_keeps ..); on_goal 1 => decide)

theorem State.showLeader_keeps (s : State) (serial : BitVec 96) (weight : Nat) : s.Keeps pRegs (State.showLeader s serial weight) := by
  unfold State.showLeader
  repeat' first
    | with_reducible assumption
    | with_reducible apply State.Keeps.refl
    | (with_reducible apply State.Keeps.step (State.wr_keeps ..); on_goal 1 => decide)
    | (with_reducible apply State.Keeps.step (State.put_keeps ..); on_goal 1 => decide)
    | with_reducible apply State.Keeps.foldl
    | (intro _; intros; beta_reduce)

theorem State.becomeLeader_keeps (s : State) : s.Keeps (pRegs ||| pBat ||| pJtl) (State.becomeLeader s) := by
  unfold State.becomeLeader
  repeat' first
    | with_reducible assumption
    | with_reducible apply State.Keeps.refl
    | (extract_lets +onlyGivenNames t; (refine State.Keeps.cut (t := t) ?_ (fun _ => ?_)) <;> [subst t; clear_value t])
    | (extract_lets +onlyGivenNames x; first | clear_value x | subst x)
    | (with_reducible apply State.Keeps.ite <;> intro _)
    | (with_reducible apply State.Keeps.step (State.fire_keeps ..); on_goal 1 => decide)
    | (with_reducible apply State.Keeps.step (State.clearNodes_keeps ..); on_goal 1 => decide)
    | (with_reducible apply State.Keeps.step (State.modJtl_keeps ..); on_goal 1 => decide)
    | (with_reducible apply State.Keeps.step (State.clear_keeps ..); on_goal 1 => decide)
    | (with_reducible apply State.Keeps.step (State.raise_keeps ..); on_goal 1 => decide)
    | (with_reducible apply State.Keeps.step (State.put_keeps ..); on_goal 1 => decide)
    | (with_reducible apply State.Keeps.step (State.showLeader_keeps ..); on_goal 1 => decide)
    | (with_reducible apply State.Keeps.step (State.setNode_keeps ..); on_goal 1 => decide)

theorem State.takeLeader_keeps (s : State) (serial : BitVec 96) (weight : Nat) (hops : Nat) : s.Keeps (pRegs ||| pBat ||| pPorts ||| pJtl) (State.takeLeader s serial weight hops) := by
  unfold State.takeLeader
  repeat' first
    | with_reducible assumption
    | with_reducible apply State.Keeps.refl
    | (extract_lets +onlyGivenNames t; (refine State.Keeps.cut (t := t) ?_ (fun _ => ?_)) <;> [subst t; clear_value t])
    | (extract_lets +onlyGivenNames x; first | clear_value x | subst x)
    | (with_reducible apply State.Keeps.step (State.clearNodes_keeps ..); on_goal 1 => decide)
    | (with_reducible apply State.Keeps.step (State.modJtl_keeps ..); on_goal 1 => decide)
    | (with_reducible apply State.Keeps.step (State.clear_keeps ..); on_goal 1 => decide)
    | (with_reducible apply State.Keeps.step (State.sendMember_keeps ..); on_goal 1 => decide)
    | (with_reducible apply State.Keeps.step (State.put_keeps ..); on_goal 1 => decide)
    | (with_reducible apply State.Keeps.step (State.showLeader_keeps ..); on_goal 1 => decide)
    | (with_reducible apply State.Keeps.step (State.abortAndTell_keeps ..); on_goal 1 => decide)
    | (with_reducible apply State.Keeps.step (State.unlock_keeps ..); on_goal 1 => decide)
    | (with_reducible apply State.Keeps.step (State.rejoined_keeps ..); on_goal 1 => decide)
    | (with_reducible apply State.Keeps.step (State.setNode_keeps ..); on_goal 1 => decide)

theorem State.takeDemand_keeps (s : State) : s.Keeps pJtl (State.takeDemand s) := by
  unfold State.takeDemand
  repeat' first
    | with_reducible assumption
    | with_reducible apply State.Keeps.refl
    | (with_reducible apply State.Keeps.step (State.modJtl_keeps ..); on_goal 1 => decide)

theorem State.sendDemand_keeps (s : State) : s.Keeps pJtl (State.sendDemand s) := by
  unfold State.sendDemand
  repeat' first
    | with_reducible assumption
    | with_reducible apply State.Keeps.refl
    | (extract_lets +onlyGivenNames t; (refine State.Keeps.cut (t := t) ?_ (fun _ => ?_)) <;> [subst t; clear_value t])
    | (extract_lets +onlyGivenNames x; first | clear_value x | subst x)
    | (with_reducible apply State.Keeps.ite <;> intro _)
    | (with_reducible apply State.Keeps.step (State.sendF_keeps ..); on_goal 1 => decide)

theorem State.sendShares_keeps (s : State) (apply : Nat) (l : List (Nat × Nat)) : s.Keeps (pRegs ||| pJtl) (State.sendShares s apply l) := by
  unfold State.sendShares
  repeat' first
    | with_reducible assumption
    | with_reducible apply State.Keeps.refl
    | (extract_lets +onlyGivenNames t; (refine State.Keeps.cut (t := t) ?_ (fun _ => ?_)) <;> [subst t; clear_value t])
    | (extract_lets +onlyGivenNames x; first | clear_value x | subst x)
    | (with_reducible apply State.Keeps.step (State.modJtl_keeps ..); on_goal 1 => decide)
    | (with_reducible apply State.Keeps.step (State.put_keeps ..); on_goal 1 => decide)
    | (with_reducible apply State.Keeps.step (State.sendF_keeps ..); on_goal 1 => decide)
    | with_reducible apply State.Keeps.foldl
    | with_reducible apply State.Keeps.foldl_fst
    | with_reducible apply State.Keeps.foldl_snd
    | (intro _; intros; beta_reduce)

theorem State.publishShares_keeps (s : State) (idx : Nat) : s.Keeps (pRegs ||| pJtl) (State.publishShares s idx) := by
  unfold State.publishShares
  repeat' first
    | with_reducible assumption
    | with_reducible apply State.Keeps.refl
    | (extract_lets +onlyGivenNames t; (refine State.Keeps.cut (t := t) ?_ (fun _ => ?_)) <;> [subst t; clear_value t])
    | (extract_lets +onlyGivenNames x; first | clear_value x | subst x)
    | (with_reducible apply State.Keeps.ite <;> intro _)
    | split
    | (with_reducible apply State.Keeps.step (State.sendShares_keeps ..); on_goal 1 => decide)
    | (with_reducible apply State.Keeps.step (State.put_keeps ..); on_goal 1 => decide)
    | (with_reducible apply State.Keeps.step (State.flag_keeps ..); on_goal 1 => decide)
    | with_reducible apply State.Keeps.foldl
    | with_reducible apply State.Keeps.foldl_fst
    | with_reducible apply State.Keeps.foldl_snd
    | (intro _; intros; beta_reduce)

theorem State.applyShare_keeps (s : State) (idx : Nat) : s.Keeps (pRegs ||| pRidge ||| pBat ||| pJtl) (State.applyShare s idx) := by
  unfold State.applyShare
  repeat' first
    | with_reducible assumption
    | with_reducible apply State.Keeps.refl
    | (extract_lets +onlyGivenNames t; (refine State.Keeps.cut (t := t) ?_ (fun _ => ?_)) <;> [subst t; clear_value t])
    | (extract_lets +onlyGivenNames x; first | clear_value x | subst x)
    | (with_reducible apply State.Keeps.ite <;> intro _)
    | split
    | (with_reducible apply State.Keeps.step (State.modJtl_keeps ..); on_goal 1 => decide)
    | (with_reducible apply State.Keeps.step (State.offer_keeps ..); on_goal 1 => decide)

theorem State.applyPhases_keeps (s : State) (idx : Nat) : s.Keeps (pRegs ||| pRidge ||| pBat ||| pJtl) (State.applyPhases s idx) := by
  unfold State.applyPhases
  repeat' first
    | with_reducible assumption
    | with_reducible apply State.Keeps.refl
    | (extract_lets +onlyGivenNames t; (refine State.Keeps.cut (t := t) ?_ (fun _ => ?_)) <;> [subst t; clear_value t])
    | (extract_lets +onlyGivenNames x; first | clear_value x | subst x)
    | (with_reducible apply State.Keeps.ite <;> intro _)
    | split
    | (with_reducible apply State.Keeps.step (State.modJtl_keeps ..); on_goal 1 => decide)
    | (with_reducible apply State.Keeps.step (State.assignPhases_keeps ..); on_goal 1 => decide)

theorem State.publishPhases_keeps (s : State) (idx : Nat) : s.Keeps pJtl (State.publishPhases s idx) := by
  unfold State.publishPhases
  repeat' first
    | with_reducible assumption
    | with_reducible apply State.Keeps.refl
    | (extract_lets +onlyGivenNames t; (refine State.Keeps.cut (t := t) ?_ (fun _ => ?_)) <;> [subst t; clear_value t])
    | (extract_lets +onlyGivenNames x; first | clear_value x | subst x)
    | (with_reducible apply State.Keeps.ite <;> intro _)
    | split
    | (with_reducible apply State.Keeps.step (State.modJtl_keeps ..); on_goal 1 => decide)
    | (with_reducible apply State.Keeps.step (State.sendF_keeps ..); on_goal 1 => decide)
    | with_reducible apply State.Keeps.foldl
    | with_reducible apply State.Keeps.foldl_fst
    | with_reducible apply State.Keeps.foldl_snd
    | (intro _; intros; beta_reduce)

theorem State.slipLeads_keeps (s : State) (ticks : Int) : s.Keeps pSlices (State.slipLeads s ticks) := by
  unfold State.slipLeads
  repeat' first
    | with_reducible assumption
    | with_reducible apply State.Keeps.refl
    | (with_reducible apply State.Keeps.ite <;> intro _)
    | (with_reducible apply State.Keeps.step (State.modSlice_keeps ..); on_goal 1 => decide)
    | with_reducible apply State.Keeps.foldl
    | (intro _; intros; beta_reduce)

theorem State.dropSlips_keeps (s : State) : s.Keeps pSlices (State.dropSlips s) := by
  unfold State.dropSlips
  repeat' first
    | with_reducible assumption
    | with_reducible apply State.Keeps.refl
    | (with_reducible apply State.Keeps.step (State.modSlice_keeps ..); on_goal 1 => decide)
    | with_reducible apply State.Keeps.foldl
    | (intro _; intros; beta_reduce)

theorem State.atIndex_keeps (s : State) (idx : Nat) : s.Keeps (pRegs ||| pFreeCtr ||| pRidge ||| pBat ||| pPorts ||| pJtl) (State.atIndex s idx) := by
  unfold State.atIndex
  repeat' first
    | with_reducible assumption
    | with_reducible apply State.Keeps.refl
    | (extract_lets +onlyGivenNames t; (refine State.Keeps.cut (t := t) ?_ (fun _ => ?_)) <;> [subst t; clear_value t])
    | (extract_lets +onlyGivenNames x; first | clear_value x | subst x)
    | (with_reducible apply State.Keeps.ite <;> intro _)
    | (with_reducible apply State.Keeps.step (State.modJtl_keeps ..); on_goal 1 => decide)
    | (with_reducible apply State.Keeps.step (State.countFreeze_keeps ..); on_goal 1 => decide)
    | (with_reducible apply State.Keeps.step (State.applyPhases_keeps ..); on_goal 1 => decide)
    | (with_reducible apply State.Keeps.step (State.put_keeps ..); on_goal 1 => decide)
    | (with_reducible apply State.Keeps.step (State.sweepIndex_keeps ..); on_goal 1 => decide)
    | (with_reducible apply State.Keeps.step (State.sendF_keeps ..); on_goal 1 => decide)
    | (with_reducible apply State.Keeps.step (State.applyShare_keeps ..); on_goal 1 => decide)

theorem State.setUnsync_keeps (s : State) (on : Bool) : s.Keeps (pRegs ||| pSlices) (State.setUnsync s on) := by
  unfold State.setUnsync
  repeat' first
    | with_reducible assumption
    | with_reducible apply State.Keeps.refl
    | (with_reducible apply State.Keeps.ite <;> intro _)
    | (with_reducible apply State.Keeps.step (State.clear_keeps ..); on_goal 1 => decide)
    | (with_reducible apply State.Keeps.step (State.dropSlips_keeps ..); on_goal 1 => decide)
    | (with_reducible apply State.Keeps.step (State.raise_keeps ..); on_goal 1 => decide)
    | (with_reducible apply State.Keeps.step (State.leaveTick_keeps ..); on_goal 1 => decide)

theorem State.assignNodes_keeps (s : State) : s.Keeps (pRegs ||| pJtl) (State.assignNodes s) := by
  unfold State.assignNodes
  repeat' first
    | with_reducible assumption
    | with_reducible apply State.Keeps.refl
    | (extract_lets +onlyGivenNames t; (refine State.Keeps.cut (t := t) ?_ (fun _ => ?_)) <;> [subst t; clear_value t])
    | (extract_lets +onlyGivenNames x; first | clear_value x | subst x)
    | split
    | (with_reducible apply State.Keeps.step (State.modJtl_keeps ..); on_goal 1 => decide)
    | (with_reducible apply State.Keeps.step (State.sendF_keeps ..); on_goal 1 => decide)
    | (with_reducible apply State.Keeps.step (State.setNode_keeps ..); on_goal 1 => decide)
    | with_reducible apply State.Keeps.foldl
    | with_reducible apply State.Keeps.foldl_fst
    | with_reducible apply State.Keeps.foldl_snd
    | (intro _; intros; beta_reduce)

theorem State.checkDemands_keeps (s : State) : s.Keeps (pRegs ||| pBat ||| pPorts ||| pJtl) (State.checkDemands s) := by
  unfold State.checkDemands
  repeat' first
    | with_reducible assumption
    | with_reducible apply State.Keeps.refl
    | (extract_lets +onlyGivenNames t; (refine State.Keeps.cut (t := t) ?_ (fun _ => ?_)) <;> [subst t; clear_value t])
    | (extract_lets +onlyGivenNames x; first | clear_value x | subst x)
    | (with_reducible apply State.Keeps.ite <;> intro _)
    | split
    | (with_reducible apply State.Keeps.step (State.modJtl_keeps ..); on_goal 1 => decide)
    | (with_reducible apply State.Keeps.step (State.loseNodes_keeps ..); on_goal 1 => decide)
    | with_reducible apply State.Keeps.foldl
    | with_reducible apply State.Keeps.foldl_fst
    | with_reducible apply State.Keeps.foldl_snd
    | (intro _; intros; beta_reduce)

theorem State.sendIndex_keeps (s : State) (idx : Nat) (frzrem : Nat) : s.Keeps pJtl (State.sendIndex s idx frzrem) := by
  unfold State.sendIndex
  repeat' first
    | with_reducible assumption
    | with_reducible apply State.Keeps.refl
    | (extract_lets +onlyGivenNames t; (refine State.Keeps.cut (t := t) ?_ (fun _ => ?_)) <;> [subst t; clear_value t])
    | (extract_lets +onlyGivenNames x; first | clear_value x | subst x)
    | (with_reducible apply State.Keeps.step (State.sendF_keeps ..); on_goal 1 => decide)

end Sys2Proof.Machine
end

