-- ==== Sys2Proof/Laws/Judge.lean ====
section
/-!
SUPPORT. What the operations of Machine/Judge.lean may change, one lemma each.
-/

set_option linter.unusedTactic false
set_option linter.unreachableTactic false
set_option linter.tactic.unusedName false

namespace Sys2Proof.Machine

theorem State.modHp_keeps (s : State) (hp : HostPort) (f : HpSt → HpSt) : s.Keeps pHost (State.modHp s hp f) := by
  unfold State.modHp
  repeat' first
    | with_reducible assumption
    | with_reducible apply State.Keeps.refl
    | (with_reducible apply State.Keeps.step (State.modHost_keeps ..); on_goal 1 => decide)

theorem State.endWith_keeps (s : State) (hp : HostPort) (code : Nat) (detail : Nat) (gen : Nat) : s.Keeps (pRegs ||| pHost) (State.endWith s hp code detail gen) := by
  unfold State.endWith
  repeat' first
    | with_reducible assumption
    | with_reducible apply State.Keeps.refl
    | (extract_lets +onlyGivenNames t; (refine State.Keeps.cut (t := t) ?_ (fun _ => ?_)) <;> [subst t; clear_value t])
    | (extract_lets +onlyGivenNames x; first | clear_value x | subst x)
    | (with_reducible apply State.Keeps.ite <;> intro _)
    | (with_reducible apply State.Keeps.step (State.modHp_keeps ..); on_goal 1 => decide)
    | (with_reducible apply State.Keeps.step (State.put_keeps ..); on_goal 1 => decide)

theorem State.endOne_keeps (s : State) (id : Nat) (hp : HostPort) (code : Nat) (detail : Nat) (gen : Nat) : s.Keeps (pRegs ||| pHost) (State.endOne s id hp code detail gen) := by
  unfold State.endOne
  repeat' first
    | with_reducible assumption
    | with_reducible apply State.Keeps.refl
    | (extract_lets +onlyGivenNames t; (refine State.Keeps.cut (t := t) ?_ (fun _ => ?_)) <;> [subst t; clear_value t])
    | (extract_lets +onlyGivenNames x; first | clear_value x | subst x)
    | (with_reducible apply State.Keeps.ite <;> intro _)
    | (with_reducible apply State.Keeps.step (State.endWith_keeps ..); on_goal 1 => decide)
    | (with_reducible apply State.Keeps.step (State.modHost_keeps ..); on_goal 1 => decide)

theorem State.endTxn_keeps (s : State) (id : Nat) (hp : HostPort) (code : Nat) (detail : Nat) (gen : Nat) : s.Keeps (pRegs ||| pHost) (State.endTxn s id hp code detail gen) := by
  unfold State.endTxn
  repeat' first
    | with_reducible assumption
    | with_reducible apply State.Keeps.refl
    | (extract_lets +onlyGivenNames t; (refine State.Keeps.cut (t := t) ?_ (fun _ => ?_)) <;> [subst t; clear_value t])
    | (extract_lets +onlyGivenNames x; first | clear_value x | subst x)
    | (with_reducible apply State.Keeps.step (State.endOne_keeps ..); on_goal 1 => decide)
    | (with_reducible apply State.Keeps.step (State.modHost_keeps ..); on_goal 1 => decide)
    | with_reducible apply State.Keeps.foldl
    | (intro _; intros; beta_reduce)

theorem State.refuseTxn_keeps (s : State) (hp : HostPort) (code : Nat) (detail : Nat) (level : Nat) (a : Nat) : s.Keeps (pRegs ||| pHost ||| pBat) (State.refuseTxn s hp code detail level a) := by
  unfold State.refuseTxn
  repeat' first
    | with_reducible assumption
    | with_reducible apply State.Keeps.refl
    | (extract_lets +onlyGivenNames t; (refine State.Keeps.cut (t := t) ?_ (fun _ => ?_)) <;> [subst t; clear_value t])
    | (extract_lets +onlyGivenNames x; first | clear_value x | subst x)
    | (with_reducible apply State.Keeps.ite <;> intro _)
    | (with_reducible apply State.Keeps.step (State.fire_keeps ..); on_goal 1 => decide)
    | (with_reducible apply State.Keeps.step (State.satInc_keeps ..); on_goal 1 => decide)
    | (with_reducible apply State.Keeps.step (State.raise_keeps ..); on_goal 1 => decide)
    | (with_reducible apply State.Keeps.step (State.endWith_keeps ..); on_goal 1 => decide)

theorem State.commandWords_keeps {s₀ s : State} {hp : HostPort} {ws : List (Nat × Word)} {effect : State → State × Nat} {m : Nat} (hm : (pRegs ||| pHost ||| pRidge ||| pBat ||| pPorts) ||| m = m) (heffect : ∀ u, s₀.Keeps m u → s₀.Keeps m (effect u).1) (hs : s₀.Keeps m s) :
    s₀.Keeps m (State.commandWords s hp ws effect) := by
  unfold State.commandWords
  repeat' first
    | with_reducible assumption
    | (extract_lets +onlyGivenNames t; (refine State.Keeps.cut (t := t) ?_ (fun _ => ?_)) <;> [subst t; clear_value t])
    | (extract_lets +onlyGivenNames x; subst x)
    | (with_reducible apply State.Keeps.ite <;> intro _)
    | split
    | with_reducible apply heffect
    | (with_reducible apply State.Keeps.step (State.passOp_keeps ..); on_goal 1 => exact or_sub (by decide) hm)
    | (with_reducible apply State.Keeps.step (State.refuseTxn_keeps ..); on_goal 1 => exact or_sub (by decide) hm)
    | (with_reducible apply State.Keeps.step (State.endSlot_keeps ..); on_goal 1 => exact or_sub (by decide) hm)
    | (with_reducible apply State.Keeps.step (State.endWith_keeps ..); on_goal 1 => exact or_sub (by decide) hm)
    | (with_reducible apply State.Keeps.step (State.pushAll_keeps_of (by assumption)); on_goal 1 => exact or_sub (by decide) hm)
    | (with_reducible apply State.Keeps.step (State.modHost_keeps ..); on_goal 1 => exact or_sub (by decide) hm)
    | with_reducible apply State.Keeps.foldl
    | with_reducible apply State.Keeps.foldl_fst
    | with_reducible apply State.Keeps.foldl_snd
    | (intro _; intros; beta_reduce)

theorem State.commandSt_keeps {s₀ s : State} {hp : HostPort} {a : Nat} {v : Word} {effect : State → State × Nat} {m : Nat} (hm : (pRegs ||| pHost ||| pRidge ||| pBat ||| pPorts) ||| m = m) (heffect : ∀ u, s₀.Keeps m u → s₀.Keeps m (effect u).1) (hs : s₀.Keeps m s) :
    s₀.Keeps m (State.commandSt s hp a v effect) := by
  unfold State.commandSt
  repeat' first
    | with_reducible assumption
    | with_reducible apply heffect
    | (with_reducible apply State.commandWords_keeps; on_goal 1 => exact or_sub (by decide) hm)
    | (intro _; intros; beta_reduce)

theorem State.commandAll_keeps {s₀ s : State} {hp : HostPort} {ws : List (Nat × Word)} {effect : State → State} {m : Nat} (hm : (pRegs ||| pHost ||| pRidge ||| pBat ||| pPorts) ||| m = m) (heffect : ∀ u, s₀.Keeps m u → s₀.Keeps m (effect u)) (hs : s₀.Keeps m s) :
    s₀.Keeps m (State.commandAll s hp ws effect) := by
  unfold State.commandAll
  repeat' first
    | with_reducible assumption
    | with_reducible apply heffect
    | (with_reducible apply State.commandWords_keeps; on_goal 1 => exact or_sub (by decide) hm)
    | (intro _; intros; beta_reduce)

theorem State.command_keeps {s₀ s : State} {hp : HostPort} {a : Nat} {v : Word} {effect : State → State} {m : Nat} (hm : (pRegs ||| pHost ||| pRidge ||| pBat ||| pPorts) ||| m = m) (heffect : ∀ u, s₀.Keeps m u → s₀.Keeps m (effect u)) (hs : s₀.Keeps m s) :
    s₀.Keeps m (State.command s hp a v effect) := by
  unfold State.command
  repeat' first
    | with_reducible assumption
    | with_reducible apply heffect
    | (with_reducible apply State.commandSt_keeps; on_goal 1 => exact or_sub (by decide) hm)
    | (intro _; intros; beta_reduce)

theorem State.enterTxn_keeps (s : State) (t : Txn) : s.Keeps (pRegs ||| pHost ||| pRidge) (State.enterTxn s t) := by
  unfold State.enterTxn
  repeat' first
    | with_reducible assumption
    | with_reducible apply State.Keeps.refl
    | (extract_lets +onlyGivenNames t; (refine State.Keeps.cut (t := t) ?_ (fun _ => ?_)) <;> [subst t; clear_value t])
    | (extract_lets +onlyGivenNames x; first | clear_value x | subst x)
    | (with_reducible apply State.Keeps.ite <;> intro _)
    | split
    | (with_reducible apply State.Keeps.step (State.pushAll_keeps_of (by assumption)); on_goal 1 => decide)
    | (with_reducible apply State.Keeps.step (State.modHost_keeps ..); on_goal 1 => decide)
    | (with_reducible apply State.Keeps.step (State.endTxn_keeps ..); on_goal 1 => decide)

theorem State.accept_keeps (s : State) (hp : HostPort) (guard : Option (BitVec 16)) (ws : List (Nat × Word)) : s.Keeps (pRegs ||| pHost) (State.accept s hp guard ws) := by
  unfold State.accept
  repeat' first
    | with_reducible assumption
    | with_reducible apply State.Keeps.refl
    | (extract_lets +onlyGivenNames t; (refine State.Keeps.cut (t := t) ?_ (fun _ => ?_)) <;> [subst t; clear_value t])
    | (extract_lets +onlyGivenNames x; first | clear_value x | subst x)
    | (with_reducible apply State.Keeps.step (State.endWith_keeps ..); on_goal 1 => decide)
    | (with_reducible apply State.Keeps.step (State.modHost_keeps ..); on_goal 1 => decide)

theorem State.tellLoss_keeps (s : State) (winner : HostPort) (o : Order) (detail : Nat) : s.Keeps (pRegs ||| pBat) (State.tellLoss s winner o detail) := by
  unfold State.tellLoss
  repeat' first
    | with_reducible assumption
    | with_reducible apply State.Keeps.refl
    | (with_reducible apply State.Keeps.step (State.fire_keeps ..); on_goal 1 => decide)
    | (with_reducible apply State.Keeps.step (State.satInc_keeps ..); on_goal 1 => decide)
    | (with_reducible apply State.Keeps.step (State.raise_keeps ..); on_goal 1 => decide)

theorem State.loseTxn_keeps (s : State) (winner : HostPort) (o : Order) (detail : Nat) : s.Keeps (pRegs ||| pHost ||| pBat) (State.loseTxn s winner o detail) := by
  unfold State.loseTxn
  repeat' first
    | with_reducible assumption
    | with_reducible apply State.Keeps.refl
    | (extract_lets +onlyGivenNames t; (refine State.Keeps.cut (t := t) ?_ (fun _ => ?_)) <;> [subst t; clear_value t])
    | (extract_lets +onlyGivenNames x; first | clear_value x | subst x)
    | (with_reducible apply State.Keeps.ite <;> intro _)
    | (with_reducible apply State.Keeps.step (State.tellLoss_keeps ..); on_goal 1 => decide)
    | (with_reducible apply State.Keeps.step (State.modHost_keeps ..); on_goal 1 => decide)
    | (with_reducible apply State.Keeps.step (State.endTxn_keeps ..); on_goal 1 => decide)

theorem State.orderWon_keeps (s : State) (id : Nat) : s.Keeps (pRegs ||| pHost ||| pRidge) (State.orderWon s id) := by
  unfold State.orderWon
  repeat' first
    | with_reducible assumption
    | with_reducible apply State.Keeps.refl
    | (with_reducible apply State.Keeps.ite <;> intro _)
    | split
    | (with_reducible apply State.Keeps.step (State.enterTxn_keeps ..); on_goal 1 => decide)
    | (with_reducible apply State.Keeps.step (State.modHost_keeps ..); on_goal 1 => decide)

end Sys2Proof.Machine
end

