-- ==== Sys2Proof/Laws/MtrOps.lean ====
section
/-!
SUPPORT. What the operations of Machine/MtrOps.lean may change, one lemma each.
-/

set_option linter.unusedTactic false
set_option linter.unreachableTactic false
set_option linter.tactic.unusedName false

namespace Sys2Proof.Machine

theorem State.modMtr_keeps (s : State) (f : MtrSt → MtrSt) : s.Keeps pMtr (State.modMtr s f) := by
  unfold State.modMtr
  repeat' first
    | with_reducible assumption
    | with_reducible apply State.Keeps.refl
    | (with_reducible apply State.Keeps.with_mtr; on_goal 1 => decide)

theorem State.modSlate_keeps (s : State) (f : SlateSt → SlateSt) : s.Keeps pSlate (State.modSlate s f) := by
  unfold State.modSlate
  repeat' first
    | with_reducible assumption
    | with_reducible apply State.Keeps.refl
    | (with_reducible apply State.Keeps.with_slate; on_goal 1 => decide)

theorem State.modMeter_keeps (s : State) (n : Fin 16) (f : MeterPort → MeterPort) : s.Keeps pMtr (State.modMeter s n f) := by
  unfold State.modMeter
  repeat' first
    | with_reducible assumption
    | with_reducible apply State.Keeps.refl
    | (with_reducible apply State.Keeps.step (State.modMtr_keeps ..); on_goal 1 => decide)

theorem State.addEnergy_keeps (s : State) (n : Fin 16) (e : Nat) : s.Keeps pMtr (State.addEnergy s n e) := by
  unfold State.addEnergy
  repeat' first
    | with_reducible assumption
    | with_reducible apply State.Keeps.refl
    | (extract_lets +onlyGivenNames t; (refine State.Keeps.cut (t := t) ?_ (fun _ => ?_)) <;> [subst t; clear_value t])
    | (extract_lets +onlyGivenNames x; first | clear_value x | subst x)
    | (with_reducible apply State.Keeps.ite <;> intro _)
    | (with_reducible apply State.Keeps.step (State.modMeter_keeps ..); on_goal 1 => decide)

theorem State.takeReport_keeps (s : State) (n : Fin 16) (r : Option Int) : s.Keeps (pRegs ||| pMtr) (State.takeReport s n r) := by
  unfold State.takeReport
  repeat' first
    | with_reducible assumption
    | with_reducible apply State.Keeps.refl
    | (extract_lets +onlyGivenNames t; (refine State.Keeps.cut (t := t) ?_ (fun _ => ?_)) <;> [subst t; clear_value t])
    | (extract_lets +onlyGivenNames x; first | clear_value x | subst x)
    | (with_reducible apply State.Keeps.ite <;> intro _)
    | split
    | (with_reducible apply State.Keeps.step (State.satInc_keeps ..); on_goal 1 => decide)
    | (with_reducible apply State.Keeps.step (State.modMeter_keeps ..); on_goal 1 => decide)
    | (with_reducible apply State.Keeps.step (State.flag_keeps ..); on_goal 1 => decide)
    | (with_reducible apply State.Keeps.step (State.modMtr_keeps ..); on_goal 1 => decide)
    | (with_reducible apply State.Keeps.step (State.addEnergy_keeps ..); on_goal 1 => decide)

theorem State.takeReports_keeps (s : State) (rs : List (Option Int)) : s.Keeps (pRegs ||| pMtr) (State.takeReports s rs) := by
  unfold State.takeReports
  repeat' first
    | with_reducible assumption
    | with_reducible apply State.Keeps.refl
    | (with_reducible apply State.Keeps.step (State.takeReport_keeps ..); on_goal 1 => decide)
    | with_reducible apply State.Keeps.foldl
    | (intro _; intros; beta_reduce)

theorem State.logAt_keeps (s : State) (ty : Nat) (payload : List Word) (stamp : Nat × Nat) : s.Keeps (pRegs ||| pSlate) (State.logAt s ty payload stamp) := by
  unfold State.logAt
  repeat' first
    | with_reducible assumption
    | with_reducible apply State.Keeps.refl
    | (with_reducible apply State.Keeps.ite <;> intro _)
    | (with_reducible apply State.Keeps.step (State.modSlate_keeps ..); on_goal 1 => decide)
    | (with_reducible apply State.Keeps.step (State.raise_keeps ..); on_goal 1 => decide)

theorem State.log_keeps (s : State) (ty : Nat) (payload : List Word) : s.Keeps (pRegs ||| pSlate) (State.log s ty payload) := by
  unfold State.log
  repeat' first
    | with_reducible assumption
    | with_reducible apply State.Keeps.refl
    | (with_reducible apply State.Keeps.step (State.logAt_keeps ..); on_goal 1 => decide)

theorem State.logFault_keeps (s : State) (kind : Nat) (data : Nat) : s.Keeps (pRegs ||| pSlate) (State.logFault s kind data) := by
  unfold State.logFault
  repeat' first
    | with_reducible assumption
    | with_reducible apply State.Keeps.refl
    | (with_reducible apply State.Keeps.step (State.log_keeps ..); on_goal 1 => decide)

theorem State.energyTaken_keeps (s : State) : s.Keeps pMtr (State.energyTaken s) := by
  unfold State.energyTaken
  repeat' first
    | with_reducible assumption
    | with_reducible apply State.Keeps.refl
    | (with_reducible apply State.Keeps.step (State.modMeter_keeps ..); on_goal 1 => decide)
    | (with_reducible apply State.Keeps.step (State.modMtr_keeps ..); on_goal 1 => decide)
    | with_reducible apply State.Keeps.foldl
    | (intro _; intros; beta_reduce)

theorem State.logEnergy_keeps (s : State) : s.Keeps (pRegs ||| pMtr ||| pSlate) (State.logEnergy s) := by
  unfold State.logEnergy
  repeat' first
    | with_reducible assumption
    | with_reducible apply State.Keeps.refl
    | (with_reducible apply State.Keeps.step (State.energyTaken_keeps ..); on_goal 1 => decide)
    | (with_reducible apply State.Keeps.step (State.log_keeps ..); on_goal 1 => decide)

theorem State.showRing_keeps (s : State) : s.Keeps pRegs (State.showRing s) := by
  unfold State.showRing
  repeat' first
    | with_reducible assumption
    | with_reducible apply State.Keeps.refl
    | (extract_lets +onlyGivenNames t; (refine State.Keeps.cut (t := t) ?_ (fun _ => ?_)) <;> [subst t; clear_value t])
    | (extract_lets +onlyGivenNames x; first | clear_value x | subst x)
    | (with_reducible apply State.Keeps.ite <;> intro _)
    | split
    | (with_reducible apply State.Keeps.step (State.raise_keeps ..); on_goal 1 => decide)
    | (with_reducible apply State.Keeps.step (State.put_keeps ..); on_goal 1 => decide)

theorem State.ringWrite_keeps_of {s t : State} {r : LogRec} {force : Bool} (h : s.ringWrite r force = some t) : s.Keeps (pRegs ||| pSlate) t := by
  unfold State.ringWrite at h
  split at h
  · cases h
  · simp only [Option.some.injEq] at h
    subst h
    split
    · exact .step (State.clear_keeps ..) (by decide) (.step (State.showRing_keeps ..) (by decide) (.step (State.wrapInc_keeps ..) (by decide)
        ((State.modSlate_keeps ..).mono (by decide))))
    · exact .step (State.showRing_keeps ..) (by decide) (.step (State.wrapInc_keeps ..) (by decide) ((State.modSlate_keeps ..).mono (by decide)))

theorem State.slateWindow_keeps (s : State) (off : Nat) : s.Keeps pRegs (State.slateWindow s off) := by
  unfold State.slateWindow
  repeat' first
    | with_reducible assumption
    | with_reducible apply State.Keeps.refl
    | (with_reducible apply State.Keeps.step (State.wr_keeps ..); on_goal 1 => decide)
    | (with_reducible apply State.Keeps.step (State.raise_keeps ..); on_goal 1 => decide)
    | with_reducible apply State.Keeps.foldl
    | (intro _; intros; beta_reduce)

theorem State.switchBand_keeps (s : State) (mask : Nat) (band : Nat) : s.Keeps (pRegs ||| pBat ||| pMtr ||| pSlate) (State.switchBand s mask band) := by
  unfold State.switchBand
  repeat' first
    | with_reducible assumption
    | with_reducible apply State.Keeps.refl
    | (extract_lets +onlyGivenNames t; (refine State.Keeps.cut (t := t) ?_ (fun _ => ?_)) <;> [subst t; clear_value t])
    | (extract_lets +onlyGivenNames x; first | clear_value x | subst x)
    | (with_reducible apply State.Keeps.ite <;> intro _)
    | split
    | (with_reducible apply State.Keeps.step (State.fire_keeps ..); on_goal 1 => decide)
    | (with_reducible apply State.Keeps.step (State.modMeter_keeps ..); on_goal 1 => decide)
    | (with_reducible apply State.Keeps.step (State.logAt_keeps ..); on_goal 1 => decide)
    | (with_reducible apply State.Keeps.step (State.put_keeps ..); on_goal 1 => decide)
    | (with_reducible apply State.Keeps.step (State.modMtr_keeps ..); on_goal 1 => decide)
    | with_reducible apply State.Keeps.foldl
    | (intro _; intros; beta_reduce)

theorem State.rebandAll_keeps (s : State) : s.Keeps (pRegs ||| pBat ||| pMtr ||| pSlate) (State.rebandAll s) := by
  unfold State.rebandAll
  repeat' first
    | with_reducible assumption
    | with_reducible apply State.Keeps.refl
    | (extract_lets +onlyGivenNames t; (refine State.Keeps.cut (t := t) ?_ (fun _ => ?_)) <;> [subst t; clear_value t])
    | (extract_lets +onlyGivenNames x; first | clear_value x | subst x)
    | (with_reducible apply State.Keeps.ite <;> intro _)
    | (with_reducible apply State.Keeps.step (State.switchBand_keeps ..); on_goal 1 => decide)
    | with_reducible apply State.Keeps.foldl
    | (intro _; intros; beta_reduce)

theorem State.closeIv_keeps (s : State) (tstep : Bool) : s.Keeps (pRegs ||| pBat ||| pMtr ||| pSlate) (State.closeIv s tstep) := by
  unfold State.closeIv
  repeat' first
    | with_reducible assumption
    | with_reducible apply State.Keeps.refl
    | (extract_lets +onlyGivenNames t; (refine State.Keeps.cut (t := t) ?_ (fun _ => ?_)) <;> [subst t; clear_value t])
    | (extract_lets +onlyGivenNames x; first | clear_value x | subst x)
    | (with_reducible apply State.Keeps.ite <;> intro _)
    | (with_reducible apply State.Keeps.step (State.fire_keeps ..); on_goal 1 => decide)
    | (with_reducible apply State.Keeps.step (State.clear_keeps ..); on_goal 1 => decide)
    | (with_reducible apply State.Keeps.step (State.logAt_keeps ..); on_goal 1 => decide)
    | (with_reducible apply State.Keeps.step (State.put_keeps ..); on_goal 1 => decide)
    | (with_reducible apply State.Keeps.step (State.modMtr_keeps ..); on_goal 1 => decide)
    | with_reducible apply State.Keeps.foldl
    | (intro _; intros; beta_reduce)

theorem State.openIv_keeps (s : State) : s.Keeps (pRegs ||| pMtr) (State.openIv s) := by
  unfold State.openIv
  repeat' first
    | with_reducible assumption
    | with_reducible apply State.Keeps.refl
    | (extract_lets +onlyGivenNames t; (refine State.Keeps.cut (t := t) ?_ (fun _ => ?_)) <;> [subst t; clear_value t])
    | (extract_lets +onlyGivenNames x; first | clear_value x | subst x)
    | (with_reducible apply State.Keeps.step (State.modMeter_keeps ..); on_goal 1 => decide)
    | (with_reducible apply State.Keeps.step (State.raise_keeps ..); on_goal 1 => decide)
    | (with_reducible apply State.Keeps.step (State.put_keeps ..); on_goal 1 => decide)
    | (with_reducible apply State.Keeps.step (State.modMtr_keeps ..); on_goal 1 => decide)
    | with_reducible apply State.Keeps.foldl
    | (intro _; intros; beta_reduce)

theorem State.endGap_keeps (s : State) : s.Keeps (pRegs ||| pMtr ||| pSlate) (State.endGap s) := by
  unfold State.endGap
  repeat' first
    | with_reducible assumption
    | with_reducible apply State.Keeps.refl
    | (extract_lets +onlyGivenNames t; (refine State.Keeps.cut (t := t) ?_ (fun _ => ?_)) <;> [subst t; clear_value t])
    | (extract_lets +onlyGivenNames x; first | clear_value x | subst x)
    | (with_reducible apply State.Keeps.ite <;> intro _)
    | split
    | (with_reducible apply State.Keeps.step (State.openIv_keeps ..); on_goal 1 => decide)
    | (with_reducible apply State.Keeps.step (State.logAt_keeps ..); on_goal 1 => decide)
    | (with_reducible apply State.Keeps.step (State.modMtr_keeps ..); on_goal 1 => decide)

theorem State.beginGap_keeps (s : State) (last : Nat) (valid : Option Nat) : s.Keeps pMtr (State.beginGap s last valid) := by
  unfold State.beginGap
  repeat' first
    | with_reducible assumption
    | with_reducible apply State.Keeps.refl
    | (with_reducible apply State.Keeps.step (State.modMeter_keeps ..); on_goal 1 => decide)
    | (with_reducible apply State.Keeps.step (State.modMtr_keeps ..); on_goal 1 => decide)
    | with_reducible apply State.Keeps.foldl
    | (intro _; intros; beta_reduce)

theorem State.showMtr_keeps (s : State) : s.Keeps pRegs (State.showMtr s) := by
  unfold State.showMtr
  repeat' first
    | with_reducible assumption
    | with_reducible apply State.Keeps.refl
    | (with_reducible apply State.Keeps.step (State.flag_keeps ..); on_goal 1 => decide)

theorem State.stageTime_keeps (s : State) (sec : Nat) (port : Nat) : s.Keeps (pRegs ||| pMtr) (State.stageTime s sec port) := by
  unfold State.stageTime
  repeat' first
    | with_reducible assumption
    | with_reducible apply State.Keeps.refl
    | (with_reducible apply State.Keeps.step (State.raise_keeps ..); on_goal 1 => decide)
    | (with_reducible apply State.Keeps.step (State.modMtr_keeps ..); on_goal 1 => decide)

theorem State.queueBand_keeps (s : State) (o : BandOp) : s.Keeps pMtr (State.queueBand s o) := by
  unfold State.queueBand
  repeat' first
    | with_reducible assumption
    | with_reducible apply State.Keeps.refl
    | (with_reducible apply State.Keeps.step (State.modMtr_keeps ..); on_goal 1 => decide)

theorem State.mtrCmd_keeps (s : State) (v : Word) : s.Keeps (pRegs ||| pMtr ||| pSlate) (State.mtrCmd s v) := by
  unfold State.mtrCmd
  repeat' first
    | with_reducible assumption
    | with_reducible apply State.Keeps.refl
    | (extract_lets +onlyGivenNames t; (refine State.Keeps.cut (t := t) ?_ (fun _ => ?_)) <;> [subst t; clear_value t])
    | (extract_lets +onlyGivenNames x; first | clear_value x | subst x)
    | (with_reducible apply State.Keeps.ite <;> intro _)
    | (with_reducible apply State.Keeps.step (State.clear_keeps ..); on_goal 1 => decide)
    | (with_reducible apply State.Keeps.step (State.queueBand_keeps ..); on_goal 1 => decide)
    | (with_reducible apply State.Keeps.step (State.logEnergy_keeps ..); on_goal 1 => decide)
    | with_reducible apply State.Keeps.foldl
    | (intro _; intros; beta_reduce)

end Sys2Proof.Machine
end

