-- ==== Sys2Proof/Laws/Load.lean ====
section
/-!
SUPPORT. What the operations of Machine/Load.lean may change, one lemma each.
-/

set_option linter.unusedTactic false
set_option linter.unreachableTactic false
set_option linter.tactic.unusedName false

namespace Sys2Proof.Machine

theorem State.flagReserved_keeps (s : State) (a : Nat) (bad : Bool) : s.Keeps pRegs (State.flagReserved s a bad) := by
  unfold State.flagReserved
  repeat' first
    | with_reducible assumption
    | with_reducible apply State.Keeps.refl
    | (with_reducible apply State.Keeps.ite <;> intro _)
    | split
    | (with_reducible apply State.Keeps.step (State.raise_keeps ..); on_goal 1 => decide)

theorem State.loadReg_keeps (s : State) (a : Nat) (v : Word) : s.Keeps (pRegs ||| pStaged) (State.loadReg s a v) := by
  unfold State.loadReg
  repeat' first
    | with_reducible assumption
    | with_reducible apply State.Keeps.refl
    | (extract_lets +onlyGivenNames t; (refine State.Keeps.cut (t := t) ?_ (fun _ => ?_)) <;> [subst t; clear_value t])
    | (extract_lets +onlyGivenNames x; first | clear_value x | subst x)
    | split
    | (with_reducible apply State.Keeps.step (State.wr_keeps ..); on_goal 1 => decide)
    | (with_reducible apply State.Keeps.step (State.flagReserved_keeps ..); on_goal 1 => decide)
    | (with_reducible apply State.Keeps.with_erased; on_goal 1 => decide)

theorem State.setReg_keeps (s : State) (a : Nat) (v : Word) : s.Keeps (pRegs ||| pStaged ||| pPorts) (State.setReg s a v) := by
  unfold State.setReg
  repeat' first
    | with_reducible assumption
    | with_reducible apply State.Keeps.refl
    | (extract_lets +onlyGivenNames t; (refine State.Keeps.cut (t := t) ?_ (fun _ => ?_)) <;> [subst t; clear_value t])
    | (extract_lets +onlyGivenNames x; first | clear_value x | subst x)
    | (with_reducible apply State.Keeps.ite <;> intro _)
    | split
    | (with_reducible apply State.Keeps.step (State.stage_keeps ..); on_goal 1 => decide)
    | (with_reducible apply State.Keeps.step (State.wr_keeps ..); on_goal 1 => decide)
    | (with_reducible apply State.Keeps.step (State.arrive_keeps ..); on_goal 1 => decide)
    | (with_reducible apply State.Keeps.step (State.flagReserved_keeps ..); on_goal 1 => decide)
    | (with_reducible apply State.Keeps.step (State.takePol_keeps ..); on_goal 1 => decide)

theorem State.setCan_keeps (s : State) (v : Word) : s.Keeps (pRegs ||| pStaged) (State.setCan s v) := by
  unfold State.setCan
  repeat' first
    | with_reducible assumption
    | with_reducible apply State.Keeps.refl
    | (extract_lets +onlyGivenNames t; (refine State.Keeps.cut (t := t) ?_ (fun _ => ?_)) <;> [subst t; clear_value t])
    | (extract_lets +onlyGivenNames x; first | clear_value x | subst x)
    | (with_reducible apply State.Keeps.ite <;> intro _)
    | split
    | (with_reducible apply State.Keeps.step (State.stage_keeps ..); on_goal 1 => decide)
    | (with_reducible apply State.Keeps.step (State.takeStagedAll_keeps ..); on_goal 1 => decide)
    | (with_reducible apply State.Keeps.step (State.put_keeps ..); on_goal 1 => decide)

theorem State.setJtlCfg_keeps (s : State) (v : Word) : s.Keeps (pRegs ||| pStaged) (State.setJtlCfg s v) := by
  unfold State.setJtlCfg
  repeat' first
    | with_reducible assumption
    | with_reducible apply State.Keeps.refl
    | (extract_lets +onlyGivenNames t; (refine State.Keeps.cut (t := t) ?_ (fun _ => ?_)) <;> [subst t; clear_value t])
    | (extract_lets +onlyGivenNames x; first | clear_value x | subst x)
    | (with_reducible apply State.Keeps.ite <;> intro _)
    | split
    | (with_reducible apply State.Keeps.step (State.stage_keeps ..); on_goal 1 => decide)
    | (with_reducible apply State.Keeps.step (State.wr_keeps ..); on_goal 1 => decide)
    | (with_reducible apply State.Keeps.step (State.leaveTick_keeps ..); on_goal 1 => decide)

theorem State.loadRec_keeps (s : State) (rs : List ThaRec) (ty : Nat) (inst : Nat) : s.Keeps (pRegs ||| pStaged) (State.loadRec s rs ty inst) := by
  unfold State.loadRec
  repeat' first
    | with_reducible assumption
    | with_reducible apply State.Keeps.refl
    | (with_reducible apply State.Keeps.step (State.wr_keeps ..); on_goal 1 => decide)
    | (with_reducible apply State.Keeps.step (State.loadReg_keeps ..); on_goal 1 => decide)
    | with_reducible apply State.Keeps.foldl
    | with_reducible apply State.Keeps.foldl_fst
    | with_reducible apply State.Keeps.foldl_snd
    | (intro _; intros; beta_reduce)

theorem State.applyRec_keeps (s : State) (rs : List ThaRec) (ty : Nat) (inst : Nat) : s.Keeps (pRegs ||| pStaged ||| pPorts) (State.applyRec s rs ty inst) := by
  unfold State.applyRec
  repeat' first
    | with_reducible assumption
    | with_reducible apply State.Keeps.refl
    | (extract_lets +onlyGivenNames t; (refine State.Keeps.cut (t := t) ?_ (fun _ => ?_)) <;> [subst t; clear_value t])
    | (extract_lets +onlyGivenNames x; first | clear_value x | subst x)
    | (with_reducible apply State.Keeps.ite <;> intro _)
    | (with_reducible apply State.Keeps.step (State.setReg_keeps ..); on_goal 1 => decide)
    | (with_reducible apply State.Keeps.step (State.setCan_keeps ..); on_goal 1 => decide)
    | (with_reducible apply State.Keeps.step (State.setJtlCfg_keeps ..); on_goal 1 => decide)
    | with_reducible apply State.Keeps.foldl
    | with_reducible apply State.Keeps.foldl_fst
    | with_reducible apply State.Keeps.foldl_snd
    | (intro _; intros; beta_reduce)

theorem State.loadRafter_keeps (s : State) (rs : List ThaRec) (n : Fin 16) : s.Keeps (pRegs ||| pStaged ||| pSlices) (State.loadRafter s rs n) := by
  unfold State.loadRafter
  repeat' first
    | with_reducible assumption
    | with_reducible apply State.Keeps.refl
    | (extract_lets +onlyGivenNames t; (refine State.Keeps.cut (t := t) ?_ (fun _ => ?_)) <;> [subst t; clear_value t])
    | (extract_lets +onlyGivenNames x; first | clear_value x | subst x)
    | (with_reducible apply State.Keeps.ite <;> intro _)
    | (with_reducible apply State.Keeps.step (State.clear_keeps ..); on_goal 1 => decide)
    | (with_reducible apply State.Keeps.step (State.wr_keeps ..); on_goal 1 => decide)
    | (with_reducible apply State.Keeps.step (State.modSlice_keeps ..); on_goal 1 => decide)
    | (with_reducible apply State.Keeps.step (State.loadReg_keeps ..); on_goal 1 => decide)
    | (with_reducible apply State.Keeps.step (State.restartDt_keeps ..); on_goal 1 => decide)
    | with_reducible apply State.Keeps.foldl
    | with_reducible apply State.Keeps.foldl_fst
    | with_reducible apply State.Keeps.foldl_snd
    | (intro _; intros; beta_reduce)

theorem State.applyRafter_keeps (s : State) (rs : List ThaRec) (n : Fin 16) : s.Keeps (pRegs ||| pStaged ||| pPorts) (State.applyRafter s rs n) := by
  unfold State.applyRafter
  repeat' first
    | with_reducible assumption
    | with_reducible apply State.Keeps.refl
    | (with_reducible apply State.Keeps.step (State.setReg_keeps ..); on_goal 1 => decide)
    | with_reducible apply State.Keeps.foldl
    | with_reducible apply State.Keeps.foldl_fst
    | with_reducible apply State.Keeps.foldl_snd
    | (intro _; intros; beta_reduce)

theorem State.takeFloor_keeps (s : State) (n : Fin 16) (w : Nat) : s.Keeps (pRegs ||| pStaged ||| pPorts) (State.takeFloor s n w) := by
  unfold State.takeFloor
  repeat' first
    | with_reducible assumption
    | with_reducible apply State.Keeps.refl
    | (extract_lets +onlyGivenNames t; (refine State.Keeps.cut (t := t) ?_ (fun _ => ?_)) <;> [subst t; clear_value t])
    | (extract_lets +onlyGivenNames x; first | clear_value x | subst x)
    | (with_reducible apply State.Keeps.ite <;> intro _)
    | (with_reducible apply State.Keeps.step (State.setFloor_keeps ..); on_goal 1 => decide)
    | (with_reducible apply State.Keeps.step (State.showRp_keeps ..); on_goal 1 => decide)
    | (with_reducible apply State.Keeps.step (State.implicitCurve_keeps ..); on_goal 1 => decide)

theorem State.applyFloors_keeps (s : State) (rs : List ThaRec) : s.Keeps (pRegs ||| pStaged ||| pPorts) (State.applyFloors s rs) := by
  unfold State.applyFloors
  repeat' first
    | with_reducible assumption
    | with_reducible apply State.Keeps.refl
    | (with_reducible apply State.Keeps.ite <;> intro _)
    | (with_reducible apply State.Keeps.step (State.takeFloor_keeps ..); on_goal 1 => decide)
    | with_reducible apply State.Keeps.foldl
    | (intro _; intros; beta_reduce)

theorem State.loadTally_keeps (s : State) (rs : List ThaRec) : s.Keeps (pRegs ||| pBat) (State.loadTally s rs) := by
  unfold State.loadTally
  repeat' first
    | with_reducible assumption
    | with_reducible apply State.Keeps.refl
    | (extract_lets +onlyGivenNames t; (refine State.Keeps.cut (t := t) ?_ (fun _ => ?_)) <;> [subst t; clear_value t])
    | (extract_lets +onlyGivenNames x; first | clear_value x | subst x)
    | (with_reducible apply State.Keeps.ite <;> intro _)
    | (with_reducible apply State.Keeps.step (State.put_keeps ..); on_goal 1 => decide)
    | (with_reducible apply State.Keeps.step (State.setBins_keeps ..); on_goal 1 => decide)
    | with_reducible apply State.Keeps.foldl
    | with_reducible apply State.Keeps.foldl_fst
    | with_reducible apply State.Keeps.foldl_snd
    | (intro _; intros; beta_reduce)

theorem State.loadWire_keeps (s : State) (rs : List ThaRec) : s.Keeps pBat (State.loadWire s rs) := by
  unfold State.loadWire
  repeat' first
    | with_reducible assumption
    | with_reducible apply State.Keeps.refl
    | (with_reducible apply State.Keeps.step (State.modBat_keeps ..); on_goal 1 => decide)

theorem State.loadSlate_keeps (s : State) (rs : List ThaRec) : s.Keeps (pRegs ||| pSlate) (State.loadSlate s rs) := by
  unfold State.loadSlate
  repeat' first
    | with_reducible assumption
    | with_reducible apply State.Keeps.refl
    | (extract_lets +onlyGivenNames t; (refine State.Keeps.cut (t := t) ?_ (fun _ => ?_)) <;> [subst t; clear_value t])
    | (extract_lets +onlyGivenNames x; first | clear_value x | subst x)
    | (with_reducible apply State.Keeps.ite <;> intro _)
    | (with_reducible apply State.Keeps.step (State.modSlate_keeps ..); on_goal 1 => decide)
    | (with_reducible apply State.Keeps.step (State.put_keeps ..); on_goal 1 => decide)
    | (with_reducible apply State.Keeps.step (State.showRing_keeps ..); on_goal 1 => decide)
    | (with_reducible apply State.Keeps.step (State.flag_keeps ..); on_goal 1 => decide)

theorem State.loadDevice_keeps (s : State) (rs : List ThaRec) : s.Keeps pRegs (State.loadDevice s rs) := by
  unfold State.loadDevice
  repeat' first
    | with_reducible assumption
    | with_reducible apply State.Keeps.refl
    | (extract_lets +onlyGivenNames t; (refine State.Keeps.cut (t := t) ?_ (fun _ => ?_)) <;> [subst t; clear_value t])
    | (extract_lets +onlyGivenNames x; first | clear_value x | subst x)
    | (with_reducible apply State.Keeps.ite <;> intro _)
    | (with_reducible apply State.Keeps.step (State.wr_keeps ..); on_goal 1 => decide)
    | (with_reducible apply State.Keeps.step (State.put_keeps ..); on_goal 1 => decide)

theorem State.loadTruss_keeps (s : State) (rs : List ThaRec) : s.Keeps (pRegs ||| pRidge ||| pBat ||| pPorts) (State.loadTruss s rs) := by
  unfold State.loadTruss
  repeat' first
    | with_reducible assumption
    | with_reducible apply State.Keeps.refl
    | (extract_lets +onlyGivenNames t; (refine State.Keeps.cut (t := t) ?_ (fun _ => ?_)) <;> [subst t; clear_value t])
    | (extract_lets +onlyGivenNames x; first | clear_value x | subst x)
    | (with_reducible apply State.Keeps.ite <;> intro _)
    | (with_reducible apply State.Keeps.step (State.wr_keeps ..); on_goal 1 => decide)
    | (with_reducible apply State.Keeps.step (State.resolveDeficit_keeps ..); on_goal 1 => decide)
    | (with_reducible apply State.Keeps.step (State.put_keeps ..); on_goal 1 => decide)
    | with_reducible apply State.Keeps.foldl
    | (intro _; intros; beta_reduce)

theorem State.loadJotil_keeps (s : State) (rs : List ThaRec) (hostEn : Option Nat) : s.Keeps (pRegs ||| pStaged ||| pRidge ||| pBat ||| pPorts) (State.loadJotil s rs hostEn) := by
  unfold State.loadJotil
  repeat' first
    | with_reducible assumption
    | with_reducible apply State.Keeps.refl
    | (extract_lets +onlyGivenNames t; (refine State.Keeps.cut (t := t) ?_ (fun _ => ?_)) <;> [subst t; clear_value t])
    | (extract_lets +onlyGivenNames x; first | clear_value x | subst x)
    | (with_reducible apply State.Keeps.ite <;> intro _)
    | split
    | (with_reducible apply State.Keeps.step (State.clear_keeps ..); on_goal 1 => decide)
    | (with_reducible apply State.Keeps.step (State.loadRec_keeps ..); on_goal 1 => decide)
    | (with_reducible apply State.Keeps.step (State.followChain_keeps ..); on_goal 1 => decide)
    | (with_reducible apply State.Keeps.step (State.put_keeps ..); on_goal 1 => decide)

theorem State.loadHeld_keeps (s : State) (rs : List ThaRec) : s.Keeps (pRegs ||| pStaged ||| pBat ||| pSlate) (State.loadHeld s rs) := by
  unfold State.loadHeld
  repeat' first
    | with_reducible assumption
    | with_reducible apply State.Keeps.refl
    | (extract_lets +onlyGivenNames t; (refine State.Keeps.cut (t := t) ?_ (fun _ => ?_)) <;> [subst t; clear_value t])
    | (extract_lets +onlyGivenNames x; first | clear_value x | subst x)
    | (with_reducible apply State.Keeps.ite <;> intro _)
    | (with_reducible apply State.Keeps.step (State.loadTally_keeps ..); on_goal 1 => decide)
    | (with_reducible apply State.Keeps.step (State.loadRec_keeps ..); on_goal 1 => decide)
    | (with_reducible apply State.Keeps.step (State.loadWire_keeps ..); on_goal 1 => decide)
    | (with_reducible apply State.Keeps.step (State.put_keeps ..); on_goal 1 => decide)
    | (with_reducible apply State.Keeps.step (State.showMtr_keeps ..); on_goal 1 => decide)
    | (with_reducible apply State.Keeps.step (State.loadSlate_keeps ..); on_goal 1 => decide)
    | (with_reducible apply State.Keeps.step (State.loadDevice_keeps ..); on_goal 1 => decide)

theorem State.loadGlobals_keeps (s : State) (rs : List ThaRec) (hostEn : Option Nat) : s.Keeps (pRegs ||| pStaged ||| pRidge ||| pBat ||| pPorts ||| pSlate) (State.loadGlobals s rs hostEn) := by
  unfold State.loadGlobals
  repeat' first
    | with_reducible assumption
    | with_reducible apply State.Keeps.refl
    | (with_reducible apply State.Keeps.step (State.loadRec_keeps ..); on_goal 1 => decide)
    | (with_reducible apply State.Keeps.step (State.loadGrants_keeps ..); on_goal 1 => decide)
    | (with_reducible apply State.Keeps.step (State.loadTruss_keeps ..); on_goal 1 => decide)
    | (with_reducible apply State.Keeps.step (State.loadHeld_keeps ..); on_goal 1 => decide)
    | (with_reducible apply State.Keeps.step (State.loadJotil_keeps ..); on_goal 1 => decide)

theorem State.loadPortRecs_keeps (s : State) (rs : List ThaRec) (n : Fin 16) : s.Keeps (pRegs ||| pStaged ||| pSlices) (State.loadPortRecs s rs n) := by
  unfold State.loadPortRecs
  repeat' first
    | with_reducible assumption
    | with_reducible apply State.Keeps.refl
    | (extract_lets +onlyGivenNames t; (refine State.Keeps.cut (t := t) ?_ (fun _ => ?_)) <;> [subst t; clear_value t])
    | (extract_lets +onlyGivenNames x; first | clear_value x | subst x)
    | (with_reducible apply State.Keeps.step (State.loadRec_keeps ..); on_goal 1 => decide)
    | (with_reducible apply State.Keeps.step (State.loadRafter_keeps ..); on_goal 1 => decide)
    | (with_reducible apply State.Keeps.step (State.put_keeps ..); on_goal 1 => decide)
    | with_reducible apply State.Keeps.foldl
    | (intro _; intros; beta_reduce)

theorem State.applyPortRec_keeps (s : State) (rs : List ThaRec) (ty : Nat) (n : Fin 16) : s.Keeps (pRegs ||| pStaged ||| pPorts) (State.applyPortRec s rs ty n) := by
  unfold State.applyPortRec
  repeat' first
    | with_reducible assumption
    | with_reducible apply State.Keeps.refl
    | (extract_lets +onlyGivenNames t; (refine State.Keeps.cut (t := t) ?_ (fun _ => ?_)) <;> [subst t; clear_value t])
    | (extract_lets +onlyGivenNames x; first | clear_value x | subst x)
    | (with_reducible apply State.Keeps.ite <;> intro _)
    | (with_reducible apply State.Keeps.step (State.put_keeps ..); on_goal 1 => decide)
    | (with_reducible apply State.Keeps.step (State.applyRec_keeps ..); on_goal 1 => decide)
    | (with_reducible apply State.Keeps.step (State.applyRafter_keeps ..); on_goal 1 => decide)

theorem State.policyChanged_keeps (s : State) (n : Fin 16) : s.Keeps (pRegs ||| pFreeCtr ||| pRidge ||| pBat ||| pPorts ||| pSlices ||| pJtl ||| pBoot) (State.policyChanged s n) := by
  unfold State.policyChanged
  repeat' first
    | with_reducible assumption
    | with_reducible apply State.Keeps.refl
    | (with_reducible apply State.Keeps.ite <;> intro _)
    | (with_reducible apply State.Keeps.step (State.modPd_keeps ..); on_goal 1 => decide)
    | (with_reducible apply State.Keeps.step (State.beginAms_keeps ..); on_goal 1 => decide)
    | (with_reducible apply State.Keeps.step (State.eprLost_keeps ..); on_goal 1 => decide)

theorem State.setStruct_keeps (s : State) (n : Fin 16) (ps : PortStruct) : s.Keeps (pRegs ||| pPorts ||| pSlices) (State.setStruct s n ps) := by
  unfold State.setStruct
  repeat' first
    | with_reducible assumption
    | with_reducible apply State.Keeps.refl
    | (extract_lets +onlyGivenNames t; (refine State.Keeps.cut (t := t) ?_ (fun _ => ?_)) <;> [subst t; clear_value t])
    | (extract_lets +onlyGivenNames x; first | clear_value x | subst x)
    | (with_reducible apply State.Keeps.ite <;> intro _)
    | (with_reducible apply State.Keeps.step (State.modPort_keeps ..); on_goal 1 => decide)
    | (with_reducible apply State.Keeps.step (State.dropLegs_keeps ..); on_goal 1 => decide)
    | (with_reducible apply State.Keeps.step (State.flag_keeps ..); on_goal 1 => decide)
    | (with_reducible apply State.Keeps.step (State.nameLegs_keeps ..); on_goal 1 => decide)

end Sys2Proof.Machine
end

