-- ==== Sys2Proof/Laws/UpdLink.lean ====
section
/-!
SUPPORT. What the operations of Machine/UpdLink.lean may change, one lemma each.
-/

set_option linter.unusedTactic false
set_option linter.unreachableTactic false
set_option linter.tactic.unusedName false

namespace Sys2Proof.Machine

theorem State.modUpd_keeps (s : State) (f : UpdSt → UpdSt) : s.Keeps pUpd (State.modUpd s f) := by
  unfold State.modUpd
  repeat' first
    | with_reducible assumption
    | with_reducible apply State.Keeps.refl
    | (with_reducible apply State.Keeps.with_upd; on_goal 1 => decide)

theorem State.setUpd_keeps (s : State) (x : Nat) : s.Keeps pRegs (State.setUpd s x) := by
  unfold State.setUpd
  repeat' first
    | with_reducible assumption
    | with_reducible apply State.Keeps.refl
    | (with_reducible apply State.Keeps.step (State.put_keeps ..); on_goal 1 => decide)

theorem State.result_keeps (s : State) (code : Nat) (detail : Nat) (block : Nat) : s.Keeps pRegs (State.result s code detail block) := by
  unfold State.result
  repeat' first
    | with_reducible assumption
    | with_reducible apply State.Keeps.refl
    | (with_reducible apply State.Keeps.step (State.put_keeps ..); on_goal 1 => decide)

theorem State.askRelay_keeps (s : State) (kind : Nat) (cause : Nat) (ev : Nat) (apply : (Option Nat)) : s.Keeps pUpd (State.askRelay s kind cause ev apply) := by
  unfold State.askRelay
  repeat' first
    | with_reducible assumption
    | with_reducible apply State.Keeps.refl
    | (with_reducible apply State.Keeps.ite <;> intro _)
    | (with_reducible apply State.Keeps.step (State.modUpd_keeps ..); on_goal 1 => decide)

theorem State.sendAct_keeps (s : State) (cmd : Nat) (apply : Nat) : s.Keeps pJtl (State.sendAct s cmd apply) := by
  unfold State.sendAct
  repeat' first
    | with_reducible assumption
    | with_reducible apply State.Keeps.refl
    | split
    | (with_reducible apply State.Keeps.step (State.sendF_keeps ..); on_goal 1 => decide)

theorem State.sendStatAs_keeps (s : State) (manid : Nat) (missing : Nat) : s.Keeps pJtl (State.sendStatAs s manid missing) := by
  unfold State.sendStatAs
  repeat' first
    | with_reducible assumption
    | with_reducible apply State.Keeps.refl
    | (with_reducible apply State.Keeps.step (State.sendF_keeps ..); on_goal 1 => decide)

theorem State.sendStat_keeps (s : State) (missing : Nat) : s.Keeps pJtl (State.sendStat s missing) := by
  unfold State.sendStat
  repeat' first
    | with_reducible assumption
    | with_reducible apply State.Keeps.refl
    | (with_reducible apply State.Keeps.ite <;> intro _)
    | split
    | (with_reducible apply State.Keeps.step (State.sendStatAs_keeps ..); on_goal 1 => decide)

theorem State.disarm_keeps (s : State) : s.Keeps (pRegs ||| pUpd) (State.disarm s) := by
  unfold State.disarm
  repeat' first
    | with_reducible assumption
    | with_reducible apply State.Keeps.refl
    | (extract_lets +onlyGivenNames t; (refine State.Keeps.cut (t := t) ?_ (fun _ => ?_)) <;> [subst t; clear_value t])
    | (extract_lets +onlyGivenNames x; first | clear_value x | subst x)
    | (with_reducible apply State.Keeps.ite <;> intro _)
    | split
    | (with_reducible apply State.Keeps.step (State.result_keeps ..); on_goal 1 => decide)
    | (with_reducible apply State.Keeps.step (State.modUpd_keeps ..); on_goal 1 => decide)
    | (with_reducible apply State.Keeps.step (State.setUpd_keeps ..); on_goal 1 => decide)

theorem State.abortChain_keeps (s : State) : s.Keeps (pRegs ||| pJtl ||| pUpd) (State.abortChain s) := by
  unfold State.abortChain
  repeat' first
    | with_reducible assumption
    | with_reducible apply State.Keeps.refl
    | (with_reducible apply State.Keeps.step (State.sendAct_keeps ..); on_goal 1 => decide)
    | (with_reducible apply State.Keeps.step (State.disarm_keeps ..); on_goal 1 => decide)
    | (with_reducible apply State.Keeps.step (State.result_keeps ..); on_goal 1 => decide)

theorem State.updIndex_keeps (s : State) : s.Keeps (pRegs ||| pJtl ||| pUpd) (State.updIndex s) := by
  unfold State.updIndex
  repeat' first
    | with_reducible assumption
    | with_reducible apply State.Keeps.refl
    | (extract_lets +onlyGivenNames t; (refine State.Keeps.cut (t := t) ?_ (fun _ => ?_)) <;> [subst t; clear_value t])
    | (extract_lets +onlyGivenNames x; first | clear_value x | subst x)
    | (with_reducible apply State.Keeps.ite <;> intro _)
    | split
    | (with_reducible apply State.Keeps.step (State.sendAct_keeps ..); on_goal 1 => decide)
    | (with_reducible apply State.Keeps.step (State.askRelay_keeps ..); on_goal 1 => decide)
    | (with_reducible apply State.Keeps.step (State.abortChain_keeps ..); on_goal 1 => decide)

end Sys2Proof.Machine
end

