-- ==== Sys2Proof/Laws/BootOps.lean ====
section
/-!
SUPPORT. What the operations of Machine/BootOps.lean may change, one lemma each.
-/

set_option linter.unusedTactic false
set_option linter.unreachableTactic false
set_option linter.tactic.unusedName false

namespace Sys2Proof.Machine

theorem State.modBoot_keeps (s : State) (f : BootSt → BootSt) : s.Keeps pBoot (State.modBoot s f) := by
  unfold State.modBoot
  repeat' first
    | with_reducible assumption
    | with_reducible apply State.Keeps.refl
    | (with_reducible apply State.Keeps.with_boot; on_goal 1 => decide)

theorem State.setRunning_keeps (s : State) (img : List Word) : s.Keeps pRunning (State.setRunning s img) := by
  unfold State.setRunning
  repeat' first
    | with_reducible assumption
    | with_reducible apply State.Keeps.refl
    | (with_reducible apply State.Keeps.with_running; on_goal 1 => decide)

theorem State.modTha_keeps (s : State) (f : ThaSt → ThaSt) : s.Keeps pTha (State.modTha s f) := by
  unfold State.modTha
  repeat' first
    | with_reducible assumption
    | with_reducible apply State.Keeps.refl
    | (with_reducible apply State.Keeps.with_tha; on_goal 1 => decide)

theorem State.holdCause_keeps (s : State) (code : Nat) (island : Nat) : s.Keeps pRegs (State.holdCause s code island) := by
  unfold State.holdCause
  repeat' first
    | with_reducible assumption
    | with_reducible apply State.Keeps.refl
    | (with_reducible apply State.Keeps.step (State.raise_keeps ..); on_goal 1 => decide)
    | (with_reducible apply State.Keeps.step (State.put_keeps ..); on_goal 1 => decide)

theorem State.moreCause_keeps (s : State) (code : Nat) (island : Nat) : s.Keeps (pRegs ||| pFreeCtr) (State.moreCause s code island) := by
  unfold State.moreCause
  repeat' first
    | with_reducible assumption
    | with_reducible apply State.Keeps.refl
    | (extract_lets +onlyGivenNames t; (refine State.Keeps.cut (t := t) ?_ (fun _ => ?_)) <;> [subst t; clear_value t])
    | (extract_lets +onlyGivenNames x; first | clear_value x | subst x)
    | (with_reducible apply State.Keeps.ite <;> intro _)
    | split
    | (with_reducible apply State.Keeps.step (State.satInc_keeps ..); on_goal 1 => decide)
    | (with_reducible apply State.Keeps.step (State.holdCause_keeps ..); on_goal 1 => decide)
    | (with_reducible apply State.Keeps.step (State.free_keeps ..); on_goal 1 => decide)
    | (with_reducible apply State.Keeps.step (State.free_keeps_of (by assumption)); on_goal 1 => decide)

theorem State.cause_keeps (s : State) (code : Nat) (island : Nat) : s.Keeps (pRegs ||| pFreeCtr ||| pSlate ||| pBoot) (State.cause s code island) := by
  unfold State.cause
  repeat' first
    | with_reducible assumption
    | with_reducible apply State.Keeps.refl
    | (extract_lets +onlyGivenNames t; (refine State.Keeps.cut (t := t) ?_ (fun _ => ?_)) <;> [subst t; clear_value t])
    | (extract_lets +onlyGivenNames x; first | clear_value x | subst x)
    | (with_reducible apply State.Keeps.ite <;> intro _)
    | (with_reducible apply State.Keeps.step (State.holdCause_keeps ..); on_goal 1 => decide)
    | (with_reducible apply State.Keeps.step (State.put_keeps ..); on_goal 1 => decide)
    | (with_reducible apply State.Keeps.step (State.moreCause_keeps ..); on_goal 1 => decide)
    | (with_reducible apply State.Keeps.step (State.modBoot_keeps ..); on_goal 1 => decide)
    | (with_reducible apply State.Keeps.step (State.logFault_keeps ..); on_goal 1 => decide)

theorem State.followFeed_keeps (s : State) : s.Keeps (pRegs ||| pBat) (State.followFeed s) := by
  unfold State.followFeed
  repeat' first
    | with_reducible assumption
    | with_reducible apply State.Keeps.refl
    | (with_reducible apply State.Keeps.ite <;> intro _)
    | (with_reducible apply State.Keeps.step (State.fire_keeps ..); on_goal 1 => decide)
    | (with_reducible apply State.Keeps.step (State.put_keeps ..); on_goal 1 => decide)

theorem State.followVhv_keeps (s : State) : s.Keeps pSoffit (State.followVhv s) := by
  unfold State.followVhv
  repeat' first
    | with_reducible assumption
    | with_reducible apply State.Keeps.refl
    | (with_reducible apply State.Keeps.with_soffit; on_goal 1 => decide)

theorem State.followWait_keeps (s : State) : s.Keeps pRegs (State.followWait s) := by
  unfold State.followWait
  repeat' first
    | with_reducible assumption
    | with_reducible apply State.Keeps.refl
    | (with_reducible apply State.Keeps.step (State.flag_keeps ..); on_goal 1 => decide)

theorem State.vhvReturn_keeps (s : State) : s.Keeps (pRegs ||| pStaged ||| pBat ||| pPorts ||| pBoot) (State.vhvReturn s) := by
  unfold State.vhvReturn
  repeat' first
    | with_reducible assumption
    | with_reducible apply State.Keeps.refl
    | (with_reducible apply State.Keeps.ite <;> intro _)
    | (with_reducible apply State.Keeps.step (State.followWait_keeps ..); on_goal 1 => decide)
    | (with_reducible apply State.Keeps.step (State.leaveDisabled_keeps ..); on_goal 1 => decide)
    | with_reducible apply State.Keeps.foldl
    | (intro _; intros; beta_reduce)

theorem State.vhvGone_keeps (s : State) : s.Keeps (pRegs ||| pFreeCtr ||| pRidge ||| pPorts ||| pSlices ||| pJtl ||| pBoot) (State.vhvGone s) := by
  unfold State.vhvGone
  repeat' first
    | with_reducible assumption
    | with_reducible apply State.Keeps.refl
    | (with_reducible apply State.Keeps.ite <;> intro _)
    | split
    | (with_reducible apply State.Keeps.step (State.followWait_keeps ..); on_goal 1 => decide)
    | (with_reducible apply State.Keeps.step (State.goErrRec_keeps ..); on_goal 1 => decide)
    | with_reducible apply State.Keeps.foldl
    | (intro _; intros; beta_reduce)

theorem State.loseVhv_keeps (s : State) (n : Fin 16) : s.Keeps (pRegs ||| pFreeCtr ||| pRidge ||| pPorts ||| pSlices ||| pJtl ||| pBoot) (State.loseVhv s n) := by
  unfold State.loseVhv
  repeat' first
    | with_reducible assumption
    | with_reducible apply State.Keeps.refl
    | (extract_lets +onlyGivenNames t; (refine State.Keeps.cut (t := t) ?_ (fun _ => ?_)) <;> [subst t; clear_value t])
    | (extract_lets +onlyGivenNames x; first | clear_value x | subst x)
    | (with_reducible apply State.Keeps.ite <;> intro _)
    | split
    | (with_reducible apply State.Keeps.step (State.enterDisabled_keeps ..); on_goal 1 => decide)
    | (with_reducible apply State.Keeps.step (State.setGut_keeps ..); on_goal 1 => decide)
    | (with_reducible apply State.Keeps.step (State.goErrRec_keeps ..); on_goal 1 => decide)

theorem State.vhvLow_keeps (s : State) : s.Keeps (pRegs ||| pFreeCtr ||| pRidge ||| pPorts ||| pSlices ||| pJtl ||| pBoot) (State.vhvLow s) := by
  unfold State.vhvLow
  repeat' first
    | with_reducible assumption
    | with_reducible apply State.Keeps.refl
    | (with_reducible apply State.Keeps.step (State.followWait_keeps ..); on_goal 1 => decide)
    | (with_reducible apply State.Keeps.step (State.loseVhv_keeps ..); on_goal 1 => decide)
    | with_reducible apply State.Keeps.foldl
    | (intro _; intros; beta_reduce)

theorem State.failTxns_keeps (s : State) (n : Fin 16) : s.Keeps (pRegs ||| pHost ||| pRidge) (State.failTxns s n) := by
  unfold State.failTxns
  repeat' first
    | with_reducible assumption
    | with_reducible apply State.Keeps.refl
    | (extract_lets +onlyGivenNames t; (refine State.Keeps.cut (t := t) ?_ (fun _ => ?_)) <;> [subst t; clear_value t])
    | (extract_lets +onlyGivenNames x; first | clear_value x | subst x)
    | (with_reducible apply State.Keeps.ite <;> intro _)
    | (with_reducible apply State.Keeps.step (State.modHost_keeps ..); on_goal 1 => decide)
    | (with_reducible apply State.Keeps.step (State.modRidge_keeps ..); on_goal 1 => decide)
    | (with_reducible apply State.Keeps.step (State.endTxn_keeps ..); on_goal 1 => decide)
    | with_reducible apply State.Keeps.foldl
    | (intro _; intros; beta_reduce)

theorem State.portSafe_keeps (s : State) (n : Fin 16) : s.Keeps (pRegs ||| pSlices) (State.portSafe s n) := by
  unfold State.portSafe
  repeat' first
    | with_reducible assumption
    | with_reducible apply State.Keeps.refl
    | (extract_lets +onlyGivenNames t; (refine State.Keeps.cut (t := t) ?_ (fun _ => ?_)) <;> [subst t; clear_value t])
    | (extract_lets +onlyGivenNames x; first | clear_value x | subst x)
    | (with_reducible apply State.Keeps.ite <;> intro _)
    | (with_reducible apply State.Keeps.step (State.clear_keeps ..); on_goal 1 => decide)
    | (with_reducible apply State.Keeps.step (State.legsOff_keeps ..); on_goal 1 => decide)
    | (with_reducible apply State.Keeps.step (State.setGut_keeps ..); on_goal 1 => decide)

theorem State.losePort_keeps (s : State) (n : Fin 16) : s.Keeps (pRegs ||| pStaged ||| pHost ||| pRidge ||| pPorts ||| pSlices ||| pJtl) (State.losePort s n) := by
  unfold State.losePort
  repeat' first
    | with_reducible assumption
    | with_reducible apply State.Keeps.refl
    | (extract_lets +onlyGivenNames t; (refine State.Keeps.cut (t := t) ?_ (fun _ => ?_)) <;> [subst t; clear_value t])
    | (extract_lets +onlyGivenNames x; first | clear_value x | subst x)
    | (with_reducible apply State.Keeps.step (State.allocToFloor_keeps ..); on_goal 1 => decide)
    | (with_reducible apply State.Keeps.step (State.cancelPort_keeps ..); on_goal 1 => decide)
    | (with_reducible apply State.Keeps.step (State.portSafe_keeps ..); on_goal 1 => decide)
    | (with_reducible apply State.Keeps.step (State.unpower_keeps ..); on_goal 1 => decide)
    | (with_reducible apply State.Keeps.step (State.dropLegs_keeps ..); on_goal 1 => decide)
    | (with_reducible apply State.Keeps.step (State.failTxns_keeps ..); on_goal 1 => decide)
    | (with_reducible apply State.Keeps.step (State.swLeave_keeps ..); on_goal 1 => decide)

theorem State.dropTxns_keeps (s : State) : s.Keeps pHost (State.dropTxns s) := by
  unfold State.dropTxns
  repeat' first
    | with_reducible assumption
    | with_reducible apply State.Keeps.refl
    | (with_reducible apply State.Keeps.step (State.modHost_keeps ..); on_goal 1 => decide)

theorem State.dropStaging_keeps (s : State) (n : Fin 16) : s.Keeps (pRegs ||| pPorts) (State.dropStaging s n) := by
  unfold State.dropStaging
  repeat' first
    | with_reducible assumption
    | with_reducible apply State.Keeps.refl
    | (with_reducible apply State.Keeps.ite <;> intro _)
    | (with_reducible apply State.Keeps.step (State.modPort_keeps ..); on_goal 1 => decide)
    | (with_reducible apply State.Keeps.step (State.clear_keeps ..); on_goal 1 => decide)

theorem State.loseSession_keeps (s : State) : s.Keeps (pRegs ||| pUpd) (State.loseSession s) := by
  unfold State.loseSession
  repeat' first
    | with_reducible assumption
    | with_reducible apply State.Keeps.refl
    | (extract_lets +onlyGivenNames t; (refine State.Keeps.cut (t := t) ?_ (fun _ => ?_)) <;> [subst t; clear_value t])
    | (extract_lets +onlyGivenNames x; first | clear_value x | subst x)
    | (with_reducible apply State.Keeps.step (State.clear_keeps ..); on_goal 1 => decide)
    | (with_reducible apply State.Keeps.step (State.result_keeps ..); on_goal 1 => decide)
    | (with_reducible apply State.Keeps.step (State.put_keeps ..); on_goal 1 => decide)
    | (with_reducible apply State.Keeps.step (State.modUpd_keeps ..); on_goal 1 => decide)
    | (with_reducible apply State.Keeps.step (State.setUpd_keeps ..); on_goal 1 => decide)

theorem State.loseRidge_keeps (s : State) : s.Keeps (pRegs ||| pHost ||| pRidge ||| pBat ||| pPorts ||| pJtl ||| pTha ||| pUpd) (State.loseRidge s) := by
  unfold State.loseRidge
  repeat' first
    | with_reducible assumption
    | with_reducible apply State.Keeps.refl
    | (extract_lets +onlyGivenNames t; (refine State.Keeps.cut (t := t) ?_ (fun _ => ?_)) <;> [subst t; clear_value t])
    | (extract_lets +onlyGivenNames x; first | clear_value x | subst x)
    | (with_reducible apply State.Keeps.ite <;> intro _)
    | (with_reducible apply State.Keeps.step (State.fire_keeps ..); on_goal 1 => decide)
    | (with_reducible apply State.Keeps.step (State.clear_keeps ..); on_goal 1 => decide)
    | (with_reducible apply State.Keeps.step (State.modTha_keeps ..); on_goal 1 => decide)
    | (with_reducible apply State.Keeps.step (State.disarm_keeps ..); on_goal 1 => decide)
    | (with_reducible apply State.Keeps.step (State.wr_keeps ..); on_goal 1 => decide)
    | (with_reducible apply State.Keeps.step (State.dropStaging_keeps ..); on_goal 1 => decide)
    | (with_reducible apply State.Keeps.step (State.maskBit_keeps ..); on_goal 1 => decide)
    | (with_reducible apply State.Keeps.step (State.endRun_keeps ..); on_goal 1 => decide)
    | (with_reducible apply State.Keeps.step (State.raise_keeps ..); on_goal 1 => decide)
    | (with_reducible apply State.Keeps.step (State.put_keeps ..); on_goal 1 => decide)
    | (with_reducible apply State.Keeps.step (State.loseSession_keeps ..); on_goal 1 => decide)
    | (with_reducible apply State.Keeps.step (State.enterBrace_keeps ..); on_goal 1 => decide)
    | (with_reducible apply State.Keeps.step (State.modHost_keeps ..); on_goal 1 => decide)
    | (with_reducible apply State.Keeps.step (State.modRidge_keeps ..); on_goal 1 => decide)
    | (with_reducible apply State.Keeps.step (State.endTxn_keeps ..); on_goal 1 => decide)
    | with_reducible apply State.Keeps.foldl
    | (intro _; intros; beta_reduce)

theorem State.loseBatten_keeps (s : State) : s.Keeps (pRegs ||| pBat) (State.loseBatten s) := by
  unfold State.loseBatten
  repeat' first
    | with_reducible assumption
    | with_reducible apply State.Keeps.refl
    | (extract_lets +onlyGivenNames t; (refine State.Keeps.cut (t := t) ?_ (fun _ => ?_)) <;> [subst t; clear_value t])
    | (extract_lets +onlyGivenNames x; first | clear_value x | subst x)
    | (with_reducible apply State.Keeps.step (State.modBat_keeps ..); on_goal 1 => decide)
    | (with_reducible apply State.Keeps.step (State.clear_keeps ..); on_goal 1 => decide)
    | (with_reducible apply State.Keeps.step (State.wr_keeps ..); on_goal 1 => decide)
    | (with_reducible apply State.Keeps.step (State.maskBit_keeps ..); on_goal 1 => decide)
    | with_reducible apply State.Keeps.foldl
    | (intro _; intros; beta_reduce)

theorem State.keepWake_keeps (s : State) : s.Keeps pSoffit (State.keepWake s) := by
  unfold State.keepWake
  repeat' first
    | with_reducible assumption
    | with_reducible apply State.Keeps.refl
    | (with_reducible apply State.Keeps.ite <;> intro _)
    | (with_reducible apply State.Keeps.with_soffit; on_goal 1 => decide)

theorem State.dropHostOps_keeps (s : State) : s.Keeps pRidge (State.dropHostOps s) := by
  unfold State.dropHostOps
  repeat' first
    | with_reducible assumption
    | with_reducible apply State.Keeps.refl
    | (with_reducible apply State.Keeps.step (State.modRidge_keeps ..); on_goal 1 => decide)

theorem State.loseHost_keeps (s : State) : s.Keeps (pRegs ||| pStaged ||| pHost ||| pRidge ||| pSoffit) (State.loseHost s) := by
  unfold State.loseHost
  repeat' first
    | with_reducible assumption
    | with_reducible apply State.Keeps.refl
    | (extract_lets +onlyGivenNames t; (refine State.Keeps.cut (t := t) ?_ (fun _ => ?_)) <;> [subst t; clear_value t])
    | (extract_lets +onlyGivenNames x; first | clear_value x | subst x)
    | (with_reducible apply State.Keeps.step (State.keepWake_keeps ..); on_goal 1 => decide)
    | (with_reducible apply State.Keeps.step (State.dropHostOps_keeps ..); on_goal 1 => decide)
    | (with_reducible apply State.Keeps.step (State.dropRegs_keeps ..); on_goal 1 => decide)
    | (with_reducible apply State.Keeps.step (State.maskBit_keeps ..); on_goal 1 => decide)
    | (with_reducible apply State.Keeps.with_host; on_goal 1 => decide)

theorem State.loseJotil_keeps (s : State) : s.Keeps (pRegs ||| pStaged ||| pBat ||| pPorts ||| pJtl) (State.loseJotil s) := by
  unfold State.loseJotil
  repeat' first
    | with_reducible assumption
    | with_reducible apply State.Keeps.refl
    | (extract_lets +onlyGivenNames t; (refine State.Keeps.cut (t := t) ?_ (fun _ => ?_)) <;> [subst t; clear_value t])
    | (extract_lets +onlyGivenNames x; first | clear_value x | subst x)
    | (with_reducible apply State.Keeps.step (State.wr_keeps ..); on_goal 1 => decide)
    | (with_reducible apply State.Keeps.step (State.dropRegs_keeps ..); on_goal 1 => decide)
    | (with_reducible apply State.Keeps.step (State.maskBit_keeps ..); on_goal 1 => decide)
    | (with_reducible apply State.Keeps.step (State.startFreeze_keeps ..); on_goal 1 => decide)
    | (with_reducible apply State.Keeps.step (State.leaveTick_keeps ..); on_goal 1 => decide)
    | (with_reducible apply State.Keeps.with_jtl; on_goal 1 => decide)

theorem State.powerOn_keeps (s : State) : s.Keeps (pRegs ||| pStaged ||| pHost ||| pRidge ||| pBat ||| pPorts ||| pSlices ||| pJtl ||| pSoffit ||| pOtp ||| pRunning ||| pMtr ||| pSlate ||| pTha ||| pUpd ||| pBoot ||| pJtag) (State.powerOn s) :=
  ⟨fun k b => by unfold State.agree; split <;> first | rfl | exact absurd b (by decide) | trivial, fun _ => ⟨rfl, rfl⟩, fun k => ⟨k, fun _ _ => BitVec.and_self⟩⟩

theorem regsWf_filter {l : List (Nat × Word)} (p : Nat × Word → Bool) (h : regsWf l = true) : regsWf (l.filter p) = true := by
  simp only [regsWf, Bool.and_eq_true, List.all_eq_true] at h ⊢
  exact ⟨rising_filter _ h.1, fun x hx => h.2 x (List.mem_filter.1 hx).1⟩

theorem State.deviceReset_keeps (s : State) (warm : Bool) : s.Keeps (pRegs ||| pStaged ||| pHost ||| pRidge ||| pBat ||| pPorts ||| pSlices ||| pJtl ||| pSoffit ||| pOtp ||| pRunning ||| pTha ||| pUpd ||| pBoot) (State.deviceReset s warm) := by
  unfold State.deviceReset
  extract_lets u r a b c d t t1 t2
  have hu : s.Keeps (pRegs ||| pStaged ||| pHost ||| pRidge ||| pBat ||| pPorts ||| pSlices ||| pJtl ||| pSoffit ||| pOtp ||| pRunning ||| pTha ||| pUpd ||| pBoot) u := (State.keepWake_keeps s).mono (by decide)
  have ht : u.Keeps (pRegs ||| pStaged ||| pHost ||| pRidge ||| pBat ||| pPorts ||| pSlices ||| pJtl ||| pSoffit ||| pOtp ||| pRunning ||| pTha ||| pUpd ||| pBoot) t :=
    ⟨fun k b => by unfold State.agree; split <;> first | rfl | exact absurd b (by decide) | trivial,
     fun w => ⟨regsWf_filter _ w.1, rising_filter _ w.2⟩, by cases warm <;> exact fun k => ⟨k, fun _ _ => BitVec.and_self⟩⟩
  clear_value t
  have h1 : t.Keeps (pRegs ||| pStaged ||| pHost ||| pRidge ||| pBat ||| pPorts ||| pSlices ||| pJtl ||| pSoffit ||| pOtp ||| pRunning ||| pTha ||| pUpd ||| pBoot) t1 := .step (State.maskBit_keeps ..) (by decide) (.step (State.clear_keeps ..) (by decide) (.step (State.clear_keeps ..) (by decide)
    ((State.put_keeps ..).mono (by decide))))
  clear_value t1
  have h2 : t1.Keeps (pRegs ||| pStaged ||| pHost ||| pRidge ||| pBat ||| pPorts ||| pSlices ||| pJtl ||| pSoffit ||| pOtp ||| pRunning ||| pTha ||| pUpd ||| pBoot) t2 := .step (State.flag_keeps ..) (by decide) ((State.flag_keeps ..).mono (by decide))
  clear_value t2
  refine ((hu.trans ht).trans (h1.trans h2)).trans ?_
  split
  · exact (State.put_keeps ..).mono (by decide)
  · exact State.Keeps.refl _ _

theorem State.recoverPort_keeps (before : State) (s : State) (n : Fin 16) : s.Keeps (pRegs ||| pFreeCtr ||| pRidge ||| pPorts ||| pSlices ||| pJtl ||| pBoot) (State.recoverPort before s n) := by
  unfold State.recoverPort
  with_reducible apply State.Keeps.ite <;> intro _
  · extract_lets x p
    clear_value x p
    repeat' first
      | with_reducible assumption
      | with_reducible apply State.Keeps.refl
      | (extract_lets +onlyGivenNames t; (refine State.Keeps.cut (t := t) ?_ (fun _ => ?_)) <;> [subst t; clear_value t])
      | (extract_lets +onlyGivenNames x; first | clear_value x | subst x)
      | (with_reducible apply State.Keeps.ite <;> intro _)
      | (with_reducible apply State.Keeps.step (State.modPort_keeps ..); on_goal 1 => decide)
      | (with_reducible apply State.Keeps.step (State.errRec_keeps ..); on_goal 1 => decide)
      | (with_reducible apply State.Keeps.step (State.wr_keeps ..); on_goal 1 => decide)
      | (with_reducible apply State.Keeps.step (State.maskBit_keeps ..); on_goal 1 => decide)
      | (with_reducible apply State.Keeps.step (State.modBoot_keeps ..); on_goal 1 => decide)
      | (with_reducible apply State.Keeps.step (State.setRd_keeps ..); on_goal 1 => decide)
      | (with_reducible apply State.Keeps.step (State.setCc_keeps ..); on_goal 1 => decide)
  · exact State.Keeps.refl _ _

theorem State.wholeReset_keeps (s : State) (warm : Bool) : s.Keeps (pRegs ||| pStaged ||| pFreeCtr ||| pHost ||| pRidge ||| pBat ||| pPorts ||| pSlices ||| pJtl ||| pSoffit ||| pOtp ||| pRunning ||| pTha ||| pUpd ||| pBoot) (State.wholeReset s warm) := by
  unfold State.wholeReset
  repeat' first
    | with_reducible assumption
    | with_reducible apply State.Keeps.refl
    | (with_reducible apply State.Keeps.step (State.recoverPort_keeps ..); on_goal 1 => decide)
    | (with_reducible apply State.Keeps.step (State.deviceReset_keeps ..); on_goal 1 => decide)
    | with_reducible apply State.Keeps.foldl
    | (intro _; intros; beta_reduce)

theorem State.resetDevice_keeps (s : State) (warm : Bool) (code : Nat) : s.Keeps (pRegs ||| pStaged ||| pFreeCtr ||| pHost ||| pRidge ||| pBat ||| pPorts ||| pSlices ||| pJtl ||| pSoffit ||| pOtp ||| pRunning ||| pSlate ||| pTha ||| pUpd ||| pBoot) (State.resetDevice s warm code) := by
  unfold State.resetDevice
  repeat' first
    | with_reducible assumption
    | with_reducible apply State.Keeps.refl
    | (with_reducible apply State.Keeps.ite <;> intro _)
    | (with_reducible apply State.Keeps.step (State.wholeReset_keeps ..); on_goal 1 => decide)
    | (with_reducible apply State.Keeps.step (State.cause_keeps ..); on_goal 1 => decide)
    | (with_reducible apply State.Keeps.step (State.modBoot_keeps ..); on_goal 1 => decide)

theorem State.resetNow_keeps (s : State) : s.Keeps (pRegs ||| pStaged ||| pFreeCtr ||| pHost ||| pRidge ||| pBat ||| pPorts ||| pSlices ||| pJtl ||| pSoffit ||| pOtp ||| pRunning ||| pSlate ||| pTha ||| pUpd ||| pBoot) (State.resetNow s) := by
  unfold State.resetNow
  repeat' first
    | with_reducible assumption
    | with_reducible apply State.Keeps.refl
    | (extract_lets +onlyGivenNames t; (refine State.Keeps.cut (t := t) ?_ (fun _ => ?_)) <;> [subst t; clear_value t])
    | (extract_lets +onlyGivenNames x; first | clear_value x | subst x)
    | (with_reducible apply State.Keeps.ite <;> intro _)
    | split
    | (with_reducible apply State.Keeps.step (State.wholeReset_keeps ..); on_goal 1 => decide)
    | (with_reducible apply State.Keeps.step (State.cause_keeps ..); on_goal 1 => decide)
    | (with_reducible apply State.Keeps.step (State.modBoot_keeps ..); on_goal 1 => decide)
    | with_reducible apply State.Keeps.foldl
    | (intro _; intros; beta_reduce)

theorem State.resetCmd_keeps (s : State) (v : Word) : s.Keeps (pRegs ||| pStaged ||| pFreeCtr ||| pHost ||| pRidge ||| pBat ||| pPorts ||| pSlices ||| pJtl ||| pSoffit ||| pOtp ||| pRunning ||| pSlate ||| pTha ||| pUpd ||| pBoot) (State.resetCmd s v) := by
  unfold State.resetCmd
  repeat' first
    | with_reducible assumption
    | with_reducible apply State.Keeps.refl
    | (extract_lets +onlyGivenNames t; (refine State.Keeps.cut (t := t) ?_ (fun _ => ?_)) <;> [subst t; clear_value t])
    | (extract_lets +onlyGivenNames x; first | clear_value x | subst x)
    | (with_reducible apply State.Keeps.ite <;> intro _)
    | (with_reducible apply State.Keeps.step (State.askRelay_keeps ..); on_goal 1 => decide)
    | (with_reducible apply State.Keeps.step (State.resetDevice_keeps ..); on_goal 1 => decide)

theorem State.bootGrants_keeps (s : State) : s.Keeps pRegs (State.bootGrants s) := by
  unfold State.bootGrants
  repeat' first
    | with_reducible assumption
    | with_reducible apply State.Keeps.refl
    | (extract_lets +onlyGivenNames t; (refine State.Keeps.cut (t := t) ?_ (fun _ => ?_)) <;> [subst t; clear_value t])
    | (extract_lets +onlyGivenNames x; first | clear_value x | subst x)
    | (with_reducible apply State.Keeps.step (State.wr_keeps ..); on_goal 1 => decide)

theorem State.releaseHost_keeps (s : State) (addr : Nat) : s.Keeps (pRegs ||| pHost) (State.releaseHost s addr) := by
  unfold State.releaseHost
  repeat' first
    | with_reducible assumption
    | with_reducible apply State.Keeps.refl
    | (extract_lets +onlyGivenNames t; (refine State.Keeps.cut (t := t) ?_ (fun _ => ?_)) <;> [subst t; clear_value t])
    | (extract_lets +onlyGivenNames x; first | clear_value x | subst x)
    | (with_reducible apply State.Keeps.step (State.wr_keeps ..); on_goal 1 => decide)
    | (with_reducible apply State.Keeps.step (State.maskBit_keeps ..); on_goal 1 => decide)
    | (with_reducible apply State.Keeps.step (State.put_keeps ..); on_goal 1 => decide)
    | (with_reducible apply State.Keeps.step (State.flag_keeps ..); on_goal 1 => decide)
    | (with_reducible apply State.Keeps.step (State.loadCeil_keeps ..); on_goal 1 => decide)
    | (with_reducible apply State.Keeps.with_host; on_goal 1 => decide)

theorem State.giveLatches_keeps (s : State) (n : Fin 16) : s.Keeps pRegs (State.giveLatches s n) := by
  unfold State.giveLatches
  repeat' first
    | with_reducible assumption
    | with_reducible apply State.Keeps.refl
    | (with_reducible apply State.Keeps.step (State.flag_keeps ..); on_goal 1 => decide)

theorem State.releasePort_keeps (s : State) (n : Fin 16) : s.Keeps (pRegs ||| pStaged ||| pPorts ||| pSlices) (State.releasePort s n) := by
  unfold State.releasePort
  repeat' first
    | with_reducible assumption
    | with_reducible apply State.Keeps.refl
    | (extract_lets +onlyGivenNames t; (refine State.Keeps.cut (t := t) ?_ (fun _ => ?_)) <;> [subst t; clear_value t])
    | (extract_lets +onlyGivenNames x; first | clear_value x | subst x)
    | (with_reducible apply State.Keeps.ite <;> intro _)
    | split
    | (with_reducible apply State.Keeps.step (State.modPort_keeps ..); on_goal 1 => decide)
    | (with_reducible apply State.Keeps.step (State.giveLatches_keeps ..); on_goal 1 => decide)
    | (with_reducible apply State.Keeps.step (State.setStruct_keeps ..); on_goal 1 => decide)
    | (with_reducible apply State.Keeps.step (State.startRole_keeps ..); on_goal 1 => decide)
    | (with_reducible apply State.Keeps.step (State.dropPortRegs_keeps ..); on_goal 1 => decide)
    | (with_reducible apply State.Keeps.step (State.maskBit_keeps ..); on_goal 1 => decide)
    | (with_reducible apply State.Keeps.step (State.loadPortRecs_keeps ..); on_goal 1 => decide)
    | (with_reducible apply State.Keeps.step (State.put_keeps ..); on_goal 1 => decide)
    | (with_reducible apply State.Keeps.step (State.setP_keeps ..); on_goal 1 => decide)
    | (with_reducible apply State.Keeps.step (State.flag_keeps ..); on_goal 1 => decide)

theorem State.firstState_keeps (s : State) (n : Fin 16) : s.Keeps (pRegs ||| pStaged ||| pFreeCtr ||| pBat ||| pPorts ||| pBoot) (State.firstState s n) := by
  unfold State.firstState
  repeat' first
    | with_reducible assumption
    | with_reducible apply State.Keeps.refl
    | (with_reducible apply State.Keeps.ite <;> intro _)
    | (with_reducible apply State.Keeps.step (State.enterDisabled_keeps ..); on_goal 1 => decide)
    | (with_reducible apply State.Keeps.step (State.startCheck_keeps ..); on_goal 1 => decide)
    | (with_reducible apply State.Keeps.step (State.enterUnattached_keeps ..); on_goal 1 => decide)

theorem State.promote_keeps (s : State) (n : Fin 16) : s.Keeps (pRegs ||| pStaged ||| pFreeCtr ||| pHost ||| pRidge ||| pBat ||| pPorts ||| pSlices ||| pJtl ||| pBoot) (State.promote s n) := by
  unfold State.promote
  repeat' first
    | with_reducible assumption
    | with_reducible apply State.Keeps.refl
    | (extract_lets +onlyGivenNames t; (refine State.Keeps.cut (t := t) ?_ (fun _ => ?_)) <;> [subst t; clear_value t])
    | (extract_lets +onlyGivenNames x; first | clear_value x | subst x)
    | (with_reducible apply State.Keeps.ite <;> intro _)
    | (with_reducible apply State.Keeps.step (State.modPort_keeps ..); on_goal 1 => decide)
    | (with_reducible apply State.Keeps.step (State.firstState_keeps ..); on_goal 1 => decide)
    | (with_reducible apply State.Keeps.step (State.releasePort_keeps ..); on_goal 1 => decide)
    | (with_reducible apply State.Keeps.step (State.eaveOpen_keeps ..); on_goal 1 => decide)
    | (with_reducible apply State.Keeps.step (State.loadPortRecs_keeps ..); on_goal 1 => decide)
    | (with_reducible apply State.Keeps.step (State.put_keeps ..); on_goal 1 => decide)
    | (with_reducible apply State.Keeps.step (State.setP_keeps ..); on_goal 1 => decide)
    | (with_reducible apply State.Keeps.step (State.flag_keeps ..); on_goal 1 => decide)
    | (with_reducible apply State.Keeps.step (State.losePort_keeps ..); on_goal 1 => decide)
    | (with_reducible apply State.Keeps.step (State.legsOff_keeps ..); on_goal 1 => decide)

theorem State.releaseNext_keeps (s : State) : s.Keeps (pRegs ||| pStaged ||| pFreeCtr ||| pHost ||| pRidge ||| pBat ||| pPorts ||| pSlices ||| pJtl ||| pBoot) (State.releaseNext s) := by
  unfold State.releaseNext
  repeat' first
    | with_reducible assumption
    | with_reducible apply State.Keeps.refl
    | (extract_lets +onlyGivenNames t; (refine State.Keeps.cut (t := t) ?_ (fun _ => ?_)) <;> [subst t; clear_value t])
    | (extract_lets +onlyGivenNames x; first | clear_value x | subst x)
    | (with_reducible apply State.Keeps.ite <;> intro _)
    | split
    | (with_reducible apply State.Keeps.step (State.giveLatches_keeps ..); on_goal 1 => decide)
    | (with_reducible apply State.Keeps.step (State.firstState_keeps ..); on_goal 1 => decide)
    | (with_reducible apply State.Keeps.step (State.setStruct_keeps ..); on_goal 1 => decide)
    | (with_reducible apply State.Keeps.step (State.startRole_keeps ..); on_goal 1 => decide)
    | (with_reducible apply State.Keeps.step (State.releasePort_keeps ..); on_goal 1 => decide)
    | (with_reducible apply State.Keeps.step (State.loadPortRecs_keeps ..); on_goal 1 => decide)
    | (with_reducible apply State.Keeps.step (State.promote_keeps ..); on_goal 1 => decide)
    | (with_reducible apply State.Keeps.step (State.put_keeps ..); on_goal 1 => decide)
    | (with_reducible apply State.Keeps.step (State.modBoot_keeps ..); on_goal 1 => decide)
    | (with_reducible apply State.Keeps.step (State.setRd_keeps ..); on_goal 1 => decide)

theorem State.portGo_keeps (s : State) (v : Word) : s.Keeps pBoot (State.portGo s v) := by
  unfold State.portGo
  repeat' first
    | with_reducible assumption
    | with_reducible apply State.Keeps.refl
    | (with_reducible apply State.Keeps.ite <;> intro _)
    | (with_reducible apply State.Keeps.step (State.modBoot_keeps ..); on_goal 1 => decide)

theorem State.retakeLevels_keeps (s : State) : s.Keeps (pRegs ||| pHost ||| pRidge ||| pBat ||| pPorts ||| pJtl) (State.retakeLevels s) := by
  unfold State.retakeLevels
  repeat' first
    | with_reducible assumption
    | with_reducible apply State.Keeps.refl
    | (with_reducible apply State.Keeps.ite <;> intro _)
    | (with_reducible apply State.Keeps.step (State.atDest_keeps ..); on_goal 1 => decide)
    | with_reducible apply State.Keeps.foldl
    | (intro _; intros; beta_reduce)

theorem State.returnBatten_keeps (s : State) : s.Keeps (pRegs ||| pHost ||| pRidge ||| pBat ||| pPorts ||| pJtl ||| pSoffit) (State.returnBatten s) := by
  unfold State.returnBatten
  repeat' first
    | with_reducible assumption
    | with_reducible apply State.Keeps.refl
    | (with_reducible apply State.Keeps.step (State.fire_keeps ..); on_goal 1 => decide)
    | (with_reducible apply State.Keeps.step (State.modBat_keeps ..); on_goal 1 => decide)
    | (with_reducible apply State.Keeps.step (State.maskBit_keeps ..); on_goal 1 => decide)
    | (with_reducible apply State.Keeps.step (State.tellWarned_keeps ..); on_goal 1 => decide)
    | (with_reducible apply State.Keeps.step (State.retakeLevels_keeps ..); on_goal 1 => decide)

theorem State.refillTruss_keeps (s : State) : s.Keeps pRegs (State.refillTruss s) := by
  unfold State.refillTruss
  repeat' first
    | with_reducible assumption
    | with_reducible apply State.Keeps.refl
    | (with_reducible apply State.Keeps.step (State.wr_keeps ..); on_goal 1 => decide)
    | (with_reducible apply State.Keeps.step (State.put_keeps ..); on_goal 1 => decide)
    | with_reducible apply State.Keeps.foldl
    | (intro _; intros; beta_reduce)

theorem State.rebuildTruss_keeps (s : State) (why : Nat) : s.Keeps (pRegs ||| pRidge ||| pBat ||| pPorts) (State.rebuildTruss s why) := by
  unfold State.rebuildTruss
  repeat' first
    | with_reducible assumption
    | with_reducible apply State.Keeps.refl
    | (with_reducible apply State.Keeps.step (State.fire_keeps ..); on_goal 1 => decide)
    | (with_reducible apply State.Keeps.step (State.tallyPlain_keeps ..); on_goal 1 => decide)
    | (with_reducible apply State.Keeps.step (State.resolveDeficit_keeps ..); on_goal 1 => decide)
    | (with_reducible apply State.Keeps.step (State.refillTruss_keeps ..); on_goal 1 => decide)
    | (with_reducible apply State.Keeps.step (State.raise_keeps ..); on_goal 1 => decide)

theorem State.returnRidge_keeps (s : State) : s.Keeps (pRegs ||| pFreeCtr ||| pRidge ||| pBat ||| pPorts ||| pSlices ||| pJtl ||| pTha ||| pBoot) (State.returnRidge s) := by
  unfold State.returnRidge
  repeat' first
    | with_reducible assumption
    | with_reducible apply State.Keeps.refl
    | (extract_lets +onlyGivenNames t; (refine State.Keeps.cut (t := t) ?_ (fun _ => ?_)) <;> [subst t; clear_value t])
    | (extract_lets +onlyGivenNames x; first | clear_value x | subst x)
    | (with_reducible apply State.Keeps.step (State.clear_keeps ..); on_goal 1 => decide)
    | (with_reducible apply State.Keeps.step (State.modTha_keeps ..); on_goal 1 => decide)
    | (with_reducible apply State.Keeps.step (State.leaveBrace_keeps ..); on_goal 1 => decide)
    | (with_reducible apply State.Keeps.step (State.wr_keeps ..); on_goal 1 => decide)
    | (with_reducible apply State.Keeps.step (State.rebuildTruss_keeps ..); on_goal 1 => decide)
    | (with_reducible apply State.Keeps.step (State.maskBit_keeps ..); on_goal 1 => decide)
    | with_reducible apply State.Keeps.foldl
    | (intro _; intros; beta_reduce)

end Sys2Proof.Machine
end

