-- ==== Sys2Proof/Laws/OtpOps.lean ====
section
/-!
SUPPORT. What the operations of Machine/OtpOps.lean may change, one lemma each.
-/

set_option linter.unusedTactic false
set_option linter.unreachableTactic false
set_option linter.tactic.unusedName false

namespace Sys2Proof.Machine

theorem State.modOtp_keeps {s₀ s : State} {f : OtpSt → OtpSt} {m : Nat} (hm : m.testBit 10 = true) (hf : s.otp.burnedIn (f s.otp)) (h : s₀.Keeps m s) :
    s₀.Keeps m (s.modOtp f) :=
  h.one 10 hm (fun k hk => by unfold State.agree; split <;> trivial) id hf

theorem State.modOtp_keeps_same {s₀ s : State} {f : OtpSt → OtpSt} {m : Nat} (hm : m.testBit 10 = true) (hf : ∀ o, (f o).ctr = o.ctr ∧ (f o).ctrMarg = o.ctrMarg)
    (h : s₀.Keeps m s) : s₀.Keeps m (s.modOtp f) :=
  State.modOtp_keeps hm (fun l => by rw [(hf _).1, (hf _).2]; exact ⟨l, fun _ _ => BitVec.and_self⟩) h

end Sys2Proof.Machine
end

