-- ==== Sys2Proof/Laws/Otp.lean ====
section
/-!
SUPPORT. What the operations of Machine/Otp.lean may change, one lemma each.
-/

set_option linter.unusedTactic false
set_option linter.unreachableTactic false
set_option linter.tactic.unusedName false

namespace Sys2Proof.Machine

theorem State.countOtp_keeps (s : State) : s.Keeps pRegs (State.countOtp s) := by
  unfold State.countOtp
  repeat' first
    | with_reducible assumption
    | with_reducible apply State.Keeps.refl
    | (extract_lets +onlyGivenNames t; (refine State.Keeps.cut (t := t) ?_ (fun _ => ?_)) <;> [subst t; clear_value t])
    | (extract_lets +onlyGivenNames x; first | clear_value x | subst x)
    | (with_reducible apply State.Keeps.step (State.put_keeps ..); on_goal 1 => decide)
    | (with_reducible apply State.Keeps.step (State.flag_keeps ..); on_goal 1 => decide)

theorem State.setStatus_keeps (s : State) (w : Nat) (code : Nat) (say : Bool) : s.Keeps (pBat ||| pOtp) (State.setStatus s w code say) := by
  unfold State.setStatus
  repeat' first
    | with_reducible assumption
    | with_reducible apply State.Keeps.refl
    | (extract_lets +onlyGivenNames t; (refine State.Keeps.cut (t := t) ?_ (fun _ => ?_)) <;> [subst t; clear_value t])
    | (extract_lets +onlyGivenNames x; first | clear_value x | subst x)
    | (with_reducible apply State.Keeps.ite <;> intro _)
    | (with_reducible apply State.Keeps.step (State.fire_keeps ..); on_goal 1 => decide)
    | (with_reducible apply State.modOtp_keeps_same <;> [decide; exact fun _ => ⟨rfl, rfl⟩; skip])

/-- Burned bits stay burned when every bit that reads as burned still does. -/
theorem OtpSt.burnedIn_of {o p : OtpSt} (l : o.ctr.length = 6 → p.ctr.length = 6)
    (h : ∀ g < 6, o.ctr.length = 6 → ∀ i, (o.ctr.getD g 0).getLsbD i || (o.ctrMarg.getD g 0).getLsbD i →
      (p.ctr.getD g 0).getLsbD i || (p.ctrMarg.getD g 0).getLsbD i) : o.burnedIn p := by
  refine fun k => ⟨l k, fun g hg => BitVec.eq_of_getLsbD_eq fun i _ => ?_⟩
  have := h g hg k i
  simp only [BitVec.getLsbD_and, BitVec.getLsbD_or]
  revert this
  cases (o.ctr.getD g 0).getLsbD i <;> cases (o.ctrMarg.getD g 0).getLsbD i <;> simp

theorem State.readCounters_keeps (s : State) (cs : CtrReads) : s.Keeps pOtp (State.readCounters s cs) := by
  unfold State.readCounters
  refine State.modOtp_keeps (by decide) (OtpSt.burnedIn_of (fun _ => by simp) fun g hg _ i hb => ?_) (State.Keeps.refl _ _)
  simp only [List.getD_eq_getElem?_getD, List.getElem?_map, List.getElem?_range hg, Option.map_some, Option.getD_some, State.groupBits]
  have hi : i < 64 := by
    by_contra hc
    simp [BitVec.getLsbD_of_ge _ i (by omega : 64 ≤ i)] at hb
  cases h : (cs[g]?.getD []).isEmpty
  · simp only [Bool.false_eq_true, if_false, BitVec.getLsbD_and, BitVec.getLsbD_or, BitVec.getLsbD_not, hi, decide_true, Bool.true_and]
    simp only [List.getD_eq_getElem?_getD] at hb
    revert hb
    cases (readBurned (cs[g]?.getD [])).getLsbD i <;> cases (s.otp.ctr[g]?.getD 0).getLsbD i <;> cases (s.otp.ctrMarg[g]?.getD 0).getLsbD i <;>
      cases (readAny (cs[g]?.getD [])).getLsbD i <;> simp
  · simpa using hb

theorem State.readWordsAt_keeps (s : State) (reads : List OtpRead) (say : Nat → Nat → Bool) : s.Keeps (pBat ||| pOtp) (State.readWordsAt s reads say) := by
  unfold State.readWordsAt
  repeat' first
    | with_reducible assumption
    | with_reducible apply State.Keeps.refl
    | (extract_lets +onlyGivenNames t; (refine State.Keeps.cut (t := t) ?_ (fun _ => ?_)) <;> [subst t; clear_value t])
    | (extract_lets +onlyGivenNames x; first | clear_value x | subst x)
    | (with_reducible apply State.Keeps.step (State.setStatus_keeps ..); on_goal 1 => decide)
    | (with_reducible apply State.modOtp_keeps_same <;> [decide; exact fun _ => ⟨rfl, rfl⟩; skip])
    | with_reducible apply State.Keeps.foldl
    | with_reducible apply State.Keeps.foldl_fst
    | with_reducible apply State.Keeps.foldl_snd
    | (intro _; intros; beta_reduce)

theorem State.autoRepair_keeps (s : State) : s.Keeps (pRegs ||| pOtp) (State.autoRepair s) := by
  unfold State.autoRepair
  repeat' first
    | with_reducible assumption
    | with_reducible apply State.Keeps.refl
    | (with_reducible apply State.Keeps.ite <;> intro _)
    | (with_reducible apply State.Keeps.step (State.clear_keeps ..); on_goal 1 => decide)
    | (with_reducible apply State.Keeps.step (State.raise_keeps ..); on_goal 1 => decide)
    | (with_reducible apply State.modOtp_keeps_same <;> [decide; exact fun _ => ⟨rfl, rfl⟩; skip])

theorem State.loadShadows_keeps (s : State) : s.Keeps pOtp (State.loadShadows s) := by
  unfold State.loadShadows
  repeat' first
    | with_reducible assumption
    | with_reducible apply State.Keeps.refl
    | (extract_lets +onlyGivenNames t; (refine State.Keeps.cut (t := t) ?_ (fun _ => ?_)) <;> [subst t; clear_value t])
    | (extract_lets +onlyGivenNames x; first | clear_value x | subst x)
    | (with_reducible apply State.modOtp_keeps_same <;> [decide; exact fun _ => ⟨rfl, rfl⟩; skip])

theorem State.trimFallback_keeps (s : State) (w : Nat) : s.Keeps (pRegs ||| pPorts) (State.trimFallback s w) := by
  unfold State.trimFallback
  repeat' first
    | with_reducible assumption
    | with_reducible apply State.Keeps.refl
    | (with_reducible apply State.Keeps.ite <;> intro _)
    | split
    | (with_reducible apply State.Keeps.step (State.latch_keeps ..); on_goal 1 => decide)
    | (with_reducible apply State.Keeps.step (State.maskBit_keeps ..); on_goal 1 => decide)
    | (with_reducible apply State.Keeps.step (State.raise_keeps ..); on_goal 1 => decide)

theorem State.loadVariant_keeps (s : State) : s.Keeps (pRegs ||| pSlate) (State.loadVariant s) := by
  unfold State.loadVariant
  repeat' first
    | with_reducible assumption
    | with_reducible apply State.Keeps.refl
    | (extract_lets +onlyGivenNames t; (refine State.Keeps.cut (t := t) ?_ (fun _ => ?_)) <;> [subst t; clear_value t])
    | (extract_lets +onlyGivenNames x; first | clear_value x | subst x)
    | (with_reducible apply State.Keeps.ite <;> intro _)
    | split
    | (with_reducible apply State.Keeps.step (State.wr_keeps ..); on_goal 1 => decide)
    | (with_reducible apply State.Keeps.step (State.put_keeps ..); on_goal 1 => decide)
    | (with_reducible apply State.Keeps.step (State.flag_keeps ..); on_goal 1 => decide)
    | (with_reducible apply State.Keeps.step (State.logFault_keeps ..); on_goal 1 => decide)

theorem State.loadSerial_keeps (s : State) : s.Keeps pRegs (State.loadSerial s) := by
  unfold State.loadSerial
  repeat' first
    | with_reducible assumption
    | with_reducible apply State.Keeps.refl
    | (extract_lets +onlyGivenNames t; (refine State.Keeps.cut (t := t) ?_ (fun _ => ?_)) <;> [subst t; clear_value t])
    | (extract_lets +onlyGivenNames x; first | clear_value x | subst x)
    | split
    | (with_reducible apply State.Keeps.step (State.wr_keeps ..); on_goal 1 => decide)
    | (with_reducible apply State.Keeps.step (State.flag_keeps ..); on_goal 1 => decide)

theorem State.bootRead_keeps (s : State) (reads : List OtpRead) (cs : CtrReads) : s.Keeps (pRegs ||| pBat ||| pPorts ||| pOtp ||| pSlate) (State.bootRead s reads cs) := by
  unfold State.bootRead
  repeat' first
    | with_reducible assumption
    | with_reducible apply State.Keeps.refl
    | (extract_lets +onlyGivenNames t; (refine State.Keeps.cut (t := t) ?_ (fun _ => ?_)) <;> [subst t; clear_value t])
    | (extract_lets +onlyGivenNames x; first | clear_value x | subst x)
    | (with_reducible apply State.Keeps.step (State.loadShadows_keeps ..); on_goal 1 => decide)
    | (with_reducible apply State.Keeps.step (State.loadSerial_keeps ..); on_goal 1 => decide)
    | (with_reducible apply State.Keeps.step (State.wr_keeps ..); on_goal 1 => decide)
    | (with_reducible apply State.Keeps.step (State.countOtp_keeps ..); on_goal 1 => decide)
    | (with_reducible apply State.Keeps.step (State.autoRepair_keeps ..); on_goal 1 => decide)
    | (with_reducible apply State.Keeps.step (State.trimFallback_keeps ..); on_goal 1 => decide)
    | (with_reducible apply State.Keeps.step (State.raise_keeps ..); on_goal 1 => decide)
    | (with_reducible apply State.Keeps.step (State.put_keeps ..); on_goal 1 => decide)
    | (with_reducible apply State.Keeps.step (State.flag_keeps ..); on_goal 1 => decide)
    | (with_reducible apply State.Keeps.step (State.readWordsAt_keeps ..); on_goal 1 => decide)
    | (with_reducible apply State.Keeps.step (State.loadVariant_keeps ..); on_goal 1 => decide)
    | (with_reducible apply State.Keeps.step (State.loadCeil_keeps ..); on_goal 1 => decide)
    | (with_reducible apply State.Keeps.step (State.readCounters_keeps ..); on_goal 1 => decide)
    | with_reducible apply State.Keeps.foldl
    | (intro _; intros; beta_reduce)

theorem State.shadowChanged_keeps (s : State) (w : Nat) : s.Keeps (pRegs ||| pRidge ||| pBat ||| pPorts) (State.shadowChanged s w) := by
  unfold State.shadowChanged
  repeat' first
    | with_reducible assumption
    | with_reducible apply State.Keeps.refl
    | (extract_lets +onlyGivenNames t; (refine State.Keeps.cut (t := t) ?_ (fun _ => ?_)) <;> [subst t; clear_value t])
    | (extract_lets +onlyGivenNames x; first | clear_value x | subst x)
    | (with_reducible apply State.Keeps.ite <;> intro _)
    | (with_reducible apply State.Keeps.step (State.flag_keeps ..); on_goal 1 => decide)
    | (with_reducible apply State.Keeps.step (State.loadGrants_keeps ..); on_goal 1 => decide)
    | (with_reducible apply State.Keeps.step (State.loadCeil_keeps ..); on_goal 1 => decide)

theorem State.setOverride_keeps (s : State) (w : Nat) (v : BitVec 64) : s.Keeps (pRegs ||| pRidge ||| pBat ||| pPorts ||| pOtp) (State.setOverride s w v) := by
  unfold State.setOverride
  repeat' first
    | with_reducible assumption
    | with_reducible apply State.Keeps.refl
    | (extract_lets +onlyGivenNames t; (refine State.Keeps.cut (t := t) ?_ (fun _ => ?_)) <;> [subst t; clear_value t])
    | (extract_lets +onlyGivenNames x; first | clear_value x | subst x)
    | (with_reducible apply State.Keeps.step (State.fire_keeps ..); on_goal 1 => decide)
    | (with_reducible apply State.Keeps.step (State.put_keeps ..); on_goal 1 => decide)
    | (with_reducible apply State.modOtp_keeps_same <;> [decide; exact fun _ => ⟨rfl, rfl⟩; skip])
    | (with_reducible apply State.Keeps.step (State.shadowChanged_keeps ..); on_goal 1 => decide)

theorem State.dropOverride_keeps (s : State) (w : Nat) (all : Bool) : s.Keeps (pRegs ||| pRidge ||| pBat ||| pPorts ||| pOtp) (State.dropOverride s w all) := by
  unfold State.dropOverride
  repeat' first
    | with_reducible assumption
    | with_reducible apply State.Keeps.refl
    | (extract_lets +onlyGivenNames t; (refine State.Keeps.cut (t := t) ?_ (fun _ => ?_)) <;> [subst t; clear_value t])
    | (extract_lets +onlyGivenNames x; first | clear_value x | subst x)
    | (with_reducible apply State.Keeps.ite <;> intro _)
    | (with_reducible apply State.Keeps.step (State.fire_keeps ..); on_goal 1 => decide)
    | (with_reducible apply State.modOtp_keeps_same <;> [decide; exact fun _ => ⟨rfl, rfl⟩; skip])
    | (with_reducible apply State.Keeps.step (State.shadowChanged_keeps ..); on_goal 1 => decide)
    | with_reducible apply State.Keeps.foldl
    | with_reducible apply State.Keeps.foldl_fst
    | with_reducible apply State.Keeps.foldl_snd
    | (intro _; intros; beta_reduce)

theorem State.startBurn_keeps (s : State) (b : Burn) : s.Keeps (pRegs ||| pOtp) (State.startBurn s b) := by
  unfold State.startBurn
  repeat' first
    | with_reducible assumption
    | with_reducible apply State.Keeps.refl
    | (with_reducible apply State.Keeps.step (State.raise_keeps ..); on_goal 1 => decide)
    | (with_reducible apply State.modOtp_keeps_same <;> [decide; exact fun _ => ⟨rfl, rfl⟩; skip])

theorem State.otpCmd_keeps (s : State) (v : Word) : s.Keeps (pRegs ||| pRidge ||| pBat ||| pPorts ||| pOtp) (State.otpCmd s v) := by
  unfold State.otpCmd
  repeat' first
    | with_reducible assumption
    | with_reducible apply State.Keeps.refl
    | (extract_lets +onlyGivenNames t; (refine State.Keeps.cut (t := t) ?_ (fun _ => ?_)) <;> [subst t; clear_value t])
    | (extract_lets +onlyGivenNames x; first | clear_value x | subst x)
    | (with_reducible apply State.Keeps.ite <;> intro _)
    | (with_reducible apply State.Keeps.step (State.startBurn_keeps ..); on_goal 1 => decide)
    | (with_reducible apply State.Keeps.step (State.raise_keeps ..); on_goal 1 => decide)
    | (with_reducible apply State.Keeps.step (State.put_keeps ..); on_goal 1 => decide)
    | (with_reducible apply State.Keeps.step (State.dropOverride_keeps ..); on_goal 1 => decide)

theorem State.burnResult_keeps (s : State) (ok : Bool) (pulses : Nat) (word : Nat) : s.Keeps (pRegs ||| pBat ||| pOtp) (State.burnResult s ok pulses word) := by
  unfold State.burnResult
  repeat' first
    | with_reducible assumption
    | with_reducible apply State.Keeps.refl
    | (extract_lets +onlyGivenNames t; (refine State.Keeps.cut (t := t) ?_ (fun _ => ?_)) <;> [subst t; clear_value t])
    | (extract_lets +onlyGivenNames x; first | clear_value x | subst x)
    | (with_reducible apply State.Keeps.ite <;> intro _)
    | (with_reducible apply State.Keeps.step (State.fire_keeps ..); on_goal 1 => decide)
    | (with_reducible apply State.Keeps.step (State.clear_keeps ..); on_goal 1 => decide)
    | (with_reducible apply State.Keeps.step (State.put_keeps ..); on_goal 1 => decide)
    | (with_reducible apply State.modOtp_keeps_same <;> [decide; exact fun _ => ⟨rfl, rfl⟩; skip])

end Sys2Proof.Machine
end

