-- ==== Sys2Proof/Laws/Pd.lean ====
section
/-!
SUPPORT. What the operations of Machine/Pd.lean may change, one lemma each.
-/

set_option linter.unusedTactic false
set_option linter.unreachableTactic false
set_option linter.tactic.unusedName false

namespace Sys2Proof.Machine

theorem State.byGroup_keeps {s₀ s : State} {n : Fin 16} {startup : State → State} {neg : State → State} {ready : State → State} {brace : State → State} {snk : State → State} {dorm : State → State} {m : Nat} (_hm : 0 ||| m = m) (hstartup : ∀ u, s₀.Keeps m u → s₀.Keeps m (startup u)) (hneg : ∀ u, s₀.Keeps m u → s₀.Keeps m (neg u)) (hready : ∀ u, s₀.Keeps m u → s₀.Keeps m (ready u)) (hbrace : ∀ u, s₀.Keeps m u → s₀.Keeps m (brace u)) (hsnk : ∀ u, s₀.Keeps m u → s₀.Keeps m (snk u)) (hdorm : ∀ u, s₀.Keeps m u → s₀.Keeps m (dorm u)) (hs : s₀.Keeps m s) :
    s₀.Keeps m (State.byGroup s n startup neg ready brace snk dorm) := by
  unfold State.byGroup
  repeat' first
    | with_reducible assumption
    | split
    | with_reducible apply hstartup
    | with_reducible apply hneg
    | with_reducible apply hready
    | with_reducible apply hbrace
    | with_reducible apply hsnk
    | with_reducible apply hdorm

theorem ig_keeps (s : State) : s.Keeps 0 (ig s) := by
  unfold ig
  repeat' first
    | with_reducible assumption
    | with_reducible apply State.Keeps.refl

theorem star_keeps (n : Fin 16) (s : State) : s.Keeps (pRegs ||| pFreeCtr ||| pRidge ||| pBat ||| pPorts ||| pSlices ||| pJtl ||| pBoot) (star n s) := by
  unfold star
  repeat' first
    | with_reducible assumption
    | with_reducible apply State.Keeps.refl
    | (with_reducible apply State.Keeps.step (State.starAct_keeps ..); on_goal 1 => decide)

theorem sr_keeps (n : Fin 16) (s : State) : s.Keeps (pRegs ||| pPorts) (sr n s) := by
  unfold sr
  repeat' first
    | with_reducible assumption
    | with_reducible apply State.Keeps.refl
    | (with_reducible apply State.Keeps.step (State.softReset_keeps ..); on_goal 1 => decide)

theorem nsup_keeps (n : Fin 16) (s : State) : s.Keeps pPorts (nsup n s) := by
  unfold nsup
  repeat' first
    | with_reducible assumption
    | with_reducible apply State.Keeps.refl
    | (with_reducible apply State.Keeps.step (State.ns_keeps ..); on_goal 1 => decide)

theorem State.sinkHard_keeps (s : State) (n : Fin 16) : s.Keeps (pRegs ||| pFreeCtr ||| pRidge ||| pBat ||| pPorts ||| pSlices ||| pJtl ||| pBoot) (State.sinkHard s n) := by
  unfold State.sinkHard
  repeat' first
    | with_reducible assumption
    | with_reducible apply State.Keeps.refl
    | (with_reducible apply State.Keeps.ite <;> intro _)
    | (with_reducible apply State.Keeps.step (State.hardReset_keeps ..); on_goal 1 => decide)
    | (with_reducible apply State.Keeps.step (State.modPd_keeps ..); on_goal 1 => decide)
    | (with_reducible apply State.Keeps.step (State.setSink_keeps ..); on_goal 1 => decide)

theorem State.swapRole_keeps (s : State) (n : Fin 16) : s.Keeps pRegs (State.swapRole s n) := by
  unfold State.swapRole
  repeat' first
    | with_reducible assumption
    | with_reducible apply State.Keeps.refl
    | (with_reducible apply State.Keeps.step (State.flag_keeps ..); on_goal 1 => decide)

theorem State.eprDecide_keeps (s : State) (n : Fin 16) : s.Keeps (pRegs ||| pFreeCtr ||| pRidge ||| pBat ||| pPorts ||| pSlices ||| pJtl ||| pBoot) (State.eprDecide s n) := by
  unfold State.eprDecide
  repeat' first
    | with_reducible assumption
    | with_reducible apply State.Keeps.refl
    | (extract_lets +onlyGivenNames t; (refine State.Keeps.cut (t := t) ?_ (fun _ => ?_)) <;> [subst t; clear_value t])
    | (extract_lets +onlyGivenNames x; first | clear_value x | subst x)
    | (with_reducible apply State.Keeps.ite <;> intro _)
    | (with_reducible apply State.Keeps.step (State.enterReady_keeps ..); on_goal 1 => decide)
    | (with_reducible apply State.Keeps.step (State.modPd_keeps ..); on_goal 1 => decide)
    | (with_reducible apply State.Keeps.step (State.raise_keeps ..); on_goal 1 => decide)
    | (with_reducible apply State.Keeps.step (State.send_keeps ..); on_goal 1 => decide)

theorem State.afterAlert_keeps (s : State) (n : Fin 16) : s.Keeps (pRegs ||| pFreeCtr ||| pRidge ||| pBat ||| pPorts ||| pSlices ||| pJtl ||| pBoot) (State.afterAlert s n) := by
  unfold State.afterAlert
  repeat' first
    | with_reducible assumption
    | with_reducible apply State.Keeps.refl
    | (extract_lets +onlyGivenNames t; (refine State.Keeps.cut (t := t) ?_ (fun _ => ?_)) <;> [subst t; clear_value t])
    | (extract_lets +onlyGivenNames x; first | clear_value x | subst x)
    | (with_reducible apply State.Keeps.ite <;> intro _)
    | (with_reducible apply State.Keeps.step (State.modPd_keeps ..); on_goal 1 => decide)
    | (with_reducible apply State.Keeps.step (State.wantOffer_keeps ..); on_goal 1 => decide)
    | (with_reducible apply State.Keeps.step (State.endAms_keeps ..); on_goal 1 => decide)

theorem State.afterGoodCrc_keeps (s : State) (n : Fin 16) (m : PdMsg) : s.Keeps (pRegs ||| pFreeCtr ||| pRidge ||| pBat ||| pPorts ||| pSlices ||| pJtl ||| pBoot) (State.afterGoodCrc s n m) := by
  unfold State.afterGoodCrc
  repeat' first
    | with_reducible assumption
    | with_reducible apply State.Keeps.refl
    | (extract_lets +onlyGivenNames t; (refine State.Keeps.cut (t := t) ?_ (fun _ => ?_)) <;> [subst t; clear_value t])
    | (extract_lets +onlyGivenNames x; first | clear_value x | subst x)
    | (with_reducible apply State.Keeps.ite <;> intro _)
    | split
    | (with_reducible apply State.Keeps.step (State.sendOffer_keeps ..); on_goal 1 => decide)
    | (with_reducible apply State.Keeps.step (State.enterReady_keeps ..); on_goal 1 => decide)
    | (with_reducible apply State.Keeps.step (State.modPd_keeps ..); on_goal 1 => decide)
    | (with_reducible apply State.Keeps.step (State.eprDecide_keeps ..); on_goal 1 => decide)
    | (with_reducible apply State.Keeps.step (State.swapRole_keeps ..); on_goal 1 => decide)
    | (with_reducible apply State.Keeps.step (State.put_keeps ..); on_goal 1 => decide)
    | (with_reducible apply State.Keeps.step (State.afterAlert_keeps ..); on_goal 1 => decide)
    | (with_reducible apply State.Keeps.step (State.endAms_keeps ..); on_goal 1 => decide)
    | (with_reducible apply State.Keeps.step (State.sendCached_keeps ..); on_goal 1 => decide)
    | (with_reducible apply State.Keeps.step (State.setSink_keeps ..); on_goal 1 => decide)
    | (with_reducible apply State.Keeps.step (State.send_keeps ..); on_goal 1 => decide)

theorem State.sendFailed_keeps (s : State) (n : Fin 16) (m : PdMsg) : s.Keeps (pRegs ||| pFreeCtr ||| pRidge ||| pBat ||| pPorts ||| pSlices ||| pJtl ||| pBoot) (State.sendFailed s n m) := by
  unfold State.sendFailed
  repeat' first
    | with_reducible assumption
    | with_reducible apply State.Keeps.refl
    | (extract_lets +onlyGivenNames t; (refine State.Keeps.cut (t := t) ?_ (fun _ => ?_)) <;> [subst t; clear_value t])
    | (extract_lets +onlyGivenNames x; first | clear_value x | subst x)
    | (with_reducible apply State.Keeps.ite <;> intro _)
    | split
    | (with_reducible apply State.Keeps.step (State.hardReset_keeps ..); on_goal 1 => decide)
    | (with_reducible apply State.Keeps.step (State.sendOffer_keeps ..); on_goal 1 => decide)
    | (with_reducible apply State.Keeps.step (State.sinkHard_keeps ..); on_goal 1 => decide)
    | (with_reducible apply State.Keeps.step (State.clear_keeps ..); on_goal 1 => decide)
    | (with_reducible apply State.Keeps.step (State.tallyOut_keeps ..); on_goal 1 => decide)
    | (with_reducible apply State.Keeps.step (State.enterReady_keeps ..); on_goal 1 => decide)
    | (with_reducible apply State.Keeps.step (State.modPd_keeps ..); on_goal 1 => decide)
    | (with_reducible apply State.Keeps.step (State.eprDecide_keeps ..); on_goal 1 => decide)
    | (with_reducible apply State.Keeps.step (State.afterDisc_keeps ..); on_goal 1 => decide)
    | (with_reducible apply State.Keeps.step (State.cableUnknown_keeps ..); on_goal 1 => decide)
    | (with_reducible apply State.Keeps.step (State.endAms_keeps ..); on_goal 1 => decide)

theorem State.eprRequest_keeps (s : State) (n : Fin 16) (rdo : Word) (pdo : Word) : s.Keeps (pRegs ||| pRidge ||| pBat ||| pPorts) (State.eprRequest s n rdo pdo) := by
  unfold State.eprRequest
  repeat' first
    | with_reducible assumption
    | with_reducible apply State.Keeps.refl
    | (with_reducible apply State.Keeps.ite <;> intro _)
    | (with_reducible apply State.Keeps.step (State.request_keeps ..); on_goal 1 => decide)
    | (with_reducible apply State.Keeps.step (State.softReset_keeps ..); on_goal 1 => decide)

theorem State.takeTransition_keeps_of {s t : State} {n : Fin 16} {o : Op} (h : s.takeTransition n = some (t, o)) : s.Keeps pPorts t := by
  unfold State.takeTransition at h
  dsimp only at h
  split at h
  · cases h
  · cases h
    exact State.modPort_keeps ..

theorem State.applyTransition_keeps (s : State) (n : Fin 16) (w : Transition) : s.Keeps (pRegs ||| pStaged ||| pPorts) (State.applyTransition s n w) := by
  unfold State.applyTransition
  repeat' first
    | with_reducible assumption
    | with_reducible apply State.Keeps.refl
    | (extract_lets +onlyGivenNames t; (refine State.Keeps.cut (t := t) ?_ (fun _ => ?_)) <;> [subst t; clear_value t])
    | (extract_lets +onlyGivenNames x; first | clear_value x | subst x)
    | (with_reducible apply State.Keeps.ite <;> intro _)
    | split
    | (with_reducible apply State.Keeps.step (State.modPort_keeps ..); on_goal 1 => decide)
    | (with_reducible apply State.Keeps.step (State.setTarget_keeps ..); on_goal 1 => decide)
    | (with_reducible apply State.Keeps.step (State.showCurve_keeps ..); on_goal 1 => decide)
    | (with_reducible apply State.Keeps.step (State.clear_keeps ..); on_goal 1 => decide)
    | (with_reducible apply State.Keeps.step (State.selectCurve_keeps ..); on_goal 1 => decide)
    | (with_reducible apply State.Keeps.step (State.selectCurve_keeps_of (by assumption)); on_goal 1 => decide)
    | (with_reducible apply State.Keeps.step (State.modPd_keeps ..); on_goal 1 => decide)
    | (with_reducible apply State.Keeps.step (State.wr_keeps ..); on_goal 1 => decide)
    | (with_reducible apply State.Keeps.step (State.modLoop_keeps ..); on_goal 1 => decide)

theorem State.afterPsRdy_keeps (s : State) (n : Fin 16) : s.Keeps (pRegs ||| pFreeCtr ||| pRidge ||| pBat ||| pPorts ||| pSlices ||| pJtl ||| pBoot) (State.afterPsRdy s n) := by
  unfold State.afterPsRdy
  repeat' first
    | with_reducible assumption
    | with_reducible apply State.Keeps.refl
    | (with_reducible apply State.Keeps.ite <;> intro _)
    | (with_reducible apply State.Keeps.step (State.enterReady_keeps ..); on_goal 1 => decide)
    | (with_reducible apply State.Keeps.step (State.setEff_keeps ..); on_goal 1 => decide)

theorem State.psRdyOut_keeps (s : State) (n : Fin 16) : s.Keeps (pRegs ||| pFreeCtr ||| pRidge ||| pBat ||| pPorts ||| pSlices ||| pJtl ||| pBoot) (State.psRdyOut s n) := by
  unfold State.psRdyOut
  repeat' first
    | with_reducible assumption
    | with_reducible apply State.Keeps.refl
    | (extract_lets +onlyGivenNames t; (refine State.Keeps.cut (t := t) ?_ (fun _ => ?_)) <;> [subst t; clear_value t])
    | (extract_lets +onlyGivenNames x; first | clear_value x | subst x)
    | (with_reducible apply State.Keeps.ite <;> intro _)
    | split
    | (with_reducible apply State.Keeps.step (State.setAlloc_keeps ..); on_goal 1 => decide)
    | (with_reducible apply State.Keeps.step (State.clear_keeps ..); on_goal 1 => decide)
    | (with_reducible apply State.Keeps.step (State.modPd_keeps ..); on_goal 1 => decide)
    | (with_reducible apply State.Keeps.step (State.settleCurve_keeps ..); on_goal 1 => decide)
    | (with_reducible apply State.Keeps.step (State.recordContract_keeps ..); on_goal 1 => decide)
    | (with_reducible apply State.Keeps.step (State.raise_keeps ..); on_goal 1 => decide)
    | (with_reducible apply State.Keeps.step (State.settleDeficit_keeps ..); on_goal 1 => decide)
    | (with_reducible apply State.Keeps.step (State.send_keeps ..); on_goal 1 => decide)
    | (with_reducible apply State.Keeps.step (State.afterPsRdy_keeps ..); on_goal 1 => decide)

theorem State.eprExitIn_keeps (s : State) (n : Fin 16) : s.Keeps (pRegs ||| pFreeCtr ||| pRidge ||| pBat ||| pPorts ||| pSlices ||| pJtl ||| pBoot) (State.eprExitIn s n) := by
  unfold State.eprExitIn
  repeat' first
    | with_reducible assumption
    | with_reducible apply State.Keeps.refl
    | (with_reducible apply State.Keeps.ite <;> intro _)
    | (with_reducible apply State.Keeps.step (State.hardReset_keeps ..); on_goal 1 => decide)
    | (with_reducible apply State.Keeps.step (State.sendOffer_keeps ..); on_goal 1 => decide)
    | (with_reducible apply State.Keeps.step (State.clear_keeps ..); on_goal 1 => decide)

theorem State.eprExitBrace_keeps (s : State) (n : Fin 16) : s.Keeps (pRegs ||| pFreeCtr ||| pRidge ||| pBat ||| pPorts ||| pSlices ||| pJtl ||| pBoot) (State.eprExitBrace s n) := by
  unfold State.eprExitBrace
  repeat' first
    | with_reducible assumption
    | with_reducible apply State.Keeps.refl
    | (with_reducible apply State.Keeps.ite <;> intro _)
    | (with_reducible apply State.Keeps.step (State.hardReset_keeps ..); on_goal 1 => decide)
    | (with_reducible apply State.Keeps.step (State.clear_keeps ..); on_goal 1 => decide)
    | (with_reducible apply State.Keeps.step (State.send_keeps ..); on_goal 1 => decide)

theorem State.dropTransition_keeps (s : State) (n : Fin 16) : s.Keeps (pRegs ||| pPorts) (State.dropTransition s n) := by
  unfold State.dropTransition
  repeat' first
    | with_reducible assumption
    | with_reducible apply State.Keeps.refl
    | (extract_lets +onlyGivenNames t; (refine State.Keeps.cut (t := t) ?_ (fun _ => ?_)) <;> [subst t; clear_value t])
    | (extract_lets +onlyGivenNames x; first | clear_value x | subst x)
    | (with_reducible apply State.Keeps.ite <;> intro _)
    | split
    | (with_reducible apply State.Keeps.step (State.modPort_keeps ..); on_goal 1 => decide)
    | (with_reducible apply State.Keeps.step (State.setAlloc_keeps ..); on_goal 1 => decide)
    | (with_reducible apply State.Keeps.step (State.clear_keeps ..); on_goal 1 => decide)
    | (with_reducible apply State.Keeps.step (State.modPd_keeps ..); on_goal 1 => decide)
    | (with_reducible apply State.Keeps.step (State.wr_keeps ..); on_goal 1 => decide)
    | (with_reducible apply State.Keeps.step (State.settleDeficit_keeps ..); on_goal 1 => decide)

theorem State.softIn_keeps (s : State) (n : Fin 16) (id : BitVec 3) : s.Keeps (pRegs ||| pFreeCtr ||| pRidge ||| pBat ||| pPorts ||| pSlices ||| pJtl ||| pBoot) (State.softIn s n id) := by
  unfold State.softIn
  repeat' first
    | with_reducible assumption
    | with_reducible apply State.Keeps.refl
    | (extract_lets +onlyGivenNames t; (refine State.Keeps.cut (t := t) ?_ (fun _ => ?_)) <;> [subst t; clear_value t])
    | (extract_lets +onlyGivenNames x; first | clear_value x | subst x)
    | (with_reducible apply State.Keeps.ite <;> intro _)
    | (with_reducible apply State.Keeps.step (State.keepId_keeps ..); on_goal 1 => decide)
    | (with_reducible apply State.Keeps.step (State.hardReset_keeps ..); on_goal 1 => decide)
    | (with_reducible apply State.Keeps.step (State.satInc_keeps ..); on_goal 1 => decide)
    | (with_reducible apply State.Keeps.step (State.modPd_keeps ..); on_goal 1 => decide)
    | (with_reducible apply State.Keeps.step (State.protoReset_keeps ..); on_goal 1 => decide)
    | (with_reducible apply State.Keeps.step (State.setP_keeps ..); on_goal 1 => decide)
    | (with_reducible apply State.Keeps.step (State.dropTransition_keeps ..); on_goal 1 => decide)
    | (with_reducible apply State.Keeps.step (State.send_keeps ..); on_goal 1 => decide)

theorem State.drSwapIn_keeps (s : State) (n : Fin 16) : s.Keeps (pRegs ||| pPorts) (State.drSwapIn s n) := by
  unfold State.drSwapIn
  repeat' first
    | with_reducible assumption
    | with_reducible apply State.Keeps.refl
    | (with_reducible apply State.Keeps.ite <;> intro _)
    | (with_reducible apply State.Keeps.step (State.setP_keeps ..); on_goal 1 => decide)
    | (with_reducible apply State.Keeps.step (State.send_keeps ..); on_goal 1 => decide)

theorem State.cmdSendcaps_keeps (s : State) (n : Fin 16) : s.Keeps (pRegs ||| pPorts) (State.cmdSendcaps s n) := by
  unfold State.cmdSendcaps
  repeat' first
    | with_reducible assumption
    | with_reducible apply State.Keeps.refl
    | (with_reducible apply State.Keeps.ite <;> intro _)
    | (with_reducible apply State.Keeps.step (State.sendOffer_keeps ..); on_goal 1 => decide)
    | (with_reducible apply State.Keeps.step (State.beginAms_keeps ..); on_goal 1 => decide)
    | (with_reducible apply State.Keeps.step (State.hold_keeps ..); on_goal 1 => decide)

theorem State.cmdSoftreset_keeps (s : State) (n : Fin 16) : s.Keeps (pRegs ||| pPorts) (State.cmdSoftreset s n) := by
  unfold State.cmdSoftreset
  repeat' first
    | with_reducible assumption
    | with_reducible apply State.Keeps.refl
    | (with_reducible apply State.Keeps.ite <;> intro _)
    | (with_reducible apply State.Keeps.step (State.modPd_keeps ..); on_goal 1 => decide)
    | (with_reducible apply State.Keeps.step (State.beginAms_keeps ..); on_goal 1 => decide)
    | (with_reducible apply State.Keeps.step (State.hold_keeps ..); on_goal 1 => decide)
    | (with_reducible apply State.Keeps.step (State.softReset_keeps ..); on_goal 1 => decide)

theorem State.cmdDrswap_keeps (s : State) (n : Fin 16) : s.Keeps (pRegs ||| pPorts) (State.cmdDrswap s n) := by
  unfold State.cmdDrswap
  repeat' first
    | with_reducible assumption
    | with_reducible apply State.Keeps.refl
    | (extract_lets +onlyGivenNames t; (refine State.Keeps.cut (t := t) ?_ (fun _ => ?_)) <;> [subst t; clear_value t])
    | (extract_lets +onlyGivenNames x; first | clear_value x | subst x)
    | (with_reducible apply State.Keeps.ite <;> intro _)
    | (with_reducible apply State.Keeps.step (State.modPd_keeps ..); on_goal 1 => decide)
    | (with_reducible apply State.Keeps.step (State.beginAms_keeps ..); on_goal 1 => decide)
    | (with_reducible apply State.Keeps.step (State.hold_keeps ..); on_goal 1 => decide)

theorem State.cmdEprexit_keeps (s : State) (n : Fin 16) : s.Keeps (pRegs ||| pFreeCtr ||| pRidge ||| pBat ||| pPorts ||| pSlices ||| pJtl ||| pBoot) (State.cmdEprexit s n) := by
  unfold State.cmdEprexit
  repeat' first
    | with_reducible assumption
    | with_reducible apply State.Keeps.refl
    | (with_reducible apply State.Keeps.ite <;> intro _)
    | (with_reducible apply State.Keeps.step (State.leaveEpr_keeps ..); on_goal 1 => decide)
    | (with_reducible apply State.Keeps.step (State.hold_keeps ..); on_goal 1 => decide)

theorem State.cmdHardreset_keeps (s : State) (n : Fin 16) : s.Keeps (pRegs ||| pFreeCtr ||| pRidge ||| pBat ||| pPorts ||| pSlices ||| pJtl ||| pBoot) (State.cmdHardreset s n) := by
  unfold State.cmdHardreset
  repeat' first
    | with_reducible assumption
    | with_reducible apply State.Keeps.refl
    | (with_reducible apply State.Keeps.step (State.hardReset_keeps ..); on_goal 1 => decide)

theorem State.warnPort_keeps (s : State) (n : Fin 16) (on : Bool) : s.Keeps (pRegs ||| pPorts) (State.warnPort s n on) := by
  unfold State.warnPort
  repeat' first
    | with_reducible assumption
    | with_reducible apply State.Keeps.refl
    | (extract_lets +onlyGivenNames t; (refine State.Keeps.cut (t := t) ?_ (fun _ => ?_)) <;> [subst t; clear_value t])
    | (extract_lets +onlyGivenNames x; first | clear_value x | subst x)
    | (with_reducible apply State.Keeps.ite <;> intro _)
    | split
    | (with_reducible apply State.Keeps.step (State.modPd_keeps ..); on_goal 1 => decide)
    | (with_reducible apply State.Keeps.step (State.beginAms_keeps ..); on_goal 1 => decide)
    | (with_reducible apply State.Keeps.step (State.flag_keeps ..); on_goal 1 => decide)
    | (with_reducible apply State.Keeps.step (State.wantOffer_keeps ..); on_goal 1 => decide)

theorem State.inputWarning_keeps (s : State) : s.Keeps (pRegs ||| pBat ||| pPorts) (State.inputWarning s) := by
  unfold State.inputWarning
  repeat' first
    | with_reducible assumption
    | with_reducible apply State.Keeps.refl
    | (with_reducible apply State.Keeps.ite <;> intro _)
    | (with_reducible apply State.Keeps.step (State.level_keeps ..); on_goal 1 => decide)
    | (with_reducible apply State.Keeps.step (State.warnPort_keeps ..); on_goal 1 => decide)
    | with_reducible apply State.Keeps.foldl
    | (intro _; intros; beta_reduce)

theorem State.inputWarningEnd_keeps (s : State) : s.Keeps (pRegs ||| pBat ||| pPorts) (State.inputWarningEnd s) := by
  unfold State.inputWarningEnd
  repeat' first
    | with_reducible assumption
    | with_reducible apply State.Keeps.refl
    | (with_reducible apply State.Keeps.ite <;> intro _)
    | (with_reducible apply State.Keeps.step (State.level_keeps ..); on_goal 1 => decide)
    | (with_reducible apply State.Keeps.step (State.warnPort_keeps ..); on_goal 1 => decide)
    | with_reducible apply State.Keeps.foldl
    | (intro _; intros; beta_reduce)

end Sys2Proof.Machine
end

