-- ==== Sys2Proof/Laws/Sink.lean ====
section
/-!
SUPPORT. What the operations of Machine/Sink.lean may change, one lemma each.
-/

set_option linter.unusedTactic false
set_option linter.unreachableTactic false
set_option linter.tactic.unusedName false

namespace Sys2Proof.Machine

theorem State.sendRequest_keeps (s : State) (n : Fin 16) : s.Keeps (pRegs ||| pPorts) (State.sendRequest s n) := by
  unfold State.sendRequest
  repeat' first
    | with_reducible assumption
    | with_reducible apply State.Keeps.refl
    | split
    | (with_reducible apply State.Keeps.step (State.modPd_keeps ..); on_goal 1 => decide)
    | (with_reducible apply State.Keeps.step (State.setSink_keeps ..); on_goal 1 => decide)
    | (with_reducible apply State.Keeps.step (State.send_keeps ..); on_goal 1 => decide)

theorem State.sinkCaps_keeps (s : State) (n : Fin 16) (caps : List Word) : s.Keeps (pRegs ||| pPorts) (State.sinkCaps s n caps) := by
  unfold State.sinkCaps
  repeat' first
    | with_reducible assumption
    | with_reducible apply State.Keeps.refl
    | (extract_lets +onlyGivenNames t; (refine State.Keeps.cut (t := t) ?_ (fun _ => ?_)) <;> [subst t; clear_value t])
    | (extract_lets +onlyGivenNames x; first | clear_value x | subst x)
    | (with_reducible apply State.Keeps.step (State.modPd_keeps ..); on_goal 1 => decide)
    | (with_reducible apply State.Keeps.step (State.wr_keeps ..); on_goal 1 => decide)
    | (with_reducible apply State.Keeps.step (State.sendRequest_keeps ..); on_goal 1 => decide)
    | with_reducible apply State.Keeps.foldl
    | (intro _; intros; beta_reduce)

theorem State.chunkIn_keeps (s : State) (n : Fin 16) (num : Nat) (size : Nat) (data : List Byte) : s.Keeps (pRegs ||| pPorts) (State.chunkIn s n num size data) := by
  unfold State.chunkIn
  repeat' first
    | with_reducible assumption
    | with_reducible apply State.Keeps.refl
    | (extract_lets +onlyGivenNames t; (refine State.Keeps.cut (t := t) ?_ (fun _ => ?_)) <;> [subst t; clear_value t])
    | (extract_lets +onlyGivenNames x; first | clear_value x | subst x)
    | (with_reducible apply State.Keeps.ite <;> intro _)
    | (with_reducible apply State.Keeps.step (State.sinkCaps_keeps ..); on_goal 1 => decide)
    | (with_reducible apply State.Keeps.step (State.modPd_keeps ..); on_goal 1 => decide)
    | (with_reducible apply State.Keeps.step (State.send_keeps ..); on_goal 1 => decide)

theorem State.capsIn_keeps (s : State) (n : Fin 16) (c : CapsIn) : s.Keeps (pRegs ||| pPorts) (State.capsIn s n c) := by
  unfold State.capsIn
  repeat' first
    | with_reducible assumption
    | with_reducible apply State.Keeps.refl
    | split
    | (with_reducible apply State.Keeps.step (State.sinkCaps_keeps ..); on_goal 1 => decide)
    | (with_reducible apply State.Keeps.step (State.chunkIn_keeps ..); on_goal 1 => decide)

theorem State.startPush_keeps (s : State) (n : Fin 16) : s.Keeps (pRegs ||| pStaged ||| pPorts ||| pSlices) (State.startPush s n) := by
  unfold State.startPush
  repeat' first
    | with_reducible assumption
    | with_reducible apply State.Keeps.refl
    | (extract_lets +onlyGivenNames t; (refine State.Keeps.cut (t := t) ?_ (fun _ => ?_)) <;> [subst t; clear_value t])
    | (extract_lets +onlyGivenNames x; first | clear_value x | subst x)
    | (with_reducible apply State.Keeps.ite <;> intro _)
    | split
    | (with_reducible apply State.Keeps.step (State.takeStaged_keeps ..); on_goal 1 => decide)
    | (with_reducible apply State.Keeps.step (State.rateFlags_keeps ..); on_goal 1 => decide)
    | (with_reducible apply State.Keeps.step (State.showRef_keeps ..); on_goal 1 => decide)
    | (with_reducible apply State.Keeps.step (State.put_keeps ..); on_goal 1 => decide)
    | (with_reducible apply State.Keeps.step (State.modLoop_keeps ..); on_goal 1 => decide)
    | (with_reducible apply State.Keeps.step (State.legsArm_keeps ..); on_goal 1 => decide)

theorem State.sinkClose_keeps (s : State) (n : Fin 16) (ma : Nat) : s.Keeps (pRegs ||| pStaged ||| pPorts) (State.sinkClose s n ma) := by
  unfold State.sinkClose
  repeat' first
    | with_reducible assumption
    | with_reducible apply State.Keeps.refl
    | (extract_lets +onlyGivenNames t; (refine State.Keeps.cut (t := t) ?_ (fun _ => ?_)) <;> [subst t; clear_value t])
    | (extract_lets +onlyGivenNames x; first | clear_value x | subst x)
    | (with_reducible apply State.Keeps.ite <;> intro _)
    | split
    | (with_reducible apply State.Keeps.step (State.beginClose_keeps ..); on_goal 1 => decide)
    | (with_reducible apply State.Keeps.step (State.selectCurve_keeps ..); on_goal 1 => decide)
    | (with_reducible apply State.Keeps.step (State.selectCurve_keeps_of (by assumption)); on_goal 1 => decide)
    | (with_reducible apply State.Keeps.step (State.setCurve_keeps ..); on_goal 1 => decide)

theorem State.sinkReady_keeps (s : State) (n : Fin 16) : s.Keeps (pRegs ||| pStaged ||| pPorts ||| pSlices) (State.sinkReady s n) := by
  unfold State.sinkReady
  repeat' first
    | with_reducible assumption
    | with_reducible apply State.Keeps.refl
    | (extract_lets +onlyGivenNames t; (refine State.Keeps.cut (t := t) ?_ (fun _ => ?_)) <;> [subst t; clear_value t])
    | (extract_lets +onlyGivenNames x; first | clear_value x | subst x)
    | split
    | (with_reducible apply State.Keeps.step (State.clear_keeps ..); on_goal 1 => decide)
    | (with_reducible apply State.Keeps.step (State.sinkGo_keeps ..); on_goal 1 => decide)
    | (with_reducible apply State.Keeps.step (State.startPush_keeps ..); on_goal 1 => decide)
    | (with_reducible apply State.Keeps.step (State.sinkClose_keeps ..); on_goal 1 => decide)
    | (with_reducible apply State.Keeps.step (State.recordContract_keeps ..); on_goal 1 => decide)
    | (with_reducible apply State.Keeps.step (State.setSink_keeps ..); on_goal 1 => decide)

theorem State.amsOver_keeps (s : State) (n : Fin 16) : s.Keeps (pRegs ||| pFreeCtr ||| pRidge ||| pBat ||| pPorts ||| pSlices ||| pJtl ||| pBoot) (State.amsOver s n) := by
  unfold State.amsOver
  repeat' first
    | with_reducible assumption
    | with_reducible apply State.Keeps.refl
    | (extract_lets +onlyGivenNames t; (refine State.Keeps.cut (t := t) ?_ (fun _ => ?_)) <;> [subst t; clear_value t])
    | (extract_lets +onlyGivenNames x; first | clear_value x | subst x)
    | (with_reducible apply State.Keeps.ite <;> intro _)
    | (with_reducible apply State.Keeps.step (State.sendOffer_keeps ..); on_goal 1 => decide)
    | (with_reducible apply State.Keeps.step (State.enterReady_keeps ..); on_goal 1 => decide)
    | (with_reducible apply State.Keeps.step (State.modPd_keeps ..); on_goal 1 => decide)
    | (with_reducible apply State.Keeps.step (State.endAms_keeps ..); on_goal 1 => decide)

theorem State.acceptIn_keeps (s : State) (n : Fin 16) : s.Keeps (pRegs ||| pFreeCtr ||| pRidge ||| pBat ||| pPorts ||| pSlices ||| pJtl ||| pBoot) (State.acceptIn s n) := by
  unfold State.acceptIn
  repeat' first
    | with_reducible assumption
    | with_reducible apply State.Keeps.refl
    | (extract_lets +onlyGivenNames t; (refine State.Keeps.cut (t := t) ?_ (fun _ => ?_)) <;> [subst t; clear_value t])
    | (extract_lets +onlyGivenNames x; first | clear_value x | subst x)
    | (with_reducible apply State.Keeps.ite <;> intro _)
    | (with_reducible apply State.Keeps.step (State.sendOffer_keeps ..); on_goal 1 => decide)
    | (with_reducible apply State.Keeps.step (State.amsOver_keeps ..); on_goal 1 => decide)
    | (with_reducible apply State.Keeps.step (State.modPd_keeps ..); on_goal 1 => decide)
    | (with_reducible apply State.Keeps.step (State.swapRole_keeps ..); on_goal 1 => decide)
    | (with_reducible apply State.Keeps.step (State.endAms_keeps ..); on_goal 1 => decide)
    | (with_reducible apply State.Keeps.step (State.setSink_keeps ..); on_goal 1 => decide)

theorem endsAms_keeps {s₀ u : State} {n : Fin 16} {act : State → State} {m : Nat} (hm : (pRegs ||| pPorts) ||| m = m) (hact : ∀ u, s₀.Keeps m u → s₀.Keeps m (act u)) (hs : s₀.Keeps m u) :
    s₀.Keeps m (endsAms n act u) := by
  unfold endsAms
  repeat' first
    | with_reducible assumption
    | (with_reducible apply State.Keeps.ite <;> intro _)
    | with_reducible apply hact
    | (with_reducible apply State.Keeps.step (State.softReset_keeps ..); on_goal 1 => exact or_sub (by decide) hm)

theorem State.rejectIn_keeps (s : State) (n : Fin 16) : s.Keeps (pRegs ||| pFreeCtr ||| pRidge ||| pBat ||| pPorts ||| pSlices ||| pJtl ||| pBoot) (State.rejectIn s n) := by
  unfold State.rejectIn
  repeat' first
    | with_reducible assumption
    | with_reducible apply State.Keeps.refl
    | (with_reducible apply State.Keeps.ite <;> intro _)
    | (with_reducible apply State.Keeps.step (State.amsOver_keeps ..); on_goal 1 => decide)
    | (with_reducible apply State.Keeps.step (State.sinkGo_keeps ..); on_goal 1 => decide)
    | (with_reducible apply State.Keeps.step (State.setSink_keeps ..); on_goal 1 => decide)

theorem State.waitIn_keeps (s : State) (n : Fin 16) : s.Keeps (pRegs ||| pFreeCtr ||| pRidge ||| pBat ||| pPorts ||| pSlices ||| pJtl ||| pBoot) (State.waitIn s n) := by
  unfold State.waitIn
  repeat' first
    | with_reducible assumption
    | with_reducible apply State.Keeps.refl
    | (with_reducible apply State.Keeps.ite <;> intro _)
    | (with_reducible apply State.Keeps.step (State.amsOver_keeps ..); on_goal 1 => decide)
    | (with_reducible apply State.Keeps.step (State.hold_keeps ..); on_goal 1 => decide)
    | (with_reducible apply State.Keeps.step (State.setSink_keeps ..); on_goal 1 => decide)

theorem State.sinkRestart_keeps (s : State) (n : Fin 16) : s.Keeps (pRegs ||| pPorts) (State.sinkRestart s n) := by
  unfold State.sinkRestart
  repeat' first
    | with_reducible assumption
    | with_reducible apply State.Keeps.refl
    | (with_reducible apply State.Keeps.step (State.protoReset_keeps ..); on_goal 1 => decide)
    | (with_reducible apply State.Keeps.step (State.setSink_keeps ..); on_goal 1 => decide)

end Sys2Proof.Machine
end

