-- ==== Sys2Proof/Laws/Valley.lean ====
section
/-!
SUPPORT. What the operations of Machine/Valley.lean may change, one lemma each.
-/

set_option linter.unusedTactic false
set_option linter.unreachableTactic false
set_option linter.tactic.unusedName false

namespace Sys2Proof.Machine

theorem State.setWindow_keeps (s : State) (n : Fin 16) : s.Keeps (pRegs ||| pStaged) (State.setWindow s n) := by
  unfold State.setWindow
  repeat' first
    | with_reducible assumption
    | with_reducible apply State.Keeps.refl
    | (extract_lets +onlyGivenNames t; (refine State.Keeps.cut (t := t) ?_ (fun _ => ?_)) <;> [subst t; clear_value t])
    | (extract_lets +onlyGivenNames x; first | clear_value x | subst x)
    | split
    | (with_reducible apply State.Keeps.step (State.takeStagedAll_keeps ..); on_goal 1 => decide)
    | (with_reducible apply State.Keeps.step (State.put_keeps ..); on_goal 1 => decide)

theorem State.channel_keeps (s : State) (n : Fin 16) (ch : Nat) (on : Bool) : s.Keeps (pRegs ||| pBat) (State.channel s n ch on) := by
  unfold State.channel
  repeat' first
    | with_reducible assumption
    | with_reducible apply State.Keeps.refl
    | (with_reducible apply State.Keeps.step (State.level_keeps ..); on_goal 1 => decide)
    | (with_reducible apply State.Keeps.step (State.maskBit_keeps ..); on_goal 1 => decide)

theorem State.endConfirm_keeps (s : State) (confirming : Bool) (n : Fin 16) : s.Keeps (pRegs ||| pFreeCtr ||| pRidge ||| pBat ||| pPorts ||| pSlices ||| pJtl ||| pBoot) (State.endConfirm s confirming n) := by
  unfold State.endConfirm
  repeat' first
    | with_reducible assumption
    | with_reducible apply State.Keeps.refl
    | (with_reducible apply State.Keeps.ite <;> intro _)
    | (with_reducible apply State.Keeps.step (State.stageFault_keeps ..); on_goal 1 => decide)

theorem State.ovOutput_keeps (s : State) (n : Fin 16) (on : Bool) (at_ : Nat) : s.Keeps (pRegs ||| pFreeCtr ||| pRidge ||| pBat ||| pPorts ||| pSlices ||| pJtl ||| pBoot) (State.ovOutput s n on at_) := by
  unfold State.ovOutput
  repeat' first
    | with_reducible assumption
    | with_reducible apply State.Keeps.refl
    | (extract_lets +onlyGivenNames t; (refine State.Keeps.cut (t := t) ?_ (fun _ => ?_)) <;> [subst t; clear_value t])
    | (extract_lets +onlyGivenNames x; first | clear_value x | subst x)
    | (with_reducible apply State.Keeps.ite <;> intro _)
    | (with_reducible apply State.Keeps.step (State.eaveTrip_keeps ..); on_goal 1 => decide)
    | (with_reducible apply State.Keeps.step (State.channel_keeps ..); on_goal 1 => decide)
    | (with_reducible apply State.Keeps.step (State.tripInput_keeps ..); on_goal 1 => decide)
    | (with_reducible apply State.Keeps.step (State.endConfirm_keeps ..); on_goal 1 => decide)

theorem State.uvOutput_keeps (s : State) (n : Fin 16) (on : Bool) : s.Keeps (pRegs ||| pFreeCtr ||| pRidge ||| pBat ||| pPorts ||| pSlices ||| pJtl ||| pBoot) (State.uvOutput s n on) := by
  unfold State.uvOutput
  repeat' first
    | with_reducible assumption
    | with_reducible apply State.Keeps.refl
    | (with_reducible apply State.Keeps.ite <;> intro _)
    | (with_reducible apply State.Keeps.step (State.channel_keeps ..); on_goal 1 => decide)
    | (with_reducible apply State.Keeps.step (State.endConfirm_keeps ..); on_goal 1 => decide)

theorem State.fiOutput_keeps (s : State) (n : Fin 16) (on : Bool) (at_ : Nat) : s.Keeps (pRegs ||| pFreeCtr ||| pRidge ||| pBat ||| pPorts ||| pSlices ||| pJtl ||| pBoot) (State.fiOutput s n on at_) := by
  unfold State.fiOutput
  repeat' first
    | with_reducible assumption
    | with_reducible apply State.Keeps.refl
    | (with_reducible apply State.Keeps.step (State.channel_keeps ..); on_goal 1 => decide)
    | (with_reducible apply State.Keeps.step (State.tripInput_keeps ..); on_goal 1 => decide)

theorem State.dropDisabled_keeps (s : State) (n : Fin 16) (ch : Nat) : s.Keeps (pRegs ||| pFreeCtr ||| pRidge ||| pBat ||| pPorts ||| pSlices ||| pJtl ||| pBoot) (State.dropDisabled s n ch) := by
  unfold State.dropDisabled
  repeat' first
    | with_reducible assumption
    | with_reducible apply State.Keeps.refl
    | (with_reducible apply State.Keeps.ite <;> intro _)
    | (with_reducible apply State.Keeps.step (State.ovOutput_keeps ..); on_goal 1 => decide)
    | (with_reducible apply State.Keeps.step (State.uvOutput_keeps ..); on_goal 1 => decide)
    | (with_reducible apply State.Keeps.step (State.fiOutput_keeps ..); on_goal 1 => decide)

theorem State.gpcOutput_keeps (s : State) (k : Fin 8) (on : Bool) : s.Keeps (pRegs ||| pFreeCtr ||| pRidge ||| pBat ||| pPorts ||| pSlices ||| pJtl ||| pBoot) (State.gpcOutput s k on) := by
  unfold State.gpcOutput
  repeat' first
    | with_reducible assumption
    | with_reducible apply State.Keeps.refl
    | (extract_lets +onlyGivenNames t; (refine State.Keeps.cut (t := t) ?_ (fun _ => ?_)) <;> [subst t; clear_value t])
    | (extract_lets +onlyGivenNames x; first | clear_value x | subst x)
    | (with_reducible apply State.Keeps.ite <;> intro _)
    | (with_reducible apply State.Keeps.step (State.eaveTrip_keeps ..); on_goal 1 => decide)
    | (with_reducible apply State.Keeps.step (State.inputWarning_keeps ..); on_goal 1 => decide)
    | (with_reducible apply State.Keeps.step (State.level_keeps ..); on_goal 1 => decide)
    | (with_reducible apply State.Keeps.step (State.maskBit_keeps ..); on_goal 1 => decide)
    | with_reducible apply State.Keeps.foldl
    | (intro _; intros; beta_reduce)

theorem State.gpcTaken_keeps (s : State) (k : Fin 8) : s.Keeps (pRegs ||| pFreeCtr ||| pRidge ||| pBat ||| pPorts ||| pSlices ||| pJtl ||| pBoot) (State.gpcTaken s k) := by
  unfold State.gpcTaken
  repeat' first
    | with_reducible assumption
    | with_reducible apply State.Keeps.refl
    | (with_reducible apply State.Keeps.ite <;> intro _)
    | (with_reducible apply State.Keeps.step (State.gpcOutput_keeps ..); on_goal 1 => decide)

theorem State.gpcsTaken_keeps (s : State) : s.Keeps (pRegs ||| pFreeCtr ||| pRidge ||| pBat ||| pPorts ||| pSlices ||| pJtl ||| pBoot) (State.gpcsTaken s) := by
  unfold State.gpcsTaken
  repeat' first
    | with_reducible assumption
    | with_reducible apply State.Keeps.refl
    | (with_reducible apply State.Keeps.step (State.gpcTaken_keeps ..); on_goal 1 => decide)
    | with_reducible apply State.Keeps.foldl
    | (intro _; intros; beta_reduce)

theorem State.checkFail_keeps (s : State) (n : Fin 16) (ch : Nat) : s.Keeps (pRegs ||| pFreeCtr ||| pBat ||| pPorts ||| pBoot) (State.checkFail s n ch) := by
  unfold State.checkFail
  repeat' first
    | with_reducible assumption
    | with_reducible apply State.Keeps.refl
    | (extract_lets +onlyGivenNames t; (refine State.Keeps.cut (t := t) ?_ (fun _ => ?_)) <;> [subst t; clear_value t])
    | (extract_lets +onlyGivenNames x; first | clear_value x | subst x)
    | (with_reducible apply State.Keeps.ite <;> intro _)
    | (with_reducible apply State.Keeps.step (State.modPort_keeps ..); on_goal 1 => decide)
    | (with_reducible apply State.Keeps.step (State.fire_keeps ..); on_goal 1 => decide)
    | (with_reducible apply State.Keeps.step (State.satInc_keeps ..); on_goal 1 => decide)
    | (with_reducible apply State.Keeps.step (State.tallyPlain_keeps ..); on_goal 1 => decide)
    | (with_reducible apply State.Keeps.step (State.enterDisabled_keeps ..); on_goal 1 => decide)
    | (with_reducible apply State.Keeps.step (State.latch_keeps ..); on_goal 1 => decide)
    | (with_reducible apply State.Keeps.step (State.maskBit_keeps ..); on_goal 1 => decide)

theorem State.checkPass_keeps (s : State) (n : Fin 16) (ch : Nat) : s.Keeps (pRegs ||| pPorts) (State.checkPass s n ch) := by
  unfold State.checkPass
  repeat' first
    | with_reducible assumption
    | with_reducible apply State.Keeps.refl
    | (with_reducible apply State.Keeps.step (State.modPort_keeps ..); on_goal 1 => decide)
    | (with_reducible apply State.Keeps.step (State.maskBit_keeps ..); on_goal 1 => decide)
    | (with_reducible apply State.Keeps.step (State.wrapInc_keeps ..); on_goal 1 => decide)

theorem State.checkNext_keeps (s : State) (n : Fin 16) (ch : Nat) : s.Keeps (pRegs ||| pBat ||| pPorts) (State.checkNext s n ch) := by
  unfold State.checkNext
  repeat' first
    | with_reducible assumption
    | with_reducible apply State.Keeps.refl
    | (extract_lets +onlyGivenNames t; (refine State.Keeps.cut (t := t) ?_ (fun _ => ?_)) <;> [subst t; clear_value t])
    | (extract_lets +onlyGivenNames x; first | clear_value x | subst x)
    | (with_reducible apply State.Keeps.ite <;> intro _)
    | split
    | (with_reducible apply State.Keeps.step (State.modPort_keeps ..); on_goal 1 => decide)
    | (with_reducible apply State.Keeps.step (State.fire_keeps ..); on_goal 1 => decide)
    | (with_reducible apply State.Keeps.step (State.candidate_keeps ..); on_goal 1 => decide)
    | (with_reducible apply State.Keeps.step (State.stopCheck_keeps ..); on_goal 1 => decide)

theorem State.writeCut_keeps (s : State) (v : Nat) : s.Keeps (pRegs ||| pRidge) (State.writeCut s v) := by
  unfold State.writeCut
  repeat' first
    | with_reducible assumption
    | with_reducible apply State.Keeps.refl
    | (extract_lets +onlyGivenNames t; (refine State.Keeps.cut (t := t) ?_ (fun _ => ?_)) <;> [subst t; clear_value t])
    | (extract_lets +onlyGivenNames x; first | clear_value x | subst x)
    | (with_reducible apply State.Keeps.ite <;> intro _)
    | (with_reducible apply State.Keeps.step (State.setCut_keeps ..); on_goal 1 => decide)
    | (with_reducible apply State.Keeps.step (State.put_keeps ..); on_goal 1 => decide)

end Sys2Proof.Machine
end

