-- ==== Sys2Proof/Laws/ThaOps.lean ====
section
/-!
SUPPORT. What the operations of Machine/ThaOps.lean may change, one lemma each.
-/

set_option linter.unusedTactic false
set_option linter.unreachableTactic false
set_option linter.tactic.unusedName false

namespace Sys2Proof.Machine

theorem State.clearEdit_keeps (s : State) : s.Keeps (pRegs ||| pStaged) (State.clearEdit s) := by
  unfold State.clearEdit
  repeat' first
    | with_reducible assumption
    | with_reducible apply State.Keeps.refl
    | (with_reducible apply State.Keeps.step (State.dropRegs_keeps ..); on_goal 1 => decide)

theorem State.edClaim_keeps (s : State) (p : Nat) (v : Word) : s.Keeps (pRegs ||| pStaged) (State.edClaim s p v) := by
  unfold State.edClaim
  repeat' first
    | with_reducible assumption
    | with_reducible apply State.Keeps.refl
    | (extract_lets +onlyGivenNames t; (refine State.Keeps.cut (t := t) ?_ (fun _ => ?_)) <;> [subst t; clear_value t])
    | (extract_lets +onlyGivenNames x; first | clear_value x | subst x)
    | (with_reducible apply State.Keeps.ite <;> intro _)
    | (with_reducible apply State.Keeps.step (State.clear_keeps ..); on_goal 1 => decide)
    | (with_reducible apply State.Keeps.step (State.raise_keeps ..); on_goal 1 => decide)
    | (with_reducible apply State.Keeps.step (State.put_keeps ..); on_goal 1 => decide)
    | (with_reducible apply State.Keeps.step (State.clearEdit_keeps ..); on_goal 1 => decide)

theorem State.endSr_keeps (s : State) (result : Nat) : s.Keeps (pRegs ||| pBat ||| pTha) (State.endSr s result) := by
  unfold State.endSr
  repeat' first
    | with_reducible assumption
    | with_reducible apply State.Keeps.refl
    | (with_reducible apply State.Keeps.ite <;> intro _)
    | (with_reducible apply State.Keeps.step (State.fire_keeps ..); on_goal 1 => decide)
    | (with_reducible apply State.Keeps.step (State.clear_keeps ..); on_goal 1 => decide)
    | (with_reducible apply State.Keeps.step (State.modTha_keeps ..); on_goal 1 => decide)
    | (with_reducible apply State.Keeps.step (State.put_keeps ..); on_goal 1 => decide)

theorem State.takeEdits_keeps (s : State) (edits : List Word) : s.Keeps (pRegs ||| pRunning) (State.takeEdits s edits) := by
  unfold State.takeEdits
  repeat' first
    | with_reducible assumption
    | with_reducible apply State.Keeps.refl
    | (with_reducible apply State.Keeps.step (State.setRunning_keeps ..); on_goal 1 => decide)
    | (with_reducible apply State.Keeps.step (State.wrapInc_keeps ..); on_goal 1 => decide)

theorem State.dropCfg_keeps (s : State) : s.Keeps pRidge (State.dropCfg s) := by
  unfold State.dropCfg
  repeat' first
    | with_reducible assumption
    | with_reducible apply State.Keeps.refl
    | (extract_lets +onlyGivenNames t; (refine State.Keeps.cut (t := t) ?_ (fun _ => ?_)) <;> [subst t; clear_value t])
    | (extract_lets +onlyGivenNames x; first | clear_value x | subst x)
    | (with_reducible apply State.Keeps.step (State.modRidge_keeps ..); on_goal 1 => decide)

theorem State.logCancel_keeps (s : State) (hp : HostPort) (v : Word) : s.Keeps (pRegs ||| pSlate) (State.logCancel s hp v) := by
  unfold State.logCancel
  repeat' first
    | with_reducible assumption
    | with_reducible apply State.Keeps.refl
    | (with_reducible apply State.Keeps.step (State.log_keeps ..); on_goal 1 => decide)

theorem State.srCtl_keeps (s : State) (hp : HostPort) (v : Word) : s.Keeps (pRegs ||| pRidge ||| pBat ||| pSlate ||| pTha) (State.srCtl s hp v) := by
  unfold State.srCtl
  repeat' first
    | with_reducible assumption
    | with_reducible apply State.Keeps.refl
    | (extract_lets +onlyGivenNames t; (refine State.Keeps.cut (t := t) ?_ (fun _ => ?_)) <;> [subst t; clear_value t])
    | (extract_lets +onlyGivenNames x; first | clear_value x | subst x)
    | (with_reducible apply State.Keeps.ite <;> intro _)
    | (with_reducible apply State.Keeps.step (State.clear_keeps ..); on_goal 1 => decide)
    | (with_reducible apply State.Keeps.step (State.modTha_keeps ..); on_goal 1 => decide)
    | (with_reducible apply State.Keeps.step (State.endSr_keeps ..); on_goal 1 => decide)
    | (with_reducible apply State.Keeps.step (State.logCancel_keeps ..); on_goal 1 => decide)
    | (with_reducible apply State.Keeps.step (State.put_keeps ..); on_goal 1 => decide)
    | (with_reducible apply State.Keeps.step (State.dropCfg_keeps ..); on_goal 1 => decide)

theorem State.validated_keeps (s : State) (o : SrOp) : s.Keeps (pRegs ||| pRidge ||| pBat ||| pPorts ||| pSlate ||| pTha) (State.validated s o) := by
  unfold State.validated
  repeat' first
    | with_reducible assumption
    | with_reducible apply State.Keeps.refl
    | (extract_lets +onlyGivenNames t; (refine State.Keeps.cut (t := t) ?_ (fun _ => ?_)) <;> [subst t; clear_value t])
    | (extract_lets +onlyGivenNames x; first | clear_value x | subst x)
    | (with_reducible apply State.Keeps.ite <;> intro _)
    | (with_reducible apply State.Keeps.step (State.modTha_keeps ..); on_goal 1 => decide)
    | (with_reducible apply State.Keeps.step (State.offer_keeps ..); on_goal 1 => decide)
    | (with_reducible apply State.Keeps.step (State.endSr_keeps ..); on_goal 1 => decide)
    | (with_reducible apply State.Keeps.step (State.cancelPort_keeps ..); on_goal 1 => decide)
    | (with_reducible apply State.Keeps.step (State.put_keeps ..); on_goal 1 => decide)
    | (with_reducible apply State.Keeps.step (State.logFault_keeps ..); on_goal 1 => decide)
    | with_reducible apply State.Keeps.foldl
    | with_reducible apply State.Keeps.foldl_fst
    | with_reducible apply State.Keeps.foldl_snd
    | (intro _; intros; beta_reduce)

theorem State.liveDevice_keeps (s : State) (o : SrOp) (rs : List ThaRec) : s.Keeps (pRegs ||| pRidge ||| pBat) (State.liveDevice s o rs) := by
  unfold State.liveDevice
  repeat' first
    | with_reducible assumption
    | with_reducible apply State.Keeps.refl
    | (extract_lets +onlyGivenNames t; (refine State.Keeps.cut (t := t) ?_ (fun _ => ?_)) <;> [subst t; clear_value t])
    | (extract_lets +onlyGivenNames x; first | clear_value x | subst x)
    | (with_reducible apply State.Keeps.ite <;> intro _)
    | (with_reducible apply State.Keeps.step (State.offer_keeps ..); on_goal 1 => decide)
    | (with_reducible apply State.Keeps.step (State.put_keeps ..); on_goal 1 => decide)

theorem State.liveRec_keeps (s : State) (o : SrOp) (rs : List ThaRec) (r : ThaRec) : s.Keeps (pRegs ||| pStaged ||| pFreeCtr ||| pRidge ||| pBat ||| pPorts ||| pSlices ||| pJtl ||| pBoot) (State.liveRec s o rs r) := by
  unfold State.liveRec
  repeat' first
    | with_reducible assumption
    | with_reducible apply State.Keeps.refl
    | (extract_lets +onlyGivenNames t; (refine State.Keeps.cut (t := t) ?_ (fun _ => ?_)) <;> [subst t; clear_value t])
    | (extract_lets +onlyGivenNames x; first | clear_value x | subst x)
    | (with_reducible apply State.Keeps.ite <;> intro _)
    | split
    | (with_reducible apply State.Keeps.step (State.loadTally_keeps ..); on_goal 1 => decide)
    | (with_reducible apply State.Keeps.step (State.gpcsTaken_keeps ..); on_goal 1 => decide)
    | (with_reducible apply State.Keeps.step (State.policyChanged_keeps ..); on_goal 1 => decide)
    | (with_reducible apply State.Keeps.step (State.showMtr_keeps ..); on_goal 1 => decide)
    | (with_reducible apply State.Keeps.step (State.liveDevice_keeps ..); on_goal 1 => decide)
    | (with_reducible apply State.Keeps.step (State.applyRec_keeps ..); on_goal 1 => decide)
    | (with_reducible apply State.Keeps.step (State.applyPortRec_keeps ..); on_goal 1 => decide)

theorem State.liveOrder_keeps (s : State) (o : SrOp) (rs : List ThaRec) (r : ThaRec) : s.Keeps (pRegs ||| pStaged ||| pFreeCtr ||| pHost ||| pRidge ||| pBat ||| pPorts ||| pSlices ||| pJtl ||| pBoot) (State.liveOrder s o rs r) := by
  unfold State.liveOrder
  repeat' first
    | with_reducible assumption
    | with_reducible apply State.Keeps.refl
    | (extract_lets +onlyGivenNames t; (refine State.Keeps.cut (t := t) ?_ (fun _ => ?_)) <;> [subst t; clear_value t])
    | (extract_lets +onlyGivenNames x; first | clear_value x | subst x)
    | (with_reducible apply State.Keeps.ite <;> intro _)
    | (with_reducible apply State.Keeps.step (State.liveRec_keeps ..); on_goal 1 => decide)
    | (with_reducible apply State.Keeps.step (State.modHost_keeps ..); on_goal 1 => decide)

theorem State.commitLive_keeps (s : State) (o : SrOp) : s.Keeps (pRegs ||| pStaged ||| pFreeCtr ||| pHost ||| pRidge ||| pBat ||| pPorts ||| pSlices ||| pJtl ||| pRunning ||| pTha ||| pBoot) (State.commitLive s o) := by
  unfold State.commitLive
  repeat' first
    | with_reducible assumption
    | with_reducible apply State.Keeps.refl
    | (extract_lets +onlyGivenNames t; (refine State.Keeps.cut (t := t) ?_ (fun _ => ?_)) <;> [subst t; clear_value t])
    | (extract_lets +onlyGivenNames x; first | clear_value x | subst x)
    | (with_reducible apply State.Keeps.step (State.changeE_keeps ..); on_goal 1 => decide)
    | (with_reducible apply State.Keeps.step (State.takeEdits_keeps ..); on_goal 1 => decide)
    | (with_reducible apply State.Keeps.step (State.endSr_keeps ..); on_goal 1 => decide)
    | (with_reducible apply State.Keeps.step (State.applyFloors_keeps ..); on_goal 1 => decide)
    | (with_reducible apply State.Keeps.step (State.liveOrder_keeps ..); on_goal 1 => decide)
    | with_reducible apply State.Keeps.foldl
    | (intro _; intros; beta_reduce)

theorem State.deliverAll_keeps (k : Nat) (s : State) : s.Keeps (pRegs ||| pHost ||| pRidge ||| pBat ||| pPorts ||| pJtl) (State.deliverAll k s) := by
  induction k generalizing s with
  | zero => exact State.Keeps.refl _ _
  | succ k ih =>
    unfold State.deliverAll
    split
    · exact State.Keeps.refl _ _
    · refine State.Keeps.trans ?_ (ih _)
      apply State.Keeps.step (State.deliverEdge_keeps ..)
      · decide
      apply State.Keeps.step (State.modBat_keeps ..)
      · decide
      exact State.Keeps.refl _ _

theorem State.swapWire_keeps (s : State) : s.Keeps (pRegs ||| pHost ||| pRidge ||| pBat ||| pPorts ||| pJtl) (State.swapWire s) := by
  unfold State.swapWire
  repeat' first
    | with_reducible assumption
    | with_reducible apply State.Keeps.refl
    | (extract_lets +onlyGivenNames t; (refine State.Keeps.cut (t := t) ?_ (fun _ => ?_)) <;> [subst t; clear_value t])
    | (extract_lets +onlyGivenNames x; first | clear_value x | subst x)
    | (with_reducible apply State.Keeps.step (State.modBat_keeps ..); on_goal 1 => decide)
    | (with_reducible apply State.Keeps.step (State.deliverAll_keeps ..); on_goal 1 => decide)
    | (with_reducible apply State.Keeps.step (State.loadWire_keeps ..); on_goal 1 => decide)
    | (with_reducible apply State.Keeps.step (State.followCut_keeps ..); on_goal 1 => decide)
    | (with_reducible apply State.Keeps.step (State.retakeLevels_keeps ..); on_goal 1 => decide)

theorem State.strip_keeps (s : State) (n : Fin 16) : s.Keeps (pRegs ||| pFreeCtr ||| pRidge ||| pPorts ||| pSlices ||| pJtl ||| pBoot) (State.strip s n) := by
  unfold State.strip
  repeat' first
    | with_reducible assumption
    | with_reducible apply State.Keeps.refl
    | (with_reducible apply State.Keeps.ite <;> intro _)
    | (with_reducible apply State.Keeps.step (State.errRec_keeps ..); on_goal 1 => decide)

theorem State.commitStrip_keeps (s : State) (o : SrOp) : s.Keeps (pRegs ||| pFreeCtr ||| pHost ||| pRidge ||| pBat ||| pPorts ||| pSlices ||| pJtl ||| pRunning ||| pTha ||| pBoot) (State.commitStrip s o) := by
  unfold State.commitStrip
  repeat' first
    | with_reducible assumption
    | with_reducible apply State.Keeps.refl
    | (extract_lets +onlyGivenNames t; (refine State.Keeps.cut (t := t) ?_ (fun _ => ?_)) <;> [subst t; clear_value t])
    | (extract_lets +onlyGivenNames x; first | clear_value x | subst x)
    | (with_reducible apply State.Keeps.ite <;> intro _)
    | (with_reducible apply State.Keeps.step (State.modTha_keeps ..); on_goal 1 => decide)
    | (with_reducible apply State.Keeps.step (State.takeEdits_keeps ..); on_goal 1 => decide)
    | (with_reducible apply State.Keeps.step (State.swapWire_keeps ..); on_goal 1 => decide)
    | (with_reducible apply State.Keeps.step (State.put_keeps ..); on_goal 1 => decide)
    | (with_reducible apply State.Keeps.step (State.srSafe_keeps ..); on_goal 1 => decide)
    | (with_reducible apply State.Keeps.step (State.strip_keeps ..); on_goal 1 => decide)
    | with_reducible apply State.Keeps.foldl
    | (intro _; intros; beta_reduce)

theorem State.commitCfg_keeps (s : State) (sub : Nat) : s.Keeps (pRegs ||| pStaged ||| pFreeCtr ||| pHost ||| pRidge ||| pBat ||| pPorts ||| pSlices ||| pJtl ||| pRunning ||| pTha ||| pBoot) (State.commitCfg s sub) := by
  unfold State.commitCfg
  repeat' first
    | with_reducible assumption
    | with_reducible apply State.Keeps.refl
    | (with_reducible apply State.Keeps.ite <;> intro _)
    | split
    | (with_reducible apply State.Keeps.step (State.commitLive_keeps ..); on_goal 1 => decide)
    | (with_reducible apply State.Keeps.step (State.commitStrip_keeps ..); on_goal 1 => decide)

theorem State.restructure_keeps (s : State) (n : Fin 16) : s.Keeps (pRegs ||| pStaged ||| pFreeCtr ||| pBat ||| pPorts ||| pSlices ||| pBoot) (State.restructure s n) := by
  unfold State.restructure
  repeat' first
    | with_reducible assumption
    | with_reducible apply State.Keeps.refl
    | (extract_lets +onlyGivenNames t; (refine State.Keeps.cut (t := t) ?_ (fun _ => ?_)) <;> [subst t; clear_value t])
    | (extract_lets +onlyGivenNames x; first | clear_value x | subst x)
    | (with_reducible apply State.Keeps.ite <;> intro _)
    | (with_reducible apply State.Keeps.step (State.firstState_keeps ..); on_goal 1 => decide)
    | (with_reducible apply State.Keeps.step (State.setStruct_keeps ..); on_goal 1 => decide)
    | (with_reducible apply State.Keeps.step (State.startRole_keeps ..); on_goal 1 => decide)
    | (with_reducible apply State.Keeps.step (State.releasePort_keeps ..); on_goal 1 => decide)
    | (with_reducible apply State.Keeps.step (State.loadPortRecs_keeps ..); on_goal 1 => decide)

theorem State.srChange_keeps (s : State) (o : SrOp) : s.Keeps (pRegs ||| pStaged ||| pFreeCtr ||| pRidge ||| pBat ||| pPorts ||| pSlices ||| pRunning ||| pBoot) (State.srChange s o) := by
  unfold State.srChange
  repeat' first
    | with_reducible assumption
    | with_reducible apply State.Keeps.refl
    | (extract_lets +onlyGivenNames t; (refine State.Keeps.cut (t := t) ?_ (fun _ => ?_)) <;> [subst t; clear_value t])
    | (extract_lets +onlyGivenNames x; first | clear_value x | subst x)
    | (with_reducible apply State.Keeps.step (State.restructure_keeps ..); on_goal 1 => decide)
    | (with_reducible apply State.Keeps.step (State.takeEdits_keeps ..); on_goal 1 => decide)
    | (with_reducible apply State.Keeps.step (State.resolveDeficit_keeps ..); on_goal 1 => decide)
    | (with_reducible apply State.Keeps.step (State.put_keeps ..); on_goal 1 => decide)
    | (with_reducible apply State.Keeps.step (State.dropLegs_keeps ..); on_goal 1 => decide)
    | (with_reducible apply State.Keeps.step (State.applyFloors_keeps ..); on_goal 1 => decide)
    | with_reducible apply State.Keeps.foldl
    | (intro _; intros; beta_reduce)

theorem State.relayPort_keeps (s : State) (n : Fin 16) : s.Keeps (pRegs ||| pStaged ||| pFreeCtr ||| pBat ||| pPorts ||| pSlices ||| pBoot) (State.relayPort s n) := by
  unfold State.relayPort
  repeat' first
    | with_reducible assumption
    | with_reducible apply State.Keeps.refl
    | (with_reducible apply State.Keeps.step (State.modPort_keeps ..); on_goal 1 => decide)
    | (with_reducible apply State.Keeps.step (State.leaveErrRec_keeps ..); on_goal 1 => decide)

theorem State.stripsChange_keeps (s : State) : s.Keeps (pRegs ||| pStaged ||| pFreeCtr ||| pBat ||| pPorts ||| pSlices ||| pTha ||| pBoot) (State.stripsChange s) := by
  unfold State.stripsChange
  repeat' first
    | with_reducible assumption
    | with_reducible apply State.Keeps.refl
    | (extract_lets +onlyGivenNames t; (refine State.Keeps.cut (t := t) ?_ (fun _ => ?_)) <;> [subst t; clear_value t])
    | (extract_lets +onlyGivenNames x; first | clear_value x | subst x)
    | (with_reducible apply State.Keeps.ite <;> intro _)
    | (with_reducible apply State.Keeps.step (State.modTha_keeps ..); on_goal 1 => decide)
    | (with_reducible apply State.Keeps.step (State.restructure_keeps ..); on_goal 1 => decide)
    | (with_reducible apply State.Keeps.step (State.dropLegs_keeps ..); on_goal 1 => decide)
    | with_reducible apply State.Keeps.foldl
    | (intro _; intros; beta_reduce)

theorem State.stripsRelay_keeps (s : State) : s.Keeps (pRegs ||| pStaged ||| pFreeCtr ||| pBat ||| pPorts ||| pSlices ||| pTha ||| pBoot) (State.stripsRelay s) := by
  unfold State.stripsRelay
  repeat' first
    | with_reducible assumption
    | with_reducible apply State.Keeps.refl
    | (extract_lets +onlyGivenNames t; (refine State.Keeps.cut (t := t) ?_ (fun _ => ?_)) <;> [subst t; clear_value t])
    | (extract_lets +onlyGivenNames x; first | clear_value x | subst x)
    | (with_reducible apply State.Keeps.step (State.fire_keeps ..); on_goal 1 => decide)
    | (with_reducible apply State.Keeps.step (State.modTha_keeps ..); on_goal 1 => decide)
    | (with_reducible apply State.Keeps.step (State.put_keeps ..); on_goal 1 => decide)
    | (with_reducible apply State.Keeps.step (State.relayPort_keeps ..); on_goal 1 => decide)
    | with_reducible apply State.Keeps.foldl
    | (intro _; intros; beta_reduce)

theorem State.beginStrips_keeps (s : State) (ns : List (Fin 16)) : s.Keeps (pRegs ||| pFreeCtr ||| pRidge ||| pPorts ||| pSlices ||| pJtl ||| pTha ||| pBoot) (State.beginStrips s ns) := by
  unfold State.beginStrips
  repeat' first
    | with_reducible assumption
    | with_reducible apply State.Keeps.refl
    | (with_reducible apply State.Keeps.step (State.modTha_keeps ..); on_goal 1 => decide)
    | (with_reducible apply State.Keeps.step (State.strip_keeps ..); on_goal 1 => decide)
    | with_reducible apply State.Keeps.foldl
    | (intro _; intros; beta_reduce)

theorem State.scrubCe_keeps (s : State) (a : Nat) : s.Keeps (pRegs ||| pBat) (State.scrubCe s a) := by
  unfold State.scrubCe
  repeat' first
    | with_reducible assumption
    | with_reducible apply State.Keeps.refl
    | (with_reducible apply State.Keeps.step (State.fire_keeps ..); on_goal 1 => decide)
    | (with_reducible apply State.Keeps.step (State.clear_keeps ..); on_goal 1 => decide)
    | (with_reducible apply State.Keeps.step (State.satInc_keeps ..); on_goal 1 => decide)
    | (with_reducible apply State.Keeps.step (State.tallyPlain_keeps ..); on_goal 1 => decide)
    | (with_reducible apply State.Keeps.step (State.put_keeps ..); on_goal 1 => decide)

theorem State.scrubUe_keeps (s : State) (fetchOk : Bool) (a : Nat) : s.Keeps (pRegs ||| pStaged ||| pFreeCtr ||| pHost ||| pRidge ||| pBat ||| pPorts ||| pJtl ||| pSlate ||| pTha ||| pUpd ||| pBoot) (State.scrubUe s fetchOk a) := by
  unfold State.scrubUe
  repeat' first
    | with_reducible assumption
    | with_reducible apply State.Keeps.refl
    | (extract_lets +onlyGivenNames t; (refine State.Keeps.cut (t := t) ?_ (fun _ => ?_)) <;> [subst t; clear_value t])
    | (extract_lets +onlyGivenNames x; first | clear_value x | subst x)
    | (with_reducible apply State.Keeps.ite <;> intro _)
    | (with_reducible apply State.Keeps.step (State.fire_keeps ..); on_goal 1 => decide)
    | (with_reducible apply State.Keeps.step (State.loseRidge_keeps ..); on_goal 1 => decide)
    | (with_reducible apply State.Keeps.step (State.satInc_keeps ..); on_goal 1 => decide)
    | (with_reducible apply State.Keeps.step (State.modTha_keeps ..); on_goal 1 => decide)
    | (with_reducible apply State.Keeps.step (State.endSr_keeps ..); on_goal 1 => decide)
    | (with_reducible apply State.Keeps.step (State.raise_keeps ..); on_goal 1 => decide)
    | (with_reducible apply State.Keeps.step (State.put_keeps ..); on_goal 1 => decide)
    | (with_reducible apply State.Keeps.step (State.cause_keeps ..); on_goal 1 => decide)
    | (with_reducible apply State.Keeps.step (State.clearEdit_keeps ..); on_goal 1 => decide)

theorem State.scrubWord_keeps (s : State) (fetchOk : Bool) (x : Nat × Bool) : s.Keeps (pRegs ||| pStaged ||| pFreeCtr ||| pHost ||| pRidge ||| pBat ||| pPorts ||| pJtl ||| pSlate ||| pTha ||| pUpd ||| pBoot) (State.scrubWord s fetchOk x) := by
  unfold State.scrubWord
  repeat' first
    | with_reducible assumption
    | with_reducible apply State.Keeps.refl
    | (with_reducible apply State.Keeps.ite <;> intro _)
    | (with_reducible apply State.Keeps.step (State.scrubUe_keeps ..); on_goal 1 => decide)
    | (with_reducible apply State.Keeps.step (State.scrubCe_keeps ..); on_goal 1 => decide)

theorem State.scrubWords_keeps (s : State) (fetchOk : Bool) (ws : List (Nat × Bool)) : s.Keeps (pRegs ||| pStaged ||| pFreeCtr ||| pHost ||| pRidge ||| pBat ||| pPorts ||| pJtl ||| pSlate ||| pTha ||| pUpd ||| pBoot) (State.scrubWords s fetchOk ws) := by
  unfold State.scrubWords
  repeat' first
    | with_reducible assumption
    | with_reducible apply State.Keeps.refl
    | (with_reducible apply State.Keeps.ite <;> intro _)
    | (with_reducible apply State.Keeps.step (State.scrubWord_keeps ..); on_goal 1 => decide)
    | with_reducible apply State.Keeps.foldl
    | (intro _; intros; beta_reduce)

theorem State.reloadGlobals_keeps (s : State) (old : List ThaRec) (new : List ThaRec) : s.Keeps (pRegs ||| pStaged ||| pFreeCtr ||| pRidge ||| pBat ||| pPorts ||| pSlices ||| pJtl ||| pBoot) (State.reloadGlobals s old new) := by
  unfold State.reloadGlobals
  repeat' first
    | with_reducible assumption
    | with_reducible apply State.Keeps.refl
    | (extract_lets +onlyGivenNames t; (refine State.Keeps.cut (t := t) ?_ (fun _ => ?_)) <;> [subst t; clear_value t])
    | (extract_lets +onlyGivenNames x; first | clear_value x | subst x)
    | (with_reducible apply State.Keeps.ite <;> intro _)
    | (with_reducible apply State.Keeps.step (State.changeE_keeps ..); on_goal 1 => decide)
    | (with_reducible apply State.Keeps.step (State.loadTally_keeps ..); on_goal 1 => decide)
    | (with_reducible apply State.Keeps.step (State.gpcsTaken_keeps ..); on_goal 1 => decide)
    | (with_reducible apply State.Keeps.step (State.put_keeps ..); on_goal 1 => decide)
    | (with_reducible apply State.Keeps.step (State.showMtr_keeps ..); on_goal 1 => decide)
    | (with_reducible apply State.Keeps.step (State.loadDevice_keeps ..); on_goal 1 => decide)
    | (with_reducible apply State.Keeps.step (State.applyRec_keeps ..); on_goal 1 => decide)
    | with_reducible apply State.Keeps.foldl
    | (intro _; intros; beta_reduce)

theorem State.reloadPort_keeps (s : State) (old : List ThaRec) (new : List ThaRec) (n : Fin 16) : s.Keeps (pRegs ||| pStaged ||| pFreeCtr ||| pRidge ||| pBat ||| pPorts ||| pSlices ||| pJtl ||| pBoot) (State.reloadPort s old new n) := by
  unfold State.reloadPort
  repeat' first
    | with_reducible assumption
    | with_reducible apply State.Keeps.refl
    | (extract_lets +onlyGivenNames t; (refine State.Keeps.cut (t := t) ?_ (fun _ => ?_)) <;> [subst t; clear_value t])
    | (extract_lets +onlyGivenNames x; first | clear_value x | subst x)
    | (with_reducible apply State.Keeps.ite <;> intro _)
    | (with_reducible apply State.Keeps.step (State.policyChanged_keeps ..); on_goal 1 => decide)
    | (with_reducible apply State.Keeps.step (State.applyPortRec_keeps ..); on_goal 1 => decide)
    | with_reducible apply State.Keeps.foldl
    | (intro _; intros; beta_reduce)

theorem State.reloadImage_keeps (s : State) (img : List Word) : s.Keeps (pRegs ||| pStaged ||| pFreeCtr ||| pHost ||| pRidge ||| pBat ||| pPorts ||| pSlices ||| pJtl ||| pRunning ||| pTha ||| pBoot) (State.reloadImage s img) := by
  unfold State.reloadImage
  repeat' first
    | with_reducible assumption
    | with_reducible apply State.Keeps.refl
    | (extract_lets +onlyGivenNames t; (refine State.Keeps.cut (t := t) ?_ (fun _ => ?_)) <;> [subst t; clear_value t])
    | (extract_lets +onlyGivenNames x; first | clear_value x | subst x)
    | (with_reducible apply State.Keeps.ite <;> intro _)
    | (with_reducible apply State.Keeps.step (State.beginStrips_keeps ..); on_goal 1 => decide)
    | (with_reducible apply State.Keeps.step (State.modTha_keeps ..); on_goal 1 => decide)
    | (with_reducible apply State.Keeps.step (State.reloadGlobals_keeps ..); on_goal 1 => decide)
    | (with_reducible apply State.Keeps.step (State.reloadPort_keeps ..); on_goal 1 => decide)
    | (with_reducible apply State.Keeps.step (State.wr_keeps ..); on_goal 1 => decide)
    | (with_reducible apply State.Keeps.step (State.resolveDeficit_keeps ..); on_goal 1 => decide)
    | (with_reducible apply State.Keeps.step (State.swapWire_keeps ..); on_goal 1 => decide)
    | (with_reducible apply State.Keeps.step (State.put_keeps ..); on_goal 1 => decide)
    | (with_reducible apply State.Keeps.step (State.setRunning_keeps ..); on_goal 1 => decide)
    | (with_reducible apply State.Keeps.step (State.loadGrants_keeps ..); on_goal 1 => decide)
    | (with_reducible apply State.Keeps.step (State.applyFloors_keeps ..); on_goal 1 => decide)
    | with_reducible apply State.Keeps.foldl
    | (intro _; intros; beta_reduce)

end Sys2Proof.Machine
end

