-- ==== Sys2Proof/Laws/Image.lean ====
section
/-!
SUPPORT. What the operations of Machine/Image.lean may change, one lemma each.
-/

set_option linter.unusedTactic false
set_option linter.unreachableTactic false

namespace Sys2Proof.Machine

/-- A bounded repetition. -/
theorem State.Keeps.iterN {f : State → State} {s t : State} {m k : Nat} (hf : ∀ u, s.Keeps m u → s.Keeps m (f u)) (h : s.Keeps m t) : s.Keeps m (iterN f k t) := by
  induction k generalizing t with
  | zero => exact h
  | succ k ih => exact ih (hf t h)

end Sys2Proof.Machine
end

