-- ==== Sys2Proof/Laws/UpdOps.lean ====
section
/-!
SUPPORT. What the operations of Machine/UpdOps.lean may change, one lemma each.
-/

set_option linter.unusedTactic false
set_option linter.unreachableTactic false
set_option linter.tactic.unusedName false

namespace Sys2Proof.Machine

theorem State.noteImage_keeps (s : State) (c : Nat × Nat) : s.Keeps (pRegs ||| pSlate) (State.noteImage s c) := by
  unfold State.noteImage
  repeat' first
    | with_reducible assumption
    | with_reducible apply State.Keeps.refl
    | (with_reducible apply State.Keeps.ite <;> intro _)
    | (with_reducible apply State.Keeps.step (State.put_keeps ..); on_goal 1 => decide)
    | (with_reducible apply State.Keeps.step (State.logFault_keeps ..); on_goal 1 => decide)

theorem State.showDir_keeps (s : State) : s.Keeps pRegs (State.showDir s) := by
  unfold State.showDir
  repeat' first
    | with_reducible assumption
    | with_reducible apply State.Keeps.refl
    | (extract_lets +onlyGivenNames t; (refine State.Keeps.cut (t := t) ?_ (fun _ => ?_)) <;> [subst t; clear_value t])
    | (extract_lets +onlyGivenNames x; first | clear_value x | subst x)
    | (with_reducible apply State.Keeps.ite <;> intro _)
    | (with_reducible apply State.Keeps.step (State.put_keeps ..); on_goal 1 => decide)
    | (with_reducible apply State.Keeps.step (State.flag_keeps ..); on_goal 1 => decide)

theorem State.writeDir_keeps (s : State) (f : Dir → Dir) : s.Keeps (pRegs ||| pUpd) (State.writeDir s f) := by
  unfold State.writeDir
  repeat' first
    | with_reducible assumption
    | with_reducible apply State.Keeps.refl
    | (extract_lets +onlyGivenNames t; (refine State.Keeps.cut (t := t) ?_ (fun _ => ?_)) <;> [subst t; clear_value t])
    | (extract_lets +onlyGivenNames x; first | clear_value x | subst x)
    | (with_reducible apply State.Keeps.step (State.showDir_keeps ..); on_goal 1 => decide)
    | (with_reducible apply State.Keeps.step (State.modUpd_keeps ..); on_goal 1 => decide)

theorem State.setSlot_keeps (s : State) (k : Nat) (ws : List Word) : s.Keeps pUpd (State.setSlot s k ws) := by
  unfold State.setSlot
  repeat' first
    | with_reducible assumption
    | with_reducible apply State.Keeps.refl
    | (with_reducible apply State.Keeps.step (State.modUpd_keeps ..); on_goal 1 => decide)

theorem State.updBegin_keeps (s : State) (owner : Nat) (defer : Bool) (len : Option Nat) (crc : Option Nat) : s.Keeps (pRegs ||| pUpd) (State.updBegin s owner defer len crc) := by
  unfold State.updBegin
  repeat' first
    | with_reducible assumption
    | with_reducible apply State.Keeps.refl
    | (extract_lets +onlyGivenNames t; (refine State.Keeps.cut (t := t) ?_ (fun _ => ?_)) <;> [subst t; clear_value t])
    | (extract_lets +onlyGivenNames x; first | clear_value x | subst x)
    | (with_reducible apply State.Keeps.ite <;> intro _)
    | (with_reducible apply State.Keeps.step (State.clear_keeps ..); on_goal 1 => decide)
    | (with_reducible apply State.Keeps.step (State.result_keeps ..); on_goal 1 => decide)
    | (with_reducible apply State.Keeps.step (State.setSlot_keeps ..); on_goal 1 => decide)
    | (with_reducible apply State.Keeps.step (State.writeDir_keeps ..); on_goal 1 => decide)
    | (with_reducible apply State.Keeps.step (State.put_keeps ..); on_goal 1 => decide)
    | (with_reducible apply State.Keeps.step (State.flag_keeps ..); on_goal 1 => decide)
    | (with_reducible apply State.Keeps.step (State.modUpd_keeps ..); on_goal 1 => decide)
    | (with_reducible apply State.Keeps.step (State.setUpd_keeps ..); on_goal 1 => decide)

theorem State.endSession_keeps (s : State) : s.Keeps (pRegs ||| pUpd) (State.endSession s) := by
  unfold State.endSession
  repeat' first
    | with_reducible assumption
    | with_reducible apply State.Keeps.refl
    | (extract_lets +onlyGivenNames t; (refine State.Keeps.cut (t := t) ?_ (fun _ => ?_)) <;> [subst t; clear_value t])
    | (extract_lets +onlyGivenNames x; first | clear_value x | subst x)
    | (with_reducible apply State.Keeps.step (State.clear_keeps ..); on_goal 1 => decide)
    | (with_reducible apply State.Keeps.step (State.writeDir_keeps ..); on_goal 1 => decide)
    | (with_reducible apply State.Keeps.step (State.put_keeps ..); on_goal 1 => decide)
    | (with_reducible apply State.Keeps.step (State.modUpd_keeps ..); on_goal 1 => decide)
    | (with_reducible apply State.Keeps.step (State.setUpd_keeps ..); on_goal 1 => decide)

theorem State.failSession_keeps (s : State) (code : Nat) (detail : Nat) : s.Keeps (pRegs ||| pJtl ||| pUpd) (State.failSession s code detail) := by
  unfold State.failSession
  repeat' first
    | with_reducible assumption
    | with_reducible apply State.Keeps.refl
    | (extract_lets +onlyGivenNames t; (refine State.Keeps.cut (t := t) ?_ (fun _ => ?_)) <;> [subst t; clear_value t])
    | (extract_lets +onlyGivenNames x; first | clear_value x | subst x)
    | (with_reducible apply State.Keeps.ite <;> intro _)
    | (with_reducible apply State.Keeps.step (State.sendAct_keeps ..); on_goal 1 => decide)
    | (with_reducible apply State.Keeps.step (State.sendStat_keeps ..); on_goal 1 => decide)
    | (with_reducible apply State.Keeps.step (State.result_keeps ..); on_goal 1 => decide)
    | (with_reducible apply State.Keeps.step (State.endSession_keeps ..); on_goal 1 => decide)

theorem State.forwardBlock_keeps (s : State) (b : Nat) (ws : List Word) : s.Keeps (pJtl ||| pUpd) (State.forwardBlock s b ws) := by
  unfold State.forwardBlock
  repeat' first
    | with_reducible assumption
    | with_reducible apply State.Keeps.refl
    | (extract_lets +onlyGivenNames t; (refine State.Keeps.cut (t := t) ?_ (fun _ => ?_)) <;> [subst t; clear_value t])
    | (extract_lets +onlyGivenNames x; first | clear_value x | subst x)
    | (with_reducible apply State.Keeps.ite <;> intro _)
    | split
    | (with_reducible apply State.Keeps.step (State.modUpd_keeps ..); on_goal 1 => decide)
    | (with_reducible apply State.Keeps.step (State.sendF_keeps ..); on_goal 1 => decide)
    | with_reducible apply State.Keeps.foldl
    | (intro _; intros; beta_reduce)

theorem State.leaveChain_keeps (s : State) : s.Keeps (pRegs ||| pUpd) (State.leaveChain s) := by
  unfold State.leaveChain
  repeat' first
    | with_reducible assumption
    | with_reducible apply State.Keeps.refl
    | (with_reducible apply State.Keeps.step (State.clear_keeps ..); on_goal 1 => decide)
    | (with_reducible apply State.Keeps.step (State.modUpd_keeps ..); on_goal 1 => decide)
    | (with_reducible apply State.Keeps.step (State.endSession_keeps ..); on_goal 1 => decide)

theorem State.manifestDone_keeps (s : State) (x : Session) : s.Keeps (pRegs ||| pJtl ||| pUpd) (State.manifestDone s x) := by
  unfold State.manifestDone
  repeat' first
    | with_reducible assumption
    | with_reducible apply State.Keeps.refl
    | (extract_lets +onlyGivenNames t; (refine State.Keeps.cut (t := t) ?_ (fun _ => ?_)) <;> [subst t; clear_value t])
    | (extract_lets +onlyGivenNames x; first | clear_value x | subst x)
    | (with_reducible apply State.Keeps.ite <;> intro _)
    | (with_reducible apply State.Keeps.step (State.clear_keeps ..); on_goal 1 => decide)
    | (with_reducible apply State.Keeps.step (State.wr_keeps ..); on_goal 1 => decide)
    | (with_reducible apply State.Keeps.step (State.raise_keeps ..); on_goal 1 => decide)
    | (with_reducible apply State.Keeps.step (State.modUpd_keeps ..); on_goal 1 => decide)
    | (with_reducible apply State.Keeps.step (State.failSession_keeps ..); on_goal 1 => decide)
    | (with_reducible apply State.Keeps.step (State.sendF_keeps ..); on_goal 1 => decide)
    | (with_reducible apply State.Keeps.step (State.leaveChain_keeps ..); on_goal 1 => decide)
    | (with_reducible apply State.Keeps.step (State.forwardBlock_keeps ..); on_goal 1 => decide)
    | with_reducible apply State.Keeps.foldl
    | with_reducible apply State.Keeps.foldl_fst
    | with_reducible apply State.Keeps.foldl_snd
    | (intro _; intros; beta_reduce)

theorem State.blockDone_keeps (s : State) (x : Session) (b : Nat) : s.Keeps (pRegs ||| pJtl ||| pUpd) (State.blockDone s x b) := by
  unfold State.blockDone
  repeat' first
    | with_reducible assumption
    | with_reducible apply State.Keeps.refl
    | (extract_lets +onlyGivenNames t; (refine State.Keeps.cut (t := t) ?_ (fun _ => ?_)) <;> [subst t; clear_value t])
    | (extract_lets +onlyGivenNames x; first | clear_value x | subst x)
    | (with_reducible apply State.Keeps.ite <;> intro _)
    | split
    | (with_reducible apply State.Keeps.step (State.manifestDone_keeps ..); on_goal 1 => decide)
    | (with_reducible apply State.Keeps.step (State.result_keeps ..); on_goal 1 => decide)
    | (with_reducible apply State.Keeps.step (State.put_keeps ..); on_goal 1 => decide)
    | (with_reducible apply State.Keeps.step (State.modUpd_keeps ..); on_goal 1 => decide)
    | (with_reducible apply State.Keeps.step (State.failSession_keeps ..); on_goal 1 => decide)
    | (with_reducible apply State.Keeps.step (State.forwardBlock_keeps ..); on_goal 1 => decide)
    | with_reducible apply State.Keeps.foldl
    | with_reducible apply State.Keeps.foldl_fst
    | with_reducible apply State.Keeps.foldl_snd
    | with_reducible apply State.Keeps.iterN
    | (intro _; intros; beta_reduce)

theorem State.updWord_keeps (acc : State × Bool) (w : Word) : acc.1.Keeps (pRegs ||| pJtl ||| pUpd) (State.updWord acc w).1 := by
  unfold State.updWord
  repeat' first
    | with_reducible assumption
    | with_reducible apply State.Keeps.refl
    | (extract_lets +onlyGivenNames t; (refine State.Keeps.cut (t := t) ?_ (fun _ => ?_)) <;> [subst t; clear_value t])
    | (extract_lets +onlyGivenNames x; first | clear_value x | subst x)
    | split
    | (with_reducible apply State.Keeps.step (State.blockDone_keeps ..); on_goal 1 => decide)
    | (with_reducible apply State.Keeps.step (State.put_keeps ..); on_goal 1 => decide)
    | (with_reducible apply State.Keeps.step (State.modUpd_keeps ..); on_goal 1 => decide)

theorem State.updWord_keeps_of {acc : State × Bool} {w : Word} {u : State} {x₁ : Bool} (h : State.updWord acc w = (u, x₁)) : acc.1.Keeps (pRegs ||| pJtl ||| pUpd) u := by
  have := State.updWord_keeps acc w
  rwa [h] at this

theorem State.updData_keeps (s : State) (ws : List Word) : s.Keeps (pRegs ||| pJtl ||| pUpd) (State.updData s ws).1 := by
  unfold State.updData
  repeat' first
    | with_reducible assumption
    | with_reducible apply State.Keeps.refl
    | split
    | (with_reducible apply State.Keeps.step (State.updWord_keeps ..); on_goal 1 => decide)
    | (with_reducible apply State.Keeps.step (State.updWord_keeps_of (by assumption)); on_goal 1 => decide)
    | (with_reducible apply State.Keeps.step (State.result_keeps ..); on_goal 1 => decide)
    | with_reducible apply State.Keeps.foldl
    | with_reducible apply State.Keeps.foldl_fst
    | with_reducible apply State.Keeps.foldl_snd
    | (intro _; intros; beta_reduce)

theorem State.updData_keeps_of {s : State} {ws : List Word} {u : State} {x₁ : Bool} (h : State.updData s ws = (u, x₁)) : s.Keeps (pRegs ||| pJtl ||| pUpd) u := by
  have := State.updData_keeps s ws
  rwa [h] at this

theorem State.endWithCode_keeps (s : State) (x : Session) (c : Nat × Nat) : s.Keeps (pRegs ||| pBat ||| pJtl ||| pSlate ||| pUpd) (State.endWithCode s x c) := by
  unfold State.endWithCode
  repeat' first
    | with_reducible assumption
    | with_reducible apply State.Keeps.refl
    | (extract_lets +onlyGivenNames t; (refine State.Keeps.cut (t := t) ?_ (fun _ => ?_)) <;> [subst t; clear_value t])
    | (extract_lets +onlyGivenNames x; first | clear_value x | subst x)
    | (with_reducible apply State.Keeps.ite <;> intro _)
    | split
    | (with_reducible apply State.Keeps.step (State.fire_keeps ..); on_goal 1 => decide)
    | (with_reducible apply State.Keeps.step (State.sendAct_keeps ..); on_goal 1 => decide)
    | (with_reducible apply State.Keeps.step (State.clear_keeps ..); on_goal 1 => decide)
    | (with_reducible apply State.Keeps.step (State.result_keeps ..); on_goal 1 => decide)
    | (with_reducible apply State.Keeps.step (State.setSlot_keeps ..); on_goal 1 => decide)
    | (with_reducible apply State.Keeps.step (State.writeDir_keeps ..); on_goal 1 => decide)
    | (with_reducible apply State.Keeps.step (State.put_keeps ..); on_goal 1 => decide)
    | (with_reducible apply State.Keeps.step (State.modUpd_keeps ..); on_goal 1 => decide)
    | (with_reducible apply State.Keeps.step (State.failSession_keeps ..); on_goal 1 => decide)
    | (with_reducible apply State.Keeps.step (State.setUpd_keeps ..); on_goal 1 => decide)
    | (with_reducible apply State.Keeps.step (State.noteImage_keeps ..); on_goal 1 => decide)

theorem State.updEnd_keeps (s : State) : s.Keeps (pRegs ||| pBat ||| pJtl ||| pSlate ||| pUpd) (State.updEnd s) := by
  unfold State.updEnd
  repeat' first
    | with_reducible assumption
    | with_reducible apply State.Keeps.refl
    | split
    | (with_reducible apply State.Keeps.step (State.result_keeps ..); on_goal 1 => decide)
    | (with_reducible apply State.Keeps.step (State.endWithCode_keeps ..); on_goal 1 => decide)

theorem State.updAbort_keeps (s : State) : s.Keeps (pRegs ||| pJtl ||| pUpd) (State.updAbort s) := by
  unfold State.updAbort
  repeat' first
    | with_reducible assumption
    | with_reducible apply State.Keeps.refl
    | (extract_lets +onlyGivenNames t; (refine State.Keeps.cut (t := t) ?_ (fun _ => ?_)) <;> [subst t; clear_value t])
    | (extract_lets +onlyGivenNames x; first | clear_value x | subst x)
    | (with_reducible apply State.Keeps.ite <;> intro _)
    | (with_reducible apply State.Keeps.step (State.sendAct_keeps ..); on_goal 1 => decide)
    | (with_reducible apply State.Keeps.step (State.result_keeps ..); on_goal 1 => decide)
    | (with_reducible apply State.Keeps.step (State.endSession_keeps ..); on_goal 1 => decide)

theorem State.dormerBoot_keeps (s : State) : s.Keeps (pRegs ||| pStaged ||| pHost ||| pRidge ||| pBat ||| pPorts ||| pJtl ||| pSoffit ||| pTha ||| pUpd ||| pBoot) (State.dormerBoot s) := by
  unfold State.dormerBoot
  repeat' first
    | with_reducible assumption
    | with_reducible apply State.Keeps.refl
    | (extract_lets +onlyGivenNames t; (refine State.Keeps.cut (t := t) ?_ (fun _ => ?_)) <;> [subst t; clear_value t])
    | (extract_lets +onlyGivenNames x; first | clear_value x | subst x)
    | (with_reducible apply State.Keeps.step (State.loseRidge_keeps ..); on_goal 1 => decide)
    | (with_reducible apply State.Keeps.step (State.clear_keeps ..); on_goal 1 => decide)
    | (with_reducible apply State.Keeps.step (State.writeDir_keeps ..); on_goal 1 => decide)
    | (with_reducible apply State.Keeps.step (State.put_keeps ..); on_goal 1 => decide)
    | (with_reducible apply State.Keeps.step (State.loseJotil_keeps ..); on_goal 1 => decide)
    | (with_reducible apply State.Keeps.step (State.loseHost_keeps ..); on_goal 1 => decide)
    | (with_reducible apply State.Keeps.step (State.modUpd_keeps ..); on_goal 1 => decide)
    | (with_reducible apply State.Keeps.step (State.modBoot_keeps ..); on_goal 1 => decide)
    | (with_reducible apply State.Keeps.step (State.setUpd_keeps ..); on_goal 1 => decide)
    | (with_reducible apply State.Keeps.step (State.loseBatten_keeps ..); on_goal 1 => decide)

theorem State.updActivate_keeps (s : State) (nextboot : Bool) (dirOk : Bool) : s.Keeps (pRegs ||| pStaged ||| pHost ||| pRidge ||| pBat ||| pPorts ||| pJtl ||| pSoffit ||| pTha ||| pUpd ||| pBoot) (State.updActivate s nextboot dirOk) := by
  unfold State.updActivate
  repeat' first
    | with_reducible assumption
    | with_reducible apply State.Keeps.refl
    | (extract_lets +onlyGivenNames t; (refine State.Keeps.cut (t := t) ?_ (fun _ => ?_)) <;> [subst t; clear_value t])
    | (extract_lets +onlyGivenNames x; first | clear_value x | subst x)
    | (with_reducible apply State.Keeps.ite <;> intro _)
    | split
    | (with_reducible apply State.Keeps.step (State.sendAct_keeps ..); on_goal 1 => decide)
    | (with_reducible apply State.Keeps.step (State.askRelay_keeps ..); on_goal 1 => decide)
    | (with_reducible apply State.Keeps.step (State.dormerBoot_keeps ..); on_goal 1 => decide)
    | (with_reducible apply State.Keeps.step (State.result_keeps ..); on_goal 1 => decide)
    | (with_reducible apply State.Keeps.step (State.writeDir_keeps ..); on_goal 1 => decide)
    | (with_reducible apply State.Keeps.step (State.put_keeps ..); on_goal 1 => decide)
    | (with_reducible apply State.Keeps.step (State.modUpd_keeps ..); on_goal 1 => decide)

theorem State.newFormat_keeps (s : State) (fmt : Nat) : s.Keeps (pMtr ||| pSlate) (State.newFormat s fmt) := by
  unfold State.newFormat
  repeat' first
    | with_reducible assumption
    | with_reducible apply State.Keeps.refl
    | (extract_lets +onlyGivenNames t; (refine State.Keeps.cut (t := t) ?_ (fun _ => ?_)) <;> [subst t; clear_value t])
    | (extract_lets +onlyGivenNames x; first | clear_value x | subst x)
    | (with_reducible apply State.Keeps.ite <;> intro _)
    | (with_reducible apply State.Keeps.step (State.energyTaken_keeps ..); on_goal 1 => decide)
    | (with_reducible apply State.Keeps.step (State.modSlate_keeps ..); on_goal 1 => decide)

theorem State.showPrev_keeps (s : State) : s.Keeps pRegs (State.showPrev s) := by
  unfold State.showPrev
  repeat' first
    | with_reducible assumption
    | with_reducible apply State.Keeps.refl
    | (with_reducible apply State.Keeps.step (State.flag_keeps ..); on_goal 1 => decide)

theorem State.confirmed_keeps (s : State) : s.Keeps (pRegs ||| pBat ||| pMtr ||| pSlate ||| pUpd) (State.confirmed s) := by
  unfold State.confirmed
  repeat' first
    | with_reducible assumption
    | with_reducible apply State.Keeps.refl
    | (extract_lets +onlyGivenNames t; (refine State.Keeps.cut (t := t) ?_ (fun _ => ?_)) <;> [subst t; clear_value t])
    | (extract_lets +onlyGivenNames x; first | clear_value x | subst x)
    | (with_reducible apply State.Keeps.step (State.fire_keeps ..); on_goal 1 => decide)
    | (with_reducible apply State.Keeps.step (State.clear_keeps ..); on_goal 1 => decide)
    | (with_reducible apply State.Keeps.step (State.result_keeps ..); on_goal 1 => decide)
    | (with_reducible apply State.Keeps.step (State.writeDir_keeps ..); on_goal 1 => decide)
    | (with_reducible apply State.Keeps.step (State.newFormat_keeps ..); on_goal 1 => decide)
    | (with_reducible apply State.Keeps.step (State.put_keeps ..); on_goal 1 => decide)
    | (with_reducible apply State.Keeps.step (State.showPrev_keeps ..); on_goal 1 => decide)
    | (with_reducible apply State.Keeps.step (State.modUpd_keeps ..); on_goal 1 => decide)
    | (with_reducible apply State.Keeps.step (State.setUpd_keeps ..); on_goal 1 => decide)

theorem State.confirmStep_keeps (s : State) : s.Keeps (pRegs ||| pBat ||| pOtp ||| pMtr ||| pSlate ||| pUpd) (State.confirmStep s) := by
  unfold State.confirmStep
  repeat' first
    | with_reducible assumption
    | with_reducible apply State.Keeps.refl
    | (with_reducible apply State.Keeps.ite <;> intro _)
    | split
    | (with_reducible apply State.Keeps.step (State.startBurn_keeps ..); on_goal 1 => decide)
    | (with_reducible apply State.Keeps.step (State.result_keeps ..); on_goal 1 => decide)
    | (with_reducible apply State.Keeps.step (State.confirmed_keeps ..); on_goal 1 => decide)
    | (with_reducible apply State.Keeps.step (State.modUpd_keeps ..); on_goal 1 => decide)

theorem State.updConfirm_keeps (s : State) (dirOk : Bool) : s.Keeps (pRegs ||| pBat ||| pJtl ||| pOtp ||| pMtr ||| pSlate ||| pUpd) (State.updConfirm s dirOk) := by
  unfold State.updConfirm
  repeat' first
    | with_reducible assumption
    | with_reducible apply State.Keeps.refl
    | (extract_lets +onlyGivenNames t; (refine State.Keeps.cut (t := t) ?_ (fun _ => ?_)) <;> [subst t; clear_value t])
    | (extract_lets +onlyGivenNames x; first | clear_value x | subst x)
    | (with_reducible apply State.Keeps.ite <;> intro _)
    | split
    | (with_reducible apply State.Keeps.step (State.sendAct_keeps ..); on_goal 1 => decide)
    | (with_reducible apply State.Keeps.step (State.confirmStep_keeps ..); on_goal 1 => decide)
    | (with_reducible apply State.Keeps.step (State.result_keeps ..); on_goal 1 => decide)
    | (with_reducible apply State.Keeps.step (State.modUpd_keeps ..); on_goal 1 => decide)

theorem State.updRevert_keeps (s : State) : s.Keeps (pRegs ||| pJtl ||| pUpd) (State.updRevert s) := by
  unfold State.updRevert
  repeat' first
    | with_reducible assumption
    | with_reducible apply State.Keeps.refl
    | (extract_lets +onlyGivenNames t; (refine State.Keeps.cut (t := t) ?_ (fun _ => ?_)) <;> [subst t; clear_value t])
    | (extract_lets +onlyGivenNames x; first | clear_value x | subst x)
    | (with_reducible apply State.Keeps.ite <;> intro _)
    | split
    | (with_reducible apply State.Keeps.step (State.sendAct_keeps ..); on_goal 1 => decide)
    | (with_reducible apply State.Keeps.step (State.askRelay_keeps ..); on_goal 1 => decide)
    | (with_reducible apply State.Keeps.step (State.result_keeps ..); on_goal 1 => decide)

theorem State.reportFallback_keeps (s : State) : s.Keeps pJtl (State.reportFallback s) := by
  unfold State.reportFallback
  repeat' first
    | with_reducible assumption
    | with_reducible apply State.Keeps.refl
    | (with_reducible apply State.Keeps.ite <;> intro _)
    | (with_reducible apply State.Keeps.step (State.sendStatAs_keeps ..); on_goal 1 => decide)

theorem State.updCmd_keeps (s : State) (owner : Nat) (v : Word) (dirOk : Bool) : s.Keeps (pRegs ||| pStaged ||| pHost ||| pRidge ||| pBat ||| pPorts ||| pJtl ||| pSoffit ||| pOtp ||| pMtr ||| pSlate ||| pTha ||| pUpd ||| pBoot) (State.updCmd s owner v dirOk) := by
  unfold State.updCmd
  repeat' first
    | with_reducible assumption
    | with_reducible apply State.Keeps.refl
    | (extract_lets +onlyGivenNames t; (refine State.Keeps.cut (t := t) ?_ (fun _ => ?_)) <;> [subst t; clear_value t])
    | (extract_lets +onlyGivenNames x; first | clear_value x | subst x)
    | (with_reducible apply State.Keeps.ite <;> intro _)
    | (with_reducible apply State.Keeps.step (State.updAbort_keeps ..); on_goal 1 => decide)
    | (with_reducible apply State.Keeps.step (State.updConfirm_keeps ..); on_goal 1 => decide)
    | (with_reducible apply State.Keeps.step (State.updEnd_keeps ..); on_goal 1 => decide)
    | (with_reducible apply State.Keeps.step (State.updRevert_keeps ..); on_goal 1 => decide)
    | (with_reducible apply State.Keeps.step (State.updBegin_keeps ..); on_goal 1 => decide)
    | (with_reducible apply State.Keeps.step (State.updActivate_keeps ..); on_goal 1 => decide)

end Sys2Proof.Machine
end

