-- ==== Sys2Proof/Laws/Boot.lean ====
section
/-!
SUPPORT. What the operations of Machine/Boot.lean may change, one lemma each.
-/

set_option linter.unusedTactic false
set_option linter.unreachableTactic false
set_option linter.tactic.unusedName false

namespace Sys2Proof.Machine

theorem State.soffitUp_keeps (s : State) : s.Keeps (pRegs ||| pFreeCtr ||| pSlate ||| pBoot) (State.soffitUp s) := by
  unfold State.soffitUp
  repeat' first
    | with_reducible assumption
    | with_reducible apply State.Keeps.refl
    | (extract_lets +onlyGivenNames t; (refine State.Keeps.cut (t := t) ?_ (fun _ => ?_)) <;> [subst t; clear_value t])
    | (extract_lets +onlyGivenNames x; first | clear_value x | subst x)
    | (with_reducible apply State.Keeps.ite <;> intro _)
    | (with_reducible apply State.Keeps.step (State.maskBit_keeps ..); on_goal 1 => decide)
    | (with_reducible apply State.Keeps.step (State.flag_keeps ..); on_goal 1 => decide)
    | (with_reducible apply State.Keeps.step (State.cause_keeps ..); on_goal 1 => decide)

theorem State.loadDevcfg_keeps (s : State) : s.Keeps pRegs (State.loadDevcfg s) := by
  unfold State.loadDevcfg
  repeat' first
    | with_reducible assumption
    | with_reducible apply State.Keeps.refl
    | (extract_lets +onlyGivenNames t; (refine State.Keeps.cut (t := t) ?_ (fun _ => ?_)) <;> [subst t; clear_value t])
    | (extract_lets +onlyGivenNames x; first | clear_value x | subst x)
    | (with_reducible apply State.Keeps.ite <;> intro _)
    | (with_reducible apply State.Keeps.step (State.put_keeps ..); on_goal 1 => decide)

theorem State.readOtp_keeps (s : State) (reads : List OtpRead) (cs : CtrReads) : s.Keeps (pRegs ||| pBat ||| pPorts ||| pOtp ||| pSlate) (State.readOtp s reads cs) := by
  unfold State.readOtp
  repeat' first
    | with_reducible assumption
    | with_reducible apply State.Keeps.refl
    | (with_reducible apply State.Keeps.step (State.bootRead_keeps ..); on_goal 1 => decide)
    | (with_reducible apply State.Keeps.step (State.loadDevcfg_keeps ..); on_goal 1 => decide)

theorem State.serviceUp_keeps (s : State) (n : Fin 16) : s.Keeps (pRegs ||| pStaged ||| pFreeCtr ||| pBat ||| pPorts ||| pSlices ||| pBoot) (State.serviceUp s n) := by
  unfold State.serviceUp
  repeat' first
    | with_reducible assumption
    | with_reducible apply State.Keeps.refl
    | (extract_lets +onlyGivenNames t; (refine State.Keeps.cut (t := t) ?_ (fun _ => ?_)) <;> [subst t; clear_value t])
    | (extract_lets +onlyGivenNames x; first | clear_value x | subst x)
    | (with_reducible apply State.Keeps.ite <;> intro _)
    | (with_reducible apply State.Keeps.step (State.modPort_keeps ..); on_goal 1 => decide)
    | (with_reducible apply State.Keeps.step (State.giveLatches_keeps ..); on_goal 1 => decide)
    | (with_reducible apply State.Keeps.step (State.firstState_keeps ..); on_goal 1 => decide)
    | (with_reducible apply State.Keeps.step (State.startRole_keeps ..); on_goal 1 => decide)
    | (with_reducible apply State.Keeps.step (State.dropPortRegs_keeps ..); on_goal 1 => decide)
    | (with_reducible apply State.Keeps.step (State.maskBit_keeps ..); on_goal 1 => decide)
    | (with_reducible apply State.Keeps.step (State.raise_keeps ..); on_goal 1 => decide)
    | (with_reducible apply State.Keeps.step (State.put_keeps ..); on_goal 1 => decide)
    | (with_reducible apply State.Keeps.step (State.setP_keeps ..); on_goal 1 => decide)
    | (with_reducible apply State.Keeps.step (State.nameLegs_keeps ..); on_goal 1 => decide)
    | (with_reducible apply State.Keeps.step (State.setRd_keeps ..); on_goal 1 => decide)
    | (with_reducible apply State.Keeps.step (State.restartDt_keeps ..); on_goal 1 => decide)
    | with_reducible apply State.Keeps.foldl
    | (intro _; intros; beta_reduce)

theorem State.seeService_keeps (s : State) (v0 : Bool) (v1 : Bool) : s.Keeps pRegs (State.seeService s v0 v1) := by
  unfold State.seeService
  repeat' first
    | with_reducible assumption
    | with_reducible apply State.Keeps.refl
    | (with_reducible apply State.Keeps.step (State.flag_keeps ..); on_goal 1 => decide)

theorem State.chooseService_keeps (s : State) : s.Keeps (pRegs ||| pStaged ||| pFreeCtr ||| pBat ||| pPorts ||| pSlices ||| pBoot) (State.chooseService s) := by
  unfold State.chooseService
  repeat' first
    | with_reducible assumption
    | with_reducible apply State.Keeps.refl
    | (with_reducible apply State.Keeps.ite <;> intro _)
    | (with_reducible apply State.Keeps.step (State.serviceUp_keeps ..); on_goal 1 => decide)
    | (with_reducible apply State.Keeps.step (State.modBoot_keeps ..); on_goal 1 => decide)

theorem State.serviceDown_keeps (s : State) : s.Keeps (pRegs ||| pStaged ||| pHost ||| pRidge ||| pPorts ||| pSlices ||| pJtl ||| pBoot) (State.serviceDown s) := by
  unfold State.serviceDown
  repeat' first
    | with_reducible assumption
    | with_reducible apply State.Keeps.refl
    | (extract_lets +onlyGivenNames t; (refine State.Keeps.cut (t := t) ?_ (fun _ => ?_)) <;> [subst t; clear_value t])
    | (extract_lets +onlyGivenNames x; first | clear_value x | subst x)
    | (with_reducible apply State.Keeps.ite <;> intro _)
    | split
    | (with_reducible apply State.Keeps.step (State.put_keeps ..); on_goal 1 => decide)
    | (with_reducible apply State.Keeps.step (State.losePort_keeps ..); on_goal 1 => decide)
    | (with_reducible apply State.Keeps.step (State.modBoot_keeps ..); on_goal 1 => decide)
    | (with_reducible apply State.Keeps.step (State.setRd_keeps ..); on_goal 1 => decide)

theorem State.afterLoss_keeps (s : State) : s.Keeps (pRegs ||| pStaged ||| pHost ||| pRidge ||| pBat ||| pPorts ||| pSlices ||| pJtl ||| pSoffit ||| pOtp ||| pRunning ||| pMtr ||| pSlate ||| pTha ||| pUpd ||| pBoot ||| pJtag) (State.afterLoss s) := by
  unfold State.afterLoss
  repeat' first
    | with_reducible assumption
    | with_reducible apply State.Keeps.refl
    | (with_reducible apply State.Keeps.ite <;> intro _)
    | split
    | (with_reducible apply State.Keeps.step (State.followFeed_keeps ..); on_goal 1 => decide)
    | (with_reducible apply State.Keeps.step (State.deviceReset_keeps ..); on_goal 1 => decide)
    | (with_reducible apply State.Keeps.step (State.powerOn_keeps ..); on_goal 1 => decide)

theorem State.hostBack_keeps (s : State) : s.Keeps (pRegs ||| pStaged ||| pHost ||| pRidge ||| pBat ||| pPorts) (State.hostBack s) := by
  unfold State.hostBack
  repeat' first
    | with_reducible assumption
    | with_reducible apply State.Keeps.refl
    | (extract_lets +onlyGivenNames t; (refine State.Keeps.cut (t := t) ?_ (fun _ => ?_)) <;> [subst t; clear_value t])
    | (extract_lets +onlyGivenNames x; first | clear_value x | subst x)
    | (with_reducible apply State.Keeps.ite <;> intro _)
    | (with_reducible apply State.Keeps.step (State.bootGrants_keeps ..); on_goal 1 => decide)
    | (with_reducible apply State.Keeps.step (State.releaseHost_keeps ..); on_goal 1 => decide)
    | (with_reducible apply State.Keeps.step (State.loadRec_keeps ..); on_goal 1 => decide)
    | (with_reducible apply State.Keeps.step (State.put_keeps ..); on_goal 1 => decide)
    | (with_reducible apply State.Keeps.step (State.loadGrants_keeps ..); on_goal 1 => decide)

theorem State.resumeDrive_keeps (s : State) : s.Keeps (pRegs ||| pStaged ||| pBat ||| pPorts ||| pSlices ||| pBoot) (State.resumeDrive s) := by
  unfold State.resumeDrive
  repeat' first
    | with_reducible assumption
    | with_reducible apply State.Keeps.refl
    | (with_reducible apply State.Keeps.ite <;> intro _)
    | (with_reducible apply State.Keeps.step (State.startPush_keeps ..); on_goal 1 => decide)
    | (with_reducible apply State.Keeps.step (State.sinkClose_keeps ..); on_goal 1 => decide)
    | (with_reducible apply State.Keeps.step (State.vhvReturn_keeps ..); on_goal 1 => decide)
    | with_reducible apply State.Keeps.foldl
    | (intro _; intros; beta_reduce)

theorem State.resetWrite_keeps (s : State) (hp : HostPort) (key : Byte) (kind : Nat) : s.Keeps (pRegs ||| pStaged ||| pFreeCtr ||| pHost ||| pRidge ||| pBat ||| pPorts ||| pSlices ||| pJtl ||| pSoffit ||| pOtp ||| pRunning ||| pSlate ||| pTha ||| pUpd ||| pBoot) (State.resetWrite s hp key kind) := by
  unfold State.resetWrite
  repeat' first
    | with_reducible assumption
    | with_reducible apply State.Keeps.refl
    | (extract_lets +onlyGivenNames t; (refine State.Keeps.cut (t := t) ?_ (fun _ => ?_)) <;> [subst t; clear_value t])
    | (extract_lets +onlyGivenNames x; first | clear_value x | subst x)
    | (with_reducible apply State.Keeps.ite <;> intro _)
    | split
    | (with_reducible apply State.Keeps.step (State.resetCmd_keeps ..); on_goal 1 => decide)
    | (with_reducible apply State.Keeps.step (State.refuseTxn_keeps ..); on_goal 1 => decide)
    | (with_reducible apply State.Keeps.step (State.endWith_keeps ..); on_goal 1 => decide)

theorem State.tryDir_keeps (s : State) (dirOk : Bool) (f : Dir → Dir) : s.Keeps (pRegs ||| pUpd) (State.tryDir s dirOk f) := by
  unfold State.tryDir
  repeat' first
    | with_reducible assumption
    | with_reducible apply State.Keeps.refl
    | (with_reducible apply State.Keeps.ite <;> intro _)
    | (with_reducible apply State.Keeps.step (State.result_keeps ..); on_goal 1 => decide)
    | (with_reducible apply State.Keeps.step (State.writeDir_keeps ..); on_goal 1 => decide)

theorem State.dormerService_keeps (s : State) : s.Keeps (pRegs ||| pStaged ||| pFreeCtr ||| pBat ||| pPorts ||| pSlices ||| pBoot) (State.dormerService s) := by
  unfold State.dormerService
  repeat' first
    | with_reducible assumption
    | with_reducible apply State.Keeps.refl
    | (with_reducible apply State.Keeps.ite <;> intro _)
    | (with_reducible apply State.Keeps.step (State.chooseService_keeps ..); on_goal 1 => decide)
    | (with_reducible apply State.Keeps.step (State.put_keeps ..); on_goal 1 => decide)

theorem State.dropHold_keeps (s : State) : s.Keeps (pRegs ||| pStaged ||| pFreeCtr ||| pHost ||| pRidge ||| pBat ||| pPorts ||| pSlices ||| pJtl ||| pSoffit ||| pUpd ||| pBoot) (State.dropHold s) := by
  unfold State.dropHold
  repeat' first
    | with_reducible assumption
    | with_reducible apply State.Keeps.refl
    | (extract_lets +onlyGivenNames t; (refine State.Keeps.cut (t := t) ?_ (fun _ => ?_)) <;> [subst t; clear_value t])
    | (extract_lets +onlyGivenNames x; first | clear_value x | subst x)
    | (with_reducible apply State.Keeps.ite <;> intro _)
    | (with_reducible apply State.Keeps.step (State.errRec_keeps ..); on_goal 1 => decide)
    | (with_reducible apply State.Keeps.step (State.clear_keeps ..); on_goal 1 => decide)
    | (with_reducible apply State.Keeps.step (State.maskBit_keeps ..); on_goal 1 => decide)
    | (with_reducible apply State.Keeps.step (State.tellWarned_keeps ..); on_goal 1 => decide)
    | (with_reducible apply State.Keeps.step (State.losePort_keeps ..); on_goal 1 => decide)
    | (with_reducible apply State.Keeps.step (State.loseJotil_keeps ..); on_goal 1 => decide)
    | (with_reducible apply State.Keeps.step (State.modUpd_keeps ..); on_goal 1 => decide)
    | with_reducible apply State.Keeps.foldl
    | (intro _; intros; beta_reduce)

theorem State.toDormer_keeps (s : State) (c : Nat) : s.Keeps (pRegs ||| pStaged ||| pFreeCtr ||| pHost ||| pRidge ||| pBat ||| pPorts ||| pSlices ||| pJtl ||| pSoffit ||| pSlate ||| pUpd ||| pBoot) (State.toDormer s c) := by
  unfold State.toDormer
  repeat' first
    | with_reducible assumption
    | with_reducible apply State.Keeps.refl
    | (extract_lets +onlyGivenNames t; (refine State.Keeps.cut (t := t) ?_ (fun _ => ?_)) <;> [subst t; clear_value t])
    | (extract_lets +onlyGivenNames x; first | clear_value x | subst x)
    | (with_reducible apply State.Keeps.ite <;> intro _)
    | (with_reducible apply State.Keeps.step (State.dropHold_keeps ..); on_goal 1 => decide)
    | (with_reducible apply State.Keeps.step (State.clear_keeps ..); on_goal 1 => decide)
    | (with_reducible apply State.Keeps.step (State.dormerService_keeps ..); on_goal 1 => decide)
    | (with_reducible apply State.Keeps.step (State.raise_keeps ..); on_goal 1 => decide)
    | (with_reducible apply State.Keeps.step (State.put_keeps ..); on_goal 1 => decide)
    | (with_reducible apply State.Keeps.step (State.cause_keeps ..); on_goal 1 => decide)
    | (with_reducible apply State.Keeps.step (State.modUpd_keeps ..); on_goal 1 => decide)
    | (with_reducible apply State.Keeps.step (State.modBoot_keeps ..); on_goal 1 => decide)
    | (with_reducible apply State.Keeps.step (State.setUpd_keeps ..); on_goal 1 => decide)

theorem State.fallBack_keeps (s : State) (code : Nat) : s.Keeps (pRegs ||| pBat ||| pUpd) (State.fallBack s code) := by
  unfold State.fallBack
  repeat' first
    | with_reducible assumption
    | with_reducible apply State.Keeps.refl
    | (with_reducible apply State.Keeps.ite <;> intro _)
    | (with_reducible apply State.Keeps.step (State.fire_keeps ..); on_goal 1 => decide)
    | (with_reducible apply State.Keeps.step (State.writeDir_keeps ..); on_goal 1 => decide)

theorem State.reloadActive_keeps (s : State) (dirOk : Bool) : s.Keeps (pRegs ||| pStaged ||| pFreeCtr ||| pHost ||| pRidge ||| pBat ||| pPorts ||| pSlices ||| pJtl ||| pSoffit ||| pRunning ||| pSlate ||| pTha ||| pUpd ||| pBoot) (State.reloadActive s dirOk) := by
  unfold State.reloadActive
  repeat' first
    | with_reducible assumption
    | with_reducible apply State.Keeps.refl
    | (extract_lets +onlyGivenNames t; (refine State.Keeps.cut (t := t) ?_ (fun _ => ?_)) <;> [subst t; clear_value t])
    | (extract_lets +onlyGivenNames x; first | clear_value x | subst x)
    | (with_reducible apply State.Keeps.ite <;> intro _)
    | (with_reducible apply State.Keeps.step (State.dropHold_keeps ..); on_goal 1 => decide)
    | (with_reducible apply State.Keeps.step (State.result_keeps ..); on_goal 1 => decide)
    | (with_reducible apply State.Keeps.step (State.toDormer_keeps ..); on_goal 1 => decide)
    | (with_reducible apply State.Keeps.step (State.fallBack_keeps ..); on_goal 1 => decide)
    | (with_reducible apply State.Keeps.step (State.put_keeps ..); on_goal 1 => decide)
    | (with_reducible apply State.Keeps.step (State.logFault_keeps ..); on_goal 1 => decide)
    | (with_reducible apply State.Keeps.step (State.noteImage_keeps ..); on_goal 1 => decide)
    | (with_reducible apply State.Keeps.step (State.reloadImage_keeps ..); on_goal 1 => decide)

theorem State.ridgeBack_keeps (s : State) : s.Keeps (pRegs ||| pStaged ||| pFreeCtr ||| pHost ||| pRidge ||| pBat ||| pPorts ||| pSlices ||| pJtl ||| pSoffit ||| pRunning ||| pSlate ||| pTha ||| pUpd ||| pBoot) (State.ridgeBack s) := by
  unfold State.ridgeBack
  repeat' first
    | with_reducible assumption
    | with_reducible apply State.Keeps.refl
    | (extract_lets +onlyGivenNames t; (refine State.Keeps.cut (t := t) ?_ (fun _ => ?_)) <;> [subst t; clear_value t])
    | (extract_lets +onlyGivenNames x; first | clear_value x | subst x)
    | (with_reducible apply State.Keeps.ite <;> intro _)
    | split
    | (with_reducible apply State.Keeps.step (State.free_keeps ..); on_goal 1 => decide)
    | (with_reducible apply State.Keeps.step (State.free_keeps_of (by assumption)); on_goal 1 => decide)
    | (with_reducible apply State.Keeps.step (State.srSafe_keeps ..); on_goal 1 => decide)
    | (with_reducible apply State.Keeps.step (State.reloadActive_keeps ..); on_goal 1 => decide)
    | (with_reducible apply State.Keeps.step (State.returnRidge_keeps ..); on_goal 1 => decide)
    | (with_reducible apply State.Keeps.step (State.tryDir_keeps ..); on_goal 1 => decide)

end Sys2Proof.Machine
end

