-- ==== Sys2Proof/Laws/Cc.lean ====
section
/-!
SUPPORT. What the operations of Machine/Cc.lean may change, one lemma each.
-/

set_option linter.unusedTactic false
set_option linter.unreachableTactic false
set_option linter.tactic.unusedName false

namespace Sys2Proof.Machine

theorem State.freshPd_keeps (s : State) (n : Fin 16) : s.Keeps (pRegs ||| pPorts) (State.freshPd s n) := by
  unfold State.freshPd
  repeat' first
    | with_reducible assumption
    | with_reducible apply State.Keeps.refl
    | (with_reducible apply State.Keeps.step (State.freshRev_keeps ..); on_goal 1 => decide)
    | (with_reducible apply State.Keeps.step (State.modPd_keeps ..); on_goal 1 => decide)

theorem State.pdStart_keeps (s : State) (n : Fin 16) : s.Keeps (pRegs ||| pPorts) (State.pdStart s n) := by
  unfold State.pdStart
  repeat' first
    | with_reducible assumption
    | with_reducible apply State.Keeps.refl
    | (extract_lets +onlyGivenNames t; (refine State.Keeps.cut (t := t) ?_ (fun _ => ?_)) <;> [subst t; clear_value t])
    | (extract_lets +onlyGivenNames x; first | clear_value x | subst x)
    | (with_reducible apply State.Keeps.step (State.startRole_keeps ..); on_goal 1 => decide)
    | (with_reducible apply State.Keeps.step (State.setP_keeps ..); on_goal 1 => decide)
    | (with_reducible apply State.Keeps.step (State.freshPd_keeps ..); on_goal 1 => decide)

theorem State.attachSrc_keeps (s : State) (n : Fin 16) : s.Keeps (pRegs ||| pRidge ||| pBat ||| pPorts) (State.attachSrc s n) := by
  unfold State.attachSrc
  repeat' first
    | with_reducible assumption
    | with_reducible apply State.Keeps.refl
    | (extract_lets +onlyGivenNames t; (refine State.Keeps.cut (t := t) ?_ (fun _ => ?_)) <;> [subst t; clear_value t])
    | (extract_lets +onlyGivenNames x; first | clear_value x | subst x)
    | (with_reducible apply State.Keeps.step (State.modPort_keeps ..); on_goal 1 => decide)
    | (with_reducible apply State.Keeps.step (State.clear_keeps ..); on_goal 1 => decide)
    | (with_reducible apply State.Keeps.step (State.pdStart_keeps ..); on_goal 1 => decide)
    | (with_reducible apply State.Keeps.step (State.passOp_keeps ..); on_goal 1 => decide)
    | (with_reducible apply State.Keeps.step (State.vconnOn_keeps ..); on_goal 1 => decide)
    | (with_reducible apply State.Keeps.step (State.firePort_keeps ..); on_goal 1 => decide)
    | (with_reducible apply State.Keeps.step (State.flag_keeps ..); on_goal 1 => decide)
    | (with_reducible apply State.Keeps.step (State.setCc_keeps ..); on_goal 1 => decide)
    | (with_reducible apply State.Keeps.step (State.wrapInc_keeps ..); on_goal 1 => decide)

theorem State.tryAttachSrc_keeps (s : State) (n : Fin 16) : s.Keeps (pRegs ||| pRidge ||| pBat ||| pPorts) (State.tryAttachSrc s n) := by
  unfold State.tryAttachSrc
  repeat' first
    | with_reducible assumption
    | with_reducible apply State.Keeps.refl
    | (with_reducible apply State.Keeps.ite <;> intro _)
    | (with_reducible apply State.Keeps.step (State.firePort_keeps ..); on_goal 1 => decide)
    | (with_reducible apply State.Keeps.step (State.raise_keeps ..); on_goal 1 => decide)
    | (with_reducible apply State.Keeps.step (State.attachSrc_keeps ..); on_goal 1 => decide)

theorem State.ccTrip_keeps (s : State) (n : Fin 16) (pin : Fin 2) : s.Keeps (pRegs ||| pFreeCtr ||| pRidge ||| pBat ||| pPorts ||| pSlices ||| pJtl ||| pBoot) (State.ccTrip s n pin) := by
  unfold State.ccTrip
  repeat' first
    | with_reducible assumption
    | with_reducible apply State.Keeps.refl
    | (extract_lets +onlyGivenNames t; (refine State.Keeps.cut (t := t) ?_ (fun _ => ?_)) <;> [subst t; clear_value t])
    | (extract_lets +onlyGivenNames x; first | clear_value x | subst x)
    | (with_reducible apply State.Keeps.ite <;> intro _)
    | (with_reducible apply State.Keeps.step (State.modPort_keeps ..); on_goal 1 => decide)
    | (with_reducible apply State.Keeps.step (State.errRec_keeps ..); on_goal 1 => decide)
    | (with_reducible apply State.Keeps.step (State.eaveTrip_keeps ..); on_goal 1 => decide)
    | (with_reducible apply State.Keeps.step (State.clear_keeps ..); on_goal 1 => decide)
    | (with_reducible apply State.Keeps.step (State.satInc_keeps ..); on_goal 1 => decide)
    | (with_reducible apply State.Keeps.step (State.tallyLatch_keeps ..); on_goal 1 => decide)
    | (with_reducible apply State.Keeps.step (State.level_keeps ..); on_goal 1 => decide)
    | (with_reducible apply State.Keeps.step (State.driveRd_keeps ..); on_goal 1 => decide)
    | (with_reducible apply State.Keeps.step (State.put_keeps ..); on_goal 1 => decide)
    | (with_reducible apply State.Keeps.step (State.vconnOff_keeps ..); on_goal 1 => decide)

theorem State.afterCableLoss_keeps (s : State) (n : Fin 16) : s.Keeps (pRegs ||| pFreeCtr ||| pRidge ||| pBat ||| pPorts ||| pSlices ||| pJtl ||| pBoot) (State.afterCableLoss s n) := by
  unfold State.afterCableLoss
  repeat' first
    | with_reducible assumption
    | with_reducible apply State.Keeps.refl
    | (with_reducible apply State.Keeps.ite <;> intro _)
    | (with_reducible apply State.Keeps.step (State.hardReset_keeps ..); on_goal 1 => decide)
    | (with_reducible apply State.Keeps.step (State.eprLost_keeps ..); on_goal 1 => decide)

theorem State.eprResume_keeps (s : State) (n : Fin 16) : s.Keeps (pRegs ||| pFreeCtr ||| pRidge ||| pBat ||| pPorts ||| pSlices ||| pJtl ||| pBoot) (State.eprResume s n) := by
  unfold State.eprResume
  repeat' first
    | with_reducible assumption
    | with_reducible apply State.Keeps.refl
    | (with_reducible apply State.Keeps.ite <;> intro _)
    | (with_reducible apply State.Keeps.step (State.eprDecide_keeps ..); on_goal 1 => decide)

theorem State.discOver_keeps (s : State) (n : Fin 16) : s.Keeps (pRegs ||| pFreeCtr ||| pRidge ||| pBat ||| pPorts ||| pSlices ||| pJtl ||| pBoot) (State.discOver s n) := by
  unfold State.discOver
  repeat' first
    | with_reducible assumption
    | with_reducible apply State.Keeps.refl
    | (with_reducible apply State.Keeps.step (State.modPd_keeps ..); on_goal 1 => decide)
    | (with_reducible apply State.Keeps.step (State.afterDisc_keeps ..); on_goal 1 => decide)
    | (with_reducible apply State.Keeps.step (State.eprResume_keeps ..); on_goal 1 => decide)

theorem State.discover_keeps (s : State) (n : Fin 16) : s.Keeps (pRegs ||| pPorts) (State.discover s n) := by
  unfold State.discover
  repeat' first
    | with_reducible assumption
    | with_reducible apply State.Keeps.refl
    | (with_reducible apply State.Keeps.step (State.modPd_keeps ..); on_goal 1 => decide)
    | (with_reducible apply State.Keeps.step (State.put_keeps ..); on_goal 1 => decide)
    | (with_reducible apply State.Keeps.step (State.send_keeps ..); on_goal 1 => decide)

theorem State.farAttempt_keeps (s : State) (n : Fin 16) : s.Keeps pPorts (State.farAttempt s n) := by
  unfold State.farAttempt
  repeat' first
    | with_reducible assumption
    | with_reducible apply State.Keeps.refl
    | (with_reducible apply State.Keeps.step (State.modPd_keeps ..); on_goal 1 => decide)
    | (with_reducible apply State.Keeps.step (State.send_keeps ..); on_goal 1 => decide)

theorem State.cableRecord_keeps (s : State) (n : Fin 16) (idHdr : Word) (vdo : Word) : s.Keeps (pRegs ||| pStaged ||| pRidge ||| pPorts) (State.cableRecord s n idHdr vdo) := by
  unfold State.cableRecord
  repeat' first
    | with_reducible assumption
    | with_reducible apply State.Keeps.refl
    | (extract_lets +onlyGivenNames t; (refine State.Keeps.cut (t := t) ?_ (fun _ => ?_)) <;> [subst t; clear_value t])
    | (extract_lets +onlyGivenNames x; first | clear_value x | subst x)
    | (with_reducible apply State.Keeps.ite <;> intro _)
    | (with_reducible apply State.Keeps.step (State.takeStaged_keeps ..); on_goal 1 => decide)
    | (with_reducible apply State.Keeps.step (State.vconnReserve_keeps ..); on_goal 1 => decide)
    | (with_reducible apply State.Keeps.step (State.modPd_keeps ..); on_goal 1 => decide)
    | (with_reducible apply State.Keeps.step (State.wr_keeps ..); on_goal 1 => decide)
    | (with_reducible apply State.Keeps.step (State.cableUnknown_keeps ..); on_goal 1 => decide)
    | (with_reducible apply State.Keeps.step (State.raise_keeps ..); on_goal 1 => decide)
    | (with_reducible apply State.Keeps.step (State.put_keeps ..); on_goal 1 => decide)
    | (with_reducible apply State.Keeps.step (State.flag_keeps ..); on_goal 1 => decide)
    | (with_reducible apply State.Keeps.step (State.vconnRoom_keeps ..); on_goal 1 => decide)
    | (with_reducible apply State.Keeps.step (State.vconnRefuse_keeps ..); on_goal 1 => decide)

theorem State.discovered_keeps (s : State) (n : Fin 16) : s.Keeps (pRegs ||| pFreeCtr ||| pRidge ||| pBat ||| pPorts ||| pSlices ||| pJtl ||| pBoot) (State.discovered s n) := by
  unfold State.discovered
  repeat' first
    | with_reducible assumption
    | with_reducible apply State.Keeps.refl
    | (extract_lets +onlyGivenNames t; (refine State.Keeps.cut (t := t) ?_ (fun _ => ?_)) <;> [subst t; clear_value t])
    | (extract_lets +onlyGivenNames x; first | clear_value x | subst x)
    | (with_reducible apply State.Keeps.ite <;> intro _)
    | (with_reducible apply State.Keeps.step (State.afterDisc_keeps ..); on_goal 1 => decide)
    | (with_reducible apply State.Keeps.step (State.farAttempt_keeps ..); on_goal 1 => decide)
    | (with_reducible apply State.Keeps.step (State.eprResume_keeps ..); on_goal 1 => decide)
    | (with_reducible apply State.Keeps.step (State.wantOffer_keeps ..); on_goal 1 => decide)

theorem State.setDisable_keeps (s : State) (n : Fin 16) (d : Bool) : s.Keeps (pRegs ||| pStaged ||| pFreeCtr ||| pRidge ||| pBat ||| pPorts ||| pSlices ||| pJtl ||| pBoot) (State.setDisable s n d) := by
  unfold State.setDisable
  repeat' first
    | with_reducible assumption
    | with_reducible apply State.Keeps.refl
    | (extract_lets +onlyGivenNames t; (refine State.Keeps.cut (t := t) ?_ (fun _ => ?_)) <;> [subst t; clear_value t])
    | (extract_lets +onlyGivenNames x; first | clear_value x | subst x)
    | (with_reducible apply State.Keeps.ite <;> intro _)
    | (with_reducible apply State.Keeps.step (State.errRec_keeps ..); on_goal 1 => decide)
    | (with_reducible apply State.Keeps.step (State.enterDisabled_keeps ..); on_goal 1 => decide)
    | (with_reducible apply State.Keeps.step (State.flag_keeps ..); on_goal 1 => decide)
    | (with_reducible apply State.Keeps.step (State.leaveDisabled_keeps ..); on_goal 1 => decide)

theorem State.redisc_keeps (s : State) (n : Fin 16) : s.Keeps (pRegs ||| pPorts) (State.redisc s n).1 := by
  unfold State.redisc
  repeat' first
    | with_reducible assumption
    | with_reducible apply State.Keeps.refl
    | (extract_lets +onlyGivenNames t; (refine State.Keeps.cut (t := t) ?_ (fun _ => ?_)) <;> [subst t; clear_value t])
    | (extract_lets +onlyGivenNames x; first | clear_value x | subst x)
    | split
    | (with_reducible apply State.Keeps.step (State.clearCable_keeps ..); on_goal 1 => decide)
    | (with_reducible apply State.Keeps.step (State.modPd_keeps ..); on_goal 1 => decide)
    | (with_reducible apply State.Keeps.step (State.put_keeps ..); on_goal 1 => decide)
    | (with_reducible apply State.Keeps.step (State.flag_keeps ..); on_goal 1 => decide)
    | (with_reducible apply State.Keeps.step (State.discover_keeps ..); on_goal 1 => decide)

theorem State.redisc_keeps_of {s : State} {n : Fin 16} {u : State} {x₁ : Nat} (h : State.redisc s n = (u, x₁)) : s.Keeps (pRegs ||| pPorts) u := by
  have := State.redisc_keeps s n
  rwa [h] at this

end Sys2Proof.Machine
end

