-- ==== Sys2Proof/Laws/Clock.lean ====
section
/-!
SUPPORT. What the operations of Machine/Clock.lean may change, one lemma each.
-/

set_option linter.unusedTactic false
set_option linter.unreachableTactic false
set_option linter.tactic.unusedName false

namespace Sys2Proof.Machine

theorem State.loseLent_keeps (s : State) (n : Fin 16) : s.Keeps (pRegs ||| pStaged ||| pSlices) (State.loseLent s n) := by
  unfold State.loseLent
  repeat' first
    | with_reducible assumption
    | with_reducible apply State.Keeps.refl
    | (with_reducible apply State.Keeps.ite <;> intro _)
    | (with_reducible apply State.Keeps.step (State.disableNow_keeps ..); on_goal 1 => decide)
    | (with_reducible apply State.Keeps.step (State.dropRegs_keeps ..); on_goal 1 => decide)
    | with_reducible apply State.Keeps.foldl
    | (intro _; intros; beta_reduce)

theorem State.loseIsland_keeps (s : State) (isl : Nat) (sub : Bool) : s.Keeps (pRegs ||| pStaged ||| pHost ||| pRidge ||| pBat ||| pPorts ||| pSlices ||| pJtl ||| pSoffit ||| pOtp ||| pRunning ||| pMtr ||| pSlate ||| pTha ||| pUpd ||| pBoot ||| pJtag) (State.loseIsland s isl sub) := by
  unfold State.loseIsland
  repeat' first
    | with_reducible assumption
    | with_reducible apply State.Keeps.refl
    | (with_reducible apply State.Keeps.ite <;> intro _)
    | split
    | (with_reducible apply State.Keeps.step (State.loseRidge_keeps ..); on_goal 1 => decide)
    | (with_reducible apply State.Keeps.step (State.wr_keeps ..); on_goal 1 => decide)
    | (with_reducible apply State.Keeps.step (State.losePort_keeps ..); on_goal 1 => decide)
    | (with_reducible apply State.Keeps.step (State.loseJotil_keeps ..); on_goal 1 => decide)
    | (with_reducible apply State.Keeps.step (State.loseHost_keeps ..); on_goal 1 => decide)
    | (with_reducible apply State.Keeps.step (State.loseBatten_keeps ..); on_goal 1 => decide)
    | (with_reducible apply State.Keeps.step (State.loseLent_keeps ..); on_goal 1 => decide)
    | (with_reducible apply State.Keeps.step (State.powerOn_keeps ..); on_goal 1 => decide)
    | (with_reducible apply State.Keeps.with_jtag; on_goal 1 => decide)

theorem State.returnIsland_keeps (s : State) (isl : Nat) : s.Keeps (pRegs ||| pStaged ||| pFreeCtr ||| pHost ||| pRidge ||| pBat ||| pPorts ||| pSlices ||| pJtl ||| pSoffit ||| pRunning ||| pSlate ||| pTha ||| pUpd ||| pBoot) (State.returnIsland s isl) := by
  unfold State.returnIsland
  repeat' first
    | with_reducible assumption
    | with_reducible apply State.Keeps.refl
    | (extract_lets +onlyGivenNames t; (refine State.Keeps.cut (t := t) ?_ (fun _ => ?_)) <;> [subst t; clear_value t])
    | (extract_lets +onlyGivenNames x; first | clear_value x | subst x)
    | (with_reducible apply State.Keeps.ite <;> intro _)
    | split
    | (with_reducible apply State.Keeps.step (State.errRec_keeps ..); on_goal 1 => decide)
    | (with_reducible apply State.Keeps.step (State.ridgeBack_keeps ..); on_goal 1 => decide)
    | (with_reducible apply State.Keeps.step (State.releasePort_keeps ..); on_goal 1 => decide)
    | (with_reducible apply State.Keeps.step (State.serviceUp_keeps ..); on_goal 1 => decide)
    | (with_reducible apply State.Keeps.step (State.maskBit_keeps ..); on_goal 1 => decide)
    | (with_reducible apply State.Keeps.step (State.srSafe_keeps ..); on_goal 1 => decide)
    | (with_reducible apply State.Keeps.step (State.startElection_keeps ..); on_goal 1 => decide)
    | (with_reducible apply State.Keeps.step (State.returnBatten_keeps ..); on_goal 1 => decide)
    | (with_reducible apply State.Keeps.step (State.hostBack_keeps ..); on_goal 1 => decide)
    | (with_reducible apply State.Keeps.step (State.loadJotil_keeps ..); on_goal 1 => decide)

theorem State.haltIsland_keeps (s : State) (isl : Nat) : s.Keeps (pRegs ||| pFreeCtr ||| pRidge ||| pBat ||| pPorts ||| pSlices ||| pJtl ||| pBoot) (State.haltIsland s isl) := by
  unfold State.haltIsland
  repeat' first
    | with_reducible assumption
    | with_reducible apply State.Keeps.refl
    | (extract_lets +onlyGivenNames t; (refine State.Keeps.cut (t := t) ?_ (fun _ => ?_)) <;> [subst t; clear_value t])
    | (extract_lets +onlyGivenNames x; first | clear_value x | subst x)
    | (with_reducible apply State.Keeps.ite <;> intro _)
    | split
    | (with_reducible apply State.Keeps.step (State.eaveTrip_keeps ..); on_goal 1 => decide)
    | (with_reducible apply State.Keeps.step (State.maskBit_keeps ..); on_goal 1 => decide)
    | (with_reducible apply State.Keeps.step (State.raise_keeps ..); on_goal 1 => decide)
    | (with_reducible apply State.Keeps.step (State.enterBrace_keeps ..); on_goal 1 => decide)
    | (with_reducible apply State.Keeps.step (State.modBoot_keeps ..); on_goal 1 => decide)
    | with_reducible apply State.Keeps.foldl
    | (intro _; intros; beta_reduce)

theorem State.resumeIsland_keeps (s : State) (isl : Nat) : s.Keeps (pRegs ||| pFreeCtr ||| pRidge ||| pBat ||| pPorts ||| pSlices ||| pJtl ||| pBoot) (State.resumeIsland s isl) := by
  unfold State.resumeIsland
  repeat' first
    | with_reducible assumption
    | with_reducible apply State.Keeps.refl
    | (extract_lets +onlyGivenNames t; (refine State.Keeps.cut (t := t) ?_ (fun _ => ?_)) <;> [subst t; clear_value t])
    | (extract_lets +onlyGivenNames x; first | clear_value x | subst x)
    | (with_reducible apply State.Keeps.ite <;> intro _)
    | split
    | (with_reducible apply State.Keeps.step (State.modPort_keeps ..); on_goal 1 => decide)
    | (with_reducible apply State.Keeps.step (State.fire_keeps ..); on_goal 1 => decide)
    | (with_reducible apply State.Keeps.step (State.tripPath_keeps ..); on_goal 1 => decide)
    | (with_reducible apply State.Keeps.step (State.clear_keeps ..); on_goal 1 => decide)
    | (with_reducible apply State.Keeps.step (State.leaveBrace_keeps ..); on_goal 1 => decide)
    | (with_reducible apply State.Keeps.step (State.disableNow_keeps ..); on_goal 1 => decide)
    | (with_reducible apply State.Keeps.step (State.maskBit_keeps ..); on_goal 1 => decide)
    | (with_reducible apply State.Keeps.step (State.stageFault_keeps ..); on_goal 1 => decide)
    | (with_reducible apply State.Keeps.step (State.modBoot_keeps ..); on_goal 1 => decide)
    | (with_reducible apply State.Keeps.step (State.goErrRec_keeps ..); on_goal 1 => decide)
    | with_reducible apply State.Keeps.foldl
    | (intro _; intros; beta_reduce)

theorem State.haltDue_keeps (s : State) (isl : Nat) : s.Keeps (pRegs ||| pFreeCtr ||| pRidge ||| pBat ||| pPorts ||| pSlices ||| pJtl ||| pBoot) (State.haltDue s isl) := by
  unfold State.haltDue
  repeat' first
    | with_reducible assumption
    | with_reducible apply State.Keeps.refl
    | (with_reducible apply State.Keeps.ite <;> intro _)
    | (with_reducible apply State.Keeps.step (State.haltIsland_keeps ..); on_goal 1 => decide)
    | (with_reducible apply State.Keeps.step (State.modBoot_keeps ..); on_goal 1 => decide)

theorem State.selectIr_keeps (s : State) (code : Nat) (level : Nat) : s.Keeps pJtag (State.selectIr s code level) := by
  unfold State.selectIr
  repeat' first
    | with_reducible assumption
    | with_reducible apply State.Keeps.refl
    | (with_reducible apply State.Keeps.ite <;> intro _)
    | (with_reducible apply State.Keeps.with_jtag; on_goal 1 => decide)

end Sys2Proof.Machine
end

