-- ==== Sys2Proof/Laws/Jotil.lean ====
section
/-!
SUPPORT. What the operations of Machine/Jotil.lean may change, one lemma each.
-/

set_option linter.unusedTactic false
set_option linter.unreachableTactic false
set_option linter.tactic.unusedName false

namespace Sys2Proof.Machine

theorem State.showLink_keeps (s : State) (p : Fin 2) (up : Bool) : s.Keeps pRegs (State.showLink s p up) := by
  unfold State.showLink
  repeat' first
    | with_reducible assumption
    | with_reducible apply State.Keeps.refl
    | (with_reducible apply State.Keeps.ite <;> intro _)
    | (with_reducible apply State.Keeps.step (State.flag_keeps ..); on_goal 1 => decide)

theorem State.setLockPort_keeps (s : State) (p : Nat) : s.Keeps pRegs (State.setLockPort s p) := by
  unfold State.setLockPort
  repeat' first
    | with_reducible assumption
    | with_reducible apply State.Keeps.refl
    | (with_reducible apply State.Keeps.step (State.put_keeps ..); on_goal 1 => decide)
    | (with_reducible apply State.Keeps.step (State.flag_keeps ..); on_goal 1 => decide)

theorem State.adoptClaim_keeps (s : State) (c : Claim) (ports : Nat) : s.Keeps pJtl (State.adoptClaim s c ports) := by
  unfold State.adoptClaim
  repeat' first
    | with_reducible assumption
    | with_reducible apply State.Keeps.refl
    | (with_reducible apply State.Keeps.ite <;> intro _)
    | split
    | (with_reducible apply State.Keeps.step (State.modJtl_keeps ..); on_goal 1 => decide)
    | (with_reducible apply State.Keeps.step (State.sendF_keeps ..); on_goal 1 => decide)

theorem State.regainPhases_keeps (s : State) : s.Keeps (pRegs ||| pFreeCtr ||| pSlices) (State.regainPhases s) := by
  unfold State.regainPhases
  repeat' first
    | with_reducible assumption
    | with_reducible apply State.Keeps.refl
    | (with_reducible apply State.Keeps.ite <;> intro _)
    | split
    | (with_reducible apply State.Keeps.step (State.free_keeps ..); on_goal 1 => decide)
    | (with_reducible apply State.Keeps.step (State.free_keeps_of (by assumption)); on_goal 1 => decide)
    | (with_reducible apply State.Keeps.step (State.modSlice_keeps ..); on_goal 1 => decide)
    | (with_reducible apply State.Keeps.step (State.aimPhase_keeps ..); on_goal 1 => decide)
    | with_reducible apply State.Keeps.foldl
    | (intro _; intros; beta_reduce)

theorem State.relock_keeps (s : State) : s.Keeps (pRegs ||| pFreeCtr ||| pSlices) (State.relock s) := by
  unfold State.relock
  repeat' first
    | with_reducible assumption
    | with_reducible apply State.Keeps.refl
    | (extract_lets +onlyGivenNames t; (refine State.Keeps.cut (t := t) ?_ (fun _ => ?_)) <;> [subst t; clear_value t])
    | (extract_lets +onlyGivenNames x; first | clear_value x | subst x)
    | (with_reducible apply State.Keeps.ite <;> intro _)
    | (with_reducible apply State.Keeps.step (State.clear_keeps ..); on_goal 1 => decide)
    | (with_reducible apply State.Keeps.step (State.raise_keeps ..); on_goal 1 => decide)
    | (with_reducible apply State.Keeps.step (State.regainPhases_keeps ..); on_goal 1 => decide)
    | (with_reducible apply State.Keeps.step (State.leaveTick_keeps ..); on_goal 1 => decide)

theorem State.leaderIndex_keeps (s : State) : s.Keeps (pRegs ||| pFreeCtr ||| pRidge ||| pBat ||| pPorts ||| pSlices ||| pJtl) (State.leaderIndex s) := by
  unfold State.leaderIndex
  repeat' first
    | with_reducible assumption
    | with_reducible apply State.Keeps.refl
    | (extract_lets +onlyGivenNames t; (refine State.Keeps.cut (t := t) ?_ (fun _ => ?_)) <;> [subst t; clear_value t])
    | (extract_lets +onlyGivenNames x; first | clear_value x | subst x)
    | (with_reducible apply State.Keeps.ite <;> intro _)
    | (with_reducible apply State.Keeps.step (State.modJtl_keeps ..); on_goal 1 => decide)
    | (with_reducible apply State.Keeps.step (State.sendIndex_keeps ..); on_goal 1 => decide)
    | (with_reducible apply State.Keeps.step (State.countFreeze_keeps ..); on_goal 1 => decide)
    | (with_reducible apply State.Keeps.step (State.announceSweep_keeps ..); on_goal 1 => decide)
    | (with_reducible apply State.Keeps.step (State.publishShares_keeps ..); on_goal 1 => decide)
    | (with_reducible apply State.Keeps.step (State.put_keeps ..); on_goal 1 => decide)
    | (with_reducible apply State.Keeps.step (State.flag_keeps ..); on_goal 1 => decide)
    | (with_reducible apply State.Keeps.step (State.atIndex_keeps ..); on_goal 1 => decide)
    | (with_reducible apply State.Keeps.step (State.takeDemand_keeps ..); on_goal 1 => decide)
    | (with_reducible apply State.Keeps.step (State.checkDemands_keeps ..); on_goal 1 => decide)
    | (with_reducible apply State.Keeps.step (State.publishPhases_keeps ..); on_goal 1 => decide)
    | (with_reducible apply State.Keeps.step (State.assignNodes_keeps ..); on_goal 1 => decide)
    | (with_reducible apply State.Keeps.step (State.relock_keeps ..); on_goal 1 => decide)

theorem State.localIndex_keeps (s : State) : s.Keeps (pRegs ||| pRidge ||| pBat ||| pPorts ||| pJtl) (State.localIndex s) := by
  unfold State.localIndex
  repeat' first
    | with_reducible assumption
    | with_reducible apply State.Keeps.refl
    | (with_reducible apply State.Keeps.step (State.modJtl_keeps ..); on_goal 1 => decide)
    | (with_reducible apply State.Keeps.step (State.countFreeze_keeps ..); on_goal 1 => decide)
    | (with_reducible apply State.Keeps.step (State.put_keeps ..); on_goal 1 => decide)

theorem State.tallySlip_keeps (s : State) : s.Keeps (pRegs ||| pBat ||| pSlices ||| pJtl) (State.tallySlip s) := by
  unfold State.tallySlip
  repeat' first
    | with_reducible assumption
    | with_reducible apply State.Keeps.refl
    | split
    | (with_reducible apply State.Keeps.step (State.fire_keeps ..); on_goal 1 => decide)
    | (with_reducible apply State.Keeps.step (State.modJtl_keeps ..); on_goal 1 => decide)
    | (with_reducible apply State.Keeps.step (State.tallyAdd_keeps ..); on_goal 1 => decide)
    | (with_reducible apply State.Keeps.step (State.tallyAdd_keeps_of (by assumption)); on_goal 1 => decide)
    | (with_reducible apply State.Keeps.step (State.setUnsync_keeps ..); on_goal 1 => decide)

theorem State.majorSlip_keeps (s : State) (offs : Nat) : s.Keeps (pRegs ||| pBat ||| pSlices ||| pJtl) (State.majorSlip s offs) := by
  unfold State.majorSlip
  repeat' first
    | with_reducible assumption
    | with_reducible apply State.Keeps.refl
    | (extract_lets +onlyGivenNames t; (refine State.Keeps.cut (t := t) ?_ (fun _ => ?_)) <;> [subst t; clear_value t])
    | (extract_lets +onlyGivenNames x; first | clear_value x | subst x)
    | (with_reducible apply State.Keeps.step (State.fire_keeps ..); on_goal 1 => decide)
    | (with_reducible apply State.Keeps.step (State.tallySlip_keeps ..); on_goal 1 => decide)
    | (with_reducible apply State.Keeps.step (State.modJtl_keeps ..); on_goal 1 => decide)
    | (with_reducible apply State.Keeps.step (State.clear_keeps ..); on_goal 1 => decide)
    | (with_reducible apply State.Keeps.step (State.satInc_keeps ..); on_goal 1 => decide)
    | (with_reducible apply State.Keeps.step (State.dropSlips_keeps ..); on_goal 1 => decide)
    | (with_reducible apply State.Keeps.step (State.raise_keeps ..); on_goal 1 => decide)
    | (with_reducible apply State.Keeps.step (State.put_keeps ..); on_goal 1 => decide)
    | (with_reducible apply State.Keeps.step (State.leaveTick_keeps ..); on_goal 1 => decide)

theorem State.minorSlip_keeps (s : State) (offs : Int) : s.Keeps (pRegs ||| pBat ||| pSlices ||| pJtl) (State.minorSlip s offs) := by
  unfold State.minorSlip
  repeat' first
    | with_reducible assumption
    | with_reducible apply State.Keeps.refl
    | (extract_lets +onlyGivenNames t; (refine State.Keeps.cut (t := t) ?_ (fun _ => ?_)) <;> [subst t; clear_value t])
    | (extract_lets +onlyGivenNames x; first | clear_value x | subst x)
    | (with_reducible apply State.Keeps.ite <;> intro _)
    | (with_reducible apply State.Keeps.step (State.fire_keeps ..); on_goal 1 => decide)
    | (with_reducible apply State.Keeps.step (State.modJtl_keeps ..); on_goal 1 => decide)
    | (with_reducible apply State.Keeps.step (State.satInc_keeps ..); on_goal 1 => decide)
    | (with_reducible apply State.Keeps.step (State.slipLeads_keeps ..); on_goal 1 => decide)
    | (with_reducible apply State.Keeps.step (State.put_keeps ..); on_goal 1 => decide)

theorem State.goodIndex_keeps (s : State) : s.Keeps (pRegs ||| pFreeCtr ||| pSlices ||| pJtl) (State.goodIndex s) := by
  unfold State.goodIndex
  repeat' first
    | with_reducible assumption
    | with_reducible apply State.Keeps.refl
    | (extract_lets +onlyGivenNames t; (refine State.Keeps.cut (t := t) ?_ (fun _ => ?_)) <;> [subst t; clear_value t])
    | (extract_lets +onlyGivenNames x; first | clear_value x | subst x)
    | (with_reducible apply State.Keeps.ite <;> intro _)
    | (with_reducible apply State.Keeps.step (State.modJtl_keeps ..); on_goal 1 => decide)
    | (with_reducible apply State.Keeps.step (State.clear_keeps ..); on_goal 1 => decide)
    | (with_reducible apply State.Keeps.step (State.relock_keeps ..); on_goal 1 => decide)

theorem State.countIndex_keeps (s : State) (c : Nat) : s.Keeps (pRegs ||| pFreeCtr ||| pBat ||| pSlices ||| pJtl) (State.countIndex s c) := by
  unfold State.countIndex
  repeat' first
    | with_reducible assumption
    | with_reducible apply State.Keeps.refl
    | (with_reducible apply State.Keeps.ite <;> intro _)
    | (with_reducible apply State.Keeps.step (State.modJtl_keeps ..); on_goal 1 => decide)
    | (with_reducible apply State.Keeps.step (State.goodIndex_keeps ..); on_goal 1 => decide)
    | (with_reducible apply State.Keeps.step (State.majorSlip_keeps ..); on_goal 1 => decide)
    | (with_reducible apply State.Keeps.step (State.minorSlip_keeps ..); on_goal 1 => decide)

theorem State.followFreeze_keeps (s : State) (rem : Nat) : s.Keeps (pRegs ||| pRidge ||| pBat ||| pPorts ||| pJtl) (State.followFreeze s rem) := by
  unfold State.followFreeze
  repeat' first
    | with_reducible assumption
    | with_reducible apply State.Keeps.refl
    | (with_reducible apply State.Keeps.ite <;> intro _)
    | split
    | (with_reducible apply State.Keeps.step (State.modJtl_keeps ..); on_goal 1 => decide)
    | (with_reducible apply State.Keeps.step (State.startFreeze_keeps ..); on_goal 1 => decide)
    | (with_reducible apply State.Keeps.step (State.endFreeze_keeps ..); on_goal 1 => decide)

theorem State.copyIndex_keeps (s : State) (x : IndexInfo) : s.Keeps (pRegs ||| pSlices ||| pJtl) (State.copyIndex s x) := by
  unfold State.copyIndex
  repeat' first
    | with_reducible assumption
    | with_reducible apply State.Keeps.refl
    | (extract_lets +onlyGivenNames t; (refine State.Keeps.cut (t := t) ?_ (fun _ => ?_)) <;> [subst t; clear_value t])
    | (extract_lets +onlyGivenNames x; first | clear_value x | subst x)
    | (with_reducible apply State.Keeps.ite <;> intro _)
    | (with_reducible apply State.Keeps.step (State.modJtl_keeps ..); on_goal 1 => decide)
    | (with_reducible apply State.Keeps.step (State.setUnsync_keeps ..); on_goal 1 => decide)
    | (with_reducible apply State.Keeps.step (State.put_keeps ..); on_goal 1 => decide)
    | (with_reducible apply State.Keeps.step (State.flag_keeps ..); on_goal 1 => decide)
    | (with_reducible apply State.Keeps.step (State.unlock_keeps ..); on_goal 1 => decide)

theorem State.memberFrames_keeps (s : State) : s.Keeps pJtl (State.memberFrames s) := by
  unfold State.memberFrames
  repeat' first
    | with_reducible assumption
    | with_reducible apply State.Keeps.refl
    | (extract_lets +onlyGivenNames t; (refine State.Keeps.cut (t := t) ?_ (fun _ => ?_)) <;> [subst t; clear_value t])
    | (extract_lets +onlyGivenNames x; first | clear_value x | subst x)
    | (with_reducible apply State.Keeps.ite <;> intro _)
    | (with_reducible apply State.Keeps.step (State.sendMember_keeps ..); on_goal 1 => decide)
    | (with_reducible apply State.Keeps.step (State.takeDemand_keeps ..); on_goal 1 => decide)
    | (with_reducible apply State.Keeps.step (State.sendDemand_keeps ..); on_goal 1 => decide)
    | (with_reducible apply State.Keeps.step (State.sendF_keeps ..); on_goal 1 => decide)

theorem State.wholeAgain_keeps (s : State) (members : Nat) : s.Keeps pRegs (State.wholeAgain s members) := by
  unfold State.wholeAgain
  repeat' first
    | with_reducible assumption
    | with_reducible apply State.Keeps.refl
    | (with_reducible apply State.Keeps.ite <;> intro _)
    | (with_reducible apply State.Keeps.step (State.clear_keeps ..); on_goal 1 => decide)

theorem State.seeHops_keeps (s : State) (p : Fin 2) (hops : Nat) : s.Keeps (pRegs ||| pJtl) (State.seeHops s p hops) := by
  unfold State.seeHops
  repeat' first
    | with_reducible assumption
    | with_reducible apply State.Keeps.refl
    | (extract_lets +onlyGivenNames t; (refine State.Keeps.cut (t := t) ?_ (fun _ => ?_)) <;> [subst t; clear_value t])
    | (extract_lets +onlyGivenNames x; first | clear_value x | subst x)
    | (with_reducible apply State.Keeps.ite <;> intro _)
    | split
    | (with_reducible apply State.Keeps.step (State.modJtl_keeps ..); on_goal 1 => decide)
    | (with_reducible apply State.Keeps.step (State.put_keeps ..); on_goal 1 => decide)
    | (with_reducible apply State.Keeps.step (State.flag_keeps ..); on_goal 1 => decide)
    | (with_reducible apply State.Keeps.step (State.setLockPort_keeps ..); on_goal 1 => decide)

theorem State.takeIndex_keeps (s : State) (x : IndexInfo) : s.Keeps (pRegs ||| pFreeCtr ||| pRidge ||| pBat ||| pPorts ||| pSlices ||| pJtl) (State.takeIndex s x) := by
  unfold State.takeIndex
  repeat' first
    | with_reducible assumption
    | with_reducible apply State.Keeps.refl
    | (extract_lets +onlyGivenNames t; (refine State.Keeps.cut (t := t) ?_ (fun _ => ?_)) <;> [subst t; clear_value t])
    | (extract_lets +onlyGivenNames x; first | clear_value x | subst x)
    | (with_reducible apply State.Keeps.ite <;> intro _)
    | split
    | (with_reducible apply State.Keeps.step (State.modJtl_keeps ..); on_goal 1 => decide)
    | (with_reducible apply State.Keeps.step (State.copyIndex_keeps ..); on_goal 1 => decide)
    | (with_reducible apply State.Keeps.step (State.countIndex_keeps ..); on_goal 1 => decide)
    | (with_reducible apply State.Keeps.step (State.put_keeps ..); on_goal 1 => decide)
    | (with_reducible apply State.Keeps.step (State.memberFrames_keeps ..); on_goal 1 => decide)
    | (with_reducible apply State.Keeps.step (State.atIndex_keeps ..); on_goal 1 => decide)
    | (with_reducible apply State.Keeps.step (State.followFreeze_keeps ..); on_goal 1 => decide)
    | (with_reducible apply State.Keeps.step (State.takeLeader_keeps ..); on_goal 1 => decide)
    | (with_reducible apply State.Keeps.step (State.wholeAgain_keeps ..); on_goal 1 => decide)

theorem State.jtlClear_keeps (s : State) : s.Keeps pRegs (State.jtlClear s) := by
  unfold State.jtlClear
  repeat' first
    | with_reducible assumption
    | with_reducible apply State.Keeps.refl
    | (extract_lets +onlyGivenNames t; (refine State.Keeps.cut (t := t) ?_ (fun _ => ?_)) <;> [subst t; clear_value t])
    | (extract_lets +onlyGivenNames x; first | clear_value x | subst x)
    | (with_reducible apply State.Keeps.step (State.clear_keeps ..); on_goal 1 => decide)
    | (with_reducible apply State.Keeps.step (State.wr_keeps ..); on_goal 1 => decide)
    | with_reducible apply State.Keeps.foldl
    | (intro _; intros; beta_reduce)

theorem State.jtlResync_keeps (s : State) : s.Keeps (pRegs ||| pSlices) (State.jtlResync s) := by
  unfold State.jtlResync
  repeat' first
    | with_reducible assumption
    | with_reducible apply State.Keeps.refl
    | (with_reducible apply State.Keeps.ite <;> intro _)
    | (with_reducible apply State.Keeps.step (State.setUnsync_keeps ..); on_goal 1 => decide)

theorem State.jtlResign_keeps (s : State) : s.Keeps (pRegs ||| pBat ||| pPorts ||| pJtl) (State.jtlResign s) := by
  unfold State.jtlResign
  repeat' first
    | with_reducible assumption
    | with_reducible apply State.Keeps.refl
    | (with_reducible apply State.Keeps.ite <;> intro _)
    | (with_reducible apply State.Keeps.step (State.startElection_keeps ..); on_goal 1 => decide)
    | (with_reducible apply State.Keeps.step (State.sendF_keeps ..); on_goal 1 => decide)

theorem State.jtlCmd_keeps (s : State) (v : Word) : s.Keeps (pRegs ||| pBat ||| pPorts ||| pSlices ||| pJtl) (State.jtlCmd s v) := by
  unfold State.jtlCmd
  repeat' first
    | with_reducible assumption
    | with_reducible apply State.Keeps.refl
    | (extract_lets +onlyGivenNames t; (refine State.Keeps.cut (t := t) ?_ (fun _ => ?_)) <;> [subst t; clear_value t])
    | (extract_lets +onlyGivenNames x; first | clear_value x | subst x)
    | (with_reducible apply State.Keeps.ite <;> intro _)
    | split
    | (with_reducible apply State.Keeps.step (State.jtlResign_keeps ..); on_goal 1 => decide)
    | (with_reducible apply State.Keeps.step (State.startSweep_keeps ..); on_goal 1 => decide)
    | (with_reducible apply State.Keeps.step (State.jtlResync_keeps ..); on_goal 1 => decide)
    | (with_reducible apply State.Keeps.step (State.jtlClear_keeps ..); on_goal 1 => decide)
    | (with_reducible apply State.Keeps.step (State.abortAndTell_keeps ..); on_goal 1 => decide)

theorem State.writeChainBudget_keeps (s : State) (watts : Nat) : s.Keeps (pRegs ||| pJtl) (State.writeChainBudget s watts) := by
  unfold State.writeChainBudget
  repeat' first
    | with_reducible assumption
    | with_reducible apply State.Keeps.refl
    | (extract_lets +onlyGivenNames t; (refine State.Keeps.cut (t := t) ?_ (fun _ => ?_)) <;> [subst t; clear_value t])
    | (extract_lets +onlyGivenNames x; first | clear_value x | subst x)
    | (with_reducible apply State.Keeps.ite <;> intro _)
    | (with_reducible apply State.Keeps.step (State.modJtl_keeps ..); on_goal 1 => decide)
    | (with_reducible apply State.Keeps.step (State.put_keeps ..); on_goal 1 => decide)
    | (with_reducible apply State.Keeps.step (State.sendF_keeps ..); on_goal 1 => decide)

theorem State.chainBrace_keeps (s : State) (on : Bool) : s.Keeps (pRegs ||| pJtl) (State.chainBrace s on) := by
  unfold State.chainBrace
  repeat' first
    | with_reducible assumption
    | with_reducible apply State.Keeps.refl
    | (extract_lets +onlyGivenNames t; (refine State.Keeps.cut (t := t) ?_ (fun _ => ?_)) <;> [subst t; clear_value t])
    | (extract_lets +onlyGivenNames x; first | clear_value x | subst x)
    | (with_reducible apply State.Keeps.ite <;> intro _)
    | (with_reducible apply State.Keeps.step (State.modJtl_keeps ..); on_goal 1 => decide)
    | (with_reducible apply State.Keeps.step (State.clear_keeps ..); on_goal 1 => decide)
    | (with_reducible apply State.Keeps.step (State.raise_keeps ..); on_goal 1 => decide)
    | (with_reducible apply State.Keeps.step (State.sendDemand_keeps ..); on_goal 1 => decide)

end Sys2Proof.Machine
end

