-- ==== Sys2Proof/Laws/Rafter.lean ====
section
/-!
SUPPORT. What the operations of Machine/Rafter.lean may change, one lemma each.
-/

set_option linter.unusedTactic false
set_option linter.unreachableTactic false
set_option linter.tactic.unusedName false

namespace Sys2Proof.Machine

theorem State.drawPeriod_keeps (s : State) (l : Fin 48) : s.Keeps (pRegs ||| pSlices) (State.drawPeriod s l).2 := by
  unfold State.drawPeriod
  extract_lets x t0 inl k held u
  have hu : s.Keeps (pRegs ||| pSlices) u := by
    apply State.Keeps.step (State.flag_keeps ..)
    · decide
    · exact (State.flag_keeps ..).mono (by decide)
  split
  rename_i t1 v h
  have hv : u.Keeps (pRegs ||| pSlices) v := by
    split at h <;> cases h
    · exact (State.modSlice_keeps ..).mono (by decide)
    · exact State.Keeps.refl _ _
  apply State.Keeps.step (State.flag_keeps ..)
  · decide
  apply State.Keeps.step (State.modSlice_keeps ..)
  · decide
  · exact hu.trans hv

theorem State.drawPeriod_keeps_of {s : State} {l : Fin 48} {u : State} {x₁ : Nat} (h : State.drawPeriod s l = (x₁, u)) : s.Keeps (pRegs ||| pSlices) u := by
  have := State.drawPeriod_keeps s l
  rwa [h] at this

theorem State.runLeg_keeps (s : State) (k : Fin 48) : s.Keeps (pRegs ||| pSlices) (State.runLeg s k) := by
  unfold State.runLeg
  repeat' first
    | with_reducible assumption
    | with_reducible apply State.Keeps.refl
    | (with_reducible apply State.Keeps.step (State.modSlice_keeps ..); on_goal 1 => decide)
    | (with_reducible apply State.Keeps.step (State.raise_keeps ..); on_goal 1 => decide)
    | (with_reducible apply State.Keeps.step (State.restartDt_keeps ..); on_goal 1 => decide)

theorem State.beginLegs_keeps (s : State) (n : Fin 16) : s.Keeps (pRegs ||| pSlices) (State.beginLegs s n) := by
  unfold State.beginLegs
  repeat' first
    | with_reducible assumption
    | with_reducible apply State.Keeps.refl
    | (with_reducible apply State.Keeps.ite <;> intro _)
    | (with_reducible apply State.Keeps.step (State.runLeg_keeps ..); on_goal 1 => decide)
    | with_reducible apply State.Keeps.foldl
    | (intro _; intros; beta_reduce)

theorem State.placeEdges_keeps (s : State) (k : Fin 48) (t : Nat) : s.Keeps (pRegs ||| pSlices) (State.placeEdges s k t) := by
  unfold State.placeEdges
  repeat' first
    | with_reducible assumption
    | with_reducible apply State.Keeps.refl
    | (extract_lets +onlyGivenNames t; (refine State.Keeps.cut (t := t) ?_ (fun _ => ?_)) <;> [subst t; clear_value t])
    | (extract_lets +onlyGivenNames x; first | clear_value x | subst x)
    | (with_reducible apply State.Keeps.ite <;> intro _)
    | (with_reducible apply State.Keeps.step (State.satInc_keeps ..); on_goal 1 => decide)
    | (with_reducible apply State.Keeps.step (State.showDt_keeps ..); on_goal 1 => decide)
    | (with_reducible apply State.Keeps.step (State.modSlice_keeps ..); on_goal 1 => decide)
    | (with_reducible apply State.Keeps.step (State.raise_keeps ..); on_goal 1 => decide)

theorem State.takeDuty_keeps (s : State) (k : Fin 48) (late : Bool) : s.Keeps (pRegs ||| pSlices) (State.takeDuty s k late) := by
  unfold State.takeDuty
  repeat' first
    | with_reducible assumption
    | with_reducible apply State.Keeps.refl
    | (extract_lets +onlyGivenNames t; (refine State.Keeps.cut (t := t) ?_ (fun _ => ?_)) <;> [subst t; clear_value t])
    | (extract_lets +onlyGivenNames x; first | clear_value x | subst x)
    | (with_reducible apply State.Keeps.ite <;> intro _)
    | (with_reducible apply State.Keeps.step (State.modSlice_keeps ..); on_goal 1 => decide)
    | (with_reducible apply State.Keeps.step (State.put_keeps ..); on_goal 1 => decide)

theorem State.updatePoint_keeps (s : State) (n : Fin 16) (l : Fin 48) (late : Nat) : s.Keeps (pRegs ||| pStaged ||| pPorts ||| pSlices) (State.updatePoint s n l late) := by
  unfold State.updatePoint
  repeat' first
    | with_reducible assumption
    | with_reducible apply State.Keeps.refl
    | (extract_lets +onlyGivenNames t; (refine State.Keeps.cut (t := t) ?_ (fun _ => ?_)) <;> [subst t; clear_value t])
    | (extract_lets +onlyGivenNames x; first | clear_value x | subst x)
    | (with_reducible apply State.Keeps.ite <;> intro _)
    | (with_reducible apply State.Keeps.step (State.rateFlags_keeps ..); on_goal 1 => decide)
    | (with_reducible apply State.Keeps.step (State.bankPoint_keeps ..); on_goal 1 => decide)
    | (with_reducible apply State.Keeps.step (State.takePoint_keeps ..); on_goal 1 => decide)

theorem State.flagPoint_keeps (s : State) (k : Fin 48) (pt : Nat) : s.Keeps pRegs (State.flagPoint s k pt) := by
  unfold State.flagPoint
  repeat' first
    | with_reducible assumption
    | with_reducible apply State.Keeps.refl
    | split
    | (with_reducible apply State.Keeps.step (State.wr_keeps ..); on_goal 1 => decide)

theorem State.swOutput_keeps (s : State) (n : Fin 16) (sw : Fin 2) (rising : Bool) (tx : Nat) : s.Keeps (pRegs ||| pBat ||| pSlices) (State.swOutput s n sw rising tx) := by
  unfold State.swOutput
  repeat' first
    | with_reducible assumption
    | with_reducible apply State.Keeps.refl
    | (extract_lets +onlyGivenNames t; (refine State.Keeps.cut (t := t) ?_ (fun _ => ?_)) <;> [subst t; clear_value t])
    | (extract_lets +onlyGivenNames x; first | clear_value x | subst x)
    | (with_reducible apply State.Keeps.ite <;> intro _)
    | (with_reducible apply State.Keeps.step (State.level_keeps ..); on_goal 1 => decide)
    | (with_reducible apply State.Keeps.step (State.modSlice_keeps ..); on_goal 1 => decide)
    | (with_reducible apply State.Keeps.step (State.put_keeps ..); on_goal 1 => decide)
    | with_reducible apply State.Keeps.foldl
    | (intro _; intros; beta_reduce)

theorem State.takeFront_keeps_of {s t : State} {n : Fin 16} {p : Op → Bool} (h : s.takeFront n p = some t) : s.Keeps pPorts t := by
  unfold State.takeFront at h
  split at h
  · cases h
  · split at h
    · cases h
      exact State.modPort_keeps ..
    · cases h

theorem State.disableSlice_keeps (s : State) (k : Fin 48) : s.Keeps (pRegs ||| pFreeCtr ||| pRidge ||| pBat ||| pPorts ||| pSlices ||| pJtl ||| pBoot) (State.disableSlice s k) := by
  unfold State.disableSlice
  repeat' first
    | with_reducible assumption
    | with_reducible apply State.Keeps.refl
    | (with_reducible apply State.Keeps.ite <;> intro _)
    | split
    | (with_reducible apply State.Keeps.step (State.firePort_keeps ..); on_goal 1 => decide)
    | (with_reducible apply State.Keeps.step (State.stageFault_keeps ..); on_goal 1 => decide)
    | (with_reducible apply State.Keeps.step (State.legsOff_keeps ..); on_goal 1 => decide)
    | (with_reducible apply State.Keeps.step (State.modRidge_keeps ..); on_goal 1 => decide)

end Sys2Proof.Machine
end

