-- ==== Sys2Proof/Laws/RegWrite.lean ====
section
/-!
SUPPORT. What the operations of Machine/RegWrite.lean may change, one lemma each.
-/

set_option linter.unusedTactic false
set_option linter.unreachableTactic false
set_option linter.tactic.unusedName false

namespace Sys2Proof.Machine

theorem okWord_keeps (s : State) : s.Keeps 0 (okWord s).1 := by
  unfold okWord
  repeat' first
    | with_reducible assumption
    | with_reducible apply State.Keeps.refl

theorem okWord_keeps_of {s : State} {u : State} {x₁ : Nat × Nat} (h : okWord s = (u, x₁)) : s.Keeps 0 u := by
  have := okWord_keeps s
  rwa [h] at this

theorem State.plainWrite_keeps (s : State) (a : Nat) (v : Word) : s.Keeps (pRegs ||| pStaged ||| pPorts) (State.plainWrite s a v) := by
  unfold State.plainWrite
  repeat' first
    | with_reducible assumption
    | with_reducible apply State.Keeps.refl
    | (extract_lets +onlyGivenNames t; (refine State.Keeps.cut (t := t) ?_ (fun _ => ?_)) <;> [subst t; clear_value t])
    | (extract_lets +onlyGivenNames x; first | clear_value x | subst x)
    | (with_reducible apply State.Keeps.ite <;> intro _)
    | split
    | (with_reducible apply State.Keeps.step (State.setReg_keeps ..); on_goal 1 => decide)
    | (with_reducible apply State.Keeps.step (State.wr_keeps ..); on_goal 1 => decide)

theorem State.glbWrite_keeps (s : State) (a : Nat) (v : Word) : s.Keeps (pRegs ||| pStaged ||| pFreeCtr ||| pHost ||| pRidge ||| pBat ||| pPorts ||| pSlices ||| pJtl ||| pSoffit ||| pOtp ||| pRunning ||| pSlate ||| pTha ||| pUpd ||| pBoot) (State.glbWrite s a v).1 := by
  unfold State.glbWrite
  repeat' first
    | with_reducible assumption
    | with_reducible apply State.Keeps.refl
    | split
    | (with_reducible apply State.Keeps.step (State.portGo_keeps ..); on_goal 1 => decide)
    | (with_reducible apply State.Keeps.step (okWord_keeps ..); on_goal 1 => decide)
    | (with_reducible apply State.Keeps.step (okWord_keeps_of (by assumption)); on_goal 1 => decide)
    | (with_reducible apply State.Keeps.step (State.resetCmd_keeps ..); on_goal 1 => decide)
    | (with_reducible apply State.Keeps.step (State.plainWrite_keeps ..); on_goal 1 => decide)

theorem State.glbWrite_keeps_of {s : State} {a : Nat} {v : Word} {u : State} {x₁ : Nat × Nat} (h : State.glbWrite s a v = (u, x₁)) : s.Keeps (pRegs ||| pStaged ||| pFreeCtr ||| pHost ||| pRidge ||| pBat ||| pPorts ||| pSlices ||| pJtl ||| pSoffit ||| pOtp ||| pRunning ||| pSlate ||| pTha ||| pUpd ||| pBoot) u := by
  have := State.glbWrite_keeps s a v
  rwa [h] at this

theorem State.sofWrite_keeps (s : State) (hp : HostPort) (a : Nat) (v : Word) : s.Keeps (pRegs ||| pStaged ||| pBat ||| pPorts ||| pMtr) (State.sofWrite s hp a v).1 := by
  unfold State.sofWrite
  repeat' first
    | with_reducible assumption
    | with_reducible apply State.Keeps.refl
    | (extract_lets +onlyGivenNames t; (refine State.Keeps.cut (t := t) ?_ (fun _ => ?_)) <;> [subst t; clear_value t])
    | (extract_lets +onlyGivenNames x; first | clear_value x | subst x)
    | split
    | (with_reducible apply State.Keeps.step (State.wake_keeps ..); on_goal 1 => decide)
    | (with_reducible apply State.Keeps.step (State.wr_keeps ..); on_goal 1 => decide)
    | (with_reducible apply State.Keeps.step (okWord_keeps ..); on_goal 1 => decide)
    | (with_reducible apply State.Keeps.step (okWord_keeps_of (by assumption)); on_goal 1 => decide)
    | (with_reducible apply State.Keeps.step (State.plainWrite_keeps ..); on_goal 1 => decide)
    | (with_reducible apply State.Keeps.step (State.put_keeps ..); on_goal 1 => decide)
    | (with_reducible apply State.Keeps.step (State.stageTime_keeps ..); on_goal 1 => decide)

theorem State.sofWrite_keeps_of {s : State} {hp : HostPort} {a : Nat} {v : Word} {u : State} {x₁ : Nat × Nat} (h : State.sofWrite s hp a v = (u, x₁)) : s.Keeps (pRegs ||| pStaged ||| pBat ||| pPorts ||| pMtr) u := by
  have := State.sofWrite_keeps s hp a v
  rwa [h] at this

theorem State.otpWrite_keeps (s : State) (a : Nat) (v : Word) : s.Keeps (pRegs ||| pStaged ||| pRidge ||| pBat ||| pPorts ||| pOtp) (State.otpWrite s a v).1 := by
  unfold State.otpWrite
  repeat' first
    | with_reducible assumption
    | with_reducible apply State.Keeps.refl
    | split
    | (with_reducible apply State.Keeps.step (State.setOverride_keeps ..); on_goal 1 => decide)
    | (with_reducible apply State.Keeps.step (okWord_keeps ..); on_goal 1 => decide)
    | (with_reducible apply State.Keeps.step (okWord_keeps_of (by assumption)); on_goal 1 => decide)
    | (with_reducible apply State.Keeps.step (State.plainWrite_keeps ..); on_goal 1 => decide)
    | (with_reducible apply State.Keeps.step (State.otpCmd_keeps ..); on_goal 1 => decide)

theorem State.otpWrite_keeps_of {s : State} {a : Nat} {v : Word} {u : State} {x₁ : Nat × Nat} (h : State.otpWrite s a v = (u, x₁)) : s.Keeps (pRegs ||| pStaged ||| pRidge ||| pBat ||| pPorts ||| pOtp) u := by
  have := State.otpWrite_keeps s a v
  rwa [h] at this

theorem State.clearRdg_keeps (s : State) : s.Keeps pRegs (State.clearRdg s) := by
  unfold State.clearRdg
  repeat' first
    | with_reducible assumption
    | with_reducible apply State.Keeps.refl
    | (with_reducible apply State.Keeps.step (State.wr_keeps ..); on_goal 1 => decide)

theorem State.askCancel_keeps (s : State) (tag : Nat) : s.Keeps pRidge (State.askCancel s tag) := by
  unfold State.askCancel
  repeat' first
    | with_reducible assumption
    | with_reducible apply State.Keeps.refl
    | (with_reducible apply State.Keeps.step (State.ask_keeps ..); on_goal 1 => decide)

theorem State.rdgWrite_keeps (s : State) (a : Nat) (v : Word) : s.Keeps (pRegs ||| pStaged ||| pRidge ||| pPorts) (State.rdgWrite s a v).1 := by
  unfold State.rdgWrite
  repeat' first
    | with_reducible assumption
    | with_reducible apply State.Keeps.refl
    | (extract_lets +onlyGivenNames t; (refine State.Keeps.cut (t := t) ?_ (fun _ => ?_)) <;> [subst t; clear_value t])
    | (extract_lets +onlyGivenNames x; first | clear_value x | subst x)
    | split
    | (with_reducible apply State.Keeps.step (State.askCancel_keeps ..); on_goal 1 => decide)
    | (with_reducible apply State.Keeps.step (State.clearRdg_keeps ..); on_goal 1 => decide)
    | (with_reducible apply State.Keeps.step (okWord_keeps ..); on_goal 1 => decide)
    | (with_reducible apply State.Keeps.step (okWord_keeps_of (by assumption)); on_goal 1 => decide)
    | (with_reducible apply State.Keeps.step (State.plainWrite_keeps ..); on_goal 1 => decide)

theorem State.rdgWrite_keeps_of {s : State} {a : Nat} {v : Word} {u : State} {x₁ : Nat × Nat} (h : State.rdgWrite s a v = (u, x₁)) : s.Keeps (pRegs ||| pStaged ||| pRidge ||| pPorts) u := by
  have := State.rdgWrite_keeps s a v
  rwa [h] at this

theorem State.takeBudget_keeps (s : State) (w : Nat) : s.Keeps (pRegs ||| pRidge) (State.takeBudget s w).1 := by
  unfold State.takeBudget
  repeat' first
    | with_reducible assumption
    | with_reducible apply State.Keeps.refl
    | split
    | (with_reducible apply State.Keeps.step (State.changeE_keeps ..); on_goal 1 => decide)
    | (with_reducible apply State.Keeps.step (okWord_keeps ..); on_goal 1 => decide)
    | (with_reducible apply State.Keeps.step (okWord_keeps_of (by assumption)); on_goal 1 => decide)
    | (with_reducible apply State.Keeps.step (State.put_keeps ..); on_goal 1 => decide)

theorem State.takeBudget_keeps_of {s : State} {w : Nat} {u : State} {x₁ : Nat × Nat} (h : State.takeBudget s w = (u, x₁)) : s.Keeps (pRegs ||| pRidge) u := by
  have := State.takeBudget_keeps s w
  rwa [h] at this

theorem State.trsWrite_keeps (s : State) (a : Nat) (v : Word) : s.Keeps (pRegs ||| pStaged ||| pRidge ||| pPorts) (State.trsWrite s a v).1 := by
  unfold State.trsWrite
  repeat' first
    | with_reducible assumption
    | with_reducible apply State.Keeps.refl
    | split
    | (with_reducible apply State.Keeps.step (okWord_keeps ..); on_goal 1 => decide)
    | (with_reducible apply State.Keeps.step (okWord_keeps_of (by assumption)); on_goal 1 => decide)
    | (with_reducible apply State.Keeps.step (State.plainWrite_keeps ..); on_goal 1 => decide)
    | (with_reducible apply State.Keeps.step (State.takeBudget_keeps ..); on_goal 1 => decide)
    | (with_reducible apply State.Keeps.step (State.takeBudget_keeps_of (by assumption)); on_goal 1 => decide)

theorem State.trsWrite_keeps_of {s : State} {a : Nat} {v : Word} {u : State} {x₁ : Nat × Nat} (h : State.trsWrite s a v = (u, x₁)) : s.Keeps (pRegs ||| pStaged ||| pRidge ||| pPorts) u := by
  have := State.trsWrite_keeps s a v
  rwa [h] at this

theorem State.writeTally_keeps (s : State) (k : Nat) (v : Word) : s.Keeps (pRegs ||| pBat) (State.writeTally s k v) := by
  unfold State.writeTally
  repeat' first
    | with_reducible assumption
    | with_reducible apply State.Keeps.refl
    | (extract_lets +onlyGivenNames t; (refine State.Keeps.cut (t := t) ?_ (fun _ => ?_)) <;> [subst t; clear_value t])
    | (extract_lets +onlyGivenNames x; first | clear_value x | subst x)
    | (with_reducible apply State.Keeps.ite <;> intro _)
    | (with_reducible apply State.Keeps.step (State.put_keeps ..); on_goal 1 => decide)
    | (with_reducible apply State.Keeps.step (State.setBins_keeps ..); on_goal 1 => decide)

theorem State.batWrite_keeps (s : State) (a : Nat) (v : Word) : s.Keeps (pRegs ||| pStaged ||| pRidge ||| pBat ||| pPorts) (State.batWrite s a v).1 := by
  unfold State.batWrite
  repeat' first
    | with_reducible assumption
    | with_reducible apply State.Keeps.refl
    | split
    | (with_reducible apply State.Keeps.step (State.writeTally_keeps ..); on_goal 1 => decide)
    | (with_reducible apply State.Keeps.step (okWord_keeps ..); on_goal 1 => decide)
    | (with_reducible apply State.Keeps.step (okWord_keeps_of (by assumption)); on_goal 1 => decide)
    | (with_reducible apply State.Keeps.step (State.plainWrite_keeps ..); on_goal 1 => decide)
    | (with_reducible apply State.Keeps.step (State.batCmd_keeps ..); on_goal 1 => decide)
    | (with_reducible apply State.Keeps.step (State.writeCut_keeps ..); on_goal 1 => decide)
    | (with_reducible apply State.Keeps.step (State.irqClear_keeps ..); on_goal 1 => decide)

theorem State.batWrite_keeps_of {s : State} {a : Nat} {v : Word} {u : State} {x₁ : Nat × Nat} (h : State.batWrite s a v = (u, x₁)) : s.Keeps (pRegs ||| pStaged ||| pRidge ||| pBat ||| pPorts) u := by
  have := State.batWrite_keeps s a v
  rwa [h] at this

theorem State.clearHst_keeps (s : State) : s.Keeps pRegs (State.clearHst s) := by
  unfold State.clearHst
  repeat' first
    | with_reducible assumption
    | with_reducible apply State.Keeps.refl
    | (with_reducible apply State.Keeps.step (State.wr_keeps ..); on_goal 1 => decide)

theorem State.hstWrite_keeps (s : State) (a : Nat) (v : Word) : s.Keeps (pRegs ||| pStaged ||| pPorts) (State.hstWrite s a v).1 := by
  unfold State.hstWrite
  repeat' first
    | with_reducible assumption
    | with_reducible apply State.Keeps.refl
    | split
    | (with_reducible apply State.Keeps.step (State.setCan_keeps ..); on_goal 1 => decide)
    | (with_reducible apply State.Keeps.step (State.clearHst_keeps ..); on_goal 1 => decide)
    | (with_reducible apply State.Keeps.step (okWord_keeps ..); on_goal 1 => decide)
    | (with_reducible apply State.Keeps.step (okWord_keeps_of (by assumption)); on_goal 1 => decide)
    | (with_reducible apply State.Keeps.step (State.plainWrite_keeps ..); on_goal 1 => decide)

theorem State.hstWrite_keeps_of {s : State} {a : Nat} {v : Word} {u : State} {x₁ : Nat × Nat} (h : State.hstWrite s a v = (u, x₁)) : s.Keeps (pRegs ||| pStaged ||| pPorts) u := by
  have := State.hstWrite_keeps s a v
  rwa [h] at this

theorem State.jtlWrite_keeps (s : State) (a : Nat) (v : Word) : s.Keeps (pRegs ||| pStaged ||| pBat ||| pPorts ||| pSlices ||| pJtl) (State.jtlWrite s a v).1 := by
  unfold State.jtlWrite
  repeat' first
    | with_reducible assumption
    | with_reducible apply State.Keeps.refl
    | split
    | (with_reducible apply State.Keeps.step (State.writeChainBudget_keeps ..); on_goal 1 => decide)
    | (with_reducible apply State.Keeps.step (State.setJtlCfg_keeps ..); on_goal 1 => decide)
    | (with_reducible apply State.Keeps.step (okWord_keeps ..); on_goal 1 => decide)
    | (with_reducible apply State.Keeps.step (okWord_keeps_of (by assumption)); on_goal 1 => decide)
    | (with_reducible apply State.Keeps.step (State.plainWrite_keeps ..); on_goal 1 => decide)
    | (with_reducible apply State.Keeps.step (State.jtlCmd_keeps ..); on_goal 1 => decide)

theorem State.jtlWrite_keeps_of {s : State} {a : Nat} {v : Word} {u : State} {x₁ : Nat × Nat} (h : State.jtlWrite s a v = (u, x₁)) : s.Keeps (pRegs ||| pStaged ||| pBat ||| pPorts ||| pSlices ||| pJtl) u := by
  have := State.jtlWrite_keeps s a v
  rwa [h] at this

theorem State.updWrite_keeps (s : State) (hp : HostPort) (a : Nat) (v : Word) : s.Keeps (pRegs ||| pStaged ||| pHost ||| pRidge ||| pBat ||| pPorts ||| pJtl ||| pSoffit ||| pOtp ||| pMtr ||| pSlate ||| pTha ||| pUpd ||| pBoot) (State.updWrite s hp a v).1 := by
  unfold State.updWrite
  repeat' first
    | with_reducible assumption
    | with_reducible apply State.Keeps.refl
    | split
    | (with_reducible apply State.Keeps.step (State.updCmd_keeps ..); on_goal 1 => decide)
    | (with_reducible apply State.Keeps.step (State.updData_keeps ..); on_goal 1 => decide)
    | (with_reducible apply State.Keeps.step (State.updData_keeps_of (by assumption)); on_goal 1 => decide)
    | (with_reducible apply State.Keeps.step (okWord_keeps ..); on_goal 1 => decide)
    | (with_reducible apply State.Keeps.step (okWord_keeps_of (by assumption)); on_goal 1 => decide)
    | (with_reducible apply State.Keeps.step (State.plainWrite_keeps ..); on_goal 1 => decide)

theorem State.updWrite_keeps_of {s : State} {hp : HostPort} {a : Nat} {v : Word} {u : State} {x₁ : Nat × Nat} (h : State.updWrite s hp a v = (u, x₁)) : s.Keeps (pRegs ||| pStaged ||| pHost ||| pRidge ||| pBat ||| pPorts ||| pJtl ||| pSoffit ||| pOtp ||| pMtr ||| pSlate ||| pTha ||| pUpd ||| pBoot) u := by
  have := State.updWrite_keeps s hp a v
  rwa [h] at this

theorem State.mtrWrite_keeps (s : State) (a : Nat) (v : Word) : s.Keeps (pRegs ||| pStaged ||| pPorts ||| pMtr ||| pSlate) (State.mtrWrite s a v).1 := by
  unfold State.mtrWrite
  repeat' first
    | with_reducible assumption
    | with_reducible apply State.Keeps.refl
    | split
    | (with_reducible apply State.Keeps.step (State.mtrCmd_keeps ..); on_goal 1 => decide)
    | (with_reducible apply State.Keeps.step (State.slateWindow_keeps ..); on_goal 1 => decide)
    | (with_reducible apply State.Keeps.step (okWord_keeps ..); on_goal 1 => decide)
    | (with_reducible apply State.Keeps.step (okWord_keeps_of (by assumption)); on_goal 1 => decide)
    | (with_reducible apply State.Keeps.step (State.plainWrite_keeps ..); on_goal 1 => decide)

theorem State.mtrWrite_keeps_of {s : State} {a : Nat} {v : Word} {u : State} {x₁ : Nat × Nat} (h : State.mtrWrite s a v = (u, x₁)) : s.Keeps (pRegs ||| pStaged ||| pPorts ||| pMtr ||| pSlate) u := by
  have := State.mtrWrite_keeps s a v
  rwa [h] at this

theorem State.thaWrite_keeps (s : State) (hp : HostPort) (a : Nat) (v : Word) : s.Keeps (pRegs ||| pStaged ||| pRidge ||| pBat ||| pPorts ||| pSlate ||| pTha) (State.thaWrite s hp a v).1 := by
  unfold State.thaWrite
  repeat' first
    | with_reducible assumption
    | with_reducible apply State.Keeps.refl
    | split
    | (with_reducible apply State.Keeps.step (State.srCtl_keeps ..); on_goal 1 => decide)
    | (with_reducible apply State.Keeps.step (State.edClaim_keeps ..); on_goal 1 => decide)
    | (with_reducible apply State.Keeps.step (State.wr_keeps ..); on_goal 1 => decide)
    | (with_reducible apply State.Keeps.step (okWord_keeps ..); on_goal 1 => decide)
    | (with_reducible apply State.Keeps.step (okWord_keeps_of (by assumption)); on_goal 1 => decide)
    | (with_reducible apply State.Keeps.step (State.plainWrite_keeps ..); on_goal 1 => decide)

theorem State.thaWrite_keeps_of {s : State} {hp : HostPort} {a : Nat} {v : Word} {u : State} {x₁ : Nat × Nat} (h : State.thaWrite s hp a v = (u, x₁)) : s.Keeps (pRegs ||| pStaged ||| pRidge ||| pBat ||| pPorts ||| pSlate ||| pTha) u := by
  have := State.thaWrite_keeps s hp a v
  rwa [h] at this

theorem State.pccCmd_keeps (s : State) (n : Fin 16) (v : Word) : s.Keeps (pRegs ||| pStaged ||| pFreeCtr ||| pRidge ||| pBat ||| pPorts ||| pSlices ||| pJtl ||| pBoot) (State.pccCmd s n v).1 := by
  unfold State.pccCmd
  repeat' first
    | with_reducible assumption
    | with_reducible apply State.Keeps.refl
    | (extract_lets +onlyGivenNames t; (refine State.Keeps.cut (t := t) ?_ (fun _ => ?_)) <;> [subst t; clear_value t])
    | (extract_lets +onlyGivenNames x; first | clear_value x | subst x)
    | split
    | (with_reducible apply State.Keeps.step (State.redisc_keeps ..); on_goal 1 => decide)
    | (with_reducible apply State.Keeps.step (State.redisc_keeps_of (by assumption)); on_goal 1 => decide)
    | (with_reducible apply State.Keeps.step (okWord_keeps ..); on_goal 1 => decide)
    | (with_reducible apply State.Keeps.step (okWord_keeps_of (by assumption)); on_goal 1 => decide)
    | (with_reducible apply State.Keeps.step (State.clrLatch_keeps ..); on_goal 1 => decide)
    | (with_reducible apply State.Keeps.step (State.goErrRec_keeps ..); on_goal 1 => decide)

theorem State.pccCmd_keeps_of {s : State} {n : Fin 16} {v : Word} {u : State} {x₁ : Nat × Nat} (h : State.pccCmd s n v = (u, x₁)) : s.Keeps (pRegs ||| pStaged ||| pFreeCtr ||| pRidge ||| pBat ||| pPorts ||| pSlices ||| pJtl ||| pBoot) u := by
  have := State.pccCmd_keeps s n v
  rwa [h] at this

theorem State.ppdCmd_keeps (s : State) (n : Fin 16) (v : Word) : s.Keeps (pRegs ||| pFreeCtr ||| pRidge ||| pBat ||| pPorts ||| pSlices ||| pJtl ||| pBoot) (State.ppdCmd s n v) := by
  unfold State.ppdCmd
  repeat' first
    | with_reducible assumption
    | with_reducible apply State.Keeps.refl
    | (extract_lets +onlyGivenNames t; (refine State.Keeps.cut (t := t) ?_ (fun _ => ?_)) <;> [subst t; clear_value t])
    | (extract_lets +onlyGivenNames x; first | clear_value x | subst x)
    | (with_reducible apply State.Keeps.ite <;> intro _)
    | (with_reducible apply State.Keeps.step (State.cmdDrswap_keeps ..); on_goal 1 => decide)
    | (with_reducible apply State.Keeps.step (State.cmdSoftreset_keeps ..); on_goal 1 => decide)
    | (with_reducible apply State.Keeps.step (State.cmdSendcaps_keeps ..); on_goal 1 => decide)
    | (with_reducible apply State.Keeps.step (State.cmdHardreset_keeps ..); on_goal 1 => decide)
    | (with_reducible apply State.Keeps.step (State.cmdEprexit_keeps ..); on_goal 1 => decide)

theorem State.portWrite_keeps (s : State) (n : Fin 16) (a : Nat) (v : Word) : s.Keeps (pRegs ||| pStaged ||| pFreeCtr ||| pRidge ||| pBat ||| pPorts ||| pSlices ||| pJtl ||| pBoot) (State.portWrite s n a v).1 := by
  unfold State.portWrite
  repeat' first
    | with_reducible assumption
    | with_reducible apply State.Keeps.refl
    | split
    | (with_reducible apply State.Keeps.step (State.takeStaged_keeps ..); on_goal 1 => decide)
    | (with_reducible apply State.Keeps.step (okWord_keeps ..); on_goal 1 => decide)
    | (with_reducible apply State.Keeps.step (okWord_keeps_of (by assumption)); on_goal 1 => decide)
    | (with_reducible apply State.Keeps.step (State.pccCmd_keeps ..); on_goal 1 => decide)
    | (with_reducible apply State.Keeps.step (State.pccCmd_keeps_of (by assumption)); on_goal 1 => decide)
    | (with_reducible apply State.Keeps.step (State.plainWrite_keeps ..); on_goal 1 => decide)
    | (with_reducible apply State.Keeps.step (State.setDisable_keeps ..); on_goal 1 => decide)
    | (with_reducible apply State.Keeps.step (State.ppdCmd_keeps ..); on_goal 1 => decide)
    | (with_reducible apply State.Keeps.step (State.clearRc_keeps ..); on_goal 1 => decide)

theorem State.portWrite_keeps_of {s : State} {n : Fin 16} {a : Nat} {v : Word} {u : State} {x₁ : Nat × Nat} (h : State.portWrite s n a v = (u, x₁)) : s.Keeps (pRegs ||| pStaged ||| pFreeCtr ||| pRidge ||| pBat ||| pPorts ||| pSlices ||| pJtl ||| pBoot) u := by
  have := State.portWrite_keeps s n a v
  rwa [h] at this

theorem State.sliceWrite_keeps (s : State) (k : Fin 48) (a : Nat) (v : Word) : s.Keeps (pRegs ||| pStaged ||| pFreeCtr ||| pRidge ||| pBat ||| pPorts ||| pSlices ||| pJtl ||| pBoot) (State.sliceWrite s k a v).1 := by
  unfold State.sliceWrite
  repeat' first
    | with_reducible assumption
    | with_reducible apply State.Keeps.refl
    | (extract_lets +onlyGivenNames t; (refine State.Keeps.cut (t := t) ?_ (fun _ => ?_)) <;> [subst t; clear_value t])
    | (extract_lets +onlyGivenNames x; first | clear_value x | subst x)
    | split
    | (with_reducible apply State.Keeps.step (okWord_keeps ..); on_goal 1 => decide)
    | (with_reducible apply State.Keeps.step (okWord_keeps_of (by assumption)); on_goal 1 => decide)
    | (with_reducible apply State.Keeps.step (State.plainWrite_keeps ..); on_goal 1 => decide)
    | (with_reducible apply State.Keeps.step (State.raise_keeps ..); on_goal 1 => decide)
    | (with_reducible apply State.Keeps.step (State.disableSlice_keeps ..); on_goal 1 => decide)

theorem State.sliceWrite_keeps_of {s : State} {k : Fin 48} {a : Nat} {v : Word} {u : State} {x₁ : Nat × Nat} (h : State.sliceWrite s k a v = (u, x₁)) : s.Keeps (pRegs ||| pStaged ||| pFreeCtr ||| pRidge ||| pBat ||| pPorts ||| pSlices ||| pJtl ||| pBoot) u := by
  have := State.sliceWrite_keeps s k a v
  rwa [h] at this

theorem State.regWrite_keeps (s : State) (hp : HostPort) (a : Nat) (v : Word) : s.Keeps (pRegs ||| pStaged ||| pFreeCtr ||| pHost ||| pRidge ||| pBat ||| pPorts ||| pSlices ||| pJtl ||| pSoffit ||| pOtp ||| pRunning ||| pMtr ||| pSlate ||| pTha ||| pUpd ||| pBoot) (State.regWrite s hp a v).1 := by
  unfold State.regWrite
  repeat' first
    | with_reducible assumption
    | with_reducible apply State.Keeps.refl
    | split
    | (with_reducible apply State.Keeps.step (State.hstWrite_keeps ..); on_goal 1 => decide)
    | (with_reducible apply State.Keeps.step (State.hstWrite_keeps_of (by assumption)); on_goal 1 => decide)
    | (with_reducible apply State.Keeps.step (State.portWrite_keeps ..); on_goal 1 => decide)
    | (with_reducible apply State.Keeps.step (State.portWrite_keeps_of (by assumption)); on_goal 1 => decide)
    | (with_reducible apply State.Keeps.step (State.sliceWrite_keeps ..); on_goal 1 => decide)
    | (with_reducible apply State.Keeps.step (State.sliceWrite_keeps_of (by assumption)); on_goal 1 => decide)
    | (with_reducible apply State.Keeps.step (State.otpWrite_keeps ..); on_goal 1 => decide)
    | (with_reducible apply State.Keeps.step (State.otpWrite_keeps_of (by assumption)); on_goal 1 => decide)
    | (with_reducible apply State.Keeps.step (okWord_keeps ..); on_goal 1 => decide)
    | (with_reducible apply State.Keeps.step (okWord_keeps_of (by assumption)); on_goal 1 => decide)
    | (with_reducible apply State.Keeps.step (State.gpcsTaken_keeps ..); on_goal 1 => decide)
    | (with_reducible apply State.Keeps.step (State.plainWrite_keeps ..); on_goal 1 => decide)
    | (with_reducible apply State.Keeps.step (State.jtlWrite_keeps ..); on_goal 1 => decide)
    | (with_reducible apply State.Keeps.step (State.jtlWrite_keeps_of (by assumption)); on_goal 1 => decide)
    | (with_reducible apply State.Keeps.step (State.mtrWrite_keeps ..); on_goal 1 => decide)
    | (with_reducible apply State.Keeps.step (State.mtrWrite_keeps_of (by assumption)); on_goal 1 => decide)
    | (with_reducible apply State.Keeps.step (State.rdgWrite_keeps ..); on_goal 1 => decide)
    | (with_reducible apply State.Keeps.step (State.rdgWrite_keeps_of (by assumption)); on_goal 1 => decide)
    | (with_reducible apply State.Keeps.step (State.updWrite_keeps ..); on_goal 1 => decide)
    | (with_reducible apply State.Keeps.step (State.updWrite_keeps_of (by assumption)); on_goal 1 => decide)
    | (with_reducible apply State.Keeps.step (State.thaWrite_keeps ..); on_goal 1 => decide)
    | (with_reducible apply State.Keeps.step (State.thaWrite_keeps_of (by assumption)); on_goal 1 => decide)
    | (with_reducible apply State.Keeps.step (State.sofWrite_keeps ..); on_goal 1 => decide)
    | (with_reducible apply State.Keeps.step (State.sofWrite_keeps_of (by assumption)); on_goal 1 => decide)
    | (with_reducible apply State.Keeps.step (State.batWrite_keeps ..); on_goal 1 => decide)
    | (with_reducible apply State.Keeps.step (State.batWrite_keeps_of (by assumption)); on_goal 1 => decide)
    | (with_reducible apply State.Keeps.step (State.trsWrite_keeps ..); on_goal 1 => decide)
    | (with_reducible apply State.Keeps.step (State.trsWrite_keeps_of (by assumption)); on_goal 1 => decide)
    | (with_reducible apply State.Keeps.step (State.glbWrite_keeps ..); on_goal 1 => decide)
    | (with_reducible apply State.Keeps.step (State.glbWrite_keeps_of (by assumption)); on_goal 1 => decide)

theorem State.regWrite_keeps_of {s : State} {hp : HostPort} {a : Nat} {v : Word} {u : State} {x₁ : Nat × Nat} (h : State.regWrite s hp a v = (u, x₁)) : s.Keeps (pRegs ||| pStaged ||| pFreeCtr ||| pHost ||| pRidge ||| pBat ||| pPorts ||| pSlices ||| pJtl ||| pSoffit ||| pOtp ||| pRunning ||| pMtr ||| pSlate ||| pTha ||| pUpd ||| pBoot) u := by
  have := State.regWrite_keeps s hp a v
  rwa [h] at this

end Sys2Proof.Machine
end

