-- ==== Sys2Proof/Laws/Commit.lean ====
section
/-!
SUPPORT. What the operations of Machine/Commit.lean may change, one lemma each.
-/

set_option linter.unusedTactic false
set_option linter.unreachableTactic false
set_option linter.tactic.unusedName false

namespace Sys2Proof.Machine

theorem State.dropOp_keeps (s : State) (tag : Nat) : s.Keeps pRidge (State.dropOp s tag) := by
  unfold State.dropOp
  repeat' first
    | with_reducible assumption
    | with_reducible apply State.Keeps.refl
    | (with_reducible apply State.Keeps.step (State.modRidge_keeps ..); on_goal 1 => decide)

theorem State.setOp_keeps (s : State) (tag : Nat) (f : Op → Op) : s.Keeps pRidge (State.setOp s tag f) := by
  unfold State.setOp
  repeat' first
    | with_reducible assumption
    | with_reducible apply State.Keeps.refl
    | (with_reducible apply State.Keeps.ite <;> intro _)
    | (with_reducible apply State.Keeps.step (State.modRidge_keeps ..); on_goal 1 => decide)

theorem State.stageFor_keeps (s : State) (n : Fin 16) (w : Transition) : s.Keeps (pRegs ||| pPorts) (State.stageFor s n w) := by
  unfold State.stageFor
  repeat' first
    | with_reducible assumption
    | with_reducible apply State.Keeps.refl
    | (with_reducible apply State.Keeps.step (State.modPort_keeps ..); on_goal 1 => decide)
    | (with_reducible apply State.Keeps.step (State.raise_keeps ..); on_goal 1 => decide)

theorem State.stageOp_keeps (s : State) (n : Fin 16) (o : Op) : s.Keeps (pRegs ||| pPorts) (State.stageOp s n o) := by
  unfold State.stageOp
  repeat' first
    | with_reducible assumption
    | with_reducible apply State.Keeps.refl
    | (with_reducible apply State.Keeps.ite <;> intro _)
    | (with_reducible apply State.Keeps.step (State.modPort_keeps ..); on_goal 1 => decide)
    | (with_reducible apply State.Keeps.step (State.raise_keeps ..); on_goal 1 => decide)

theorem State.showPend_keeps (s : State) (n : Fin 16) (w : Transition) : s.Keeps pRegs (State.showPend s n w) := by
  unfold State.showPend
  repeat' first
    | with_reducible assumption
    | with_reducible apply State.Keeps.refl
    | (with_reducible apply State.Keeps.step (State.raise_keeps ..); on_goal 1 => decide)
    | (with_reducible apply State.Keeps.step (State.put_keeps ..); on_goal 1 => decide)

theorem State.afterNo_keeps (s : State) (n : Fin 16) : s.Keeps (pRegs ||| pFreeCtr ||| pRidge ||| pBat ||| pPorts ||| pSlices ||| pJtl ||| pBoot) (State.afterNo s n) := by
  unfold State.afterNo
  repeat' first
    | with_reducible assumption
    | with_reducible apply State.Keeps.refl
    | (extract_lets +onlyGivenNames t; (refine State.Keeps.cut (t := t) ?_ (fun _ => ?_)) <;> [subst t; clear_value t])
    | (extract_lets +onlyGivenNames x; first | clear_value x | subst x)
    | (with_reducible apply State.Keeps.ite <;> intro _)
    | (with_reducible apply State.Keeps.step (State.enterReady_keeps ..); on_goal 1 => decide)
    | (with_reducible apply State.Keeps.step (State.modPd_keeps ..); on_goal 1 => decide)
    | (with_reducible apply State.Keeps.step (State.setP_keeps ..); on_goal 1 => decide)

theorem State.toApply_keeps (s : State) (n : Fin 16) (o : Op) : s.Keeps pPorts (State.toApply s n o) := by
  unfold State.toApply
  repeat' first
    | with_reducible assumption
    | with_reducible apply State.Keeps.refl
    | (with_reducible apply State.Keeps.ite <;> intro _)
    | split
    | (with_reducible apply State.Keeps.step (State.modPort_keeps ..); on_goal 1 => decide)

theorem State.firmToApply_keeps (s : State) (n : Fin 16) (w : Transition) (cs : List Nat) : s.Keeps pPorts (State.firmToApply s n w cs) := by
  unfold State.firmToApply
  repeat' first
    | with_reducible assumption
    | with_reducible apply State.Keeps.refl
    | (with_reducible apply State.Keeps.step (State.toApply_keeps ..); on_goal 1 => decide)
    | with_reducible apply State.Keeps.foldl
    | (intro _; intros; beta_reduce)

theorem State.acceptMsg_keeps (s : State) (n : Fin 16) (w : Transition) (at_us : Nat) (missing : List Nat) : s.Keeps (pRegs ||| pRidge ||| pBat ||| pPorts) (State.acceptMsg s n w at_us missing) := by
  unfold State.acceptMsg
  repeat' first
    | with_reducible assumption
    | with_reducible apply State.Keeps.refl
    | (extract_lets +onlyGivenNames t; (refine State.Keeps.cut (t := t) ?_ (fun _ => ?_)) <;> [subst t; clear_value t])
    | (extract_lets +onlyGivenNames x; first | clear_value x | subst x)
    | (with_reducible apply State.Keeps.ite <;> intro _)
    | (with_reducible apply State.Keeps.step (State.stageFor_keeps ..); on_goal 1 => decide)
    | (with_reducible apply State.Keeps.step (State.showPend_keeps ..); on_goal 1 => decide)
    | (with_reducible apply State.Keeps.step (State.firmToApply_keeps ..); on_goal 1 => decide)
    | (with_reducible apply State.Keeps.step (State.modPd_keeps ..); on_goal 1 => decide)
    | (with_reducible apply State.Keeps.step (State.offer_keeps ..); on_goal 1 => decide)
    | (with_reducible apply State.Keeps.step (State.noteRun_keeps ..); on_goal 1 => decide)
    | (with_reducible apply State.Keeps.step (State.setP_keeps ..); on_goal 1 => decide)
    | (with_reducible apply State.Keeps.step (State.allocate_keeps ..); on_goal 1 => decide)
    | (with_reducible apply State.Keeps.step (State.send_keeps ..); on_goal 1 => decide)
    | with_reducible apply State.Keeps.foldl
    | (intro _; intros; beta_reduce)

theorem State.shortMsg_keeps (s : State) (n : Fin 16) (w : Transition) : s.Keeps (pRegs ||| pFreeCtr ||| pRidge ||| pBat ||| pPorts ||| pSlices ||| pJtl ||| pBoot) (State.shortMsg s n w) := by
  unfold State.shortMsg
  repeat' first
    | with_reducible assumption
    | with_reducible apply State.Keeps.refl
    | (extract_lets +onlyGivenNames t; (refine State.Keeps.cut (t := t) ?_ (fun _ => ?_)) <;> [subst t; clear_value t])
    | (extract_lets +onlyGivenNames x; first | clear_value x | subst x)
    | (with_reducible apply State.Keeps.ite <;> intro _)
    | split
    | (with_reducible apply State.Keeps.step (State.modPd_keeps ..); on_goal 1 => decide)
    | (with_reducible apply State.Keeps.step (State.free_keeps ..); on_goal 1 => decide)
    | (with_reducible apply State.Keeps.step (State.free_keeps_of (by assumption)); on_goal 1 => decide)
    | (with_reducible apply State.Keeps.step (State.put_keeps ..); on_goal 1 => decide)
    | (with_reducible apply State.Keeps.step (State.afterNo_keeps ..); on_goal 1 => decide)
    | (with_reducible apply State.Keeps.step (State.send_keeps ..); on_goal 1 => decide)

theorem State.refuseMsg_keeps (s : State) (o : Op) : s.Keeps (pRegs ||| pRidge) (State.refuseMsg s o) := by
  unfold State.refuseMsg
  repeat' first
    | with_reducible assumption
    | with_reducible apply State.Keeps.refl
    | (with_reducible apply State.Keeps.step (State.ask_keeps ..); on_goal 1 => decide)
    | (with_reducible apply State.Keeps.step (State.counted_keeps ..); on_goal 1 => decide)
    | (with_reducible apply State.Keeps.step (State.dropOp_keeps ..); on_goal 1 => decide)

theorem State.commitNo_keeps (s : State) (n : Fin 16) (o : Op) : s.Keeps (pRegs ||| pFreeCtr ||| pRidge ||| pBat ||| pPorts ||| pSlices ||| pJtl ||| pBoot) (State.commitNo s n o) := by
  unfold State.commitNo
  repeat' first
    | with_reducible assumption
    | with_reducible apply State.Keeps.refl
    | split
    | (with_reducible apply State.Keeps.step (State.refuseMsg_keeps ..); on_goal 1 => decide)
    | (with_reducible apply State.Keeps.step (State.shortMsg_keeps ..); on_goal 1 => decide)
    | (with_reducible apply State.Keeps.step (State.put_keeps ..); on_goal 1 => decide)
    | (with_reducible apply State.Keeps.step (State.afterNo_keeps ..); on_goal 1 => decide)
    | (with_reducible apply State.Keeps.step (State.send_keeps ..); on_goal 1 => decide)

theorem State.forgetTxn_keeps (s : State) (id : Nat) : s.Keeps (pHost ||| pRidge) (State.forgetTxn s id) := by
  unfold State.forgetTxn
  repeat' first
    | with_reducible assumption
    | with_reducible apply State.Keeps.refl
    | (extract_lets +onlyGivenNames t; (refine State.Keeps.cut (t := t) ?_ (fun _ => ?_)) <;> [subst t; clear_value t])
    | (extract_lets +onlyGivenNames x; first | clear_value x | subst x)
    | (with_reducible apply State.Keeps.step (State.modHost_keeps ..); on_goal 1 => decide)
    | (with_reducible apply State.Keeps.step (State.modRidge_keeps ..); on_goal 1 => decide)

theorem State.stopTxn_keeps (s : State) (t : Txn) (code : Nat) (port : Nat) : s.Keeps (pRegs ||| pHost ||| pRidge ||| pBat) (State.stopTxn s t code port) := by
  unfold State.stopTxn
  repeat' first
    | with_reducible assumption
    | with_reducible apply State.Keeps.refl
    | (extract_lets +onlyGivenNames t; (refine State.Keeps.cut (t := t) ?_ (fun _ => ?_)) <;> [subst t; clear_value t])
    | (extract_lets +onlyGivenNames x; first | clear_value x | subst x)
    | (with_reducible apply State.Keeps.ite <;> intro _)
    | (with_reducible apply State.Keeps.step (State.fire_keeps ..); on_goal 1 => decide)
    | (with_reducible apply State.Keeps.step (State.satInc_keeps ..); on_goal 1 => decide)
    | (with_reducible apply State.Keeps.step (State.forgetTxn_keeps ..); on_goal 1 => decide)
    | (with_reducible apply State.Keeps.step (State.raise_keeps ..); on_goal 1 => decide)
    | (with_reducible apply State.Keeps.step (State.endTxn_keeps ..); on_goal 1 => decide)

theorem State.wordDone_keeps (s : State) (t : Txn) (a : Nat) (code : Nat) (detail : Nat) : s.Keeps (pRegs ||| pHost) (State.wordDone s t a code detail) := by
  unfold State.wordDone
  repeat' first
    | with_reducible assumption
    | with_reducible apply State.Keeps.refl
    | (extract_lets +onlyGivenNames t; (refine State.Keeps.cut (t := t) ?_ (fun _ => ?_)) <;> [subst t; clear_value t])
    | (extract_lets +onlyGivenNames x; first | clear_value x | subst x)
    | (with_reducible apply State.Keeps.ite <;> intro _)
    | (with_reducible apply State.Keeps.step (State.modHost_keeps ..); on_goal 1 => decide)
    | (with_reducible apply State.Keeps.step (State.endTxn_keeps ..); on_goal 1 => decide)

theorem State.commitReg_keeps (s : State) (o : Op) (hp : HostPort) (w : Nat × Word) : s.Keeps (pRegs ||| pStaged ||| pFreeCtr ||| pHost ||| pRidge ||| pBat ||| pPorts ||| pSlices ||| pJtl ||| pSoffit ||| pOtp ||| pRunning ||| pMtr ||| pSlate ||| pTha ||| pUpd ||| pBoot) (State.commitReg s o hp w) := by
  unfold State.commitReg
  repeat' first
    | with_reducible assumption
    | with_reducible apply State.Keeps.refl
    | (extract_lets +onlyGivenNames t; (refine State.Keeps.cut (t := t) ?_ (fun _ => ?_)) <;> [subst t; clear_value t])
    | (extract_lets +onlyGivenNames x; first | clear_value x | subst x)
    | (with_reducible apply State.Keeps.ite <;> intro _)
    | split
    | (with_reducible apply State.Keeps.step (State.stopTxn_keeps ..); on_goal 1 => decide)
    | (with_reducible apply State.Keeps.step (State.regWrite_keeps ..); on_goal 1 => decide)
    | (with_reducible apply State.Keeps.step (State.regWrite_keeps_of (by assumption)); on_goal 1 => decide)
    | (with_reducible apply State.Keeps.step (State.wordDone_keeps ..); on_goal 1 => decide)
    | (with_reducible apply State.Keeps.step (State.counted_keeps ..); on_goal 1 => decide)
    | (with_reducible apply State.Keeps.step (State.dropOp_keeps ..); on_goal 1 => decide)

theorem State.commitSw_keeps (s : State) (o : Op) : s.Keeps (pRegs ||| pFreeCtr ||| pRidge ||| pPorts ||| pSlices ||| pJtl ||| pBoot) (State.commitSw s o) := by
  unfold State.commitSw
  repeat' first
    | with_reducible assumption
    | with_reducible apply State.Keeps.refl
    | (extract_lets +onlyGivenNames t; (refine State.Keeps.cut (t := t) ?_ (fun _ => ?_)) <;> [subst t; clear_value t])
    | (extract_lets +onlyGivenNames x; first | clear_value x | subst x)
    | (with_reducible apply State.Keeps.ite <;> intro _)
    | split
    | (with_reducible apply State.Keeps.step (State.toApply_keeps ..); on_goal 1 => decide)
    | (with_reducible apply State.Keeps.step (State.goErrRec_keeps ..); on_goal 1 => decide)
    | with_reducible apply State.Keeps.foldl
    | (intro _; intros; beta_reduce)

theorem State.commitTruss_keeps (s : State) (o : Op) : s.Keeps (pRegs ||| pRidge ||| pBat) (State.commitTruss s o) := by
  unfold State.commitTruss
  repeat' first
    | with_reducible assumption
    | with_reducible apply State.Keeps.refl
    | (extract_lets +onlyGivenNames t; (refine State.Keeps.cut (t := t) ?_ (fun _ => ?_)) <;> [subst t; clear_value t])
    | (extract_lets +onlyGivenNames x; first | clear_value x | subst x)
    | (with_reducible apply State.Keeps.ite <;> intro _)
    | split
    | (with_reducible apply State.Keeps.step (State.setShare_keeps ..); on_goal 1 => decide)
    | (with_reducible apply State.Keeps.step (State.fire_keeps ..); on_goal 1 => decide)
    | (with_reducible apply State.Keeps.step (State.setCut_keeps ..); on_goal 1 => decide)
    | (with_reducible apply State.Keeps.step (State.takeBudget_keeps ..); on_goal 1 => decide)
    | (with_reducible apply State.Keeps.step (State.takeBudget_keeps_of (by assumption)); on_goal 1 => decide)
    | (with_reducible apply State.Keeps.step (State.allocate_keeps ..); on_goal 1 => decide)
    | (with_reducible apply State.Keeps.step (State.releaseHold_keeps ..); on_goal 1 => decide)

theorem State.commitSend_keeps (s : State) (n : Fin 16) (o : Op) : s.Keeps (pRegs ||| pPorts) (State.commitSend s n o) := by
  unfold State.commitSend
  repeat' first
    | with_reducible assumption
    | with_reducible apply State.Keeps.refl
    | (extract_lets +onlyGivenNames t; (refine State.Keeps.cut (t := t) ?_ (fun _ => ?_)) <;> [subst t; clear_value t])
    | (extract_lets +onlyGivenNames x; first | clear_value x | subst x)
    | (with_reducible apply State.Keeps.ite <;> intro _)
    | (with_reducible apply State.Keeps.step (State.modPd_keeps ..); on_goal 1 => decide)
    | (with_reducible apply State.Keeps.step (State.beginAms_keeps ..); on_goal 1 => decide)
    | (with_reducible apply State.Keeps.step (State.wantOffer_keeps ..); on_goal 1 => decide)
    | (with_reducible apply State.Keeps.step (State.send_keeps ..); on_goal 1 => decide)

theorem State.commitClass_keeps (s : State) (o : Op) : s.Keeps (pRegs ||| pStaged ||| pFreeCtr ||| pHost ||| pRidge ||| pBat ||| pPorts ||| pSlices ||| pJtl ||| pRunning ||| pMtr ||| pSlate ||| pTha ||| pBoot) (State.commitClass s o) := by
  unfold State.commitClass
  repeat' first
    | with_reducible assumption
    | with_reducible apply State.Keeps.refl
    | (extract_lets +onlyGivenNames t; (refine State.Keeps.cut (t := t) ?_ (fun _ => ?_)) <;> [subst t; clear_value t])
    | (extract_lets +onlyGivenNames x; first | clear_value x | subst x)
    | (with_reducible apply State.Keeps.ite <;> intro _)
    | split
    | (with_reducible apply State.Keeps.step (State.toApply_keeps ..); on_goal 1 => decide)
    | (with_reducible apply State.Keeps.step (State.commitCfg_keeps ..); on_goal 1 => decide)
    | (with_reducible apply State.Keeps.step (State.startSweep_keeps ..); on_goal 1 => decide)
    | (with_reducible apply State.Keeps.step (State.queueBand_keeps ..); on_goal 1 => decide)
    | (with_reducible apply State.Keeps.step (State.wr_keeps ..); on_goal 1 => decide)
    | (with_reducible apply State.Keeps.step (State.commitTruss_keeps ..); on_goal 1 => decide)
    | (with_reducible apply State.Keeps.step (State.log_keeps ..); on_goal 1 => decide)
    | (with_reducible apply State.Keeps.step (State.raise_keeps ..); on_goal 1 => decide)
    | (with_reducible apply State.Keeps.step (State.put_keeps ..); on_goal 1 => decide)
    | (with_reducible apply State.Keeps.step (State.commitSw_keeps ..); on_goal 1 => decide)
    | (with_reducible apply State.Keeps.step (State.commitSend_keeps ..); on_goal 1 => decide)
    | (with_reducible apply State.Keeps.step (State.stageTime_keeps ..); on_goal 1 => decide)

theorem State.commitOne_keeps (s : State) (o : Op) : s.Keeps (pRegs ||| pStaged ||| pFreeCtr ||| pHost ||| pRidge ||| pBat ||| pPorts ||| pSlices ||| pJtl ||| pSoffit ||| pOtp ||| pRunning ||| pMtr ||| pSlate ||| pTha ||| pUpd ||| pBoot) (State.commitOne s o) := by
  unfold State.commitOne
  repeat' first
    | with_reducible assumption
    | with_reducible apply State.Keeps.refl
    | (extract_lets +onlyGivenNames t; (refine State.Keeps.cut (t := t) ?_ (fun _ => ?_)) <;> [subst t; clear_value t])
    | (extract_lets +onlyGivenNames x; first | clear_value x | subst x)
    | (with_reducible apply State.Keeps.ite <;> intro _)
    | split
    | (with_reducible apply State.Keeps.step (State.commitClass_keeps ..); on_goal 1 => decide)
    | (with_reducible apply State.Keeps.step (State.commitReg_keeps ..); on_goal 1 => decide)
    | (with_reducible apply State.Keeps.step (State.wr_keeps ..); on_goal 1 => decide)
    | (with_reducible apply State.Keeps.step (State.plainWrite_keeps ..); on_goal 1 => decide)
    | (with_reducible apply State.Keeps.step (State.counted_keeps ..); on_goal 1 => decide)
    | (with_reducible apply State.Keeps.step (State.dropOp_keeps ..); on_goal 1 => decide)

theorem State.groupStep_keeps (o : Op) (n : Fin 16) (w : Transition) (missing : List Nat) (s : State) (q : Op) : s.Keeps (pRegs ||| pStaged ||| pFreeCtr ||| pHost ||| pRidge ||| pBat ||| pPorts ||| pSlices ||| pJtl ||| pSoffit ||| pOtp ||| pRunning ||| pMtr ||| pSlate ||| pTha ||| pUpd ||| pBoot) (State.groupStep o n w missing s q) := by
  unfold State.groupStep
  repeat' first
    | with_reducible assumption
    | with_reducible apply State.Keeps.refl
    | (with_reducible apply State.Keeps.ite <;> intro _)
    | (with_reducible apply State.Keeps.step (State.firmToApply_keeps ..); on_goal 1 => decide)
    | (with_reducible apply State.Keeps.step (State.commitOne_keeps ..); on_goal 1 => decide)
    | (with_reducible apply State.Keeps.step (State.acceptMsg_keeps ..); on_goal 1 => decide)
    | (with_reducible apply State.Keeps.step (State.counted_keeps ..); on_goal 1 => decide)
    | (with_reducible apply State.Keeps.step (State.dropOp_keeps ..); on_goal 1 => decide)

theorem State.commitGroup_keeps (s : State) (n : Fin 16) (o : Op) (w : Transition) : s.Keeps (pRegs ||| pStaged ||| pFreeCtr ||| pHost ||| pRidge ||| pBat ||| pPorts ||| pSlices ||| pJtl ||| pSoffit ||| pOtp ||| pRunning ||| pMtr ||| pSlate ||| pTha ||| pUpd ||| pBoot) (State.commitGroup s n o w) := by
  unfold State.commitGroup
  repeat' first
    | with_reducible assumption
    | with_reducible apply State.Keeps.refl
    | (extract_lets +onlyGivenNames t; (refine State.Keeps.cut (t := t) ?_ (fun _ => ?_)) <;> [subst t; clear_value t])
    | (extract_lets +onlyGivenNames x; first | clear_value x | subst x)
    | (with_reducible apply State.Keeps.step (State.groupStep_keeps ..); on_goal 1 => decide)
    | with_reducible apply State.Keeps.foldl
    | (intro _; intros; beta_reduce)

theorem State.slotOp_keeps (acc : State × Nat) (tag : Nat) : acc.1.Keeps (pRegs ||| pStaged ||| pFreeCtr ||| pHost ||| pRidge ||| pBat ||| pPorts ||| pSlices ||| pJtl ||| pSoffit ||| pOtp ||| pRunning ||| pMtr ||| pSlate ||| pTha ||| pUpd ||| pBoot) (State.slotOp acc tag).1 := by
  unfold State.slotOp
  repeat' first
    | with_reducible assumption
    | with_reducible apply State.Keeps.refl
    | (extract_lets +onlyGivenNames t; (refine State.Keeps.cut (t := t) ?_ (fun _ => ?_)) <;> [subst t; clear_value t])
    | (extract_lets +onlyGivenNames x; first | clear_value x | subst x)
    | split
    | (with_reducible apply State.Keeps.step (State.commitOne_keeps ..); on_goal 1 => decide)
    | (with_reducible apply State.Keeps.step (State.commitGroup_keeps ..); on_goal 1 => decide)
    | (with_reducible apply State.Keeps.step (State.ask_keeps ..); on_goal 1 => decide)
    | (with_reducible apply State.Keeps.step (State.setOp_keeps ..); on_goal 1 => decide)
    | (with_reducible apply State.Keeps.step (State.commitNo_keeps ..); on_goal 1 => decide)
    | (with_reducible apply State.Keeps.step (State.placeHold_keeps ..); on_goal 1 => decide)
    | (with_reducible apply State.Keeps.step (State.counted_keeps ..); on_goal 1 => decide)
    | (with_reducible apply State.Keeps.step (State.dropOp_keeps ..); on_goal 1 => decide)

theorem State.slotOp_keeps_of {acc : State × Nat} {tag : Nat} {u : State} {x₁ : Nat} (h : State.slotOp acc tag = (u, x₁)) : acc.1.Keeps (pRegs ||| pStaged ||| pFreeCtr ||| pHost ||| pRidge ||| pBat ||| pPorts ||| pSlices ||| pJtl ||| pSoffit ||| pOtp ||| pRunning ||| pMtr ||| pSlate ||| pTha ||| pUpd ||| pBoot) u := by
  have := State.slotOp_keeps acc tag
  rwa [h] at this

theorem State.takeRdgCfg_keeps (s : State) : s.Keeps (pRegs ||| pStaged ||| pPorts) (State.takeRdgCfg s) := by
  unfold State.takeRdgCfg
  repeat' first
    | with_reducible assumption
    | with_reducible apply State.Keeps.refl
    | (extract_lets +onlyGivenNames t; (refine State.Keeps.cut (t := t) ?_ (fun _ => ?_)) <;> [subst t; clear_value t])
    | (extract_lets +onlyGivenNames x; first | clear_value x | subst x)
    | (with_reducible apply State.Keeps.ite <;> intro _)
    | (with_reducible apply State.Keeps.step (State.takeStaged_keeps ..); on_goal 1 => decide)
    | (with_reducible apply State.Keeps.step (State.endRun_keeps ..); on_goal 1 => decide)
    | with_reducible apply State.Keeps.foldl
    | (intro _; intros; beta_reduce)

theorem State.offerAgain_keeps (s : State) (o : Op) : s.Keeps (pRegs ||| pRidge ||| pBat ||| pPorts) (State.offerAgain s o) := by
  unfold State.offerAgain
  repeat' first
    | with_reducible assumption
    | with_reducible apply State.Keeps.refl
    | (extract_lets +onlyGivenNames t; (refine State.Keeps.cut (t := t) ?_ (fun _ => ?_)) <;> [subst t; clear_value t])
    | (extract_lets +onlyGivenNames x; first | clear_value x | subst x)
    | (with_reducible apply State.Keeps.ite <;> intro _)
    | split
    | (with_reducible apply State.Keeps.step (State.followMsg_keeps ..); on_goal 1 => decide)
    | (with_reducible apply State.Keeps.step (State.push_keeps ..); on_goal 1 => decide)
    | (with_reducible apply State.Keeps.step (State.modRidge_keeps ..); on_goal 1 => decide)

theorem State.offerWaiting_keeps (s : State) : s.Keeps (pRegs ||| pRidge ||| pBat ||| pPorts) (State.offerWaiting s) := by
  unfold State.offerWaiting
  repeat' first
    | with_reducible assumption
    | with_reducible apply State.Keeps.refl
    | (with_reducible apply State.Keeps.step (State.offerAgain_keeps ..); on_goal 1 => decide)
    | (with_reducible apply State.Keeps.step (State.modRidge_keeps ..); on_goal 1 => decide)
    | with_reducible apply State.Keeps.foldl
    | (intro _; intros; beta_reduce)

theorem State.commitSlot_keeps (s : State) (places : Nat) : s.Keeps (pRegs ||| pStaged ||| pFreeCtr ||| pHost ||| pRidge ||| pBat ||| pPorts ||| pSlices ||| pJtl ||| pSoffit ||| pOtp ||| pRunning ||| pMtr ||| pSlate ||| pTha ||| pUpd ||| pBoot) (State.commitSlot s places) := by
  unfold State.commitSlot
  repeat' first
    | with_reducible assumption
    | with_reducible apply State.Keeps.refl
    | (extract_lets +onlyGivenNames t; (refine State.Keeps.cut (t := t) ?_ (fun _ => ?_)) <;> [subst t; clear_value t])
    | (extract_lets +onlyGivenNames x; first | clear_value x | subst x)
    | (with_reducible apply State.Keeps.step (State.offerWaiting_keeps ..); on_goal 1 => decide)
    | (with_reducible apply State.Keeps.step (State.takeRdgCfg_keeps ..); on_goal 1 => decide)
    | (with_reducible apply State.Keeps.step (State.endSlot_keeps ..); on_goal 1 => decide)
    | (with_reducible apply State.Keeps.step (State.slotOp_keeps ..); on_goal 1 => decide)
    | (with_reducible apply State.Keeps.step (State.slotOp_keeps_of (by assumption)); on_goal 1 => decide)
    | (with_reducible apply State.Keeps.step (State.modRidge_keeps ..); on_goal 1 => decide)
    | (with_reducible apply State.Keeps.step (State.wrapInc_keeps ..); on_goal 1 => decide)
    | with_reducible apply State.Keeps.foldl
    | with_reducible apply State.Keeps.foldl_fst
    | with_reducible apply State.Keeps.foldl_snd
    | (intro _; intros; beta_reduce)

theorem State.orderClose_keeps (s : State) (n : Fin 16) : s.Keeps (pRegs ||| pStaged) (State.orderClose s n) := by
  unfold State.orderClose
  repeat' first
    | with_reducible assumption
    | with_reducible apply State.Keeps.refl
    | (with_reducible apply State.Keeps.ite <;> intro _)
    | (with_reducible apply State.Keeps.step (State.beginClose_keeps ..); on_goal 1 => decide)

theorem State.orderStart_keeps (s : State) (n : Fin 16) : s.Keeps (pRegs ||| pStaged ||| pPorts ||| pSlices) (State.orderStart s n) := by
  unfold State.orderStart
  repeat' first
    | with_reducible assumption
    | with_reducible apply State.Keeps.refl
    | (with_reducible apply State.Keeps.ite <;> intro _)
    | (with_reducible apply State.Keeps.step (State.startPush_keeps ..); on_goal 1 => decide)
    | (with_reducible apply State.Keeps.step (State.stageStart_keeps ..); on_goal 1 => decide)

theorem State.applyOp_keeps (s : State) (n : Fin 16) (o : Op) : s.Keeps (pRegs ||| pStaged ||| pFreeCtr ||| pRidge ||| pPorts ||| pSlices) (State.applyOp s n o) := by
  unfold State.applyOp
  repeat' first
    | with_reducible assumption
    | with_reducible apply State.Keeps.refl
    | (with_reducible apply State.Keeps.ite <;> intro _)
    | split
    | (with_reducible apply State.Keeps.step (State.orderStart_keeps ..); on_goal 1 => decide)
    | (with_reducible apply State.Keeps.step (State.setTarget_keeps ..); on_goal 1 => decide)
    | (with_reducible apply State.Keeps.step (State.selectCurve_keeps ..); on_goal 1 => decide)
    | (with_reducible apply State.Keeps.step (State.selectCurve_keeps_of (by assumption)); on_goal 1 => decide)
    | (with_reducible apply State.Keeps.step (State.vconnOn_keeps ..); on_goal 1 => decide)
    | (with_reducible apply State.Keeps.step (State.setWindow_keeps ..); on_goal 1 => decide)
    | (with_reducible apply State.Keeps.step (State.eaveOpen_keeps ..); on_goal 1 => decide)
    | (with_reducible apply State.Keeps.step (State.discharge_keeps ..); on_goal 1 => decide)
    | (with_reducible apply State.Keeps.step (State.setCurve_keeps ..); on_goal 1 => decide)
    | (with_reducible apply State.Keeps.step (State.legsOff_keeps ..); on_goal 1 => decide)
    | (with_reducible apply State.Keeps.step (State.modLoop_keeps ..); on_goal 1 => decide)
    | (with_reducible apply State.Keeps.step (State.vconnOff_keeps ..); on_goal 1 => decide)
    | (with_reducible apply State.Keeps.step (State.orderClose_keeps ..); on_goal 1 => decide)

theorem State.answerMsg_keeps (s : State) (n : Fin 16) (a : Answer) : s.Keeps pRidge (State.answerMsg s n a) := by
  unfold State.answerMsg
  repeat' first
    | with_reducible assumption
    | with_reducible apply State.Keeps.refl
    | (with_reducible apply State.Keeps.ite <;> intro _)
    | split
    | (with_reducible apply State.Keeps.step (State.setOp_keeps ..); on_goal 1 => decide)
    | (with_reducible apply State.Keeps.step (State.modRidge_keeps ..); on_goal 1 => decide)

theorem State.reoffer_keeps (s : State) (n : Fin 16) : s.Keeps (pRegs ||| pPorts) (State.reoffer s n) := by
  unfold State.reoffer
  repeat' first
    | with_reducible assumption
    | with_reducible apply State.Keeps.refl
    | (extract_lets +onlyGivenNames t; (refine State.Keeps.cut (t := t) ?_ (fun _ => ?_)) <;> [subst t; clear_value t])
    | (extract_lets +onlyGivenNames x; first | clear_value x | subst x)
    | (with_reducible apply State.Keeps.ite <;> intro _)
    | (with_reducible apply State.Keeps.step (State.modPort_keeps ..); on_goal 1 => decide)
    | (with_reducible apply State.Keeps.step (State.compose_keeps ..); on_goal 1 => decide)
    | (with_reducible apply State.Keeps.step (State.beginAms_keeps ..); on_goal 1 => decide)
    | (with_reducible apply State.Keeps.step (State.maskBit_keeps ..); on_goal 1 => decide)

end Sys2Proof.Machine
end

