-- ==== Sys2Proof/Laws/Views.lean ====
section
/-!
SUPPORT. What the operations of Machine/Views.lean may change, one lemma each.
-/

set_option linter.unusedTactic false
set_option linter.unreachableTactic false
set_option linter.tactic.unusedName false

namespace Sys2Proof.Machine

theorem State.latchRead_keeps (s : State) (hp : HostPort) (a : Nat) : s.Keeps (pHost ||| pBat) (State.latchRead s hp a).2 := by
  unfold State.latchRead
  repeat' first
    | with_reducible assumption
    | with_reducible apply State.Keeps.refl
    | split
    | (with_reducible apply State.Keeps.step (State.modBat_keeps ..); on_goal 1 => decide)
    | (with_reducible apply State.Keeps.step (State.modHp_keeps ..); on_goal 1 => decide)

theorem State.latchRead_keeps_of {s : State} {hp : HostPort} {a : Nat} {u : State} {x₁ : Word} (h : State.latchRead s hp a = (x₁, u)) : s.Keeps (pHost ||| pBat) u := by
  have := State.latchRead_keeps s hp a
  rwa [h] at this

theorem State.latchPage_keeps (s : State) (hp : HostPort) (a : Nat) : s.Keeps pHost (State.latchPage s hp a) := by
  unfold State.latchPage
  repeat' first
    | with_reducible assumption
    | with_reducible apply State.Keeps.refl
    | (with_reducible apply State.Keeps.step (State.modHp_keeps ..); on_goal 1 => decide)

theorem State.readEffect_keeps (s : State) (hp : HostPort) (a : Nat) : s.Keeps (pRegs ||| pHost) (State.readEffect s hp a) := by
  unfold State.readEffect
  repeat' first
    | with_reducible assumption
    | with_reducible apply State.Keeps.refl
    | (with_reducible apply State.Keeps.ite <;> intro _)
    | (with_reducible apply State.Keeps.step (State.clear_keeps ..); on_goal 1 => decide)
    | (with_reducible apply State.Keeps.step (State.modHp_keeps ..); on_goal 1 => decide)
    | (with_reducible apply State.Keeps.step (State.latchPage_keeps ..); on_goal 1 => decide)

theorem State.readFree_keeps (s : State) (a : Nat) : s.Keeps pFreeCtr (State.readFree s a) := by
  unfold State.readFree
  repeat' first
    | with_reducible assumption
    | with_reducible apply State.Keeps.refl
    | (with_reducible apply State.Keeps.ite <;> intro _)
    | (with_reducible apply State.Keeps.with_freeCtr; on_goal 1 => decide)

theorem State.readWord_keeps (s : State) (hp : HostPort) (a : Nat) : s.Keeps (pRegs ||| pFreeCtr ||| pHost ||| pBat) (State.readWord s hp a).2 := by
  unfold State.readWord
  repeat' first
    | with_reducible assumption
    | with_reducible apply State.Keeps.refl
    | split
    | (with_reducible apply State.Keeps.step (State.modHp_keeps ..); on_goal 1 => decide)
    | (with_reducible apply State.Keeps.step (State.readEffect_keeps ..); on_goal 1 => decide)
    | (with_reducible apply State.Keeps.step (State.latchRead_keeps ..); on_goal 1 => decide)
    | (with_reducible apply State.Keeps.step (State.latchRead_keeps_of (by assumption)); on_goal 1 => decide)
    | (with_reducible apply State.Keeps.step (State.readFree_keeps ..); on_goal 1 => decide)

theorem State.readWord_keeps_of {s : State} {hp : HostPort} {a : Nat} {u : State} {x₁ : Word} (h : State.readWord s hp a = (x₁, u)) : s.Keeps (pRegs ||| pFreeCtr ||| pHost ||| pBat) u := by
  have := State.readWord_keeps s hp a
  rwa [h] at this

theorem State.readWords_keeps (s : State) (hp : HostPort) (l : List Nat) : s.Keeps (pRegs ||| pFreeCtr ||| pHost ||| pBat) (State.readWords s hp l).2 := by
  induction l generalizing s with
  | nil => exact State.Keeps.refl _ _
  | cons a l ih =>
    unfold State.readWords
    exact (State.readWord_keeps ..).trans (ih _)

theorem State.readWords_keeps_of {s : State} {hp : HostPort} {a : List Nat} {u : State} {x₁ : List Word} (h : State.readWords s hp a = (x₁, u)) : s.Keeps (pRegs ||| pFreeCtr ||| pHost ||| pBat) u := by
  have := State.readWords_keeps s hp a
  rwa [h] at this

end Sys2Proof.Machine
end

