-- ==== Sys2Proof/Laws/Host.lean ====
section
/-!
SUPPORT. What the operations of Machine/Host.lean may change, one lemma each.
-/

set_option linter.unusedTactic false
set_option linter.unreachableTactic false
set_option linter.tactic.unusedName false

namespace Sys2Proof.Machine

theorem State.crcFail_keeps (s : State) (hp : HostPort) : s.Keeps (pRegs ||| pHost) (State.crcFail s hp) := by
  unfold State.crcFail
  repeat' first
    | with_reducible assumption
    | with_reducible apply State.Keeps.refl
    | (with_reducible apply State.Keeps.step (State.satInc_keeps ..); on_goal 1 => decide)
    | (with_reducible apply State.Keeps.step (State.raise_keeps ..); on_goal 1 => decide)
    | (with_reducible apply State.Keeps.step (State.endWith_keeps ..); on_goal 1 => decide)

theorem State.tap_keeps (s : State) (hp : HostPort) : s.Keeps pJtag (State.tap s hp) := by
  unfold State.tap
  repeat' first
    | with_reducible assumption
    | with_reducible apply State.Keeps.refl
    | (with_reducible apply State.Keeps.ite <;> intro _)
    | (with_reducible apply State.Keeps.with_jtag; on_goal 1 => decide)

theorem State.giveWords_keeps (s : State) (hp : HostPort) (ws : List Word) : s.Keeps pHost (State.giveWords s hp ws) := by
  unfold State.giveWords
  repeat' first
    | with_reducible assumption
    | with_reducible apply State.Keeps.refl
    | (with_reducible apply State.Keeps.step (State.modHp_keeps ..); on_goal 1 => decide)

theorem State.readDone_keeps (s : State) (hp : HostPort) (addr : Nat) (count : Nat) (fin : ReadEnd) : s.Keeps (pRegs ||| pFreeCtr ||| pHost ||| pBat) (State.readDone s hp addr count fin) := by
  unfold State.readDone
  repeat' first
    | with_reducible assumption
    | with_reducible apply State.Keeps.refl
    | (with_reducible apply State.Keeps.ite <;> intro _)
    | split
    | (with_reducible apply State.Keeps.step (State.readWords_keeps ..); on_goal 1 => decide)
    | (with_reducible apply State.Keeps.step (State.readWords_keeps_of (by assumption)); on_goal 1 => decide)
    | (with_reducible apply State.Keeps.step (State.giveWords_keeps ..); on_goal 1 => decide)
    | (with_reducible apply State.Keeps.step (State.endWith_keeps ..); on_goal 1 => decide)
    | (with_reducible apply State.Keeps.with_freeCtr; on_goal 1 => decide)

theorem State.setPointer_keeps (s : State) (hp : HostPort) (p : Option (Nat × Nat)) : s.Keeps pHost (State.setPointer s hp p) := by
  unfold State.setPointer
  repeat' first
    | with_reducible assumption
    | with_reducible apply State.Keeps.refl
    | (with_reducible apply State.Keeps.ite <;> intro _)
    | (with_reducible apply State.Keeps.step (State.modHost_keeps ..); on_goal 1 => decide)

theorem State.readTxn_keeps (s : State) (hp : HostPort) (addr : Nat) (count : Nat) (fin : ReadEnd) : s.Keeps (pRegs ||| pFreeCtr ||| pHost ||| pBat ||| pJtag) (State.readTxn s hp addr count fin) := by
  unfold State.readTxn
  repeat' first
    | with_reducible assumption
    | with_reducible apply State.Keeps.refl
    | (extract_lets +onlyGivenNames t; (refine State.Keeps.cut (t := t) ?_ (fun _ => ?_)) <;> [subst t; clear_value t])
    | (extract_lets +onlyGivenNames x; first | clear_value x | subst x)
    | (with_reducible apply State.Keeps.ite <;> intro _)
    | split
    | (with_reducible apply State.Keeps.step (State.tap_keeps ..); on_goal 1 => decide)
    | (with_reducible apply State.Keeps.step (State.setPointer_keeps ..); on_goal 1 => decide)
    | (with_reducible apply State.Keeps.step (State.refuseTxn_keeps ..); on_goal 1 => decide)
    | (with_reducible apply State.Keeps.step (State.giveWords_keeps ..); on_goal 1 => decide)
    | (with_reducible apply State.Keeps.step (State.readDone_keeps ..); on_goal 1 => decide)

theorem State.checkRead_keeps (s : State) (hp : HostPort) (addr : Nat) (count : Nat) (ce : List (BitVec 17)) (ue : List (BitVec 17)) (fetchOk : Bool) : s.Keeps (pRegs ||| pStaged ||| pFreeCtr ||| pHost ||| pRidge ||| pBat ||| pPorts ||| pJtl ||| pSlate ||| pTha ||| pUpd ||| pBoot) (State.checkRead s hp addr count ce ue fetchOk) := by
  unfold State.checkRead
  repeat' first
    | with_reducible assumption
    | with_reducible apply State.Keeps.refl
    | (extract_lets +onlyGivenNames t; (refine State.Keeps.cut (t := t) ?_ (fun _ => ?_)) <;> [subst t; clear_value t])
    | (extract_lets +onlyGivenNames x; first | clear_value x | subst x)
    | (with_reducible apply State.Keeps.ite <;> intro _)
    | split
    | (with_reducible apply State.Keeps.step (State.scrubWords_keeps ..); on_goal 1 => decide)
    | (with_reducible apply State.Keeps.step (State.reportAll_keeps ..); on_goal 1 => decide)

theorem State.writeTxn_keeps (s : State) (hp : HostPort) (guard : Option (BitVec 16)) (addr : Nat) (data : List Word) (crcBad : Bool) : s.Keeps (pRegs ||| pHost ||| pBat ||| pJtag) (State.writeTxn s hp guard addr data crcBad) := by
  unfold State.writeTxn
  repeat' first
    | with_reducible assumption
    | with_reducible apply State.Keeps.refl
    | (extract_lets +onlyGivenNames t; (refine State.Keeps.cut (t := t) ?_ (fun _ => ?_)) <;> [subst t; clear_value t])
    | (extract_lets +onlyGivenNames x; first | clear_value x | subst x)
    | (with_reducible apply State.Keeps.ite <;> intro _)
    | split
    | (with_reducible apply State.Keeps.step (State.tap_keeps ..); on_goal 1 => decide)
    | (with_reducible apply State.Keeps.step (State.crcFail_keeps ..); on_goal 1 => decide)
    | (with_reducible apply State.Keeps.step (State.setPointer_keeps ..); on_goal 1 => decide)
    | (with_reducible apply State.Keeps.step (State.refuseTxn_keeps ..); on_goal 1 => decide)
    | (with_reducible apply State.Keeps.step (State.accept_keeps ..); on_goal 1 => decide)

theorem State.logGroup_keeps (s : State) (grp : List Order) (win : List Order) : s.Keeps (pRegs ||| pSlate) (State.logGroup s grp win) := by
  unfold State.logGroup
  repeat' first
    | with_reducible assumption
    | with_reducible apply State.Keeps.refl
    | (with_reducible apply State.Keeps.step (State.log_keeps ..); on_goal 1 => decide)

theorem State.alsoWon_keeps (s : State) (w : Order) (x : Order) : s.Keeps (pRegs ||| pHost ||| pRidge) (State.alsoWon s w x) := by
  unfold State.alsoWon
  repeat' first
    | with_reducible assumption
    | with_reducible apply State.Keeps.refl
    | (extract_lets +onlyGivenNames t; (refine State.Keeps.cut (t := t) ?_ (fun _ => ?_)) <;> [subst t; clear_value t])
    | (extract_lets +onlyGivenNames x; first | clear_value x | subst x)
    | (with_reducible apply State.Keeps.ite <;> intro _)
    | (with_reducible apply State.Keeps.step (State.modHost_keeps ..); on_goal 1 => decide)
    | (with_reducible apply State.Keeps.step (State.orderWon_keeps ..); on_goal 1 => decide)

theorem State.closeGroup_keeps (s : State) : s.Keeps (pRegs ||| pHost ||| pRidge ||| pBat ||| pSlate) (State.closeGroup s) := by
  unfold State.closeGroup
  repeat' first
    | with_reducible assumption
    | with_reducible apply State.Keeps.refl
    | (extract_lets +onlyGivenNames t; (refine State.Keeps.cut (t := t) ?_ (fun _ => ?_)) <;> [subst t; clear_value t])
    | (extract_lets +onlyGivenNames x; first | clear_value x | subst x)
    | (with_reducible apply State.Keeps.ite <;> intro _)
    | split
    | (with_reducible apply State.Keeps.step (State.logGroup_keeps ..); on_goal 1 => decide)
    | (with_reducible apply State.Keeps.step (State.loseTxn_keeps ..); on_goal 1 => decide)
    | (with_reducible apply State.Keeps.step (State.alsoWon_keeps ..); on_goal 1 => decide)
    | (with_reducible apply State.Keeps.step (State.modHost_keeps ..); on_goal 1 => decide)
    | (with_reducible apply State.Keeps.step (State.orderWon_keeps ..); on_goal 1 => decide)
    | with_reducible apply State.Keeps.foldl
    | with_reducible apply State.Keeps.foldl_fst
    | with_reducible apply State.Keeps.foldl_snd
    | (intro _; intros; beta_reduce)

theorem State.holdCan_keeps (s : State) (f : CanFrame) (txn : Option Nat) (resp : Option (Word × List Word)) : s.Keeps pHost (State.holdCan s f txn resp) := by
  unfold State.holdCan
  repeat' first
    | with_reducible assumption
    | with_reducible apply State.Keeps.refl
    | (with_reducible apply State.Keeps.step (State.modHost_keeps ..); on_goal 1 => decide)

theorem State.canWrite_keeps (s : State) (f : CanFrame) (guard : Option (BitVec 16)) : s.Keeps (pRegs ||| pHost ||| pBat) (State.canWrite s f guard) := by
  unfold State.canWrite
  repeat' first
    | with_reducible assumption
    | with_reducible apply State.Keeps.refl
    | (extract_lets +onlyGivenNames t; (refine State.Keeps.cut (t := t) ?_ (fun _ => ?_)) <;> [subst t; clear_value t])
    | (extract_lets +onlyGivenNames x; first | clear_value x | subst x)
    | (with_reducible apply State.Keeps.ite <;> intro _)
    | split
    | (with_reducible apply State.Keeps.step (State.holdCan_keeps ..); on_goal 1 => decide)
    | (with_reducible apply State.Keeps.step (State.refuseTxn_keeps ..); on_goal 1 => decide)
    | (with_reducible apply State.Keeps.step (State.accept_keeps ..); on_goal 1 => decide)

theorem State.canRead_keeps (s : State) (f : CanFrame) : s.Keeps (pRegs ||| pFreeCtr ||| pHost ||| pBat) (State.canRead s f) := by
  unfold State.canRead
  repeat' first
    | with_reducible assumption
    | with_reducible apply State.Keeps.refl
    | (extract_lets +onlyGivenNames t; (refine State.Keeps.cut (t := t) ?_ (fun _ => ?_)) <;> [subst t; clear_value t])
    | (extract_lets +onlyGivenNames x; first | clear_value x | subst x)
    | (with_reducible apply State.Keeps.ite <;> intro _)
    | split
    | (with_reducible apply State.Keeps.step (State.readWords_keeps ..); on_goal 1 => decide)
    | (with_reducible apply State.Keeps.step (State.readWords_keeps_of (by assumption)); on_goal 1 => decide)
    | (with_reducible apply State.Keeps.step (State.holdCan_keeps ..); on_goal 1 => decide)
    | (with_reducible apply State.Keeps.step (State.refuseTxn_keeps ..); on_goal 1 => decide)
    | (with_reducible apply State.Keeps.step (State.endWith_keeps ..); on_goal 1 => decide)
    | (with_reducible apply State.Keeps.with_freeCtr; on_goal 1 => decide)

theorem State.canNew_keeps (s : State) (f : CanFrame) : s.Keeps (pRegs ||| pFreeCtr ||| pHost ||| pBat) (State.canNew s f) := by
  unfold State.canNew
  repeat' first
    | with_reducible assumption
    | with_reducible apply State.Keeps.refl
    | (extract_lets +onlyGivenNames t; (refine State.Keeps.cut (t := t) ?_ (fun _ => ?_)) <;> [subst t; clear_value t])
    | (extract_lets +onlyGivenNames x; subst x)
    | (with_reducible apply State.Keeps.ite <;> intro _)
    | (with_reducible apply State.Keeps.step (State.canRead_keeps ..); on_goal 1 => decide)
    | (with_reducible apply State.Keeps.step (State.holdCan_keeps ..); on_goal 1 => decide)
    | (with_reducible apply State.Keeps.step (State.canWrite_keeps ..); on_goal 1 => decide)
    | (with_reducible apply State.Keeps.step (State.endWith_keeps ..); on_goal 1 => decide)
    | (with_reducible apply State.Keeps.step (State.modHost_keeps ..); on_goal 1 => decide)

theorem State.canAnswered_keeps (s : State) (h : CanHeld) : s.Keeps (pRegs ||| pFreeCtr ||| pHost ||| pBat) (State.canAnswered s h) := by
  unfold State.canAnswered
  repeat' first
    | with_reducible assumption
    | with_reducible apply State.Keeps.refl
    | (extract_lets +onlyGivenNames t; (refine State.Keeps.cut (t := t) ?_ (fun _ => ?_)) <;> [subst t; clear_value t])
    | (extract_lets +onlyGivenNames x; first | clear_value x | subst x)
    | (with_reducible apply State.Keeps.ite <;> intro _)
    | split
    | (with_reducible apply State.Keeps.step (State.readWords_keeps ..); on_goal 1 => decide)
    | (with_reducible apply State.Keeps.step (State.readWords_keeps_of (by assumption)); on_goal 1 => decide)
    | (with_reducible apply State.Keeps.step (State.giveWords_keeps ..); on_goal 1 => decide)
    | (with_reducible apply State.Keeps.step (State.modHost_keeps ..); on_goal 1 => decide)

end Sys2Proof.Machine
end

