-- ==== Sys2Proof/Laws/Jtag.lean ====
section
/-!
SUPPORT. What the operations of Machine/Jtag.lean may change, one lemma each.
-/

set_option linter.unusedTactic false
set_option linter.unreachableTactic false
set_option linter.tactic.unusedName false

namespace Sys2Proof.Machine

theorem State.modJtag_keeps (s : State) (f : JtagSt → JtagSt) : s.Keeps pJtag (State.modJtag s f) := by
  unfold State.modJtag
  repeat' first
    | with_reducible assumption
    | with_reducible apply State.Keeps.refl
    | (with_reducible apply State.Keeps.with_jtag; on_goal 1 => decide)

theorem State.passive_keeps (s : State) (code : Nat) (level : Nat) (dr : Word) : s.Keeps pJtag (State.passive s code level dr) := by
  unfold State.passive
  repeat' first
    | with_reducible assumption
    | with_reducible apply State.Keeps.refl
    | (extract_lets +onlyGivenNames t; (refine State.Keeps.cut (t := t) ?_ (fun _ => ?_)) <;> [subst t; clear_value t])
    | (extract_lets +onlyGivenNames x; first | clear_value x | subst x)
    | (with_reducible apply State.Keeps.ite <;> intro _)
    | (with_reducible apply State.Keeps.step (State.selectIr_keeps ..); on_goal 1 => decide)
    | (with_reducible apply State.Keeps.step (State.modJtag_keeps ..); on_goal 1 => decide)

theorem State.testStop_keeps (s : State) : s.Keeps (pRegs ||| pFreeCtr ||| pRidge ||| pPorts ||| pSlices ||| pJtl ||| pBoot) (State.testStop s) := by
  unfold State.testStop
  repeat' first
    | with_reducible assumption
    | with_reducible apply State.Keeps.refl
    | (extract_lets +onlyGivenNames t; (refine State.Keeps.cut (t := t) ?_ (fun _ => ?_)) <;> [subst t; clear_value t])
    | (extract_lets +onlyGivenNames x; first | clear_value x | subst x)
    | (with_reducible apply State.Keeps.ite <;> intro _)
    | (with_reducible apply State.Keeps.step (State.eaveOpen_keeps ..); on_goal 1 => decide)
    | (with_reducible apply State.Keeps.step (State.legsOff_keeps ..); on_goal 1 => decide)
    | (with_reducible apply State.Keeps.step (State.goErrRec_keeps ..); on_goal 1 => decide)
    | with_reducible apply State.Keeps.foldl
    | (intro _; intros; beta_reduce)

theorem State.takeBalls_keeps (s : State) (code : Nat) (how : Nat) : s.Keeps (pRegs ||| pFreeCtr ||| pRidge ||| pPorts ||| pSlices ||| pJtl ||| pBoot ||| pJtag) (State.takeBalls s code how) := by
  unfold State.takeBalls
  repeat' first
    | with_reducible assumption
    | with_reducible apply State.Keeps.refl
    | (extract_lets +onlyGivenNames t; (refine State.Keeps.cut (t := t) ?_ (fun _ => ?_)) <;> [subst t; clear_value t])
    | (extract_lets +onlyGivenNames x; first | clear_value x | subst x)
    | (with_reducible apply State.Keeps.ite <;> intro _)
    | (with_reducible apply State.Keeps.step (State.testStop_keeps ..); on_goal 1 => decide)
    | (with_reducible apply State.Keeps.step (State.selectIr_keeps ..); on_goal 1 => decide)
    | (with_reducible apply State.Keeps.step (State.modJtag_keeps ..); on_goal 1 => decide)

end Sys2Proof.Machine
end

