-- ==== Sys2Proof/Laws/Loop.lean ====
section
/-!
SUPPORT. What the operations of Machine/Loop.lean may change, one lemma each.
-/

set_option linter.unusedTactic false
set_option linter.unreachableTactic false
set_option linter.tactic.unusedName false

namespace Sys2Proof.Machine

theorem State.stepRef_keeps (s : State) (n : Fin 16) : s.Keeps (pRegs ||| pPorts) (State.stepRef s n) := by
  unfold State.stepRef
  repeat' first
    | with_reducible assumption
    | with_reducible apply State.Keeps.refl
    | (extract_lets +onlyGivenNames t; (refine State.Keeps.cut (t := t) ?_ (fun _ => ?_)) <;> [subst t; clear_value t])
    | (extract_lets +onlyGivenNames x; first | clear_value x | subst x)
    | (with_reducible apply State.Keeps.ite <;> intro _)
    | (with_reducible apply State.Keeps.step (State.showRef_keeps ..); on_goal 1 => decide)
    | (with_reducible apply State.Keeps.step (State.modLoop_keeps ..); on_goal 1 => decide)

theorem State.keepBlock_keeps (s : State) (n : Fin 16) (m : Nat) : s.Keeps pPorts (State.keepBlock s n m) := by
  unfold State.keepBlock
  repeat' first
    | with_reducible assumption
    | with_reducible apply State.Keeps.refl
    | (extract_lets +onlyGivenNames t; (refine State.Keeps.cut (t := t) ?_ (fun _ => ?_)) <;> [subst t; clear_value t])
    | (extract_lets +onlyGivenNames x; first | clear_value x | subst x)
    | (with_reducible apply State.Keeps.ite <;> intro _)
    | (with_reducible apply State.Keeps.step (State.modLoop_keeps ..); on_goal 1 => decide)

theorem State.drive_keeps (s : State) (n : Fin 16) (m : Nat) : s.Keeps (pRegs ||| pSlices) (State.drive s n m) := by
  unfold State.drive
  repeat' first
    | with_reducible assumption
    | with_reducible apply State.Keeps.refl
    | (extract_lets +onlyGivenNames t; (refine State.Keeps.cut (t := t) ?_ (fun _ => ?_)) <;> [subst t; clear_value t])
    | (extract_lets +onlyGivenNames x; first | clear_value x | subst x)
    | split
    | (with_reducible apply State.Keeps.step (State.put_keeps ..); on_goal 1 => decide)
    | (with_reducible apply State.Keeps.step (State.deliver_keeps ..); on_goal 1 => decide)

theorem State.keepFreeze_keeps (s : State) (n : Fin 16) (ctrlI : Bool) (codes : Nat) (u : Int) : s.Keeps pPorts (State.keepFreeze s n ctrlI codes u) := by
  unfold State.keepFreeze
  repeat' first
    | with_reducible assumption
    | with_reducible apply State.Keeps.refl
    | (with_reducible apply State.Keeps.ite <;> intro _)
    | (with_reducible apply State.Keeps.step (State.modLoop_keeps ..); on_goal 1 => decide)

theorem State.loopSample_keeps (s : State) (n : Fin 16) (v : List (BitVec 12)) (i : List (BitVec 12)) (other : List (BitVec 12)) : s.Keeps (pRegs ||| pStaged ||| pPorts ||| pSlices) (State.loopSample s n v i other) := by
  unfold State.loopSample
  repeat' first
    | with_reducible assumption
    | with_reducible apply State.Keeps.refl
    | (extract_lets +onlyGivenNames t; (refine State.Keeps.cut (t := t) ?_ (fun _ => ?_)) <;> [subst t; clear_value t])
    | (extract_lets +onlyGivenNames x; first | clear_value x | subst x)
    | (with_reducible apply State.Keeps.ite <;> intro _)
    | split
    | (with_reducible apply State.Keeps.step (State.keepFreeze_keeps ..); on_goal 1 => decide)
    | (with_reducible apply State.Keeps.step (State.keepBlock_keeps ..); on_goal 1 => decide)
    | (with_reducible apply State.Keeps.step (State.takeStaged_keeps ..); on_goal 1 => decide)
    | (with_reducible apply State.Keeps.step (State.drive_keeps ..); on_goal 1 => decide)
    | (with_reducible apply State.Keeps.step (State.stepRef_keeps ..); on_goal 1 => decide)
    | (with_reducible apply State.Keeps.step (State.flag_keeps ..); on_goal 1 => decide)
    | (with_reducible apply State.Keeps.step (State.modLoop_keeps ..); on_goal 1 => decide)

theorem State.measure_keeps (s : State) (n : Fin 16) : s.Keeps (pRegs ||| pPorts) (State.measure s n) := by
  unfold State.measure
  repeat' first
    | with_reducible assumption
    | with_reducible apply State.Keeps.refl
    | (extract_lets +onlyGivenNames t; (refine State.Keeps.cut (t := t) ?_ (fun _ => ?_)) <;> [subst t; clear_value t])
    | (extract_lets +onlyGivenNames x; first | clear_value x | subst x)
    | (with_reducible apply State.Keeps.step (State.raise_keeps ..); on_goal 1 => decide)
    | (with_reducible apply State.Keeps.step (State.put_keeps ..); on_goal 1 => decide)
    | (with_reducible apply State.Keeps.step (State.flag_keeps ..); on_goal 1 => decide)
    | (with_reducible apply State.Keeps.step (State.modLoop_keeps ..); on_goal 1 => decide)

theorem State.lastGood_keeps (s : State) (n : Fin 16) (run : Nat) : s.Keeps pFreeCtr (State.lastGood s n run).2 := by
  unfold State.lastGood
  repeat' first
    | with_reducible assumption
    | with_reducible apply State.Keeps.refl
    | (extract_lets +onlyGivenNames t; (refine State.Keeps.cut (t := t) ?_ (fun _ => ?_)) <;> [subst t; clear_value t])
    | (extract_lets +onlyGivenNames x; first | clear_value x | subst x)
    | split
    | (with_reducible apply State.Keeps.step (State.free_keeps ..); on_goal 1 => decide)
    | (with_reducible apply State.Keeps.step (State.free_keeps_of (by assumption)); on_goal 1 => decide)

theorem State.lastGood_keeps_of {s : State} {n : Fin 16} {run : Nat} {u : State} {x₁ : Nat} (h : State.lastGood s n run = (x₁, u)) : s.Keeps pFreeCtr u := by
  have := State.lastGood_keeps s n run
  rwa [h] at this

theorem State.beginConfirm_keeps (s : State) (n : Fin 16) (run : Nat) : s.Keeps (pRegs ||| pFreeCtr ||| pBat ||| pPorts ||| pSlices) (State.beginConfirm s n run) := by
  unfold State.beginConfirm
  repeat' first
    | with_reducible assumption
    | with_reducible apply State.Keeps.refl
    | (extract_lets +onlyGivenNames t; (refine State.Keeps.cut (t := t) ?_ (fun _ => ?_)) <;> [subst t; clear_value t])
    | (extract_lets +onlyGivenNames x; first | clear_value x | subst x)
    | split
    | (with_reducible apply State.Keeps.step (State.drive_keeps ..); on_goal 1 => decide)
    | (with_reducible apply State.Keeps.step (State.firePort_keeps ..); on_goal 1 => decide)
    | (with_reducible apply State.Keeps.step (State.lastGood_keeps ..); on_goal 1 => decide)
    | (with_reducible apply State.Keeps.step (State.lastGood_keeps_of (by assumption)); on_goal 1 => decide)
    | (with_reducible apply State.Keeps.step (State.raise_keeps ..); on_goal 1 => decide)
    | (with_reducible apply State.Keeps.step (State.put_keeps ..); on_goal 1 => decide)
    | (with_reducible apply State.Keeps.step (State.modLoop_keeps ..); on_goal 1 => decide)

end Sys2Proof.Machine
end

