-- ==== Sys2Proof/Laws/Meter.lean ====
section
/-!
SUPPORT. What the operations of Machine/Meter.lean may change, one lemma each.
-/

set_option linter.unusedTactic false
set_option linter.unreachableTactic false
set_option linter.tactic.unusedName false

namespace Sys2Proof.Machine

theorem State.applyTime_keeps (s : State) : s.Keeps (pRegs ||| pBat ||| pSoffit ||| pMtr ||| pSlate) (State.applyTime s) := by
  unfold State.applyTime
  repeat' first
    | with_reducible assumption
    | with_reducible apply State.Keeps.refl
    | (extract_lets +onlyGivenNames t; (refine State.Keeps.cut (t := t) ?_ (fun _ => ?_)) <;> [subst t; clear_value t])
    | (extract_lets +onlyGivenNames x; first | clear_value x | subst x)
    | (with_reducible apply State.Keeps.ite <;> intro _)
    | split
    | (with_reducible apply State.Keeps.step (State.clear_keeps ..); on_goal 1 => decide)
    | (with_reducible apply State.Keeps.step (State.closeIv_keeps ..); on_goal 1 => decide)
    | (with_reducible apply State.Keeps.step (State.log_keeps ..); on_goal 1 => decide)
    | (with_reducible apply State.Keeps.step (State.raise_keeps ..); on_goal 1 => decide)
    | (with_reducible apply State.Keeps.step (State.showMtr_keeps ..); on_goal 1 => decide)
    | (with_reducible apply State.Keeps.step (State.modMtr_keeps ..); on_goal 1 => decide)
    | (with_reducible apply State.Keeps.step (State.beginGap_keeps ..); on_goal 1 => decide)
    | (with_reducible apply State.Keeps.step (State.rebandAll_keeps ..); on_goal 1 => decide)
    | (with_reducible apply State.Keeps.with_soffit; on_goal 1 => decide)

theorem State.alarm_keeps (s : State) : s.Keeps (pRegs ||| pBat) (State.alarm s) := by
  unfold State.alarm
  repeat' first
    | with_reducible assumption
    | with_reducible apply State.Keeps.refl
    | (with_reducible apply State.Keeps.ite <;> intro _)
    | (with_reducible apply State.Keeps.step (State.fire_keeps ..); on_goal 1 => decide)
    | (with_reducible apply State.Keeps.step (State.clear_keeps ..); on_goal 1 => decide)
    | (with_reducible apply State.Keeps.step (State.wake_keeps ..); on_goal 1 => decide)
    | (with_reducible apply State.Keeps.step (State.raise_keeps ..); on_goal 1 => decide)

theorem State.endSecond_keeps (s : State) : s.Keeps pMtr (State.endSecond s) := by
  unfold State.endSecond
  repeat' first
    | with_reducible assumption
    | with_reducible apply State.Keeps.refl
    | (with_reducible apply State.Keeps.ite <;> intro _)
    | (with_reducible apply State.Keeps.step (State.modMeter_keeps ..); on_goal 1 => decide)
    | with_reducible apply State.Keeps.foldl
    | (intro _; intros; beta_reduce)

theorem State.framCopy_keeps (s : State) (ty : Nat) (off : Nat) : s.Keeps pSlate (State.framCopy s ty off) := by
  unfold State.framCopy
  repeat' first
    | with_reducible assumption
    | with_reducible apply State.Keeps.refl
    | (with_reducible apply State.Keeps.ite <;> intro _)
    | (with_reducible apply State.Keeps.step (State.modSlate_keeps ..); on_goal 1 => decide)

theorem State.markLate_keeps (s : State) (o : BandOp) : s.Keeps pRegs (State.markLate s o) := by
  unfold State.markLate
  repeat' first
    | with_reducible assumption
    | with_reducible apply State.Keeps.refl
    | (with_reducible apply State.Keeps.ite <;> intro _)
    | split
    | (with_reducible apply State.Keeps.step (State.raise_keeps ..); on_goal 1 => decide)

theorem State.closeDue_keeps (s : State) : s.Keeps (pRegs ||| pBat ||| pMtr ||| pSlate) (State.closeDue s) := by
  unfold State.closeDue
  repeat' first
    | with_reducible assumption
    | with_reducible apply State.Keeps.refl
    | (extract_lets +onlyGivenNames t; (refine State.Keeps.cut (t := t) ?_ (fun _ => ?_)) <;> [subst t; clear_value t])
    | (extract_lets +onlyGivenNames x; first | clear_value x | subst x)
    | (with_reducible apply State.Keeps.ite <;> intro _)
    | split
    | (with_reducible apply State.Keeps.step (State.markLate_keeps ..); on_goal 1 => decide)
    | (with_reducible apply State.Keeps.step (State.closeIv_keeps ..); on_goal 1 => decide)
    | (with_reducible apply State.Keeps.step (State.openIv_keeps ..); on_goal 1 => decide)
    | (with_reducible apply State.Keeps.step (State.put_keeps ..); on_goal 1 => decide)
    | (with_reducible apply State.Keeps.step (State.modMtr_keeps ..); on_goal 1 => decide)

theorem State.takeBands_keeps (s : State) (os : List BandOp) : s.Keeps (pRegs ||| pBat ||| pMtr ||| pSlate) (State.takeBands s os) := by
  unfold State.takeBands
  repeat' first
    | with_reducible assumption
    | with_reducible apply State.Keeps.refl
    | (extract_lets +onlyGivenNames t; (refine State.Keeps.cut (t := t) ?_ (fun _ => ?_)) <;> [subst t; clear_value t])
    | (extract_lets +onlyGivenNames x; first | clear_value x | subst x)
    | split
    | (with_reducible apply State.Keeps.step (State.markLate_keeps ..); on_goal 1 => decide)
    | (with_reducible apply State.Keeps.step (State.switchBand_keeps ..); on_goal 1 => decide)
    | with_reducible apply State.Keeps.foldl
    | with_reducible apply State.Keeps.foldl_fst
    | with_reducible apply State.Keeps.foldl_snd
    | (intro _; intros; beta_reduce)

theorem State.eraseSector_keeps (s : State) (x : Sector) : s.Keeps (pRegs ||| pBat ||| pSlate) (State.eraseSector s x) := by
  unfold State.eraseSector
  repeat' first
    | with_reducible assumption
    | with_reducible apply State.Keeps.refl
    | (extract_lets +onlyGivenNames t; (refine State.Keeps.cut (t := t) ?_ (fun _ => ?_)) <;> [subst t; clear_value t])
    | (extract_lets +onlyGivenNames x; first | clear_value x | subst x)
    | (with_reducible apply State.Keeps.ite <;> intro _)
    | (with_reducible apply State.Keeps.step (State.fire_keeps ..); on_goal 1 => decide)
    | (with_reducible apply State.Keeps.step (State.modSlate_keeps ..); on_goal 1 => decide)
    | (with_reducible apply State.Keeps.step (State.showRing_keeps ..); on_goal 1 => decide)

theorem State.retireSector_keeps (s : State) (k : Nat) : s.Keeps (pRegs ||| pBat ||| pSlate) (State.retireSector s k) := by
  unfold State.retireSector
  repeat' first
    | with_reducible assumption
    | with_reducible apply State.Keeps.refl
    | (extract_lets +onlyGivenNames t; (refine State.Keeps.cut (t := t) ?_ (fun _ => ?_)) <;> [subst t; clear_value t])
    | (extract_lets +onlyGivenNames x; first | clear_value x | subst x)
    | (with_reducible apply State.Keeps.ite <;> intro _)
    | split
    | (with_reducible apply State.Keeps.step (State.fire_keeps ..); on_goal 1 => decide)
    | (with_reducible apply State.Keeps.step (State.modSlate_keeps ..); on_goal 1 => decide)
    | (with_reducible apply State.Keeps.step (State.showRing_keeps ..); on_goal 1 => decide)
    | (with_reducible apply State.Keeps.step (State.logFault_keeps ..); on_goal 1 => decide)

theorem State.restorePort_keeps (s : State) (n : Fin 16) (w : List Word) : s.Keeps (pRegs ||| pMtr) (State.restorePort s n w) := by
  unfold State.restorePort
  repeat' first
    | with_reducible assumption
    | with_reducible apply State.Keeps.refl
    | (extract_lets +onlyGivenNames t; (refine State.Keeps.cut (t := t) ?_ (fun _ => ?_)) <;> [subst t; clear_value t])
    | (extract_lets +onlyGivenNames x; first | clear_value x | subst x)
    | (with_reducible apply State.Keeps.ite <;> intro _)
    | (with_reducible apply State.Keeps.step (State.modMeter_keeps ..); on_goal 1 => decide)
    | (with_reducible apply State.Keeps.step (State.put_keeps ..); on_goal 1 => decide)

theorem State.logShort_keeps (s : State) (w : List Word) : s.Keeps (pRegs ||| pFreeCtr ||| pSlate) (State.logShort s w) := by
  unfold State.logShort
  extract_lets d
  split
  rename_i ps t h
  have e := congrArg Prod.snd h
  dsimp only at e
  apply State.Keeps.step (State.log_keeps ..)
  · decide
  rw [← e]
  refine State.Keeps.foldl_snd (fun p x hp => ?_) (State.Keeps.refl _ _)
  exact hp.trans ((State.free_keeps p.2).mono (by decide))

theorem State.logRestore_keeps (s : State) : s.Keeps (pRegs ||| pFreeCtr ||| pSlate) (State.logRestore s) := by
  unfold State.logRestore
  repeat' first
    | with_reducible assumption
    | with_reducible apply State.Keeps.refl
    | (extract_lets +onlyGivenNames t; (refine State.Keeps.cut (t := t) ?_ (fun _ => ?_)) <;> [subst t; clear_value t])
    | (extract_lets +onlyGivenNames x; first | clear_value x | subst x)
    | (with_reducible apply State.Keeps.step (State.free_keeps ..); on_goal 1 => decide)
    | (with_reducible apply State.Keeps.step (State.free_keeps_of (by assumption)); on_goal 1 => decide)
    | (with_reducible apply State.Keeps.step (State.log_keeps ..); on_goal 1 => decide)

theorem State.drainBlock_keeps (s : State) : s.Keeps (pRegs ||| pBat ||| pSlate) (State.drainBlock s) := by
  unfold State.drainBlock
  repeat' first
    | with_reducible assumption
    | with_reducible apply State.Keeps.refl
    | (extract_lets +onlyGivenNames t; (refine State.Keeps.cut (t := t) ?_ (fun _ => ?_)) <;> [subst t; clear_value t])
    | (extract_lets +onlyGivenNames x; first | clear_value x | subst x)
    | (with_reducible apply State.Keeps.ite <;> intro _)
    | split
    | (with_reducible apply State.Keeps.step (State.ringWrite_keeps_of (by assumption)); on_goal 1 => decide)
    | (with_reducible apply State.Keeps.step (State.freeEntries_keeps ..); on_goal 1 => decide)

theorem State.lastGasp_keeps (s : State) (off : Nat) (reports : List (Option Int)) : s.Keeps (pRegs ||| pBat ||| pMtr ||| pSlate) (State.lastGasp s off reports) := by
  unfold State.lastGasp
  repeat' first
    | with_reducible assumption
    | with_reducible apply State.Keeps.refl
    | (extract_lets +onlyGivenNames t; (refine State.Keeps.cut (t := t) ?_ (fun _ => ?_)) <;> [subst t; clear_value t])
    | (extract_lets +onlyGivenNames x; first | clear_value x | subst x)
    | (with_reducible apply State.Keeps.ite <;> intro _)
    | split
    | (with_reducible apply State.Keeps.step (State.fire_keeps ..); on_goal 1 => decide)
    | (with_reducible apply State.Keeps.step (State.ringWrite_keeps_of (by assumption)); on_goal 1 => decide)
    | (with_reducible apply State.Keeps.step (State.energyTaken_keeps ..); on_goal 1 => decide)
    | (with_reducible apply State.Keeps.step (State.framCopy_keeps ..); on_goal 1 => decide)
    | (with_reducible apply State.Keeps.step (State.modSlate_keeps ..); on_goal 1 => decide)
    | (with_reducible apply State.Keeps.step (State.takeReports_keeps ..); on_goal 1 => decide)
    | (with_reducible apply State.Keeps.step (State.modMtr_keeps ..); on_goal 1 => decide)

end Sys2Proof.Machine
end

