-- ==== Sys2Proof/Laws/PdMsg.lean ====
section
/-!
SUPPORT. What the operations of Machine/PdMsg.lean may change, one lemma each.
-/

set_option linter.unusedTactic false
set_option linter.unreachableTactic false
set_option linter.tactic.unusedName false

namespace Sys2Proof.Machine

theorem State.freeWords_keeps (s : State) (k : Nat) : s.Keeps pFreeCtr (State.freeWords s k).2 := by
  induction k generalizing s with
  | zero => exact State.Keeps.refl _ _
  | succ k ih =>
    unfold State.freeWords
    exact State.Keeps.trans (State.Keeps.with_freeCtr _ (by decide) (State.Keeps.refl _ _)) (ih _)

theorem State.freeWords_keeps_of {s : State} {a : Nat} {u : State} {x₁ : List Word} (h : State.freeWords s a = (x₁, u)) : s.Keeps pFreeCtr u := by
  have := State.freeWords_keeps s a
  rwa [h] at this

theorem State.sendFree_keeps (s : State) (n : Fin 16) (name : MsgName) (k : Nat) : s.Keeps (pFreeCtr ||| pPorts) (State.sendFree s n name k) := by
  unfold State.sendFree
  repeat' first
    | with_reducible assumption
    | with_reducible apply State.Keeps.refl
    | split
    | (with_reducible apply State.Keeps.step (State.freeWords_keeps ..); on_goal 1 => decide)
    | (with_reducible apply State.Keeps.step (State.freeWords_keeps_of (by assumption)); on_goal 1 => decide)
    | (with_reducible apply State.Keeps.step (State.send_keeps ..); on_goal 1 => decide)

theorem State.extended_keeps {s₀ s : State} {n : Fin 16} {ans : State → State} {m : Nat} (hm : pPorts ||| m = m) (hans : ∀ u, s₀.Keeps m u → s₀.Keeps m (ans u)) (hs : s₀.Keeps m s) :
    s₀.Keeps m (State.extended s n ans) := by
  unfold State.extended
  repeat' first
    | with_reducible assumption
    | (with_reducible apply State.Keeps.ite <;> intro _)
    | with_reducible apply hans
    | (with_reducible apply State.Keeps.step (State.ns_keeps ..); on_goal 1 => exact or_sub (by decide) hm)

theorem State.answerCaps_keeps (s : State) (n : Fin 16) (epr : Bool) : s.Keeps (pRegs ||| pPorts) (State.answerCaps s n epr) := by
  unfold State.answerCaps
  repeat' first
    | with_reducible assumption
    | with_reducible apply State.Keeps.refl
    | (with_reducible apply State.Keeps.step (State.composeAs_keeps ..); on_goal 1 => decide)
    | (with_reducible apply State.Keeps.step (State.sendCached_keeps ..); on_goal 1 => decide)

theorem State.sendStatus_keeps (s : State) (n : Fin 16) : s.Keeps (pFreeCtr ||| pPorts) (State.sendStatus s n) := by
  unfold State.sendStatus
  repeat' first
    | with_reducible assumption
    | with_reducible apply State.Keeps.refl
    | (extract_lets +onlyGivenNames t; (refine State.Keeps.cut (t := t) ?_ (fun _ => ?_)) <;> [subst t; clear_value t])
    | (extract_lets +onlyGivenNames x; first | clear_value x | subst x)
    | (with_reducible apply State.Keeps.ite <;> intro _)
    | split
    | (with_reducible apply State.Keeps.step (State.freeWords_keeps ..); on_goal 1 => decide)
    | (with_reducible apply State.Keeps.step (State.freeWords_keeps_of (by assumption)); on_goal 1 => decide)
    | (with_reducible apply State.Keeps.step (State.send_keeps ..); on_goal 1 => decide)

theorem State.bistIn_keeps (s : State) (n : Fin 16) (carrier : Bool) : s.Keeps pPorts (State.bistIn s n carrier) := by
  unfold State.bistIn
  repeat' first
    | with_reducible assumption
    | with_reducible apply State.Keeps.refl
    | (with_reducible apply State.Keeps.ite <;> intro _)
    | split
    | (with_reducible apply State.Keeps.step (State.modPd_keeps ..); on_goal 1 => decide)

end Sys2Proof.Machine
end

