-- ==== Sys2Proof/Laws/Relay.lean ====
section
/-!
SUPPORT. What the operations of Machine/Relay.lean may change, one lemma each.
-/

set_option linter.unusedTactic false
set_option linter.unreachableTactic false
set_option linter.tactic.unusedName false

namespace Sys2Proof.Machine

theorem State.hostReady_keeps (s : State) (addr : Nat) : s.Keeps (pRegs ||| pHost ||| pBat ||| pTha) (State.hostReady s addr) := by
  unfold State.hostReady
  repeat' first
    | with_reducible assumption
    | with_reducible apply State.Keeps.refl
    | (extract_lets +onlyGivenNames t; (refine State.Keeps.cut (t := t) ?_ (fun _ => ?_)) <;> [subst t; clear_value t])
    | (extract_lets +onlyGivenNames x; first | clear_value x | subst x)
    | (with_reducible apply State.Keeps.ite <;> intro _)
    | split
    | (with_reducible apply State.Keeps.step (State.bootGrants_keeps ..); on_goal 1 => decide)
    | (with_reducible apply State.Keeps.step (State.fire_keeps ..); on_goal 1 => decide)
    | (with_reducible apply State.Keeps.step (State.modBat_keeps ..); on_goal 1 => decide)
    | (with_reducible apply State.Keeps.step (State.releaseHost_keeps ..); on_goal 1 => decide)
    | (with_reducible apply State.Keeps.step (State.modTha_keeps ..); on_goal 1 => decide)
    | (with_reducible apply State.Keeps.step (State.maskBit_keeps ..); on_goal 1 => decide)
    | (with_reducible apply State.Keeps.step (State.put_keeps ..); on_goal 1 => decide)
    | with_reducible apply State.Keeps.foldl
    | (intro _; intros; beta_reduce)

theorem State.openDir_keeps (s : State) (dirOk : Bool) : s.Keeps (pRegs ||| pUpd) (State.openDir s dirOk) := by
  unfold State.openDir
  repeat' first
    | with_reducible assumption
    | with_reducible apply State.Keeps.refl
    | (extract_lets +onlyGivenNames t; (refine State.Keeps.cut (t := t) ?_ (fun _ => ?_)) <;> [subst t; clear_value t])
    | (extract_lets +onlyGivenNames x; first | clear_value x | subst x)
    | (with_reducible apply State.Keeps.ite <;> intro _)
    | (with_reducible apply State.Keeps.step (State.tryDir_keeps ..); on_goal 1 => decide)

theorem State.bootRoles_keeps (s : State) (dirOk : Bool) : s.Keeps (pRegs ||| pUpd) (State.bootRoles s dirOk) := by
  unfold State.bootRoles
  repeat' first
    | with_reducible assumption
    | with_reducible apply State.Keeps.refl
    | (extract_lets +onlyGivenNames t; (refine State.Keeps.cut (t := t) ?_ (fun _ => ?_)) <;> [subst t; clear_value t])
    | (extract_lets +onlyGivenNames x; first | clear_value x | subst x)
    | (with_reducible apply State.Keeps.ite <;> intro _)
    | (with_reducible apply State.Keeps.step (State.tryDir_keeps ..); on_goal 1 => decide)

theorem State.loadImage_keeps (s : State) (which : Nat) : s.Keeps (pRegs ||| pStaged ||| pHost ||| pRidge ||| pBat ||| pPorts ||| pJtl ||| pRunning ||| pSlate ||| pTha ||| pUpd) (State.loadImage s which) := by
  unfold State.loadImage
  repeat' first
    | with_reducible assumption
    | with_reducible apply State.Keeps.refl
    | (extract_lets +onlyGivenNames t; (refine State.Keeps.cut (t := t) ?_ (fun _ => ?_)) <;> [subst t; clear_value t])
    | (extract_lets +onlyGivenNames x; first | clear_value x | subst x)
    | (with_reducible apply State.Keeps.ite <;> intro _)
    | (with_reducible apply State.Keeps.step (State.modTha_keeps ..); on_goal 1 => decide)
    | (with_reducible apply State.Keeps.step (State.wr_keeps ..); on_goal 1 => decide)
    | (with_reducible apply State.Keeps.step (State.raise_keeps ..); on_goal 1 => decide)
    | (with_reducible apply State.Keeps.step (State.put_keeps ..); on_goal 1 => decide)
    | (with_reducible apply State.Keeps.step (State.loadGlobals_keeps ..); on_goal 1 => decide)
    | (with_reducible apply State.Keeps.step (State.setRunning_keeps ..); on_goal 1 => decide)
    | (with_reducible apply State.Keeps.step (State.startElection_keeps ..); on_goal 1 => decide)
    | (with_reducible apply State.Keeps.step (State.loadGrants_keeps ..); on_goal 1 => decide)
    | (with_reducible apply State.Keeps.step (State.modUpd_keeps ..); on_goal 1 => decide)
    | (with_reducible apply State.Keeps.step (State.loadHeld_keeps ..); on_goal 1 => decide)
    | (with_reducible apply State.Keeps.step (State.retakeLevels_keeps ..); on_goal 1 => decide)

theorem State.followTrial_keeps (s : State) (fresh : Bool) : s.Keeps (pRegs ||| pUpd) (State.followTrial s fresh) := by
  unfold State.followTrial
  repeat' first
    | with_reducible assumption
    | with_reducible apply State.Keeps.refl
    | (extract_lets +onlyGivenNames t; (refine State.Keeps.cut (t := t) ?_ (fun _ => ?_)) <;> [subst t; clear_value t])
    | (extract_lets +onlyGivenNames x; first | clear_value x | subst x)
    | (with_reducible apply State.Keeps.ite <;> intro _)
    | split
    | (with_reducible apply State.Keeps.step (State.raise_keeps ..); on_goal 1 => decide)
    | (with_reducible apply State.Keeps.step (State.put_keeps ..); on_goal 1 => decide)
    | (with_reducible apply State.Keeps.step (State.modUpd_keeps ..); on_goal 1 => decide)

theorem State.bootLoaded_keeps (s : State) (fresh : Bool) : s.Keeps (pRegs ||| pBat ||| pUpd ||| pBoot) (State.bootLoaded s fresh) := by
  unfold State.bootLoaded
  repeat' first
    | with_reducible assumption
    | with_reducible apply State.Keeps.refl
    | (extract_lets +onlyGivenNames t; (refine State.Keeps.cut (t := t) ?_ (fun _ => ?_)) <;> [subst t; clear_value t])
    | (extract_lets +onlyGivenNames x; first | clear_value x | subst x)
    | (with_reducible apply State.Keeps.ite <;> intro _)
    | split
    | (with_reducible apply State.Keeps.step (State.showDir_keeps ..); on_goal 1 => decide)
    | (with_reducible apply State.Keeps.step (State.fire_keeps ..); on_goal 1 => decide)
    | (with_reducible apply State.Keeps.step (State.put_keeps ..); on_goal 1 => decide)
    | (with_reducible apply State.Keeps.step (State.followTrial_keeps ..); on_goal 1 => decide)
    | (with_reducible apply State.Keeps.step (State.showPrev_keeps ..); on_goal 1 => decide)
    | (with_reducible apply State.Keeps.step (State.modUpd_keeps ..); on_goal 1 => decide)
    | (with_reducible apply State.Keeps.step (State.modBoot_keeps ..); on_goal 1 => decide)
    | (with_reducible apply State.Keeps.step (State.setUpd_keeps ..); on_goal 1 => decide)

theorem State.decideSlot_keeps (s : State) (dirOk : Bool) : s.Keeps (pRegs ||| pStaged ||| pFreeCtr ||| pHost ||| pRidge ||| pBat ||| pPorts ||| pSlices ||| pJtl ||| pSoffit ||| pRunning ||| pSlate ||| pTha ||| pUpd ||| pBoot) (State.decideSlot s dirOk) := by
  unfold State.decideSlot
  repeat' first
    | with_reducible assumption
    | with_reducible apply State.Keeps.refl
    | (extract_lets +onlyGivenNames t; (refine State.Keeps.cut (t := t) ?_ (fun _ => ?_)) <;> [subst t; clear_value t])
    | (extract_lets +onlyGivenNames x; first | clear_value x | subst x)
    | (with_reducible apply State.Keeps.ite <;> intro _)
    | split
    | (with_reducible apply State.Keeps.step (State.bootLoaded_keeps ..); on_goal 1 => decide)
    | (with_reducible apply State.Keeps.step (State.bootRoles_keeps ..); on_goal 1 => decide)
    | (with_reducible apply State.Keeps.step (State.result_keeps ..); on_goal 1 => decide)
    | (with_reducible apply State.Keeps.step (State.toDormer_keeps ..); on_goal 1 => decide)
    | (with_reducible apply State.Keeps.step (State.fallBack_keeps ..); on_goal 1 => decide)
    | (with_reducible apply State.Keeps.step (State.loadImage_keeps ..); on_goal 1 => decide)
    | (with_reducible apply State.Keeps.step (State.logFault_keeps ..); on_goal 1 => decide)
    | (with_reducible apply State.Keeps.step (State.noteImage_keeps ..); on_goal 1 => decide)

theorem State.warmFallback_keeps (s : State) (r : Relay) (dirOk : Bool) : s.Keeps (pRegs ||| pStaged ||| pFreeCtr ||| pHost ||| pRidge ||| pBat ||| pPorts ||| pSlices ||| pJtl ||| pSoffit ||| pOtp ||| pRunning ||| pSlate ||| pTha ||| pUpd ||| pBoot) (State.warmFallback s r dirOk) := by
  unfold State.warmFallback
  repeat' first
    | with_reducible assumption
    | with_reducible apply State.Keeps.refl
    | (extract_lets +onlyGivenNames t; (refine State.Keeps.cut (t := t) ?_ (fun _ => ?_)) <;> [subst t; clear_value t])
    | (extract_lets +onlyGivenNames x; first | clear_value x | subst x)
    | (with_reducible apply State.Keeps.ite <;> intro _)
    | (with_reducible apply State.Keeps.step (State.result_keeps ..); on_goal 1 => decide)
    | (with_reducible apply State.Keeps.step (State.writeDir_keeps ..); on_goal 1 => decide)
    | (with_reducible apply State.Keeps.step (State.cause_keeps ..); on_goal 1 => decide)
    | (with_reducible apply State.Keeps.step (State.deviceReset_keeps ..); on_goal 1 => decide)
    | (with_reducible apply State.Keeps.step (State.modUpd_keeps ..); on_goal 1 => decide)
    | (with_reducible apply State.Keeps.step (State.logFault_keeps ..); on_goal 1 => decide)

theorem State.holdEntry_keeps (s : State) : s.Keeps (pRegs ||| pStaged ||| pFreeCtr ||| pHost ||| pRidge ||| pBat ||| pPorts ||| pSlices ||| pJtl ||| pSoffit ||| pOtp ||| pRunning ||| pMtr ||| pSlate ||| pTha ||| pUpd ||| pBoot) (State.holdEntry s) := by
  unfold State.holdEntry
  repeat' first
    | with_reducible assumption
    | with_reducible apply State.Keeps.refl
    | (extract_lets +onlyGivenNames t; (refine State.Keeps.cut (t := t) ?_ (fun _ => ?_)) <;> [subst t; clear_value t])
    | (with_reducible apply State.Keeps.step (State.enterBrace_keeps ..); on_goal 1 => decide)
    | (with_reducible apply State.Keeps.step (State.modRidge_keeps ..); on_goal 1 => decide)
    | (with_reducible apply State.Keeps.step (State.cancelWhere_keeps ..); on_goal 1 => decide)
    | (with_reducible apply State.Keeps.step (State.commitSlot_keeps ..); on_goal 1 => decide)
    | (with_reducible apply State.Keeps.step (State.put_keeps ..); on_goal 1 => decide)
    | with_reducible apply State.Keeps.foldl
    | with_reducible apply State.Keeps.iterN
    | (intro _; intros; beta_reduce)

theorem State.holdReset_keeps (s : State) : s.Keeps (pRegs ||| pStaged ||| pHost ||| pRidge ||| pBat ||| pPorts ||| pJtl ||| pSoffit ||| pTha) (State.holdReset s) := by
  unfold State.holdReset
  repeat' first
    | with_reducible assumption
    | with_reducible apply State.Keeps.refl
    | (extract_lets +onlyGivenNames t; (refine State.Keeps.cut (t := t) ?_ (fun _ => ?_)) <;> [subst t; clear_value t])
    | (extract_lets +onlyGivenNames x; first | clear_value x | subst x)
    | (with_reducible apply State.Keeps.step (State.modPort_keeps ..); on_goal 1 => decide)
    | (with_reducible apply State.Keeps.step (State.chainBrace_keeps ..); on_goal 1 => decide)
    | (with_reducible apply State.Keeps.step (State.modBat_keeps ..); on_goal 1 => decide)
    | (with_reducible apply State.Keeps.step (State.modTha_keeps ..); on_goal 1 => decide)
    | (with_reducible apply State.Keeps.step (State.wr_keeps ..); on_goal 1 => decide)
    | (with_reducible apply State.Keeps.step (State.dropRegs_keeps ..); on_goal 1 => decide)
    | (with_reducible apply State.Keeps.step (State.maskBit_keeps ..); on_goal 1 => decide)
    | (with_reducible apply State.Keeps.step (State.loseHost_keeps ..); on_goal 1 => decide)
    | (with_reducible apply State.Keeps.step (State.loseBatten_keeps ..); on_goal 1 => decide)
    | (with_reducible apply State.Keeps.step (State.modRidge_keeps ..); on_goal 1 => decide)
    | with_reducible apply State.Keeps.foldl
    | (intro _; intros; beta_reduce)

theorem State.holdRoles_keeps (s : State) (r : Relay) (dirOk : Bool) : s.Keeps (pRegs ||| pUpd) (State.holdRoles s r dirOk).1 := by
  unfold State.holdRoles
  repeat' first
    | with_reducible assumption
    | with_reducible apply State.Keeps.refl
    | split
    | (with_reducible apply State.Keeps.step (State.tryDir_keeps ..); on_goal 1 => decide)

theorem State.holdRoles_keeps_of {s : State} {r : Relay} {dirOk : Bool} {u : State} {x₁ : Bool} (h : State.holdRoles s r dirOk = (u, x₁)) : s.Keeps (pRegs ||| pUpd) u := by
  have := State.holdRoles_keeps s r dirOk
  rwa [h] at this

theorem State.beginHold_keeps (s : State) (r : Relay) (dirOk : Bool) : s.Keeps (pRegs ||| pStaged ||| pFreeCtr ||| pHost ||| pRidge ||| pBat ||| pPorts ||| pSlices ||| pJtl ||| pSoffit ||| pOtp ||| pRunning ||| pMtr ||| pSlate ||| pTha ||| pUpd ||| pBoot) (State.beginHold s r dirOk) := by
  unfold State.beginHold
  repeat' first
    | with_reducible assumption
    | with_reducible apply State.Keeps.refl
    | (extract_lets +onlyGivenNames t; (refine State.Keeps.cut (t := t) ?_ (fun _ => ?_)) <;> [subst t; clear_value t])
    | (extract_lets +onlyGivenNames x; first | clear_value x | subst x)
    | split
    | (with_reducible apply State.Keeps.step (State.holdEntry_keeps ..); on_goal 1 => decide)
    | (with_reducible apply State.Keeps.step (State.clear_keeps ..); on_goal 1 => decide)
    | (with_reducible apply State.Keeps.step (State.holdReset_keeps ..); on_goal 1 => decide)
    | (with_reducible apply State.Keeps.step (State.wr_keeps ..); on_goal 1 => decide)
    | (with_reducible apply State.Keeps.step (State.holdRoles_keeps ..); on_goal 1 => decide)
    | (with_reducible apply State.Keeps.step (State.holdRoles_keeps_of (by assumption)); on_goal 1 => decide)
    | (with_reducible apply State.Keeps.step (State.put_keeps ..); on_goal 1 => decide)
    | (with_reducible apply State.Keeps.step (State.cause_keeps ..); on_goal 1 => decide)
    | (with_reducible apply State.Keeps.step (State.drainBlock_keeps ..); on_goal 1 => decide)
    | (with_reducible apply State.Keeps.step (State.modUpd_keeps ..); on_goal 1 => decide)
    | (with_reducible apply State.Keeps.step (State.modBoot_keeps ..); on_goal 1 => decide)
    | (with_reducible apply State.Keeps.step (State.setUpd_keeps ..); on_goal 1 => decide)
    | with_reducible apply State.Keeps.iterN
    | (intro _; intros; beta_reduce)

theorem State.handOver_keeps (s : State) (handOk : Bool) : s.Keeps (pRegs ||| pStaged ||| pFreeCtr ||| pRidge ||| pBat ||| pPorts ||| pSlices ||| pJtl ||| pSlate ||| pBoot) (State.handOver s handOk) := by
  unfold State.handOver
  repeat' first
    | with_reducible assumption
    | with_reducible apply State.Keeps.refl
    | (extract_lets +onlyGivenNames t; (refine State.Keeps.cut (t := t) ?_ (fun _ => ?_)) <;> [subst t; clear_value t])
    | (extract_lets +onlyGivenNames x; first | clear_value x | subst x)
    | (with_reducible apply State.Keeps.ite <;> intro _)
    | split
    | (with_reducible apply State.Keeps.step (State.setShare_keeps ..); on_goal 1 => decide)
    | (with_reducible apply State.Keeps.step (State.modPort_keeps ..); on_goal 1 => decide)
    | (with_reducible apply State.Keeps.step (State.loadRec_keeps ..); on_goal 1 => decide)
    | (with_reducible apply State.Keeps.step (State.wr_keeps ..); on_goal 1 => decide)
    | (with_reducible apply State.Keeps.step (State.resolveDeficit_keeps ..); on_goal 1 => decide)
    | (with_reducible apply State.Keeps.step (State.gpcsTaken_keeps ..); on_goal 1 => decide)
    | (with_reducible apply State.Keeps.step (State.endRun_keeps ..); on_goal 1 => decide)
    | (with_reducible apply State.Keeps.step (State.refillTruss_keeps ..); on_goal 1 => decide)
    | (with_reducible apply State.Keeps.step (State.put_keeps ..); on_goal 1 => decide)
    | (with_reducible apply State.Keeps.step (State.flag_keeps ..); on_goal 1 => decide)
    | (with_reducible apply State.Keeps.step (State.logFault_keeps ..); on_goal 1 => decide)
    | (with_reducible apply State.Keeps.step (State.loadJotil_keeps ..); on_goal 1 => decide)
    | with_reducible apply State.Keeps.foldl
    | (intro _; intros; beta_reduce)

theorem State.leaveHold_keeps (s : State) (old : List ThaRec) (new : List ThaRec) (n : Fin 16) : s.Keeps (pRegs ||| pStaged ||| pFreeCtr ||| pRidge ||| pBat ||| pPorts ||| pSlices ||| pJtl ||| pBoot) (State.leaveHold s old new n) := by
  unfold State.leaveHold
  repeat' first
    | with_reducible assumption
    | with_reducible apply State.Keeps.refl
    | (extract_lets +onlyGivenNames t; (refine State.Keeps.cut (t := t) ?_ (fun _ => ?_)) <;> [subst t; clear_value t])
    | (extract_lets +onlyGivenNames x; first | clear_value x | subst x)
    | (with_reducible apply State.Keeps.ite <;> intro _)
    | (with_reducible apply State.Keeps.step (State.compose_keeps ..); on_goal 1 => decide)
    | (with_reducible apply State.Keeps.step (State.leaveBrace_keeps ..); on_goal 1 => decide)
    | (with_reducible apply State.Keeps.step (State.policyChanged_keeps ..); on_goal 1 => decide)
    | (with_reducible apply State.Keeps.step (State.applyPortRec_keeps ..); on_goal 1 => decide)
    | with_reducible apply State.Keeps.foldl
    | (intro _; intros; beta_reduce)

theorem State.holdDone_keeps (s : State) (r : Relay) (dur : Nat) : s.Keeps (pRegs ||| pBat ||| pJtl ||| pSoffit ||| pSlate ||| pUpd ||| pBoot) (State.holdDone s r dur) := by
  unfold State.holdDone
  repeat' first
    | with_reducible assumption
    | with_reducible apply State.Keeps.refl
    | (extract_lets +onlyGivenNames t; (refine State.Keeps.cut (t := t) ?_ (fun _ => ?_)) <;> [subst t; clear_value t])
    | (extract_lets +onlyGivenNames x; first | clear_value x | subst x)
    | (with_reducible apply State.Keeps.ite <;> intro _)
    | (with_reducible apply State.Keeps.step (State.fire_keeps ..); on_goal 1 => decide)
    | (with_reducible apply State.Keeps.step (State.chainBrace_keeps ..); on_goal 1 => decide)
    | (with_reducible apply State.Keeps.step (State.clear_keeps ..); on_goal 1 => decide)
    | (with_reducible apply State.Keeps.step (State.sendStat_keeps ..); on_goal 1 => decide)
    | (with_reducible apply State.Keeps.step (State.tellWarned_keeps ..); on_goal 1 => decide)
    | (with_reducible apply State.Keeps.step (State.put_keeps ..); on_goal 1 => decide)
    | (with_reducible apply State.Keeps.step (State.modUpd_keeps ..); on_goal 1 => decide)
    | (with_reducible apply State.Keeps.step (State.modBoot_keeps ..); on_goal 1 => decide)
    | (with_reducible apply State.Keeps.step (State.setUpd_keeps ..); on_goal 1 => decide)
    | (with_reducible apply State.Keeps.step (State.logFault_keeps ..); on_goal 1 => decide)

theorem State.abortHold_keeps (s : State) (r : Relay) (dirOk : Bool) : s.Keeps (pRegs ||| pStaged ||| pFreeCtr ||| pRidge ||| pBat ||| pPorts ||| pSlices ||| pJtl ||| pSoffit ||| pSlate ||| pUpd ||| pBoot) (State.abortHold s r dirOk) := by
  unfold State.abortHold
  repeat' first
    | with_reducible assumption
    | with_reducible apply State.Keeps.refl
    | (extract_lets +onlyGivenNames t; (refine State.Keeps.cut (t := t) ?_ (fun _ => ?_)) <;> [subst t; clear_value t])
    | (extract_lets +onlyGivenNames x; first | clear_value x | subst x)
    | (with_reducible apply State.Keeps.ite <;> intro _)
    | (with_reducible apply State.Keeps.step (State.fire_keeps ..); on_goal 1 => decide)
    | (with_reducible apply State.Keeps.step (State.chainBrace_keeps ..); on_goal 1 => decide)
    | (with_reducible apply State.Keeps.step (State.errRec_keeps ..); on_goal 1 => decide)
    | (with_reducible apply State.Keeps.step (State.tellWarned_keeps ..); on_goal 1 => decide)
    | (with_reducible apply State.Keeps.step (State.raise_keeps ..); on_goal 1 => decide)
    | (with_reducible apply State.Keeps.step (State.put_keeps ..); on_goal 1 => decide)
    | (with_reducible apply State.Keeps.step (State.loadGlobals_keeps ..); on_goal 1 => decide)
    | (with_reducible apply State.Keeps.step (State.cause_keeps ..); on_goal 1 => decide)
    | (with_reducible apply State.Keeps.step (State.modUpd_keeps ..); on_goal 1 => decide)
    | (with_reducible apply State.Keeps.step (State.modBoot_keeps ..); on_goal 1 => decide)
    | (with_reducible apply State.Keeps.step (State.setUpd_keeps ..); on_goal 1 => decide)
    | (with_reducible apply State.Keeps.step (State.logFault_keeps ..); on_goal 1 => decide)
    | (with_reducible apply State.Keeps.step (State.tryDir_keeps ..); on_goal 1 => decide)
    | with_reducible apply State.Keeps.foldl
    | (intro _; intros; beta_reduce)

end Sys2Proof.Machine
end

