-- ==== Sys2Proof/Laws/Upd.lean ====
section
/-!
SUPPORT. What the operations of Machine/Upd.lean may change, one lemma each.
-/

set_option linter.unusedTactic false
set_option linter.unreachableTactic false
set_option linter.tactic.unusedName false

namespace Sys2Proof.Machine

theorem State.updCommand_keeps (s : State) (hp : HostPort) (key : Byte) (low : Nat) (dirOk : Bool) : s.Keeps (pRegs ||| pStaged ||| pHost ||| pRidge ||| pBat ||| pPorts ||| pJtl ||| pSoffit ||| pOtp ||| pMtr ||| pSlate ||| pTha ||| pUpd ||| pBoot) (State.updCommand s hp key low dirOk) := by
  unfold State.updCommand
  repeat' first
    | with_reducible assumption
    | with_reducible apply State.Keeps.refl
    | (with_reducible apply State.Keeps.step (State.updCmd_keeps ..); on_goal 1 => decide)
    | (with_reducible apply State.command_keeps; on_goal 1 => decide)
    | (intro _; intros; beta_reduce)

theorem State.imageFlashError_keeps (s : State) (k : Nat) : s.Keeps (pRegs ||| pBat ||| pJtl ||| pSlate ||| pUpd) (State.imageFlashError s k) := by
  unfold State.imageFlashError
  repeat' first
    | with_reducible assumption
    | with_reducible apply State.Keeps.refl
    | (extract_lets +onlyGivenNames t; (refine State.Keeps.cut (t := t) ?_ (fun _ => ?_)) <;> [subst t; clear_value t])
    | (extract_lets +onlyGivenNames x; first | clear_value x | subst x)
    | (with_reducible apply State.Keeps.ite <;> intro _)
    | (with_reducible apply State.Keeps.step (State.fire_keeps ..); on_goal 1 => decide)
    | (with_reducible apply State.Keeps.step (State.modSlate_keeps ..); on_goal 1 => decide)
    | (with_reducible apply State.Keeps.step (State.failSession_keeps ..); on_goal 1 => decide)
    | (with_reducible apply State.Keeps.step (State.logFault_keeps ..); on_goal 1 => decide)

theorem State.verifyBurn_keeps (s : State) (b : Burn) (read : OtpRead) (cs : CtrReads) (pulses : Nat) : s.Keeps (pRegs ||| pRidge ||| pBat ||| pPorts ||| pOtp) (State.verifyBurn s b read cs pulses).2 := by
  unfold State.verifyBurn
  repeat' first
    | with_reducible assumption
    | with_reducible apply State.Keeps.refl
    | (extract_lets +onlyGivenNames t; (refine State.Keeps.cut (t := t) ?_ (fun _ => ?_)) <;> [subst t; clear_value t])
    | (extract_lets +onlyGivenNames x; first | clear_value x | subst x)
    | split
    | (with_reducible apply State.Keeps.step (State.setStatus_keeps ..); on_goal 1 => decide)
    | (with_reducible apply State.Keeps.step (State.countOtp_keeps ..); on_goal 1 => decide)
    | (with_reducible apply State.modOtp_keeps_same <;> [decide; exact fun _ => ⟨rfl, rfl⟩; skip])
    | (with_reducible apply State.Keeps.step (State.shadowChanged_keeps ..); on_goal 1 => decide)
    | (with_reducible apply State.Keeps.step (State.burnResult_keeps ..); on_goal 1 => decide)
    | (with_reducible apply State.Keeps.step (State.readCounters_keeps ..); on_goal 1 => decide)

theorem State.verifyBurn_keeps_of {s : State} {b : Burn} {read : OtpRead} {cs : CtrReads} {pulses : Nat} {u : State} {x₁ : Bool} (h : State.verifyBurn s b read cs pulses = (x₁, u)) : s.Keeps (pRegs ||| pRidge ||| pBat ||| pPorts ||| pOtp) u := by
  have := State.verifyBurn_keeps s b read cs pulses
  rwa [h] at this

theorem State.chainBegin_keeps (s : State) (manid : Nat) (pkglen : Nat) : s.Keeps (pRegs ||| pJtl ||| pUpd) (State.chainBegin s manid pkglen) := by
  unfold State.chainBegin
  repeat' first
    | with_reducible assumption
    | with_reducible apply State.Keeps.refl
    | (extract_lets +onlyGivenNames t; (refine State.Keeps.cut (t := t) ?_ (fun _ => ?_)) <;> [subst t; clear_value t])
    | (extract_lets +onlyGivenNames x; first | clear_value x | subst x)
    | (with_reducible apply State.Keeps.ite <;> intro _)
    | (with_reducible apply State.Keeps.step (State.result_keeps ..); on_goal 1 => decide)
    | (with_reducible apply State.Keeps.step (State.raise_keeps ..); on_goal 1 => decide)
    | (with_reducible apply State.Keeps.step (State.sendStatAs_keeps ..); on_goal 1 => decide)
    | (with_reducible apply State.Keeps.step (State.modUpd_keeps ..); on_goal 1 => decide)
    | (with_reducible apply State.Keeps.step (State.updBegin_keeps ..); on_goal 1 => decide)

theorem State.reportGap_keeps (s : State) (off : Nat) : s.Keeps (pJtl ||| pUpd) (State.reportGap s off) := by
  unfold State.reportGap
  repeat' first
    | with_reducible assumption
    | with_reducible apply State.Keeps.refl
    | (with_reducible apply State.Keeps.ite <;> intro _)
    | (with_reducible apply State.Keeps.step (State.sendStat_keeps ..); on_goal 1 => decide)
    | (with_reducible apply State.Keeps.step (State.modUpd_keeps ..); on_goal 1 => decide)

theorem State.chainPart_keeps (s : State) (off : Nat) (data : List Word) : s.Keeps (pRegs ||| pJtl ||| pUpd) (State.chainPart s off data) := by
  unfold State.chainPart
  repeat' first
    | with_reducible assumption
    | with_reducible apply State.Keeps.refl
    | (extract_lets +onlyGivenNames t; (refine State.Keeps.cut (t := t) ?_ (fun _ => ?_)) <;> [subst t; clear_value t])
    | (extract_lets +onlyGivenNames x; first | clear_value x | subst x)
    | (with_reducible apply State.Keeps.ite <;> intro _)
    | (with_reducible apply State.Keeps.step (State.updData_keeps ..); on_goal 1 => decide)
    | (with_reducible apply State.Keeps.step (State.updData_keeps_of (by assumption)); on_goal 1 => decide)
    | (with_reducible apply State.Keeps.step (State.reportGap_keeps ..); on_goal 1 => decide)
    | (with_reducible apply State.Keeps.step (State.modUpd_keeps ..); on_goal 1 => decide)

theorem State.chainVerify_keeps (s : State) : s.Keeps (pRegs ||| pBat ||| pJtl ||| pSlate ||| pUpd) (State.chainVerify s) := by
  unfold State.chainVerify
  repeat' first
    | with_reducible assumption
    | with_reducible apply State.Keeps.refl
    | (extract_lets +onlyGivenNames t; (refine State.Keeps.cut (t := t) ?_ (fun _ => ?_)) <;> [subst t; clear_value t])
    | (extract_lets +onlyGivenNames x; first | clear_value x | subst x)
    | (with_reducible apply State.Keeps.ite <;> intro _)
    | (with_reducible apply State.Keeps.step (State.sendStat_keeps ..); on_goal 1 => decide)
    | (with_reducible apply State.Keeps.step (State.updEnd_keeps ..); on_goal 1 => decide)

theorem State.chainArm_keeps (s : State) (apply : Nat) : s.Keeps (pRegs ||| pJtl ||| pUpd) (State.chainArm s apply) := by
  unfold State.chainArm
  repeat' first
    | with_reducible assumption
    | with_reducible apply State.Keeps.refl
    | (extract_lets +onlyGivenNames t; (refine State.Keeps.cut (t := t) ?_ (fun _ => ?_)) <;> [subst t; clear_value t])
    | (extract_lets +onlyGivenNames x; first | clear_value x | subst x)
    | (with_reducible apply State.Keeps.ite <;> intro _)
    | (with_reducible apply State.Keeps.step (State.askRelay_keeps ..); on_goal 1 => decide)
    | (with_reducible apply State.Keeps.step (State.sendStat_keeps ..); on_goal 1 => decide)
    | (with_reducible apply State.Keeps.step (State.result_keeps ..); on_goal 1 => decide)
    | (with_reducible apply State.Keeps.step (State.put_keeps ..); on_goal 1 => decide)
    | (with_reducible apply State.Keeps.step (State.modUpd_keeps ..); on_goal 1 => decide)

theorem State.chainConfirm_keeps (s : State) : s.Keeps (pRegs ||| pBat ||| pJtl ||| pOtp ||| pMtr ||| pSlate ||| pUpd) (State.chainConfirm s) := by
  unfold State.chainConfirm
  repeat' first
    | with_reducible assumption
    | with_reducible apply State.Keeps.refl
    | (with_reducible apply State.Keeps.ite <;> intro _)
    | split
    | (with_reducible apply State.Keeps.step (State.confirmStep_keeps ..); on_goal 1 => decide)
    | (with_reducible apply State.Keeps.step (State.sendStat_keeps ..); on_goal 1 => decide)
    | (with_reducible apply State.Keeps.step (State.result_keeps ..); on_goal 1 => decide)
    | (with_reducible apply State.Keeps.step (State.modUpd_keeps ..); on_goal 1 => decide)

theorem State.chainAct_keeps (s : State) (cmd : Nat) (apply : Nat) : s.Keeps (pRegs ||| pBat ||| pJtl ||| pOtp ||| pMtr ||| pSlate ||| pUpd) (State.chainAct s cmd apply) := by
  unfold State.chainAct
  repeat' first
    | with_reducible assumption
    | with_reducible apply State.Keeps.refl
    | (with_reducible apply State.Keeps.ite <;> intro _)
    | (with_reducible apply State.Keeps.step (State.askRelay_keeps ..); on_goal 1 => decide)
    | (with_reducible apply State.Keeps.step (State.disarm_keeps ..); on_goal 1 => decide)
    | (with_reducible apply State.Keeps.step (State.chainVerify_keeps ..); on_goal 1 => decide)
    | (with_reducible apply State.Keeps.step (State.chainArm_keeps ..); on_goal 1 => decide)
    | (with_reducible apply State.Keeps.step (State.chainConfirm_keeps ..); on_goal 1 => decide)
    | (with_reducible apply State.Keeps.step (State.endSession_keeps ..); on_goal 1 => decide)

theorem State.resend_keeps (s : State) (node : Nat) (missing : Nat) : s.Keeps pJtl (State.resend s node missing) := by
  unfold State.resend
  repeat' first
    | with_reducible assumption
    | with_reducible apply State.Keeps.refl
    | (extract_lets +onlyGivenNames t; (refine State.Keeps.cut (t := t) ?_ (fun _ => ?_)) <;> [subst t; clear_value t])
    | (extract_lets +onlyGivenNames x; first | clear_value x | subst x)
    | (with_reducible apply State.Keeps.ite <;> intro _)
    | split
    | (with_reducible apply State.Keeps.step (State.sendF_keeps ..); on_goal 1 => decide)
    | with_reducible apply State.Keeps.foldl
    | with_reducible apply State.Keeps.foldl_fst
    | with_reducible apply State.Keeps.foldl_snd
    | (intro _; intros; beta_reduce)

theorem State.takeStat_keeps (s : State) (node : Nat) (st : Nat) (sst : Nat) (code : Nat) (missing : Nat) : s.Keeps (pRegs ||| pJtl ||| pUpd) (State.takeStat s node st sst code missing) := by
  unfold State.takeStat
  repeat' first
    | with_reducible assumption
    | with_reducible apply State.Keeps.refl
    | (extract_lets +onlyGivenNames t; (refine State.Keeps.cut (t := t) ?_ (fun _ => ?_)) <;> [subst t; clear_value t])
    | (extract_lets +onlyGivenNames x; first | clear_value x | subst x)
    | (with_reducible apply State.Keeps.ite <;> intro _)
    | split
    | (with_reducible apply State.Keeps.step (State.sendAct_keeps ..); on_goal 1 => decide)
    | (with_reducible apply State.Keeps.step (State.askRelay_keeps ..); on_goal 1 => decide)
    | (with_reducible apply State.Keeps.step (State.resend_keeps ..); on_goal 1 => decide)
    | (with_reducible apply State.Keeps.step (State.maskBit_keeps ..); on_goal 1 => decide)
    | (with_reducible apply State.Keeps.step (State.abortChain_keeps ..); on_goal 1 => decide)
    | (with_reducible apply State.Keeps.step (State.modUpd_keeps ..); on_goal 1 => decide)

end Sys2Proof.Machine
end

