-- ==== Sys2Proof/Laws/Vdm.lean ====
section
/-!
SUPPORT. What the operations of Machine/Vdm.lean may change, one lemma each.
-/

set_option linter.unusedTactic false
set_option linter.unreachableTactic false
set_option linter.tactic.unusedName false

namespace Sys2Proof.Machine

theorem State.vdmAck_keeps (s : State) (n : Fin 16) (svid : Nat) (cmd : Nat) (ws : List Word) : s.Keeps pPorts (State.vdmAck s n svid cmd ws) := by
  unfold State.vdmAck
  repeat' first
    | with_reducible assumption
    | with_reducible apply State.Keeps.refl
    | (with_reducible apply State.Keeps.step (State.send_keeps ..); on_goal 1 => decide)

theorem State.vdmNak_keeps (s : State) (n : Fin 16) (svid : Nat) (cmd : Nat) : s.Keeps pPorts (State.vdmNak s n svid cmd) := by
  unfold State.vdmNak
  repeat' first
    | with_reducible assumption
    | with_reducible apply State.Keeps.refl
    | (with_reducible apply State.Keeps.step (State.send_keeps ..); on_goal 1 => decide)

theorem State.vdmBusy_keeps (s : State) (n : Fin 16) (svid : Nat) (cmd : Nat) : s.Keeps pPorts (State.vdmBusy s n svid cmd) := by
  unfold State.vdmBusy
  repeat' first
    | with_reducible assumption
    | with_reducible apply State.Keeps.refl
    | (with_reducible apply State.Keeps.step (State.send_keeps ..); on_goal 1 => decide)

theorem nak_keeps (n : Fin 16) (svid : Nat) (cmd : Nat) (s : State) : s.Keeps pPorts (nak n svid cmd s) := by
  unfold nak
  repeat' first
    | with_reducible assumption
    | with_reducible apply State.Keeps.refl
    | (with_reducible apply State.Keeps.step (State.vdmNak_keeps ..); on_goal 1 => decide)

theorem State.praeth_keeps {s₀ s : State} {n : Fin 16} {cmd : Nat} {act : State → State} {m : Nat} (hm : pPorts ||| m = m) (hact : ∀ u, s₀.Keeps m u → s₀.Keeps m (act u)) (hs : s₀.Keeps m s) :
    s₀.Keeps m (State.praeth s n cmd act) := by
  unfold State.praeth
  repeat' first
    | with_reducible assumption
    | (with_reducible apply State.Keeps.ite <;> intro _)
    | with_reducible apply hact
    | (with_reducible apply State.Keeps.step (State.vdmBusy_keeps ..); on_goal 1 => exact or_sub (by decide) hm)
    | (with_reducible apply State.Keeps.step (State.vdmNak_keeps ..); on_goal 1 => exact or_sub (by decide) hm)

theorem State.recovery_keeps {s₀ s : State} {n : Fin 16} {cmd : Nat} {dl : Bool} {act : State → State} {m : Nat} (hm : pPorts ||| m = m) (hact : ∀ u, s₀.Keeps m u → s₀.Keeps m (act u)) (hs : s₀.Keeps m s) :
    s₀.Keeps m (State.recovery s n cmd dl act) := by
  unfold State.recovery
  repeat' first
    | with_reducible assumption
    | (with_reducible apply State.Keeps.ite <;> intro _)
    | split
    | with_reducible apply hact
    | (with_reducible apply State.Keeps.step (State.vdmBusy_keeps ..); on_goal 1 => exact or_sub (by decide) hm)
    | (with_reducible apply State.Keeps.step (State.vdmNak_keeps ..); on_goal 1 => exact or_sub (by decide) hm)

theorem State.dlEnd_keeps (s : State) (len : Nat) (crc : Nat) : s.Keeps (pRegs ||| pBat ||| pJtl ||| pSlate ||| pUpd) (State.dlEnd s len crc) := by
  unfold State.dlEnd
  repeat' first
    | with_reducible assumption
    | with_reducible apply State.Keeps.refl
    | (with_reducible apply State.Keeps.ite <;> intro _)
    | split
    | (with_reducible apply State.Keeps.step (State.result_keeps ..); on_goal 1 => decide)
    | (with_reducible apply State.Keeps.step (State.updEnd_keeps ..); on_goal 1 => decide)
    | (with_reducible apply State.Keeps.step (State.endWithCode_keeps ..); on_goal 1 => decide)

end Sys2Proof.Machine
end

