-- ==== Sys2Proof/Tests/Slice0.lean ====
section
/-!
SUPPORT. Tests: the well-formedness smoke test, results that the spec's worked cases give, and for every statement with hypotheses a theorem `meets_<Name>` that shows,
for each of its clauses with hypotheses, a state and operands that meet them together.
-/

set_option Elab.async false
set_option linter.unusedVariables false

open Sys2Proof Sys2Proof.Machine

namespace Sys2Proof.Tests

/-! ### Ill-formed commands, one for each check -/

theorem test_wf_takes_read : Instr.wf (.hostRead .spi 0 64 0 ⟨.normal, [], [], true⟩) = true := by decide
theorem test_wf_refuses_hostRead : Instr.wf (.hostRead .spi 0 65 0 ⟨.normal, [], [], true⟩) = false := by decide
theorem test_wf_refuses_hostWrite : Instr.wf (.hostWrite .spi 0 [] 0) = false := by decide
theorem test_wf_refuses_guardedWrite : Instr.wf (.guardedWrite .spi 0 1 [] 0) = false := by decide
theorem test_wf_refuses_canRequest : Instr.wf (.canRequest { op := 0, seq := 0, addr := 0, count := 256, gen := 0, data := [] }) = false := by decide
theorem test_wf_refuses_vddPowerFail : Instr.wf (.vddPowerFail 1000 (List.replicate 16 none)) = false := by decide
theorem test_wf_refuses_integrationTick : Instr.wf (.integrationTick []) = false := by decide
theorem test_wf_refuses_editBufferWrite : Instr.wf (.editBufferWrite .spi 3071 [0, 0]) = false := by decide
theorem test_wf_refuses_loopSample : Instr.wf (.loopSample 0 [] [0] []) = false := by decide
theorem test_wf_refuses_sourceCapabilities : Instr.wf (.sourceCapabilities { n := 0, id := 0, rev20 := false } (.plain (List.replicate 8 0))) = false := by decide
theorem test_wf_refuses_dlData : Instr.wf (.dlData { n := 0, id := 0, rev20 := false } 0 []) = false := by decide
theorem test_wf_refuses_updDataWrite : Instr.wf (.updDataWrite .spi []) = false := by decide
theorem test_wf_refuses_claim : Instr.wf (.claim { p := 0, dest := 0xFF, src := 16, seq := 7 } 0 false 0 0) = false := by decide
theorem test_wf_refuses_index : Instr.wf (.index { p := 0, dest := 0xFF, src := 16, seq := 7 } { idxnum := 0, budget := 0, flags := 0, frzrem := 0, members := 0, weight := 0, hops := 0, serial := 0, count := 0 }) = false := by decide
theorem test_wf_refuses_member : Instr.wf (.member { p := 0, dest := 0xFF, src := 16, seq := 7 } 0 0 0 0) = false := by decide
theorem test_wf_refuses_assign : Instr.wf (.assign { p := 0, dest := 0xFF, src := 16, seq := 7 } 0 0) = false := by decide
theorem test_wf_refuses_periods : Instr.wf (.periods { p := 0, dest := 0xFF, src := 2, seq := 7 } (List.replicate 17 0)) = false := by decide
theorem test_wf_refuses_demand : Instr.wf (.demand { p := 0, dest := 0xFF, src := 16, seq := 7 } 0 0 0 0) = false := by decide
theorem test_wf_refuses_share : Instr.wf (.share { p := 0, dest := 0xFF, src := 2, seq := 7 } 0 (List.replicate 17 0)) = false := by decide
theorem test_wf_refuses_phase : Instr.wf (.phase { p := 0, dest := 0xFF, src := 2, seq := 7 } 0 (List.replicate 17 (0, 0))) = false := by decide
theorem test_wf_refuses_sweep : Instr.wf (.sweep { p := 0, dest := 0xFF, src := 2, seq := 7 } 0 0 0 0 (List.replicate 17 0)) = false := by decide
theorem test_wf_refuses_swres : Instr.wf (.swres { p := 0, dest := 0xFF, src := 2, seq := 7 } 0 0 0 (List.replicate 15 0)) = false := by decide
theorem test_wf_refuses_updpart : Instr.wf (.updpart { p := 0, dest := 0xFF, src := 2, seq := 7 } 0 0 (List.replicate 15 0)) = false := by decide

/-! ### States -/

/-- A running device: out of reset, every island released, all ports enabled as source ports, the host ports with the default grants. -/
def up : State :=
  { (((((((State.reset.put GLB_BOOTSTAT.STAGE 6).put GLB_ISLPWR.ISL 0x1FFFFF).wr HST_AUTH.at 0x00338333).raise GLB_SUPSTAT.VDDOK).raise GLB_SUPSTAT.VHVOK).raise HST_CANCTL.EN).put HST_CANSTAT.STATE 0).put GLB_PORTMASK.PRESENT 0xFFFF with
    boot := { BootSt.reset with inReset := none }
    soffit := { State.reset.soffit with vhvOk := true }
    ports := Vector.replicate 16 { PortSt.reset with en := true, released := true } }

/-- The next state of a command, the state itself where it stops. -/
def after (c : Instr) (s : State) : State :=
  match exec c s with
  | .next t => t
  | _ => s

/-- Port 6 attached as a source, VCONN on, one SOP' attempt made. -/
def cabled : State :=
  (((up.put (PCC_STATUS.STATE 6) ccAttachedSrc).raise (PCC_CFG.DISCEN 6)).raise (PCC_STATUS.VCONNON 6)).put (PCC_CABLE.ATTEMPTS 6) 1

/-! ### Results that the spec gives -/

-- R31, the worked case of The device in one pass: port 3 and slices 9 and 10.
theorem test_map_port3 : PCC_STATUS.at 3 = 0x13000 ∧ PEV_STATUS.at 3 = 0x13A00 := by decide
theorem test_map_slices : sliceBase 9 = 0x20900 ∧ sliceBase 10 = 0x20A00 := by decide
-- R476: a 38.4 MHz crystal gives between 2433 and 2482 counts, 40 MHz at least 2534.
theorem test_reference_codes : refCode 2433 = some 7 ∧ refCode 2482 = some 7 ∧ refCode 2534 = some 8 := by decide
-- R117, worked case: Cable VDO 0x110A4640 of a passive cable.
theorem test_cable_length : (after (.cableAck ⟨6, 1⟩ 0x18000000 0x110A4640) cabled).rd (PCC_LENGTH.at 6) = 0x0132140A := by decide +kernel
theorem test_cable_record : (after (.cableAck ⟨6, 1⟩ 0x18000000 0x110A4640) cabled).rd (PCC_CABLE.at 6) = 0x25A := by decide +kernel
-- R196, worked case: TON and the edges of P at 400 kHz.
theorem test_pulse_edges : onTime 27307 32000 = 13333 ∧ edgesOf 16000 13333 = (9334, 22667) := by decide
-- R423's ceiling in the worked case of R415: the device takes the new ceiling.
theorem test_ceiling_override : ceilOk 0xC100000001338333 0xC100000001318233 = true := by decide +kernel
-- R342, worked case: OK with GEN 0x0157.
theorem test_status_word : statusWord stOK 0 0x157 = 0x01570000 := by decide
-- R417: bit 5 MARGINAL above five BURNED bits makes KEYREV 6.
theorem test_marginal_counts : ({ State.reset with otp := { State.reset.otp with ctr := [0, 0, 0, 0, 0x1F, 0], ctrMarg := [0, 0, 0, 0, 0x20, 0] } } : State).keyrev = 6 := by
  decide +kernel
-- The table gives the commands no bits.
theorem test_no_words : decodeTableWord 32 0xFFFFFFFF = none := by decide
-- R12: STATE_GEN of a port is 0 before its first change, and reset leaves the canonical form.
theorem test_reset_wf : regsWf State.reset.regs = true ∧ rising State.reset.staged = true := by decide +kernel

-- R14: the worked example "abc" of FIPS 180-4.
theorem test_sha256_abc : sha256 [0x61, 0x62, 0x63] = 0xba7816bf8f01cfea414140de5dae2223b00361a396177a9cb410ff61f20015ad := by decide +kernel
-- R14: the generator of P-256 lies on the curve, and its multiple by the group order is the point at infinity (FIPS 186-5).
theorem test_p256_generator : onCurve p256gx p256gy = true := by decide +kernel
theorem test_p256_order : ((⟨p256gx, p256gy, 1⟩ : P256).times p256n).z = 0 := by decide +kernel
-- R193: T = 4000 clocks is the longest period; a fraction above it is reserved. R300: SWLO lies below SWHI.
theorem test_period_pair : reservedPair (RAF_PERIOD.at 3) ((RAF_PERIOD.PRDF 3).set ((RAF_PERIOD.PRD 3).set 0 4000) 1) ≠ 0 ∧
    reservedPair (RAF_PERIOD.at 3) ((RAF_PERIOD.PRD 3).set 0 4000) = 0 := by decide +kernel
theorem test_switch_pair : reservedPair (PVL_SWCFG.at 2) ((PVL_SWCFG.SWLO 2).set ((PVL_SWCFG.SWHI 2).set 0 8) 8) ≠ 0 := by decide +kernel
-- R33: an unmapped read ends UNMAPPED and gives a word of zeros for each word asked for.
theorem test_unmapped_read : (after (.hostRead .spi 0xF000 2 0 ⟨.normal, [], [], true⟩) up).host.ports[HostPort.spi.idx].rdData = [0, 0] := by decide +kernel
-- R519, R525: 400 balls, CC1 of port 0 at A1, and 171 cells of three bits in the boundary register.
theorem test_balls : ballsInOrder.length = 400 ∧ ballAt 0 0 = .cc 0 false ∧ boundaryCells.length * 3 = 513 := by decide +kernel

/-! ### The statements' hypotheses can be met -/

/-- A step is taken from a state in the canonical form, with a command in front. -/
theorem meets_StepKeepsCanonicalForm : ∃ s t : State, s.wf ∧ step s = .next t :=
  ⟨{ State.reset with pending := [.vddValid] }, _, ⟨by decide +kernel, by decide +kernel⟩, rfl⟩

theorem meets_CountersNeverFall : ∃ s t : State, s.otp.ctr.length = 6 ∧ step s = .next t :=
  ⟨{ State.reset with pending := [.vddValid] }, _, by decide +kernel, rfl⟩

theorem meets_StepRunsFront : ∃ s : State, s.pending = [] := ⟨State.reset, rfl⟩

theorem meets_Supplies :
    (∃ (s : State), s.holding = false) ∧
    (∃ (s : State), s.holding = true) ∧
    (∃ (s : State), s.boot.thermal = true) ∧
    (∃ (a : Nat) (b : Nat) (s : State), s.boot.rd = [a, b]) ∧
    (∃ (s : State), s.bit GLB_SUPSTAT.VHVOK = true ∧ s.islandUp islHost = true) ∧
    (∃ (s : State), 4 ≤ s.get GLB_BOOTSTAT.STAGE ∧ s.islandUp islHost = false ∧ s.upd.relay = none) ∧
    (∃ (s : State), 0x101 ∉ s.bat.levels ∧ s.boot.ovBar = true ∧ s.bit GLB_SUPSTAT.VHVOK = true) ∧
    (∃ (s : State), s.bit GLB_SUPSTAT.VDDOK = true) :=
  ⟨⟨up |>.modBoot (fun z => { z with thermal := true }), by decide +kernel⟩,
   ⟨up |>.modUpd (fun z => { z with relay := some { kind := 1, cause := 0x11, ev := 0, apply := none, started := some 5, rotated := false } }), by decide +kernel⟩,
   ⟨up |>.modBoot (fun z => { z with thermal := true }), by decide +kernel⟩,
   ⟨1, 1, (let a : Nat := 1; let b : Nat := 1; up |>.modBoot (fun z => { z with rd := [a, b] })), by decide +kernel⟩,
   ⟨up |>.raise GLB_SUPSTAT.VHVOK, by decide +kernel⟩,
   ⟨up |>.put GLB_BOOTSTAT.STAGE 4 |>.maskBit GLB_ISLPWR.ISL islHost false |>.modUpd (fun z => { z with relay := none }), by decide +kernel⟩,
   ⟨up |>.modBoot (fun z => { z with ovBar := true }), by decide +kernel⟩,
   ⟨up |>.raise GLB_SUPSTAT.VDDOK, by decide +kernel⟩⟩

theorem meets_BootSequence :
    (∃ (s : State), s.get GLB_BOOTSTAT.STAGE < 4 ∧ s.bit GLB_SUPSTAT.VDDOK = false) ∧
    (∃ (s : State), s.bit GLB_SUPSTAT.VDDOK = true ∧ s.get GLB_BOOTSTAT.STAGE = 0 ∧ s.boot.inReset.isSome = true ∧ s.boot.thermal = false) ∧
    (∃ (s : State), s.wantsOtp = true ∧ s.bit GLB_SUPSTAT.VDDOK = true) ∧
    (∃ (c : BitVec 12) (k : Nat) (s : State), s.get GLB_BOOTSTAT.STAGE = 2 ∧ s.bit GLB_SUPSTAT.VDDOK = true ∧ s.devcfg 1 0 = 1 ∧ refCode c.toNat = some k) ∧
    (∃ (s : State), s.get GLB_BOOTSTAT.STAGE = 2 ∧ s.bit GLB_SUPSTAT.VDDOK = true ∧ s.devcfg 1 0 = 1) :=
  ⟨⟨State.reset, by decide +kernel⟩,
   ⟨up |>.raise GLB_SUPSTAT.VDDOK |>.put GLB_BOOTSTAT.STAGE (0) |>.modBoot (fun z => { z with thermal := false }) |>.modBoot (fun z => { z with inReset := some 0 }), by decide +kernel⟩,
   ⟨up |>.raise GLB_SUPSTAT.VDDOK |>.modBoot (fun z => { z with inReset := some 0 }), by decide +kernel⟩,
   ⟨1280, 2, up |>.put GLB_BOOTSTAT.STAGE (2) |>.raise GLB_SUPSTAT.VDDOK |>.modOtp (fun z => { z with shadow := [(0x0CC, 0xD100000000000001)] }), by decide +kernel⟩,
   ⟨up |>.put GLB_BOOTSTAT.STAGE (2) |>.raise GLB_SUPSTAT.VDDOK |>.modOtp (fun z => { z with shadow := [(0x0CC, 0xD100000000000001)] }), by decide +kernel⟩⟩

theorem meets_BootReleasesIslands :
    (∃ (s : State), s.get GLB_BOOTSTAT.STAGE = 3 ∧ s.boot.inReset.isSome = true ∧ assocGet s.boot.closing islRidge = none) ∧
    (∃ (d : Dir) (s : State), s.get GLB_BOOTSTAT.STAGE = 4 ∧ s.bit GLB_BOOTSTAT.DORMER = false ∧ s.bit SOF_DBSTAT.RECOVREQ = false ∧ s.bit GLB_BOOTCTL.DORMERNEXT = false ∧ s.keyHash.isSome = true ∧ s.upd.dir = some d ∧ d.sstate = 0 ∧ d.trial = false ∧ d.nextboot = false ∧ s.islandUp islRidge = true) ∧
    (∃ (s : State), s.get GLB_BOOTSTAT.STAGE = 4 ∧ s.bit GLB_BOOTSTAT.DORMER = false ∧ s.bit SOF_DBSTAT.RECOVREQ = false ∧ s.bit GLB_BOOTCTL.DORMERNEXT = false ∧ s.keyHash.isSome = true ∧ s.islandUp islRidge = true) ∧
    (∃ (n : Fin 16) (s : State), s.get GLB_BOOTSTAT.STAGE = 5 ∧ s.upd.relay = none ∧ s.boot.nextIsl = n.val ∧ s.tha.passDue = false) ∧
    (∃ (hp : HostPort) (s : State), s.takes hp GLB_PORTGO.at 1 ∧ s.get GLB_BOOTSTAT.STAGE = 5 ∧ s.bit GLB_BOOTCTL.HOLDPORTS = true ∧ s.boot.nextIsl = 32) ∧
    (∃ (s : State), s.get GLB_BOOTSTAT.STAGE = 5 ∧ s.boot.nextIsl = 16 ∧ s.upd.relay = none) :=
  ⟨⟨up |>.put GLB_BOOTSTAT.STAGE (3) |>.modBoot (fun z => { z with inReset := some 0 }), by decide +kernel⟩,
   ⟨{ dseq := 5, act := 0, prev := 1, stag := 2, trial := false, trials := 0, nextboot := false, amanid := 7, pmanid := 8, smanid := 9, sstate := 0, chainApply := 0, sector := 0 }, (let d : Dir := { dseq := 5, act := 0, prev := 1, stag := 2, trial := false, trials := 0, nextboot := false, amanid := 7, pmanid := 8, smanid := 9, sstate := 0, chainApply := 0, sector := 0 }; up |>.put GLB_BOOTSTAT.STAGE (4) |>.clear GLB_BOOTSTAT.DORMER |>.clear SOF_DBSTAT.RECOVREQ |>.clear GLB_BOOTCTL.DORMERNEXT |>.modUpd (fun z => { z with dir := some d })), by decide +kernel⟩,
   ⟨up |>.put GLB_BOOTSTAT.STAGE (4) |>.clear GLB_BOOTSTAT.DORMER |>.clear SOF_DBSTAT.RECOVREQ |>.clear GLB_BOOTCTL.DORMERNEXT, by decide +kernel⟩,
   ⟨2, (let n : Fin 16 := 2; up |>.put GLB_BOOTSTAT.STAGE (5) |>.modUpd (fun z => { z with relay := none }) |>.modBoot (fun z => { z with nextIsl := n.val })), by decide +kernel⟩,
   ⟨.spi, up |>.put GLB_BOOTSTAT.STAGE (5) |>.raise GLB_BOOTCTL.HOLDPORTS |>.modBoot (fun z => { z with nextIsl := 32 }), by decide +kernel⟩,
   ⟨up |>.put GLB_BOOTSTAT.STAGE (5) |>.modBoot (fun z => { z with nextIsl := 16 }) |>.modUpd (fun z => { z with relay := none }), by decide +kernel⟩⟩

theorem meets_ServiceBoot :
    (∃ (s : State), s.bit GLB_SUPSTAT.VDDOK = false ∧ s.bit OTP_STAT.LOADED = false ∧ s.boot.thermal = false ∧ s.boot.inReset = some 0) ∧
    (∃ (v0 : Bool) (v1 : Bool) (s : State), s.boot.sampling = true ∧ s.bit GLB_SUPSTAT.VDDOK = false ∧ v0 || v1) ∧
    (∃ (s : State), s.bit GLB_SUPSTAT.VDDOK = true) ∧
    (∃ (s : State), s.bit GLB_SUPSTAT.VDDOK = false ∧ s.bit GLB_SUPSTAT.VHVOK = false) ∧
    (∃ (n : Fin 16) (s : State), s.isService n = true ∧ s.stageOn n = true ∧ s.get (PLP_STATUS.MODE n) = 3 ∧ s.halted n.val = false) :=
  ⟨⟨up |>.clear GLB_SUPSTAT.VDDOK |>.clear OTP_STAT.LOADED |>.modBoot (fun z => { z with thermal := false }) |>.modBoot (fun z => { z with inReset := some 0 }), by decide +kernel⟩,
   ⟨true, true, up |>.modBoot (fun z => { z with sampling := true }) |>.clear GLB_SUPSTAT.VDDOK, by decide +kernel⟩,
   ⟨up |>.raise GLB_SUPSTAT.VDDOK, by decide +kernel⟩,
   ⟨up |>.clear GLB_SUPSTAT.VDDOK |>.clear GLB_SUPSTAT.VHVOK, by decide +kernel⟩,
   ⟨2, (let n : Fin 16 := 2; up |>.modPort n (fun z => { z with role := 1 }) |>.put (RAF_STAT.PORT 6) n.val |>.raise (RAF_STAT.RUN 6) |>.put (PLP_STATUS.MODE n) (3)), by decide +kernel⟩⟩

theorem meets_DeviceResets :
    (∃ (s : State), s.otp.burn = none) ∧
    (∃ (s : State), s.otp.burn.isSome = true) ∧
    (∃ (ns : Nat) (s : State), 1000 ≤ ns ∧ s.otp.burn = none) ∧
    (∃ (hp : HostPort) (s : State), s.accepts hp [(GLB_RESET.at, 0x5A000001)] ∧ s.otp.burn = none) ∧
    (∃ (hp : HostPort) (s : State), s.accepts hp [(GLB_RESET.at, 0x5A000002)] ∧ s.otp.burn = none) ∧
    (∃ (hp : HostPort) (s : State), s.accepts hp [(GLB_RESET.at, 0x5A000003)] ∧ s.upd.relay = none) :=
  ⟨⟨up |>.modOtp (fun z => { z with burn := none }), by decide +kernel⟩,
   ⟨up |>.modOtp (fun z => { z with burn := some { kind := 1, word := 0x100, value := 77 } }), by decide +kernel⟩,
   ⟨1000, up |>.modOtp (fun z => { z with burn := none }), by decide +kernel⟩,
   ⟨.spi, up |>.modOtp (fun z => { z with burn := none }), by decide +kernel⟩,
   ⟨.spi, up |>.modOtp (fun z => { z with burn := none }), by decide +kernel⟩,
   ⟨.spi, up |>.modUpd (fun z => { z with relay := none }), by decide +kernel⟩⟩

theorem meets_RidgeAndBattenLoss :
    (∃ (s : State), s.islandUp islRidge = true ∧ s.halted islRidge = false) ∧
    (∃ (s : State), s.bit RDG_STAT.OUTAGE = true ∧ s.islandUp islRidge = false ∧ 4 ≤ s.get GLB_BOOTSTAT.STAGE ∧ s.upd.relay = none ∧ s.tha.reload = false ∧ s.dirNow.sstate ≠ 1) ∧
    (∃ (s : State), s.bit RDG_STAT.OUTAGE = true) ∧
    (∃ (s : State), s.islandUp islBatten = false ∧ 4 ≤ s.get GLB_BOOTSTAT.STAGE ∧ s.upd.relay = none) :=
  ⟨⟨up, by decide +kernel⟩,
   ⟨up |>.raise RDG_STAT.OUTAGE |>.maskBit GLB_ISLPWR.ISL islRidge false |>.put GLB_BOOTSTAT.STAGE 4 |>.modUpd (fun z => { z with relay := none }) |>.modTha (fun z => { z with reload := false }), by decide +kernel⟩,
   ⟨up |>.raise RDG_STAT.OUTAGE, by decide +kernel⟩,
   ⟨up |>.maskBit GLB_ISLPWR.ISL islBatten false |>.put GLB_BOOTSTAT.STAGE 4 |>.modUpd (fun z => { z with relay := none }), by decide +kernel⟩⟩

theorem meets_UnderlayRegions :
    (∃ (isl : Fin 21) (s : State), s.islandUp isl.val = true ∧ isl.val < 20) ∧
    (∃ (s : State), s.islandUp islSoffit = true) ∧
    (∃ (k : Nat) (c : Nat) (s : State), s.boot.closingNow = some k ∧ assocGet s.boot.closing k = some c) ∧
    (∃ (isl : Fin 21) (n : Fin 16) (s : State), isl.val = n.val ∧ (assocGet s.boot.closing n.val).isSome = true ∧ 5 ≤ s.get GLB_BOOTSTAT.STAGE ∧ s.get SOF_DBSTAT.SVCPORT ≠ n.val + 1 ∧ s.present n = true ∧ (structOf s.recs n.val).en = true ∧ s.tha.passDue = false ∧ n.val ∉ s.boot.haltDue) :=
  ⟨⟨1, up, by decide +kernel⟩,
   ⟨up, by decide +kernel⟩,
   ⟨3, 2, up |>.modBoot (fun z => { z with closing := [(3, 2)] }), by decide +kernel⟩,
   ⟨2, 2, up |>.put GLB_BOOTSTAT.STAGE 5 |>.modBoot (fun z => { z with closing := [(2, 8)] }) |> fun (z : State) => { z with running := [0, 0, 400, 1, 0, 0, 0, 0, 0x00040203, 0, 1, 0] }, by decide +kernel⟩⟩

theorem meets_ClockEvents :
    (∃ (s : State), s.get GLB_CLKSTAT.REFSRC ≠ 0) ∧
    (∃ (n : Fin 16) (s : State), s.portUp n = true) ∧
    (∃ (n : Fin 16) (s : State), s.portUp n = true ∧ (s.get GLB_PLLSTAT.LOCK).testBit n.val = false ∧ s.halted n.val = false) :=
  ⟨⟨up |>.put GLB_CLKSTAT.REFSRC 2, by decide +kernel⟩,
   ⟨2, up, by decide +kernel⟩,
   ⟨2, up, by decide +kernel⟩⟩

theorem meets_TapAndDebugHalt :
    (∃ (isl : Fin 24) (s : State), 3 ≤ s.level3 .jtag ∧ haltable isl.val = true ∧ s.islandUp isl.val = true ∧ s.halted isl.val = false) ∧
    (∃ (s : State), s.level3 .jtag < 3) ∧
    (∃ (isl : Fin 24) (s : State), 3 ≤ s.level3 .jtag ∧ haltable isl.val = true ∧ s.halted isl.val = true) ∧
    (∃ (s : State), s.level3 .jtag < 3) ∧
    (∃ (s : State), 1 ≤ s.level3 .jtag) ∧
    (∃ (s : State), s.level3 .jtag = 0) ∧
    (∃ (s : State), 3 ≤ s.level3 .jtag) ∧
    (∃ (s : State), 3 ≤ s.level3 .jtag) ∧
    (∃ (s : State), 3 ≤ s.level3 .jtag) ∧
    (∃ (s : State), s.level3 .jtag < 3) :=
  ⟨⟨1, up, by decide +kernel⟩,
   ⟨up |>.wr HST_AUTH.at 0, by decide +kernel⟩,
   ⟨15, (let isl : Fin 24 := 15; up |>.put GLB_ISLHALT.ISL (2 ^ isl.val)), by decide +kernel⟩,
   ⟨up |>.wr HST_AUTH.at 0, by decide +kernel⟩,
   ⟨up, by decide +kernel⟩,
   ⟨up |>.wr HST_AUTH.at 0, by decide +kernel⟩,
   ⟨up, by decide +kernel⟩,
   ⟨up, by decide +kernel⟩,
   ⟨up, by decide +kernel⟩,
   ⟨up |>.wr HST_AUTH.at 0, by decide +kernel⟩⟩

theorem meets_HostReads :
    (∃ (hp : HostPort) (addr : BitVec 24) (count : Nat) (crc : Byte) (ce : List (BitVec 17)) (ue : List (BitVec 17)) (s : State), s.listens hp = true ∧ 1 ≤ count ∧ count ≤ 64 ∧ s.crcBad hp (frameHead 0 count addr.toNat) crc = false ∧ s.judgeRead hp addr.toNat count = (stOK, 0, addr.toNat) ∧ (faultWords ce ue).all (fun x => !(wordAddrs addr.toNat count).contains (0x40000 + x.1)) = true) ∧
    (∃ (hp : HostPort) (addr : BitVec 24) (count : Nat) (crc : Byte) (s : State), s.listens hp = true ∧ 1 ≤ count ∧ count ≤ 64 ∧ s.crcBad hp (frameHead 0 count addr.toNat) crc = false ∧ ((s.judgeRead hp addr.toNat count).1 = stUNMAPPED ∨ (s.judgeRead hp addr.toNat count).1 = stABSENT)) ∧
    (∃ (hp : HostPort) (addr : BitVec 24) (crc : Byte) (s : State), s.listens hp = true ∧ s.crcBad hp (frameHead 0 1 addr.toNat) crc = false ∧ s.judgeRead hp addr.toNat 1 = (stOK, 0, addr.toNat) ∧ blockOf addr.toNat = some .glb ∧ s.host.ports[hp.idx].latch = none) ∧
    (∃ (hp : HostPort) (s : State), s.listens hp = true ∧ hp ≠ .jtag) ∧
    (∃ (s : State), s.listens .jtag = true) ∧
    (∃ (hp : HostPort) (addr : BitVec 24) (s : State), s.listens hp = true ∧ s.judgeRead hp addr.toNat 1 = (stOK, 0, addr.toNat) ∧ addr.toNat ≠ 0x5010 ∧ latchGroup addr.toNat ≠ []) ∧
    (∃ (hp : HostPort) (s : State), s.listens hp = true ∧ s.judgeRead hp TRS_STAT.at 1 = (stOK, 0, TRS_STAT.at) ∧ s.host.ports[hp.idx].latch = none) ∧
    (∃ (hp : HostPort) (s : State), s.listens hp = true ∧ s.judgeRead hp SOF_TIME_SUB.at 1 = (stOK, 0, SOF_TIME_SUB.at) ∧ s.host.ports[hp.idx].latch = none) ∧
    (∃ (hp : HostPort) (n : Fin 16) (s : State), s.listens hp = true ∧ s.judgeRead hp (0xB400 + 0x80 * n.val) 1 = (stOK, 0, 0xB400 + 0x80 * n.val)) ∧
    (∃ (hp : HostPort) (x : QEntry) (s : State), s.listens hp = true ∧ s.judgeRead hp 0x5010 1 = (stOK, 0, 0x5010) ∧ s.nextUnread = some x) ∧
    (∃ (hp : HostPort) (s : State), s.listens hp = true ∧ s.judgeRead hp 0x5010 1 = (stOK, 0, 0x5010) ∧ s.nextUnread = none) :=
  ⟨⟨.spi, 0x40, 1, 5, [], [], up, by decide +kernel⟩,
   ⟨.spi, 0xF000, 1, 5, up, by decide +kernel⟩,
   ⟨.spi, 0x40, 5, up, by decide +kernel⟩,
   ⟨.spi, up, by decide +kernel⟩,
   ⟨up, by decide +kernel⟩,
   ⟨.spi, 0x3800, up, by decide +kernel⟩,
   ⟨.spi, up, by decide +kernel⟩,
   ⟨.spi, up, by decide +kernel⟩,
   ⟨.spi, 2, up, by decide +kernel⟩,
   ⟨.spi, { src := 5, kind := 1, data := 7, usec := 9, sec := 4, seq := 3, lost := 0, read := false }, (let x : QEntry := { src := 5, kind := 1, data := 7, usec := 9, sec := 4, seq := 3, lost := 0, read := false }; up |>.modBat (fun z => { z with queue := [x] })), by decide +kernel⟩,
   ⟨.spi, up, by decide +kernel⟩⟩

theorem meets_HostWrites :
    (∃ (hp : HostPort) (addr : BitVec 24) (data : List Word) (crc : Byte) (s : State), s.listens hp = true ∧ s.crcBad hp (writeFrame none addr.toNat data) crc = false ∧ s.judgeWrite hp none (targets addr.toNat data) = (stOK, 0, 0)) ∧
    (∃ (hp : HostPort) (addr : BitVec 24) (gen : BitVec 16) (data : List Word) (crc : Byte) (s : State), s.listens hp = true ∧ s.crcBad hp (writeFrame (some gen) addr.toNat data) crc = false ∧ s.judgeWrite hp (some gen) (targets addr.toNat data) = (stOK, 0, 0)) ∧
    (∃ (hp : HostPort) (addr : BitVec 24) (data : List Word) (s : State), s.listens hp = true ∧ (s.judgeWrite hp none (targets addr.toNat data)).1 ≠ stOK) ∧
    (∃ (hp : HostPort) (s : State), s.listens hp = true) ∧
    (∃ (kind : AbortKind) (s : State), kind ≠ .badLength) ∧
    (∃ (o : Order) (x : Txn) (s : State), s.host.orders = [o] ∧ s.host.txns = [x] ∧ x.id = o.txn ∧ x.undecided = 1 ∧ x.opsLeft = 0 ∧ x.words = [(o.addr, o.val)] ∧ s.islandUp islRidge = true ∧ s.outage = false ∧ s.ridge.window = []) ∧
    (∃ (hp : HostPort) (s : State), s.takes hp HST_CMD.at 0x48000001) ∧
    (∃ (u : State) (hp : HostPort) (s : State), s.accepts hp [(HST_CMD.at, 0x48000001)] ∧ s.islandUp islRidge = true ∧ s.pushAll (s.opsFor hp [(HST_CMD.at, 0x48000001)]) = some u ∧ s.commitsAtOnce (s.opsFor hp [(HST_CMD.at, 0x48000001)]) = false) ∧
    (∃ (hp : HostPort) (s : State), s.accepts hp [(HST_CMD.at, 0x48000001)] ∧ s.islandUp islRidge = false) :=
  ⟨⟨.spi, GLB_BOOTCTL.at, [1], 5, up, by decide +kernel⟩,
   ⟨.spi, PCC_CFG.at 2, 1, [1], 5, up, by decide +kernel⟩,
   ⟨.spi, 5, [], up, by decide +kernel⟩,
   ⟨.spi, up, by decide +kernel⟩,
   ⟨.csInsideByte, up, by decide +kernel⟩,
   ⟨{ hp := .spi, txn := 3, addr := GLB_BOOTCTL.at, val := 1, grant := 3, usec := 0 }, { id := 3, hp := .spi, guard := none, words := [(GLB_BOOTCTL.at, 1)], undecided := 1, opsLeft := 0, leader := none }, (let o : Order := { hp := .spi, txn := 3, addr := GLB_BOOTCTL.at, val := 1, grant := 3, usec := 0 }; let x : Txn := { id := 3, hp := .spi, guard := none, words := [(GLB_BOOTCTL.at, 1)], undecided := 1, opsLeft := 0, leader := none }; up |>.modHost (fun z => { z with orders := [o] }) |>.modHost (fun z => { z with txns := [x] }) |>.modRidge (fun z => { z with window := [] })), by decide +kernel⟩,
   ⟨.spi, up, by decide +kernel⟩,
   ⟨((up |>.modRidge (fun z => { z with window := [Op.mk0 16 clsCFG 2 0 0] })).pushAll ((up |>.modRidge (fun z => { z with window := [Op.mk0 16 clsCFG 2 0 0] })).opsFor .spi [(HST_CMD.at, 0x48000001)])).getD up, .spi, up |>.modRidge (fun z => { z with window := [Op.mk0 16 clsCFG 2 0 0] }), by decide +kernel⟩,
   ⟨.spi, up |>.maskBit GLB_ISLPWR.ISL islRidge false, by decide +kernel⟩⟩

theorem meets_WindowAndApplyQueue :
    (∃ (src : BitVec 4) (port : BitVec 5) (cls : BitVec 4) (sub : BitVec 4) (arg : BitVec 28) (tag : Nat) (s : State), 1 ≤ src.toNat ∧ src.toNat ≤ 9 ∧ port.toNat ≤ 16 ∧ cls.toNat ≤ 8 ∧ s.ridgeRuns = true ∧ (4 ≤ src.toNat → waitsBehind s.ridge.waiting (enteringOp src.toNat port.toNat cls.toNat sub.toNat arg.toNat) = false) ∧ hasRoom s.ridge.window (enteringOp src.toNat port.toNat cls.toNat sub.toNat arg.toNat) = true ∧ freeTag s.ridge.window s.ridge.lastTag 256 = some tag) ∧
    (∃ (src : BitVec 4) (port : BitVec 5) (cls : BitVec 4) (sub : BitVec 4) (arg : BitVec 28) (s : State), 1 ≤ src.toNat ∧ src.toNat ≤ 3 ∧ port.toNat ≤ 16 ∧ cls.toNat ≤ 8 ∧ hasRoom s.ridge.window (enteringOp src.toNat port.toNat cls.toNat sub.toNat arg.toNat) = false) ∧
    (∃ (src : BitVec 4) (port : BitVec 5) (cls : BitVec 4) (sub : BitVec 4) (arg : BitVec 28) (s : State), 4 ≤ src.toNat ∧ src.toNat ≤ 9 ∧ port.toNat ≤ 16 ∧ cls.toNat ≤ 8 ∧ s.ridgeRuns = true ∧ hasRoom s.ridge.window (enteringOp src.toNat port.toNat cls.toNat sub.toNat arg.toNat) = false ∧ s.waitingOf src.toNat < 16) ∧
    (∃ (src : BitVec 4) (port : BitVec 5) (cls : BitVec 4) (sub : BitVec 4) (arg : BitVec 28) (s : State), 6 ≤ src.toNat ∧ src.toNat ≤ 9 ∧ port.toNat ≤ 16 ∧ cls.toNat ≤ 8 ∧ s.ridgeRuns = true ∧ hasRoom s.ridge.window (enteringOp src.toNat port.toNat cls.toNat sub.toNat arg.toNat) = false ∧ 16 ≤ s.waitingOf src.toNat) ∧
    (∃ (o : Op) (n : Fin 16) (s : State), s.ridgeRuns = true ∧ s.ridge.window = [o] ∧ s.ridge.waiting = [] ∧ s.slotClean ∧ cellGet s.staged RDG_CFG.at = none ∧ o.tent = false ∧ o.reg = none ∧ o.cls = clsSW ∧ o.sub < 7 ∧ o.port = n.val ∧ s.portUp n = true ∧ s.ports[n].faultPath = false ∧ s.cc n ≠ ccErrorRecovery) ∧
    (∃ (o : Op) (n : Fin 16) (s : State), s.ridgeRuns = true ∧ s.ridge.window = [o] ∧ s.ridge.waiting = [] ∧ s.slotClean ∧ cellGet s.staged RDG_CFG.at = none ∧ o.tent = false ∧ o.reg = none ∧ (o.cls = clsSETP ∨ o.cls = clsLIM ∨ o.cls = clsSW ∧ o.sub < 7) ∧ o.port = n.val ∧ (s.ports[n].faultPath = true ∨ s.cc n = ccErrorRecovery)) ∧
    (∃ (o : Op) (x : Txn) (v : Word) (hp : HostPort) (s : State), s.ridgeRuns = true ∧ s.ridge.window = [o] ∧ s.ridge.waiting = [] ∧ s.slotClean ∧ cellGet s.staged RDG_CFG.at = none ∧ o.tent = false ∧ o.port = 16 ∧ o.cls = clsCFG ∧ o.reg = some (GLB_BOOTCTL.at, v) ∧ o.hp = some hp ∧ o.txn = some x.id ∧ s.host.txns = [x] ∧ x.hp = hp ∧ x.guard = none ∧ x.leader = none ∧ x.words = [(GLB_BOOTCTL.at, v)] ∧ x.opsLeft = 1) ∧
    (∃ (n : Fin 16) (o : Op) (rest : List Op) (s : State), s.ports[n].applyQ = o :: rest ∧ s.halted n.val = false ∧ o.cls = clsSW ∧ o.sub = 5) ∧
    (∃ (n : Fin 16) (o : Op) (rest : List Op) (s : State), s.ports[n].applyQ = o :: rest ∧ s.halted n.val = false ∧ (o.cls = clsSETP ∨ o.cls = clsLIM) ∧ (s.pd n).trans.any (fun w => !w.applied) = true) ∧
    (∃ (n : Fin 16) (s : State), s.ridgeRuns = true ∧ s.portUp n = true ∧ s.halted n.val = false) ∧
    (∃ (n : Fin 16) (rdo : Word) (copy : Word) (epr : Bool) (o : Op) (s : State), (s.pd n).reqRdo = some (rdo, copy, epr) ∧ s.pstate n = 4 ∧ s.ridgeRuns = true ∧ ((s.opsOf n.val).filter Op.isEval).getLast? = some o) ∧
    (∃ (tag : Byte) (s : State), s.ridgeRuns = true ∧ (s.opAt tag.toNat).any Op.tent = true) ∧
    (∃ (hp : HostPort) (tag : Byte) (s : State), s.takes hp RDG_CMD.at (rdgCmdWord 0xA5 (256 + tag.toNat)) ∧ s.ridge.window.any (fun o => o.tent && o.tag == tag.toNat) = true) ∧
    (∃ (hp : HostPort) (tag : Byte) (s : State), s.takes hp RDG_CMD.at (rdgCmdWord 0xA5 (256 + tag.toNat)) ∧ s.ridge.window.any (fun o => o.tent && o.tag == tag.toNat) = false) ∧
    (∃ (hp : HostPort) (s : State), s.takes hp RDG_CMD.at 0xA5000200) :=
  ⟨⟨4, 2, 3, 5, 5, 1, up |>.modRidge (fun z => { z with window := [Op.mk0 2 3 5 0 0], lastTag := 0 }), by decide +kernel⟩,
   ⟨2, 2, 3, 0, 0, up |>.modRidge (fun z => { z with window := (List.range 24).map (fun k => { Op.mk0 2 3 2 0 0 with tag := k }) }), by decide +kernel⟩,
   ⟨6, 2, 3, 5, 5, up |>.modRidge (fun z => { z with window := List.replicate 24 (Op.mk0 2 3 5 0 0) }), by decide +kernel⟩,
   ⟨6, 2, 3, 0, 0, up |>.modRidge (fun z => { z with window := List.replicate 24 (Op.mk0 2 3 6 0 0), waiting := List.replicate 16 (Op.mk0 2 3 6 0 0) }), by decide +kernel⟩,
   ⟨Op.mk0 2 clsSW 5 0 7, 2, (let o : Op := Op.mk0 2 clsSW 5 0 7; up |>.modRidge (fun z => { z with window := [o] }) |>.modRidge (fun z => { z with waiting := [] }) |>.modRidge (fun z => { z with cancels := [] }) |>.clear TRS_STAT.DEFICIT), by decide +kernel⟩,
   ⟨Op.mk0 2 clsSW 5 0 7, 2, (let o : Op := Op.mk0 2 clsSW 5 0 7; let n : Fin 16 := 2; up |>.modRidge (fun z => { z with window := [o] }) |>.modPort n (fun z => { z with faultPath := true })), by decide +kernel⟩,
   ⟨{ Op.mk0 16 clsCFG 0 0 7 with reg := some (GLB_BOOTCTL.at, 5), hp := some .spi, txn := some 3 }, { id := 3, hp := .spi, guard := none, words := [(GLB_BOOTCTL.at, 5)], undecided := 0, opsLeft := 1, leader := none }, 5, .spi, (let o : Op := { Op.mk0 16 clsCFG 0 0 7 with reg := some (GLB_BOOTCTL.at, 5), hp := some .spi, txn := some 3 }; let x : Txn := { id := 3, hp := .spi, guard := none, words := [(GLB_BOOTCTL.at, 5)], undecided := 0, opsLeft := 1, leader := none }; up |>.modRidge (fun z => { z with window := [o] }) |>.modRidge (fun z => { z with waiting := [] }) |>.modRidge (fun z => { z with cancels := [] }) |>.clear TRS_STAT.DEFICIT |>.modHost (fun z => { z with txns := [x] })), by decide +kernel⟩,
   ⟨2, Op.mk0 2 clsSW 5 5 7, [], (let n : Fin 16 := 2; let o : Op := Op.mk0 2 clsSW 5 5 7; let rest : List Op := []; up |>.modPort n (fun z => { z with applyQ := o :: rest })), by decide +kernel⟩,
   ⟨2, Op.mk0 2 clsSETP 5 0 7, [], (let n : Fin 16 := 2; let o : Op := Op.mk0 2 clsSETP 5 0 7; let rest : List Op := []; up |>.modPort n (fun z => { z with applyQ := o :: rest }) |>.modPd n (fun d => { d with trans := some { rdo := 0, pos := 1, kind := 0, v10 := 500, ma := 3000, power := 15, fuseIdx := 0, loopIdx := 0, applied := false } })), by decide +kernel⟩,
   ⟨2, up, by decide +kernel⟩,
   ⟨2, 5, 5, true, Op.mk0 2 clsMSG 5 0 2, (let n : Fin 16 := 2; let rdo : Word := 5; let copy : Word := 5; let epr : Bool := true; let o : Op := Op.mk0 2 clsMSG 5 0 2; up |>.modPd n (fun d => { d with reqRdo := some (rdo, copy, epr) }) |>.put (PPD_STATUS.PSTATE n) 4 |>.modRidge (fun z => { z with window := [o] })), by decide +kernel⟩,
   ⟨5, (let tag : Byte := 5; up |>.modRidge (fun z => { z with window := [{ Op.mk0 2 clsSETP 5 0 2 with tent := true, tag := tag.toNat }] })), by decide +kernel⟩,
   ⟨.spi, 5, (let tag : Byte := 5; up |>.modRidge (fun z => { z with window := [{ Op.mk0 2 clsSETP 5 0 2 with tent := true, tag := tag.toNat }] })), by decide +kernel⟩,
   ⟨.spi, 5, up, by decide +kernel⟩,
   ⟨.spi, up, by decide +kernel⟩⟩

theorem meets_BudgetOffersAndPredictor :
    (∃ (hp : HostPort) (watts : BitVec 16) (s : State), s.takes hp TRS_BUDGET.at (BitVec.ofNat 32 watts.toNat) ∧ s.floorSum ≤ watts.toNat) ∧
    (∃ (hp : HostPort) (watts : BitVec 16) (s : State), s.takes hp TRS_BUDGET.at (BitVec.ofNat 32 watts.toNat) ∧ watts.toNat < s.floorSum) ∧
    (∃ (n : Fin 16) (s : State), s.ridgeRuns = true ∧ s.portUp n = true ∧ (s.get RDG_REOFFER.PORT).testBit n.val = true ∧ s.isSource n = true ∧ s.pstate n = 6 ∧ s.amsBusy n = false ∧ s.swHeld n = false ∧ s.ports[n].reofferAt = none) ∧
    (∃ (n : Fin 16) (s : State), (s.get RDG_REOFFER.PORT).testBit n.val = false) ∧
    (∃ (n : Fin 16) (s : State), s.ridgeRuns = true ∧ s.bit TRS_STAT.DEFICIT = true ∧ s.deficitReady n = true ∧ s.deficitTurn n = true) ∧
    (∃ (n : Fin 16) (w : Transition) (s : State), s.mayPredict n = true ∧ s.predicted n = some w ∧ s.ridge.waiting = [] ∧ s.ridge.window = []) ∧
    (∃ (n : Fin 16) (s : State), s.ridgeRuns = true ∧ (s.pd n).predTags ≠ []) ∧
    (∃ (src : BitVec 4) (port : BitVec 5) (cls : BitVec 4) (s : State), 1 ≤ src.toNat ∧ src.toNat ≤ 9 ∧ port.toNat ≤ 16 ∧ cls.toNat ≤ 8 ∧ s.ridgeRuns = true ∧ s.ridge.window = [] ∧ s.ridge.waiting = []) ∧
    (∃ (o : Op) (n : Fin 16) (s : State), s.ridgeRuns = true ∧ s.ridge.window = [o] ∧ s.ridge.waiting = [] ∧ s.slotClean ∧ cellGet s.staged RDG_CFG.at = none ∧ o.tent = false ∧ o.reg = none ∧ o.cls = clsSETP ∧ o.port = n.val ∧ s.portUp n = true ∧ s.ports[n].faultPath = false ∧ s.cc n ≠ ccErrorRecovery) ∧
    (∃ (n : Fin 16) (o : Op) (rest : List Op) (s : State), s.ports[n].applyQ = o :: rest ∧ s.halted n.val = false ∧ o.cls = clsSETP ∧ (s.pd n).trans = none) ∧
    (∃ (n : Fin 16) (o : Op) (s : State), s.ridgeRuns = true ∧ s.portUp n = true ∧ s.halted n.val = false ∧ s.ridge.window = [o] ∧ o.port = n.val ∧ o.tent = true ∧ o.cls = clsLIM) ∧
    (∃ (n : Fin 16) (rdo : Word) (copy : Word) (epr : Bool) (o : Op) (s : State), s.ridgeRuns = true ∧ s.pstate n = 4 ∧ (s.pd n).reqRdo = some (rdo, copy, epr) ∧ s.ridge.window = [o] ∧ o.port = n.val ∧ o.isEval = true ∧ s.swHeld n = false) ∧
    (∃ (o : Op) (s : State), s.ridgeRuns = true ∧ s.ridge.window = [o] ∧ o.tent = true ∧ o.tag < 256) ∧
    (∃ (hp : HostPort) (o : Op) (s : State), s.takes hp RDG_CMD.at (rdgCmdWord 0xA5 (256 + o.tag)) ∧ s.ridge.window = [o] ∧ o.tent = true ∧ o.tag < 256) ∧
    (∃ (hp : HostPort) (s : State), s.takes hp RDG_CMD.at 0xA5000200) :=
  ⟨⟨.spi, 5, up, by decide +kernel⟩,
   ⟨.spi, 14, up |>.put (TRS_ALLOC.FLOOR 2) 15, by decide +kernel⟩,
   ⟨2, (let n : Fin 16 := 2; up |>.put (PPD_STATUS.PSTATE n) 6 |>.modPort n (fun z => { z with reofferAt := none }) |>.put RDG_REOFFER.PORT 4), by decide +kernel⟩,
   ⟨2, up, by decide +kernel⟩,
   ⟨2, (let n : Fin 16 := 2; up |>.raise TRS_STAT.DEFICIT |>.modPort n (fun z => { z with deficitDue := 1 }) |>.put (PPD_STATUS.PSTATE n) 6 |>.put (TRS_ALLOC.FLOOR n) 15 |>.put (TRS_ALLOC.ALLOC n) 60), by decide +kernel⟩,
   ⟨2, { rdo := 0, pos := 1, kind := 1, v10 := 620, ma := 2000, power := powerW 620 2000, fuseIdx := 0, loopIdx := 0, applied := false }, (let n : Fin 16 := 2; up |>.modRidge (fun z => { z with waiting := [] }) |>.modRidge (fun z => { z with window := [] }) |>.raise RDG_CFG.PREDEN |>.raise (RDG_PRED.QUAL n) |>.clear (RDG_PRED.STOPPED n) |>.put (PPD_STATUS.PSTATE n) 6 |>.put (PPD_STATUS.KIND n) 1 |>.put (PPD_STATUS.CONTRACT n) 1 |>.put (PPD_CONTRACTVI.V10 n) 600 |>.modPd n (fun d => { d with run := [(0, 600, 2000, 1), (0, 580, 2000, 1)], posMap := [some 0] }) |>.wr (PPD_OFFER.at n 0) 0xC8DC213C), by decide +kernel⟩,
   ⟨2, (let n : Fin 16 := 2; up |>.modPd n (fun d => { d with predTags := [5] })), by decide +kernel⟩,
   ⟨2, 2, 3, up, by decide +kernel⟩,
   ⟨Op.mk0 2 clsSETP 5 0 7, 2, (let o : Op := Op.mk0 2 clsSETP 5 0 7; up |>.modRidge (fun z => { z with window := [o] })), by decide +kernel⟩,
   ⟨2, Op.mk0 2 clsSETP 5 0 7, [], (let n : Fin 16 := 2; let o : Op := Op.mk0 2 clsSETP 5 0 7; let rest : List Op := []; up |>.modPort n (fun z => { z with applyQ := o :: rest })), by decide +kernel⟩,
   ⟨2, { Op.mk0 2 clsLIM 5 0 7 with tent := true }, (let o : Op := { Op.mk0 2 clsLIM 5 0 7 with tent := true }; up |>.modRidge (fun z => { z with window := [o] })), by decide +kernel⟩,
   ⟨2, 5, 5, false, Op.mk0 2 clsMSG 5 0 2, (let n : Fin 16 := 2; let rdo : Word := 5; let copy : Word := 5; let epr : Bool := false; let o : Op := Op.mk0 2 clsMSG 5 0 2; up |>.put (PPD_STATUS.PSTATE n) 4 |>.modPd n (fun d => { d with reqRdo := some (rdo, copy, epr) }) |>.modRidge (fun z => { z with window := [o] })), by decide +kernel⟩,
   ⟨{ Op.mk0 2 clsLIM 5 0 7 with tent := true }, (let o : Op := { Op.mk0 2 clsLIM 5 0 7 with tent := true }; up |>.modRidge (fun z => { z with window := [o] })), by decide +kernel⟩,
   ⟨.spi, { Op.mk0 2 clsLIM 5 0 7 with tent := true }, (let o : Op := { Op.mk0 2 clsLIM 5 0 7 with tent := true }; up |>.modRidge (fun z => { z with window := [o] })), by decide +kernel⟩,
   ⟨.spi, up, by decide +kernel⟩⟩

theorem meets_I2cAndCan :
    (∃ (s : State), s.listens .i2c = true) ∧
    (∃ (s : State), s.listens .i2c = true ∧ s.bit HST_CFG.I2CTOEN = true) ∧
    (∃ (f : CanFrame) (s : State), s.canOn = true ∧ s.host.canLast = none ∧ s.host.canHeld.length < 4 ∧ f.op = 0 ∧ s.judgeRead .can f.addr.toNat f.count = (stOK, 0, f.addr.toNat)) ∧
    (∃ (f : CanFrame) (s : State), s.canOn = true ∧ s.host.canLast = none ∧ s.host.canHeld.length < 4 ∧ f.op = 1 ∧ f.count = f.data.length ∧ s.judgeWrite .can none (targets f.addr.toNat f.data) = (stOK, 0, 0)) ∧
    (∃ (f : CanFrame) (at_us : Nat) (r : Word × List Word) (s : State), s.canOn = true ∧ s.host.canLast = some (f, at_us, some r) ∧ s.now ≤ at_us + 1000000) ∧
    (∃ (r : Word × List Word) (rest : List (Word × List Word)) (s : State), s.canOn = true ∧ s.host.canResend = r :: rest) ∧
    (∃ (s : State), s.canOn = true ∧ s.host.canResend = [] ∧ s.host.canHeld = []) ∧
    (∃ (busOff : Bool) (s : State), s.islandUp islHost = true ∧ s.bit HST_CANCTL.EN = true ∧ s.bit HST_CANCTL.SLEEP = false ∧ s.get HST_CANSTAT.STATE ≠ (if busOff then 2 else 1)) ∧
    (∃ (s : State), s.islandUp islHost = true ∧ s.get HST_CANSTAT.STATE = 2) ∧
    (∃ (id : BitVec 29) (s : State), s.islandUp islHost = true ∧ s.bit HST_CANCTL.WAKEEN = true ∧ s.bit HST_CANCTL.SLEEP = true ∧ id.toNat &&& s.get HST_CANWMASK.MASK = s.get HST_CANWAKE.WAKEID &&& s.get HST_CANWMASK.MASK) ∧
    (∃ (id : BitVec 29) (w : Nat) (m : Nat) (s : State), s.islandUp islHost = false ∧ s.soffit.wake = some (w, m) ∧ id.toNat &&& m = w &&& m) :=
  ⟨⟨up, by decide +kernel⟩,
   ⟨up |>.raise HST_CFG.I2CTOEN, by decide +kernel⟩,
   ⟨{ op := 0, seq := 9, addr := 0x40, count := 1, gen := 0, data := [] }, up |>.modHost (fun z => { z with canLast := none }), by decide +kernel⟩,
   ⟨{ op := 1, seq := 9, addr := BitVec.ofNat _ GLB_BOOTCTL.at, count := 1, gen := 0, data := [1] }, up |>.modHost (fun z => { z with canLast := none }), by decide +kernel⟩,
   ⟨{ op := 0, seq := 9, addr := 0, count := 1, gen := 0, data := [] }, 1, (0, [1]), (let f : CanFrame := { op := 0, seq := 9, addr := 0, count := 1, gen := 0, data := [] }; let at_us : Nat := 1; let r : Word × List Word := (0, [1]); up |>.modHost (fun z => { z with canLast := some (f, at_us, some r) })), by decide +kernel⟩,
   ⟨(0, [1]), [], (let r : Word × List Word := (0, [1]); let rest : List (Word × List Word) := []; up |>.modHost (fun z => { z with canResend := r :: rest })), by decide +kernel⟩,
   ⟨up |>.modHost (fun z => { z with canResend := [] }) |>.modHost (fun z => { z with canHeld := [] }), by decide +kernel⟩,
   ⟨true, up |>.raise HST_CANCTL.EN |>.clear HST_CANCTL.SLEEP, by decide +kernel⟩,
   ⟨up |>.put HST_CANSTAT.STATE (2), by decide +kernel⟩,
   ⟨0x123, up |>.raise HST_CANCTL.WAKEEN |>.raise HST_CANCTL.SLEEP |>.put HST_CANWMASK.MASK 0x1FFFFFFF |>.put HST_CANWAKE.WAKEID 0x123, by decide +kernel⟩,
   ⟨5, 1, 1, (let w : Nat := 1; let m : Nat := 1; (up |>.maskBit GLB_ISLPWR.ISL islHost false) |> fun z => { z with soffit := { z.soffit with wake := some (w, m) } }), by decide +kernel⟩⟩

theorem meets_ThatchEdits :
    (∃ (hp : HostPort) (s : State), s.takes hp THA_EDCLAIM.at 1 ∧ s.bit THA_EDCLAIM.CLAIM = false) ∧
    (∃ (hp : HostPort) (s : State), s.takes hp THA_EDCLAIM.at 1 ∧ s.bit THA_EDCLAIM.CLAIM = true ∧ s.get THA_EDCLAIM.OWNER ≠ hp.num) ∧
    (∃ (hp : HostPort) (s : State), s.takes hp THA_EDCLAIM.at 0 ∧ s.bit THA_EDCLAIM.CLAIM = true ∧ s.get THA_EDCLAIM.OWNER = hp.num) ∧
    (∃ (hp : HostPort) (word : Fin 3072) (ws : List Word) (s : State), s.takesAll hp (editTargets word.val ws)) ∧
    (∃ (hp : HostPort) (s : State), s.takes hp THA_SRCTL.at (srWord 0xC3 1 0)) ∧
    (∃ (hp : HostPort) (func : BitVec 5) (s : State), s.takes hp THA_SRCTL.at (srWord 0xC3 2 func.toNat) ∧ func.toNat ≤ 17) ∧
    (∃ (hp : HostPort) (s : State), s.takes hp THA_SRCTL.at (srWord 0xC3 3 0) ∧ (s.get THA_SRSTAT.PHASE = 1 ∨ s.get THA_SRSTAT.PHASE = 2)) :=
  ⟨⟨.spi, up |>.clear THA_EDCLAIM.CLAIM, by decide +kernel⟩,
   ⟨.spi, up |>.raise THA_EDCLAIM.CLAIM, by decide +kernel⟩,
   ⟨.spi, (let hp : HostPort := .spi; up |>.raise THA_EDCLAIM.CLAIM |>.put THA_EDCLAIM.OWNER (hp.num)), by decide +kernel⟩,
   ⟨.spi, 3071, [7], up |>.put THA_EDCLAIM.OWNER 1 |>.raise THA_EDCLAIM.CLAIM, by decide +kernel⟩,
   ⟨.spi, up |>.put THA_EDCLAIM.OWNER 1 |>.raise THA_EDCLAIM.CLAIM, by decide +kernel⟩,
   ⟨.spi, 17, up |>.put THA_EDCLAIM.OWNER 1 |>.raise THA_EDCLAIM.CLAIM, by decide +kernel⟩,
   ⟨.spi, up |>.put THA_SRSTAT.PHASE (1) |>.put THA_EDCLAIM.OWNER 1 |>.raise THA_EDCLAIM.CLAIM, by decide +kernel⟩⟩

theorem meets_ThatchOperations :
    (∃ (o : SrOp) (s : State), s.tha.op = some o ∧ s.get THA_SRSTAT.PHASE = 1 ∧ s.islandUp islRidge = true) ∧
    (∃ (o : SrOp) (s : State), s.tha.op = some o ∧ s.get THA_SRSTAT.PHASE = 4 ∧ s.islandUp islRidge = true ∧ s.tha.passDue = false ∧ s.tha.strips = [] ∧ o.func < 16 ∧ o.live = false ∧ (portList o.ports).all s.vbusGone = true) ∧
    (∃ (o : SrOp) (s : State), s.get THA_SRSTAT.PHASE = 5 ∧ s.tha.op = some o ∧ s.tha.strips = [] ∧ (portList o.ports).all s.vbusGone = true) ∧
    (∃ (o : SrOp) (s : State), s.tha.op = some o ∧ s.get THA_SRSTAT.PHASE = 3 ∧ s.islandUp islRidge = true ∧ o.func = 17) ∧
    (∃ (o : SrOp) (s : State), s.tha.op = some o ∧ s.get THA_SRSTAT.PHASE = 3 ∧ o.func < 16 ∧ s.tha.strips = [] ∧ (portList o.ports).any s.vbusStands = true) ∧
    (∃ (s : State), s.bit THA_STAT.LOADED = true ∧ s.islandUp islRidge = true) :=
  ⟨⟨{ live := false, func := 2, hp := .spi, ports := [2], edits := [], since := 0 }, (let o : SrOp := { live := false, func := 2, hp := .spi, ports := [2], edits := [], since := 0 }; up |>.modTha (fun z => { z with op := some o }) |>.put THA_SRSTAT.PHASE (1)), by decide +kernel⟩,
   ⟨{ live := false, func := 2, hp := .spi, ports := [2], edits := [], since := 0 }, (let o : SrOp := { live := false, func := 2, hp := .spi, ports := [2], edits := [], since := 0 }; up |>.modTha (fun z => { z with op := some o, strips := [], passDue := false }) |>.put THA_SRSTAT.PHASE 4 |>.raise (PGT_STATUS.SAFE0 2)), by decide +kernel⟩,
   ⟨{ live := false, func := 2, hp := .spi, ports := [2], edits := [], since := 0 }, (let o : SrOp := { live := false, func := 2, hp := .spi, ports := [2], edits := [], since := 0 }; up |>.modTha (fun z => { z with op := some o, strips := [] }) |>.put THA_SRSTAT.PHASE 5 |>.raise (PGT_STATUS.SAFE0 2)), by decide +kernel⟩,
   ⟨{ live := false, func := 17, hp := .spi, ports := [2], edits := [], since := 0 }, (let o : SrOp := { live := false, func := 17, hp := .spi, ports := [2], edits := [], since := 0 }; up |>.modTha (fun z => { z with op := some o }) |>.put THA_SRSTAT.PHASE (3)), by decide +kernel⟩,
   ⟨{ live := false, func := 2, hp := .spi, ports := [2], edits := [], since := 0 }, (let o : SrOp := { live := false, func := 2, hp := .spi, ports := [2], edits := [], since := 0 }; up |>.modTha (fun z => { z with op := some o }) |>.put THA_SRSTAT.PHASE (3)), by decide +kernel⟩,
   ⟨up |>.raise THA_STAT.LOADED, by decide +kernel⟩⟩

theorem meets_SourceAttach :
    (∃ (n : Fin 16) (s : State), s.portUp n = true ∧ s.halted n.val = false) ∧
    (∃ (n : Fin 16) (s : State), s.portUp n = true ∧ s.halted n.val = false ∧ s.cc n = ccAttachWaitSrc ∧ s.accPattern n = false ∧ s.oneRd n = true ∧ s.islandUp islRidge = true ∧ s.outage = false ∧ s.soffit.vhvOk = true) ∧
    (∃ (n : Fin 16) (s : State), s.portUp n = true ∧ s.halted n.val = false ∧ s.cc n = ccAttachWaitSrc ∧ s.accPattern n = false ∧ s.oneRd n = true) ∧
    (∃ (n : Fin 16) (s : State), (s.cc n = ccAttachWaitSrc ∨ s.cc n = ccAttachWaitSnk) ∧ s.someRd n = false ∧ s.halted n.val = false) ∧
    (∃ (n : Fin 16) (s : State), s.cc n = ccAttachWaitSrc ∧ s.halted n.val = false) ∧
    (∃ (n : Fin 16) (s : State), s.cc n = ccAttachWaitSrc ∧ s.ports[n].probing = true ∧ s.halted n.val = false) ∧
    (∃ (n : Fin 16) (s : State), s.cc n = ccAttachedSrc ∧ s.monClass n = 0 ∧ s.halted n.val = false ∧ s.isService n = false) ∧
    (∃ (n : Fin 16) (s : State), s.cc n = ccErrorRecovery ∧ s.halted n.val = false ∧ s.bit (PGT_STATUS.SAFE0 n) = true ∧ s.ports[n].ccOver = false ∧ s.bit (PGT_STATUS.FAULT n) = false ∧ s.stripping n = false ∧ s.mustStayDown n = false ∧ n.val ∉ s.boot.recov) ∧
    (∃ (n : Fin 16) (s : State), s.cc n = ccErrorRecovery ∧ s.halted n.val = false ∧ s.bit (PGT_STATUS.SAFE0 n) = false ∧ s.isService n = false) ∧
    (∃ (n : Fin 16) (s : State), s.cc n = ccUnattachedWaitSrc ∧ s.halted n.val = false) :=
  ⟨⟨2, up, by decide +kernel⟩,
   ⟨2, (let n : Fin 16 := 2; (up |>.put (PCC_STATUS.STATE n) ccAttachWaitSrc) |> fun z => { z with soffit := { z.soffit with vhvOk := true } } |>.put (PCC_STATUS.CC1CLS n) 2 |> fun (z : State) => { z with soffit := { z.soffit with vhvOk := true } }), by decide +kernel⟩,
   ⟨2, (let n : Fin 16 := 2; up |>.put (PCC_STATUS.STATE n) ccAttachWaitSrc |>.put (PCC_STATUS.CC1CLS n) 2), by decide +kernel⟩,
   ⟨2, (let n : Fin 16 := 2; up |>.put (PCC_STATUS.STATE n) ccAttachWaitSrc), by decide +kernel⟩,
   ⟨2, (let n : Fin 16 := 2; up |>.put (PCC_STATUS.STATE n) ccAttachWaitSrc), by decide +kernel⟩,
   ⟨2, (let n : Fin 16 := 2; up |>.put (PCC_STATUS.STATE n) ccAttachWaitSrc |>.modPort n (fun z => { z with probing := true })), by decide +kernel⟩,
   ⟨2, (let n : Fin 16 := 2; up |>.put (PCC_STATUS.STATE n) ccAttachedSrc), by decide +kernel⟩,
   ⟨2, (let n : Fin 16 := 2; up |>.put (PCC_STATUS.STATE n) ccErrorRecovery |>.raise (PGT_STATUS.SAFE0 n) |>.modPort n (fun z => { z with ccOver := false }) |>.clear (PGT_STATUS.FAULT n) |>.clear (PCC_CTRL.DISABLE n) |> fun (z : State) => { z with soffit := { z.soffit with vhvOk := true } }), by decide +kernel⟩,
   ⟨2, (let n : Fin 16 := 2; up |>.put (PCC_STATUS.STATE n) ccErrorRecovery |>.clear (PGT_STATUS.SAFE0 n)), by decide +kernel⟩,
   ⟨2, (let n : Fin 16 := 2; up |>.put (PCC_STATUS.STATE n) ccUnattachedWaitSrc), by decide +kernel⟩⟩

theorem meets_SinkAttachAndCcFaults :
    (∃ (n : Fin 16) (s : State), s.cc n = ccAttachWaitSnk ∧ s.halted n.val = false ∧ s.someRd n = true ∧ s.cls1 n ≠ s.cls2 n) ∧
    (∃ (n : Fin 16) (mv : Nat) (s : State), s.cc n = ccAttachedSnk ∧ s.sink n ≠ 18 ∧ mv < s.sinkLevel n ∧ s.halted n.val = false ∧ s.isService n = true) ∧
    (∃ (n : Fin 16) (s : State), s.cc n = ccAttachedSnk ∧ s.halted n.val = false) ∧
    (∃ (n : Fin 16) (s : State), s.portUp n = true ∧ s.halted n.val = false ∧ s.cc n ≠ ccDisabled) ∧
    (∃ (n : Fin 16) (s : State), s.portUp n = true ∧ s.cc n ≠ ccErrorRecovery) ∧
    (∃ (n : Fin 16) (s : State), s.bit (PCC_STATUS.VCONNON n) = true ∧ s.halted n.val = false ∧ s.hasContract n = false ∧ s.bit (PPD_STATUS.EPRMODE n) = false) ∧
    (∃ (n : Fin 16) (s : State), s.portUp n = true ∧ s.halted n.val = false ∧ s.bit (PCC_STATUS.VBUSPRES n) = false ∧ s.peff n ≠ 9 ∧ s.cc n ≠ ccErrorRecovery) ∧
    (∃ (n : Fin 16) (s : State), s.portUp n = true ∧ s.halted n.val = false ∧ s.peff n = 9 ∧ s.cc n = ccAttachedSrc) :=
  ⟨⟨2, (let n : Fin 16 := 2; up |>.put (PCC_STATUS.STATE n) ccAttachWaitSnk |>.put (PCC_STATUS.CC1CLS n) 2), by decide +kernel⟩,
   ⟨2, 1, (let n : Fin 16 := 2; up |>.put (PCC_STATUS.STATE n) ccAttachedSnk |>.modPort n (fun z => { z with role := 1 })), by decide +kernel⟩,
   ⟨2, (let n : Fin 16 := 2; up |>.put (PCC_STATUS.STATE n) ccAttachedSnk), by decide +kernel⟩,
   ⟨2, (let n : Fin 16 := 2; up |>.put (PCC_STATUS.STATE n) ccUnattachedSrc), by decide +kernel⟩,
   ⟨2, up, by decide +kernel⟩,
   ⟨2, (let n : Fin 16 := 2; up |>.raise (PCC_STATUS.VCONNON n) |>.clear (PPD_STATUS.EPRMODE n)), by decide +kernel⟩,
   ⟨2, (let n : Fin 16 := 2; up |>.clear (PCC_STATUS.VBUSPRES n)), by decide +kernel⟩,
   ⟨2, (let n : Fin 16 := 2; up |>.put (PPD_STATUS.PSTATE n) 9 |>.put (PCC_STATUS.STATE n) ccAttachedSrc), by decide +kernel⟩⟩

theorem meets_CableDiscovery :
    (∃ (n : Fin 16) (s : State), s.mayDiscover n = true ∧ s.get (PCC_CABLE.ATTEMPTS n) = 0) ∧
    (∃ (n : Fin 16) (s : State), s.mayDiscover n = true ∧ (s.pd n).eprWait = false ∧ s.get (PCC_CABLE.ATTEMPTS n) < 20 ∧ s.pstate n = 6 ∧ s.hasContract n = true) ∧
    (∃ (n : Fin 16) (s : State), s.mayDiscover n = true ∧ (s.pd n).eprWait = false ∧ 20 ≤ s.get (PCC_CABLE.ATTEMPTS n)) ∧
    (∃ (n : Fin 16) (id : BitVec 3) (idHdr : BitVec 32) (vdo : BitVec 32) (s : State), s.mayDiscover n = true ∧ s.repeated n 1 id = false ∧ fieldOf idHdr 29 27 = 3 ∧ (fieldOf vdo 6 5 = 1 ∨ fieldOf vdo 6 5 = 2) ∧ s.pstate n = 1 ∧ (s.pd n).eprWait = false) ∧
    (∃ (n : Fin 16) (id : BitVec 3) (s : State), s.mayDiscover n = true ∧ s.repeated n 1 id = true) ∧
    (∃ (n : Fin 16) (id : Option (BitVec 3)) (s : State), s.mayDiscover n = true ∧ (s.pd n).eprWait = false ∧ id.all (fun k => !s.repeated n 1 k) = true ∧ (id = none → 20 ≤ s.get (PCC_CABLE.ATTEMPTS n))) ∧
    (∃ (n : Fin 16) (id : BitVec 3) (s : State), s.cc n = ccAttachedSrc ∧ s.get (PCC_CABLE.KIND n) = 3 ∧ 0 < (s.pd n).farTries ∧ s.halted n.val = false ∧ s.repeated n 2 id = false ∧ (s.pd n).eprWait = false ∧ s.pstate n = 6) ∧
    (∃ (n : Fin 16) (s : State), s.cc n = ccAttachedSrc ∧ s.get (PEV_STATUS.STATE n) = 3 ∧ s.halted n.val = false) ∧
    (∃ (n : Fin 16) (s : State), s.pstate n = 6 ∧ s.halted n.val = false ∧ (s.pd n).held = [101] ∧ s.isService n = false) :=
  ⟨⟨2, (let n : Fin 16 := 2; up |>.put (PCC_CABLE.ATTEMPTS n) (0) |>.put (PCC_STATUS.STATE n) ccAttachedSrc |>.raise (PCC_CFG.DISCEN n) |>.raise (PCC_STATUS.VCONNON n)), by decide +kernel⟩,
   ⟨2, (let n : Fin 16 := 2; up |>.modPd n (fun d => { d with eprWait := false }) |>.put (PPD_STATUS.PSTATE n) 6 |>.put (PPD_STATUS.CONTRACT n) 1 |>.put (PCC_STATUS.STATE n) ccAttachedSrc |>.raise (PCC_CFG.DISCEN n) |>.raise (PCC_STATUS.VCONNON n)), by decide +kernel⟩,
   ⟨2, (let n : Fin 16 := 2; up |>.modPd n (fun d => { d with eprWait := false }) |>.put (PCC_CABLE.ATTEMPTS n) 20 |>.put (PCC_STATUS.STATE n) ccAttachedSrc |>.raise (PCC_CFG.DISCEN n) |>.raise (PCC_STATUS.VCONNON n)), by decide +kernel⟩,
   ⟨2, 5, 0x18000000, 0x20, (let n : Fin 16 := 2; up |>.put (PPD_STATUS.PSTATE n) 1 |>.modPd n (fun d => { d with eprWait := false }) |>.put (PCC_STATUS.STATE n) ccAttachedSrc |>.raise (PCC_CFG.DISCEN n) |>.raise (PCC_STATUS.VCONNON n)), by decide +kernel⟩,
   ⟨2, 5, (let n : Fin 16 := 2; up |>.put (PCC_STATUS.STATE n) ccAttachedSrc |>.raise (PCC_CFG.DISCEN n) |>.raise (PCC_STATUS.VCONNON n) |>.modPd n (fun d => { d with rxId := [none, some 5, none] })), by decide +kernel⟩,
   ⟨2, some 5, (let n : Fin 16 := 2; up |>.put (PCC_STATUS.STATE n) ccAttachedSrc |>.raise (PCC_CFG.DISCEN n) |>.raise (PCC_STATUS.VCONNON n)), by decide +kernel⟩,
   ⟨2, 5, (let n : Fin 16 := 2; up |>.put (PCC_STATUS.STATE n) ccAttachedSrc |>.raise (PCC_CFG.DISCEN n) |>.raise (PCC_STATUS.VCONNON n) |>.put (PCC_CABLE.KIND n) 3 |>.modPd n (fun d => { d with farTries := 1 }) |>.put (PPD_STATUS.PSTATE n) 6), by decide +kernel⟩,
   ⟨2, (let n : Fin 16 := 2; up |>.put (PCC_STATUS.STATE n) ccAttachedSrc |>.put (PEV_STATUS.STATE n) (3)), by decide +kernel⟩,
   ⟨2, (let n : Fin 16 := 2; up |>.put (PPD_STATUS.PSTATE n) 6 |>.modPd n (fun d => { d with held := [101] })), by decide +kernel⟩⟩

theorem meets_AttachCommands :
    (∃ (hp : HostPort) (n : Fin 16) (s : State), s.takes hp (PCC_CTRL.at n) 1) ∧
    (∃ (hp : HostPort) (n : Fin 16) (s : State), s.takes hp (PCC_CTRL.at n) 0) ∧
    (∃ (hp : HostPort) (n : Fin 16) (s : State), s.takes hp (PCC_CMD.at n) 4 ∧ s.cc n = ccAttachedSrc ∧ (s.pd n).discovering = false ∧ s.mayDiscover n = false) ∧
    (∃ (hp : HostPort) (n : Fin 16) (s : State), s.takes hp (PCC_CMD.at n) 4 ∧ (s.cc n ≠ ccAttachedSrc ∨ (s.pd n).discovering = true ∨ s.mayDiscover n = true)) ∧
    (∃ (hp : HostPort) (n : Fin 16) (s : State), s.takes hp (PCC_CMD.at n) 2) ∧
    (∃ (hp : HostPort) (n : Fin 16) (s : State), s.takes hp (PCC_CMD.at n) 1 ∧ s.cc n ≠ ccDisabled) :=
  ⟨⟨.spi, 2, up, by decide +kernel⟩,
   ⟨.spi, 2, up, by decide +kernel⟩,
   ⟨.spi, 2, (let n : Fin 16 := 2; up |>.put (PCC_STATUS.STATE n) ccAttachedSrc |>.modPd n (fun d => { d with discovering := false })), by decide +kernel⟩,
   ⟨.spi, 2, up, by decide +kernel⟩,
   ⟨.spi, 2, up, by decide +kernel⟩,
   ⟨.spi, 2, (let n : Fin 16 := 2; up |>.put (PCC_STATUS.STATE n) ccUnattachedSrc), by decide +kernel⟩⟩

theorem meets_ProtocolLayer :
    (∃ (n : Fin 16) (s : State), s.pstate n = 1 ∧ s.halted n.val = false ∧ (s.pd n).discovering = true) ∧
    (∃ (n : Fin 16) (s : State), s.pstate n = 1 ∧ s.halted n.val = false ∧ (s.pd n).discovering = false) ∧
    (∃ (n : Fin 16) (s : State), s.pstate n = 3 ∧ (s.pd n).acked = false ∧ s.halted n.val = false ∧ (s.pd n).caps < 50) ∧
    (∃ (n : Fin 16) (s : State), s.pstate n = 3 ∧ (s.pd n).acked = false ∧ s.halted n.val = false ∧ 50 ≤ (s.pd n).caps) ∧
    (∃ (n : Fin 16) (s : State), s.pstate n = 3 ∧ (s.pd n).acked = true ∧ s.halted n.val = false ∧ s.mayHardReset n) ∧
    (∃ (n : Fin 16) (s : State), s.pstate n = 6 ∧ (s.pd n).ams = some .getStatus ∧ s.halted n.val = false ∧ s.isService n = false ∧ s.nothingHeld n) ∧
    (∃ (n : Fin 16) (m : PdMsg) (rest : List PdMsg) (s : State), s.halted n.val = false ∧ (s.pd n).out = m :: rest ∧ (m.name = .notSupported ∨ m.name = .wait ∨ m.name = .revision ∨ m.name = .vdm ∨ m.name = .accept ∨ m.name = .sourceCap)) ∧
    (∃ (n : Fin 16) (m : PdMsg) (rest : List PdMsg) (s : State), s.halted n.val = false ∧ (s.pd n).out = m :: rest ∧ m.name = .acceptSwap ∧ s.pstate n = 11 ∧ s.nothingHeld n) ∧
    (∃ (n : Fin 16) (m : PdMsg) (rest : List PdMsg) (s : State), s.halted n.val = false ∧ (s.pd n).out = m :: rest ∧ (s.pd n).retries < 2) ∧
    (∃ (n : Fin 16) (m : PdMsg) (rest : List PdMsg) (s : State), s.halted n.val = false ∧ (s.pd n).out = m :: rest ∧ 2 ≤ (s.pd n).retries ∧ m.name = .softReset ∧ s.pstate n ≠ 0 ∧ s.mayHardReset n) ∧
    (∃ (n : Fin 16) (m : PdMsg) (rest : List PdMsg) (s : State), s.halted n.val = false ∧ (s.pd n).out = m :: rest ∧ 2 ≤ (s.pd n).retries ∧ m.name = .psRdy ∧ s.pstate n ≠ 0 ∧ s.mayHardReset n) ∧
    (∃ (n : Fin 16) (m : PdMsg) (rest : List PdMsg) (s : State), s.halted n.val = false ∧ (s.pd n).out = m :: rest ∧ 2 ≤ (s.pd n).retries ∧ m.name = .sourceCap ∧ s.pstate n = 3) ∧
    (∃ (n : Fin 16) (s : State), s.listening n = true) ∧
    (∃ (h : PdHead) (k : Nat) (j : Nat) (s : State), s.hears h ∧ s.pstate h.n ≠ 19 ∧ (s.pd h.n).chunkTx = some (k, j)) ∧
    (∃ (n : Fin 16) (s : State), s.halted n.val = false) :=
  ⟨⟨2, (let n : Fin 16 := 2; up |>.put (PPD_STATUS.PSTATE n) 1 |>.modPd n (fun d => { d with discovering := true })), by decide +kernel⟩,
   ⟨2, (let n : Fin 16 := 2; up |>.put (PPD_STATUS.PSTATE n) 1), by decide +kernel⟩,
   ⟨2, (let n : Fin 16 := 2; up |>.put (PPD_STATUS.PSTATE n) 3 |>.modPd n (fun d => { d with acked := false })), by decide +kernel⟩,
   ⟨2, (let n : Fin 16 := 2; up |>.put (PPD_STATUS.PSTATE n) 3 |>.modPd n (fun d => { d with acked := false }) |>.modPd n (fun d => { d with caps := 50 })), by decide +kernel⟩,
   ⟨2, (let n : Fin 16 := 2; up |>.put (PPD_STATUS.PSTATE n) 3 |>.modPd n (fun d => { d with acked := true })), by decide +kernel⟩,
   ⟨2, (let n : Fin 16 := 2; up |>.put (PPD_STATUS.PSTATE n) 6 |>.modPd n (fun d => { d with ams := some .getStatus })), by decide +kernel⟩,
   ⟨2, { name := .accept, sop := 0, objs := [] }, [], (let n : Fin 16 := 2; let m : PdMsg := { name := .accept, sop := 0, objs := [] }; let rest : List PdMsg := []; up |>.modPd n (fun d => { d with out := m :: rest })), by decide +kernel⟩,
   ⟨2, { name := .acceptSwap, sop := 0, objs := [] }, [], (let n : Fin 16 := 2; let m : PdMsg := { name := .acceptSwap, sop := 0, objs := [] }; let rest : List PdMsg := []; up |>.modPd n (fun d => { d with out := m :: rest }) |>.put (PPD_STATUS.PSTATE n) 11), by decide +kernel⟩,
   ⟨2, { name := .accept, sop := 0, objs := [] }, [], (let n : Fin 16 := 2; let m : PdMsg := { name := .accept, sop := 0, objs := [] }; let rest : List PdMsg := []; up |>.modPd n (fun d => { d with out := m :: rest })), by decide +kernel⟩,
   ⟨2, { name := .softReset, sop := 0, objs := [] }, [], (let n : Fin 16 := 2; let m : PdMsg := { name := .softReset, sop := 0, objs := [] }; let rest : List PdMsg := []; up |>.put (PPD_STATUS.PSTATE n) 7 |>.modPd n (fun d => { d with out := m :: rest, retries := 2 })), by decide +kernel⟩,
   ⟨2, { name := .psRdy, sop := 0, objs := [] }, [], (let n : Fin 16 := 2; let m : PdMsg := { name := .psRdy, sop := 0, objs := [] }; let rest : List PdMsg := []; up |>.modPd n (fun d => { d with out := m :: rest }) |>.modPd n (fun d => { d with retries := 2 }) |>.put (PPD_STATUS.PSTATE n) 6), by decide +kernel⟩,
   ⟨2, { name := .sourceCap, sop := 0, objs := [] }, [], (let n : Fin 16 := 2; let m : PdMsg := { name := .sourceCap, sop := 0, objs := [] }; let rest : List PdMsg := []; up |>.modPd n (fun d => { d with out := m :: rest }) |>.modPd n (fun d => { d with retries := 2 }) |>.put (PPD_STATUS.PSTATE n) 3), by decide +kernel⟩,
   ⟨2, (let n : Fin 16 := 2; up |>.put (PPD_STATUS.PSTATE n) 6), by decide +kernel⟩,
   ⟨{ n := 2, id := 1, rev20 := false }, 1, 1, (let h : PdHead := { n := 2, id := 1, rev20 := false }; let k : Nat := 1; let j : Nat := 1; up |>.put (PPD_STATUS.PSTATE h.n) 6 |>.modPd h.n (fun d => { d with chunkTx := some (k, j) })), by decide +kernel⟩,
   ⟨2, up, by decide +kernel⟩⟩

theorem meets_RequestsAndTransitions :
    (∃ (h : PdHead) (s : State), s.hears h ∧ (s.group h.n = .ready ∨ s.group h.n = .startup)) ∧
    (∃ (h : PdHead) (s : State), s.hears h ∧ s.group h.n = .brace) ∧
    (∃ (h : PdHead) (s : State), s.hears h ∧ s.pstate h.n = 4 ∧ s.isService h.n = false) ∧
    (∃ (h : PdHead) (s : State), s.hears h ∧ (s.group h.n = .ready ∨ s.group h.n = .startup) ∧ s.bit (PPD_STATUS.EPRMODE h.n) = true) ∧
    (∃ (h : PdHead) (s : State), s.hears h ∧ (s.group h.n = .ready ∨ s.group h.n = .startup) ∧ s.bit (PPD_STATUS.EPRMODE h.n) = false ∧ s.isService h.n = false) ∧
    (∃ (n : Fin 16) (w : Transition) (s : State), s.pstate n = 5 ∧ (s.pd n).acked = true ∧ s.halted n.val = false ∧ (s.pd n).trans = some w ∧ w.applied = false ∧ s.ports[n].applyQ.any (fun o => o.cls == clsSETP) = true) ∧
    (∃ (n : Fin 16) (w : Transition) (s : State), s.pstate n = 5 ∧ s.halted n.val = false ∧ (s.pd n).trans = some w ∧ w.applied = true ∧ s.nothingHeld n ∧ s.isService n = false) ∧
    (∃ (n : Fin 16) (w : Transition) (s : State), s.pstate n = 5 ∧ s.halted n.val = false ∧ (s.pd n).trans = some w ∧ w.applied = true ∧ s.mayHardReset n) ∧
    (∃ (n : Fin 16) (s : State), s.hasContract n = true ∧ s.get (PPD_STATUS.KIND n) = 1 ∧ s.pstate n ≠ 12 ∧ s.pstate n ≠ 0 ∧ s.isSource n = true ∧ s.halted n.val = false ∧ s.mayHardReset n) :=
  ⟨⟨{ n := 2, id := 1, rev20 := false }, (let h : PdHead := { n := 2, id := 1, rev20 := false }; up |>.put (PPD_STATUS.PSTATE h.n) 6), by decide +kernel⟩,
   ⟨{ n := 2, id := 1, rev20 := false }, (let h : PdHead := { n := 2, id := 1, rev20 := false }; up |>.put (PPD_STATUS.PSTATE h.n) 6 |>.put (PPD_STATUS.PSTATE h.n) 12), by decide +kernel⟩,
   ⟨{ n := 2, id := 1, rev20 := false }, (let h : PdHead := { n := 2, id := 1, rev20 := false }; up |>.put (PPD_STATUS.PSTATE h.n) 6 |>.put (PPD_STATUS.PSTATE h.n) 4), by decide +kernel⟩,
   ⟨{ n := 2, id := 1, rev20 := false }, (let h : PdHead := { n := 2, id := 1, rev20 := false }; up |>.put (PPD_STATUS.PSTATE h.n) 6 |>.raise (PPD_STATUS.EPRMODE h.n)), by decide +kernel⟩,
   ⟨{ n := 2, id := 1, rev20 := false }, (let h : PdHead := { n := 2, id := 1, rev20 := false }; up |>.put (PPD_STATUS.PSTATE h.n) 6 |>.clear (PPD_STATUS.EPRMODE h.n)), by decide +kernel⟩,
   ⟨2, { rdo := 0, pos := 1, kind := 0, v10 := 500, ma := 3000, power := 15, fuseIdx := 0, loopIdx := 0, applied := false }, (let n : Fin 16 := 2; let w : Transition := { rdo := 0, pos := 1, kind := 0, v10 := 500, ma := 3000, power := 15, fuseIdx := 0, loopIdx := 0, applied := false }; up |>.put (PPD_STATUS.PSTATE n) 5 |>.modPd n (fun d => { d with acked := true }) |>.modPd n (fun d => { d with trans := some w }) |>.modPort n (fun z => { z with applyQ := [Op.mk0 2 clsSETP 5 0 7] })), by decide +kernel⟩,
   ⟨2, { rdo := 0, pos := 1, kind := 0, v10 := 500, ma := 3000, power := 15, fuseIdx := 0, loopIdx := 0, applied := true }, (let n : Fin 16 := 2; let w : Transition := { rdo := 0, pos := 1, kind := 0, v10 := 500, ma := 3000, power := 15, fuseIdx := 0, loopIdx := 0, applied := true }; up |>.put (PPD_STATUS.PSTATE n) 5 |>.modPd n (fun d => { d with trans := some w })), by decide +kernel⟩,
   ⟨2, { rdo := 0, pos := 1, kind := 0, v10 := 500, ma := 3000, power := 15, fuseIdx := 0, loopIdx := 0, applied := true }, (let n : Fin 16 := 2; let w : Transition := { rdo := 0, pos := 1, kind := 0, v10 := 500, ma := 3000, power := 15, fuseIdx := 0, loopIdx := 0, applied := true }; up |>.put (PPD_STATUS.PSTATE n) 5 |>.modPd n (fun d => { d with trans := some w })), by decide +kernel⟩,
   ⟨2, (let n : Fin 16 := 2; up |>.put (PPD_STATUS.CONTRACT n) 1 |>.put (PPD_STATUS.KIND n) (1) |>.put (PPD_STATUS.PSTATE n) 6), by decide +kernel⟩⟩

theorem meets_EprMode :
    (∃ (h : PdHead) (s : State), s.hears h ∧ s.group h.n = .ready) ∧
    (∃ (h : PdHead) (s : State), s.hears h ∧ s.group h.n = .brace) ∧
    (∃ (h : PdHead) (s : State), s.hears h ∧ s.group h.n = .ready ∧ s.get (PPD_CONTRACTVI.V10 h.n) ≤ 2000) ∧
    (∃ (h : PdHead) (s : State), s.hears h ∧ s.group h.n = .ready ∧ 2000 < s.get (PPD_CONTRACTVI.V10 h.n) ∧ s.mayHardReset h.n) ∧
    (∃ (n : Fin 16) (s : State), s.pstate n = 6 ∧ s.bit (PPD_STATUS.EPRMODE n) = true ∧ s.amsBusy n = false ∧ s.halted n.val = false ∧ s.mayHardReset n) ∧
    (∃ (h : PdHead) (s : State), s.hears h ∧ (s.group h.n = .ready ∨ s.group h.n = .brace) ∧ s.bit (PPD_STATUS.EPRMODE h.n) = true) :=
  ⟨⟨{ n := 2, id := 1, rev20 := false }, (let h : PdHead := { n := 2, id := 1, rev20 := false }; up |>.put (PPD_STATUS.PSTATE h.n) 6), by decide +kernel⟩,
   ⟨{ n := 2, id := 1, rev20 := false }, (let h : PdHead := { n := 2, id := 1, rev20 := false }; up |>.put (PPD_STATUS.PSTATE h.n) 6 |>.put (PPD_STATUS.PSTATE h.n) 12), by decide +kernel⟩,
   ⟨{ n := 2, id := 1, rev20 := false }, (let h : PdHead := { n := 2, id := 1, rev20 := false }; up |>.put (PPD_STATUS.PSTATE h.n) 6), by decide +kernel⟩,
   ⟨{ n := 2, id := 1, rev20 := false }, (let h : PdHead := { n := 2, id := 1, rev20 := false }; up |>.put (PPD_STATUS.PSTATE h.n) 6 |>.put (PPD_CONTRACTVI.V10 h.n) 2001), by decide +kernel⟩,
   ⟨2, (let n : Fin 16 := 2; up |>.put (PPD_STATUS.PSTATE n) 6 |>.raise (PPD_STATUS.EPRMODE n)), by decide +kernel⟩,
   ⟨{ n := 2, id := 1, rev20 := false }, (let h : PdHead := { n := 2, id := 1, rev20 := false }; up |>.put (PPD_STATUS.PSTATE h.n) 6 |>.raise (PPD_STATUS.EPRMODE h.n)), by decide +kernel⟩⟩

theorem meets_ResetsAndDataRole :
    (∃ (n : Fin 16) (s : State), s.portUp n = true ∧ s.halted n.val = false ∧ s.pstate n ≠ 0 ∧ s.mayHardReset n) ∧
    (∃ (n : Fin 16) (s : State), s.portUp n = true ∧ s.halted n.val = false ∧ s.pstate n ≠ 0 ∧ s.isService n = false ∧ 2 ≤ s.get (PPD_STATUS.HRCOUNT n)) ∧
    (∃ (n : Fin 16) (s : State), s.portUp n = true ∧ s.halted n.val = false ∧ s.pstate n ≠ 0 ∧ s.isService n = true) ∧
    (∃ (n : Fin 16) (s : State), s.pstate n = 8 ∧ s.halted n.val = false) ∧
    (∃ (n : Fin 16) (s : State), s.pstate n = 9 ∧ s.halted n.val = false) ∧
    (∃ (h : PdHead) (s : State), s.listening h.n = true ∧ ((s.pd h.n).lastSoft && s.repeated h.n 0 h.id) = false ∧ (s.pstate h.n = 5 → s.unapplied h.n = false) ∧ s.pstate h.n ≠ 19 ∧ s.pstate h.n ≠ 12 ∧ s.isService h.n = false) ∧
    (∃ (h : PdHead) (s : State), s.listening h.n = true ∧ ((s.pd h.n).lastSoft && s.repeated h.n 0 h.id) = true) ∧
    (∃ (h : PdHead) (s : State), s.listening h.n = true ∧ ((s.pd h.n).lastSoft && s.repeated h.n 0 h.id) = false ∧ s.pstate h.n = 5 ∧ (s.pd h.n).acked = true ∧ s.unapplied h.n = true ∧ s.mayHardReset h.n) ∧
    (∃ (h : PdHead) (s : State), s.listening h.n = true ∧ ((s.pd h.n).lastSoft && s.repeated h.n 0 h.id) = false ∧ s.pstate h.n = 5 ∧ (s.pd h.n).acked = false ∧ s.unapplied h.n = true ∧ s.isService h.n = false) ∧
    (∃ (h : PdHead) (s : State), s.hears h ∧ s.pstate h.n = 6 ∧ s.isService h.n = false) ∧
    (∃ (h : PdHead) (s : State), s.hears h ∧ s.group h.n = .brace) ∧
    (∃ (h : PdHead) (s : State), s.hears h ∧ s.group h.n = .dorm) ∧
    (∃ (n : Fin 16) (s : State), (s.pd n).held = [5] ∧ s.halted n.val = false ∧ (s.pd n).ams = none ∧ s.pstate n = 6) :=
  ⟨⟨2, (let n : Fin 16 := 2; up |>.put (PPD_STATUS.PSTATE n) 6), by decide +kernel⟩,
   ⟨2, (let n : Fin 16 := 2; up |>.put (PPD_STATUS.HRCOUNT n) 2 |>.put (PPD_STATUS.PSTATE n) 6), by decide +kernel⟩,
   ⟨2, (let n : Fin 16 := 2; up |>.modPort n (fun z => { z with role := 1 }) |>.put (PPD_STATUS.PSTATE n) 6), by decide +kernel⟩,
   ⟨2, (let n : Fin 16 := 2; up |>.put (PPD_STATUS.PSTATE n) 8), by decide +kernel⟩,
   ⟨2, (let n : Fin 16 := 2; up |>.put (PPD_STATUS.PSTATE n) 9), by decide +kernel⟩,
   ⟨{ n := 2, id := 1, rev20 := false }, (let h : PdHead := { n := 2, id := 1, rev20 := false }; up |>.put (PPD_STATUS.PSTATE h.n) 6), by decide +kernel⟩,
   ⟨{ n := 2, id := 1, rev20 := false }, (let h : PdHead := { n := 2, id := 1, rev20 := false }; up |>.put (PPD_STATUS.PSTATE h.n) 6 |>.modPd h.n (fun d => { d with lastSoft := true, rxId := [some 1, none, none] })), by decide +kernel⟩,
   ⟨{ n := 2, id := 1, rev20 := false }, (let h : PdHead := { n := 2, id := 1, rev20 := false }; up |>.put (PPD_STATUS.PSTATE h.n) 5 |>.modPd h.n (fun d => { d with acked := true, trans := some { rdo := 0, pos := 1, kind := 0, v10 := 500, ma := 3000, power := 15, fuseIdx := 0, loopIdx := 0, applied := false } })), by decide +kernel⟩,
   ⟨{ n := 2, id := 1, rev20 := false }, (let h : PdHead := { n := 2, id := 1, rev20 := false }; up |>.put (PPD_STATUS.PSTATE h.n) 5 |>.modPd h.n (fun d => { d with acked := false, trans := some { rdo := 0, pos := 1, kind := 0, v10 := 500, ma := 3000, power := 15, fuseIdx := 0, loopIdx := 0, applied := false } })), by decide +kernel⟩,
   ⟨{ n := 2, id := 1, rev20 := false }, (let h : PdHead := { n := 2, id := 1, rev20 := false }; up |>.put (PPD_STATUS.PSTATE h.n) 6), by decide +kernel⟩,
   ⟨{ n := 2, id := 1, rev20 := false }, (let h : PdHead := { n := 2, id := 1, rev20 := false }; up |>.put (PPD_STATUS.PSTATE h.n) 6 |>.put (PPD_STATUS.PSTATE h.n) 12), by decide +kernel⟩,
   ⟨{ n := 2, id := 1, rev20 := false }, (let h : PdHead := { n := 2, id := 1, rev20 := false }; up |>.put (PPD_STATUS.PSTATE h.n) 6 |>.put (PPD_STATUS.PSTATE h.n) 20), by decide +kernel⟩,
   ⟨2, (let n : Fin 16 := 2; up |>.modPd n (fun d => { d with held := [5] }) |>.modPd n (fun d => { d with ams := none }) |>.put (PPD_STATUS.PSTATE n) 6), by decide +kernel⟩⟩

theorem meets_AnswersToThePort :
    (∃ (h : PdHead) (s : State), s.hears h ∧ s.pstate h.n = 10 ∧ (s.pd h.n).ams = some .softReset ∧ s.isService h.n = false) ∧
    (∃ (h : PdHead) (s : State), s.hears h ∧ s.pstate h.n = 11 ∧ (s.pd h.n).ams = some .drSwap ∧ s.isService h.n = false ∧ s.nothingHeld h.n) ∧
    (∃ (h : PdHead) (s : State), s.hears h ∧ s.pstate h.n = 15 ∧ (s.pd h.n).ams = none ∧ s.ports[h.n].rom = false) ∧
    (∃ (h : PdHead) (s : State), s.hears h ∧ s.pstate h.n = 6 ∧ (s.pd h.n).ams = none ∧ s.isService h.n = false) ∧
    (∃ (h : PdHead) (s : State), s.hears h ∧ s.pstate h.n = 15 ∧ (s.pd h.n).ams = none ∧ s.ports[h.n].rom = false ∧ s.nothingHeld h.n) ∧
    (∃ (h : PdHead) (s : State), s.hears h ∧ s.pstate h.n = 11 ∧ (s.pd h.n).ams = some .drSwap ∧ s.isService h.n = false ∧ s.hasContract h.n = true ∧ s.nothingHeld h.n) ∧
    (∃ (h : PdHead) (s : State), s.hears h ∧ s.pstate h.n = 15 ∧ (s.pd h.n).ams = none ∧ s.ports[h.n].rom = false ∧ (s.pd h.n).held = []) ∧
    (∃ (h : PdHead) (s : State), s.hears h ∧ s.pstate h.n = 11 ∧ (s.pd h.n).ams = some .drSwap ∧ s.isService h.n = false ∧ s.hasContract h.n = true ∧ s.nothingHeld h.n) ∧
    (∃ (h : PdHead) (pos : Nat) (v10 : Nat) (ma : Nat) (mm : Bool) (s : State), s.hears h ∧ s.pstate h.n = 16 ∧ s.ports[h.n].rom = false ∧ (s.pd h.n).sinkWant = some (pos, v10, ma, mm) ∧ s.driveOk h.n = true ∧ s.nothingHeld h.n) ∧
    (∃ (h : PdHead) (s : State), s.hears h ∧ s.pstate h.n = 6 ∧ s.isService h.n = false) ∧
    (∃ (h : PdHead) (s : State), s.hears h ∧ s.pstate h.n = 6 ∧ (s.pd h.n).ams = none) ∧
    (∃ (h : PdHead) (a : MsgName) (s : State), s.hears h ∧ s.pstate h.n = 6 ∧ (s.pd h.n).ams = some a ∧ s.isService h.n = false ∧ s.nothingHeld h.n) :=
  ⟨⟨{ n := 2, id := 1, rev20 := false }, (let h : PdHead := { n := 2, id := 1, rev20 := false }; up |>.put (PPD_STATUS.PSTATE h.n) 6 |>.put (PPD_STATUS.PSTATE h.n) 10 |>.modPd h.n (fun d => { d with ams := some .softReset })), by decide +kernel⟩,
   ⟨{ n := 2, id := 1, rev20 := false }, (let h : PdHead := { n := 2, id := 1, rev20 := false }; up |>.put (PPD_STATUS.PSTATE h.n) 6 |>.put (PPD_STATUS.PSTATE h.n) 11 |>.modPd h.n (fun d => { d with ams := some .drSwap })), by decide +kernel⟩,
   ⟨{ n := 2, id := 1, rev20 := false }, (let h : PdHead := { n := 2, id := 1, rev20 := false }; up |>.put (PPD_STATUS.PSTATE h.n) 6 |>.put (PPD_STATUS.PSTATE h.n) 15 |>.modPd h.n (fun d => { d with ams := none }) |>.modPort h.n (fun z => { z with rom := false })), by decide +kernel⟩,
   ⟨{ n := 2, id := 1, rev20 := false }, (let h : PdHead := { n := 2, id := 1, rev20 := false }; up |>.put (PPD_STATUS.PSTATE h.n) 6 |>.modPd h.n (fun d => { d with ams := none })), by decide +kernel⟩,
   ⟨{ n := 2, id := 1, rev20 := false }, (let h : PdHead := { n := 2, id := 1, rev20 := false }; up |>.put (PPD_STATUS.PSTATE h.n) 6 |>.put (PPD_STATUS.PSTATE h.n) 15 |>.modPd h.n (fun d => { d with ams := none }) |>.modPort h.n (fun z => { z with rom := false })), by decide +kernel⟩,
   ⟨{ n := 2, id := 1, rev20 := false }, (let h : PdHead := { n := 2, id := 1, rev20 := false }; up |>.put (PPD_STATUS.PSTATE h.n) 6 |>.put (PPD_STATUS.PSTATE h.n) 11 |>.modPd h.n (fun d => { d with ams := some .drSwap }) |>.put (PPD_STATUS.CONTRACT h.n) 1), by decide +kernel⟩,
   ⟨{ n := 2, id := 1, rev20 := false }, (let h : PdHead := { n := 2, id := 1, rev20 := false }; up |>.put (PPD_STATUS.PSTATE h.n) 6 |>.put (PPD_STATUS.PSTATE h.n) 15 |>.modPd h.n (fun d => { d with ams := none }) |>.modPort h.n (fun z => { z with rom := false }) |>.modPd h.n (fun d => { d with held := [] })), by decide +kernel⟩,
   ⟨{ n := 2, id := 1, rev20 := false }, (let h : PdHead := { n := 2, id := 1, rev20 := false }; up |>.put (PPD_STATUS.PSTATE h.n) 6 |>.put (PPD_STATUS.PSTATE h.n) 11 |>.modPd h.n (fun d => { d with ams := some .drSwap }) |>.put (PPD_STATUS.CONTRACT h.n) 1), by decide +kernel⟩,
   ⟨{ n := 2, id := 1, rev20 := false }, 1, 500, 3000, false, (let h : PdHead := { n := 2, id := 1, rev20 := false }; let pos : Nat := 1; let v10 : Nat := 500; let ma : Nat := 3000; let mm : Bool := false; up |>.put (PPD_STATUS.PSTATE h.n) 16 |>.modPort h.n (fun z => { z with rom := false, role := 1 }) |>.modPd h.n (fun d => { d with sinkWant := some (pos, v10, ma, mm) })), by decide +kernel⟩,
   ⟨{ n := 2, id := 1, rev20 := false }, (let h : PdHead := { n := 2, id := 1, rev20 := false }; up |>.put (PPD_STATUS.PSTATE h.n) 6), by decide +kernel⟩,
   ⟨{ n := 2, id := 1, rev20 := false }, (let h : PdHead := { n := 2, id := 1, rev20 := false }; up |>.put (PPD_STATUS.PSTATE h.n) 6 |>.modPd h.n (fun d => { d with ams := none })), by decide +kernel⟩,
   ⟨{ n := 2, id := 1, rev20 := false }, .getStatus, (let h : PdHead := { n := 2, id := 1, rev20 := false }; let a : MsgName := .getStatus; up |>.put (PPD_STATUS.PSTATE h.n) 6 |>.modPd h.n (fun d => { d with ams := some a })), by decide +kernel⟩⟩

theorem nothing_asked : ((up.put (PPD_STATUS.PSTATE 2) 6).pd 2).ams = none := by decide +kernel

theorem meets_QuestionsToThePort :
    (∃ (h : PdHead) (s : State), s.hears h ∧ s.pstate h.n ≠ 19) ∧
    (∃ (h : PdHead) (s : State), s.hears h ∧ s.group h.n = .ready) ∧
    (∃ (h : PdHead) (s : State), s.hears h ∧ s.group h.n = .snk) ∧
    (∃ (h : PdHead) (s : State), s.hears h ∧ s.group h.n = .snk) ∧
    (∃ (h : PdHead) (s : State), s.hears h ∧ s.group h.n = .dorm) ∧
    (∃ (h : PdHead) (s : State), s.hears h ∧ (s.group h.n = .ready ∨ s.group h.n = .brace)) ∧
    (∃ (h : PdHead) (s : State), s.hears h ∧ (s.group h.n = .ready ∨ s.group h.n = .brace ∨ s.group h.n = .snk ∨ s.group h.n = .dorm)) ∧
    (∃ (h : PdHead) (s : State), s.hears h ∧ s.group h.n = .startup ∧ s.isService h.n = false) ∧
    (∃ (h : PdHead) (s : State), s.hears h ∧ (s.group h.n = .ready ∨ s.group h.n = .brace) ∧ s.rev3With h = true) ∧
    (∃ (h : PdHead) (s : State), s.hears h ∧ s.group h.n = .ready ∧ s.rev3With h = false) ∧
    (∃ (h : PdHead) (s : State), s.hears h ∧ (s.group h.n = .ready ∨ s.group h.n = .snk) ∧ s.rev3With h = false) ∧
    (∃ (h : PdHead) (s : State), s.hears h ∧ (s.group h.n = .ready ∨ s.group h.n = .snk) ∧ s.rev3With h = false) ∧
    (∃ (h : PdHead) (s : State), s.hears h ∧ (s.group h.n = .ready ∨ s.group h.n = .snk) ∧ s.rev3With h = true) ∧
    (∃ (h : PdHead) (s : State), s.hears h ∧ s.group h.n = .ready ∧ s.rev3With h = true ∧ s.hasContract h.n = true ∧ s.get (PPD_STATUS.KIND h.n) = 1) ∧
    (∃ (h : PdHead) (s : State), s.hears h ∧ s.group h.n = .ready ∧ (s.rev3With h = false ∨ s.hasContract h.n = false ∨ s.get (PPD_STATUS.KIND h.n) ≠ 1)) ∧
    (∃ (h : PdHead) (s : State), s.hears h ∧ s.group h.n = .snk ∧ s.rev3With h = true) ∧
    (∃ (h : PdHead) (s : State), s.hears h ∧ (s.group h.n = .ready ∨ s.group h.n = .brace)) ∧
    (∃ (h : PdHead) (s : State), s.hears h ∧ s.group h.n ≠ .neg ∧ s.group h.n ≠ .none) ∧
    (∃ (h : PdHead) (s : State), s.hears h ∧ (s.group h.n = .ready ∨ s.group h.n = .snk) ∧ s.rev3With h = true) ∧
    (∃ (h : PdHead) (s : State), s.hears h ∧ s.group h.n = .ready ∧ fieldOf (s.policyHead h.n) 6 6 = 1 ∧ s.rev3With h = true) ∧
    (∃ (h : PdHead) (s : State), s.hears h ∧ s.group h.n = .ready ∧ (fieldOf (s.policyHead h.n) 6 6 ≠ 1 ∨ s.rev3With h = false)) ∧
    (∃ (h : PdHead) (s : State), s.hears h ∧ (s.group h.n = .ready ∨ s.group h.n = .brace ∨ s.group h.n = .snk ∨ s.group h.n = .dorm)) ∧
    (∃ (h : PdHead) (s : State), s.hears h ∧ s.group h.n = .ready ∧ s.bit (PPD_CFG.ALERTGS h.n) = false) ∧
    (∃ (h : PdHead) (s : State), s.hears h ∧ s.group h.n = .ready ∧ s.bit (PPD_CFG.ALERTGS h.n) = true ∧ (s.pd h.n).firstSeen = true ∧ s.rev3 h.n = true ∧ (s.pd h.n).ams = none ∧ (s.pd h.n).held = [] ∧ s.isSource h.n = true ∧ s.hasContract h.n = true) ∧
    (∃ (h : PdHead) (s : State), s.hears h ∧ s.group h.n = .ready) ∧
    (∃ (n : Fin 16) (s : State), s.halted n.val = false) ∧
    (∃ (h : PdHead) (s : State), s.hears h ∧ s.group h.n = .ready ∧ (∀ k : Nat, (s.pd h.n).ams ≠ some (.ordered k))) ∧
    (∃ (h : PdHead) (s : State), s.hears h ∧ s.group h.n = .ready ∧ (s.pd h.n).ams = some .getStatus ∧ s.isService h.n = false ∧ s.nothingHeld h.n) :=
  ⟨⟨{ n := 2, id := 1, rev20 := false }, (let h : PdHead := { n := 2, id := 1, rev20 := false }; up |>.put (PPD_STATUS.PSTATE h.n) 6), by decide +kernel⟩,
   ⟨{ n := 2, id := 1, rev20 := false }, (let h : PdHead := { n := 2, id := 1, rev20 := false }; up |>.put (PPD_STATUS.PSTATE h.n) 6), by decide +kernel⟩,
   ⟨{ n := 2, id := 1, rev20 := false }, (let h : PdHead := { n := 2, id := 1, rev20 := false }; up |>.put (PPD_STATUS.PSTATE h.n) 6 |>.put (PPD_STATUS.PSTATE h.n) 16), by decide +kernel⟩,
   ⟨{ n := 2, id := 1, rev20 := false }, (let h : PdHead := { n := 2, id := 1, rev20 := false }; up |>.put (PPD_STATUS.PSTATE h.n) 6 |>.put (PPD_STATUS.PSTATE h.n) 16), by decide +kernel⟩,
   ⟨{ n := 2, id := 1, rev20 := false }, (let h : PdHead := { n := 2, id := 1, rev20 := false }; up |>.put (PPD_STATUS.PSTATE h.n) 6 |>.put (PPD_STATUS.PSTATE h.n) 20), by decide +kernel⟩,
   ⟨{ n := 2, id := 1, rev20 := false }, (let h : PdHead := { n := 2, id := 1, rev20 := false }; up |>.put (PPD_STATUS.PSTATE h.n) 6), by decide +kernel⟩,
   ⟨{ n := 2, id := 1, rev20 := false }, (let h : PdHead := { n := 2, id := 1, rev20 := false }; up |>.put (PPD_STATUS.PSTATE h.n) 6), by decide +kernel⟩,
   ⟨{ n := 2, id := 1, rev20 := false }, (let h : PdHead := { n := 2, id := 1, rev20 := false }; up |>.put (PPD_STATUS.PSTATE h.n) 6 |>.put (PPD_STATUS.PSTATE h.n) 3), by decide +kernel⟩,
   ⟨{ n := 2, id := 1, rev20 := false }, (let h : PdHead := { n := 2, id := 1, rev20 := false }; up |>.put (PPD_STATUS.PSTATE h.n) 6), by decide +kernel⟩,
   ⟨{ n := 2, id := 1, rev20 := false }, (let h : PdHead := { n := 2, id := 1, rev20 := false }; up |>.put (PPD_STATUS.PSTATE h.n) 6 |>.modPd h.n (fun d => { d with firstSeen := true }) |>.put (PPD_STATUS.REV h.n) 1), by decide +kernel⟩,
   ⟨{ n := 2, id := 1, rev20 := false }, (let h : PdHead := { n := 2, id := 1, rev20 := false }; up |>.put (PPD_STATUS.PSTATE h.n) 6 |>.modPd h.n (fun d => { d with firstSeen := true }) |>.put (PPD_STATUS.REV h.n) 1), by decide +kernel⟩,
   ⟨{ n := 2, id := 1, rev20 := false }, (let h : PdHead := { n := 2, id := 1, rev20 := false }; up |>.put (PPD_STATUS.PSTATE h.n) 6 |>.modPd h.n (fun d => { d with firstSeen := true }) |>.put (PPD_STATUS.REV h.n) 1), by decide +kernel⟩,
   ⟨{ n := 2, id := 1, rev20 := false }, (let h : PdHead := { n := 2, id := 1, rev20 := false }; up |>.put (PPD_STATUS.PSTATE h.n) 6), by decide +kernel⟩,
   ⟨{ n := 2, id := 1, rev20 := false }, (let h : PdHead := { n := 2, id := 1, rev20 := false }; up |>.put (PPD_STATUS.PSTATE h.n) 6 |>.put (PPD_STATUS.CONTRACT h.n) 1 |>.put (PPD_STATUS.KIND h.n) (1)), by decide +kernel⟩,
   ⟨{ n := 2, id := 1, rev20 := false }, (let h : PdHead := { n := 2, id := 1, rev20 := false }; up |>.put (PPD_STATUS.PSTATE h.n) 6), by decide +kernel⟩,
   ⟨{ n := 2, id := 1, rev20 := false }, (let h : PdHead := { n := 2, id := 1, rev20 := false }; up |>.put (PPD_STATUS.PSTATE h.n) 6 |>.put (PPD_STATUS.PSTATE h.n) 16), by decide +kernel⟩,
   ⟨{ n := 2, id := 1, rev20 := false }, (let h : PdHead := { n := 2, id := 1, rev20 := false }; up |>.put (PPD_STATUS.PSTATE h.n) 6), by decide +kernel⟩,
   ⟨{ n := 2, id := 1, rev20 := false }, (let h : PdHead := { n := 2, id := 1, rev20 := false }; up |>.put (PPD_STATUS.PSTATE h.n) 6), by decide +kernel⟩,
   ⟨{ n := 2, id := 1, rev20 := false }, (let h : PdHead := { n := 2, id := 1, rev20 := false }; up |>.put (PPD_STATUS.PSTATE h.n) 6), by decide +kernel⟩,
   ⟨{ n := 2, id := 1, rev20 := false }, (let h : PdHead := { n := 2, id := 1, rev20 := false }; up |>.put (PPD_STATUS.PSTATE h.n) 6 |> fun (z : State) => { z with running := [0, 0, 400, 1, 0, 0, 0, 0, 0x00040205, 0, 0x40, 0] }), by decide +kernel⟩,
   ⟨{ n := 2, id := 1, rev20 := false }, (let h : PdHead := { n := 2, id := 1, rev20 := false }; up |>.put (PPD_STATUS.PSTATE h.n) 6), by decide +kernel⟩,
   ⟨{ n := 2, id := 1, rev20 := false }, (let h : PdHead := { n := 2, id := 1, rev20 := false }; up |>.put (PPD_STATUS.PSTATE h.n) 6), by decide +kernel⟩,
   ⟨{ n := 2, id := 1, rev20 := false }, (let h : PdHead := { n := 2, id := 1, rev20 := false }; up |>.put (PPD_STATUS.PSTATE h.n) 6 |>.clear (PPD_CFG.ALERTGS h.n)), by decide +kernel⟩,
   ⟨{ n := 2, id := 1, rev20 := false }, (let h : PdHead := { n := 2, id := 1, rev20 := false }; up |>.put (PPD_STATUS.PSTATE h.n) 6 |>.raise (PPD_CFG.ALERTGS h.n) |>.modPd h.n (fun d => { d with firstSeen := true }) |>.modPd h.n (fun d => { d with ams := none }) |>.modPd h.n (fun d => { d with held := [] }) |>.put (PPD_STATUS.CONTRACT h.n) 1), by decide +kernel⟩,
   ⟨{ n := 2, id := 1, rev20 := false }, (let h : PdHead := { n := 2, id := 1, rev20 := false }; up |>.put (PPD_STATUS.PSTATE h.n) 6), by decide +kernel⟩,
   ⟨2, up, by decide +kernel⟩,
   ⟨{ n := 2, id := 1, rev20 := false }, up |>.put (PPD_STATUS.PSTATE 2) 6, by decide +kernel, by decide +kernel, fun k h => nomatch nothing_asked.symm.trans h⟩,
   ⟨{ n := 2, id := 1, rev20 := false }, (let h : PdHead := { n := 2, id := 1, rev20 := false }; up |>.put (PPD_STATUS.PSTATE h.n) 6 |>.modPd h.n (fun d => { d with ams := some .getStatus })), by decide +kernel⟩⟩

theorem meets_SinkPolicy :
    (∃ (h : PdHead) (s : State), s.hears h ∧ s.group h.n = .snk ∧ s.ports[h.n].rom = false) ∧
    (∃ (h : PdHead) (size : BitVec 9) (data : List Byte) (s : State), s.hears h ∧ s.group h.n = .snk ∧ s.ports[h.n].rom = false ∧ size.toNat ≤ data.length) ∧
    (∃ (h : PdHead) (num : BitVec 4) (size : BitVec 9) (data : List Byte) (s : State), s.hears h ∧ s.group h.n = .snk ∧ num ≠ 0 ∧ (s.pd h.n).chunkRx = some num.toNat ∧ (s.pd h.n).rxBuf.length + data.length < size.toNat) ∧
    (∃ (h : PdHead) (s : State), s.hears h ∧ s.group h.n = .ready ∧ s.isService h.n = false) ∧
    (∃ (n : Fin 16) (s : State), s.sink n = 14 ∧ s.get (PPD_STATUS.HRCOUNT n) < 2 ∧ s.halted n.val = false ∧ s.isService n = true) ∧
    (∃ (n : Fin 16) (pos : Nat) (v10 : Nat) (ma : Nat) (mm : Bool) (s : State), (s.pd n).held = [6] ∧ s.halted n.val = false ∧ (s.pstate n = 15 ∨ s.pstate n = 17) ∧ s.ports[n].rom = false ∧ (s.pd n).sinkWant = some (pos, v10, ma, mm)) ∧
    (∃ (n : Fin 16) (s : State), s.sink n = 16 ∧ s.halted n.val = false ∧ s.isService n = true ∧ 3 ≤ s.get (PPD_STATUS.HRCOUNT n)) ∧
    (∃ (n : Fin 16) (s : State), s.sink n = 16 ∧ s.halted n.val = false ∧ s.isService n = true ∧ s.get (PPD_STATUS.HRCOUNT n) < 3) ∧
    (∃ (n : Fin 16) (s : State), s.sink n = 18 ∧ s.halted n.val = false) ∧
    (∃ (n : Fin 16) (s : State), s.sink n = 18 ∧ s.halted n.val = false) ∧
    (∃ (n : Fin 16) (s : State), s.sink n = 18 ∧ s.halted n.val = false ∧ s.isService n = true) :=
  ⟨⟨{ n := 2, id := 1, rev20 := false }, (let h : PdHead := { n := 2, id := 1, rev20 := false }; up |>.put (PPD_STATUS.PSTATE h.n) 6 |>.put (PPD_STATUS.PSTATE h.n) 16 |>.modPort h.n (fun z => { z with rom := false })), by decide +kernel⟩,
   ⟨{ n := 2, id := 1, rev20 := false }, 0, [], (let h : PdHead := { n := 2, id := 1, rev20 := false }; up |>.put (PPD_STATUS.PSTATE h.n) 16), by decide +kernel⟩,
   ⟨{ n := 2, id := 1, rev20 := false }, 1, 30, [], (let h : PdHead := { n := 2, id := 1, rev20 := false }; let num : BitVec 4 := 1; up |>.put (PPD_STATUS.PSTATE h.n) 16 |>.modPd h.n (fun d => { d with chunkRx := some num.toNat })), by decide +kernel⟩,
   ⟨{ n := 2, id := 1, rev20 := false }, (let h : PdHead := { n := 2, id := 1, rev20 := false }; up |>.put (PPD_STATUS.PSTATE h.n) 6), by decide +kernel⟩,
   ⟨2, (let n : Fin 16 := 2; up |>.put (PPD_STATUS.PSTATE n) 14 |>.modPort n (fun z => { z with role := 1 })), by decide +kernel⟩,
   ⟨2, 1, 1, 1, true, (let n : Fin 16 := 2; let pos : Nat := 1; let v10 : Nat := 1; let ma : Nat := 1; let mm : Bool := true; up |>.modPd n (fun d => { d with held := [6] }) |>.put (PPD_STATUS.PSTATE n) 15 |>.modPort n (fun z => { z with rom := false }) |>.modPd n (fun d => { d with sinkWant := some (pos, v10, ma, mm) })), by decide +kernel⟩,
   ⟨2, (let n : Fin 16 := 2; up |>.modPort n (fun z => { z with role := 1 }) |>.put (PPD_STATUS.PSTATE n) 16 |>.put (PPD_STATUS.HRCOUNT n) 3), by decide +kernel⟩,
   ⟨2, (let n : Fin 16 := 2; up |>.put (PPD_STATUS.PSTATE n) 16 |>.modPort n (fun z => { z with role := 1 })), by decide +kernel⟩,
   ⟨2, (let n : Fin 16 := 2; up |>.put (PPD_STATUS.PSTATE n) 18), by decide +kernel⟩,
   ⟨2, (let n : Fin 16 := 2; up |>.put (PPD_STATUS.PSTATE n) 18), by decide +kernel⟩,
   ⟨2, (let n : Fin 16 := 2; up |>.put (PPD_STATUS.PSTATE n) 18 |>.modPort n (fun z => { z with role := 1 })), by decide +kernel⟩⟩

theorem meets_PolicyCommandsAndWarning :
    (∃ (hp : HostPort) (n : Fin 16) (s : State), s.takes hp (PPD_CMD.at n) 1 ∧ s.pstate n = 6 ∧ s.isSource n = true ∧ s.hasContract n = true ∧ s.rev3 n = true ∧ (s.pd n).ams = none ∧ (s.pd n).held = []) ∧
    (∃ (hp : HostPort) (n : Fin 16) (s : State), s.takes hp (PPD_CMD.at n) 1 ∧ s.pstate n = 4 ∧ s.isSource n = true ∧ (s.pd n).held = []) ∧
    (∃ (hp : HostPort) (n : Fin 16) (s : State), s.takes hp (PPD_CMD.at n) 2 ∧ s.pstate n ≠ 0 ∧ s.mayHardReset n) ∧
    (∃ (hp : HostPort) (n : Fin 16) (s : State), s.takes hp (PPD_CMD.at n) 4 ∧ s.listening n = true ∧ s.pstate n ≠ 6 ∧ s.pstate n ≠ 12 ∧ s.isService n = false) ∧
    (∃ (hp : HostPort) (n : Fin 16) (s : State), s.takes hp (PPD_CMD.at n) 8 ∧ s.pstate n = 6 ∧ s.isService n = false ∧ s.hasContract n = false ∧ (s.pd n).ams = none ∧ (s.pd n).held = []) ∧
    (∃ (hp : HostPort) (n : Fin 16) (s : State), s.takes hp (PPD_CMD.at n) 8 ∧ s.pstate n = 4 ∧ (s.pd n).held = []) ∧
    (∃ (hp : HostPort) (n : Fin 16) (s : State), s.takes hp (PPD_CMD.at n) 16 ∧ s.pstate n = 6 ∧ s.bit (PPD_STATUS.EPRMODE n) = true ∧ s.isSource n = true ∧ s.hasContract n = true ∧ s.rev3 n = true ∧ (s.pd n).ams = none ∧ (s.pd n).held = [] ∧ s.get (PPD_CONTRACTVI.V10 n) ≤ 2000) ∧
    (∃ (hp : HostPort) (n : Fin 16) (s : State), s.takes hp (PPD_CMD.at n) 16 ∧ s.bit (PPD_STATUS.EPRMODE n) = false ∧ s.pstate n = 6 ∧ s.amsBusy n = false) ∧
    (∃ (hp : HostPort) (n : Fin 16) (s : State), s.takes hp (PPD_CMD.at n) 16 ∧ s.isSource n = true ∧ s.pstate n ≠ 6 ∧ (s.pd n).held = []) ∧
    (∃ (s : State), 0x107 ∉ s.bat.levels) ∧
    (∃ (s : State), s.warnHeld = false ∧ 0x107 ∈ s.bat.levels) :=
  ⟨⟨.spi, 2, (let n : Fin 16 := 2; up |>.put (PPD_STATUS.PSTATE n) 6 |>.put (PPD_STATUS.CONTRACT n) 1 |>.modPd n (fun d => { d with ams := none }) |>.modPd n (fun d => { d with held := [] })), by decide +kernel⟩,
   ⟨.spi, 2, (let n : Fin 16 := 2; up |>.put (PPD_STATUS.PSTATE n) 4 |>.modPd n (fun d => { d with held := [] })), by decide +kernel⟩,
   ⟨.spi, 2, (let n : Fin 16 := 2; up |>.put (PPD_STATUS.PSTATE n) 6), by decide +kernel⟩,
   ⟨.spi, 2, (let n : Fin 16 := 2; up |>.put (PPD_STATUS.PSTATE n) 3), by decide +kernel⟩,
   ⟨.spi, 2, (let n : Fin 16 := 2; up |>.put (PPD_STATUS.PSTATE n) 6 |>.modPd n (fun d => { d with ams := none }) |>.modPd n (fun d => { d with held := [] })), by decide +kernel⟩,
   ⟨.spi, 2, (let n : Fin 16 := 2; up |>.put (PPD_STATUS.PSTATE n) 4 |>.modPd n (fun d => { d with held := [] })), by decide +kernel⟩,
   ⟨.spi, 2, (let n : Fin 16 := 2; up |>.put (PPD_STATUS.PSTATE n) 6 |>.raise (PPD_STATUS.EPRMODE n) |>.put (PPD_STATUS.CONTRACT n) 1 |>.modPd n (fun d => { d with ams := none }) |>.modPd n (fun d => { d with held := [] })), by decide +kernel⟩,
   ⟨.spi, 2, (let n : Fin 16 := 2; up |>.put (PPD_STATUS.PSTATE n) 6 |>.modPd n (fun d => { d with ams := none }) |>.modPd n (fun d => { d with held := [] })), by decide +kernel⟩,
   ⟨.spi, 2, (let n : Fin 16 := 2; up |>.put (PPD_STATUS.PSTATE n) 4 |>.modPd n (fun d => { d with held := [] })), by decide +kernel⟩,
   ⟨up, by decide +kernel⟩,
   ⟨up |>.modBat (fun z => { z with levels := [0x107] }), by decide +kernel⟩⟩

theorem meets_VendorMessages :
    (∃ (h : PdHead) (s : State), s.hears h ∧ (s.group h.n = .ready ∨ s.group h.n = .snk)) ∧
    (∃ (h : PdHead) (s : State), s.hears h ∧ (s.group h.n = .ready ∨ s.group h.n = .snk)) ∧
    (∃ (h : PdHead) (s : State), s.hears h ∧ s.group h.n = .brace) ∧
    (∃ (h : PdHead) (s : State), s.hears h ∧ (s.group h.n = .ready ∨ s.group h.n = .snk)) ∧
    (∃ (h : PdHead) (s : State), s.hears h ∧ s.group h.n = .brace) ∧
    (∃ (h : PdHead) (s : State), s.hears h ∧ s.pstate h.n ≠ 19) ∧
    (∃ (h : PdHead) (s : State), s.observes h) ∧
    (∃ (h : PdHead) (s : State), s.hears h ∧ (s.group h.n = .ready ∨ s.group h.n = .snk) ∧ s.get HST_AUTH.PDVDM = 0) ∧
    (∃ (h : PdHead) (addr : BitVec 24) (s : State), s.observes h ∧ (s.pd h.n).firstSeen = true ∧ s.vdmReads addr.toNat 1 = true ∧ addr.toNat ≠ TRS_STAT.at) ∧
    (∃ (h : PdHead) (addr : BitVec 24) (count : BitVec 3) (s : State), s.observes h ∧ s.vdmReads addr.toNat count.toNat = false) ∧
    (∃ (h : PdHead) (s : State), s.observes h) ∧
    (∃ (h : PdHead) (s : State), s.observes h) :=
  ⟨⟨{ n := 2, id := 1, rev20 := false }, (let h : PdHead := { n := 2, id := 1, rev20 := false }; up |>.put (PPD_STATUS.PSTATE h.n) 6), by decide +kernel⟩,
   ⟨{ n := 2, id := 1, rev20 := false }, (let h : PdHead := { n := 2, id := 1, rev20 := false }; up |>.put (PPD_STATUS.PSTATE h.n) 6), by decide +kernel⟩,
   ⟨{ n := 2, id := 1, rev20 := false }, (let h : PdHead := { n := 2, id := 1, rev20 := false }; up |>.put (PPD_STATUS.PSTATE h.n) 6 |>.put (PPD_STATUS.PSTATE h.n) 12), by decide +kernel⟩,
   ⟨{ n := 2, id := 1, rev20 := false }, (let h : PdHead := { n := 2, id := 1, rev20 := false }; up |>.put (PPD_STATUS.PSTATE h.n) 6), by decide +kernel⟩,
   ⟨{ n := 2, id := 1, rev20 := false }, (let h : PdHead := { n := 2, id := 1, rev20 := false }; up |>.put (PPD_STATUS.PSTATE h.n) 6 |>.put (PPD_STATUS.PSTATE h.n) 12), by decide +kernel⟩,
   ⟨{ n := 2, id := 1, rev20 := false }, (let h : PdHead := { n := 2, id := 1, rev20 := false }; up |>.put (PPD_STATUS.PSTATE h.n) 6), by decide +kernel⟩,
   ⟨{ n := 2, id := 1, rev20 := false }, (let h : PdHead := { n := 2, id := 1, rev20 := false }; up |>.put HST_AUTH.PDVDM 1 |>.put (PPD_STATUS.PSTATE h.n) 6), by decide +kernel⟩,
   ⟨{ n := 2, id := 1, rev20 := false }, (let h : PdHead := { n := 2, id := 1, rev20 := false }; up |>.put (PPD_STATUS.PSTATE h.n) 6 |>.put HST_AUTH.PDVDM (0)), by decide +kernel⟩,
   ⟨{ n := 2, id := 1, rev20 := false }, 0x40, (let h : PdHead := { n := 2, id := 1, rev20 := false }; up |>.put HST_AUTH.PDVDM 1 |>.modPd h.n (fun d => { d with firstSeen := true }) |>.put (PPD_STATUS.PSTATE h.n) 6), by decide +kernel⟩,
   ⟨{ n := 2, id := 1, rev20 := false }, 0x5C000, 1, (let h : PdHead := { n := 2, id := 1, rev20 := false }; up |>.put HST_AUTH.PDVDM 1 |>.put (PPD_STATUS.PSTATE h.n) 6), by decide +kernel⟩,
   ⟨{ n := 2, id := 1, rev20 := false }, (let h : PdHead := { n := 2, id := 1, rev20 := false }; up |>.put HST_AUTH.PDVDM 1 |>.put (PPD_STATUS.PSTATE h.n) 6), by decide +kernel⟩,
   ⟨{ n := 2, id := 1, rev20 := false }, (let h : PdHead := { n := 2, id := 1, rev20 := false }; up |>.put HST_AUTH.PDVDM 1 |>.put (PPD_STATUS.PSTATE h.n) 6), by decide +kernel⟩⟩

theorem meets_RecoveryDownload :
    (∃ (h : PdHead) (s : State), s.recovers h) ∧
    (∃ (h : PdHead) (s : State), s.recovers h ∧ s.inDormer = true ∧ s.beginCode = 0) ∧
    (∃ (h : PdHead) (s : State), s.recovers h ∧ s.inDormer = true ∧ s.beginCode ≠ 0) ∧
    (∃ (h : PdHead) (off : BitVec 24) (x : Session) (s : State), s.recovers h ∧ s.inDormer = true ∧ s.upd.sess = some x ∧ x.owner = 6 ∧ off.toNat = s.get UPD_NEXT.OFFS ∧ off.toNat % 4096 < 4076) ∧
    (∃ (h : PdHead) (off : BitVec 24) (s : State), s.recovers h ∧ s.inDormer = true ∧ s.vdmSession = true ∧ off.toNat ≠ s.get UPD_NEXT.OFFS) ∧
    (∃ (h : PdHead) (len : BitVec 32) (crc : BitVec 32) (x : Session) (s : State), s.recovers h ∧ s.inDormer = true ∧ s.upd.sess = some x ∧ x.owner = 6 ∧ s.leading = false ∧ len.toNat = manPkgLen x.man ∧ crc.toNat = x.crcAll ^^^ 0xFFFFFFFF) ∧
    (∃ (h : PdHead) (len : BitVec 32) (x : Session) (s : State), s.recovers h ∧ s.inDormer = true ∧ s.upd.sess = some x ∧ x.owner = 6 ∧ s.leading = false ∧ len.toNat ≠ manPkgLen x.man) ∧
    (∃ (h : PdHead) (s : State), s.recovers h) :=
  ⟨⟨{ n := 2, id := 1, rev20 := false }, (let h : PdHead := { n := 2, id := 1, rev20 := false }; up |>.put (PPD_STATUS.PSTATE h.n) 20 |>.modPort h.n (fun z => { z with rom := true }) |>.put HST_AUTH.PDVDM 1), by decide +kernel⟩,
   ⟨{ n := 2, id := 1, rev20 := false }, (let h : PdHead := { n := 2, id := 1, rev20 := false }; up |>.put (PPD_STATUS.PSTATE h.n) 20 |>.modPort h.n (fun z => { z with rom := true }) |>.put HST_AUTH.PDVDM 1 |>.raise GLB_BOOTSTAT.DORMER), by decide +kernel⟩,
   ⟨{ n := 2, id := 1, rev20 := false }, (let h : PdHead := { n := 2, id := 1, rev20 := false }; up |>.put (PPD_STATUS.PSTATE h.n) 20 |>.modPort h.n (fun z => { z with rom := true }) |>.put HST_AUTH.PDVDM 1 |>.raise GLB_BOOTSTAT.DORMER |>.raise GLB_BOOTSTAT.DORMER |>.put GLB_BOOTSTAT.DCAUSE 3), by decide +kernel⟩,
   ⟨{ n := 2, id := 1, rev20 := false }, 0, { owner := 6, defer := false, man := [], block := [], stored := [], lenDecl := none, crcDecl := none, crcAll := 0xFFFFFFFF }, (let h : PdHead := { n := 2, id := 1, rev20 := false }; let x : Session := { owner := 6, defer := false, man := [], block := [], stored := [], lenDecl := none, crcDecl := none, crcAll := 0xFFFFFFFF }; up |>.put (PPD_STATUS.PSTATE h.n) 20 |>.modPort h.n (fun z => { z with rom := true }) |>.put HST_AUTH.PDVDM 1 |>.raise GLB_BOOTSTAT.DORMER |>.modUpd (fun z => { z with sess := some x })), by decide +kernel⟩,
   ⟨{ n := 2, id := 1, rev20 := false }, 5, (let h : PdHead := { n := 2, id := 1, rev20 := false }; up |>.put (PPD_STATUS.PSTATE h.n) 20 |>.modPort h.n (fun z => { z with rom := true }) |>.put HST_AUTH.PDVDM 1 |>.raise GLB_BOOTSTAT.DORMER |>.modUpd (fun z => { z with sess := some { owner := 6, defer := false, man := [], block := [], stored := [], lenDecl := none, crcDecl := none, crcAll := 0xFFFFFFFF } })), by decide +kernel⟩,
   ⟨{ n := 2, id := 1, rev20 := false }, 0, 0, { owner := 6, defer := false, man := [], block := [], stored := [], lenDecl := none, crcDecl := none, crcAll := 0xFFFFFFFF }, (let h : PdHead := { n := 2, id := 1, rev20 := false }; let x : Session := { owner := 6, defer := false, man := [], block := [], stored := [], lenDecl := none, crcDecl := none, crcAll := 0xFFFFFFFF }; up |>.put (PPD_STATUS.PSTATE h.n) 20 |>.modPort h.n (fun z => { z with rom := true }) |>.put HST_AUTH.PDVDM 1 |>.raise GLB_BOOTSTAT.DORMER |>.modUpd (fun z => { z with sess := some x })), by decide +kernel⟩,
   ⟨{ n := 2, id := 1, rev20 := false }, 5, { owner := 6, defer := false, man := [], block := [], stored := [], lenDecl := none, crcDecl := none, crcAll := 0xFFFFFFFF }, (let h : PdHead := { n := 2, id := 1, rev20 := false }; let x : Session := { owner := 6, defer := false, man := [], block := [], stored := [], lenDecl := none, crcDecl := none, crcAll := 0xFFFFFFFF }; up |>.put (PPD_STATUS.PSTATE h.n) 20 |>.modPort h.n (fun z => { z with rom := true }) |>.put HST_AUTH.PDVDM 1 |>.raise GLB_BOOTSTAT.DORMER |>.modUpd (fun z => { z with sess := some x })), by decide +kernel⟩,
   ⟨{ n := 2, id := 1, rev20 := false }, (let h : PdHead := { n := 2, id := 1, rev20 := false }; up |>.put (PPD_STATUS.PSTATE h.n) 20 |>.modPort h.n (fun z => { z with rom := true }) |>.put HST_AUTH.PDVDM 1), by decide +kernel⟩⟩

theorem meets_SlicePeriods :
    (∃ (k : Fin 48) (n : Fin 16) (s : State), s.frozen k = false ∧ s.slicePresent k = true ∧ s.driver k = some n ∧ s.slices[k].startPending = false ∧ s.bit (RAF_STAT.RUN k) = true) ∧
    (∃ (k : Fin 48) (n : Fin 16) (s : State), s.frozen k = false ∧ s.slicePresent k = true ∧ s.driver k = some n ∧ s.leadFor k = k ∧ s.slices[k].startPending = true ∧ (s.legsOf n).all s.pllLocked = true) ∧
    (∃ (k : Fin 48) (s : State), s.frozen k = false ∧ s.bit (RAF_STAT.RUN k) = true ∧ s.slices[k].startPending = false) ∧
    (∃ (k : Fin 48) (pt : Fin 6) (down : Bool) (s : State), s.frozen k = false ∧ s.bit (RAF_STAT.RUN k) = true ∧ s.pointOccurs k pt.val down = true ∧ s.get (RAF_EVCFG.PRESC k) ≤ s.slices[k].presc.getD pt.val 0) ∧
    (∃ (k : Fin 48) (pt : Fin 6) (down : Bool) (s : State), s.frozen k = false ∧ s.bit (RAF_STAT.RUN k) = true ∧ s.pointOccurs k pt.val down = true ∧ s.slices[k].presc.getD pt.val 0 < s.get (RAF_EVCFG.PRESC k)) ∧
    (∃ (k : Fin 48) (input : Fin 2) (at_ : Nat) (n : Fin 16) (s : State), s.bit (RAF_STAT.RUN k) = true ∧ s.frozen k = false ∧ s.slices[k].cut = false ∧ (setBitTo s.slices[k].tripIn input.val true &&& s.get (RAF_CTRL.TRIPSEL k)) ≠ 0 ∧ s.blanked k at_ = false ∧ s.driver k = some n ∧ s.get (BAT_TALLY0.THRESH (portTally n tallyRAFTRIP)) = 0) ∧
    (∃ (k : Fin 48) (at_ : Nat) (s : State), (s.slices[k].cut = true ∨ s.blanked k at_ = true)) ∧
    (∃ (k : Fin 48) (s : State), (s.slices[k].tripIn &&& s.get (RAF_CTRL.TRIPSEL k)) = 0) ∧
    (∃ (k : Fin 48) (at_ : Nat) (n : Fin 16) (s : State), s.frozen k = false ∧ s.bit (RAF_STAT.RUN k) = true ∧ s.slices[k].cut = false ∧ (s.slices[k].tripIn &&& s.get (RAF_CTRL.TRIPSEL k)) ≠ 0 ∧ s.blanked k at_ = false ∧ s.driver k = some n ∧ s.get (BAT_TALLY0.THRESH (portTally n tallyRAFTRIP)) = 0) :=
  ⟨⟨6, 2, (let k : Fin 48 := 6; let n : Fin 16 := 2; up |>.put (RAF_STAT.PORT k) n.val |>.modSlice k (fun z => { z with startPending := false }) |>.raise (RAF_STAT.RUN k)), by decide +kernel⟩,
   ⟨6, 2, (let k : Fin 48 := 6; let n : Fin 16 := 2; up |>.put (RAF_STAT.PORT k) n.val |>.raise (RAF_STAT.LEAD k) |>.modSlice k (fun z => { z with startPending := true }) |>.put GLB_PLLSTAT.LOCK 0xFFFF), by decide +kernel⟩,
   ⟨6, (let k : Fin 48 := 6; up |>.raise (RAF_STAT.RUN k)), by decide +kernel⟩,
   ⟨6, 1, true, (let k : Fin 48 := 6; up |>.raise (RAF_STAT.RUN k)), by decide +kernel⟩,
   ⟨6, 1, true, (let k : Fin 48 := 6; up |>.raise (RAF_STAT.RUN k) |>.put (RAF_EVCFG.PRESC k) 1), by decide +kernel⟩,
   ⟨6, 0, 1, 2, (let k : Fin 48 := 6; let n : Fin 16 := 2; up |>.raise (RAF_STAT.RUN k) |>.modSlice k (fun z => { z with cut := false }) |>.put (RAF_STAT.PORT k) n.val |>.put (BAT_TALLY0.THRESH (portTally n tallyRAFTRIP)) (0)), by decide +kernel⟩,
   ⟨6, 1, (let k : Fin 48 := 6; up |>.raise (RAF_STAT.RUN k) |>.modSlice k (fun z => { z with cut := true })), by decide +kernel⟩,
   ⟨6, up, by decide +kernel⟩,
   ⟨6, 1, 2, (let k : Fin 48 := 6; let n : Fin 16 := 2; up |>.raise (RAF_STAT.RUN k) |>.modSlice k (fun z => { z with cut := false }) |>.put (RAF_STAT.PORT k) n.val |>.put (BAT_TALLY0.THRESH (portTally n tallyRAFTRIP)) (0) |>.modSlice k (fun z => { z with tripIn := 1 }) |>.put (RAF_CTRL.TRIPSEL k) 1), by decide +kernel⟩⟩

theorem meets_StageStartStopAndFaults :
    (∃ (n : Fin 16) (o : Op) (rest : List Op) (s : State), s.ports[n].applyQ = o :: rest ∧ o.cls = clsSW ∧ o.sub = 4 ∧ s.halted n.val = false ∧ s.driveOk n = true ∧ s.legFrozen n = false) ∧
    (∃ (n : Fin 16) (o : Op) (rest : List Op) (s : State), s.ports[n].applyQ = o :: rest ∧ o.cls = clsSW ∧ o.sub = 4 ∧ (s.driveOk n = false ∨ s.legFrozen n = true)) ∧
    (∃ (n : Fin 16) (o : Op) (rest : List Op) (s : State), s.ports[n].applyQ = o :: rest ∧ o.cls = clsSW ∧ o.sub = 5 ∧ s.halted n.val = false) ∧
    (∃ (hp : HostPort) (k : Fin 48) (key : Byte) (n : Fin 16) (s : State), s.takes hp (RAF_CMD.at k) (BitVec.ofNat 32 (key.toNat * 2 ^ 24 + 1)) ∧ s.driver k = some n ∧ s.halted n.val = false ∧ s.cc n ≠ ccErrorRecovery) ∧
    (∃ (hp : HostPort) (k : Fin 48) (key : Byte) (s : State), s.takes hp (RAF_CMD.at k) (BitVec.ofNat 32 (key.toNat * 2 ^ 24 + 1)) ∧ s.driver k = none) ∧
    (∃ (n : Fin 16) (s : State), s.portUp n = true ∧ s.halted n.val = false) ∧
    (∃ (n : Fin 16) (s : State), s.portUp n = true ∧ s.halted n.val = false ∧ s.bit (PLP_FRZCFG.OSDEN n) = true ∧ s.bit (PLP_STATUS.CONFIRM n) = false) ∧
    (∃ (n : Fin 16) (s : State), s.portUp n = true ∧ s.halted n.val = false ∧ s.bit (PLP_FRZCFG.OSDEN n) = true ∧ s.bit (PLP_STATUS.CONFIRM n) = true) ∧
    (∃ (n : Fin 16) (s : State), s.bit (PLP_FRZCFG.FRZEN n) = true ∧ s.portUp n = true ∧ s.halted n.val = false ∧ s.stageOn n = true ∧ s.bit (PLP_STATUS.CONFIRM n) = false ∧ s.frozenNow n = true) ∧
    (∃ (n : Fin 16) (s : State), s.bit (PLP_STATUS.CONFIRM n) = true ∧ s.halted n.val = false ∧ s.bit (PCC_STATUS.LATCHED n) = false ∧ (s.tallyAdd (portTally n tallyLOOP) 1).1 = false) ∧
    (∃ (n : Fin 16) (s : State), s.bit (PLP_STATUS.CONFIRM n) = true ∧ s.halted n.val = false ∧ s.portUp n = true ∧ s.cc n ≠ ccDisabled ∧ s.cc n ≠ ccErrorRecovery ∧ (s.tallyAdd (portTally n tallyLOOP) 1).1 = true) ∧
    (∃ (n : Fin 16) (s : State), s.bit (PLP_STATUS.CONFIRM n) = true ∧ s.halted n.val = false ∧ s.cc n ≠ ccErrorRecovery) ∧
    (∃ (n : Fin 16) (s : State), s.portUp n = true ∧ s.halted n.val = false ∧ s.stageOn n = true ∧ s.cc n ≠ ccErrorRecovery) :=
  ⟨⟨2, Op.mk0 2 clsSW 5 4 7, [], (let n : Fin 16 := 2; let o : Op := Op.mk0 2 clsSW 5 4 7; let rest : List Op := []; up |>.modPort n (fun z => { z with applyQ := o :: rest })), by decide +kernel⟩,
   ⟨2, Op.mk0 2 clsSW 5 4 7, [], (let n : Fin 16 := 2; let o : Op := Op.mk0 2 clsSW 5 4 7; let rest : List Op := []; up |>.modPort n (fun z => { z with applyQ := o :: rest }) |>.maskBit GLB_ISLHALT.ISL n.val true |>.put (RAF_STAT.PORT 6) n.val), by decide +kernel⟩,
   ⟨2, Op.mk0 2 clsSW 5 5 7, [], (let n : Fin 16 := 2; let o : Op := Op.mk0 2 clsSW 5 5 7; let rest : List Op := []; up |>.modPort n (fun z => { z with applyQ := o :: rest })), by decide +kernel⟩,
   ⟨.spi, 6, 0x96, 2, (let k : Fin 48 := 6; let n : Fin 16 := 2; up |>.put (RAF_STAT.PORT k) n.val), by decide +kernel⟩,
   ⟨.spi, 6, 0x96, up, by decide +kernel⟩,
   ⟨2, up, by decide +kernel⟩,
   ⟨2, up, by decide +kernel⟩,
   ⟨2, (let n : Fin 16 := 2; up |>.raise (PLP_STATUS.CONFIRM n)), by decide +kernel⟩,
   ⟨2, (let n : Fin 16 := 2; up |>.put (RAF_STAT.PORT 6) n.val |>.raise (RAF_STAT.RUN 6) |>.raise (PLP_FRZCFG.FRZEN n) |>.put (PLP_FRZCFG.FRZN n) 2 |>.put (PLP_FRZCFG.FRZMOV n) 1 |>.put (PLP_FRZCFG.FRZLSB n) 1 |>.modPort n (fun z => { z with loop := { z.loop with frz := [(100, 900000), (100, 100)] } })), by decide +kernel⟩,
   ⟨2, (let n : Fin 16 := 2; up |>.raise (PLP_STATUS.CONFIRM n)), by decide +kernel⟩,
   ⟨2, (let n : Fin 16 := 2; up |>.raise (PLP_STATUS.CONFIRM n) |>.put (BAT_TALLY0.THRESH (portTally n tallyLOOP)) 1 |>.put (PCC_STATUS.STATE n) ccAttachedSrc), by decide +kernel⟩,
   ⟨2, (let n : Fin 16 := 2; up |>.raise (PLP_STATUS.CONFIRM n)), by decide +kernel⟩,
   ⟨2, (let n : Fin 16 := 2; up |>.put (RAF_STAT.PORT 6) n.val |>.raise (RAF_STAT.RUN 6)), by decide +kernel⟩⟩

theorem meets_LoopAndCompensation :
    (∃ (n : Fin 16) (v : List (BitVec 12)) (i : List (BitVec 12)) (s : State), s.portUp n = true ∧ s.halted n.val = false ∧ s.stageOn n = true ∧ s.bit (PLP_STATUS.CONFIRM n) = false ∧ s.swHeld n = false ∧ s.noneStaged ∧ s.osr n ≤ v.length ∧ s.osr n ≤ i.length) ∧
    (∃ (n : Fin 16) (v : List (BitVec 12)) (i : List (BitVec 12)) (s : State), s.portUp n = true ∧ s.halted n.val = false ∧ s.stageOn n = true ∧ s.bit (PLP_STATUS.CONFIRM n) = true ∧ s.noneStaged ∧ s.osr n ≤ v.length ∧ s.osr n ≤ i.length) ∧
    (∃ (n : Fin 16) (s : State), s.get (PEV_STATUS.STATE n) = 2 ∧ s.halted n.val = false) ∧
    (∃ (n : Fin 16) (s : State), s.portUp n = true) ∧
    (∃ (n : Fin 16) (s : State), s.portUp n = true) ∧
    (∃ (n : Fin 16) (s : State), s.portUp n = true ∧ s.mayMeasure n true = true) ∧
    (∃ (n : Fin 16) (s : State), s.portUp n = true ∧ s.halted n.val = false ∧ s.get (PEV_STATUS.STATE n) = 3 ∧ s.bit (PLP_STATUS.RAMP n) = false ∧ s.swHeld n = false) ∧
    (∃ (hp : HostPort) (n : Fin 16) (s : State), s.takes hp (PLP_CMD.at n) 1) ∧
    (∃ (n : Fin 16) (s : State), s.rd (PCC_CCLVL.at n) = 0xFFFFFFFF) :=
  ⟨⟨2, List.replicate 4 100, List.replicate 4 100, (let n : Fin 16 := 2; up |>.put (RAF_STAT.PORT 6) n.val |>.raise (RAF_STAT.RUN 6) |>.put (PLP_CFG.OSR n) 2), by decide +kernel⟩,
   ⟨2, List.replicate 4 100, List.replicate 4 100, (let n : Fin 16 := 2; up |>.put (RAF_STAT.PORT 6) n.val |>.raise (RAF_STAT.RUN 6) |>.put (PLP_CFG.OSR n) 2 |>.raise (PLP_STATUS.CONFIRM n)), by decide +kernel⟩,
   ⟨2, (let n : Fin 16 := 2; up |>.put (PEV_STATUS.STATE n) (2)), by decide +kernel⟩,
   ⟨2, up, by decide +kernel⟩,
   ⟨2, up, by decide +kernel⟩,
   ⟨2, (let n : Fin 16 := 2; up |>.put (PCC_STATUS.STATE n) ccAttachedSrc |>.raise (PCC_CCREF.VALID n) |>.put (PCC_CCREF.RPLVL n) 3 |>.put (PCC_STATUS.RPOUT n) 3 |>.put (PLP_IMEAS.MA n) 32767), by decide +kernel⟩,
   ⟨2, (let n : Fin 16 := 2; up |>.put (PEV_STATUS.STATE n) (3) |>.clear (PLP_STATUS.RAMP n)), by decide +kernel⟩,
   ⟨.spi, 2, up, by decide +kernel⟩,
   ⟨2, (let n : Fin 16 := 2; up |>.wr (PCC_CCLVL.at n) (0xFFFFFFFF)), by decide +kernel⟩⟩

theorem meets_EaveCloseAndTrips :
    (∃ (n : Fin 16) (s : State), s.get (PEV_STATUS.STATE n) = 1 ∧ s.halted n.val = false) ∧
    (∃ (n : Fin 16) (s : State), s.get (PEV_STATUS.STATE n) = 1 ∧ s.halted n.val = false) ∧
    (∃ (n : Fin 16) (s : State), s.get (PEV_STATUS.STATE n) = 2 ∧ s.halted n.val = false) ∧
    (∃ (n : Fin 16) (mv : Nat) (s : State), (if s.bit (PEV_STATUS.DIR n) then min s.ports[n].eave.fastmv 80 else s.ports[n].eave.fastmv) ≤ mv ∧ s.eaveLive n = true ∧ s.halted n.val = false) ∧
    (∃ (n : Fin 16) (mv : Nat) (s : State), (if s.bit (PEV_STATUS.DIR n) then min s.ports[n].eave.fastmv 80 else s.ports[n].eave.fastmv) ≤ mv ∧ s.eaveLive n = true ∧ s.halted n.val = true) ∧
    (∃ (n : Fin 16) (mv : Nat) (s : State), mv < (if s.bit (PEV_STATUS.DIR n) then min s.ports[n].eave.fastmv 80 else s.ports[n].eave.fastmv)) ∧
    (∃ (n : Fin 16) (s : State), s.eaveLive n = true ∧ s.halted n.val = false ∧ s.portUp n = true ∧ s.ports[n].eave.levels ≠ []) ∧
    (∃ (n : Fin 16) (tenths : Nat) (s : State), s.get (PEV_CTRL.REVMV n) < tenths ∧ s.bit (PEV_CTRL.REVEN n) = true ∧ s.get (PEV_STATUS.STATE n) = 3 ∧ s.revSuppressed n = false ∧ s.halted n.val = false) ∧
    (∃ (n : Fin 16) (s : State), s.get (PEV_STATUS.STATE n) = 3 ∧ s.halted n.val = false) :=
  ⟨⟨2, (let n : Fin 16 := 2; up |>.put (PEV_STATUS.STATE n) (1)), by decide +kernel⟩,
   ⟨2, (let n : Fin 16 := 2; up |>.put (PEV_STATUS.STATE n) (1)), by decide +kernel⟩,
   ⟨2, (let n : Fin 16 := 2; up |>.put (PEV_STATUS.STATE n) (2)), by decide +kernel⟩,
   ⟨2, 1, (let n : Fin 16 := 2; up |>.put (PEV_STATUS.STATE n) 3), by decide +kernel⟩,
   ⟨2, 1, (let n : Fin 16 := 2; up |>.put (PEV_STATUS.STATE n) 3 |>.put GLB_ISLHALT.ISL (2 ^ n.val)), by decide +kernel⟩,
   ⟨2, 1, (let n : Fin 16 := 2; up |>.put (PEV_STATUS.STATE n) 3 |>.modPort n (fun z => { z with eave := { z.eave with cur := some { fuseIdx := 0, iref := 3000, fastmv := 50, levels := List.replicate 16 3000 } } })), by decide +kernel⟩,
   ⟨2, (let n : Fin 16 := 2; up |>.put (PEV_STATUS.STATE n) 3 |>.modPort n (fun z => { z with eave := { z.eave with cur := some { fuseIdx := 0, iref := 3000, fastmv := 50, levels := List.replicate 16 3000 } } })), by decide +kernel⟩,
   ⟨2, 600, (let n : Fin 16 := 2; up |>.raise (PEV_CTRL.REVEN n) |>.put (PEV_STATUS.STATE n) 3), by decide +kernel⟩,
   ⟨2, (let n : Fin 16 := 2; up |>.put (PEV_STATUS.STATE n) (3)), by decide +kernel⟩⟩

theorem meets_GutterPaths :
    (∃ (n : Fin 16) (s : State), s.get (PGT_STATUS.CAUSE n) = 1 ∧ s.halted n.val = false ∧ s.cc n ≠ ccErrorRecovery) ∧
    (∃ (n : Fin 16) (s : State), s.get (PGT_STATUS.CAUSE n) = 1 ∧ s.bit (PGT_STATUS.SAFE0 n) = false ∧ s.halted n.val = false) ∧
    (∃ (n : Fin 16) (s : State), s.portUp n = true ∧ s.isSource n = true ∧ s.halted n.val = false) ∧
    (∃ (n : Fin 16) (s : State), s.bit (PGT_STATUS.FAULT n) = true ∧ s.halted n.val = false ∧ s.ports[n].errElapsed = false) ∧
    (∃ (n : Fin 16) (excess : Nat) (s : State), s.noneStaged ∧ s.halted n.val = false ∧ s.get (PGT_STATUS.CAUSE n) ≠ 1 ∧ s.mayAssist n = true ∧ s.get (PGT_CFG.GHYS n) * 10 < excess) ∧
    (∃ (n : Fin 16) (excess : Nat) (s : State), s.noneStaged ∧ s.halted n.val = false ∧ s.get (PGT_STATUS.CAUSE n) = 2 ∧ 2 * excess < s.get (PGT_CFG.GHYS n) * 10) ∧
    (∃ (s : State), s.noneStaged) :=
  ⟨⟨2, (let n : Fin 16 := 2; up |>.put (PGT_STATUS.CAUSE n) (1)), by decide +kernel⟩,
   ⟨2, (let n : Fin 16 := 2; up |>.put (PGT_STATUS.CAUSE n) (1) |>.clear (PGT_STATUS.SAFE0 n)), by decide +kernel⟩,
   ⟨2, up, by decide +kernel⟩,
   ⟨2, (let n : Fin 16 := 2; up |>.raise (PGT_STATUS.FAULT n) |>.modPort n (fun z => { z with errElapsed := false })), by decide +kernel⟩,
   ⟨2, 5001, (let n : Fin 16 := 2; up |>.raise (PGT_CFG.ASSIST n) |>.put (PEV_STATUS.STATE n) 3 |>.modPort n (fun z => { z with loop := { z.loop with hrRamp := true } }) |> fun (z : State) => { z with soffit := { z.soffit with vhvOk := true } }), by decide +kernel⟩,
   ⟨2, 1, (let n : Fin 16 := 2; up |>.put (PGT_STATUS.CAUSE n) (2)), by decide +kernel⟩,
   ⟨up, by decide +kernel⟩⟩

theorem meets_ValleyChannels :
    (∃ (n : Fin 16) (s : State), s.portUp n = true ∧ s.halted n.val = false ∧ s.noneStaged ∧ (∀ ch : Fin 3, (s.get (PVL_STAT.OUT n)).testBit ch.val = true → s.chanEnabled n ch.val = true)) ∧
    (∃ (n : Fin 16) (s : State), s.portUp n = true ∧ s.halted n.val = false ∧ s.noneStaged ∧ (s.get (PVL_STAT.OUT n)) = 2 ∧ s.chanEnabled n 1 = false ∧ s.held n 1 = false) ∧
    (∃ (n : Fin 16) (mv : Nat) (ns : Nat) (s : State), s.portUp n = true ∧ s.held n 0 = false ∧ filterNs (s.get (PVL_FILT.OV n)) ≤ ns ∧ s.chanEnabled n 0 = true ∧ s.get (PVL_THR.OV n) * 60 < mv ∧ s.eaveLive n = true ∧ s.halted n.val = false ∧ s.cc n ≠ ccErrorRecovery) ∧
    (∃ (n : Fin 16) (mv : Nat) (ns : Nat) (s : State), s.portUp n = true ∧ s.held n 0 = false ∧ filterNs (s.get (PVL_FILT.OV n)) ≤ ns ∧ mv ≤ s.get (PVL_THR.OV n) * 60 ∧ ((s.get (PVL_STAT.OUT n)).testBit 0 = false ∨ mv * 100 < s.get (PVL_THR.OV n) * 60 * 99)) ∧
    (∃ (n : Fin 16) (ns : Nat) (s : State), (s.portUp n = false ∨ s.held n 0 = true ∨ ns < filterNs (s.get (PVL_FILT.OV n)))) ∧
    (∃ (n : Fin 16) (mv : Nat) (ns : Nat) (s : State), s.portUp n = true ∧ s.held n 1 = false ∧ filterNs (s.get (PVL_FILT.UV n)) ≤ ns ∧ s.chanEnabled n 1 = true ∧ mv < s.get (PVL_THR.UV n) * 60 ∧ s.bit (PLP_STATUS.CONFIRM n) = false) ∧
    (∃ (n : Fin 16) (mv : Nat) (ns : Nat) (s : State), s.portUp n = true ∧ s.held n 1 = false ∧ filterNs (s.get (PVL_FILT.UV n)) ≤ ns ∧ s.get (PVL_THR.UV n) * 60 ≤ mv ∧ ((s.get (PVL_STAT.OUT n)).testBit 1 = false ∨ s.get (PVL_THR.UV n) * 60 * 101 < mv * 100)) ∧
    (∃ (n : Fin 16) (ns : Nat) (s : State), (s.portUp n = false ∨ s.held n 1 = true ∨ ns < filterNs (s.get (PVL_FILT.UV n)))) ∧
    (∃ (n : Fin 16) (q : Nat) (ns : Nat) (s : State), s.portUp n = true ∧ s.held n 2 = false ∧ filterNs (s.get (PVL_FILT.FI n)) ≤ ns ∧ s.chanEnabled n 2 = true ∧ s.ports[n].val.fi < q * 128 ∧ s.get (BAT_TALLY0.THRESH (portTally n tallyRAFTRIP)) = 0) ∧
    (∃ (n : Fin 16) (q : Nat) (ns : Nat) (s : State), s.portUp n = true ∧ s.held n 2 = false ∧ filterNs (s.get (PVL_FILT.FI n)) ≤ ns ∧ q * 128 ≤ s.ports[n].val.fi ∧ ((s.get (PVL_STAT.OUT n)).testBit 2 = false ∨ q * 128 + 512 < s.ports[n].val.fi)) ∧
    (∃ (n : Fin 16) (ns : Nat) (s : State), (s.portUp n = false ∨ s.held n 2 = true ∨ ns < filterNs (s.get (PVL_FILT.FI n)))) ∧
    (∃ (n : Fin 16) (sw : Fin 2) (rising : Bool) (mv : Nat) (vin : Nat) (isp : Nat) (r : Nat) (s : State), s.portUp n = true ∧ s.held n (3 + sw.val) = false ∧ s.swRef n sw vin isp = some r ∧ (s.get (PVL_STAT.OUT n)).testBit (3 + sw.val) = !rising ∧ (if rising then s.get (PVL_SWCFG.SWHI n) * r < mv * 64 else mv * 64 < s.get (PVL_SWCFG.SWLO n) * r)) ∧
    (∃ (n : Fin 16) (sw : Fin 2) (mv : Nat) (vin : Nat) (isp : Nat) (r : Nat) (s : State), s.swRef n sw vin isp = some r ∧ (s.portUp n = false ∨ s.held n (3 + sw.val) = true ∨ (mv * 64 ≤ s.get (PVL_SWCFG.SWHI n) * r ∧ s.get (PVL_SWCFG.SWLO n) * r ≤ mv * 64))) ∧
    (∃ (n : Fin 16) (s : State), s.portUp n = true ∧ s.held n 4 = false ∧ s.get (PVL_SWCFG.SWBREF n) = 0 ∧ s.ports[n].topo = 0) ∧
    (∃ (k : Fin 8) (ns : Nat) (s : State), s.bat.gpcTest.head? ≠ some k.val ∧ filterNs (s.get (GPC_CFG.FILT k.val)) ≤ ns ∧ s.get (GPC_CFG.EAVEMASK k.val) = 0 ∧ s.bit (GPC_CFG.INWARN k.val) = false) ∧
    (∃ (k : Fin 8) (ns : Nat) (s : State), (s.bat.gpcTest.head? = some k.val ∨ ns < filterNs (s.get (GPC_CFG.FILT k.val)))) ∧
    (∃ (k : Fin 8) (n : Fin 16) (code : BitVec 12) (ns : Nat) (s : State), s.bat.gpcTest.head? ≠ some k.val ∧ filterNs (s.get (GPC_CFG.FILT k.val)) ≤ ns ∧ s.get (GPC_CFG.MODE k.val) = 2 ∧ s.get (GPC_THR.THR k.val) < code.toNat ∧ s.get (GPC_CFG.EAVEMASK k.val) = 2 ^ n.val ∧ s.eaveLive n = true ∧ s.halted n.val = false ∧ s.bit (GPC_CFG.INWARN k.val) = false) ∧
    (∃ (k : Fin 8) (s : State), s.get (GPC_CFG.MODE k.val) = 3 ∧ s.bat.gpcTest.head? ≠ some k.val) ∧
    (∃ (n : Fin 16) (s : State), s.bit (PVL_STCFG.STEN n) = true ∧ s.checkIdle n = true ∧ s.ports[n].val.testing = none) ∧
    (∃ (n : Fin 16) (ch : Nat) (s : State), s.ports[n].val.testing = some ch ∧ ch < 4) ∧
    (∃ (n : Fin 16) (s : State), s.ports[n].val.testing = some 4 ∧ s.ports[n].val.first = false) ∧
    (∃ (n : Fin 16) (s : State), s.ports[n].val.testing = some 4 ∧ s.ports[n].val.first = true ∧ s.cc n = ccUnattachedSrc ∧ s.isService n = false) ∧
    (∃ (n : Fin 16) (ch : Nat) (s : State), s.ports[n].val.testing = some ch ∧ ch < 4 ∧ (3 ≤ ch ∨ s.ports[n].val.failRow.getD ch 0 = 0)) ∧
    (∃ (n : Fin 16) (ch : Nat) (s : State), s.ports[n].val.testing = some ch ∧ ch < 3 ∧ s.ports[n].val.failRow.getD ch 0 = 1 ∧ s.ports[n].val.failRow.length = 5 ∧ s.cc n ≠ ccUnattachedSrc ∧ s.cc n ≠ ccUnattachedSnk) ∧
    (∃ (k : Fin 8) (s : State), (s.get GPC_STAT.OUT).testBit k.val = false ∧ s.guards k.val = false) ∧
    (∃ (k : Fin 8) (rest : List Nat) (s : State), s.bat.gpcTest = k.val :: rest) :=
  ⟨⟨2, up, by decide +kernel⟩,
   ⟨2, (let n : Fin 16 := 2; up |>.put (PVL_STAT.OUT n) 2), by decide +kernel⟩,
   ⟨2, 100000, 100000, (let n : Fin 16 := 2; up |>.put (PEV_STATUS.STATE n) 3), by decide +kernel⟩,
   ⟨2, 0, 100000, up, by decide +kernel⟩,
   ⟨2, 1, up, by decide +kernel⟩,
   ⟨2, 0, 100000, (let n : Fin 16 := 2; up |>.put (PEV_STATUS.STATE n) 3 |>.raise (PVL_UVCFG.UVEN n)  |>.put (PVL_THR.UV n) 50), by decide +kernel⟩,
   ⟨2, 100000, 100000, up, by decide +kernel⟩,
   ⟨2, 1, up, by decide +kernel⟩,
   ⟨2, 50, 100000, (let n : Fin 16 := 2; up |>.modPort n (fun z => { z with val := { z.val with fi := 5000 } }) |>.put (BAT_TALLY0.THRESH (portTally n tallyRAFTRIP)) 0), by decide +kernel⟩,
   ⟨2, 0, 100000, up, by decide +kernel⟩,
   ⟨2, 0, up |>.maskBit GLB_ISLPWR.ISL 2 false, by decide +kernel⟩,
   ⟨2, 0, true, 1, 1, 1, 1, up, by decide +kernel⟩,
   ⟨2, 0, 0, 20000, 5000, 20000, (let n : Fin 16 := 2; up |>.modPort n (fun z => { z with val := { z.val with testing := some 3 } })), by decide +kernel⟩,
   ⟨2, up, by decide +kernel⟩,
   ⟨1, 1, up, by decide +kernel⟩,
   ⟨1, 0, up |>.modBat (fun z => { z with gpcTest := [1] }), by decide +kernel⟩,
   ⟨1, 2, 4000, 1000000, (let k : Fin 8 := 1; let n : Fin 16 := 2; up |>.put (GPC_CFG.MODE k.val) 2 |>.put (GPC_THR.THR k.val) 100 |>.put (GPC_CFG.EAVEMASK k.val) (2 ^ n.val) |>.put (PEV_STATUS.STATE n) 3), by decide +kernel⟩,
   ⟨1, (let k : Fin 8 := 1; up |>.put (GPC_CFG.MODE k.val) 3), by decide +kernel⟩,
   ⟨2, up, by decide +kernel⟩,
   ⟨2, 1, (let n : Fin 16 := 2; let ch : Nat := 1; up |>.modPort n (fun z => { z with val := { z.val with testing := some ch } })), by decide +kernel⟩,
   ⟨2, (let n : Fin 16 := 2; up |>.modPort n (fun z => { z with val := { z.val with testing := some 4 } })), by decide +kernel⟩,
   ⟨2, (let n : Fin 16 := 2; up |>.modPort n (fun z => { z with val := { z.val with testing := some 4, first := true } }) |>.put (PCC_STATUS.STATE n) ccUnattachedSrc), by decide +kernel⟩,
   ⟨2, 1, (let n : Fin 16 := 2; let ch : Nat := 1; up |>.modPort n (fun z => { z with val := { z.val with testing := some ch } })), by decide +kernel⟩,
   ⟨2, 0, (let n : Fin 16 := 2; let ch : Nat := 0; up |>.modPort n (fun z => { z with val := { z.val with testing := some ch, failRow := [1, 0, 0, 0, 0] } })), by decide +kernel⟩,
   ⟨1, up, by decide +kernel⟩,
   ⟨1, [], (let k : Fin 8 := 1; let rest : List Nat := []; up |>.modBat (fun z => { z with gpcTest := k.val :: rest })), by decide +kernel⟩⟩

theorem meets_BattenRouter :
    (∃ (x : Edge) (rest : List Edge) (b : Nat) (s : State), s.islandUp islBatten = true ∧ s.halted islBatten = false ∧ takeEdge s.bat.edges = some (x, rest) ∧ s.routes x.src = [rt x.src b] ∧ x.kind = 0 ∧ b < 32) ∧
    (∃ (x : Edge) (rest : List Edge) (s : State), s.islandUp islBatten = true ∧ s.halted islBatten = false ∧ takeEdge s.bat.edges = some (x, rest) ∧ s.routes x.src = [qt x.src] ∧ x.kind = 0 ∧ s.bat.queue.length < 383 ∧ s.bat.lossRun = 0 ∧ 0x117 ∉ s.bat.levels) ∧
    (∃ (s : State), s.islandUp islBatten = true) ∧
    (∃ (hp : HostPort) (mask : Word) (s : State), s.takes hp BAT_IRQSTAT.at mask ∧ s.bat.irqLevel = []) ∧
    (∃ (hp : HostPort) (key : Byte) (tid : Byte) (s : State), s.takes hp BAT_CMD.at (batWord key (256 + tid.toNat)) ∧ tid.toNat < 144) ∧
    (∃ (hp : HostPort) (key : Byte) (s : State), s.takes hp BAT_CMD.at (batWord key 512)) ∧
    (∃ (hp : HostPort) (key : Byte) (s : State), s.takes hp BAT_CMD.at (batWord key 1024)) ∧
    (∃ (hp : HostPort) (key : Byte) (s : State), s.takes hp BAT_CMD.at (batWord key 2048)) ∧
    (∃ (hp : HostPort) (key : Byte) (s : State), s.takes hp BAT_CMD.at (batWord key 4096) ∧ (s.bat.cutLevels ≠ [] ∨ s.bat.cutInForce = false) ∧ (s.bat.cutLevels = [] ∨ s.bat.cutInForce = true)) ∧
    (∃ (hp : HostPort) (key : Byte) (mask : Byte) (k : Fin 8) (s : State), s.takes hp BAT_CMD.at (batWord key (mask.toNat * 65536)) ∧ mask.toNat = 2 ^ k.val) ∧
    (∃ (hp : HostPort) (watts : BitVec 16) (s : State), s.takes hp BAT_TRSCUT.at (BitVec.ofNat 32 watts.toNat) ∧ s.bat.cutInForce = false) :=
  ⟨⟨{ island := 16, src := 0x105, kind := 0, data := 7, sec := 4, usec := 9 }, [], 31, (let x : Edge := { island := 16, src := 0x105, kind := 0, data := 7, sec := 4, usec := 9 }; up |>.modBat (fun z => { z with edges := [x], wire := [rt x.src 31] })), by decide +kernel⟩,
   ⟨{ island := 16, src := 0x105, kind := 0, data := 7, sec := 4, usec := 9 }, [], (let x : Edge := { island := 16, src := 0x105, kind := 0, data := 7, sec := 4, usec := 9 }; up |>.modBat (fun z => { z with lossRun := 0 }) |>.modBat (fun z => { z with edges := [x], wire := [qt x.src] })), by decide +kernel⟩,
   ⟨up, by decide +kernel⟩,
   ⟨.spi, 5, up |>.modBat (fun z => { z with irqLevel := [] }), by decide +kernel⟩,
   ⟨.spi, 0xB7, 5, up, by decide +kernel⟩,
   ⟨.spi, 0xB7, up, by decide +kernel⟩,
   ⟨.spi, 0xB7, up, by decide +kernel⟩,
   ⟨.spi, 0xB7, up, by decide +kernel⟩,
   ⟨.spi, 0xB7, up |>.modBat (fun z => { z with cutLevels := [] }), by decide +kernel⟩,
   ⟨.spi, 0xB7, 4, 2, up, by decide +kernel⟩,
   ⟨.spi, 5, up |>.modBat (fun z => { z with cutInForce := false }), by decide +kernel⟩⟩

theorem meets_LinksAndElections :
    (∃ (p : Fin 2) (s : State), s.chainOn = true ∧ s.linkIsUp p = false ∧ s.jtl.led = true) ∧
    (∃ (p : Fin 2) (s : State), s.chainOn = true ∧ s.linkIsUp p = false ∧ s.jtl.led = false ∧ s.jtl.sweep = none) ∧
    (∃ (p : Fin 2) (k : Nat) (s : State), s.chainOn = true ∧ s.linkIsUp p = true ∧ s.jtl.led = true ∧ s.leading = false ∧ s.get JTL_STAT.LOCKPORT = p.val ∧ s.jtl.hopsSeen[(1 - p).val]? = some (some k) ∧ s.jtl.sweep = none ∧ s.upd.relay = none) ∧
    (∃ (p : Fin 2) (s : State), s.chainOn = true ∧ s.linkIsUp p = true ∧ s.jtl.led = true ∧ s.leading = false ∧ s.get JTL_STAT.LOCKPORT = p.val ∧ s.jtl.hopsSeen[(1 - p).val]? = some none ∧ s.jtl.frz = none) ∧
    (∃ (h : JtlHead) (weight : Byte) (est : Bool) (hops : Byte) (serial : BitVec 96) (b : Claim) (s : State), s.gets h ∧ h.dest = 0xFD ∧ s.jtl.led = false ∧ s.jtl.best = some b ∧ Claim.better { serial := serial, weight := weight.toNat, est := est, hops := hops.toNat } b = true) ∧
    (∃ (h : JtlHead) (weight : Byte) (est : Bool) (hops : Byte) (serial : BitVec 96) (b : Claim) (s : State), s.gets h ∧ h.dest = 0xFD ∧ s.jtl.led = true ∧ s.jtl.best = some b ∧ Claim.better { serial := serial, weight := weight.toNat, est := est, hops := hops.toNat } b = false) ∧
    (∃ (s : State), s.chainOn = true ∧ s.bit JTL_STAT.ELECTING = true ∧ s.jtl.quiet = 0) ∧
    (∃ (b : Claim) (s : State), s.chainOn = true ∧ s.bit JTL_STAT.ELECTING = true ∧ 1 ≤ s.jtl.quiet ∧ s.jtl.best = some b ∧ b.serial = s.serial) ∧
    (∃ (b : Claim) (s : State), s.chainOn = true ∧ s.bit JTL_STAT.ELECTING = true ∧ 1 ≤ s.jtl.quiet ∧ s.jtl.best = some b ∧ b.serial ≠ s.serial) ∧
    (∃ (s : State), s.chainOn = true ∧ s.leading = false ∧ s.jtl.sweep = none) ∧
    (∃ (hp : HostPort) (key : Byte) (s : State), s.takes hp JTL_CMD.at (BitVec.ofNat 32 (key.toNat * 2 ^ 24 + 4)) ∧ s.islandUp islJotil = true) ∧
    (∃ (hp : HostPort) (key : Byte) (s : State), s.takes hp JTL_CMD.at (BitVec.ofNat 32 (key.toNat * 2 ^ 24 + 2)) ∧ s.islandUp islJotil = true ∧ s.chainOn = true ∧ s.leading = true ∧ s.jtl.sweep = none) ∧
    (∃ (hp : HostPort) (key : Byte) (s : State), s.takes hp JTL_CMD.at (BitVec.ofNat 32 (key.toNat * 2 ^ 24 + 1)) ∧ s.islandUp islJotil = true ∧ s.chainOn = true ∧ s.leading = true ∧ s.jtl.sweep = none) ∧
    (∃ (hp : HostPort) (key : Byte) (s : State), s.takes hp JTL_CMD.at (BitVec.ofNat 32 (key.toNat * 2 ^ 24 + 1)) ∧ s.leading = false) :=
  ⟨⟨0, up |>.raise JTL_CFG.EN |>.modJtl (fun z => { z with led := true }), by decide +kernel⟩,
   ⟨0, up |>.raise JTL_CFG.EN |>.modJtl (fun z => { z with led := false }) |>.modJtl (fun z => { z with sweep := none }), by decide +kernel⟩,
   ⟨0, 3, (let p : Fin 2 := 0; up |>.raise JTL_CFG.EN |>.raise (JTL_LINK.UP p.val) |>.modJtl (fun z => { z with led := true }) |>.put JTL_STAT.LOCKPORT (p.val) |>.modJtl (fun z => { z with sweep := none }) |>.modUpd (fun z => { z with relay := none }) |>.modJtl (fun z => { z with hopsSeen := [none, some 3] })), by decide +kernel⟩,
   ⟨0, (let p : Fin 2 := 0; up |>.raise JTL_CFG.EN |>.raise (JTL_LINK.UP p.val) |>.modJtl (fun z => { z with led := true }) |>.put JTL_STAT.LOCKPORT (p.val) |>.modJtl (fun z => { z with frz := none })), by decide +kernel⟩,
   ⟨{ p := 0, dest := 0xFD, src := 2, seq := 7 }, 1, true, 5, 5, { serial := 77, weight := 5, est := false, hops := 0 }, (let b : Claim := { serial := 77, weight := 5, est := false, hops := 0 }; up |>.raise JTL_CFG.EN |>.raise (JTL_LINK.UP 0) |>.raise (JTL_LINK.UP 1) |>.raise JTL_STAT.UPUP |>.raise JTL_STAT.DNUP |>.modJtl (fun z => { z with led := false }) |>.modJtl (fun z => { z with best := some b })), by decide +kernel⟩,
   ⟨{ p := 0, dest := 0xFD, src := 2, seq := 7 }, 5, false, 5, 5, { serial := 77, weight := 5, est := true, hops := 0 }, (let b : Claim := { serial := 77, weight := 5, est := true, hops := 0 }; up |>.raise JTL_CFG.EN |>.raise (JTL_LINK.UP 0) |>.raise (JTL_LINK.UP 1) |>.raise JTL_STAT.UPUP |>.raise JTL_STAT.DNUP |>.modJtl (fun z => { z with led := true }) |>.modJtl (fun z => { z with best := some b })), by decide +kernel⟩,
   ⟨up |>.raise JTL_CFG.EN |>.raise JTL_STAT.ELECTING |>.modJtl (fun z => { z with quiet := 0 }), by decide +kernel⟩,
   ⟨{ serial := 0, weight := 5, est := true, hops := 0 }, (let b : Claim := { serial := 0, weight := 5, est := true, hops := 0 }; up |>.raise JTL_CFG.EN |>.raise JTL_STAT.ELECTING |>.modJtl (fun z => { z with best := some b }) |>.modJtl (fun z => { z with quiet := 1 })), by decide +kernel⟩,
   ⟨{ serial := 77, weight := 5, est := true, hops := 0 }, (let b : Claim := { serial := 77, weight := 5, est := true, hops := 0 }; up |>.raise JTL_CFG.EN |>.raise JTL_STAT.ELECTING |>.modJtl (fun z => { z with best := some b }) |>.modJtl (fun z => { z with quiet := 1 })), by decide +kernel⟩,
   ⟨up |>.raise JTL_CFG.EN |>.modJtl (fun z => { z with sweep := none }), by decide +kernel⟩,
   ⟨.spi, 0x6C, up, by decide +kernel⟩,
   ⟨.spi, 0x6C, up |>.raise JTL_CFG.EN |>.raise JTL_STAT.LEADER |>.modJtl (fun z => { z with sweep := none }), by decide +kernel⟩,
   ⟨.spi, 0x6C, up |>.raise JTL_CFG.EN |>.raise JTL_STAT.LEADER |>.modJtl (fun z => { z with sweep := none }), by decide +kernel⟩,
   ⟨.spi, 0x6C, up, by decide +kernel⟩⟩

theorem meets_ChainIndex :
    (∃ (s : State), s.chainOn = true ∧ s.leading = true ∧ s.jtl.bracing = false ∧ s.jtl.sweep = none ∧ s.jtl.sweepPend = false ∧ s.jtl.frz = none ∧ s.jtl.members = [] ∧ s.jtl.joining = []) ∧
    (∃ (s : State), s.chainOn = false ∧ s.jtl.frz = none) ∧
    (∃ (h : JtlHead) (x : IndexInfo) (b : Claim) (s : State), s.gets h ∧ h.dest = 0xFF ∧ s.leading = false ∧ s.jtl.led = true ∧ s.bit JTL_STAT.ELECTING = false ∧ s.jtl.best = some b ∧ b.serial = x.serial ∧ s.leaderSerial = x.serial ∧ x.serial ≠ s.serial ∧ x.weight ≠ 0 ∧ s.jtl.bracing = false ∧ s.jtl.fresh = false ∧ s.jtl.frz = none ∧ x.frzrem = 0 ∧ s.jtl.abortMeas = none ∧ s.jtl.sweep = none ∧ s.jtl.shareNext = none ∧ s.jtl.phaseNext = none ∧ x.count = 1024) ∧
    (∃ (h : JtlHead) (x : IndexInfo) (s : State), s.gets h ∧ h.dest = 0xFF ∧ s.leading = false ∧ x.weight = 0 ∧ x.serial = BitVec.allOnes 96 ∧ s.jtl.sweep = none) ∧
    (∃ (s : State), s.chainOn = true ∧ s.leading = false ∧ s.jtl.led = true ∧ s.jtl.fresh = false ∧ s.jtl.frz = none ∧ s.upd.relay = none) ∧
    (∃ (h : JtlHead) (s : State), s.gets h ∧ h.dest = 0xFD) ∧
    (∃ (h : JtlHead) (s : State), s.gets h ∧ h.dest = 0xFD) ∧
    (∃ (p : Fin 2) (s : State), s.chainOn = true ∧ s.linkIsUp p = true) :=
  ⟨⟨up |>.raise JTL_CFG.EN |>.raise JTL_STAT.LEADER |>.modJtl (fun z => { z with bracing := false }) |>.modJtl (fun z => { z with sweep := none }) |>.modJtl (fun z => { z with sweepPend := false }) |>.modJtl (fun z => { z with frz := none }) |>.modJtl (fun z => { z with members := [] }) |>.modJtl (fun z => { z with joining := [] }), by decide +kernel⟩,
   ⟨up |>.modJtl (fun z => { z with frz := none }), by decide +kernel⟩,
   ⟨{ p := 0, dest := 0xFF, src := 2, seq := 7 }, { idxnum := 640, budget := 300, flags := 0, frzrem := 0, members := 2, weight := 5, hops := 1, serial := 77, count := 1024 }, { serial := 77, weight := 5, est := true, hops := 0 }, (let b : Claim := { serial := 77, weight := 5, est := true, hops := 0 }; up |>.raise JTL_CFG.EN |>.raise (JTL_LINK.UP 0) |>.raise (JTL_LINK.UP 1) |>.raise JTL_STAT.UPUP |>.raise JTL_STAT.DNUP |>.modJtl (fun z => { z with led := true, best := some b, bracing := false, fresh := false, frz := none, sweep := none, shareNext := none, phaseNext := none, abortMeas := none }) |>.clear JTL_STAT.ELECTING |>.wr (JTL_LEADER.at 0) 77), by decide +kernel⟩,
   ⟨{ p := 0, dest := 0xFF, src := 2, seq := 7 }, { idxnum := 640, budget := 300, flags := 0, frzrem := 0, members := 2, weight := 0, hops := 1, serial := BitVec.allOnes 96, count := 1024 }, up |>.raise JTL_CFG.EN |>.raise (JTL_LINK.UP 0) |>.raise (JTL_LINK.UP 1) |>.raise JTL_STAT.UPUP |>.raise JTL_STAT.DNUP |>.modJtl (fun z => { z with sweep := none }), by decide +kernel⟩,
   ⟨up |>.raise JTL_CFG.EN |>.modJtl (fun z => { z with led := true }) |>.modJtl (fun z => { z with fresh := false }) |>.modJtl (fun z => { z with frz := none }) |>.modUpd (fun z => { z with relay := none }), by decide +kernel⟩,
   ⟨{ p := 0, dest := 0xFD, src := 2, seq := 7 }, up |>.raise JTL_CFG.EN |>.raise (JTL_LINK.UP 0) |>.raise (JTL_LINK.UP 1) |>.raise JTL_STAT.UPUP |>.raise JTL_STAT.DNUP, by decide +kernel⟩,
   ⟨{ p := 0, dest := 0xFD, src := 2, seq := 7 }, up |>.raise JTL_CFG.EN |>.raise (JTL_LINK.UP 0) |>.raise (JTL_LINK.UP 1) |>.raise JTL_STAT.UPUP |>.raise JTL_STAT.DNUP, by decide +kernel⟩,
   ⟨0, (let p : Fin 2 := 0; up |>.raise JTL_CFG.EN |>.raise (JTL_LINK.UP p.val)), by decide +kernel⟩⟩

theorem meets_ChainMembersAndShares :
    (∃ (h : JtlHead) (serial : BitVec 96) (s : State), s.gets h ∧ s.forMe h.dest.toNat = true ∧ s.jtl.lost = [] ∧ s.jtl.members.all (fun x => x.2.serial != serial) = true) ∧
    (∃ (h : JtlHead) (serial : BitVec 96) (k : Fin 16) (m : Member) (s : State), s.gets h ∧ s.forMe h.dest.toNat = true ∧ s.jtl.lost = [] ∧ s.jtl.members = [(k.val, m)] ∧ m.serial = serial) ∧
    (∃ (h : JtlHead) (serial : BitVec 96) (s : State), s.gets h ∧ s.forMe h.dest.toNat = true ∧ s.leading = false ∧ serial = s.serial) ∧
    (∃ (h : JtlHead) (serial : BitVec 96) (s : State), s.gets h ∧ s.forMe h.dest.toNat = true ∧ s.leading = false ∧ s.jtl.lost = [] ∧ serial ≠ s.serial) ∧
    (∃ (h : JtlHead) (s : State), s.gets h ∧ s.forMe h.dest.toNat = true) ∧
    (∃ (h : JtlHead) (s : State), s.gets h ∧ s.forMe h.dest.toNat = true ∧ s.jtl.members.any (fun m => m.1 == h.src.toNat) = true ∧ h.src.toNat < 16) ∧
    (∃ (h : JtlHead) (ws : List (BitVec 16)) (k : Nat) (w : BitVec 16) (s : State), s.gets h ∧ s.forMe h.dest.toNat = true ∧ s.leading = false ∧ s.jtlFull = false ∧ s.myNode = some k ∧ ws[k]? = some w) ∧
    (∃ (h : JtlHead) (s : State), s.gets h ∧ s.forMe h.dest.toNat = true ∧ s.leading = false ∧ s.jtlFull = true) ∧
    (∃ (h : JtlHead) (s : State), s.gets h ∧ s.forMe h.dest.toNat = true ∧ s.jtlFull = false ∧ s.peer = true) ∧
    (∃ (h : JtlHead) (s : State), s.gets h ∧ s.forMe h.dest.toNat = true ∧ s.jtlFull = false ∧ s.peer = false) ∧
    (∃ (h : JtlHead) (s : State), s.gets h ∧ s.forMe h.dest.toNat = true) ∧
    (∃ (hp : HostPort) (watts : BitVec 16) (s : State), s.takes hp JTL_CHAINBUDGET.at (BitVec.ofNat 32 watts.toNat) ∧ s.chainOn = true) :=
  ⟨⟨{ p := 0, dest := 0xFF, src := 2, seq := 7 }, 5, up |>.raise JTL_CFG.EN |>.raise (JTL_LINK.UP 0) |>.raise (JTL_LINK.UP 1) |>.raise JTL_STAT.UPUP |>.raise JTL_STAT.DNUP |>.modJtl (fun z => { z with lost := [] }), by decide +kernel⟩,
   ⟨{ p := 0, dest := 0xFF, src := 2, seq := 7 }, 5, 2, { serial := 5, mask := 3, ilv := 0, floor := 5 }, (let k : Fin 16 := 2; let m : Member := { serial := 5, mask := 3, ilv := 0, floor := 5 }; up |>.raise JTL_CFG.EN |>.raise (JTL_LINK.UP 0) |>.raise (JTL_LINK.UP 1) |>.raise JTL_STAT.UPUP |>.raise JTL_STAT.DNUP |>.modJtl (fun z => { z with lost := [] }) |>.modJtl (fun z => { z with members := [(k.val, m)] })), by decide +kernel⟩,
   ⟨{ p := 0, dest := 0xFF, src := 2, seq := 7 }, 0, up |>.raise JTL_CFG.EN |>.raise (JTL_LINK.UP 0) |>.raise (JTL_LINK.UP 1) |>.raise JTL_STAT.UPUP |>.raise JTL_STAT.DNUP, by decide +kernel⟩,
   ⟨{ p := 0, dest := 0xFF, src := 2, seq := 7 }, 5, up |>.raise JTL_CFG.EN |>.raise (JTL_LINK.UP 0) |>.raise (JTL_LINK.UP 1) |>.raise JTL_STAT.UPUP |>.raise JTL_STAT.DNUP |>.modJtl (fun z => { z with lost := [] }), by decide +kernel⟩,
   ⟨{ p := 0, dest := 0xFF, src := 2, seq := 7 }, up |>.raise JTL_CFG.EN |>.raise (JTL_LINK.UP 0) |>.raise (JTL_LINK.UP 1) |>.raise JTL_STAT.UPUP |>.raise JTL_STAT.DNUP, by decide +kernel⟩,
   ⟨{ p := 0, dest := 0xFF, src := 2, seq := 7 }, up |>.raise JTL_CFG.EN |>.raise (JTL_LINK.UP 0) |>.raise (JTL_LINK.UP 1) |>.raise JTL_STAT.UPUP |>.raise JTL_STAT.DNUP |>.modJtl (fun z => { z with members := [(2, { serial := 5, mask := 3, ilv := 0, floor := 5 })] }), by decide +kernel⟩,
   ⟨{ p := 0, dest := 0xFF, src := 2, seq := 7 }, List.replicate 16 60, 15, 60, up |>.raise JTL_CFG.EN |>.raise (JTL_LINK.UP 0) |>.raise (JTL_LINK.UP 1) |>.raise JTL_STAT.UPUP |>.raise JTL_STAT.DNUP |>.wr (JTL_NODE.at 15 3) 0x30000, by decide +kernel⟩,
   ⟨{ p := 0, dest := 0xFF, src := 2, seq := 7 }, up |>.raise JTL_CFG.EN |>.raise (JTL_LINK.UP 0) |>.raise (JTL_LINK.UP 1) |>.raise JTL_STAT.UPUP |>.raise JTL_STAT.DNUP |>.modRidge (fun z => { z with waiting := List.replicate 16 (Op.mk0 0 0 srcJotil 0 0) }), by decide +kernel⟩,
   ⟨{ p := 0, dest := 0xFF, src := 2, seq := 7 }, up |>.raise JTL_CFG.EN |>.raise (JTL_LINK.UP 0) |>.raise (JTL_LINK.UP 1) |>.raise JTL_STAT.UPUP |>.raise JTL_STAT.DNUP |>.put HST_AUTH.JOTIL 8, by decide +kernel⟩,
   ⟨{ p := 0, dest := 0xFF, src := 2, seq := 7 }, up |>.raise JTL_CFG.EN |>.raise (JTL_LINK.UP 0) |>.raise (JTL_LINK.UP 1) |>.raise JTL_STAT.UPUP |>.raise JTL_STAT.DNUP |>.put HST_AUTH.JOTIL 0, by decide +kernel⟩,
   ⟨{ p := 0, dest := 0xFF, src := 2, seq := 7 }, up |>.raise JTL_CFG.EN |>.raise (JTL_LINK.UP 0) |>.raise (JTL_LINK.UP 1) |>.raise JTL_STAT.UPUP |>.raise JTL_STAT.DNUP, by decide +kernel⟩,
   ⟨.spi, 5, up |>.raise JTL_CFG.EN, by decide +kernel⟩⟩

theorem meets_ChainFaultsAndSweeps :
    (∃ (h : JtlHead) (seq : Byte) (f : JtlFrame × Nat) (s : State), s.gets h ∧ s.forMe h.dest.toNat = true ∧ s.jtl.unacked.find? (fun g => g.1.seq == seq.toNat) = some f) ∧
    (∃ (seq : Byte) (f : JtlFrame) (k : Nat) (s : State), s.jtl.refused.find? (fun g => g.1.seq == seq.toNat) = some (f, k) ∧ k < 8 ∧ f.ports ≠ 0) ∧
    (∃ (seq : Byte) (f : JtlFrame) (k : Nat) (s : State), s.jtl.refused.find? (fun g => g.1.seq == seq.toNat) = some (f, k) ∧ 8 ≤ k) ∧
    (∃ (h : JtlHead) (nodes : BitVec 16) (k : Fin 16) (s : State), s.gets h ∧ s.forMe h.dest.toNat = true ∧ s.leading = true ∧ s.jtl.frz = none ∧ s.jtl.sweep = none ∧ k.val ≠ 0 ∧ nodes.toNat.testBit k.val = true ∧ nodeValid (s.rd (JTL_NODE.at k.val 3)) = true) ∧
    (∃ (p : Fin 2) (s : State), s.chainOn = true ∧ s.linkIsUp p = true) ∧
    (∃ (p : Fin 2) (s : State), s.chainOn = true ∧ s.linkIsUp p = true) ∧
    (∃ (hp : HostPort) (key : Byte) (s : State), s.takes hp JTL_CMD.at (BitVec.ofNat 32 (key.toNat * 2 ^ 24 + 32)) ∧ s.islandUp islJotil = true) ∧
    (∃ (h : JtlHead) (k : Fin 4) (s : State), s.gets h ∧ s.forMe h.dest.toNat = true ∧ s.peer = true ∧ s.myNode ≠ some h.src.toNat ∧ s.evCfg k < 128) ∧
    (∃ (h : JtlHead) (k : Fin 4) (s : State), s.gets h ∧ s.forMe h.dest.toNat = true ∧ s.peer = true ∧ s.myNode ≠ some h.src.toNat ∧ 128 ≤ s.evCfg k ∧ s.evCfg k % 128 < 32) ∧
    (∃ (h : JtlHead) (k : Fin 4) (s : State), s.gets h ∧ s.forMe h.dest.toNat = true ∧ (s.peer = false ∨ (128 ≤ s.evCfg k ∧ peerDest (s.evCfg k % 128) = false)) ∧ s.myNode ≠ some h.src.toNat) ∧
    (∃ (h : JtlHead) (s : State), s.gets h ∧ s.myNode = some h.src.toNat) ∧
    (∃ (h : JtlHead) (s : State), s.gets h ∧ s.forMe h.dest.toNat = true ∧ s.leading = false ∧ s.jtl.sweep = none) ∧
    (∃ (w : Sweep) (s : State), s.jtl.sweep = some w ∧ s.jtl.abortMeas = none ∧ s.jtl.localIdx = none ∧ w.order = [] ∧ s.get JTL_SWSTAT.STATE ≠ 3) ∧
    (∃ (s : State), s.jtl.sweep = none) ∧
    (∃ (b : Bool) (s : State), s.jtl.abortMeas = some b ∧ s.jtl.held = 0 ∧ s.jtl.sweep = none) ∧
    (∃ (h : JtlHead) (id : Byte) (w : Sweep) (first : Byte) (s : State), s.gets h ∧ s.forMe h.dest.toNat = true ∧ s.jtl.sweep = some w ∧ w.id = id.toNat ∧ s.jtl.abortMeas = none ∧ h.src.toNat < 16 ∧ first.toNat < 16) ∧
    (∃ (hp : HostPort) (key : Byte) (s : State), s.takes hp JTL_CMD.at (BitVec.ofNat 32 (key.toNat * 2 ^ 24 + 16)) ∧ s.islandUp islJotil = true ∧ s.jtl.sweep = none) ∧
    (∃ (hp : HostPort) (key : Byte) (s : State), s.takes hp JTL_CMD.at (BitVec.ofNat 32 (key.toNat * 2 ^ 24 + 8)) ∧ s.islandUp islJotil = true ∧ s.chainOn = true ∧ s.leading = true) :=
  ⟨⟨{ p := 0, dest := 0xFF, src := 2, seq := 7 }, 5, ({ ty := 6, dest := 254, src := 2, seq := 5, body := [1], ports := 1 }, 0), (let seq : Byte := 5; up |>.raise JTL_CFG.EN |>.raise (JTL_LINK.UP 0) |>.raise (JTL_LINK.UP 1) |>.raise JTL_STAT.UPUP |>.raise JTL_STAT.DNUP |>.modJtl (fun z => { z with unacked := [({ ty := 6, dest := 254, src := 2, seq := 5, body := [1], ports := 1 }, 0)] })), by decide +kernel⟩,
   ⟨5, { ty := 6, dest := 254, src := 2, seq := 5, body := [1], ports := 1 }, 7, (let seq : Byte := 5; up |>.modJtl (fun z => { z with refused := [({ ty := 6, dest := 254, src := 2, seq := 5, body := [1], ports := 1 }, 7)] })), by decide +kernel⟩,
   ⟨5, { ty := 6, dest := 254, src := 2, seq := 5, body := [1], ports := 1 }, 8, (let seq : Byte := 5; up |>.modJtl (fun z => { z with refused := [({ ty := 6, dest := 254, src := 2, seq := 5, body := [1], ports := 1 }, 8)] })), by decide +kernel⟩,
   ⟨{ p := 0, dest := 0xFF, src := 2, seq := 7 }, 0x8000, 15, up |>.raise JTL_CFG.EN |>.raise (JTL_LINK.UP 0) |>.raise (JTL_LINK.UP 1) |>.raise JTL_STAT.UPUP |>.raise JTL_STAT.DNUP |>.raise JTL_STAT.LEADER |>.modJtl (fun z => { z with frz := none }) |>.modJtl (fun z => { z with sweep := none }) |>.wr (JTL_NODE.at 15 3) 0x10000, by decide +kernel⟩,
   ⟨0, (let p : Fin 2 := 0; up |>.raise JTL_CFG.EN |>.raise (JTL_LINK.UP p.val)), by decide +kernel⟩,
   ⟨0, (let p : Fin 2 := 0; up |>.raise JTL_CFG.EN |>.raise (JTL_LINK.UP p.val)), by decide +kernel⟩,
   ⟨.spi, 0x6C, up, by decide +kernel⟩,
   ⟨{ p := 0, dest := 0xFF, src := 2, seq := 7 }, 1, up |>.raise JTL_CFG.EN |>.raise (JTL_LINK.UP 0) |>.raise (JTL_LINK.UP 1) |>.raise JTL_STAT.UPUP |>.raise JTL_STAT.DNUP |>.put HST_AUTH.JOTIL 8, by decide +kernel⟩,
   ⟨{ p := 0, dest := 0xFF, src := 2, seq := 7 }, 1, up |>.raise JTL_CFG.EN |>.raise (JTL_LINK.UP 0) |>.raise (JTL_LINK.UP 1) |>.raise JTL_STAT.UPUP |>.raise JTL_STAT.DNUP |>.put HST_AUTH.JOTIL 8 |>.wr JTL_EVCFG.at 0x80808080, by decide +kernel⟩,
   ⟨{ p := 0, dest := 0xFF, src := 2, seq := 7 }, 1, up |>.raise JTL_CFG.EN |>.raise (JTL_LINK.UP 0) |>.raise (JTL_LINK.UP 1) |>.raise JTL_STAT.UPUP |>.raise JTL_STAT.DNUP |>.put HST_AUTH.JOTIL 0, by decide +kernel⟩,
   ⟨{ p := 0, dest := 0xFF, src := 2, seq := 7 }, up |>.raise JTL_CFG.EN |>.raise (JTL_LINK.UP 0) |>.raise (JTL_LINK.UP 1) |>.raise JTL_STAT.UPUP |>.raise JTL_STAT.DNUP |>.wr (JTL_NODE.at 2 3) 0x30000, by decide +kernel⟩,
   ⟨{ p := 0, dest := 0xFF, src := 2, seq := 7 }, up |>.raise JTL_CFG.EN |>.raise (JTL_LINK.UP 0) |>.raise (JTL_LINK.UP 1) |>.raise JTL_STAT.UPUP |>.raise JTL_STAT.DNUP |>.modJtl (fun z => { z with sweep := none }), by decide +kernel⟩,
   ⟨{ budget := 0, id := 5, nph := 1, start := 0, order := [], saved := [] }, (let w : Sweep := { budget := 0, id := 5, nph := 1, start := 0, order := [], saved := [] }; up |>.modJtl (fun z => { z with sweep := some w }) |>.modJtl (fun z => { z with abortMeas := none }) |>.modJtl (fun z => { z with localIdx := none })), by decide +kernel⟩,
   ⟨up |>.modJtl (fun z => { z with sweep := none }), by decide +kernel⟩,
   ⟨true, (let b : Bool := true; up |>.modJtl (fun z => { z with abortMeas := some b }) |>.modJtl (fun z => { z with held := 0 }) |>.modJtl (fun z => { z with sweep := none })), by decide +kernel⟩,
   ⟨{ p := 0, dest := 0xFF, src := 2, seq := 7 }, 5, { budget := 0, id := 5, nph := 1, start := 0, order := [], saved := [] }, 5, (let w : Sweep := { budget := 0, id := 5, nph := 1, start := 0, order := [], saved := [] }; up |>.raise JTL_CFG.EN |>.raise (JTL_LINK.UP 0) |>.raise (JTL_LINK.UP 1) |>.raise JTL_STAT.UPUP |>.raise JTL_STAT.DNUP |>.modJtl (fun z => { z with sweep := some w }) |>.modJtl (fun z => { z with abortMeas := none })), by decide +kernel⟩,
   ⟨.spi, 0x6C, up |>.modJtl (fun z => { z with sweep := none }), by decide +kernel⟩,
   ⟨.spi, 0x6C, up |>.raise JTL_CFG.EN |>.raise JTL_STAT.LEADER, by decide +kernel⟩⟩

theorem meets_SecondsBoundary :
    (∃ (s : State), s.mtr.timeSet = none ∧ s.bit SOF_ALARMCTL.EN = false) ∧
    (∃ (s : State), s.mtr.timeSet = none ∧ s.bit SOF_ALARMCTL.EN = true ∧ s.get SOF_ALARM.SEC = (s.soffit.sec + 1) % 2 ^ 32) ∧
    (∃ (v : Nat) (port : Nat) (s : State), s.mtr.timeSet = some (v, port) ∧ s.slate.buf.length < 14 ∧ s.bit MTR_SLSTAT.EN = true) ∧
    (∃ (s : State), s.mtr.timeSet = none ∧ s.timeValid = true ∧ s.bit MTR_STAT.IVRUN = false ∧ s.noneStaged ∧ s.ivBoundary ((s.soffit.sec + 1) % 2 ^ 32) = true) ∧
    (∃ (hp : HostPort) (secs : BitVec 32) (s : State), s.takes hp SOF_TIME_SET.at secs) ∧
    (∃ (s : State), s.bit SOF_TIME_STAT.SRC = true) ∧
    (∃ (s : State), s.bit SOF_TIME_STAT.SRC = false) ∧
    (∃ (s : State), s.islandUp islRidge = true ∧ 4 ≤ s.get GLB_BOOTSTAT.STAGE) :=
  ⟨⟨up |>.modMtr (fun z => { z with timeSet := none }) |>.clear SOF_ALARMCTL.EN, by decide +kernel⟩,
   ⟨up |>.modMtr (fun z => { z with timeSet := none }) |>.raise SOF_ALARMCTL.EN |>.put SOF_ALARM.SEC 1, by decide +kernel⟩,
   ⟨1, 1, (let v : Nat := 1; let port : Nat := 1; up |>.modMtr (fun z => { z with timeSet := some (v, port) }) |>.raise MTR_SLSTAT.EN), by decide +kernel⟩,
   ⟨up |>.modMtr (fun z => { z with timeSet := none }) |>.raise SOF_TIME_STAT.VALID |>.clear MTR_STAT.IVRUN |> fun (z : State) => { z with soffit := { z.soffit with sec := 899 } }, by decide +kernel⟩,
   ⟨.spi, 5, up, by decide +kernel⟩,
   ⟨up |>.raise SOF_TIME_STAT.SRC, by decide +kernel⟩,
   ⟨up |>.clear SOF_TIME_STAT.SRC, by decide +kernel⟩,
   ⟨up |>.put GLB_BOOTSTAT.STAGE 4, by decide +kernel⟩⟩

theorem meets_EnergyTicks :
    (∃ (n : Fin 16) (e : Int) (reports : List (Option Int)) (s : State), s.present n = true ∧ s.metering n = true ∧ reports[n.val]? = some (some e)) ∧
    (∃ (n : Fin 16) (s : State), s.present n = true) :=
  ⟨⟨2, 5, List.replicate 16 (some 5), (let n : Fin 16 := 2; up |>.put (MTR_PSTAT.METERING n) 1 |>.put (RAF_STAT.PORT 6) n.val |>.raise (RAF_STAT.RUN 6)), by decide +kernel⟩,
   ⟨2, up, by decide +kernel⟩⟩

theorem meets_BandsAndIntervals :
    (∃ (j : Fin 64) (s : State), s.bit MTR_STAT.SCHEDON = true ∧ s.bit MTR_STAT.IVRUN = false ∧ (∀ i : Fin 64, s.schedHits i.val ((s.soffit.sec + 1) % 2 ^ 32) = true ↔ i = j)) ∧
    (∃ (s : State), s.bit MTR_STAT.SCHEDON = false ∧ s.timeValid = true ∧ s.bit MTR_STAT.IVRUN = true ∧ s.ivBoundary ((s.soffit.sec + 1) % 2 ^ 32) = true) ∧
    (∃ (n : Fin 16) (b : Nat) (s : State), s.mtr.ops = [{ close := false, boundary := none, mask := 2 ^ n.val, band := b }] ∧ b < 8 ∧ s.present n = true ∧ s.get (MTR_PSTAT.BAND n) ≠ b ∧ s.slate.buf.length < 16 ∧ s.bit MTR_SLSTAT.EN = true) ∧
    (∃ (s : State), s.mtr.ops = []) ∧
    (∃ (b : Nat) (s : State), s.mtr.ops = [{ close := true, boundary := some b, mask := 0, band := 0 }] ∧ b ≤ s.soffit.sec ∧ s.bit MTR_STAT.IVRUN = true ∧ s.slate.buf.length < 16 ∧ s.bit MTR_SLSTAT.EN = true) ∧
    (∃ (s : State), (∀ o ∈ s.mtr.ops, o.close = false)) ∧
    (∃ (hp : HostPort) (key : Byte) (mask : BitVec 16) (band : BitVec 3) (s : State), s.takes hp MTR_CMD.at (mtrWord key (mask.toNat + band.toNat * 2 ^ 16 + 2 ^ 19))) ∧
    (∃ (hp : HostPort) (key : Byte) (mask : BitVec 16) (s : State), s.takes hp MTR_CMD.at (mtrWord key (mask.toNat + 2 ^ 20))) ∧
    (∃ (hp : HostPort) (key : Byte) (s : State), s.takes hp MTR_CMD.at (mtrWord key (2 ^ 21)) ∧ s.slate.buf.length < 16 ∧ s.bit MTR_SLSTAT.EN = true) :=
  ⟨⟨3, (let j : Fin 64 := 3; up |>.raise MTR_STAT.SCHEDON |>.clear MTR_STAT.IVRUN |>.raise (MTR_SCHED0.VALID j.val) |>.put (MTR_SCHED0.DOW j.val) 127 |>.put (MTR_SCHED0.TOD j.val) 1), by decide +kernel⟩,
   ⟨up |>.clear MTR_STAT.SCHEDON |>.raise SOF_TIME_STAT.VALID |>.raise MTR_STAT.IVRUN |> fun (z : State) => { z with soffit := { z.soffit with sec := 899 } }, by decide +kernel⟩,
   ⟨2, 1, (let n : Fin 16 := 2; let b : Nat := 1; up |>.modMtr (fun z => { z with ops := [{ close := false, boundary := none, mask := 2 ^ n.val, band := b }] }) |>.raise MTR_SLSTAT.EN), by decide +kernel⟩,
   ⟨up |>.modMtr (fun z => { z with ops := [] }), by decide +kernel⟩,
   ⟨0, (let b : Nat := 0; up |>.modMtr (fun z => { z with ops := [{ close := true, boundary := some b, mask := 0, band := 0 }] }) |>.raise MTR_STAT.IVRUN |>.raise MTR_SLSTAT.EN), by decide +kernel⟩,
   ⟨up, by decide +kernel⟩,
   ⟨.spi, 0x4D, 5, 5, up, by decide +kernel⟩,
   ⟨.spi, 0x4D, 5, up, by decide +kernel⟩,
   ⟨.spi, 0x4D, up |>.raise MTR_SLSTAT.EN, by decide +kernel⟩⟩

theorem meets_SlateRecords :
    (∃ (s : State), s.slate.buf.length < 16 ∧ s.bit MTR_SLSTAT.EN = true) ∧
    (∃ (s : State), 16 ≤ s.slate.buf.length ∧ s.bit MTR_SLSTAT.EN = true) ∧
    (∃ (r : LogRec) (rest : List LogRec) (k : Nat) (o : Nat) (s : State), s.slate.buf = r :: rest ∧ s.slateOn = true ∧ s.slate.cur = some (k, o) ∧ o + r.bytes ≤ 4096) ∧
    (∃ (r : LogRec) (rest : List LogRec) (k : Nat) (o : Nat) (s : State), s.slate.buf = r :: rest ∧ s.slateOn = true ∧ s.slate.cur = some (k, o) ∧ 4096 < o + r.bytes ∧ s.slate.sectors.all (fun x => !x.retired) = true ∧ k + 1 < s.get MTR_SLLEN.LEN ∧ s.slate.erased (k + 1) = true ∧ s.slate.rsv < s.slate.erasedCount (s.get MTR_SLLEN.LEN)) ∧
    (∃ (r : LogRec) (rest : List LogRec) (s : State), s.slate.buf = r :: rest ∧ s.bit MTR_SLSTAT.EN = false) ∧
    (∃ (s : State), s.slate.buf = []) ∧
    (∃ (x : Sector) (y : SlRec) (s : State), s.slateOn = true ∧ s.slate.erasedCount (s.get MTR_SLLEN.LEN) ≤ s.slate.rsv ∧ oldestSector s.slate = some x ∧ newestEnergy s.slate.ring = some y ∧ y.sector ≠ x.num) ∧
    (∃ (s : State), s.slate.rsv < s.slate.erasedCount (s.get MTR_SLLEN.LEN)) ∧
    (∃ (erase : Bool) (sector : BitVec 16) (s : State), s.slate.retry ≠ some (erase, sector.toNat)) ∧
    (∃ (erase : Bool) (sector : BitVec 16) (s : State), s.slate.retry ≠ some (erase, sector.toNat + 65536)) ∧
    (∃ (erase : Bool) (sector : BitVec 16) (s : State), s.slate.retry = some (erase, sector.toNat + 65536) ∧ s.slate.buf.length < 16 ∧ s.bit MTR_SLSTAT.EN = true ∧ s.upd.busy = false) ∧
    (∃ (erase : Bool) (sector : BitVec 16) (s : State), s.slate.retry = some (erase, sector.toNat) ∧ s.slate.buf.length < 16 ∧ s.bit MTR_SLSTAT.EN = true) :=
  ⟨⟨up |>.raise MTR_SLSTAT.EN, by decide +kernel⟩,
   ⟨up |>.raise MTR_SLSTAT.EN |>.modSlate (fun z => { z with buf := List.replicate 16 { ty := 8, payload := [1, 2, 0, 0], sec := 5, usec := 0, tv := true } }), by decide +kernel⟩,
   ⟨{ ty := 8, payload := [1, 2, 0, 0], sec := 5, usec := 0, tv := true }, [], 1, 1, (let r : LogRec := { ty := 8, payload := [1, 2, 0, 0], sec := 5, usec := 0, tv := true }; let rest : List LogRec := []; let k : Nat := 1; let o : Nat := 1; up |>.modSlate (fun z => { z with buf := r :: rest }) |>.raise MTR_SLSTAT.EN |>.modSlate (fun z => { z with cur := some (k, o) })), by decide +kernel⟩,
   ⟨{ ty := 8, payload := [1, 2, 0, 0], sec := 5, usec := 0, tv := true }, [], 1, 4080, (let r : LogRec := { ty := 8, payload := [1, 2, 0, 0], sec := 5, usec := 0, tv := true }; let rest : List LogRec := []; let k : Nat := 1; let o : Nat := 4080; up |>.modSlate (fun z => { z with buf := r :: rest }) |>.raise MTR_SLSTAT.EN |>.modSlate (fun z => { z with cur := some (k, o) }) |>.put MTR_SLLEN.LEN 8), by decide +kernel⟩,
   ⟨{ ty := 8, payload := [1, 2, 0, 0], sec := 5, usec := 0, tv := true }, [], (let r : LogRec := { ty := 8, payload := [1, 2, 0, 0], sec := 5, usec := 0, tv := true }; let rest : List LogRec := []; up |>.modSlate (fun z => { z with buf := r :: rest }) |>.clear MTR_SLSTAT.EN), by decide +kernel⟩,
   ⟨up |>.modSlate (fun z => { z with buf := [] }), by decide +kernel⟩,
   ⟨{ num := 0, sseq := some 0, erases := 9, fmt := 1, retired := false }, { sector := 1, off := 32, seq := 5, body := { ty := 2, payload := [], sec := 5, usec := 0, tv := true } }, (let x : Sector := { num := 0, sseq := some 0, erases := 9, fmt := 1, retired := false }; let y : SlRec := { sector := 1, off := 32, seq := 5, body := { ty := 2, payload := [], sec := 5, usec := 0, tv := true } }; up |>.raise MTR_SLSTAT.EN |>.put MTR_SLLEN.LEN 1 |>.modSlate (fun z => { z with sectors := [x], ring := [y], cur := some (1, 64), rsv := 4 })), by decide +kernel⟩,
   ⟨up |>.put MTR_SLLEN.LEN 8, by decide +kernel⟩,
   ⟨true, 5, up, by decide +kernel⟩,
   ⟨true, 5, up |>.modSlate (fun z => { z with buf := [] }), by decide +kernel⟩,
   ⟨true, 5, (let erase : Bool := true; let sector : BitVec 16 := 5; up |>.modSlate (fun z => { z with retry := some (erase, sector.toNat + 65536), buf := [] }) |>.raise MTR_SLSTAT.EN), by decide +kernel⟩,
   ⟨true, 5, (let erase : Bool := true; let sector : BitVec 16 := 5; up |>.modSlate (fun z => { z with retry := some (erase, sector.toNat) }) |>.raise MTR_SLSTAT.EN), by decide +kernel⟩⟩

theorem meets_SlateRestoreAndWindow :
    (∃ (s : State), (s.bit MTR_SLSTAT.RESTORED = true ∨ s.bit MTR_STAT.NORESTORE = true ∨ s.slateOn = false)) ∧
    (∃ (bad : List (BitVec 32)) (framOk : Bool) (s : State), s.bit MTR_SLSTAT.RESTORED = false ∧ s.bit MTR_STAT.NORESTORE = false ∧ s.slateOn = true ∧ s.restoreFrom bad framOk = none) ∧
    (∃ (bad : List (BitVec 32)) (framOk : Bool) (r : LogRec) (n : Fin 16) (rest : List (Fin 16)) (s : State), s.bit MTR_SLSTAT.RESTORED = false ∧ s.bit MTR_STAT.NORESTORE = false ∧ s.slateOn = true ∧ s.restoreFrom bad framOk = some r ∧ s.portsHere = n :: rest) ∧
    (∃ (hp : HostPort) (off : BitVec 32) (s : State), s.takes hp MTR_SLRDADDR.at off ∧ off.toNat % 64 ≠ 0) ∧
    (∃ (k : Nat) (o : Nat) (s : State), s.bat.queue ≠ [] ∧ s.slateOn = true ∧ s.islandUp islBatten = true ∧ s.slate.cur = some (k, o) ∧ o + 16 + 16 * 63 ≤ 4096) ∧
    (∃ (s : State), s.bat.queue = []) :=
  ⟨⟨up |>.raise MTR_SLSTAT.RESTORED, by decide +kernel⟩,
   ⟨[], true, up |>.clear MTR_SLSTAT.RESTORED |>.clear MTR_STAT.NORESTORE |>.raise MTR_SLSTAT.EN, by decide +kernel⟩,
   ⟨[], true, { ty := 2, payload := [1, 2, 3, 4], sec := 5, usec := 0, tv := true }, 2, [15], (let r : LogRec := { ty := 2, payload := [1, 2, 3, 4], sec := 5, usec := 0, tv := true }; up |>.clear MTR_SLSTAT.RESTORED |>.clear MTR_STAT.NORESTORE |>.raise MTR_SLSTAT.EN |>.put GLB_PORTMASK.PRESENT 0x8004 |>.modSlate (fun z => { z with ring := [{ sector := 1, off := 32, seq := 5, body := r }] })), by decide +kernel⟩,
   ⟨.spi, 5, up, by decide +kernel⟩,
   ⟨1, 3072, (let k : Nat := 1; let o : Nat := 3072; up |>.raise MTR_SLSTAT.EN |>.modSlate (fun z => { z with cur := some (k, o) }) |>.modBat (fun z => { z with queue := [{ src := 5, kind := 1, data := 7, usec := 9, sec := 4, seq := 3, lost := 0, read := false }] })), by decide +kernel⟩,
   ⟨up |>.modBat (fun z => { z with queue := [] }), by decide +kernel⟩⟩

theorem meets_OtpCommands :
    (∃ (hp : HostPort) (addr : BitVec 9) (d1 : BitVec 32) (d0 : BitVec 32) (s : State), s.takesAll hp [(OTP_SHADDR.at, BitVec.ofNat 32 addr.toNat), (OTP_SHDATA0.at, d0), (OTP_SHDATA1.at, d1)] ∧ ¬ (0x0C8 ≤ addr.toNat ∧ addr.toNat ≤ 0x0CB)) ∧
    (∃ (hp : HostPort) (addr : BitVec 9) (d1 : BitVec 32) (d0 : BitVec 32) (s : State), s.takesAll hp [(OTP_SHADDR.at, BitVec.ofNat 32 addr.toNat), (OTP_SHDATA0.at, d0), (OTP_SHDATA1.at, d1)] ∧ 0x0C8 ≤ addr.toNat ∧ addr.toNat ≤ 0x0CB) ∧
    (∃ (hp : HostPort) (key : Byte) (addr : BitVec 9) (s : State), s.takes hp OTP_CMD.at (otpWord key 1 addr.toNat)) ∧
    (∃ (hp : HostPort) (key : Byte) (ctr : BitVec 2) (value : BitVec 9) (s : State), s.takes hp OTP_CMD.at (otpWord key 2 (value.toNat + ctr.toNat * 4096))) ∧
    (∃ (hp : HostPort) (key : Byte) (s : State), s.takes hp OTP_CMD.at (otpWord key 3 0)) ∧
    (∃ (hp : HostPort) (key : Byte) (s : State), s.takes hp OTP_CMD.at (otpWord key 4 0)) ∧
    (∃ (hp : HostPort) (key : Byte) (addr : BitVec 9) (s : State), s.takes hp OTP_CMD.at (otpWord key 5 addr.toNat) ∧ ¬ (0x0C8 ≤ addr.toNat ∧ addr.toNat ≤ 0x0CB)) ∧
    (∃ (hp : HostPort) (key : Byte) (addr : BitVec 9) (s : State), s.takes hp OTP_CMD.at (otpWord key 5 (addr.toNat + 32768))) :=
  ⟨⟨.spi, 0x100, 5, 5, up |>.raise OTP_STAT.VHVPGM |>.modOtp (fun z => { z with overs := [(0x100, 7)] }), by decide +kernel⟩,
   ⟨.spi, 0x0C9, 0xC1000000, 0x00200111, up |>.modOtp (fun z => { z with fuses := [(0xC8, 0xC100000000338333)], shadow := [(0xC8, 0xC100000000338333)] }), by decide +kernel⟩,
   ⟨.spi, 0x3F, 0x100, up |>.raise OTP_STAT.VHVPGM |>.modOtp (fun z => { z with overs := [(0x100, 7)] }), by decide +kernel⟩,
   ⟨.spi, 0x3F, 1, 64, up |>.raise OTP_STAT.VHVPGM, by decide +kernel⟩,
   ⟨.spi, 0x3F, up |>.raise OTP_STAT.VHVPGM, by decide +kernel⟩,
   ⟨.spi, 0x3F, up, by decide +kernel⟩,
   ⟨.spi, 0x3F, 5, up, by decide +kernel⟩,
   ⟨.spi, 0x3F, 5, up, by decide +kernel⟩⟩

theorem meets_OtpBurnsAndScrub :
    (∃ (b : Burn) (read : OtpRead) (s : State), s.otp.burn = some b ∧ b.kind = 1 ∧ b.value ≠ 0 ∧ b.word < 512 ∧ readStatus { read with word := BitVec.ofNat 9 b.word } = 1 ∧ ¬ (0x0C8 ≤ b.word ∧ b.word ≤ 0x0CB) ∧ s.upd.confirming = none ∧ s.boot.waiting = []) ∧
    (∃ (b : Burn) (read : OtpRead) (s : State), s.otp.burn = some b ∧ b.kind = 1 ∧ b.word < 512 ∧ read.normal ≠ 0 ∧ read.ecc = .double ∧ ¬ (0x0C8 ≤ b.word ∧ b.word ≤ 0x0CB) ∧ s.upd.confirming = none ∧ s.boot.waiting = []) ∧
    (∃ (b : Burn) (c4 : List (BitVec 64)) (c5 : List (BitVec 64)) (s : State), s.otp.burn = some b ∧ b.kind = 2 ∧ b.value.toNat ≤ 64 ∧ 0 < b.value.toNat ∧ (if b.word = 1 then c4 else c5) ≠ [] ∧ readBurned (if b.word = 1 then c4 else c5) &&& BitVec.ofNat 64 (2 ^ b.value.toNat - 1) = BitVec.ofNat 64 (2 ^ b.value.toNat - 1) ∧ s.upd.confirming = none ∧ s.boot.waiting = []) ∧
    (∃ (b : Burn) (c4 : List (BitVec 64)) (c5 : List (BitVec 64)) (s : State), s.otp.burn = some b ∧ b.kind = 2 ∧ 0 < b.value.toNat ∧ (if b.word = 1 then c4 else c5) ≠ [] ∧ (readBurned (if b.word = 1 then c4 else c5)).getLsbD 0 = false ∧ s.upd.confirming = none ∧ s.boot.waiting = []) ∧
    (∃ (s : State), s.otp.burn = none) ∧
    (∃ (s : State), s.bit OTP_STAT.LOADED = true ∧ s.bit OTP_CTRL.AUTOREPAIR = false ∧ s.otp.fuses = []) ∧
    (∃ (r : OtpRead) (s : State), s.bit OTP_STAT.LOADED = true ∧ s.bit OTP_CTRL.AUTOREPAIR = false ∧ s.otp.fuses = [] ∧ readStatus r ≠ 1) ∧
    (∃ (s : State), s.bit OTP_STAT.LOADED = false) :=
  ⟨⟨{ kind := 1, word := 0x100, value := 77 }, { word := 0, normal := 1, low := 1, high := 1, ecc := .clean }, (let b : Burn := { kind := 1, word := 0x100, value := 77 }; up |>.modOtp (fun z => { z with burn := some b })), by decide +kernel⟩,
   ⟨{ kind := 1, word := 0x100, value := 77 }, { word := 0, normal := 1, low := 1, high := 1, ecc := .double }, (let b : Burn := { kind := 1, word := 0x100, value := 77 }; up |>.modOtp (fun z => { z with burn := some b })), by decide +kernel⟩,
   ⟨{ kind := 2, word := 1, value := 4 }, List.replicate 9 15, [], (let b : Burn := { kind := 2, word := 1, value := 4 }; up |>.modOtp (fun z => { z with burn := some b })), by decide +kernel⟩,
   ⟨{ kind := 2, word := 1, value := 4 }, List.replicate 9 14, [], (let b : Burn := { kind := 2, word := 1, value := 4 }; up |>.modOtp (fun z => { z with burn := some b })), by decide +kernel⟩,
   ⟨up |>.modOtp (fun z => { z with burn := none }), by decide +kernel⟩,
   ⟨up |>.raise OTP_STAT.LOADED |>.clear OTP_CTRL.AUTOREPAIR |>.modOtp (fun z => { z with fuses := [] }), by decide +kernel⟩,
   ⟨{ word := 0x100, normal := 0, low := 0, high := 0, ecc := .clean }, up |>.raise OTP_STAT.LOADED |>.clear OTP_CTRL.AUTOREPAIR |>.modOtp (fun z => { z with fuses := [] }), by decide +kernel⟩,
   ⟨up |>.clear OTP_STAT.LOADED, by decide +kernel⟩⟩

theorem meets_StagingSession :
    (∃ (hp : HostPort) (key : Byte) (deferred : Bool) (s : State), s.takes hp UPD_CMD.at (updKeyWord key (1 + 256 * b2n deferred)) ∧ s.beginCode = 0) ∧
    (∃ (hp : HostPort) (key : Byte) (deferred : Bool) (s : State), s.takes hp UPD_CMD.at (updKeyWord key (1 + 256 * b2n deferred)) ∧ s.beginCode ≠ 0) ∧
    (∃ (hp : HostPort) (ws : List Word) (x : Session) (s : State), s.takesAll hp (dataWrites ws) ∧ s.upd.sess = some x ∧ s.upd.busy = false ∧ s.get UPD_NEXT.OFFS % 4096 + 4 * ws.length < 4096 ∧ ws ≠ []) ∧
    (∃ (hp : HostPort) (ws : List Word) (s : State), s.takesAll hp (dataWrites ws) ∧ s.upd.sess ≠ none ∧ s.upd.busy = true) ∧
    (∃ (hp : HostPort) (w : Word) (x : Session) (b : Nat) (s : State), s.takesAll hp (dataWrites [w]) ∧ s.upd.sess = some x ∧ s.upd.busy = false ∧ s.get UPD_NEXT.OFFS = 4096 * b + 4092 ∧ min 8 (max 1 (manBlks (x.man ++ (x.block ++ [w])))) * blockWords ≤ x.man.length ∧ 4096 * b < manPkgLen x.man ∧ crc32c (x.block ++ [w]) ≠ numOf x.man (manCrcOff x.man + 4 * b)) ∧
    (∃ (hp : HostPort) (key : Byte) (x : Session) (s : State), s.takes hp UPD_CMD.at (updKeyWord key 2) ∧ s.upd.sess = some x ∧ s.leading = false ∧ s.upd.chain = none) ∧
    (∃ (hp : HostPort) (key : Byte) (s : State), s.takes hp UPD_CMD.at (updKeyWord key 2) ∧ s.upd.sess = none) ∧
    (∃ (hp : HostPort) (key : Byte) (s : State), s.takes hp UPD_CMD.at (updKeyWord key 5) ∧ s.upd.sess ≠ none ∧ s.leading = false) ∧
    (∃ (hp : HostPort) (key : Byte) (s : State), s.takes hp UPD_CMD.at (updKeyWord key 5) ∧ s.upd.sess = none) ∧
    (∃ (s : State), s.upd.sess ≠ none ∧ s.leading = false ∧ s.upd.chain = none) ∧
    (∃ (s : State), s.upd.sess = none) ∧
    (∃ (s : State), s.upd.sess ≠ none ∧ s.upd.busy = true) ∧
    (∃ (s : State), s.upd.sess ≠ none ∧ s.upd.busy = true ∧ s.leading = false ∧ s.upd.chain = none) :=
  ⟨⟨.spi, 0x55, true, up, by decide +kernel⟩,
   ⟨.spi, 0x55, true, up |>.modUpd (fun z => { z with dir := some { Dir.initial with trial := true } }), by decide +kernel⟩,
   ⟨.spi, [7], { owner := 1, defer := false, man := [], block := [], stored := [], lenDecl := none, crcDecl := none, crcAll := 0xFFFFFFFF }, (let x : Session := { owner := 1, defer := false, man := [], block := [], stored := [], lenDecl := none, crcDecl := none, crcAll := 0xFFFFFFFF }; up |>.modUpd (fun z => { z with sess := some x }) |>.modUpd (fun z => { z with busy := false })), by decide +kernel⟩,
   ⟨.spi, [7], up |>.modUpd (fun z => { z with sess := some { owner := 1, defer := false, man := [], block := [], stored := [], lenDecl := none, crcDecl := none, crcAll := 0xFFFFFFFF } }) |>.modUpd (fun z => { z with busy := true }), by decide +kernel⟩,
   ⟨.spi, 5, { owner := 1, defer := false, man := [0, 0, 65536] ++ List.replicate 1021 0, block := [], stored := [], lenDecl := none, crcDecl := none, crcAll := 0xFFFFFFFF }, 4, (let x : Session := { owner := 1, defer := false, man := [0, 0, 65536] ++ List.replicate 1021 0, block := [], stored := [], lenDecl := none, crcDecl := none, crcAll := 0xFFFFFFFF }; let b : Nat := 4; up |>.modUpd (fun z => { z with sess := some x }) |>.modUpd (fun z => { z with busy := false }) |>.put UPD_NEXT.OFFS (4096 * b + 4092)), by decide +kernel⟩,
   ⟨.spi, 0x55, { owner := 1, defer := false, man := [], block := [], stored := [], lenDecl := none, crcDecl := none, crcAll := 0xFFFFFFFF }, (let x : Session := { owner := 1, defer := false, man := [], block := [], stored := [], lenDecl := none, crcDecl := none, crcAll := 0xFFFFFFFF }; up |>.modUpd (fun z => { z with sess := some x }) |>.modUpd (fun z => { z with chain := none })), by decide +kernel⟩,
   ⟨.spi, 0x55, up |>.modUpd (fun z => { z with sess := none }), by decide +kernel⟩,
   ⟨.spi, 0x55, up |>.modUpd (fun z => { z with sess := some { owner := 1, defer := false, man := [], block := [], stored := [], lenDecl := none, crcDecl := none, crcAll := 0xFFFFFFFF } }), by decide +kernel⟩,
   ⟨.spi, 0x55, up |>.modUpd (fun z => { z with sess := none }), by decide +kernel⟩,
   ⟨up |>.modUpd (fun z => { z with sess := some { owner := 1, defer := false, man := [], block := [], stored := [], lenDecl := none, crcDecl := none, crcAll := 0xFFFFFFFF } }) |>.modUpd (fun z => { z with chain := none }), by decide +kernel⟩,
   ⟨up |>.modUpd (fun z => { z with sess := none }), by decide +kernel⟩,
   ⟨up |>.modUpd (fun z => { z with sess := some { owner := 1, defer := false, man := [], block := [], stored := [], lenDecl := none, crcDecl := none, crcAll := 0xFFFFFFFF } }) |>.modUpd (fun z => { z with busy := true }), by decide +kernel⟩,
   ⟨up |>.modUpd (fun z => { z with sess := some { owner := 1, defer := false, man := [], block := [], stored := [], lenDecl := none, crcDecl := none, crcAll := 0xFFFFFFFF } }) |>.modUpd (fun z => { z with busy := true }) |>.modUpd (fun z => { z with chain := none }), by decide +kernel⟩⟩

theorem meets_ActivationAndConfirm :
    (∃ (hp : HostPort) (key : Byte) (s : State), s.takes hp UPD_CMD.at (updKeyWord key 3) ∧ (s.dirNow.sstate = 2 ∨ s.dirNow.sstate = 3) ∧ s.dirNow.trial = false ∧ s.upd.sess = none ∧ s.upd.relay = none ∧ s.inDormer = false ∧ s.get GLB_BOOTSTAT.STAGE = 6 ∧ s.bit GLB_SUPSTAT.XSPI1S = false ∧ manChain s.stagMan = false) ∧
    (∃ (hp : HostPort) (key : Byte) (s : State), s.takes hp UPD_CMD.at (updKeyWord key (3 + 512)) ∧ (s.dirNow.sstate = 2 ∨ s.dirNow.sstate = 3) ∧ s.dirNow.trial = false ∧ s.upd.sess = none ∧ s.upd.relay = none ∧ s.inDormer = false ∧ s.get GLB_BOOTSTAT.STAGE = 6 ∧ manChain s.stagMan = false) ∧
    (∃ (hp : HostPort) (key : Byte) (s : State), s.takes hp UPD_CMD.at (updKeyWord key 3) ∧ (s.dirNow.sstate = 2 ∨ s.dirNow.sstate = 3) ∧ s.dirNow.trial = false ∧ s.upd.sess = none ∧ s.upd.relay = none ∧ s.inDormer = true) ∧
    (∃ (hp : HostPort) (key : Byte) (nextboot : Bool) (s : State), s.takes hp UPD_CMD.at (updKeyWord key (3 + 512 * b2n nextboot)) ∧ ((s.dirNow.sstate ≠ 2 ∧ s.dirNow.sstate ≠ 3) ∨ s.dirNow.trial = true ∨ s.upd.sess ≠ none ∨ s.upd.relay ≠ none)) ∧
    (∃ (hp : HostPort) (key : Byte) (s : State), s.takes hp UPD_CMD.at (updKeyWord key 4) ∧ s.dirNow.trial = true ∧ s.inDormer = false ∧ s.upd.relay = none ∧ s.upd.confirming = none ∧ manChain s.actMan = false ∧ s.confirmBurn = none ∧ s.otp.burn = none ∧ manFmtNew s.actMan ≤ s.slate.fmt) ∧
    (∃ (hp : HostPort) (key : Byte) (b : Burn) (s : State), s.takes hp UPD_CMD.at (updKeyWord key 4) ∧ s.dirNow.trial = true ∧ s.inDormer = false ∧ s.upd.relay = none ∧ s.upd.confirming = none ∧ manChain s.actMan = false ∧ s.confirmBurn = some b ∧ s.otp.burn = none ∧ s.bit OTP_STAT.VHVPGM = true) ∧
    (∃ (hp : HostPort) (key : Byte) (s : State), s.takes hp UPD_CMD.at (updKeyWord key 4) ∧ s.dirNow.trial = false) ∧
    (∃ (hp : HostPort) (key : Byte) (s : State), s.takes hp UPD_CMD.at (updKeyWord key 6) ∧ s.inDormer = false ∧ s.upd.relay = none ∧ manChain s.actMan = false ∧ (s.dirNow.trial = true ∨ s.bit UPD_STAT.PREVBAD = false) ∧ s.get GLB_BOOTSTAT.STAGE = 6) ∧
    (∃ (hp : HostPort) (key : Byte) (s : State), s.takes hp UPD_CMD.at (updKeyWord key 6) ∧ s.inDormer = true) :=
  ⟨⟨.spi, 0x55, up |>.modUpd (fun z => { z with sess := none }) |>.modUpd (fun z => { z with relay := none }) |>.put GLB_BOOTSTAT.STAGE (6) |>.clear GLB_SUPSTAT.XSPI1S |>.modUpd (fun z => { z with dir := some { Dir.initial with sstate := 2 } }), by decide +kernel⟩,
   ⟨.spi, 0x55, up |>.modUpd (fun z => { z with sess := none }) |>.modUpd (fun z => { z with relay := none }) |>.put GLB_BOOTSTAT.STAGE (6) |>.modUpd (fun z => { z with dir := some { Dir.initial with sstate := 2 } }), by decide +kernel⟩,
   ⟨.spi, 0x55, up |>.modUpd (fun z => { z with sess := none }) |>.modUpd (fun z => { z with relay := none }) |>.raise GLB_BOOTSTAT.DORMER |>.modUpd (fun z => { z with dir := some { Dir.initial with sstate := 2 } }), by decide +kernel⟩,
   ⟨.spi, 0x55, true, up, by decide +kernel⟩,
   ⟨.spi, 0x55, up |>.modUpd (fun z => { z with dir := some { Dir.initial with trial := true } }) |>.modUpd (fun z => { z with relay := none }) |>.modUpd (fun z => { z with confirming := none }) |>.modOtp (fun z => { z with burn := none }), by decide +kernel⟩,
   ⟨.spi, 0x55, { kind := 4, word := 0, value := 250 }, up |>.modUpd (fun z => { z with dir := some { Dir.initial with trial := true } }) |>.modUpd (fun z => { z with relay := none }) |>.modUpd (fun z => { z with confirming := none }) |>.modOtp (fun z => { z with burn := none }) |>.raise OTP_STAT.VHVPGM |>.modUpd (fun z => { z with dir := some { Dir.initial with trial := true }, slots := [[0, 0, 65536, 1, 250], [0, 0, 65536, 1, 250], [0, 0, 65536, 1, 250]] }), by decide +kernel⟩,
   ⟨.spi, 0x55, up, by decide +kernel⟩,
   ⟨.spi, 0x55, up |>.modUpd (fun z => { z with relay := none }) |>.modUpd (fun z => { z with dir := some { Dir.initial with trial := true } }) |>.put GLB_BOOTSTAT.STAGE (6), by decide +kernel⟩,
   ⟨.spi, 0x55, up |>.raise GLB_BOOTSTAT.DORMER, by decide +kernel⟩⟩

theorem meets_RelayStarts :
    (∃ (r : Relay) (s : State), s.upd.relay = some r ∧ r.started = none ∧ r.kind ≠ 3 ∧ (r.kind = 2 → s.bit GLB_SUPSTAT.XSPI1S = false) ∧ s.updState ≠ usARMED ∧ s.otp.burn = none ∧ s.get GLB_BOOTSTAT.STAGE = 6 ∧ s.tha.strips = [] ∧ s.get THA_SRSTAT.PHASE = 0 ∧ s.upd.chain = none) ∧
    (∃ (s : State), (s.upd.relay = none ∨ s.otp.burn ≠ none)) ∧
    (∃ (r : Relay) (s : State), s.upd.relay = some r ∧ r.started = none ∧ r.kind = 2 ∧ s.bit GLB_SUPSTAT.XSPI1S = true ∧ s.updState ≠ usARMED ∧ s.otp.burn = none ∧ s.get GLB_BOOTSTAT.STAGE = 6 ∧ s.tha.strips = [] ∧ s.get THA_SRSTAT.PHASE = 0) ∧
    (∃ (r : Relay) (s : State), s.upd.relay = some r ∧ r.started = none ∧ r.apply = none ∧ s.updState = usARMED ∧ s.otp.burn = none) ∧
    (∃ (r : Relay) (s : State), s.upd.relay = some r ∧ r.started = none ∧ r.apply = none ∧ s.updState = usARMED ∧ s.otp.burn = none ∧ s.ridge.window = [] ∧ s.ridge.waiting = []) ∧
    (∃ (s : State), (s.upd.relay = none ∨ s.otp.burn ≠ none ∨ s.updState ≠ usARMED)) ∧
    (∃ (r : Relay) (s : State), s.upd.relay = some r ∧ r.started ≠ none ∧ s.get GLB_BOOTSTAT.STAGE = 5 ∧ s.islandUp islRidge = true) ∧
    (∃ (r : Relay) (s : State), s.upd.relay = some r ∧ r.started ≠ none ∧ s.get GLB_BOOTSTAT.STAGE ≠ 5) ∧
    (∃ (s : State), s.upd.relay = none) ∧
    (∃ (s : State), s.dirNow.trial = true ∧ s.upd.confirming = none ∧ s.upd.relay = none ∧ s.inDormer = false ∧ manChain s.actMan = false) ∧
    (∃ (s : State), (s.dirNow.trial = false ∨ s.upd.confirming ≠ none)) :=
  ⟨⟨{ kind := 1, cause := 0x11, ev := 0, apply := none, started := none, rotated := false }, (let r : Relay := { kind := 1, cause := 0x11, ev := 0, apply := none, started := none, rotated := false }; up |>.modUpd (fun z => { z with relay := some r }) |>.modOtp (fun z => { z with burn := none }) |>.put GLB_BOOTSTAT.STAGE (6) |>.modTha (fun z => { z with strips := [] }) |>.put THA_SRSTAT.PHASE (0) |>.modUpd (fun z => { z with chain := none })), by decide +kernel⟩,
   ⟨up |>.modUpd (fun z => { z with relay := none }), by decide +kernel⟩,
   ⟨{ kind := 2, cause := 0x11, ev := 0, apply := none, started := none, rotated := false }, (let r : Relay := { kind := 2, cause := 0x11, ev := 0, apply := none, started := none, rotated := false }; up |>.modUpd (fun z => { z with relay := some r }) |>.raise GLB_SUPSTAT.XSPI1S |>.modOtp (fun z => { z with burn := none }) |>.put GLB_BOOTSTAT.STAGE (6) |>.modTha (fun z => { z with strips := [] }) |>.put THA_SRSTAT.PHASE (0)), by decide +kernel⟩,
   ⟨{ kind := 1, cause := 0x11, ev := 0, apply := none, started := none, rotated := false }, (let r : Relay := { kind := 1, cause := 0x11, ev := 0, apply := none, started := none, rotated := false }; up |>.modUpd (fun z => { z with relay := some r }) |>.setUpd usARMED |>.modOtp (fun z => { z with burn := none })), by decide +kernel⟩,
   ⟨{ kind := 1, cause := 0x11, ev := 0, apply := none, started := none, rotated := false }, (let r : Relay := { kind := 1, cause := 0x11, ev := 0, apply := none, started := none, rotated := false }; up |>.modUpd (fun z => { z with relay := some r }) |>.setUpd usARMED |>.modOtp (fun z => { z with burn := none }) |>.modRidge (fun z => { z with window := [] }) |>.modRidge (fun z => { z with waiting := [] })), by decide +kernel⟩,
   ⟨up |>.modUpd (fun z => { z with relay := none }), by decide +kernel⟩,
   ⟨{ kind := 1, cause := 0x11, ev := 0, apply := none, started := some 5, rotated := false }, (let r : Relay := { kind := 1, cause := 0x11, ev := 0, apply := none, started := some 5, rotated := false }; up |>.modUpd (fun z => { z with relay := some r }) |>.put GLB_BOOTSTAT.STAGE (5)), by decide +kernel⟩,
   ⟨{ kind := 1, cause := 0x11, ev := 0, apply := none, started := some 5, rotated := false }, (let r : Relay := { kind := 1, cause := 0x11, ev := 0, apply := none, started := some 5, rotated := false }; up |>.modUpd (fun z => { z with relay := some r })), by decide +kernel⟩,
   ⟨up |>.modUpd (fun z => { z with relay := none }), by decide +kernel⟩,
   ⟨up |>.modUpd (fun z => { z with dir := some { Dir.initial with trial := true } }) |>.modUpd (fun z => { z with confirming := none }) |>.modUpd (fun z => { z with relay := none }), by decide +kernel⟩,
   ⟨up, by decide +kernel⟩⟩

theorem meets_ChainUpdates :
    (∃ (h : JtlHead) (s : State), s.gets h ∧ s.forMe h.dest.toNat = true ∧ s.peer = true ∧ s.leading = false ∧ s.beginCode = 0) ∧
    (∃ (h : JtlHead) (s : State), s.gets h ∧ s.forMe h.dest.toNat = true ∧ s.peer = true ∧ s.leading = false ∧ s.beginCode ≠ 0) ∧
    (∃ (h : JtlHead) (s : State), s.gets h ∧ s.forMe h.dest.toNat = true ∧ s.peer = false) ∧
    (∃ (h : JtlHead) (manid : BitVec 32) (off : BitVec 24) (data : List Word) (x : Session) (c : ChainUpd) (s : State), s.gets h ∧ s.forMe h.dest.toNat = true ∧ s.peer = true ∧ s.leading = false ∧ s.upd.chain = some c ∧ c.manid = manid.toNat ∧ s.upd.sess = some x ∧ x.owner = 5 ∧ s.upd.busy = false ∧ s.get UPD_NEXT.OFFS = off.toNat ∧ off.toNat % 4096 + 4 * data.length < 4096) ∧
    (∃ (h : JtlHead) (manid : BitVec 32) (off : BitVec 24) (x : Session) (c : ChainUpd) (s : State), s.gets h ∧ s.forMe h.dest.toNat = true ∧ s.peer = true ∧ s.leading = false ∧ s.upd.chain = some c ∧ c.manid = manid.toNat ∧ c.blks = [] ∧ s.upd.sess = some x ∧ x.owner = 5 ∧ s.get UPD_NEXT.OFFS < off.toNat) ∧
    (∃ (h : JtlHead) (manid : BitVec 32) (off : BitVec 24) (x : Session) (c : ChainUpd) (s : State), s.gets h ∧ s.forMe h.dest.toNat = true ∧ s.peer = true ∧ s.leading = false ∧ s.upd.chain = some c ∧ c.manid = manid.toNat ∧ s.upd.sess = some x ∧ x.owner = 5 ∧ off.toNat < s.get UPD_NEXT.OFFS) ∧
    (∃ (h : JtlHead) (manid : BitVec 32) (c : ChainUpd) (s : State), s.gets h ∧ s.forMe h.dest.toNat = true ∧ s.peer = true ∧ s.leading = true ∧ s.upd.chain = some c ∧ c.manid = manid.toNat ∧ (∃ r ∈ c.reports, r.1 = h.src.toNat) ∧ h.src.toNat < 16 ∧ s.upd.relay = none ∧ s.dirNow.trial = false) ∧
    (∃ (h : JtlHead) (manid : BitVec 32) (c : ChainUpd) (s : State), s.gets h ∧ s.forMe h.dest.toNat = true ∧ s.peer = true ∧ s.leading = false ∧ s.upd.chain = some c ∧ c.manid = manid.toNat ∧ s.bit GLB_SUPSTAT.XSPI1S = false ∧ s.dirNow.sstate = 2 ∧ s.dirNow.trial = false ∧ s.upd.sess = none ∧ s.upd.relay = none ∧ s.get GLB_BOOTSTAT.STAGE = 6) ∧
    (∃ (h : JtlHead) (manid : BitVec 32) (c : ChainUpd) (s : State), s.gets h ∧ s.forMe h.dest.toNat = true ∧ s.peer = true ∧ s.leading = false ∧ s.upd.chain = some c ∧ c.manid = manid.toNat ∧ s.upd.relay = none) :=
  ⟨⟨{ p := 0, dest := 0xFF, src := 2, seq := 7 }, up |>.raise JTL_CFG.EN |>.raise (JTL_LINK.UP 0) |>.raise (JTL_LINK.UP 1) |>.raise JTL_STAT.UPUP |>.raise JTL_STAT.DNUP |>.put HST_AUTH.JOTIL 8, by decide +kernel⟩,
   ⟨{ p := 0, dest := 0xFF, src := 2, seq := 7 }, up |>.raise JTL_CFG.EN |>.raise (JTL_LINK.UP 0) |>.raise (JTL_LINK.UP 1) |>.raise JTL_STAT.UPUP |>.raise JTL_STAT.DNUP |>.put HST_AUTH.JOTIL 8 |>.modUpd (fun z => { z with dir := some { Dir.initial with trial := true } }), by decide +kernel⟩,
   ⟨{ p := 0, dest := 0xFF, src := 2, seq := 7 }, up |>.raise JTL_CFG.EN |>.raise (JTL_LINK.UP 0) |>.raise (JTL_LINK.UP 1) |>.raise JTL_STAT.UPUP |>.raise JTL_STAT.DNUP |>.put HST_AUTH.JOTIL 0, by decide +kernel⟩,
   ⟨{ p := 0, dest := 0xFF, src := 2, seq := 7 }, 5, 5, [], { owner := 5, defer := false, man := [], block := [], stored := [], lenDecl := none, crcDecl := none, crcAll := 0xFFFFFFFF }, { manid := 5, pkglen := 8192, reports := [(2, 0, 0, 0)], apply := none, armed := false, blks := [] }, (let off : BitVec 24 := 5; let x : Session := { owner := 5, defer := false, man := [], block := [], stored := [], lenDecl := none, crcDecl := none, crcAll := 0xFFFFFFFF }; let c : ChainUpd := { manid := 5, pkglen := 8192, reports := [(2, 0, 0, 0)], apply := none, armed := false, blks := [] }; up |>.raise JTL_CFG.EN |>.raise (JTL_LINK.UP 0) |>.raise (JTL_LINK.UP 1) |>.raise JTL_STAT.UPUP |>.raise JTL_STAT.DNUP |>.put HST_AUTH.JOTIL 8 |>.modUpd (fun z => { z with chain := some c }) |>.modUpd (fun z => { z with sess := some x }) |>.modUpd (fun z => { z with busy := false }) |>.put UPD_NEXT.OFFS (off.toNat)), by decide +kernel⟩,
   ⟨{ p := 0, dest := 0xFF, src := 2, seq := 7 }, 5, 8, { owner := 5, defer := false, man := [], block := [], stored := [], lenDecl := none, crcDecl := none, crcAll := 0xFFFFFFFF }, { manid := 5, pkglen := 8192, reports := [(2, 0, 0, 0)], apply := none, armed := false, blks := [] }, (let x : Session := { owner := 5, defer := false, man := [], block := [], stored := [], lenDecl := none, crcDecl := none, crcAll := 0xFFFFFFFF }; let c : ChainUpd := { manid := 5, pkglen := 8192, reports := [(2, 0, 0, 0)], apply := none, armed := false, blks := [] }; up |>.raise JTL_CFG.EN |>.raise (JTL_LINK.UP 0) |>.raise (JTL_LINK.UP 1) |>.raise JTL_STAT.UPUP |>.raise JTL_STAT.DNUP |>.put HST_AUTH.JOTIL 8 |>.modUpd (fun z => { z with chain := some c }) |>.modUpd (fun z => { z with sess := some x })), by decide +kernel⟩,
   ⟨{ p := 0, dest := 0xFF, src := 2, seq := 7 }, 5, 32, { owner := 5, defer := false, man := [], block := [], stored := [], lenDecl := none, crcDecl := none, crcAll := 0xFFFFFFFF }, { manid := 5, pkglen := 8192, reports := [(2, 0, 0, 0)], apply := none, armed := false, blks := [] }, (let x : Session := { owner := 5, defer := false, man := [], block := [], stored := [], lenDecl := none, crcDecl := none, crcAll := 0xFFFFFFFF }; let c : ChainUpd := { manid := 5, pkglen := 8192, reports := [(2, 0, 0, 0)], apply := none, armed := false, blks := [] }; up |>.raise JTL_CFG.EN |>.raise (JTL_LINK.UP 0) |>.raise (JTL_LINK.UP 1) |>.raise JTL_STAT.UPUP |>.raise JTL_STAT.DNUP |>.put HST_AUTH.JOTIL 8 |>.modUpd (fun z => { z with chain := some c }) |>.modUpd (fun z => { z with sess := some x }) |>.put UPD_NEXT.OFFS 64), by decide +kernel⟩,
   ⟨{ p := 0, dest := 0xFF, src := 2, seq := 7 }, 5, { manid := 5, pkglen := 8192, reports := [(2, 0, 0, 0)], apply := none, armed := false, blks := [] }, (let c : ChainUpd := { manid := 5, pkglen := 8192, reports := [(2, 0, 0, 0)], apply := none, armed := false, blks := [] }; up |>.raise JTL_CFG.EN |>.raise (JTL_LINK.UP 0) |>.raise (JTL_LINK.UP 1) |>.raise JTL_STAT.UPUP |>.raise JTL_STAT.DNUP |>.put HST_AUTH.JOTIL 8 |>.raise JTL_STAT.LEADER |>.modUpd (fun z => { z with chain := some c }) |>.modUpd (fun z => { z with relay := none })), by decide +kernel⟩,
   ⟨{ p := 0, dest := 0xFF, src := 2, seq := 7 }, 5, { manid := 5, pkglen := 8192, reports := [(2, 0, 0, 0)], apply := none, armed := false, blks := [] }, (let c : ChainUpd := { manid := 5, pkglen := 8192, reports := [(2, 0, 0, 0)], apply := none, armed := false, blks := [] }; up |>.raise JTL_CFG.EN |>.raise (JTL_LINK.UP 0) |>.raise (JTL_LINK.UP 1) |>.raise JTL_STAT.UPUP |>.raise JTL_STAT.DNUP |>.put HST_AUTH.JOTIL 8 |>.modUpd (fun z => { z with chain := some c }) |>.clear GLB_SUPSTAT.XSPI1S |>.modUpd (fun z => { z with sess := none }) |>.modUpd (fun z => { z with relay := none }) |>.put GLB_BOOTSTAT.STAGE (6) |>.modUpd (fun z => { z with dir := some { Dir.initial with sstate := 2 } })), by decide +kernel⟩,
   ⟨{ p := 0, dest := 0xFF, src := 2, seq := 7 }, 5, { manid := 5, pkglen := 8192, reports := [(2, 0, 0, 0)], apply := none, armed := false, blks := [] }, (let c : ChainUpd := { manid := 5, pkglen := 8192, reports := [(2, 0, 0, 0)], apply := none, armed := false, blks := [] }; up |>.raise JTL_CFG.EN |>.raise (JTL_LINK.UP 0) |>.raise (JTL_LINK.UP 1) |>.raise JTL_STAT.UPUP |>.raise JTL_STAT.DNUP |>.put HST_AUTH.JOTIL 8 |>.modUpd (fun z => { z with chain := some c }) |>.modUpd (fun z => { z with relay := none })), by decide +kernel⟩⟩

theorem meets_MissedTickAddsNothing :
    (∃ (n : Fin 16) (reports : List (Option Int)) (s : State), s.present n = true ∧ s.metering n = true ∧ (reports[n.val]?).getD none = none) :=
  ⟨2, [], (let n : Fin 16 := 2; up |>.put (MTR_PSTAT.METERING n) 1 |>.put (RAF_STAT.PORT 6) n.val |>.raise (RAF_STAT.RUN 6)), by decide +kernel⟩

theorem meets_SlateWindowShowsRegion :
    (∃ (hp : HostPort) (off : BitVec 32) (s : State), s.takes hp MTR_SLRDADDR.at off ∧ off.toNat % 64 = 0) ∧
    (∃ (k : Nat) (o : Nat) (s : State), s.bat.queue ≠ [] ∧ s.slateOn = true ∧ s.islandUp islBatten = true ∧ s.slate.cur = some (k, o) ∧ o + 16 + 16 * 63 ≤ 4096) :=
  ⟨⟨.spi, 0x40, up, by decide +kernel⟩,
   ⟨1, 3072, (let k : Nat := 1; let o : Nat := 3072; up |>.raise MTR_SLSTAT.EN |>.modSlate (fun z => { z with cur := some (k, o) }) |>.modBat (fun z => { z with queue := [{ src := 5, kind := 1, data := 7, usec := 9, sec := 4, seq := 3, lost := 0, read := false }] })), by decide +kernel⟩⟩

end Sys2Proof.Tests
end

section
/-!
PROOF. The block right after reset: its register file is empty, so every register reads the reset value of its table.
-/

namespace Sys2Proof.Machine

/-- After reset every address reads what an unlisted one reads as (R12). -/
theorem State.rd_reset (a : Nat) : State.reset.rd a = regReset a := rfl

theorem State.get_reset (f : Fld) : State.reset.get f = f.of (regReset f.addr) := rfl

theorem State.wf_reset : State.reset.wf := ⟨rfl, rfl⟩

theorem regReset_device :
    regReset 0x54 = 0x1 ∧ GLB_BOOTSTAT.STAGE.of (regReset GLB_BOOTSTAT.STAGE.addr) = 0 ∧ regReset THA_GEN.at = 1 ∧ regReset RDG_CFG.at = 3 ∧
      regReset BAT_IRQEN.at = 0x01FFFFFF ∧ regReset BAT_TRSCUT.at = 0xFFFF ∧ regReset HST_CANSTAT.at = 0x00030000 ∧
      regReset UPD_STAT.at = 0x00012000 ∧ regReset MTR_STAT.at = 0 := by decide

theorem regReset_port (n : Fin 16) :
    regReset (PPD_CFG.at n) = 0xD ∧ regReset (PPD_TIMERS.at n) = 0x003200A5 ∧ regReset (PPD_WARNCFG.at n) = 0x000A0F01 ∧
      regReset (PLP_STATUS.at n) = 0xC00 ∧ regReset (PLP_CCOMP.at n) = 0x01323280 ∧ regReset (PVL_OVCFG.at n) = 0x03C00A1A ∧
      regReset (PVL_FILT.at n) = 0x52 ∧ regReset (PCC_STATUS.at n) = 0 := by
  revert n
  decide +kernel

theorem regReset_slice (k : Fin 48) : regReset (RAF_STAT.at k) = 0x1F30 := by
  revert k
  decide +kernel

/-- Settles O56: a read right after reset is the table's reset value, looked up for the block, for each port and for each slice. -/
theorem resetState : Obligations.ResetState := by
  unfold Obligations.ResetState
  simp only [State.rd_reset, State.get_reset]
  have h := And.intro regReset_device (And.intro regReset_port regReset_slice)
  exact ⟨rfl, State.wf_reset, by simpa only [and_assoc] using h⟩

end Sys2Proof.Machine
end

section
/-!
PROOF. Every command answers a next state, and what holds over every step holds command by command: the queue stays, the canonical form is kept, and no
counter bit that reads as burned is lost. The proof for a command follows its definition from the outside in: one Keeps lemma of Laws/ for each operation that it
names, one rule for each branch.
-/

namespace Sys2Proof.Machine

/-- Every part of the state but the queue of waiting commands. -/
abbrev pAllButPending : Nat := 0x3FFFF

/-- In state s an outcome is a next state in which the queue is as in s, the canonical form is kept and no counter bit that reads as burned is lost. -/
def State.Completes (s : State) (r : Res) : Prop := ∃ t, r = .next t ∧ s.Keeps pAllButPending t

namespace State.Keeps

theorem either {c : Prop} [Decidable c] {s t u : State} {m : Nat} (h : s.Keeps m t) (k : s.Keeps m u) : s.Keeps m (if c then t else u) :=
  State.Keeps.ite (fun _ => h) (fun _ => k)

/-- One more operation under a condition. -/
theorem stepIf {c : Prop} [Decidable c] {s t u : State} {a m : Nat} (k : t.Keeps a u) (ha : a ||| m = m) (h : s.Keeps m t) :
    s.Keeps m (if c then u else t) := either (k.step ha h) h

theorem stepUnless {c : Prop} [Decidable c] {s t u : State} {a m : Nat} (k : t.Keeps a u) (ha : a ||| m = m) (h : s.Keeps m t) :
    s.Keeps m (if c then t else u) := either h (k.step ha h)

/-- Several more operations under a condition. -/
theorem chainIf {c : Prop} [Decidable c] {s t u : State} {m : Nat} (k : t.Keeps m u) (h : s.Keeps m t) : s.Keeps m (if c then u else t) :=
  either (h.trans k) h

theorem chainUnless {c : Prop} [Decidable c] {s t u : State} {m : Nat} (k : t.Keeps m u) (h : s.Keeps m t) : s.Keeps m (if c then t else u) :=
  either h (h.trans k)

/-- Operations in either branch. -/
theorem chainEither {c : Prop} [Decidable c] {s t u v : State} {m : Nat} (k : t.Keeps m u) (l : t.Keeps m v) (h : s.Keeps m t) :
    s.Keeps m (if c then u else v) := either (h.trans k) (h.trans l)

end State.Keeps

namespace State.Completes

variable {s t : State}

protected theorem done (h : s.Keeps pAllButPending t) : s.Completes (done t) := ⟨t, rfl, h⟩

protected theorem doneAll {b : State} (h : s.Keeps pAllButPending t) : s.Completes (doneAll b t) := ⟨_, rfl, (State.reportAll_keeps b t).step rfl h⟩

protected theorem done1 {n : Fin 16} {b : State} (h : s.Keeps pAllButPending t) : s.Completes (done1 n b t) := ⟨_, rfl, (State.report_keeps b n t).step rfl h⟩

/-- The command leaves the state as it is. -/
theorem same : s.Completes (Machine.done s) := .done (.refl _ s)

protected theorem ite {c : Prop} [Decidable c] {r q : Res} (h : s.Completes r) (k : s.Completes q) : s.Completes (if c then r else q) := by
  split
  · exact h
  · exact k

protected theorem dite {c : Prop} [Decidable c] {r : c → Res} {q : ¬c → Res} (h : ∀ x, s.Completes (r x)) (k : ∀ x, s.Completes (q x)) :
    s.Completes (dite c r q) := by
  split
  · exact h _
  · exact k _

end State.Completes

theorem received_completes {h : PdHead} {s : State} {act : State → State} (hact : ∀ u, s.Keeps pAllButPending u → s.Keeps pAllButPending (act u)) :
    s.Completes (received h s act) := .doneAll <| State.receive_keeps rfl hact <| .refl ..

theorem vdmIn_completes {h : PdHead} {svid cmd : Nat} {s : State} {act dorm : State → State}
    (hact : ∀ u, s.Keeps pAllButPending u → s.Keeps pAllButPending (act u)) (hdorm : ∀ u, s.Keeps pAllButPending u → s.Keeps pAllButPending (dorm u)) :
    s.Completes (vdmIn h svid cmd s act dorm) :=
  received_completes fun _ h => State.byGroup_keeps rfl (fun _ h => (ig_keeps ..).step rfl h) (fun _ h => (ig_keeps ..).step rfl h) hact
    (fun _ h => (State.vdmBusy_keeps ..).step rfl h) hact hdorm h

theorem State.otpCommand_completes (s : State) (hp : HostPort) (v : Word) : s.Completes (s.otpCommand hp v) :=
  .done <| State.command_keeps rfl (fun _ h => (State.otpCmd_keeps ..).step rfl h) <| .refl ..

theorem State.mtrCommand_completes (s : State) (hp : HostPort) (v : Word) : s.Completes (s.mtrCommand hp v) :=
  .done <| State.command_keeps rfl (fun _ h => (State.mtrCmd_keeps ..).step rfl h) <| .refl ..

theorem State.jtlCommand_completes (s : State) (hp : HostPort) (key : Byte) (bit : Nat) : s.Completes (s.jtlCommand hp key bit) :=
  .doneAll <| State.command_keeps rfl (fun _ h => (State.jtlCmd_keeps ..).step rfl h) <| .refl ..

section Commands

open State

/-! ### The commands of Machine/Otp.lean -/

@[simp] theorem execOtpScrub_completes (reads : List OtpRead) (cs : CtrReads) (s : State) : s.Completes (execOtpScrub reads cs s) :=
  .ite .same <| .done <| (autoRepair_keeps ..).step rfl <| (wrapInc_keeps ..).step rfl <| (clear_keeps ..).step rfl <|
    .stepUnless (put_keeps ..) rfl <| (countOtp_keeps ..).step rfl <| (readCounters_keeps ..).step rfl <| (readWordsAt_keeps ..).step rfl <| .refl ..

@[simp] theorem execOtpOverride_completes (hp : HostPort) (addr : BitVec 9) (d1 d0 : BitVec 32) (s : State) : s.Completes (execOtpOverride hp addr d1 d0 s) :=
  .done <| commandAll_keeps rfl (fun _ hu => (setOverride_keeps ..).step rfl hu) <| .refl ..

@[simp] theorem execBurn_completes (hp : HostPort) (key : Byte) (addr : BitVec 9) (s : State) : s.Completes (execBurn hp key addr s) :=
  otpCommand_completes ..

@[simp] theorem execCtrset_completes (hp : HostPort) (key : Byte) (ctr : BitVec 2) (value : BitVec 9) (s : State) : s.Completes (execCtrset hp key ctr value s) :=
  otpCommand_completes ..

@[simp] theorem execRepair_completes (hp : HostPort) (key : Byte) (s : State) : s.Completes (execRepair hp key s) := otpCommand_completes ..

@[simp] theorem execRescrub_completes (hp : HostPort) (key : Byte) (s : State) : s.Completes (execRescrub hp key s) := otpCommand_completes ..

@[simp] theorem execDropovr_completes (hp : HostPort) (key : Byte) (all : Bool) (addr : BitVec 9) (s : State) : s.Completes (execDropovr hp key all addr s) :=
  otpCommand_completes ..

@[simp] theorem execOtpBurnVhvDrop_completes (s : State) : s.Completes (execOtpBurnVhvDrop s) := .done <| (clear_keeps ..).step rfl <| .refl ..

/-! ### The commands of Machine/Meter.lean -/

@[simp] theorem execSecondBoundary_completes (s : State) : s.Completes (execSecondBoundary s) :=
  .done <| (framCopy_keeps ..).step rfl <| (endGap_keeps ..).step rfl <| (alarm_keeps ..).step rfl <| (fire_keeps ..).step rfl <|
    .stepIf (satInc_keeps ..) rfl <| (put_keeps ..).step rfl <| (applyTime_keeps ..).step rfl <| (showMtr_keeps ..).step rfl <|
    .stepIf (put_keeps ..) rfl <| (takeStagedAll_keeps ..).step rfl <| .with_soffit _ rfl <| (endSecond_keeps ..).step rfl <| .refl ..

@[simp] theorem execSofTimeSet_completes (hp : HostPort) (secs : BitVec 32) (s : State) : s.Completes (execSofTimeSet hp secs s) :=
  .done <| command_keeps rfl (fun _ hu => (stageTime_keeps ..).step rfl hu) <| .refl ..

@[simp] theorem execRtcCrystalFail_completes (s : State) : s.Completes (execRtcCrystalFail s) :=
  .ite (.done <| (fire_keeps ..).step rfl <| (raise_keeps ..).step rfl <| (clear_keeps ..).step rfl <| .refl ..) .same

@[simp] theorem execIntegrationTick_completes (reports : List (Option Int)) (s : State) : s.Completes (execIntegrationTick reports s) :=
  .done <| .with_soffit _ rfl <| (takeReports_keeps ..).step rfl <| .refl ..

@[simp] theorem execHousekeepingGainSample_completes (n : Fin 16) (available : Bool) (s : State) : s.Completes (execHousekeepingGainSample n available s) := by
  refine .ite ?_ .same
  split
  exact .done <| (modMeter_keeps ..).step rfl <| (free_keeps_of ‹_›).step rfl <| .refl ..

@[simp] theorem execScheduleEntry_completes (s : State) : s.Completes (execScheduleEntry s) :=
  .done <| .chainIf (.foldl (fun _ _ hu => .either ((offer_keeps ..).step rfl hu) hu) <| .refl ..) <| .either ((offer_keeps ..).step rfl <| .refl ..)
    (.refl ..)

@[simp] theorem execBandSwitch_completes (s : State) : s.Completes (execBandSwitch s) :=
  .done <| (takeBands_keeps ..).step rfl <| (modMtr_keeps ..).step rfl <| (closeDue_keeps ..).step rfl <| .refl ..

@[simp] theorem execDemandClose_completes (s : State) : s.Completes (execDemandClose s) := .done <| (closeDue_keeps ..).step rfl <| .refl ..

@[simp] theorem execSetband_completes (hp : HostPort) (key : Byte) (mask : BitVec 16) (band : BitVec 3) (s : State) : s.Completes (execSetband hp key mask band s) :=
  mtrCommand_completes ..

@[simp] theorem execClrpeak_completes (hp : HostPort) (key : Byte) (mask : BitVec 16) (s : State) : s.Completes (execClrpeak hp key mask s) :=
  mtrCommand_completes ..

@[simp] theorem execCkpt_completes (hp : HostPort) (key : Byte) (s : State) : s.Completes (execCkpt hp key s) := mtrCommand_completes ..

@[simp] theorem execEnergyCheckpoint_completes (s : State) : s.Completes (execEnergyCheckpoint s) := .done <| (logEnergy_keeps ..).step rfl <| .refl ..

@[simp] theorem execSlateRecordWrite_completes (s : State) : s.Completes (execSlateRecordWrite s) := by
  unfold execSlateRecordWrite
  split
  · exact .same
  · refine .ite (.done <| (modSlate_keeps ..).step rfl <| .refl ..) ?_
    refine .ite ?_ .same
    split
    · exact .done <| (modSlate_keeps ..).step rfl <| (ringWrite_keeps_of ‹_›).step rfl <| .refl ..
    · exact .same

@[simp] theorem execSectorErase_completes (s : State) : s.Completes (execSectorErase s) := by
  refine .ite ?_ .same
  have erased (x : Sector) : s.Completes (done (s.eraseSector x)) := .done <| (eraseSector_keeps ..).step rfl <| .refl ..
  split
  · exact .same
  · split
    · refine .ite ?_ (erased _)
      extract_lets r
      split
      · exact .done <| (eraseSector_keeps ..).step rfl <| (energyTaken_keeps ..).step rfl <| (ringWrite_keeps_of ‹_›).step rfl <| .refl ..
      · exact .same
    · exact erased _

@[simp] theorem execEnergyRestore_completes (bad : List (BitVec 32)) (framOk : Bool) (s : State) : s.Completes (execEnergyRestore bad framOk s) := by
  refine .ite .same ?_
  split
  · exact .done <| (raise_keeps ..).step rfl <| .refl ..
  · exact .done <| (raise_keeps ..).step rfl <| (logRestore_keeps ..).step rfl <| .stepIf (logShort_keeps ..) rfl <| (beginGap_keeps ..).step rfl <|
      .foldl (fun _ _ hu => (restorePort_keeps ..).step rfl hu) <| .refl ..

@[simp] theorem execSlateWindowRead_completes (hp : HostPort) (off : BitVec 32) (s : State) : s.Completes (execSlateWindowRead hp off s) :=
  .done <| command_keeps rfl (fun _ hu => (slateWindow_keeps ..).step rfl hu) <| .refl ..

@[simp] theorem execQueueDrain_completes (s : State) : s.Completes (execQueueDrain s) := .done <| (drainBlock_keeps ..).step rfl <| .refl ..

/-! ### The commands of Machine/Pd.lean -/

@[simp] theorem execTfirstcapExpire_completes (n : Fin 16) (s : State) : s.Completes (execTfirstcapExpire n s) :=
  .ite (.doneAll <| (afterDisc_keeps ..).step rfl <| (modPd_keeps ..).step rfl <| .refl ..) .same

@[simp] theorem execTtypecSendSourceCap_completes (n : Fin 16) (s : State) : s.Completes (execTtypecSendSourceCap n s) :=
  .ite (.ite (.done1 <| (setP_keeps ..).step rfl <| .refl ..) <| .doneAll <| (sendOffer_keeps ..).step rfl <| .refl ..) .same

@[simp] theorem execTsenderResponse_completes (n : Fin 16) (s : State) : s.Completes (execTsenderResponse n s) :=
  .ite .same <| .ite (.doneAll <| (sinkHard_keeps ..).step rfl <| .refl ..) <| .ite (.doneAll <| (hardReset_keeps ..).step rfl <| .refl ..) <|
    .ite (.doneAll <| (endAms_keeps ..).step rfl <| .refl ..) .same

@[simp] theorem execGoodcrc_completes (n : Fin 16) (s : State) : s.Completes (execGoodcrc n s) := by
  refine .ite .same ?_
  split
  · exact .same
  · exact .doneAll <| (afterGoodCrc_keeps ..).step rfl <| (modPd_keeps ..).step rfl <| .refl ..

@[simp] theorem execTreceive_completes (n : Fin 16) (s : State) : s.Completes (execTreceive n s) := by
  refine .ite .same ?_
  split
  · exact .same
  · exact .ite (.done <| (modPd_keeps ..).step rfl <| .refl ..) <| .doneAll <| .stepIf (setP_keeps ..) rfl <| (sendFailed_keeps ..).step rfl <|
      (modPd_keeps ..).step rfl <| .refl ..

@[simp] theorem execCrcError_completes (n : Fin 16) (s : State) : s.Completes (execCrcError n s) :=
  .ite (.done <| (satInc_keeps ..).step rfl <| .refl ..) .same

@[simp] theorem execChunkRequest_completes (h : PdHead) (num : BitVec 4) (s : State) : s.Completes (execChunkRequest h num s) :=
  received_completes (fun _ hu => by
    split
    · exact .either ((send_keeps ..).step rfl hu) hu
    · exact hu)

@[simp] theorem execChunkTimeout_completes (n : Fin 16) (s : State) : s.Completes (execChunkTimeout n s) :=
  .ite .same <| .done <| (modPd_keeps ..).step rfl <| .refl ..

@[simp] theorem execPdRequest_completes (h : PdHead) (rdo : Word) (s : State) : s.Completes (execPdRequest h rdo s) :=
  received_completes (fun _ hu => byGroup_keeps rfl (fun _ hu => (request_keeps ..).step rfl hu) (fun _ hu => (star_keeps ..).step rfl hu)
    (fun _ hu => (request_keeps ..).step rfl hu) (fun _ hu => (send_keeps ..).step rfl hu) (fun _ hu => (sr_keeps ..).step rfl hu)
    (fun _ hu => (sr_keeps ..).step rfl hu) hu)

@[simp] theorem execEprRequest_completes (h : PdHead) (rdo pdo : Word) (s : State) : s.Completes (execEprRequest h rdo pdo s) :=
  received_completes (fun _ hu => byGroup_keeps rfl (fun _ hu => (eprRequest_keeps ..).step rfl hu) (fun _ hu => (star_keeps ..).step rfl hu)
    (fun _ hu => (eprRequest_keeps ..).step rfl hu) (fun _ hu => (send_keeps ..).step rfl hu) (fun _ hu => (sr_keeps ..).step rfl hu)
    (fun _ hu => (sr_keeps ..).step rfl hu) hu)

@[simp] theorem execTsrcTransition_completes (n : Fin 16) (s : State) : s.Completes (execTsrcTransition n s) := by
  refine .ite ?_ .same
  split
  · exact .ite .same <| .done1 <| (applyTransition_keeps ..).step rfl <| (takeTransition_keeps_of ‹_›).step rfl <| .refl ..
  · exact .same

@[simp] theorem execVbusSettled_completes (n : Fin 16) (s : State) : s.Completes (execVbusSettled n s) :=
  .ite (.doneAll <| (psRdyOut_keeps ..).step rfl <| .refl ..) <| .ite (.done <| (raise_keeps ..).step rfl <| .refl ..) .same

@[simp] theorem execSettleTimeout_completes (n : Fin 16) (s : State) : s.Completes (execSettleTimeout n s) :=
  .ite (.doneAll <| (tallyLoop_keeps ..).step rfl <| (hardReset_keeps ..).step rfl <| .refl ..) .same

@[simp] theorem execTppsTimeout_completes (n : Fin 16) (s : State) : s.Completes (execTppsTimeout n s) :=
  .ite (.doneAll <| (hardReset_keeps ..).step rfl <| .refl ..) .same

@[simp] theorem execEprModeEnter_completes (h : PdHead) (s : State) : s.Completes (execEprModeEnter h s) :=
  received_completes (fun _ hu => byGroup_keeps rfl (fun _ hu => (star_keeps ..).step rfl hu) (fun _ hu => (star_keeps ..).step rfl hu)
    (fun _ hu => (send_keeps ..).step rfl <| (setP_keeps ..).step rfl hu) (fun _ hu => (send_keeps ..).step rfl hu)
    (fun _ hu => (sr_keeps ..).step rfl hu) (fun _ hu => (sr_keeps ..).step rfl hu) hu)

@[simp] theorem execEprModeExit_completes (h : PdHead) (s : State) : s.Completes (execEprModeExit h s) :=
  received_completes (fun _ hu => byGroup_keeps rfl (fun _ hu => (star_keeps ..).step rfl hu) (fun _ hu => (star_keeps ..).step rfl hu)
    (fun _ hu => (eprExitIn_keeps ..).step rfl hu) (fun _ hu => (eprExitBrace_keeps ..).step rfl hu) (fun _ hu => (sr_keeps ..).step rfl hu)
    (fun _ hu => (sr_keeps ..).step rfl hu) hu)

@[simp] theorem execTsourceEprKeepalive_completes (n : Fin 16) (s : State) : s.Completes (execTsourceEprKeepalive n s) :=
  .ite (.doneAll <| (hardReset_keeps ..).step rfl <| .refl ..) .same

@[simp] theorem execEprKeepalive_completes (h : PdHead) (s : State) : s.Completes (execEprKeepalive h s) :=
  received_completes (fun _ hu => byGroup_keeps rfl (fun _ hu => (star_keeps ..).step rfl hu) (fun _ hu => (star_keeps ..).step rfl hu)
    (fun _ hu => .either ((send_keeps ..).step rfl hu) ((softReset_keeps ..).step rfl hu)) (fun _ hu => .either ((send_keeps ..).step rfl hu) hu)
    (fun _ hu => (sr_keeps ..).step rfl hu) (fun _ hu => (sr_keeps ..).step rfl hu) hu)

@[simp] theorem execHardReset_completes (n : Fin 16) (s : State) : s.Completes (execHardReset n s) :=
  .ite (.doneAll <| (hardReset_keeps ..).step rfl <| .refl ..) .same

@[simp] theorem execTpsHardReset_completes (n : Fin 16) (s : State) : s.Completes (execTpsHardReset n s) :=
  .ite (.done1 <| (setEff_keeps ..).step rfl <| (discharge_keeps ..).step rfl <| (showRef_keeps ..).step rfl <| (modLoop_keeps ..).step rfl <|
    (setTarget_keeps ..).step rfl <| .refl ..) .same

@[simp] theorem execTsrcRecover_completes (n : Fin 16) (s : State) : s.Completes (execTsrcRecover n s) :=
  .ite (.done1 <| (setEff_keeps ..).step rfl <| (implicitCurve_keeps ..).step rfl <| .stepIf (seeVbus_keeps ..) rfl <| (modPd_keeps ..).step rfl <|
    (vconnOn_keeps ..).step rfl <| (put_keeps ..).step rfl <| (setTarget_keeps ..).step rfl <| (put_keeps ..).step rfl <| (put_keeps ..).step rfl <|
    (modLoop_keeps ..).step rfl <| (legsArm_keeps ..).step rfl <| (setGut_keeps ..).step rfl <| .refl ..) .same

@[simp] theorem execSoftReset_completes (h : PdHead) (s : State) : s.Completes (execSoftReset h s) :=
  .ite .same <| .doneAll <| .chainEither ((sendOffer_keeps ..).step rfl <| .refl ..) ((softIn_keeps ..).step rfl <| .refl ..) <|
    (takeHead_keeps ..).step rfl <| .refl ..

@[simp] theorem execDrSwap_completes (h : PdHead) (s : State) : s.Completes (execDrSwap h s) :=
  received_completes (fun _ hu => byGroup_keeps rfl (fun _ hu => (star_keeps ..).step rfl hu) (fun _ hu => (star_keeps ..).step rfl hu)
    (fun _ hu => (drSwapIn_keeps ..).step rfl hu) (fun _ hu => (send_keeps ..).step rfl hu) (fun _ hu => (drSwapIn_keeps ..).step rfl hu)
    (fun _ hu => (send_keeps ..).step rfl hu) hu)

@[simp] theorem execDrSwapRetry_completes (n : Fin 16) (s : State) : s.Completes (execDrSwapRetry n s) :=
  .ite (.done1 <| .chainEither ((beginAms_keeps ..).step rfl <| .refl ..) ((hold_keeps ..).step rfl <| .refl ..) <| (modPd_keeps ..).step rfl <|
    .refl ..) .same

@[simp] theorem execSendcaps_completes (hp : HostPort) (n : Fin 16) (s : State) : s.Completes (execSendcaps hp n s) :=
  .doneAll <| command_keeps rfl (fun _ hu => (cmdSendcaps_keeps ..).step rfl hu) <| .refl ..

@[simp] theorem execHardreset_completes (hp : HostPort) (n : Fin 16) (s : State) : s.Completes (execHardreset hp n s) :=
  .doneAll <| command_keeps rfl (fun _ hu => (cmdHardreset_keeps ..).step rfl hu) <| .refl ..

@[simp] theorem execSoftreset_completes (hp : HostPort) (n : Fin 16) (s : State) : s.Completes (execSoftreset hp n s) :=
  .doneAll <| command_keeps rfl (fun _ hu => (cmdSoftreset_keeps ..).step rfl hu) <| .refl ..

@[simp] theorem execDrswap_completes (hp : HostPort) (n : Fin 16) (s : State) : s.Completes (execDrswap hp n s) :=
  .doneAll <| command_keeps rfl (fun _ hu => (cmdDrswap_keeps ..).step rfl hu) <| .refl ..

@[simp] theorem execEprexit_completes (hp : HostPort) (n : Fin 16) (s : State) : s.Completes (execEprexit hp n s) :=
  .doneAll <| command_keeps rfl (fun _ hu => (cmdEprexit_keeps ..).step rfl hu) <| .refl ..

@[simp] theorem execInputWarning_completes (s : State) : s.Completes (execInputWarning s) := .doneAll <| (inputWarning_keeps ..).step rfl <| .refl ..

@[simp] theorem execInwarnRelease_completes (s : State) : s.Completes (execInwarnRelease s) :=
  .ite .same <| .doneAll <| (inputWarningEnd_keeps ..).step rfl <| .refl ..

/-! ### The commands of Machine/Sink.lean -/

@[simp] theorem execSourceCapabilities_completes (h : PdHead) (caps : CapsIn) (s : State) : s.Completes (execSourceCapabilities h caps s) :=
  received_completes (fun _ hu => byGroup_keeps rfl (fun _ hu => (star_keeps ..).step rfl hu) (fun _ hu => (star_keeps ..).step rfl hu)
    (fun _ hu => (sr_keeps ..).step rfl hu) (fun _ hu => (ig_keeps ..).step rfl hu) (fun _ hu => (capsIn_keeps ..).step rfl hu)
    (fun _ hu => (capsIn_keeps ..).step rfl hu) hu)

@[simp] theorem execPsRdy_completes (h : PdHead) (s : State) : s.Completes (execPsRdy h s) :=
  received_completes (fun _ hu => byGroup_keeps rfl (fun _ hu => (star_keeps ..).step rfl hu) (fun _ hu => (star_keeps ..).step rfl hu)
    (fun _ hu => (sr_keeps ..).step rfl hu) (fun _ hu => (ig_keeps ..).step rfl hu) (fun _ hu => .either ((sinkReady_keeps ..).step rfl hu)
    ((softReset_keeps ..).step rfl hu)) (fun _ hu => .either ((sinkReady_keeps ..).step rfl hu) ((softReset_keeps ..).step rfl hu)) hu)

@[simp] theorem execReversePushStop_completes (n : Fin 16) (s : State) : s.Completes (execReversePushStop n s) :=
  .ite (.done1 <| (legsOff_keeps ..).step rfl <| .refl ..) .same

@[simp] theorem execAcceptMsg_completes (h : PdHead) (s : State) : s.Completes (execAcceptMsg h s) :=
  received_completes (fun _ hu => byGroup_keeps rfl (fun _ hu => (star_keeps ..).step rfl hu) (fun _ hu => (acceptIn_keeps ..).step rfl hu)
    (fun _ hu => endsAms_keeps rfl (fun _ hu => (acceptIn_keeps ..).step rfl hu) hu) (fun _ hu => (ig_keeps ..).step rfl hu)
    (fun _ hu => endsAms_keeps rfl (fun _ hu => (acceptIn_keeps ..).step rfl hu) hu) (fun _ hu => endsAms_keeps rfl
    (fun _ hu => (acceptIn_keeps ..).step rfl hu) hu) hu)

@[simp] theorem execRejectMsg_completes (h : PdHead) (s : State) : s.Completes (execRejectMsg h s) :=
  received_completes (fun _ hu => byGroup_keeps rfl (fun _ hu => (star_keeps ..).step rfl hu) (fun _ hu => (rejectIn_keeps ..).step rfl hu)
    (fun _ hu => endsAms_keeps rfl (fun _ hu => (rejectIn_keeps ..).step rfl hu) hu) (fun _ hu => (ig_keeps ..).step rfl hu)
    (fun _ hu => endsAms_keeps rfl (fun _ hu => (rejectIn_keeps ..).step rfl hu) hu) (fun _ hu => endsAms_keeps rfl
    (fun _ hu => (rejectIn_keeps ..).step rfl hu) hu) hu)

@[simp] theorem execWaitMsg_completes (h : PdHead) (s : State) : s.Completes (execWaitMsg h s) :=
  received_completes (fun _ hu => byGroup_keeps rfl (fun _ hu => (star_keeps ..).step rfl hu) (fun _ hu => (waitIn_keeps ..).step rfl hu)
    (fun _ hu => endsAms_keeps rfl (fun _ hu => (waitIn_keeps ..).step rfl hu) hu) (fun _ hu => (ig_keeps ..).step rfl hu)
    (fun _ hu => endsAms_keeps rfl (fun _ hu => (waitIn_keeps ..).step rfl hu) hu) (fun _ hu => endsAms_keeps rfl
    (fun _ hu => (waitIn_keeps ..).step rfl hu) hu) hu)

@[simp] theorem execTsinkWaitCap_completes (n : Fin 16) (s : State) : s.Completes (execTsinkWaitCap n s) :=
  .ite (.done1 <| (hardReset_keeps ..).step rfl <| .refl ..) .same

@[simp] theorem execTsinkRequest_completes (n : Fin 16) (s : State) : s.Completes (execTsinkRequest n s) :=
  .ite (.done1 <| .stepIf (sendRequest_keeps ..) rfl <| (modPd_keeps ..).step rfl <| .refl ..) .same

@[simp] theorem execTpsTransition_completes (n : Fin 16) (s : State) : s.Completes (execTpsTransition n s) :=
  .ite (.done1 <| (sinkHard_keeps ..).step rfl <| .refl ..) .same

@[simp] theorem execSinkHrVbusReturn_completes (n : Fin 16) (s : State) : s.Completes (execSinkHrVbusReturn n s) :=
  .ite (.done1 <| (sinkRestart_keeps ..).step rfl <| .refl ..) .same

@[simp] theorem execSinkHrVbusHeld_completes (n : Fin 16) (s : State) : s.Completes (execSinkHrVbusHeld n s) :=
  .ite (.done1 <| (sinkRestart_keeps ..).step rfl <| .refl ..) .same

@[simp] theorem execTsnkhrwait_completes (n : Fin 16) (s : State) : s.Completes (execTsnkhrwait n s) :=
  .ite (.done1 <| (detach_keeps ..).step rfl <| .refl ..) .same

/-! ### The commands of Machine/Cc.lean -/

@[simp] theorem execCcClassChange_completes (n : Fin 16) (c1 c2 : CcClass) (s : State) : s.Completes (execCcClassChange n c1 c2 s) :=
  .ite .same <| .done1 <| .stepIf (candidate_keeps ..) rfl <| .stepIf (modPort_keeps ..) rfl <| .stepIf (clear_keeps ..) rfl <|
    (put_keeps ..).step rfl <| (put_keeps ..).step rfl <| .refl ..

@[simp] theorem execAttachedSrc_completes (n : Fin 16) (below : Bool) (s : State) : s.Completes (execAttachedSrc n below s) :=
  .ite (.done1 <| (tryAttachSrc_keeps ..).step rfl <| (seeVbus_keeps ..).step rfl <| .refl ..) .same

@[simp] theorem execPdDebounceExpire_completes (n : Fin 16) (s : State) : s.Completes (execPdDebounceExpire n s) :=
  .ite (.done1 <| (enterUnattached_keeps ..).step rfl <| .refl ..) .same

@[simp] theorem execLoadProbeStart_completes (n : Fin 16) (below : Bool) (s : State) : s.Completes (execLoadProbeStart n below s) :=
  .ite (.ite (.done <| (wr_keeps ..).step rfl <| (seeVbus_keeps ..).step rfl <| .refl ..) <| .ite (.done <| (wr_keeps ..).step rfl <|
    (seeVbus_keeps ..).step rfl <| .refl ..) <| .done <| (modPort_keeps ..).step rfl <| (seeVbus_keeps ..).step rfl <| .refl ..) .same

@[simp] theorem execLoadProbeEnd_completes (n : Fin 16) (reached : Bool) (t v25 v5 : Nat) (s : State) : s.Completes (execLoadProbeEnd n reached t v25 v5 s) :=
  .ite (.ite (.done1 <| (tallyLatch_keeps ..).step rfl <| (errRec_keeps ..).step rfl <| (firePort_keeps ..).step rfl <|
    (modPort_keeps ..).step rfl <| (wr_keeps ..).step rfl <| .refl ..) <| .done1 <| (modPort_keeps ..).step rfl <| (wr_keeps ..).step rfl <|
    .refl ..) .same

@[simp] theorem execSrcDisconnect_completes (n : Fin 16) (s : State) : s.Completes (execSrcDisconnect n s) :=
  .ite (.done1 <| (detach_keeps ..).step rfl <| .refl ..) .same

@[simp] theorem execErrorRecoveryExit_completes (n : Fin 16) (s : State) : s.Completes (execErrorRecoveryExit n s) :=
  .ite (.done1 <| (leaveErrRec_keeps ..).step rfl <| (modPort_keeps ..).step rfl <| .refl ..) .same

@[simp] theorem execUnattachedWaitExit_completes (n : Fin 16) (s : State) : s.Completes (execUnattachedWaitExit n s) :=
  .ite (.done1 <| .either ((enterDisabled_keeps ..).step rfl <| .refl ..) ((enterUnattached_keeps ..).step rfl <| .refl ..)) .same

@[simp] theorem execAttachedSnk_completes (n : Fin 16) (rp : Fin 4) (vbus4 : Bool) (s : State) : s.Completes (execAttachedSnk n rp vbus4 s) :=
  .ite (.ite (.done1 <| (raise_keeps ..).step rfl <| .refl ..) <| .ite (.done1 <| (wake_keeps ..).step rfl <| (setSink_keeps ..).step rfl <|
    (startRole_keeps ..).step rfl <| (freshPd_keeps ..).step rfl <| (firePort_keeps ..).step rfl <| (wrapInc_keeps ..).step rfl <|
    (setCc_keeps ..).step rfl <| (seeVbus_keeps ..).step rfl <| (put_keeps ..).step rfl <| (clear_keeps ..).step rfl <| (flag_keeps ..).step rfl <|
    .refl ..) .same) .same

@[simp] theorem execSinkVbusLoss_completes (n : Fin 16) (mv : Nat) (s : State) : s.Completes (execSinkVbusLoss n mv s) :=
  .ite (.done1 <| (detach_keeps ..).step rfl <| .refl ..) .same

@[simp] theorem execSinkRpChange_completes (n : Fin 16) (rp : Fin 4) (s : State) : s.Completes (execSinkRpChange n rp s) :=
  .ite (.doneAll <| (sinkGo_keeps ..).step rfl <| (put_keeps ..).step rfl <| .refl ..) .same

@[simp] theorem execCcOvervoltage_completes (n : Fin 16) (pin : Fin 2) (on : Bool) (s : State) : s.Completes (execCcOvervoltage n pin on s) :=
  .ite .same <| .ite (.done1 <| (ccTrip_keeps ..).step rfl <| .refl ..) <| .done1 <| (leaveErrRec_keeps ..).step rfl <|
    .stepIf (clear_keeps ..) rfl <| .stepIf (clear_keeps ..) rfl <| (modPort_keeps ..).step rfl <| (level_keeps ..).step rfl <| .refl ..

@[simp] theorem execVconnFault_completes (n : Fin 16) (s : State) : s.Completes (execVconnFault n s) := by
  refine .ite ?_ .same
  refine .doneAll <| (afterCableLoss_keeps ..).step rfl <| (discOver_keeps ..).step rfl <| ?_
  split
  · exact (modPort_keeps ..).step rfl <| (raise_keeps ..).step rfl <| (tallyAdd_keeps_of ‹_›).step rfl <| (cableUnknown_keeps ..).step rfl <|
      (raise_keeps ..).step rfl <| (satInc_keeps ..).step rfl <| (raise_keeps ..).step rfl <| (firePort_keeps ..).step rfl <|
      (vconnOff_keeps ..).step rfl <| .refl ..
  · exact (tallyAdd_keeps_of ‹_›).step rfl <| (cableUnknown_keeps ..).step rfl <| (raise_keeps ..).step rfl <| (satInc_keeps ..).step rfl <|
      (raise_keeps ..).step rfl <| (firePort_keeps ..).step rfl <| (vconnOff_keeps ..).step rfl <| .refl ..

@[simp] theorem execDiscdlyExpire_completes (n : Fin 16) (s : State) : s.Completes (execDiscdlyExpire n s) :=
  .ite (.done1 <| (discover_keeps ..).step rfl <| .refl ..) .same

@[simp] theorem execTdiscoverIdentity_completes (n : Fin 16) (s : State) : s.Completes (execTdiscoverIdentity n s) :=
  .ite .same <| .ite (.ite (.doneAll <| (discOver_keeps ..).step rfl <| .refl ..) <| .ite (.doneAll <| (discOver_keeps ..).step rfl <|
    (cableUnknown_keeps ..).step rfl <| .refl ..) <| .ite (.done1 <| (discover_keeps ..).step rfl <| .refl ..) <| .doneAll <|
    (discOver_keeps ..).step rfl <| .refl ..) <| .ite (.done1 <| (farAttempt_keeps ..).step rfl <| .refl ..) <| .doneAll <|
    (discOver_keeps ..).step rfl <| .refl ..

@[simp] theorem execCableAck_completes (h : CableHead) (idHdr vdo : Word) (s : State) : s.Completes (execCableAck h idHdr vdo s) :=
  .ite (.doneAll <| (discovered_keeps ..).step rfl <| (cableRecord_keeps ..).step rfl <| (keepId_keeps ..).step rfl <| .refl ..) .same

@[simp] theorem execCableNak_completes (h : CableMiss) (s : State) : s.Completes (execCableNak h s) := by
  refine .ite .same ?_
  split
  · exact .ite .same <| .doneAll <| (discOver_keeps ..).step rfl <| (cableUnknown_keeps ..).step rfl <| (keepId_keeps ..).step rfl <| .refl ..
  · exact .ite (.doneAll <| (discOver_keeps ..).step rfl <| (cableUnknown_keeps ..).step rfl <| .refl ..) .same

@[simp] theorem execFarAck_completes (h : CableHead) (vdo : Word) (s : State) : s.Completes (execFarAck h vdo s) :=
  .ite (.doneAll <| (discOver_keeps ..).step rfl <| (raise_keeps ..).step rfl <| (wr_keeps ..).step rfl <| (keepId_keeps ..).step rfl <|
    .refl ..) .same

@[simp] theorem execCcrefCapture_completes (n : Fin 16) (lvl : BitVec 16) (s : State) : s.Completes (execCcrefCapture n lvl s) :=
  .ite (.done <| (raise_keeps ..).step rfl <| (put_keeps ..).step rfl <| (put_keeps ..).step rfl <| .refl ..) .same

@[simp] theorem execTsinktxExpire_completes (n : Fin 16) (s : State) : s.Completes (execTsinktxExpire n s) := by
  refine .ite ?_ .same
  split
  · exact .same
  · exact .doneAll <| (amsFirst_keeps ..).step rfl <| (modPd_keeps ..).step rfl <| .refl ..

@[simp] theorem execPccDisable_completes (hp : HostPort) (n : Fin 16) (d : Bool) (s : State) : s.Completes (execPccDisable hp n d s) :=
  .doneAll <| command_keeps rfl (fun _ hu => (setDisable_keeps ..).step rfl hu) <| .refl ..

@[simp] theorem execRedisc_completes (hp : HostPort) (n : Fin 16) (s : State) : s.Completes (execRedisc hp n s) :=
  .doneAll <| commandSt_keeps rfl (fun _ hu => (redisc_keeps ..).step rfl hu) <| .refl ..

@[simp] theorem execClrlatch_completes (hp : HostPort) (n : Fin 16) (s : State) : s.Completes (execClrlatch hp n s) :=
  .doneAll <| command_keeps rfl (fun _ hu => (clrLatch_keeps ..).step rfl hu) <| .refl ..

@[simp] theorem execErrrec_completes (hp : HostPort) (n : Fin 16) (s : State) : s.Completes (execErrrec hp n s) :=
  .doneAll <| command_keeps rfl (fun _ hu => (goErrRec_keeps ..).step rfl hu) <| .refl ..

@[simp] theorem execVbusBelowVsafe0v_completes (n : Fin 16) (s : State) : s.Completes (execVbusBelowVsafe0v n s) :=
  .ite .same <| .ite (.done1 <| (tryAttachSrc_keeps ..).step rfl <| (clear_keeps ..).step rfl <| (seeVbus_keeps ..).step rfl <| .refl ..) <|
    .ite (.done1 <| (legsOff_keeps ..).step rfl <| (seeVbus_keeps ..).step rfl <| .refl ..) <| .done1 <| (leaveErrRec_keeps ..).step rfl <|
    (seeVbus_keeps ..).step rfl <| .refl ..

/-! ### The commands of Machine/Valley.lean -/

@[simp] theorem execValOv_completes (n : Fin 16) (c : Stood) (at_ : Nat) (s : State) : s.Completes (execValOv n c at_ s) :=
  .ite .same <| .done1 <| (ovOutput_keeps ..).step rfl <| .refl ..

@[simp] theorem execValUv_completes (n : Fin 16) (c : Stood) (s : State) : s.Completes (execValUv n c s) :=
  .ite .same <| .done1 <| (uvOutput_keeps ..).step rfl <| .refl ..

@[simp] theorem execValFi_completes (n : Fin 16) (c : Stood) (at_ : Nat) (s : State) : s.Completes (execValFi n c at_ s) :=
  .ite .same <| .done1 <| (fiOutput_keeps ..).step rfl <| .refl ..

@[simp] theorem execThresholdUpdate_completes (n : Fin 16) (s : State) : s.Completes (execThresholdUpdate n s) :=
  .ite .same <| .done1 <| .foldl (fun _ _ hu => (dropDisabled_keeps ..).step rfl hu) <| (modPort_keeps ..).step rfl <|
    (setWindow_keeps ..).step rfl <| .refl ..

@[simp] theorem execGpcCrossing_completes (k : Fin 8) (c : Stood) (s : State) : s.Completes (execGpcCrossing k c s) :=
  .ite .same <| .doneAll <| (gpcOutput_keeps ..).step rfl <| .refl ..

@[simp] theorem execGpcSlopeSample_completes (k : Fin 8) (code : BitVec 12) (s : State) : s.Completes (execGpcSlopeSample k code s) :=
  .ite (.done <| .stepIf (gpcOutput_keeps ..) rfl <| (modBat_keeps ..).step rfl <| .refl ..) .same

@[simp] theorem execSelfCheck_completes (unit : Fin 24) (s : State) : s.Completes (execSelfCheck unit s) := by
  refine .dite (fun _ => ?_) (fun _ => ?_)
  · exact .done <| .either ((startCheck_keeps ..).step rfl <| .refl ..) (.refl ..)
  · exact .ite .same <| .done <| (gpcCheck_keeps ..).step rfl <| .refl ..

@[simp] theorem execSelfCheckResult_completes (unit : Fin 24) (ok : Bool) (s : State) : s.Completes (execSelfCheckResult unit ok s) := by
  refine .dite (fun _ => ?_) (fun _ => ?_)
  · extract_lets n
    split
    · exact .same
    · exact .done1 <| (checkNext_keeps ..).step rfl <| .chainEither ((checkPass_keeps ..).step rfl <| .refl ..) ((checkFail_keeps ..).step rfl <|
        .refl ..) <| .refl ..
  · refine .ite (.done <| (fire_keeps ..).step rfl ?_) .same
    exact .chainEither ((maskBit_keeps ..).step rfl <| .refl ..) ((tallyPlain_keeps ..).step rfl <| (fire_keeps ..).step rfl <|
      (maskBit_keeps ..).step rfl <| .refl ..) <| (setGpcTest_keeps ..).step rfl <| .refl ..

@[simp] theorem execLoggedEdge_completes (s : State) : s.Completes (execLoggedEdge s) := by
  refine .ite .same ?_
  split
  · exact .same
  · exact .doneAll <| (deliverEdge_keeps ..).step rfl <| (modBat_keeps ..).step rfl <| .refl ..

@[simp] theorem execTallyBinAdvance_completes (t : Fin 144) (s : State) : s.Completes (execTallyBinAdvance t s) :=
  .ite (.done <| (setBins_keeps ..).step rfl <| .refl ..) .same

@[simp] theorem execHirqClear_completes (hp : HostPort) (mask : Word) (s : State) : s.Completes (execHirqClear hp mask s) :=
  .done <| command_keeps rfl (fun _ hu => (irqClear_keeps ..).step rfl hu) <| .refl ..

@[simp] theorem execTallyclr_completes (hp : HostPort) (key tid : Byte) (s : State) : s.Completes (execTallyclr hp key tid s) :=
  .done <| command_keeps rfl (fun _ hu => (tallyClear_keeps ..).step rfl hu) <| .refl ..

@[simp] theorem execCntclr_completes (hp : HostPort) (key : Byte) (s : State) : s.Completes (execCntclr hp key s) :=
  .done <| command_keeps rfl (fun _ hu => (cntClear_keeps ..).step rfl hu) <| .refl ..

@[simp] theorem execValst_completes (hp : HostPort) (key : Byte) (s : State) : s.Completes (execValst hp key s) :=
  .done <| command_keeps rfl (fun _ hu => (checkAll_keeps ..).step rfl hu) <| .refl ..

@[simp] theorem execSwevt_completes (hp : HostPort) (key : Byte) (s : State) : s.Completes (execSwevt hp key s) :=
  .done <| command_keeps rfl (fun _ hu => (fire_keeps ..).step rfl hu) <| .refl ..

@[simp] theorem execTsclr_completes (hp : HostPort) (key : Byte) (s : State) : s.Completes (execTsclr hp key s) :=
  .done <| command_keeps rfl (fun _ hu => (tsClear_keeps ..).step rfl hu) <| .refl ..

@[simp] theorem execGpcsel_completes (hp : HostPort) (key mask : Byte) (s : State) : s.Completes (execGpcsel hp key mask s) :=
  .done <| command_keeps rfl (fun _ hu => (gpcCheck_keeps ..).step rfl hu) <| .refl ..

@[simp] theorem execBatTrscutWrite_completes (hp : HostPort) (watts : BitVec 16) (s : State) : s.Completes (execBatTrscutWrite hp watts s) :=
  .done <| command_keeps rfl (fun _ hu => (writeCut_keeps ..).step rfl hu) <| .refl ..

/-! ### The commands of Machine/Boot.lean -/

@[simp] theorem execPowerOnReset_completes (s : State) : s.Completes (execPowerOnReset s) := .done <| (powerOn_keeps ..).step rfl <| .refl ..

@[simp] theorem execVddValid_completes (s : State) : s.Completes (execVddValid s) :=
  .ite (.done <| (followFeed_keeps ..).step rfl <| (raise_keeps ..).step rfl <| .refl ..) <| .done <| (put_keeps ..).step rfl <|
    (modBoot_keeps ..).step rfl <| (followFeed_keeps ..).step rfl <| (raise_keeps ..).step rfl <| .refl ..

@[simp] theorem execSoffitDcoLock_completes (s : State) : s.Completes (execSoffitDcoLock s) :=
  .done <| .stepIf (put_keeps ..) rfl <| (soffitUp_keeps ..).step rfl <| .refl ..

@[simp] theorem execOtpBootRead_completes (reads : List OtpRead) (cs : CtrReads) (s : State) : s.Completes (execOtpBootRead reads cs s) :=
  .ite (.done <| .stepIf (put_keeps ..) rfl <| (readOtp_keeps ..).step rfl <| .refl ..) .same

@[simp] theorem execReferenceSelect_completes (cycles : Option (BitVec 12)) (s : State) : s.Completes (execReferenceSelect cycles s) := by
  refine .ite ?_ .same
  refine .ite ?_ (.done <| (put_keeps ..).step rfl <| (put_keeps ..).step rfl <| (put_keeps ..).step rfl <| .refl ..)
  split
  · exact .done <| (put_keeps ..).step rfl <| (put_keeps ..).step rfl <| (put_keeps ..).step rfl <| .refl ..
  · exact .done <| (put_keeps ..).step rfl <| (put_keeps ..).step rfl <| (raise_keeps ..).step rfl <| (put_keeps ..).step rfl <| .refl ..

@[simp] theorem execPortgo_completes (hp : HostPort) (go : Bool) (s : State) : s.Completes (execPortgo hp go s) :=
  .done <| command_keeps rfl (fun _ hu => (portGo_keeps ..).step rfl hu) <| .refl ..

@[simp] theorem execBootDone_completes (s : State) : s.Completes (execBootDone s) :=
  .ite (.done <| (followWait_keeps ..).step rfl <| (fire_keeps ..).step rfl <| (modBoot_keeps ..).step rfl <| (put_keeps ..).step rfl <|
    (put_keeps ..).step rfl <| .refl ..) .same

@[simp] theorem execDeadBatterySequence_completes (v0 v1 : Bool) (reads : List OtpRead) (cs : CtrReads) (s : State) :
    s.Completes (execDeadBatterySequence v0 v1 reads cs s) :=
  .ite (.done <| (chooseService_keeps ..).step rfl <| (readOtp_keeps ..).step rfl <| (followFeed_keeps ..).step rfl <|
    (soffitUp_keeps ..).step rfl <| (seeService_keeps ..).step rfl <| .refl ..) <| .done <| (followFeed_keeps ..).step rfl <|
    (soffitUp_keeps ..).step rfl <| (seeService_keeps ..).step rfl <| .refl ..

@[simp] theorem execServiceVbusSample_completes (v0 v1 : Bool) (s : State) : s.Completes (execServiceVbusSample v0 v1 s) :=
  .done <| .stepIf (chooseService_keeps ..) rfl <| (seeService_keeps ..).step rfl <| .refl ..

@[simp] theorem execDepletionRdOff_completes (s : State) : s.Completes (execDepletionRdOff s) :=
  .done <| .foldl (fun _ _ hu => .either ((setRd_keeps ..).step rfl hu) hu) <| .refl ..

@[simp] theorem execServiceLdoStop_completes (s : State) : s.Completes (execServiceLdoStop s) :=
  .ite (.done <| (seeService_keeps ..).step rfl <| .refl ..) <| .ite (.doneAll <| .either ((serviceDown_keeps ..).step rfl <|
    (seeService_keeps ..).step rfl <| .refl ..) ((seeService_keeps ..).step rfl <| .refl ..)) <| .done <| (powerOn_keeps ..).step rfl <|
    (seeService_keeps ..).step rfl <| .refl ..

@[simp] theorem execVddPowerFail_completes (off : BitVec 10) (reports : List (Option Int)) (s : State) : s.Completes (execVddPowerFail off reports s) :=
  .done <| (lastGasp_keeps ..).step rfl <| (level_keeps ..).step rfl <| (raise_keeps ..).step rfl <| .refl ..

@[simp] theorem execVddPowerFailRelease_completes (s : State) : s.Completes (execVddPowerFailRelease s) :=
  .done <| (modMtr_keeps ..).step rfl <| (level_keeps ..).step rfl <| (clear_keeps ..).step rfl <| .refl ..

@[simp] theorem execVddLoss_completes (s : State) : s.Completes (execVddLoss s) :=
  .ite (.done <| (followFeed_keeps ..).step rfl <| .either ((cause_keeps ..).step rfl <| (loseHost_keeps ..).step rfl <| (clear_keeps ..).step rfl <|
    .refl ..) ((clear_keeps ..).step rfl <| .refl ..)) <| .done <| (afterLoss_keeps ..).step rfl <| (clear_keeps ..).step rfl <| .refl ..

@[simp] theorem execVddReturn_completes (s : State) : s.Completes (execVddReturn s) :=
  .done <| .stepIf (hostBack_keeps ..) rfl <| (followFeed_keeps ..).step rfl <| (raise_keeps ..).step rfl <| .refl ..

@[simp] theorem execVhvOvervoltage_completes (s : State) : s.Completes (execVhvOvervoltage s) :=
  .doneAll <| (vhvGone_keeps ..).step rfl <| (followVhv_keeps ..).step rfl <| (modBoot_keeps ..).step rfl <| (level_keeps ..).step rfl <|
    (raise_keeps ..).step rfl <| .refl ..

@[simp] theorem execVhvOvervoltageRelease_completes (s : State) : s.Completes (execVhvOvervoltageRelease s) := .done <| (level_keeps ..).step rfl <| .refl ..

@[simp] theorem execVhvOvRecovery_completes (s : State) : s.Completes (execVhvOvRecovery s) :=
  .ite .same <| .doneAll <| (resumeDrive_keeps ..).step rfl <| (followVhv_keeps ..).step rfl <| (modBoot_keeps ..).step rfl <|
    (clear_keeps ..).step rfl <| .refl ..

@[simp] theorem execVhvUvlo_completes (s : State) : s.Completes (execVhvUvlo s) :=
  .doneAll <| (afterLoss_keeps ..).step rfl <| (vhvLow_keeps ..).step rfl <| (followVhv_keeps ..).step rfl <| (level_keeps ..).step rfl <|
    (clear_keeps ..).step rfl <| (clear_keeps ..).step rfl <| .refl ..

@[simp] theorem execVhvValid_completes (pgm : Bool) (s : State) : s.Completes (execVhvValid pgm s) :=
  .doneAll <| (followFeed_keeps ..).step rfl <| (resumeDrive_keeps ..).step rfl <| (followVhv_keeps ..).step rfl <| (level_keeps ..).step rfl <|
    (flag_keeps ..).step rfl <| (raise_keeps ..).step rfl <| .refl ..

@[simp] theorem execThermalShutdown_completes (s : State) : s.Completes (execThermalShutdown s) :=
  .done <| (resetDevice_keeps ..).step rfl <| (modBoot_keeps ..).step rfl <| .refl ..

@[simp] theorem execThermalRestart_completes (s : State) : s.Completes (execThermalRestart s) :=
  .ite (.done <| (modBoot_keeps ..).step rfl <| .foldl (fun _ _ hu => (setRd_keeps ..).step rfl hu) <| .refl ..) .same

@[simp] theorem execThermalWarning_completes (on : Bool) (s : State) : s.Completes (execThermalWarning on s) :=
  .done <| (thermalLevel_keeps ..).step rfl <| .refl ..

@[simp] theorem execRstN_completes (ns : Nat) (s : State) : s.Completes (execRstN ns s) := by
  refine .ite .same ?_
  refine .ite (.done <| (resetDevice_keeps ..).step rfl <| .refl ..) ?_
  split
  exact .done <| .stepIf (resetDevice_keeps ..) rfl <| (free_keeps_of ‹_›).step rfl <| .refl ..

@[simp] theorem execResetCold_completes (hp : HostPort) (key : Byte) (s : State) : s.Completes (execResetCold hp key s) :=
  .done <| (resetWrite_keeps ..).step rfl <| .refl ..

@[simp] theorem execResetWarm_completes (hp : HostPort) (key : Byte) (s : State) : s.Completes (execResetWarm hp key s) :=
  .done <| (resetWrite_keeps ..).step rfl <| .refl ..

@[simp] theorem execResetRelay_completes (hp : HostPort) (key : Byte) (s : State) : s.Completes (execResetRelay hp key s) :=
  .done <| (resetWrite_keeps ..).step rfl <| .refl ..

@[simp] theorem execRidgeWatchdog_completes (s : State) : s.Completes (execRidgeWatchdog s) :=
  .ite (.doneAll <| (cause_keeps ..).step rfl <| (loseRidge_keeps ..).step rfl <| .refl ..) .same

@[simp] theorem execRidgeReturn_completes (s : State) : s.Completes (execRidgeReturn s) := .ite (.doneAll <| (ridgeBack_keeps ..).step rfl <| .refl ..) .same

@[simp] theorem execRidgeOutageTimeout_completes (s : State) : s.Completes (execRidgeOutageTimeout s) :=
  .ite (.doneAll <| (modRidge_keeps ..).step rfl <| .foldl (fun _ _ hu => .either ((goErrRec_keeps ..).step rfl hu) hu) <| .refl ..) .same

@[simp] theorem execBattenReturn_completes (s : State) : s.Completes (execBattenReturn s) :=
  .ite (.done <| (returnBatten_keeps ..).step rfl <| .refl ..) .same

/-! ### The commands of Machine/Jotil.lean -/

@[simp] theorem execLinkUp_completes (p : Fin 2) (s : State) : s.Completes (execLinkUp p s) :=
  .ite .same <| .done <| .stepUnless (startElection_keeps ..) rfl <| (sendF_keeps ..).step rfl <| .stepIf (sendBest_keeps ..) rfl <|
    (fire_keeps ..).step rfl <| (showLink_keeps ..).step rfl <| .refl ..

@[simp] theorem execLinkDown_completes (p : Fin 2) (beyond : BitVec 16) (s : State) : s.Completes (execLinkDown p beyond s) := by
  refine .ite .same ?_
  extract_lets t₁ other t₂ t
  have ht : s.Keeps pAllButPending t :=
    (abortAndTell_keeps ..).step rfl <| (clear_keeps ..).step rfl <| (modJtl_keeps ..).step rfl <| (tallyPlain_keeps ..).step rfl <|
      (fire_keeps ..).step rfl <| (satInc_keeps ..).step rfl <| (showLink_keeps ..).step rfl <| (disarm_keeps ..).step rfl <| .refl ..
  refine .ite (.done ht) <| .ite (.done <| (loseNodes_keeps ..).step rfl ht) <| .ite ?_ <| .ite (.done ht) <| .done <| (sendF_keeps ..).step rfl <|
    (loseNodes_keeps ..).step rfl ht
  split
  · exact .done <| (setLockPort_keeps ..).step rfl ht
  · exact .done <| (startFreeze_keeps ..).step rfl <| (loseNodes_keeps ..).step rfl ht

@[simp] theorem execClaim_completes (h : JtlHead) (weight : Byte) (est : Bool) (hops : Byte) (serial : BitVec 96) (s : State) :
    s.Completes (execClaim h weight est hops serial s) :=
  .done <| receiveF_keeps rfl (fun _ hu => (adoptClaim_keeps ..).step rfl <| .either ((sendBest_keeps ..).step rfl hu) hu) <| .refl ..

@[simp] theorem execElectionSettle_completes (s : State) : s.Completes (execElectionSettle s) :=
  .ite .same <| .ite (.done <| (modJtl_keeps ..).step rfl <| (sendBest_keeps ..).step rfl <| .refl ..) <| .ite (.done <|
    (becomeLeader_keeps ..).step rfl <| (modJtl_keeps ..).step rfl <| (sendBest_keeps ..).step rfl <| .refl ..) <| .done <|
    (clear_keeps ..).step rfl <| (modJtl_keeps ..).step rfl <| (sendBest_keeps ..).step rfl <| .refl ..

@[simp] theorem execIndexTimeout_completes (s : State) : s.Completes (execIndexTimeout s) :=
  .ite .same <| .done <| (startElection_keeps ..).step rfl <| .refl ..

@[simp] theorem execIndexGenerate_completes (s : State) : s.Completes (execIndexGenerate s) :=
  .ite (.doneAll <| (updIndex_keeps ..).step rfl <| (leaderIndex_keeps ..).step rfl <| .refl ..) <| .ite (.doneAll <|
    (localIndex_keeps ..).step rfl <| .refl ..) .same

@[simp] theorem execIndex_completes (h : JtlHead) (x : IndexInfo) (s : State) : s.Completes (execIndex h x s) :=
  .doneAll <| receiveF_keeps rfl (fun _ hu => .either (.either hu ((startElection_keeps ..).step rfl hu)) (.either ((takeIndex_keeps ..).step rfl hu)
    hu)) <| .either ((seeHops_keeps ..).step rfl <| .refl ..) (.refl ..)

@[simp] theorem execIndexMissing_completes (s : State) : s.Completes (execIndexMissing s) :=
  .ite .same <| .doneAll <| (localIndex_keeps ..).step rfl <| (majorSlip_keeps ..).step rfl <| (disarm_keeps ..).step rfl <| .refl ..

@[simp] theorem execMember_completes (h : JtlHead) (serial : BitVec 96) (mask ilv floor : BitVec 16) (s : State) :
    s.Completes (execMember h serial mask ilv floor s) := by
  refine .done <| receiveF_keeps rfl (fun t ht => ?_) <| .refl ..
  extract_lets u
  have hu : s.Keeps pAllButPending u := (rejoined_keeps ..).step rfl ht
  split
  · exact (modJtl_keeps ..).step rfl <| (setNode_keeps ..).step rfl hu
  · exact (modJtl_keeps ..).step rfl hu

@[simp] theorem execAssign_completes (h : JtlHead) (serial : BitVec 96) (node : Fin 16) (s : State) : s.Completes (execAssign h serial node s) :=
  .done <| receiveF_keeps rfl (fun _ hu => .either hu (.either ((reportFallback_keeps ..).step rfl <| (put_keeps ..).step rfl <|
    (setNode_keeps ..).step rfl hu) ((rejoined_keeps ..).step rfl <| (setNode_keeps ..).step rfl hu))) <| .refl ..

@[simp] theorem execPeriods_completes (h : JtlHead) (ts : List (BitVec 24)) (s : State) : s.Completes (execPeriods h ts s) :=
  .done <| receiveF_keeps rfl (fun _ hu => (modJtl_keeps ..).step rfl hu) <| .refl ..

@[simp] theorem execDemand_completes (h : JtlHead) (demand want floor : BitVec 16) (flags : Byte) (s : State) : s.Completes (execDemand h demand want floor flags s) :=
  .done <| receiveF_keeps rfl (fun _ hu => .either hu (.stepIf (setUnsync_keeps ..) rfl <| (flag_keeps ..).step rfl <| (put_keeps ..).step rfl <|
    (modJtl_keeps ..).step rfl hu)) <| .refl ..

@[simp] theorem execShare_completes (h : JtlHead) (apply : BitVec 32) (ws : List (BitVec 16)) (s : State) : s.Completes (execShare h apply ws s) := by
  refine .done <| receiveF_keeps rfl (fun t ht => .either ht <| .either ((satInc_keeps ..).step rfl ht) ?_) <| .refl ..
  extract_lets u
  have hu : s.Keeps pAllButPending u := by
    refine .foldl (fun v k hv => ?_) ht
    split
    · exact (put_keeps ..).step rfl hv
    · exact hv
  split
  · exact (modJtl_keeps ..).step rfl hu
  · exact hu

@[simp] theorem execPhase_completes (h : JtlHead) (apply : BitVec 32) (ps : List (Fin 16 × BitVec 16)) (s : State) : s.Completes (execPhase h apply ps s) :=
  .done <| receiveF_keeps rfl (fun _ hu => .either ((sendF_keeps ..).step rfl hu) (.either ((satInc_keeps ..).step rfl hu)
    ((modJtl_keeps ..).step rfl hu))) <| .refl ..

@[simp] theorem execSweep_completes (h : JtlHead) (cmd id nph : Byte) (start : BitVec 32) (order : List Byte) (s : State) :
    s.Completes (execSweep h cmd id nph start order s) :=
  .doneAll <| receiveF_keeps rfl (fun _ hu => .either (.either hu ((enterSweep_keeps ..).step rfl hu)) (.either (by
    split
    · exact .either ((endSweep_keeps ..).step rfl hu) hu
    · exact hu) (.either ((abortSweep_keeps ..).step rfl hu) (.either (.either ((startSweep_keeps ..).step rfl hu) hu) hu)))) <| .refl ..

@[simp] theorem execSweepAbort_completes (s : State) : s.Completes (execSweepAbort s) := .doneAll <| (abortAndTell_keeps ..).step rfl <| .refl ..

@[simp] theorem execSweepAbortMeasureLimit_completes (us : BitVec 12) (s : State) : s.Completes (execSweepAbortMeasureLimit us s) :=
  .doneAll <| (closeMeasure_keeps ..).step rfl <| .refl ..

@[simp] theorem execSwres_completes (h : JtlHead) (id first : Byte) (dev : BitVec 32) (ws : List (BitVec 32)) (s : State) :
    s.Completes (execSwres h id first dev ws s) :=
  .done <| receiveF_keeps rfl (fun _ hu => by
    split
    · exact .either ((setSwNode_keeps ..).step rfl <| .foldl (fun _ _ hu => .either ((wr_keeps ..).step rfl hu) hu) hu) hu
    · exact hu) <| .refl ..

@[simp] theorem execChainEvent_completes (h : JtlHead) (k : Fin 4) (node : Byte) (ev data : BitVec 16) (sec : BitVec 32) (usec : BitVec 24) (s : State) :
    s.Completes (execChainEvent h k node ev data sec usec s) :=
  .doneAll <| receiveF_keeps rfl (fun _ hu => .either hu (.either ((satInc_keeps ..).step rfl hu) (.stepUnless (atDest_keeps ..) rfl <|
    (put_keeps ..).step rfl <| (put_keeps ..).step rfl <| (wrapInc_keeps ..).step rfl hu))) <| .refl ..

@[simp] theorem execEcho_completes (h : JtlHead) (reply : Bool) (turn rtt : BitVec 32) (s : State) : s.Completes (execEcho h reply turn rtt s) :=
  .done <| receiveF_keeps rfl (fun _ hu => .either ((clear_keeps ..).step rfl <| (put_keeps ..).step rfl hu) ((sendF_keeps ..).step rfl hu)) <|
    .refl ..

@[simp] theorem execEchoTimeout_completes (p : Fin 2) (s : State) : s.Completes (execEchoTimeout p s) :=
  .ite (.done <| (raise_keeps ..).step rfl <| (put_keeps ..).step rfl <| .refl ..) .same

@[simp] theorem execBudget_completes (h : JtlHead) (watts : BitVec 16) (s : State) : s.Completes (execBudget h watts s) :=
  .done <| receiveF_keeps rfl (fun _ hu => (modJtl_keeps ..).step rfl <| (put_keeps ..).step rfl hu) <| .refl ..

@[simp] theorem execRefuse_completes (h : JtlHead) (seq : Byte) (s : State) : s.Completes (execRefuse h seq s) :=
  .done <| receiveF_keeps rfl (fun _ hu => by
    split
    · exact hu
    · exact (modJtl_keeps ..).step rfl hu) <| .refl ..

@[simp] theorem execFrameRetransmit_completes (seq : Byte) (s : State) : s.Completes (execFrameRetransmit seq s) := by
  unfold execFrameRetransmit
  split
  · exact .same
  · exact .done <| .chainEither ((emit_keeps ..).step rfl <| .refl ..) ((satInc_keeps ..).step rfl <| .refl ..) <| (modJtl_keeps ..).step rfl <|
      .refl ..

@[simp] theorem execLoss_completes (h : JtlHead) (nodes : BitVec 16) (s : State) : s.Completes (execLoss h nodes s) :=
  .doneAll <| receiveF_keeps rfl (fun _ hu => (loseNodes_keeps ..).step rfl hu) <| .refl ..

@[simp] theorem execFrameError_completes (p : Fin 2) (e : LinkErrors) (s : State) : s.Completes (execFrameError p e s) :=
  .ite (.done <| .chainIf ((fire_keeps ..).step rfl <| (satInc_keeps ..).step rfl <| .refl ..) <| (satAdd_keeps ..).step rfl <| .refl ..) .same

@[simp] theorem execJtlClrcnt_completes (hp : HostPort) (key : Byte) (s : State) : s.Completes (execJtlClrcnt hp key s) := jtlCommand_completes ..

@[simp] theorem execSwabort_completes (hp : HostPort) (key : Byte) (s : State) : s.Completes (execSwabort hp key s) := jtlCommand_completes ..

@[simp] theorem execSwstart_completes (hp : HostPort) (key : Byte) (s : State) : s.Completes (execSwstart hp key s) := jtlCommand_completes ..

@[simp] theorem execResync_completes (hp : HostPort) (key : Byte) (s : State) : s.Completes (execResync hp key s) := jtlCommand_completes ..

@[simp] theorem execResign_completes (hp : HostPort) (key : Byte) (s : State) : s.Completes (execResign hp key s) := jtlCommand_completes ..

@[simp] theorem execElect_completes (hp : HostPort) (key : Byte) (s : State) : s.Completes (execElect hp key s) := jtlCommand_completes ..

@[simp] theorem execChainbudgetWrite_completes (hp : HostPort) (watts : BitVec 16) (s : State) : s.Completes (execChainbudgetWrite hp watts s) :=
  .done <| command_keeps rfl (fun _ hu => (writeChainBudget_keeps ..).step rfl hu) <| .refl ..

/-! ### The commands of Machine/Rafter.lean -/

@[simp] theorem execPeriodStart_completes (k : Fin 48) (p : PeriodLate) (s : State) : s.Completes (execPeriodStart k p s) := by
  refine .ite .same ?_
  split
  · exact .same
  next n _ =>
    extract_lets l first s₁ s₂ upd s₃ s₄ s₅
    have h₁ : s.Keeps pAllButPending s₁ := .either ((beginLegs_keeps ..).step rfl <| .refl ..) <| .stepIf (runLeg_keeps ..) rfl <| .refl ..
    have h₂ : s.Keeps pAllButPending s₂ :=
      .chainEither ((modSlice_keeps ..).step rfl <| .refl ..) ((modSlice_keeps ..).step rfl <| (flag_keeps ..).step rfl <|
        (adapt_keeps ..).step rfl <| .refl ..) h₁
    have h₃ : s.Keeps pAllButPending s₃ := .stepIf (updatePoint_keeps ..) rfl h₂
    have h₄ : s.Keeps pAllButPending s₄ := .either ((modSlice_keeps ..).step rfl h₃) <| .either ((modSlice_keeps ..).step rfl h₃) <|
      .stepIf (aimPhase_keeps ..) rfl h₃
    have h₅ : s.Keeps pAllButPending s₅ := .stepIf (takeDuty_keeps ..) rfl h₄
    refine .ite (.done h₁) ?_
    split
    next t s₆ ht =>
      have h₆ : s.Keeps pAllButPending s₆ := by
        split at ht
        · exact (drawPeriod_keeps_of ht).step rfl h₅
        · obtain ⟨-, rfl⟩ := Prod.mk.inj ht
          exact h₅
      exact .done <| (clear_keeps ..).step rfl <| (put_keeps ..).step rfl <| (placeEdges_keeps ..).step rfl h₆

@[simp] theorem execPeriodTop_completes (k : Fin 48) (s : State) : s.Completes (execPeriodTop k s) := by
  refine .ite .same ?_
  refine .ite ?_ (.done <| (modSlice_keeps ..).step rfl <| (raise_keeps ..).step rfl <| (put_keeps ..).step rfl <| .refl ..)
  refine .done <| .chainUnless ((satInc_keeps ..).step rfl <| (raise_keeps ..).step rfl <| .refl ..) <| (modSlice_keeps ..).step rfl <| ?_
  split
  · exact .either ((takeDuty_keeps ..).step rfl <| (raise_keeps ..).step rfl <| (put_keeps ..).step rfl <| .refl ..) ((raise_keeps ..).step rfl <|
      (put_keeps ..).step rfl <| .refl ..)
  · exact (raise_keeps ..).step rfl <| (put_keeps ..).step rfl <| .refl ..

@[simp] theorem execComparePoint_completes (k : Fin 48) (pt : Fin 6) (down : Bool) (s : State) : s.Completes (execComparePoint k pt down s) :=
  .ite .same <| .ite (.done <| (modSlice_keeps ..).step rfl <| .refl ..) <| .ite (.done <| (flagPoint_keeps ..).step rfl <|
    (modSlice_keeps ..).step rfl <| .refl ..) <| .ite (.done <| (flagPoint_keeps ..).step rfl <| (modSlice_keeps ..).step rfl <| .refl ..) <|
    .done <| (fire_keeps ..).step rfl <| (modSlice_keeps ..).step rfl <| (flagPoint_keeps ..).step rfl <| (modSlice_keeps ..).step rfl <| .refl ..

@[simp] theorem execCycleTrip_completes (c : SliceTime) (input : Fin 2) (s : State) : s.Completes (execCycleTrip c input s) :=
  .doneAll <| (cutSlice_keeps ..).step rfl <| (modSlice_keeps ..).step rfl <| .refl ..

@[simp] theorem execBlankingEnd_completes (c : SliceTime) (s : State) : s.Completes (execBlankingEnd c s) :=
  .doneAll <| (cutSlice_keeps ..).step rfl <| .refl ..

@[simp] theorem execSwitchNodeTransition_completes (n : Fin 16) (sw : Fin 2) (v : NodeVolts) (tx : Nat) (s : State) :
    s.Completes (execSwitchNodeTransition n sw v tx s) := by
  refine .ite .same ?_
  split
  · exact .ite (.done <| (swOutput_keeps ..).step rfl <| .refl ..) <| .ite (.done <| (swOutput_keeps ..).step rfl <| .refl ..) .same
  · split
    exact .done <| .stepIf (swOutput_keeps ..) rfl <| (free_keeps_of ‹_›).step rfl <| .refl ..

@[simp] theorem execDelayLineCal_completes (n : Fin 16) (ok : Bool) (s : State) : s.Completes (execDelayLineCal n ok s) :=
  .ite .same <| .done <| .stepUnless (fire_keeps ..) rfl <| .foldl (fun _ _ hu => (flag_keeps ..).step rfl hu) <| .refl ..

@[simp] theorem execStageStart_completes (n : Fin 16) (s : State) : s.Completes (execStageStart n s) := by
  unfold execStageStart
  split
  · exact .same
  · exact .done1 <| (stageStart_keeps ..).step rfl <| (takeFront_keeps_of ‹_›).step rfl <| .refl ..

@[simp] theorem execStageStop_completes (n : Fin 16) (s : State) : s.Completes (execStageStop n s) := by
  unfold execStageStop
  split
  · exact .same
  · exact .done1 <| (legsOff_keeps ..).step rfl <| (takeFront_keeps_of ‹_›).step rfl <| .refl ..

@[simp] theorem execRafDisable_completes (hp : HostPort) (k : Fin 48) (key : Byte) (s : State) : s.Completes (execRafDisable hp k key s) :=
  .doneAll <| command_keeps rfl (fun _ hu => (disableSlice_keeps ..).step rfl hu) <| .refl ..

/-! ### The commands of Machine/Clock.lean -/

@[simp] theorem execUnderlayFault_completes (isl : Fin 21) (sub crack : Bool) (s : State) : s.Completes (execUnderlayFault isl sub crack s) :=
  .ite (.doneAll <| (cause_keeps ..).step rfl <| .stepUnless (modBoot_keeps ..) rfl <| .stepIf (put_keeps ..) rfl <|
    (loseIsland_keeps ..).step rfl <| .refl ..) .same

@[simp] theorem execHeaderStage_completes (s : State) : s.Completes (execHeaderStage s) := by
  unfold execHeaderStage
  split
  · exact .same
  · exact .done <| (modBoot_keeps ..).step rfl <| .refl ..

@[simp] theorem execReferenceFail_completes (s : State) : s.Completes (execReferenceFail s) :=
  .ite .same <| .done <| (fire_keeps ..).step rfl <| (raise_keeps ..).step rfl <| (raise_keeps ..).step rfl <| (raise_keeps ..).step rfl <|
    (raise_keeps ..).step rfl <| (put_keeps ..).step rfl <| (put_keeps ..).step rfl <| .refl ..

@[simp] theorem execDcoHoldover_completes (isl : Fin 21) (s : State) : s.Completes (execDcoHoldover isl s) := .done <| (maskBit_keeps ..).step rfl <| .refl ..

@[simp] theorem execTimebaseLock_completes (n : Fin 16) (s : State) : s.Completes (execTimebaseLock n s) :=
  .ite (.done <| (maskBit_keeps ..).step rfl <| (maskBit_keeps ..).step rfl <| .refl ..) .same

@[simp] theorem execPllUnlock_completes (n : Fin 16) (s : State) : s.Completes (execPllUnlock n s) :=
  .done <| (maskBit_keeps ..).step rfl <| (maskBit_keeps ..).step rfl <| .refl ..

@[simp] theorem execPllHoldoverTimeout_completes (n : Fin 16) (s : State) : s.Completes (execPllHoldoverTimeout n s) :=
  .ite (.doneAll <| (stageFault_keeps ..).step rfl <| (firePort_keeps ..).step rfl <| (legsOff_keeps ..).step rfl <| .refl ..) .same

@[simp] theorem execIslandRelease_completes (s : State) : s.Completes (execIslandRelease s) :=
  .ite (.doneAll <| (haltDue_keeps ..).step rfl <| (releaseNext_keeps ..).step rfl <| .refl ..) .same

@[simp] theorem execRegionRestart_completes (isl : Fin 21) (s : State) : s.Completes (execRegionRestart isl s) :=
  .ite (.doneAll <| (haltDue_keeps ..).step rfl <| (returnIsland_keeps ..).step rfl <| (modBoot_keeps ..).step rfl <| .refl ..) .same

@[simp] theorem execIslandHalt_completes (isl : Fin 24) (s : State) : s.Completes (execIslandHalt isl s) :=
  .ite (.doneAll <| (haltIsland_keeps ..).step rfl <| (selectIr_keeps ..).step rfl <| .refl ..) <| .done <| (selectIr_keeps ..).step rfl <| .refl ..

@[simp] theorem execIslandResume_completes (isl : Fin 24) (s : State) : s.Completes (execIslandResume isl s) :=
  .ite (.doneAll <| (resumeIsland_keeps ..).step rfl <| (selectIr_keeps ..).step rfl <| .refl ..) <| .done <| (selectIr_keeps ..).step rfl <| .refl ..

/-! ### The commands of Machine/Commit.lean -/

@[simp] theorem execCommitSlot_completes (ledgerBad : Bool) (s : State) : s.Completes (execCommitSlot ledgerBad s) :=
  .ite (.doneAll <| .chainIf ((rebuildTruss_keeps ..).step rfl <| (cancelWhere_keeps ..).step rfl <| .refl ..) <| (commitSlot_keeps ..).step rfl <|
    .refl ..) .same

@[simp] theorem execOpEnter_completes (src : BitVec 4) (port : BitVec 5) (cls sub : BitVec 4) (arg : BitVec 28) (s : State) :
    s.Completes (execOpEnter src port cls sub arg s) :=
  .ite .same <| .ite (.done <| .either ((push_keeps ..).step rfl <| .refl ..) (.refl ..)) <| .done <| (offer_keeps ..).step rfl <| .refl ..

@[simp] theorem execOpApply_completes (n : Fin 16) (s : State) : s.Completes (execOpApply n s) := by
  unfold execOpApply
  split
  · exact .same
  · exact .ite .same <| .doneAll <| (applyOp_keeps ..).step rfl <| (modPort_keeps ..).step rfl <| .refl ..

@[simp] theorem execStagingComplete_completes (n : Fin 16) (s : State) : s.Completes (execStagingComplete n s) :=
  .ite (.done <| .foldl (fun _ _ hu => (setOp_keeps ..).step rfl <| (stageOp_keeps ..).step rfl hu) <| .refl ..) .same

@[simp] theorem execRequestEvaluated_completes (n : Fin 16) (s : State) : s.Completes (execRequestEvaluated n s) := by
  unfold execRequestEvaluated
  split
  · exact .ite (.done <| (answerMsg_keeps ..).step rfl <| .refl ..) .same
  · exact .same

@[simp] theorem execSpecTimeout_completes (tag : Byte) (s : State) : s.Completes (execSpecTimeout tag s) :=
  .ite (.done <| (fire_keeps ..).step rfl <| (cancelNamed_keeps ..).step rfl <| .refl ..) .same

@[simp] theorem execCancel_completes (hp : HostPort) (key tag : Byte) (s : State) : s.Completes (execCancel hp key tag s) :=
  .done <| command_keeps rfl (fun _ hu => (askCancel_keeps ..).step rfl hu) <| .refl ..

@[simp] theorem execClrcnt_completes (hp : HostPort) (key : Byte) (s : State) : s.Completes (execClrcnt hp key s) :=
  .done <| command_keeps rfl (fun _ hu => (clearRdg_keeps ..).step rfl hu) <| .refl ..

@[simp] theorem execBudgetWrite_completes (hp : HostPort) (watts : BitVec 16) (s : State) : s.Completes (execBudgetWrite hp watts s) :=
  .done <| commandSt_keeps rfl (fun _ hu => (takeBudget_keeps ..).step rfl hu) <| .refl ..

@[simp] theorem execReoffer_completes (n : Fin 16) (s : State) : s.Completes (execReoffer n s) :=
  .ite (.done1 <| (reoffer_keeps ..).step rfl <| .refl ..) .same

@[simp] theorem execReofferPeriodEnd_completes (n : Fin 16) (s : State) : s.Completes (execReofferPeriodEnd n s) :=
  .ite (.done1 <| (reoffer_keeps ..).step rfl <| (modPort_keeps ..).step rfl <| .refl ..) <| .done <| (modPort_keeps ..).step rfl <| .refl ..

@[simp] theorem execDeficitOffer_completes (n : Fin 16) (s : State) : s.Completes (execDeficitOffer n s) :=
  .ite (.ite (.done1 <| (wantOffer_keeps ..).step rfl <| (modPort_keeps ..).step rfl <| (swLeave_keeps ..).step rfl <| .refl ..) .same) <| .done <|
    (modPort_keeps ..).step rfl <| .refl ..

@[simp] theorem execPredictorStage_completes (n : Fin 16) (s : State) : s.Completes (execPredictorStage n s) := by
  refine .ite ?_ .same
  split
  · exact .same
  · exact .done <| (modPd_keeps ..).step rfl <| .foldl (fun _ _ hu => (offer_keeps ..).step rfl hu) <| .refl ..

@[simp] theorem execPredictorMiss_completes (n : Fin 16) (s : State) : s.Completes (execPredictorMiss n s) :=
  .ite (.done <| (predMiss_keeps ..).step rfl <| .refl ..) .same

/-! ### The commands of Machine/Eave.lean -/

@[simp] theorem execEaveFullyOn_completes (n : Fin 16) (s : State) : s.Completes (execEaveFullyOn n s) :=
  .ite (.done1 <| (modLoop_keeps ..).step rfl <| (clear_keeps ..).step rfl <| (seeVbus_keeps ..).step rfl <| (put_keeps ..).step rfl <|
    .refl ..) .same

@[simp] theorem execPrebiasReady_completes (n : Fin 16) (s : State) : s.Completes (execPrebiasReady n s) :=
  .ite (.done1 <| (put_keeps ..).step rfl <| .refl ..) .same

@[simp] theorem execPrebiasTimeout_completes (n : Fin 16) (s : State) : s.Completes (execPrebiasTimeout n s) :=
  .ite (.done1 <| (eaveTrip_keeps ..).step rfl <| .refl ..) .same

@[simp] theorem execRampfail_completes (n : Fin 16) (s : State) : s.Completes (execRampfail n s) :=
  .ite (.done1 <| (eaveTrip_keeps ..).step rfl <| .refl ..) .same

@[simp] theorem execFastTrip_completes (c : ShuntRead) (s : State) : s.Completes (execFastTrip c s) :=
  .ite (.done1 <| (eaveTrip_keeps ..).step rfl <| .refl ..) .same

@[simp] theorem execCurveEval_completes (n : Fin 16) (ma : BitVec 16) (s : State) : s.Completes (execCurveEval n ma s) := by
  refine .ite .same <| .ite (.done <| (modPort_keeps ..).step rfl <| .refl ..) ?_
  extract_lets e acc t
  have ht : s.Keeps pAllButPending t := (modLoop_keeps ..).step rfl <| (modPort_keeps ..).step rfl <| .refl ..
  split
  · exact .done1 <| (eaveTrip_keeps ..).step rfl ht
  · exact .done1 <| (put_keeps ..).step rfl <| (put_keeps ..).step rfl ht

@[simp] theorem execReverseTrip_completes (c : ShuntRead) (s : State) : s.Completes (execReverseTrip c s) :=
  .ite (.done1 <| (eaveTrip_keeps ..).step rfl <| .refl ..) .same

@[simp] theorem execGateTrip_completes (n : Fin 16) (s : State) : s.Completes (execGateTrip n s) :=
  .ite (.done1 <| (eaveTrip_keeps ..).step rfl <| .refl ..) .same

@[simp] theorem execGutterDischargeEnd_completes (n : Fin 16) (tenths : BitVec 16) (s : State) : s.Completes (execGutterDischargeEnd n tenths s) :=
  .ite (.done1 <| .chainEither ((legsOff_keeps ..).step rfl <| .refl ..) ((leaveErrRec_keeps ..).step rfl <| .refl ..) <| (put_keeps ..).step rfl <|
    (seeVbus_keeps ..).step rfl <| (setGut_keeps ..).step rfl <| .refl ..) .same

@[simp] theorem execGutterTimeout_completes (n : Fin 16) (s : State) : s.Completes (execGutterTimeout n s) :=
  .ite (.done1 <| (gutterFault_keeps ..).step rfl <| (raise_keeps ..).step rfl <| .refl ..) .same

@[simp] theorem execDrvflt_completes (n : Fin 16) (s : State) : s.Completes (execDrvflt n s) :=
  .ite (.done1 <| (gutterFault_keeps ..).step rfl <| (raise_keeps ..).step rfl <| .refl ..) .same

@[simp] theorem execGutterFaultClear_completes (n : Fin 16) (s : State) : s.Completes (execGutterFaultClear n s) :=
  .ite (.done1 <| (leaveErrRec_keeps ..).step rfl <| (seeVbus_keeps ..).step rfl <| (clear_keeps ..).step rfl <| .refl ..) .same

@[simp] theorem execGutterAssist_completes (n : Fin 16) (excess : Nat) (s : State) : s.Completes (execGutterAssist n excess s) :=
  .ite (.done <| (takeStaged_keeps ..).step rfl <| .refl ..) <| .ite (.done <| (setGut_keeps ..).step rfl <| (takeStaged_keeps ..).step rfl <|
    .refl ..) <| .ite (.done <| (setGut_keeps ..).step rfl <| (takeStaged_keeps ..).step rfl <| .refl ..) <| .done <|
    (takeStaged_keeps ..).step rfl <| .refl ..

@[simp] theorem execGutterBudget_completes (n : Fin 16) (used : BitVec 16) (s : State) : s.Completes (execGutterBudget n used s) :=
  .ite (.done <| .stepIf (setGut_keeps ..) rfl <| (raise_keeps ..).step rfl <| (raise_keeps ..).step rfl <| (put_keeps ..).step rfl <|
    (takeStaged_keeps ..).step rfl <| .refl ..) <| .done <| (clear_keeps ..).step rfl <| (put_keeps ..).step rfl <| (takeStaged_keeps ..).step rfl <|
    .refl ..

/-! ### The commands of Machine/Host.lean -/

@[simp] theorem execHostRead_completes (hp : HostPort) (addr : BitVec 24) (count : Nat) (crc : Byte) (r : ReadMeets) (s : State) :
    s.Completes (execHostRead hp addr count crc r s) :=
  .ite (.done <| (crcFail_keeps ..).step rfl <| .refl ..) <| .done <| (readTxn_keeps ..).step rfl <| (checkRead_keeps ..).step rfl <| .refl ..

@[simp] theorem execTrsStatRead_completes (hp : HostPort) (s : State) : s.Completes (execTrsStatRead hp s) := .done <| (readTxn_keeps ..).step rfl <| .refl ..

@[simp] theorem execLatchedRead_completes (hp : HostPort) (addr : BitVec 24) (s : State) : s.Completes (execLatchedRead hp addr s) :=
  .done <| (readTxn_keeps ..).step rfl <| .refl ..

@[simp] theorem execBatQpop_completes (hp : HostPort) (s : State) : s.Completes (execBatQpop hp s) := .done <| (readTxn_keeps ..).step rfl <| .refl ..

@[simp] theorem execSofTimeSubRead_completes (hp : HostPort) (s : State) : s.Completes (execSofTimeSubRead hp s) :=
  .done <| (readTxn_keeps ..).step rfl <| .refl ..

@[simp] theorem execMeterPageRead_completes (hp : HostPort) (n : Fin 16) (s : State) : s.Completes (execMeterPageRead hp n s) :=
  .done <| (readTxn_keeps ..).step rfl <| .refl ..

@[simp] theorem execHostWrite_completes (hp : HostPort) (addr : BitVec 24) (data : List Word) (crc : Byte) (s : State) :
    s.Completes (execHostWrite hp addr data crc s) :=
  .done <| (writeTxn_keeps ..).step rfl <| .refl ..

@[simp] theorem execGuardedWrite_completes (hp : HostPort) (addr : BitVec 24) (gen : BitVec 16) (data : List Word) (crc : Byte) (s : State) :
    s.Completes (execGuardedWrite hp addr gen data crc s) :=
  .done <| (writeTxn_keeps ..).step rfl <| .refl ..

@[simp] theorem execStatusRead_completes (hp : HostPort) (s : State) : s.Completes (execStatusRead hp s) :=
  .ite .same <| .ite (.done <| .with_jtag _ rfl <| (tap_keeps ..).step rfl <| .refl ..) <| .done <| (giveWords_keeps ..).step rfl <|
    (setPointer_keeps ..).step rfl <| (tap_keeps ..).step rfl <| .refl ..

@[simp] theorem execTransactionAbort_completes (hp : HostPort) (kind : AbortKind) (s : State) : s.Completes (execTransactionAbort hp kind s) :=
  .ite .same <| .done <| .stepIf (endWith_keeps ..) rfl <| (setPointer_keeps ..).step rfl <| .refl ..

@[simp] theorem execOrderGroupClose_completes (s : State) : s.Completes (execOrderGroupClose s) := .done <| (closeGroup_keeps ..).step rfl <| .refl ..

@[simp] theorem execI2cClash_completes (offset : BitVec 16) (s : State) : s.Completes (execI2cClash offset s) :=
  .ite .same <| .done <| (endWith_keeps ..).step rfl <| (fire_keeps ..).step rfl <| (tallyPlain_keeps ..).step rfl <| (satInc_keeps ..).step rfl <|
    (raise_keeps ..).step rfl <| .refl ..

@[simp] theorem execI2cTimeout_completes (s : State) : s.Completes (execI2cTimeout s) :=
  .ite (.done <| (satInc_keeps ..).step rfl <| (raise_keeps ..).step rfl <| (setPointer_keeps ..).step rfl <| .refl ..) .same

@[simp] theorem execCanRequest_completes (frame : CanFrame) (s : State) : s.Completes (execCanRequest frame s) := by
  refine .ite .same ?_
  split
  · refine .ite ?_ (.done <| (canNew_keeps ..).step rfl <| .refl ..)
    split
    · exact .done <| (modHost_keeps ..).step rfl <| (satInc_keeps ..).step rfl <| .refl ..
    · exact .done <| (satInc_keeps ..).step rfl <| .refl ..
  · exact .done <| (canNew_keeps ..).step rfl <| .refl ..

@[simp] theorem execCanFrameAcknowledged_completes (s : State) : s.Completes (execCanFrameAcknowledged s) := by
  refine .ite .same ?_
  split
  · exact .done <| (modHost_keeps ..).step rfl <| .refl ..
  · split
    · exact .done <| (canAnswered_keeps ..).step rfl <| (modHost_keeps ..).step rfl <| .refl ..
    · exact .done <| (modHost_keeps ..).step rfl <| .refl ..

@[simp] theorem execCanErrorState_completes (busOff : Bool) (tec rec : Byte) (lec : BitVec 3) (s : State) : s.Completes (execCanErrorState busOff tec rec lec s) :=
  .ite (.done <| .chainUnless ((fire_keeps ..).step rfl <| (put_keeps ..).step rfl <| .refl ..) <| (put_keeps ..).step rfl <|
    (put_keeps ..).step rfl <| (put_keeps ..).step rfl <| .refl ..) .same

@[simp] theorem execCanBusoffRecovery_completes (s : State) : s.Completes (execCanBusoffRecovery s) :=
  .ite (.done <| (put_keeps ..).step rfl <| (put_keeps ..).step rfl <| (put_keeps ..).step rfl <| .refl ..) .same

@[simp] theorem execCanWakeFrame_completes (id : BitVec 29) (s : State) : s.Completes (execCanWakeFrame id s) := by
  unfold execCanWakeFrame
  extract_lets set
  clear_value set
  split
  · exact .ite (.done <| (wake_keeps ..).step rfl <| .refl ..) .same
  · exact .same

@[simp] theorem execHstCmdClrcnt_completes (hp : HostPort) (key : Byte) (s : State) : s.Completes (execHstCmdClrcnt hp key s) :=
  .done <| command_keeps rfl (fun _ hu => (clearHst_keeps ..).step rfl hu) <| .refl ..

/-! ### The commands of Machine/Jtag.lean -/

@[simp] theorem execBypass_completes (s : State) : s.Completes (execBypass s) := .done <| (passive_keeps ..).step rfl <| .refl ..

@[simp] theorem execIdcode_completes (s : State) : s.Completes (execIdcode s) := .done <| (passive_keeps ..).step rfl <| .refl ..

@[simp] theorem execSamplePreload_completes (capture : BitVec 513) (s : State) : s.Completes (execSamplePreload capture s) :=
  .done <| .stepIf (modJtag_keeps ..) rfl <| (passive_keeps ..).step rfl <| .refl ..

@[simp] theorem execExtest_completes (s : State) : s.Completes (execExtest s) := .doneAll <| (takeBalls_keeps ..).step rfl <| .refl ..

@[simp] theorem execHighz_completes (s : State) : s.Completes (execHighz s) := .doneAll <| (takeBalls_keeps ..).step rfl <| .refl ..

@[simp] theorem execClamp_completes (s : State) : s.Completes (execClamp s) := .doneAll <| (takeBalls_keeps ..).step rfl <| .refl ..

/-! ### The commands of Machine/Loop.lean -/

@[simp] theorem execLoopSample_completes (n : Fin 16) (v i other : List (BitVec 12)) (s : State) : s.Completes (execLoopSample n v i other s) :=
  .ite (.done1 <| (loopSample_keeps ..).step rfl <| .refl ..) .same

@[simp] theorem execCcLevelUpdate_completes (n : Fin 16) (cc1 cc2 : BitVec 16) (stale quiet : Bool) (s : State) :
    s.Completes (execCcLevelUpdate n cc1 cc2 stale quiet s) :=
  .ite .same <| .ite (.done <| (clear_keeps ..).step rfl <| (wr_keeps ..).step rfl <| .refl ..) <| .done <| .stepIf (measure_keeps ..) rfl <|
    (put_keeps ..).step rfl <| (put_keeps ..).step rfl <| .refl ..

@[simp] theorem execCompensationTick_completes (n : Fin 16) (vbus vin ma : BitVec 16) (s : State) : s.Completes (execCompensationTick n vbus vin ma s) :=
  .ite .same <| .ite (.done <| (put_keeps ..).step rfl <| (put_keeps ..).step rfl <| (put_keeps ..).step rfl <| .refl ..) <| .done <|
    (flag_keeps ..).step rfl <| (put_keeps ..).step rfl <| (modLoop_keeps ..).step rfl <| (put_keeps ..).step rfl <| (put_keeps ..).step rfl <|
    (put_keeps ..).step rfl <| .refl ..

@[simp] theorem execClearrc_completes (hp : HostPort) (n : Fin 16) (s : State) : s.Completes (execClearrc hp n s) :=
  .doneAll <| command_keeps rfl (fun _ hu => (clearRc_keeps ..).step rfl hu) <| .refl ..

@[simp] theorem execRcStaleTimeout_completes (n : Fin 16) (s : State) : s.Completes (execRcStaleTimeout n s) :=
  .ite (.done <| (clearRc_keeps ..).step rfl <| .refl ..) .same

@[simp] theorem execOpenSense_completes (n : Fin 16) (pin : Fin 3) (s : State) : s.Completes (execOpenSense n pin s) :=
  .ite (.done <| .chainEither ((firePort_keeps ..).step rfl <| .refl ..) ((beginConfirm_keeps ..).step rfl <| .refl ..) <| (wr_keeps ..).step rfl <|
    .refl ..) .same

@[simp] theorem execFrozenSignal_completes (n : Fin 16) (s : State) : s.Completes (execFrozenSignal n s) :=
  .ite (.done <| (beginConfirm_keeps ..).step rfl <| .either ((raise_keeps ..).step rfl <| .refl ..) ((raise_keeps ..).step rfl <| .refl ..)) .same

@[simp] theorem execFeedbackTransient_completes (n : Fin 16) (s : State) : s.Completes (execFeedbackTransient n s) :=
  .ite (.done1 <| (tallyLoop_keeps ..).step rfl <| (raise_keeps ..).step rfl <| (clear_keeps ..).step rfl <| (modLoop_keeps ..).step rfl <|
    .refl ..) .same

@[simp] theorem execConfirmWindowEnd_completes (n : Fin 16) (s : State) : s.Completes (execConfirmWindowEnd n s) :=
  .ite (.done1 <| (stageFault_keeps ..).step rfl <| .refl ..) .same

@[simp] theorem execVinRangeFault_completes (n : Fin 16) (s : State) : s.Completes (execVinRangeFault n s) :=
  .ite (.done1 <| (stageFault_keeps ..).step rfl <| (raise_keeps ..).step rfl <| .refl ..) .same

/-! ### The commands of Machine/PdMsg.lean -/

@[simp] theorem execPing_completes (h : PdHead) (s : State) : s.Completes (execPing h s) :=
  received_completes (fun _ hu => byGroup_keeps rfl (fun _ hu => (ig_keeps ..).step rfl hu) (fun _ hu => (ig_keeps ..).step rfl hu)
    (fun _ hu => (ig_keeps ..).step rfl hu) (fun _ hu => (ig_keeps ..).step rfl hu) (fun _ hu => (ig_keeps ..).step rfl hu)
    (fun _ hu => (ig_keeps ..).step rfl hu) hu)

@[simp] theorem execNotSupported_completes (h : PdHead) (s : State) : s.Completes (execNotSupported h s) :=
  received_completes (fun _ hu => byGroup_keeps rfl (fun _ hu => (ig_keeps ..).step rfl hu) (fun _ hu => (ig_keeps ..).step rfl hu)
    (fun _ hu => .either ((amsOver_keeps ..).step rfl hu) hu) (fun _ hu => (ig_keeps ..).step rfl hu) (fun _ hu => (ig_keeps ..).step rfl hu)
    (fun _ hu => (ig_keeps ..).step rfl hu) hu)

@[simp] theorem execGetSourceCap_completes (h : PdHead) (s : State) : s.Completes (execGetSourceCap h s) :=
  received_completes (fun _ hu => byGroup_keeps rfl (fun _ hu => (sendOffer_keeps ..).step rfl hu) (fun _ hu => (star_keeps ..).step rfl hu)
    (fun _ hu => (answerCaps_keeps ..).step rfl hu) (fun _ hu => (sendCached_keeps ..).step rfl hu) (fun _ hu => (nsup_keeps ..).step rfl hu)
    (fun _ hu => (nsup_keeps ..).step rfl hu) hu)

@[simp] theorem execGetSinkCap_completes (h : PdHead) (s : State) : s.Completes (execGetSinkCap h s) :=
  received_completes (fun _ hu => byGroup_keeps rfl (fun _ hu => (star_keeps ..).step rfl hu) (fun _ hu => (star_keeps ..).step rfl hu)
    (fun _ hu => (nsup_keeps ..).step rfl hu) (fun _ hu => (nsup_keeps ..).step rfl hu) (fun _ hu => (send_keeps ..).step rfl hu)
    (fun _ hu => (send_keeps ..).step rfl hu) hu)

@[simp] theorem execUnsupportedMessage_completes (h : PdHead) (s : State) : s.Completes (execUnsupportedMessage h s) :=
  received_completes (fun _ hu => byGroup_keeps rfl (fun _ hu => (star_keeps ..).step rfl hu) (fun _ hu => (star_keeps ..).step rfl hu)
    (fun _ hu => (nsup_keeps ..).step rfl hu) (fun _ hu => (nsup_keeps ..).step rfl hu) (fun _ hu => (nsup_keeps ..).step rfl hu)
    (fun _ hu => (nsup_keeps ..).step rfl hu) hu)

@[simp] theorem execGetSourceCapExtended_completes (h : PdHead) (s : State) : s.Completes (execGetSourceCapExtended h s) :=
  received_completes (fun _ hu => byGroup_keeps rfl (fun _ hu => (star_keeps ..).step rfl hu) (fun _ hu => (star_keeps ..).step rfl hu)
    (fun _ hu => extended_keeps rfl (fun _ hu => (sendFree_keeps ..).step rfl hu) hu) (fun _ hu => extended_keeps rfl
    (fun _ hu => (sendFree_keeps ..).step rfl hu) hu) (fun _ hu => (nsup_keeps ..).step rfl hu) (fun _ hu => (nsup_keeps ..).step rfl hu) hu)

@[simp] theorem execGetStatus_completes (h : PdHead) (s : State) : s.Completes (execGetStatus h s) :=
  received_completes (fun _ hu => byGroup_keeps rfl (fun _ hu => (star_keeps ..).step rfl hu) (fun _ hu => (star_keeps ..).step rfl hu)
    (fun _ hu => extended_keeps rfl (fun _ hu => (sendStatus_keeps ..).step rfl hu) hu) (fun _ hu => (ig_keeps ..).step rfl hu)
    (fun _ hu => extended_keeps rfl (fun _ hu => (sendStatus_keeps ..).step rfl hu) hu) (fun _ hu => (nsup_keeps ..).step rfl hu) hu)

@[simp] theorem execGetPpsStatus_completes (h : PdHead) (s : State) : s.Completes (execGetPpsStatus h s) :=
  received_completes (fun _ hu => byGroup_keeps rfl (fun _ hu => (star_keeps ..).step rfl hu) (fun _ hu => (star_keeps ..).step rfl hu)
    (fun _ hu => .either (by
    split
    exact (send_keeps ..).step rfl <| (freeWords_keeps_of ‹_›).step rfl hu) ((ns_keeps ..).step rfl hu)) (fun _ hu => (ig_keeps ..).step rfl hu)
      (fun _ hu => (nsup_keeps ..).step rfl hu) (fun _ hu => (nsup_keeps ..).step rfl hu) hu)

@[simp] theorem execGetSinkCapExtended_completes (h : PdHead) (s : State) : s.Completes (execGetSinkCapExtended h s) :=
  received_completes (fun _ hu => byGroup_keeps rfl (fun _ hu => (star_keeps ..).step rfl hu) (fun _ hu => (star_keeps ..).step rfl hu)
    (fun _ hu => (nsup_keeps ..).step rfl hu) (fun _ hu => (ig_keeps ..).step rfl hu) (fun _ hu => extended_keeps rfl
    (fun _ hu => (sendFree_keeps ..).step rfl hu) hu) (fun _ hu => (nsup_keeps ..).step rfl hu) hu)

@[simp] theorem execGetSourceInfo_completes (h : PdHead) (s : State) : s.Completes (execGetSourceInfo h s) :=
  received_completes (fun _ hu => byGroup_keeps rfl (fun _ hu => (star_keeps ..).step rfl hu) (fun _ hu => (star_keeps ..).step rfl hu)
    (fun _ hu => by
    split
    exact (send_keeps ..).step rfl <| (freeWords_keeps_of ‹_›).step rfl hu) (fun _ hu => by
    split
    exact (send_keeps ..).step rfl <| (freeWords_keeps_of ‹_›).step rfl hu) (fun _ hu => (nsup_keeps ..).step rfl hu)
      (fun _ hu => (nsup_keeps ..).step rfl hu) hu)

@[simp] theorem execGetRevision_completes (h : PdHead) (s : State) : s.Completes (execGetRevision h s) :=
  received_completes (fun _ hu => byGroup_keeps rfl (fun _ hu => (send_keeps ..).step rfl hu) (fun _ hu => (star_keeps ..).step rfl hu)
    (fun _ hu => (send_keeps ..).step rfl hu) (fun _ hu => (send_keeps ..).step rfl hu) (fun _ hu => (send_keeps ..).step rfl hu)
    (fun _ hu => (send_keeps ..).step rfl hu) hu)

@[simp] theorem execGetManufacturerInfo_completes (h : PdHead) (s : State) : s.Completes (execGetManufacturerInfo h s) :=
  received_completes (fun _ hu => byGroup_keeps rfl (fun _ hu => (star_keeps ..).step rfl hu) (fun _ hu => (star_keeps ..).step rfl hu)
    (fun _ hu => extended_keeps rfl (fun _ hu => (send_keeps ..).step rfl hu) hu) (fun _ hu => (ig_keeps ..).step rfl hu)
    (fun _ hu => extended_keeps rfl (fun _ hu => (send_keeps ..).step rfl hu) hu) (fun _ hu => (nsup_keeps ..).step rfl hu) hu)

@[simp] theorem execEprGetSourceCap_completes (h : PdHead) (s : State) : s.Completes (execEprGetSourceCap h s) :=
  received_completes (fun _ hu => byGroup_keeps rfl (fun _ hu => (star_keeps ..).step rfl hu) (fun _ hu => (star_keeps ..).step rfl hu)
    (fun _ hu => .either (extended_keeps rfl (fun _ hu => (answerCaps_keeps ..).step rfl hu) hu) ((ns_keeps ..).step rfl hu))
    (fun _ hu => extended_keeps rfl (fun _ hu => (sendCached_keeps ..).step rfl hu) hu) (fun _ hu => (nsup_keeps ..).step rfl hu)
    (fun _ hu => (nsup_keeps ..).step rfl hu) hu)

@[simp] theorem execEprGetSinkCap_completes (h : PdHead) (s : State) : s.Completes (execEprGetSinkCap h s) :=
  received_completes (fun _ hu => byGroup_keeps rfl (fun _ hu => (star_keeps ..).step rfl hu) (fun _ hu => (star_keeps ..).step rfl hu)
    (fun _ hu => (nsup_keeps ..).step rfl hu) (fun _ hu => (nsup_keeps ..).step rfl hu) (fun _ hu => (nsup_keeps ..).step rfl hu)
    (fun _ hu => (nsup_keeps ..).step rfl hu) hu)

@[simp] theorem execAlertMsg_completes (h : PdHead) (s : State) : s.Completes (execAlertMsg h s) :=
  received_completes (fun _ hu => byGroup_keeps rfl (fun _ hu => (star_keeps ..).step rfl hu) (fun _ hu => (star_keeps ..).step rfl hu)
    (fun _ hu => .either ((beginAms_keeps ..).step rfl hu) hu) (fun _ hu => (ig_keeps ..).step rfl hu) (fun _ hu => (ig_keeps ..).step rfl hu)
    (fun _ hu => (ig_keeps ..).step rfl hu) hu)

@[simp] theorem execBist_completes (h : PdHead) (carrier : Bool) (s : State) : s.Completes (execBist h carrier s) :=
  received_completes (fun _ hu => byGroup_keeps rfl (fun _ hu => (bistIn_keeps ..).step rfl hu) (fun _ hu => (ig_keeps ..).step rfl hu)
    (fun _ hu => (bistIn_keeps ..).step rfl hu) (fun _ hu => (ig_keeps ..).step rfl hu) (fun _ hu => (bistIn_keeps ..).step rfl hu)
    (fun _ hu => (ig_keeps ..).step rfl hu) hu)

@[simp] theorem execBistContModeEnd_completes (n : Fin 16) (s : State) : s.Completes (execBistContModeEnd n s) :=
  .ite .same <| .done <| (modPd_keeps ..).step rfl <| .refl ..

@[simp] theorem execInformationalMessage_completes (h : PdHead) (status : Option Word) (s : State) : s.Completes (execInformationalMessage h status s) :=
  received_completes (fun _ hu => byGroup_keeps rfl (fun _ hu => (ig_keeps ..).step rfl hu) (fun _ hu => (ig_keeps ..).step rfl hu) (fun _ hu => by
    split
    · exact .either ((endAms_keeps ..).step rfl <| (wr_keeps ..).step rfl hu) hu
    · exact by
        split
        · exact (endAms_keeps ..).step rfl hu
        · exact hu) (fun _ hu => (ig_keeps ..).step rfl hu) (fun _ hu => (ig_keeps ..).step rfl hu) (fun _ hu => (ig_keeps ..).step rfl hu) hu)

@[simp] theorem execCableReset_completes (_n : Fin 16) (s : State) : s.Completes (execCableReset _n s) := .done <| (ig_keeps ..).step rfl <| .refl ..

/-! ### The commands of Machine/Relay.lean -/

@[simp] theorem execHostReadyPoint_completes (a b c : BitVec 3) (s : State) : s.Completes (execHostReadyPoint a b c s) :=
  .ite (.done <| (hostReady_keeps ..).step rfl <| .refl ..) .same

@[simp] theorem execRomBoot_completes (flashOk vddHigh dirOk : Bool) (s : State) : s.Completes (execRomBoot flashOk vddHigh dirOk s) := by
  refine .ite ?_ .same
  split
  next v s₁ hv =>
    extract_lets t₁ c t
    have ht : s.Keeps pAllButPending t := .stepUnless (put_keeps ..) rfl <| (modBoot_keeps ..).step rfl <| (flag_keeps ..).step rfl <|
      (free_keeps_of hv).step rfl <| .refl ..
    refine .ite (.doneAll <| (toDormer_keeps ..).step rfl ht) <| .ite (.doneAll ?_) (.doneAll ?_)
    · exact (toDormer_keeps ..).step rfl <| (showDir_keeps ..).step rfl <| (openDir_keeps ..).step rfl ht
    · exact (decideSlot_keeps ..).step rfl <| (openDir_keeps ..).step rfl ht

@[simp] theorem execRelayPrepare_completes (dirOk : Bool) (s : State) : s.Completes (execRelayPrepare dirOk s) := by
  unfold execRelayPrepare
  split
  · exact .same
  · exact .ite .same <| .ite (.done <| (warmFallback_keeps ..).step rfl <| .either (.refl ..) ((endSr_keeps ..).step rfl <|
      (dropCfg_keeps ..).step rfl <| .refl ..)) <| .done <| (sendStat_keeps ..).step rfl <| (setUpd_keeps ..).step rfl <| .either (.refl ..)
      ((endSr_keeps ..).step rfl <| (dropCfg_keeps ..).step rfl <| .refl ..)

@[simp] theorem execBraceHold_completes (dirOk : Bool) (s : State) : s.Completes (execBraceHold dirOk s) := by
  unfold execBraceHold
  split
  · exact .same
  · exact .ite .same <| .doneAll <| (beginHold_keeps ..).step rfl <| .refl ..

@[simp] theorem execBraceRelease_completes (dur : BitVec 16) (handOk : Bool) (s : State) : s.Completes (execBraceRelease dur handOk s) := by
  unfold execBraceRelease
  split
  · exact .same
  · exact .ite .same <| .doneAll <| (beginStrips_keeps ..).step rfl <| (holdDone_keeps ..).step rfl <| (put_keeps ..).step rfl <|
      .foldl (fun _ _ hu => .either hu ((leaveHold_keeps ..).step rfl hu)) <| (handOver_keeps ..).step rfl <| .refl ..

@[simp] theorem execBraceTimeout_completes (dirOk : Bool) (s : State) : s.Completes (execBraceTimeout dirOk s) := by
  unfold execBraceTimeout
  split
  · exact .same
  · exact .ite (.doneAll <| (abortHold_keeps ..).step rfl <| .refl ..) .same

/-! ### The commands of Machine/Thatch.lean -/

@[simp] theorem execThaEdclaimClaim_completes (hp : HostPort) (s : State) : s.Completes (execThaEdclaimClaim hp s) :=
  .done <| command_keeps rfl (fun _ hu => (edClaim_keeps ..).step rfl hu) <| .refl ..

@[simp] theorem execThaEdclaimRelease_completes (hp : HostPort) (s : State) : s.Completes (execThaEdclaimRelease hp s) :=
  .done <| command_keeps rfl (fun _ hu => (edClaim_keeps ..).step rfl hu) <| .refl ..

@[simp] theorem execEditClaimLapse_completes (s : State) : s.Completes (execEditClaimLapse s) :=
  .done <| (clear_keeps ..).step rfl <| (clear_keeps ..).step rfl <| .refl ..

@[simp] theorem execEditBufferWrite_completes (hp : HostPort) (word : Fin 3072) (ws : List Word) (s : State) : s.Completes (execEditBufferWrite hp word ws s) :=
  .done <| commandAll_keeps rfl (fun _ hu => .foldl (fun _ _ hu => (wr_keeps ..).step rfl hu) hu) <| .refl ..

@[simp] theorem execLiveApply_completes (hp : HostPort) (key : Byte) (s : State) : s.Completes (execLiveApply hp key s) :=
  .done <| command_keeps rfl (fun _ hu => (srCtl_keeps ..).step rfl hu) <| .refl ..

@[simp] theorem execStripAndRelay_completes (hp : HostPort) (key : Byte) (func : BitVec 5) (s : State) : s.Completes (execStripAndRelay hp key func s) :=
  .done <| command_keeps rfl (fun _ hu => (srCtl_keeps ..).step rfl hu) <| .refl ..

@[simp] theorem execSrCancel_completes (hp : HostPort) (key : Byte) (s : State) : s.Completes (execSrCancel hp key s) :=
  .done <| command_keeps rfl (fun _ hu => (srCtl_keeps ..).step rfl hu) <| .refl ..

@[simp] theorem execValidateDone_completes (s : State) : s.Completes (execValidateDone s) := by
  unfold execValidateDone
  split
  · exact .ite (.doneAll <| (validated_keeps ..).step rfl <| .refl ..) .same
  · exact .same

@[simp] theorem execSrChange_completes (s : State) : s.Completes (execSrChange s) := by
  refine .ite .same ?_
  refine .doneAll <| (stripsChange_keeps ..).step rfl <| ?_
  split
  · exact .either ((srChange_keeps ..).step rfl <| .refl ..) (.refl ..)
  · exact .refl ..

@[simp] theorem execSrRelay_completes (s : State) : s.Completes (execSrRelay s) := by
  refine .doneAll <| (stripsRelay_keeps ..).step rfl <| ?_
  split
  · exact .either (.foldl (fun _ _ hu => (relayPort_keeps ..).step rfl hu) <| (endSr_keeps ..).step rfl <| .refl ..) (.refl ..)
  · exact .refl ..

@[simp] theorem execAuthoritySwap_completes (s : State) : s.Completes (execAuthoritySwap s) := by
  unfold execAuthoritySwap
  split
  · exact .ite (.done <| (put_keeps ..).step rfl <| (loadGrants_keeps ..).step rfl <| (takeEdits_keeps ..).step rfl <| .refl ..) .same
  · exact .same

@[simp] theorem execSrVbusTimeout_completes (s : State) : s.Completes (execSrVbusTimeout s) := by
  refine .doneAll <| (stripsTimeout_keeps ..).step rfl <| ?_
  split
  · exact .either (.foldl (fun _ _ hu => (stripFault_keeps ..).step rfl hu) <| (endSr_keeps ..).step rfl <| .refl ..) (.refl ..)
  · exact .refl ..

@[simp] theorem execScrubPass_completes (ce ue : List (BitVec 17)) (fetchOk : Bool) (s : State) : s.Completes (execScrubPass ce ue fetchOk s) :=
  .ite .same <| .doneAll <| .chainIf ((modTha_keeps ..).step rfl <| (wrapInc_keeps ..).step rfl <| .refl ..) <| (scrubWords_keeps ..).step rfl <|
    .refl ..

/-! ### The commands of Machine/Upd.lean -/

@[simp] theorem execBeginSession_completes (hp : HostPort) (key : Byte) (deferred : Bool) (s : State) : s.Completes (execBeginSession hp key deferred s) :=
  .done <| (updCommand_keeps ..).step rfl <| .refl ..

@[simp] theorem execEndSession_completes (hp : HostPort) (key : Byte) (s : State) : s.Completes (execEndSession hp key s) :=
  .done <| (updCommand_keeps ..).step rfl <| .refl ..

@[simp] theorem execActivate_completes (hp : HostPort) (key : Byte) (nextboot dirOk : Bool) (s : State) : s.Completes (execActivate hp key nextboot dirOk s) :=
  .doneAll <| (updCommand_keeps ..).step rfl <| .refl ..

@[simp] theorem execConfirm_completes (hp : HostPort) (key : Byte) (dirOk : Bool) (s : State) : s.Completes (execConfirm hp key dirOk s) :=
  .done <| (updCommand_keeps ..).step rfl <| .refl ..

@[simp] theorem execAbortSession_completes (hp : HostPort) (key : Byte) (s : State) : s.Completes (execAbortSession hp key s) :=
  .done <| (updCommand_keeps ..).step rfl <| .refl ..

@[simp] theorem execRevert_completes (hp : HostPort) (key : Byte) (s : State) : s.Completes (execRevert hp key s) :=
  .done <| (updCommand_keeps ..).step rfl <| .refl ..

@[simp] theorem execUpdDataWrite_completes (hp : HostPort) (ws : List Word) (s : State) : s.Completes (execUpdDataWrite hp ws s) :=
  .done <| commandWords_keeps rfl (fun _ hu => (updData_keeps ..).step rfl hu) <| .refl ..

@[simp] theorem execSessionIdleTimeout_completes (s : State) : s.Completes (execSessionIdleTimeout s) :=
  .ite (.done <| (failSession_keeps ..).step rfl <| .refl ..) .same

@[simp] theorem execStagingFlashDone_completes (ok : Bool) (s : State) : s.Completes (execStagingFlashDone ok s) :=
  .ite (.done <| .either ((modSlate_keeps ..).step rfl <| (modUpd_keeps ..).step rfl <| .refl ..) ((failSession_keeps ..).step rfl <| .refl ..)) .same

@[simp] theorem execFlashError_completes (erase : Bool) (f : FlashSector) (s : State) : s.Completes (execFlashError erase f s) :=
  .ite (.done <| .either ((imageFlashError_keeps ..).step rfl <| (put_keeps ..).step rfl <| (put_keeps ..).step rfl <| .refl ..)
    ((retireSector_keeps ..).step rfl <| (put_keeps ..).step rfl <| (put_keeps ..).step rfl <| .refl ..)) <| .done <| (modSlate_keeps ..).step rfl <|
    (put_keeps ..).step rfl <| (put_keeps ..).step rfl <| .refl ..

@[simp] theorem execConfirmTimeout_completes (s : State) : s.Completes (execConfirmTimeout s) :=
  .ite (.done <| (put_keeps ..).step rfl <| (askRelay_keeps ..).step rfl <| .either ((sendAct_keeps ..).step rfl <| .refl ..) (.refl ..)) .same

@[simp] theorem execOtpBurnDone_completes (read : OtpRead) (anti keys : CtrReads) (pulses : BitVec 4) (s : State) :
    s.Completes (execOtpBurnDone read anti keys pulses s) := by
  unfold execOtpBurnDone
  split
  · exact .same
  · split
    exact .done <| (resetNow_keeps ..).step rfl <| .chainEither ((result_keeps ..).step rfl <| (modUpd_keeps ..).step rfl <| .refl ..)
      ((confirmStep_keeps ..).step rfl <| .refl ..) <| (verifyBurn_keeps_of ‹_›).step rfl <| .refl ..

@[simp] theorem execUpdbegin_completes (h : JtlHead) (manid pkglen : BitVec 32) (s : State) : s.Completes (execUpdbegin h manid pkglen s) :=
  .done <| receiveF_keeps rfl (fun _ hu => .either ((satInc_keeps ..).step rfl hu) (.either hu ((chainBegin_keeps ..).step rfl hu))) <| .refl ..

@[simp] theorem execUpdpart_completes (h : JtlHead) (manid : BitVec 32) (off : BitVec 24) (data : List Word) (s : State) :
    s.Completes (execUpdpart h manid off data s) :=
  .done <| receiveF_keeps rfl (fun _ hu => .either ((satInc_keeps ..).step rfl hu) (.either hu ((chainPart_keeps ..).step rfl hu))) <| .refl ..

@[simp] theorem execUpdact_completes (h : JtlHead) (manid : BitVec 32) (cmd : Byte) (apply : BitVec 32) (s : State) : s.Completes (execUpdact h manid cmd apply s) :=
  .done <| receiveF_keeps rfl (fun _ hu => .either ((satInc_keeps ..).step rfl hu) (.either hu ((chainAct_keeps ..).step rfl hu))) <| .refl ..

@[simp] theorem execUpdstat_completes (h : JtlHead) (manid : BitVec 32) (st sst code detail : Byte) (missing : BitVec 24) (s : State) :
    s.Completes (execUpdstat h manid st sst code detail missing s) :=
  .done <| receiveF_keeps rfl (fun _ hu => .either ((satInc_keeps ..).step rfl hu) (.either hu ((takeStat_keeps ..).step rfl hu))) <| .refl ..

@[simp] theorem execXdsCalibration_completes (s : State) : s.Completes (execXdsCalibration s) := by
  refine .ite ?_ .same
  split
  exact .done <| (modBoot_keeps ..).step rfl <| (free_keeps_of ‹_›).step rfl <| .refl ..

/-! ### The commands of Machine/Vdm.lean -/

@[simp] theorem execDiscoverIdentity_completes (h : PdHead) (s : State) : s.Completes (execDiscoverIdentity h s) :=
  vdmIn_completes (fun _ hu => .either (by
    split
    exact (vdmAck_keeps ..).step rfl <| (free_keeps_of ‹_›).step rfl hu) ((vdmNak_keeps ..).step rfl hu)) (fun _ hu => (nak_keeps ..).step rfl hu)

@[simp] theorem execDiscoverSvids_completes (h : PdHead) (s : State) : s.Completes (execDiscoverSvids h s) :=
  vdmIn_completes (fun _ hu => (vdmAck_keeps ..).step rfl hu) (fun _ hu => (nak_keeps ..).step rfl hu)

@[simp] theorem execDiscoverModes_completes (h : VdmHead) (s : State) : s.Completes (execDiscoverModes h s) :=
  .ite (vdmIn_completes (fun _ hu => (nak_keeps ..).step rfl hu) (fun _ hu => (nak_keeps ..).step rfl hu)) <|
    received_completes (fun _ hu => (ig_keeps ..).step rfl hu)

@[simp] theorem execAttention_completes (h : PdHead) (s : State) : s.Completes (execAttention h s) :=
  received_completes (fun _ hu => (ig_keeps ..).step rfl hu)

@[simp] theorem execInfoVdm_completes (h : PdHead) (s : State) : s.Completes (execInfoVdm h s) :=
  vdmIn_completes (fun _ hu => praeth_keeps rfl (fun _ hu => (vdmAck_keeps ..).step rfl hu) hu) (fun _ hu => (nak_keeps ..).step rfl hu)

@[simp] theorem execReadVdm_completes (h : PdHead) (addr : BitVec 24) (count : BitVec 3) (s : State) : s.Completes (execReadVdm h addr count s) :=
  vdmIn_completes (fun _ hu => praeth_keeps rfl (fun _ hu => .either ((vdmAck_keeps ..).step rfl <| .stepIf (clear_keeps ..) rfl <|
    .foldl (fun _ _ hu => (readFree_keeps ..).step rfl hu) hu) ((vdmNak_keeps ..).step rfl hu)) hu) (fun _ hu => (nak_keeps ..).step rfl hu)

@[simp] theorem execTelemVdm_completes (h : PdHead) (mv ma temp vin : BitVec 16) (s : State) : s.Completes (execTelemVdm h mv ma temp vin s) :=
  vdmIn_completes (fun _ hu => praeth_keeps rfl (fun _ hu => (vdmAck_keeps ..).step rfl hu) hu) (fun _ hu => (nak_keeps ..).step rfl hu)

@[simp] theorem execEnergyVdm_completes (h : PdHead) (band : BitVec 3) (s : State) : s.Completes (execEnergyVdm h band s) :=
  vdmIn_completes (fun _ hu => praeth_keeps rfl (fun _ hu => (vdmAck_keeps ..).step rfl hu) hu) (fun _ hu => (nak_keeps ..).step rfl hu)

@[simp] theorem execRecovEnter_completes (h : PdHead) (magic : BitVec 32) (s : State) : s.Completes (execRecovEnter h magic s) :=
  vdmIn_completes (fun _ hu => (nak_keeps ..).step rfl hu) (fun _ hu => recovery_keeps rfl (fun _ hu => .either ((vdmAck_keeps ..).step rfl <|
    (raise_keeps ..).step rfl hu) ((vdmNak_keeps ..).step rfl hu)) hu)

@[simp] theorem execDlBegin_completes (h : PdHead) (len crc : BitVec 32) (s : State) : s.Completes (execDlBegin h len crc s) :=
  vdmIn_completes (fun _ hu => (nak_keeps ..).step rfl hu) (fun _ hu => recovery_keeps rfl (fun _ hu => .either ((vdmAck_keeps ..).step rfl <|
    (updBegin_keeps ..).step rfl hu) ((vdmNak_keeps ..).step rfl <| (result_keeps ..).step rfl hu)) hu)

@[simp] theorem execDlData_completes (h : PdHead) (off : BitVec 24) (ws : List Word) (s : State) : s.Completes (execDlData h off ws s) :=
  vdmIn_completes (fun _ hu => (nak_keeps ..).step rfl hu) (fun _ hu => recovery_keeps rfl (fun _ hu => .either ((vdmNak_keeps ..).step rfl <|
    .either ((result_keeps ..).step rfl hu) hu) ((vdmAck_keeps ..).step rfl <| (updData_keeps ..).step rfl hu)) hu)

@[simp] theorem execDlEnd_completes (h : PdHead) (len crc : BitVec 32) (s : State) : s.Completes (execDlEnd h len crc s) :=
  vdmIn_completes (fun _ hu => (nak_keeps ..).step rfl hu) (fun _ hu => recovery_keeps rfl (fun _ hu => .either ((vdmAck_keeps ..).step rfl <|
    (result_keeps ..).step rfl hu) (.stepIf (updActivate_keeps ..) rfl <| (vdmAck_keeps ..).step rfl <| (dlEnd_keeps ..).step rfl hu)) hu)

@[simp] theorem execDlStatus_completes (h : PdHead) (s : State) : s.Completes (execDlStatus h s) :=
  vdmIn_completes (fun _ hu => (nak_keeps ..).step rfl hu) (fun _ hu => recovery_keeps rfl (fun _ hu => (vdmAck_keeps ..).step rfl hu) hu)

end Commands

/-! ### Every step -/

/-- Every command completes: the case of each constructor is the lemma about its meaning. -/
theorem exec_completes (c : Instr) (s : State) : s.Completes (exec c s) := by
  cases c <;> simp [exec]

theorem State.Completes.wf {s t : State} {r : Res} (h : s.Completes r) (hr : r = .next t) (hs : s.wf) : t.wf := by
  obtain ⟨u, hu, k⟩ := h
  obtain rfl : u = t := Host.Outcome.next.inj (hu.symm.trans hr)
  exact k.wf hs

theorem State.wf_setPending {s : State} (q : List Instr) (h : s.wf) : (s.setPending q).wf := State.wf_of h rfl rfl

/-- Settles O59: the queue is no part of the canonical form, and the command at its front keeps it. -/
theorem stepKeepsCanonicalForm : Obligations.StepKeepsCanonicalForm := by
  unfold Obligations.StepKeepsCanonicalForm
  intro s t hs ht
  unfold step at ht
  split at ht
  · obtain rfl := Host.Outcome.next.inj ht
    exact hs
  · exact (exec_completes _ _).wf ht (State.wf_setPending _ hs)

end Sys2Proof.Machine
end

section
/-!
PROOF. The clause of O10 about METER_PAGE_READ fails. A host port reads a word that its latch holds from there, and the read does nothing else (R189); the clause,
unlike those about TRS_STAT, SOF_TIME_SUB and GLB, does not ask that the port hold no latch. No latched group has a word of a metering page, so a read leaves no
such latch behind; but the clause is over every state.
-/

namespace Sys2Proof.Machine

/-- The booted block with OBSERVE for SPI, whose latch holds the first word of the metering page of port 0. -/
def pageLatched : State :=
  (((State.reset.put GLB_ISLPWR.ISL (2 ^ islHost)).put GLB_BOOTSTAT.STAGE 6).put HST_AUTH.SPI 1).modHp .spi
    (fun p => { p with latch := some { trigger := 0x5010, words := [(0xB400, 0)] } })

theorem pageLatched_listens : pageLatched.listens .spi = true := by decide

theorem pageLatched_judgeRead : pageLatched.judgeRead .spi 0xB400 1 = (stOK, 0, 0xB400) := by decide

/-- METER_PAGE_READ of port 0 takes the word from the latch, so the page is not latched. -/
theorem pageLatched_pages : (pageLatched.readTxn .spi 0xB400 1 .normal).host.ports[HostPort.spi.idx].pages = [] := by
  decide

/-- Refutes O10: in `pageLatched` METER_PAGE_READ of port 0 by SPI is accepted, and the port has no page afterwards. -/
theorem not_hostReads : ¬ Obligations.HostReads := by
  unfold Obligations.HostReads
  rintro ⟨-, -, -, -, -, -, -, -, meterPage, -⟩
  obtain ⟨t, ht, hpages, -⟩ := meterPage pageLatched .spi 0 pageLatched_listens pageLatched_judgeRead
  obtain rfl : pageLatched.readTxn .spi 0xB400 1 .normal = t := Host.Outcome.next.inj ht
  have h := hpages 0
  rw [pageLatched_pages] at h
  exact absurd h (by simp [cellGet])

end Sys2Proof.Machine
end

section
/-!
PROOF. The clause of O6 about RIDGE_RETURN fails. It gives every port an allocation of the larger of its floor and its contract's power, as the ledger is rebuilt
(R185). But the return also ends the fixed-logic responder of each port: one that goes back to Ready with an EPR exit held (R141, R160), its contract above 20 V,
starts Hard Reset, which takes the contract and returns the allocation to the floor (R142, R181).
-/

namespace Sys2Proof.Machine

/-- Ridge is out. Port 0, a source with an EPR contract of 140 W at 28 V, stands in Brace; it goes back to Ready and holds an EPR exit (mark 4). -/
def bracedAt28V : State :=
  (((((State.reset.put GLB_BOOTSTAT.STAGE 6).raise RDG_STAT.OUTAGE).put (PPD_STATUS.PSTATE 0) 12).raise (PPD_STATUS.EPRMODE 0)).put
    (PPD_CONTRACTVI.V10 0) 2800).modPd 0 (fun d => { d with braceState := some 6, held := [4], contractPower := 140 })

/-- The larger of floor and contract power, 140 W. -/
theorem bracedAt28V_claim : max (bracedAt28V.floorOf 0) (bracedAt28V.pd 0).contractPower % 2 ^ (TRS_ALLOC.ALLOC 0).w = 140 := by decide

/-- The Hard Reset that the return starts leaves port 0 the allocation of its floor, 0 W. -/
theorem bracedAt28V_ridgeBack_alloc : (bracedAt28V.reportAll bracedAt28V.ridgeBack).get (TRS_ALLOC.ALLOC 0) = 0 := by decide +kernel

/-- Refutes O6: after RIDGE_RETURN in `bracedAt28V` port 0 is allocated its floor and not the 140 W of its contract. -/
theorem not_ridgeAndBattenLoss : ¬ Obligations.RidgeAndBattenLoss := by
  unfold Obligations.RidgeAndBattenLoss
  rintro ⟨-, ridgeReturn, -, -⟩
  obtain ⟨t, ht, -, -, -, -, halloc, -⟩ := ridgeReturn bracedAt28V (by decide) (by decide) (by decide) rfl rfl (by decide)
  obtain rfl : bracedAt28V.reportAll bracedAt28V.ridgeBack = t := Host.Outcome.next.inj ht
  have h := halloc 0
  rw [bracedAt28V_ridgeBack_alloc, bracedAt28V_claim] at h
  exact absurd h (by decide)

end Sys2Proof.Machine
end

section
/-!
PROOF. The clause of O7 about REGION_RESTART fails. It says that no other port changes. The restarted port enters ErrorRecovery, which returns its allocation to
its floor (R104, R181); a deficit that the return makes good ends there, and with it the deficit offers that are due on the other ports (R183 step 5).
-/

namespace Sys2Proof.Machine

/-- The region of port 2 has closed its headers, its image enables it. Port 2 is allocated 15 W of a budget of 10 W, 10 W above its floor: Truss is in deficit, and port 1
owes a deficit offer. -/
def deficitAtRestart : State :=
  { ((((((State.reset.put GLB_BOOTSTAT.STAGE 6).put GLB_PORTMASK.PRESENT 0xFFFF).raise TRS_STAT.DEFICIT).put TRS_BUDGET.BUDGET 10).put
      (TRS_ALLOC.FLOOR 2) 5).put (TRS_ALLOC.ALLOC 2) 15).modPort 1 (fun p => { p with deficitDue := 1 }) with
    running := [0, 0, 400, 1, 0, 0, 0, 0, 0x00040203, 0, 1, 0]
    boot := { BootSt.reset with closing := [(2, 8)] } }

/-- The state after REGION_RESTART of port 2. -/
def deficitRestarted : State :=
  deficitAtRestart.reportAll
    (((deficitAtRestart.modBoot (fun b => { b with closing := b.closing.filter (fun p => p.1 != 2) })).returnIsland 2).haltDue 2)

/-- The allocation of port 2 has fallen to its floor, which ends the deficit: port 1 owes no offer any more. -/
theorem deficitRestarted_due : deficitRestarted.ports[(1 : Fin 16)].deficitDue = 0 := by decide +kernel

/-- Refutes O7: in `deficitAtRestart` the restart of port 2 takes the deficit offer that port 1 owes. -/
theorem not_underlayRegions : ¬ Obligations.UnderlayRegions := by
  unfold Obligations.UnderlayRegions
  rintro ⟨-, -, -, -, regionRestart⟩
  obtain ⟨t, ht, -, -, -, -, hports, -⟩ := regionRestart deficitAtRestart 2 2 rfl rfl (by decide) (by decide) (by decide) (by decide +kernel) rfl (by decide)
  obtain rfl : deficitRestarted = t := Host.Outcome.next.inj ht
  have h : deficitRestarted.ports[(1 : Fin 16)].deficitDue = 1 := congrArg PortSt.deficitDue (hports 1 (by decide))
  rw [deficitRestarted_due] at h
  exact absurd h (by decide)

end Sys2Proof.Machine
end

section
/-!
SUPPORT. Reasoning rules that the proofs about the Ridge share: a state rebuilt from the parts that a step may change, the reports of the ports, what a fired
event depends on, the end of a quiet commit slot, and a host port's command that commits at once.
-/

namespace Sys2Proof.Machine

/-! ### Parts of the state -/

/-- The parts of t at the bits of a mask, the others of s. -/
def State.mix (m : Nat) (s t : State) : State :=
  { regs := if m.testBit 0 then t.regs else s.regs
    staged := if m.testBit 1 then t.staged else s.staged
    freeCtr := if m.testBit 2 then t.freeCtr else s.freeCtr
    host := if m.testBit 3 then t.host else s.host
    ridge := if m.testBit 4 then t.ridge else s.ridge
    bat := if m.testBit 5 then t.bat else s.bat
    ports := if m.testBit 6 then t.ports else s.ports
    slices := if m.testBit 7 then t.slices else s.slices
    jtl := if m.testBit 8 then t.jtl else s.jtl
    soffit := if m.testBit 9 then t.soffit else s.soffit
    otp := if m.testBit 10 then t.otp else s.otp
    running := if m.testBit 11 then t.running else s.running
    mtr := if m.testBit 12 then t.mtr else s.mtr
    slate := if m.testBit 13 then t.slate else s.slate
    tha := if m.testBit 14 then t.tha else s.tha
    upd := if m.testBit 15 then t.upd else s.upd
    boot := if m.testBit 16 then t.boot else s.boot
    jtag := if m.testBit 17 then t.jtag else s.jtag
    pending := if m.testBit 18 then t.pending else s.pending }

theorem ite_eq_of_false {α : Type} {b : Bool} {x y : α} (h : b = false → x = y) : x = if b then x else y := by
  cases b
  · exact h rfl
  · rfl

/-- What a step changes lies in the parts of its mask. -/
theorem State.Keeps.eq_mix {s t : State} {m : Nat} (h : s.Keeps m t) : t = s.mix m t := by
  unfold State.mix
  rw [← ite_eq_of_false h.regs, ← ite_eq_of_false h.staged, ← ite_eq_of_false h.freeCtr, ← ite_eq_of_false h.host, ← ite_eq_of_false h.ridge,
    ← ite_eq_of_false h.bat, ← ite_eq_of_false h.ports, ← ite_eq_of_false h.slices, ← ite_eq_of_false h.jtl, ← ite_eq_of_false h.soffit,
    ← ite_eq_of_false h.otp, ← ite_eq_of_false h.running, ← ite_eq_of_false h.mtr, ← ite_eq_of_false h.slate, ← ite_eq_of_false h.tha,
    ← ite_eq_of_false h.upd, ← ite_eq_of_false h.boot, ← ite_eq_of_false h.jtag, ← ite_eq_of_false h.pending]

/-- What each step of a fold keeps, the fold keeps. -/
theorem State.foldl_same {α β : Type} {f : State → α → State} (g : State → β) (h : ∀ s x, g (f s x) = g s) (l : List α) (s : State) :
    g (l.foldl f s) = g s := by
  induction l generalizing s with
  | nil => rfl
  | cons x l ih => exact (ih (f s x)).trans (h s x)

/-- A change of the Ridge that changes nothing. -/
theorem State.modRidge_eq_self {s : State} {f : RidgeSt → RidgeSt} (h : f s.ridge = s.ridge) : s.modRidge f = s := by
  unfold State.modRidge
  rw [h]

theorem State.modPort_port_same (s : State) (n : Fin 16) (f : PortSt → PortSt) : (s.modPort n f).ports[n] = f s.ports[n] := by
  simp

theorem State.modPort_port_ne (s : State) {n m : Fin 16} (f : PortSt → PortSt) (h : m ≠ n) : (s.modPort n f).ports[m] = s.ports[m] := by
  have : n.val ≠ m.val := fun e => h (Fin.ext e.symm)
  simp [this]

/-! ### Registers -/

theorem State.get_of_rd {s t : State} {f : Fld} (h : t.rd f.addr = s.rd f.addr) : t.get f = s.get f := congrArg f.of h

theorem State.bit_of_rd {s t : State} {f : Fld} (h : t.rd f.addr = s.rd f.addr) : t.bit f = s.bit f := by
  rw [State.bit, State.bit, State.get_of_rd h]

/-- A register of a port block is none of the registers below them. -/
theorem portAddr_ne (n : Fin 16) {d a : Nat} (h : a < 0x10000) : portBase n.val + d ≠ a := by
  unfold portBase
  omega

theorem State.portUp_of_rd {s t : State} {n : Fin 16} (hm : t.rd GLB_PORTMASK.at = s.rd GLB_PORTMASK.at) (hi : t.rd GLB_ISLPWR.at = s.rd GLB_ISLPWR.at) :
    t.portUp n = s.portUp n := by
  rw [State.portUp, State.portUp, State.present, State.present, State.islandUp, State.islandUp, State.get_of_rd (f := GLB_PORTMASK.PRESENT) hm,
    State.get_of_rd (f := GLB_ISLPWR.ISL) hi]

/-- A field that counts up stays at its greatest value (R12). -/
theorem State.get_satInc_same (s : State) (f : Fld) (h : f.lo + f.w ≤ 32) : (s.satInc f).get f = min (s.get f + 1) (2 ^ f.w - 1) := by
  have := Nat.two_pow_pos f.w
  rw [State.satInc, State.satAdd, State.get_put_same _ _ _ h, Nat.mod_eq_of_lt (by omega)]

theorem State.get_wrapInc_same (s : State) (f : Fld) (h : f.lo + f.w ≤ 32) : (s.wrapInc f).get f = (s.get f + 1) % 2 ^ f.w := by
  rw [State.wrapInc, State.wrapAdd, State.get_put_same _ _ _ h]

theorem State.rd_wrapInc_ne (s : State) (f : Fld) {a : Nat} (h : a ≠ f.addr) : (s.wrapInc f).rd a = s.rd a := State.rd_put_ne s f _ a h

theorem State.rd_satInc_ne (s : State) (f : Fld) {a : Nat} (h : a ≠ f.addr) : (s.satInc f).rd a = s.rd a := State.rd_put_ne s f _ a h

/-- Have two fields of one register no bit in common, the second lying within the word? -/
def Fld.apart (f g : Fld) : Bool := (decide (g.lo + g.w ≤ f.lo) || decide (f.lo + f.w ≤ g.lo)) && decide (g.lo + g.w ≤ 32)

theorem State.get_put_apart (s : State) {f g : Fld} (x : Nat) (h : f.apart g = true) : (s.put f x).get g = s.get g := by
  simp only [Fld.apart, Bool.and_eq_true, Bool.or_eq_true, decide_eq_true_eq] at h
  exact State.get_put_disjoint s f g x (.inr h.1) h.2

theorem State.get_clear_apart (s : State) {f g : Fld} (h : f.apart g = true) : (s.clear f).get g = s.get g := s.get_put_apart 0 h

theorem State.rd_clear_ne (s : State) (f : Fld) {a : Nat} (h : a ≠ f.addr) : (s.clear f).rd a = s.rd a := State.rd_put_ne s f 0 a h

/-! ### Reports (R373) -/

theorem inPort_off (n : Fin 16) {d : Nat} (h : d < 0x1000) : inPort n (portBase n.val + d) = true := by
  simp [inPort, within, h]

/-- The watched fields of a port lie in its own block. -/
theorem State.genKey_of_rd {s t : State} {n : Fin 16} (h : ∀ a, inPort n a = true → t.rd a = s.rd a) : t.genKey n = s.genKey n := by
  have g (f : Fld) (hf : inPort n f.addr = true) : t.get f = s.get f := State.get_of_rd (h _ hf)
  simp only [State.genKey, g (PCC_STATUS.STATE n) (inPort_off n (by decide)), g (PCC_STATUS.ORIENT n) (inPort_off n (by decide)),
    g (PCC_STATUS.LATCHED n) (inPort_off n (by decide)), g (PCC_STATUS.VCONNLATCH n) (inPort_off n (by decide)),
    g (PPD_STATUS.PSTATE n) (inPort_off n (by decide)), g (PPD_STATUS.CONTRACT n) (inPort_off n (by decide)),
    g (PPD_STATUS.KIND n) (inPort_off n (by decide)), g (PPD_STATUS.EPRMODE n) (inPort_off n (by decide)),
    g (PPD_STATUS.DROLE n) (inPort_off n (by decide)), g (PPD_STATUS.BRACE n) (inPort_off n (by decide)),
    g (PPD_CONTRACT.RDO n) (inPort_off n (by decide)), g (PEV_STATUS.STATE n) (inPort_off n (by decide)),
    g (PLP_STATUS.MODE n) (inPort_off n (by decide)), g (PLP_STATUS.BANK n) (inPort_off n (by decide))]

/-- A step whose registers lie outside the port blocks changes no watched field. -/
theorem State.genKey_of_regsBut {s t : State} {l : List Nat} (h : s.regsBut t l) (hl : ∀ a ∈ l, a < 0x10000) (n : Fin 16) : t.genKey n = s.genKey n :=
  State.genKey_of_rd fun a ha => h a fun hm => by
    have := hl a hm
    simp only [inPort, within, portBase, Bool.and_eq_true, decide_eq_true_eq] at ha
    omega

theorem State.report_eq_self {b s : State} {n : Fin 16} (h : b.genKey n = s.genKey n) : b.report n s = s := if_pos h

theorem State.reportAll_eq_self {b s : State} (h : ∀ n, b.genKey n = s.genKey n) : b.reportAll s = s := by
  unfold State.reportAll
  induction allPorts with
  | nil => rfl
  | cons n l ih => rw [List.foldl_cons, State.report_eq_self (h n), ih]

@[simp] theorem State.reportAll_regs (b s : State) : (b.reportAll s).regs = s.regs := (State.reportAll_keeps b s).regs rfl

/-- A report counts in the port's STATE_GEN and leaves the rest of the port. -/
theorem State.reportAll_port (b s : State) (m : Fin 16) : ∃ g, (b.reportAll s).ports[m] = { s.ports[m] with gen := g } := by
  unfold State.reportAll
  induction allPorts generalizing s with
  | nil => exact ⟨_, rfl⟩
  | cons n l ih =>
    obtain ⟨g, hg⟩ := ih (b.report n s)
    rw [List.foldl_cons, hg]
    unfold State.report
    split
    · exact ⟨_, rfl⟩
    · by_cases hm : m = n
      · subst m
        rw [State.modPort_port_same]
        exact ⟨_, rfl⟩
      · rw [State.modPort_port_ne _ _ hm]
        exact ⟨_, rfl⟩

/-- A port whose watched fields are as before reports nothing. -/
theorem State.reportAll_port_of_genKey {b s : State} {m : Fin 16} (h : b.genKey m = s.genKey m) : (b.reportAll s).ports[m] = s.ports[m] := by
  unfold State.reportAll
  induction allPorts generalizing s with
  | nil => rfl
  | cons n l ih =>
    have hk : b.genKey m = (b.report n s).genKey m :=
      h.trans (State.genKey_of_rd fun a _ => (State.rd_of_regs (State.report_regs b s n) a)).symm
    rw [List.foldl_cons, ih hk]
    unfold State.report
    split
    · rfl
    · by_cases hm : m = n
      · subst m
        contradiction
      · exact State.modPort_port_ne _ _ hm

/-! ### Events -/

/-- An event depends on the Batten island's supply, its FIFOs and the clock. -/
theorem State.fire_bat_of {s t : State} (e d : Nat) (hb : t.bat = s.bat) (hs : t.soffit = s.soffit) (hi : t.rd GLB_ISLPWR.at = s.rd GLB_ISLPWR.at) :
    (t.fire e d).bat = (s.fire e d).bat := by
  have hu : t.islandUp islBatten = s.islandUp islBatten := by
    rw [State.islandUp, State.islandUp, State.get_of_rd (f := GLB_ISLPWR.ISL) hi]
  simp only [State.fire, State.edge, hu, hb, hs, apply_ite State.bat]

/-! ### The end of a quiet slot (R169, R183) -/

/-- What the ledger has free depends on the Truss registers and the budget cut (R180). -/
theorem State.trussFree_of {s t : State} (hr : ∀ a, block 4 a = true → t.rd a = s.rd a) (hc : t.ridge.cut = s.ridge.cut) : t.trussFree = s.trussFree := by
  have hport (x k : Nat) (n : Fin 16) (hx : 0x4000 ≤ x) (hk : x + 0x40 ≤ 0x5000) : block 4 (x + 4 * n.val) = true := by
    simp only [block, beq_iff_eq]
    omega
  have hf : t.floorOf = s.floorOf := funext fun n => State.get_of_rd (hr _ (hport 0x4040 0 n (by decide) (by decide)))
  have ha : t.allocOf = s.allocOf := funext fun n => State.get_of_rd (hr _ (hport 0x4040 0 n (by decide) (by decide)))
  have hh : t.holdOf = s.holdOf := funext fun n => by
    have h := hr (TRS_HOLD.at n) (hport 0x4080 0 n (by decide) (by decide))
    rw [State.holdOf, State.holdOf, State.bit_of_rd (f := TRS_HOLD.VALID n) h, State.get_of_rd (f := TRS_HOLD.HOLD n) h]
  have he : t.effBudget = s.effBudget := by
    rw [State.effBudget, State.effBudget, State.bit_of_rd (f := TRS_STAT.CHAIN) (hr _ rfl), State.get_of_rd (f := TRS_SHARE.SHARE) (hr _ rfl),
      State.get_of_rd (f := TRS_BUDGET.BUDGET) (hr _ rfl), hc, State.floorSum, State.floorSum, hf]
  rw [State.trussFree, State.trussFree, he, State.allocSum, State.allocSum, ha, State.heldSum, State.heldSum, hh]

/-- A slot stays quiet over a step that leaves the Truss registers, and of the Ridge all but the window, the waiting ops, the last tag and the VCONN marks. -/
theorem State.slotClean_of {s t : State} (h : s.slotClean) (hr : ∀ a, block 4 a = true → t.rd a = s.rd a) (hc : t.ridge.cut = s.ridge.cut)
    (hq : t.ridge.cancels = s.ridge.cancels) (hd : t.ridge.disabled = s.ridge.disabled) (hk : t.ridge.recheck = s.ridge.recheck) : t.slotClean := by
  rw [State.slotClean, hq, hd, hk, State.trussFree_of hr hc, State.bit_of_rd (f := TRS_STAT.DEFICIT) (hr _ rfl)]
  exact h

/-- With no change of the budget in the slot, its end resolves the cancels that wait, and a deficit that is over ends. -/
theorem State.endSlot_of_recheck {s : State} (h : s.resolveCancels.ridge.recheck = false) (hd : s.resolveCancels.ridge.disabled = []) :
    s.endSlot = s.resolveCancels.settleDeficit := by
  have hm : s.resolveCancels.modRidge (fun r => { r with disabled := [] }) = s.resolveCancels :=
    State.modRidge_eq_self (by rw [← hd])
  simp [State.endSlot, hm, h]

theorem State.settleDeficit_of_slotClean {s : State} (h : s.slotClean) : s.settleDeficit = s := if_neg (by simp [h.2.2.2])

theorem State.resolveCancels_of_nil {s : State} (h : s.ridge.cancels = []) : s.resolveCancels = s := by
  have hm : s.modRidge (fun r => { r with cancels := [] }) = s := State.modRidge_eq_self (by rw [← h])
  rw [State.resolveCancels, h, hm, List.foldl_nil]

/-- The end of a quiet slot changes nothing. -/
theorem State.endSlot_of_slotClean {s : State} (h : s.slotClean) : s.endSlot = s := by
  obtain ⟨hcancels, hdisabled, hrecheck, hdeficit⟩ := h
  rw [State.endSlot_of_recheck] <;> rw [State.resolveCancels_of_nil hcancels]
  · exact State.settleDeficit_of_slotClean ⟨hcancels, hdisabled, hrecheck, hdeficit⟩
  · exact hrecheck
  · exact hdisabled

/-! ### A host port's command that commits at once (assumption log 6) -/

/-- A write is not accepted in an outage of Ridge. -/
theorem State.outage_of_accepts {s : State} {hp : HostPort} {ws : List (Nat × Word)} (h : s.accepts hp ws) : s.outage = false := by
  by_contra ho
  rw [Bool.not_eq_false] at ho
  have hj := h.2
  simp only [State.judgeWrite, ho, Bool.true_or, if_true] at hj
  repeat' split at hj
  all_goals exact absurd (Prod.mk.inj hj).1 (by decide)

/-- The command takes effect behind the ops that its words pass, the slot ends, and the port shows the code. -/
theorem State.commandWords_of_takesAll {s : State} {hp : HostPort} {ws : List (Nat × Word)} (h : s.takesAll hp ws) (effect : State → State × Nat) :
    s.commandWords hp ws effect =
      (effect (s.passOps ws)).1.endSlot.endWith hp (effect (s.passOps ws)).2 0 ((effect (s.passOps ws)).1.genOf (ws.headD (0, 0)).1) := by
  obtain ⟨haccepts, hridge, hroom, honce, -⟩ := h
  obtain ⟨hlistens, hjudge⟩ := id haccepts
  obtain ⟨u, hu⟩ := Option.isSome_iff_exists.1 hroom
  simp only [State.opsFor] at hu honce
  simp only [State.commandWords, hlistens, hjudge, State.outage_of_accepts haccepts, hridge, hu, honce, List.foldl_map, State.passOps]
  rfl

theorem State.command_of_takes {s : State} {hp : HostPort} {a : Nat} {v : Word} (h : s.takes hp a v) (effect : State → State) :
    s.command hp a v effect = (effect s.passOp).endSlot.endWith hp stOK 0 ((effect s.passOp).genOf a) :=
  State.commandWords_of_takesAll h (fun t => (effect t, stOK))

theorem State.genOf_of_blockOf {s : State} {a : Nat} (h : s.portOf a = none) : s.genOf a = 0 := by
  rw [State.genOf, h]

/-- The port that ends its command with OK says so, and nothing else of the Host island changes. -/
theorem State.hostSays_endWith {s t : State} (h : t.host = s.host) (hp : HostPort) (detail gen : Nat) :
    s.hostSays (t.endWith hp stOK detail gen) hp stOK detail gen := by
  change (t.modHp hp (fun p => { p with status := statusWord stOK detail gen })).host = _
  simp only [State.modHp, State.modHost, h]

/-! ### The op of such a command passes the window (R164, R168) -/

theorem State.passOp_ridge (s : State) : s.passOp.ridge = { s.ridge with lastTag := s.passOp.ridge.lastTag } := by
  unfold State.passOp
  split <;> rfl

theorem State.rd_passOp (s : State) {a : Nat} (h : a ≠ RDG_CNT0.at) : s.passOp.rd a = s.rd a := by
  unfold State.passOp
  split <;> exact State.rd_wrapInc_ne _ RDG_CNT0.COMMITTED h

theorem State.slotClean_passOp {s : State} (h : s.slotClean) : s.passOp.slotClean :=
  State.slotClean_of h (fun _ ha => s.rd_passOp (by rintro rfl; exact absurd ha (by decide))) (by rw [State.passOp_ridge]) (by rw [State.passOp_ridge])
    (by rw [State.passOp_ridge]) (by rw [State.passOp_ridge])

end Sys2Proof.Machine
end

section
/-!
SUPPORT. How an op enters the window (R164, R167, R172).
-/

namespace Sys2Proof.Machine

theorem State.ridgeRuns_iff {s : State} : s.ridgeRuns = true ↔ s.islandUp islRidge = true ∧ s.halted islRidge = false := by
  simp [State.ridgeRuns]

/-- OP_ENTER with a source, port and class that are not reserved, while Ridge runs. -/
theorem exec_opEnter {s : State} {src : BitVec 4} {port : BitVec 5} {cls sub : BitVec 4} {arg : BitVec 28} (h1 : 1 ≤ src.toNat) (h9 : src.toNat ≤ 9)
    (hp : port.toNat ≤ 16) (hc : cls.toNat ≤ 8) (hr : s.ridgeRuns = true) :
    exec (.opEnter src port cls sub arg) s = done
      (if src.toNat ≤ 3 then
        (if hasRoom s.ridge.window (enteringOp src.toNat port.toNat cls.toNat sub.toNat arg.toNat) then
          s.push (enteringOp src.toNat port.toNat cls.toNat sub.toNat arg.toNat) else s)
      else s.offer (enteringOp src.toNat port.toNat cls.toNat sub.toNat arg.toNat)) := by
  have hsrc : src ≠ 0 := fun e => absurd h1 (by simp [e])
  change execOpEnter src port cls sub arg s = _
  have hlegal : ¬(src = 0 ∨ 9 < src.toNat ∨ 16 < port.toNat ∨ 8 < cls.toNat ∨ ¬s.ridgeRuns = true) := by
    simp only [not_or, not_not]
    exact ⟨hsrc, by omega, by omega, by omega, hr⟩
  rw [execOpEnter, if_neg hlegal]
  split <;> rfl

/-- Reserved operands, or a Ridge that does not run, enter nothing. -/
theorem exec_opEnter_of_host_full {s : State} {src : BitVec 4} {port : BitVec 5} {cls sub : BitVec 4} {arg : BitVec 28} (h3 : src.toNat ≤ 3)
    (hfull : hasRoom s.ridge.window (enteringOp src.toNat port.toNat cls.toNat sub.toNat arg.toNat) = false) :
    exec (.opEnter src port cls sub arg) s = done s := by
  change execOpEnter src port cls sub arg s = _
  unfold execOpEnter
  unfold enteringOp at hfull
  simp [h3, hfull]

theorem State.push_of_freeTag {s : State} {o : Op} {tag : Nat} (h : freeTag s.ridge.window s.ridge.lastTag 256 = some tag) :
    s.push o = s.modRidge (fun r => { r with window := r.window ++ [{ o with tag := tag, at_us := s.soffit.uptime }], lastTag := tag }) := by
  simp [State.push, h]

/-- An internal op enters where the window has room and no op of its source for its port waits. -/
theorem State.offer_of_room {s : State} {o : Op} (hr : s.islandUp islRidge = true) (hw : waitsBehind s.ridge.waiting o = false)
    (hroom : hasRoom s.ridge.window o = true) : s.offer o = s.push o := by
  simp [State.offer, hr, hw, hroom]

/-- An internal op waits where the window has no room for it. -/
theorem State.offer_of_full {s : State} {o : Op} (hr : s.islandUp islRidge = true) (hfull : hasRoom s.ridge.window o = false) (ht : o.tent = false)
    (hw : s.waitingOf o.src < 16) : s.offer o = s.modRidge (fun r => { r with waiting := r.waiting ++ [o] }) := by
  simp [State.offer, hr, hfull, ht, hw]

/-- With 16 ops of its source waiting an op of a timer, of Batten, of the sequencer or of Soffit is dropped. -/
theorem State.offer_of_overflow {s : State} {o : Op} (hr : s.islandUp islRidge = true) (hfull : hasRoom s.ridge.window o = false) (hs : 6 ≤ o.src)
    (hw : 16 ≤ s.waitingOf o.src) : s.offer o = (s.satInc RDG_CNT1.DROP).fire 0x119 := by
  have hpd : (o.src == srcPd) = false := beq_false_of_ne (by unfold srcPd; omega)
  have hjtl : (o.src == srcJotil) = false := beq_false_of_ne (by unfold srcJotil; omega)
  simp [State.offer, hr, hfull, hpd, hjtl, hw]

end Sys2Proof.Machine
end

section
/-!
SUPPORT. A commit slot on a window of one op (R168 to R170), and what the op does by its class.
-/

namespace Sys2Proof.Machine

theorem State.rd_counted_ne (s : State) {a : Nat} (h : a ≠ RDG_CNT0.at) : s.counted.rd a = s.rd a := State.rd_wrapInc_ne s RDG_CNT0.COMMITTED h

theorem State.get_counted (s : State) : s.counted.get RDG_CNT0.COMMITTED = (s.get RDG_CNT0.COMMITTED + 1) % 2 ^ RDG_CNT0.COMMITTED.w :=
  State.get_wrapInc_same s RDG_CNT0.COMMITTED (by decide)

/-- The state once the only op of the window has left it and is counted (R168). -/
def State.emptied (s : State) : State := (s.modRidge (fun r => { r with window := [] })).counted

theorem State.dropOp_single {s : State} {o : Op} (hw : s.ridge.window = [o]) : (s.dropOp o.tag).counted = s.emptied := by
  simp [State.emptied, State.dropOp, State.modRidge, hw]

theorem State.rd_emptied (s : State) {a : Nat} (h : a ≠ RDG_CNT0.at) : s.emptied.rd a = s.rd a := State.rd_counted_ne _ h

theorem State.portUp_emptied (s : State) (n : Fin 16) : s.emptied.portUp n = s.portUp n :=
  State.portUp_of_rd (s.rd_emptied (by decide)) (s.rd_emptied (by decide))

theorem State.cc_emptied (s : State) (n : Fin 16) : s.emptied.cc n = s.cc n :=
  State.get_of_rd (s.rd_emptied (portAddr_ne n (by decide)))

theorem State.slotClean_emptied {s : State} (h : s.slotClean) : s.emptied.slotClean :=
  State.slotClean_of h (fun _ ha => s.rd_emptied (by rintro rfl; exact absurd ha (by decide))) rfl rfl rfl rfl

/-- One quiet slot on a window of one op that is ready: the op commits and the slot is counted. -/
theorem State.commitSlot_single {s : State} {o : Op} (hw : s.ridge.window = [o]) (hq : s.ridge.waiting = []) (hcfg : cellGet s.staged RDG_CFG.at = none)
    (ht : o.tent = false) (he : o.isEval = false) (hc : s.cfgReady o = true) :
    s.commitSlot 8 = ((s.commitOne o).endSlot.modRidge (fun r => { r with vconn := [] })).wrapInc RDG_SLOTS.SLOTS := by
  have hwait : s.offerWaiting = s := by
    rw [State.offerWaiting, hq, List.foldl_nil, State.modRidge_eq_self (by rw [← hq])]
  have htake : s.takeRdgCfg = s := by
    simp [State.takeRdgCfg, State.takeStaged, hcfg]
  have hslot : State.slotOp (s, 8) o.tag = (s.commitOne o, 7) := by
    simp [State.slotOp, State.opAt, State.atHead, State.opsOf, hw, ht, he, hc]
  simp only [State.commitSlot, hwait, htake, hw, List.map_cons, List.map_nil, List.foldl_cons, List.foldl_nil, hslot]

/-- Such a slot as a command, where the op's commit leaves the slot quiet and changes no register of a port block. -/
theorem exec_commitSlot_single {s v : State} {o : Op} {l : List Nat} (hr : s.ridgeRuns = true) (hw : s.ridge.window = [o]) (hq : s.ridge.waiting = [])
    (hcfg : cellGet s.staged RDG_CFG.at = none) (ht : o.tent = false) (he : o.isEval = false) (hc : s.cfgReady o = true) (hv : s.commitOne o = v)
    (hclean : v.slotClean) (hregs : s.regsBut v l) (hl : ∀ a ∈ l, a < 0x10000) :
    exec (.commitSlot false) s = done ((v.modRidge (fun r => { r with vconn := [] })).wrapInc RDG_SLOTS.SLOTS) := by
  have hk (n : Fin 16) : s.genKey n = ((v.modRidge (fun r => { r with vconn := [] })).wrapInc RDG_SLOTS.SLOTS).genKey n := by
    refine (State.genKey_of_regsBut (l := RDG_SLOTS.at :: l) (fun a ha => ?_) (fun a ha => ?_) n).symm
    · rw [State.rd_wrapInc_ne _ _ (fun e => ha (by simp [e]))]
      exact hregs a (fun e => ha (by simp [e]))
    · rcases List.mem_cons.1 ha with rfl | ha
      · decide
      · exact hl a ha
  change execCommitSlot false s = _
  rw [execCommitSlot, if_pos hr, State.commitSlot_single hw hq hcfg ht he hc, hv, State.endSlot_of_slotClean hclean]
  exact congrArg _ (State.reportAll_eq_self hk)

theorem State.commitOne_of_plain {s : State} {o : Op} (hw : s.ridge.window = [o]) (h : o.reg = none) : s.commitOne o = s.emptied.commitClass o := by
  simp [State.commitOne, h, State.dropOp_single hw]

theorem Op.isEval_of_cls {o : Op} (h : o.cls ≠ clsMSG) : o.isEval = false := by
  simp [Op.isEval, h]

theorem State.cfgReady_of_cls {s : State} {o : Op} (h : o.cls ≠ clsCFG) : s.cfgReady o = true := by
  simp [State.cfgReady, h]

theorem State.cfgReady_of_reg {s : State} {o : Op} (h : o.reg.isSome = true) : s.cfgReady o = true := by
  simp [State.cfgReady, h]

/-- An SW op below SUB 7 that commits waits in the apply queue of its port. -/
theorem State.commitClass_sw {s : State} {o : Op} {n : Fin 16} (hc : o.cls = clsSW) (hs : o.sub < 7) (hn : o.port = n.val) :
    s.commitClass o = if s.portUp n then s.toApply n o else s := by
  have hlt : o.port < 16 := hn ▸ n.isLt
  obtain rfl : n = ⟨o.port, hlt⟩ := Fin.ext hn.symm
  have h7 : o.sub ≠ 7 := by omega
  simp [State.commitClass, State.commitSw, hc, hlt, h7, hs]

/-- A SETP or LIM op that commits waits in the apply queue of its port. -/
theorem State.commitClass_setpoint {s : State} {o : Op} {n : Fin 16} (hc : o.cls = clsSETP ∨ o.cls = clsLIM) (hn : o.port = n.val) :
    s.commitClass o = if s.portUp n then s.toApply n o else s := by
  have hlt : o.port < 16 := hn ▸ n.isLt
  obtain rfl : n = ⟨o.port, hlt⟩ := Fin.ext hn.symm
  rcases hc with hc | hc <;>
    simp [State.commitClass, hc, hlt, clsSETP, clsLIM, clsSW, clsTRUSS, clsMEAS, clsLOG, clsTIME, clsCFG, clsMSG]

/-- In a fault path or in ErrorRecovery an op that moves the output is discarded on arrival (R26, R104). -/
theorem State.toApply_of_fault {s : State} {o : Op} {n : Fin 16} (hc : o.cls = clsSETP ∨ o.cls = clsLIM ∨ o.cls = clsSW)
    (h : s.ports[n].faultPath = true ∨ s.cc n = ccErrorRecovery) : s.toApply n o = s := by
  refine if_pos ?_
  simp only [Bool.and_eq_true, Bool.or_eq_true, beq_iff_eq]
  exact ⟨by tauto, h⟩

/-- A port once an op has joined its apply queue. -/
def PortSt.queued (o : Op) (p : PortSt) : PortSt := { p with applyQ := p.applyQ ++ [o] }

/-- Out of a fault path and of ErrorRecovery an op joins the apply queue. -/
theorem State.toApply_of_sound {s : State} {o : Op} {n : Fin 16} (ht : o.tent = false) (hf : s.ports[n].faultPath = false) (hcc : s.cc n ≠ ccErrorRecovery) :
    s.toApply n o = s.modPort n (.queued o) := by
  have ho : { o with tent := false } = o := by rw [← ht]
  rw [State.toApply, hf, beq_false_of_ne hcc, ho]
  exact if_neg (by simp)

end Sys2Proof.Machine
end

section
/-!
PROOF. O12, the clauses about OP_ENTER and COMMIT_SLOT.
-/

namespace Sys2Proof.Machine

theorem Next.of_done {c : Instr} {s t : State} {P : State → Prop} (h : exec c s = done t) (p : P t) : Next c s P := ⟨t, h, p⟩

theorem opEnter_enters (s : State) (src : BitVec 4) (port : BitVec 5) (cls sub : BitVec 4) (arg : BitVec 28) (tag : Nat) (h1 : 1 ≤ src.toNat)
    (h9 : src.toNat ≤ 9) (hp : port.toNat ≤ 16) (hc : cls.toNat ≤ 8) (hr : s.ridgeRuns = true)
    (hw : 4 ≤ src.toNat → waitsBehind s.ridge.waiting (enteringOp src.toNat port.toNat cls.toNat sub.toNat arg.toNat) = false)
    (hroom : hasRoom s.ridge.window (enteringOp src.toNat port.toNat cls.toNat sub.toNat arg.toNat) = true)
    (htag : freeTag s.ridge.window s.ridge.lastTag 256 = some tag) :
    Next (.opEnter src port cls sub arg) s fun t =>
      t.ridge.window = s.ridge.window ++ [{ enteringOp src.toNat port.toNat cls.toNat sub.toNat arg.toNat with tag := tag, at_us := s.soffit.uptime }] ∧
      t.ridge.lastTag = tag ∧ t = { s with ridge := { s.ridge with window := t.ridge.window, lastTag := t.ridge.lastTag } } := by
  have h := exec_opEnter (sub := sub) (arg := arg) h1 h9 hp hc hr
  rw [hroom, if_pos rfl] at h
  by_cases h3 : src.toNat ≤ 3
  · rw [if_pos h3, State.push_of_freeTag htag] at h
    exact .of_done h ⟨rfl, rfl, rfl⟩
  · rw [if_neg h3, State.offer_of_room (State.ridgeRuns_iff.1 hr).1 (hw (by omega)) hroom, State.push_of_freeTag htag] at h
    exact .of_done h ⟨rfl, rfl, rfl⟩

theorem opEnter_host_full (s : State) (src : BitVec 4) (port : BitVec 5) (cls sub : BitVec 4) (arg : BitVec 28) (h3 : src.toNat ≤ 3)
    (hfull : hasRoom s.ridge.window (enteringOp src.toNat port.toNat cls.toNat sub.toNat arg.toNat) = false) :
    Next (.opEnter src port cls sub arg) s fun t => t = s := .of_done (exec_opEnter_of_host_full h3 hfull) rfl

theorem opEnter_waits (s : State) (src : BitVec 4) (port : BitVec 5) (cls sub : BitVec 4) (arg : BitVec 28) (h4 : 4 ≤ src.toNat) (h9 : src.toNat ≤ 9)
    (hp : port.toNat ≤ 16) (hc : cls.toNat ≤ 8) (hr : s.ridgeRuns = true)
    (hfull : hasRoom s.ridge.window (enteringOp src.toNat port.toNat cls.toNat sub.toNat arg.toNat) = false) (hw : s.waitingOf src.toNat < 16) :
    Next (.opEnter src port cls sub arg) s fun t =>
      t = { s with ridge := { s.ridge with waiting := s.ridge.waiting ++ [enteringOp src.toNat port.toNat cls.toNat sub.toNat arg.toNat] } } := by
  have h := exec_opEnter (sub := sub) (arg := arg) (by omega) h9 hp hc hr
  rw [if_neg (by omega), State.offer_of_full (State.ridgeRuns_iff.1 hr).1 hfull rfl hw] at h
  exact .of_done h rfl

theorem opEnter_drops (s : State) (src : BitVec 4) (port : BitVec 5) (cls sub : BitVec 4) (arg : BitVec 28) (h6 : 6 ≤ src.toNat) (h9 : src.toNat ≤ 9)
    (hp : port.toNat ≤ 16) (hc : cls.toNat ≤ 8) (hr : s.ridgeRuns = true)
    (hfull : hasRoom s.ridge.window (enteringOp src.toNat port.toNat cls.toNat sub.toNat arg.toNat) = false) (hw : 16 ≤ s.waitingOf src.toNat) :
    Next (.opEnter src port cls sub arg) s fun t =>
      t.get RDG_CNT1.DROP = min (s.get RDG_CNT1.DROP + 1) (2 ^ RDG_CNT1.DROP.w - 1) ∧ t.bat = (s.fire 0x119).bat ∧
      s.regsBut t [RDG_CNT1.at] ∧ t = { s with regs := t.regs, bat := t.bat } := by
  have h := exec_opEnter (sub := sub) (arg := arg) (by omega) h9 hp hc hr
  rw [if_neg (by omega), State.offer_of_overflow (State.ridgeRuns_iff.1 hr).1 hfull h6 hw] at h
  refine .of_done h ⟨?_, ?_, fun a ha => ?_, ?_⟩
  · rw [State.get_of_regs (State.fire_regs ..), State.get_satInc_same _ _ (by decide)]
  · exact State.fire_bat_of _ _ rfl rfl (State.rd_satInc_ne _ _ (by decide))
  · rw [State.rd_of_regs (State.fire_regs ..), State.rd_satInc_ne _ _ (by simpa using ha)]
  · exact ((State.satInc_keeps s RDG_CNT1.DROP).mono (by decide) |>.trans ((State.fire_keeps ..).mono (by decide)) :
      s.Keeps (pRegs ||| pBat) _).eq_mix

/-- After a quiet slot on one op: the count of slots, and the registers that the op's commit did not reach. -/
theorem slotCounted_regs {s v : State} {l : List Nat} (hregs : s.regsBut v l) (hl : RDG_SLOTS.at ∉ l) :
    let t := (v.modRidge (fun r => { r with vconn := [] })).wrapInc RDG_SLOTS.SLOTS
    t.get RDG_SLOTS.SLOTS = (s.get RDG_SLOTS.SLOTS + 1) % 2 ^ RDG_SLOTS.SLOTS.w ∧ (∀ a, a ≠ RDG_SLOTS.at → t.rd a = v.rd a) ∧
      s.regsBut t (l ++ [RDG_SLOTS.at]) := by
  have hne (a : Nat) (h : a ≠ RDG_SLOTS.at) : ((v.modRidge (fun r => { r with vconn := [] })).wrapInc RDG_SLOTS.SLOTS).rd a = v.rd a :=
    State.rd_wrapInc_ne _ RDG_SLOTS.SLOTS h
  refine ⟨?_, hne, fun a ha => ?_⟩
  · rw [State.get_wrapInc_same _ _ (by decide)]
    have h : v.get RDG_SLOTS.SLOTS = s.get RDG_SLOTS.SLOTS := State.get_of_rd (hregs RDG_SLOTS.at hl)
    rw [← h]
    rfl
  · simp only [List.mem_append, List.mem_singleton, not_or] at ha
    rw [hne a ha.2, hregs a ha.1]

theorem commitSlot_applies (s : State) (o : Op) (n : Fin 16) (hr : s.ridgeRuns = true) (hw : s.ridge.window = [o]) (hq : s.ridge.waiting = [])
    (hclean : s.slotClean) (hcfg : cellGet s.staged RDG_CFG.at = none) (ht : o.tent = false) (hreg : o.reg = none) (hc : o.cls = clsSW)
    (hs : o.sub < 7) (hn : o.port = n.val) (hup : s.portUp n = true) (hf : s.ports[n].faultPath = false) (hcc : s.cc n ≠ ccErrorRecovery) :
    Next (.commitSlot false) s fun t =>
      t.ridge.window = [] ∧ t.ports[n].applyQ = s.ports[n].applyQ ++ [o] ∧
      t.get RDG_CNT0.COMMITTED = (s.get RDG_CNT0.COMMITTED + 1) % 2 ^ RDG_CNT0.COMMITTED.w ∧ t.get RDG_SLOTS.SLOTS = (s.get RDG_SLOTS.SLOTS + 1) % 2 ^ RDG_SLOTS.SLOTS.w ∧
      s.portsBut t [n] ∧ s.regsBut t [RDG_CNT0.at, RDG_SLOTS.at] ∧
      t = { s with regs := t.regs, ridge := { s.ridge with window := [], vconn := [] }, ports := t.ports } := by
  have hv : s.commitOne o = s.emptied.modPort n (.queued o) := by
    rw [State.commitOne_of_plain hw hreg, State.commitClass_sw hc hs hn, if_pos ((s.portUp_emptied n).trans hup),
      State.toApply_of_sound (s := s.emptied) ht hf (by rwa [State.cc_emptied])]
  have hregs : s.regsBut (s.emptied.modPort n (.queued o)) [RDG_CNT0.at] := fun a ha => s.rd_emptied (by simpa using ha)
  have h := exec_commitSlot_single hr hw hq hcfg ht (Op.isEval_of_cls (by rw [hc]; decide)) (State.cfgReady_of_cls (by rw [hc]; decide)) hv
    (State.slotClean_emptied hclean) hregs (by decide)
  obtain ⟨hslots, hrest, hbut⟩ := slotCounted_regs hregs (by decide)
  refine .of_done h ⟨rfl, ?_, ?_, hslots, fun m hm => ?_, hbut, rfl⟩
  · exact congrArg PortSt.applyQ (s.emptied.modPort_port_same n (.queued o))
  · rw [State.get_of_rd (hrest RDG_CNT0.at (by decide))]
    exact State.get_counted _
  · exact s.emptied.modPort_port_ne (.queued o) (by simpa using hm)

theorem commitSlot_discards (s : State) (o : Op) (n : Fin 16) (hr : s.ridgeRuns = true) (hw : s.ridge.window = [o]) (hq : s.ridge.waiting = [])
    (hclean : s.slotClean) (hcfg : cellGet s.staged RDG_CFG.at = none) (ht : o.tent = false) (hreg : o.reg = none)
    (hc : o.cls = clsSETP ∨ o.cls = clsLIM ∨ o.cls = clsSW ∧ o.sub < 7) (hn : o.port = n.val)
    (hf : s.ports[n].faultPath = true ∨ s.cc n = ccErrorRecovery) :
    Next (.commitSlot false) s fun t =>
      t.ports = s.ports ∧ s.regsBut t [RDG_CNT0.at, RDG_SLOTS.at] ∧
      t = { s with regs := t.regs, ridge := { s.ridge with window := [], vconn := [] } } := by
  have hcls : o.cls = clsSETP ∨ o.cls = clsLIM ∨ o.cls = clsSW := hc.imp_right (Or.imp_right And.left)
  have hd : s.emptied.toApply n o = s.emptied := State.toApply_of_fault hcls (by rwa [State.cc_emptied])
  have hv : s.commitOne o = s.emptied := by
    rw [State.commitOne_of_plain hw hreg]
    rcases hc with hc | hc | ⟨hc, hs⟩
    · rw [State.commitClass_setpoint (.inl hc) hn, hd, ite_self]
    · rw [State.commitClass_setpoint (.inr hc) hn, hd, ite_self]
    · rw [State.commitClass_sw hc hs hn, hd, ite_self]
  have hregs : s.regsBut s.emptied [RDG_CNT0.at] := fun a ha => s.rd_emptied (by simpa using ha)
  have hne (c : Nat) (h1 : clsSETP ≠ c) (h2 : clsLIM ≠ c) (h3 : clsSW ≠ c) : o.cls ≠ c := by
    rcases hcls with h | h | h <;> rw [h] <;> assumption
  have h := exec_commitSlot_single hr hw hq hcfg ht (Op.isEval_of_cls (hne _ (by decide) (by decide) (by decide)))
    (State.cfgReady_of_cls (hne _ (by decide) (by decide) (by decide))) hv (State.slotClean_emptied hclean) hregs (by decide)
  exact .of_done h ⟨rfl, (slotCounted_regs hregs (by decide)).2.2, rfl⟩

end Sys2Proof.Machine
end

section
/-!
PROOF. O12, the clause about the commit that ends a host write: the only word of the only transaction is GLB_BOOTCTL.
-/

namespace Sys2Proof.Machine

/-- The word that GLB_BOOTCTL holds after a write of v: its two bits from v. -/
def bootctlWord (old v : Word) : Word := (v &&& 0x3) ||| (old &&& ~~~0x3)

theorem of_bootctlWord {f : Fld} (hf : f = GLB_BOOTCTL.HOLDPORTS ∨ f = GLB_BOOTCTL.DORMERNEXT) (old v : Word) : f.of (bootctlWord old v) = f.of v := by
  apply Nat.eq_of_testBit_eq
  intro i
  rw [Fld.testBit_of, Fld.testBit_of]
  rcases hf with rfl | rfl
  all_goals
    by_cases hi : i = 0
    · subst i
      simp [bootctlWord]
    · have : ¬ i < 1 := by omega
      simp [this]

/-- The row of GLB_BOOTCTL in the register table. -/
def bootctlRow : RegRow := ⟨0x44, 1, 0x4, 1, 0x4, .rw, .configure, 0x3, 0x0, 0x0, []⟩

theorem legal_bootctlRow (old v : Word) : bootctlRow.legal GLB_BOOTCTL.at old v = bootctlWord old v := by
  change (bootctlWord old v &&& ~~~0#32) ||| (old &&& 0#32) = bootctlWord old v
  rw [BitVec.and_zero, BitVec.or_zero, BitVec.not_zero, BitVec.and_allOnes]

/-- GLB_BOOTCTL is a plain register of two bits (R63). -/
theorem State.glbWrite_bootctl (s : State) (v : Word) :
    s.glbWrite GLB_BOOTCTL.at v = (s.wr GLB_BOOTCTL.at (bootctlWord (s.rd GLB_BOOTCTL.at) v), stOK, 0) := by
  have hrow : regRow GLB_BOOTCTL.at = some bootctlRow := by decide
  have hset : s.setReg GLB_BOOTCTL.at v = s.wr GLB_BOOTCTL.at (bootctlWord (s.rd GLB_BOOTCTL.at) v) := by
    rw [← legal_bootctlRow, State.setReg, hrow]
    rfl
  rw [State.glbWrite, if_neg (by decide), if_neg (by decide), State.plainWrite, hrow, hset]
  exact congrArg okWord (if_pos BitVec.zero_and)

/-- The last word of the only transaction ends it: its port shows OK (R343), and nothing but the Host island changes. -/
theorem State.wordDone_last {s : State} {x : Txn} {a : Nat} (ht : s.host.txns = [x]) (ho : x.opsLeft ≤ 1) :
    (s.wordDone x a stOK 0).host.txns = [] ∧ (s.wordDone x a stOK 0).host.ports[x.hp.idx].status = statusWord stOK 0 (s.genOf a) ∧
      s.wordDone x a stOK 0 = { s with host := (s.wordDone x a stOK 0).host } := by
  have hg : (s.modHost (fun hs => { hs with txns := hs.txns.filter (fun y => y.id != x.id) })).genOf a = s.genOf a := rfl
  simp only [State.wordDone, ho, or_true, if_true, State.endTxn, hg]
  simp [State.modHost, ht, State.endOne, State.endWith, State.modHp]

/-- A word whose transaction is the only one, is not guarded and has no other word commits as a register write and ends the transaction. -/
theorem State.commitOne_last {s : State} {o : Op} {x : Txn} {v : Word} {hp : HostPort} (hw : s.ridge.window = [o])
    (hreg : o.reg = some (GLB_BOOTCTL.at, v)) (hhp : o.hp = some hp) (htxn : o.txn = some x.id) (ht : s.host.txns = [x]) (hguard : x.guard = none)
    (hwords : x.words = [(GLB_BOOTCTL.at, v)]) (ho : x.opsLeft = 1) :
    s.commitOne o = (s.emptied.wr GLB_BOOTCTL.at (bootctlWord (s.rd GLB_BOOTCTL.at) v)).wordDone x GLB_BOOTCTL.at stOK 0 := by
  have hstop : s.txnStop x = none := by
    simp [State.txnStop, hguard, hwords]
  have hwrite : s.emptied.regWrite hp GLB_BOOTCTL.at v = (s.emptied.wr GLB_BOOTCTL.at (bootctlWord (s.rd GLB_BOOTCTL.at) v), stOK, 0) := by
    rw [← s.rd_emptied (a := GLB_BOOTCTL.at) (by decide), ← State.glbWrite_bootctl]
    rfl
  simp only [State.commitOne, hreg, hhp, State.commitReg, ht, htxn, List.find?_cons, State.dropOp_single hw, hwrite, hstop, decide_true, ho, hwords,
    List.length_singleton, if_true]
  exact if_neg (by decide)

theorem commitSlot_ends_write (s : State) (o : Op) (x : Txn) (v : Word) (hp : HostPort) (hr : s.ridgeRuns = true) (hw : s.ridge.window = [o])
    (hq : s.ridge.waiting = []) (hclean : s.slotClean) (hcfg : cellGet s.staged RDG_CFG.at = none) (ht : o.tent = false) (hc : o.cls = clsCFG)
    (hreg : o.reg = some (GLB_BOOTCTL.at, v)) (hhp : o.hp = some hp) (htxn : o.txn = some x.id) (htxns : s.host.txns = [x]) (hx : x.hp = hp)
    (hguard : x.guard = none) (hwords : x.words = [(GLB_BOOTCTL.at, v)]) (ho : x.opsLeft = 1) :
    Next (.commitSlot false) s fun t =>
      t.ridge.window = [] ∧ t.host.txns = [] ∧ t.host.ports[hp.idx].status = statusWord stOK 0 0 ∧
      t.get GLB_BOOTCTL.HOLDPORTS = GLB_BOOTCTL.HOLDPORTS.of v ∧ t.get GLB_BOOTCTL.DORMERNEXT = GLB_BOOTCTL.DORMERNEXT.of v ∧
      s.regsBut t [GLB_BOOTCTL.at, RDG_CNT0.at, RDG_SLOTS.at] ∧
      t = { s with regs := t.regs, staged := t.staged, ridge := { s.ridge with window := [], vconn := [] }, host := t.host } := by
  have hv := State.commitOne_last hw hreg hhp htxn htxns hguard hwords ho
  obtain ⟨hdone, hstatus, hrest⟩ :=
    State.wordDone_last (s := s.emptied.wr GLB_BOOTCTL.at (bootctlWord (s.rd GLB_BOOTCTL.at) v)) (a := GLB_BOOTCTL.at) htxns ho.le
  generalize (s.emptied.wr GLB_BOOTCTL.at (bootctlWord (s.rd GLB_BOOTCTL.at) v)).wordDone x GLB_BOOTCTL.at stOK 0 = u at hv hdone hstatus hrest
  have hrd (a : Nat) : u.rd a = (s.emptied.wr GLB_BOOTCTL.at (bootctlWord (s.rd GLB_BOOTCTL.at) v)).rd a := by rw [hrest]; rfl
  have hregs : s.regsBut u [GLB_BOOTCTL.at, RDG_CNT0.at] := fun a ha => by
    simp only [List.mem_cons, List.not_mem_nil, or_false, not_or] at ha
    rw [hrd, State.rd_wr_ne _ _ ha.1, State.rd_emptied _ ha.2]
  have huclean : u.slotClean := State.slotClean_of hclean
    (fun a ha => hregs a (by rintro h; fin_cases h <;> exact absurd ha (by decide))) (by rw [hrest]; rfl) (by rw [hrest]; rfl) (by rw [hrest]; rfl)
    (by rw [hrest]; rfl)
  have h := exec_commitSlot_single hr hw hq hcfg ht (Op.isEval_of_cls (by rw [hc]; decide)) (State.cfgReady_of_reg (by rw [hreg]; rfl)) hv huclean hregs
    (by decide)
  obtain ⟨-, hother, hbut⟩ := slotCounted_regs hregs (by decide)
  have hget {f : Fld} (hf : f = GLB_BOOTCTL.HOLDPORTS ∨ f = GLB_BOOTCTL.DORMERNEXT) :
      ((u.modRidge (fun r => { r with vconn := [] })).wrapInc RDG_SLOTS.SLOTS).get f = f.of v := by
    have ha : f.addr = GLB_BOOTCTL.at := by rcases hf with rfl | rfl <;> rfl
    rw [State.get, ha, hother _ (by decide), hrd, State.rd_wr_same, of_bootctlWord hf]
  refine .of_done h ⟨?_, hdone, hx ▸ hstatus, hget (.inl rfl), hget (.inr rfl), hbut, ?_⟩
  · rw [hrest]; rfl
  · rw [hrest]; rfl

end Sys2Proof.Machine
end

section
/-!
SUPPORT. A stage that stops (R212, R214): what disabling a slice and all the legs of a port leaves, and that no leg is on any more.
-/

namespace Sys2Proof.Machine

/-- Does a leg run, not about to stop, or wait for its start instant? -/
def State.legOn (s : State) (k : Fin 48) : Bool := (s.bit (RAF_STAT.RUN k) && !s.slices[k].stopPending) || s.slices[k].startPending

theorem State.stageOn_eq (s : State) (n : Fin 16) : s.stageOn n = (s.legsOf n).any s.legOn := rfl

theorem State.legOn_of {s t : State} {k : Fin 48} (hr : t.rd (RAF_STAT.at k) = s.rd (RAF_STAT.at k)) (hs : t.slices[k] = s.slices[k]) : t.legOn k = s.legOn k := by
  rw [State.legOn, State.legOn, State.bit_of_rd (f := RAF_STAT.RUN k) hr, hs]

theorem State.legOn_of_slices {s t : State} {k : Fin 48} (hr : t.rd (RAF_STAT.at k) = s.rd (RAF_STAT.at k)) (hs : t.slices = s.slices) : t.legOn k = s.legOn k :=
  State.legOn_of hr (congrArg (fun v : Vector SliceSt 48 => v[k]) hs)

theorem rafStat_ne_rafStat {j k : Fin 48} (h : j ≠ k) : RAF_STAT.at j ≠ RAF_STAT.at k := fun e => h (Fin.ext (by simpa using e))

theorem rafStat_ne_rafCtrl (j k : Fin 48) : RAF_STAT.at j ≠ RAF_CTRL.at k := by
  unfold RAF_STAT.at RAF_CTRL.at sliceBase
  omega

theorem inSlices_off (k : Fin 48) {d : Nat} (h : d < 0x100) : inSlices (sliceBase k.val + d) = true := by
  simp only [inSlices, within, sliceBase, Bool.and_eq_true, decide_eq_true_eq]
  omega

theorem State.rd_takePol_ne (s : State) (k : Fin 48) {a : Nat} (h : a ≠ RAF_CTRL.at k) : (s.takePol k).rd a = s.rd a := by
  unfold State.takePol
  split
  · rfl
  · split
    · rfl
    · exact State.rd_wr_ne _ _ h

theorem State.modSlice_slice_same (s : State) (k : Fin 48) (f : SliceSt → SliceSt) : (s.modSlice k f).slices[k] = f s.slices[k] := by
  simp

theorem State.modSlice_slice_ne (s : State) {j k : Fin 48} (f : SliceSt → SliceSt) (h : j ≠ k) : (s.modSlice k f).slices[j] = s.slices[j] := by
  have : k.val ≠ j.val := fun e => h (Fin.ext e.symm)
  simp [this]

/-- A slice with both outputs inactive (R212). -/
def SliceSt.disabled (x : SliceSt) : SliceSt :=
  { x with
    startPending := false, stopPending := false, outA := false, outB := false, edges := [], lastEdge := none, cut := false, pOn := 0, pOff := 0, phaseRem := 0, slip := 0 }

theorem State.disableNow_eq (s : State) (k : Fin 48) :
    s.disableNow k = (((s.modSlice k .disabled).clear (RAF_STAT.RUN k)).clear (RAF_STAT.PHSLEW k)).takePol k := rfl

theorem State.rd_disableNow_ne (s : State) (k : Fin 48) {a : Nat} (hs : a ≠ RAF_STAT.at k) (hc : a ≠ RAF_CTRL.at k) : (s.disableNow k).rd a = s.rd a := by
  rw [State.disableNow_eq, State.rd_takePol_ne _ _ hc, State.rd_clear_ne _ _ hs, State.rd_clear_ne _ _ hs]
  rfl

theorem State.get_run_disableNow (s : State) (k : Fin 48) : (s.disableNow k).get (RAF_STAT.RUN k) = 0 := by
  rw [State.disableNow_eq, State.get_of_rd (State.rd_takePol_ne _ _ (rafStat_ne_rafCtrl k k)), State.get_clear_apart _ rfl, State.clear,
    State.get_put_same _ _ _ (Nat.le_of_ble_eq_true rfl), Nat.zero_mod]

theorem State.get_port_disableNow (s : State) (k : Fin 48) : (s.disableNow k).get (RAF_STAT.PORT k) = s.get (RAF_STAT.PORT k) := by
  rw [State.disableNow_eq, State.get_of_rd (State.rd_takePol_ne _ _ (rafStat_ne_rafCtrl k k)), State.get_clear_apart _ rfl, State.get_clear_apart _ rfl]
  rfl

theorem State.slices_disableNow (s : State) (k : Fin 48) : (s.disableNow k).slices = (s.modSlice k .disabled).slices := by
  rw [State.disableNow_eq, (State.takePol_keeps ..).slices rfl]
  rfl

/-- A frozen slice that is to stop when its clock resumes (R214). -/
def SliceSt.stopping (x : SliceSt) : SliceSt := { x with startPending := false, stopPending := true }

theorem State.stopSlice_eq (s : State) (k : Fin 48) :
    s.stopSlice k = if s.frozen k && s.bit (RAF_STAT.RUN k) then s.modSlice k .stopping else s.disableNow k := rfl

theorem State.rd_stopSlice_ne (s : State) (k : Fin 48) {a : Nat} (hs : a ≠ RAF_STAT.at k) (hc : a ≠ RAF_CTRL.at k) : (s.stopSlice k).rd a = s.rd a := by
  rw [State.stopSlice_eq]
  split
  · rfl
  · exact s.rd_disableNow_ne k hs hc

theorem State.get_port_stopSlice (s : State) (j k : Fin 48) : (s.stopSlice k).get (RAF_STAT.PORT j) = s.get (RAF_STAT.PORT j) := by
  by_cases h : j = k
  · subst j
    rw [State.stopSlice_eq]
    split
    · rfl
    · exact s.get_port_disableNow k
  · exact State.get_of_rd (s.rd_stopSlice_ne k (rafStat_ne_rafStat h) (rafStat_ne_rafCtrl j k))

/-- A slice that has been told to stop is on no more: it is disabled, or frozen and stops when its clock resumes (R214). -/
theorem State.legOn_stopSlice_same (s : State) (k : Fin 48) : (s.stopSlice k).legOn k = false := by
  rw [State.stopSlice_eq]
  split
  · rw [State.legOn, State.modSlice_slice_same, SliceSt.stopping]
    simp
  · rw [State.legOn, State.bit, State.get_run_disableNow, State.slices_disableNow, State.modSlice_slice_same]
    rfl

theorem State.legOn_stopSlice_ne (s : State) {j k : Fin 48} (h : j ≠ k) : (s.stopSlice k).legOn j = s.legOn j := by
  refine State.legOn_of (s.rd_stopSlice_ne k (rafStat_ne_rafStat h) (rafStat_ne_rafCtrl j k)) ?_
  rw [State.stopSlice_eq]
  by_cases hc : (s.frozen k && s.bit (RAF_STAT.RUN k)) = true
  · rw [if_pos hc, State.modSlice_slice_ne s .stopping h]
  · rw [if_neg hc, State.slices_disableNow]
    exact s.modSlice_slice_ne .disabled h

/-- Stopping the slices of a list: none of them is on, each keeps its port, and no register outside the slice blocks changes. -/
theorem State.foldl_stopSlice (s : State) (l : List (Fin 48)) :
    (∀ k, k ∈ l ∨ s.legOn k = false → (l.foldl State.stopSlice s).legOn k = false) ∧
      (∀ k, (l.foldl State.stopSlice s).get (RAF_STAT.PORT k) = s.get (RAF_STAT.PORT k)) ∧
      (∀ a, inSlices a = false → (l.foldl State.stopSlice s).rd a = s.rd a) := by
  induction l generalizing s with
  | nil => exact ⟨fun k h => h.resolve_left (by simp), fun _ => rfl, fun _ _ => rfl⟩
  | cons j l ih =>
    obtain ⟨hon, hport, hrd⟩ := ih (s.stopSlice j)
    refine ⟨fun k h => hon k ?_, fun k => (hport k).trans (s.get_port_stopSlice k j), fun a ha => (hrd a ha).trans (s.rd_stopSlice_ne j ?_ ?_)⟩
    · by_cases hk : k = j
      · exact .inr (hk ▸ s.legOn_stopSlice_same k)
      · rw [s.legOn_stopSlice_ne hk]
        exact h.imp_left (fun hm => (List.mem_cons.1 hm).resolve_left hk)
    · rintro rfl
      exact absurd (inSlices_off j (by decide)) (ne_of_eq_of_ne ha Bool.false_ne_true)
    · rintro rfl
      exact absurd (inSlices_off j (by decide)) (ne_of_eq_of_ne ha Bool.false_ne_true)

/-- Beside the slices, stopping a stage writes PLP_STATUS of its port. -/
theorem State.rd_legsOff_eq (s : State) (n : Fin 16) {a : Nat} (h : a ≠ PLP_STATUS.at n) :
    (s.legsOff n).rd a = ((s.legsOf n).foldl State.stopSlice s).rd a := by
  simp only [State.legsOff]
  rw [State.rd_clear_ne _ _ h, State.rd_clear_ne _ _ h, State.rd_clear_ne _ _ h, State.rd_clear_ne _ _ h, State.rd_put_ne _ _ _ _ h]

theorem State.rd_legsOff (s : State) (n : Fin 16) {a : Nat} (hp : a ≠ PLP_STATUS.at n) (hs : inSlices a = false) : (s.legsOff n).rd a = s.rd a := by
  rw [State.rd_legsOff_eq s n hp, (s.foldl_stopSlice _).2.2 a hs]

theorem State.slices_legsOff (s : State) (n : Fin 16) : (s.legsOff n).slices = ((s.legsOf n).foldl State.stopSlice s).slices := by
  simp only [State.legsOff, State.clear, State.put_slices]

theorem State.get_region_legsOff (s : State) (n : Fin 16) : (s.legsOff n).get (PLP_STATUS.REGION n) = 3 := by
  simp only [State.legsOff]
  rw [State.get_clear_apart _ rfl, State.get_clear_apart _ rfl, State.get_clear_apart _ rfl, State.get_clear_apart _ rfl,
    State.get_put_same _ _ _ (Nat.le_of_ble_eq_true rfl)]
  rfl

theorem rafStat_ne_plpStatus (k : Fin 48) (n : Fin 16) : RAF_STAT.at k ≠ PLP_STATUS.at n := by
  unfold RAF_STAT.at PLP_STATUS.at sliceBase portBase
  omega

theorem State.legsOf_of_port {s t : State} (h : ∀ k, t.get (RAF_STAT.PORT k) = s.get (RAF_STAT.PORT k)) (n : Fin 16) : t.legsOf n = s.legsOf n := by
  simp only [State.legsOf, h]

theorem State.stageOn_legsOff (s : State) (n : Fin 16) : (s.legsOff n).stageOn n = false := by
  have hrd (k : Fin 48) := s.rd_legsOff_eq n (rafStat_ne_plpStatus k n)
  obtain ⟨hon, hport, -⟩ := s.foldl_stopSlice (s.legsOf n)
  rw [State.stageOn_eq, State.legsOf_of_port (fun k => (State.get_of_rd (f := RAF_STAT.PORT k) (hrd k)).trans (hport k)), List.any_eq_false]
  intro k hk
  rw [State.legOn_of_slices (hrd k) (s.slices_legsOff n), hon k (.inl hk)]
  exact Bool.false_ne_true

/-- A report changes nothing that a stage shows. -/
theorem State.stageOn_reportAll (b s : State) (n : Fin 16) : (b.reportAll s).stageOn n = s.stageOn n := by
  have hrd (k : Fin 48) : (b.reportAll s).rd (RAF_STAT.at k) = s.rd (RAF_STAT.at k) := State.rd_of_regs (State.reportAll_regs ..) _
  have hon : (b.reportAll s).legOn = s.legOn := funext fun k => State.legOn_of_slices (hrd k) ((State.reportAll_keeps b s).slices rfl)
  rw [State.stageOn_eq, State.stageOn_eq, State.legsOf_of_port (fun k => State.get_of_rd (f := RAF_STAT.PORT k) (hrd k)), hon]

end Sys2Proof.Machine
end

section
/-!
PROOF. O12, the clauses about OP_APPLY.
-/

namespace Sys2Proof.Machine

/-- A port with the rest of its apply queue. -/
def PortSt.withQueue (rest : List Op) (p : PortSt) : PortSt := { p with applyQ := rest }

/-- The head of the apply queue applies unless its island is halted or it waits for a transition or for the supply of its drivers (R138, R168). -/
theorem exec_opApply {s : State} {n : Fin 16} {o : Op} {rest : List Op} (hq : s.ports[n].applyQ = o :: rest) :
    exec (.opApply n) s = if s.halted n.val || s.waitsTransition n o || s.waitsDrive n o then done s
      else doneAll s ((s.modPort n (.withQueue rest)).applyOp n o) := by
  change execOpApply n s = _
  rw [execOpApply, hq]
  rfl

theorem plpStatus_not_inPort {m n : Fin 16} (h : m ≠ n) : inPort m (PLP_STATUS.at n) = false := by
  have : m.val ≠ n.val := fun e => h (Fin.ext e)
  simp only [inPort, within, PLP_STATUS.at, portBase, Bool.and_eq_false_iff, decide_eq_false_iff_not]
  omega

theorem not_inSlices_of_inPort {m : Fin 16} {a : Nat} (h : inPort m a = true) : inSlices a = false := by
  simp only [inPort, inSlices, within, portBase, sliceBase, Bool.and_eq_true, Bool.and_eq_false_iff, decide_eq_true_eq, decide_eq_false_iff_not] at h ⊢
  omega

theorem opApply_stops (s : State) (n : Fin 16) (o : Op) (rest : List Op) (hq : s.ports[n].applyQ = o :: rest) (hh : s.halted n.val = false)
    (hc : o.cls = clsSW) (h5 : o.sub = 5) :
    Next (.opApply n) s fun t =>
      t.ports[n].applyQ = rest ∧ t.stageOn n = false ∧ t.get (PLP_STATUS.REGION n) = 3 ∧ s.portsBut t [n] ∧
      s.regsKept t (fun a => a == PLP_STATUS.at n || inSlices a) ∧
      t = { s with regs := t.regs, staged := t.staged, ports := t.ports, slices := t.slices } := by
  have happly (u : State) : u.applyOp n o = u.legsOff n := by
    simp [State.applyOp, hc, h5, clsSW, clsSETP, clsLIM]
  have hwaits : (s.halted n.val || s.waitsTransition n o || s.waitsDrive n o) = false := by
    simp [hh, State.waitsTransition, State.waitsDrive, hc, h5, clsSW, clsSETP, clsLIM]
  have h := exec_opApply hq
  rw [hwaits, happly] at h
  have hports : ((s.modPort n (.withQueue rest)).legsOff n).ports = (s.modPort n (.withQueue rest)).ports := (State.legsOff_keeps ..).ports rfl
  have hrd (a : Nat) (hp : a ≠ PLP_STATUS.at n) (hs : inSlices a = false) : ((s.modPort n (.withQueue rest)).legsOff n).rd a = s.rd a :=
    State.rd_legsOff (s.modPort n (.withQueue rest)) n hp hs
  have hkeeps : s.Keeps (pRegs ||| pStaged ||| pPorts ||| pSlices) (s.reportAll ((s.modPort n (.withQueue rest)).legsOff n)) :=
    (State.reportAll_keeps ..).step (by decide) <| (State.legsOff_keeps ..).step (by decide) <| (State.modPort_keeps ..).mono (by decide)
  refine .of_done h ⟨?_, ?_, ?_, fun m hm => ?_, fun a ha => ?_, hkeeps.eq_mix⟩
  · obtain ⟨g, hg⟩ := State.reportAll_port s ((s.modPort n (.withQueue rest)).legsOff n) n
    rw [hg, hports, State.modPort_port_same]
    rfl
  · rw [State.stageOn_reportAll, State.stageOn_legsOff]
  · rw [State.get_of_regs (State.reportAll_regs ..), State.get_region_legsOff]
  · have hmn : m ≠ n := by simpa using hm
    rw [State.reportAll_port_of_genKey, hports, State.modPort_port_ne _ _ hmn]
    refine (State.genKey_of_rd fun a ha => hrd a ?_ (not_inSlices_of_inPort ha)).symm
    rintro rfl
    rw [plpStatus_not_inPort hmn] at ha
    cases ha
  · simp only [Bool.or_eq_false_iff, beq_eq_false_iff_ne] at ha
    rw [State.rd_of_regs (State.reportAll_regs ..), hrd a ha.1 ha.2]

/-- The setpoint and the curve of a transition wait for the end of tSrcTransition (R138). -/
theorem opApply_waits (s : State) (n : Fin 16) (o : Op) (rest : List Op) (hq : s.ports[n].applyQ = o :: rest) (hc : o.cls = clsSETP ∨ o.cls = clsLIM)
    (ht : (s.pd n).trans.any (fun w => !w.applied) = true) : Next (.opApply n) s fun t => t = s := by
  have hw : s.waitsTransition n o = true := by
    simp only [State.waitsTransition, State.unapplied, ht, Bool.and_true, Bool.or_eq_true, beq_iff_eq]
    exact hc
  have h := exec_opApply hq
  rw [hw, Bool.or_true, Bool.true_or, if_pos rfl] at h
  exact .of_done h rfl

end Sys2Proof.Machine
end

section
/-!
PROOF. O12, the clauses about STAGING_COMPLETE and REQUEST_EVALUATED: they mark ops that stay in the window.
-/

namespace Sys2Proof.Machine

/-- An op whose staging is done. -/
def Op.markStaged (o : Op) : Op := { o with staged := true }

/-- An op of the window once the ops of a list have been staged: tags name the ops. -/
def Op.stagedWith (l : List Op) (q : Op) : Op := if l.any (fun o => q.tag == o.tag) then q.markStaged else q

@[simp] theorem Op.stagedWith_tent (l : List Op) (q : Op) : (q.stagedWith l).tent = q.tent := by unfold stagedWith; split <;> rfl
@[simp] theorem Op.stagedWith_port (l : List Op) (q : Op) : (q.stagedWith l).port = q.port := by unfold stagedWith; split <;> rfl
@[simp] theorem Op.stagedWith_cls (l : List Op) (q : Op) : (q.stagedWith l).cls = q.cls := by unfold stagedWith; split <;> rfl

theorem Op.stagedWith_staged {l : List Op} {q : Op} (h : q ∈ l) : (q.stagedWith l).staged = true := by
  rw [stagedWith, if_pos (List.any_eq_true.2 ⟨q, h, beq_self_eq_true q.tag⟩)]
  rfl

/-- A port stages one of its tentative ops, and the op is marked (R174). -/
def State.stageMark (n : Fin 16) (s : State) (o : Op) : State := (s.stageOp n o).setOp o.tag .markStaged

theorem exec_stagingComplete {s : State} {n : Fin 16} (hr : s.ridgeRuns = true) (hup : s.portUp n = true) (hh : s.halted n.val = false) :
    exec (.stagingComplete n) s = done (((s.tentOf n).filter (fun o => o.cls != clsTRUSS)).foldl (State.stageMark n) s) := by
  change execStagingComplete n s = _
  rw [execStagingComplete, if_pos (by simp [hr, hup, hh])]
  rfl

theorem State.stageMark_ridge (n : Fin 16) (s : State) (o : Op) :
    (State.stageMark n s o).ridge = { s.ridge with window := s.ridge.window.map (fun q => if q.tag == o.tag then q.markStaged else q) } := by
  have h : (s.stageOp n o).ridge = s.ridge := (State.stageOp_keeps ..).ridge rfl
  rw [State.stageMark, State.setOp, State.modRidge, h]

/-- Staging writes the shadow bank and the armed curve of its own port, and the shadow mark of PLP_STATUS. -/
theorem State.stageOp_ports (s : State) (n : Fin 16) (o : Op) : ∃ f, (s.stageOp n o).ports = (s.modPort n f).ports := by
  unfold State.stageOp
  split
  · exact ⟨_, State.put_ports _ (PLP_STATUS.SHADOW n) 1⟩
  · split
    · exact ⟨_, rfl⟩
    · exact ⟨id, (Vector.set_getElem_self ..).symm⟩

theorem State.stageMark_port_ne {n m : Fin 16} (h : m ≠ n) (s : State) (o : Op) : (State.stageMark n s o).ports[m] = s.ports[m] := by
  obtain ⟨f, hf⟩ := s.stageOp_ports n o
  change (s.stageOp n o).ports[m] = s.ports[m]
  rw [hf, State.modPort_port_ne _ _ h]

theorem State.rd_stageMark {n : Fin 16} {a : Nat} (h : a ≠ PLP_STATUS.at n) (s : State) (o : Op) : (State.stageMark n s o).rd a = s.rd a := by
  change (s.stageOp n o).rd a = s.rd a
  unfold State.stageOp
  split
  · exact State.rd_put_ne _ _ _ _ h
  · split <;> rfl

/-- After the staging of a list of ops the ops of the window with their tags are marked. -/
theorem State.foldl_stageMark_ridge (n : Fin 16) (l : List Op) (s : State) :
    (l.foldl (State.stageMark n) s).ridge =
      { s.ridge with window := s.ridge.window.map (Op.stagedWith l) } := by
  induction l generalizing s with
  | nil => exact congrArg (fun w => { s.ridge with window := w }) (List.map_id _).symm
  | cons o l ih =>
    have hq (q : Op) : (if q.tag == o.tag then q.markStaged else q).stagedWith l = q.stagedWith (o :: l) := by
      by_cases h : q.tag = o.tag
      · simp [h, Op.stagedWith, Op.markStaged]
      · simp [h, Op.stagedWith]
    rw [List.foldl_cons, ih, State.stageMark_ridge]
    simp only [List.map_map, Function.comp_def, hq]

theorem stagingComplete_stages (s : State) (n : Fin 16) (hr : s.ridgeRuns = true) (hup : s.portUp n = true) (hh : s.halted n.val = false) :
    Next (.stagingComplete n) s fun t =>
      (t.tentOf n).all (fun o => o.cls == clsTRUSS || o.staged) = true ∧ t.ridge.window.length = s.ridge.window.length ∧
      s.portsBut t [n] ∧ s.regsBut t [PLP_STATUS.at n] ∧ t = { s with regs := t.regs, ports := t.ports, ridge := { s.ridge with window := t.ridge.window } } := by
  have hridge := State.foldl_stageMark_ridge n ((s.tentOf n).filter (fun o => o.cls != clsTRUSS)) s
  have hkeeps : s.Keeps (pRegs ||| pRidge ||| pPorts) (((s.tentOf n).filter (fun o => o.cls != clsTRUSS)).foldl (State.stageMark n) s) :=
    .foldl (fun u o hu => (State.setOp_keeps ..).step (by decide) <| (State.stageOp_keeps ..).step (by decide) hu) (.refl ..)
  refine .of_done (exec_stagingComplete hr hup hh) ⟨?_, ?_, fun m hm => ?_, fun a ha => ?_, ?_⟩
  · rw [State.tentOf, hridge]
    simp only [List.all_eq_true, List.mem_filter, List.mem_map, Bool.and_eq_true, Bool.or_eq_true, beq_iff_eq]
    rintro q ⟨⟨p, hp, rfl⟩, htent, hport⟩
    rw [Op.stagedWith_tent] at htent
    rw [Op.stagedWith_port] at hport
    by_cases hc : p.cls = clsTRUSS
    · exact .inl ((Op.stagedWith_cls ..).trans hc)
    · exact .inr (Op.stagedWith_staged (by simp [State.tentOf, hp, htent, hport, hc]))
  · rw [hridge, List.length_map]
  · exact State.foldl_same (fun u => u.ports[m]) (State.stageMark_port_ne (by simpa using hm)) _ s
  · exact State.foldl_same (fun u => u.rd a) (State.rd_stageMark (by simpa using ha)) _ s
  · have h : (((s.tentOf n).filter (fun o => o.cls != clsTRUSS)).foldl (State.stageMark n) s).ridge = { s.ridge with
        window := (((s.tentOf n).filter (fun o => o.cls != clsTRUSS)).foldl (State.stageMark n) s).ridge.window } := by rw [hridge]
    rw [← h]
    exact hkeeps.eq_mix

theorem requestEvaluated_answers (s : State) (n : Fin 16) (rdo copy : Word) (epr : Bool) (o : Op) (hq : (s.pd n).reqRdo = some (rdo, copy, epr))
    (hp : s.pstate n = 4) (hr : s.ridgeRuns = true) (ho : ((s.opsOf n.val).filter Op.isEval).getLast? = some o) :
    Next (.requestEvaluated n) s fun t =>
      t.ridge.window = s.ridge.window.map (fun q => if q.tag == o.tag then
        { q with answer := some (if s.swHeld n then .wait else if s.rejectCode n rdo copy epr = 0 then .accept else .reject (s.rejectCode n rdo copy epr)) } else q) ∧
      t = { s with ridge := { s.ridge with window := t.ridge.window } } := by
  have h : exec (.requestEvaluated n) s =
      done (s.answerMsg n (if s.swHeld n then .wait else if s.rejectCode n rdo copy epr = 0 then .accept else .reject (s.rejectCode n rdo copy epr))) := by
    change execRequestEvaluated n s = _
    rw [execRequestEvaluated, hq]
    exact if_pos ⟨hp, hr⟩
  rw [State.answerMsg, ho] at h
  exact .of_done h ⟨rfl, rfl⟩

end Sys2Proof.Machine
end

section
/-!
SUPPORT. What a cancel of window ops changes (R175, R186): the window, the count of cancels, and what goes with the staging of the ops.
-/

namespace Sys2Proof.Machine

theorem State.rd_maskBit_ne (s : State) (f : Fld) (k : Nat) (b : Bool) {a : Nat} (h : a ≠ f.addr) : (s.maskBit f k b).rd a = s.rd a :=
  State.rd_put_ne s f _ a h

/-- The registers that the release of a hold or the end of a staging writes. -/
def unstageArea (a : Nat) : Bool := a == RDG_REOFFER.at || within 0x4080 0x40C0 a || allPorts.any (fun n => a == PLP_STATUS.at n)

theorem State.rd_releaseHold (s : State) (n : Fin 16) {a : Nat} (h : unstageArea a = false) : (s.releaseHold n).rd a = s.rd a := by
  simp only [unstageArea, Bool.or_eq_false_iff, beq_eq_false_iff_ne] at h
  obtain ⟨⟨hreoffer, hholds⟩, -⟩ := h
  have hhold : a ≠ TRS_HOLD.at n := by
    rintro rfl
    have hn : 0x4080 ≤ TRS_HOLD.at n ∧ TRS_HOLD.at n < 0x40C0 := by
      unfold TRS_HOLD.at
      omega
    simp [within, hn] at hholds
  unfold State.releaseHold
  split
  · refine (State.foldl_same (fun u => u.rd a) (fun u m => ?_) allPorts (s.wr (TRS_HOLD.at n) 0)).trans (State.rd_wr_ne _ _ hhold)
    dsimp only
    split
    · exact u.rd_maskBit_ne _ _ _ hreoffer
    · rfl
  · rfl

theorem State.rd_unstage (s : State) (o : Op) {a : Nat} (h : unstageArea a = false) : (s.unstage o).rd a = s.rd a := by
  have hplp (n : Fin 16) : a ≠ PLP_STATUS.at n := by
    rintro rfl
    simp only [unstageArea, Bool.or_eq_false_iff, List.any_eq_false] at h
    exact h.2 n (List.mem_finRange n) (beq_self_eq_true _)
  unfold State.unstage
  split
  · dsimp only
    split
    · exact State.rd_clear_ne _ _ (hplp _)
    · split
      · rfl
      · split
        · exact s.rd_releaseHold _ h
        · rfl
  · rfl

theorem State.rd_cancelWhere (s : State) (p : Op → Bool) {a : Nat} (h : unstageArea a = false) (hcnt : a ≠ RDG_CNT1.at) :
    (s.cancelWhere p).rd a = s.rd a :=
  State.foldl_same (fun u => u.rd a) (fun u o => (State.rd_wrapInc_ne _ _ hcnt).trans (u.rd_unstage o h)) _ _

/-- A cancel counts in CANCEL and leaves the count of late ones. -/
theorem State.get_late_cancelWhere (s : State) (p : Op → Bool) : (s.cancelWhere p).get RDG_CNT1.LATE = s.get RDG_CNT1.LATE :=
  State.foldl_same (fun u => u.get RDG_CNT1.LATE)
    (fun u o => ((u.unstage o).get_put_apart (f := RDG_CNT1.CANCEL) _ rfl).trans (State.get_of_rd (f := RDG_CNT1.LATE) (u.rd_unstage o (by decide)))) _ _

theorem State.cancelWhere_ridge (s : State) (p : Op → Bool) :
    (s.cancelWhere p).ridge = { s.ridge with window := s.ridge.window.filter (fun o => !(o.tent && p o)) } :=
  State.foldl_same State.ridge (fun u o => ((State.wrapInc_keeps ..).ridge rfl).trans ((State.unstage_keeps u o).ridge rfl)) _ _

theorem State.mem_of_opAt {s : State} {tag : Nat} {o : Op} (h : s.opAt tag = some o) : o ∈ s.ridge.window ∧ o.tag = tag := by
  unfold State.opAt at h
  exact ⟨List.mem_of_find?_eq_some h, by simpa using List.find?_some h⟩

/-- The ops that a named cancel of a tag means: the op itself and those whose PRED names it (R186). -/
def Op.cancelledBy (tag : Nat) (o : Op) : Bool := o.tag == tag || (o.pv && o.pred == tag)

theorem State.cancelNamed_of_any {s : State} {tag : Nat} (h : s.ridge.window.any (fun o => o.tent && o.tag == tag) = true) :
    s.cancelNamed tag = s.cancelWhere (Op.cancelledBy tag) := by
  simp only [State.cancelNamed, State.cancelTag, Bool.and_true, h, if_true]
  rfl

theorem State.cancelNamed_of_none {s : State} {tag : Nat} (h : s.ridge.window.any (fun o => o.tent && o.tag == tag) = false) :
    s.cancelNamed tag = (s.satInc RDG_CNT1.LATE).fire 0x118 tag := by
  simp [State.cancelNamed, State.cancelTag, Bool.and_true, h]

theorem State.endDeficit_regs (s : State) : s.endDeficit.regs = (s.clear TRS_STAT.DEFICIT).regs :=
  State.foldl_same State.regs (fun u n => State.modPort_regs u n _) allPorts _

theorem State.rd_settleDeficit (s : State) {a : Nat} (h : a ≠ TRS_STAT.at) : s.settleDeficit.rd a = s.rd a := by
  unfold State.settleDeficit
  by_cases hd : (s.bit TRS_STAT.DEFICIT && decide (0 ≤ s.trussFree)) = true
  · rw [if_pos hd, State.rd_of_regs s.endDeficit_regs, State.rd_clear_ne _ _ h]
  · rw [if_neg hd]

/-- A cancel asked for in a quiet slot is resolved at its end, and a deficit that is over ends (R169, R183). -/
theorem State.endSlot_ask {s : State} (h : s.slotClean) {c : CancelReq} (hr : (s.resolve c).ridge.recheck = false) (hd : (s.resolve c).ridge.disabled = []) :
    (s.ask c).endSlot = (s.resolve c).settleDeficit := by
  obtain ⟨hcancels, -⟩ := h
  have hback : (s.ask c).modRidge (fun r => { r with cancels := [] }) = s := by
    change s.modRidge (fun r => { r with cancels := [] }) = s
    exact State.modRidge_eq_self (by rw [← hcancels])
  have hres : (s.ask c).resolveCancels = s.resolve c := by
    have hq : (s.ask c).ridge.cancels = [c] := by simp [State.ask, State.modRidge, hcancels]
    rw [State.resolveCancels, hback, hq]
    rfl
  rw [State.endSlot_of_recheck, hres]
  · rwa [hres]
  · rwa [hres]

/-! ### The parts that no port's policy acts on -/

theorem State.farKept_of_keeps {s t : State} (h : s.Keeps (pRegs ||| pStaged ||| pFreeCtr ||| pRidge ||| pBat ||| pPorts ||| pSlices ||| pJtl) t) : s.farKept t := by
  unfold State.farKept
  rw [h.boot rfl]
  exact h.eq_mix

theorem State.farButHost_of_keeps {s t : State}
    (h : s.Keeps (pRegs ||| pStaged ||| pFreeCtr ||| pHost ||| pRidge ||| pBat ||| pPorts ||| pSlices ||| pJtl) t) : s.farButHost t := by
  unfold State.farButHost
  rw [h.boot rfl]
  exact h.eq_mix

end Sys2Proof.Machine
end

section
/-!
PROOF. O12, the clauses about SPEC_TIMEOUT, CANCEL and CLRCNT, and the whole obligation.
-/

namespace Sys2Proof.Machine

theorem specTimeout_cancels (s : State) (tag : Byte) (hr : s.ridgeRuns = true) (ht : (s.opAt tag.toNat).any Op.tent = true) :
    Next (.specTimeout tag) s fun t =>
      t.ridge.window = s.ridge.window.filter (fun o => !(o.tent && (o.tag == tag.toNat || (o.pv && o.pred == tag.toNat)))) ∧
      t.bat = (s.fire 0x11D tag.toNat).bat ∧ (t.opAt tag.toNat).any Op.tent = false ∧ s.farKept t := by
  have hany : s.ridge.window.any (fun o => o.tent && o.tag == tag.toNat) = true := by
    obtain ⟨o, ho, htent⟩ := (Option.any_eq_true ..).1 ht
    obtain ⟨hmem, htag⟩ := State.mem_of_opAt ho
    exact List.any_eq_true.2 ⟨o, hmem, by simp [htent, htag]⟩
  have hridge := s.cancelWhere_ridge (Op.cancelledBy tag.toNat)
  have hfired : (((s.cancelWhere (Op.cancelledBy tag.toNat)).fire 0x11D tag.toNat)).ridge = (s.cancelWhere (Op.cancelledBy tag.toNat)).ridge :=
    (State.fire_keeps ..).ridge rfl
  have h : exec (.specTimeout tag) s = done ((s.cancelWhere (Op.cancelledBy tag.toNat)).fire 0x11D tag.toNat) := by
    change execSpecTimeout tag s = _
    rw [execSpecTimeout, if_pos (by simp [hr, ht]), State.cancelNamed_of_any hany]
  refine .of_done h ⟨?_, ?_, ?_, State.farKept_of_keeps ?_⟩
  · rw [hfired, hridge]
    rfl
  · exact State.fire_bat_of _ _ ((State.cancelWhere_keeps ..).bat rfl) ((State.cancelWhere_keeps ..).soffit rfl) (s.rd_cancelWhere _ (by decide) (by decide))
  · refine Bool.eq_false_iff.2 fun hfound => ?_
    obtain ⟨o, ho, htent⟩ := (Option.any_eq_true ..).1 hfound
    obtain ⟨hmem, htag⟩ := State.mem_of_opAt ho
    rw [hfired, hridge] at hmem
    have hkept := (List.mem_filter.1 hmem).2
    simp [Op.cancelledBy, htent, htag] at hkept
  · exact (State.fire_keeps ..).step (by decide) ((State.cancelWhere_keeps ..).mono (by decide))

/-- CANCEL accepted and committed at once: the cancel is asked for behind the op that the command passes, and resolved at the end of the slot. -/
theorem exec_cancel {s : State} {hp : HostPort} {tag : Byte} (h : s.takes hp RDG_CMD.at (rdgCmdWord 0xA5 (256 + tag.toNat)))
    (hr : (s.passOp.cancelNamed tag.toNat).ridge.recheck = false) (hd : (s.passOp.cancelNamed tag.toNat).ridge.disabled = []) :
    exec (.cancel hp 0xA5 tag) s = done ((s.passOp.cancelNamed tag.toNat).settleDeficit.endWith hp stOK 0 0) := by
  change execCancel hp 0xA5 tag s = _
  rw [execCancel, State.command_of_takes h, State.genOf_of_blockOf (a := RDG_CMD.at) rfl, State.askCancel,
    State.endSlot_ask (c := .named tag.toNat) (State.slotClean_passOp h.2.2.2.2) hr hd]
  rfl

theorem cancel_cancels (s : State) (hp : HostPort) (tag : Byte) (h : s.takes hp RDG_CMD.at (rdgCmdWord 0xA5 (256 + tag.toNat)))
    (hany : s.ridge.window.any (fun o => o.tent && o.tag == tag.toNat) = true) :
    Next (.cancel hp 0xA5 tag) s fun t =>
      t.ridge.window = s.ridge.window.filter (fun o => !(o.tent && (o.tag == tag.toNat || (o.pv && o.pred == tag.toNat)))) ∧
      t.ridge.cancels = [] ∧ t.get RDG_CNT1.LATE = s.get RDG_CNT1.LATE ∧ s.hostSays t hp stOK 0 0 ∧ s.farButHost t := by
  obtain ⟨hcancels, hdisabled, hrecheck, -⟩ := h.2.2.2.2
  have hnamed : s.passOp.cancelNamed tag.toNat = s.passOp.cancelWhere (Op.cancelledBy tag.toNat) :=
    State.cancelNamed_of_any (by rwa [State.passOp_ridge])
  have hridge := s.passOp.cancelWhere_ridge (Op.cancelledBy tag.toNat)
  rw [State.passOp_ridge] at hridge
  have hexec := exec_cancel h (by rwa [hnamed, hridge]) (by rwa [hnamed, hridge])
  rw [hnamed] at hexec
  have hset : (((s.passOp.cancelWhere (Op.cancelledBy tag.toNat)).settleDeficit).endWith hp stOK 0 0).ridge =
      (s.passOp.cancelWhere (Op.cancelledBy tag.toNat)).ridge := ((State.endWith_keeps ..).ridge rfl).trans ((State.settleDeficit_keeps ..).ridge rfl)
  refine .of_done hexec ⟨?_, ?_, ?_, State.hostSays_endWith ?_ hp 0 0, State.farButHost_of_keeps ?_⟩
  · rw [hset, hridge]
    rfl
  · rw [hset, hridge]
    exact hcancels
  · have hlate := s.passOp.get_late_cancelWhere (Op.cancelledBy tag.toNat)
    rw [State.get_of_rd (f := RDG_CNT1.LATE) (s.rd_passOp (by decide))] at hlate
    rw [← hlate]
    exact State.get_of_rd (f := RDG_CNT1.LATE) (State.rd_settleDeficit _ (by decide))
  · exact ((State.settleDeficit_keeps ..).host rfl).trans (((State.cancelWhere_keeps ..).host rfl).trans ((State.passOp_keeps s).host rfl))
  · exact (State.endWith_keeps ..).step (by decide) <| (State.settleDeficit_keeps ..).step (by decide) <| (State.cancelWhere_keeps ..).step (by decide) <|
      (State.passOp_keeps s).mono (by decide)

theorem cancel_late (s : State) (hp : HostPort) (tag : Byte) (h : s.takes hp RDG_CMD.at (rdgCmdWord 0xA5 (256 + tag.toNat)))
    (hany : s.ridge.window.any (fun o => o.tent && o.tag == tag.toNat) = false) :
    Next (.cancel hp 0xA5 tag) s fun t =>
      t.ridge.window = s.ridge.window ∧ t.get RDG_CNT1.LATE = min (s.get RDG_CNT1.LATE + 1) (2 ^ RDG_CNT1.LATE.w - 1) ∧
      t.bat = (s.fire 0x118 tag.toNat).bat ∧ s.hostSays t hp stOK 0 0 ∧
      s.passOp.regsBut t [RDG_CNT1.at] ∧ t = { s.passOp with regs := t.regs, host := t.host, bat := t.bat } := by
  have hclean := State.slotClean_passOp h.2.2.2.2
  have hnamed : s.passOp.cancelNamed tag.toNat = (s.passOp.satInc RDG_CNT1.LATE).fire 0x118 tag.toNat :=
    State.cancelNamed_of_none (by rwa [State.passOp_ridge])
  have hridge : ((s.passOp.satInc RDG_CNT1.LATE).fire 0x118 tag.toNat).ridge = s.passOp.ridge := (State.fire_keeps ..).ridge rfl
  have hrd (a : Nat) (ha : a ≠ RDG_CNT1.at) : ((s.passOp.satInc RDG_CNT1.LATE).fire 0x118 tag.toNat).rd a = s.passOp.rd a := by
    rw [State.rd_of_regs (State.fire_regs ..), State.rd_satInc_ne _ _ ha]
  have hexec := exec_cancel h (by rw [hnamed, hridge]; exact hclean.2.2.1) (by rw [hnamed, hridge]; exact hclean.2.1)
  rw [hnamed, State.settleDeficit_of_slotClean (State.slotClean_of hclean (fun a ha => hrd a (by rintro rfl; exact absurd ha (by decide)))
    (by rw [hridge]) (by rw [hridge]) (by rw [hridge]) (by rw [hridge]))] at hexec
  refine .of_done hexec ⟨?_, ?_, ?_, State.hostSays_endWith ?_ hp 0 0, fun a ha => hrd a (by simpa using ha), State.Keeps.eq_mix (m := pRegs ||| pHost ||| pBat) ?_⟩
  · exact (congrArg RidgeSt.window hridge).trans (by rw [State.passOp_ridge])
  · have hlate := s.passOp.get_satInc_same RDG_CNT1.LATE (by decide)
    rw [State.get_of_rd (f := RDG_CNT1.LATE) (s.rd_passOp (by decide))] at hlate
    rw [← hlate]
    exact State.get_of_regs (State.fire_regs ..) _
  · exact State.fire_bat_of (s := s) (t := s.passOp.satInc RDG_CNT1.LATE) _ _ ((State.passOp_keeps s).bat rfl) ((State.passOp_keeps s).soffit rfl)
      ((State.rd_satInc_ne _ _ (by decide)).trans (s.rd_passOp (by decide)))
  · exact ((State.fire_keeps ..).host rfl).trans ((State.passOp_keeps s).host rfl)
  · exact (State.endWith_keeps ..).step (by decide) <| (State.fire_keeps ..).step (by decide) <| (State.satInc_keeps ..).mono (by decide)

theorem clrcnt_clears (s : State) (hp : HostPort) (h : s.takes hp RDG_CMD.at 0xA5000200) :
    Next (.clrcnt hp 0xA5) s fun t =>
      t.rd RDG_CNT0.at = 0 ∧ t.rd RDG_CNT1.at = 0 ∧ s.hostSays t hp stOK 0 0 ∧
      s.regsBut t [RDG_CNT0.at, RDG_CNT1.at] ∧ t = { s.passOp with regs := t.regs, host := t.host } := by
  have hrd (a : Nat) (h0 : a ≠ RDG_CNT0.at) (h1 : a ≠ RDG_CNT1.at) : s.passOp.clearRdg.rd a = s.rd a := by
    rw [State.clearRdg, State.rd_wr_ne _ _ h1, State.rd_wr_ne _ _ h0, State.rd_passOp _ h0]
  have hclean : s.passOp.clearRdg.slotClean := State.slotClean_of (State.slotClean_passOp h.2.2.2.2) 
    (fun a ha => by
      rw [State.clearRdg, State.rd_wr_ne _ _ (by rintro rfl; exact absurd ha (by decide)), State.rd_wr_ne _ _ (by rintro rfl; exact absurd ha (by decide))])
    rfl rfl rfl rfl
  have hexec : exec (.clrcnt hp 0xA5) s = done (s.passOp.clearRdg.endWith hp stOK 0 0) := by
    change execClrcnt hp 0xA5 s = _
    rw [execClrcnt]
    have hc := State.command_of_takes h State.clearRdg
    rw [State.endSlot_of_slotClean hclean, State.genOf_of_blockOf (a := RDG_CMD.at) rfl] at hc
    exact congrArg done hc
  refine .of_done hexec ⟨?_, ?_, State.hostSays_endWith ((State.passOp_keeps s).host rfl) hp 0 0, fun a ha => ?_, rfl⟩
  · change s.passOp.clearRdg.rd RDG_CNT0.at = 0
    rw [State.clearRdg, State.rd_wr_ne _ _ (by decide), State.rd_wr_same]
  · change s.passOp.clearRdg.rd RDG_CNT1.at = 0
    rw [State.clearRdg, State.rd_wr_same]
  · simp only [List.mem_cons, List.not_mem_nil, or_false, not_or] at ha
    exact hrd a ha.1 ha.2

/-- Settles O12: the window rule by rule. An op enters, waits or is dropped (R172); a quiet slot on one op commits it, by its class; the head of an apply queue
applies or waits; marks stay in the window; a cancel goes with every op that its tag names. -/
theorem windowAndApplyQueue : Obligations.WindowAndApplyQueue := by
  unfold Obligations.WindowAndApplyQueue
  exact ⟨opEnter_enters, fun s src port cls sub arg _ h3 _ _ => opEnter_host_full s src port cls sub arg h3, opEnter_waits, opEnter_drops, commitSlot_applies,
    commitSlot_discards, fun s o x v hp hr hw hq hclean hcfg ht _ hc hreg hhp htxn htxns hx hguard _ => commitSlot_ends_write s o x v hp hr hw hq hclean hcfg ht hc
      hreg hhp htxn htxns hx hguard,
    opApply_stops, fun s n o rest hq _ => opApply_waits s n o rest hq, stagingComplete_stages, requestEvaluated_answers, specTimeout_cancels, cancel_cancels,
    cancel_late, clrcnt_clears⟩

end Sys2Proof.Machine
end

section
/-!
PROOF. The clause of O3 about ISLAND_RELEASE fails. It says that no other port changes. A service port of Level 1 that the image does not keep in that role is
stopped and loses its island before it is released anew (R49), and its allocation returns to its floor (R181); a deficit that the return makes good ends there, and with it
the deficit offers that are due on the other ports (R183 step 5).
-/

namespace Sys2Proof.Machine

/-- Step 6 of the boot has come to port 0, the service port of Level 1, which the image does not enable. Port 0 is allocated 15 W of a budget of 10 W: Truss is in
deficit, and port 1 owes a deficit offer. -/
def deficitAtRelease : State :=
  (((((State.reset.put GLB_BOOTSTAT.STAGE 5).maskBit GLB_ISLPWR.ISL 0 true).raise TRS_STAT.DEFICIT).put TRS_BUDGET.BUDGET 10).put (TRS_ALLOC.ALLOC 0) 15)
    |>.modPort 0 (fun p => { p with released := true, en := true, role := 1, rom := true })
    |>.modPort 1 (fun p => { p with deficitDue := 1 })

/-- The state after ISLAND_RELEASE of port 0. -/
def releasedFromDeficit : State := deficitAtRelease.reportAll (deficitAtRelease.releaseNext.haltDue 0)

/-- The allocation of port 0 has fallen to its floor, which ends the deficit: port 1 owes no offer any more. -/
theorem releasedFromDeficit_due : releasedFromDeficit.ports[(1 : Fin 16)].deficitDue = 0 := by decide +kernel

/-- Refutes O3: in `deficitAtRelease` the release of port 0 takes the deficit offer that port 1 owes. -/
theorem not_bootReleasesIslands : ¬ Obligations.BootReleasesIslands := by
  unfold Obligations.BootReleasesIslands
  rintro ⟨-, -, -, islandRelease, -⟩
  obtain ⟨t, ht, -, -, -, -, hports, -⟩ := islandRelease deficitAtRelease 0 (by decide) rfl rfl rfl
  obtain rfl : releasedFromDeficit = t := Host.Outcome.next.inj ht
  have h : releasedFromDeficit.ports[(1 : Fin 16)].deficitDue = 1 := congrArg PortSt.deficitDue (hports 1 (by decide))
  rw [releasedFromDeficit_due] at h
  exact absurd h (by decide)

end Sys2Proof.Machine
end

section
/-!
SUPPORT. Which registers a step may write: the rules of `State.regsKept`, the claims' own frame for the register file.
-/

namespace Sys2Proof.Machine

namespace State.regsKept

variable {s t u : State} {p : Nat → Bool}

theorem refl (s : State) (p : Nat → Bool) : s.regsKept s p := fun _ _ => rfl

theorem trans (h : s.regsKept t p) (g : t.regsKept u p) : s.regsKept u p := fun a ha => (g a ha).trans (h a ha)

theorem mono {q : Nat → Bool} (h : s.regsKept t p) (hq : ∀ a, q a = false → p a = false) : s.regsKept t q := fun a ha => h a (hq a ha)

theorem of_regs (h : s.regsKept t p) (hu : u.regs = t.regs) : s.regsKept u p := fun a ha => (State.rd_of_regs hu a).trans (h a ha)

/-- An operation that keeps the register file. -/
theorem still {m : Nat} (k : t.Keeps m u) (hm : m.testBit 0 = false) (h : s.regsKept t p) : s.regsKept u p := h.of_regs (k.regs hm)

theorem wr {a : Nat} {v : Word} (ha : p a = true) (h : s.regsKept t p) : s.regsKept (t.wr a v) p := fun b hb =>
  (State.rd_wr_ne _ _ (by rintro rfl; rw [ha] at hb; cases hb)).trans (h b hb)

theorem put {f : Fld} {x : Nat} (ha : p f.addr = true) (h : s.regsKept t p) : s.regsKept (t.put f x) p := h.wr ha

theorem ite {c : Prop} [Decidable c] (h : c → s.regsKept t p) (g : ¬c → s.regsKept u p) : s.regsKept (if c then t else u) p := by
  split
  · exact h ‹_›
  · exact g ‹_›

theorem foldl {α : Type} {f : State → α → State} {l : List α} (hf : ∀ u x, s.regsKept u p → s.regsKept (f u x) p) (h : s.regsKept t p) :
    s.regsKept (l.foldl f t) p := by
  induction l generalizing t with
  | nil => exact h
  | cons x l ih => exact ih (hf t x h)

theorem get {f : Fld} (h : s.regsKept t p) (hf : p f.addr = false) : t.get f = s.get f := State.get_of_rd (h _ hf)

theorem bit {f : Fld} (h : s.regsKept t p) (hf : p f.addr = false) : t.bit f = s.bit f := State.bit_of_rd (h _ hf)

theorem islandUp {k : Nat} (h : s.regsKept t p) (hf : p GLB_ISLPWR.at = false) : t.islandUp k = s.islandUp k := by
  rw [State.islandUp, State.islandUp, h.get (f := GLB_ISLPWR.ISL) hf]

end State.regsKept

end Sys2Proof.Machine
end

section
/-!
SUPPORT. What the policy of a port may change: `State.ActsOn` and the operations on one port, from ErrorRecovery (R104) to the reverse push (R154), as rules of it.
-/

namespace Sys2Proof.Machine

theorem policyArea_port (n : Fin 16) {d : Nat} (h : d < 0x1000) : policyArea n (portBase n.val + d) = true := by
  simp [policyArea, inPort_off n h]

theorem policyArea_of_block {n : Fin 16} {a b : Nat} (h : block b a = true) (hb : b = 3 ∨ b = 4 ∨ b = 7) :
    policyArea n a = true ∧ inPort n a = false ∧ a ≠ SOF_DBSTAT.at := by
  simp only [block, beq_iff_eq] at h
  refine ⟨by rcases hb with rfl | rfl | rfl <;> simp [policyArea, block, h], ?_, ?_⟩
  · simp [inPort, within, portBase]
    omega
  · unfold SOF_DBSTAT.at
    omega

theorem policyArea_eq_false {n : Fin 16} {a : Nat} (h : a < 0x3000) (hd : a ≠ SOF_DBSTAT.at) : policyArea n a = false := by
  simp [policyArea, inPort, inSlices, within, block, portBase, sliceBase, JTL_SWDEV.at, UPD_BRMASK.at, THA_SRSTAT.at, SOF_DBSTAT.at] at hd ⊢
  omega

theorem policyArea_other {m n : Fin 16} (hm : m ≠ n) {d : Nat} (h : d < 0x1000) : policyArea n (portBase m.val + d) = false := by
  have : m.val ≠ n.val := fun e => hm (Fin.ext e)
  simp [policyArea, inPort, inSlices, within, block, portBase, sliceBase, JTL_SWDEV.at, UPD_BRMASK.at, THA_SRSTAT.at, SOF_DBSTAT.at]
  omega

/-- What an image and the boot give a port, and no policy changes: released, enabled, its role, on the ROM's policy. -/
def PortSt.setup (p : PortSt) : Bool × Bool × Nat × Bool := (p.released, p.en, p.role, p.rom)

theorem State.isService_of_setup {s t : State} {n : Fin 16} (h : t.ports[n].setup = s.ports[n].setup) : t.isService n = s.isService n := by
  simp only [PortSt.setup, Prod.mk.injEq] at h
  rw [State.isService, State.isService, h.2.1, h.2.2.1]

/-- The fields of SOF_DBSTAT beside the marks of the Rd. -/
def besideRd (f : Fld) : Bool := f.addr == SOF_DBSTAT.at && SOF_DBSTAT.DBRD0.apart f && SOF_DBSTAT.DBRD1.apart f

theorem State.get_wr_besideRd {f : Fld} (hf : besideRd f = true) (t : State) {a : Nat} (v : Word) (h : a ≠ SOF_DBSTAT.at) : (t.wr a v).get f = t.get f := by
  simp only [besideRd, Bool.and_eq_true, beq_iff_eq] at hf
  exact State.get_wr_ne _ _ f (by rw [hf.1.1]; exact h.symm)

/-- From s to t what the policy of port n may change has changed: registers of its area and, of the boot's state, the Rd; the Type-C state of the port is one of Q.
Alone says that no other port is changed; without it a deficit may end on the others too (R183 step 5). -/
structure State.ActsOn (s : State) (n : Fin 16) (alone : Bool) (Q : Nat → Prop) (t : State) : Prop where
  regs : s.regsKept t (policyArea n)
  setup (m : Fin 16) : t.ports[m].setup = s.ports[m].setup
  ports : alone = true → s.portsBut t [n]
  boot : t.boot = { s.boot with rd := t.boot.rd }
  dbstat (f : Fld) : besideRd f = true → t.get f = s.get f
  cc : Q (t.cc n)

namespace State.ActsOn

variable {s t u : State} {n : Fin 16} {b : Bool} {Q R : Nat → Prop}

theorem refl (s : State) (n : Fin 16) (b : Bool) : s.ActsOn n b (fun x => x = s.cc n) s := ⟨.refl _ _, fun _ => rfl, fun _ _ _ => rfl, rfl, fun _ _ => rfl, rfl⟩

/-- The start of a chain whose Type-C state is of no concern. -/
theorem start (s : State) (n : Fin 16) (b : Bool) : s.ActsOn n b (fun _ => True) s := ⟨.refl _ _, fun _ => rfl, fun _ _ _ => rfl, rfl, fun _ _ => rfl, trivial⟩

theorem isService (h : s.ActsOn n b Q t) (m : Fin 16) : t.isService m = s.isService m := State.isService_of_setup (h.setup m)

/-- Registers, ports and the boot's state are as before. -/
theorem of_eq (h : s.ActsOn n b Q t) (hr : u.regs = t.regs) (hp : u.ports = t.ports) (hb : u.boot = t.boot) : s.ActsOn n b Q u where
  regs := h.regs.of_regs hr
  setup m := by rw [hp]; exact h.setup m
  ports hb' m hm := by rw [hp]; exact h.ports hb' m hm
  boot := by rw [hb]; exact h.boot
  dbstat f hf := (State.get_of_regs hr f).trans (h.dbstat f hf)
  cc := by rw [State.cc, State.get_of_regs hr]; exact h.cc

/-- An operation on the rest of the state. -/
theorem still {m : Nat} (h : s.ActsOn n b Q t) (k : t.Keeps m u) (hr : m.testBit 0 = false) (hp : m.testBit 6 = false) (hb : m.testBit 16 = false) :
    s.ActsOn n b Q u := h.of_eq (k.regs hr) (k.ports hp) (k.boot hb)

/-- A register of the port's area outside its own block. -/
theorem wr {a : Nat} {v : Word} (ha : policyArea n a = true ∧ inPort n a = false ∧ a ≠ SOF_DBSTAT.at) (h : s.ActsOn n b Q t) : s.ActsOn n b Q (t.wr a v) where
  regs := h.regs.wr ha.1
  setup := h.setup
  ports := h.ports
  boot := h.boot
  dbstat f hf := (State.get_wr_besideRd hf t v ha.2.2).trans (h.dbstat f hf)
  cc := by
    rw [State.cc, State.get_wr_ne _ _ (PCC_STATUS.STATE n) (fun e => by have := ha.2.1; rw [← e, inPort_off n (by decide)] at this; cases this)]
    exact h.cc

theorem put {f : Fld} {x : Nat} (ha : policyArea n f.addr = true ∧ inPort n f.addr = false ∧ f.addr ≠ SOF_DBSTAT.at) (h : s.ActsOn n b Q t) :
    s.ActsOn n b Q (t.put f x) := h.wr ha

/-- A register of the port's own block beside PCC_STATUS. -/
theorem wrOwn {d : Nat} {v : Word} (hd : d < 0x1000 ∧ d ≠ 0) (h : s.ActsOn n b Q t) : s.ActsOn n b Q (t.wr (portBase n.val + d) v) where
  regs := h.regs.wr (policyArea_port n hd.1)
  setup := h.setup
  ports := h.ports
  boot := h.boot
  dbstat f hf := (State.get_wr_besideRd hf t v (portAddr_ne n (by decide))).trans (h.dbstat f hf)
  cc := by
    rw [State.cc, State.get_wr_ne _ _ (PCC_STATUS.STATE n) (by have := hd.2; simp; omega)]
    exact h.cc

/-- A field of the port's own block beside the Type-C state. -/
theorem putOwn {d lo w x : Nat} (hd : d < 0x1000 ∧ (d ≠ 0 ∨ 5 ≤ lo)) (h : s.ActsOn n b Q t) : s.ActsOn n b Q (t.put ⟨portBase n.val + d, lo, w⟩ x) where
  regs := h.regs.put (policyArea_port n hd.1)
  setup := h.setup
  ports := h.ports
  boot := h.boot
  dbstat f hf := (State.get_wr_besideRd hf t _ (portAddr_ne n (by decide))).trans (h.dbstat f hf)
  cc := by
    rw [State.cc, State.get_put_disjoint _ _ (PCC_STATUS.STATE n) _ (hd.2.imp (fun h => by simp; omega) .inl) (Nat.le_of_ble_eq_true rfl)]
    exact h.cc

theorem setCc {x : Nat} (hx : Q (x % 32)) (h : s.ActsOn n b R t) : s.ActsOn n b Q (t.setCc n x) where
  regs := h.regs.put (policyArea_port n (by decide))
  setup := h.setup
  ports := h.ports
  boot := h.boot
  dbstat f hf := (State.get_wr_besideRd hf t _ (portAddr_ne n (by decide))).trans (h.dbstat f hf)
  cc := by rwa [State.cc, State.setCc, State.get_put_same _ _ _ (Nat.le_of_ble_eq_true rfl)]

theorem ite {c : Prop} [Decidable c] (h : c → s.ActsOn n b Q t) (g : ¬c → s.ActsOn n b Q u) : s.ActsOn n b Q (if c then t else u) := by
  split
  · exact h ‹_›
  · exact g ‹_›

/-- A step that is taken or not. -/
theorem maybe {c : Prop} [Decidable c] (g : s.ActsOn n b Q t → s.ActsOn n b Q u) (h : s.ActsOn n b Q t) : s.ActsOn n b Q (if c then u else t) :=
  .ite (fun _ => g h) fun _ => h

/-- A change of the port itself that leaves its setup. -/
theorem modPort {f : PortSt → PortSt} (hf : ∀ p, (f p).setup = p.setup) (h : s.ActsOn n b Q t) : s.ActsOn n b Q (t.modPort n f) where
  regs := h.regs
  setup m := by
    by_cases hm : m = n
    · subst m
      rw [State.modPort_port_same, hf, h.setup]
    · rw [State.modPort_port_ne _ _ hm, h.setup]
  ports hb m hm := (State.modPort_port_ne _ _ (by simpa using hm)).trans (h.ports hb m hm)
  boot := h.boot
  dbstat := h.dbstat
  cc := h.cc

theorem swLeave (h : s.ActsOn n b Q t) : s.ActsOn n b Q (t.swLeave n) :=
  .maybe (fun h => .put (by simp [policyArea, inPort, within, JTL_SWDEV.at, SOF_DBSTAT.at, portBase]; omega) <| h.of_eq rfl rfl rfl) h

theorem vconnOff (h : s.ActsOn n b Q t) : s.ActsOn n b Q (t.vconnOff n) := .putOwn (by decide) <| .putOwn (by decide) <| h.putOwn (by decide)

theorem setRd {x : Nat} (hn : n.val < 2) (h : s.ActsOn n b Q t) : s.ActsOn n b Q (t.setRd n.val x) := by
  have haddr : (if n.val = 0 then SOF_DBSTAT.DBRD0 else SOF_DBSTAT.DBRD1).addr = SOF_DBSTAT.at := by split <;> rfl
  refine ⟨h.regs.put ?_, h.setup, h.ports, by rw [State.setRd, State.flag, State.put_boot, h.boot], fun f hf => ?_, ?_⟩
  · rw [haddr]
    simp [policyArea, hn]
  · simp only [besideRd, Bool.and_eq_true] at hf
    refine (State.get_put_apart _ _ ?_).trans (h.dbstat f (by simp [besideRd, hf]))
    split
    · exact hf.1.2
    · exact hf.2
  · rw [State.cc, State.setRd, State.flag, State.get_put_ne _ _ _ _ (by rw [haddr]; exact portAddr_ne n (by decide))]
    exact h.cc

theorem driveRd {on : Bool} (h : s.ActsOn n b Q t) : s.ActsOn n b Q (t.driveRd n on) := .ite (fun _ => h) fun hc => h.setRd (by omega)

theorem clearRc (h : s.ActsOn n b Q t) : s.ActsOn n b Q (t.clearRc n) := .putOwn (by decide) <| h.modPort fun _ => rfl

theorem clearComp (h : s.ActsOn n b Q t) : s.ActsOn n b Q (t.clearComp n) := .putOwn (by decide) <| .putOwn (by decide) <| h.modPort fun _ => rfl

theorem setGut {on : Bool} {c : Nat} (h : s.ActsOn n b Q t) : s.ActsOn n b Q (t.setGut n on c) := .putOwn (by decide) <| h.putOwn (by decide)

theorem discharge (h : s.ActsOn n b Q t) : s.ActsOn n b Q (t.discharge n) := .maybe (fun h => .putOwn (by decide) h.setGut) h

theorem srSafe (h : s.ActsOn n b Q t) : s.ActsOn n b Q t.srSafe :=
  .maybe (fun h => .put (by simp [policyArea, inPort, within, THA_SRSTAT.at, SOF_DBSTAT.at, portBase]; omega) h) h

theorem seeVbus {below : Bool} (h : s.ActsOn n b Q t) : s.ActsOn n b Q (t.seeVbus n below) := .maybe .srSafe <| h.putOwn (by decide)

theorem seeRamp (h : s.ActsOn n b Q t) : s.ActsOn n b Q (t.seeRamp n) := .maybe (fun h => .seeVbus <| h.of_eq rfl rfl rfl) h

theorem eaveOpen (h : s.ActsOn n b Q t) : s.ActsOn n b Q (t.eaveOpen n) :=
  .discharge <| .clearComp <| .wrOwn (by decide) <| .modPort (fun _ => rfl) <| .putOwn (by decide) h.seeRamp

theorem legsOff (h : s.ActsOn n b Q t) : s.ActsOn n b Q (t.legsOff n) where
  regs := h.regs.trans fun a ha => by
    simp only [policyArea, Bool.or_eq_false_iff] at ha
    exact State.rd_legsOff _ _ (by rintro rfl; simp [inPort_off] at ha) (by simp [ha])
  setup m := by rw [(State.legsOff_keeps ..).ports rfl]; exact h.setup m
  ports hb m hm := by rw [(State.legsOff_keeps ..).ports rfl]; exact h.ports hb m hm
  boot := by rw [(State.legsOff_keeps ..).boot rfl]; exact h.boot
  dbstat f hf := by
    have ha : f.addr = SOF_DBSTAT.at := by simp only [besideRd, Bool.and_eq_true, beq_iff_eq] at hf; exact hf.1.1
    refine (State.get_of_rd (State.rd_legsOff _ _ ?_ ?_)).trans (h.dbstat f hf)
    · rw [ha]
      exact (portAddr_ne n (by decide)).symm
    · rw [ha]
      decide
  cc := by
    rw [State.cc, State.get_of_rd (State.rd_legsOff _ _ (by simp) (not_inSlices_of_inPort (inPort_off n (by decide))))]
    exact h.cc

theorem clearCable (h : s.ActsOn n b Q t) : s.ActsOn n b Q (t.clearCable n) :=
  .wrOwn (by decide) <| .wrOwn (by decide) <| .wrOwn (by decide) <| .wrOwn (by decide) <| h.wrOwn (by decide)

theorem leaveAttach (h : s.ActsOn n b Q t) : s.ActsOn n b Q (t.leaveAttach n) :=
  .putOwn (by decide) <| .putOwn (by decide) <| .putOwn (by decide) <| .putOwn (by decide) <| .clearRc <| h.putOwn (by decide)

theorem showCurve (h : s.ActsOn n b Q t) : s.ActsOn n b Q (t.showCurve n) := by
  unfold State.showCurve
  extract_lets e top
  cases top
  · exact h.wrOwn (by decide)
  · exact .maybe (.putOwn (by decide)) <| h.wrOwn (by decide)

theorem setCurve {c : Option Curve} (h : s.ActsOn n b Q t) : s.ActsOn n b Q (t.setCurve n c) := .showCurve <| h.modPort fun _ => rfl

theorem settleCurve (h : s.ActsOn n b Q t) : s.ActsOn n b Q (t.settleCurve n) := h.setCurve

theorem dropApply (h : s.ActsOn n b Q t) : s.ActsOn n b Q (t.dropApply n) := .wrOwn (by decide) <| .putOwn (by decide) <| h.modPort fun _ => rfl

theorem cancelLater (h : s.ActsOn n b Q t) : s.ActsOn n b Q (t.cancelLater n) := h.still (State.cancelLater_keeps ..) rfl rfl rfl

theorem dropOps (h : s.ActsOn n b Q t) : s.ActsOn n b Q (t.dropOps n) := h.dropApply.cancelLater

theorem modPd {f : PdSt → PdSt} (h : s.ActsOn n b Q t) : s.ActsOn n b Q (t.modPd n f) := h.modPort fun _ => rfl

theorem endRun (h : s.ActsOn n b Q t) : s.ActsOn n b Q (t.endRun n) :=
  .wr (policyArea_of_block (b := 3) (beq_iff_eq.2 (by unfold RDG_PRED.at; omega)) (.inl rfl)) h.modPd

theorem noContract (h : s.ActsOn n b Q t) : s.ActsOn n b Q (t.noContract n) :=
  .endRun <| .modPd <| .wrOwn (by decide) <| .wrOwn (by decide) <| .putOwn (by decide) <| .putOwn (by decide) <| h.putOwn (by decide)

theorem startRole (h : s.ActsOn n b Q t) : s.ActsOn n b Q (t.startRole n) := h.putOwn (by decide)

/-- The end of a deficit takes the offers that the other ports owe (R183 step 5). -/
theorem endDeficit (h : s.ActsOn n false Q t) : s.ActsOn n false Q t.endDeficit := by
  refine List.foldlRecOn allPorts _ (.put (policyArea_of_block (b := 4) rfl (.inr (.inl rfl))) h) fun u hu m _ =>
    ⟨hu.regs, fun k => ?_, nofun, hu.boot, hu.dbstat, hu.cc⟩
  by_cases hk : k = m
  · subst k
    rw [State.modPort_port_same, ← hu.setup]
    rfl
  · rw [State.modPort_port_ne _ _ hk, hu.setup]

theorem allocToFloor (h : s.ActsOn n false Q t) : s.ActsOn n false Q (t.allocToFloor n) :=
  .maybe .endDeficit <| h.put (policyArea_of_block (b := 4) (beq_iff_eq.2 (by change (0x4040 + 0x4 * n.val) / 0x1000 = 4; omega)) (.inr (.inl rfl)))

theorem pdReset (h : s.ActsOn n false Q t) : s.ActsOn n false Q (t.pdReset n) := by
  have offers (k : Nat) (hk : k < 11) (u : State) (hu : s.ActsOn n false Q u) : s.ActsOn n false Q (u.wr (PPD_OFFER.at n k) 0) := by
    rw [PPD_OFFER.at, Nat.add_assoc]
    exact hu.wrOwn (by omega)
  refine .allocToFloor <| .startRole <| .put (policyArea_of_block (b := 3) rfl (.inl rfl)) <| .modPort (fun _ => rfl) ?_
  refine List.foldlRecOn (List.range 11) _ (.wrOwn (by decide) <| .putOwn (by decide) <| .putOwn (by decide) <| .putOwn (by decide) <|
    .putOwn (by decide) <| .modPd h.noContract) fun u hu k hk => offers k (by simpa using hk) u hu

theorem errRec (hQ : Q ccErrorRecovery) (h : s.ActsOn n false R t) : s.ActsOn n false Q (t.errRec n) := by
  unfold State.errRec
  extract_lets t1 t2 t3 t4
  have h2 : s.ActsOn n false Q t2 := .legsOff <| .vconnOff <| .driveRd <| .putOwn (by decide) <| .setCc hQ h.swLeave
  have h3 : s.ActsOn n false Q t3 := .ite (fun _ => h2.eaveOpen) fun _ => h2.discharge
  exact .modPort (fun _ => rfl) <| .dropOps <| .settleCurve <| .leaveAttach <| .clearCable h3.pdReset

theorem goErrRec (hQ : Q ccErrorRecovery) (h : s.ActsOn n false Q t) : s.ActsOn n false Q (t.goErrRec n) :=
  .maybe (fun h => .ite (fun _ => h.modPort fun _ => rfl) fun _ => h.errRec hQ) h

theorem enterDisabled (hQ : Q ccDisabled) (h : s.ActsOn n b R t) : s.ActsOn n b Q (t.enterDisabled n) :=
  .maybe .eaveOpen <| .modPort (fun _ => rfl) <| .driveRd <| .vconnOff <| .putOwn (by decide) <| h.setCc hQ

theorem takeStaged {d : Nat} (hd : d < 0x1000 ∧ d ≠ 0) (h : s.ActsOn n b Q t) : s.ActsOn n b Q (t.takeStaged (portBase n.val + d)) := by
  unfold State.takeStaged
  split
  · exact h
  · exact .wrOwn hd <| h.of_eq rfl rfl rfl

theorem showRp (h : s.ActsOn n b Q t) : s.ActsOn n b Q (t.showRp n) := .maybe (.putOwn (by decide)) h

theorem stopCheck (h : s.ActsOn n b Q t) : s.ActsOn n b Q (t.stopCheck n) := .showRp <| .putOwn (by decide) <| h.modPort fun _ => rfl

theorem candidate (hsnk : s.isService n = true → Q ccAttachWaitSnk) (hsrc : s.isService n = false → Q ccAttachWaitSrc) (h : s.ActsOn n b Q t) :
    s.ActsOn n b Q (t.candidate n) := by
  refine .maybe (fun h => .still (.setCc ?_ h.stopCheck) (State.firePort_keeps ..) rfl rfl rfl) h
  rw [h.isService]
  split
  · exact hsnk ‹_›
  · exact hsrc (Bool.not_eq_true _ ▸ ‹¬_›)

theorem enterUnattached (hsnk : s.isService n = true → Q ccUnattachedSnk ∧ Q ccAttachWaitSnk)
    (hsrc : s.isService n = false → Q ccUnattachedSrc ∧ Q ccAttachWaitSrc) (h : s.ActsOn n b R t) : s.ActsOn n b Q (t.enterUnattached n) := by
  unfold State.enterUnattached
  extract_lets t1 t2 t3
  have h2 : s.ActsOn n b R t2 := .modPort (fun _ => rfl) <| .putOwn (by decide) <| .putOwn (by decide) <| .takeStaged (by decide) <| h.takeStaged (by decide)
  have h3 : s.ActsOn n b Q t3 := .ite (fun hc => .driveRd <| h2.setCc (hsnk (h2.isService n ▸ hc)).1) fun hc =>
    .clearCable <| .wrOwn (by decide) <| .vconnOff <| .showRp <| h2.setCc (hsrc (h2.isService n ▸ by simpa using hc)).1
  exact .ite (fun _ => h3) fun _ => h3.candidate (fun hs => (hsnk hs).2) fun hs => (hsrc hs).2

theorem startCheck {first : Bool} (h : s.ActsOn n b Q t) : s.ActsOn n b Q (t.startCheck n first) :=
  .maybe (fun h => .maybe (.putOwn (by decide)) <| .putOwn (by decide) <| h.modPort fun _ => rfl) h

theorem takeStagedAll {l : List Nat} (hl : ∀ a ∈ l, ∃ d, a = portBase n.val + d ∧ d < 0x1000 ∧ d ≠ 0) (h : s.ActsOn n b Q t) :
    s.ActsOn n b Q (t.takeStagedAll l) := List.foldlRecOn l _ h fun u hu a ha => by
  obtain ⟨d, rfl, hd⟩ := hl a ha
  exact hu.takeStaged hd

theorem selectCurve {idx iref : Nat} (h : s.ActsOn n b Q t) : s.ActsOn n b Q (t.selectCurve n idx iref).1 := by
  have hfst : (t.selectCurve n idx iref).1 = t.takeStagedAll ((List.range 9).map (fun w => PEV_BASE.at n (idx % 16) w)) := by simp only [State.selectCurve]
  rw [hfst]
  refine h.takeStagedAll fun a ha => ?_
  obtain ⟨w, hw, rfl⟩ := List.mem_map.1 ha
  have : w < 9 := List.mem_range.1 hw
  exact ⟨0xa80 + 0x24 * (idx % 16) + 0x4 * w, by simp only [PEV_BASE.at]; omega, by omega, by omega⟩

theorem beginClose {x : Nat} (h : s.ActsOn n b Q t) : s.ActsOn n b Q (t.beginClose n x) :=
  .putOwn (by decide) <| .putOwn (by decide) <| .maybe (.putOwn (by decide)) <| .putOwn (by decide) <| h.takeStaged (by decide)

theorem sinkClose {ma : Nat} (h : s.ActsOn n b Q t) : s.ActsOn n b Q (t.sinkClose n ma) := by
  unfold State.sinkClose
  extract_lets t1
  have h1 : s.ActsOn n b Q t1 := .ite (fun _ => h) fun _ => h.beginClose
  have h2 := h1.selectCurve (idx := 0) (iref := ma)
  split
  · exact h1.setCurve
  · generalize t1.selectCurve n 0 ma = x at h2
    exact h2.setCurve

theorem modLoop {f : LoopSt → LoopSt} (h : s.ActsOn n b Q t) : s.ActsOn n b Q (t.modLoop n f) := h.modPort fun _ => rfl

theorem rateFlags (h : s.ActsOn n b Q t) : s.ActsOn n b Q (t.rateFlags n) := .maybe (.putOwn (by decide)) <| .maybe (.putOwn (by decide)) h

theorem showRef (h : s.ActsOn n b Q t) : s.ActsOn n b Q (t.showRef n) := .putOwn (by decide) <| .putOwn (by decide) <| h.putOwn (by decide)

theorem startPush (h : s.ActsOn n b Q t) : s.ActsOn n b Q (t.startPush n) :=
  .ite (fun _ => h) fun _ => .ite (fun _ => h.modLoop) fun _ => .showRef <| .putOwn (by decide) <| .putOwn (by decide) <| .modLoop <| .rateFlags <|
    .still (.takeStaged (by decide) h) (State.legsArm_keeps ..) rfl rfl rfl

end State.ActsOn

/-- What a step did to port n alone, seen from another port or not at all, is told without the Type-C state. -/
theorem State.ActsOn.any {s t : State} {n : Fin 16} {b : Bool} {Q : Nat → Prop} (h : s.ActsOn n b Q t) : s.ActsOn n b (fun _ => True) t :=
  ⟨h.regs, h.setup, h.ports, h.boot, h.dbstat, trivial⟩

end Sys2Proof.Machine
end

section
/-!
SUPPORT. A step taken port by port, in the order of `allPorts`: what no port's policy reaches stays, and what is shown of one port its own turn alone decides.
-/
namespace Sys2Proof.Machine

/-- From s to t what the policies of the ports and the mark of R44 may change has changed. -/
structure State.ActsOnPorts (s t : State) : Prop where
  regs : s.regsKept t (fun a => allPorts.any (fun n => policyArea n a) || a == GLB_BOOTSTAT.at)
  setup (m : Fin 16) : t.ports[m].setup = s.ports[m].setup
  boot : t.boot = { s.boot with rd := t.boot.rd }

namespace State.ActsOnPorts

variable {s t : State} {b : Bool}

theorem refl (s : State) : s.ActsOnPorts s := ⟨.refl _ _, fun _ => rfl, rfl⟩

theorem foldl {f : State → Fin 16 → State} (hf : ∀ (u : State) n, u.ActsOn n b (fun _ => True) (f u n)) (l : List (Fin 16)) (h : s.ActsOnPorts t) :
    s.ActsOnPorts (l.foldl f t) := List.foldlRecOn l f h fun u hu n _ => by
  have k := hf u n
  refine ⟨hu.regs.trans (k.regs.mono fun a ha => ?_), fun m => (k.setup m).trans (hu.setup m), by rw [k.boot, hu.boot]⟩
  simp only [Bool.or_eq_false_iff, List.any_eq_false, Bool.not_eq_true] at ha
  exact ha.1 n (List.mem_finRange n)

theorem followWait (h : s.ActsOnPorts t) : s.ActsOnPorts t.followWait := ⟨h.regs.put (by simp), h.setup, h.boot⟩

/-- A register below the Ridge's, but for GLB_BOOTSTAT and that of the Rd, is beyond the policies of the ports. -/
theorem rd (h : s.ActsOnPorts t) {a : Nat} (ha : a < 0x3000) (hd : a ≠ SOF_DBSTAT.at) (hb : a ≠ GLB_BOOTSTAT.at) : t.rd a = s.rd a :=
  h.regs a (by simp [List.any_eq_false, policyArea_eq_false ha hd, hb])

theorem ovBar (h : s.ActsOnPorts t) : t.boot.ovBar = s.boot.ovBar := by rw [h.boot]

end State.ActsOnPorts

/-- In u port n is as in s, as far as its block, the block of the device (R63) and its setup go. -/
def State.sameAt (s : State) (n : Fin 16) (u : State) : Prop :=
  (∀ a, inPort n a = true ∨ a < 0x1000 → u.rd a = s.rd a) ∧ u.ports[n].setup = s.ports[n].setup

namespace State.sameAt

variable {s u v : State} {m n : Fin 16} {b : Bool} {Q : Nat → Prop}

theorem of_actsOn (h : u.ActsOn m b Q v) (hm : m ≠ n) : u.sameAt n v := by
  refine ⟨fun a ha => h.regs a ?_, h.setup n⟩
  rcases ha with ha | ha
  · simp only [inPort, within, Bool.and_eq_true, decide_eq_true_eq] at ha
    have := policyArea_other (n := m) hm.symm (d := a - portBase n.val) (by omega)
    rwa [Nat.add_sub_cancel' ha.1] at this
  · exact policyArea_eq_false (by omega) (by rintro rfl; exact absurd ha (by decide))

theorem refl (s : State) (n : Fin 16) : s.sameAt n s := ⟨fun _ _ => rfl, rfl⟩

theorem trans (h : s.sameAt n u) (g : u.sameAt n v) : s.sameAt n v := ⟨fun a ha => (g.1 a ha).trans (h.1 a ha), g.2.trans h.2⟩

theorem own (h : s.sameAt n u) {d lo w : Nat} (hd : d < 0x1000) : u.get ⟨portBase n.val + d, lo, w⟩ = s.get ⟨portBase n.val + d, lo, w⟩ :=
  State.get_of_rd (h.1 _ (.inl (inPort_off n hd)))

theorem ownBit (h : s.sameAt n u) {d lo w : Nat} (hd : d < 0x1000) : u.bit ⟨portBase n.val + d, lo, w⟩ = s.bit ⟨portBase n.val + d, lo, w⟩ :=
  State.bit_of_rd (h.1 _ (.inl (inPort_off n hd)))

theorem cc (h : s.sameAt n u) : u.cc n = s.cc n := h.own (by decide)

theorem hasContract (h : s.sameAt n u) : u.hasContract n = s.hasContract n := by
  rw [State.hasContract, State.hasContract, h.own (by decide)]

theorem portUp (h : s.sameAt n u) : u.portUp n = s.portUp n := State.portUp_of_rd (h.1 _ (.inr (by decide))) (h.1 _ (.inr (by decide)))

theorem halted (h : s.sameAt n u) (k : Nat) : u.halted k = s.halted k := by
  rw [State.halted, State.halted, State.get_of_rd (f := GLB_ISLHALT.ISL) (h.1 _ (.inr (by decide)))]

theorem released (h : s.sameAt n u) : u.ports[n].released = s.ports[n].released := congrArg (fun x => x.1) h.2

theorem en (h : s.sameAt n u) : u.ports[n].en = s.ports[n].en := congrArg (fun x => x.2.1) h.2

theorem role (h : s.sameAt n u) : u.ports[n].role = s.ports[n].role := congrArg (fun x => x.2.2.1) h.2

theorem rom (h : s.sameAt n u) : u.ports[n].rom = s.ports[n].rom := congrArg (fun x => x.2.2.2) h.2

theorem isSource (h : s.sameAt n u) : u.isSource n = s.isSource n := by rw [State.isSource, State.isSource, h.en, h.role]

theorem mustStayDown (h : s.sameAt n u) : u.mustStayDown n = s.mustStayDown n := by
  rw [State.mustStayDown, State.mustStayDown, h.isSource, h.en, h.ownBit (d := 0x4) (by decide), h.ownBit (d := 0) (by decide),
    State.bit_of_rd (f := GLB_SUPSTAT.VHVOK) (h.1 _ (.inr (by decide)))]

end State.sameAt

/-- A fold over the ports reaches for port n what the turn of port n gives, where the turns of the others neither disturb what that turn needs nor what it gives. -/
theorem State.foldl_allPorts_reaches {f : State → Fin 16 → State} {P Q : State → Prop} {s : State} (n : Fin 16) (hP : ∀ u m, m ≠ n → P u → P (f u m))
    (hn : ∀ u, P u → Q (f u n)) (hQ : ∀ u m, m ≠ n → Q u → Q (f u m)) (h : P s) : Q (allPorts.foldl f s) := by
  obtain ⟨l, r, hlr⟩ := List.append_of_mem (List.mem_finRange n)
  have hnd : (l ++ n :: r).Nodup := hlr ▸ List.nodup_finRange 16
  have hl : ∀ m ∈ l, m ≠ n := fun m hm => (List.nodup_append.1 hnd).2.2 m hm n (.head _)
  have hr : ∀ m ∈ r, m ≠ n := fun m hm e => (List.nodup_cons.1 (List.nodup_append.1 hnd).2.1).1 (e ▸ hm)
  have before : P (l.foldl f s) := List.foldlRecOn l f h fun u hu m hm => hP u m (hl m hm) hu
  rw [allPorts, hlr, List.foldl_append, List.foldl_cons]
  exact List.foldlRecOn r f (hn _ before) fun u hu m hm => hQ u m (hr m hm) hu

/-- A port that is up, not halted and not Disabled goes to ErrorRecovery, or stands there already (R104). -/
theorem State.cc_goErrRec {s : State} {n : Fin 16} (hup : s.portUp n = true) (hh : s.halted n.val = false) (hd : s.cc n ≠ ccDisabled) :
    (s.goErrRec n).cc n = ccErrorRecovery := by
  unfold State.goErrRec
  by_cases he : s.cc n = ccErrorRecovery
  · simp [he]
  · rw [if_pos (by simp [hup, hd, he]), if_neg (by simp [hh])]
    exact (State.ActsOn.errRec (Q := fun x => x = ccErrorRecovery) rfl (.refl s n false)).cc

/-! ### VHV goes and comes back (R37, R44) -/

theorem State.vhvGone_actsOnPorts (s : State) : s.ActsOnPorts s.vhvGone :=
  .followWait <| .foldl (fun u n => .maybe (.goErrRec trivial) (.start u n false)) _ (.refl s)

theorem State.cc_followWait (s : State) (n : Fin 16) : s.followWait.cc n = s.cc n :=
  State.get_put_ne _ _ _ _ (portAddr_ne n (by decide))

/-- With VHV gone every port that has a contract, is up, not halted and not Disabled stands in ErrorRecovery (R37). -/
theorem State.cc_vhvGone {s : State} {n : Fin 16} (hup : s.portUp n = true) (hh : s.halted n.val = false) (hc : s.hasContract n = true)
    (hd : s.cc n ≠ ccDisabled) : s.vhvGone.cc n = ccErrorRecovery := by
  have others (u : State) (m : Fin 16) (hm : m ≠ n) :
      u.sameAt n (if u.hasContract m || u.stageOn m || u.eaveLive m then u.goErrRec m else u) :=
    .of_actsOn (.maybe (.goErrRec trivial) (.start u m false)) hm
  rw [State.vhvGone, State.cc_followWait]
  refine State.foldl_allPorts_reaches (P := s.sameAt n) (Q := fun u => u.cc n = ccErrorRecovery) n (fun u m hm h => h.trans (others u m hm)) (fun u h => ?_)
    (fun u m hm h => (others u m hm).cc.trans h) (.refl s n)
  rw [h.hasContract, hc, Bool.true_or, Bool.true_or, if_pos rfl]
  exact State.cc_goErrRec (h.portUp.trans hup) ((h.halted _).trans hh) (by rwa [h.cc])

theorem State.ActsOn.loseVhv {s t : State} {n : Fin 16} {Q : Nat → Prop} (h : s.ActsOn n false Q t) : s.ActsOn n false (fun _ => True) (t.loseVhv n) := by
  have h1 := maybe (c := t.bit (PGT_STATUS.ON n) = true) (setGut (on := false) (c := 0)) h.any
  exact .ite (fun _ => h.any) fun _ => .ite (fun _ => h1.goErrRec trivial) fun _ => .maybe (.enterDisabled trivial) h1

theorem State.vhvLow_actsOnPorts (s : State) : s.ActsOnPorts s.vhvLow := .followWait <| .foldl (fun u n => (State.ActsOn.start u n false).loseVhv) _ (.refl s)

/-- GUT is taken away, and the port, which has a contract, goes to ErrorRecovery (R44, R269). -/
theorem State.cc_loseVhv {s : State} {n : Fin 16} (hup : s.portUp n = true) (hh : s.halted n.val = false) (hc : s.hasContract n = true)
    (hd : s.cc n ≠ ccDisabled) (hdrive : s.driveOk n = false) : (s.loseVhv n).cc n = ccErrorRecovery := by
  unfold State.loseVhv
  rw [if_neg (by simp [hdrive])]
  extract_lets t
  have hrd : s.regsKept t (fun a => a == PGT_STATUS.at n) :=
    .ite (fun _ => .put (beq_self_eq_true _) <| .put (beq_self_eq_true _) <| .refl _ _) fun _ => .refl _ _
  have hlow (a : Nat) (h : a < 0x10000) : t.rd a = s.rd a := hrd a (beq_false_of_ne (portAddr_ne n h).symm)
  have hcc : t.cc n = s.cc n := hrd.get (f := PCC_STATUS.STATE n) (by simp)
  have hct : t.hasContract n = true := by rw [← hc, State.hasContract, State.hasContract, hrd.get (f := PPD_STATUS.CONTRACT n) (by simp)]
  rw [hct, Bool.true_or, Bool.true_or, Bool.true_or, if_pos rfl]
  refine State.cc_goErrRec ((State.portUp_of_rd (hlow _ (by decide)) (hlow _ (by decide))).trans hup) ?_ (by rwa [hcc])
  rw [← hh, State.halted, State.halted, State.get_of_rd (f := GLB_ISLHALT.ISL) (hlow _ (by decide))]

/-- With VHV below UVLO every port that has a contract, is up, not halted, not Disabled and not on the ROM's policy stands in ErrorRecovery (R44). -/
theorem State.cc_vhvLow {s : State} {n : Fin 16} (hv : s.soffit.vhvOk = false) (hup : s.portUp n = true) (hh : s.halted n.val = false)
    (hc : s.hasContract n = true) (hrom : s.ports[n].rom = false) (hd : s.cc n ≠ ccDisabled) : s.vhvLow.cc n = ccErrorRecovery := by
  have others (u : State) (m : Fin 16) (hm : m ≠ n) : u.sameAt n (u.loseVhv m) := .of_actsOn (State.ActsOn.start u m false).loseVhv hm
  rw [State.vhvLow, State.cc_followWait]
  refine State.foldl_allPorts_reaches (P := fun u => s.sameAt n u ∧ u.soffit = s.soffit) (Q := fun u => u.cc n = ccErrorRecovery) n
    (fun u m hm h => ⟨h.1.trans (others u m hm), ((State.loseVhv_keeps u m).soffit rfl).trans h.2⟩) (fun u ⟨h, hs⟩ => ?_)
    (fun u m hm h => (others u m hm).cc.trans h) ⟨.refl s n, rfl⟩
  exact State.cc_loseVhv (h.portUp.trans hup) ((h.halted _).trans hh) (h.hasContract.trans hc) (by rwa [h.cc]) (by rw [State.driveOk, hs, hv, h.rom, hrom]; rfl)

theorem State.vhvReturn_actsOnPorts (s : State) : s.ActsOnPorts s.vhvReturn :=
  .followWait <| .foldl (fun u n => .maybe (fun _ => .maybe (fun h => .enterUnattached (fun _ => ⟨trivial, trivial⟩) (fun _ => ⟨trivial, trivial⟩) h)
    (.start u n true)) (.start u n true)) _ (.refl s)

/-- What one port does when gates and drivers have their supply again (assumption log 114). -/
def State.resumePush (t : State) (n : Fin 16) : State :=
  if t.isService n && t.hasContract n && t.sink n == 17 && t.driveOk n && !t.eaveLive n then (t.sinkClose n (t.get (PPD_CONTRACTVI.MA n))).startPush n else t

theorem State.resumeDrive_eq (s : State) : s.resumeDrive = allPorts.foldl State.resumePush s.vhvReturn := rfl

theorem State.resumePush_actsOn (s : State) (n : Fin 16) : s.ActsOn n true (fun _ => True) (s.resumePush n) :=
  .maybe (fun h => .startPush h.sinkClose) (.start s n true)

theorem State.resumeDrive_actsOnPorts (s : State) : s.ActsOnPorts s.resumeDrive := .foldl State.resumePush_actsOn _ s.vhvReturn_actsOnPorts

theorem State.isService_of_isSource {s : State} {n : Fin 16} (h : s.isSource n = true) : s.isService n = false := by
  rw [State.isSource, Bool.and_eq_true, beq_iff_eq] at h
  rw [State.isService, h.2, Bool.and_eq_false_iff]
  exact .inr rfl

/-- A source port that waits for VHV in Disabled, and that nothing else holds there, begins its attach (R44). -/
theorem State.cc_leaveDisabled {s : State} {n : Fin 16} (hup : s.portUp n = true) (hd : s.cc n = ccDisabled) (hdown : s.mustStayDown n = false)
    (hsrc : s.isSource n = true) : (s.leaveDisabled n).cc n = ccUnattachedSrc ∨ (s.leaveDisabled n).cc n = ccAttachWaitSrc := by
  have hserv := State.isService_of_isSource hsrc
  rw [State.leaveDisabled, if_pos ⟨hd, by simp [hdown], hup⟩]
  exact (State.ActsOn.enterUnattached (Q := fun x => x = ccUnattachedSrc ∨ x = ccAttachWaitSrc) (by simp [hserv]) (fun _ => ⟨.inl rfl, .inr rfl⟩)
    (.refl s n true)).cc

theorem State.cc_resumeDrive {s : State} {n : Fin 16} (hrel : s.ports[n].released = true) (hup : s.portUp n = true) (hd : s.cc n = ccDisabled)
    (hdown : s.mustStayDown n = false) (hsrc : s.isSource n = true) :
    s.resumeDrive.cc n = ccUnattachedSrc ∨ s.resumeDrive.cc n = ccAttachWaitSrc := by
  have hserv := State.isService_of_isSource hsrc
  have others (u : State) (m : Fin 16) (hm : m ≠ n) : u.sameAt n (if u.ports[m].released then u.leaveDisabled m else u) :=
    .of_actsOn (Q := fun _ => True) (b := true) (.maybe (fun _ => .maybe (fun h => .enterUnattached (fun _ => ⟨trivial, trivial⟩) (fun _ => ⟨trivial, trivial⟩) h)
      (.start u m true)) (.start u m true)) hm
  have hfirst : s.vhvReturn.cc n = ccUnattachedSrc ∨ s.vhvReturn.cc n = ccAttachWaitSrc := by
    rw [State.vhvReturn, State.cc_followWait]
    refine State.foldl_allPorts_reaches (P := s.sameAt n) (Q := fun u => u.cc n = ccUnattachedSrc ∨ u.cc n = ccAttachWaitSrc) n
      (fun u m hm h => h.trans (others u m hm)) (fun u h => ?_) (fun u m hm h => by rwa [(others u m hm).cc]) (.refl s n)
    rw [if_pos (h.released.trans hrel)]
    exact State.cc_leaveDisabled (h.portUp.trans hup) (h.cc.trans hd) (h.mustStayDown.trans hdown) (h.isSource.trans hsrc)
  rw [State.resumeDrive_eq]
  refine (List.foldlRecOn (motive := fun (u : State) => u.isService n = false ∧ (u.cc n = ccUnattachedSrc ∨ u.cc n = ccAttachWaitSrc)) allPorts
    State.resumePush ⟨?_, hfirst⟩ fun u ⟨hu, hcc⟩ m _ => ?_).2
  · rw [State.isService_of_setup (s.vhvReturn_actsOnPorts.setup n), hserv]
  · by_cases hm : m = n
    · subst m
      rw [State.resumePush, if_neg (by simp [hu])]
      exact ⟨hu, hcc⟩
    · have h := State.sameAt.of_actsOn (u.resumePush_actsOn m) hm
      exact ⟨(State.isService_of_setup h.2).trans hu, by rwa [h.cc]⟩

end Sys2Proof.Machine
end

section
/-!
SUPPORT. Rules about the supplies and the causes (R34, R56, R64, R284): fields of one bit, level sources, the Underlay's source, the record of a cause, the energies of a
power-fail (R394, R402).
-/

namespace Sys2Proof.Machine

/-! ### Fields -/

theorem State.get_raise (s : State) {f : Fld} (h : f.lo + f.w ≤ 32) (hw : 0 < f.w) : (s.raise f).get f = 1 := by
  rw [State.raise, State.get_put_same _ _ _ h, Nat.mod_eq_of_lt (Nat.one_lt_two_pow hw.ne')]

theorem State.get_clear (s : State) {f : Fld} (h : f.lo + f.w ≤ 32) : (s.clear f).get f = 0 := by
  rw [State.clear, State.get_put_same _ _ _ h, Nat.zero_mod]

theorem State.bit_flag (s : State) {f : Fld} (b : Bool) (h : f.lo + f.w ≤ 32) (hw : 0 < f.w) : (s.flag f b).bit f = b := by
  rw [State.bit, State.flag, State.get_put_same _ _ _ h]
  have := Nat.one_lt_two_pow hw.ne'
  cases b <;> simp [b2n, Nat.mod_eq_of_lt this]

theorem State.bit_eq_true {s : State} {f : Fld} (h : s.get f = 1) : s.bit f = true := by rw [State.bit, h]; rfl

theorem State.bit_of_get {s t : State} {f : Fld} (h : t.get f = s.get f) : t.bit f = s.bit f := by rw [State.bit, State.bit, h]

theorem State.bit_put_apart (s : State) {f g : Fld} (x : Nat) (h : f.apart g = true) : (s.put f x).bit g = s.bit g := State.bit_of_get (s.get_put_apart x h)

/-! ### Level sources (R284) -/

@[simp] theorem State.levels_edge (s : State) (e k d : Nat) : (s.edge e k d).bat.levels = s.bat.levels := by
  unfold State.edge
  split
  · dsimp only
    split <;> rfl
  · rfl

theorem State.mem_levels_level (s : State) (e d : Nat) (on : Bool) : e ∈ (s.level e on d).bat.levels ↔ on = true := by
  unfold State.level
  cases on <;> by_cases h : e ∈ s.bat.levels <;> simp [h]

/-- An edge depends on the Batten island's supply, its FIFOs and the clock. -/
theorem State.edge_bat_of {s t : State} (e k d : Nat) (hb : t.bat = s.bat) (hs : t.soffit = s.soffit) (hi : t.rd GLB_ISLPWR.at = s.rd GLB_ISLPWR.at) :
    (t.edge e k d).bat = (s.edge e k d).bat := by
  have hu : t.islandUp islBatten = s.islandUp islBatten := by
    rw [State.islandUp, State.islandUp, State.get_of_rd (f := GLB_ISLPWR.ISL) hi]
  simp only [State.edge, hu, hb, hs, apply_ite State.bat]

theorem State.level_bat_of {s t : State} (e d : Nat) (on : Bool) (hb : t.bat = s.bat) (hs : t.soffit = s.soffit)
    (hi : t.rd GLB_ISLPWR.at = s.rd GLB_ISLPWR.at) : (t.level e on d).bat = (s.level e on d).bat := by
  unfold State.level
  rw [hb]
  extract_lets was
  split
  · exact State.edge_bat_of e 0 d rfl hs hi
  · split
    · exact State.edge_bat_of e 1 d rfl hs hi
    · exact hb

theorem State.level_eq (s : State) (e d : Nat) (on : Bool) : s.level e on d = { s with bat := (s.level e on d).bat } := (State.level_keeps s e on d).eq_mix

/-! ### The Underlay's source (R34) -/

theorem State.followFeed_regsKept (s : State) : s.regsKept s.followFeed (fun a => a == GLB_SUPSTAT.at) :=
  .ite (fun _ => .refl _ _) fun _ => .still (State.fire_keeps ..) rfl <| .put (beq_self_eq_true _) <| .refl _ _

theorem State.get_followFeed (s : State) {f : Fld} (h : f.addr ≠ GLB_SUPSTAT.at ∨ GLB_SUPSTAT.FEED.apart f = true) : s.followFeed.get f = s.get f := by
  rcases h with h | h
  · exact s.followFeed_regsKept.get (by simpa using h)
  · unfold State.followFeed
    split
    · rfl
    · rw [State.get_of_regs (State.fire_regs ..), State.get_put_apart _ _ h]

theorem State.get_feed_followFeed (s : State) : s.followFeed.get GLB_SUPSTAT.FEED = s.feedNow := by
  have hlt : s.feedNow < 2 ^ GLB_SUPSTAT.FEED.w := by
    unfold State.feedNow
    split
    · decide
    · split <;> decide
  unfold State.followFeed
  split
  · exact Eq.symm ‹_›
  · rw [State.get_of_regs (State.fire_regs ..), State.get_put_same _ _ _ (by decide), Nat.mod_eq_of_lt hlt]

@[simp] theorem State.levels_followFeed (s : State) : s.followFeed.bat.levels = s.bat.levels := by
  unfold State.followFeed
  split
  · rfl
  · exact State.levels_edge ..

/-! ### Causes (R56, R64) -/

/-- The registers that the record of a cause writes: those of R64, and the mark of a record that found no room (R400). -/
def causeArea (a : Nat) : Bool := a == SOF_RESET_CAUSE.at || a == SOF_RESET_LAST.at || a == SOF_RESET_TIME.at || a == MTR_STAT.at

theorem State.regsKept.logFault {s t : State} {p : Nat → Bool} {k d : Nat} (h : s.regsKept t p) (hp : p MTR_STAT.at = true) :
    s.regsKept (t.logFault k d) p := .ite (fun _ => h) fun _ => .ite (fun _ => h.of_regs rfl) fun _ => h.put hp

theorem State.regsKept.holdCause {s t : State} {p : Nat → Bool} {c i : Nat} (h : s.regsKept t p) (hc : p SOF_RESET_CAUSE.at = true)
    (ht : p SOF_RESET_TIME.at = true) : s.regsKept (t.holdCause c i) p := .put ht <| .put hc <| .put hc <| h.put hc

theorem State.moreCause_regsKept (s : State) (c i : Nat) : s.regsKept (s.moreCause c i) (fun a => a == SOF_RESET_CAUSE.at || a == SOF_RESET_TIME.at) := by
  have h : s.regsKept (s.satInc SOF_RESET_CAUSE.MORE) (fun a => a == SOF_RESET_CAUSE.at || a == SOF_RESET_TIME.at) := .put rfl <| .refl _ _
  refine .ite (fun _ => ?_) fun _ => h
  exact .ite (fun _ => .holdCause (.of_regs h rfl) rfl rfl) fun _ => .of_regs h rfl

theorem State.cause_regsKept (s : State) (c i : Nat) : s.regsKept (s.cause c i) causeArea := by
  have h : s.regsKept ((s.put SOF_RESET_LAST.CODE c).put SOF_RESET_LAST.ISLAND i) causeArea := .put rfl <| .put rfl <| .refl _ _
  refine .logFault (.ite (fun _ => .of_regs (h.holdCause rfl rfl) rfl) fun _ => ?_) rfl
  exact h.trans <| (State.moreCause_regsKept _ _ _).mono fun a ha => by
    simp only [causeArea, Bool.or_eq_false_iff] at ha ⊢
    exact ⟨ha.1.1.1, ha.1.2⟩

/-- SOF_RESET_LAST shows the cause recorded last (R64). -/
theorem State.get_last_cause (s : State) {c i : Nat} (hc : c < 256) (hi : i < 32) :
    (s.cause c i).get SOF_RESET_LAST.CODE = c ∧ (s.cause c i).get SOF_RESET_LAST.ISLAND = i := by
  have hrd : (s.cause c i).rd SOF_RESET_LAST.at = ((s.put SOF_RESET_LAST.CODE c).put SOF_RESET_LAST.ISLAND i).rd SOF_RESET_LAST.at := by
    have h : ((s.put SOF_RESET_LAST.CODE c).put SOF_RESET_LAST.ISLAND i).regsKept (s.cause c i) (fun a => a != SOF_RESET_LAST.at) :=
      .logFault (.ite (fun _ => .of_regs (.holdCause (.refl _ _) rfl rfl) rfl) fun _ => (State.moreCause_regsKept _ _ _).mono fun a ha => by
        rw [bne_eq_false_iff_eq] at ha
        rw [ha]
        rfl) rfl
    exact h _ rfl
  constructor
  · rw [State.get_of_rd (f := SOF_RESET_LAST.CODE) hrd, State.get_put_apart _ _ rfl, State.get_put_same _ _ _ (by decide)]
    exact Nat.mod_eq_of_lt hc
  · rw [State.get_of_rd (f := SOF_RESET_LAST.ISLAND) hrd, State.get_put_same _ _ _ (by decide)]
    exact Nat.mod_eq_of_lt hi

theorem State.moreCause_boot (s : State) (c i : Nat) : (s.moreCause c i).boot = s.boot := by
  unfold State.moreCause
  extract_lets t
  split
  · dsimp only [State.free]
    split <;> rfl
  · rfl

theorem State.cause_boot (s : State) (c i : Nat) : (s.cause c i).boot = { s.boot with causeAt := (s.cause c i).boot.causeAt } := by
  have hlog (t : State) (d : Nat) : (t.logFault 1 d).boot = t.boot := (State.logFault_keeps ..).boot rfl
  unfold State.cause
  rw [hlog]
  split
  · rfl
  · rw [State.moreCause_boot]
    rfl

/-! ### The energies of a power-fail (R388, R394, R402) -/

/-- The registers of the metering block (R410). -/
def mtrArea (a : Nat) : Bool := within 0xB000 0xC000 a

theorem State.takeReport_regsKept (s : State) (n : Fin 16) (r : Option Int) : s.regsKept (s.takeReport n r) mtrArea := by
  have hps : mtrArea (MTR_PSTAT.at n) = true := by
    simp only [mtrArea, within, MTR_PSTAT.at, Bool.and_eq_true, decide_eq_true_eq]
    omega
  have h : s.regsKept (s.flag (MTR_PSTAT.METERING n) (s.metering n)) mtrArea := .put hps <| .refl _ _
  refine .ite (fun _ => h) fun _ => ?_
  cases r with
  | some e => exact h.of_regs rfl
  | none => exact .of_regs (.put (f := MTR_PSTAT.MISSED n) hps h) rfl

theorem State.ringWrite_regsKept {s t : State} {r : LogRec} {force : Bool} (h : s.ringWrite r force = some t) : s.regsKept t mtrArea := by
  unfold State.ringWrite at h
  split at h
  · cases h
  · have hshow (u : State) : u.regsKept u.showRing mtrArea := by
      unfold State.showRing
      extract_lets len t1 t2
      have h1 : u.regsKept t1 mtrArea := .put rfl <| .put rfl <| .refl _ _
      have h2 : u.regsKept t2 mtrArea := by
        show u.regsKept (match u.slate.cur with | some (k, o) => t1.put MTR_SLPTR.PTR (k * 4096 + o) | none => t1) mtrArea
        split
        · exact .put rfl h1
        · exact h1
      exact .ite (fun _ => .put rfl h2) fun _ => h2
    have hcount (l : SlateSt) : s.regsKept (((s.modSlate (fun _ => l)).wrapInc MTR_SLCOUNT.COUNT).showRing) mtrArea :=
      .trans (.put rfl (.of_regs (.refl _ _) rfl)) (hshow _)
    cases h
    exact .ite (fun _ => .put rfl (hcount _)) fun _ => hcount _

theorem State.takeReports_regsKept (s : State) (rs : List (Option Int)) : s.regsKept (s.takeReports rs) mtrArea :=
  .foldl (fun u _ hu => hu.trans (u.takeReport_regsKept _ _)) (.refl _ _)

theorem State.gaspArmed_energyTaken (s : State) : s.energyTaken.mtr.gaspArmed = s.mtr.gaspArmed := by
  change (s.portsHere.foldl _ s).mtr.gaspArmed = s.mtr.gaspArmed
  exact State.foldl_same (fun u => u.mtr.gaspArmed) (fun _ _ => by rfl) _ _

/-- The last-gasp commit writes metering registers alone, disarms itself and leaves the levels of the sources (R402). -/
theorem State.lastGasp_disarms (s : State) (off : Nat) (rs : List (Option Int)) :
    s.regsKept (s.lastGasp off rs) mtrArea ∧ (s.lastGasp off rs).mtr.gaspArmed = false ∧ (s.lastGasp off rs).bat.levels = s.bat.levels := by
  unfold State.lastGasp
  extract_lets t t1 st r u
  have ht : s.regsKept t mtrArea := s.takeReports_regsKept _
  have hbat : t.bat.levels = s.bat.levels := congrArg BattenSt.levels ((State.takeReports_keeps ..).bat rfl)
  cases harmed : t.mtr.gaspArmed with
  | false => exact ⟨ht, harmed, hbat⟩
  | true =>
    rw [if_neg (by simp)]
    split
    · exact ⟨ht, rfl, hbat⟩
    · split
      next v hv =>
        have hu : t1.Keeps pSlate u := (State.modSlate_keeps ..).step rfl <| (State.framCopy_keeps ..).mono rfl
        have hv' : u.Keeps (pRegs ||| pSlate) v := State.ringWrite_keeps_of hv
        refine ⟨?_, ?_, ?_⟩
        · exact .still (State.fire_keeps ..) rfl <| .still (State.energyTaken_keeps v) rfl <|
            .trans (.still hu rfl (.of_regs ht rfl)) (State.ringWrite_regsKept hv)
        · rw [(State.fire_keeps ..).mtr rfl, State.gaspArmed_energyTaken, hv'.mtr rfl, hu.mtr rfl]
          rfl
        · rw [State.fire, State.levels_edge, (State.energyTaken_keeps v).bat rfl, hv'.bat rfl, hu.bat rfl]
          exact hbat
      · exact ⟨ht, rfl, hbat⟩

end Sys2Proof.Machine
end

section
/-!
SUPPORT. Islands that gain or lose their power, and the Host island with them (R29, R55, R379).
-/

namespace Sys2Proof.Machine

/-! ### Areas of registers at their reset values -/

theorem cellGet_filter (l : List (Nat × Word)) (q : Nat → Bool) (a : Nat) :
    cellGet (l.filter (fun x => q x.1)) a = if q a then cellGet l a else none := by
  induction l with
  | nil => simp [cellGet]
  | cons x l ih =>
    obtain ⟨b, w⟩ := x
    by_cases hb : q b = true
    · by_cases ha : a = b
      · simp [cellGet, hb, ha]
      · simp [cellGet, hb, ha, ih]
    · by_cases ha : a = b
      · subst ha
        simp [hb, ih]
      · simp [cellGet, hb, ha, ih]

theorem State.rd_dropRegs (s : State) {lo hi a : Nat} (h : within lo hi a = false) : (s.dropRegs lo hi).rd a = s.rd a := by
  have hc := cellGet_filter s.regs (fun b => !(decide (lo ≤ b) && decide (b < hi))) a
  rw [if_pos (by rw [within] at h; rw [h]; rfl)] at hc
  exact congrArg (fun x => x.getD (regReset a)) hc

/-! ### The mask of powered islands (R63) -/

theorem testBit_setBitTo (m k j : Nat) (b : Bool) : (setBitTo m k b).testBit j = if j = k then b else m.testBit j := by
  unfold setBitTo
  cases b with
  | true =>
    rw [if_pos rfl, Nat.testBit_or, Nat.one_shiftLeft, Nat.testBit_two_pow]
    by_cases h : j = k
    · simp [h]
    · simp [h, Ne.symm h]
  | false =>
    rw [if_neg (by simp)]
    by_cases hk : m.testBit k = true
    · rw [if_pos hk, Nat.one_shiftLeft]
      have hodd : m / 2 ^ k % 2 = 1 := by simpa [Nat.testBit_eq_decide_div_mod_eq] using hk
      have hm : m - 2 ^ k = 2 ^ k * (m / 2 ^ k - 1) + m % 2 ^ k := by
        have hle : 2 ^ k * 1 ≤ 2 ^ k * (m / 2 ^ k) := Nat.mul_le_mul_left _ (Nat.pos_of_ne_zero fun e => by rw [e] at hodd; cases hodd)
        have := Nat.div_add_mod m (2 ^ k)
        rw [Nat.mul_sub]
        omega
      rw [hm, Nat.testBit_two_pow_mul_add _ (Nat.mod_lt _ (Nat.two_pow_pos k))]
      have hm' := Nat.testBit_two_pow_mul_add (m / 2 ^ k) (Nat.mod_lt m (Nat.two_pow_pos k)) j
      rw [Nat.div_add_mod] at hm'
      rw [hm']
      rcases lt_trichotomy j k with h | h | h
      · simp [h, h.ne]
      · subst h
        simp [Nat.testBit_zero]
        omega
      · obtain ⟨i, rfl⟩ : ∃ i, j = k + (i + 1) := ⟨j - k - 1, by omega⟩
        have hsub : k + (i + 1) - k = i + 1 := by omega
        rw [if_neg (by omega), if_neg (by omega), if_neg (by omega), hsub, Nat.testBit_succ, Nat.testBit_succ]
        generalize m / 2 ^ k = q at hodd
        congr 1
        omega
    · rw [if_neg hk]
      by_cases h : j = k
      · subst h
        simpa using hk
      · simp [h]

theorem State.islandUp_maskBit (s : State) (k j : Nat) (b : Bool) (hj : j < 21) :
    (s.maskBit GLB_ISLPWR.ISL k b).islandUp j = if j = k then b else s.islandUp j := by
  rw [State.islandUp, State.maskBit, State.get_put_same _ _ _ (by decide), Nat.testBit_mod_two_pow, testBit_setBitTo,
    decide_eq_true (show j < GLB_ISLPWR.ISL.w from hj), Bool.true_and, State.islandUp]

/-! ### The Host island (R29, R55, R359, R379) -/

theorem State.regsKept.dropRegs {s t : State} {p : Nat → Bool} {lo hi : Nat} (h : s.regsKept t p) (hp : ∀ a, within lo hi a = true → p a = true) :
    s.regsKept (t.dropRegs lo hi) p := h.trans fun a ha => State.rd_dropRegs t (Bool.not_eq_true _ ▸ fun hw => by rw [hp a hw] at ha; cases ha)

/-- The registers that the loss of the Host island writes. -/
def hostArea (a : Nat) : Bool := a == GLB_ISLPWR.at || a == GLB_ISLHALT.at || within 0x8000 0x9000 a

theorem State.loseHost_regsKept (s : State) : s.regsKept s.loseHost hostArea := by
  have h : s.regsKept s.keepWake.dropHostOps hostArea := .of_regs (.refl _ _) ((State.keepWake_keeps s).regs rfl)
  have h' : s.regsKept { s.keepWake.dropHostOps with host := s.loseHost.host } hostArea := .of_regs h rfl
  exact .put rfl <| .put rfl <| h'.dropRegs fun a ha => by simp [hostArea, ha]

theorem State.islandUp_loseHost (s : State) : s.loseHost.islandUp islHost = false := by
  unfold State.loseHost
  extract_lets u t
  rw [State.islandUp, State.maskBit, State.get_put_ne _ _ _ _ (by decide), ← State.islandUp, State.islandUp_maskBit _ _ _ _ (by decide), if_pos rfl]

theorem State.host_loseHost (s : State) : s.loseHost.host = { HostSt.reset with addrPins := s.host.addrPins, ports := s.lostPorts } := by
  have h : s.keepWake.dropHostOps.host = s.host := ((State.dropHostOps_keeps ..).host rfl).trans ((State.keepWake_keeps s).host rfl)
  change { HostSt.reset with addrPins := s.keepWake.dropHostOps.host.addrPins, ports := s.keepWake.dropHostOps.lostPorts } = _
  rw [State.lostPorts, h, State.lostPorts]

theorem State.ridge_loseHost (s : State) : s.loseHost.ridge = s.dropHostOps.ridge := by
  have h : s.keepWake.ridge = s.ridge := (State.keepWake_keeps s).ridge rfl
  change (s.keepWake.dropHostOps).ridge = _
  rw [State.dropHostOps, State.modRidge, h]
  rfl

/-- The registers that grants and what follows from them write: HST_AUTH, the mark of a clamped grant, and the ledger (R183, R335, R363). -/
def grantsArea (a : Nat) : Bool :=
  unstageArea a || a == RDG_CNT1.at || a == TRS_STAT.at || a == TRS_SHARE.at || a == HST_AUTH.at || a == THA_STAT.at

theorem State.regsKept.cancelNamed {s t : State} {tag : Nat} (h : s.regsKept t grantsArea) : s.regsKept (t.cancelNamed tag) grantsArea :=
  .ite (fun _ => h.trans fun a ha => by
    simp only [grantsArea, Bool.or_eq_false_iff, beq_eq_false_iff_ne] at ha
    exact State.rd_cancelWhere _ _ ha.1.1.1.1.1 ha.1.1.1.1.2) fun _ => .still (State.fire_keeps ..) rfl <| .put rfl h

theorem State.regsKept.endDeficit {s t : State} (h : s.regsKept t grantsArea) : s.regsKept t.endDeficit grantsArea :=
  .foldl (fun _ _ hu => hu.of_regs rfl) <| .put rfl h

theorem State.regsKept.dropHolds {s t : State} {k : Nat} (h : s.regsKept t grantsArea) : s.regsKept (t.dropHolds k) grantsArea := by
  induction k generalizing t with
  | zero => exact h
  | succ k ih =>
    unfold State.dropHolds
    split
    · exact h
    · split
      · exact h
      · exact ih h.cancelNamed

theorem State.regsKept.resolveDeficit {s t : State} (h : s.regsKept t grantsArea) : s.regsKept t.resolveDeficit grantsArea := by
  refine .ite (fun _ => h.endDeficit) fun _ => .ite (fun _ => h.dropHolds.endDeficit) fun _ => .foldl (fun _ _ hu => .ite (fun _ => hu.of_regs rfl) fun _ => hu) ?_
  exact .ite (fun _ => h.dropHolds) fun _ => .still (State.fire_keeps ..) rfl <| .put rfl h.dropHolds

theorem State.loadGrants_regsKept (s : State) : s.regsKept s.loadGrants grantsArea := by
  unfold State.loadGrants
  extract_lets r c w clamp
  have h : s.regsKept ((s.wr HST_AUTH.at w).flag THA_STAT.AUTHCLAMP clamp) grantsArea := .put rfl <| .wr rfl <| .refl _ _
  refine .ite (fun _ => h) fun _ => .ite (fun _ => ?_) fun _ => ?_
  · exact .resolveDeficit <| .put rfl <| .put rfl h
  · exact .resolveDeficit <| .put rfl h

/-- A register of a record, beside those of the slices, whose illegal values raise a flag of their own (R11). -/
theorem State.regsKept.loadReg {s t : State} {p : Nat → Bool} {a : Nat} {v : Word} (ha : p a = true) (hb : ∀ k, blockOf a ≠ some (.slice k))
    (h : s.regsKept t p) : s.regsKept (t.loadReg a v) p := by
  unfold State.loadReg
  split
  · exact h
  · unfold State.flagReserved
    split
    · split
      · exact absurd ‹_› (hb _)
      · exact .of_regs (.wr ha h) rfl
    · exact .of_regs (.wr ha h) rfl

/-- The registers of the record HOSTCFG (R380). -/
def hostcfgArea (a : Nat) : Bool := (recRegs tyHOSTCFG instGlobal).any (fun x => x.1 == a)

theorem State.loadHostcfg_regsKept (s : State) (rs : List ThaRec) : s.regsKept (s.loadRec rs tyHOSTCFG instGlobal) hostcfgArea := by
  have hb : ∀ x ∈ recRegs tyHOSTCFG instGlobal, blockOf x.1 = some .hst := by decide
  refine List.foldlRecOn (motive := fun (u : State) => s.regsKept u hostcfgArea) _ _ (.refl _ _) fun u hu x hx => ?_
  have ha : hostcfgArea x.1 = true := List.any_eq_true.2 ⟨x, hx, beq_self_eq_true _⟩
  exact .loadReg ha (fun k e => by rw [hb x hx] at e; cases e) <| .wr ha hu

/-- The registers that the release of the Host island writes after its own address (R379). -/
def releaseHostTail (a : Nat) : Bool :=
  a == HST_CANID.at || a == HST_CEIL.at || a == OTP_STAT.at || a == HST_STAT.at || a == HST_CANSTAT.at || a == GLB_ISLPWR.at

theorem State.releaseHost_regsKept_addr (s : State) (addr : Nat) :
    (s.put HST_I2CADDR.ADDR (0x20 + addr)).regsKept (s.releaseHost addr) releaseHostTail :=
  .put rfl <| .put rfl <| .put rfl <| .put rfl <| .put rfl <| .put rfl <| .wr rfl <| .wr rfl <| .of_regs (.refl _ _) rfl

theorem State.releaseHost_regsKept (s : State) (addr : Nat) :
    s.regsKept (s.releaseHost addr) (fun a => a == HST_I2CADDR.at || releaseHostTail a) :=
  State.regsKept.trans (.put rfl <| .refl _ _) <| (s.releaseHost_regsKept_addr addr).mono fun _ ha => (Bool.or_eq_false_iff.1 ha).2

theorem State.islandUp_releaseHost (s : State) (addr : Nat) : (s.releaseHost addr).islandUp islHost = true :=
  (State.islandUp_maskBit _ _ _ _ (by decide)).trans (if_pos rfl)

theorem State.get_i2caddr_releaseHost (s : State) (addr : Nat) :
    (s.releaseHost addr).get HST_I2CADDR.ADDR = (0x20 + addr) % 2 ^ HST_I2CADDR.ADDR.w :=
  ((s.releaseHost_regsKept_addr addr).get rfl).trans (State.get_put_same _ _ _ (by decide))

end Sys2Proof.Machine
end

section
/-!
PROOF. The supplies (R35, R37, R44, R53, R55, R402, R513): power-fail and the thermal hold, the loss and the return of VDD, and VHV over and under its bounds.
-/

namespace Sys2Proof.Machine

theorem vddPowerFail_commits (s : State) (off : BitVec 10) (rs : List (Option Int)) :
    Next (.vddPowerFail off rs) s fun t =>
      t.rd GLB_SUPSTAT.at = GLB_SUPSTAT.PFAIL.set (s.rd GLB_SUPSTAT.at) 1 ∧
      0x102 ∈ t.bat.levels ∧ t.mtr.gaspArmed = false ∧
      s.regsKept t (fun a => a == GLB_SUPSTAT.at || within 0xB000 0xC000 a) ∧
      t = { s with regs := t.regs, bat := t.bat, mtr := t.mtr, slate := t.slate } := by
  let u := (s.raise GLB_SUPSTAT.PFAIL).level 0x102 true
  have hu : u.regs = (s.raise GLB_SUPSTAT.PFAIL).regs := (State.level_keeps ..).regs rfl
  obtain ⟨hregs, harmed, hlevels⟩ := u.lastGasp_disarms off.toNat rs
  refine .of_done rfl ⟨?_, ?_, harmed, ?_, ?_⟩
  · rw [hregs _ rfl, State.rd_of_regs hu]
    exact State.rd_wr_same ..
  · rw [hlevels]
    exact (State.mem_levels_level ..).2 rfl
  · exact State.regsKept.trans (.of_regs (.put rfl <| .refl _ _) hu) <| hregs.mono fun _ ha => (Bool.or_eq_false_iff.1 ha).2
  · exact ((State.lastGasp_keeps u ..).step (m := pRegs ||| pBat ||| pMtr ||| pSlate) rfl <| (State.level_keeps ..).step rfl <|
      (State.raise_keeps ..).step rfl <| .refl ..).eq_mix

theorem vddPowerFailRelease_arms (s : State) :
    Next .vddPowerFailRelease s fun t =>
      t.rd GLB_SUPSTAT.at = GLB_SUPSTAT.PFAIL.set (s.rd GLB_SUPSTAT.at) 0 ∧
      t.bat = (s.level 0x102 false).bat ∧ 0x102 ∉ t.bat.levels ∧
      s.regsBut t [GLB_SUPSTAT.at] ∧
      t = { s with regs := t.regs, bat := t.bat, mtr := { s.mtr with gaspArmed := true } } := by
  have hu : ((s.clear GLB_SUPSTAT.PFAIL).level 0x102 false).regs = (s.clear GLB_SUPSTAT.PFAIL).regs := (State.level_keeps ..).regs rfl
  refine .of_done rfl ⟨?_, ?_, ?_, fun a ha => ?_, ?_⟩
  · exact (State.rd_of_regs hu _).trans (State.rd_wr_same ..)
  · exact State.level_bat_of _ _ _ rfl rfl (State.rd_put_ne _ _ _ _ (by decide))
  · exact fun h => absurd ((State.mem_levels_level ..).1 h) (by decide)
  · exact (State.rd_of_regs hu a).trans (State.rd_put_ne _ _ _ _ (by simpa using ha))
  · rw [State.level_eq]
    rfl

theorem vhvOvervoltageRelease_drops (s : State) :
    Next .vhvOvervoltageRelease s fun t =>
      t.bat = (s.level 0x101 false).bat ∧ 0x101 ∉ t.bat.levels ∧ t = { s with bat := t.bat } :=
  .of_done rfl ⟨rfl, fun h => absurd ((State.mem_levels_level ..).1 h) (by decide), State.level_eq ..⟩

theorem thermalWarning_follows (s : State) (on : Bool) (hold : s.holding = false) :
    Next (.thermalWarning on) s fun t =>
      (0x104 ∈ t.bat.levels ↔ on = true) ∧ t = { s with bat := (s.level 0x104 on (b2n on)).bat } := by
  have h : s.thermalLevel on = s.level 0x104 on (b2n on) := by rw [State.thermalLevel, hold]; rfl
  exact .of_done (congrArg done h) ⟨State.mem_levels_level .., State.level_eq ..⟩

theorem thermalWarning_held (s : State) (on : Bool) (hold : s.holding = true) :
    Next (.thermalWarning on) s fun t =>
      (0x104 ∈ t.bat.levels ↔ on = true) ∧ t.bat.edges = s.bat.edges ∧
      ((0x104 ∈ s.bat.levels ↔ on = true) → t = s) ∧
      (¬ (0x104 ∈ s.bat.levels ↔ on = true) → t.soffit.warned.length = s.soffit.warned.length + 1) ∧
      t = { s with bat := { s.bat with levels := t.bat.levels }, soffit := { s.soffit with warned := t.soffit.warned } } := by
  by_cases h : (0x104 ∈ s.bat.levels ↔ on = true)
  · have hs : s.thermalLevel on = s := by
      have hc : s.bat.levels.contains 0x104 = on := by rw [Bool.eq_iff_iff, List.contains_iff_mem, h]
      rw [State.thermalLevel, if_neg (by rw [hc]; simp), State.level, hc]
      cases on <;> rfl
    exact .of_done (congrArg done hs) ⟨h, rfl, fun _ => rfl, fun hn => absurd h hn, rfl⟩
  · refine .of_done rfl ?_
    have hc : (s.holding && s.bat.levels.contains 0x104 != on) = true := by
      rw [hold, Bool.true_and, bne_iff_ne, ne_eq, Bool.eq_iff_iff, List.contains_iff_mem]
      exact h
    rw [State.thermalLevel, if_pos hc]
    refine ⟨?_, rfl, fun g => absurd g h, fun _ => List.length_append .., rfl⟩
    change 0x104 ∈ (if on then _ else _) ↔ _
    cases on <;> simp

theorem thermalRestart_presents (s : State) (h : s.boot.thermal = true) :
    Next .thermalRestart s fun t =>
      t.get SOF_DBSTAT.DBRD0 = 1 ∧ t.get SOF_DBSTAT.DBRD1 = 1 ∧
      s.regsBut t [SOF_DBSTAT.at] ∧
      t = { s with regs := t.regs, boot := { s.boot with rd := (s.boot.rd.set 0 1).set 1 1, thermal := false } } := by
  refine .of_done (if_pos h) ⟨?_, ?_, fun a ha => ?_, rfl⟩
  · exact (State.get_put_apart _ _ rfl).trans (State.get_put_same _ _ _ (by decide))
  · exact State.get_put_same _ _ _ (by decide)
  · have ha : a ≠ SOF_DBSTAT.at := by simpa using ha
    exact (State.rd_put_ne _ _ _ _ ha).trans (State.rd_put_ne _ _ _ _ ha)

theorem State.setRd_regsKept (s : State) (n x : Nat) : s.regsKept (s.setRd n x) (fun a => a == SOF_DBSTAT.at) := by
  refine .put ?_ (.of_regs (.refl _ _) rfl)
  split <;> rfl

theorem depletionRdOff_releases (s : State) (a b : Nat) (h : s.boot.rd = [a, b]) :
    Next .depletionRdOff s fun t =>
      t.boot.rd = [if a = 2 then 3 else a, if b = 2 then 3 else b] ∧
      (a = 2 → t.get SOF_DBSTAT.DBRD0 = 0) ∧ (b = 2 → t.get SOF_DBSTAT.DBRD1 = 0) ∧
      s.regsBut t [SOF_DBSTAT.at] ∧
      t = { s with regs := t.regs, boot := { s.boot with rd := t.boot.rd } } := by
  let u := if a = 2 then s.setRd 0 3 else s
  let v := if b = 2 then u.setRd 1 3 else u
  have hv : exec .depletionRdOff s = done v := by simp only [exec, execDepletionRdOff, List.foldl, h]; rfl
  have hrd0 (w : State) : (w.setRd 0 3).get SOF_DBSTAT.DBRD0 = 0 := State.get_put_same _ _ _ (by decide)
  have hrd1 (w : State) : (w.setRd 1 3).get SOF_DBSTAT.DBRD1 = 0 := State.get_put_same _ _ _ (by decide)
  have hkeep (w : State) : (w.setRd 1 3).get SOF_DBSTAT.DBRD0 = w.get SOF_DBSTAT.DBRD0 := State.get_put_apart _ _ rfl
  have hu : s.regsKept u (fun a => a == SOF_DBSTAT.at) := .ite (fun _ => s.setRd_regsKept _ _) fun _ => .refl _ _
  have hregs : s.regsKept v (fun a => a == SOF_DBSTAT.at) := .ite (fun _ => hu.trans (u.setRd_regsKept _ _)) fun _ => hu
  refine .of_done hv ⟨?_, fun ha => ?_, fun hb => ?_, fun x hx => hregs x (by simpa using hx), ?_⟩
  · by_cases ha : a = 2 <;> by_cases hb : b = 2 <;> simp [u, v, ha, hb, h, State.setRd, State.flag, State.put, State.wr]
  · have hu0 : u.get SOF_DBSTAT.DBRD0 = 0 := by rw [show u = s.setRd 0 3 from if_pos ha, hrd0]
    by_cases hb : b = 2
    · rw [show v = u.setRd 1 3 from if_pos hb, hkeep, hu0]
    · rwa [show v = u from if_neg hb]
  · rw [show v = u.setRd 1 3 from if_pos hb, hrd1]
  · by_cases ha : a = 2 <;> by_cases hb : b = 2 <;> simp only [u, v, ha, hb, if_true, if_false] <;> rfl

theorem vddLoss_takes_host (s : State) (hv : s.bit GLB_SUPSTAT.VHVOK = true) (hh : s.islandUp islHost = true) :
    Next .vddLoss s fun t =>
      t.get GLB_SUPSTAT.VDDOK = 0 ∧ t.get GLB_SUPSTAT.FEED = 1 ∧ t.islandUp islHost = false ∧
      t.host = { HostSt.reset with addrPins := s.host.addrPins, ports := s.lostPorts } ∧
      t.get SOF_RESET_LAST.CODE = 0x08 ∧ t.get SOF_RESET_LAST.ISLAND = 18 ∧
      s.regsKept t (fun a => a == GLB_SUPSTAT.at || a == GLB_ISLPWR.at || a == GLB_ISLHALT.at || within 0x8000 0x9000 a ||
        a == SOF_RESET_CAUSE.at || a == SOF_RESET_LAST.at || a == SOF_RESET_TIME.at || a == MTR_STAT.at) ∧
      t.ridge = s.dropHostOps.ridge ∧
      t = { s with regs := t.regs, staged := t.staged, freeCtr := t.freeCtr, host := t.host, ridge := t.ridge, bat := t.bat, soffit := t.soffit, slate := t.slate,
                   boot := t.boot } := by
  let c := s.clear GLB_SUPSTAT.VDDOK
  let l := c.loseHost
  let u := l.cause 0x08 islHost
  have hexec : exec .vddLoss s = done u.followFeed := by
    change (if _ then _ else _) = _
    rw [if_pos hv, if_pos hh]
  have hl : c.regsKept l hostArea := c.loseHost_regsKept
  have hu : l.regsKept u causeArea := l.cause_regsKept _ _
  have hf : u.regsKept u.followFeed (fun a => a == GLB_SUPSTAT.at) := u.followFeed_regsKept
  have hsup : u.rd GLB_SUPSTAT.at = c.rd GLB_SUPSTAT.at := (hu _ rfl).trans (hl _ rfl)
  have hvdd : u.get GLB_SUPSTAT.VDDOK = 0 := (State.get_of_rd (f := GLB_SUPSTAT.VDDOK) hsup).trans (State.get_clear _ (by decide))
  have hvhv : u.bit GLB_SUPSTAT.VHVOK = true := by
    rw [State.bit_of_rd (f := GLB_SUPSTAT.VHVOK) hsup, ← hv]
    exact State.bit_put_apart _ _ rfl
  obtain ⟨hcode, hisland⟩ := l.get_last_cause (c := 0x08) (i := islHost) (by decide) (by decide)
  have hhost (w : State) (k : l.Keeps (pRegs ||| pFreeCtr ||| pBat ||| pSlate ||| pBoot) w) : w.host = l.host ∧ w.ridge = l.ridge := ⟨k.host rfl, k.ridge rfl⟩
  obtain ⟨hhost, hridge⟩ := hhost u.followFeed ((State.followFeed_keeps u).step rfl <| (State.cause_keeps ..).step rfl <| .refl ..)
  refine .of_done hexec ⟨?_, ?_, ?_, ?_, ?_, ?_, ?_, ?_, ?_⟩
  · rw [State.get_followFeed _ (.inr rfl), hvdd]
  · rw [State.get_feed_followFeed, State.feedNow, State.bit, hvdd, hvhv]
    rfl
  · rw [hf.islandUp rfl, hu.islandUp rfl, State.islandUp_loseHost]
  · rw [hhost, State.host_loseHost]
    rfl
  · rw [hf.get rfl, hcode]
  · exact (hf.get rfl).trans hisland
  · intro a ha
    simp only [Bool.or_eq_false_iff] at ha
    obtain ⟨⟨⟨⟨⟨⟨⟨hsupp, hpwr⟩, hhalt⟩, hown⟩, hcause⟩, hlast⟩, htime⟩, hmtr⟩ := ha
    rw [hf a hsupp, hu a (by simp [causeArea, hcause, hlast, htime, hmtr]), hl a (by simp [hostArea, hpwr, hhalt, hown])]
    exact State.rd_put_ne _ _ _ _ (by simpa using hsupp)
  · rw [hridge, State.ridge_loseHost]
    rfl
  · exact ((State.followFeed_keeps u).step (m := pRegs ||| pStaged ||| pFreeCtr ||| pHost ||| pRidge ||| pBat ||| pSoffit ||| pSlate ||| pBoot) rfl <|
      (State.cause_keeps ..).step rfl <| (State.loseHost_keeps ..).step rfl <| (State.clear_keeps ..).step rfl <| .refl ..).eq_mix

/-- The registers that the Host island's return writes after its release: its record, its CAN state and the grants (R379). -/
def hostBackArea (a : Nat) : Bool := hostcfgArea a || a == HST_CANSTAT.at || grantsArea a

theorem State.hostBack_regsKept (s : State) : (s.releaseHost s.host.addrPins).regsKept s.hostBack hostBackArea := by
  unfold State.hostBack
  extract_lets t c
  have hc : t.regsKept c hostBackArea := (t.loadHostcfg_regsKept _).mono fun a ha => by
    simp only [hostBackArea, Bool.or_eq_false_iff] at ha
    exact ha.1.1
  have hgrants (u : State) : u.regsKept u.loadGrants hostBackArea := u.loadGrants_regsKept.mono fun a ha => (Bool.or_eq_false_iff.1 ha).2
  exact .ite (fun _ => .trans (.ite (fun _ => .put (by decide) hc) fun _ => hc) (hgrants _)) fun _ => .wr (by decide) <| .refl _ _

theorem State.host_hostBack (s : State) : s.hostBack.host = { HostSt.reset with addrPins := s.host.addrPins } := by
  unfold State.hostBack
  extract_lets t c
  have hc : t.Keeps (pRegs ||| pStaged) c := State.loadRec_keeps ..
  split
  · rw [(State.loadGrants_keeps _).host rfl]
    split
    · exact (((State.put_keeps ..).step rfl hc).host rfl).trans rfl
    · exact hc.host rfl
  · exact (State.bootGrants_keeps t).host rfl

theorem vddReturn_releases_host (s : State) (hstage : 4 ≤ s.get GLB_BOOTSTAT.STAGE) (hh : s.islandUp islHost = false) (hr : s.upd.relay = none) :
    Next .vddReturn s fun t =>
      t.get GLB_SUPSTAT.VDDOK = 1 ∧ t.get GLB_SUPSTAT.FEED = 0 ∧ t.islandUp islHost = true ∧
      t.host.addrPins = s.host.addrPins ∧ t.host.orders = [] ∧ t.host.txns = [] ∧
      t.get HST_I2CADDR.ADDR = (0x20 + s.host.addrPins) % 2 ^ HST_I2CADDR.ADDR.w ∧
      t.slices = s.slices ∧ t.otp = s.otp ∧ t.upd = s.upd ∧ t.mtr = s.mtr ∧ t.pending = s.pending := by
  let u := (s.raise GLB_SUPSTAT.VDDOK).followFeed
  let r := u.releaseHost u.host.addrPins
  have hexec : exec .vddReturn s = done u.hostBack := congrArg done (if_pos ⟨hstage, by simp [hh], by rw [hr]; rfl⟩)
  have hfeed : (s.raise GLB_SUPSTAT.VDDOK).Keeps (pRegs ||| pBat) u := State.followFeed_keeps _
  have hhost : u.host = s.host := hfeed.host rfl
  have hback : r.regsKept u.hostBack hostBackArea := u.hostBack_regsKept
  have hrel : u.regsKept r (fun a => a == HST_I2CADDR.at || releaseHostTail a) := u.releaseHost_regsKept _
  have hsup : u.hostBack.rd GLB_SUPSTAT.at = u.rd GLB_SUPSTAT.at := (hback _ (by decide)).trans (hrel _ rfl)
  have hvdd : (s.raise GLB_SUPSTAT.VDDOK).get GLB_SUPSTAT.VDDOK = 1 := State.get_raise _ (by decide) (by decide)
  have hkeeps : s.Keeps (pRegs ||| pStaged ||| pHost ||| pRidge ||| pBat ||| pPorts) u.hostBack :=
    (State.hostBack_keeps u).step rfl <| hfeed.step rfl <| (State.raise_keeps ..).step rfl <| .refl ..
  have hhost' : u.hostBack.host = { HostSt.reset with addrPins := s.host.addrPins } := by
    rw [State.host_hostBack, hhost]
  refine .of_done hexec ⟨?_, ?_, ?_, ?_, ?_, ?_, ?_, hkeeps.slices rfl, hkeeps.otp rfl, hkeeps.upd rfl, hkeeps.mtr rfl, hkeeps.pending rfl⟩
  · rw [State.get_of_rd (f := GLB_SUPSTAT.VDDOK) hsup, State.get_followFeed _ (.inr rfl), hvdd]
  · rw [State.get_of_rd (f := GLB_SUPSTAT.FEED) hsup, State.get_feed_followFeed, State.feedNow, State.bit_eq_true hvdd]
    rfl
  · rw [hback.islandUp (by decide), State.islandUp_releaseHost]
  · rw [hhost']
  · rw [hhost']
    rfl
  · rw [hhost']
    rfl
  · rw [hback.get (by decide), State.get_i2caddr_releaseHost, hhost]

/-- The supply's own registers. -/
def supplyArea (a : Nat) : Bool := a == GLB_SUPSTAT.at || a == OTP_STAT.at

/-- What the policy of a port asks of the device does not lie in the supply's registers. -/
theorem State.port_of_supply {s t : State} (h : s.regsKept t supplyArea) (n : Fin 16) :
    t.portUp n = s.portUp n ∧ t.halted n.val = s.halted n.val ∧ t.hasContract n = s.hasContract n ∧ t.cc n = s.cc n := by
  have hown {d lo w : Nat} : t.get ⟨portBase n.val + d, lo, w⟩ = s.get ⟨portBase n.val + d, lo, w⟩ :=
    h.get (by simp [supplyArea, portAddr_ne n (show GLB_SUPSTAT.at < 0x10000 by decide), portAddr_ne n (show OTP_STAT.at < 0x10000 by decide)])
  refine ⟨State.portUp_of_rd (h _ rfl) (h _ rfl), ?_, ?_, hown⟩
  · rw [State.halted, State.halted, h.get (f := GLB_ISLHALT.ISL) rfl]
  · rw [State.hasContract, State.hasContract, hown]

/-! A port that leaves Disabled may report an attach, an edge; no level source of the device changes. -/

theorem State.levels_enterUnattached (s : State) (n : Fin 16) : (s.enterUnattached n).bat.levels = s.bat.levels := by
  have hcand (u : State) : (u.candidate n).bat.levels = u.bat.levels := by
    unfold State.candidate
    split
    · exact (State.levels_edge ..).trans (congrArg BattenSt.levels (((State.setCc_keeps ..).step rfl (State.stopCheck_keeps u n)).bat rfl))
    · rfl
  unfold State.enterUnattached
  extract_lets t1 t2 t3
  have h2 : s.Keeps (pRegs ||| pStaged ||| pPorts ||| pBoot) t2 := (State.modPort_keeps ..).step rfl <| (State.clear_keeps ..).step rfl <|
    (State.clear_keeps ..).step rfl <| (State.takeStaged_keeps ..).step rfl <| (State.takeStaged_keeps ..).step rfl <| .refl ..
  have h3 : s.Keeps (pRegs ||| pStaged ||| pPorts ||| pBoot) t3 := .ite (fun _ => (State.driveRd_keeps ..).step rfl <| (State.setCc_keeps ..).step rfl h2)
    fun _ => (State.clearCable_keeps ..).step rfl <| (State.wr_keeps ..).step rfl <| (State.vconnOff_keeps ..).step rfl <| (State.showRp_keeps ..).step rfl <|
      (State.setCc_keeps ..).step rfl h2
  split
  · rw [h3.bat rfl]
  · rw [hcand, h3.bat rfl]

theorem State.levels_resumeDrive (s : State) : s.resumeDrive.bat.levels = s.bat.levels := by
  have hpush (u : State) (n : Fin 16) : (u.resumePush n).bat = u.bat := by
    unfold State.resumePush
    split
    · exact ((State.startPush_keeps ..).step (m := pRegs ||| pStaged ||| pPorts ||| pSlices) rfl <| (State.sinkClose_keeps u n _).step rfl <| .refl ..).bat rfl
    · rfl
  have hleave (u : State) (n : Fin 16) : (if u.ports[n].released then u.leaveDisabled n else u).bat.levels = u.bat.levels := by
    split
    · unfold State.leaveDisabled
      split
      · exact u.levels_enterUnattached n
      · rfl
    · rfl
  rw [State.resumeDrive_eq, State.foldl_same (fun u => u.bat.levels) (fun u n => congrArg BattenSt.levels (hpush u n))]
  rw [State.vhvReturn, (State.followWait_keeps _).bat rfl, State.foldl_same (fun u => u.bat.levels) hleave]

theorem vhvOvervoltage_stops_ports (s : State) :
    Next .vhvOvervoltage s fun t =>
      t.get GLB_SUPSTAT.VHVOV = 1 ∧ 0x101 ∈ t.bat.levels ∧ t.boot.ovBar = true ∧ t.soffit.vhvOk = false ∧
      (∀ n : Fin 16, s.portUp n = true → s.halted n.val = false → s.hasContract n = true → s.cc n ≠ ccDisabled → t.cc n = ccErrorRecovery) ∧
      t.otp = s.otp ∧ t.upd = s.upd ∧ t.mtr = s.mtr ∧ t.slate = s.slate ∧ t.host = s.host ∧ t.pending = s.pending := by
  let l := (s.raise GLB_SUPSTAT.VHVOV).level 0x101 true
  let u := (l.modBoot (fun b => { b with ovBar := true })).followVhv
  let t := s.reportAll u.vhvGone
  have hlevel : (s.raise GLB_SUPSTAT.VHVOV).Keeps pBat l := State.level_keeps ..
  have hsu : s.regsKept u supplyArea := .of_regs (.put rfl <| .refl _ _) (hlevel.regs rfl)
  have hgone : u.ActsOnPorts u.vhvGone := u.vhvGone_actsOnPorts
  have hvt : u.vhvGone.Keeps pPorts t := State.reportAll_keeps ..
  have hut : u.Keeps (pRegs ||| pFreeCtr ||| pRidge ||| pPorts ||| pSlices ||| pJtl ||| pBoot) t := hvt.step rfl <| State.vhvGone_keeps u
  have hst : s.Keeps (pRegs ||| pFreeCtr ||| pRidge ||| pBat ||| pPorts ||| pSlices ||| pJtl ||| pSoffit ||| pBoot) t :=
    hut.step rfl <| (State.followVhv_keeps _).step rfl <| (State.modBoot_keeps ..).step rfl <| hlevel.step rfl <| (State.raise_keeps ..).step rfl <| .refl ..
  refine .of_done rfl ⟨?_, ?_, ?_, ?_, fun n hup hh hc hd => ?_, hst.otp rfl, hst.upd rfl, hst.mtr rfl, hst.slate rfl, hst.host rfl, hst.pending rfl⟩
  · have hrd : t.rd GLB_SUPSTAT.at = (s.raise GLB_SUPSTAT.VHVOV).rd GLB_SUPSTAT.at := by
      rw [State.rd_of_regs (hvt.regs rfl), hgone.rd (by decide) (by decide) (by decide)]
      exact State.rd_of_regs (hlevel.regs rfl) _
    exact (State.get_of_rd (f := GLB_SUPSTAT.VHVOV) hrd).trans (State.get_raise _ (by decide) (by decide))
  · rw [hut.bat rfl]
    exact (State.mem_levels_level ..).2 rfl
  · rw [hvt.boot rfl, hgone.ovBar]
    rfl
  · rw [hut.soffit rfl]
    exact Bool.and_false _
  · obtain ⟨hup', hh', hc', hd'⟩ := State.port_of_supply hsu n
    exact (State.get_of_rd (State.rd_of_regs (hvt.regs rfl) _)).trans (State.cc_vhvGone (hup'.trans hup) (hh'.trans hh) (hc'.trans hc) (hd' ▸ hd))

theorem vhvOvRecovery_resumes (s : State) (hlevel : 0x101 ∉ s.bat.levels) (hbar : s.boot.ovBar = true) (hok : s.bit GLB_SUPSTAT.VHVOK = true) :
    Next .vhvOvRecovery s fun t =>
      t.get GLB_SUPSTAT.VHVOV = 0 ∧ t.boot.ovBar = false ∧ t.soffit.vhvOk = true ∧
      (∀ n : Fin 16, s.ports[n].released = true → s.ports[n].en = true → s.portUp n = true → s.cc n = ccDisabled →
        s.isSource n = true → s.bit (PCC_CTRL.DISABLE n) = false → s.bit (PCC_STATUS.LATCHED n) = false →
        t.cc n = ccUnattachedSrc ∨ t.cc n = ccAttachWaitSrc) ∧
      t.otp = s.otp ∧ t.upd = s.upd ∧ t.mtr = s.mtr ∧ t.slate = s.slate ∧ t.host = s.host ∧ t.ridge = s.ridge ∧ t.pending = s.pending := by
  let c := (s.clear GLB_SUPSTAT.VHVOV).modBoot (fun b => { b with ovBar := false })
  let u := c.followVhv
  let t := s.reportAll u.resumeDrive
  have hexec : exec .vhvOvRecovery s = doneAll s u.resumeDrive := if_neg (by simp [hlevel, hbar, hok])
  have hsu : s.regsKept u supplyArea := .of_regs (.put rfl <| .refl _ _) rfl
  have hresume : u.ActsOnPorts u.resumeDrive := u.resumeDrive_actsOnPorts
  have hvt : u.resumeDrive.Keeps pPorts t := State.reportAll_keeps ..
  have hut : u.Keeps (pRegs ||| pStaged ||| pBat ||| pPorts ||| pSlices ||| pBoot) t := hvt.step rfl <| State.resumeDrive_keeps u
  have hst : s.Keeps (pRegs ||| pStaged ||| pBat ||| pPorts ||| pSlices ||| pSoffit ||| pBoot) t :=
    hut.step rfl <| (State.followVhv_keeps _).step rfl <| (State.modBoot_keeps ..).step rfl <| (State.clear_keeps ..).step rfl <| .refl ..
  have hvhv : c.bit GLB_SUPSTAT.VHVOK = true := (State.bit_put_apart s 0 rfl).trans hok
  refine .of_done hexec ⟨?_, ?_, ?_, fun n hrel hen hup hd hsrc hdis hlat => ?_, hst.otp rfl, hst.upd rfl, hst.mtr rfl, hst.slate rfl, hst.host rfl,
    hst.ridge rfl, hst.pending rfl⟩
  · have hrd : t.rd GLB_SUPSTAT.at = (s.clear GLB_SUPSTAT.VHVOV).rd GLB_SUPSTAT.at := by
      rw [State.rd_of_regs (hvt.regs rfl), hresume.rd (by decide) (by decide) (by decide)]
      rfl
    exact (State.get_of_rd (f := GLB_SUPSTAT.VHVOV) hrd).trans (State.get_clear _ (by decide))
  · rw [hvt.boot rfl, hresume.ovBar]
    rfl
  · rw [hut.soffit rfl]
    exact congrArg (· && true) hvhv
  · obtain ⟨hup', -, -, hd'⟩ := State.port_of_supply hsu n
    have hown (d lo w : Nat) : u.bit ⟨portBase n.val + d, lo, w⟩ = s.bit ⟨portBase n.val + d, lo, w⟩ :=
      hsu.bit (by simp [supplyArea, portAddr_ne n (show GLB_SUPSTAT.at < 0x10000 by decide), portAddr_ne n (show OTP_STAT.at < 0x10000 by decide)])
    have hstay : u.mustStayDown n = false := by
      have h1 : u.bit (PCC_CTRL.DISABLE n) = false := (hown ..).trans hdis
      have h2 : u.bit (PCC_STATUS.LATCHED n) = false := (hown ..).trans hlat
      have h3 : u.bit GLB_SUPSTAT.VHVOK = true := hvhv
      have h4 : u.ports[n].en = true := hen
      rw [State.mustStayDown, h1, h2, h3, h4]
      simp
    have hcc : t.cc n = u.resumeDrive.cc n := State.get_of_rd (State.rd_of_regs (hvt.regs rfl) _)
    rw [hcc]
    exact State.cc_resumeDrive hrel (hup'.trans hup) (hd'.trans hd) hstay hsrc

theorem vhvUvlo_stops_ports (s : State) (hvdd : s.bit GLB_SUPSTAT.VDDOK = true) :
    Next .vhvUvlo s fun t =>
      t.get GLB_SUPSTAT.VHVOK = 0 ∧ t.get OTP_STAT.VHVPGM = 0 ∧ 0x103 ∈ t.bat.levels ∧ t.soffit.vhvOk = false ∧
      (∀ n : Fin 16, s.portUp n = true → s.halted n.val = false → s.hasContract n = true → s.ports[n].rom = false → s.cc n ≠ ccDisabled →
        t.cc n = ccErrorRecovery) ∧
      t.otp = s.otp ∧ t.upd = s.upd ∧ t.mtr = s.mtr ∧ t.slate = s.slate ∧ t.host = s.host ∧ t.pending = s.pending := by
  let c := (s.clear GLB_SUPSTAT.VHVOK).clear OTP_STAT.VHVPGM
  let l := c.level 0x103 true
  let u := l.followVhv
  let w := u.vhvLow.followFeed
  let t := s.reportAll w
  have hlevel : c.Keeps pBat l := State.level_keeps ..
  have hcu (a : Nat) : u.rd a = c.rd a := State.rd_of_regs (hlevel.regs rfl) a
  have hsu : s.regsKept u supplyArea := .of_regs (.put rfl <| .put rfl <| .refl _ _) (hlevel.regs rfl)
  have hlow : u.ActsOnPorts u.vhvLow := u.vhvLow_actsOnPorts
  have hsup : u.vhvLow.rd GLB_SUPSTAT.at = c.rd GLB_SUPSTAT.at := (hlow.rd (by decide) (by decide) (by decide)).trans (hcu _)
  have hotp : u.vhvLow.rd OTP_STAT.at = c.rd OTP_STAT.at := (hlow.rd (by decide) (by decide) (by decide)).trans (hcu _)
  have hoff : c.get GLB_SUPSTAT.VHVOK = 0 := (State.get_put_ne _ _ _ _ (by decide)).trans (State.get_clear s (by decide))
  have hexec : exec .vhvUvlo s = doneAll s w := by
    have h : u.vhvLow.bit GLB_SUPSTAT.VDDOK = true := by
      rw [State.bit_of_rd (f := GLB_SUPSTAT.VDDOK) hsup, ← hvdd]
      exact State.bit_of_get ((State.get_put_ne _ _ _ _ (by decide)).trans (State.get_put_apart s 0 rfl))
    exact congrArg (doneAll s) (if_pos (by rw [h, Bool.true_or]))
  have hfeed : u.vhvLow.regsKept w (fun a => a == GLB_SUPSTAT.at) := State.followFeed_regsKept _
  have hvt : w.Keeps pPorts t := State.reportAll_keeps ..
  have hwt (a : Nat) : t.rd a = w.rd a := State.rd_of_regs (hvt.regs rfl) a
  have hst : s.Keeps (pRegs ||| pFreeCtr ||| pRidge ||| pBat ||| pPorts ||| pSlices ||| pJtl ||| pSoffit ||| pBoot) t :=
    hvt.step rfl <| (State.followFeed_keeps _).step rfl <| (State.vhvLow_keeps u).step rfl <| (State.followVhv_keeps _).step rfl <| hlevel.step rfl <|
      (State.clear_keeps ..).step rfl <| (State.clear_keeps ..).step rfl <| .refl ..
  have hvhv : u.soffit.vhvOk = false := by
    have h : l.bit GLB_SUPSTAT.VHVOK = false := by
      have hl : l.get GLB_SUPSTAT.VHVOK = 0 := (State.get_of_rd (f := GLB_SUPSTAT.VHVOK) (hcu _)).trans hoff
      rw [State.bit, hl]
      rfl
    exact congrArg (· && _) h
  refine .of_done hexec ⟨?_, ?_, ?_, ?_, fun n hup hh hc hrom hd => ?_, hst.otp rfl, hst.upd rfl, hst.mtr rfl, hst.slate rfl, hst.host rfl, hst.pending rfl⟩
  · rw [State.get_of_rd (f := GLB_SUPSTAT.VHVOK) (hwt _), State.get_followFeed _ (.inr rfl), State.get_of_rd (f := GLB_SUPSTAT.VHVOK) hsup, hoff]
  · rw [State.get_of_rd (f := OTP_STAT.VHVPGM) (hwt _), State.get_followFeed _ (.inl (by decide)), State.get_of_rd (f := OTP_STAT.VHVPGM) hotp]
    exact State.get_clear _ (by decide)
  · rw [hvt.bat rfl, State.levels_followFeed, (State.vhvLow_keeps u).bat rfl]
    exact (State.mem_levels_level ..).2 rfl
  · rw [hvt.soffit rfl, (State.followFeed_keeps _).soffit rfl, (State.vhvLow_keeps u).soffit rfl, hvhv]
  · obtain ⟨hup', hh', hc', hd'⟩ := State.port_of_supply hsu n
    have hports : u.ports = s.ports := hlevel.ports rfl
    have hcc : t.cc n = u.vhvLow.cc n := (State.get_of_rd (hwt _)).trans (hfeed.get (beq_eq_false_iff_ne.2 (portAddr_ne n (by decide))))
    rw [hcc]
    exact State.cc_vhvLow hvhv (hup'.trans hup) (hh'.trans hh) (hc'.trans hc) (by rw [hports, hrom]) (hd' ▸ hd)

theorem vhvValid_resumes (s : State) (pgm : Bool) :
    Next (.vhvValid pgm) s fun t =>
      t.get GLB_SUPSTAT.VHVOK = 1 ∧ t.bit OTP_STAT.VHVPGM = pgm ∧ 0x103 ∉ t.bat.levels ∧ t.soffit.vhvOk = !s.boot.ovBar ∧
      t.otp = s.otp ∧ t.upd = s.upd ∧ t.mtr = s.mtr ∧ t.slate = s.slate ∧ t.host = s.host ∧ t.ridge = s.ridge ∧ t.pending = s.pending := by
  let c := (s.raise GLB_SUPSTAT.VHVOK).flag OTP_STAT.VHVPGM pgm
  let l := c.level 0x103 false
  let u := l.followVhv
  let w := u.resumeDrive.followFeed
  let t := s.reportAll w
  have hlevel : c.Keeps pBat l := State.level_keeps ..
  have hcu (a : Nat) : u.rd a = c.rd a := State.rd_of_regs (hlevel.regs rfl) a
  have hresume : u.ActsOnPorts u.resumeDrive := u.resumeDrive_actsOnPorts
  have hon : c.get GLB_SUPSTAT.VHVOK = 1 := (State.get_put_ne _ _ _ _ (by decide)).trans (State.get_raise s (by decide) (by decide))
  have hvt : w.Keeps pPorts t := State.reportAll_keeps ..
  have hwt (a : Nat) : t.rd a = w.rd a := State.rd_of_regs (hvt.regs rfl) a
  have hst : s.Keeps (pRegs ||| pStaged ||| pBat ||| pPorts ||| pSlices ||| pSoffit ||| pBoot) t :=
    hvt.step rfl <| (State.followFeed_keeps _).step rfl <| (State.resumeDrive_keeps u).step rfl <| (State.followVhv_keeps _).step rfl <| hlevel.step rfl <|
      (State.flag_keeps ..).step rfl <| (State.raise_keeps ..).step rfl <| .refl ..
  refine .of_done rfl ⟨?_, ?_, ?_, ?_, hst.otp rfl, hst.upd rfl, hst.mtr rfl, hst.slate rfl, hst.host rfl, hst.ridge rfl, hst.pending rfl⟩
  · rw [State.get_of_rd (f := GLB_SUPSTAT.VHVOK) (hwt _), State.get_followFeed _ (.inr rfl),
      State.get_of_rd (f := GLB_SUPSTAT.VHVOK) ((hresume.rd (by decide) (by decide) (by decide)).trans (hcu _)), hon]
  · rw [State.bit_of_rd (f := OTP_STAT.VHVPGM) (hwt _), State.bit_of_get (State.get_followFeed _ (.inl (by decide))),
      State.bit_of_rd (f := OTP_STAT.VHVPGM) ((hresume.rd (by decide) (by decide) (by decide)).trans (hcu _))]
    exact State.bit_flag _ _ (by decide) (by decide)
  · rw [hvt.bat rfl, State.levels_followFeed, State.levels_resumeDrive]
    exact fun h => absurd ((State.mem_levels_level ..).1 h) (by decide)
  · rw [hvt.soffit rfl, (State.followFeed_keeps _).soffit rfl, (State.resumeDrive_keeps u).soffit rfl]
    have h : l.bit GLB_SUPSTAT.VHVOK = true := State.bit_eq_true ((State.get_of_rd (f := GLB_SUPSTAT.VHVOK) (hcu _)).trans hon)
    have hb : l.boot = s.boot := hlevel.boot rfl
    change (l.bit GLB_SUPSTAT.VHVOK && !l.boot.ovBar) = _
    rw [h, hb, Bool.true_and]

/-- Settles O1: the supplies command by command, from the power-fail comparator to the return of VHV. -/
theorem supplies : Obligations.Supplies := by
  unfold Obligations.Supplies
  exact ⟨vddPowerFail_commits, vddPowerFailRelease_arms, vhvOvervoltageRelease_drops, thermalWarning_follows, thermalWarning_held, thermalRestart_presents,
    depletionRdOff_releases, vddLoss_takes_host, vddReturn_releases_host, vhvOvervoltage_stops_ports, vhvOvRecovery_resumes, vhvUvlo_stops_ports,
    vhvValid_resumes⟩

end Sys2Proof.Machine
end

section
/-!
PROOF. The boot to its step 3 (R45, R47, R426, R476): VDD valid, the device clock's lock, the read of the fuse array and the choice of the reference.
-/

namespace Sys2Proof.Machine

theorem vddValid_begins_boot (s : State) (hstage : s.get GLB_BOOTSTAT.STAGE < 4) (hvdd : s.bit GLB_SUPSTAT.VDDOK = false) :
    Next .vddValid s fun t =>
      t.get GLB_SUPSTAT.VDDOK = 1 ∧ t.get GLB_SUPSTAT.FEED = 0 ∧
      t.rd GLB_BOOTSTAT.at = GLB_BOOTSTAT.STAGE.set (s.rd GLB_BOOTSTAT.at) (if s.bit OTP_STAT.LOADED then 2 else 0) ∧
      t.boot = { s.boot with sampling := false } ∧
      s.regsBut t [GLB_SUPSTAT.at, GLB_BOOTSTAT.at] ∧
      t = { s with regs := t.regs, bat := t.bat, boot := t.boot } := by
  let r := s.raise GLB_SUPSTAT.VDDOK
  let u := r.followFeed.modBoot (fun b => { b with sampling := false })
  let t := u.put GLB_BOOTSTAT.STAGE (if s.bit OTP_STAT.LOADED then 2 else 0)
  have hexec : exec .vddValid s = done t := if_neg (by simp [hvdd]; omega)
  have hr : r.get GLB_SUPSTAT.VDDOK = 1 := State.get_raise _ (by decide) (by decide)
  have hfeed : r.regsKept u (fun a => a == GLB_SUPSTAT.at) := .of_regs r.followFeed_regsKept rfl
  have hkeeps : s.Keeps (pRegs ||| pBat) r.followFeed := (State.followFeed_keeps _).step rfl <| (State.raise_keeps ..).step rfl <| .refl ..
  have hsup (f : Fld) (hf : f.addr = GLB_SUPSTAT.at) : t.get f = r.followFeed.get f :=
    (State.get_put_ne u _ _ _ (by rw [hf]; decide)).trans rfl
  refine .of_done hexec ⟨?_, ?_, ?_, ?_, fun a ha => ?_, ?_⟩
  · rw [hsup _ rfl, State.get_followFeed _ (.inr rfl), hr]
  · rw [hsup _ rfl, State.get_feed_followFeed, State.feedNow, State.bit_eq_true hr]
    rfl
  · refine (State.rd_wr_same ..).trans ?_
    rw [hfeed _ rfl]
    exact congrArg (GLB_BOOTSTAT.STAGE.set · _) (State.rd_put_ne s _ _ _ (by decide))
  · exact congrArg (fun b => { b with sampling := false }) (hkeeps.boot rfl)
  · simp only [List.mem_cons, List.not_mem_nil, or_false, not_or] at ha
    exact (State.rd_put_ne u _ _ _ ha.2).trans ((hfeed a (by simpa using ha.1)).trans (State.rd_put_ne s _ _ _ ha.1))
  · exact ((State.put_keeps u ..).step (m := pRegs ||| pBat ||| pBoot) rfl <| (State.modBoot_keeps ..).step rfl <| hkeeps.step rfl <| .refl ..).eq_mix

/-- The first cause since the record was cleared holds the record (R53). -/
theorem State.cause_of_clear {s : State} (h : s.get SOF_RESET_CAUSE.CODE = 0) (c i : Nat) :
    s.cause c i = ((((s.put SOF_RESET_LAST.CODE c).put SOF_RESET_LAST.ISLAND i).holdCause c i).modBoot (fun b => { b with causeAt := some s.now })).logFault 1
      (c + i * 256) := by
  have h' : ((s.put SOF_RESET_LAST.CODE c).put SOF_RESET_LAST.ISLAND i).get SOF_RESET_CAUSE.CODE = 0 :=
    (State.get_put_ne _ _ _ _ (by decide)).trans ((State.get_put_ne _ _ _ _ (by decide)).trans h)
  exact congrArg (State.logFault · 1 (c + i * 256)) (if_pos h')

theorem State.get_cause_of_clear {s : State} (h : s.get SOF_RESET_CAUSE.CODE = 0) {c : Nat} (hc : c < 256) (i : Nat) :
    (s.cause c i).get SOF_RESET_CAUSE.CODE = c := by
  have hput (u : State) : (u.put SOF_RESET_CAUSE.CODE c).get SOF_RESET_CAUSE.CODE = c := by
    rw [State.get_put_same _ _ _ (by decide)]
    exact Nat.mod_eq_of_lt hc
  have hhold (u : State) : (u.holdCause c i).get SOF_RESET_CAUSE.CODE = c := by
    rw [State.holdCause, State.get_put_ne _ _ _ _ (by decide), State.raise, State.get_put_apart _ _ rfl, State.get_put_apart _ _ rfl, hput]
  have hlog (u : State) (d : Nat) : (u.logFault 1 d).get SOF_RESET_CAUSE.CODE = u.get SOF_RESET_CAUSE.CODE :=
    State.regsKept.get (.logFault (p := fun a => a == MTR_STAT.at) (.refl u _) rfl) rfl
  have hboot (u : State) (f : BootSt → BootSt) : (u.modBoot f).get SOF_RESET_CAUSE.CODE = u.get SOF_RESET_CAUSE.CODE := rfl
  rw [State.cause_of_clear h, hlog, hboot, hhold]

/-- The lock powers the Soffit island, shows the Rd of the service ports and, after a power-on, records the cause (R45, R53). -/
theorem State.soffitUp_spec (s : State) :
    s.soffitUp.islandUp islSoffit = true ∧
    s.regsKept s.soffitUp (fun a => a == GLB_ISLPWR.at || a == SOF_DBSTAT.at || causeArea a) ∧
    (s.islandUp islSoffit = false → s.boot.inReset = some 0 → s.get SOF_RESET_CAUSE.CODE = 0 →
      s.soffitUp.get SOF_RESET_CAUSE.CODE = 1 ∧ s.soffitUp.get SOF_RESET_LAST.CODE = 1) ∧
    s.soffitUp = { s with regs := s.soffitUp.regs, slate := s.soffitUp.slate, boot := { s.boot with causeAt := s.soffitUp.boot.causeAt } } := by
  by_cases hup : s.islandUp islSoffit = true
  · rw [State.soffitUp, if_pos hup]
    exact ⟨hup, .refl _ _, fun h => absurd (hup.symm.trans h) (by decide), rfl⟩
  · unfold State.soffitUp
    rw [if_neg hup]
    extract_lets m u
    have hm : s.regsKept m (fun a => a == GLB_ISLPWR.at) := .put rfl <| .refl _ _
    have hu : m.regsKept u (fun a => a == SOF_DBSTAT.at) := .put rfl <| .put rfl <| .refl _ _
    have hon : u.islandUp islSoffit = true := by
      rw [hu.islandUp rfl, State.islandUp_maskBit _ _ _ _ (by decide), if_pos rfl]
    have hsu : s.regsKept u (fun a => a == GLB_ISLPWR.at || a == SOF_DBSTAT.at || causeArea a) :=
      .trans (hm.mono fun a ha => by simp only [Bool.or_eq_false_iff] at ha; exact ha.1.1) <| hu.mono fun a ha => by
        simp only [Bool.or_eq_false_iff] at ha
        exact ha.1.2
    have hcode : u.get SOF_RESET_CAUSE.CODE = s.get SOF_RESET_CAUSE.CODE := (hu.get rfl).trans (hm.get rfl)
    by_cases hc : s.boot.inReset = some 0 ∧ u.get SOF_RESET_CAUSE.CODE = 0
    · rw [if_pos hc]
      refine ⟨by rw [(u.cause_regsKept _ _).islandUp rfl, hon], hsu.trans <| (u.cause_regsKept _ _).mono fun a ha => (Bool.or_eq_false_iff.1 ha).2,
        fun _ _ _ => ⟨State.get_cause_of_clear hc.2 (by decide) _, (u.get_last_cause (by decide) (by decide)).1⟩, ?_⟩
      rw [State.cause_of_clear hc.2]
      let v := (((u.put SOF_RESET_LAST.CODE 0x01).put SOF_RESET_LAST.ISLAND islDevice).holdCause 0x01 islDevice).modBoot (fun b => { b with causeAt := some u.now })
      have hv : v.Keeps (pRegs ||| pSlate) (v.logFault 1 (0x01 + islDevice * 256)) := State.logFault_keeps ..
      have hboot : (v.logFault 1 (0x01 + islDevice * 256)).boot = v.boot := hv.boot rfl
      change v.logFault 1 (0x01 + islDevice * 256) = { s with
        regs := (v.logFault 1 (0x01 + islDevice * 256)).regs, slate := (v.logFault 1 (0x01 + islDevice * 256)).slate,
        boot := { s.boot with causeAt := (v.logFault 1 (0x01 + islDevice * 256)).boot.causeAt } }
      rw [hboot]
      exact hv.eq_mix
    · rw [if_neg hc]
      exact ⟨hon, hsu, fun _ h0 h1 => absurd ⟨h0, hcode.trans h1⟩ hc, rfl⟩

theorem soffitDcoLock_boots (s : State) (hvdd : s.bit GLB_SUPSTAT.VDDOK = true) (hstage : s.get GLB_BOOTSTAT.STAGE = 0)
    (hreset : s.boot.inReset.isSome = true) (hthermal : s.boot.thermal = false) :
    Next .soffitDcoLock s fun t =>
      t.rd GLB_BOOTSTAT.at = GLB_BOOTSTAT.STAGE.set (s.rd GLB_BOOTSTAT.at) 1 ∧ t.islandUp islSoffit = true ∧
      (s.islandUp islSoffit = false → s.boot.inReset = some 0 → s.get SOF_RESET_CAUSE.CODE = 0 →
        t.get SOF_RESET_CAUSE.CODE = 1 ∧ t.get SOF_RESET_LAST.CODE = 1) ∧
      (s.islandUp islSoffit = true → s.regsBut t [GLB_BOOTSTAT.at]) ∧
      s.regsBut t [GLB_BOOTSTAT.at, GLB_ISLPWR.at, SOF_DBSTAT.at, SOF_RESET_CAUSE.at, SOF_RESET_LAST.at, SOF_RESET_TIME.at, MTR_STAT.at] ∧
      t = { s with regs := t.regs, slate := t.slate, boot := { s.boot with causeAt := t.boot.causeAt } } := by
  obtain ⟨hup, hregs, hcause, heq⟩ := s.soffitUp_spec
  have hexec : exec .soffitDcoLock s = done (s.soffitUp.put GLB_BOOTSTAT.STAGE 1) := congrArg done (if_pos ⟨hvdd, hstage, hreset, by simp [hthermal]⟩)
  have hput (a : Nat) (ha : a ≠ GLB_BOOTSTAT.at) : (s.soffitUp.put GLB_BOOTSTAT.STAGE 1).rd a = s.soffitUp.rd a := State.rd_put_ne _ _ _ _ ha
  have hget (f : Fld) (hf : f.addr ≠ GLB_BOOTSTAT.at) : (s.soffitUp.put GLB_BOOTSTAT.STAGE 1).get f = s.soffitUp.get f := State.get_put_ne _ _ _ _ hf
  refine .of_done hexec ⟨?_, ?_, fun h0 h1 h2 => ?_, fun h a ha => ?_, fun a ha => ?_, ?_⟩
  · exact (State.rd_wr_same ..).trans (congrArg (GLB_BOOTSTAT.STAGE.set · 1) (hregs _ rfl))
  · rw [State.islandUp, hget _ (by decide)]
    exact hup
  · rw [hget _ (by decide), hget _ (by decide)]
    exact hcause h0 h1 h2
  · rw [hput a (by simpa using ha), State.soffitUp, if_pos h]
  · simp only [List.mem_cons, List.not_mem_nil, or_false, not_or] at ha
    obtain ⟨hb, hi, hd, hc, hl, ht, hm⟩ := ha
    rw [hput a hb, hregs a (by simp [causeArea, hi, hd, hc, hl, ht, hm])]
  · exact (congrArg (fun u : State => u.put GLB_BOOTSTAT.STAGE 1) heq).trans rfl

theorem referenceSelect_finds (s : State) (c : BitVec 12) (k : Nat) (hstage : s.get GLB_BOOTSTAT.STAGE = 2) (hvdd : s.bit GLB_SUPSTAT.VDDOK = true)
    (hsel : s.devcfg 1 0 = 1) (hk : refCode c.toNat = some k) :
    Next (.referenceSelect (some c)) s fun t =>
      t.rd GLB_BOOTSTAT.at = GLB_BOOTSTAT.STAGE.set (s.rd GLB_BOOTSTAT.at) 3 ∧
      t.get GLB_CLKSTAT.REFSRC = 1 ∧ t.get GLB_CLKSTAT.REFCODE = k % 16 ∧
      s.regsBut t [GLB_BOOTSTAT.at, GLB_CLKSTAT.at] ∧ t = { s with regs := t.regs } := by
  have hexec : exec (.referenceSelect (some c)) s = done (((s.put GLB_BOOTSTAT.STAGE 3).put GLB_CLKSTAT.REFSRC 1).put GLB_CLKSTAT.REFCODE k) := by
    change execReferenceSelect (some c) s = _
    unfold execReferenceSelect
    rw [if_pos ⟨hstage, hvdd⟩]
    extract_lets sel t
    rw [show sel = 1 from hsel, if_pos (.inl rfl), Option.bind_some, hk]
  have hclk : s.regsKept ((s.put GLB_BOOTSTAT.STAGE 3).put GLB_CLKSTAT.REFSRC 1) (fun a => a == GLB_BOOTSTAT.at || a == GLB_CLKSTAT.at) :=
    .put rfl <| .put rfl <| .refl _ _
  refine .of_done hexec ⟨?_, ?_, State.get_put_same _ _ _ (by decide), fun a ha => ?_, rfl⟩
  · exact (State.rd_put_ne _ _ _ _ (by decide)).trans ((State.rd_put_ne _ _ _ _ (by decide)).trans (State.rd_wr_same ..))
  · exact (State.get_put_apart _ _ rfl).trans (State.get_put_same _ _ _ (by decide))
  · exact State.regsKept.put (t := (s.put GLB_BOOTSTAT.STAGE 3).put GLB_CLKSTAT.REFSRC 1) rfl hclk a (by simpa using ha)

theorem referenceSelect_falls_back (s : State) (hstage : s.get GLB_BOOTSTAT.STAGE = 2) (hvdd : s.bit GLB_SUPSTAT.VDDOK = true) (hsel : s.devcfg 1 0 = 1) :
    Next (.referenceSelect none) s fun t =>
      t.get GLB_BOOTSTAT.STAGE = 3 ∧ t.get GLB_BOOTSTAT.XTALFAIL = 1 ∧
      t.get GLB_CLKSTAT.REFSRC = 0 ∧ t.get GLB_CLKSTAT.REFCODE = 15 ∧
      s.regsBut t [GLB_BOOTSTAT.at, GLB_CLKSTAT.at] ∧ t = { s with regs := t.regs } := by
  let x := (s.put GLB_BOOTSTAT.STAGE 3).raise GLB_BOOTSTAT.XTALFAIL
  let t := (x.put GLB_CLKSTAT.REFSRC 0).put GLB_CLKSTAT.REFCODE 15
  have hexec : exec (.referenceSelect none) s = done t := by
    change execReferenceSelect none s = _
    unfold execReferenceSelect
    rw [if_pos ⟨hstage, hvdd⟩]
    exact if_pos (.inl hsel)
  have hx : x.regsKept t (fun a => a == GLB_CLKSTAT.at) := .put rfl <| .put rfl <| .refl _ _
  have hst : s.regsKept t (fun a => a == GLB_BOOTSTAT.at || a == GLB_CLKSTAT.at) := .put rfl <| .put rfl <| .put rfl <| .put rfl <| .refl _ _
  refine .of_done hexec ⟨?_, ?_, ?_, State.get_put_same _ _ _ (by decide), fun a ha => hst a (by simpa using ha), rfl⟩
  · rw [hx.get rfl]
    exact (State.get_put_apart _ _ rfl).trans (State.get_put_same _ _ _ (by decide))
  · rw [hx.get rfl]
    exact State.get_raise _ (by decide) (by decide)
  · exact (State.get_put_apart _ _ rfl).trans (State.get_put_same _ _ _ (by decide))

end Sys2Proof.Machine
end

section
/-!
PROOF. The read of the fuse array at boot (R426): the words read and those left alone, their statuses and their shadows, and the registers that it fills.
-/

namespace Sys2Proof.Machine

/-! ### The fuse array as a list of its words that are not blank -/

theorem find?_filter_ne {α : Type} (l : List (Nat × α)) {w v : Nat} (h : w ≠ v) :
    (l.filter (fun p => p.1 != v)).find? (fun p => p.1 == w) = l.find? (fun p => p.1 == w) := by
  rw [List.find?_filter]
  congr 1
  funext p
  by_cases hp : p.1 = w
  · simp [hp, h]
  · simp [hp]

theorem wideGet_wideSet_ne (l : List (Nat × BitVec 64)) {w v : Nat} (x : BitVec 64) (h : w ≠ v) : wideGet (wideSet l v x) w = wideGet l w := by
  unfold wideSet wideGet
  split
  · rw [find?_filter_ne l h]
  · rw [List.find?_cons_of_neg (by simpa using h.symm), find?_filter_ne l h]

theorem wideGet_wideSet_same (l : List (Nat × BitVec 64)) (w : Nat) (x : BitVec 64) : wideGet (wideSet l w x) w = x := by
  unfold wideSet wideGet
  split
  · rw [List.find?_eq_none.2 fun p hp => by simpa using (List.mem_filter.1 hp).2]
    simp [*]
  · rw [List.find?_cons_of_pos (by simp)]
    rfl

theorem eq_of_mem_wideSet {l : List (Nat × BitVec 64)} {w : Nat} {x : BitVec 64} {p : Nat × BitVec 64} (h : p ∈ wideSet l w x) (hp : p.1 = w) : p.2 = x := by
  have hout : p ∉ l.filter (fun p => p.1 != w) := fun hm => by simpa [hp] using (List.mem_filter.1 hm).2
  unfold wideSet at h
  split at h
  · exact absurd h hout
  · rcases List.mem_cons.1 h with rfl | h
    · rfl
    · exact absurd h hout

/-! ### The status of a word -/

theorem State.otp_setStatus (s : State) (w c : Nat) (say : Bool) :
    (s.setStatus w c say).otp = { s.otp with status := (w, c) :: s.otp.status.filter (fun p => p.1 != w) } := by
  unfold State.setStatus
  dsimp only
  split
  · exact (State.fire_keeps ..).otp rfl
  · rfl

theorem State.wordStatus_setStatus_same (s : State) (w c : Nat) (say : Bool) : (s.setStatus w c say).wordStatus w = c := by
  rw [State.wordStatus, State.otp_setStatus, List.find?_cons_of_pos (by simp)]

theorem State.wordStatus_setStatus_ne (s : State) {w v : Nat} (c : Nat) (say : Bool) (h : w ≠ v) : (s.setStatus v c say).wordStatus w = s.wordStatus w := by
  rw [State.wordStatus, State.otp_setStatus, List.find?_cons_of_neg (by simpa using h.symm), find?_filter_ne _ h, State.wordStatus]

theorem State.mem_ueWords {s : State} {w : Nat} : w ∈ s.ueWords ↔ ∃ p ∈ s.otp.status, p.2 = 4 ∧ p.1 = w := by
  simp [State.ueWords]

theorem State.ueWords_setStatus {s : State} {w v c : Nat} {say : Bool} (h : w ∉ s.ueWords) (hc : v = w → c ≠ 4) : w ∉ (s.setStatus v c say).ueWords := by
  rw [State.mem_ueWords, State.otp_setStatus]
  rintro ⟨p, hp, hp4, rfl⟩
  rcases List.mem_cons.1 hp with rfl | hp
  · exact hc rfl hp4
  · exact h (State.mem_ueWords.2 ⟨p, List.mem_of_mem_filter hp, hp4, rfl⟩)

theorem State.wideGet_shadow (s : State) {w : Nat} (h : w ∉ s.ueWords) : wideGet s.loadShadows.otp.shadow w = wideGet s.otp.fuses w := by
  have hkey (p : Nat × BitVec 64) : (shadowOf s.ueWords p).1 = p.1 := by
    unfold shadowOf
    split_ifs <;> rfl
  have hfind (l : List (Nat × BitVec 64)) :
      (l.map (shadowOf s.ueWords)).find? (fun p => p.1 == w) = l.find? (fun p => p.1 == w) := by
    induction l with
    | nil => rfl
    | cons p l ih =>
      by_cases hp : p.1 = w
      · have hsame : shadowOf s.ueWords p = p := by rw [shadowOf, if_pos (by simpa [hp] using h)]
        rw [List.map_cons, hsame, List.find?_cons_of_pos (by simp [hp]), List.find?_cons_of_pos (by simp [hp])]
      · rw [List.map_cons, List.find?_cons_of_neg (by simp [hkey, hp]), List.find?_cons_of_neg (by simp [hp]), ih]
  have hextra : ((s.ueWords.filter (fun w => s.otp.fuses.all (fun p => p.1 != w))).map (fun w => (w, (0 : BitVec 64)))).find? (fun p => p.1 == w) = none := by
    rw [List.find?_eq_none]
    rintro p hp
    obtain ⟨v, hv, rfl⟩ := List.mem_map.1 hp
    have : v ≠ w := fun e => h (e ▸ List.mem_of_mem_filter hv)
    simpa using this
  change ((List.find? _ (List.map _ (_ ++ _))).map Prod.snd).getD 0 = _
  rw [hfind, List.find?_append, hextra, Option.or_none, wideGet]

/-! ### The words read -/

/-- One word's outcome. -/
def State.readOne (say : Nat → Nat → Bool) (was : Nat → Nat) (s : State) (r : OtpRead) : State :=
  (s.modOtp (fun o => { o with fuses := wideSet o.fuses r.word.toNat (readValue r) })).setStatus r.word.toNat (readStatus r) (say (was r.word.toNat) (readStatus r))

/-- A word with a reserved bit set is marked MARGINAL (R430). -/
def State.markReserved (say : Nat → Nat → Bool) (was : Nat → Nat) (s : State) (p : Nat × BitVec 64) : State := s.setStatus p.1 3 (say (was p.1) 3)

def State.readAll (s : State) (reads : List OtpRead) (say : Nat → Nat → Bool) : State :=
  reads.foldl (State.readOne say s.wordStatus) (s.modOtp (fun o => { o with status := [] }))

theorem State.readWordsAt_eq (s : State) (reads : List OtpRead) (say : Nat → Nat → Bool) :
    s.readWordsAt reads say = ((s.readAll reads say).otp.fuses.filter (fun p => (s.readAll reads say).wordStatus p.1 == 1 && reservedSet p.1 p.2)).foldl
      (State.markReserved say s.wordStatus) (s.readAll reads say) := rfl

/-- The marking of reserved bits leaves the array, and no word becomes unreadable by it. -/
theorem State.markReserved_spec (say : Nat → Nat → Bool) (was : Nat → Nat) (l : List (Nat × BitVec 64)) (s : State) {w : Nat} (h : w ∉ s.ueWords) :
    (l.foldl (State.markReserved say was) s).otp.fuses = s.otp.fuses ∧ w ∉ (l.foldl (State.markReserved say was) s).ueWords := by
  refine List.foldlRecOn (motive := fun (u : State) => u.otp.fuses = s.otp.fuses ∧ w ∉ u.ueWords) _ _ ⟨rfl, h⟩ fun u ⟨hf, hu⟩ p _ => ⟨?_, ?_⟩
  · rw [State.markReserved, State.otp_setStatus, hf]
  · exact State.ueWords_setStatus hu fun _ => by decide

theorem State.readAll_unread (s : State) (reads : List OtpRead) (say : Nat → Nat → Bool) {w : Nat} (h : ∀ r ∈ reads, r.word.toNat ≠ w) :
    wideGet (s.readAll reads say).otp.fuses w = wideGet s.otp.fuses w ∧ w ∉ (s.readAll reads say).ueWords := by
  refine List.foldlRecOn (motive := fun (u : State) => wideGet u.otp.fuses w = wideGet s.otp.fuses w ∧ w ∉ u.ueWords) reads _
    ⟨rfl, List.not_mem_nil⟩ fun u ⟨hf, hu⟩ r hr => ⟨?_, ?_⟩
  · rw [State.readOne, State.otp_setStatus, ← hf]
    exact wideGet_wideSet_ne _ _ (h r hr).symm
  · exact State.ueWords_setStatus (s := u.modOtp _) hu fun e => absurd e (h r hr)

/-- A word that is not read keeps its value, and its shadow shows it. -/
theorem State.readWordsAt_unread (s : State) (reads : List OtpRead) (say : Nat → Nat → Bool) {w : Nat} (h : ∀ r ∈ reads, r.word.toNat ≠ w) :
    wideGet (s.readWordsAt reads say).otp.fuses w = wideGet s.otp.fuses w ∧ w ∉ (s.readWordsAt reads say).ueWords := by
  obtain ⟨hf, hu⟩ := s.readAll_unread reads say h
  rw [State.readWordsAt_eq]
  obtain ⟨hf', hu'⟩ := State.markReserved_spec say s.wordStatus _ _ hu
  exact ⟨by rw [hf', hf], hu'⟩

theorem readStatus_ne_four {r : OtpRead} (h : r.ecc ≠ .double) : readStatus r ≠ 4 := by
  unfold readStatus
  split_ifs <;> simp

theorem reservedSet_of_readStatus_one {r : OtpRead} (h : readStatus r = 1) : reservedSet r.word.toNat (readValue r) = false := by
  by_contra hres
  have hmark : r.low ≠ r.normal ∨ r.high ≠ r.normal ∨ reservedSet r.word.toNat (readValue r) := .inr (.inr (by simpa using hres))
  rw [readStatus, if_pos hmark] at h
  split_ifs at h <;> cases h

/-- The one word read has the status and the value that the read gives. -/
theorem State.readWordsAt_single (s : State) (r : OtpRead) (say : Nat → Nat → Bool) (h : r.ecc ≠ .double) :
    (s.readWordsAt [r] say).wordStatus r.word.toNat = readStatus r ∧ wideGet (s.readWordsAt [r] say).otp.fuses r.word.toNat = readValue r ∧
      r.word.toNat ∉ (s.readWordsAt [r] say).ueWords := by
  let b := s.modOtp (fun o => { o with status := [], fuses := wideSet o.fuses r.word.toNat (readValue r) })
  let u := s.readAll [r] say
  have hu : u = b.setStatus r.word.toNat (readStatus r) (say (s.wordStatus r.word.toNat) (readStatus r)) := rfl
  have hstat : u.wordStatus r.word.toNat = readStatus r := by rw [hu, State.wordStatus_setStatus_same]
  have hfuses : u.otp.fuses = wideSet s.otp.fuses r.word.toNat (readValue r) := by rw [hu, State.otp_setStatus]; rfl
  have hue : r.word.toNat ∉ u.ueWords := hu ▸ State.ueWords_setStatus (s := b) List.not_mem_nil fun _ => readStatus_ne_four h
  obtain ⟨hf, hue'⟩ := State.markReserved_spec say s.wordStatus (u.otp.fuses.filter (fun p => u.wordStatus p.1 == 1 && reservedSet p.1 p.2)) u hue
  rw [State.readWordsAt_eq]
  refine ⟨?_, by rw [hf, hfuses, wideGet_wideSet_same], hue'⟩
  refine List.foldlRecOn (motive := fun (v : State) => v.wordStatus r.word.toNat = readStatus r) _ _ hstat fun v hv p hp => ?_
  obtain ⟨hmem, hmark⟩ := List.mem_filter.1 hp
  have hne : r.word.toNat ≠ p.1 := fun e => by
    rw [Bool.and_eq_true, beq_iff_eq, ← e, hstat] at hmark
    have hval : p.2 = readValue r := eq_of_mem_wideSet (hfuses ▸ hmem) e.symm
    rw [hval, reservedSet_of_readStatus_one hmark.1] at hmark
    exact absurd hmark.2 (by decide)
  rw [State.markReserved, State.wordStatus_setStatus_ne _ _ _ hne, hv]

/-! ### The boot read -/

/-- The registers of the device's variant and its serial number (R414, R427). -/
def variantArea (a : Nat) : Bool :=
  a == GLB_PORTMASK.at || a == GLB_SLICEMASK0.at || a == GLB_SLICEMASK1.at || a == GLB_PARTID.at || a == GLB_SERIAL0.at || a == GLB_SERIAL1.at || a == GLB_SERIAL2.at

/-- The registers that the boot read fills: the variant's, Soffit's, the fuse array's, the Host's, the ports' latch bits and the log's flags. -/
def bootArea (a : Nat) : Bool := variantArea a || within 0x1000 0x3000 a || within 0x8000 0x9000 a || within 0x10000 0x20000 a || within 0xB000 0xC000 a

theorem within_of_variantArea {a : Nat} (h : variantArea a = true) : within 0x0000 0x0100 a = true := by
  simp only [variantArea, Bool.or_eq_true, beq_iff_eq] at h
  rcases h with (((((rfl | rfl) | rfl) | rfl) | rfl) | rfl) | rfl <;> decide

theorem State.trimFallback_regsKept {s t : State} (w : Nat) (h : s.regsKept t bootArea) : s.regsKept (t.trimFallback w) bootArea := by
  unfold State.trimFallback
  split
  · rename_i n _
    have hblock : within 0x10000 0x20000 (PCC_STATUS.at n) = true := by
      simp only [within, portBase, PCC_STATUS.at, Bool.and_eq_true, decide_eq_true_eq]
      omega
    have hport : bootArea (PCC_STATUS.at n) = true := by rw [bootArea, hblock, Bool.or_true, Bool.true_or]
    have hmask : s.regsKept (t.maskBit OTP_TRIMFB.PORT n.val true) bootArea := .put rfl h
    have hraise : s.regsKept ((t.maskBit OTP_TRIMFB.PORT n.val true).raise (PCC_STATUS.LATCHED n)) bootArea := .put hport hmask
    exact hraise.of_regs rfl
  · exact .ite (fun _ => .put rfl h) fun _ => h

/-- The array as the boot reads it. -/
def State.arrayRead (s : State) (reads : List OtpRead) (cs : CtrReads) : State :=
  (((((s.wr OTP_RESULT.at 0).wr OTP_MARG.at 0).wr OTP_TRIMFB.at 0).readWordsAt reads (fun _ c => c == 3)).readCounters cs).loadShadows

/-- The boot read once the array is read, up to the repairs that it may begin. -/
def State.afterArrayRead (l : State) : State :=
  let t := (l.countOtp.loadVariant).loadSerial
  let t := t.otp.ue.foldl State.trimFallback t
  let t := (t.flag OTP_STAT.KEYBLANK t.keyBlank).flag OTP_STAT.KEYONE (!t.keyBlank && (t.keyCopyUE 0 != t.keyCopyUE 1))
  let t := (t.loadCeil.raise OTP_STAT.LOADED).put OTP_SCRUB.SINCE 0
  t.flag OTP_STAT.OVRACT (!t.otp.overs.isEmpty)

theorem State.bootRead_eq (s : State) (reads : List OtpRead) (cs : CtrReads) : s.bootRead reads cs = (s.arrayRead reads cs).afterArrayRead.autoRepair := rfl

theorem State.arrayRead_regsKept (s : State) (reads : List OtpRead) (cs : CtrReads) : s.regsKept (s.arrayRead reads cs) bootArea :=
  .still (State.loadShadows_keeps _) rfl <| .still (State.readCounters_keeps _ _) rfl <| .still (State.readWordsAt_keeps _ _ _) rfl <|
    .wr rfl <| .wr rfl <| .wr rfl <| .refl _ _

theorem State.afterArrayRead_spec (l : State) :
    l.regsKept l.afterArrayRead bootArea ∧ l.afterArrayRead.get OTP_STAT.LOADED = 1 ∧ l.Keeps (pRegs ||| pPorts ||| pSlate) l.afterArrayRead := by
  unfold State.afterArrayRead
  extract_lets t1 t2 t3 t4
  have hvar (u : State) (h : l.regsKept u bootArea) : l.regsKept u.loadVariant bootArea := by
    have hput (p m : Nat) (bad : Bool) (x : Nat) : l.regsKept (((((u.put GLB_PORTMASK.PRESENT p).wr GLB_SLICEMASK0.at (BitVec.ofNat 32 m)).wr GLB_SLICEMASK1.at
        (BitVec.ofNat 32 (m / 2 ^ 32))).put GLB_PARTID.PORTS x).flag GLB_PARTID.VARFAULT bad) bootArea := .put rfl <| .put rfl <| .wr rfl <| .wr rfl <| .put rfl h
    exact .ite (fun _ => .logFault (hput _ _ _ _) rfl) fun _ => hput _ _ _ _
  have h1 : l.regsKept t1 bootArea := .put rfl <| .wr rfl <| .wr rfl <| .wr rfl <| hvar _ <| .put rfl <| .put rfl <| .put rfl <| .put rfl <| .refl _ _
  have h2 : l.regsKept t2 bootArea := .foldl (fun _ w hu => State.trimFallback_regsKept w hu) h1
  have h4 : l.regsKept t4 bootArea := .put rfl <| .put rfl <| .put rfl <| .put rfl <| .wr rfl <| .put rfl <| .put rfl h2
  refine ⟨.put rfl h4, ?_, ?_⟩
  · exact (State.get_put_apart _ _ rfl).trans <| (State.get_put_ne _ _ _ _ (by decide)).trans <| State.get_raise _ (by decide) (by decide)
  · have k1 : l.Keeps (pRegs ||| pPorts ||| pSlate) t1 := (State.loadSerial_keeps _).step rfl <| (State.loadVariant_keeps _).step rfl <|
      (State.countOtp_keeps _).step rfl <| .refl ..
    have k2 : l.Keeps (pRegs ||| pPorts ||| pSlate) t2 := .foldl (fun u w hu => (State.trimFallback_keeps u w).step rfl hu) k1
    exact (State.flag_keeps ..).step rfl <| (State.put_keeps ..).step rfl <| (State.raise_keeps ..).step rfl <| (State.loadCeil_keeps _).step rfl <|
      (State.flag_keeps ..).step rfl <| (State.flag_keeps ..).step rfl k2

theorem State.autoRepair_spec (s : State) :
    s.regsKept s.autoRepair bootArea ∧ s.autoRepair.get OTP_STAT.LOADED = s.get OTP_STAT.LOADED ∧
      s.autoRepair.otp = { s.otp with burn := s.autoRepair.otp.burn } := by
  have hclear (u : State) : (u.clear OTP_STAT.REPAIRPEND).get OTP_STAT.LOADED = u.get OTP_STAT.LOADED := State.get_put_apart _ _ rfl
  have hraise (u : State) : (u.raise OTP_STAT.REPAIRPEND).get OTP_STAT.LOADED = u.get OTP_STAT.LOADED := State.get_put_apart _ _ rfl
  have hbusy (u : State) : (u.raise OTP_STAT.BUSY).get OTP_STAT.LOADED = u.get OTP_STAT.LOADED := State.get_put_apart _ _ rfl
  unfold State.autoRepair
  split
  · split
    · refine ⟨.put rfl <| .put rfl <| .of_regs (.refl _ _) rfl, ?_, rfl⟩
      rw [hclear, hbusy]
      rfl
    · exact ⟨.put rfl <| .refl _ _, hraise s, rfl⟩
  · exact ⟨.put rfl <| .refl _ _, hclear s, rfl⟩

theorem State.loadDevcfg_regsKept (s : State) : s.regsKept s.loadDevcfg (fun a => within 0x1000 0x2000 a) :=
  .ite (fun _ => .put rfl <| .put rfl <| .put rfl <| .put rfl <| .put rfl <| .put rfl <| .refl _ _) fun _ => .refl _ _

/-- The array that the boot reads is the one that it leaves; its burn may be a repair (R423). -/
theorem State.otp_readOtp (s : State) (reads : List OtpRead) (cs : CtrReads) :
    (s.readOtp reads cs).otp = { (s.arrayRead reads cs).otp with burn := (s.readOtp reads cs).otp.burn } := by
  have hlast : (s.readOtp reads cs).otp = (s.bootRead reads cs).otp := (State.loadDevcfg_keeps _).otp rfl
  have hmid : (s.arrayRead reads cs).afterArrayRead.otp = (s.arrayRead reads cs).otp := (State.afterArrayRead_spec _).2.2.otp rfl
  rw [hlast, State.bootRead_eq, (State.autoRepair_spec _).2.2, hmid]

theorem State.readOtp_regs (s : State) (reads : List OtpRead) (cs : CtrReads) :
    s.regsKept (s.readOtp reads cs) bootArea ∧ (s.readOtp reads cs).get OTP_STAT.LOADED = 1 := by
  obtain ⟨hmid, hloaded, -⟩ := (s.arrayRead reads cs).afterArrayRead_spec
  obtain ⟨hrep, hsame, -⟩ := (s.arrayRead reads cs).afterArrayRead.autoRepair_spec
  have hdev := (s.bootRead reads cs).loadDevcfg_regsKept
  refine ⟨((s.arrayRead_regsKept reads cs).trans hmid).trans (hrep.trans (hdev.mono fun a ha => ?_)), ?_⟩
  · simp only [bootArea, Bool.or_eq_false_iff] at ha
    have h := ha.1.1.1.2
    simp only [within, Bool.and_eq_false_iff, decide_eq_false_iff_not] at h ⊢
    omega
  · rw [State.readOtp, State.regsKept.get hdev rfl, State.bootRead_eq, hsame, hloaded]

theorem otpBootRead_reads (s : State) (reads : List OtpRead) (cs : CtrReads) (hwants : s.wantsOtp = true) (hvdd : s.bit GLB_SUPSTAT.VDDOK = true) :
    Next (.otpBootRead reads cs) s fun t =>
      t.get GLB_BOOTSTAT.STAGE = 2 ∧ t.get OTP_STAT.LOADED = 1 ∧
      (∀ w : Fin 512, reads.all (fun r => r.word.toNat != w.val) = true →
        wideGet t.otp.fuses w.val = wideGet s.otp.fuses w.val ∧ wideGet t.otp.shadow w.val = wideGet s.otp.fuses w.val) ∧
      (∀ r : OtpRead, reads = [r] → r.ecc ≠ .double →
        t.wordStatus r.word.toNat = readStatus r ∧ wideGet t.otp.shadow r.word.toNat = readValue r) ∧
      s.regsKept t (fun a => within 0x0000 0x0100 a || within 0x1000 0x3000 a || within 0x8000 0x9000 a || within 0x10000 0x20000 a || within 0xB000 0xC000 a) ∧
      t.upd = s.upd ∧ t.jtl = s.jtl ∧ t.slices = s.slices ∧ t.pending = s.pending := by
  let u := s.readOtp reads cs
  let w0 := ((s.wr OTP_RESULT.at 0).wr OTP_MARG.at 0).wr OTP_TRIMFB.at 0
  let k := w0.readWordsAt reads (fun _ c => c == 3)
  let c := k.readCounters cs
  have hexec : exec (.otpBootRead reads cs) s = done (u.put GLB_BOOTSTAT.STAGE 2) := (if_pos hwants).trans (congrArg done (if_pos hvdd))
  have hotp : u.otp = { c.loadShadows.otp with burn := u.otp.burn } := s.otp_readOtp reads cs
  have hfuses : u.otp.fuses = k.otp.fuses := by rw [hotp]; rfl
  have hshadow : u.otp.shadow = c.loadShadows.otp.shadow := by rw [hotp]
  have hstatus : u.otp.status = k.otp.status := by rw [hotp]; rfl
  have hw0 : w0.otp = s.otp := rfl
  have hread (w : Nat) (h : w ∉ k.ueWords) : wideGet u.otp.shadow w = wideGet k.otp.fuses w := by
    rw [hshadow]
    exact c.wideGet_shadow h
  obtain ⟨hregs, hloaded⟩ := s.readOtp_regs reads cs
  have hkeeps : s.Keeps (pRegs ||| pBat ||| pPorts ||| pOtp ||| pSlate) u := State.readOtp_keeps ..
  refine .of_done hexec ⟨State.get_put_same _ _ _ (by decide), ?_, fun w hw => ?_, ?_, .put rfl <| hregs.mono fun a ha => ?_, hkeeps.upd rfl, hkeeps.jtl rfl,
    hkeeps.slices rfl, hkeeps.pending rfl⟩
  · exact (State.get_put_ne _ _ _ _ (by decide)).trans hloaded
  · obtain ⟨hf, hue⟩ := w0.readWordsAt_unread reads (fun _ c => c == 3) (w := w.val) fun r hr => by simpa using List.all_eq_true.1 hw r hr
    rw [hw0] at hf
    exact ⟨(congrArg (wideGet · w.val) hfuses).trans hf, (hread w.val hue).trans hf⟩
  · rintro r rfl hecc
    obtain ⟨hst, hval, hue⟩ := w0.readWordsAt_single r (fun _ c => c == 3) hecc
    refine ⟨?_, (hread _ hue).trans hval⟩
    change u.wordStatus _ = _
    rw [← hst, State.wordStatus, State.wordStatus, hstatus, hfuses]
  · simp only [Bool.or_eq_false_iff] at ha
    obtain ⟨⟨⟨⟨h0, h1⟩, h8⟩, hp⟩, hb⟩ := ha
    have hv : variantArea a = false := Bool.eq_false_iff.2 fun hv => by rw [within_of_variantArea hv] at h0; cases h0
    simp [bootArea, hv, h1, h8, hp, hb]

/-- Settles O2: the boot from VDD valid over the clock's lock and the fuse array to the choice of the reference. -/
theorem bootSequence : Obligations.BootSequence := by
  unfold Obligations.BootSequence
  exact ⟨vddValid_begins_boot, soffitDcoLock_boots, otpBootRead_reads, referenceSelect_finds, referenceSelect_falls_back⟩

end Sys2Proof.Machine
end

section
/-!
SUPPORT. Resets of the device (R52, R62): the registers, the islands and the boot state that a reset leaves standing.
-/

namespace Sys2Proof.Machine

/-! ### What a reset leaves standing -/

/-- The state at its reset values but for what a cold or a warm reset keeps (R52, R62). -/
def State.survivors (s : State) (warm : Bool) : State :=
  { State.reset with
    regs := s.regs.filter (fun p => keptRegs warm p.1), staged := s.staged.filter (fun p => keptRegs warm p.1)
    freeCtr := s.freeCtr, pending := s.pending, soffit := s.soffit, mtr := s.mtr, slate := s.slate, jtag := s.jtag
    otp := if warm then s.otp else { OtpSt.reset with fuses := s.otp.fuses, ctr := s.otp.ctr, ctrMarg := s.otp.ctrMarg }
    upd := { UpdSt.reset with dir := s.upd.dir, slots := s.upd.slots, confFull := s.upd.confFull }
    boot := { BootSt.reset with
      inReset := some (if warm then 2 else 1), rd := if s.boot.thermal then [3, 3] else [1, 1], ovBar := s.boot.ovBar, thermal := s.boot.thermal
      xds := s.boot.xds, causeAt := s.boot.causeAt }
    bat := { BattenSt.reset with levels := s.bat.levels } }

/-- What a reset shows of itself in the registers that it keeps. -/
def State.showReset (s : State) (thermal : Bool) : State :=
  (((((s.put SOF_DBSTAT.SVCPORT 0).clear GLB_SUPSTAT.XSPI1S).clear GLB_CLKSTAT.SPRK).maskBit GLB_ISLPWR.ISL islSoffit true).flag SOF_DBSTAT.DBRD0 (!thermal)).flag
    SOF_DBSTAT.DBRD1 (!thermal)

theorem State.deviceReset_eq (s : State) (warm : Bool) : s.deviceReset warm =
    if warm then ((s.keepWake.survivors warm).showReset s.keepWake.boot.thermal).put GLB_BOOTSTAT.STAGE 3
    else (s.keepWake.survivors warm).showReset s.keepWake.boot.thermal := rfl

theorem State.rd_survivors (s : State) (warm : Bool) (a : Nat) : (s.survivors warm).rd a = if keptRegs warm a then s.rd a else regReset a := by
  rw [State.rd]
  change (cellGet (s.regs.filter (fun p => keptRegs warm p.1)) a).getD _ = _
  rw [cellGet_filter]
  split <;> rfl

theorem State.islandUp_showReset (s : State) (thermal : Bool) {k : Nat} (h : k < 21) :
    (s.showReset thermal).islandUp k = if k = islSoffit then true else s.islandUp k := by
  let c := (((s.put SOF_DBSTAT.SVCPORT 0).clear GLB_SUPSTAT.XSPI1S).clear GLB_CLKSTAT.SPRK)
  have hc : s.regsKept c (fun a => a == SOF_DBSTAT.at || a == GLB_SUPSTAT.at || a == GLB_CLKSTAT.at) := .put rfl <| .put rfl <| .put rfl <| .refl _ _
  have hd : (c.maskBit GLB_ISLPWR.ISL islSoffit true).regsKept (s.showReset thermal) (fun a => a == SOF_DBSTAT.at) := .put rfl <| .put rfl <| .refl _ _
  rw [hd.islandUp rfl, State.islandUp_maskBit _ _ _ _ h, hc.islandUp rfl]

theorem State.showReset_regsKept (s : State) (thermal : Bool) : s.regsKept (s.showReset thermal)
    (fun a => a == SOF_DBSTAT.at || a == GLB_SUPSTAT.at || a == GLB_CLKSTAT.at || a == GLB_ISLPWR.at) :=
  .put rfl <| .put rfl <| .put rfl <| .put rfl <| .put rfl <| .put rfl <| .refl _ _

theorem State.refsrc_showReset (s : State) (thermal : Bool) : (s.showReset thermal).get GLB_CLKSTAT.REFSRC = s.get GLB_CLKSTAT.REFSRC := by
  let c := (s.put SOF_DBSTAT.SVCPORT 0).clear GLB_SUPSTAT.XSPI1S
  have hc : s.regsKept c (fun a => a == SOF_DBSTAT.at || a == GLB_SUPSTAT.at) := .put rfl <| .put rfl <| .refl _ _
  have hd : (c.clear GLB_CLKSTAT.SPRK).regsKept (s.showReset thermal) (fun a => a == SOF_DBSTAT.at || a == GLB_ISLPWR.at) :=
    .put rfl <| .put rfl <| .put rfl <| .refl _ _
  rw [hd.get rfl, State.clear, State.get_put_apart _ _ rfl, hc.get rfl]

/-- After a reset the Soffit island alone is up (R52, R62). -/
theorem State.islandUp_deviceReset (s : State) (warm : Bool) {k : Nat} (h : k < 21) : (s.deviceReset warm).islandUp k = decide (k = islSoffit) := by
  have hoff : (s.keepWake.survivors warm).islandUp k = false := by
    rw [State.islandUp, State.get, State.rd_survivors, if_neg (by revert warm; decide)]
    exact Nat.zero_testBit k
  have hput (t : State) : (t.put GLB_BOOTSTAT.STAGE 3).islandUp k = t.islandUp k :=
    State.regsKept.islandUp (p := fun a => a == GLB_BOOTSTAT.at) (.put rfl <| .refl _ _) rfl
  have hshow := (s.keepWake.survivors warm).islandUp_showReset s.keepWake.boot.thermal h
  rw [hoff] at hshow
  rw [State.deviceReset_eq]
  cases warm
  · simpa using hshow
  · simpa [hput] using hshow

theorem State.stage_deviceReset (s : State) (warm : Bool) : (s.deviceReset warm).get GLB_BOOTSTAT.STAGE = if warm then 3 else 0 := by
  rw [State.deviceReset_eq]
  cases warm
  · rw [if_neg (by decide), (State.showReset_regsKept _ _).get rfl, State.get, State.rd_survivors, if_neg (by decide)]
    rfl
  · exact State.get_put_same _ _ _ (by decide)

theorem State.refsrc_deviceReset (s : State) : (s.deviceReset true).get GLB_CLKSTAT.REFSRC = s.get GLB_CLKSTAT.REFSRC := by
  have hwake : s.keepWake.rd GLB_CLKSTAT.at = s.rd GLB_CLKSTAT.at := State.rd_of_regs ((State.keepWake_keeps s).regs rfl) _
  rw [State.deviceReset_eq, if_pos rfl, State.get_put_ne _ _ _ _ (by decide), State.refsrc_showReset]
  refine State.get_of_rd ?_
  rw [State.rd_survivors, if_pos (by decide)]
  exact hwake

theorem State.boot_deviceReset (s : State) (warm : Bool) :
    (s.deviceReset warm).boot = { BootSt.reset with
      inReset := some (if warm then 2 else 1), rd := if s.boot.thermal then [3, 3] else [1, 1], ovBar := s.boot.ovBar, thermal := s.boot.thermal
      xds := s.boot.xds, causeAt := s.boot.causeAt } := by
  have h : s.keepWake.boot = s.boot := (State.keepWake_keeps s).boot rfl
  rw [← h]
  cases warm <;> rfl

theorem State.ports_deviceReset (s : State) (warm : Bool) : (s.deviceReset warm).ports = State.reset.ports ∧ (s.deviceReset warm).host = HostSt.reset := by
  cases warm <;> exact ⟨rfl, rfl⟩

/-- A cold reset keeps the fuses and the counters, a warm one the loaded array (R52, R62). -/
theorem State.otp_deviceReset (s : State) (warm : Bool) :
    (s.deviceReset warm).otp = if warm then s.otp else { OtpSt.reset with fuses := s.otp.fuses, ctr := s.otp.ctr, ctrMarg := s.otp.ctrMarg } := by
  have h : s.keepWake.otp = s.otp := (State.keepWake_keeps s).otp rfl
  rw [← h]
  cases warm <;> rfl

end Sys2Proof.Machine
end

section
/-!
SUPPORT. Resets of the device: the ports on their way through ErrorRecovery (R52), and what their turns leave.
-/

namespace Sys2Proof.Machine

/-! ### The ports on their way through ErrorRecovery -/

/-- Does a reset send the port to ErrorRecovery? -/
def State.recoversAt (s : State) (n : Fin 16) : Bool := s.portUp n && s.cc n != ccDisabled

/-- The port's own registers that a reset writes, before its island is powered and its Rd taken away. -/
def State.recoveredPort (before s : State) (n : Fin 16) : State :=
  ((s.modPort n (fun _ => { PortSt.reset with
      released := true, en := before.ports[n].en, role := before.ports[n].role, topo := before.ports[n].topo })).setCc n ccErrorRecovery).wr (PGT_STATUS.at n)
    ((before.errRec n).rd (PGT_STATUS.at n))

/-- The island powered again, and the port noted as recovering. -/
def State.poweredPort (s : State) (n : Fin 16) : State := (s.maskBit GLB_ISLPWR.ISL n.val true).modBoot (fun b => { b with recov := b.recov ++ [n.val] })

theorem State.islandUp_poweredPort (s : State) (n : Fin 16) {k : Nat} (hk : k < 21) :
    (s.poweredPort n).islandUp k = if k = n.val then true else s.islandUp k := by
  have h : (s.poweredPort n).islandUp k = (s.maskBit GLB_ISLPWR.ISL n.val true).islandUp k := rfl
  rw [h, State.islandUp_maskBit _ _ _ _ hk]

theorem State.cc_poweredPort (s : State) (n : Fin 16) : (s.poweredPort n).cc n = s.cc n := by
  have h : (s.poweredPort n).cc n = (s.maskBit GLB_ISLPWR.ISL n.val true).cc n := rfl
  exact h.trans (State.get_put_ne _ _ _ _ (portAddr_ne n (by decide)))

theorem State.recoverPort_eq {before : State} {n : Fin 16} (h : before.recoversAt n = true) (s : State) :
    before.recoverPort s n = if n.val < 2 ∧ ¬ s.boot.thermal then ((before.recoveredPort s n).poweredPort n).setRd n.val 0
      else (before.recoveredPort s n).poweredPort n := if_pos h

theorem State.recoverPort_of_not {before : State} {n : Fin 16} (h : before.recoversAt n = false) (s : State) : before.recoverPort s n = s :=
  if_neg (by rw [State.recoversAt] at h; simp [h])

/-- The registers that the recovery of port n writes. -/
def recoverArea (n : Fin 16) (a : Nat) : Bool := a == PCC_STATUS.at n || a == PGT_STATUS.at n || a == GLB_ISLPWR.at || a == SOF_DBSTAT.at

theorem State.recoverPort_regsKept (before s : State) (n : Fin 16) : s.regsKept (before.recoverPort s n) (recoverArea n) := by
  cases h : before.recoversAt n with
  | false =>
    rw [State.recoverPort_of_not h]
    exact .refl _ _
  | true =>
    have hown : s.regsKept (before.recoveredPort s n) (recoverArea n) := .wr (by simp [recoverArea]) <| .put (by simp [recoverArea]) <| .of_regs (.refl _ _) rfl
    have hmask : s.regsKept ((before.recoveredPort s n).maskBit GLB_ISLPWR.ISL n.val true) (recoverArea n) := .put (by simp [recoverArea]) hown
    have hpow : s.regsKept ((before.recoveredPort s n).poweredPort n) (recoverArea n) := .of_regs hmask rfl
    rw [State.recoverPort_eq h]
    exact .ite (fun _ => hpow.trans <| (State.setRd_regsKept _ _ _).mono fun a ha => (Bool.or_eq_false_iff.1 ha).2) fun _ => hpow

theorem State.islandUp_recoverPort (before s : State) (n : Fin 16) {k : Nat} (hk : k < 21) :
    (before.recoverPort s n).islandUp k = if k = n.val then before.recoversAt n || s.islandUp k else s.islandUp k := by
  cases h : before.recoversAt n with
  | false => simp [State.recoverPort_of_not h]
  | true =>
    have hown : s.regsKept (before.recoveredPort s n) (fun a => a == PCC_STATUS.at n || a == PGT_STATUS.at n) :=
      .wr (by simp) <| .put (by simp) <| .of_regs (.refl _ _) rfl
    have hpow : ((before.recoveredPort s n).poweredPort n).islandUp k = if k = n.val then true else s.islandUp k := by
      rw [State.islandUp_poweredPort _ _ hk, hown.islandUp (by simp [portBase, PCC_STATUS.at, PGT_STATUS.at, GLB_ISLPWR.at]; omega)]
    have hrd (u : State) : (u.setRd n.val 0).islandUp k = u.islandUp k := State.regsKept.islandUp (State.setRd_regsKept u _ _) rfl
    rw [State.recoverPort_eq h, Bool.true_or]
    split
    · rw [hrd, hpow]
    · exact hpow

theorem State.cc_recoverPort {before : State} {n : Fin 16} (h : before.recoversAt n = true) (s : State) : (before.recoverPort s n).cc n = ccErrorRecovery := by
  have hown : (before.recoveredPort s n).cc n = ccErrorRecovery := by
    refine (State.get_of_rd (State.rd_wr_ne _ _ ?_)).trans (State.get_put_same _ _ _ (Nat.le_of_ble_eq_true rfl))
    simp [PCC_STATUS.at, PGT_STATUS.at]
  have hpow : ((before.recoveredPort s n).poweredPort n).cc n = ccErrorRecovery := (State.cc_poweredPort _ n).trans hown
  have hrd (u : State) : (u.setRd n.val 0).cc n = u.cc n := State.regsKept.get (State.setRd_regsKept u _ _) (beq_eq_false_iff_ne.2 (portAddr_ne n (by decide)))
  rw [State.recoverPort_eq h]
  split
  · rw [hrd, hpow]
  · exact hpow

theorem State.cc_recoverPort_ne (before s : State) {m n : Fin 16} (h : m ≠ n) : (before.recoverPort s m).cc n = s.cc n :=
  (before.recoverPort_regsKept s m).get (by
    have : m.val ≠ n.val := fun e => h (Fin.ext e)
    simp [recoverArea, portBase, PCC_STATUS.at, PGT_STATUS.at, GLB_ISLPWR.at, SOF_DBSTAT.at]
    omega)

theorem State.port_recoverPort_ne (before s : State) {m n : Fin 16} (h : m ≠ n) : (before.recoverPort s m).ports[n] = s.ports[n] := by
  have hown : (before.recoveredPort s m).ports[n] = s.ports[n] := Vector.getElem_set_ne m.isLt n.isLt fun e => h (Fin.ext e)
  cases hr : before.recoversAt m with
  | false => rw [State.recoverPort_of_not hr]
  | true =>
    have hpow (u : State) : (u.poweredPort m).ports[n] = u.ports[n] := rfl
    have hrd (u : State) : (u.setRd m.val 0).ports[n] = u.ports[n] := rfl
    rw [State.recoverPort_eq hr]
    split
    · exact (hrd _).trans ((hpow _).trans hown)
    · exact (hpow _).trans hown

theorem State.boot_recoverPort (before s : State) (n : Fin 16) :
    (before.recoverPort s n).boot = { s.boot with recov := (before.recoverPort s n).boot.recov, rd := (before.recoverPort s n).boot.rd } ∧
      (s.boot.thermal = true → (before.recoverPort s n).boot.rd = s.boot.rd) := by
  cases h : before.recoversAt n with
  | false =>
    rw [State.recoverPort_of_not h]
    exact ⟨rfl, fun _ => rfl⟩
  | true =>
    rw [State.recoverPort_eq h]
    split
    · rename_i hcond
      exact ⟨rfl, fun ht => absurd ht hcond.2⟩
    · exact ⟨rfl, fun _ => rfl⟩

/-! ### The whole reset -/

/-- What the turns of the ports leave: the registers beyond their own and the device's Rd, the islands beyond the ports', and the boot state but for what is noted
of them. -/
theorem State.wholeReset_keeps_device (s : State) (warm : Bool) :
    (s.deviceReset warm).regsKept (s.wholeReset warm) (fun a => allPorts.any (fun n => recoverArea n a)) ∧
    (∀ k, 16 ≤ k → k < 21 → (s.wholeReset warm).islandUp k = (s.deviceReset warm).islandUp k) ∧
    (s.wholeReset warm).boot = { (s.deviceReset warm).boot with recov := (s.wholeReset warm).boot.recov, rd := (s.wholeReset warm).boot.rd } ∧
    ((s.deviceReset warm).boot.thermal = true → (s.wholeReset warm).boot.rd = (s.deviceReset warm).boot.rd) := by
  unfold State.wholeReset
  refine List.foldlRecOn (motive := fun (u : State) => (s.deviceReset warm).regsKept u (fun a => allPorts.any (fun n => recoverArea n a)) ∧
    (∀ k, 16 ≤ k → k < 21 → u.islandUp k = (s.deviceReset warm).islandUp k) ∧
    u.boot = { (s.deviceReset warm).boot with recov := u.boot.recov, rd := u.boot.rd } ∧
    ((s.deviceReset warm).boot.thermal = true → u.boot.rd = (s.deviceReset warm).boot.rd)) _ _ ⟨.refl _ _, fun _ _ _ => rfl, rfl, fun _ => rfl⟩
    fun u ⟨hregs, hisl, hboot, hrd⟩ n hn => ?_
  obtain ⟨hb, hr⟩ := s.boot_recoverPort u n
  refine ⟨hregs.trans ((s.recoverPort_regsKept u n).mono fun a ha => ?_), fun k h16 h21 => ?_, ?_, fun ht => ?_⟩
  · simp only [List.any_eq_false, Bool.not_eq_true] at ha
    exact ha n hn
  · rw [s.islandUp_recoverPort u n h21, if_neg (by omega), hisl k h16 h21]
  · rw [hb, hboot]
  · rw [hr (by rw [hboot]; exact ht), hrd ht]

/-- The islands of the ports that recover are up again and their ports in ErrorRecovery; the others stand at their reset values (R52). -/
theorem State.portsRecover_wholeReset (s : State) (warm : Bool) : s.portsRecover (s.wholeReset warm) := by
  obtain ⟨-, hisl, -, -⟩ := s.wholeReset_keeps_device warm
  have hisl' (k : Nat) (h16 : 16 ≤ k) (h21 : k < 21) : (s.wholeReset warm).islandUp k = decide (k = islSoffit) := by
    rw [hisl k h16 h21, s.islandUp_deviceReset warm h21]
  have hown (u : State) (n : Fin 16) := s.islandUp_recoverPort u n (k := n.val) (by omega)
  have hother (u : State) {m n : Fin 16} (h : m ≠ n) : (s.recoverPort u m).islandUp n.val = u.islandUp n.val := by
    rw [s.islandUp_recoverPort u m (by omega), if_neg fun e => h (Fin.ext e.symm)]
  refine ⟨fun n hup hcc => ?_, fun n hn => ?_, hisl' _ (by decide) (by decide), hisl' _ (by decide) (by decide), hisl' _ (by decide) (by decide)⟩
  · have hrec : s.recoversAt n = true := by simp [State.recoversAt, hup, hcc]
    refine State.foldl_allPorts_reaches (P := fun _ => True) (Q := fun u => u.cc n = ccErrorRecovery ∧ u.islandUp n.val = true) n (fun _ _ _ _ => trivial)
      (fun u _ => ⟨State.cc_recoverPort hrec u, ?_⟩) (fun u m hm ⟨hc, hi⟩ => ⟨?_, ?_⟩) trivial
    · rw [hown, if_pos rfl, hrec, Bool.true_or]
    · rw [s.cc_recoverPort_ne u hm, hc]
    · rw [hother u hm, hi]
  · have hrec : s.recoversAt n = false := by
      rcases hn with h | h <;> simp [State.recoversAt, h]
    have hstart : (s.deviceReset warm).ports[n] = PortSt.reset ∧ (s.deviceReset warm).islandUp n.val = false := by
      refine ⟨?_, (s.islandUp_deviceReset warm (by omega)).trans (decide_eq_false (by unfold islSoffit; omega))⟩
      have hports : (s.deviceReset warm).ports[n] = State.reset.ports[n] := by cases warm <;> rfl
      exact hports.trans (Vector.getElem_replicate _)
    refine List.foldlRecOn (motive := fun (u : State) => u.ports[n] = PortSt.reset ∧ u.islandUp n.val = false) _ _ hstart fun u hu m _ => ?_
    by_cases hm : m = n
    · rwa [hm, State.recoverPort_of_not hrec]
    · exact ⟨(s.port_recoverPort_ne u hm).trans hu.1, (hother u hm).trans hu.2⟩

end Sys2Proof.Machine
end

section
/-!
PROOF. The resets of the device command by command (R52, R53, R56, R57): a reset that is done at once, with its cause, and one that waits for a burn.
-/

namespace Sys2Proof.Machine

/-- A reset of the device done at once, with its cause: what it shows and what it keeps. -/
structure State.WasReset (s t : State) (warm : Bool) (code : Nat) : Prop where
  code : t.get SOF_RESET_LAST.CODE = code
  island : t.get SOF_RESET_LAST.ISLAND = islDevice
  inReset : t.boot.inReset = some (if warm then 2 else 1)
  stage : t.get GLB_BOOTSTAT.STAGE = if warm then 3 else 0
  ports : s.portsRecover t
  host : t.host = HostSt.reset
  otp : t.otp = if warm then s.otp else { OtpSt.reset with fuses := s.otp.fuses, ctr := s.otp.ctr, ctrMarg := s.otp.ctrMarg }
  mtr : t.mtr = s.mtr
  pending : t.pending = s.pending
  thermal : t.boot.thermal = s.boot.thermal
  rd : s.boot.thermal = true → t.boot.rd = [3, 3]
  refsrc : warm = true → t.get GLB_CLKSTAT.REFSRC = s.get GLB_CLKSTAT.REFSRC

/-- Recording a cause leaves the ports and the islands. -/
theorem State.portsRecover_cause {s u : State} (h : s.portsRecover u) (c i : Nat) : s.portsRecover (u.cause c i) := by
  have hregs := u.cause_regsKept c i
  have hports : (u.cause c i).ports = u.ports := (State.cause_keeps ..).ports rfl
  have hisl (k : Nat) : (u.cause c i).islandUp k = u.islandUp k := hregs.islandUp rfl
  have hcc (n : Fin 16) : (u.cause c i).cc n = u.cc n := hregs.get (by
    simp [causeArea, portBase, SOF_RESET_CAUSE.at, SOF_RESET_LAST.at, SOF_RESET_TIME.at, MTR_STAT.at]
    omega)
  obtain ⟨hup, hoff, hsoffit, hridge, hhost⟩ := h
  refine ⟨fun n hn hd => ?_, fun n hn => ?_, ?_, ?_, ?_⟩
  · rw [hcc, hisl]
    exact hup n hn hd
  · rw [hisl, hports]
    exact hoff n hn
  · rw [hisl, hsoffit]
  · rw [hisl, hridge]
  · rw [hisl, hhost]

theorem State.wasReset {s : State} (warm : Bool) {c : Nat} (hburn : s.otp.burn = none) (hc : c < 256) : s.WasReset (s.resetDevice warm c) warm c := by
  let w := s.wholeReset warm
  have ht : s.resetDevice warm c = w.cause c islDevice := if_neg (by rw [hburn]; decide)
  obtain ⟨hregs, -, hboot, hrd⟩ := s.wholeReset_keeps_device warm
  obtain ⟨hcode, hisland⟩ := w.get_last_cause hc (i := islDevice) (by decide)
  have hcause := w.cause_regsKept c islDevice
  have hk : w.Keeps (pRegs ||| pFreeCtr ||| pSlate ||| pBoot) (w.cause c islDevice) := State.cause_keeps ..
  have hd : (s.deviceReset warm).Keeps (pRegs ||| pFreeCtr ||| pRidge ||| pPorts ||| pSlices ||| pJtl ||| pBoot) w :=
    .foldl (fun u n hu => (s.recoverPort_keeps u n).step rfl hu) (.refl ..)
  have hs : s.Keeps (pRegs ||| pStaged ||| pFreeCtr ||| pHost ||| pRidge ||| pBat ||| pPorts ||| pSlices ||| pJtl ||| pSoffit ||| pOtp ||| pRunning |||
    pTha ||| pUpd ||| pBoot) w := State.wholeReset_keeps ..
  have hthermal : w.boot.thermal = s.boot.thermal := by rw [hboot, s.boot_deviceReset]
  have hcboot := w.cause_boot c islDevice
  rw [ht]
  refine ⟨hcode, hisland, ?_, ?_, State.portsRecover_cause (s.portsRecover_wholeReset warm) _ _, ?_, ?_, ?_, ?_, ?_, fun h => ?_, fun h => ?_⟩
  · rw [hcboot, hboot, s.boot_deviceReset]
  · rw [hcause.get rfl, hregs.get (by decide), s.stage_deviceReset]
  · rw [hk.host rfl, hd.host rfl, (s.ports_deviceReset warm).2]
  · rw [hk.otp rfl, hd.otp rfl, s.otp_deviceReset]
  · rw [hk.mtr rfl, hs.mtr rfl]
  · rw [hk.pending rfl, hs.pending rfl]
  · rw [hcboot, hthermal]
  · have hth : (s.deviceReset warm).boot.thermal = true := by rw [s.boot_deviceReset, h]
    rw [hcboot, hrd hth, s.boot_deviceReset]
    exact if_pos h
  · subst h
    rw [hcause.get rfl, hregs.get (by decide), s.refsrc_deviceReset]

theorem powerOnReset_resets (s : State) :
    Next .powerOnReset s fun t =>
      t.regs = [] ∧ t.staged = [] ∧ t.ports = State.reset.ports ∧ t.slices = State.reset.slices ∧ t.host = HostSt.reset ∧ t.boot = BootSt.reset ∧
      t.otp = { OtpSt.reset with fuses := s.otp.fuses, ctr := s.otp.ctr, ctrMarg := s.otp.ctrMarg } ∧
      t.slate = { s.slate with buf := [], retry := none } ∧ t.upd.dir = s.upd.dir ∧ t.upd.slots = s.upd.slots ∧ t.pending = s.pending :=
  .of_done rfl ⟨rfl, rfl, rfl, rfl, rfl, rfl, rfl, rfl, rfl, rfl, rfl⟩

theorem thermalShutdown_resets (s : State) (hburn : s.otp.burn = none) :
    Next .thermalShutdown s fun t =>
      t.get SOF_RESET_LAST.CODE = 0x02 ∧ t.get SOF_RESET_LAST.ISLAND = 31 ∧ t.boot.thermal = true ∧ t.boot.rd = [3, 3] ∧ t.boot.inReset = some 1 ∧
      t.get GLB_BOOTSTAT.STAGE = 0 ∧ s.portsRecover t ∧
      t.host = HostSt.reset ∧ t.mtr = s.mtr ∧ t.otp.fuses = s.otp.fuses ∧ t.pending = s.pending := by
  have h := State.wasReset (s := s.modBoot (fun b => { b with thermal := true, rd := [3, 3] })) false (c := 0x02) hburn (by decide)
  exact .of_done rfl ⟨h.code, h.island, h.thermal, h.rd rfl, h.inReset, h.stage, h.ports, h.host, h.mtr, by rw [h.otp]; rfl, h.pending⟩

theorem thermalShutdown_waits (s : State) (hburn : s.otp.burn.isSome = true) :
    Next .thermalShutdown s fun t =>
      t = { s with boot := { s.boot with thermal := true, rd := [3, 3], waiting := s.boot.waiting ++ [256 + 2] } } :=
  .of_done (congrArg done (if_pos hburn)) rfl

theorem rstN_resets (s : State) (ns : Nat) (hns : 1000 ≤ ns) (hburn : s.otp.burn = none) :
    Next (.rstN ns) s fun t =>
      t.get SOF_RESET_LAST.CODE = 0x05 ∧ t.get SOF_RESET_LAST.ISLAND = 31 ∧ t.boot.inReset = some 1 ∧
      t.get GLB_BOOTSTAT.STAGE = 0 ∧ s.portsRecover t ∧
      t.host = HostSt.reset ∧ t.mtr = s.mtr ∧ t.otp.fuses = s.otp.fuses ∧ t.pending = s.pending := by
  have h := State.wasReset false (c := 0x05) hburn (by decide)
  exact .of_done ((if_neg (by omega)).trans (if_pos hns)) ⟨h.code, h.island, h.inReset, h.stage, h.ports, h.host, h.mtr, by rw [h.otp]; rfl, h.pending⟩

theorem rstN_glitch (s : State) (ns : Nat) (hns : ns < 200) : Next (.rstN ns) s fun t => t = s := .of_done (if_pos hns) rfl

/-- A key that the register takes is answered with OK before the command is done (R52). -/
theorem State.resetWrite_of_accepts {s : State} {hp : HostPort} {key : Byte} {kind : Nat} {v : Word} (hv : BitVec.ofNat 32 (key.toNat * 2 ^ 24 + kind) = v)
    (h : s.accepts hp [(GLB_RESET.at, v)]) : s.resetWrite hp key kind = (s.endWith hp stOK 0 0).resetCmd v := by
  obtain ⟨hlisten, hjudge⟩ := h
  dsimp only [State.resetWrite]
  rw [hv, if_neg (by simp [hlisten]), hjudge]
  rfl

theorem State.resetCmd_cold (s : State) : s.resetCmd 0x5A000001 = s.resetDevice false 0x06 := rfl

theorem State.resetCmd_warm (s : State) : s.resetCmd 0x5A000002 = s.resetDevice true 0x10 := rfl

theorem State.resetCmd_relay (s : State) : s.resetCmd 0x5A000003 = s.askRelay (if s.bit UPD_STAT.NEXTBOOT then 1 else 0) 0x11 0 :=
  rfl

theorem resetCold_resets (s : State) (hp : HostPort) (hacc : s.accepts hp [(GLB_RESET.at, 0x5A000001)]) (hburn : s.otp.burn = none) :
    Next (.resetCold hp 0x5A) s fun t =>
      t.get SOF_RESET_LAST.CODE = 0x06 ∧ t.get SOF_RESET_LAST.ISLAND = 31 ∧ t.boot.inReset = some 1 ∧ t.get GLB_BOOTSTAT.STAGE = 0 ∧
      s.portsRecover t ∧ t.otp.shadow = [] ∧ t.host = HostSt.reset ∧ t.mtr = s.mtr ∧ t.pending = s.pending := by
  have h := State.wasReset (s := s.endWith hp stOK 0 0) false (c := 0x06) hburn (by decide)
  exact .of_done (congrArg done ((State.resetWrite_of_accepts (by decide) hacc).trans (State.resetCmd_cold _)))
    ⟨h.code, h.island, h.inReset, h.stage, h.ports, by rw [h.otp]; rfl, h.host, h.mtr, h.pending⟩

theorem resetWarm_resets (s : State) (hp : HostPort) (hacc : s.accepts hp [(GLB_RESET.at, 0x5A000002)]) (hburn : s.otp.burn = none) :
    Next (.resetWarm hp 0x5A) s fun t =>
      t.get SOF_RESET_LAST.CODE = 0x10 ∧ t.get SOF_RESET_LAST.ISLAND = 31 ∧ t.boot.inReset = some 2 ∧ t.get GLB_BOOTSTAT.STAGE = 3 ∧
      s.portsRecover t ∧ t.otp = s.otp ∧ t.host = HostSt.reset ∧ t.get GLB_CLKSTAT.REFSRC = s.get GLB_CLKSTAT.REFSRC ∧ t.mtr = s.mtr ∧
      t.pending = s.pending := by
  have h := State.wasReset (s := s.endWith hp stOK 0 0) true (c := 0x10) hburn (by decide)
  exact .of_done (congrArg done ((State.resetWrite_of_accepts (by decide) hacc).trans (State.resetCmd_warm _)))
    ⟨h.code, h.island, h.inReset, h.stage, h.ports, h.otp, h.host, h.refsrc rfl, h.mtr, h.pending⟩

theorem resetRelay_asks (s : State) (hp : HostPort) (hacc : s.accepts hp [(GLB_RESET.at, 0x5A000003)]) (hrelay : s.upd.relay = none) :
    Next (.resetRelay hp 0x5A) s fun t =>
      t.upd.relay = some { kind := if s.bit UPD_STAT.NEXTBOOT then 1 else 0, cause := 0x11, ev := 0, apply := none, started := none, rotated := false } ∧
      s.hostSays t hp stOK 0 0 ∧ t = { s with host := t.host, upd := { s.upd with relay := t.upd.relay } } := by
  have hask : (s.endWith hp stOK 0 0).askRelay (if s.bit UPD_STAT.NEXTBOOT then 1 else 0) 0x11 0 = (s.endWith hp stOK 0 0).modUpd (fun u => { u with
      relay := some { kind := if s.bit UPD_STAT.NEXTBOOT then 1 else 0, cause := 0x11, ev := 0, apply := none, started := none, rotated := false } }) :=
    if_neg (by rw [show (s.endWith hp stOK 0 0).upd.relay = none from hrelay]; decide)
  exact .of_done (congrArg done ((State.resetWrite_of_accepts (by decide) hacc).trans ((State.resetCmd_relay _).trans hask))) ⟨rfl, rfl, rfl⟩

/-- Settles O5: the resets from power-on to the two of the host, and the relay that the third one asks for. -/
theorem deviceResets : Obligations.DeviceResets := by
  unfold Obligations.DeviceResets
  exact ⟨powerOnReset_resets, thermalShutdown_resets, thermalShutdown_waits, rstN_resets, rstN_glitch, resetCold_resets, resetWarm_resets, resetRelay_asks⟩

end Sys2Proof.Machine
end

section
/-!
SUPPORT. Level 1 (R38, R41, R51): the island that a supplied service port gets, and what its release shows of itself.
-/

namespace Sys2Proof.Machine

/-! ### A port's registers at their reset values, and its stage's slices -/

/-- The registers of port n's own block and those of the slices. -/
def portArea (n : Fin 16) (a : Nat) : Bool := inPort n a || inSlices a

theorem portArea_port (n : Fin 16) {d : Nat} (h : d < 0x1000) : portArea n (portBase n.val + d) = true := by simp [portArea, inPort_off n h]

theorem portArea_slice (n : Fin 16) (k : Fin 48) {d : Nat} (h : d < 0x100) : portArea n (sliceBase k.val + d) = true := by simp [portArea, inSlices_off k h]

theorem portArea_eq_false {n : Fin 16} {a : Nat} (h : a < 0x3000) : portArea n a = false := by
  simp [portArea, inPort, inSlices, within, portBase, sliceBase]
  omega

theorem State.dropPortRegs_regsKept (s : State) (n : Fin 16) : s.regsKept (s.dropPortRegs n) (portArea n) := by
  have hown : s.regsKept (s.dropRegs (portBase n.val) (portBase n.val + 0x1000)) (portArea n) :=
    .dropRegs (.refl _ _) fun a ha => by simp [portArea, inPort, ha]
  refine .foldl (fun u k hu => .ite (fun _ => ?_) fun _ => hu) hown
  have hslice : s.regsKept (u.dropRegs (sliceBase k.val) (sliceBase k.val + 0x100)) (portArea n) := hu.dropRegs fun a ha => by
    simp only [portArea, inSlices, within, sliceBase, Bool.and_eq_true, decide_eq_true_eq, Bool.or_eq_true] at ha ⊢
    omega
  exact hslice.of_regs rfl

theorem State.regsKept.nameLegs {s t : State} {n : Fin 16} {legs : List Nat} (h : s.regsKept t (portArea n)) : s.regsKept (t.nameLegs n legs) (portArea n) := by
  refine .foldl (fun u x hu => ?_) h
  split
  · exact .put (portArea_slice _ _ (by decide)) <| .put (portArea_slice _ _ (by decide)) <| .put (portArea_slice _ _ (by decide)) <|
      hu.put (portArea_slice _ _ (by decide))
  · exact hu

theorem State.regsKept.restartDt {s t : State} {n : Fin 16} {k : Fin 48} (h : s.regsKept t (portArea n)) : s.regsKept (t.restartDt k) (portArea n) :=
  .put (portArea_slice _ _ (by decide)) <| .put (portArea_slice _ _ (by decide)) <| .put (portArea_slice _ _ (by decide)) <|
    .put (portArea_slice _ _ (by decide)) <| h.of_regs rfl

theorem State.ActsOn.firstState {s t : State} {n : Fin 16} (h : s.ActsOn n true (fun _ => True) t) : s.ActsOn n true (fun _ => True) (t.firstState n) :=
  .ite (fun _ => h) fun _ => .startCheck <| .ite (fun _ => h.enterDisabled trivial) fun _ =>
    h.enterUnattached (fun _ => ⟨trivial, trivial⟩) fun _ => ⟨trivial, trivial⟩

/-! ### The release of a service port at level 1 (R38, R41) -/

/-- The port as level 1 sets it up: a service port on the ROM's policy. -/
def PortSt.service (p : PortSt) : PortSt :=
  { PortSt.reset with latched := p.latched, vconnLatched := p.vconnLatched, released := true, en := true, role := 1, topo := 1, rom := true }

/-- The port's island powered, with the port set up in it. -/
def State.servicePower (s : State) (n : Fin 16) : State := ((s.dropPortRegs n).modPort n PortSt.service).maskBit GLB_ISLPWR.ISL n.val true

/-- The registers of the port and of its stage, from the fuse array. -/
def State.serviceRegs (s : State) (n : Fin 16) : State :=
  let t := s.nameLegs n [3 * n.val, 3 * n.val + 1]
  let prd := wideField (t.svcWord n.val 0) 49 34
  let prd := if 100 ≤ prd ∧ prd ≤ 4000 then prd else 500
  let rs := wideField (t.svcWord n.val 0) 33 26
  let t := (t.legsOf n).foldl (fun u k => (u.put (RAF_PERIOD.PRD k) prd).restartDt k) t
  let t := (t.put (PLP_CFG.RSHUNT n) (if rs = 0 then 50 else rs)).put (PPD_VDMCFG.VID n) t.otpVid
  (((t.giveLatches n).startRole n).put (PGT_STATUS.SAFE0 n) 1).raise (PEV_STATUS.DIR n)

/-- The device's own marks of level 1. -/
def State.serviceMarks (s : State) (n : Fin 16) : State := ((s.put SOF_DBSTAT.SVCPORT (n.val + 1)).raise SOF_DBSTAT.LEVEL1).put GLB_BOOTSTAT.LEVEL 1

theorem State.serviceUp_eq (s : State) (n : Fin 16) :
    s.serviceUp n = (((((s.servicePower n).serviceRegs n).serviceMarks n).setRd n.val 2).setP n 0).firstState n := rfl

theorem State.serviceRegs_regsKept (s : State) (n : Fin 16) : s.regsKept (s.serviceRegs n) (portArea n) := by
  unfold State.serviceRegs
  extract_lets t1 p1 prd rs t2 t3
  have h2 : s.regsKept t2 (portArea n) := .foldl (fun _ k hu => .restartDt <| hu.put (portArea_slice _ k (by decide))) (.nameLegs <| .refl _ _)
  have h3 : s.regsKept t3 (portArea n) := .put (portArea_port n (by decide)) <| h2.put (portArea_port n (by decide))
  exact .put (portArea_port n (by decide)) <| .put (portArea_port n (by decide)) <| .put (portArea_port n (by decide)) <| .put (portArea_port n (by decide)) <|
    h3.put (portArea_port n (by decide))

theorem State.serviceRegs_keeps (s : State) (n : Fin 16) : s.Keeps (pRegs ||| pSlices) (s.serviceRegs n) := by
  unfold State.serviceRegs
  extract_lets t1 p1 prd rs t2 t3
  have k2 : s.Keeps (pRegs ||| pSlices) t2 := .foldl (fun u k hu => (State.restartDt_keeps _ k).step rfl <| (State.put_keeps ..).step rfl hu) <|
    (State.nameLegs_keeps ..).step rfl <| .refl ..
  exact (State.raise_keeps ..).step rfl <| (State.put_keeps ..).step rfl <| (State.startRole_keeps ..).step rfl <| (State.giveLatches_keeps ..).step rfl <|
    (State.put_keeps ..).step rfl <| (State.put_keeps ..).step rfl k2

theorem State.serviceMarks_keeps (s : State) (n : Fin 16) : s.Keeps pRegs (s.serviceMarks n) :=
  (State.put_keeps ..).step rfl <| (State.raise_keeps ..).step rfl <| (State.put_keeps ..).step rfl <| .refl ..

theorem State.servicePower_spec (s : State) (n : Fin 16) :
    s.regsKept (s.servicePower n) (fun a => portArea n a || a == GLB_ISLPWR.at) ∧
    (∀ k, k < 21 → (s.servicePower n).islandUp k = if k = n.val then true else s.islandUp k) ∧
    (s.servicePower n).ports[n] = s.ports[n].service ∧ s.portsBut (s.servicePower n) [n] ∧ (s.servicePower n).boot = s.boot := by
  let d := s.dropPortRegs n
  have hd : s.regsKept (d.modPort n PortSt.service) (portArea n) := (s.dropPortRegs_regsKept n).of_regs rfl
  have hk : s.Keeps (pRegs ||| pStaged ||| pSlices) d := State.dropPortRegs_keeps ..
  have hports : d.ports = s.ports := hk.ports rfl
  have hmask (u : State) : (u.maskBit GLB_ISLPWR.ISL n.val true).ports = u.ports := rfl
  refine ⟨.put (by simp) <| hd.mono fun a ha => (Bool.or_eq_false_iff.1 ha).1, fun k hk => ?_, ?_, fun m hm => ?_, hk.boot rfl⟩
  · refine (State.islandUp_maskBit _ _ _ _ hk).trans ?_
    rw [hd.islandUp (portArea_eq_false (by decide))]
  · refine (State.modPort_port_same d n _).trans ?_
    simp only [hports]
  · refine (State.modPort_port_ne d _ (by simpa using hm)).trans ?_
    simp only [hports]

/-- Level 1 on port n: its island is up on the ROM's policy, the marks of level 1 stand, and beyond them the policy of the port alone acted. -/
structure State.AtLevel1 (s t : State) (n : Fin 16) : Prop where
  regs : s.regsKept t (fun a => policyArea n a || a == GLB_ISLPWR.at || a == GLB_BOOTSTAT.at || a == SOF_DBSTAT.at)
  islandUp (k : Nat) : k < 21 → t.islandUp k = if k = n.val then true else s.islandUp k
  svcport : t.get SOF_DBSTAT.SVCPORT = n.val + 1
  level1 : t.get SOF_DBSTAT.LEVEL1 = 1
  level : t.get GLB_BOOTSTAT.LEVEL = 1
  rom : t.ports[n].rom = true
  ports : s.portsBut t [n]
  boot : t.boot = { s.boot with rd := t.boot.rd }

theorem State.atLevel1 (s : State) {n : Fin 16} (hn : n.val < 2) : s.AtLevel1 (s.serviceUp n) n := by
  let p := s.servicePower n
  let r := p.serviceRegs n
  let m := r.serviceMarks n
  obtain ⟨hpregs, hpisl, hpport, hpports, hpboot⟩ := s.servicePower_spec n
  have hr : p.regsKept r (portArea n) := p.serviceRegs_regsKept n
  have hrk : p.Keeps (pRegs ||| pSlices) r := p.serviceRegs_keeps n
  have hmk : p.Keeps (pRegs ||| pSlices) m := (r.serviceMarks_keeps n).step rfl hrk
  have hmports : m.ports = p.ports := hmk.ports rfl
  have hmboot : m.boot = s.boot := (hmk.boot rfl).trans hpboot
  have hm : r.regsKept m (fun a => a == GLB_BOOTSTAT.at || a == SOF_DBSTAT.at) := .put rfl <| .put rfl <| .put rfl <| .refl _ _
  have hact : m.ActsOn n true (fun _ => True) (s.serviceUp n) := by
    rw [State.serviceUp_eq]
    exact .firstState <| .putOwn (by decide) <| .setRd hn <| .start m n true
  have hsetup := hact.setup n
  refine ⟨fun a ha => ?_, fun k hk => ?_, ?_, ?_, ?_, ?_, fun j hj => ?_, ?_⟩
  · simp only [Bool.or_eq_false_iff] at ha
    obtain ⟨⟨⟨hpol, hisl⟩, hboot⟩, hdb⟩ := ha
    have hport : portArea n a = false := by
      simp only [policyArea, Bool.or_eq_false_iff] at hpol
      simp [portArea, hpol]
    rw [hact.regs a hpol, hm a (by simp [hboot, hdb]), hr a hport, hpregs a (by simp [hport, hisl])]
  · rw [hact.regs.islandUp (policyArea_eq_false (by decide) (by decide)), hm.islandUp rfl, hr.islandUp (portArea_eq_false (by decide)), hpisl k hk]
  · rw [hact.dbstat _ rfl]
    refine (State.get_put_ne _ _ _ _ (by decide)).trans ((State.get_put_apart _ _ rfl).trans ((State.get_put_same _ _ _ (by decide)).trans ?_))
    exact Nat.mod_eq_of_lt (show n.val + 1 < 4 by omega)
  · rw [hact.dbstat _ rfl]
    exact (State.get_put_ne _ _ _ _ (by decide)).trans (State.get_raise _ (by decide) (by decide))
  · rw [hact.regs.get (policyArea_eq_false (by decide) (by decide))]
    exact State.get_put_same _ _ _ (by decide)
  · have h : (s.serviceUp n).ports[n].setup = p.ports[n].setup := hsetup.trans (by simp only [hmports])
    rw [hpport] at h
    exact congrArg (fun x => x.2.2.2) h
  · exact (hact.ports rfl j hj).trans <| (by simp only [hmports] : m.ports[j] = p.ports[j]).trans (hpports j hj)
  · rw [hact.boot, hmboot]

end Sys2Proof.Machine
end

section
/-!
PROOF. Level 1 and its end (R35, R38, R41, R43, R58): the dead-battery sequence, the samples of the service supplies, the end of the service LDO and of a
reverse push.
-/

namespace Sys2Proof.Machine

/-! ### The service supplies -/

theorem State.seeService_regsKept (s : State) (v0 v1 : Bool) : s.regsKept (s.seeService v0 v1) (fun a => a == GLB_SUPSTAT.at) := .put rfl <| .put rfl <| .refl _ _

theorem State.bit_seeService (s : State) (v0 v1 : Bool) :
    (s.seeService v0 v1).bit GLB_SUPSTAT.VBUS0SVC = v0 ∧ (s.seeService v0 v1).bit GLB_SUPSTAT.VBUS1SVC = v1 :=
  ⟨(State.bit_put_apart _ _ rfl).trans (State.bit_flag _ _ (by decide) (by decide)), State.bit_flag _ _ (by decide) (by decide)⟩

theorem State.vddok_seeService (s : State) (v0 v1 : Bool) : (s.seeService v0 v1).bit GLB_SUPSTAT.VDDOK = s.bit GLB_SUPSTAT.VDDOK :=
  (State.bit_put_apart _ _ rfl).trans (State.bit_put_apart _ _ rfl)

/-- The port that level 1 takes: the first one supplied. -/
def servicePort (v0 : Bool) : Fin 16 := if v0 then 0 else 1

/-- The choice among the supplied ports (R38, R41). -/
theorem State.chooseService_of_supply {s : State} {v0 v1 : Bool} (h0 : s.bit GLB_SUPSTAT.VBUS0SVC = v0) (h1 : s.bit GLB_SUPSTAT.VBUS1SVC = v1)
    (hv : (v0 || v1) = true) : s.chooseService = (s.modBoot (fun b => { b with sampling := false })).serviceUp (servicePort v0) := by
  unfold State.chooseService
  rw [h0, h1]
  cases v0
  · rw [if_neg (by decide), if_pos (by simpa using hv)]
    rfl
  · rfl

theorem State.chooseService_of_none {s : State} (h0 : s.bit GLB_SUPSTAT.VBUS0SVC = false) (h1 : s.bit GLB_SUPSTAT.VBUS1SVC = false) :
    s.chooseService = s.modBoot (fun b => { b with sampling := true }) := by
  unfold State.chooseService
  rw [h0, h1]
  rfl

/-- Level 1 leaves the supply's registers and those of the fuse array. -/
theorem State.AtLevel1.rd {s t : State} {n : Fin 16} (h : s.AtLevel1 t n) {a : Nat} (ha : a < 0x3000)
    (hx : a ≠ GLB_ISLPWR.at ∧ a ≠ GLB_BOOTSTAT.at ∧ a ≠ SOF_DBSTAT.at) : t.rd a = s.rd a :=
  h.regs a (by simp [policyArea_eq_false ha hx.2.2, hx])

theorem serviceVbusSample_boots (s : State) (v0 v1 : Bool) (hsample : s.boot.sampling = true) (hvdd : s.bit GLB_SUPSTAT.VDDOK = false) (hv : v0 || v1) :
    Next (.serviceVbusSample v0 v1) s fun t =>
      t.bit GLB_SUPSTAT.VBUS0SVC = v0 ∧ t.bit GLB_SUPSTAT.VBUS1SVC = v1 ∧ t.boot.sampling = false ∧
      t.get SOF_DBSTAT.SVCPORT = (if v0 then 1 else 2) ∧ t.get SOF_DBSTAT.LEVEL1 = 1 ∧ t.get GLB_BOOTSTAT.LEVEL = 1 ∧
      t.ports[(if v0 then 0 else 1 : Fin 16)].rom = true ∧ s.portsBut t [if v0 then 0 else 1] ∧
      t.otp = s.otp ∧ t.upd = s.upd ∧ t.host = s.host ∧ t.pending = s.pending := by
  let e := s.seeService v0 v1
  let b := e.modBoot (fun b => { b with sampling := false })
  let t := b.serviceUp (servicePort v0)
  obtain ⟨h0, h1⟩ := s.bit_seeService v0 v1
  have hexec : exec (.serviceVbusSample v0 v1) s = done t :=
    congrArg done ((if_pos (by rw [hsample, hvdd, hv]; rfl)).trans (State.chooseService_of_supply h0 h1 hv))
  have hlevel : b.AtLevel1 t (servicePort v0) := b.atLevel1 (by cases v0 <;> decide)
  have hsup : t.rd GLB_SUPSTAT.at = e.rd GLB_SUPSTAT.at := hlevel.rd (by decide) (by decide)
  have hkeeps : s.Keeps (pRegs ||| pStaged ||| pFreeCtr ||| pBat ||| pPorts ||| pSlices ||| pBoot) t :=
    (State.serviceUp_keeps ..).step rfl <| (State.modBoot_keeps ..).step rfl <| (State.seeService_keeps ..).step rfl <| .refl ..
  refine .of_done hexec ⟨?_, ?_, ?_, ?_, hlevel.level1, hlevel.level, hlevel.rom, hlevel.ports, hkeeps.otp rfl, hkeeps.upd rfl, hkeeps.host rfl,
    hkeeps.pending rfl⟩
  · exact (State.bit_of_rd (f := GLB_SUPSTAT.VBUS0SVC) hsup).trans h0
  · exact (State.bit_of_rd (f := GLB_SUPSTAT.VBUS1SVC) hsup).trans h1
  · rw [hlevel.boot]
    rfl
  · rw [hlevel.svcport]
    cases v0 <;> rfl

theorem State.otp_readOtp_unread (s : State) (reads : List OtpRead) (cs : CtrReads) {w : Nat} (h : ∀ r ∈ reads, r.word.toNat ≠ w) :
    wideGet (s.readOtp reads cs).otp.fuses w = wideGet s.otp.fuses w := by
  rw [s.otp_readOtp reads cs]
  exact ((((s.wr OTP_RESULT.at 0).wr OTP_MARG.at 0).wr OTP_TRIMFB.at 0).readWordsAt_unread reads (fun _ c => c == 3) h).1

/-- The lock of the device clock at a supplied service port, before the array is read (R38, R45). -/
theorem State.lock_at_service (s : State) (v0 v1 : Bool) (hloaded : s.bit OTP_STAT.LOADED = false) (hthermal : s.boot.thermal = false)
    (hreset : s.boot.inReset = some 0) :
    (s.seeService v0 v1).soffitUp.followFeed.islandUp islSoffit = true ∧
    (s.seeService v0 v1).soffitUp.followFeed.bit GLB_SUPSTAT.VBUS0SVC = v0 ∧ (s.seeService v0 v1).soffitUp.followFeed.bit GLB_SUPSTAT.VBUS1SVC = v1 ∧
    (s.seeService v0 v1).soffitUp.followFeed.wantsOtp = true ∧ (s.seeService v0 v1).soffitUp.followFeed.otp = s.otp := by
  let e := s.seeService v0 v1
  let k := e.soffitUp
  let f := k.followFeed
  obtain ⟨hup, hregs, -, heq⟩ := e.soffitUp_spec
  obtain ⟨h0, h1⟩ := s.bit_seeService v0 v1
  have hfeed : k.regsKept f (fun a => a == GLB_SUPSTAT.at) := k.followFeed_regsKept
  have hfk : k.Keeps (pRegs ||| pBat) f := State.followFeed_keeps k
  have hfup : f.islandUp islSoffit = true := (hfeed.islandUp rfl).trans hup
  have hload : f.bit OTP_STAT.LOADED = false := (hfeed.bit rfl).trans ((hregs.bit rfl).trans (((s.seeService_regsKept v0 v1).bit rfl).trans hloaded))
  have hboot : f.boot = { s.boot with causeAt := k.boot.causeAt } := (hfk.boot rfl).trans (congrArg State.boot heq)
  refine ⟨hfup, ?_, ?_, ?_, (hfk.otp rfl).trans ((State.soffitUp_keeps e).otp rfl)⟩
  · exact (State.bit_of_get (k.get_followFeed (.inr rfl))).trans ((hregs.bit rfl).trans h0)
  · exact (State.bit_of_get (k.get_followFeed (.inr rfl))).trans ((hregs.bit rfl).trans h1)
  · change f.wantsOtp = true
    rw [State.wantsOtp, hfup, hload, hboot, hthermal, hreset]
    rfl

theorem deadBatterySequence_boots (s : State) (v0 v1 : Bool) (reads : List OtpRead) (cs : CtrReads) (hvdd : s.bit GLB_SUPSTAT.VDDOK = false)
    (hloaded : s.bit OTP_STAT.LOADED = false) (hthermal : s.boot.thermal = false) (hreset : s.boot.inReset = some 0) :
    Next (.deadBatterySequence v0 v1 reads cs) s fun t =>
      t.get OTP_STAT.LOADED = 1 ∧ t.islandUp islSoffit = true ∧
      t.bit GLB_SUPSTAT.VBUS0SVC = v0 ∧ t.bit GLB_SUPSTAT.VBUS1SVC = v1 ∧
      (v0 = true → t.get SOF_DBSTAT.SVCPORT = 1 ∧ t.islandUp 0 = true ∧ t.ports[(0 : Fin 16)].rom = true) ∧
      (v0 = false → v1 = true → t.get SOF_DBSTAT.SVCPORT = 2 ∧ t.islandUp 1 = true ∧ t.ports[(1 : Fin 16)].rom = true) ∧
      (v0 || v1 → t.get SOF_DBSTAT.LEVEL1 = 1 ∧ t.get GLB_BOOTSTAT.LEVEL = 1 ∧ t.boot.sampling = false) ∧
      (v0 = false → v1 = false → t.boot.sampling = true) ∧
      (∀ w : Fin 512, reads.all (fun r => r.word.toNat != w.val) = true → wideGet t.otp.fuses w.val = wideGet s.otp.fuses w.val) ∧ t.upd = s.upd ∧
      t.host = s.host ∧ t.pending = s.pending := by
  let f := (s.seeService v0 v1).soffitUp.followFeed
  let u := f.readOtp reads cs
  let t := u.chooseService
  obtain ⟨hup, h0, h1, hwants, hotp⟩ := s.lock_at_service v0 v1 hloaded hthermal hreset
  have hexec : exec (.deadBatterySequence v0 v1 reads cs) s = done t := if_pos (by rw [hvdd, hwants]; rfl)
  obtain ⟨huregs, huloaded⟩ := f.readOtp_regs reads cs
  have hu0 : u.bit GLB_SUPSTAT.VBUS0SVC = v0 := (huregs.bit rfl).trans h0
  have hu1 : u.bit GLB_SUPSTAT.VBUS1SVC = v1 := (huregs.bit rfl).trans h1
  have huup : u.islandUp islSoffit = true := (huregs.islandUp rfl).trans hup
  have htotp : t.otp = u.otp := (State.chooseService_keeps u).otp rfl
  have hfuses (w : Fin 512) (hw : reads.all (fun r => r.word.toNat != w.val) = true) : wideGet t.otp.fuses w.val = wideGet s.otp.fuses w.val := by
    rw [htotp, ← hotp]
    exact f.otp_readOtp_unread reads cs fun r hr => by simpa using List.all_eq_true.1 hw r hr
  have hkeeps : s.Keeps (pRegs ||| pStaged ||| pFreeCtr ||| pBat ||| pPorts ||| pSlices ||| pOtp ||| pSlate ||| pBoot) t :=
    (State.chooseService_keeps u).step rfl <| (State.readOtp_keeps ..).step rfl <| (State.followFeed_keeps _).step rfl <| (State.soffitUp_keeps _).step rfl <|
      (State.seeService_keeps ..).step rfl <| .refl ..
  by_cases hv : (v0 || v1) = true
  · have hchoose : t = (u.modBoot (fun b => { b with sampling := false })).serviceUp (servicePort v0) := State.chooseService_of_supply hu0 hu1 hv
    have hlevel : (u.modBoot (fun b => { b with sampling := false })).AtLevel1 t (servicePort v0) := hchoose ▸ State.atLevel1 _ (by cases v0 <;> decide)
    have hsup : t.rd GLB_SUPSTAT.at = u.rd GLB_SUPSTAT.at := hlevel.rd (by decide) (by decide)
    have hload : t.rd OTP_STAT.at = u.rd OTP_STAT.at := hlevel.rd (by decide) (by decide)
    have hisl (n : Fin 16) (hn : servicePort v0 = n) : t.islandUp n.val = true := by
      rw [hlevel.islandUp n.val (by omega), hn, if_pos rfl]
    have hsoffit : t.islandUp islSoffit = true := by
      rw [hlevel.islandUp islSoffit (by decide)]
      split
      · rfl
      · exact huup
    refine .of_done hexec ⟨(State.get_of_rd (f := OTP_STAT.LOADED) hload).trans huloaded, hsoffit, (State.bit_of_rd (f := GLB_SUPSTAT.VBUS0SVC) hsup).trans hu0,
      (State.bit_of_rd (f := GLB_SUPSTAT.VBUS1SVC) hsup).trans hu1, ?_, ?_, fun _ => ⟨hlevel.level1, hlevel.level, ?_⟩, fun e0 e1 => ?_, hfuses, hkeeps.upd rfl,
      hkeeps.host rfl, hkeeps.pending rfl⟩
    · rintro rfl
      exact ⟨hlevel.svcport, hisl 0 rfl, hlevel.rom⟩
    · rintro rfl -
      exact ⟨hlevel.svcport, hisl 1 rfl, hlevel.rom⟩
    · rw [hlevel.boot]
      rfl
    · rw [e0, e1] at hv
      cases hv
  · obtain ⟨rfl, rfl⟩ : v0 = false ∧ v1 = false := by simpa using hv
    have hchoose : t = u.modBoot (fun b => { b with sampling := true }) := State.chooseService_of_none hu0 hu1
    rw [hchoose] at hexec hfuses hkeeps
    exact .of_done hexec ⟨huloaded, huup, hu0, hu1, nofun, nofun, fun h => absurd h hv, fun _ _ => rfl, hfuses, hkeeps.upd rfl, hkeeps.host rfl,
      hkeeps.pending rfl⟩

theorem serviceLdoStop_at_vdd (s : State) (hvdd : s.bit GLB_SUPSTAT.VDDOK = true) :
    Next .serviceLdoStop s fun t =>
      t.get GLB_SUPSTAT.VBUS0SVC = 0 ∧ t.get GLB_SUPSTAT.VBUS1SVC = 0 ∧
      s.regsBut t [GLB_SUPSTAT.at] ∧ t = { s with regs := t.regs } := by
  have hexec : exec .serviceLdoStop s = done (s.seeService false false) := if_pos ((s.vddok_seeService false false).trans hvdd)
  refine .of_done hexec ⟨?_, State.get_put_same _ _ _ (by decide), fun a ha => s.seeService_regsKept false false a (by simpa using ha), rfl⟩
  exact (State.get_put_apart _ _ rfl).trans (State.get_put_same _ _ _ (by decide))

theorem serviceLdoStop_powers_down (s : State) (hvdd : s.bit GLB_SUPSTAT.VDDOK = false) (hvhv : s.bit GLB_SUPSTAT.VHVOK = false) :
    Next .serviceLdoStop s fun t =>
      t.regs = [] ∧ t.staged = [] ∧ t.ports = State.reset.ports ∧ t.boot = BootSt.reset ∧
      t.otp.fuses = s.otp.fuses ∧ t.slate = { s.slate with buf := [], retry := none } ∧ t.upd.slots = s.upd.slots ∧ t.pending = s.pending := by
  have hd : (s.seeService false false).bit GLB_SUPSTAT.VDDOK = false := (s.vddok_seeService false false).trans hvdd
  have hh : (s.seeService false false).bit GLB_SUPSTAT.VHVOK = false := (State.bit_put_apart _ _ rfl).trans ((State.bit_put_apart _ _ rfl).trans hvhv)
  have hexec : exec .serviceLdoStop s = done (s.seeService false false).powerOn := (if_neg (by simp [hd])).trans (if_neg (by simp [hh]))
  exact .of_done hexec ⟨rfl, rfl, rfl, rfl, rfl, rfl, rfl, rfl⟩

/-! ### The end of a reverse push (R43, R154) -/

/-- Of PLP_STATUS a stop of the stage leaves what it does not show. -/
theorem State.get_plpStatus_legsOff (s : State) (n : Fin 16) {f : Fld} (hf : f.addr = PLP_STATUS.at n)
    (h : [PLP_STATUS.REGION n, PLP_STATUS.PRE n, PLP_STATUS.RAMP n, PLP_STATUS.CONFIRM n, PLP_STATUS.SETTLED n].all (fun g => g.apart f) = true) :
    (s.legsOff n).get f = s.get f := by
  simp only [List.all_cons, List.all_nil, Bool.and_true, Bool.and_eq_true] at h
  obtain ⟨hregion, hpre, hramp, hconfirm, hsettled⟩ := h
  simp only [State.legsOff]
  rw [State.get_clear_apart _ hsettled, State.get_clear_apart _ hconfirm, State.get_clear_apart _ hramp, State.get_clear_apart _ hpre,
    State.get_put_apart _ _ hregion]
  refine State.get_of_rd ((s.foldl_stopSlice _).2.2 _ ?_)
  rw [hf]
  exact not_inSlices_of_inPort (inPort_off n (by decide))

/-- A stop of the stage changes nothing that the port's generation counts (R373). -/
theorem State.genKey_legsOff (s : State) (n : Fin 16) : (s.legsOff n).genKey n = s.genKey n := by
  have hown (d lo w : Nat) (hd : d < 0x1000 ∧ d ≠ 0x600) : (s.legsOff n).get ⟨portBase n.val + d, lo, w⟩ = s.get ⟨portBase n.val + d, lo, w⟩ :=
    State.get_of_rd (State.rd_legsOff _ _ (by simp; omega) (not_inSlices_of_inPort (inPort_off n hd.1)))
  have hmode : (s.legsOff n).get (PLP_STATUS.MODE n) = s.get (PLP_STATUS.MODE n) := s.get_plpStatus_legsOff n rfl rfl
  have hbank : (s.legsOff n).get (PLP_STATUS.BANK n) = s.get (PLP_STATUS.BANK n) := s.get_plpStatus_legsOff n rfl rfl
  unfold State.genKey
  rw [hmode, hbank]
  simp (disch := decide) only [hown]

theorem reversePushStop_stops (s : State) (n : Fin 16) (hserv : s.isService n = true) (hon : s.stageOn n = true) (hmode : s.get (PLP_STATUS.MODE n) = 3)
    (hhalt : s.halted n.val = false) :
    Next (.reversePushStop n) s fun t =>
      t.stageOn n = false ∧ t.get (PLP_STATUS.REGION n) = 3 ∧ t.get (PLP_STATUS.SETTLED n) = 0 ∧
      t.ports = s.ports ∧ s.regsKept t (fun a => a == PLP_STATUS.at n || inSlices a) ∧
      t = { s with regs := t.regs, staged := t.staged, slices := t.slices } := by
  have hreport : s.report n (s.legsOff n) = s.legsOff n := State.report_eq_self (s.genKey_legsOff n).symm
  have hexec : exec (.reversePushStop n) s = done (s.legsOff n) := by
    rw [← hreport]
    exact if_pos (by simp [hserv, hon, hmode, hhalt])
  have hk := State.legsOff_keeps s n
  refine .of_done hexec ⟨s.stageOn_legsOff n, s.get_region_legsOff n, ?_, hk.ports rfl, fun a ha => ?_, ?_⟩
  · exact State.get_clear _ (Nat.le_of_ble_eq_true rfl)
  · simp only [Bool.or_eq_false_iff, beq_eq_false_iff_ne] at ha
    exact s.rd_legsOff n ha.1 ha.2
  · exact (hk.step (m := pRegs ||| pStaged ||| pSlices) rfl (.refl ..)).eq_mix

/-- Settles O4: level 1 from the dead-battery sequence and its samples to the end of the service LDO and of the reverse push. -/
theorem serviceBoot : Obligations.ServiceBoot := by
  unfold Obligations.ServiceBoot
  exact ⟨deadBatterySequence_boots, serviceVbusSample_boots, serviceLdoStop_at_vdd, serviceLdoStop_powers_down, reversePushStop_stops⟩

end Sys2Proof.Machine
end

section
/-!
PROOF. The edit buffer and the commands of THA_SRCTL (R80, R84 to R87, R94). Each is a host port's command that commits at once in a quiet slot, so that its
effect is that of `State.edClaim`, of a write to the buffer, or of `State.srCtl`.
-/

namespace Sys2Proof.Machine

/-! ### A command whose effect leaves the slot quiet -/

/-- A slot stays quiet over a step that leaves the Ridge's state and the Truss registers. -/
theorem State.slotClean_of_still {s t : State} {p : Nat → Bool} (h : s.slotClean) (hr : s.regsKept t p) (hp : ∀ a, block 4 a = true → p a = false)
    (hridge : t.ridge = s.ridge) : t.slotClean :=
  State.slotClean_of h (fun a ha => hr a (hp a ha)) (by rw [hridge]) (by rw [hridge]) (by rw [hridge]) (by rw [hridge])

/-- A command of a register of no port whose effect leaves the slot quiet: nothing but its status follows the effect. -/
theorem State.command_of_quiet {s : State} {hp : HostPort} {a : Nat} {v : Word} (h : s.takes hp a v) {effect : State → State}
    (ha : (effect s.passOp).portOf a = none) (hq : (effect s.passOp).slotClean) :
    s.command hp a v effect = (effect s.passOp).endWith hp stOK 0 0 := by
  rw [State.command_of_takes h, State.endSlot_of_slotClean hq, State.genOf_of_blockOf ha]

theorem State.get_passOp (s : State) {f : Fld} (h : f.addr ≠ RDG_CNT0.at) : s.passOp.get f = s.get f := State.get_of_rd (s.rd_passOp h)

theorem State.bit_passOp (s : State) {f : Fld} (h : f.addr ≠ RDG_CNT0.at) : s.passOp.bit f = s.bit f := State.bit_of_rd (s.rd_passOp h)

theorem State.slotClean_passOp_of_takes {s : State} {hp : HostPort} {a : Nat} {v : Word} (h : s.takes hp a v) : s.passOp.slotClean := by
  obtain ⟨-, -, -, -, hclean⟩ := h
  exact State.slotClean_passOp hclean

/-! ### The edit buffer and its claim (R80, R85) -/

theorem State.rd_dropRegs_same (s : State) {lo hi a : Nat} (h : within lo hi a = true) : (s.dropRegs lo hi).rd a = regReset a := by
  have hc := cellGet_filter s.regs (fun b => !(decide (lo ≤ b) && decide (b < hi))) a
  rw [if_neg (by rw [within] at h; rw [h]; simp)] at hc
  exact congrArg (fun x => x.getD (regReset a)) hc

/-- From the Thatch's area on no address belongs to a port or a slice (R31). -/
theorem blockOf_of_le {a : Nat} (h : 0x40000 ≤ a) : blockOf a = if a < 0x60000 then some .thatch else none := by
  unfold blockOf
  simp only [show ¬ a < 0x1000 by omega, show ¬ a < 0x2000 by omega, show ¬ a < 0x3000 by omega, show ¬ a < 0x4000 by omega, show ¬ a < 0x5000 by omega,
    show ¬ a < 0x8000 by omega, show ¬ a < 0x9000 by omega, show ¬ a < 0xA000 by omega, show ¬ a < 0xB000 by omega, show ¬ a < 0xC000 by omega,
    show ¬ a < 0xD000 by omega, show ¬ a < 0x10000 by omega, show ¬ (a - 0x10000) / 0x1000 < 16 by omega, show ¬ a < 0x20000 by omega,
    show ¬ (a - 0x20000) / 0x100 < 48 by omega, show ¬ a < 0x40000 by omega, if_false, dite_false]

/-- The words of the edit buffer lie below the registers of the Thatch's block, so that none of them is listed. -/
theorem regReset_edit {a : Nat} (h : isEdit a = true) : regReset a = 0 := by
  simp only [isEdit, Bool.and_eq_true, decide_eq_true_eq] at h
  obtain ⟨hlo, hhi⟩ := h
  have hrow : regRow a = none := by
    simp only [regRow, blockOf_of_le (show 0x40000 ≤ a by omega), if_pos (show a < 0x60000 by omega)]
    exact if_pos hhi
  simp only [regReset, hrow]
  exact if_neg (by omega)

/-- The claim of a free buffer clears it. -/
theorem State.edClaim_of_free {s : State} (h : s.bit THA_EDCLAIM.CLAIM = false) (p : Nat) :
    s.edClaim p 1 = ((s.clearEdit).put THA_EDCLAIM.OWNER p).raise THA_EDCLAIM.CLAIM := by
  simp [State.edClaim, h]

theorem State.edClaim_of_other {s : State} {p : Nat} (h : s.bit THA_EDCLAIM.CLAIM = true) (ho : s.get THA_EDCLAIM.OWNER ≠ p) : s.edClaim p 1 = s := by
  simp [State.edClaim, h, ho]

/-- The claim register free again. -/
def State.unclaimed (s : State) : State := (s.clear THA_EDCLAIM.CLAIM).clear THA_EDCLAIM.OWNER

theorem State.edClaim_of_owner {s : State} {p : Nat} (h : s.bit THA_EDCLAIM.CLAIM = true) (ho : s.get THA_EDCLAIM.OWNER = p) :
    s.edClaim p 0 = s.unclaimed := by
  simp [State.edClaim, h, ho, State.unclaimed]

theorem State.unclaimed_spec (s : State) :
    s.unclaimed.get THA_EDCLAIM.CLAIM = 0 ∧ s.unclaimed.get THA_EDCLAIM.OWNER = 0 ∧ s.regsKept s.unclaimed (fun a => a == THA_EDCLAIM.at) ∧
      s.Keeps pRegs s.unclaimed :=
  ⟨(State.get_clear_apart _ rfl).trans (State.get_clear _ (by decide)), State.get_clear _ (by decide), .put rfl <| .put rfl <| .refl _ _,
    (State.clear_keeps ..).step rfl <| State.clear_keeps ..⟩

theorem thaEdclaimClaim_claims (s : State) (hp : HostPort) (h : s.takes hp THA_EDCLAIM.at 1) (hfree : s.bit THA_EDCLAIM.CLAIM = false) :
    Next (.thaEdclaimClaim hp) s fun t =>
      t.get THA_EDCLAIM.CLAIM = 1 ∧ t.get THA_EDCLAIM.OWNER = hp.num ∧ (∀ i : Fin 3072, t.rd (0x5C000 + 4 * i.val) = 0) ∧
      s.hostSays t hp stOK 0 0 ∧ s.passOp.regsKept t (fun a => a == THA_EDCLAIM.at || isEdit a) ∧
      t = { s.passOp with regs := t.regs, staged := t.staged, host := t.host } := by
  have heff := State.edClaim_of_free (s := s.passOp) ((s.bit_passOp (by decide)).trans hfree) hp.num
  generalize hv : ((s.passOp.clearEdit).put THA_EDCLAIM.OWNER hp.num).raise THA_EDCLAIM.CLAIM = v at heff
  have hk : s.passOp.Keeps (pRegs ||| pStaged) v := heff ▸ State.edClaim_keeps s.passOp hp.num 1
  have hregs : s.passOp.regsKept v (fun a => a == THA_EDCLAIM.at || isEdit a) := by
    rw [← hv]
    exact .put rfl <| .put rfl <| .dropRegs (.refl _ _) fun a ha => by rw [show isEdit a = true from ha, Bool.or_true]
  have hexec : exec (.thaEdclaimClaim hp) s = done (v.endWith hp stOK 0 0) := by
    rw [← heff]
    refine congrArg done (State.command_of_quiet h rfl ?_)
    rw [heff]
    refine State.slotClean_of_still (State.slotClean_passOp_of_takes h) hregs (fun a ha => ?_) (hk.ridge rfl)
    simp only [block, beq_iff_eq] at ha
    simp only [isEdit, THA_EDCLAIM.at, Bool.or_eq_false_iff, beq_eq_false_iff_ne, Bool.and_eq_false_iff, decide_eq_false_iff_not]
    omega
  refine .of_done hexec ⟨?_, ?_, fun i => ?_, State.hostSays_endWith ((hk.host rfl).trans ((State.passOp_keeps s).host rfl)) hp 0 0, hregs,
    ((State.endWith_keeps ..).step (m := pRegs ||| pStaged ||| pHost) rfl (hk.mono rfl)).eq_mix⟩
  · subst v
    exact State.get_raise _ (by decide) (by decide)
  · subst v
    refine (State.get_put_apart _ _ rfl).trans ((State.get_put_same _ _ _ (by decide)).trans ?_)
    cases hp <;> rfl
  · subst v
    have hedit : isEdit (0x5C000 + 4 * i.val) = true := by
      simp only [isEdit, Bool.and_eq_true, decide_eq_true_eq]
      omega
    have hne : 0x5C000 + 4 * i.val ≠ THA_EDCLAIM.at := by
      unfold THA_EDCLAIM.at
      omega
    exact (State.rd_put_ne _ _ _ _ hne).trans ((State.rd_put_ne _ _ _ _ hne).trans ((State.rd_dropRegs_same _ hedit).trans (regReset_edit hedit)))

theorem thaEdclaimClaim_refused (s : State) (hp : HostPort) (h : s.takes hp THA_EDCLAIM.at 1) (hheld : s.bit THA_EDCLAIM.CLAIM = true)
    (hother : s.get THA_EDCLAIM.OWNER ≠ hp.num) :
    Next (.thaEdclaimClaim hp) s fun t => s.hostSays t hp stOK 0 0 ∧ t = { s.passOp with host := t.host } := by
  have heff := State.edClaim_of_other (s := s.passOp) ((s.bit_passOp (by decide)).trans hheld) (by rwa [s.get_passOp (by decide)] : s.passOp.get _ ≠ hp.num)
  have hexec : exec (.thaEdclaimClaim hp) s = done (s.passOp.endWith hp stOK 0 0) := by
    have hc := State.command_of_quiet h (effect := fun t => t.edClaim hp.num 1) rfl (by rw [heff]; exact State.slotClean_passOp_of_takes h)
    exact congrArg done (hc.trans (by rw [heff]))
  exact .of_done hexec ⟨State.hostSays_endWith ((State.passOp_keeps s).host rfl) hp 0 0, rfl⟩

theorem thaEdclaimRelease_releases (s : State) (hp : HostPort) (h : s.takes hp THA_EDCLAIM.at 0) (hheld : s.bit THA_EDCLAIM.CLAIM = true)
    (howner : s.get THA_EDCLAIM.OWNER = hp.num) :
    Next (.thaEdclaimRelease hp) s fun t =>
      t.get THA_EDCLAIM.CLAIM = 0 ∧ t.get THA_EDCLAIM.OWNER = 0 ∧ s.hostSays t hp stOK 0 0 ∧
      s.passOp.regsBut t [THA_EDCLAIM.at] ∧ t = { s.passOp with regs := t.regs, host := t.host } := by
  have heff : s.passOp.edClaim hp.num 0 = s.passOp.unclaimed :=
    State.edClaim_of_owner ((s.bit_passOp (by decide)).trans hheld) ((s.get_passOp (by decide)).trans howner)
  obtain ⟨hclaim, hown, hregs, hk⟩ := s.passOp.unclaimed_spec
  have hclean : s.passOp.unclaimed.slotClean := State.slotClean_of_still (State.slotClean_passOp_of_takes h) hregs
    (fun a ha => beq_false_of_ne (by rintro rfl; exact absurd ha (by decide))) (hk.ridge rfl)
  have hexec : exec (.thaEdclaimRelease hp) s = done (s.passOp.unclaimed.endWith hp stOK 0 0) := by
    have hc := State.command_of_quiet h (effect := fun t => t.edClaim hp.num 0) rfl (by rwa [heff])
    exact congrArg done (hc.trans (by rw [heff]))
  exact .of_done hexec ⟨hclaim, hown, State.hostSays_endWith ((hk.host rfl).trans ((State.passOp_keeps s).host rfl)) hp 0 0,
    fun a ha => hregs a (beq_false_of_ne (by simpa using ha)), ((State.endWith_keeps ..).step (m := pRegs ||| pHost) rfl (hk.mono rfl)).eq_mix⟩

theorem editClaimLapse_releases (s : State) :
    Next .editClaimLapse s fun t =>
      t.get THA_EDCLAIM.CLAIM = 0 ∧ t.get THA_EDCLAIM.OWNER = 0 ∧ s.regsBut t [THA_EDCLAIM.at] ∧ t = { s with regs := t.regs } := by
  obtain ⟨hclaim, hown, hregs, -⟩ := s.unclaimed_spec
  exact .of_done (t := s.unclaimed) rfl ⟨hclaim, hown, fun a ha => hregs a (beq_false_of_ne (by simpa using ha)), rfl⟩

/-! ### A write to the buffer -/

/-- Words written at the addresses beside them. -/
def State.wrAll (s : State) (ts : List (Nat × Word)) : State := ts.foldl (fun u x => u.wr x.1 x.2) s

theorem State.wrAll_keeps (s : State) (ts : List (Nat × Word)) : s.Keeps pRegs (s.wrAll ts) :=
  .foldl (fun _ _ hu => (State.wr_keeps ..).step rfl hu) (.refl ..)

theorem State.rd_wrAll_ne (s : State) (ts : List (Nat × Word)) {a : Nat} (h : ∀ x ∈ ts, x.1 ≠ a) : (s.wrAll ts).rd a = s.rd a :=
  List.foldlRecOn (motive := fun (u : State) => u.rd a = s.rd a) ts _ rfl fun _ hu x hx => (State.rd_wr_ne _ _ (h x hx).symm).trans hu

theorem State.rd_wrAll_of_mem (s : State) {ts : List (Nat × Word)} (hts : (ts.map Prod.fst).Nodup) {x : Nat × Word} (hx : x ∈ ts) :
    (s.wrAll ts).rd x.1 = x.2 := by
  induction ts generalizing s with
  | nil => cases hx
  | cons y ts ih =>
    obtain ⟨hy, hnd⟩ := List.nodup_cons.1 hts
    rcases List.mem_cons.1 hx with rfl | hx
    · exact (State.rd_wrAll_ne _ ts fun z hz e => hy (List.mem_map.2 ⟨z, hz, e⟩)).trans (State.rd_wr_same ..)
    · exact ih (s.wr y.1 y.2) hnd hx

theorem editTargets_fst (word : Nat) (ws : List Word) : (editTargets word ws).map Prod.fst = (List.range ws.length).map (fun i => 0x5C000 + 4 * (word + i)) := by
  refine List.ext_getElem (by simp [editTargets]) fun i h _ => ?_
  simp [editTargets]

theorem mem_editTargets {word : Nat} {ws : List Word} (i : Fin ws.length) : (0x5C000 + 4 * (word + i.val), ws[i]) ∈ editTargets word ws :=
  List.mem_map.2 ⟨(ws[i], i.val), List.mk_mem_zipIdx_iff_getElem?.2 (by simp), rfl⟩

/-- The words of a write to the buffer lie where it writes. -/
theorem within_of_mem_editTargets {word : Nat} {ws : List Word} {x : Nat × Word} (hx : x ∈ editTargets word ws) :
    within (0x5C000 + 4 * word) (0x5C000 + 4 * (word + ws.length)) x.1 = true := by
  have h : x.1 ∈ (editTargets word ws).map Prod.fst := List.mem_map_of_mem hx
  rw [editTargets_fst, List.mem_map] at h
  obtain ⟨i, hi, he⟩ := h
  have := List.mem_range.1 hi
  simp only [within, Bool.and_eq_true, decide_eq_true_eq]
  omega

theorem State.slotClean_passOps {s : State} (h : s.slotClean) (ws : List (Nat × Word)) : (s.passOps ws).slotClean :=
  List.foldlRecOn ws _ h fun _ hu _ _ => State.slotClean_passOp hu

theorem State.host_passOps (s : State) (ws : List (Nat × Word)) : (s.passOps ws).host = s.host :=
  State.foldl_same State.host (fun u _ => (State.passOp_keeps u).host rfl) ws s

/-- The first word of a write to the buffer is no register of a port. -/
theorem State.portOf_editTargets (s : State) (word : Nat) (ws : List Word) : s.portOf ((editTargets word ws).headD (0, 0)).1 = none := by
  cases ws with
  | nil => rfl
  | cons w ws =>
    change s.portOf (0x5C000 + 4 * word) = none
    rw [State.portOf, blockOf_of_le (by omega)]
    split_ifs <;> rfl

theorem editBufferWrite_writes (s : State) (hp : HostPort) (word : Fin 3072) (ws : List Word) (h : s.takesAll hp (editTargets word.val ws)) :
    Next (.editBufferWrite hp word ws) s fun t =>
      (∀ i : Fin ws.length, t.rd (0x5C000 + 4 * (word.val + i.val)) = ws[i]) ∧ s.hostSays t hp stOK 0 0 ∧
      (s.passOps (editTargets word.val ws)).regsKept t (fun a => within (0x5C000 + 4 * word.val) (0x5C000 + 4 * (word.val + ws.length)) a) ∧
      t = { s.passOps (editTargets word.val ws) with regs := t.regs, host := t.host } := by
  generalize hts : editTargets word.val ws = ts at h
  generalize hu : s.passOps ts = u
  have hregs : u.regsKept (u.wrAll ts) (fun a => within (0x5C000 + 4 * word.val) (0x5C000 + 4 * (word.val + ws.length)) a) := fun a ha =>
    u.rd_wrAll_ne ts fun x hx e => by
      subst hts e
      exact absurd (within_of_mem_editTargets hx) (ne_of_eq_of_ne ha Bool.false_ne_true)
  have hk := u.wrAll_keeps ts
  have hclean : (u.wrAll ts).slotClean := by
    obtain ⟨-, -, -, -, hclean⟩ := h
    refine State.slotClean_of_still (hu ▸ State.slotClean_passOps hclean ts) hregs (fun a ha => ?_) (hk.ridge rfl)
    simp only [block, beq_iff_eq] at ha
    simp only [within, Bool.and_eq_false_iff, decide_eq_false_iff_not]
    omega
  have hexec : exec (.editBufferWrite hp word ws) s = done ((u.wrAll ts).endWith hp stOK 0 0) := by
    have hc := State.commandWords_of_takesAll h (fun t => (t.wrAll ts, stOK))
    rw [hu, State.endSlot_of_slotClean hclean, State.genOf_of_blockOf (by rw [← hts]; exact State.portOf_editTargets _ _ _)] at hc
    subst hts
    exact congrArg done hc
  have hhost : (u.wrAll ts).host = s.host := (hk.host rfl).trans (hu ▸ s.host_passOps ts)
  refine .of_done hexec ⟨fun i => ?_, State.hostSays_endWith hhost hp 0 0, hregs,
    ((State.endWith_keeps ..).step (m := pRegs ||| pHost) rfl (hk.mono rfl)).eq_mix⟩
  refine u.rd_wrAll_of_mem ?_ (x := (_, ws[i])) (by rw [← hts]; exact mem_editTargets i)
  rw [← hts, editTargets_fst]
  exact (List.nodup_map_iff_inj_on List.nodup_range).2 fun i _ j _ he => by omega

/-! ### The beginning and the cancel of an operation (R84, R86, R87, R94) -/

/-- An operation has begun with the buffer as it stands. -/
def State.srBegun (s : State) (hp : HostPort) (live : Bool) (func : Nat) : State :=
  (((((s.modTha (fun h => { h with op := some { live := live, func := func, hp := hp, ports := [], edits := s.editWords, since := s.now } })).put
    THA_SRSTAT.PHASE 1).put THA_SRSTAT.FUNC func).clear THA_SRSTAT.RESULT).clear THA_SRSTAT.CHECK)

theorem State.srBegun_keeps (s : State) (hp : HostPort) (live : Bool) (func : Nat) : s.Keeps (pRegs ||| pTha) (s.srBegun hp live func) :=
  (State.clear_keeps ..).step rfl <| (State.clear_keeps ..).step rfl <| (State.put_keeps ..).step rfl <| (State.put_keeps ..).step rfl <|
    (State.modTha_keeps ..).mono rfl

theorem State.srBegun_regsKept (s : State) (hp : HostPort) (live : Bool) (func : Nat) : s.regsKept (s.srBegun hp live func) (fun a => a == THA_SRSTAT.at) :=
  .put rfl <| .put rfl <| .put rfl <| .put rfl <| .of_regs (.refl _ _) rfl

theorem State.get_srBegun (s : State) (hp : HostPort) (live : Bool) {func : Nat} (hf : func < 32) :
    (s.srBegun hp live func).get THA_SRSTAT.PHASE = 1 ∧ (s.srBegun hp live func).get THA_SRSTAT.FUNC = func ∧
      (s.srBegun hp live func).get THA_SRSTAT.RESULT = 0 ∧ (s.srBegun hp live func).get THA_SRSTAT.CHECK = 0 := by
  refine ⟨?_, ?_, (State.get_clear_apart _ rfl).trans (State.get_clear _ (by decide)), State.get_clear _ (by decide)⟩
  · exact (State.get_clear_apart _ rfl).trans <| (State.get_clear_apart _ rfl).trans <| (State.get_put_apart _ _ rfl).trans <| State.get_put_same _ _ _ (by decide)
  · exact (State.get_clear_apart _ rfl).trans <| (State.get_clear_apart _ rfl).trans <| (State.get_put_same _ _ _ (by decide)).trans (Nat.mod_eq_of_lt hf)

theorem State.tha_srBegun (s : State) (hp : HostPort) (live : Bool) (func : Nat) :
    (s.srBegun hp live func).tha =
      { s.tha with op := some { live := live, func := func, hp := hp, ports := [], edits := s.editWords, since := s.now } } := rfl

theorem State.srCtl_of_live (s : State) (hp : HostPort) : s.srCtl hp (srWord 0xC3 1 0) = s.srBegun hp true 0 := by
  have hop : THA_SRCTL.OP.of (srWord 0xC3 1 0) = 1 := by decide
  rw [State.srCtl, hop]
  rfl

theorem srWord_strip (func : BitVec 5) :
    THA_SRCTL.OP.of (srWord 0xC3 2 func.toNat) = 2 ∧ THA_SRCTL.FUNC.of (srWord 0xC3 2 func.toNat) = func.toNat := by
  revert func
  decide +kernel

theorem State.srCtl_of_strip (s : State) (hp : HostPort) {func : BitVec 5} (hf : func.toNat ≤ 17) :
    s.srCtl hp (srWord 0xC3 2 func.toNat) = s.srBegun hp false func.toNat := by
  obtain ⟨hop, hfunc⟩ := srWord_strip func
  rw [State.srCtl, hop, hfunc]
  simp [Nat.not_lt.2 hf, State.srBegun]

theorem State.editWords_of_regsKept {s t : State} {p : Nat → Bool} (h : s.regsKept t p) (hp : ∀ a, isEdit a = true → p a = false) :
    t.editWords = s.editWords :=
  List.map_congr_left fun i hi => h _ <| hp _ <| by
    have := List.mem_range.1 hi
    simp only [isEdit, Bool.and_eq_true, decide_eq_true_eq]
    omega

theorem State.editWords_passOp (s : State) : s.passOp.editWords = s.editWords :=
  State.editWords_of_regsKept (p := fun a => a == RDG_CNT0.at) (fun _ ha => s.rd_passOp (ne_of_beq_false ha))
    fun a ha => beq_false_of_ne (by rintro rfl; exact absurd ha (by decide))

theorem State.now_passOp (s : State) : s.passOp.now = s.now := congrArg SoffitSt.uptime ((State.passOp_keeps s).soffit rfl)

/-- THA_SRCTL accepted and committed at once, where its effect leaves the slot quiet. -/
theorem State.srCtl_command {s v : State} {hp : HostPort} {w : Word} (h : s.takes hp THA_SRCTL.at w) (hv : s.passOp.srCtl hp w = v) (hq : v.slotClean) :
    s.command hp THA_SRCTL.at w (fun t => t.srCtl hp w) = v.endWith hp stOK 0 0 := by
  subst hv
  exact State.command_of_quiet h rfl hq

/-- A write of THA_SRCTL that begins an operation: what it shows, and that the operation holds the buffer as it stands. -/
theorem srCtl_begins {c : Instr} {s : State} {hp : HostPort} {w : Word} {live : Bool} {func : Nat} (h : s.takes hp THA_SRCTL.at w)
    (hc : exec c s = done (s.command hp THA_SRCTL.at w (fun t => t.srCtl hp w))) (hw : s.passOp.srCtl hp w = s.passOp.srBegun hp live func)
    (hf : func < 32) :
    Next c s fun t =>
      t.get THA_SRSTAT.PHASE = 1 ∧ t.get THA_SRSTAT.FUNC = func ∧ t.get THA_SRSTAT.RESULT = 0 ∧ t.get THA_SRSTAT.CHECK = 0 ∧
      t.tha.op = some { live := live, func := func, hp := hp, ports := [], edits := s.editWords, since := s.now } ∧
      s.hostSays t hp stOK 0 0 ∧ s.passOp.regsBut t [THA_SRSTAT.at] ∧
      t = { s.passOp with regs := t.regs, host := t.host, tha := { s.tha with op := t.tha.op } } := by
  obtain ⟨hphase, hfunc, hresult, hcheck⟩ := s.passOp.get_srBegun hp live hf
  have htha := s.passOp.tha_srBegun hp live func
  have hk := s.passOp.srBegun_keeps hp live func
  have hregs := s.passOp.srBegun_regsKept hp live func
  generalize s.passOp.srBegun hp live func = v at hw hphase hfunc hresult hcheck htha hk hregs
  rw [s.editWords_passOp, s.now_passOp, (State.passOp_keeps s).tha rfl] at htha
  have hclean : v.slotClean := State.slotClean_of_still (State.slotClean_passOp_of_takes h) hregs
    (fun a ha => beq_false_of_ne (by rintro rfl; exact absurd ha (by decide))) (hk.ridge rfl)
  refine .of_done (hc.trans (congrArg done (State.srCtl_command h hw hclean))) ⟨hphase, hfunc, hresult, hcheck, congrArg ThaSt.op htha,
    State.hostSays_endWith ((hk.host rfl).trans ((State.passOp_keeps s).host rfl)) hp 0 0, fun a ha => hregs a (beq_false_of_ne (by simpa using ha)), ?_⟩
  have hmix := ((State.endWith_keeps v hp stOK 0 0).step (m := pRegs ||| pHost ||| pTha) rfl (hk.mono rfl)).eq_mix
  have hend : (v.endWith hp stOK 0 0).tha = { s.tha with op := (v.endWith hp stOK 0 0).tha.op } :=
    ((State.endWith_keeps ..).tha rfl).trans (by rw [(State.endWith_keeps v hp stOK 0 0).tha rfl, htha])
  rw [← hend]
  exact hmix

theorem liveApply_begins (s : State) (hp : HostPort) (h : s.takes hp THA_SRCTL.at (srWord 0xC3 1 0)) :
    Next (.liveApply hp 0xC3) s fun t =>
      t.get THA_SRSTAT.PHASE = 1 ∧ t.get THA_SRSTAT.RESULT = 0 ∧ t.get THA_SRSTAT.CHECK = 0 ∧
      t.tha.op = some { live := true, func := 0, hp := hp, ports := [], edits := s.editWords, since := s.now } ∧
      s.hostSays t hp stOK 0 0 ∧ s.passOp.regsBut t [THA_SRSTAT.at] ∧
      t = { s.passOp with regs := t.regs, host := t.host, tha := { s.tha with op := t.tha.op } } := by
  obtain ⟨t, ht, hphase, -, hrest⟩ := srCtl_begins (c := .liveApply hp 0xC3) h rfl (s.passOp.srCtl_of_live hp) (by decide)
  exact ⟨t, ht, hphase, hrest⟩

theorem stripAndRelay_begins (s : State) (hp : HostPort) (func : BitVec 5) (h : s.takes hp THA_SRCTL.at (srWord 0xC3 2 func.toNat))
    (hf : func.toNat ≤ 17) :
    Next (.stripAndRelay hp 0xC3 func) s fun t =>
      t.get THA_SRSTAT.PHASE = 1 ∧ t.get THA_SRSTAT.FUNC = func.toNat ∧ t.get THA_SRSTAT.RESULT = 0 ∧ t.get THA_SRSTAT.CHECK = 0 ∧
      t.tha.op = some { live := false, func := func.toNat, hp := hp, ports := [], edits := s.editWords, since := s.now } ∧
      s.hostSays t hp stOK 0 0 ∧ s.passOp.regsBut t [THA_SRSTAT.at] ∧
      t = { s.passOp with regs := t.regs, host := t.host, tha := { s.tha with op := t.tha.op } } :=
  srCtl_begins h rfl (s.passOp.srCtl_of_strip hp hf) func.isLt

/-! ### The end of an operation -/

theorem State.endSr_regsKept (s : State) (r : Nat) : s.regsKept (s.endSr r) (fun a => a == THA_SRSTAT.at) :=
  .still (State.fire_keeps ..) rfl <| .put rfl <| .put rfl <| .of_regs (.refl _ _) rfl

theorem State.get_endSr (s : State) {r : Nat} (hr : r < 16) : (s.endSr r).get THA_SRSTAT.PHASE = 0 ∧ (s.endSr r).get THA_SRSTAT.RESULT = r := by
  have hregs (f : Fld) : (s.endSr r).get f = (((s.modTha (fun h => { h with op := none })).clear THA_SRSTAT.PHASE).put THA_SRSTAT.RESULT r).get f :=
    State.get_of_regs (State.fire_regs ..) f
  rw [hregs, hregs]
  exact ⟨(State.get_put_apart _ _ rfl).trans (State.get_clear _ (by decide)), (State.get_put_same _ _ _ (by decide)).trans (Nat.mod_eq_of_lt hr)⟩

/-- Of THA_SRSTAT the end of an operation writes PHASE and RESULT. -/
theorem State.get_endSr_apart (s : State) (r : Nat) {f : Fld} (hp : THA_SRSTAT.PHASE.apart f = true) (hr : THA_SRSTAT.RESULT.apart f = true) :
    (s.endSr r).get f = s.get f :=
  (State.get_of_regs (State.fire_regs ..) f).trans <| (State.get_put_apart _ _ hr).trans <| (State.get_clear_apart _ hp).trans rfl

theorem State.tha_endSr (s : State) (r : Nat) : (s.endSr r).tha = { s.tha with op := none } := (State.fire_keeps ..).tha rfl

theorem State.bat_endSr (s : State) {r : Nat} (hr : r ≠ 1) : (s.endSr r).bat = (s.fire 0x113).bat := by
  rw [State.endSr, if_neg hr]
  exact State.fire_bat_of _ _ rfl rfl ((State.rd_put_ne _ _ _ _ (by decide)).trans (State.rd_put_ne _ _ _ _ (by decide)))

/-- No CFG op without a register is left in the window. -/
theorem State.window_dropCfg (s : State) : s.dropCfg.ridge.window.any (fun o => o.cls == clsCFG && o.reg.isNone) = false := by
  refine List.any_eq_false.2 fun o ho => ?_
  have hkept : (!(o.cls == clsCFG && o.reg.isNone)) = true := (List.mem_filter.1 ho).2
  rwa [Bool.not_eq_true', ← Bool.not_eq_true] at hkept

/-- An operation cancelled before its commit: its op leaves the window. -/
def State.srCancelled (s : State) : State := s.dropCfg.endSr 7

/-- An operation that is being validated, or whose CFG op has not committed, is cancelled (R94). -/
theorem State.srCtl_of_cancel {s : State} (hp : HostPort) (h : s.get THA_SRSTAT.PHASE = 1 ∨ s.get THA_SRSTAT.PHASE = 2) :
    s.srCtl hp (srWord 0xC3 3 0) = s.srCancelled := by
  have hop : THA_SRCTL.OP.of (srWord 0xC3 3 0) = 3 := by decide
  rw [State.srCtl, hop]
  exact (if_pos rfl).trans (if_pos h)

theorem srCancel_cancels (s : State) (hp : HostPort) (h : s.takes hp THA_SRCTL.at (srWord 0xC3 3 0))
    (hphase : s.get THA_SRSTAT.PHASE = 1 ∨ s.get THA_SRSTAT.PHASE = 2) :
    Next (.srCancel hp 0xC3) s fun t =>
      t.get THA_SRSTAT.PHASE = 0 ∧ t.get THA_SRSTAT.RESULT = 7 ∧ t.tha.op = none ∧ t.bat = (s.fire 0x113).bat ∧
      t.ridge.window.any (fun o => o.cls == clsCFG && o.reg.isNone) = false ∧ s.hostSays t hp stOK 0 0 ∧ s.passOp.regsBut t [THA_SRSTAT.at] ∧
      t = { s.passOp with regs := t.regs, host := t.host, bat := t.bat, ridge := t.ridge, tha := { s.tha with op := none } } := by
  have hv : s.passOp.srCtl hp (srWord 0xC3 3 0) = s.passOp.srCancelled := State.srCtl_of_cancel hp (by rwa [s.get_passOp (by decide)])
  have hdrop := State.dropCfg_keeps s.passOp
  have hridge : s.passOp.srCancelled.ridge = s.passOp.dropCfg.ridge := (State.endSr_keeps ..).ridge rfl
  have hk : s.passOp.Keeps (pRegs ||| pHost ||| pBat ||| pRidge ||| pTha) s.passOp.srCancelled := (State.endSr_keeps ..).step rfl (hdrop.mono rfl)
  have hregs : s.passOp.regsKept s.passOp.srCancelled (fun a => a == THA_SRSTAT.at) :=
    .trans (.of_regs (.refl _ _) (hdrop.regs rfl)) (State.endSr_regsKept _ 7)
  have hclean : s.passOp.srCancelled.slotClean := by
    refine State.slotClean_of (State.slotClean_passOp_of_takes h)
      (fun a ha => hregs a (beq_false_of_ne (by rintro rfl; exact absurd ha (by decide)))) ?_ ?_ ?_ ?_ <;>
      rw [hridge] <;> rfl
  have htha : s.passOp.srCancelled.tha = { s.tha with op := none } := by
    rw [State.srCancelled, State.tha_endSr, hdrop.tha rfl, (State.passOp_keeps s).tha rfl]
  have hend := State.endWith_keeps s.passOp.srCancelled hp stOK 0 0
  obtain ⟨hzero, hresult⟩ := s.passOp.dropCfg.get_endSr (r := 7) (by decide)
  refine .of_done (congrArg done (State.srCtl_command h hv hclean)) ⟨hzero, hresult, congrArg ThaSt.op ((hend.tha rfl).trans htha), ?_, ?_,
    State.hostSays_endWith (((State.endSr_keeps ..).host rfl).trans ((hdrop.host rfl).trans ((State.passOp_keeps s).host rfl))) hp 0 0,
    fun a ha => hregs a (beq_false_of_ne (by simpa using ha)), ?_⟩
  · refine ((hend.bat rfl).trans (State.bat_endSr _ (by decide))).trans (State.fire_bat_of _ _ ?_ ?_ ?_)
    · exact (hdrop.bat rfl).trans ((State.passOp_keeps s).bat rfl)
    · exact (hdrop.soffit rfl).trans ((State.passOp_keeps s).soffit rfl)
    · exact (State.rd_of_regs (hdrop.regs rfl) _).trans (s.rd_passOp (by decide))
  · rw [hend.ridge rfl, hridge]
    exact s.passOp.window_dropCfg
  · rw [← htha, ← hend.tha rfl]
    exact (hend.step (m := pRegs ||| pHost ||| pBat ||| pRidge ||| pTha) rfl hk).eq_mix

/-- Settles O15: the claim of the edit buffer, the words written to it, and the operations that THA_SRCTL begins and cancels. -/
theorem thatchEdits : Obligations.ThatchEdits := by
  unfold Obligations.ThatchEdits
  exact ⟨thaEdclaimClaim_claims, thaEdclaimClaim_refused, thaEdclaimRelease_releases, editClaimLapse_releases, editBufferWrite_writes, liveApply_begins,
    stripAndRelay_begins, srCancel_cancels⟩

end Sys2Proof.Machine
end

section
/-!
SUPPORT. What leaves the Thatch's registers as they are: the policy of a port while no strip waits for its VBUS (R87, R95), the change of a port's structure, the
ledger of the floors.
-/

namespace Sys2Proof.Machine

/-- The registers below those of the Thatch (R31). -/
def belowThatch (a : Nat) : Bool := decide (a < 0x5F000)

/-- While no strip waits for VBUS, PHASE other than 3, from s to t the registers of the Thatch (R97) read as before. -/
structure State.ThatchStill (s t : State) : Prop where
  phase : s.get THA_SRSTAT.PHASE ≠ 3
  regs : s.regsKept t belowThatch

theorem portReg_lt (n : Fin 16) {d : Nat} (h : d < 0x1000) : portBase n.val + d < 0x5F000 := by
  unfold portBase
  omega

theorem sliceReg_lt (k : Fin 48) {d : Nat} (h : d < 0x100) : sliceBase k.val + d < 0x5F000 := by
  unfold sliceBase
  omega

theorem lt_of_portArea {n : Fin 16} {a : Nat} (h : portArea n a = true) : a < 0x5F000 := by
  simp only [portArea, inPort, inSlices, within, portBase, sliceBase, Bool.or_eq_true, Bool.and_eq_true, decide_eq_true_eq] at h
  omega

/-- The records of a port give the registers of its own block alone. -/
theorem inPort_of_mem_recRegs (n : Fin 16) :
    ∀ ty ∈ [tyCCCFG, tySINKPOL, tyLOOPSET, tyFUSEBASE, tyGUTTER, tyVALLEY], ∀ x ∈ recRegs ty n.val, inPort n x.1 = true := by
  revert n
  decide +kernel

/-- A RAFTER record gives registers of slices alone. -/
theorem lt_of_mem_rafterRegs {legs : List (Fin 48 × Nat)} {p : List Word} {x : Nat × Option Word} (hx : x ∈ rafterRegs legs p) : x.1 < 0x5F000 := by
  obtain ⟨kl, -, hx⟩ := List.mem_flatMap.1 hx
  rcases List.mem_append.1 hx with hx | hx
  · split at hx
    · simp only [List.mem_cons, List.not_mem_nil, or_false] at hx
      rcases hx with rfl | rfl | rfl <;> exact sliceReg_lt _ (by decide)
    · cases hx
  · simp only [List.mem_cons, List.not_mem_nil, or_false] at hx
    rcases hx with rfl | rfl | rfl | rfl | rfl | rfl <;> exact sliceReg_lt _ (by decide)

/-- A tally shows its count and its firings (R293). -/
theorem State.regsKept.tallyAdd {s t : State} {p : Nat → Bool} {k c : Nat} (hk : p (BAT_TALLY1.at k) = true) (h : s.regsKept t p) :
    s.regsKept (t.tallyAdd k c).2 p := by
  unfold State.tallyAdd
  split
  · exact h
  · extract_lets b s1
    have h1 : s.regsKept s1 p := .put hk <| h.of_regs rfl
    split
    · exact .still (State.fire_keeps ..) rfl <| .put hk <| .put hk <| h1.of_regs rfl
    · exact h1

/-- The registers that the resolution of a deficit writes (R183). -/
def ledgerArea (a : Nat) : Bool := unstageArea a || a == RDG_CNT1.at || a == TRS_STAT.at

theorem lt_of_ledgerArea {a : Nat} (h : ledgerArea a = true) : a < 0x5F000 := by
  simp only [ledgerArea, unstageArea, within, Bool.or_eq_true, Bool.and_eq_true, decide_eq_true_eq, beq_iff_eq, List.any_eq_true] at h
  rcases h with ((((rfl | h) | ⟨n, -, rfl⟩) | rfl) | rfl)
  · decide
  · omega
  · exact portReg_lt n (by decide)
  · decide
  · decide

theorem State.cancelNamed_regsKept (s : State) (tag : Nat) : s.regsKept (s.cancelNamed tag) ledgerArea :=
  .ite (fun _ a ha => by
    simp only [ledgerArea, Bool.or_eq_false_iff, beq_eq_false_iff_ne] at ha
    exact State.rd_cancelWhere _ _ ha.1.1 ha.1.2) fun _ => .still (State.fire_keeps ..) rfl <| .put rfl <| .refl _ _

theorem State.dropHolds_regsKept (k : Nat) (s : State) : s.regsKept (s.dropHolds k) ledgerArea := by
  induction k generalizing s with
  | zero => exact .refl _ _
  | succ k ih =>
    unfold State.dropHolds
    split
    · exact .refl _ _
    · split
      · exact .refl _ _
      · exact .trans (s.cancelNamed_regsKept _) (ih _)

theorem State.resolveDeficit_regsKept (s : State) : s.regsKept s.resolveDeficit ledgerArea := by
  have hd := s.dropHolds_regsKept 16
  have hend {t : State} (h : s.regsKept t ledgerArea) : s.regsKept t.endDeficit ledgerArea := .of_regs (.put rfl h) t.endDeficit_regs
  refine .ite (fun _ => hend (.refl _ _)) fun _ => .ite (fun _ => hend hd) fun _ => .foldl (fun _ _ hu => .ite (fun _ => hu.of_regs rfl) fun _ => hu) ?_
  exact .ite (fun _ => hd) fun _ => .still (State.fire_keeps ..) rfl <| .put rfl hd

namespace State.ThatchStill

variable {s t u : State} {n : Fin 16}

theorem refl (h : s.get THA_SRSTAT.PHASE ≠ 3) : s.ThatchStill s := ⟨h, .refl _ _⟩

theorem rd (h : s.ThatchStill t) {a : Nat} (ha : 0x5F000 ≤ a) : t.rd a = s.rd a := h.regs a (decide_eq_false (by omega))

theorem get (h : s.ThatchStill t) {f : Fld} (hf : 0x5F000 ≤ f.addr) : t.get f = s.get f := State.get_of_rd (h.rd hf)

theorem of_regs (h : s.ThatchStill t) (hu : u.regs = t.regs) : s.ThatchStill u := ⟨h.phase, h.regs.of_regs hu⟩

/-- An operation on the rest of the state. -/
theorem still {m : Nat} (k : t.Keeps m u) (hm : m.testBit 0 = false) (h : s.ThatchStill t) : s.ThatchStill u := h.of_regs (k.regs hm)

/-- An operation on registers below the Thatch's. -/
theorem kept {p : Nat → Bool} (k : t.regsKept u p) (hp : ∀ a, p a = true → a < 0x5F000) (h : s.ThatchStill t) : s.ThatchStill u :=
  ⟨h.phase, h.regs.trans <| k.mono fun a ha => Bool.eq_false_iff.2 fun hpa => of_decide_eq_false ha (hp a hpa)⟩

theorem wr {a : Nat} {v : Word} (ha : a < 0x5F000) (h : s.ThatchStill t) : s.ThatchStill (t.wr a v) := ⟨h.phase, h.regs.wr (decide_eq_true ha)⟩

theorem put {f : Fld} {x : Nat} (ha : f.addr < 0x5F000) (h : s.ThatchStill t) : s.ThatchStill (t.put f x) := h.wr ha

/-- A register of a port's block. -/
theorem wrOwn {d : Nat} {v : Word} (hd : d < 0x1000) (h : s.ThatchStill t) : s.ThatchStill (t.wr (portBase n.val + d) v) := h.wr (portReg_lt n hd)

theorem putOwn {d lo w x : Nat} (hd : d < 0x1000) (h : s.ThatchStill t) : s.ThatchStill (t.put ⟨portBase n.val + d, lo, w⟩ x) := h.put (portReg_lt n hd)

theorem ite {c : Prop} [Decidable c] (h : s.ThatchStill t) (g : s.ThatchStill u) : s.ThatchStill (if c then t else u) := by
  split
  · exact h
  · exact g

/-- A step that is taken or not. -/
theorem maybe {c : Prop} [Decidable c] (g : s.ThatchStill t → s.ThatchStill u) (h : s.ThatchStill t) : s.ThatchStill (if c then u else t) := .ite (g h) h

theorem foldl {α : Type} {f : State → α → State} {l : List α} (hf : ∀ u, ∀ x ∈ l, s.ThatchStill u → s.ThatchStill (f u x)) (h : s.ThatchStill t) :
    s.ThatchStill (l.foldl f t) := List.foldlRecOn l f h fun u hu x hx => hf u x hx hu

theorem modPort {f : PortSt → PortSt} (h : s.ThatchStill t) : s.ThatchStill (t.modPort n f) := h.of_regs rfl

/-! ### ErrorRecovery (R104) -/

/-- With PHASE other than 3 a VBUS that has gone ends no strip. -/
theorem srSafe (h : s.ThatchStill t) : s.ThatchStill t.srSafe := by
  rw [State.srSafe, if_neg]
  · exact h
  · rw [h.get (by decide)]
    exact fun hc => h.phase hc.1

theorem seeRamp (h : s.ThatchStill t) : s.ThatchStill (t.seeRamp n) := .maybe (fun h => .maybe .srSafe <| .putOwn (by decide) <| h.of_regs rfl) h

theorem clearRc (h : s.ThatchStill t) : s.ThatchStill (t.clearRc n) := .putOwn (by decide) h.modPort

theorem clearComp (h : s.ThatchStill t) : s.ThatchStill (t.clearComp n) := .putOwn (by decide) <| .putOwn (by decide) h.modPort

theorem setGut {on : Bool} {c : Nat} (h : s.ThatchStill t) : s.ThatchStill (t.setGut n on c) := .putOwn (by decide) <| h.putOwn (by decide)

theorem discharge (h : s.ThatchStill t) : s.ThatchStill (t.discharge n) := .maybe (fun h => .putOwn (by decide) h.setGut) h

theorem eaveOpen (h : s.ThatchStill t) : s.ThatchStill (t.eaveOpen n) := .discharge <| .clearComp <| .wrOwn (by decide) <| .modPort <| .putOwn (by decide) h.seeRamp

theorem swLeave (h : s.ThatchStill t) : s.ThatchStill (t.swLeave n) := .maybe (fun h => .put (by decide) <| h.of_regs rfl) h

theorem vconnOff (h : s.ThatchStill t) : s.ThatchStill (t.vconnOff n) := .putOwn (by decide) <| .putOwn (by decide) <| h.putOwn (by decide)

theorem setRd {k x : Nat} (h : s.ThatchStill t) : s.ThatchStill (t.setRd k x) :=
  .kept (State.setRd_regsKept t k x) (fun a ha => by rw [eq_of_beq ha]; decide) h

theorem driveRd {on : Bool} (h : s.ThatchStill t) : s.ThatchStill (t.driveRd n on) := .ite h h.setRd

theorem legsOff (h : s.ThatchStill t) : s.ThatchStill (t.legsOff n) :=
  .kept (p := portArea n) (fun a ha => by
    simp only [portArea, Bool.or_eq_false_iff] at ha
    exact State.rd_legsOff _ _ (by rintro rfl; simp [inPort_off] at ha) ha.2) (fun _ => lt_of_portArea) h

theorem clearCable (h : s.ThatchStill t) : s.ThatchStill (t.clearCable n) :=
  .wrOwn (by decide) <| .wrOwn (by decide) <| .wrOwn (by decide) <| .wrOwn (by decide) <| h.wrOwn (by decide)

theorem leaveAttach (h : s.ThatchStill t) : s.ThatchStill (t.leaveAttach n) :=
  .putOwn (by decide) <| .putOwn (by decide) <| .putOwn (by decide) <| .putOwn (by decide) <| .clearRc <| h.putOwn (by decide)

theorem setCurve {c : Option Curve} (h : s.ThatchStill t) : s.ThatchStill (t.setCurve n c) := by
  change s.ThatchStill ((t.modPort n _).showCurve n)
  unfold State.showCurve
  extract_lets e top
  cases top
  · exact .wrOwn (by decide) h.modPort
  · exact .maybe (.putOwn (by decide)) <| .wrOwn (by decide) h.modPort

theorem dropOps (h : s.ThatchStill t) : s.ThatchStill (t.dropOps n) :=
  .still (State.cancelLater_keeps ..) rfl <| .wrOwn (by decide) <| .putOwn (by decide) h.modPort

theorem endDeficit (h : s.ThatchStill t) : s.ThatchStill t.endDeficit := .of_regs (.put (by decide) h) (t.endDeficit_regs)

theorem allocToFloor (h : s.ThatchStill t) : s.ThatchStill (t.allocToFloor n) :=
  .maybe .endDeficit <| h.put (show 0x4040 + 0x4 * n.val < 0x5F000 by omega)

theorem noContract (h : s.ThatchStill t) : s.ThatchStill (t.noContract n) :=
  .wr (by unfold RDG_PRED.at; omega) <| .modPort <| .modPort <| .wrOwn (by decide) <| .wrOwn (by decide) <| .putOwn (by decide) <| .putOwn (by decide) <|
    h.putOwn (by decide)

theorem startRole (h : s.ThatchStill t) : s.ThatchStill (t.startRole n) := h.putOwn (by decide)

theorem pdReset (h : s.ThatchStill t) : s.ThatchStill (t.pdReset n) := by
  refine .allocToFloor <| .startRole <| .put (by decide) <| .modPort <| .foldl (fun u k hk hu => ?_) <| .wrOwn (by decide) <| .putOwn (by decide) <|
    .putOwn (by decide) <| .putOwn (by decide) <| .putOwn (by decide) <| .modPort h.noContract
  have := List.mem_range.1 hk
  rw [PPD_OFFER.at, Nat.add_assoc]
  exact hu.wrOwn (by omega)

theorem errRec (h : s.ThatchStill t) : s.ThatchStill (t.errRec n) := by
  unfold State.errRec
  extract_lets t1 t2 t3 t4
  have h2 : s.ThatchStill t2 := .legsOff <| .vconnOff <| .driveRd <| .putOwn (by decide) <| .putOwn (by decide) h.swLeave
  have h3 : s.ThatchStill t3 := .ite h2.eaveOpen h2.discharge
  exact .modPort <| .dropOps <| .setCurve <| .leaveAttach <| .clearCable h3.pdReset

theorem tallyLatch {c : Nat} (hc : c < 8) (h : s.ThatchStill t) : s.ThatchStill (t.tallyLatch n c) := by
  have ht : s.ThatchStill (t.tallyAdd (portTally n c) 1).2 := ⟨h.phase, h.regs.tallyAdd (decide_eq_true (by
    unfold BAT_TALLY1.at portTally
    omega))⟩
  unfold State.tallyLatch
  split <;> rename_i u hu <;> rw [hu] at ht
  · exact .modPort <| ht.putOwn (by decide)
  · exact ht

/-- The Gutter fault path (R269). -/
theorem gutterFault (h : s.ThatchStill t) : s.ThatchStill (t.gutterFault n) := by
  have h1 : s.ThatchStill (((t.setGut n false 0).raise (PGT_STATUS.FAULT n)).satInc (PGT_COUNT.FAULTS n)) := .putOwn (by decide) <| .putOwn (by decide) h.setGut
  exact .tallyLatch (by decide) <| .still (State.firePort_keeps ..) rfl <| .ite h1 h1.errRec

theorem stripFault (h : s.ThatchStill t) : s.ThatchStill (t.stripFault n) := .maybe .gutterFault h

theorem enterDisabled (h : s.ThatchStill t) : s.ThatchStill (t.enterDisabled n) :=
  .maybe .eaveOpen <| .modPort <| .driveRd <| .vconnOff <| .putOwn (by decide) <| h.putOwn (by decide)

theorem takeStaged {d : Nat} (hd : d < 0x1000) (h : s.ThatchStill t) : s.ThatchStill (t.takeStaged (portBase n.val + d)) := by
  unfold State.takeStaged
  split
  · exact h
  · exact .wrOwn hd <| h.of_regs rfl

theorem showRp (h : s.ThatchStill t) : s.ThatchStill (t.showRp n) := .maybe (.putOwn (by decide)) h

theorem stopCheck (h : s.ThatchStill t) : s.ThatchStill (t.stopCheck n) := .showRp <| .putOwn (by decide) h.modPort

theorem startCheck {first : Bool} (h : s.ThatchStill t) : s.ThatchStill (t.startCheck n first) :=
  .maybe (fun h => .maybe (.putOwn (by decide)) <| .putOwn (by decide) h.modPort) h

theorem candidate (h : s.ThatchStill t) : s.ThatchStill (t.candidate n) :=
  .maybe (fun h => .still (State.firePort_keeps ..) rfl <| .putOwn (by decide) h.stopCheck) h

theorem enterUnattached (h : s.ThatchStill t) : s.ThatchStill (t.enterUnattached n) := by
  unfold State.enterUnattached
  extract_lets t1 t2 t3
  have h2 : s.ThatchStill t2 := .modPort <| .putOwn (by decide) <| .putOwn (by decide) <| .takeStaged (by decide) <| h.takeStaged (by decide)
  have h3 : s.ThatchStill t3 :=
    .ite (.driveRd <| h2.putOwn (by decide)) (.clearCable <| .wrOwn (by decide) <| .vconnOff <| .showRp <| h2.putOwn (by decide))
  exact .ite h3 h3.candidate

theorem firstState (h : s.ThatchStill t) : s.ThatchStill (t.firstState n) := .ite h <| .startCheck <| .ite h.enterDisabled h.enterUnattached

theorem dropPortRegs (h : s.ThatchStill t) : s.ThatchStill (t.dropPortRegs n) := .kept (t.dropPortRegs_regsKept n) (fun _ => lt_of_portArea) h

theorem unpower (h : s.ThatchStill t) : s.ThatchStill (t.unpower n) :=
  .put (by decide) <| .put (by decide) <| .put (by decide) <| .put (by decide) <| .modPort h.dropPortRegs

theorem endRecov (h : s.ThatchStill t) : s.ThatchStill (t.endRecov n).1 := by
  unfold State.endRecov
  split
  · extract_lets ps b v
    have hv : s.ThatchStill v := h.of_regs rfl
    split
    · exact .maybe .setRd hv.unpower
    · exact hv
  · exact h

theorem leaveErrRec (h : s.ThatchStill t) : s.ThatchStill (t.leaveErrRec n) := by
  have hr := h.endRecov (n := n)
  unfold State.leaveErrRec
  extract_lets p
  refine .ite ?_ h
  split <;> rename_i u hu <;> rw [hu] at hr
  · exact hr
  · have hq : s.ThatchStill ((if u.get (PEV_STATUS.STATE n) = 4 then u.clear (PEV_STATUS.STATE n) else u).modPort n (fun q => { q with faultPath := false })) :=
      .modPort <| .maybe (.putOwn (by decide)) hr
    exact .ite hq.enterDisabled hq.enterUnattached

theorem relayPort (h : s.ThatchStill t) : s.ThatchStill (t.relayPort n) := .leaveErrRec h.modPort

/-! ### The change of a port's structure (R87, R454) -/

theorem stopSlice {k : Fin 48} (h : s.ThatchStill t) : s.ThatchStill (t.stopSlice k) :=
  .kept (p := fun a => a == RAF_STAT.at k || a == RAF_CTRL.at k)
    (fun a ha => by
      simp only [Bool.or_eq_false_iff, beq_eq_false_iff_ne] at ha
      exact t.rd_stopSlice_ne k ha.1 ha.2)
    (fun a ha => by
      simp only [Bool.or_eq_true, beq_iff_eq] at ha
      rcases ha with rfl | rfl <;> exact sliceReg_lt k (by decide)) h

theorem putSlice {k : Fin 48} {d lo w x : Nat} (hd : d < 0x100) (h : s.ThatchStill t) : s.ThatchStill (t.put ⟨sliceBase k.val + d, lo, w⟩ x) :=
  h.put (sliceReg_lt k hd)

theorem dropLegs (h : s.ThatchStill t) : s.ThatchStill (t.dropLegs n) :=
  .foldl (fun _ _ _ hu => .putSlice (by decide) <| .putSlice (by decide) <| .putSlice (by decide) <| .putSlice (by decide) hu.stopSlice) h

theorem setStruct {ps : PortStruct} (h : s.ThatchStill t) : s.ThatchStill (t.setStruct n ps) :=
  .maybe (fun h => .kept (.nameLegs (n := n) (.refl _ _)) (fun _ => lt_of_portArea) h) <| .putOwn (by decide) <| .modPort h.dropLegs

/-- A register of a record; a reserved value raises the flag of the slice that it goes to (R11). -/
theorem loadReg {a : Nat} {v : Word} (ha : a < 0x5F000) (h : s.ThatchStill t) : s.ThatchStill (t.loadReg a v) := by
  unfold State.loadReg
  split
  · exact h
  · refine .maybe (fun hw => ?_) <| .of_regs (.wr ha h) rfl
    split
    · exact .putSlice (by decide) hw
    · exact hw

theorem loadRec {rs : List ThaRec} {ty : Nat} (hty : ty ∈ [tyCCCFG, tySINKPOL, tyLOOPSET, tyFUSEBASE, tyGUTTER, tyVALLEY]) (h : s.ThatchStill t) :
    s.ThatchStill (t.loadRec rs ty n.val) :=
  .foldl (fun _ x hx hu => by
    have ha : x.1 < 0x5F000 := lt_of_portArea (n := n) (by rw [portArea, inPort_of_mem_recRegs n ty hty x hx, Bool.true_or])
    exact .loadReg ha <| .wr ha hu) h

theorem loadRafter {rs : List ThaRec} (h : s.ThatchStill t) : s.ThatchStill (t.loadRafter rs n) := by
  unfold State.loadRafter
  extract_lets p t1
  have h1 : s.ThatchStill t1 := .foldl (fun u x hx hu => .loadReg (lt_of_mem_rafterRegs hx) <| hu.wr (lt_of_mem_rafterRegs hx)) h
  refine .foldl (fun u k _ hu => ?_) h1
  extract_lets v
  have hv : s.ThatchStill v := .maybe (.putSlice (by decide)) hu
  have hk : v.regsKept (v.restartDt k) (portArea n) := .restartDt (.refl _ _)
  exact (hv.kept hk fun _ => lt_of_portArea).of_regs rfl

theorem loadPortRecs {rs : List ThaRec} (h : s.ThatchStill t) : s.ThatchStill (t.loadPortRecs rs n) :=
  .loadRafter <| .putOwn (by decide) <| .foldl (fun _ _ hty hu => hu.loadRec hty) h

theorem releasePort (h : s.ThatchStill t) : s.ThatchStill (t.releasePort n) :=
  .ite h <| .putOwn (by decide) <| .putOwn (by decide) <| .putOwn (by decide) <| .startRole <| .putOwn (by decide) <| .putOwn (by decide) <| .putOwn (by decide) <|
    .loadPortRecs <| .setStruct <| .put (by decide) <| .modPort h.dropPortRegs

theorem restructure (h : s.ThatchStill t) : s.ThatchStill (t.restructure n) :=
  .ite (.startRole <| .loadPortRecs h.setStruct) <| .ite h h.releasePort.firstState

/-! ### Floors and the ledger (R180, R183) -/

theorem implicitCurve (h : s.ThatchStill t) : s.ThatchStill (t.implicitCurve n) :=
  .setCurve <| .foldl (fun u a ha hu => by
    obtain ⟨w, hw, rfl⟩ := List.mem_map.1 ha
    have := List.mem_range.1 hw
    rw [show PEV_BASE.at n ((t.entry n 0).fuseIdx % 16) w = portBase n.val + (0xa80 + 0x24 * ((t.entry n 0).fuseIdx % 16) + 0x4 * w) by
      simp only [PEV_BASE.at]; omega]
    exact hu.takeStaged (by omega)) h

theorem takeFloor {w : Nat} (h : s.ThatchStill t) : s.ThatchStill (t.takeFloor n w) := by
  have hf : s.ThatchStill ((t.setFloor n w).showRp n) :=
    .showRp <| .put (show 0x4040 + 0x4 * n.val < 0x5F000 by omega) <| h.put (show 0x4040 + 0x4 * n.val < 0x5F000 by omega)
  exact .maybe .implicitCurve hf

theorem applyFloors {rs : List ThaRec} (h : s.ThatchStill t) : s.ThatchStill (t.applyFloors rs) := .foldl (fun _ _ _ hu => .maybe .takeFloor hu) h

theorem resolveDeficit (h : s.ThatchStill t) : s.ThatchStill t.resolveDeficit :=
  .kept t.resolveDeficit_regsKept (fun _ => lt_of_ledgerArea) h

end State.ThatchStill

end Sys2Proof.Machine
end

section
/-!
PROOF. The phases of a Thatch operation (R84, R87, R94, R95, R454) and the scrubber (R91, R92).
-/

namespace Sys2Proof.Machine

theorem Next.of_doneAll {c : Instr} {s t : State} {P : State → Prop} (h : exec c s = doneAll s t) (p : P (s.reportAll t)) : Next c s P := ⟨_, h, p⟩

theorem State.get_reportAll (b s : State) (f : Fld) : (b.reportAll s).get f = s.get f := State.get_of_regs (State.reportAll_regs b s) f

/-! ### Validation (R84, R87) -/

theorem firstFail_lt {l : List (Nat × Bool)} {b : Nat} (hb : 0 < b) (h : ∀ x ∈ l, x.1 < b) : firstFail l < b := by
  induction l with
  | nil => exact hb
  | cons x l ih =>
    obtain ⟨hx, hl⟩ := List.forall_mem_cons.1 h
    unfold firstFail
    split
    · exact ih hl
    · exact hx

/-- The code of a check fits its field. -/
theorem State.editCheck_lt (s : State) (o : SrOp) : s.editCheck o < 16 := by
  unfold State.editCheck
  exact firstFail_lt (by decide) (by simp)

/-- An operation has ended on the check that failed. -/
def State.srFailed (s : State) (c : Nat) : State := (s.put THA_SRSTAT.CHECK c).endSr 3

theorem State.validated_fails {s : State} {o : SrOp} (h : s.editCheck o ≠ 0) :
    (s.validated o).get THA_SRSTAT.PHASE = 0 ∧ (s.validated o).get THA_SRSTAT.RESULT = 3 ∧ (s.validated o).get THA_SRSTAT.CHECK = s.editCheck o ∧
      (s.validated o).tha.op = none ∧ (s.validated o).bat = (s.fire 0x113).bat := by
  have hv : s.validated o = (s.srFailed (s.editCheck o)).logFault 2 (s.editCheck o) := if_pos h
  obtain ⟨hphase, hresult⟩ := (s.put THA_SRSTAT.CHECK (s.editCheck o)).get_endSr (r := 3) (by decide)
  have hlog : (s.srFailed (s.editCheck o)).regsKept (s.validated o) (fun a => a == MTR_STAT.at) := by
    rw [hv]
    exact .logFault (.refl _ _) rfl
  have hk : (s.srFailed (s.editCheck o)).Keeps (pRegs ||| pSlate) (s.validated o) := by
    rw [hv]
    exact State.logFault_keeps ..
  refine ⟨(hlog.get rfl).trans hphase, (hlog.get rfl).trans hresult, (hlog.get rfl).trans ?_, ?_, ?_⟩
  · rw [State.srFailed, State.get_endSr_apart _ _ rfl rfl, State.get_put_same _ _ _ (by decide)]
    exact Nat.mod_eq_of_lt (s.editCheck_lt o)
  · rw [hk.tha rfl, State.srFailed, State.tha_endSr]
  · rw [hk.bat rfl, State.srFailed, State.bat_endSr _ (by decide)]
    exact State.fire_bat_of _ _ rfl rfl (State.rd_put_ne _ _ _ _ (by decide))

/-- An op that is offered may be counted as dropped. -/
theorem State.offer_regsKept (s : State) (o : Op) : s.regsKept (s.offer o) (fun a => a == RDG_CNT1.at) := by
  have hpush : s.regsKept (s.push o) (fun a => a == RDG_CNT1.at) := by
    unfold State.push
    split <;> exact .of_regs (.refl _ _) rfl
  exact .ite (fun _ => .refl _ _) fun _ => .ite (fun _ => hpush) fun _ => .ite (fun _ => .ite (fun _ => .of_regs (.refl _ _) rfl) fun _ => .refl _ _) fun _ =>
    .ite (fun _ => .of_regs (.refl _ _) rfl) fun _ => .ite (fun _ => .refl _ _) fun _ => .still (State.fire_keeps ..) rfl <| .put rfl <| .refl _ _

/-- The state in which the CFG op of a validated operation is offered. -/
def State.awaiting (s : State) (o : SrOp) (ports : List Nat) : State :=
  ports.foldl (fun u n => u.cancelPort n) ((s.modTha (fun h => { h with op := some { o with ports := ports } })).put THA_SRSTAT.PHASE 2)

theorem State.validated_passes {s : State} {o : SrOp} (h : s.editCheck o = 0) :
    (s.validated o).get THA_SRSTAT.PHASE = 2 ∧ (s.validated o).tha.op.isSome = true ∧ (s.validated o).rd THA_GEN.at = s.rd THA_GEN.at := by
  obtain ⟨ports, q, hv⟩ : ∃ ports q, s.validated o = (s.awaiting o ports).offer q := ⟨_, _, if_neg (not_not.2 h)⟩
  have hrd {a : Nat} (ha : 0x5F000 ≤ a) :
      (s.validated o).rd a = ((s.modTha (fun h => { h with op := some { o with ports := ports } })).put THA_SRSTAT.PHASE 2).rd a := by
    have hledger : ledgerArea a = false := Bool.eq_false_iff.2 fun hl => absurd (lt_of_ledgerArea hl) (by omega)
    simp only [ledgerArea, Bool.or_eq_false_iff, beq_eq_false_iff_ne] at hledger
    obtain ⟨⟨hunstage, hcnt⟩, -⟩ := hledger
    rw [hv, State.offer_regsKept _ _ a (beq_false_of_ne hcnt)]
    exact State.foldl_same (fun u => u.rd a) (fun u n => u.rd_cancelWhere _ hunstage hcnt) _ _
  have htha : (s.validated o).tha = { s.tha with op := some { o with ports := ports } } := by
    rw [hv, (State.offer_keeps ..).tha rfl]
    exact State.foldl_same State.tha (fun u n => (State.cancelPort_keeps u n).tha rfl) _ _
  refine ⟨(State.get_of_rd (f := THA_SRSTAT.PHASE) (hrd (by decide))).trans (State.get_put_same _ _ _ (by decide)), by rw [htha]; rfl, ?_⟩
  exact (hrd (by decide)).trans (State.rd_put_ne _ _ _ _ (by decide))

theorem validateDone_ends_phase (s : State) (o : SrOp) (hop : s.tha.op = some o) (hphase : s.get THA_SRSTAT.PHASE = 1) (hup : s.islandUp islRidge = true) :
    Next .validateDone s fun t =>
      (s.editCheck o ≠ 0 → t.get THA_SRSTAT.PHASE = 0 ∧ t.get THA_SRSTAT.RESULT = 3 ∧ t.get THA_SRSTAT.CHECK = s.editCheck o ∧
        t.tha.op = none ∧ t.bat = (s.fire 0x113).bat) ∧
      (s.editCheck o = 0 → t.get THA_SRSTAT.PHASE = 2 ∧ t.tha.op.isSome = true ∧ t.rd THA_GEN.at = s.rd THA_GEN.at) ∧
      t.running = s.running ∧ t.host = s.host ∧ t.slices = s.slices ∧ t.otp = s.otp ∧ t.pending = s.pending := by
  have hexec : exec .validateDone s = doneAll s (s.validated o) := by
    change execValidateDone s = _
    rw [execValidateDone, hop]
    exact if_pos ⟨hphase, hup⟩
  have hrep := State.reportAll_keeps s (s.validated o)
  have hk := (State.validated_keeps s o).trans (hrep.mono rfl)
  refine .of_doneAll hexec ⟨fun h => ?_, fun h => ?_, hk.running rfl, hk.host rfl, hk.slices rfl, hk.otp rfl, hk.pending rfl⟩
  · rw [State.get_reportAll, State.get_reportAll, State.get_reportAll, hrep.tha rfl, hrep.bat rfl]
    exact State.validated_fails h
  · rw [State.get_reportAll, hrep.tha rfl, State.rd_of_regs (State.reportAll_regs ..)]
    exact State.validated_passes h

/-! ### The change of an operation (R87 phase 4) -/

/-- The running image with the edits in it, and the generation that counts it (R80, R82). -/
theorem State.takeEdits_spec (s : State) (edits : List Word) :
    (s.takeEdits edits).running = applyEdits s.running (editRecs edits).recs ∧
      (s.takeEdits edits).get THA_GEN.GEN = (s.get THA_GEN.GEN + 1) % 2 ^ THA_GEN.GEN.w ∧
      s.regsKept (s.takeEdits edits) (fun a => a == THA_GEN.at) :=
  ⟨rfl, State.get_wrapInc_same _ THA_GEN.GEN (by decide), .put rfl <| .of_regs (.refl _ _) rfl⟩

/-- The ports of a change in their new structure, the floors and the ledger with them. -/
def State.rebuilt (s : State) (ns : List (Fin 16)) : State :=
  let t := ns.foldl State.restructure (ns.foldl (fun u n => u.dropLegs n) s)
  (t.applyFloors t.recs).resolveDeficit

theorem State.rebuilt_keeps (s : State) (ns : List (Fin 16)) :
    s.Keeps (pRegs ||| pStaged ||| pFreeCtr ||| pRidge ||| pBat ||| pPorts ||| pSlices ||| pBoot) (s.rebuilt ns) :=
  (State.resolveDeficit_keeps ..).step rfl <| (State.applyFloors_keeps ..).step rfl <| .foldl (fun _ _ hu => (State.restructure_keeps ..).step rfl hu) <|
    .foldl (fun _ _ hu => (State.dropLegs_keeps ..).step rfl hu) <| .refl ..

theorem State.ThatchStill.rebuilt {s t : State} {ns : List (Fin 16)} (h : s.ThatchStill t) : s.ThatchStill (t.rebuilt ns) :=
  .resolveDeficit <| .applyFloors <| .foldl (fun _ _ _ hu => hu.restructure) <| .foldl (fun _ _ _ hu => hu.dropLegs) h

theorem State.srChange_eq (s : State) (o : SrOp) : s.srChange o = ((s.takeEdits o.edits).rebuilt (portList o.ports)).put THA_SRSTAT.PHASE 5 := rfl

/-- A change of the Thatch's own state that changes nothing. -/
theorem State.modTha_eq_self {s : State} {f : ThaSt → ThaSt} (h : f s.tha = s.tha) : s.modTha f = s := by
  unfold State.modTha
  rw [h]

/-- Without a port on its way to a new image no port is changed. -/
theorem State.stripsChange_of_nil {s : State} (h : s.tha.strips = []) : s.stripsChange = s := by
  unfold State.stripsChange
  extract_lets ns t1 t2
  have hns : ns = [] := by simp [ns, h, portList]
  have ht : t2 = s := by simp only [t2, t1, hns, List.foldl_nil]
  rw [ht, hns]
  exact State.modTha_eq_self (by rw [h, List.map_nil, ← h])

theorem srChange_changes (s : State) (o : SrOp) (hop : s.tha.op = some o) (hphase : s.get THA_SRSTAT.PHASE = 4) (hup : s.islandUp islRidge = true)
    (hdue : s.tha.passDue = false) (hstrips : s.tha.strips = []) (hfunc : o.func < 16) (hlive : o.live = false)
    (hgone : (portList o.ports).all s.vbusGone = true) :
    Next .srChange s fun t =>
      t.get THA_SRSTAT.PHASE = 5 ∧ t.running = applyEdits s.running (editRecs o.edits).recs ∧
      t.get THA_GEN.GEN = (s.get THA_GEN.GEN + 1) % 2 ^ THA_GEN.GEN.w ∧ t.host = s.host ∧ t.otp = s.otp ∧ t.mtr = s.mtr ∧ t.pending = s.pending := by
  have hk := State.srChange_keeps s o
  have hexec : exec .srChange s = doneAll s (s.srChange o) := by
    change execSrChange s = _
    have hcond : s.get THA_SRSTAT.PHASE = 4 ∧ o.func < 16 ∧ ¬ o.live ∧ (portList o.ports).all s.vbusGone := ⟨hphase, hfunc, by simp [hlive], hgone⟩
    simp only [execSrChange, hup, hdue, hop, if_pos hcond]
    rw [State.stripsChange_of_nil ((congrArg ThaSt.strips (hk.tha rfl)).trans hstrips)]
    rfl
  obtain ⟨hrunning, hgen, htake⟩ := s.takeEdits_spec o.edits
  have hstill : (s.takeEdits o.edits).ThatchStill ((s.takeEdits o.edits).rebuilt (portList o.ports)) :=
    .rebuilt <| .refl (by rw [htake.get (f := THA_SRSTAT.PHASE) rfl, hphase]; decide)
  have hrep := State.reportAll_keeps s (s.srChange o)
  refine .of_doneAll hexec ⟨?_, ?_, ?_, (hrep.host rfl).trans (hk.host rfl), (hrep.otp rfl).trans (hk.otp rfl), (hrep.mtr rfl).trans (hk.mtr rfl),
    (hrep.pending rfl).trans (hk.pending rfl)⟩
  · rw [State.get_reportAll, State.srChange_eq]
    exact State.get_put_same _ _ _ (by decide)
  · rw [hrep.running rfl, ← hrunning]
    exact (State.rebuilt_keeps ..).running rfl
  · rw [State.get_reportAll, State.srChange_eq, State.get_put_ne _ _ _ _ (by decide), hstill.get (by decide), hgen]

/-! ### The end of an operation with its ports (R87 phase 5, R95) -/

/-- The parts that a port's policy changes as an operation on it ends. -/
abbrev pRelayed : Nat := pRegs ||| pStaged ||| pFreeCtr ||| pRidge ||| pBat ||| pPorts ||| pSlices ||| pJtl ||| pBoot

/-- An operation ends with a result and a turn of each of its ports, which leave the Thatch as it is. -/
theorem State.endSr_ports {f : State → Fin 16 → State} (hk : ∀ (u : State) n, u.Keeps pRelayed (f u n))
    (hs : ∀ (s t : State) n, s.ThatchStill t → s.ThatchStill (f t n)) (s : State) (ns : List (Fin 16)) {r : Nat} (hr : r < 16) :
    (ns.foldl f (s.endSr r)).get THA_SRSTAT.PHASE = 0 ∧ (ns.foldl f (s.endSr r)).get THA_SRSTAT.RESULT = r ∧
      (ns.foldl f (s.endSr r)).tha = { s.tha with op := none } ∧ s.Keeps (pRelayed ||| pTha) (ns.foldl f (s.endSr r)) := by
  obtain ⟨hphase, hresult⟩ := s.get_endSr hr
  have hstill : (s.endSr r).ThatchStill (ns.foldl f (s.endSr r)) := .foldl (fun _ _ _ hu => hs _ _ _ hu) <| .refl (by rw [hphase]; decide)
  have hkeep : (s.endSr r).Keeps pRelayed (ns.foldl f (s.endSr r)) := .foldl (fun u n hu => hu.trans (hk u n)) (.refl ..)
  exact ⟨(hstill.get (by decide)).trans hphase, (hstill.get (by decide)).trans hresult, (hkeep.tha rfl).trans (s.tha_endSr r),
    hkeep.step rfl ((State.endSr_keeps ..).mono rfl)⟩

/-- A command that ends an operation so, where no port is on its way to a new image. -/
theorem endSr_next {c : Instr} {s : State} {ns : List (Fin 16)} {f : State → Fin 16 → State} {r : Nat} (hk : ∀ (u : State) n, u.Keeps pRelayed (f u n))
    (hs : ∀ (s t : State) n, s.ThatchStill t → s.ThatchStill (f t n)) (hr : r < 16) (hexec : exec c s = doneAll s (ns.foldl f (s.endSr r))) :
    Next c s fun t =>
      t.get THA_SRSTAT.PHASE = 0 ∧ t.get THA_SRSTAT.RESULT = r ∧ t.tha.op = none ∧ t.running = s.running ∧
      t.host = s.host ∧ t.otp = s.otp ∧ t.mtr = s.mtr ∧ t.pending = s.pending := by
  obtain ⟨hphase, hresult, htha, hkeep⟩ := State.endSr_ports hk hs s ns hr
  have hrep := State.reportAll_keeps s (ns.foldl f (s.endSr r))
  have hall := hkeep.trans (hrep.mono rfl)
  exact .of_doneAll hexec ⟨(State.get_reportAll ..).trans hphase, (State.get_reportAll ..).trans hresult, congrArg ThaSt.op ((hrep.tha rfl).trans htha),
    hall.running rfl, hall.host rfl, hall.otp rfl, hall.mtr rfl, hall.pending rfl⟩

theorem State.relayPort_keeps_relayed (s : State) (n : Fin 16) : s.Keeps pRelayed (s.relayPort n) := (State.relayPort_keeps s n).mono rfl

theorem State.stripFault_keeps_relayed (s : State) (n : Fin 16) : s.Keeps pRelayed (s.stripFault n) := (State.stripFault_keeps s n).mono rfl

theorem State.stripsRelay_of_nil {s : State} (h : s.tha.strips = []) : s.stripsRelay = s := by
  have hports : allPorts.filter (fun n => s.tha.strips.contains (32 + n.val) && s.vbusGone n) = [] := by simp [h]
  rw [State.stripsRelay, hports, List.foldl_nil]

theorem State.stripsTimeout_of_nil {s : State} (h : s.tha.strips = []) : s.stripsTimeout = s := by
  have hports : (portList s.tha.strips).filter s.vbusStands = [] := by simp [h, portList]
  rw [State.stripsTimeout, hports, List.foldl_nil]

theorem srRelay_ends (s : State) (o : SrOp) (hphase : s.get THA_SRSTAT.PHASE = 5) (hop : s.tha.op = some o) (hstrips : s.tha.strips = [])
    (hgone : (portList o.ports).all s.vbusGone = true) :
    Next .srRelay s fun t =>
      t.get THA_SRSTAT.PHASE = 0 ∧ t.get THA_SRSTAT.RESULT = 1 ∧ t.tha.op = none ∧ t.running = s.running ∧
      t.host = s.host ∧ t.otp = s.otp ∧ t.mtr = s.mtr ∧ t.pending = s.pending := by
  refine endSr_next (ns := portList o.ports) State.relayPort_keeps_relayed (fun _ _ _ h => h.relayPort) (by decide) ?_
  obtain ⟨-, -, htha, -⟩ := State.endSr_ports State.relayPort_keeps_relayed (fun _ _ _ h => h.relayPort) s (portList o.ports) (r := 1) (by decide)
  change execSrRelay s = _
  simp only [execSrRelay, hop, if_pos (And.intro hphase hgone)]
  rw [State.stripsRelay_of_nil (by rw [htha, hstrips])]

theorem srVbusTimeout_ends (s : State) (o : SrOp) (hop : s.tha.op = some o) (hphase : s.get THA_SRSTAT.PHASE = 3) (hfunc : o.func < 16)
    (hstrips : s.tha.strips = []) (hstands : (portList o.ports).any s.vbusStands = true) :
    Next .srVbusTimeout s fun t =>
      t.get THA_SRSTAT.PHASE = 0 ∧ t.get THA_SRSTAT.RESULT = 5 ∧ t.tha.op = none ∧ t.running = s.running ∧
      t.host = s.host ∧ t.otp = s.otp ∧ t.mtr = s.mtr ∧ t.pending = s.pending := by
  refine endSr_next (ns := portList o.ports) State.stripFault_keeps_relayed (fun _ _ _ h => h.stripFault) (by decide) ?_
  obtain ⟨-, -, htha, -⟩ := State.endSr_ports State.stripFault_keeps_relayed (fun _ _ _ h => h.stripFault) s (portList o.ports) (r := 5) (by decide)
  change execSrVbusTimeout s = _
  simp only [execSrVbusTimeout, hop, if_pos (And.intro hphase (And.intro hfunc hstands))]
  rw [State.stripsTimeout_of_nil (by rw [htha, hstrips])]

/-! ### The authority map (R87, R364) -/

/-- A field of four bits of a word put together from six is the one put there. -/
theorem fieldOf_sum_hex (g : Nat → Nat) (hg : ∀ k, g k < 16) (k : Fin 6) :
    fieldOf (BitVec.ofNat 32 (((List.range 6).map (fun k => g k * 16 ^ k)).sum)) (4 * k.val + 3) (4 * k.val) = g k.val := by
  have hsum : ((List.range 6).map (fun k => g k * 16 ^ k)).sum = Nat.ofDigits 16 ((List.range 6).map g) := by
    rw [Nat.ofDigits_eq_sum_mapIdx]
    congr 1
  have hdigit : ∀ d ∈ (List.range 6).map g, d < 16 := fun d hd => by
    obtain ⟨i, -, rfl⟩ := List.mem_map.1 hd
    exact hg i
  have hlt : Nat.ofDigits 16 ((List.range 6).map g) < 2 ^ 32 :=
    lt_trans (Nat.ofDigits_lt_base_pow_length (by decide) hdigit) (by simp)
  have hk : k.val < ((List.range 6).map g).length := by simp
  rw [fieldOf, hsum, BitVec.toNat_ofNat, Nat.mod_eq_of_lt hlt, Nat.shiftRight_eq_div_pow, Nat.pow_mul, show 4 * k.val + 3 + 1 - 4 * k.val = 4 by omega]
  calc Nat.ofDigits 16 ((List.range 6).map g) / 16 ^ k.val % 16
      = Nat.ofDigits 16 (((List.range 6).map g).drop k.val) % 16 := by rw [Nat.ofDigits_div_pow_eq_ofDigits_drop _ (by decide) _ hdigit]
    _ = g k.val := by
      rw [List.drop_eq_getElem_cons hk, Nat.ofDigits_cons, Nat.add_mul_mod_self_left, List.getElem_map, List.getElem_range]
      exact Nat.mod_eq_of_lt (hg _)

theorem leastGrant_lt (k : Nat) (record : Option Word) (ceil : Word) : leastGrant k record ceil < 16 := by
  have hdefault : fieldOf defaultGrants (4 * k + 3) (4 * k) < 16 := by
    rw [fieldOf, show 4 * k + 3 + 1 - 4 * k = 4 by omega]
    exact Nat.mod_lt _ (by decide)
  unfold leastGrant
  cases record <;> exact lt_of_le_of_lt (Nat.min_le_left _ _) hdefault

theorem State.followChain_regsKept (s : State) : s.regsKept s.followChain (fun a => ledgerArea a || a == TRS_SHARE.at) := by
  have hledger (t : State) : t.regsKept t.resolveDeficit (fun a => ledgerArea a || a == TRS_SHARE.at) :=
    t.resolveDeficit_regsKept.mono fun _ ha => (Bool.or_eq_false_iff.1 ha).1
  exact .ite (fun _ => .refl _ _) fun _ => .ite (fun _ => .trans (.put rfl <| .put rfl <| .refl _ _) (hledger _)) fun _ =>
    .trans (.put rfl <| .refl _ _) (hledger _)

/-- HST_AUTH shows the least of default, record and ceiling for each port (R364). -/
theorem State.rd_auth_loadGrants (s : State) (k : Fin 6) :
    fieldOf (s.loadGrants.rd HST_AUTH.at) (4 * k.val + 3) (4 * k.val) = leastGrant k.val (recWord s.recs tyAUTHORITY instGlobal 0) (s.rd HST_CEIL.at) := by
  unfold State.loadGrants
  extract_lets r c w clamp
  rw [State.followChain_regsKept _ _ rfl, State.flag, State.rd_put_ne _ _ _ _ (by decide), State.rd_wr_same]
  exact fieldOf_sum_hex (fun k => leastGrant k r c) (fun k => leastGrant_lt k r c) k

/-- The new map in the place of the old one (R87). -/
def State.mapSwapped (s : State) (o : SrOp) : State := ((s.takeEdits o.edits).loadGrants).put THA_SRSTAT.PHASE 5

theorem authoritySwap_swaps (s : State) (o : SrOp) (hop : s.tha.op = some o) (hphase : s.get THA_SRSTAT.PHASE = 3) (hup : s.islandUp islRidge = true)
    (hfunc : o.func = 17) :
    Next .authoritySwap s fun t =>
      t.get THA_SRSTAT.PHASE = 5 ∧ t.get THA_SRSTAT.RESULT = s.get THA_SRSTAT.RESULT ∧ t.tha.op = some o ∧
      t.running = applyEdits s.running (editRecs o.edits).recs ∧ t.get THA_GEN.GEN = (s.get THA_GEN.GEN + 1) % 2 ^ THA_GEN.GEN.w ∧
      (∀ k : Fin 6, fieldOf (t.rd HST_AUTH.at) (4 * k.val + 3) (4 * k.val) = leastGrant k.val (recWord t.recs tyAUTHORITY instGlobal 0) (s.rd HST_CEIL.at)) ∧
      t.host = s.host ∧ t.slices = s.slices ∧ t.otp = s.otp ∧ t.mtr = s.mtr ∧ t.pending = s.pending := by
  have hexec : exec .authoritySwap s = done (s.mapSwapped o) := by
    change execAuthoritySwap s = _
    rw [execAuthoritySwap, hop]
    exact if_pos ⟨hphase, hfunc, hup⟩
  obtain ⟨hrunning, hgen, htake⟩ := s.takeEdits_spec o.edits
  have hgrants := (s.takeEdits o.edits).loadGrants_regsKept
  have hload := State.loadGrants_keeps (s.takeEdits o.edits)
  have hk : s.Keeps (pRegs ||| pRunning ||| pRidge ||| pBat ||| pPorts) (s.mapSwapped o) :=
    (State.put_keeps ..).step rfl <| hload.step rfl <| (State.takeEdits_keeps ..).mono rfl
  have himage : (s.mapSwapped o).running = (s.takeEdits o.edits).running :=
    ((State.put_keeps ..).running rfl).trans (hload.running rfl)
  refine .of_done hexec ⟨State.get_put_same _ _ _ (by decide), ?_, (congrArg ThaSt.op (hk.tha rfl)).trans hop, himage.trans hrunning, ?_, fun k => ?_,
    hk.host rfl, hk.slices rfl, hk.otp rfl, hk.mtr rfl, hk.pending rfl⟩
  · rw [State.mapSwapped, State.get_put_apart _ _ rfl, hgrants.get (by decide), htake.get (by decide)]
  · rw [State.mapSwapped, State.get_put_ne _ _ _ _ (by decide), hgrants.get (by decide), hgen]
  · have hauth := (s.takeEdits o.edits).rd_auth_loadGrants k
    rw [htake HST_CEIL.at (by decide)] at hauth
    have hrecs : (s.mapSwapped o).recs = (s.takeEdits o.edits).recs := by
      rw [State.recs, State.recs, himage]
    rw [hrecs, ← hauth, State.mapSwapped, State.rd_put_ne _ _ _ _ (by decide)]

/-! ### The scrubber (R91, R92) -/

/-- The registers that the correction of a word writes: the scrubber's errors, and the tallies. -/
def scrubArea (a : Nat) : Bool := a == THA_SCRUBSTAT.at || a == THA_ERRADDR.at || within 0x5000 0x8000 a

/-- The registers of a whole pass: its count too. -/
def passArea (a : Nat) : Bool := a == THA_SCRUBPASS.at || a == THA_SCRUBSTAT.at || a == THA_ERRADDR.at || within 0x5000 0x8000 a

theorem passArea_eq_false {n : Fin 16} {a : Nat} (h : inPort n a = true) : passArea a = false := by
  simp only [inPort, within, portBase, Bool.and_eq_true, decide_eq_true_eq] at h
  simp only [passArea, within, THA_SCRUBPASS.at, THA_SCRUBSTAT.at, THA_ERRADDR.at, Bool.or_eq_false_iff, beq_eq_false_iff_ne, Bool.and_eq_false_iff,
    decide_eq_false_iff_not]
  omega

theorem scrubArea_of_passArea {a : Nat} (h : passArea a = false) : scrubArea a = false := by
  simp only [passArea, Bool.or_eq_false_iff] at h
  simp [scrubArea, h]

theorem State.tallyPlain_regsKept (s : State) {k : Nat} {p : Nat → Bool} (hk : p (BAT_TALLY1.at k) = true) : s.regsKept (s.tallyPlain k) p :=
  .tallyAdd hk (.refl _ _)

theorem State.scrubCe_regsKept (s : State) (a : Nat) : s.regsKept (s.scrubCe a) scrubArea :=
  .trans (.still (State.fire_keeps ..) rfl <| .put rfl <| .put rfl <| .put rfl <| .refl _ _) (State.tallyPlain_regsKept _ rfl)

/-- A corrected word counts once. -/
theorem State.get_ce_scrubCe (s : State) (a : Nat) :
    (s.scrubCe a).get THA_SCRUBSTAT.CE = min (s.get THA_SCRUBSTAT.CE + 1) (2 ^ THA_SCRUBSTAT.CE.w - 1) := by
  have h : (s.satInc THA_SCRUBSTAT.CE).regsKept (s.scrubCe a) (fun b => b != THA_SCRUBSTAT.at) :=
    .trans (.still (State.fire_keeps ..) rfl <| .put rfl <| .put rfl <| .refl _ _) (State.tallyPlain_regsKept _ rfl)
  rw [h.get rfl, State.get_satInc_same _ _ (by decide)]

theorem State.islandUp_scrubCe (s : State) (a k : Nat) : (s.scrubCe a).islandUp k = s.islandUp k := (s.scrubCe_regsKept a).islandUp rfl

/-- A pass that finds no uncorrectable word counts every word it corrects. -/
theorem State.scrubWords_corrects (fetchOk : Bool) (ws : List (Nat × Bool)) (h : ∀ x ∈ ws, x.2 = false) (s : State) (hup : s.islandUp islRidge = true) :
    s.regsKept (s.scrubWords fetchOk ws) scrubArea ∧ s.Keeps (pRegs ||| pBat) (s.scrubWords fetchOk ws) ∧
      (s.scrubWords fetchOk ws).get THA_SCRUBSTAT.CE = min (s.get THA_SCRUBSTAT.CE + ws.length) (2 ^ THA_SCRUBSTAT.CE.w - 1) := by
  induction ws generalizing s with
  | nil =>
    have hlt : s.get THA_SCRUBSTAT.CE < 2 ^ THA_SCRUBSTAT.CE.w := Nat.mod_lt _ (by decide)
    exact ⟨.refl _ _, .refl .., (Nat.min_eq_left (Nat.le_sub_one_of_lt hlt)).symm⟩
  | cons x ws ih =>
    obtain ⟨hx, hws⟩ := List.forall_mem_cons.1 h
    have hcons : s.scrubWords fetchOk (x :: ws) = (s.scrubCe x.1).scrubWords fetchOk ws := by
      rw [State.scrubWords, List.foldl_cons, if_pos hup, State.scrubWord, hx]
      rfl
    obtain ⟨hregs, hk, hce⟩ := ih hws (s.scrubCe x.1) ((s.islandUp_scrubCe _ _).trans hup)
    rw [hcons]
    refine ⟨.trans (s.scrubCe_regsKept _) hregs, hk.step rfl (State.scrubCe_keeps ..), ?_⟩
    rw [hce, s.get_ce_scrubCe, List.length_cons]
    omega

theorem insertWord_perm (x : Nat × Bool) (l : List (Nat × Bool)) : (insertWord x l).Perm (x :: l) := by
  induction l with
  | nil => exact .refl _
  | cons y l ih =>
    unfold insertWord
    split
    · exact .refl _
    · exact (ih.cons y).trans (.swap x y l)

/-- A reader's words in order are the words found, whatever their order. -/
theorem faultWords_perm (ce ue : List (BitVec 17)) :
    (faultWords ce ue).Perm (ce.map (fun a => (a.toNat, false)) ++ ue.map (fun a => (a.toNat, true))) := by
  unfold faultWords
  induction ce.map (fun a => (a.toNat, false)) ++ ue.map (fun a => (a.toNat, true)) with
  | nil => exact .refl _
  | cons x l ih => exact (insertWord_perm x _).trans (ih.cons x)

/-- A pass is complete (R91). -/
def State.passDone (s : State) : State := (s.wrapInc THA_SCRUBPASS.PASSES).modTha (fun h => { h with passDue := false })

theorem scrubPass_counts (s : State) (ce : List (BitVec 17)) (fetchOk : Bool) (hloaded : s.bit THA_STAT.LOADED = true) (hup : s.islandUp islRidge = true) :
    Next (.scrubPass ce [] fetchOk) s fun t =>
      t.get THA_SCRUBPASS.PASSES = (s.get THA_SCRUBPASS.PASSES + 1) % 2 ^ THA_SCRUBPASS.PASSES.w ∧
      t.get THA_SCRUBSTAT.CE = min (s.get THA_SCRUBSTAT.CE + ce.length) (2 ^ THA_SCRUBSTAT.CE.w - 1) ∧
      t.running = s.running ∧ s.regsKept t (fun a => a == THA_SCRUBPASS.at || a == THA_SCRUBSTAT.at || a == THA_ERRADDR.at || within 0x5000 0x8000 a) ∧
      t = { s with regs := t.regs, bat := t.bat, tha := { s.tha with passDue := false } } := by
  have hperm := faultWords_perm ce []
  have hmarks : ∀ x ∈ faultWords ce [], x.2 = false := fun x hx => by
    have := hperm.mem_iff.1 hx
    simp only [List.map_nil, List.append_nil, List.mem_map] at this
    obtain ⟨a, -, rfl⟩ := this
    rfl
  have hlength : (faultWords ce []).length = ce.length := by rw [hperm.length_eq]; simp
  obtain ⟨hregs, hk, hce⟩ := s.scrubWords_corrects fetchOk (faultWords ce []) hmarks hup
  have hscrubbed : exec (.scrubPass ce [] fetchOk) s = doneAll s (s.scrubWords fetchOk (faultWords ce [])).passDone := by
    change execScrubPass ce [] fetchOk s = _
    simp only [execScrubPass, hloaded, hup, (hregs.islandUp (k := islRidge) rfl).trans hup, if_true]
    rfl
  generalize s.scrubWords fetchOk (faultWords ce []) = u at hregs hk hce hscrubbed
  have hkept : s.regsKept u.passDone passArea :=
    .of_regs (.put rfl (hregs.mono fun _ => scrubArea_of_passArea)) rfl
  have hquiet (n : Fin 16) : s.genKey n = u.passDone.genKey n :=
    (State.genKey_of_rd fun a ha => hkept a (passArea_eq_false ha)).symm
  rw [hlength] at hce
  refine .of_done (hscrubbed.trans (congrArg Host.Outcome.next (State.reportAll_eq_self hquiet))) ⟨?_, ?_, hk.running rfl, hkept, ?_⟩
  · rw [← hregs.get (f := THA_SCRUBPASS.PASSES) rfl]
    exact State.get_wrapInc_same u THA_SCRUBPASS.PASSES (by decide)
  · exact (State.get_put_ne u THA_SCRUBPASS.PASSES THA_SCRUBSTAT.CE _ (by decide)).trans hce
  · have hend : s.Keeps (pRegs ||| pBat ||| pTha) u.passDone :=
      (State.modTha_keeps ..).step rfl <| (State.wrapInc_keeps ..).step rfl <| hk.mono rfl
    have htha : u.passDone.tha = { s.tha with passDue := false } :=
      congrArg (fun h : ThaSt => { h with passDue := false }) (hk.tha rfl)
    rw [← htha]
    exact hend.eq_mix

/-- Settles O16: an operation phase by phase, from its validation over the change of the structure or of the authority map to its end, and a pass of the scrubber. -/
theorem thatchOperations : Obligations.ThatchOperations := by
  unfold Obligations.ThatchOperations
  exact ⟨validateDone_ends_phase, srChange_changes, srRelay_ends, authoritySwap_swaps, srVbusTimeout_ends, scrubPass_counts⟩

end Sys2Proof.Machine
end

section
/-!
PROOF. The clause of O17 about ATTACHED_SRC fails. It says that no other port changes. The attach applies VCONN to the port, and where the budget has no room for its
reservation, the reservation that a port with a higher number made in the same commit slot gives way (R112): that port's discovery ends with its VCONN (R115).
-/

namespace Sys2Proof.Machine

/-- Port 0 waits to attach with Rd on CC1. The reservations of ports 1 to 6 fill the budget of 8 W (0.5 W and five times 1.5 W); port 1 made its own in this commit slot
and has a discovery message out. -/
def vconnBudgetFull : State :=
  { ([2, 3, 4, 5, 6].foldl (fun (u : State) (m : Fin 16) => u.put (PCC_VCONN.RES m) 2)
      ((((((State.reset.put GLB_PORTMASK.PRESENT 0xFFFF).put GLB_ISLPWR.ISL (1 + 2 ^ islRidge)).setCc 0 ccAttachWaitSrc).put (PCC_STATUS.CC1CLS 0) 2).raise
        (PCC_CFG.VCONNEN 0)).vconnReserve 1 1)).modPd 1 (fun d => { d with discovering := true }) with
    soffit := { SoffitSt.reset with vhvOk := true } }

/-- The state after ATTACHED_SRC of port 0. -/
def vconnBudgetRoomMade : State := vconnBudgetFull.report 0 ((vconnBudgetFull.seeVbus 0 true).tryAttachSrc 0)

theorem exec_attachedSrc_vconnBudgetFull : exec (.attachedSrc 0 true) vconnBudgetFull = .next vconnBudgetRoomMade := by
  change execAttachedSrc 0 true vconnBudgetFull = _
  exact if_pos (by decide +kernel)

theorem vconnBudgetFull_discovering : vconnBudgetFull.ports[(1 : Fin 16)].pd.discovering = true := by decide +kernel

/-- Port 1 has given way, and its discovery has ended. -/
theorem vconnBudgetRoomMade_discovering : vconnBudgetRoomMade.ports[(1 : Fin 16)].pd.discovering = false := by decide +kernel

/-- Refutes O17: in `vconnBudgetFull` the attach of port 0 ends the discovery of port 1. -/
theorem not_sourceAttach : ¬ Obligations.SourceAttach := by
  unfold Obligations.SourceAttach
  rintro ⟨-, attachedSrc, -⟩
  obtain ⟨t, ht, -, -, -, -, -, -, -, -, -, -, -, -, -, hports, -⟩ :=
    attachedSrc vconnBudgetFull 0 (by decide +kernel) (by decide +kernel) (by decide +kernel) (by decide +kernel) (by decide +kernel) (by decide +kernel)
      (by decide +kernel) rfl
  obtain rfl : vconnBudgetRoomMade = t := Host.Outcome.next.inj (exec_attachedSrc_vconnBudgetFull.symm.trans ht)
  have h : vconnBudgetRoomMade.ports[(1 : Fin 16)].pd.discovering = vconnBudgetFull.ports[(1 : Fin 16)].pd.discovering :=
    congrArg PdSt.discovering (congrArg PortSt.pd (hports 1 (by decide)))
  rw [vconnBudgetRoomMade_discovering, vconnBudgetFull_discovering] at h
  exact absurd h (by decide)

end Sys2Proof.Machine
end

section
/-!
PROOF. The clause of O18 about VBUS_BELOW_VSAFE0V fails. It says that the command writes PGT_STATUS of the port alone. But where a strip waits for the VBUS of the
ports it concerns (THA_SRSTAT.PHASE 3), and this is the last of them, the strip ends and PHASE shows 4 (R87).
-/

namespace Sys2Proof.Machine

/-- A strip waits for the VBUS of port 0, which is Disabled. -/
def stripAwaitsPort : State :=
  (((State.reset.put GLB_PORTMASK.PRESENT 0xFFFF).put GLB_ISLPWR.ISL (1 + 2 ^ islRidge)).put THA_SRSTAT.PHASE 3).modTha
    (fun h => { h with op := some { live := false, func := 2, hp := .spi, ports := [0], edits := [], since := 0 } })

/-- The state after VBUS_BELOW_VSAFE0V of port 0. -/
def stripEnded : State := stripAwaitsPort.report 0 ((stripAwaitsPort.seeVbus 0 true).leaveErrRec 0)

theorem exec_vbusBelowVsafe0v_stripAwaitsPort : exec (.vbusBelowVsafe0v 0) stripAwaitsPort = .next stripEnded := by
  change execVbusBelowVsafe0v 0 stripAwaitsPort = _
  exact (if_neg (by decide)).trans ((if_neg (by decide +kernel)).trans (if_neg (by decide +kernel)))

theorem stripAwaitsPort_phase : stripAwaitsPort.get THA_SRSTAT.PHASE = 3 := by decide

theorem stripEnded_phase : stripEnded.get THA_SRSTAT.PHASE = 4 := by decide +kernel

/-- Refutes O18: in `stripAwaitsPort` the fall of VBUS of port 0 writes THA_SRSTAT. -/
theorem not_sinkAttachAndCcFaults : ¬ Obligations.SinkAttachAndCcFaults := by
  unfold Obligations.SinkAttachAndCcFaults
  rintro ⟨-, -, -, -, -, -, vbusBelow, -⟩
  obtain ⟨t, ht, -, hregs, -⟩ := vbusBelow stripAwaitsPort 0 (by decide) (by decide) (by decide) (by decide) (by decide)
  obtain rfl : stripEnded = t := Host.Outcome.next.inj (exec_vbusBelowVsafe0v_stripAwaitsPort.symm.trans ht)
  have h := stripEnded_phase
  rw [State.get_of_rd (f := THA_SRSTAT.PHASE) (hregs THA_SRSTAT.at (by decide)), stripAwaitsPort_phase] at h
  exact absurd h (by decide)

end Sys2Proof.Machine
end

section
/-!
SUPPORT. A step that touches one port: the registers of an area and that port's own state (`State.Touches`), and its report (R373).
-/

namespace Sys2Proof.Machine

/-! ### The report of one port -/

theorem Next.of_done1 {c : Instr} {n : Fin 16} {s t : State} {P : State → Prop} (h : exec c s = done1 n s t) (p : P (s.report n t)) : Next c s P := ⟨_, h, p⟩

theorem State.get_report (b s : State) (n : Fin 16) (f : Fld) : (b.report n s).get f = s.get f := State.get_of_regs (State.report_regs b s n) f

theorem State.rd_report (b s : State) (n : Fin 16) (a : Nat) : (b.report n s).rd a = s.rd a := State.rd_of_regs (State.report_regs b s n) a

/-- A report counts in the port's STATE_GEN alone. -/
theorem State.report_port (b s : State) (n m : Fin 16) : ∃ g, (b.report n s).ports[m] = { s.ports[m] with gen := g } := by
  unfold State.report
  split
  · exact ⟨_, rfl⟩
  · by_cases hm : m = n
    · subst m
      exact ⟨_, State.modPort_port_same ..⟩
    · exact ⟨_, State.modPort_port_ne _ _ hm⟩

@[simp] theorem State.pd_report (b s : State) (n m : Fin 16) : (b.report n s).pd m = s.pd m := by
  obtain ⟨g, hg⟩ := b.report_port s n m
  rw [State.pd, hg]
  rfl

theorem State.report_port_ne (b s : State) {n m : Fin 16} (h : m ≠ n) : (b.report n s).ports[m] = s.ports[m] := by
  unfold State.report
  split
  · rfl
  · exact State.modPort_port_ne _ _ h

theorem State.genKey_report (b s : State) (n m : Fin 16) : (b.report n s).genKey m = s.genKey m := State.genKey_of_rd fun a _ => b.rd_report s n a

theorem State.foldl_report_eq_self {b s : State} {l : List (Fin 16)} (h : ∀ m ∈ l, b.genKey m = s.genKey m) : l.foldl (fun t m => b.report m t) s = s := by
  induction l with
  | nil => rfl
  | cons m l ih =>
    obtain ⟨hm, hl⟩ := List.forall_mem_cons.1 h
    rw [List.foldl_cons, State.report_eq_self hm, ih hl]

/-- Where the watched fields of one port alone have changed, no other port reports. -/
theorem State.reportAll_eq_report {b s : State} {n : Fin 16} (h : ∀ m, m ≠ n → b.genKey m = s.genKey m) : b.reportAll s = b.report n s := by
  obtain ⟨l, r, hlr⟩ := List.append_of_mem (List.mem_finRange n)
  have hnd : (l ++ n :: r).Nodup := hlr ▸ List.nodup_finRange 16
  have hl : ∀ m ∈ l, m ≠ n := fun m hm => (List.nodup_append.1 hnd).2.2 m hm n (.head _)
  have hr : ∀ m ∈ r, m ≠ n := fun m hm e => (List.nodup_cons.1 (List.nodup_append.1 hnd).2.1).1 (e ▸ hm)
  rw [State.reportAll, allPorts, hlr, List.foldl_append, List.foldl_cons, State.foldl_report_eq_self fun m hm => h m (hl m hm),
    State.foldl_report_eq_self fun m hm => (h m (hr m hm)).trans (b.genKey_report s n m).symm]

theorem inPort_eq_false_of_ne {m n : Fin 16} (h : m ≠ n) {a : Nat} (ha : inPort m a = true) : inPort n a = false := by
  have : m.val ≠ n.val := fun e => h (Fin.ext e)
  simp only [inPort, within, portBase, Bool.and_eq_true, decide_eq_true_eq, Bool.and_eq_false_iff, decide_eq_false_iff_not] at ha ⊢
  omega

theorem State.regsKept.regsBut {s t : State} {p : Nat → Bool} {l : List Nat} (h : s.regsKept t p) (hp : ∀ a, p a = true → a ∈ l) : s.regsBut t l :=
  fun a ha => h a (Bool.eq_false_iff.2 fun hpa => ha (hp a hpa))

/-! ### A step of one port -/

/-- From s to t registers of an area and the state of port n alone have changed; no report of the port has counted meanwhile. -/
structure State.Touches (s : State) (n : Fin 16) (p : Nat → Bool) (t : State) : Prop where
  regs : s.regsKept t p
  ports : s.portsBut t [n]
  gen : t.ports[n].gen = s.ports[n].gen

namespace State.Touches

variable {s t u : State} {n : Fin 16} {p q : Nat → Bool}

theorem refl (s : State) (n : Fin 16) (p : Nat → Bool) : s.Touches n p s := ⟨.refl _ _, fun _ _ => rfl, rfl⟩

theorem trans (h : s.Touches n p t) (g : t.Touches n p u) : s.Touches n p u :=
  ⟨h.regs.trans g.regs, fun m hm => (g.ports m hm).trans (h.ports m hm), g.gen.trans h.gen⟩

theorem mono (h : s.Touches n p t) (hq : ∀ a, p a = true → q a = true) : s.Touches n q t :=
  ⟨h.regs.mono fun a ha => Bool.eq_false_iff.2 fun hp => absurd (hq a hp) (by simp [ha]), h.ports, h.gen⟩

/-- Registers and ports are as before. -/
theorem of_eq (h : s.Touches n p t) (hr : u.regs = t.regs) (hp : u.ports = t.ports) : s.Touches n p u :=
  ⟨h.regs.of_regs hr, fun m hm => by rw [hp]; exact h.ports m hm, by rw [hp]; exact h.gen⟩

theorem still {m : Nat} (k : t.Keeps m u) (hr : m.testBit 0 = false) (hp : m.testBit 6 = false) (h : s.Touches n p t) : s.Touches n p u :=
  h.of_eq (k.regs hr) (k.ports hp)

theorem wr {a : Nat} {v : Word} (ha : p a = true) (h : s.Touches n p t) : s.Touches n p (t.wr a v) := ⟨h.regs.wr ha, h.ports, h.gen⟩

theorem put {f : Fld} {x : Nat} (ha : p f.addr = true) (h : s.Touches n p t) : s.Touches n p (t.put f x) := h.wr ha

theorem modPort {f : PortSt → PortSt} (hf : ∀ x, (f x).gen = x.gen) (h : s.Touches n p t) : s.Touches n p (t.modPort n f) where
  regs := h.regs
  ports m hm := (State.modPort_port_ne _ _ (by simpa using hm)).trans (h.ports m hm)
  gen := by rw [State.modPort_port_same, hf, h.gen]

theorem modPd {f : PdSt → PdSt} (h : s.Touches n p t) : s.Touches n p (t.modPd n f) := h.modPort fun _ => rfl

theorem takeStaged {a : Nat} (ha : p a = true) (h : s.Touches n p t) : s.Touches n p (t.takeStaged a) := by
  unfold State.takeStaged
  split
  · exact h
  · exact .wr ha <| h.of_eq rfl rfl

theorem ite {c : Prop} [Decidable c] (h : c → s.Touches n p t) (g : ¬c → s.Touches n p u) : s.Touches n p (if c then t else u) := by
  split
  · exact h ‹_›
  · exact g ‹_›

/-- A step that is taken or not. -/
theorem maybe {c : Prop} [Decidable c] (g : s.Touches n p t → s.Touches n p u) (h : s.Touches n p t) : s.Touches n p (if c then u else t) :=
  .ite (fun _ => g h) fun _ => h

theorem foldl {α : Type} {f : State → α → State} {l : List α} (hf : ∀ u, ∀ x ∈ l, s.Touches n p u → s.Touches n p (f u x)) (h : s.Touches n p t) :
    s.Touches n p (l.foldl f t) := List.foldlRecOn l f h fun u hu x hx => hf u x hx hu

/-- The port's report touches nothing else. -/
theorem report (h : s.Touches n p t) (b : State) : s.regsKept (b.report n t) p ∧ s.portsBut (b.report n t) [n] :=
  ⟨h.regs.of_regs (State.report_regs ..), fun m hm => (b.report_port_ne t (by simpa using hm)).trans (h.ports m hm)⟩

/-- A step within the block of port n changes no watched field of another port. -/
theorem reportAll (h : s.Touches n p t) (hp : ∀ a, p a = true → ∀ m, m ≠ n → inPort m a = false) : s.reportAll t = s.report n t :=
  State.reportAll_eq_report fun m hm => (State.genKey_of_rd fun a ha => h.regs a (Bool.eq_false_iff.2 fun hpa => absurd ha (by simp [hp a hpa m hm]))).symm

end State.Touches

end Sys2Proof.Machine
end

section
/-!
SUPPORT. What a port sends (R113, R129, R133): the messages, the registers of an offer, and the end of a discovery.
-/

namespace Sys2Proof.Machine

/-! ### The policy engine's part of a port -/

@[simp] theorem State.pd_modPort_same (s : State) (n : Fin 16) (f : PortSt → PortSt) : (s.modPort n f).pd n = (f s.ports[n]).pd := by
  rw [State.pd, State.modPort_port_same]

@[simp] theorem State.pd_modPd_same (s : State) (n : Fin 16) (f : PdSt → PdSt) : (s.modPd n f).pd n = f (s.pd n) := s.pd_modPort_same n _

@[simp] theorem State.pd_send_same (s : State) (n : Fin 16) (name : MsgName) (objs : List Word) (sop : Nat) :
    (s.send n name objs sop).pd n = { s.pd n with out := (s.pd n).out ++ [{ name := name, sop := sop, objs := objs }] } := s.pd_modPd_same n _

theorem State.pd_of_ports {s t : State} (h : t.ports = s.ports) (n : Fin 16) : t.pd n = s.pd n := by rw [State.pd, State.pd, h]

@[simp] theorem State.pd_put (s : State) (f : Fld) (x : Nat) (n : Fin 16) : (s.put f x).pd n = s.pd n := rfl

/-- The registers of the attach block of port n (R127). -/
def pccArea (n : Fin 16) (a : Nat) : Bool := within (portBase n.val) (portBase n.val + 0x200) a

theorem pccArea_off (n : Fin 16) {d : Nat} (h : d < 0x200) : pccArea n (portBase n.val + d) = true := by
  simp [pccArea, within, h]

theorem pccArea_eq_false (n : Fin 16) {d : Nat} (h : 0x200 ≤ d) : pccArea n (portBase n.val + d) = false := by
  simp [pccArea, within, h]

theorem inPort_of_pccArea {n : Fin 16} {a : Nat} (h : pccArea n a = true) : inPort n a = true := by
  simp only [pccArea, inPort, within, Bool.and_eq_true, decide_eq_true_eq] at h ⊢
  omega

/-! ### An offer (R131, R133) -/

/-- The registers of the policy engine's block of port n (R163). -/
def ppdArea (n : Fin 16) (a : Nat) : Bool := within (portBase n.val + 0x200) (portBase n.val + 0x300) a

theorem ppdArea_off (n : Fin 16) {d : Nat} (h : 0x200 ≤ d ∧ d < 0x300) : ppdArea n (portBase n.val + d) = true := by
  simp [ppdArea, within, h]

theorem ppdArea_eq_false (n : Fin 16) {d : Nat} (h : d < 0x200) : ppdArea n (portBase n.val + d) = false := by
  simp [ppdArea, within]
  omega

theorem inPort_of_ppdArea {n : Fin 16} {a : Nat} (h : ppdArea n a = true) : inPort n a = true := by
  simp only [ppdArea, inPort, within, Bool.and_eq_true, decide_eq_true_eq] at h ⊢
  omega

/-- The registers that show an offer, and of the port its positions, the time and the holds that trimmed it. -/
theorem State.Touches.composeAs {s t : State} {n : Fin 16} {epr : Bool} (h : s.Touches n (ppdArea n) t) : s.Touches n (ppdArea n) (t.composeAs n epr) := by
  unfold State.composeAs
  extract_lets nspr ws pos trim freed tags t1 t2
  have h1 : s.Touches n (ppdArea n) t1 := .foldl (fun u k hk hu => by
    have := List.mem_range.1 hk
    rw [PPD_OFFER.at, Nat.add_assoc]
    exact hu.wr (ppdArea_off n (by omega))) h
  have h2 : s.Touches n (ppdArea n) t2 := .put (ppdArea_off n (by decide)) <| .put (ppdArea_off n (by decide)) <| .put (ppdArea_off n (by decide)) h1
  exact .modPort (fun _ => rfl) h2.modPd

theorem State.pd_composeAs (s : State) (n : Fin 16) (epr : Bool) : ∃ pos, (s.composeAs n epr).pd n = { s.pd n with posMap := pos } := by
  unfold State.composeAs
  extract_lets nspr ws pos trim freed tags t1 t2
  have h1 : t1.pd n = s.pd n := List.foldlRecOn (motive := fun u : State => u.pd n = s.pd n) _ _ rfl fun _ hu _ _ => hu
  have h2 : t2.pd n = s.pd n := (State.pd_put ..).trans <| (State.pd_put ..).trans <| (State.pd_put ..).trans h1
  refine ⟨pos.map Prod.snd, ?_⟩
  rw [State.pd_modPort_same]
  change (t2.modPd n _).pd n = _
  rw [State.pd_modPd_same, h2]

theorem State.Touches.send {s t : State} {n : Fin 16} {p : Nat → Bool} {name : MsgName} {objs : List Word} {sop : Nat} (h : s.Touches n p t) :
    s.Touches n p (t.send n name objs sop) := h.modPd

theorem State.Touches.sendCached {s t : State} {n : Fin 16} {p : Nat → Bool} (h : s.Touches n p t) : s.Touches n p (t.sendCached n) := h.send

theorem State.Touches.sendOffer {s t : State} {n : Fin 16} (h : s.Touches n (ppdArea n) t) : s.Touches n (ppdArea n) (t.sendOffer n) := by
  unfold State.sendOffer
  extract_lets t1
  have h1 : s.Touches n (ppdArea n) t1 := .modPd h.composeAs
  have h2 : s.Touches n (ppdArea n) (t1.modPort n (fun p => { p with deficitDue := 0 })) := h1.modPort fun _ => rfl
  exact .put (ppdArea_off n (by decide)) h2.sendCached

theorem State.Touches.afterDisc {s t : State} {n : Fin 16} (h : s.Touches n (ppdArea n) t) : s.Touches n (ppdArea n) (t.afterDisc n) := .maybe .sendOffer h

/-- Of the policy engine an offer changes what it sends and the marks of the offer. -/
theorem State.pd_sendOffer (s : State) (n : Fin 16) : ∃ pos out,
    (s.sendOffer n).pd n = { s.pd n with posMap := pos, out := out, acked := false, offerDue := false, capsDue := false } := by
  obtain ⟨pos, hpos⟩ := s.pd_composeAs n (s.bit (PPD_STATUS.EPRMODE n))
  unfold State.sendOffer
  extract_lets t1
  have h1 : t1.pd n = { s.pd n with posMap := pos, acked := false, offerDue := false, capsDue := false } := by
    rw [State.pd_modPd_same, State.compose, hpos]
  have h2 : (t1.modPort n (fun p => { p with deficitDue := 0 })).pd n = t1.pd n := State.pd_modPort_same ..
  rw [State.setP, State.pd_put, State.sendCached, State.pd_send_same, h2, h1]
  exact ⟨pos, _, rfl⟩

theorem State.pd_afterDisc (s : State) (n : Fin 16) :
    ((s.afterDisc n).pd n).discovering = (s.pd n).discovering ∧ ((s.afterDisc n).pd n).eprWait = (s.pd n).eprWait := by
  obtain ⟨pos, out, h⟩ := s.pd_sendOffer n
  unfold State.afterDisc
  split
  · rw [h]
    exact ⟨rfl, rfl⟩
  · exact ⟨rfl, rfl⟩

end Sys2Proof.Machine
end

section
/-!
PROOF. O19: cable discovery attempt by attempt (R113, R114), its answers and its end (R115 to R117), the ground-return level (R118) and the first message after
SinkTxNG (R119).
-/

namespace Sys2Proof.Machine

/-- Each watched field of another port lies outside the block of port n. -/
theorem inPort_apart {n : Fin 16} {p : Nat → Bool} (hp : ∀ a, p a = true → inPort n a = true) :
    ∀ a, p a = true → ∀ m, m ≠ n → inPort m a = false := fun a ha _ hm => inPort_eq_false_of_ne hm.symm (hp a ha)

theorem State.mayDiscover_iff {s : State} {n : Fin 16} : s.mayDiscover n = true ↔
    s.cc n = ccAttachedSrc ∧ s.bit (PCC_CFG.DISCEN n) = true ∧ s.bit (PCC_STATUS.VCONNON n) = true ∧ s.get (PCC_CABLE.KIND n) = 0 ∧
      s.halted n.val = false := by
  simp [State.mayDiscover, and_assoc]

/-! ### Attempts (R113) -/

theorem State.discover_spec (s : State) (n : Fin 16) :
    s.Touches n (fun a => a == PCC_CABLE.at n) (s.discover n) ∧
      (s.discover n).get (PCC_CABLE.ATTEMPTS n) = (s.get (PCC_CABLE.ATTEMPTS n) + 1) % 32 ∧
      (s.discover n).pd n = { s.pd n with
        out := (s.pd n).out ++ [{ name := .discoverIdentity, sop := 1, objs := [] }], discovering := true, missed := false } := by
  refine ⟨.modPd <| .send <| .put (beq_self_eq_true _) <| .refl .., State.get_put_same _ _ _ (Nat.le_of_ble_eq_true rfl), ?_⟩
  rw [State.discover, State.pd_modPd_same, State.pd_send_same, State.pd_put]

/-- A command that makes one attempt, in a discovery that has made fewer than 20. -/
theorem discover_attempts {c : Instr} {s : State} {n : Fin 16} (h : exec c s = done1 n s (s.discover n)) (hlt : s.get (PCC_CABLE.ATTEMPTS n) < 20) :
    Next c s fun t =>
      t.get (PCC_CABLE.ATTEMPTS n) = s.get (PCC_CABLE.ATTEMPTS n) + 1 ∧ (t.pd n).discovering = true ∧
      (t.pd n).out = (s.pd n).out ++ [{ name := .discoverIdentity, sop := 1, objs := [] }] ∧
      s.portsBut t [n] ∧ s.regsBut t [PCC_CABLE.at n] ∧ t = { s with regs := t.regs, ports := t.ports } := by
  obtain ⟨htouch, hcount, hpd⟩ := s.discover_spec n
  obtain ⟨hregs, hports⟩ := htouch.report s
  refine .of_done1 h ⟨?_, ?_, ?_, hports, hregs.regsBut (by simp), ((State.report_keeps ..).step rfl (State.discover_keeps s n)).eq_mix⟩
  · rw [State.get_report, hcount]
    omega
  · rw [State.pd_report, hpd]
  · rw [State.pd_report, hpd]

theorem discdlyExpire_attempts (s : State) (n : Fin 16) (hmay : s.mayDiscover n = true) (hnone : s.get (PCC_CABLE.ATTEMPTS n) = 0) :
    Next (.discdlyExpire n) s fun t =>
      t.get (PCC_CABLE.ATTEMPTS n) = 1 ∧ (t.pd n).discovering = true ∧ (t.pd n).out = (s.pd n).out ++ [{ name := .discoverIdentity, sop := 1, objs := [] }] ∧
      s.portsBut t [n] ∧ s.regsBut t [PCC_CABLE.at n] ∧ t = { s with regs := t.regs, ports := t.ports } := by
  have hexec : exec (.discdlyExpire n) s = done1 n s (s.discover n) := by
    change execDiscdlyExpire n s = _
    exact if_pos (by simp [hmay, hnone])
  have h := discover_attempts hexec (by omega)
  rwa [hnone] at h

theorem execTdiscoverIdentity_of_mayDiscover {s : State} {n : Fin 16} (hmay : s.mayDiscover n = true) (hwait : (s.pd n).eprWait = false) :
    execTdiscoverIdentity n s =
      if 20 ≤ s.get (PCC_CABLE.ATTEMPTS n) then doneAll s ((s.cableUnknown n).discOver n)
      else if s.retryDue n (s.get (PCC_CABLE.ATTEMPTS n)) then done1 n s (s.discover n) else doneAll s (s.discOver n) := by
  obtain ⟨hcc, -, -, -, hhalt⟩ := State.mayDiscover_iff.1 hmay
  simp [execTdiscoverIdentity, hmay, hwait, hcc, hhalt]

theorem tdiscoverIdentity_attempts (s : State) (n : Fin 16) (hmay : s.mayDiscover n = true) (hwait : (s.pd n).eprWait = false)
    (hlt : s.get (PCC_CABLE.ATTEMPTS n) < 20) (hready : s.pstate n = 6) (hcontract : s.hasContract n = true) :
    Next (.tdiscoverIdentity n) s fun t =>
      t.get (PCC_CABLE.ATTEMPTS n) = s.get (PCC_CABLE.ATTEMPTS n) + 1 ∧ (t.pd n).discovering = true ∧
      (t.pd n).out = (s.pd n).out ++ [{ name := .discoverIdentity, sop := 1, objs := [] }] ∧
      s.portsBut t [n] ∧ s.regsBut t [PCC_CABLE.at n] ∧ t = { s with regs := t.regs, ports := t.ports } := by
  have hdue : s.retryDue n (s.get (PCC_CABLE.ATTEMPTS n)) = true := by simp [State.retryDue, State.discTime, hready, hcontract]
  refine discover_attempts ?_ hlt
  exact (execTdiscoverIdentity_of_mayDiscover hmay hwait).trans ((if_neg (Nat.not_le.2 hlt)).trans (if_pos hdue))

/-! ### The cable unknown (R113, R115) -/

theorem State.discOver_of_quiet {s : State} {n : Fin 16} (h : (s.pd n).eprWait = false) :
    s.discOver n = (s.modPd n (fun d => { d with discovering := false })).afterDisc n := by
  rw [State.discOver, State.eprResume, if_neg]
  rw [State.pd_modPd_same, h]
  exact Bool.false_ne_true

/-- With no EPR entry that waits, the end of a discovery message is no more than the first offer that has waited for it (R131). -/
theorem State.discOver_spec {s : State} {n : Fin 16} (h : (s.pd n).eprWait = false) :
    s.Touches n (ppdArea n) (s.discOver n) ∧ ((s.discOver n).pd n).discovering = false ∧ s.Keeps (pRegs ||| pPorts) (s.discOver n) := by
  rw [State.discOver_of_quiet h]
  refine ⟨.afterDisc <| .modPd <| .refl .., ?_, (State.afterDisc_keeps ..).step rfl <| (State.modPd_keeps ..).mono rfl⟩
  rw [(State.pd_afterDisc _ n).1, State.pd_modPd_same]

theorem State.cableUnknown_spec (s : State) (n : Fin 16) :
    s.Touches n (inPort n) (s.cableUnknown n) ∧ (s.cableUnknown n).get (PCC_CABLE.KIND n) = 1 ∧ (s.cableUnknown n).pd n = s.pd n := by
  refine ⟨.wr (inPort_off n (by decide)) <| .put (inPort_off n (by decide)) <| .put (inPort_off n (by decide)) <| .put (inPort_off n (by decide)) <|
    .put (inPort_off n (by decide)) <| .refl .., ?_, rfl⟩
  rw [State.cableUnknown, State.get_wr_ne _ _ _ (by simp), State.get_clear_apart _ rfl, State.get_put_apart _ _ rfl, State.get_put_apart _ _ rfl,
    State.get_put_same _ _ _ (Nat.le_of_ble_eq_true rfl)]
  rfl

/-- Discovery ends with the cable unknown, behind a step of the port itself that leaves its registers. -/
theorem unknown_ends {c : Instr} {s u : State} {n : Fin 16} (h : exec c s = doneAll s ((u.cableUnknown n).discOver n))
    (hu : s.Touches n (inPort n) u) (hk : s.Keeps (pRegs ||| pPorts) u) (hwait : (u.pd n).eprWait = false) :
    Next c s fun t =>
      t.get (PCC_CABLE.KIND n) = 1 ∧ (t.pd n).discovering = false ∧ s.portsBut t [n] ∧ s.regsKept t (inPort n) ∧
      t = { s with regs := t.regs, ports := t.ports } := by
  obtain ⟨htouch, hkind, hpd⟩ := u.cableUnknown_spec n
  obtain ⟨hover, hdisc, hover'⟩ := State.discOver_spec (s := u.cableUnknown n) (n := n) (by rw [hpd, hwait])
  have hall := hu.trans (htouch.trans (hover.mono fun _ => inPort_of_ppdArea))
  obtain ⟨hregs, hports⟩ := hall.report s
  refine .of_done1 (h.trans (congrArg Host.Outcome.next (hall.reportAll (inPort_apart fun _ => id)))) ⟨?_, ?_, hports, hregs, ?_⟩
  · rw [State.get_report, hover.regs.get (ppdArea_eq_false n (by decide)), hkind]
  · rw [State.pd_report, hdisc]
  · exact ((State.report_keeps ..).step rfl <| hover'.step rfl <| (State.cableUnknown_keeps ..).step rfl hk).eq_mix

theorem tdiscoverIdentity_gives_up (s : State) (n : Fin 16) (hmay : s.mayDiscover n = true) (hwait : (s.pd n).eprWait = false)
    (hle : 20 ≤ s.get (PCC_CABLE.ATTEMPTS n)) :
    Next (.tdiscoverIdentity n) s fun t =>
      t.get (PCC_CABLE.KIND n) = 1 ∧ (t.pd n).discovering = false ∧ s.portsBut t [n] ∧ s.regsKept t (inPort n) ∧ t = { s with regs := t.regs, ports := t.ports } :=
  unknown_ends ((execTdiscoverIdentity_of_mayDiscover hmay hwait).trans (if_pos hle)) (.refl ..) (.refl ..) hwait

theorem State.pd_keepId (s : State) (n : Fin 16) (sop : Nat) (id : BitVec 3) :
    (s.keepId n sop id).pd n = { s.pd n with rxId := (s.pd n).rxId.set sop (some id.toNat) } := s.pd_modPd_same n _

theorem cableNak_ends (s : State) (n : Fin 16) (id : Option (BitVec 3)) (hmay : s.mayDiscover n = true) (hwait : (s.pd n).eprWait = false)
    (hnew : id.all (fun k => !s.repeated n 1 k) = true) (hlast : id = none → 20 ≤ s.get (PCC_CABLE.ATTEMPTS n)) :
    Next (.cableNak ⟨n, id⟩) s fun t =>
      t.get (PCC_CABLE.KIND n) = 1 ∧ (t.pd n).discovering = false ∧ s.portsBut t [n] ∧ s.regsKept t (inPort n) ∧ t = { s with regs := t.regs, ports := t.ports } := by
  cases id with
  | none =>
    refine unknown_ends ?_ (.refl ..) (.refl ..) hwait
    change execCableNak ⟨n, none⟩ s = _
    simp [execCableNak, hmay, hlast rfl]
  | some k =>
    have hnew' : s.repeated n 1 k = false := by simpa using hnew
    refine unknown_ends (u := s.keepId n 1 k) ?_ (.modPd <| .refl ..) ((State.keepId_keeps ..).mono rfl) (by rw [State.pd_keepId, hwait])
    change execCableNak ⟨n, some k⟩ s = _
    simp [execCableNak, hmay, hnew']

/-! ### The cable known (R115 to R117) -/

/-- The record of a passive cable in PCC_CABLE, with the words it is read from (R115). -/
def State.passiveMarks (s : State) (n : Fin 16) (idHdr vdo : Word) : State :=
  let t := ((s.wr (PCC_IDHDR.at n) idHdr).wr (PCC_CABLEVDO.at n) vdo).modPd n (fun d => { d with discovering := false })
  let t := (t.put (PCC_CABLE.KIND n) 2).put (PCC_CABLE.IMAX n) (fieldOf vdo 6 5)
  (t.flag (PCC_CABLE.VMAX n) (fieldOf vdo 10 9 == 3)).flag (PCC_CABLE.EPR n) (fieldOf vdo 17 17 == 1)

/-- The length of a cable whose record is made, by the staged words of PCC_CABLECFG (R117). -/
def State.lengthTaken (s : State) (n : Fin 16) (vdo : Word) : State :=
  let t := s.takeStaged (PCC_CABLECFG.at n)
  t.wr (PCC_LENGTH.at n) (lengthRecord (fieldOf vdo 16 13) (t.get (PCC_CABLECFG.LPNS n)) (t.get (PCC_CABLECFG.RGPM n))
    (t.get (PCC_CABLECFG.RCONN n)) (if fieldOf vdo 6 5 = 2 then 5 else 3))

theorem State.cableRecord_of_passive {s : State} {n : Fin 16} {idHdr vdo : Word} (hkind : fieldOf idHdr 29 27 = 3)
    (hcur : fieldOf vdo 6 5 = 1 ∨ fieldOf vdo 6 5 = 2) : s.cableRecord n idHdr vdo = (s.passiveMarks n idHdr vdo).lengthTaken n vdo := by
  have hlegal : ¬(fieldOf vdo 6 5 = 0 ∨ fieldOf vdo 6 5 = 3) := by omega
  rw [State.cableRecord]
  simp [hkind, hlegal, State.passiveMarks, State.lengthTaken]

theorem State.passiveMarks_spec (s : State) (n : Fin 16) (idHdr vdo : Word) (hcur : fieldOf vdo 6 5 < 4) :
    (s.passiveMarks n idHdr vdo).get (PCC_CABLE.KIND n) = 2 ∧ (s.passiveMarks n idHdr vdo).get (PCC_CABLE.IMAX n) = fieldOf vdo 6 5 ∧
      (s.passiveMarks n idHdr vdo).bit (PCC_CABLE.VMAX n) = (fieldOf vdo 10 9 == 3) ∧
      (s.passiveMarks n idHdr vdo).bit (PCC_CABLE.EPR n) = (fieldOf vdo 17 17 == 1) ∧
      (s.passiveMarks n idHdr vdo).rd (PCC_IDHDR.at n) = idHdr ∧ (s.passiveMarks n idHdr vdo).rd (PCC_CABLEVDO.at n) = vdo ∧
      ((s.passiveMarks n idHdr vdo).pd n).discovering = false ∧ ((s.passiveMarks n idHdr vdo).pd n).eprWait = (s.pd n).eprWait := by
  unfold State.passiveMarks
  extract_lets t t1
  have ht : t.rd (PCC_IDHDR.at n) = idHdr ∧ t.rd (PCC_CABLEVDO.at n) = vdo := ⟨(State.rd_wr_ne _ _ (by simp)).trans (State.rd_wr_same ..), State.rd_wr_same ..⟩
  have hpd : t.pd n = { s.pd n with discovering := false } := State.pd_modPd_same ..
  have hrd : t.regsKept ((t1.flag (PCC_CABLE.VMAX n) (fieldOf vdo 10 9 == 3)).flag (PCC_CABLE.EPR n) (fieldOf vdo 17 17 == 1)) (fun a => a == PCC_CABLE.at n) :=
    .put (beq_self_eq_true _) <| .put (beq_self_eq_true _) <| .put (beq_self_eq_true _) <| .put (beq_self_eq_true _) <| .refl _ _
  refine ⟨?_, ?_, ?_, State.bit_flag _ _ (Nat.le_of_ble_eq_true rfl) Nat.one_pos, ?_, ?_, ?_, ?_⟩
  · rw [State.flag, State.get_put_apart _ _ rfl, State.flag, State.get_put_apart _ _ rfl, State.get_put_apart _ _ rfl,
      State.get_put_same _ _ _ (Nat.le_of_ble_eq_true rfl)]
    rfl
  · rw [State.flag, State.get_put_apart _ _ rfl, State.flag, State.get_put_apart _ _ rfl, State.get_put_same _ _ _ (Nat.le_of_ble_eq_true rfl)]
    exact Nat.mod_eq_of_lt hcur
  · rw [State.flag, State.bit_put_apart _ _ rfl, State.bit_flag _ _ (Nat.le_of_ble_eq_true rfl) Nat.two_pos]
  · rw [hrd _ (by simp), ht.1]
  · rw [hrd _ (by simp), ht.2]
  · change (t.pd n).discovering = _
    rw [hpd]
  · change (t.pd n).eprWait = _
    rw [hpd]

theorem State.lengthTaken_spec (s : State) (n : Fin 16) (vdo : Word) :
    s.Touches n (fun a => a == PCC_CABLECFG.at n || a == PCC_LENGTH.at n) (s.lengthTaken n vdo) ∧ (s.lengthTaken n vdo).pd n = s.pd n ∧
      s.Keeps (pRegs ||| pStaged) (s.lengthTaken n vdo) :=
  ⟨.wr (by simp) <| .takeStaged (by simp) <| .refl .., State.pd_of_ports (((State.wr_keeps ..).step rfl <| State.takeStaged_keeps ..).ports rfl) n,
    (State.wr_keeps ..).step rfl <| State.takeStaged_keeps ..⟩

/-- A passive cable is asked no further; before the first offer its record brings no fresh one (R114, R116). -/
theorem State.discovered_of_passive {s : State} {n : Fin 16} (hkind : s.get (PCC_CABLE.KIND n) = 2) (hstartup : s.pstate n = 1)
    (hwait : (s.pd n).eprWait = false) : s.discovered n = s.afterDisc n := by
  have hfar : s.mayFar n = false := by simp [State.mayFar, hkind]
  have hresume : (s.afterDisc n).eprResume n = s.afterDisc n := if_neg (by rw [(s.pd_afterDisc n).2, hwait]; exact Bool.false_ne_true)
  simp [State.discovered, hfar, hresume, hstartup]

theorem cableAck_records (s : State) (n : Fin 16) (id : BitVec 3) (idHdr vdo : BitVec 32) (hmay : s.mayDiscover n = true)
    (hnew : s.repeated n 1 id = false) (hkind : fieldOf idHdr 29 27 = 3) (hcur : fieldOf vdo 6 5 = 1 ∨ fieldOf vdo 6 5 = 2) (hstartup : s.pstate n = 1)
    (hwait : (s.pd n).eprWait = false) :
    Next (.cableAck ⟨n, id⟩ idHdr vdo) s fun t =>
      t.get (PCC_CABLE.KIND n) = 2 ∧ t.get (PCC_CABLE.IMAX n) = fieldOf vdo 6 5 ∧ t.bit (PCC_CABLE.VMAX n) = (fieldOf vdo 10 9 == 3) ∧
      t.bit (PCC_CABLE.EPR n) = (fieldOf vdo 17 17 == 1) ∧ t.rd (PCC_IDHDR.at n) = idHdr ∧ t.rd (PCC_CABLEVDO.at n) = vdo ∧ (t.pd n).discovering = false ∧
      s.portsBut t [n] ∧ s.regsKept t (inPort n) ∧ t = { s with regs := t.regs, staged := t.staged, ports := t.ports } := by
  obtain ⟨hKIND, hIMAX, hVMAX, hEPR, hIDHDR, hVDO, hdisc, hwaits⟩ := (s.keepId n 1 id).passiveMarks_spec n idHdr vdo (by omega)
  have hmarks : s.Touches n (pccArea n) ((s.keepId n 1 id).passiveMarks n idHdr vdo) :=
    .put (pccArea_off n (by decide)) <| .put (pccArea_off n (by decide)) <| .put (pccArea_off n (by decide)) <| .put (pccArea_off n (by decide)) <|
      .modPd <| .wr (pccArea_off n (by decide)) <| .wr (pccArea_off n (by decide)) <| .modPd <| .refl ..
  have hmarksK : s.Keeps (pRegs ||| pStaged ||| pPorts) ((s.keepId n 1 id).passiveMarks n idHdr vdo) :=
    (State.flag_keeps ..).step rfl <| (State.flag_keeps ..).step rfl <| (State.put_keeps ..).step rfl <| (State.put_keeps ..).step rfl <|
      (State.modPd_keeps ..).step rfl <| (State.wr_keeps ..).step rfl <| (State.wr_keeps ..).step rfl <| (State.keepId_keeps ..).mono rfl
  have hrecord : exec (.cableAck ⟨n, id⟩ idHdr vdo) s =
      doneAll s ((((s.keepId n 1 id).passiveMarks n idHdr vdo).lengthTaken n vdo).discovered n) := by
    change execCableAck ⟨n, id⟩ idHdr vdo s = _
    rw [← State.cableRecord_of_passive hkind hcur]
    exact if_pos (by simp [hmay, hnew])
  rw [State.pd_keepId] at hwaits
  generalize (s.keepId n 1 id).passiveMarks n idHdr vdo = u at *
  obtain ⟨hlength, hpd, hlengthK⟩ := u.lengthTaken_spec n vdo
  generalize u.lengthTaken n vdo = v at *
  have hv := hmarks.trans (hlength.mono fun a ha => by rcases (Bool.or_eq_true ..).mp ha with h | h <;> rw [eq_of_beq h] <;> exact pccArea_off n (by decide))
  have hexec : exec (.cableAck ⟨n, id⟩ idHdr vdo) s = doneAll s (v.afterDisc n) := by
    rw [hrecord, State.discovered_of_passive]
    · rw [hlength.regs.get (by simp), hKIND]
    · rw [State.pstate, hv.regs.get (pccArea_eq_false n (by decide)), ← hstartup, State.pstate]
    · rw [hpd, hwaits, hwait]
  have hoffer : v.Touches n (ppdArea n) (v.afterDisc n) := .afterDisc <| .refl ..
  have hall := (hv.mono fun _ => inPort_of_pccArea).trans (hoffer.mono fun _ => inPort_of_ppdArea)
  obtain ⟨hregs, hports⟩ := hall.report s
  have hlast : u.regsKept (s.report n (v.afterDisc n)) (fun a => a == PCC_CABLECFG.at n || a == PCC_LENGTH.at n || ppdArea n a) :=
    .of_regs (.trans (hlength.regs.mono fun a ha => by simp_all) (hoffer.regs.mono fun a ha => by simp_all)) (State.report_regs ..)
  have hkept {d : Nat} (hd : d < 0x200 ∧ d ≠ 0x18 ∧ d ≠ 0x40) :
      (portBase n.val + d == PCC_CABLECFG.at n || portBase n.val + d == PCC_LENGTH.at n || ppdArea n (portBase n.val + d)) = false := by
    simp [ppdArea_eq_false n hd.1, hd]
  refine .of_done1 (hexec.trans (congrArg Host.Outcome.next (hall.reportAll (inPort_apart fun _ h => h))))
    ⟨(hlast.get (hkept (by decide))).trans hKIND, (hlast.get (hkept (by decide))).trans hIMAX, (hlast.bit (hkept (by decide))).trans hVMAX,
      (hlast.bit (hkept (by decide))).trans hEPR, (hlast _ (hkept (by decide))).trans hIDHDR, (hlast _ (hkept (by decide))).trans hVDO, ?_, hports, hregs, ?_⟩
  · rw [State.pd_report, (v.pd_afterDisc n).1, hpd, hdisc]
  · exact ((State.report_keeps ..).step rfl <| (State.afterDisc_keeps ..).step rfl <| hlengthK.step rfl hmarksK).eq_mix

theorem cableAck_repeated (s : State) (n : Fin 16) (id : BitVec 3) (idHdr vdo : BitVec 32)
    (hold : s.repeated n 1 id = true) : Next (.cableAck ⟨n, id⟩ idHdr vdo) s fun t => t = s := by
  refine .of_done (t := s) ?_ rfl
  change execCableAck ⟨n, id⟩ idHdr vdo s = _
  exact if_neg (by simp [hold])

/-! ### The far end (R114), the ground-return level (R118) and the first message after SinkTxNG (R119) -/

theorem farAck_stores (s : State) (n : Fin 16) (id : BitVec 3) (vdo : BitVec 32) (hcc : s.cc n = ccAttachedSrc) (hkind : s.get (PCC_CABLE.KIND n) = 3)
    (htries : 0 < (s.pd n).farTries) (hhalt : s.halted n.val = false) (hnew : s.repeated n 2 id = false) (hwait : (s.pd n).eprWait = false)
    (hready : s.pstate n = 6) :
    Next (.farAck ⟨n, id⟩ vdo) s fun t =>
      t.rd (PCC_FARVDO.at n) = vdo ∧ t.rd (PCC_CABLE.at n) = (PCC_CABLE.FAR n).set (s.rd (PCC_CABLE.at n)) 1 ∧ (t.pd n).discovering = false ∧
      s.portsBut t [n] ∧ s.regsBut t [PCC_FARVDO.at n, PCC_CABLE.at n] ∧ t = { s with regs := t.regs, ports := t.ports } := by
  have hexec : exec (.farAck ⟨n, id⟩ vdo) s = doneAll s ((((s.keepId n 2 id).wr (PCC_FARVDO.at n) vdo).raise (PCC_CABLE.FAR n)).discOver n) := by
    change execFarAck ⟨n, id⟩ vdo s = _
    exact if_pos ⟨hcc, hkind, htries, by simp [hhalt], by simp [hnew]⟩
  have hu : s.Touches n (fun a => a == PCC_FARVDO.at n || a == PCC_CABLE.at n) (((s.keepId n 2 id).wr (PCC_FARVDO.at n) vdo).raise (PCC_CABLE.FAR n)) :=
    .put (by simp) <| .wr (by simp) <| .modPd <| .refl ..
  have huK : s.Keeps (pRegs ||| pPorts) (((s.keepId n 2 id).wr (PCC_FARVDO.at n) vdo).raise (PCC_CABLE.FAR n)) :=
    (State.raise_keeps ..).step rfl <| (State.wr_keeps ..).step rfl <| (State.keepId_keeps ..).mono rfl
  have hfar : (((s.keepId n 2 id).wr (PCC_FARVDO.at n) vdo).raise (PCC_CABLE.FAR n)).rd (PCC_FARVDO.at n) = vdo :=
    (State.rd_put_ne _ _ _ _ (by simp)).trans (State.rd_wr_same ..)
  have hcable : (((s.keepId n 2 id).wr (PCC_FARVDO.at n) vdo).raise (PCC_CABLE.FAR n)).rd (PCC_CABLE.at n) =
      (PCC_CABLE.FAR n).set (s.rd (PCC_CABLE.at n)) 1 := by
    rw [State.raise, State.put_eq, State.rd_wr_same, State.rd_wr_ne _ _ (by simp)]
    rfl
  have hquiet : ((((s.keepId n 2 id).wr (PCC_FARVDO.at n) vdo).raise (PCC_CABLE.FAR n)).pd n).eprWait = false :=
    (congrArg PdSt.eprWait (s.pd_keepId n 2 id)).trans hwait
  generalize ((s.keepId n 2 id).wr (PCC_FARVDO.at n) vdo).raise (PCC_CABLE.FAR n) = u at *
  have hover : u.discOver n = u.modPd n (fun d => { d with discovering := false }) := by
    rw [State.discOver_of_quiet hquiet]
    refine if_neg ?_
    have : (u.modPd n (fun d => { d with discovering := false })).pstate n = 6 := by
      rw [← hready]
      exact hu.regs.get (by simp)
    simp [this]
  have hall : s.Touches n (fun a => a == PCC_FARVDO.at n || a == PCC_CABLE.at n) (u.modPd n (fun d => { d with discovering := false })) := hu.modPd
  obtain ⟨hregs, hports⟩ := hall.report s
  rw [hover] at hexec
  refine .of_done1 (hexec.trans (congrArg Host.Outcome.next (hall.reportAll (inPort_apart fun a ha => ?_))))
    ⟨(State.rd_report ..).trans hfar, (State.rd_report ..).trans hcable, ?_, hports, hregs.regsBut (by simp), ?_⟩
  · rcases (Bool.or_eq_true ..).mp ha with h | h <;> rw [eq_of_beq h] <;> exact inPort_off n (by decide)
  · rw [State.pd_report, State.pd_modPd_same]
  · exact ((State.report_keeps ..).step rfl <| (State.modPd_keeps ..).step rfl huK).eq_mix

theorem ccrefCapture_captures (s : State) (n : Fin 16) (lvl : BitVec 16) (hcc : s.cc n = ccAttachedSrc) (hclosed : s.get (PEV_STATUS.STATE n) = 3)
    (hhalt : s.halted n.val = false) :
    Next (.ccrefCapture n lvl) s fun t =>
      t.get (PCC_CCREF.LEVEL n) = lvl.toNat % 2 ^ (PCC_CCREF.LEVEL n).w ∧ t.get (PCC_CCREF.RPLVL n) = s.get (PCC_STATUS.RPOUT n) ∧ t.get (PCC_CCREF.VALID n) = 1 ∧
      s.regsBut t [PCC_CCREF.at n] ∧ t = { s with regs := t.regs } := by
  have hexec : exec (.ccrefCapture n lvl) s =
      done (((s.put (PCC_CCREF.LEVEL n) lvl.toNat).put (PCC_CCREF.RPLVL n) (s.get (PCC_STATUS.RPOUT n))).raise (PCC_CCREF.VALID n)) := by
    change execCcrefCapture n lvl s = _
    exact if_pos ⟨hcc, hclosed, by simp [hhalt]⟩
  have hregs : s.regsKept (((s.put (PCC_CCREF.LEVEL n) lvl.toNat).put (PCC_CCREF.RPLVL n) (s.get (PCC_STATUS.RPOUT n))).raise (PCC_CCREF.VALID n))
      (fun a => a == PCC_CCREF.at n) := .put (beq_self_eq_true _) <| .put (beq_self_eq_true _) <| .put (beq_self_eq_true _) <| .refl _ _
  refine .of_done hexec ⟨?_, ?_, State.get_raise _ (Nat.le_of_ble_eq_true rfl) Nat.one_pos, hregs.regsBut (by simp), rfl⟩
  · rw [State.raise, State.get_put_apart _ _ rfl, State.get_put_apart _ _ rfl, State.get_put_same _ _ _ (Nat.le_of_ble_eq_true rfl)]
  · rw [State.raise, State.get_put_apart _ _ rfl, State.get_put_same _ _ _ (Nat.le_of_ble_eq_true rfl)]
    exact Nat.mod_eq_of_lt (s.get_lt (PCC_STATUS.RPOUT n))

theorem State.isService_modPd (s : State) (n : Fin 16) (f : PdSt → PdSt) : (s.modPd n f).isService n = s.isService n :=
  State.isService_of_setup (by rw [State.modPd, State.modPort_port_same, PortSt.setup, PortSt.setup])

/-- The first message of a DR_Swap of a source port (R144). -/
theorem State.amsFirst_drSwap {s : State} {n : Fin 16} (h : s.isService n = false) :
    s.amsFirst n .drSwap = ((s.modPd n (fun d => { d with ams := some .drSwap })).send n .drSwap).setP n 11 :=
  if_neg (by rw [State.send, State.isService_modPd, State.isService_modPd, h]; exact Bool.false_ne_true)

theorem State.amsFirst_drSwap_spec {s : State} {n : Fin 16} (h : s.isService n = false) :
    s.Touches n (fun a => a == PPD_STATUS.at n) (s.amsFirst n .drSwap) ∧ (s.amsFirst n .drSwap).pstate n = 11 ∧
      (s.amsFirst n .drSwap).pd n = { s.pd n with ams := some .drSwap, out := (s.pd n).out ++ [{ name := .drSwap, sop := 0, objs := [] }] } := by
  rw [State.amsFirst_drSwap h]
  refine ⟨.put (beq_self_eq_true _) <| .send <| .modPd <| .refl .., State.get_put_same _ _ _ (Nat.le_of_ble_eq_true rfl), ?_⟩
  rw [State.setP, State.pd_put, State.pd_send_same, State.pd_modPd_same]

theorem tsinktxExpire_swaps (s : State) (n : Fin 16) (hready : s.pstate n = 6) (hhalt : s.halted n.val = false) (hheld : (s.pd n).held = [101])
    (hsource : s.isService n = false) :
    Next (.tsinktxExpire n) s fun t =>
      (t.pd n).held = [] ∧ (t.pd n).ams = some .drSwap ∧ t.pstate n = 11 ∧ (t.pd n).out = (s.pd n).out ++ [{ name := .drSwap, sop := 0, objs := [] }] ∧
      s.portsBut t [n] ∧ s.regsBut t [PPD_STATUS.at n] ∧ t = { s with regs := t.regs, ports := t.ports } := by
  have hexec : exec (.tsinktxExpire n) s = doneAll s ((s.modPd n (fun d => { d with held := d.held.filter (fun x => x != 101) })).amsFirst n .drSwap) := by
    change execTsinktxExpire n s = _
    rw [execTsinktxExpire, if_pos ⟨hready, by simp [hhalt]⟩, hheld]
    rfl
  have hpd := s.pd_modPd_same n (fun d => { d with held := d.held.filter (fun x => x != 101) })
  have hserv := s.isService_modPd n (fun d => { d with held := d.held.filter (fun x => x != 101) })
  have hu : s.Touches n (fun a => a == PPD_STATUS.at n) (s.modPd n (fun d => { d with held := d.held.filter (fun x => x != 101) })) := .modPd <| .refl ..
  have huK : s.Keeps (pRegs ||| pPorts) (s.modPd n (fun d => { d with held := d.held.filter (fun x => x != 101) })) := (State.modPd_keeps ..).mono rfl
  generalize s.modPd n (fun d => { d with held := d.held.filter (fun x => x != 101) }) = u at *
  obtain ⟨hfirst, hstate, hvpd⟩ := State.amsFirst_drSwap_spec (hserv.trans hsource)
  rw [hpd, hheld] at hvpd
  have hv := hu.trans hfirst
  obtain ⟨hregs, hports⟩ := hv.report s
  refine .of_done1 (hexec.trans (congrArg Host.Outcome.next (hv.reportAll (inPort_apart fun a ha => by rw [eq_of_beq ha]; exact inPort_off n (by decide)))))
    ⟨?_, ?_, (State.get_report ..).trans hstate, ?_, hports, hregs.regsBut (by simp), ?_⟩
  · rw [State.pd_report, hvpd]
    rfl
  · rw [State.pd_report, hvpd]
  · rw [State.pd_report, hvpd]
  · exact ((State.report_keeps ..).step rfl <| (State.amsFirst_keeps ..).step rfl huK).eq_mix

/-- Settles O19: a discovery attempt by attempt, its answers over SOP' and SOP'' and its end, the ground-return level, and the DR_Swap that leaves after tSinkTx. -/
theorem cableDiscovery : Obligations.CableDiscovery := by
  unfold Obligations.CableDiscovery
  exact ⟨discdlyExpire_attempts, tdiscoverIdentity_attempts, tdiscoverIdentity_gives_up, cableAck_records,
    fun s n id idHdr vdo _ => cableAck_repeated s n id idHdr vdo, cableNak_ends, farAck_stores, ccrefCapture_captures, tsinktxExpire_swaps⟩

end Sys2Proof.Machine
end

section
/-!
SUPPORT. A host port's command to a register of a port's block: whom its status speaks of, what its acceptance says of the port, and the end of its slot (R169,
R343).
-/

namespace Sys2Proof.Machine

theorem blockOf_port (n : Fin 16) {d : Nat} (h : d < 0x1000) : blockOf (portBase n.val + d) = some (.port n) := by
  have hn : (portBase n.val + d - 0x10000) / 0x1000 = n.val := by
    unfold portBase
    omega
  have hge : 0x10000 ≤ portBase n.val + d := by
    unfold portBase
    omega
  generalize portBase n.val + d = a at hn hge
  unfold blockOf
  simp only [show ¬ a < 0x1000 by omega, show ¬ a < 0x2000 by omega, show ¬ a < 0x3000 by omega, show ¬ a < 0x4000 by omega, show ¬ a < 0x5000 by omega,
    show ¬ a < 0x8000 by omega, show ¬ a < 0x9000 by omega, show ¬ a < 0xA000 by omega, show ¬ a < 0xB000 by omega, show ¬ a < 0xC000 by omega,
    show ¬ a < 0xD000 by omega, show ¬ a < 0x10000 by omega, if_false, hn, n.isLt, dite_true]

theorem State.portOf_port (s : State) (n : Fin 16) {d : Nat} (h : d < 0x1000) : s.portOf (portBase n.val + d) = some n := by
  rw [State.portOf, blockOf_port n h]

theorem State.genOf_port (s : State) (n : Fin 16) {d : Nat} (h : d < 0x1000) : s.genOf (portBase n.val + d) = s.ports[n].gen := by
  rw [State.genOf, s.portOf_port n h]

section Accepted

variable {s : State} {hp : HostPort} {n : Fin 16} {d : Nat} {v : Word}

/-- A write to a port's block is accepted only where the port is there, up and not halted (R3, R377). -/
theorem State.portUp_of_accepts (hd : d < 0x1000) (h : s.accepts hp [(portBase n.val + d, v)]) : s.portUp n = true ∧ s.halted n.val = false := by
  obtain ⟨-, hj⟩ := h
  have hbusy : ¬ (firstBad [(portBase n.val + d, v)] (fun a _ => !s.bootAllows hp true a || s.islandBusy true a)).isSome = true := fun hb => by
    rw [State.judgeWrite, if_pos hb] at hj
    split at hj <;> exact absurd (Prod.mk.inj hj).1 (by decide)
  have habsent : firstBad [(portBase n.val + d, v)] (fun a _ => isUnmapped a || s.isAbsent a) = none := by
    by_contra hb
    obtain ⟨w, hw⟩ := Option.ne_none_iff_exists'.1 hb
    rw [State.judgeWrite, if_neg hbusy, hw] at hj
    dsimp only at hj
    repeat' split at hj
    all_goals exact absurd (Prod.mk.inj hj).1 (by decide)
  simp only [firstBad, List.find?_singleton, State.islandBusy, State.isAbsent, blockOf_port n hd] at hbusy habsent
  simp at hbusy habsent
  simp_all [State.portUp]

/-- A command to a port's block that commits at once finds no op of the port in the window (R170). -/
theorem State.window_of_takes (hd : d < 0x1000) (h : s.takes hp (portBase n.val + d) v) : ∀ o ∈ s.ridge.window, (o.port == n.val) = false := by
  obtain ⟨-, -, -, honce, -⟩ := h
  intro o ho
  simp only [State.commitsAtOnce, State.opsFor, State.opOfWrite, s.portOf_port n hd, Bool.and_eq_true, List.map_cons, List.map_nil, List.all_cons,
    List.all_nil, List.all_eq_true] at honce
  simpa [Op.mk0] using honce.2.1 o ho

/-- A command whose effect leaves the slot quiet: nothing but its status, with the port's STATE_GEN, follows the effect. -/
theorem State.commandSt_of_quiet_port (hd : d < 0x1000) (h : s.takes hp (portBase n.val + d) v) {effect : State → State × Nat}
    (hq : (effect s.passOp).1.slotClean) :
    s.commandSt hp (portBase n.val + d) v effect = (effect s.passOp).1.endWith hp (effect s.passOp).2 0 (effect s.passOp).1.ports[n].gen := by
  refine (State.commandWords_of_takesAll h effect).trans ?_
  change (effect s.passOp).1.endSlot.endWith hp (effect s.passOp).2 0 ((effect s.passOp).1.genOf (portBase n.val + d)) = _
  rw [State.endSlot_of_slotClean hq, State.genOf_port _ n hd]

end Accepted

/-! ### The end of a slot in which a port's ops are cancelled -/

theorem State.cancelPort_eq_self {s : State} {n : Nat} (h : ∀ o ∈ s.ridge.window, (o.port == n) = false) : s.cancelPort n = s := by
  have hgone : s.ridge.window.filter (fun o => o.tent && o.port == n) = [] := List.filter_eq_nil_iff.2 fun o ho => by simp [h o ho]
  have hstay : s.ridge.window.filter (fun o => !(o.tent && o.port == n)) = s.ridge.window := List.filter_eq_self.2 fun o ho => by simp [h o ho]
  rw [State.cancelPort, State.cancelWhere]
  simp only [hgone, List.foldl_nil]
  exact State.modRidge_eq_self (by rw [hstay])

/-- A port-wide cancel that finds no op of its port leaves the end of a slot to the ledger alone. -/
theorem State.endSlot_of_noOps {s : State} {n : Nat} (hw : ∀ o ∈ s.ridge.window, (o.port == n) = false) (hd : s.ridge.disabled = [])
    (hr : s.ridge.recheck = false) (hc : s.ridge.cancels = [] ∨ s.ridge.cancels = [.portWide n]) :
    s.endSlot = (s.modRidge (fun r => { r with cancels := [] })).settleDeficit := by
  have hres : s.resolveCancels = s.modRidge (fun r => { r with cancels := [] }) := by
    rcases hc with hc | hc <;> rw [State.resolveCancels, hc]
    · rfl
    · exact State.cancelPort_eq_self hw
  rw [State.endSlot_of_recheck, hres] <;> rw [hres]
  · exact hr
  · exact hd

end Sys2Proof.Machine
end

section
/-!
SUPPORT. What leaving Disabled, or a check before Rp, leaves of a port (R104, R280): `State.Frees`, with the operations of both as rules of it.
-/

namespace Sys2Proof.Machine

/-- A field of port n's block, by its offset, its lowest bit and its width. -/
abbrev ownFld (n : Fin 16) (x : Nat × Nat × Nat) : Fld := ⟨portBase n.val + x.1, x.2.1, x.2.2⟩

/-- Does a field of a port's block have no bit in common with those listed? -/
def clearOf (l : List (Nat × Nat × Nat)) (d lo w : Nat) : Bool :=
  l.all fun x => decide (x.1 ≠ d ∨ x.2.1 + x.2.2 ≤ lo ∨ lo + w ≤ x.2.1) && decide (x.2.1 + x.2.2 ≤ 32)

theorem State.get_put_own (s : State) {n : Fin 16} {l : List (Nat × Nat × Nat)} {d lo w x : Nat} (h : clearOf l d lo w = true)
    {y : Nat × Nat × Nat} (hy : y ∈ l) : (s.put ⟨portBase n.val + d, lo, w⟩ x).get (ownFld n y) = s.get (ownFld n y) := by
  simp only [clearOf, List.all_eq_true, Bool.and_eq_true, decide_eq_true_eq] at h
  obtain ⟨hapart, hword⟩ := h y hy
  exact State.get_put_disjoint _ _ (ownFld n y) _ (hapart.imp_left fun h => by simpa using h) hword

/-- The registers that the attach of port n may write: its own block and the mark of its Rd; with them the count of the op that a command passes. -/
def attachArea (n : Fin 16) (a : Nat) : Bool := inPort n a || a == SOF_DBSTAT.at || a == RDG_CNT0.at

theorem attachArea_off (n : Fin 16) {d : Nat} (h : d < 0x1000) : attachArea n (portBase n.val + d) = true := by
  simp [attachArea, inPort_off n h]

theorem attachArea_apart {n : Fin 16} : ∀ a, attachArea n a = true → ∀ m, m ≠ n → inPort m a = false := by
  intro a ha m hm
  simp only [attachArea, Bool.or_eq_true, beq_iff_eq] at ha
  rcases ha with (ha | rfl) | rfl
  · exact inPort_eq_false_of_ne hm.symm ha
  · simp [inPort, within, portBase, SOF_DBSTAT.at]
    omega
  · simp [inPort, within, portBase, RDG_CNT0.at]
    omega

theorem attachArea_eq_false_of_low {n : Fin 16} {a : Nat} (h : a < 0x1000) : attachArea n a = false := by
  simp [attachArea, inPort, within, portBase, SOF_DBSTAT.at, RDG_CNT0.at]
  omega

theorem attachArea_of_truss {n : Fin 16} {a : Nat} (h : block 4 a = true) : attachArea n a = false := by
  simp only [block, beq_iff_eq] at h
  simp [attachArea, inPort, within, portBase, SOF_DBSTAT.at, RDG_CNT0.at]
  omega

/-- PCC_CTRL.DISABLE, and of PCC_STATUS the latches and the classifications. -/
def standingMarks : List (Nat × Nat × Nat) := [(0x4, 0, 1), (0, 17, 1), (0, 18, 1), (0, 6, 2), (0, 8, 2)]

/-- What a change of the port's own state keeps beside STATE_GEN: the latches (R124). -/
def PortSt.latches (p : PortSt) : Nat × Bool × Bool := (p.gen, p.latched, p.vconnLatched)

/-- From s to t the attach of port n has moved; DISABLE, the latches and what the pins show stand. -/
structure State.Frees (s : State) (n : Fin 16) (t : State) : Prop where
  touches : s.Touches n (attachArea n) t
  marks : ∀ x ∈ standingMarks, t.get (ownFld n x) = s.get (ownFld n x)
  latches : t.ports[n].latches = s.ports[n].latches

namespace State.Frees

variable {s t u : State} {n : Fin 16}

theorem refl (s : State) (n : Fin 16) : s.Frees n s := ⟨.refl .., fun _ _ => rfl, rfl⟩

theorem of_eq (h : s.Frees n t) (hr : u.regs = t.regs) (hp : u.ports = t.ports) : s.Frees n u :=
  ⟨h.touches.of_eq hr hp, fun x hx => (State.get_of_regs hr _).trans (h.marks x hx), by rw [hp]; exact h.latches⟩

theorem still {m : Nat} (k : t.Keeps m u) (hr : m.testBit 0 = false) (hp : m.testBit 6 = false) (h : s.Frees n t) : s.Frees n u :=
  h.of_eq (k.regs hr) (k.ports hp)

theorem putOwn {d lo w x : Nat} (hd : d < 0x1000 ∧ clearOf standingMarks d lo w = true) (h : s.Frees n t) :
    s.Frees n (t.put ⟨portBase n.val + d, lo, w⟩ x) :=
  ⟨h.touches.put (attachArea_off n hd.1), fun y hy => (State.get_put_own _ hd.2 hy).trans (h.marks y hy), h.latches⟩

theorem wrOwn {d : Nat} {v : Word} (hd : d < 0x1000 ∧ ∀ x ∈ standingMarks, x.1 ≠ d) (h : s.Frees n t) : s.Frees n (t.wr (portBase n.val + d) v) :=
  ⟨h.touches.wr (attachArea_off n hd.1), fun y hy => (State.get_wr_ne _ _ (ownFld n y) (by simpa using hd.2 y hy)).trans (h.marks y hy), h.latches⟩

theorem modPort {f : PortSt → PortSt} (hf : ∀ x, (f x).latches = x.latches) (h : s.Frees n t) : s.Frees n (t.modPort n f) :=
  ⟨h.touches.modPort fun x => congrArg Prod.fst (hf x), h.marks, by rw [State.modPort_port_same, hf, h.latches]⟩

theorem ite {c : Prop} [Decidable c] (h : c → s.Frees n t) (g : ¬c → s.Frees n u) : s.Frees n (if c then t else u) := by
  split
  · exact h ‹_›
  · exact g ‹_›

/-- A step that is taken or not. -/
theorem maybe {c : Prop} [Decidable c] (g : s.Frees n t → s.Frees n u) (h : s.Frees n t) : s.Frees n (if c then u else t) := .ite (fun _ => g h) fun _ => h

theorem takeStaged {d : Nat} (hd : d < 0x1000 ∧ ∀ x ∈ standingMarks, x.1 ≠ d) (h : s.Frees n t) : s.Frees n (t.takeStaged (portBase n.val + d)) := by
  unfold State.takeStaged
  split
  · exact h
  · exact .wrOwn hd <| h.of_eq rfl rfl

theorem passOp (h : s.Frees n t) : s.Frees n t.passOp where
  touches := ⟨h.touches.regs.trans fun _ ha => t.rd_passOp (by rintro rfl; simp [attachArea] at ha),
    fun m hm => by rw [(State.passOp_keeps t).ports rfl]; exact h.touches.ports m hm, by rw [(State.passOp_keeps t).ports rfl]; exact h.touches.gen⟩
  marks x hx := (State.get_passOp t (f := ownFld n x) (portAddr_ne n (by decide))).trans (h.marks x hx)
  latches := by rw [(State.passOp_keeps t).ports rfl]; exact h.latches

theorem setRd {x : Nat} (h : s.Frees n t) : s.Frees n (t.setRd n.val x) := by
  have haddr : (if n.val = 0 then SOF_DBSTAT.DBRD0 else SOF_DBSTAT.DBRD1).addr = SOF_DBSTAT.at := by split <;> rfl
  refine ⟨.put (by rw [haddr]; simp [attachArea]) (h.touches.of_eq rfl rfl), fun y hy => ?_, h.latches⟩
  rw [State.setRd, State.flag, State.get_put_ne _ _ _ _ (by rw [haddr]; exact portAddr_ne n (by decide))]
  exact h.marks y hy

theorem driveRd {on : Bool} (h : s.Frees n t) : s.Frees n (t.driveRd n on) := .ite (fun _ => h) fun _ => h.setRd

theorem vconnOff (h : s.Frees n t) : s.Frees n (t.vconnOff n) := .putOwn (by decide) <| .putOwn (by decide) <| h.putOwn (by decide)

theorem clearCable (h : s.Frees n t) : s.Frees n (t.clearCable n) :=
  .wrOwn (by decide) <| .wrOwn (by decide) <| .wrOwn (by decide) <| .wrOwn (by decide) <| h.wrOwn (by decide)

theorem setCc {x : Nat} (h : s.Frees n t) : s.Frees n (t.setCc n x) := h.putOwn (by decide)

theorem showRp (h : s.Frees n t) : s.Frees n (t.showRp n) := .maybe (.putOwn (by decide)) h

theorem stopCheck (h : s.Frees n t) : s.Frees n (t.stopCheck n) := .showRp <| .putOwn (by decide) <| h.modPort fun _ => rfl

theorem startCheck {first : Bool} (h : s.Frees n t) : s.Frees n (t.startCheck n first) :=
  .maybe (fun h => .maybe (.putOwn (by decide)) <| .putOwn (by decide) <| h.modPort fun _ => rfl) h

theorem candidate (h : s.Frees n t) : s.Frees n (t.candidate n) := .maybe (fun h => .still (State.firePort_keeps ..) rfl rfl h.stopCheck.setCc) h

theorem enterUnattached (h : s.Frees n t) : s.Frees n (t.enterUnattached n) := by
  unfold State.enterUnattached
  extract_lets t1 t2 t3
  have h2 : s.Frees n t2 := .modPort (fun _ => rfl) <| .putOwn (by decide) <| .putOwn (by decide) <| .takeStaged (by decide) <| h.takeStaged (by decide)
  have h3 : s.Frees n t3 := .ite (fun _ => h2.setCc.driveRd) fun _ => .clearCable <| .wrOwn (by decide) <| .vconnOff h2.setCc.showRp
  exact .ite (fun _ => h3) fun _ => h3.candidate

theorem leaveDisabled (h : s.Frees n t) : s.Frees n (t.leaveDisabled n) := .maybe .enterUnattached h

theorem recheck (h : s.Frees n t) : s.Frees n (t.recheck n) := .maybe .startCheck h

/-- The pins show what they showed. -/
theorem someRd (h : s.Frees n t) : t.someRd n = s.someRd n := by
  simp only [State.someRd, State.cls1, State.cls2]
  rw [show t.get (PCC_STATUS.CC1CLS n) = _ from h.marks (0, 6, 2) (by decide), show t.get (PCC_STATUS.CC2CLS n) = _ from h.marks (0, 8, 2) (by decide)]

end State.Frees

end Sys2Proof.Machine
end

section
/-!
SUPPORT. What ErrorRecovery and Disabled take from a port (R104): `State.Quells`, with the operations of both entries as rules of it.
-/

namespace Sys2Proof.Machine

theorem State.stageOn_of {s t : State} (hs : t.slices = s.slices) (hr : ∀ k, t.rd (RAF_STAT.at k) = s.rd (RAF_STAT.at k)) (n : Fin 16) :
    t.stageOn n = s.stageOn n := by
  have hon : t.legOn = s.legOn := funext fun k => State.legOn_of_slices (hr k) hs
  rw [State.stageOn_eq, State.stageOn_eq, State.legsOf_of_port (fun k => State.get_of_rd (f := RAF_STAT.PORT k) (hr k)), hon]

/-- The fields that show a port at work: Rp (R101), the policy engine's state and Eave's. -/
def workMarks : List (Nat × Nat × Nat) := [(0, 10, 2), (0x200, 0, 5), (0xa00, 0, 3)]

/-- From s to t what runs on port n has not begun: each field that shows it is as before or 0, and a stage that is off stays off. PCC_CTRL stands, and no
report of the port has counted. -/
structure State.Quells (s : State) (n : Fin 16) (t : State) : Prop where
  ctrl : t.rd (PCC_CTRL.at n) = s.rd (PCC_CTRL.at n)
  marks : ∀ x ∈ workMarks, t.get (ownFld n x) = s.get (ownFld n x) ∨ t.get (ownFld n x) = 0
  gen : t.ports[n].gen = s.ports[n].gen
  stage : s.stageOn n = false → t.stageOn n = false

namespace State.Quells

variable {s t u : State} {n : Fin 16}

theorem refl (s : State) (n : Fin 16) : s.Quells n s := ⟨rfl, fun _ _ => .inl rfl, rfl, id⟩

theorem trans (h : s.Quells n t) (g : t.Quells n u) : s.Quells n u :=
  ⟨g.ctrl.trans h.ctrl, fun x hx => (g.marks x hx).elim (fun e => e ▸ h.marks x hx) .inr, g.gen.trans h.gen, fun hs => g.stage (h.stage hs)⟩

theorem of_eq (h : s.Quells n t) (hr : u.regs = t.regs) (hp : u.ports[n].gen = t.ports[n].gen) (hs : u.slices = t.slices) : s.Quells n u :=
  h.trans ⟨State.rd_of_regs hr _, fun _ _ => .inl (State.get_of_regs hr _), hp, fun h => (State.stageOn_of hs (fun _ => State.rd_of_regs hr _) n).trans h⟩

theorem still {m : Nat} (k : t.Keeps m u) (hr : m.testBit 0 = false) (hp : m.testBit 6 = false) (hs : m.testBit 7 = false) (h : s.Quells n t) : s.Quells n u :=
  h.of_eq (k.regs hr) (by rw [k.ports hp]) (k.slices hs)

/-- A register of neither the port's block nor a slice. -/
theorem wr {a : Nat} {v : Word} (ha : inPort n a = false ∧ inSlices a = false) (h : s.Quells n t) : s.Quells n (t.wr a v) := by
  have hown {d : Nat} (hd : d < 0x1000) : portBase n.val + d ≠ a := by
    rintro rfl
    rw [inPort_off n hd] at ha
    exact absurd ha.1 (by decide)
  refine h.trans ⟨State.rd_wr_ne _ _ (hown (by decide)), fun x hx => .inl (State.get_wr_ne _ _ (ownFld n x) (hown ?_)), rfl, fun h => ?_⟩
  · revert x
    decide
  · refine (State.stageOn_of (t.wr_slices ..) (fun k => State.rd_wr_ne _ _ ?_) n).trans h
    rintro rfl
    rw [inSlices_off k (by decide)] at ha
    exact absurd ha.2 (by decide)

theorem put {f : Fld} {x : Nat} (ha : inPort n f.addr = false ∧ inSlices f.addr = false) (h : s.Quells n t) : s.Quells n (t.put f x) := h.wr ha

theorem stageOn_wrOwn (t : State) {d : Nat} (hd : d < 0x1000) (v : Word) (m : Fin 16) : (t.wr (portBase n.val + d) v).stageOn m = t.stageOn m :=
  State.stageOn_of (t.wr_slices ..) (fun k => State.rd_wr_ne _ _ fun e => by
    have := not_inSlices_of_inPort (inPort_off n hd)
    rw [← e, inSlices_off k (by decide)] at this
    exact absurd this (by decide)) m

/-- A register of the port's own block with none of the marks. -/
theorem wrOwn {d : Nat} {v : Word} (hd : d < 0x1000 ∧ d ≠ 0x4 ∧ ∀ x ∈ workMarks, x.1 ≠ d) (h : s.Quells n t) : s.Quells n (t.wr (portBase n.val + d) v) :=
  h.trans ⟨State.rd_wr_ne _ _ (by have := hd.2.1; simp; omega), fun y hy => .inl (State.get_wr_ne _ _ (ownFld n y) (by simpa using hd.2.2 y hy)), rfl,
    fun h => (stageOn_wrOwn t hd.1 v n).trans h⟩

/-- A field of the port's own block beside the marks. -/
theorem putOwn {d lo w x : Nat} (hd : d < 0x1000 ∧ d ≠ 0x4 ∧ clearOf workMarks d lo w = true) (h : s.Quells n t) :
    s.Quells n (t.put ⟨portBase n.val + d, lo, w⟩ x) :=
  h.trans ⟨State.rd_put_ne _ _ _ _ (by have := hd.2.1; simp; omega), fun _ hy => .inl (State.get_put_own _ hd.2.2 hy), rfl,
    fun h => (stageOn_wrOwn t hd.1 _ n).trans h⟩

/-- One of the marks cleared. -/
theorem clearMark {x : Nat × Nat × Nat} (hx : x ∈ workMarks) (h : s.Quells n t) : s.Quells n (t.clear (ownFld n x)) := by
  have hd : x.1 < 0x1000 ∧ x.1 ≠ 0x4 ∧ x.2.1 + x.2.2 ≤ 32 := by
    revert x
    decide
  have hothers : ∀ y ∈ workMarks, y ≠ x → clearOf [y] x.1 x.2.1 x.2.2 = true := by
    revert x
    decide
  refine h.trans ⟨State.rd_put_ne _ _ _ _ (by simp; omega), fun y hy => ?_, rfl, fun h => (stageOn_wrOwn t hd.1 _ n).trans h⟩
  by_cases hyx : y = x
  · subst y
    refine .inr ((State.get_put_same _ _ _ hd.2.2).trans (Nat.zero_mod _))
  · exact .inl (State.get_put_own (l := [y]) _ (hothers y hy hyx) (.head _))

theorem modPort {f : PortSt → PortSt} (hf : ∀ x, (f x).gen = x.gen) (h : s.Quells n t) : s.Quells n (t.modPort n f) :=
  h.of_eq rfl (by rw [State.modPort_port_same, hf]) rfl

theorem ite {c : Prop} [Decidable c] (h : c → s.Quells n t) (g : ¬c → s.Quells n u) : s.Quells n (if c then t else u) := by
  split
  · exact h ‹_›
  · exact g ‹_›

/-- A step that is taken or not. -/
theorem maybe {c : Prop} [Decidable c] (g : s.Quells n t → s.Quells n u) (h : s.Quells n t) : s.Quells n (if c then u else t) := .ite (fun _ => g h) fun _ => h

theorem setCc {x : Nat} (h : s.Quells n t) : s.Quells n (t.setCc n x) := h.putOwn (by decide)

theorem modPd {f : PdSt → PdSt} (h : s.Quells n t) : s.Quells n (t.modPd n f) := h.modPort fun _ => rfl

theorem swLeave (h : s.Quells n t) : s.Quells n (t.swLeave n) :=
  .maybe (fun h => .put (by simp [inPort, inSlices, within, JTL_SWDEV.at, portBase, sliceBase]; omega) <| h.of_eq rfl rfl rfl) h

theorem setRd {x : Nat} (h : s.Quells n t) : s.Quells n (t.setRd n.val x) := by
  have haddr : (if n.val = 0 then SOF_DBSTAT.DBRD0 else SOF_DBSTAT.DBRD1).addr = SOF_DBSTAT.at := by split <;> rfl
  refine .put ?_ (h.of_eq rfl rfl rfl)
  rw [haddr]
  simp [inPort, inSlices, within, SOF_DBSTAT.at, portBase, sliceBase]
  omega

theorem driveRd {on : Bool} (h : s.Quells n t) : s.Quells n (t.driveRd n on) := .ite (fun _ => h) fun _ => h.setRd

theorem vconnOff (h : s.Quells n t) : s.Quells n (t.vconnOff n) := .putOwn (by decide) <| .putOwn (by decide) <| h.putOwn (by decide)

theorem clearCable (h : s.Quells n t) : s.Quells n (t.clearCable n) :=
  .wrOwn (by decide) <| .wrOwn (by decide) <| .wrOwn (by decide) <| .wrOwn (by decide) <| h.wrOwn (by decide)

/-- The port's legs off: none is on behind it. -/
theorem legsOff (h : s.Quells n t) : s.Quells n (t.legsOff n) := by
  have hrd {d : Nat} (hd : d < 0x1000 ∧ d ≠ 0x600) : (t.legsOff n).rd (portBase n.val + d) = t.rd (portBase n.val + d) :=
    State.rd_legsOff _ _ (by simp; omega) (not_inSlices_of_inPort (inPort_off n hd.1))
  refine h.trans ⟨hrd (by decide), fun x hx => .inl (State.get_of_rd (f := ownFld n x) (hrd ?_)), by rw [(State.legsOff_keeps ..).ports rfl],
    fun _ => t.stageOn_legsOff n⟩
  revert x
  decide

theorem setGut {on : Bool} {c : Nat} (h : s.Quells n t) : s.Quells n (t.setGut n on c) := .putOwn (by decide) <| h.putOwn (by decide)

theorem discharge (h : s.Quells n t) : s.Quells n (t.discharge n) := .maybe (fun h => .putOwn (by decide) h.setGut) h

theorem srSafe (h : s.Quells n t) : s.Quells n t.srSafe :=
  .maybe (fun h => .put (by simp [inPort, inSlices, within, THA_SRSTAT.at, portBase, sliceBase]; omega) h) h

theorem seeVbus {below : Bool} (h : s.Quells n t) : s.Quells n (t.seeVbus n below) := .maybe .srSafe <| h.putOwn (by decide)

theorem seeRamp (h : s.Quells n t) : s.Quells n (t.seeRamp n) := .maybe (fun h => .seeVbus <| h.of_eq rfl rfl rfl) h

theorem clearRc (h : s.Quells n t) : s.Quells n (t.clearRc n) := .putOwn (by decide) <| h.modPort fun _ => rfl

theorem clearComp (h : s.Quells n t) : s.Quells n (t.clearComp n) := .putOwn (by decide) <| .putOwn (by decide) <| h.modPort fun _ => rfl

theorem leaveAttach (h : s.Quells n t) : s.Quells n (t.leaveAttach n) :=
  .putOwn (by decide) <| .putOwn (by decide) <| .putOwn (by decide) <| .putOwn (by decide) <| .clearRc <| h.putOwn (by decide)

theorem showCurve (h : s.Quells n t) : s.Quells n (t.showCurve n) := by
  unfold State.showCurve
  extract_lets e top
  cases top
  · exact h.wrOwn (by decide)
  · exact .maybe (.putOwn (by decide)) <| h.wrOwn (by decide)

theorem settleCurve (h : s.Quells n t) : s.Quells n (t.settleCurve n) := .showCurve <| h.modPort fun _ => rfl

theorem dropOps (h : s.Quells n t) : s.Quells n (t.dropOps n) :=
  .still (State.cancelLater_keeps ..) rfl rfl rfl <| .wrOwn (by decide) <| .putOwn (by decide) <| h.modPort fun _ => rfl

/-- A register of Ridge or Truss. -/
theorem wrGrant {a b : Nat} {v : Word} (hb : a / 0x1000 = b ∧ b < 0x10) (h : s.Quells n t) : s.Quells n (t.wr a v) := by
  refine h.wr ?_
  simp [inPort, inSlices, within, portBase, sliceBase]
  omega

theorem endRun (h : s.Quells n t) : s.Quells n (t.endRun n) :=
  .wrGrant (b := 3) ⟨by unfold RDG_PRED.at; omega, by decide⟩ h.modPd

theorem noContract (h : s.Quells n t) : s.Quells n (t.noContract n) :=
  .endRun <| .modPd <| .wrOwn (by decide) <| .wrOwn (by decide) <| .putOwn (by decide) <| .putOwn (by decide) <| h.putOwn (by decide)

theorem startRole (h : s.Quells n t) : s.Quells n (t.startRole n) := h.putOwn (by decide)

theorem endDeficit (h : s.Quells n t) : s.Quells n t.endDeficit := by
  refine List.foldlRecOn allPorts _ (.wrGrant (b := 4) ⟨rfl, by decide⟩ h) fun u hu m _ => hu.of_eq rfl ?_ rfl
  by_cases hm : n = m
  · subst m
    rw [State.modPort_port_same]
  · rw [State.modPort_port_ne _ _ hm]

theorem settleDeficit (h : s.Quells n t) : s.Quells n t.settleDeficit := .maybe .endDeficit h

theorem allocToFloor (h : s.Quells n t) : s.Quells n (t.allocToFloor n) :=
  .settleDeficit <| h.wrGrant (b := 4) ⟨by change (0x4040 + 0x4 * n.val) / 0x1000 = 4; omega, by decide⟩

/-! A mark that is 0 stays 0. -/

theorem mark_zero (h : s.Quells n t) {x : Nat × Nat × Nat} (hx : x ∈ workMarks) (hs : s.get (ownFld n x) = 0) : t.get (ownFld n x) = 0 :=
  (h.marks x hx).elim (fun e => e.trans hs) id

theorem rpOut_zero (h : s.Quells n t) (hs : s.get (PCC_STATUS.RPOUT n) = 0) : t.get (PCC_STATUS.RPOUT n) = 0 := h.mark_zero (x := (0, 10, 2)) (by decide) hs

theorem pstate_zero (h : s.Quells n t) (hs : s.pstate n = 0) : t.pstate n = 0 := h.mark_zero (x := (0x200, 0, 5)) (by decide) hs

/-- An Eave that is open stays open. -/
theorem eaveLive_false (h : s.Quells n t) (hs : s.eaveLive n = false) : t.eaveLive n = false := by
  rcases h.marks (0xa00, 0, 3) (by decide) with e | e
  · rw [State.eaveLive, show t.get (PEV_STATUS.STATE n) = _ from e]
    exact hs
  · rw [State.eaveLive, show t.get (PEV_STATUS.STATE n) = 0 from e]
    rfl

end State.Quells

/-! ### The entries of ErrorRecovery and Disabled -/

/-- Eave opens: from there on it is open. -/
theorem State.eaveOpen_quells (s : State) (n : Fin 16) : s.Quells n (s.eaveOpen n) ∧ (s.eaveOpen n).eaveLive n = false := by
  have hramp : s.Quells n ((s.seeRamp n).clear (PEV_STATUS.STATE n)) := (State.Quells.seeRamp (.refl s n)).clearMark (x := (0xa00, 0, 3)) (by decide)
  have hopen : ((s.seeRamp n).clear (PEV_STATUS.STATE n)).eaveLive n = false := by
    rw [State.eaveLive, State.clear, State.get_put_same _ _ _ (Nat.le_of_ble_eq_true rfl)]
    rfl
  unfold State.eaveOpen
  extract_lets t
  have hrest : ((s.seeRamp n).clear (PEV_STATUS.STATE n)).Quells n (((t.wr (PEV_ACC.at n) 0).clearComp n).discharge n) :=
    .discharge <| .clearComp <| .wrOwn (by decide) <| .modPort (fun _ => rfl) <| .refl ..
  exact ⟨hramp.trans hrest, hrest.eaveLive_false hopen⟩

/-- The reset of the PD engine: the policy engine stands in its first state. -/
theorem State.pdReset_quells (s : State) (n : Fin 16) : s.Quells n (s.pdReset n) ∧ (s.pdReset n).pstate n = 0 := by
  unfold State.pdReset
  extract_lets t1 t2 t3 t4
  have hfirst : s.Quells n (t1.clear (PPD_STATUS.PSTATE n)) := State.Quells.clearMark (x := (0x200, 0, 5)) (by decide) <| .modPd <| .noContract <| .refl s n
  have hzero : (t1.clear (PPD_STATUS.PSTATE n)).pstate n = 0 := State.get_put_same _ _ _ (Nat.le_of_ble_eq_true rfl)
  have h2 : (t1.clear (PPD_STATUS.PSTATE n)).Quells n t2 := .putOwn (by decide) <| .putOwn (by decide) <| .putOwn (by decide) <| .refl ..
  have h3 : (t1.clear (PPD_STATUS.PSTATE n)).Quells n t3 := List.foldlRecOn (List.range 11) _ (h2.wrOwn (by decide)) fun v hv k hk => by
    have := List.mem_range.1 hk
    rw [PPD_OFFER.at, Nat.add_assoc]
    refine hv.wrOwn ⟨by omega, by omega, ?_⟩
    simp [workMarks]
    omega
  have h4 : (t1.clear (PPD_STATUS.PSTATE n)).Quells n t4 := .wrGrant (b := 3) ⟨rfl, by decide⟩ <| h3.modPort fun _ => rfl
  have hrest := h4.startRole.allocToFloor
  exact ⟨hfirst.trans hrest, hrest.pstate_zero hzero⟩

/-- ErrorRecovery stops the policy engine, the stage, Eave and Rp (R104). -/
theorem State.errRec_quells (s : State) (n : Fin 16) :
    s.Quells n (s.errRec n) ∧ (s.errRec n).pstate n = 0 ∧ (s.errRec n).stageOn n = false ∧ (s.errRec n).eaveLive n = false ∧
      (s.errRec n).get (PCC_STATUS.RPOUT n) = 0 := by
  unfold State.errRec
  extract_lets t1 t2 t3 t4
  have hoff : s.Quells n (((s.swLeave n).setCc n ccErrorRecovery).clear (PCC_STATUS.RPOUT n)) :=
    State.Quells.clearMark (x := (0, 10, 2)) (by decide) <| .setCc <| .swLeave <| .refl s n
  have hRPOUT : (((s.swLeave n).setCc n ccErrorRecovery).clear (PCC_STATUS.RPOUT n)).get (PCC_STATUS.RPOUT n) = 0 :=
    State.get_put_same _ _ _ (Nat.le_of_ble_eq_true rfl)
  have h2 : (((s.swLeave n).setCc n ccErrorRecovery).clear (PCC_STATUS.RPOUT n)).Quells n t2 := .legsOff <| .vconnOff <| .driveRd <| .refl ..
  have hstage : t2.stageOn n = false := State.stageOn_legsOff ..
  obtain ⟨heave, hopen⟩ := t2.eaveOpen_quells n
  have h3 : t2.Quells n t3 := .ite (fun _ => heave) fun _ => .discharge <| .refl t2 n
  have hclosed : t3.eaveLive n = false := by
    by_cases hlive : t2.eaveLive n = true
    · rw [show t3 = t2.eaveOpen n from if_pos hlive]
      exact hopen
    · rw [show t3 = t2.discharge n from if_neg hlive]
      exact (State.Quells.discharge <| .refl t2 n).eaveLive_false (Bool.eq_false_iff.2 hlive)
  obtain ⟨hreset, hpstate⟩ := t3.pdReset_quells n
  have hrest : (t3.pdReset n).Quells n
      (((t4.settleCurve n).dropOps n).modPort n (fun p => { p with errElapsed := false, recPending := false, probing := false })) :=
    .modPort (fun _ => rfl) <| .dropOps <| .settleCurve <| .leaveAttach <| .clearCable <| .refl ..
  have hlate := hreset.trans hrest
  have hlast := h3.trans hlate
  exact ⟨hoff.trans (h2.trans hlast), hrest.pstate_zero hpstate, hlast.stage hstage, hlate.eaveLive_false hclosed, (h2.trans hlast).rpOut_zero hRPOUT⟩

/-- Disabled has no Rp (R104). -/
theorem State.enterDisabled_quells (s : State) (n : Fin 16) : s.Quells n (s.enterDisabled n) ∧ (s.enterDisabled n).get (PCC_STATUS.RPOUT n) = 0 := by
  unfold State.enterDisabled
  extract_lets t
  have hoff : s.Quells n ((s.setCc n ccDisabled).clear (PCC_STATUS.RPOUT n)) := State.Quells.clearMark (x := (0, 10, 2)) (by decide) <| .setCc <| .refl s n
  have hRPOUT : ((s.setCc n ccDisabled).clear (PCC_STATUS.RPOUT n)).get (PCC_STATUS.RPOUT n) = 0 := State.get_put_same _ _ _ (Nat.le_of_ble_eq_true rfl)
  have ht : ((s.setCc n ccDisabled).clear (PCC_STATUS.RPOUT n)).Quells n t := .modPort (fun _ => rfl) <| .driveRd <| .vconnOff <| .refl ..
  have hrest : ((s.setCc n ccDisabled).clear (PCC_STATUS.RPOUT n)).Quells n (if t.eaveLive n then t.eaveOpen n else t) :=
    .ite (fun _ => ht.trans (t.eaveOpen_quells n).1) fun _ => ht
  exact ⟨hoff.trans hrest, hrest.rpOut_zero hRPOUT⟩

/-! ### Their end in the slot (R26, R169) -/

/-- From s to t the state of Ridge stands, but for a cancel of port n's ops that waits (R26). -/
def State.asksAtMost (s : State) (n : Fin 16) (t : State) : Prop :=
  t.ridge = s.ridge ∨ t.ridge = { s.ridge with cancels := s.ridge.cancels ++ [.portWide n.val] }

theorem State.errRec_asks (s : State) (n : Fin 16) : s.asksAtMost n (s.errRec n) := by
  unfold State.errRec
  extract_lets t1 t2 t3 t4
  have h2 : s.Keeps (pRegs ||| pFreeCtr ||| pPorts ||| pSlices ||| pJtl ||| pBoot) t2 :=
    (State.legsOff_keeps ..).step rfl <| (State.vconnOff_keeps ..).step rfl <| (State.driveRd_keeps ..).step rfl <| (State.clear_keeps ..).step rfl <|
      (State.setCc_keeps ..).step rfl <| (State.swLeave_keeps ..).mono rfl
  have h3 : s.Keeps (pRegs ||| pFreeCtr ||| pPorts ||| pSlices ||| pJtl ||| pBoot) t3 :=
    .ite (fun _ => (State.eaveOpen_keeps ..).step rfl h2) fun _ => (State.discharge_keeps ..).step rfl h2
  have h4 : s.Keeps (pRegs ||| pFreeCtr ||| pPorts ||| pSlices ||| pJtl ||| pBoot) ((t4.settleCurve n).dropApply n) :=
    (State.dropApply_keeps ..).step rfl <| (State.settleCurve_keeps ..).step rfl <| (State.leaveAttach_keeps ..).step rfl <|
      (State.clearCable_keeps ..).step rfl <| (State.pdReset_keeps ..).step rfl h3
  have hridge := h4.ridge rfl
  rw [State.asksAtMost, ← hridge, State.dropOps]
  generalize (t4.settleCurve n).dropApply n = u
  change (u.cancelLater n).ridge = u.ridge ∨ (u.cancelLater n).ridge = _
  unfold State.cancelLater
  split
  · exact .inr rfl
  · exact .inl rfl

/-- The slot's end behind such an effect, where the window holds no op of the port: the ledger alone. -/
theorem State.asksAtMost.endSlot {s t : State} {n : Fin 16} (h : s.asksAtMost n t) (hclean : s.slotClean)
    (hw : ∀ o ∈ s.ridge.window, (o.port == n.val) = false) : t.endSlot = (t.modRidge (fun r => { r with cancels := [] })).settleDeficit := by
  obtain ⟨hcancels, hdisabled, hrecheck, -⟩ := hclean
  refine State.endSlot_of_noOps (n := n.val) ?_ ?_ ?_ ?_
  · rcases h with h | h <;> rw [h] <;> exact hw
  · rcases h with h | h <;> rw [h] <;> exact hdisabled
  · rcases h with h | h <;> rw [h] <;> exact hrecheck
  · refine h.imp (fun h => ?_) fun h => ?_ <;> rw [h, hcancels]
    rfl

end Sys2Proof.Machine
end

section
/-!
PROOF. O20: the attach commands of a host port (R104, R122, R124, R127).
-/

namespace Sys2Proof.Machine

/-! ### The state behind a command that ends OK -/

/-- The state E once the port shows OK and the reports that the command owes are counted. -/
def State.saysOk (s : State) (hp : HostPort) (n : Fin 16) (e : State) : State := s.reportAll (e.endWith hp stOK 0 s.ports[n].gen)

theorem State.saysOk_regs (s : State) (hp : HostPort) (n : Fin 16) (e : State) : (s.saysOk hp n e).regs = e.regs := State.reportAll_regs ..

theorem State.saysOk_get (s : State) (hp : HostPort) (n : Fin 16) (e : State) (f : Fld) : (s.saysOk hp n e).get f = e.get f :=
  State.get_of_regs (s.saysOk_regs hp n e) f

theorem State.saysOk_cc (s : State) (hp : HostPort) (n m : Fin 16) (e : State) : (s.saysOk hp n e).cc m = e.cc m := s.saysOk_get hp n e _

/-- A command that ends OK counts in STATE_GEN and shows its status. -/
theorem State.saysOk_port (s : State) (hp : HostPort) (n m : Fin 16) (e : State) : ∃ g, (s.saysOk hp n e).ports[m] = { e.ports[m] with gen := g } :=
  State.reportAll_port ..

theorem State.saysOk_host {s e : State} (h : e.host = s.host) (hp : HostPort) (n : Fin 16) : s.hostSays (s.saysOk hp n e) hp stOK 0 s.ports[n].gen := by
  rw [State.hostSays, State.saysOk, (State.reportAll_keeps ..).host rfl]
  exact State.hostSays_endWith h ..

theorem State.saysOk_keeps (s : State) (hp : HostPort) (n : Fin 16) (e : State) : e.Keeps (pHost ||| pPorts) (s.saysOk hp n e) := by
  have hend : e.Keeps pHost (e.endWith hp stOK 0 s.ports[n].gen) := by
    rw [State.endWith, if_pos (.inl rfl)]
    exact State.modHp_keeps ..
  exact (State.reportAll_keeps ..).step rfl (hend.mono rfl)

theorem State.Touches.saysOk {s e : State} {n : Fin 16} (h : s.Touches n (attachArea n) e) (hp : HostPort) : s.portsBut (s.saysOk hp n e) [n] := by
  have he : s.Touches n (attachArea n) (e.endWith hp stOK 0 s.ports[n].gen) := h.of_eq rfl rfl
  rw [State.saysOk, he.reportAll attachArea_apart]
  exact (he.report s).2

/-- A command to a port's block whose effect stays within the port, leaves the slot quiet and ends OK. -/
theorem Next.of_port_command {c : Instr} {s : State} {hp : HostPort} {n : Fin 16} {d : Nat} {v : Word} {effect : State → State × Nat} {P : State → Prop}
    (hexec : exec c s = doneAll s (s.commandSt hp (portBase n.val + d) v effect)) (hd : d < 0x1000) (h : s.takes hp (portBase n.val + d) v)
    (hok : (effect s.passOp).2 = stOK) (ht : s.Touches n (attachArea n) (effect s.passOp).1) (hr : (effect s.passOp).1.ridge = s.passOp.ridge)
    (p : P (s.saysOk hp n (effect s.passOp).1)) : Next c s P := by
  have hq : (effect s.passOp).1.slotClean :=
    State.slotClean_of_still (State.slotClean_passOp_of_takes h) (fun a ha => (ht.regs a ha).trans (s.rd_passOp (by rintro rfl; simp [attachArea] at ha)).symm)
      (fun _ => attachArea_of_truss) hr
  refine .of_doneAll (hexec.trans (congrArg (doneAll s) (State.commandSt_of_quiet_port hd h hq))) ?_
  rw [hok, ht.gen]
  exact p

/-! ### What the passing of the command's op leaves of a port -/

theorem State.portUp_passOp (s : State) (n : Fin 16) : s.passOp.portUp n = s.portUp n := State.portUp_of_rd (s.rd_passOp (by decide)) (s.rd_passOp (by decide))

theorem State.halted_passOp (s : State) (k : Nat) : s.passOp.halted k = s.halted k := by
  rw [State.halted, s.get_passOp (by decide), ← State.halted]

theorem State.pd_passOp (s : State) (n : Fin 16) : s.passOp.pd n = s.pd n := State.pd_of_ports ((State.passOp_keeps s).ports rfl) n

theorem State.cc_passOp (s : State) (n : Fin 16) : s.passOp.cc n = s.cc n := s.get_passOp (portAddr_ne n (by decide))

theorem State.mayDiscover_passOp (s : State) (n : Fin 16) : s.passOp.mayDiscover n = s.mayDiscover n := by
  rw [State.mayDiscover, s.cc_passOp, s.bit_passOp (portAddr_ne n (by decide)), s.bit_passOp (portAddr_ne n (by decide)),
    s.get_passOp (portAddr_ne n (by decide)), s.halted_passOp, ← State.mayDiscover]

theorem State.discTime_passOp (s : State) (n : Fin 16) : s.passOp.discTime n = s.discTime n := by
  rw [State.discTime, State.pstate, State.hasContract, s.get_passOp (portAddr_ne n (by decide)), s.get_passOp (portAddr_ne n (by decide)), ← State.pstate,
    ← State.hasContract, ← State.discTime]

/-! ### PCC_CTRL.DISABLE cleared (R104) -/

/-- The Unattached state of a source port, or the attach wait where a classification stands already and no check withholds Rp (R280). -/
theorem State.cc_enterUnattached {s : State} {n : Fin 16} (hs : s.isService n = false) :
    (s.enterUnattached n).cc n = if s.someRd n && !s.ports[n].val.first then ccAttachWaitSrc else ccUnattachedSrc := by
  unfold State.enterUnattached
  extract_lets t1 t2 t3
  have ha : s.ActsOn n true (fun _ => True) t2 :=
    .modPort (fun _ => rfl) <| .putOwn (by decide) <| .putOwn (by decide) <| .takeStaged (by decide) <| .takeStaged (by decide) <| .start s n true
  have hf : s.Frees n t2 :=
    .modPort (fun _ => rfl) <| .putOwn (by decide) <| .putOwn (by decide) <| .takeStaged (by decide) <| .takeStaged (by decide) <| .refl s n
  have h1 : t1.ports = s.ports := ((State.takeStaged_keeps ..).step rfl (State.takeStaged_keeps ..)).ports rfl
  have hval : t2.ports[n].val = s.ports[n].val := (congrArg PortSt.val (State.modPort_port_same ..)).trans (by rw [← h1]; rfl)
  have h3 : t3 = ((((t2.setCc n ccUnattachedSrc).showRp n).vconnOff n).wr (PCC_PROBE.at n) 0).clearCable n := if_neg (by rw [ha.isService, hs]; decide)
  have hcc : t3.cc n = ccUnattachedSrc := by
    rw [h3]
    exact (State.ActsOn.clearCable <| .wrOwn (by decide) <| .vconnOff <| .showRp <| ha.setCc (Q := fun x => x = ccUnattachedSrc) rfl).cc
  have hfrees : s.Frees n t3 := by
    rw [h3]
    exact .clearCable <| .wrOwn (by decide) <| .vconnOff hf.setCc.showRp
  have hports : t3.ports = t2.ports := by
    rw [h3]
    exact ((State.clearCable_keeps ..).step rfl <| (State.wr_keeps ..).step rfl <| (State.vconnOff_keeps ..).step rfl <|
      (State.showRp_keeps ..).step rfl <| State.setCc_keeps ..).ports rfl
  have hserv : t3.isService n = false := by
    rw [State.isService, hports]
    exact (ha.isService n).trans hs
  rw [hports, hval]
  by_cases hfirst : s.ports[n].val.first = true
  · rw [if_pos hfirst, hcc, hfirst, Bool.not_true, Bool.and_false, if_neg Bool.false_ne_true]
  rw [if_neg hfirst, Bool.eq_false_iff.2 hfirst, Bool.not_false, Bool.and_true, State.candidate, hfrees.someRd]
  by_cases hrd : s.someRd n = true
  · rw [if_pos hrd, if_pos hrd, State.cc, State.get_of_regs ((State.firePort_keeps ..).regs rfl)]
    rw [State.setCc, State.get_put_same _ _ _ (Nat.le_of_ble_eq_true rfl), hserv]
    rfl
  · rw [if_neg hrd, if_neg hrd, hcc]

/-- With DISABLE 0 a Disabled port that nothing else holds there begins its attach; any other stands. -/
theorem State.setDisable_false_spec {s : State} {n : Fin 16} (hup : s.portUp n = true) :
    s.Touches n (attachArea n) (s.setDisable n false) ∧ (s.setDisable n false).get (PCC_CTRL.DISABLE n) = 0 ∧
      (s.cc n = ccDisabled → s.bit (PCC_STATUS.LATCHED n) = false → s.ports[n].en = true → s.isSource n = true → s.bit GLB_SUPSTAT.VHVOK = true →
        (s.setDisable n false).cc n = if s.someRd n && !s.ports[n].val.first then ccAttachWaitSrc else ccUnattachedSrc) ∧
      (s.cc n ≠ ccDisabled → (s.setDisable n false).cc n = s.cc n) ∧
      s.Keeps (pRegs ||| pStaged ||| pBat ||| pPorts ||| pBoot) (s.setDisable n false) := by
  have hlow {a : Nat} (ha : a < 0x10000) : (s.flag (PCC_CTRL.DISABLE n) false).rd a = s.rd a := State.rd_put_ne _ _ _ _ (portAddr_ne n ha).symm
  have hstatus {lo w : Nat} : (s.flag (PCC_CTRL.DISABLE n) false).get ⟨PCC_STATUS.at n, lo, w⟩ = s.get ⟨PCC_STATUS.at n, lo, w⟩ :=
    State.get_put_ne _ _ _ _ (by simp)
  have hu : s.Touches n (attachArea n) (s.flag (PCC_CTRL.DISABLE n) false) := .put (attachArea_off n (by decide)) <| .refl ..
  have huK := s.flag_keeps (PCC_CTRL.DISABLE n) false
  have huup : (s.flag (PCC_CTRL.DISABLE n) false).portUp n = true := (State.portUp_of_rd (hlow (by decide)) (hlow (by decide))).trans hup
  have hucc : (s.flag (PCC_CTRL.DISABLE n) false).cc n = s.cc n := hstatus
  have hurd : (s.flag (PCC_CTRL.DISABLE n) false).someRd n = s.someRd n := by
    rw [State.someRd, State.cls1, State.cls2, hstatus, hstatus, ← State.cls1, ← State.cls2, ← State.someRd]
  have hdis : (s.flag (PCC_CTRL.DISABLE n) false).get (PCC_CTRL.DISABLE n) = 0 := State.get_put_same _ _ _ (Nat.le_of_ble_eq_true rfl)
  have hlatched : (s.flag (PCC_CTRL.DISABLE n) false).bit (PCC_STATUS.LATCHED n) = s.bit (PCC_STATUS.LATCHED n) := State.bit_of_get hstatus
  have hvhv : (s.flag (PCC_CTRL.DISABLE n) false).bit GLB_SUPSTAT.VHVOK = s.bit GLB_SUPSTAT.VHVOK := State.bit_of_rd (hlow (by decide))
  simp only [State.setDisable, huup, Bool.not_true, Bool.false_eq_true, if_false]
  generalize s.flag (PCC_CTRL.DISABLE n) false = u at *
  have hports : u.ports = s.ports := huK.ports rfl
  have hleave : u.Frees n (u.leaveDisabled n) := .leaveDisabled <| .refl u n
  refine ⟨hu.trans hleave.touches, (hleave.marks (0x4, 0, 1) (by decide)).trans hdis, fun hd hl hen hsrc hv => ?_, fun hd => ?_,
    (State.leaveDisabled_keeps u n).step rfl (huK.mono rfl)⟩
  · have husrc : u.isSource n = true := by rw [State.isSource, hports]; exact hsrc
    have hdown : u.mustStayDown n = false := by
      rw [State.mustStayDown, hlatched, hl, hports, hen, husrc, hvhv, hv, State.bit, hdis]
      rfl
    rw [State.leaveDisabled, if_pos ⟨hucc.trans hd, by simp [hdown], huup⟩, State.cc_enterUnattached (State.isService_of_isSource husrc), hurd, hports]
  · rw [State.leaveDisabled, if_neg fun h => hd (hucc.symm.trans h.1), hucc]

theorem pccDisable_cleared (s : State) (hp : HostPort) (n : Fin 16) (htakes : s.takes hp (PCC_CTRL.at n) 0) :
    Next (.pccDisable hp n false) s fun t =>
      t.get (PCC_CTRL.DISABLE n) = 0 ∧
      (s.cc n = ccDisabled → s.bit (PCC_STATUS.LATCHED n) = false → s.ports[n].en = true → s.isSource n = true → s.bit GLB_SUPSTAT.VHVOK = true →
        t.cc n = if s.someRd n && !s.ports[n].val.first then ccAttachWaitSrc else ccUnattachedSrc) ∧
      (s.cc n ≠ ccDisabled → t.cc n = s.cc n) ∧
      s.hostSays t hp stOK 0 s.ports[n].gen ∧ s.portsBut t [n] ∧ t.slices = s.slices ∧ t.otp = s.otp ∧ t.mtr = s.mtr ∧ t.pending = s.pending := by
  obtain ⟨hup, -⟩ := State.portUp_of_accepts (d := 0x4) (by decide) htakes.1
  have hpass : s.Frees n s.passOp := .passOp <| .refl s n
  have hports : s.passOp.ports = s.ports := (State.passOp_keeps s).ports rfl
  obtain ⟨htouch, hdis, hfreed, hstands, hK⟩ := State.setDisable_false_spec ((s.portUp_passOp n).trans hup)
  rw [s.cc_passOp, State.isSource, hports, ← State.isSource, s.bit_passOp (portAddr_ne n (by decide)), s.bit_passOp (by decide), hpass.someRd] at hfreed
  rw [s.cc_passOp] at hstands
  have hall : s.Touches n (attachArea n) (s.passOp.setDisable n false) := hpass.touches.trans htouch
  refine .of_port_command (d := 0x4) (effect := fun t => (t.setDisable n false, stOK)) rfl (by decide) htakes rfl hall (hK.ridge rfl) ?_
  dsimp only
  generalize s.passOp.setDisable n false = e at *
  have hkeeps : s.Keeps (pRegs ||| pStaged ||| pHost ||| pRidge ||| pBat ||| pPorts ||| pBoot) (s.saysOk hp n e) :=
    (s.saysOk_keeps hp n e).step rfl <| hK.step rfl <| (State.passOp_keeps s).mono rfl
  rw [s.saysOk_get, s.saysOk_cc]
  exact ⟨hdis, hfreed, hstands, State.saysOk_host ((hK.host rfl).trans ((State.passOp_keeps s).host rfl)) hp n, hall.saysOk hp, hkeeps.slices rfl,
    hkeeps.otp rfl, hkeeps.mtr rfl, hkeeps.pending rfl⟩

/-! ### CLRLATCH (R124) -/

/-- Both latches cleared, in PCC_STATUS and in the port itself. -/
def State.unlatched (s : State) (n : Fin 16) : State :=
  ((s.clear (PCC_STATUS.LATCHED n)).clear (PCC_STATUS.VCONNLATCH n)).modPort n (fun p => { p with latched := false, vconnLatched := false })

theorem State.Touches.unlatched {s t : State} {n : Fin 16} (h : s.Touches n (attachArea n) t) : s.Touches n (attachArea n) (t.unlatched n) :=
  .modPort (fun _ => rfl) <| .put (attachArea_off n (by decide)) <| h.put (attachArea_off n (by decide))

theorem State.get_unlatched (s : State) (n : Fin 16) (f : Fld) :
    (s.unlatched n).get f = ((s.clear (PCC_STATUS.LATCHED n)).clear (PCC_STATUS.VCONNLATCH n)).get f := State.get_of_regs (State.modPort_regs ..) f

theorem State.unlatched_latches (s : State) (n : Fin 16) :
    (s.unlatched n).get (PCC_STATUS.LATCHED n) = 0 ∧ (s.unlatched n).get (PCC_STATUS.VCONNLATCH n) = 0 ∧
      (s.unlatched n).ports[n].latched = false ∧ (s.unlatched n).ports[n].vconnLatched = false := by
  rw [s.get_unlatched, s.get_unlatched, State.get_clear_apart _ rfl, State.clear, State.clear, State.get_put_same _ _ _ (Nat.le_of_ble_eq_true rfl),
    State.get_put_same _ _ _ (Nat.le_of_ble_eq_true rfl), State.unlatched, State.modPort_port_same]
  exact ⟨rfl, rfl, rfl, rfl⟩

theorem State.cc_unlatched (s : State) (n : Fin 16) : (s.unlatched n).cc n = s.cc n := by
  rw [State.cc, s.get_unlatched, State.get_clear_apart _ rfl, State.get_clear_apart _ rfl, ← State.cc]

/-- A check that runs again leaves the Type-C state. -/
theorem State.cc_recheck (s : State) (n : Fin 16) : (s.recheck n).cc n = s.cc n :=
  (State.ActsOn.maybe .startCheck (.refl s n true)).cc

theorem clrlatch_clears (s : State) (hp : HostPort) (n : Fin 16) (htakes : s.takes hp (PCC_CMD.at n) 2) :
    Next (.clrlatch hp n) s fun t =>
      t.get (PCC_STATUS.LATCHED n) = 0 ∧ t.get (PCC_STATUS.VCONNLATCH n) = 0 ∧ t.ports[n].latched = false ∧ t.ports[n].vconnLatched = false ∧
      (s.cc n ≠ ccDisabled → t.cc n = s.cc n) ∧
      s.hostSays t hp stOK 0 s.ports[n].gen ∧ s.portsBut t [n] ∧ t.slices = s.slices ∧ t.otp = s.otp ∧ t.mtr = s.mtr ∧ t.pending = s.pending := by
  have hu : s.Touches n (attachArea n) (s.passOp.unlatched n) := .unlatched (State.Frees.passOp (.refl s n)).touches
  have hclr : s.passOp.clrLatch n = ((s.passOp.unlatched n).recheck n).leaveDisabled n := rfl
  have hucc : (s.passOp.unlatched n).cc n = s.cc n := (State.cc_unlatched ..).trans (s.get_passOp (portAddr_ne n (by decide)))
  obtain ⟨hLATCHED, hVCONNLATCH, hlatched, hvconnLatched⟩ := s.passOp.unlatched_latches n
  have hK : s.passOp.Keeps (pRegs ||| pStaged ||| pBat ||| pPorts ||| pBoot) (((s.passOp.unlatched n).recheck n).leaveDisabled n) :=
    hclr ▸ State.clrLatch_keeps ..
  generalize s.passOp.unlatched n = u at *
  have hfree : u.Frees n ((u.recheck n).leaveDisabled n) := .leaveDisabled <| .recheck <| .refl u n
  have hcc (hd : s.cc n ≠ ccDisabled) : (u.recheck n).leaveDisabled n = u.recheck n :=
    if_neg fun h => hd (hucc.symm.trans ((u.cc_recheck n).symm.trans h.1))
  have hcheck := u.cc_recheck n
  generalize (u.recheck n).leaveDisabled n = e at *
  have hall : s.Touches n (attachArea n) e := hu.trans hfree.touches
  have hkeeps : s.Keeps _ (s.saysOk hp n e) := (s.saysOk_keeps hp n e).step (m := pRegs ||| pStaged ||| pHost ||| pRidge ||| pBat ||| pPorts ||| pBoot) rfl <|
    hK.step rfl <| (State.passOp_keeps s).mono rfl
  have hlatches : e.ports[n].latched = false ∧ e.ports[n].vconnLatched = false :=
    ⟨(congrArg (fun x => x.2.1) hfree.latches).trans hlatched, (congrArg (fun x => x.2.2) hfree.latches).trans hvconnLatched⟩
  obtain ⟨g, hg⟩ := s.saysOk_port hp n n e
  refine .of_port_command (d := 0x8) (effect := fun t => (t.clrLatch n, stOK)) rfl (by decide) htakes rfl
    (by dsimp only; rw [hclr]; exact hall) (by dsimp only; rw [hclr]; exact hK.ridge rfl) ?_
  simp only [hclr]
  refine ⟨?_, ?_, by rw [hg]; exact hlatches.1, by rw [hg]; exact hlatches.2, fun hd => ?_, State.saysOk_host ?_ hp n, hall.saysOk hp, hkeeps.slices rfl,
    hkeeps.otp rfl, hkeeps.mtr rfl, hkeeps.pending rfl⟩
  · rw [s.saysOk_get, ← hLATCHED]
    exact hfree.marks (0, 17, 1) (by decide)
  · rw [s.saysOk_get, ← hVCONNLATCH]
    exact hfree.marks (0, 18, 1) (by decide)
  · rw [s.saysOk_cc, hcc hd]
    exact hcheck.trans hucc
  · exact (hK.host rfl).trans ((State.passOp_keeps s).host rfl)

/-! ### REDISC (R113, R127) -/

/-- The cable record as a new discovery finds it: cleared, but for the mark that VCONN fell short. -/
def State.freshCable (s : State) (n : Fin 16) : State :=
  ((s.clearCable n).flag (PCC_CABLE.VCONNLOW n) (s.bit (PCC_CABLE.VCONNLOW n))).modPd n (fun d => { d with farTries := 0 })

/-- The registers of the cable record of port n (R115), from PCC_CABLE to PCC_LENGTH. -/
def recordArea (n : Fin 16) (a : Nat) : Bool := within (portBase n.val + 0x30) (portBase n.val + 0x44) a

theorem recordArea_off (n : Fin 16) {d : Nat} (h : 0x30 ≤ d ∧ d < 0x44) : recordArea n (portBase n.val + d) = true := by
  simp [recordArea, within, h]

theorem recordArea_eq_false (n : Fin 16) {d : Nat} (h : d < 0x30 ∨ 0x44 ≤ d) : recordArea n (portBase n.val + d) = false := by
  simp [recordArea, within]
  omega

theorem inPort_of_recordArea {n : Fin 16} {a : Nat} (h : recordArea n a = true) : inPort n a = true := by
  simp only [recordArea, inPort, within, Bool.and_eq_true, decide_eq_true_eq] at h ⊢
  omega

theorem State.freshCable_touches (s : State) (n : Fin 16) : s.Touches n (recordArea n) (s.freshCable n) :=
  .modPd <| .put (recordArea_off n (by decide)) <| .wr (recordArea_off n (by decide)) <| .wr (recordArea_off n (by decide)) <|
    .wr (recordArea_off n (by decide)) <| .wr (recordArea_off n (by decide)) <| .wr (recordArea_off n (by decide)) <| .refl s n _

/-- The cable record beside VCONNLOW is empty. -/
theorem State.get_freshCable (s : State) (n : Fin 16) {lo w : Nat} (h : (PCC_CABLE.VCONNLOW n).apart ⟨PCC_CABLE.at n, lo, w⟩ = true) :
    (s.freshCable n).get ⟨PCC_CABLE.at n, lo, w⟩ = 0 := by
  have hrd : (s.clearCable n).rd (PCC_CABLE.at n) = 0 := by
    rw [State.clearCable, State.rd_wr_ne _ _ (by simp), State.rd_wr_ne _ _ (by simp), State.rd_wr_ne _ _ (by simp), State.rd_wr_ne _ _ (by simp),
      State.rd_wr_same]
  have hregs : (s.freshCable n).regs = ((s.clearCable n).flag (PCC_CABLE.VCONNLOW n) (s.bit (PCC_CABLE.VCONNLOW n))).regs := State.modPort_regs ..
  rw [State.get_of_regs hregs, State.flag, State.get_put_apart _ _ h, State.get, hrd]
  simp [Fld.of]

/-- Where a discovery may run in a port with an empty cable record. -/
theorem State.mayDiscover_freshCable {s : State} {n : Fin 16} (hcc : s.cc n = ccAttachedSrc) (hhalt : s.halted n.val = false) :
    (s.freshCable n).mayDiscover n = (s.bit (PCC_CFG.DISCEN n) && s.bit (PCC_STATUS.VCONNON n)) := by
  have h := (s.freshCable_touches n).regs
  have hlow : recordArea n GLB_ISLHALT.at = false := by
    simp [recordArea, within, portBase, GLB_ISLHALT.at]
    omega
  rw [State.mayDiscover, State.cc, h.get (recordArea_eq_false n (.inl (by decide))), ← State.cc, hcc, h.bit (recordArea_eq_false n (.inl (by decide))),
    h.bit (recordArea_eq_false n (.inl (by decide))), s.get_freshCable n rfl, State.halted, h.get hlow, ← State.halted, hhalt]
  simp

theorem State.discTime_freshCable (s : State) (n : Fin 16) : (s.freshCable n).discTime n = s.discTime n := by
  have h := (s.freshCable_touches n).regs
  rw [State.discTime, State.discTime, State.pstate, State.hasContract, h.get (recordArea_eq_false n (.inr (by decide))),
    h.get (recordArea_eq_false n (.inr (by decide)))]
  rfl

/-- A discovery begun again: its first attempt, or no cable where discovery is off. -/
theorem State.redisc_spec {s : State} {n : Fin 16} (hcc : s.cc n = ccAttachedSrc) (hdisc : (s.pd n).discovering = false) (hmay : s.mayDiscover n = false)
    (hhalt : s.halted n.val = false) :
    (s.redisc n).2 = stOK ∧ s.Touches n (recordArea n) (s.redisc n).1 ∧
      (s.bit (PCC_CFG.DISCEN n) = true → s.bit (PCC_STATUS.VCONNON n) = true → s.discTime n = true →
        (s.redisc n).1.get (PCC_CABLE.ATTEMPTS n) = 1 ∧ ((s.redisc n).1.pd n).discovering = true) ∧
      (s.bit (PCC_CFG.DISCEN n) = false → (s.redisc n).1.get (PCC_CABLE.KIND n) = 1) := by
  have hredisc : s.redisc n = (if !(s.freshCable n).mayDiscover n then (s.freshCable n).put (PCC_CABLE.KIND n) 1
      else if (s.freshCable n).discTime n then (s.freshCable n).discover n else s.freshCable n, stOK) := if_pos ⟨hcc, by simp [hdisc], by simp [hmay]⟩
  have hfresh := s.freshCable_touches n
  obtain ⟨hattempt, hcount, hpd⟩ := (s.freshCable n).discover_spec n
  rw [hredisc, State.mayDiscover_freshCable hcc hhalt, State.discTime_freshCable]
  refine ⟨rfl, ?_, fun hen hon htime => ?_, fun hen => ?_⟩
  · refine .ite (fun _ => hfresh.put (recordArea_off n (by decide))) fun _ => .ite (fun _ => hfresh.trans (hattempt.mono fun a ha => ?_)) fun _ => hfresh
    rw [beq_iff_eq.1 ha]
    exact recordArea_off n (by decide)
  · simp only [hen, hon, htime, Bool.and_self, Bool.not_true, Bool.false_eq_true, if_false, if_true]
    rw [hcount, hpd, s.get_freshCable n rfl]
    exact ⟨rfl, rfl⟩
  · simp only [hen, Bool.false_and, Bool.not_false, if_true]
    exact State.get_put_same _ _ _ (Nat.le_of_ble_eq_true rfl)

theorem redisc_begins (s : State) (hp : HostPort) (n : Fin 16) (htakes : s.takes hp (PCC_CMD.at n) 4) (hcc : s.cc n = ccAttachedSrc)
    (hdisc : (s.pd n).discovering = false) (hmay : s.mayDiscover n = false) :
    Next (.redisc hp n) s fun t =>
      (s.bit (PCC_CFG.DISCEN n) = true → s.bit (PCC_STATUS.VCONNON n) = true → s.discTime n = true → t.get (PCC_CABLE.ATTEMPTS n) = 1 ∧ (t.pd n).discovering = true) ∧
      (s.bit (PCC_CFG.DISCEN n) = false → t.get (PCC_CABLE.KIND n) = 1) ∧
      s.hostSays t hp stOK 0 s.ports[n].gen ∧ s.portsBut t [n] ∧ s.passOp.regsKept t (inPort n) ∧ t = { s.passOp with regs := t.regs, host := t.host, ports := t.ports } := by
  obtain ⟨-, hhalt⟩ := State.portUp_of_accepts (d := 0x8) (by decide) htakes.1
  obtain ⟨hok, hrecord, hfirst, hoff⟩ := State.redisc_spec (s := s.passOp) (n := n) (by rwa [s.cc_passOp]) (by rwa [s.pd_passOp])
    (by rwa [s.mayDiscover_passOp]) (by rwa [s.halted_passOp])
  rw [s.bit_passOp (portAddr_ne n (by decide)), s.bit_passOp (portAddr_ne n (by decide)), s.discTime_passOp] at hfirst
  rw [s.bit_passOp (portAddr_ne n (by decide))] at hoff
  have hK := s.passOp.redisc_keeps n
  have hport : s.passOp.Touches n (inPort n) (s.passOp.redisc n).1 := hrecord.mono fun _ => inPort_of_recordArea
  have hall : s.Touches n (attachArea n) (s.passOp.redisc n).1 :=
    (State.Frees.passOp (.refl s n)).touches.trans <| hport.mono fun a ha => by simp [attachArea, ha]
  refine .of_port_command (d := 0x8) (effect := fun t => t.redisc n) rfl (by decide) htakes hok hall (hK.ridge rfl) ?_
  dsimp only
  generalize (s.passOp.redisc n).1 = e at *
  obtain ⟨g, hg⟩ := s.saysOk_port hp n n e
  have hpd : (s.saysOk hp n e).pd n = e.pd n := by
    rw [State.pd, hg]
    rfl
  rw [s.saysOk_get, s.saysOk_get, hpd]
  exact ⟨hfirst, hoff, State.saysOk_host ((hK.host rfl).trans ((State.passOp_keeps s).host rfl)) hp n, hall.saysOk hp,
    hport.regs.of_regs (s.saysOk_regs hp n e), ((s.saysOk_keeps hp n e).step (m := pRegs ||| pHost ||| pPorts) rfl (hK.mono rfl)).eq_mix⟩

theorem redisc_busy (s : State) (hp : HostPort) (n : Fin 16) (htakes : s.takes hp (PCC_CMD.at n) 4)
    (hnot : s.cc n ≠ ccAttachedSrc ∨ (s.pd n).discovering = true ∨ s.mayDiscover n = true) :
    Next (.redisc hp n) s fun t =>
      t.host.ports[hp.idx].status = statusWord stBUSY 0 s.ports[n].gen ∧ t.get HST_LASTERR.CODE = stBUSY ∧ s.passOp.regsBut t [HST_LASTERR.at] ∧
      t = { s.passOp with regs := t.regs, host := t.host } := by
  have hredisc : s.passOp.redisc n = (s.passOp, stBUSY) := by
    refine if_neg fun h => ?_
    rw [s.cc_passOp, s.pd_passOp, s.mayDiscover_passOp] at h
    obtain ⟨hcc, hdisc, hmay⟩ := h
    exact hnot.elim (fun h => h hcc) fun h => h.elim hdisc hmay
  have hgen : s.passOp.ports[n].gen = s.ports[n].gen := by rw [(State.passOp_keeps s).ports rfl]
  have hcommand : s.commandSt hp (portBase n.val + 0x8) 4 (fun t => t.redisc n) = s.passOp.endWith hp stBUSY 0 s.ports[n].gen := by
    rw [State.commandSt_of_quiet_port (by decide) htakes (by rw [hredisc]; exact State.slotClean_passOp_of_takes htakes), hredisc]
    exact congrArg (s.passOp.endWith hp stBUSY 0) hgen
  have hregs : s.passOp.regsKept (s.passOp.endWith hp stBUSY 0 s.ports[n].gen) (fun a => a == HST_LASTERR.at) :=
    .put (beq_self_eq_true _) <| .put (beq_self_eq_true _) <| .put (beq_self_eq_true _) <| .refl _ _
  have hkey (m : Fin 16) : s.genKey m = (s.passOp.endWith hp stBUSY 0 s.ports[n].gen).genKey m := by
    refine (State.genKey_of_rd fun a ha => (hregs a (beq_false_of_ne ?_)).trans (s.rd_passOp ?_)).symm
    · rintro rfl
      exact absurd ha (by simp [inPort, within, portBase, HST_LASTERR.at]; omega)
    · rintro rfl
      exact absurd ha (by simp [inPort, within, portBase, RDG_CNT0.at]; omega)
  have hreport : s.reportAll (s.passOp.endWith hp stBUSY 0 s.ports[n].gen) = s.passOp.endWith hp stBUSY 0 s.ports[n].gen :=
    State.foldl_report_eq_self fun m _ => hkey m
  refine .of_doneAll (congrArg (doneAll s) hcommand) ?_
  rw [hreport]
  refine ⟨?_, ?_, hregs.regsBut (by simp), (State.endWith_keeps s.passOp hp stBUSY 0 s.ports[n].gen).eq_mix⟩
  · rw [State.endWith, if_neg (by decide)]
    simp [State.modHp, State.modHost]
  · rw [State.endWith, if_neg (by decide), State.get_put_apart _ _ rfl, State.get_put_apart _ _ rfl, State.get_put_same _ _ _ (Nat.le_of_ble_eq_true rfl)]
    rfl

/-! ### PCC_CTRL.DISABLE set, and ERRREC (R104, R122) -/

/-- The state behind the end of a slot in which no op of the port was left to cancel. -/
def State.slotEnded (s : State) : State := (s.modRidge (fun r => { r with cancels := [] })).settleDeficit

theorem State.slotEnded_quells (s : State) (n : Fin 16) : s.Quells n s.slotEnded := .settleDeficit <| .still (State.modRidge_keeps ..) rfl rfl rfl <| .refl s n

theorem State.slotEnded_keeps (s : State) : s.Keeps (pRegs ||| pRidge ||| pPorts) s.slotEnded :=
  (State.settleDeficit_keeps ..).step rfl <| (State.modRidge_keeps ..).mono rfl

theorem State.cc_slotEnded (s : State) (n : Fin 16) : s.slotEnded.cc n = s.cc n :=
  State.get_of_rd (f := PCC_STATUS.STATE n) ((State.rd_settleDeficit _ (portAddr_ne n (by decide))).trans rfl)

/-- A command to a port's block that ends what runs on the port, and may ask for a cancel of its ops. -/
theorem Next.of_quelling_command {c : Instr} {s : State} {hp : HostPort} {n : Fin 16} {d : Nat} {v : Word} {effect : State → State} {P : State → Prop}
    (hexec : exec c s = doneAll s (s.command hp (portBase n.val + d) v effect)) (hd : d < 0x1000) (h : s.takes hp (portBase n.val + d) v)
    (hgen : (effect s.passOp).ports[n].gen = s.passOp.ports[n].gen) (hask : s.passOp.asksAtMost n (effect s.passOp))
    (p : P (s.saysOk hp n (effect s.passOp).slotEnded)) : Next c s P := by
  have hw : ∀ o ∈ s.passOp.ridge.window, (o.port == n.val) = false := by
    rw [s.passOp_ridge]
    exact State.window_of_takes hd h
  have hcommand : s.command hp (portBase n.val + d) v effect = (effect s.passOp).slotEnded.endWith hp stOK 0 s.ports[n].gen := by
    rw [State.command_of_takes h, hask.endSlot (State.slotClean_passOp_of_takes h) hw, State.genOf_port _ n hd, hgen, (State.passOp_keeps s).ports rfl]
    rfl
  exact .of_doneAll (hexec.trans (congrArg (doneAll s) hcommand)) p

theorem State.stageOn_saysOk (s : State) (hp : HostPort) (n m : Fin 16) (e : State) : (s.saysOk hp n e).stageOn m = e.stageOn m :=
  State.stageOn_of ((s.saysOk_keeps hp n e).slices rfl) (fun _ => State.rd_of_regs (s.saysOk_regs hp n e) _) m

/-- What goes with every such command: OK for the port, and nothing of the OTP, the meters or the queue. -/
theorem State.saysOk_slotEnded {s e : State} (hk : s.passOp.Keeps (pRegs ||| pStaged ||| pFreeCtr ||| pRidge ||| pBat ||| pPorts ||| pSlices ||| pJtl ||| pBoot) e)
    (hp : HostPort) (n : Fin 16) :
    s.hostSays (s.saysOk hp n e.slotEnded) hp stOK 0 s.ports[n].gen ∧ (s.saysOk hp n e.slotEnded).otp = s.otp ∧
      (s.saysOk hp n e.slotEnded).mtr = s.mtr ∧ (s.saysOk hp n e.slotEnded).pending = s.pending := by
  have hend : s.Keeps (pRegs ||| pStaged ||| pFreeCtr ||| pRidge ||| pBat ||| pPorts ||| pSlices ||| pJtl ||| pBoot) e.slotEnded :=
    e.slotEnded_keeps.step rfl <| hk.step rfl <| (State.passOp_keeps s).mono rfl
  have hlast : e.slotEnded.Keeps _ (s.saysOk hp n e.slotEnded) := s.saysOk_keeps hp n e.slotEnded
  exact ⟨State.saysOk_host (hend.host rfl) hp n, (hlast.otp rfl).trans (hend.otp rfl), (hlast.mtr rfl).trans (hend.mtr rfl),
    (hlast.pending rfl).trans (hend.pending rfl)⟩

theorem errrec_quells (s : State) (hp : HostPort) (n : Fin 16) (htakes : s.takes hp (PCC_CMD.at n) 1) (hdown : s.cc n ≠ ccDisabled) :
    Next (.errrec hp n) s fun t =>
      t.cc n = ccErrorRecovery ∧ (s.cc n ≠ ccErrorRecovery → t.pstate n = 0 ∧ t.stageOn n = false ∧ t.eaveLive n = false ∧ t.get (PCC_STATUS.RPOUT n) = 0) ∧
      s.hostSays t hp stOK 0 s.ports[n].gen ∧ t.otp = s.otp ∧ t.mtr = s.mtr ∧ t.pending = s.pending := by
  obtain ⟨hup, hhalt⟩ := State.portUp_of_accepts (d := 0x8) (by decide) htakes.1
  rw [← s.portUp_passOp] at hup
  rw [← s.halted_passOp] at hhalt
  rw [← s.cc_passOp] at hdown
  obtain ⟨hquell, hpstate, hstage, heave, hRPOUT⟩ := s.passOp.errRec_quells n
  have hcc := State.cc_goErrRec hup hhalt hdown
  have hgo : s.passOp.goErrRec n = if s.passOp.cc n = ccErrorRecovery then s.passOp else s.passOp.errRec n := by
    rw [State.goErrRec]
    by_cases h : s.passOp.cc n = ccErrorRecovery
    · rw [if_neg (by simp [h]), if_pos h]
    · rw [if_pos (by simp [hup, hdown, h]), if_neg (by simp [hhalt]), if_neg h]
  have hgen : (s.passOp.goErrRec n).ports[n].gen = s.passOp.ports[n].gen := by
    rw [hgo]
    split
    · rfl
    · exact hquell.gen
  have hask : s.passOp.asksAtMost n (s.passOp.goErrRec n) := by
    rw [hgo]
    split
    · exact .inl rfl
    · exact s.passOp.errRec_asks n
  refine .of_quelling_command (d := 0x8) (effect := fun t => t.goErrRec n) rfl (by decide) htakes hgen hask ?_
  refine ⟨?_, fun hne => ?_, State.saysOk_slotEnded ((State.goErrRec_keeps ..).mono rfl) hp n⟩
  · rw [s.saysOk_cc, State.cc_slotEnded, hcc]
  · rw [hgo, if_neg (by rwa [s.cc_passOp])]
    have hend := (s.passOp.errRec n).slotEnded_quells n
    generalize (s.passOp.errRec n).slotEnded = e at *
    refine ⟨?_, ?_, ?_, ?_⟩
    · rw [State.pstate, s.saysOk_get]
      exact hend.pstate_zero hpstate
    · rw [s.stageOn_saysOk]
      exact hend.stage hstage
    · simp only [State.eaveLive, s.saysOk_get]
      exact hend.eaveLive_false heave
    · rw [s.saysOk_get]
      exact hend.rpOut_zero hRPOUT

/-- With DISABLE an attached port goes to ErrorRecovery, one in ErrorRecovery stays there, and any other is Disabled. -/
theorem State.setDisable_spec {s : State} {n : Fin 16} (hup : s.portUp n = true) :
    (s.flag (PCC_CTRL.DISABLE n) true).Quells n (s.setDisable n true) ∧ s.asksAtMost n (s.setDisable n true) ∧
      (s.cc n = ccAttachedSrc ∨ s.cc n = ccAttachedSnk ∨ s.cc n = ccErrorRecovery → (s.setDisable n true).cc n = ccErrorRecovery) ∧
      (s.cc n ≠ ccAttachedSrc → s.cc n ≠ ccAttachedSnk → s.cc n ≠ ccErrorRecovery →
        (s.setDisable n true).cc n = ccDisabled ∧ (s.setDisable n true).get (PCC_STATUS.RPOUT n) = 0) := by
  have hlow {a : Nat} (ha : a < 0x10000) : (s.flag (PCC_CTRL.DISABLE n) true).rd a = s.rd a := State.rd_put_ne _ _ _ _ (portAddr_ne n ha).symm
  have huup : (s.flag (PCC_CTRL.DISABLE n) true).portUp n = true := (State.portUp_of_rd (hlow (by decide)) (hlow (by decide))).trans hup
  have hucc : (s.flag (PCC_CTRL.DISABLE n) true).cc n = s.cc n := State.get_put_ne _ _ _ _ (by simp)
  have huridge : (s.flag (PCC_CTRL.DISABLE n) true).ridge = s.ridge := (State.flag_keeps ..).ridge rfl
  simp only [State.setDisable, huup, hucc, Bool.not_true, Bool.false_eq_true, if_false, if_true]
  generalize s.flag (PCC_CTRL.DISABLE n) true = u at *
  by_cases hattached : s.cc n = ccAttachedSrc ∨ s.cc n = ccAttachedSnk
  · rw [if_pos hattached]
    refine ⟨(u.errRec_quells n).1, by rw [State.asksAtMost, ← huridge]; exact u.errRec_asks n, fun _ => ?_, fun h g => absurd hattached (not_or.2 ⟨h, g⟩)⟩
    exact (State.ActsOn.errRec (Q := fun x => x = ccErrorRecovery) rfl (.refl u n false)).cc
  rw [if_neg hattached]
  by_cases hrec : s.cc n = ccErrorRecovery
  · rw [if_pos hrec]
    exact ⟨.refl u n, .inl huridge, fun _ => hucc.trans hrec, fun _ _ h => absurd hrec h⟩
  · rw [if_neg hrec]
    obtain ⟨hquell, hRPOUT⟩ := u.enterDisabled_quells n
    exact ⟨hquell, .inl (((State.enterDisabled_keeps u n).ridge rfl).trans huridge), fun h => absurd (or_assoc.2 h) (not_or.2 ⟨hattached, hrec⟩),
      fun _ _ _ => ⟨(State.ActsOn.enterDisabled (Q := fun x => x = ccDisabled) rfl (.refl u n false)).cc, hRPOUT⟩⟩

theorem pccDisable_set (s : State) (hp : HostPort) (n : Fin 16) (htakes : s.takes hp (PCC_CTRL.at n) 1) :
    Next (.pccDisable hp n true) s fun t =>
      t.get (PCC_CTRL.DISABLE n) = 1 ∧
      (s.cc n = ccAttachedSrc ∨ s.cc n = ccAttachedSnk ∨ s.cc n = ccErrorRecovery → t.cc n = ccErrorRecovery) ∧
      (s.cc n ≠ ccAttachedSrc → s.cc n ≠ ccAttachedSnk → s.cc n ≠ ccErrorRecovery → t.cc n = ccDisabled ∧ t.get (PCC_STATUS.RPOUT n) = 0) ∧
      s.hostSays t hp stOK 0 s.ports[n].gen ∧ t.otp = s.otp ∧ t.mtr = s.mtr ∧ t.pending = s.pending := by
  obtain ⟨hup, -⟩ := State.portUp_of_accepts (d := 0x4) (by decide) htakes.1
  obtain ⟨hquell, hask, hrecovers, hdisables⟩ := State.setDisable_spec ((s.portUp_passOp n).trans hup)
  rw [s.cc_passOp] at hrecovers hdisables
  have hgen : (s.passOp.setDisable n true).ports[n].gen = s.passOp.ports[n].gen := hquell.gen.trans (by rw [(State.flag_keeps ..).ports rfl])
  have hdis : (s.passOp.setDisable n true).slotEnded.get (PCC_CTRL.DISABLE n) = 1 :=
    (State.get_of_rd (f := PCC_CTRL.DISABLE n) (hquell.trans (State.slotEnded_quells _ n)).ctrl).trans (State.get_put_same _ _ _ (Nat.le_of_ble_eq_true rfl))
  refine .of_quelling_command (d := 0x4) (effect := fun t => t.setDisable n true) rfl (by decide) htakes hgen hask ?_
  refine ⟨(s.saysOk_get ..).trans hdis, fun h => ?_, fun h1 h2 h3 => ?_, State.saysOk_slotEnded ((State.setDisable_keeps ..).mono rfl) hp n⟩
  · rw [s.saysOk_cc, State.cc_slotEnded, hrecovers h]
  · obtain ⟨hcc, hRPOUT⟩ := hdisables h1 h2 h3
    rw [s.saysOk_cc, s.saysOk_get, State.cc_slotEnded, hcc]
    exact ⟨rfl, (State.slotEnded_quells _ n).rpOut_zero hRPOUT⟩

/-- Settles O20: PCC_CTRL.DISABLE both ways, REDISC taken and refused, CLRLATCH and ERRREC, each of them a command that commits at once in a quiet slot. -/
theorem attachCommands : Obligations.AttachCommands := by
  unfold Obligations.AttachCommands
  exact ⟨pccDisable_set, pccDisable_cleared, redisc_begins, redisc_busy, clrlatch_clears, errrec_quells⟩

end Sys2Proof.Machine
end

section
/-!
SUPPORT. A counterexample that runs: what the model evaluates the next state of a command to, against what a clause says of it.
-/

namespace Sys2Proof.Machine

/-- Does the command answer a next state with this property? -/
def nextHas (c : Instr) (s : State) (q : State → Bool) : Bool :=
  match exec c s with
  | .next t => q t
  | _ => false

/-- What holds of the next state holds of the one that the model evaluates. -/
theorem Next.with {c : Instr} {s : State} {P : State → Prop} {q : State → Bool} (h : Next c s P) (hq : nextHas c s q = true) : ∃ t, P t ∧ q t = true := by
  obtain ⟨t, ht, hp⟩ := h
  refine ⟨t, hp, ?_⟩
  simpa only [nextHas, ht] using hq

end Sys2Proof.Machine
end

section
/-!
PROOF. The clause of O24 about TSRC_RECOVER fails. It says that no other port changes. But the recovery applies VCONN to the port again, and where the budget has no
room for its reservation, the reservation that a port with a higher number made in the same commit slot gives way (R112): that port's discovery ends with its VCONN.
-/

namespace Sys2Proof.Machine

/-- Port 0 has ramped its VBUS down in a Hard Reset, its partner's Rd on CC1; the reservations of ports 1 to 6 fill the VCONN budget, and port 1, which made its own in
this commit slot, has a discovery message out. -/
def hardResetVconnFull : State := vconnBudgetFull.setP 0 9

theorem hardResetVconnFull_discovering : hardResetVconnFull.ports[(1 : Fin 16)].pd.discovering = true := by decide +kernel

/-- After the recovery of port 0, port 1 has given way. -/
theorem tsrcRecover_takes_vconn : nextHas (.tsrcRecover 0) hardResetVconnFull (fun t => !t.ports[(1 : Fin 16)].pd.discovering) = true := by decide +kernel

/-- Refutes O24: in `hardResetVconnFull` the recovery of port 0 ends the discovery of port 1. -/
theorem not_resetsAndDataRole : ¬ Obligations.ResetsAndDataRole := by
  unfold Obligations.ResetsAndDataRole
  rintro ⟨-, -, -, -, tsrcRecover, -⟩
  obtain ⟨t, ⟨-, -, -, -, -, hports, -⟩, hq⟩ :=
    (tsrcRecover hardResetVconnFull 0 (by decide +kernel) (by decide +kernel)).with tsrcRecover_takes_vconn
  have h := congrArg (fun p : PortSt => p.pd.discovering) (hports 1 (by decide))
  simp only [hardResetVconnFull_discovering] at h
  simp only [h] at hq
  exact absurd hq (by decide)

end Sys2Proof.Machine
end

section
/-!
PROOF. The clause of O22 about PD_REQUEST in Ready fails. It says that no register outside the port's policy area changes. But a Request that does not match the
predictor's prediction cancels the predictor's ops by name (R184), and with each of them every tentative op whose PRED names it, whatever its port (R175): where
that op is a setpoint of another port, it empties that port's shadow bank and clears SHADOW in its PLP_STATUS (R174).
-/

namespace Sys2Proof.Machine

/-- The predictor's setpoint of port 0, with tag 5. -/
def predictedSetpoint : Op := { Op.mk0 0 clsSETP srcPd 1 0 with tent := true, predictor := true, tag := 5 }

/-- A tentative setpoint of port 1 whose PRED names tag 5. -/
def dependentSetpoint : Op := { Op.mk0 1 clsSETP srcPd 1 0 with tent := true, pv := true, pred := 5, tag := 6 }

/-- Port 0 is in Ready with the predictor's setpoint in the window; port 1 has a filled shadow bank, its setpoint depending on the predicted one. -/
def predictionOutstanding : State :=
  (((((State.reset.put GLB_PORTMASK.PRESENT 0xFFFF).put GLB_ISLPWR.ISL (3 + 2 ^ islRidge)).setP 0 6).raise (PLP_STATUS.SHADOW 1)).modPd 0
    (fun d => { d with predTags := [5] })).modRidge (fun r => { r with window := [predictedSetpoint, dependentSetpoint], lastTag := 6 })

theorem predictionOutstanding_shadow : predictionOutstanding.bit (PLP_STATUS.SHADOW 1) = true := by decide +kernel

/-- After a Request of port 0 that asks for something else, SHADOW of port 1 is clear. -/
theorem pdRequest_empties_other_shadow :
    nextHas (.pdRequest { n := 0, id := 1, rev20 := false } 0) predictionOutstanding (fun t => !t.bit (PLP_STATUS.SHADOW 1)) = true := by decide +kernel

/-- Refutes O22: in `predictionOutstanding` a Request of port 0 writes PLP_STATUS of port 1. -/
theorem not_requestsAndTransitions : ¬ Obligations.RequestsAndTransitions := by
  unfold Obligations.RequestsAndTransitions
  rintro ⟨pdRequest, -⟩
  obtain ⟨t, ⟨-, -, -, -, -, hregs, -⟩, hq⟩ :=
    (pdRequest predictionOutstanding { n := 0, id := 1, rev20 := false } 0 (by decide +kernel) (by decide +kernel)).with pdRequest_empties_other_shadow
  have h : t.bit (PLP_STATUS.SHADOW 1) = predictionOutstanding.bit (PLP_STATUS.SHADOW 1) := State.bit_of_rd (hregs (PLP_STATUS.at 1) (by decide))
  simp only [h, predictionOutstanding_shadow] at hq
  exact absurd hq (by decide)

end Sys2Proof.Machine
end

section
/-!
SUPPORT. A message that a port takes (R129, R130, R146): what its header leaves of the port, the column that answers it, and the end of its row.
-/

namespace Sys2Proof.Machine

/-- A command whose steps stay within the block of one port: that port alone reports. -/
theorem Next.of_touching {c : Instr} {s w : State} {n : Fin 16} {p : Nat → Bool} {P : State → Prop} (h : exec c s = doneAll s w) (ht : s.Touches n p w)
    (hp : ∀ a, p a = true → inPort n a = true) (q : P (s.report n w)) : Next c s P :=
  .of_done1 (h.trans (congrArg Host.Outcome.next (ht.reportAll (inPort_apart hp)))) q

theorem inPort_of_status {n : Fin 16} {d : Nat} (hd : d < 0x1000) : ∀ a, (a == portBase n.val + d) = true → inPort n a = true := by
  intro a ha
  rw [eq_of_beq ha]
  exact inPort_off n hd

/-! ### The header (R129, R130) -/

/-- The port's part of a header: the MessageID is kept. -/
def State.idKept (s : State) (h : PdHead) : State := (s.keepId h.n 0 h.id).modPd h.n (fun d => { d with firstSeen := true, lastSoft := false })

/-- The first message of a partner fixes the revision besides. -/
theorem State.takeHead_eq (s : State) (h : PdHead) : s.takeHead h =
    if (s.pd h.n).firstSeen then s.idKept h else (s.idKept h).put (PPD_STATUS.REV h.n) (if h.rev20 || s.bit (PPD_CFG.REV20 h.n) then 1 else 2) := rfl

theorem State.takeHead_touches (s : State) (h : PdHead) : s.Touches h.n (fun a => a == PPD_STATUS.at h.n) (s.takeHead h) := by
  have hkept : s.Touches h.n (fun a => a == PPD_STATUS.at h.n) (s.idKept h) := .modPd <| .modPd <| .refl ..
  rw [State.takeHead_eq]
  exact .ite (fun _ => hkept) fun _ => hkept.put (beq_self_eq_true _)

theorem State.pd_takeHead (s : State) (h : PdHead) :
    (s.takeHead h).pd h.n = { s.pd h.n with rxId := (s.pd h.n).rxId.set 0 (some h.id.toNat), firstSeen := true, lastSoft := false } := by
  have hkept : (s.idKept h).pd h.n = { s.pd h.n with rxId := (s.pd h.n).rxId.set 0 (some h.id.toNat), firstSeen := true, lastSoft := false } := by
    rw [State.idKept, State.pd_modPd_same, State.keepId, State.pd_modPd_same]
  rw [State.takeHead_eq]
  split
  · exact hkept
  · exact (State.pd_put ..).trans hkept

theorem State.rd_takeHead (s : State) (h : PdHead) {a : Nat} (ha : a ≠ PPD_STATUS.at h.n) : (s.takeHead h).rd a = s.rd a :=
  (s.takeHead_touches h).regs a (beq_false_of_ne ha)

theorem State.get_takeHead_ne (s : State) (h : PdHead) {f : Fld} (hf : f.addr ≠ PPD_STATUS.at h.n) : (s.takeHead h).get f = s.get f :=
  State.get_of_rd (s.rd_takeHead h hf)

theorem State.bit_takeHead_ne (s : State) (h : PdHead) {f : Fld} (hf : f.addr ≠ PPD_STATUS.at h.n) : (s.takeHead h).bit f = s.bit f :=
  State.bit_of_get (s.get_takeHead_ne h hf)

/-- Of PPD_STATUS the header of a message changes the revision alone. -/
theorem State.get_takeHead (s : State) (h : PdHead) {f : Fld} (hf : (PPD_STATUS.REV h.n).apart f = true) : (s.takeHead h).get f = s.get f := by
  rw [State.takeHead_eq]
  split
  · rfl
  · exact State.get_put_apart _ _ hf

theorem State.bit_takeHead (s : State) (h : PdHead) {f : Fld} (hf : (PPD_STATUS.REV h.n).apart f = true) : (s.takeHead h).bit f = s.bit f :=
  State.bit_of_get (s.get_takeHead h hf)

@[simp] theorem State.pstate_takeHead (s : State) (h : PdHead) : (s.takeHead h).pstate h.n = s.pstate h.n := s.get_takeHead h rfl

@[simp] theorem State.group_takeHead (s : State) (h : PdHead) : (s.takeHead h).group h.n = s.group h.n := by rw [State.group, State.pstate_takeHead, State.group]

@[simp] theorem State.hasContract_takeHead (s : State) (h : PdHead) : (s.takeHead h).hasContract h.n = s.hasContract h.n := by
  rw [State.hasContract, s.get_takeHead h rfl, State.hasContract]

/-- Only the policy engine's part of the port changes. -/
theorem State.port_takeHead (s : State) (h : PdHead) : ∃ d, (s.takeHead h).ports[h.n] = { s.ports[h.n] with pd := d } := by
  have hkept : ∃ d, (s.idKept h).ports[h.n] = { s.ports[h.n] with pd := d } := by
    rw [State.idKept, State.modPd, State.modPort_port_same, State.keepId, State.modPd, State.modPort_port_same]
    exact ⟨_, rfl⟩
  rw [State.takeHead_eq]
  split
  · exact hkept
  · exact hkept

theorem State.setup_takeHead (s : State) (h : PdHead) : (s.takeHead h).ports[h.n].setup = s.ports[h.n].setup := by
  obtain ⟨d, hd⟩ := s.port_takeHead h
  rw [hd]
  rfl

@[simp] theorem State.isService_takeHead (s : State) (h : PdHead) : (s.takeHead h).isService h.n = s.isService h.n :=
  State.isService_of_setup (s.setup_takeHead h)

@[simp] theorem State.isSource_takeHead (s : State) (h : PdHead) : (s.takeHead h).isSource h.n = s.isSource h.n := by
  obtain ⟨d, hd⟩ := s.port_takeHead h
  rw [State.isSource, hd, State.isSource]

@[simp] theorem State.rom_takeHead (s : State) (h : PdHead) : (s.takeHead h).ports[h.n].rom = s.ports[h.n].rom := congrArg (fun p => p.2.2.2) (s.setup_takeHead h)

theorem State.get_rev_takeHead (s : State) (h : PdHead) :
    (s.takeHead h).get (PPD_STATUS.REV h.n) = if (s.pd h.n).firstSeen then s.get (PPD_STATUS.REV h.n) else if h.rev20 || s.bit (PPD_CFG.REV20 h.n) then 1 else 2 := by
  rw [State.takeHead_eq]
  split
  · rfl
  · rw [State.get_put_same _ (PPD_STATUS.REV h.n) _ (Nat.le_of_ble_eq_true rfl)]
    split <;> rfl

@[simp] theorem State.rev3_takeHead (s : State) (h : PdHead) : (s.takeHead h).rev3 h.n = s.rev3With h := by
  rw [State.rev3, s.get_rev_takeHead h, State.rev3With]
  split
  · rfl
  · cases h.rev20 || s.bit (PPD_CFG.REV20 h.n) <;> rfl

/-- The header is noted in every state that keeps what it gave. -/
theorem State.noted_of {s t : State} {h : PdHead} (hid : (t.pd h.n).rxId = ((s.takeHead h).pd h.n).rxId) (hseen : (t.pd h.n).firstSeen = ((s.takeHead h).pd h.n).firstSeen)
    (hrev : t.get (PPD_STATUS.REV h.n) = (s.takeHead h).get (PPD_STATUS.REV h.n)) : s.noted t h := by
  rw [s.pd_takeHead h] at hid hseen
  exact ⟨hid, hseen, hrev.trans (s.get_rev_takeHead h)⟩

/-! ### The column (R146) -/

theorem State.receive_of_hears {s : State} {h : PdHead} (hh : s.hears h) (h19 : s.pstate h.n ≠ 19) (act : State → State) :
    s.receive h act = act (s.takeHead h) := by
  obtain ⟨hlisten, hnew⟩ := hh
  rw [State.receive, if_neg (by simp [hlisten, hnew])]
  exact if_neg (by rwa [State.pstate_takeHead])

theorem State.pstate_ne_nopd {s : State} {n : Fin 16} (h : s.group n ≠ .none) : s.pstate n ≠ 19 := fun e => h (by rw [State.group, e]; rfl)

theorem State.group_of_pstate {s : State} {n : Fin 16} {x : Nat} (h : s.pstate n = x) : s.group n = groupOf x := congrArg groupOf h

theorem State.pstate_of_group_ready {s : State} {n : Fin 16} (h : s.group n = .ready) : s.pstate n = 6 := by
  unfold State.group groupOf at h
  split_ifs at h
  assumption

section Columns

variable {s : State} {n : Fin 16} {startup neg ready brace snk dorm : State → State}

theorem State.byGroup_startup (h : s.group n = .startup) : s.byGroup n startup neg ready brace snk dorm = startup s := by rw [State.byGroup, h]
theorem State.byGroup_neg (h : s.group n = .neg) : s.byGroup n startup neg ready brace snk dorm = neg s := by rw [State.byGroup, h]
theorem State.byGroup_ready (h : s.group n = .ready) : s.byGroup n startup neg ready brace snk dorm = ready s := by rw [State.byGroup, h]
theorem State.byGroup_brace (h : s.group n = .brace) : s.byGroup n startup neg ready brace snk dorm = brace s := by rw [State.byGroup, h]
theorem State.byGroup_snk (h : s.group n = .snk) : s.byGroup n startup neg ready brace snk dorm = snk s := by rw [State.byGroup, h]
theorem State.byGroup_dorm (h : s.group n = .dorm) : s.byGroup n startup neg ready brace snk dorm = dorm s := by rw [State.byGroup, h]

end Columns

/-! ### The end of the row -/

/-- A message of a port that changes registers of its block alone. -/
theorem Next.of_received {c : Instr} {s w : State} {h : PdHead} {act : State → State} {p : Nat → Bool} {P : State → Prop} (hexec : exec c s = received h s act)
    (hh : s.hears h) (h19 : s.pstate h.n ≠ 19) (hact : act (s.takeHead h) = w) (ht : s.Touches h.n p w) (hp : ∀ a, p a = true → inPort h.n a = true)
    (q : P (s.report h.n w)) : Next c s P :=
  .of_touching (hexec.trans (congrArg (doneAll s) ((State.receive_of_hears hh h19 act).trans hact))) ht hp q

/-- Beyond its header a message that is answered changes what the port sends. -/
theorem State.answers_of {s w : State} {h : PdHead} {ms : List PdMsg} (ht : (s.takeHead h).Touches h.n (fun _ => false) w)
    (hk : (s.takeHead h).Keeps (pRegs ||| pFreeCtr ||| pPorts) w) (hid : (w.pd h.n).rxId = ((s.takeHead h).pd h.n).rxId)
    (hseen : (w.pd h.n).firstSeen = ((s.takeHead h).pd h.n).firstSeen) (hout : (w.pd h.n).out = ((s.takeHead h).pd h.n).out ++ ms) :
    s.answers (s.report h.n w) h ms := by
  obtain ⟨hregs, hports⟩ := ((s.takeHead_touches h).trans (ht.mono (by simp))).report s
  refine ⟨State.noted_of (by rw [State.pd_report, hid]) (by rw [State.pd_report, hseen]) ((State.get_report ..).trans (ht.regs.get rfl)), ?_, ?_,
    hregs.regsBut (by simp), hports,
    ((State.report_keeps ..).step (m := pRegs ||| pFreeCtr ||| pPorts) rfl <| hk.step rfl <| (State.takeHead_keeps ..).mono rfl).eq_mix⟩
  · rw [State.sends, State.pd_report, hout, State.pd_takeHead]
  · rw [State.pstate, State.get_report, ht.regs.get rfl, ← State.pstate, State.pstate_takeHead]

/-- A row of R146 that sends one message, with k free values in it. -/
theorem Next.answers_send {c : Instr} {s : State} {h : PdHead} {act : State → State} {m : MsgName} {ws : List Word} {k : Nat} (hexec : exec c s = received h s act)
    (hh : s.hears h) (h19 : s.pstate h.n ≠ 19) (hact : act (s.takeHead h) = ({ s.takeHead h with freeCtr := k } : State).send h.n m ws) :
    Next c s fun t => s.answers t h [sopMsg m ws] ∧ t.freeCtr = k := by
  have ht : (s.takeHead h).Touches h.n (fun _ => false) (({ s.takeHead h with freeCtr := k } : State).send h.n m ws) := .send <| .of_eq (.refl ..) rfl rfl
  have hpd : ((({ s.takeHead h with freeCtr := k } : State).send h.n m ws).pd h.n) =
      { (s.takeHead h).pd h.n with out := ((s.takeHead h).pd h.n).out ++ [sopMsg m ws] } := State.pd_send_same ..
  refine .of_received hexec hh h19 hact ((s.takeHead_touches h).trans (ht.mono (by simp))) (inPort_of_status (by decide)) ⟨State.answers_of ht ?_ ?_ ?_ ?_, ?_⟩
  · exact (State.send_keeps ..).step rfl <| .with_freeCtr _ rfl <| .refl ..
  · rw [hpd]
  · rw [hpd]
  · rw [hpd]
  · exact (State.report_keeps ..).freeCtr rfl

/-- A row of R146 that sends one message without free values. -/
theorem Next.answers_one {c : Instr} {s : State} {h : PdHead} {act : State → State} {m : MsgName} {ws : List Word} (hexec : exec c s = received h s act)
    (hh : s.hears h) (h19 : s.pstate h.n ≠ 19) (hact : act (s.takeHead h) = (s.takeHead h).send h.n m ws) :
    Next c s fun t => s.answers t h [sopMsg m ws] := by
  obtain ⟨t, ht, hans, -⟩ := Next.answers_send (k := (s.takeHead h).freeCtr) hexec hh h19 hact
  exact ⟨t, ht, hans⟩

/-- A row of R146 that only acknowledges. -/
theorem Next.answers_none {c : Instr} {s : State} {h : PdHead} {act : State → State} (hexec : exec c s = received h s act)
    (hh : s.hears h) (h19 : s.pstate h.n ≠ 19) (hact : act (s.takeHead h) = s.takeHead h) : Next c s fun t => s.answers t h [] :=
  .of_received hexec hh h19 hact (s.takeHead_touches h) (inPort_of_status (by decide)) <|
    State.answers_of (.refl ..) (.refl ..) rfl rfl (List.append_nil _).symm

end Sys2Proof.Machine
end

section
/-!
PROOF. O29: discovery (R157), the structured VDMs that are always answered NAK, and the Praeth commands with OBSERVE (R158, R159).
-/

namespace Sys2Proof.Machine

/-! ### What an answer is made of, once the header is taken -/

theorem State.lns8_takeHead (s : State) (h : PdHead) : (s.takeHead h).lns8 = s.lns8 := by
  rw [State.lns8, s.get_takeHead_ne h (portAddr_ne h.n (by decide)).symm, State.lns8]

theorem State.pid_takeHead (s : State) (h : PdHead) : (s.takeHead h).pid = s.pid := by rw [State.pid, s.lns8_takeHead, State.pid]

theorem State.idHeader_takeHead (s : State) (h : PdHead) (v : BitVec 64) : (s.takeHead h).idHeader h.n v = s.idHeader h.n v := by
  rw [State.idHeader, s.get_takeHead_ne h (by simp), s.isService_takeHead, State.idHeader]

theorem State.rd_takeHead_low (s : State) (h : PdHead) {a : Nat} (ha : a < 0x10000) : (s.takeHead h).rd a = s.rd a :=
  s.rd_takeHead h (portAddr_ne h.n ha).symm

theorem State.get_takeHead_low (s : State) (h : PdHead) {f : Fld} (hf : f.addr < 0x10000) : (s.takeHead h).get f = s.get f :=
  State.get_of_rd (s.rd_takeHead_low h hf)

theorem State.flashBusy_takeHead (s : State) (h : PdHead) : (s.takeHead h).flashBusy = s.flashBusy := by
  rw [State.flashBusy, (s.takeHead_keeps h).upd rfl, State.flashBusy]

theorem State.meter_takeHead (s : State) (h : PdHead) (n : Fin 16) : (s.takeHead h).meter n = s.meter n := by
  rw [State.meter, (s.takeHead_keeps h).mtr rfl, State.meter]

/-- Which words a VDM may read rests on the identity, the islands and the image. -/
theorem State.vdmReads_of {s t : State} (hrd : ∀ a, a < 0x10000 → t.rd a = s.rd a) (hrun : t.running = s.running) (addr count : Nat) :
    t.vdmReads addr count = s.vdmReads addr count := by
  have hget {f : Fld} (hf : f.addr < 0x10000) : t.get f = s.get f := State.get_of_rd (hrd _ hf)
  have hpresent : t.present = s.present := funext fun n => by rw [State.present, hget (by decide), State.present]
  have hslice : t.slicePresent = s.slicePresent := funext fun k => by
    rw [State.slicePresent, hget (by decide), hget (by decide), State.slicePresent]
  have hup : t.islandUp = s.islandUp := funext fun k => by rw [State.islandUp, hget (by decide), State.islandUp]
  have hhalt : t.halted = s.halted := funext fun k => by rw [State.halted, hget (by decide), State.halted]
  have hdown : t.keptDown = s.keptDown := funext fun n => by simp only [State.keptDown, State.recs, hrun, hup, hget (f := GLB_BOOTSTAT.STAGE) (by decide)]
  have hout : t.outage = s.outage := State.bit_of_get (hget (by decide))
  have habsent : t.isAbsent = s.isAbsent := funext fun a => by simp only [State.isAbsent, hpresent, hslice]
  have hbusy : t.islandBusy = s.islandBusy := funext fun w => funext fun a => by simp only [State.islandBusy, hout, hpresent, hslice, hup, hhalt, hdown]
  simp only [State.vdmReads, habsent, hbusy]

theorem State.vdmReads_takeHead (s : State) (h : PdHead) (addr count : Nat) : (s.takeHead h).vdmReads addr count = s.vdmReads addr count :=
  State.vdmReads_of (fun _ ha => s.rd_takeHead_low h ha) ((s.takeHead_keeps h).running rfl) addr count

/-- A live value rests on nothing of the policy engine. -/
theorem State.view_of_ports {s : State} {ps : Vector PortSt 16} (h : ∀ m : Fin 16, ∃ d, ps[m] = { s.ports[m] with pd := d }) (a : Nat) :
    ({ s with ports := ps } : State).view a = s.view a := by
  choose d hd using h
  have hsof : ({ s with ports := ps } : State).sofView a = s.sofView a := by
    have hpush : ({ s with ports := ps } : State).revPushing = s.revPushing := by
      simp only [State.revPushing, hd]
      rfl
    simp only [State.sofView, hpush]
    rfl
  have hhst : ({ s with ports := ps } : State).hstView a = s.hstView a := by
    simp only [State.hstView, hd]
    rfl
  have htent (n : Fin 16) (w : Nat) : ({ s with ports := ps } : State).tentWord n w = s.tentWord n w := by
    simp only [State.tentWord, hd]
    rfl
  have hrdg : ({ s with ports := ps } : State).rdgView a = s.rdgView a := by
    simp only [State.rdgView, htent]
    rfl
  simp only [State.view, hsof, hhst, hrdg]
  rfl

theorem State.readShared_of_ports {s : State} {ps : Vector PortSt 16} (h : ∀ m : Fin 16, ∃ d, ps[m] = { s.ports[m] with pd := d }) (a : Nat) :
    ({ s with ports := ps } : State).readShared a = s.readShared a :=
  congrArg (Option.getD (s.measured a (Config.freeValue s.freeCtr))) (State.view_of_ports h a)

/-! ### The columns of a structured VDM -/

theorem vdmIn_column {s : State} {h : PdHead} (hg : s.group h.n = .ready ∨ s.group h.n = .snk) (svid cmd : Nat) (act dorm : State → State) :
    (s.takeHead h).byGroup h.n ig ig act (fun u => u.vdmBusy h.n svid cmd) act dorm = act (s.takeHead h) := by
  rcases hg with hg | hg
  · exact State.byGroup_ready (by rwa [State.group_takeHead])
  · exact State.byGroup_snk (by rwa [State.group_takeHead])

theorem State.pstate_ne_of_vdm {s : State} {n : Fin 16} (hg : s.group n = .ready ∨ s.group n = .snk) : s.pstate n ≠ 19 :=
  State.pstate_ne_nopd (by rcases hg with hg | hg <;> rw [hg] <;> decide)

section Handled

variable {c : Instr} {s : State} {h : PdHead} {svid cmd : Nat} {act dorm : State → State} {ws : List Word}

/-- A structured VDM that is handled with one message. -/
theorem Next.answers_vdm (hexec : exec c s = vdmIn h svid cmd s act dorm) (hh : s.hears h) (hg : s.group h.n = .ready ∨ s.group h.n = .snk)
    (hact : act (s.takeHead h) = (s.takeHead h).send h.n .vdm ws) : Next c s fun t => s.answers t h [vdmMsg ws] :=
  .answers_one hexec hh (State.pstate_ne_of_vdm hg) ((vdmIn_column hg ..).trans hact)

/-- As answers_vdm, with free values in the message. -/
theorem Next.answers_vdm_free {k : Nat} (hexec : exec c s = vdmIn h svid cmd s act dorm) (hh : s.hears h) (hg : s.group h.n = .ready ∨ s.group h.n = .snk)
    (hact : act (s.takeHead h) = ({ s.takeHead h with freeCtr := k } : State).send h.n .vdm ws) : Next c s fun t => s.answers t h [vdmMsg ws] := by
  obtain ⟨t, ht, hans, -⟩ := Next.answers_send hexec hh (State.pstate_ne_of_vdm hg) ((vdmIn_column hg ..).trans hact)
  exact ⟨t, ht, hans⟩

/-- Under the fixed-logic responder a structured VDM is answered BUSY. -/
theorem Next.answers_vdm_busy (hexec : exec c s = vdmIn h svid cmd s act dorm) (hh : s.hears h) (hg : s.group h.n = .brace) :
    Next c s fun t => s.answers t h [vdmMsg [vdmHead svid 3 cmd]] :=
  .answers_one hexec hh (State.pstate_ne_nopd (by rw [hg]; decide)) (State.byGroup_brace (by rwa [State.group_takeHead]))

end Handled

/-! ### Discovery (R157) -/

theorem discoverIdentity_answers (s : State) (h : PdHead) (hh : s.hears h) (hg : s.group h.n = .ready ∨ s.group h.n = .snk) :
    Next (.discoverIdentity h) s fun t =>
      s.answers t h [vdmMsg (if s.bit (PPD_VDMCFG.DISCID h.n) then
        [vdmHead svidStd 1 1, s.idHeader h.n (Config.freeValue s.freeCtr), 0, BitVec.ofNat 32 (s.pid * 2 ^ 16 + (s.rd GLB_SIREV.at).toNat % 65536)] else [vdmHead svidStd 2 1])] := by
  have hdiscid : (s.takeHead h).bit (PPD_VDMCFG.DISCID h.n) = s.bit (PPD_VDMCFG.DISCID h.n) := s.bit_takeHead_ne h (by simp)
  have hfree : (s.takeHead h).freeCtr = s.freeCtr := (s.takeHead_keeps h).freeCtr rfl
  by_cases hon : s.bit (PPD_VDMCFG.DISCID h.n) = true
  · rw [if_pos hon, ← s.idHeader_takeHead h, ← s.pid_takeHead h, ← s.rd_takeHead_low h (a := GLB_SIREV.at) (by decide), ← hfree]
    exact .answers_vdm_free (k := (s.takeHead h).freeCtr + 1) rfl hh hg (if_pos (hdiscid.trans hon))
  · rw [if_neg hon]
    exact .answers_vdm rfl hh hg (if_neg (by rwa [hdiscid]))

theorem discoverModes_refuses (s : State) (h : PdHead) (svid : BitVec 16) (cmd : BitVec 5) (hh : s.hears h)
    (hg : s.group h.n = .ready ∨ s.group h.n = .snk) :
    Next (.discoverModes ⟨h, svid, cmd⟩) s fun t =>
      s.answers t h (if nakVdm svid.toNat cmd.toNat then [vdmMsg [vdmHead svid.toNat 2 cmd.toNat]] else []) := by
  by_cases hnak : nakVdm svid.toNat cmd.toNat = true
  · rw [if_pos hnak]
    exact .answers_vdm (svid := svid.toNat) (cmd := cmd.toNat) (if_pos hnak) hh hg rfl
  · rw [if_neg hnak]
    exact .answers_none (if_neg hnak) hh (State.pstate_ne_of_vdm hg) rfl

theorem discoverModes_busy (s : State) (h : PdHead) (svid : BitVec 16) (cmd : BitVec 5) (hh : s.hears h) (hg : s.group h.n = .brace) :
    Next (.discoverModes ⟨h, svid, cmd⟩) s fun t =>
      s.answers t h (if nakVdm svid.toNat cmd.toNat then [vdmMsg [vdmHead svid.toNat 3 cmd.toNat]] else []) := by
  by_cases hnak : nakVdm svid.toNat cmd.toNat = true
  · rw [if_pos hnak]
    exact .answers_vdm_busy (svid := svid.toNat) (cmd := cmd.toNat) (if_pos hnak) hh hg
  · rw [if_neg hnak]
    exact .answers_none (if_neg hnak) hh (State.pstate_ne_nopd (by rw [hg]; decide)) rfl

/-! ### The Praeth commands (R158, R159) -/

/-- A Praeth command of a port with OBSERVE is performed. -/
theorem State.praeth_of_observes {s : State} {h : PdHead} (ho : s.observes h) (cmd : Nat) (act : State → State) :
    (s.takeHead h).praeth h.n cmd act = act (s.takeHead h) := by
  obtain ⟨-, -, hauth, hidle⟩ := ho
  rw [State.praeth, if_neg (by rwa [s.get_takeHead_low h (by decide)]), if_neg (by rw [s.flashBusy_takeHead, hidle]; exact Bool.false_ne_true)]

/-- A Praeth command of a port with OBSERVE that is answered with one message. -/
theorem Next.answers_praeth {c : Instr} {s : State} {h : PdHead} {cmd : Nat} {act dorm : State → State} {ws : List Word}
    (hexec : exec c s = vdmIn h svidPraeth cmd s (fun t => t.praeth h.n cmd act) dorm) (ho : s.observes h)
    (hact : act (s.takeHead h) = (s.takeHead h).send h.n .vdm ws) : Next c s fun t => s.answers t h [vdmMsg ws] :=
  .answers_vdm hexec ho.1 ho.2.1 ((State.praeth_of_observes ho ..).trans hact)

theorem infoVdm_answers (s : State) (h : PdHead) (ho : s.observes h) :
    Next (.infoVdm h) s fun t =>
      s.answers t h [vdmMsg [vdmHead svidPraeth 1 16, s.rd GLB_PARTID.at, BitVec.ofNat 32 ((s.rd GLB_SIREV.at).toNat % 65536 + h.n.val * 65536),
        s.rd GLB_SERIAL0.at, s.rd GLB_SERIAL1.at, s.rd GLB_SERIAL2.at, s.rd THA_IMGID.at]] := by
  have himg : (s.takeHead h).rd THA_IMGID.at = s.rd THA_IMGID.at := s.rd_takeHead h (by simp only [THA_IMGID.at, PPD_STATUS.at, portBase]; omega)
  rw [← himg, ← s.rd_takeHead_low h (a := GLB_PARTID.at) (by decide), ← s.rd_takeHead_low h (a := GLB_SIREV.at) (by decide),
    ← s.rd_takeHead_low h (a := GLB_SERIAL0.at) (by decide), ← s.rd_takeHead_low h (a := GLB_SERIAL1.at) (by decide),
    ← s.rd_takeHead_low h (a := GLB_SERIAL2.at) (by decide)]
  exact .answers_praeth rfl ho rfl

theorem infoVdm_refuses (s : State) (h : PdHead) (hh : s.hears h) (hg : s.group h.n = .ready ∨ s.group h.n = .snk) (hauth : s.get HST_AUTH.PDVDM = 0) :
    Next (.infoVdm h) s fun t => s.answers t h [vdmMsg [vdmHead svidPraeth 2 16]] :=
  .answers_vdm rfl hh hg (if_pos (by rwa [s.get_takeHead_low h (by decide)]))

/-- READ of one word. -/
theorem readVdm_answers (s : State) (h : PdHead) (addr : BitVec 24) (ho : s.observes h) (hseen : (s.pd h.n).firstSeen = true)
    (hreads : s.vdmReads addr.toNat 1 = true) (hstat : addr.toNat ≠ TRS_STAT.at) :
    Next (.readVdm h addr 1) s fun t =>
      s.answers t h [vdmMsg [vdmHead svidPraeth 1 17, BitVec.ofNat 32 (addr.toNat + 2 ^ 24), s.readShared addr.toNat]] := by
  have hpd (m : Fin 16) : ∃ d, (s.takeHead h).ports[m] = { s.ports[m] with pd := d } := by
    by_cases hm : m = h.n
    · rw [hm]
      exact s.port_takeHead h
    · rw [(s.takeHead_touches h).ports m (by simpa using hm)]
      exact ⟨_, rfl⟩
  have hread : (s.takeHead h).readShared addr.toNat = s.readShared addr.toNat := by
    rw [State.takeHead_eq, if_pos hseen] at hpd ⊢
    exact State.readShared_of_ports hpd addr.toNat
  have hfree : (s.takeHead h).readFree addr.toNat = { s.takeHead h with freeCtr := ((s.takeHead h).readFree addr.toNat).freeCtr } := by
    unfold State.readFree
    split <;> rfl
  rw [← hread]
  refine .answers_vdm_free (k := ((s.takeHead h).readFree addr.toNat).freeCtr) rfl ho.1 ho.2.1
    ((State.praeth_of_observes ho ..).trans ((if_pos ((s.vdmReads_takeHead h ..).trans hreads)).trans ?_))
  rw [← hfree]
  change State.vdmAck (if [addr.toNat].contains TRS_STAT.at = true then _ else (s.takeHead h).readFree addr.toNat) h.n svidPraeth 17
    [BitVec.ofNat 32 (addr.toNat + (1 : BitVec 3).toNat * 2 ^ 24), (s.takeHead h).readShared addr.toNat] = _
  rw [if_neg (by simpa using hstat.symm), show (1 : BitVec 3).toNat = 1 from rfl, Nat.one_mul]
  rfl

theorem readVdm_refuses (s : State) (h : PdHead) (addr : BitVec 24) (count : BitVec 3) (ho : s.observes h)
    (hreads : s.vdmReads addr.toNat count.toNat = false) :
    Next (.readVdm h addr count) s fun t => s.answers t h [vdmMsg [vdmHead svidPraeth 2 17]] :=
  .answers_praeth rfl ho (if_neg (by rw [s.vdmReads_takeHead, hreads]; exact Bool.false_ne_true))

theorem telemVdm_answers (s : State) (h : PdHead) (mv ma temp vin : BitVec 16) (ho : s.observes h) :
    Next (.telemVdm h mv ma temp vin) s fun t =>
      s.answers t h [vdmMsg [vdmHead svidPraeth 1 18, BitVec.ofNat 32 (mv.toNat + ma.toNat * 65536), s.rd (PPD_CONTRACT.at h.n),
        BitVec.ofNat 32 (temp.toNat + vin.toNat * 65536), BitVec.ofNat 32 (milliJ (s.meter h.n).etot),
        BitVec.ofNat 32 (milliJ (s.meter h.n).etot / 2 ^ 32 + s.get (MTR_PSTAT.BAND h.n) * 65536 + s.get (PPD_STATUS.INWARN h.n) * 2 ^ 24 + s.get (PPD_STATUS.EPRMODE h.n) * 2 ^ 25),
        BitVec.ofNat 32 s.soffit.sec]] := by
  rw [← s.rd_takeHead h (a := PPD_CONTRACT.at h.n) (by simp), ← s.meter_takeHead h,
    ← s.get_takeHead_low h (f := MTR_PSTAT.BAND h.n) (by simp only [MTR_PSTAT.at]; omega), ← s.get_takeHead h (f := PPD_STATUS.INWARN h.n) rfl,
    ← s.get_takeHead h (f := PPD_STATUS.EPRMODE h.n) rfl, ← (s.takeHead_keeps h).soffit rfl]
  exact .answers_praeth rfl ho rfl

theorem energyVdm_answers (s : State) (h : PdHead) (band : BitVec 3) (ho : s.observes h) :
    Next (.energyVdm h band) s fun t =>
      s.answers t h [vdmMsg [vdmHead svidPraeth 1 19, BitVec.ofNat 32 band.toNat, BitVec.ofNat 32 (milliJ ((s.meter h.n).bands.getD band.toNat 0)),
        BitVec.ofNat 32 (milliJ ((s.meter h.n).bands.getD band.toNat 0) / 2 ^ 32), BitVec.ofNat 32 (s.get (MTR_DEMAND.PEAK h.n))]] := by
  rw [← s.meter_takeHead h, ← s.get_takeHead_low h (f := MTR_DEMAND.PEAK h.n) (by simp only [MTR_DEMAND.at]; omega)]
  exact .answers_praeth rfl ho rfl

/-- Settles O29: each structured VDM is answered in one message, ACK, NAK or BUSY, or is acknowledged only. -/
theorem vendorMessages : Obligations.VendorMessages := by
  unfold Obligations.VendorMessages
  exact ⟨discoverIdentity_answers, fun _ _ hh hg => .answers_vdm rfl hh hg rfl, fun _ _ hh hg => .answers_vdm_busy rfl hh hg, discoverModes_refuses,
    discoverModes_busy, fun _ _ hh h19 => .answers_none rfl hh h19 rfl, infoVdm_answers, infoVdm_refuses, readVdm_answers, readVdm_refuses,
    telemVdm_answers, energyVdm_answers⟩

end Sys2Proof.Machine
end

section
/-!
PROOF. The clause of O30 about DL_END fails. It says that UPD_RESULT shows the code of the checks of END. But after an END without a fault the command activates
(R468), and where a relay start has been asked for meanwhile, ACTIVATE is refused with code 17 (R448).
-/

namespace Sys2Proof.Machine

/-! ### The end of a download (R443, R446, R468) -/

/-- END finds no fault in a complete manifest whose verification is left to ACTIVATE. -/
theorem State.endCode_of_deferred {s : State} {x : Session} (hman : x.man ≠ []) (hlen : x.man.length = manBlks x.man * blockWords) (hblock : x.block = [])
    (hbytes : s.get UPD_RECV.BYTES = manPkgLen x.man % 2 ^ 25) (hdefer : x.defer = true) (hok : manOk x.man = true) : s.endCode x = (0, 0) := by
  simp [State.endCode, hman, hlen, hblock, hbytes, hdefer, hok]

/-- DL_END with the right length and CRC ends the session as END does. -/
theorem State.dlEnd_of_match {s : State} {x : Session} {len crc : Nat} (hsess : s.upd.sess = some x) (hlen : len = manPkgLen x.man)
    (hcrc : crc = x.crcAll ^^^ 0xFFFFFFFF) : s.dlEnd len crc = s.endWithCode x (s.endCode x) := by
  simp [State.dlEnd, State.updEnd, hsess, hlen, hcrc]

/-! ### A checksum byte by byte -/

/-- A fold over numbers that gives its accumulator a value before each step. -/
def foldNow (f : Nat → Nat → Nat) : Nat → List Nat → Nat
  | c, [] => c
  | 0, b :: l => foldNow f (f 0 b) l
  | c + 1, b :: l => foldNow f (f (c + 1) b) l

theorem foldNow_eq_foldl (f : Nat → Nat → Nat) (l : List Nat) (c : Nat) : foldNow f c l = l.foldl f c := by
  induction l generalizing c with
  | nil => cases c <;> rfl
  | cons b l ih => cases c <;> exact ih _

theorem crc32c_eq_foldNow (ws : List Word) :
    crc32c ws = foldNow (fun c b => iterN crc32cBit 8 (c ^^^ b)) 0xFFFFFFFF (ws.flatMap wordBytes) ^^^ 0xFFFFFFFF := by
  rw [foldNow_eq_foldl]
  rfl

/-! ### The download -/

/-- A manifest of one block for a package without content (R438, R439): one device, its Thatch image and its microcode empty. -/
def emptyManifest : List Word :=
  [0x4C4E4D46, 0x10000, 4096, 1, 0, 0, 0, 0x100, 0, 0x201, 64, 80, 0, 0, 608535067, 673175861, 0, 0, 0, 0x200, 1, 4096, 0, 0] ++ List.replicate 8 0 ++ [2, 4096, 0, 0] ++
    List.replicate 988 0

theorem emptyManifest_headCrc : crc32c (emptyManifest.take 15) = 673175861 := by
  rw [crc32c_eq_foldNow]
  decide +kernel

theorem emptyManifest_tableCrc : crc32c ((emptyManifest.take (signedLen emptyManifest / 4)).drop 16) = 608535067 := by
  rw [crc32c_eq_foldNow]
  decide +kernel

theorem emptyManifest_ok : manOk emptyManifest = true := by
  simp only [manOk, emptyManifest_headCrc, emptyManifest_tableCrc]
  decide +kernel

/-- A session of the PD VDM that has received the manifest and leaves the verification to ACTIVATE. -/
def downloadReceived : Session :=
  { owner := 6, defer := true, man := emptyManifest, block := [], stored := [], lenDecl := none, crcDecl := none, crcAll := 0xFFFFFFFF }

/-- Port 0 is the service port of Dormer and has received the download; a relay start has been asked for. -/
def relayAskedInDownload : State :=
  (((((((State.reset.put GLB_PORTMASK.PRESENT 0xFFFF).put GLB_ISLPWR.ISL 1).setP 0 20).modPort 0 (fun p => { p with rom := true })).put HST_AUTH.PDVDM 1).raise
    GLB_BOOTSTAT.DORMER).put UPD_RECV.BYTES 4096).modUpd (fun u => { u with
      sess := some downloadReceived, relay := some { kind := 0, cause := 0x11, ev := 0, apply := none, started := none, rotated := false } })

theorem endCode_downloadReceived {s : State} (hbytes : s.get UPD_RECV.BYTES = 4096) : s.endCode downloadReceived = (0, 0) :=
  State.endCode_of_deferred (by decide +kernel) (by decide +kernel) rfl (hbytes.trans (by decide +kernel)) rfl emptyManifest_ok

/-- The header of DL_END. -/
def downloadHead : PdHead := { n := 0, id := 1, rev20 := false }

/-- The state after DL_END: the session ends without a fault, and its ACTIVATE is refused. -/
def activateRefused : State :=
  relayAskedInDownload.reportAll
    ((((relayAskedInDownload.takeHead downloadHead).endWithCode downloadReceived (0, 0)).vdmAck 0 svidPraeth 27 [0]).updActivate false true)

theorem exec_dlEnd_relayAskedInDownload : exec (.dlEnd downloadHead 4096 0) relayAskedInDownload = .next activateRefused := by
  have hcode : ((relayAskedInDownload.takeHead downloadHead).endWithCode downloadReceived (0, 0)).get UPD_RESULT.CODE = 0 := by decide +kernel
  have hend : (relayAskedInDownload.takeHead downloadHead).dlEnd 4096 0 =
      (relayAskedInDownload.takeHead downloadHead).endWithCode downloadReceived (0, 0) := by
    rw [State.dlEnd_of_match (x := downloadReceived) (by decide +kernel) (by decide +kernel) (by decide +kernel), endCode_downloadReceived (by decide +kernel)]
  have hrecv : exec (.dlEnd downloadHead 4096 0) relayAskedInDownload = doneAll relayAskedInDownload
      (if ((relayAskedInDownload.takeHead downloadHead).dlEnd 4096 0).get UPD_RESULT.CODE = 0 then
        (((relayAskedInDownload.takeHead downloadHead).dlEnd 4096 0).vdmAck 0 svidPraeth 27
          [BitVec.ofNat 32 (((relayAskedInDownload.takeHead downloadHead).dlEnd 4096 0).get UPD_RESULT.CODE)]).updActivate false true
      else ((relayAskedInDownload.takeHead downloadHead).dlEnd 4096 0).vdmAck 0 svidPraeth 27
          [BitVec.ofNat 32 (((relayAskedInDownload.takeHead downloadHead).dlEnd 4096 0).get UPD_RESULT.CODE)]) :=
    congrArg (doneAll relayAskedInDownload) <| (State.receive_of_hears (by decide +kernel) (by decide +kernel) _).trans <|
      (State.byGroup_dorm (by decide +kernel)).trans <| (if_neg (by decide +kernel)).trans <| (if_neg (by decide +kernel)).trans (if_neg (by decide +kernel))
  rw [hrecv, hend, hcode, if_pos rfl]
  rfl

theorem activateRefused_code : activateRefused.get UPD_RESULT.CODE = 17 := by decide +kernel

/-- Refutes O30: in `relayAskedInDownload` the checks of END give 0, and UPD_RESULT shows 17. -/
theorem not_recoveryDownload : ¬ Obligations.RecoveryDownload := by
  unfold Obligations.RecoveryDownload
  rintro ⟨-, -, -, -, -, dlEnd, -⟩
  obtain ⟨t, ht, -, -, hcode, -⟩ :=
    dlEnd relayAskedInDownload downloadHead 4096 0 downloadReceived (by decide +kernel) (by decide +kernel) rfl rfl (by decide +kernel) (by decide +kernel)
      (by decide +kernel)
  obtain rfl : activateRefused = t := Host.Outcome.next.inj (exec_dlEnd_relayAskedInDownload.symm.trans ht)
  rw [activateRefused_code, endCode_downloadReceived (by decide +kernel)] at hcode
  exact absurd hcode (by decide)

end Sys2Proof.Machine
end

section
/-!
SUPPORT. What the protocol layer and the policy engine do of their own (R131, R133, R143, R160): an offer with what it shows, a Soft_Reset that is sent, and the entry to
Ready with nothing held.
-/

namespace Sys2Proof.Machine

theorem State.get_satInc_apart (s : State) {f g : Fld} (h : f.apart g = true) : (s.satInc f).get g = s.get g := s.get_put_apart _ h

theorem State.isSource_modPd (s : State) (n : Fin 16) (f : PdSt → PdSt) : (s.modPd n f).isSource n = s.isSource n := by
  rw [State.isSource, State.modPd, State.modPort_port_same, State.isSource]

theorem State.isSource_put (s : State) (f : Fld) (x : Nat) (n : Fin 16) : (s.put f x).isSource n = s.isSource n := rfl

theorem State.isService_put (s : State) (f : Fld) (x : Nat) (n : Fin 16) : (s.put f x).isService n = s.isService n := rfl

theorem State.get_modPort (s : State) (n : Fin 16) (f : PortSt → PortSt) (g : Fld) : (s.modPort n f).get g = s.get g := rfl

theorem State.get_modPd (s : State) (n : Fin 16) (f : PdSt → PdSt) (g : Fld) : (s.modPd n f).get g = s.get g := rfl

theorem State.bit_modPort (s : State) (n : Fin 16) (f : PortSt → PortSt) (g : Fld) : (s.modPort n f).bit g = s.bit g := rfl

theorem State.bit_modPd (s : State) (n : Fin 16) (f : PdSt → PdSt) (g : Fld) : (s.modPd n f).bit g = s.bit g := rfl

theorem State.get_send (s : State) (n : Fin 16) (m : MsgName) (ws : List Word) (sop : Nat) (g : Fld) : (s.send n m ws sop).get g = s.get g := rfl

theorem State.bit_send (s : State) (n : Fin 16) (m : MsgName) (ws : List Word) (sop : Nat) (g : Fld) : (s.send n m ws sop).bit g = s.bit g := rfl

theorem State.rd_sendCached (s : State) (n : Fin 16) (a : Nat) : (s.sendCached n).rd a = s.rd a := State.rd_of_regs ((State.sendCached_keeps ..).regs rfl) a

theorem State.get_sendCached (s : State) (n : Fin 16) (g : Fld) : (s.sendCached n).get g = s.get g := State.get_of_rd (s.rd_sendCached n _)

/-! ### An offer (R131, R133, R135) -/

/-- The registers that show an offer: PPD_OFFER and PPD_OFFERINFO. -/
def offerArea (n : Fin 16) (a : Nat) : Bool := within (portBase n.val + 0x230) (portBase n.val + 0x264) a

theorem offerArea_off (n : Fin 16) {d : Nat} (h : 0x230 ≤ d ∧ d < 0x264) : offerArea n (portBase n.val + d) = true := by
  simp [offerArea, within, h]

theorem offerArea_eq_false (n : Fin 16) {d : Nat} (h : d < 0x230) : offerArea n (portBase n.val + d) = false := by
  simp [offerArea, within]
  omega

theorem inPort_of_offerArea {n : Fin 16} {a : Nat} (h : offerArea n a = true) : inPort n a = true := by
  simp only [offerArea, inPort, within, Bool.and_eq_true, decide_eq_true_eq] at h ⊢
  omega

theorem State.composeAs_touches (s : State) (n : Fin 16) (epr : Bool) : s.Touches n (offerArea n) (s.composeAs n epr) := by
  unfold State.composeAs
  extract_lets nspr ws pos trim freed tags t1 t2
  have h1 : s.Touches n (offerArea n) t1 := .foldl (fun u k hk hu => by
    have := List.mem_range.1 hk
    rw [PPD_OFFER.at, Nat.add_assoc]
    exact hu.wr (offerArea_off n (by omega))) (.refl ..)
  have h2 : s.Touches n (offerArea n) t2 := .put (offerArea_off n (by decide)) <| .put (offerArea_off n (by decide)) <| .put (offerArea_off n (by decide)) h1
  exact .modPort (fun _ => rfl) h2.modPd

theorem State.bit_composeAs_EPRMSG (s : State) (n : Fin 16) (epr : Bool) : (s.composeAs n epr).bit (PPD_OFFERINFO.EPRMSG n) = epr := by
  unfold State.composeAs
  extract_lets nspr ws pos trim freed tags t1 t2
  rw [State.bit_modPort, State.bit_modPd]
  exact State.bit_flag _ _ (Nat.le_of_ble_eq_true rfl) Nat.one_pos

/-- The objects of an offer rest on PPD_OFFER and on the number of its positions. -/
theorem State.offerObjs_of {s t : State} {n : Fin 16} (hmap : (t.pd n).posMap = (s.pd n).posMap) (hrd : ∀ k, t.rd (PPD_OFFER.at n k) = s.rd (PPD_OFFER.at n k)) :
    t.offerObjs n = s.offerObjs n := by
  simp only [State.offerObjs, hmap, hrd]

theorem State.offerObjs_report (b s : State) (n m : Fin 16) : (b.report m s).offerObjs n = s.offerObjs n :=
  State.offerObjs_of (by rw [State.pd_report]) fun _ => b.rd_report ..

/-- The name of an offer's message. -/
def offerName (epr : Bool) : MsgName := if epr then .eprSourceCap else .sourceCap

/-- Capabilities composed and sent as an answer. -/
theorem State.answerCaps_spec (s : State) (n : Fin 16) (epr : Bool) :
    s.Touches n (offerArea n) (s.answerCaps n epr) ∧ ∃ pos,
      (s.answerCaps n epr).pd n = { s.pd n with posMap := pos, out := (s.pd n).out ++ [sopMsg (offerName epr) ((s.answerCaps n epr).offerObjs n)] } := by
  obtain ⟨pos, hpos⟩ := s.pd_composeAs n epr
  have hobjs : (s.answerCaps n epr).offerObjs n = (s.composeAs n epr).offerObjs n :=
    State.offerObjs_of (by rw [State.answerCaps, State.sendCached, State.pd_send_same]) fun _ => State.rd_sendCached ..
  refine ⟨(s.composeAs_touches n epr).sendCached, pos, ?_⟩
  rw [hobjs, State.answerCaps, State.sendCached, State.pd_send_same, hpos, State.bit_composeAs_EPRMSG]
  rfl

/-- Send_Capabilities: the offer is composed anew and sent, and the policy engine stands in state 3. -/
theorem State.sendOffer_spec (s : State) (n : Fin 16) :
    s.Touches n (fun a => a == PPD_STATUS.at n || offerArea n a) (s.sendOffer n) ∧ (s.sendOffer n).pstate n = 3 ∧
      (s.sendOffer n).bit (PPD_OFFERINFO.EPRMSG n) = s.bit (PPD_STATUS.EPRMODE n) ∧
      (∀ f : Fld, f.addr = PPD_STATUS.at n → (PPD_STATUS.PSTATE n).apart f = true → (s.sendOffer n).get f = s.get f) ∧ ∃ pos,
      (s.sendOffer n).pd n = { s.pd n with
        posMap := pos, acked := false, offerDue := false, capsDue := false
        out := (s.pd n).out ++ [sopMsg (offerName (s.bit (PPD_STATUS.EPRMODE n))) ((s.sendOffer n).offerObjs n)] } := by
  obtain ⟨pos, hpos⟩ := s.pd_composeAs n (s.bit (PPD_STATUS.EPRMODE n))
  have hcompose := s.composeAs_touches n (s.bit (PPD_STATUS.EPRMODE n))
  have hmsg := s.bit_composeAs_EPRMSG n (s.bit (PPD_STATUS.EPRMODE n))
  simp only [State.sendOffer, State.compose]
  generalize s.composeAs n (s.bit (PPD_STATUS.EPRMODE n)) = u at *
  have hu : s.Touches n (fun a => a == PPD_STATUS.at n || offerArea n a) u := hcompose.mono (by simp_all)
  have hv : u.Touches n (fun _ => false) ((u.modPd n (fun d => { d with acked := false, offerDue := false, capsDue := false })).modPort n (fun p => { p with deficitDue := 0 })) :=
    .modPort (fun _ => rfl) <| .modPd <| .refl ..
  have hvpd : ((u.modPd n (fun d => { d with acked := false, offerDue := false, capsDue := false })).modPort n (fun p => { p with deficitDue := 0 })).pd n =
      { s.pd n with posMap := pos, acked := false, offerDue := false, capsDue := false } := by
    rw [State.pd_modPort_same]
    change ((u.modPd n _).pd n) = _
    rw [State.pd_modPd_same, hpos]
  generalize (u.modPd n (fun d => { d with acked := false, offerDue := false, capsDue := false })).modPort n (fun p => { p with deficitDue := 0 }) = v at *
  have hobjs : ((v.sendCached n).setP n 3).offerObjs n = v.offerObjs n := by
    refine State.offerObjs_of ?_ fun k => (State.rd_put_ne _ _ _ _ (by simp only [PPD_OFFER.at, PPD_STATUS.at]; omega)).trans (State.rd_sendCached ..)
    rw [State.setP, State.pd_put, State.sendCached, State.pd_send_same]
  refine ⟨.put (by simp) (.sendCached (hu.trans (hv.mono (by simp)))), State.get_put_same _ _ _ (Nat.le_of_ble_eq_true rfl), ?_, fun f ha hf => ?_, pos, ?_⟩
  · rw [← hmsg, ← hv.regs.bit (f := PPD_OFFERINFO.EPRMSG n) rfl]
    exact State.bit_of_get ((State.get_put_ne _ _ _ _ (by simp)).trans (State.get_sendCached ..))
  · rw [State.setP, State.get_put_apart _ _ hf, State.get_sendCached, hv.regs.get rfl, hcompose.regs.get (by rw [ha]; exact offerArea_eq_false n (by decide))]
  · rw [hobjs, State.setP, State.pd_put, State.sendCached, State.pd_send_same, hvpd, hv.regs.bit (f := PPD_OFFERINFO.EPRMSG n) rfl, hmsg]
    rfl

/-! ### Soft_Reset sent (R143) -/

theorem State.softReset_of_source {s : State} {n : Fin 16} (h : s.isService n = false) : s.softReset n =
    ((((s.protoReset n).send n .softReset).satInc (PPD_COUNT.SOFT n)).modPd n (fun d => { d with ams := some .softReset })).setP n 10 := by
  rw [State.softReset, h]
  rfl

/-- A source port sends Soft_Reset, behind steps that have written only its PPD_STATUS. -/
theorem State.sentSoft_softReset {s u : State} {n : Fin 16} (ht : s.Touches n (fun a => a == PPD_STATUS.at n) u) (hk : s.Keeps (pRegs ||| pPorts) u)
    (hserv : u.isService n = false) :
    s.Touches n (fun a => a == PPD_STATUS.at n || a == PPD_COUNT.at n) (u.softReset n) ∧ s.sentSoft (s.report n (u.softReset n)) n := by
  have hall : s.Touches n (fun a => a == PPD_STATUS.at n || a == PPD_COUNT.at n) (u.softReset n) := by
    rw [State.softReset_of_source hserv]
    exact .put (by simp) <| .modPd <| .put (by simp) <| .send <| .modPd <| ht.mono (by simp_all)
  obtain ⟨hregs, hports⟩ := hall.report s
  have hpd : (u.softReset n).pd n = { (u.protoReset n).pd n with out := [bareMsg .softReset], ams := some .softReset } := by
    rw [State.softReset_of_source hserv, State.setP, State.pd_put, State.pd_modPd_same, State.satInc, State.satAdd, State.pd_put, State.pd_send_same,
      State.protoReset, State.pd_modPd_same]
    rfl
  have hcount : (u.softReset n).get (PPD_COUNT.SOFT n) = min (s.get (PPD_COUNT.SOFT n) + 1) (2 ^ (PPD_COUNT.SOFT n).w - 1) := by
    rw [State.softReset_of_source hserv, State.setP, State.get_put_ne _ _ _ _ (by simp), State.get_modPd, ← ht.regs.get (f := PPD_COUNT.SOFT n) (by simp),
      State.get_satInc_same _ _ (Nat.le_of_ble_eq_true rfl)]
    rfl
  have hstate : (u.softReset n).pstate n = 10 := by
    rw [State.softReset_of_source hserv]
    exact State.get_put_same _ _ _ (Nat.le_of_ble_eq_true rfl)
  refine ⟨hall, ?_, ?_, ?_, ?_, (State.get_report ..).trans hstate, (State.get_report ..).trans hcount, hregs.regsBut (by simp), hports,
    ((State.report_keeps ..).step rfl <| (State.softReset_keeps ..).step rfl hk).eq_mix⟩
  · rw [State.pd_report, hpd]
    rfl
  all_goals
    rw [State.pd_report, hpd]
  · rw [State.protoReset, State.pd_modPd_same]
  · rw [State.protoReset, State.pd_modPd_same]

/-- A row of R146 that a source port answers with Soft_Reset. -/
theorem Next.sends_soft {c : Instr} {s : State} {h : PdHead} {act : State → State} (hexec : exec c s = received h s act) (hh : s.hears h)
    (h19 : s.pstate h.n ≠ 19) (hserv : s.isService h.n = false) (hact : act (s.takeHead h) = (s.takeHead h).softReset h.n) :
    Next c s fun t => s.sentSoft t h.n := by
  obtain ⟨htouch, hsoft⟩ := State.sentSoft_softReset (s.takeHead_touches h) (s.takeHead_keeps h) ((s.isService_takeHead h).trans hserv)
  refine .of_received hexec hh h19 hact htouch (fun a ha => ?_) hsoft
  rcases (Bool.or_eq_true ..).mp ha with ha | ha <;> rw [eq_of_beq ha] <;> exact inPort_off h.n (by decide)

/-! ### The entry to Ready (R160) -/

/-- Does nothing that is held wait for the entry to Ready: no AMS, no offer, no DR_Swap of the host, no EPR exit, no Alert? -/
abbrev State.nothingWaits (s : State) (n : Fin 16) : Prop :=
  (∀ k ∈ (s.pd n).held, k < 100 ∧ k ≠ 0 ∧ k ≠ 3 ∧ k ≠ 4) ∧ (s.pd n).offerDue = false ∧ (s.pd n).alertDue = 0

theorem State.nothingWaits_of_nothingHeld {s : State} {n : Fin 16} (h : s.nothingHeld n) : s.nothingWaits n := by
  obtain ⟨hheld, hoffer, halert⟩ := h
  exact ⟨by rw [hheld]; nofun, hoffer, halert⟩

/-- With nothing that waits a port that enters Ready ends its AMS and shows SinkTxOk. -/
theorem State.enterReady_of_nothingWaits {s : State} {n : Fin 16} (h : s.nothingWaits n) :
    s.enterReady n = ((s.setP n 6).modPd n (fun d => { d with ams := none })).sinkTx n true := by
  obtain ⟨hheld, hoffer, halert⟩ := h
  have hpd : ((s.setP n 6).modPd n (fun d => { d with ams := none })).pd n = { s.pd n with ams := none } := by
    rw [State.pd_modPd_same, State.setP, State.pd_put]
  have hnone (k : Nat) (hk : 100 ≤ k ∨ k = 0 ∨ k = 3 ∨ k = 4) : k ∉ (s.pd n).held := fun hm => by
    have := hheld k hm
    omega
  have hidle : ((s.setP n 6).modPd n (fun d => { d with ams := none })).amsBusy n = false := by
    simp only [State.amsBusy, hpd, Option.isSome_none, Bool.false_or, List.any_eq_false, decide_eq_true_eq]
    exact fun k hk hle => hnone k (.inl hle) hk
  have hpdok : (((s.setP n 6).modPd n (fun d => { d with ams := none })).sinkTx n true).pd n = { s.pd n with ams := none } := by
    rw [State.pd_of_ports ((State.sinkTx_keeps ..).ports rfl), hpd]
  unfold State.enterReady
  simp only [hidle, Bool.not_false, Bool.false_eq_true, if_false]
  simp [State.alertWaits, hpdok, hoffer, halert, hnone 0 (by simp), hnone 3 (by simp), hnone 4 (by simp)]

theorem State.Touches.sinkTx {s t : State} {n : Fin 16} {p : Nat → Bool} {ok : Bool} (hp : p (PCC_STATUS.at n) = true) (h : s.Touches n p t) :
    s.Touches n p (t.sinkTx n ok) := .maybe (.put hp) h

theorem State.get_sinkTx (s : State) (n : Fin 16) (ok : Bool) {f : Fld} (hf : f.addr ≠ PCC_STATUS.at n) : (s.sinkTx n ok).get f = s.get f := by
  unfold State.sinkTx
  split
  · exact State.get_put_ne _ _ _ _ hf
  · rfl

/-- In an explicit contract at Revision 3.x Rp carries collision avoidance (R119). -/
theorem State.get_sinkTx_RPOUT {s : State} {n : Fin 16} (hsrc : s.isSource n = true) (hcon : s.hasContract n = true) (hrev : s.rev3 n = true) (ok : Bool) :
    (s.sinkTx n ok).get (PCC_STATUS.RPOUT n) = if ok then 3 else 2 := by
  rw [State.sinkTx, if_pos (by simp [hsrc, hcon, hrev]), State.get_put_same _ (PCC_STATUS.RPOUT n) _ (Nat.le_of_ble_eq_true rfl)]
  cases ok <;> rfl

theorem State.enterReady_spec {s : State} {n : Fin 16} (h : s.nothingWaits n) :
    s.Touches n (fun a => a == PPD_STATUS.at n || a == PCC_STATUS.at n) (s.enterReady n) ∧ s.Keeps (pRegs ||| pPorts) (s.enterReady n) ∧
      (s.enterReady n).pstate n = 6 ∧ (s.enterReady n).pd n = { s.pd n with ams := none } ∧
      (∀ f : Fld, f.addr = PPD_STATUS.at n → (PPD_STATUS.PSTATE n).apart f = true → (s.enterReady n).get f = s.get f) ∧
      (s.isSource n = true → s.hasContract n = true → s.rev3 n = true → (s.enterReady n).get (PCC_STATUS.RPOUT n) = 3) := by
  rw [State.enterReady_of_nothingWaits h]
  have hkeep {f : Fld} (hf : (PPD_STATUS.PSTATE n).apart f = true) : ((s.setP n 6).modPd n (fun d => { d with ams := none })).get f = s.get f :=
    (State.get_modPd ..).trans (State.get_put_apart s 6 hf)
  refine ⟨.sinkTx (by simp) <| .modPd <| .put (by simp) <| .refl .., ?_, ?_, ?_, fun f ha hf => ?_, fun hsrc hcon hrev => ?_⟩
  · exact (State.sinkTx_keeps ..).step rfl <| (State.modPd_keeps ..).step rfl <| (State.put_keeps ..).mono rfl
  · rw [State.pstate, State.get_sinkTx _ _ _ (by simp), State.get_modPd]
    exact State.get_put_same _ _ _ (Nat.le_of_ble_eq_true rfl)
  · rw [State.pd_of_ports ((State.sinkTx_keeps ..).ports rfl), State.pd_modPd_same, State.setP, State.pd_put]
  · rw [State.get_sinkTx _ _ _ (by rw [ha]; simp), hkeep hf]
  · refine State.get_sinkTx_RPOUT ?_ ?_ ?_ true
    · rw [State.isSource_modPd, State.setP, State.isSource_put]
      exact hsrc
    · rw [State.hasContract, hkeep rfl]
      exact hcon
    · rw [State.rev3, hkeep rfl]
      exact hrev

/-- The AMS of a source port ends with the entry to Ready. -/
theorem State.endAms_of_source {s : State} {n : Fin 16} (h : s.isService n = false) : s.endAms n = (s.modPd n (fun d => { d with ams := none })).enterReady n :=
  if_neg (by rw [h]; exact Bool.false_ne_true)

theorem State.endAms_spec {s : State} {n : Fin 16} (hserv : s.isService n = false) (h : s.nothingHeld n) :
    s.Touches n (fun a => a == PPD_STATUS.at n || a == PCC_STATUS.at n) (s.endAms n) ∧ s.Keeps (pRegs ||| pPorts) (s.endAms n) ∧
      (s.endAms n).pstate n = 6 ∧ (s.endAms n).pd n = { s.pd n with ams := none } ∧
      (∀ f : Fld, f.addr = PPD_STATUS.at n → (PPD_STATUS.PSTATE n).apart f = true → (s.endAms n).get f = s.get f) ∧
      (s.isSource n = true → s.hasContract n = true → s.rev3 n = true → (s.endAms n).get (PCC_STATUS.RPOUT n) = 3) := by
  have hpd := s.pd_modPd_same n (fun d => { d with ams := none })
  have ht : s.Touches n (fun a => a == PPD_STATUS.at n || a == PCC_STATUS.at n) (s.modPd n (fun d => { d with ams := none })) := .modPd <| .refl ..
  rw [State.endAms_of_source hserv]
  obtain ⟨htouch, hkeeps, hstate, hend, hfields, hrp⟩ :=
    State.enterReady_spec (s := s.modPd n (fun d => { d with ams := none })) (n := n)
      (State.nothingWaits_of_nothingHeld (by rwa [State.nothingHeld, hpd]))
  refine ⟨ht.trans htouch, hkeeps.step rfl <| (State.modPd_keeps ..).mono rfl, hstate, by rw [hend, hpd], hfields, fun hsrc => ?_⟩
  exact hrp ((State.isSource_modPd ..).trans hsrc)

/-! ### An AMS behind SinkTxNG (R119) -/

/-- In an explicit contract at Revision 3.x an AMS of a source port waits behind SinkTxNG. -/
theorem State.beginAms_spec {s : State} {n : Fin 16} (hsrc : s.isSource n = true) (hcon : s.hasContract n = true) (hrev : s.rev3 n = true) (name : MsgName) :
    s.Touches n (fun a => a == PCC_STATUS.at n) (s.beginAms n name) ∧ (s.beginAms n name).get (PCC_STATUS.RPOUT n) = 2 ∧
      (s.beginAms n name).pd n = { s.pd n with held := (s.pd n).held ++ [amsMark name] } := by
  rw [State.beginAms, if_pos (by simp [hsrc, hcon, hrev])]
  refine ⟨.modPd <| .sinkTx (by simp) <| .refl .., ?_, ?_⟩
  · rw [State.get_modPd, State.get_sinkTx_RPOUT hsrc hcon hrev]
    rfl
  · rw [State.pd_modPd_same, State.pd_of_ports ((State.sinkTx_keeps ..).ports rfl)]

end Sys2Proof.Machine
end

section
/-!
PROOF. O26: what a port answers to questions about itself, to unsupported and informational messages, to Alert and to BIST (R145, R146, R151, R156).
-/

namespace Sys2Proof.Machine

theorem State.group_taken {s : State} {h : PdHead} {g : PdGroup} (hg : s.group h.n = g) : (s.takeHead h).group h.n = g := (s.group_takeHead h).trans hg

/-! ### What an answer is made of, once the header is taken -/

/-- Words that the spec does not state rest on the count of free values alone. -/
theorem State.freeWords_of {s t : State} (h : t.freeCtr = s.freeCtr) (k : Nat) : (t.freeWords k).1 = (s.freeWords k).1 := by
  induction k generalizing s t with
  | zero => rfl
  | succ k ih =>
    simp only [State.freeWords, h]
    exact congrArg _ (ih rfl)

theorem State.freeWords_snd (s : State) (k : Nat) : (s.freeWords k).2 = { s with freeCtr := s.freeCtr + k } := by
  induction k generalizing s with
  | zero => rfl
  | succ k ih =>
    simp only [State.freeWords, ih]
    rw [Nat.add_assoc, Nat.add_comm 1 k]

theorem State.freeWords_takeHead (s : State) (h : PdHead) (k : Nat) : ((s.takeHead h).freeWords k).1 = (s.freeWords k).1 :=
  State.freeWords_of ((s.takeHead_keeps h).freeCtr rfl) k

theorem State.freeCtr_takeHead (s : State) (h : PdHead) : (s.takeHead h).freeCtr = s.freeCtr := (s.takeHead_keeps h).freeCtr rfl

theorem State.policyHead_takeHead (s : State) (h : PdHead) : (s.takeHead h).policyHead h.n = s.policyHead h.n := by
  rw [State.policyHead, State.recs, (s.takeHead_keeps h).running rfl, State.policyHead, State.recs]

theorem State.sinkPdos_takeHead (s : State) (h : PdHead) : (s.takeHead h).sinkPdos h.n = s.sinkPdos h.n := by
  simp only [State.sinkPdos, s.get_takeHead_ne h (f := PPD_SINKPOL0.IMAX h.n) (by simp), s.get_takeHead_ne h (f := PPD_SINKPOL0.VREQ h.n) (by simp),
    s.bit_takeHead_ne h (f := PPD_CFG.DRACC h.n) (by simp)]

/-- The service records are the fuses' (R414). -/
theorem State.svcIlim_of_otp {s t : State} (h : t.otp = s.otp) (n : Nat) : t.svcIlim n = s.svcIlim n := by
  have hshadow : t.shadow = s.shadow := funext fun w => by rw [State.shadow, State.hasOver, h, State.shadow, State.hasOver]
  have hue : t.slotUE = s.slotUE := funext fun i => funext fun k => by simp only [State.slotUE, h]
  have hslot : t.slotInForce = s.slotInForce := funext fun i => by rw [State.slotInForce, hshadow, hue, State.slotInForce]
  rw [State.svcIlim, State.svcWord, hslot, hshadow, State.svcIlim, State.svcWord]

theorem State.svcIlim_takeHead (s : State) (h : PdHead) (n : Nat) : (s.takeHead h).svcIlim n = s.svcIlim n :=
  State.svcIlim_of_otp ((s.takeHead_keeps h).otp rfl) n

/-! ### Rows that answer in one message -/

section Rows

variable {c : Instr} {s : State} {h : PdHead} {act : State → State}

/-- Not_Supported (code NS of R146). -/
theorem Next.answers_ns (hexec : exec c s = received h s act) (hh : s.hears h) (hg : s.group h.n ≠ .none) (hact : act (s.takeHead h) = (s.takeHead h).ns h.n) :
    Next c s fun t => s.answers t h [bareMsg .notSupported] := .answers_one hexec hh (State.pstate_ne_nopd hg) hact

theorem State.extended_of_rev3 (hrev : s.rev3With h = true) (ans : State → State) : (s.takeHead h).extended h.n ans = ans (s.takeHead h) :=
  if_pos ((s.rev3_takeHead h).trans hrev)

theorem State.extended_of_rev2 (hrev : s.rev3With h = false) (ans : State → State) : (s.takeHead h).extended h.n ans = (s.takeHead h).ns h.n :=
  if_neg (by rw [s.rev3_takeHead, hrev]; exact Bool.false_ne_true)

/-- A message of k unstated words. -/
theorem State.sendFree_takeHead (m : MsgName) (k : Nat) :
    (s.takeHead h).sendFree h.n m k = ({ s.takeHead h with freeCtr := s.freeCtr + k } : State).send h.n m (s.freeWords k).1 := by
  change ((s.takeHead h).freeWords k).2.send h.n m ((s.takeHead h).freeWords k).1 = _
  rw [State.freeWords_snd, s.freeWords_takeHead, s.freeCtr_takeHead]

/-- An extended message of k unstated words, at Revision 3.x. -/
theorem Next.answers_free {m : MsgName} {k : Nat} (hexec : exec c s = received h s act) (hh : s.hears h) (hg : s.group h.n ≠ .none) (hrev : s.rev3With h = true)
    (hact : act (s.takeHead h) = (s.takeHead h).extended h.n (fun v => v.sendFree h.n m k)) :
    Next c s fun t => s.answers t h [sopMsg m (s.freeWords k).1] ∧ t.freeCtr = s.freeCtr + k :=
  .answers_send hexec hh (State.pstate_ne_nopd hg) (hact.trans ((State.extended_of_rev3 hrev _).trans (State.sendFree_takeHead m k)))

end Rows

theorem getSinkCap_answers (s : State) (h : PdHead) (hh : s.hears h) (hg : s.group h.n = .snk) :
    Next (.getSinkCap h) s fun t => s.answers t h [sopMsg .sinkCap (s.sinkPdos h.n)] := by
  rw [← s.sinkPdos_takeHead h]
  exact .answers_one rfl hh (State.pstate_ne_nopd (hg ▸ by decide)) (State.byGroup_snk (State.group_taken hg))

theorem getSinkCap_answers_dorm (s : State) (h : PdHead) (hh : s.hears h) (hg : s.group h.n = .dorm) :
    Next (.getSinkCap h) s fun t => s.answers t h [sopMsg .sinkCap ([BitVec.ofNat 32 (100 * 1024 + s.svcIlim h.n.val / 10)])] := by
  rw [← s.svcIlim_takeHead h]
  exact .answers_one rfl hh (State.pstate_ne_nopd (hg ▸ by decide)) (State.byGroup_dorm (State.group_taken hg))

theorem getSinkCap_refuses (s : State) (h : PdHead) (hh : s.hears h) (hg : s.group h.n = .ready ∨ s.group h.n = .brace) :
    Next (.getSinkCap h) s fun t => s.answers t h [bareMsg .notSupported] := by
  rcases hg with hg | hg
  · exact .answers_ns rfl hh (hg ▸ by decide) (State.byGroup_ready (State.group_taken hg))
  · exact .answers_ns rfl hh (hg ▸ by decide) (State.byGroup_brace (State.group_taken hg))

theorem unsupportedMessage_refuses (s : State) (h : PdHead) (hh : s.hears h)
    (hg : s.group h.n = .ready ∨ s.group h.n = .brace ∨ s.group h.n = .snk ∨ s.group h.n = .dorm) :
    Next (.unsupportedMessage h) s fun t => s.answers t h [bareMsg .notSupported] := by
  rcases hg with hg | hg | hg | hg
  · exact .answers_ns rfl hh (hg ▸ by decide) (State.byGroup_ready (State.group_taken hg))
  · exact .answers_ns rfl hh (hg ▸ by decide) (State.byGroup_brace (State.group_taken hg))
  · exact .answers_ns rfl hh (hg ▸ by decide) (State.byGroup_snk (State.group_taken hg))
  · exact .answers_ns rfl hh (hg ▸ by decide) (State.byGroup_dorm (State.group_taken hg))

/-! ### Questions about the source -/

/-- Capabilities that are sent as an answer: the policy state stands. -/
theorem Next.answers_caps {c : Instr} {s : State} {h : PdHead} {act : State → State} {epr : Bool} (hexec : exec c s = received h s act) (hh : s.hears h)
    (hg : s.group h.n = .ready) (hact : act (s.takeHead h) = (s.takeHead h).answerCaps h.n epr) :
    Next c s fun t => t.pstate h.n = 6 ∧ s.noted t h ∧ s.sends t h.n [sopMsg (offerName epr) (t.offerObjs h.n)] ∧
      s.portsBut t [h.n] ∧ s.regsKept t (inPort h.n) ∧ t = { s with regs := t.regs, ports := t.ports } := by
  obtain ⟨htouch, pos, hpd⟩ := (s.takeHead h).answerCaps_spec h.n epr
  have hkeeps : s.Keeps (pRegs ||| pPorts) ((s.takeHead h).answerCaps h.n epr) := (State.answerCaps_keeps ..).step rfl <| s.takeHead_keeps h
  generalize (s.takeHead h).answerCaps h.n epr = w at *
  have hall : s.Touches h.n (inPort h.n) w :=
    ((s.takeHead_touches h).mono fun a ha => by rw [eq_of_beq ha]; exact inPort_off h.n (by decide)).trans (htouch.mono fun _ => inPort_of_offerArea)
  obtain ⟨hregs, hports⟩ := hall.report s
  have hstatus {f : Fld} (hf : f.addr = PPD_STATUS.at h.n) : (s.report h.n w).get f = (s.takeHead h).get f :=
    (State.get_report ..).trans (htouch.regs.get (by rw [hf]; exact offerArea_eq_false h.n (by decide)))
  refine .of_received hexec hh (State.pstate_ne_nopd (hg ▸ by decide)) hact hall (fun _ ha => ha)
    ⟨?_, State.noted_of (by rw [State.pd_report, hpd]) (by rw [State.pd_report, hpd]) (hstatus rfl), ?_, hports, hregs,
      ((State.report_keeps ..).step rfl hkeeps).eq_mix⟩
  · rw [State.pstate, hstatus rfl]
    exact (s.pstate_takeHead h).trans (State.pstate_of_group_ready hg)
  · rw [State.sends, State.pd_report, hpd, State.offerObjs_report, s.pd_takeHead h]

theorem getSourceCap_answers (s : State) (h : PdHead) (hh : s.hears h) (hg : s.group h.n = .ready) :
    Next (.getSourceCap h) s fun t =>
      t.pstate h.n = 6 ∧ s.noted t h ∧ s.sends t h.n [{ name := if s.bit (PPD_STATUS.EPRMODE h.n) then .eprSourceCap else .sourceCap, sop := 0, objs := t.offerObjs h.n }] ∧
      s.portsBut t [h.n] ∧ s.regsKept t (inPort h.n) ∧ t = { s with regs := t.regs, ports := t.ports } := by
  have hmode : (s.takeHead h).bit (PPD_STATUS.EPRMODE h.n) = s.bit (PPD_STATUS.EPRMODE h.n) := s.bit_takeHead h rfl
  rw [← hmode]
  exact .answers_caps rfl hh hg (State.byGroup_ready (State.group_taken hg))

theorem getSourceCapExtended_answers (s : State) (h : PdHead) (hh : s.hears h) (hg : s.group h.n = .ready ∨ s.group h.n = .brace) (hrev : s.rev3With h = true) :
    Next (.getSourceCapExtended h) s fun t => s.answers t h [sopMsg .sourceCapExt ((s.freeWords 7).1)] ∧ t.freeCtr = s.freeCtr + 7 := by
  rcases hg with hg | hg
  · exact .answers_free rfl hh (hg ▸ by decide) hrev (State.byGroup_ready (State.group_taken hg))
  · exact .answers_free rfl hh (hg ▸ by decide) hrev (State.byGroup_brace (State.group_taken hg))

theorem getSourceCapExtended_refuses (s : State) (h : PdHead) (hh : s.hears h) (hg : s.group h.n = .ready) (hrev : s.rev3With h = false) :
    Next (.getSourceCapExtended h) s fun t => s.answers t h [bareMsg .notSupported] :=
  .answers_ns rfl hh (hg ▸ by decide) ((State.byGroup_ready (State.group_taken hg)).trans (State.extended_of_rev2 hrev _))

theorem getSinkCapExtended_answers (s : State) (h : PdHead) (hh : s.hears h) (hg : s.group h.n = .snk) (hrev : s.rev3With h = true) :
    Next (.getSinkCapExtended h) s fun t => s.answers t h [sopMsg .sinkCapExt ((s.freeWords 6).1)] := by
  obtain ⟨t, ht, hans, -⟩ := Next.answers_free (c := .getSinkCapExtended h) rfl hh (hg ▸ by decide) hrev (State.byGroup_snk (State.group_taken hg))
  exact ⟨t, ht, hans⟩

theorem getSourceInfo_answers (s : State) (h : PdHead) (hh : s.hears h) (hg : s.group h.n = .ready ∨ s.group h.n = .brace) :
    Next (.getSourceInfo h) s fun t =>
      s.answers t h [sopMsg .sourceInfo ([(wordAt (s.freeWords 1).1 0 &&& 0x7F00FFFF#32) ||| BitVec.ofNat 32 (min 255 (fieldOf (s.policyHead h.n) 31 16) * 65536)])] := by
  have hcolumn {act neg : State → State} :
      (s.takeHead h).byGroup h.n neg neg act act (nsup h.n) (nsup h.n) = act (s.takeHead h) := by
    rcases hg with hg | hg
    · exact State.byGroup_ready (State.group_taken hg)
    · exact State.byGroup_brace (State.group_taken hg)
  have h19 : s.group h.n ≠ .none := by rcases hg with hg | hg <;> rw [hg] <;> decide
  rw [← s.policyHead_takeHead h, ← s.freeWords_takeHead h]
  obtain ⟨t, ht, hans, -⟩ := Next.answers_send (c := .getSourceInfo h) (k := (s.takeHead h).freeCtr + 1) rfl hh (State.pstate_ne_nopd h19) hcolumn
  exact ⟨t, ht, hans⟩

/-- The Status message, with its two free words. -/
theorem State.sendStatus_takeHead (s : State) (h : PdHead) :
    (s.takeHead h).sendStatus h.n = ({ s.takeHead h with freeCtr := s.freeCtr + 2 } : State).send h.n .status
      (((wordAt (s.freeWords 2).1 0 &&& ~~~0x200#32) ||| (if s.bit (PPD_STATUS.INWARN h.n) then 0 else 0x200#32)) :: (s.freeWords 2).1.drop 1) := by
  change ((s.takeHead h).freeWords 2).2.send h.n .status (((wordAt ((s.takeHead h).freeWords 2).1 0 &&& ~~~0x200#32) |||
    (if (s.takeHead h).bit (PPD_STATUS.INWARN h.n) then 0 else 0x200#32)) :: ((s.takeHead h).freeWords 2).1.drop 1) = _
  rw [State.freeWords_snd, s.freeWords_takeHead, s.freeCtr_takeHead, s.bit_takeHead h (f := PPD_STATUS.INWARN h.n) rfl]

theorem getStatus_answers (s : State) (h : PdHead) (hh : s.hears h) (hg : s.group h.n = .ready ∨ s.group h.n = .snk) (hrev : s.rev3With h = true) :
    Next (.getStatus h) s fun t =>
      s.answers t h [sopMsg .status (((wordAt (s.freeWords 2).1 0 &&& ~~~0x200#32) ||| (if s.bit (PPD_STATUS.INWARN h.n) then 0 else 0x200#32)) :: (s.freeWords 2).1.drop 1)] ∧
      t.freeCtr = s.freeCtr + 2 := by
  have hans := (State.extended_of_rev3 hrev (fun v => v.sendStatus h.n)).trans (s.sendStatus_takeHead h)
  rcases hg with hg | hg
  · exact .answers_send rfl hh (State.pstate_ne_nopd (hg ▸ by decide)) ((State.byGroup_ready (State.group_taken hg)).trans hans)
  · exact .answers_send rfl hh (State.pstate_ne_nopd (hg ▸ by decide)) ((State.byGroup_snk (State.group_taken hg)).trans hans)

theorem getStatus_refuses (s : State) (h : PdHead) (hh : s.hears h) (hg : s.group h.n = .ready ∨ s.group h.n = .snk) (hrev : s.rev3With h = false) :
    Next (.getStatus h) s fun t => s.answers t h [bareMsg .notSupported] := by
  rcases hg with hg | hg
  · exact .answers_ns rfl hh (hg ▸ by decide) ((State.byGroup_ready (State.group_taken hg)).trans (State.extended_of_rev2 hrev _))
  · exact .answers_ns rfl hh (hg ▸ by decide) ((State.byGroup_snk (State.group_taken hg)).trans (State.extended_of_rev2 hrev _))

theorem getPpsStatus_answers (s : State) (h : PdHead) (hh : s.hears h) (hg : s.group h.n = .ready) (hrev : s.rev3With h = true)
    (hcon : s.hasContract h.n = true) (hkind : s.get (PPD_STATUS.KIND h.n) = 1) :
    Next (.getPpsStatus h) s fun t =>
      s.answers t h [{ name := .ppsStatus, sop := 0, objs := [(wordAt (s.freeWords 1).1 0 &&& ~~~0x08000000#32) |||
        (if s.bit (PLP_STATUS.CTRLI h.n) && s.get (PLP_STATUS.MODE h.n) == 2 then 0x08000000#32 else 0)] }] := by
  have hpps : ((s.takeHead h).rev3 h.n && (s.takeHead h).hasContract h.n && (s.takeHead h).get (PPD_STATUS.KIND h.n) == 1) = true := by
    simp [hrev, hcon, s.get_takeHead h (f := PPD_STATUS.KIND h.n) rfl, hkind]
  rw [← s.freeWords_takeHead h, ← s.bit_takeHead_ne h (f := PLP_STATUS.CTRLI h.n) (by simp), ← s.get_takeHead_ne h (f := PLP_STATUS.MODE h.n) (by simp)]
  obtain ⟨t, ht, hans, -⟩ := Next.answers_send (c := .getPpsStatus h) (k := (s.takeHead h).freeCtr + 1) rfl hh (State.pstate_ne_nopd (hg ▸ by decide))
    ((State.byGroup_ready (State.group_taken hg)).trans (if_pos hpps))
  exact ⟨t, ht, hans⟩

theorem getPpsStatus_refuses (s : State) (h : PdHead) (hh : s.hears h) (hg : s.group h.n = .ready)
    (hnot : s.rev3With h = false ∨ s.hasContract h.n = false ∨ s.get (PPD_STATUS.KIND h.n) ≠ 1) :
    Next (.getPpsStatus h) s fun t => s.answers t h [bareMsg .notSupported] := by
  refine .answers_ns rfl hh (hg ▸ by decide) ((State.byGroup_ready (State.group_taken hg)).trans (if_neg fun hpps => ?_))
  simp only [State.rev3_takeHead, State.hasContract_takeHead, s.get_takeHead h (f := PPD_STATUS.KIND h.n) rfl, Bool.and_eq_true, beq_iff_eq] at hpps
  obtain ⟨⟨hrev, hcon⟩, hkind⟩ := hpps
  simp [hrev, hcon, hkind] at hnot

theorem eprGetSourceCap_answers (s : State) (h : PdHead) (hh : s.hears h) (hg : s.group h.n = .ready) (hcap : fieldOf (s.policyHead h.n) 6 6 = 1)
    (hrev : s.rev3With h = true) :
    Next (.eprGetSourceCap h) s fun t =>
      t.pstate h.n = 6 ∧ s.noted t h ∧ s.sends t h.n [sopMsg .eprSourceCap (t.offerObjs h.n)] ∧
      s.portsBut t [h.n] ∧ s.regsKept t (inPort h.n) ∧ t = { s with regs := t.regs, ports := t.ports } :=
  .answers_caps (epr := true) rfl hh hg ((State.byGroup_ready (State.group_taken hg)).trans
    ((if_pos (by rwa [s.policyHead_takeHead])).trans (State.extended_of_rev3 hrev _)))

theorem eprGetSourceCap_refuses (s : State) (h : PdHead) (hh : s.hears h) (hg : s.group h.n = .ready)
    (hnot : fieldOf (s.policyHead h.n) 6 6 ≠ 1 ∨ s.rev3With h = false) :
    Next (.eprGetSourceCap h) s fun t => s.answers t h [bareMsg .notSupported] := by
  refine .answers_ns rfl hh (hg ▸ by decide) ((State.byGroup_ready (State.group_taken hg)).trans ?_)
  by_cases hcap : fieldOf (s.policyHead h.n) 6 6 = 1
  · exact (if_pos (by rwa [s.policyHead_takeHead])).trans (State.extended_of_rev2 (hnot.resolve_left (not_not.2 hcap)) _)
  · exact if_neg (by rwa [s.policyHead_takeHead])

theorem eprGetSinkCap_refuses (s : State) (h : PdHead) (hh : s.hears h)
    (hg : s.group h.n = .ready ∨ s.group h.n = .brace ∨ s.group h.n = .snk ∨ s.group h.n = .dorm) :
    Next (.eprGetSinkCap h) s fun t => s.answers t h [bareMsg .notSupported] := unsupportedMessage_refuses s h hh hg

/-! ### Questions about the device -/

theorem getRevision_answers (s : State) (h : PdHead) (hh : s.hears h) (hneg : s.group h.n ≠ .neg) (hnone : s.group h.n ≠ .none) :
    Next (.getRevision h) s fun t => s.answers t h [sopMsg .revision ([0x31180000])] := by
  refine .answers_one rfl hh (State.pstate_ne_nopd hnone) ?_
  cases hg : s.group h.n with
  | startup => exact State.byGroup_startup (State.group_taken hg)
  | neg => exact absurd hg hneg
  | ready => exact State.byGroup_ready (State.group_taken hg)
  | brace => exact State.byGroup_brace (State.group_taken hg)
  | snk => exact State.byGroup_snk (State.group_taken hg)
  | dorm => exact State.byGroup_dorm (State.group_taken hg)
  | none => exact absurd hg hnone

theorem getManufacturerInfo_answers (s : State) (h : PdHead) (hh : s.hears h) (hg : s.group h.n = .ready ∨ s.group h.n = .snk) (hrev : s.rev3With h = true) :
    Next (.getManufacturerInfo h) s fun t =>
      s.answers t h [sopMsg .manufacturerInfo (BitVec.ofNat 32 (s.get (PPD_VDMCFG.VID h.n) + s.pid * 65536) :: (if s.lns8 then [0x2D534E4C, 0x38] else [0x2D534E4C, 0x3631]))] := by
  rw [← s.get_takeHead_ne h (f := PPD_VDMCFG.VID h.n) (by simp), ← s.pid_takeHead h, ← s.lns8_takeHead h]
  rcases hg with hg | hg
  · exact .answers_one rfl hh (State.pstate_ne_nopd (hg ▸ by decide)) ((State.byGroup_ready (State.group_taken hg)).trans (State.extended_of_rev3 hrev _))
  · exact .answers_one rfl hh (State.pstate_ne_nopd (hg ▸ by decide)) ((State.byGroup_snk (State.group_taken hg)).trans (State.extended_of_rev3 hrev _))

theorem getManufacturerInfo_refuses (s : State) (h : PdHead) (hh : s.hears h) (hg : s.group h.n = .ready ∨ s.group h.n = .snk) (hrev : s.rev3With h = false) :
    Next (.getManufacturerInfo h) s fun t => s.answers t h [bareMsg .notSupported] := by
  rcases hg with hg | hg
  · exact .answers_ns rfl hh (hg ▸ by decide) ((State.byGroup_ready (State.group_taken hg)).trans (State.extended_of_rev2 hrev _))
  · exact .answers_ns rfl hh (hg ▸ by decide) ((State.byGroup_snk (State.group_taken hg)).trans (State.extended_of_rev2 hrev _))

/-! ### Alert, BIST and what only informs (R130, R146, R147) -/

theorem State.takeHead_touches_of_seen {s : State} {h : PdHead} (hseen : (s.pd h.n).firstSeen = true) : s.Touches h.n (fun _ => false) (s.takeHead h) := by
  rw [State.takeHead_eq, if_pos hseen]
  exact .modPd <| .modPd <| .refl ..

theorem alertMsg_ignored (s : State) (h : PdHead) (hh : s.hears h) (hg : s.group h.n = .ready) (hoff : s.bit (PPD_CFG.ALERTGS h.n) = false) :
    Next (.alertMsg h) s fun t => s.answers t h [] :=
  .answers_none rfl hh (State.pstate_ne_nopd (hg ▸ by decide))
    ((State.byGroup_ready (State.group_taken hg)).trans (if_neg (by simp [s.bit_takeHead_ne h (f := PPD_CFG.ALERTGS h.n) (by simp), hoff])))

theorem alertMsg_asks (s : State) (h : PdHead) (hh : s.hears h) (hg : s.group h.n = .ready) (hon : s.bit (PPD_CFG.ALERTGS h.n) = true)
    (hseen : (s.pd h.n).firstSeen = true) (hrev : s.rev3 h.n = true) (hams : (s.pd h.n).ams = none) (hheld : (s.pd h.n).held = [])
    (hsrc : s.isSource h.n = true) (hcon : s.hasContract h.n = true) :
    Next (.alertMsg h) s fun t =>
      (t.pd h.n).held = [103] ∧ t.get (PCC_STATUS.RPOUT h.n) = 2 ∧ s.noted t h ∧ s.sends t h.n [] ∧
      s.portsBut t [h.n] ∧ s.regsBut t [PCC_STATUS.at h.n] ∧ t = { s with regs := t.regs, ports := t.ports } := by
  have hrevh : s.rev3With h = true := (if_pos hseen).trans hrev
  have hpd := s.pd_takeHead h
  have hidle : (s.takeHead h).amsBusy h.n = false := by simp [State.amsBusy, hpd, hams, hheld]
  have hact : (if (s.takeHead h).bit (PPD_CFG.ALERTGS h.n) && (s.takeHead h).rev3 h.n && !(s.takeHead h).amsBusy h.n then
      (s.takeHead h).beginAms h.n .getStatus else s.takeHead h) = (s.takeHead h).beginAms h.n .getStatus :=
    if_pos (by simp [s.bit_takeHead_ne h (f := PPD_CFG.ALERTGS h.n) (by simp), hon, hrevh, hidle])
  obtain ⟨htouch, hrp, hbegun⟩ := State.beginAms_spec (s := s.takeHead h) ((s.isSource_takeHead h).trans hsrc) ((s.hasContract_takeHead h).trans hcon)
    ((s.rev3_takeHead h).trans hrevh) .getStatus
  have hall : s.Touches h.n (fun a => a == PCC_STATUS.at h.n) ((s.takeHead h).beginAms h.n .getStatus) :=
    ((State.takeHead_touches_of_seen hseen).mono (by simp)).trans htouch
  obtain ⟨hregs, hports⟩ := hall.report s
  refine .of_received rfl hh (State.pstate_ne_nopd (hg ▸ by decide)) ((State.byGroup_ready (State.group_taken hg)).trans hact) hall
    (inPort_of_status (by decide)) ⟨?_, (State.get_report ..).trans hrp, State.noted_of ?_ ?_ ((State.get_report ..).trans (htouch.regs.get (by simp))), ?_,
      hports, hregs.regsBut (by simp), ((State.report_keeps ..).step rfl <| (State.beginAms_keeps ..).step rfl <| s.takeHead_keeps h).eq_mix⟩
  · rw [State.pd_report, hbegun, hpd, hheld]
    rfl
  · rw [State.pd_report, hbegun]
  · rw [State.pd_report, hbegun]
  · rw [State.sends, State.pd_report, hbegun, hpd, List.append_nil]

theorem bist_answers (s : State) (h : PdHead) (carrier : Bool) (hh : s.hears h) (hg : s.group h.n = .ready) :
    Next (.bist h carrier) s fun t =>
      s.answers t h [] ∧
      (t.pd h.n).bist = ((s.pd h.n).bist || s.bit (PPD_CFG.BISTEN h.n) && (!s.hasContract h.n || s.get (PPD_CONTRACTVI.V10 h.n) == 500) && carrier) := by
  have htest : ((s.takeHead h).bit (PPD_CFG.BISTEN h.n) && (!(s.takeHead h).hasContract h.n || (s.takeHead h).get (PPD_CONTRACTVI.V10 h.n) == 500)) =
      (s.bit (PPD_CFG.BISTEN h.n) && (!s.hasContract h.n || s.get (PPD_CONTRACTVI.V10 h.n) == 500)) := by
    rw [s.bit_takeHead_ne h (by simp), s.get_takeHead_ne h (by simp), s.hasContract_takeHead]
  have hpd : ((s.takeHead h).bistIn h.n carrier).pd h.n = { (s.takeHead h).pd h.n with
      bist := (s.pd h.n).bist || s.bit (PPD_CFG.BISTEN h.n) && (!s.hasContract h.n || s.get (PPD_CONTRACTVI.V10 h.n) == 500) && carrier } := by
    rw [State.bistIn, htest]
    split
    · rename_i hon
      rw [State.pd_modPd_same, s.pd_takeHead h, hon, Bool.true_and]
    · rename_i hoff
      rw [s.pd_takeHead h, Bool.eq_false_iff.2 hoff, Bool.false_and, Bool.or_false]
  have ht : (s.takeHead h).Touches h.n (fun _ => false) ((s.takeHead h).bistIn h.n carrier) := .maybe .modPd (.refl ..)
  refine .of_received rfl hh (State.pstate_ne_nopd (hg ▸ by decide)) (State.byGroup_ready (State.group_taken hg)) ((s.takeHead_touches h).trans (ht.mono (by simp)))
    (inPort_of_status (by decide)) ⟨State.answers_of ht ((State.bistIn_keeps ..).mono rfl) (by rw [hpd]) (by rw [hpd]) (by rw [hpd, List.append_nil]), ?_⟩
  rw [State.pd_report, hpd]

theorem bistContModeEnd_ends (s : State) (n : Fin 16) (hhalt : s.halted n.val = false) :
    Next (.bistContModeEnd n) s fun t => t.pd n = { s.pd n with bist := false } ∧ s.portsBut t [n] ∧ t = { s with ports := t.ports } := by
  have ht : s.Touches n (fun _ => false) (s.modPd n (fun d => { d with bist := false })) := .modPd (.refl ..)
  refine .of_done (t := s.modPd n (fun d => { d with bist := false })) ?_ ⟨s.pd_modPd_same n _, ht.ports, rfl⟩
  change execBistContModeEnd n s = _
  exact if_neg (by simp [hhalt])

theorem informationalMessage_ignored (s : State) (h : PdHead) (hh : s.hears h) (hg : s.group h.n = .ready)
    (hams : ∀ k : Nat, (s.pd h.n).ams ≠ some (.ordered k)) : Next (.informationalMessage h none) s fun t => s.answers t h [] := by
  refine .answers_none rfl hh (State.pstate_ne_nopd (hg ▸ by decide)) ((State.byGroup_ready (State.group_taken hg)).trans ?_)
  have hpd : ((s.takeHead h).pd h.n).ams = (s.pd h.n).ams := by rw [s.pd_takeHead h]
  dsimp only
  rw [hpd]
  split
  · rename_i k hk
    exact absurd hk (hams k)
  · rfl

theorem informationalMessage_ends (s : State) (h : PdHead) (w : Word) (hh : s.hears h) (hg : s.group h.n = .ready) (hams : (s.pd h.n).ams = some .getStatus)
    (hserv : s.isService h.n = false) (hnone : s.nothingHeld h.n) :
    Next (.informationalMessage h (some w)) s fun t =>
      t.rd (PPD_PSTATUS.at h.n) = w ∧ (t.pd h.n).ams = none ∧ t.pstate h.n = 6 ∧ s.noted t h ∧ s.sends t h.n [] ∧
      s.portsBut t [h.n] ∧ s.regsBut t [PPD_PSTATUS.at h.n, PPD_STATUS.at h.n, PCC_STATUS.at h.n] ∧ t = { s with regs := t.regs, ports := t.ports } := by
  have hpd := s.pd_takeHead h
  have hact : (if ((s.takeHead h).pd h.n).ams = some .getStatus ∨ ((s.takeHead h).pd h.n).ams = some (.ordered 18) then
      ((s.takeHead h).wr (PPD_PSTATUS.at h.n) w).endAms h.n else s.takeHead h) = ((s.takeHead h).wr (PPD_PSTATUS.at h.n) w).endAms h.n :=
    if_pos (.inl (by rw [hpd, hams]))
  have hstored : ((s.takeHead h).wr (PPD_PSTATUS.at h.n) w).pd h.n = (s.takeHead h).pd h.n :=
    State.pd_of_ports (by rw [State.wr_ports]) _
  obtain ⟨htouch, hkeeps, hstate, hend, hfields, -⟩ := State.endAms_spec (s := (s.takeHead h).wr (PPD_PSTATUS.at h.n) w) (n := h.n)
    ((State.isService_of_setup (by rw [State.wr_ports])).trans ((s.isService_takeHead h).trans hserv)) (by rwa [State.nothingHeld, hstored, hpd])
  have hall : s.Touches h.n (fun a => a == PPD_PSTATUS.at h.n || a == PPD_STATUS.at h.n || a == PCC_STATUS.at h.n)
      (((s.takeHead h).wr (PPD_PSTATUS.at h.n) w).endAms h.n) :=
    (State.Touches.wr (by simp) ((s.takeHead_touches h).mono (by simp_all))).trans (htouch.mono (by simp_all))
  obtain ⟨hregs, hports⟩ := hall.report s
  rw [hstored] at hend
  refine .of_received rfl hh (State.pstate_ne_nopd (hg ▸ by decide)) ((State.byGroup_ready (State.group_taken hg)).trans hact) hall (fun a ha => ?_)
    ⟨?_, ?_, (State.get_report ..).trans hstate, State.noted_of ?_ ?_ ((State.get_report ..).trans ?_), ?_, hports, hregs.regsBut (by simp [or_assoc]), ?_⟩
  · simp only [Bool.or_eq_true, beq_iff_eq] at ha
    rcases ha with (rfl | rfl) | rfl <;> exact inPort_off h.n (by decide)
  · rw [State.rd_report, htouch.regs _ (by simp), State.rd_wr_same]
  · rw [State.pd_report, hend]
  · rw [State.pd_report, hend]
  · rw [State.pd_report, hend]
  · exact (hfields (PPD_STATUS.REV h.n) rfl rfl).trans (State.get_wr_ne _ _ (PPD_STATUS.REV h.n) (by simp))
  · rw [State.sends, State.pd_report, hend, hpd, List.append_nil]
  · exact ((State.report_keeps ..).step rfl <| hkeeps.step rfl <| (State.wr_keeps ..).step rfl <| s.takeHead_keeps h).eq_mix

theorem State.starAct_of_startup {s : State} {n : Fin 16} (h : s.group n = .startup) : s.starAct n = s.softReset n := by
  have hp : s.pstate n = 1 ∨ s.pstate n = 3 := by
    unfold State.group groupOf at h
    split_ifs at h
    assumption
  exact if_neg (by omega)

theorem unsupportedMessage_resets (s : State) (h : PdHead) (hh : s.hears h) (hg : s.group h.n = .startup) (hserv : s.isService h.n = false) :
    Next (.unsupportedMessage h) s fun t => s.sentSoft t h.n :=
  .sends_soft rfl hh (State.pstate_ne_nopd (hg ▸ by decide)) hserv
    ((State.byGroup_startup (State.group_taken hg)).trans (State.starAct_of_startup (State.group_taken hg)))

theorem ping_answers (s : State) (h : PdHead) (hh : s.hears h) (h19 : s.pstate h.n ≠ 19) : Next (.ping h) s fun t => s.answers t h [] := by
  refine .answers_none rfl hh h19 ?_
  unfold State.byGroup
  split <;> rfl

/-- Settles O26: each question of the partner is answered in one message, refused with Not_Supported or acknowledged only. -/
theorem questionsToThePort : Obligations.QuestionsToThePort := by
  unfold Obligations.QuestionsToThePort
  exact ⟨ping_answers, getSourceCap_answers, fun _ _ hh hg => .answers_ns rfl hh (hg ▸ by decide) (State.byGroup_snk (State.group_taken hg)),
    getSinkCap_answers, getSinkCap_answers_dorm, getSinkCap_refuses, unsupportedMessage_refuses, unsupportedMessage_resets, getSourceCapExtended_answers,
    getSourceCapExtended_refuses, getStatus_refuses, getManufacturerInfo_refuses, getStatus_answers, getPpsStatus_answers, getPpsStatus_refuses,
    getSinkCapExtended_answers, getSourceInfo_answers, getRevision_answers, getManufacturerInfo_answers, eprGetSourceCap_answers, eprGetSourceCap_refuses,
    eprGetSinkCap_refuses, alertMsg_ignored, alertMsg_asks, bist_answers, bistContModeEnd_ends, informationalMessage_ignored, informationalMessage_ends,
    fun s _ => .of_done (t := s) rfl rfl⟩

end Sys2Proof.Machine
end

section
/-!
SUPPORT. Fields of a port's block that stand while other operations run on the port: `State.Holds`, with the operations of a Hard Reset (R142) and of
ErrorRecovery (R104) as rules of it.
-/

namespace Sys2Proof.Machine

/-- What a change of the port's own state keeps here: STATE_GEN and the checks of its channels (R280, R373). -/
def PortSt.shown (p : PortSt) : Nat × ValleySt := (p.gen, p.val)

/-- From s to t the listed fields of port n's block stand, no report of the port has counted, and its checks stand. -/
structure State.Holds (s : State) (n : Fin 16) (l : List (Nat × Nat × Nat)) (t : State) : Prop where
  marks : ∀ x ∈ l, t.get (ownFld n x) = s.get (ownFld n x)
  shown : t.ports[n].shown = s.ports[n].shown

/-- What is clear of a range of bits is clear of a part of it. -/
theorem clearOf_part {l : List (Nat × Nat × Nat)} {d lo w lo' w' : Nat} (h : clearOf l d lo w = true)
    (hp : lo ≤ lo' ∧ lo' + w' ≤ lo + w) : clearOf l d lo' w' = true := by
  simp only [clearOf, List.all_eq_true, Bool.and_eq_true, decide_eq_true_eq] at h ⊢
  exact fun x hx => ⟨by have := (h x hx).1; omega, (h x hx).2⟩

namespace State.Holds

variable {s t u : State} {n : Fin 16} {l : List (Nat × Nat × Nat)}

theorem refl (s : State) (n : Fin 16) (l : List (Nat × Nat × Nat)) : s.Holds n l s := ⟨fun _ _ => rfl, rfl⟩

theorem trans (h : s.Holds n l t) (g : t.Holds n l u) : s.Holds n l u := ⟨fun x hx => (g.marks x hx).trans (h.marks x hx), g.shown.trans h.shown⟩

theorem gen (h : s.Holds n l t) : t.ports[n].gen = s.ports[n].gen := congrArg Prod.fst h.shown

theorem of_eq (h : s.Holds n l t) (hr : u.regs = t.regs) (hp : u.ports[n].shown = t.ports[n].shown) : s.Holds n l u :=
  h.trans ⟨fun _ _ => State.get_of_regs hr _, hp⟩

theorem still {m : Nat} (k : t.Keeps m u) (hr : m.testBit 0 = false) (hp : m.testBit 6 = false) (h : s.Holds n l t) : s.Holds n l u :=
  h.of_eq (k.regs hr) (by rw [k.ports hp])

/-- A register outside the ports' blocks. -/
theorem wr {a : Nat} {v : Word} (ha : a < 0x10000) (h : s.Holds n l t) : s.Holds n l (t.wr a v) :=
  h.trans ⟨fun x _ => State.get_wr_ne _ _ (ownFld n x) (portAddr_ne n ha), rfl⟩

theorem put {f : Fld} {x : Nat} (ha : f.addr < 0x10000) (h : s.Holds n l t) : s.Holds n l (t.put f x) := h.wr ha

theorem wrOwn {d : Nat} {v : Word} (hd : clearOf l d 0 32 = true) (h : s.Holds n l t) : s.Holds n l (t.wr (portBase n.val + d) v) := by
  simp only [clearOf, List.all_eq_true, Bool.and_eq_true, decide_eq_true_eq] at hd
  refine h.trans ⟨fun x hx => ?_, rfl⟩
  obtain ⟨hapart, hword⟩ := hd x hx
  by_cases he : x.1 = d
  · have hw : x.2.2 = 0 := by omega
    simp [State.get, Fld.of, hw, Nat.mod_one]
  · exact State.get_wr_ne _ _ (ownFld n x) (by simpa using he)

theorem putOwn {d lo w x : Nat} (hd : clearOf l d lo w = true) (h : s.Holds n l t) : s.Holds n l (t.put ⟨portBase n.val + d, lo, w⟩ x) :=
  h.trans ⟨fun _ hy => State.get_put_own _ hd hy, rfl⟩

theorem modPort {f : PortSt → PortSt} (hf : ∀ x, (f x).shown = x.shown) (h : s.Holds n l t) : s.Holds n l (t.modPort n f) :=
  h.of_eq rfl (by rw [State.modPort_port_same, hf])

theorem modPd {f : PdSt → PdSt} (h : s.Holds n l t) : s.Holds n l (t.modPd n f) := h.modPort fun _ => rfl

theorem ite {c : Prop} [Decidable c] (h : c → s.Holds n l t) (g : ¬c → s.Holds n l u) : s.Holds n l (if c then t else u) := by
  split
  · exact h ‹_›
  · exact g ‹_›

/-- A step that is taken or not. -/
theorem maybe {c : Prop} [Decidable c] (g : s.Holds n l t → s.Holds n l u) (h : s.Holds n l t) : s.Holds n l (if c then u else t) := .ite (fun _ => g h) fun _ => h

theorem swLeave (h : s.Holds n l t) : s.Holds n l (t.swLeave n) := .maybe (fun h => .put (by decide) (h.of_eq rfl rfl)) h

theorem leaveHand (h : s.Holds n l t) : s.Holds n l (t.leaveHand n) := .maybe (.put (by decide)) h

theorem cancelLater (h : s.Holds n l t) : s.Holds n l (t.cancelLater n) := .still (State.cancelLater_keeps ..) rfl rfl h

theorem endRun (h : s.Holds n l t) : s.Holds n l (t.endRun n) := .wr (by change 0x3040 + 0x4 * n.val < _; omega) h.modPd

theorem settleDeficit (h : s.Holds n l t) : s.Holds n l t.settleDeficit :=
  .maybe (fun h => List.foldlRecOn allPorts _ (h.put (by decide)) fun u hu m _ => hu.trans ⟨fun _ _ => rfl, by
    by_cases hm : n = m
    · subst m
      rw [State.modPort_port_same]
      rfl
    · rw [State.modPort_port_ne _ _ hm]⟩) h

theorem setAlloc {w : Nat} (h : s.Holds n l t) : s.Holds n l (t.setAlloc n w) := h.put (by change 0x4040 + 0x4 * n.val < _; omega)

theorem allocToFloor (h : s.Holds n l t) : s.Holds n l (t.allocToFloor n) := h.setAlloc.settleDeficit

theorem dropOps (h1 : clearOf l 0x600 8 1 = true) (h2 : clearOf l 0xa10 0 32 = true) (h : s.Holds n l t) : s.Holds n l (t.dropOps n) :=
  .cancelLater <| .wrOwn h2 <| .putOwn h1 <| h.modPort fun _ => rfl

theorem noContract (hs : clearOf l 0x200 8 6 = true) (h1 : clearOf l 0x220 0 32 = true) (h2 : clearOf l 0x224 0 32 = true) (h : s.Holds n l t) :
    s.Holds n l (t.noContract n) :=
  .endRun <| .modPd <| .wrOwn h2 <| .wrOwn h1 <| .putOwn (clearOf_part hs (by decide)) <| .putOwn (clearOf_part hs (by decide)) <|
    h.putOwn (clearOf_part hs (by decide))

theorem satInc {d lo w : Nat} (hd : clearOf l d lo w = true) (h : s.Holds n l t) : s.Holds n l (t.satInc ⟨portBase n.val + d, lo, w⟩) := h.putOwn hd

theorem takeStaged {d : Nat} (hd : clearOf l d 0 32 = true) (h : s.Holds n l t) : s.Holds n l (t.takeStaged (portBase n.val + d)) := by
  unfold State.takeStaged
  split
  · exact h
  · exact .wrOwn hd <| h.of_eq rfl rfl

theorem showCurve (hf : clearOf l 0xa08 0 32 = true) (hc : clearOf l 0xa0c 0 32 = true) (h : s.Holds n l t) : s.Holds n l (t.showCurve n) := by
  unfold State.showCurve
  extract_lets e top
  cases top with
  | none => exact h.wrOwn hc
  | some d => exact .maybe (.putOwn (clearOf_part hf (by decide))) <| h.wrOwn hc

theorem setCurve (hf : clearOf l 0xa08 0 32 = true) (hc : clearOf l 0xa0c 0 32 = true) {c : Option Curve} (h : s.Holds n l t) : s.Holds n l (t.setCurve n c) :=
  .showCurve hf hc <| h.modPort fun _ => rfl

end State.Holds

/-! ### What a Hard Reset takes from a port (R142) -/

theorem State.pd_settleDeficit (s : State) (n : Fin 16) : s.settleDeficit.pd n = s.pd n := by
  unfold State.settleDeficit
  split
  · refine List.foldlRecOn (motive := fun u : State => u.pd n = s.pd n) allPorts _ rfl fun u hu m _ => ?_
    by_cases hm : n = m
    · subst m
      exact (State.pd_modPort_same ..).trans hu
    · rw [State.pd, State.modPort_port_ne _ _ hm]
      exact hu
  · rfl

theorem State.pd_allocToFloor (s : State) (n : Fin 16) : (s.allocToFloor n).pd n = s.pd n := (State.pd_settleDeficit ..).trans (State.pd_put ..)

/-- A grant register stands while a deficit ends. -/
theorem State.get_settleDeficit (s : State) {f : Fld} (hf : f.addr ≠ TRS_STAT.at) : s.settleDeficit.get f = s.get f :=
  State.get_of_rd (s.rd_settleDeficit hf)

theorem State.allocOf_allocToFloor (s : State) (n : Fin 16) : (s.allocToFloor n).allocOf n = s.floorOf n ∧ (s.allocToFloor n).floorOf n = s.floorOf n := by
  have hne : TRS_ALLOC.at n ≠ TRS_STAT.at := by
    simp only [TRS_ALLOC.at, TRS_STAT.at]
    omega
  refine ⟨?_, ?_⟩
  · rw [State.allocToFloor, State.allocOf, State.get_settleDeficit _ hne, State.setAlloc, State.get_put_same _ _ _ (Nat.le_of_ble_eq_true rfl)]
    exact Nat.mod_eq_of_lt (Nat.mod_lt _ (Nat.two_pow_pos _))
  · rw [State.allocToFloor, State.floorOf, State.get_settleDeficit _ hne, State.setAlloc]
    exact State.get_put_apart _ _ rfl

theorem State.pd_dropOps (s : State) (n : Fin 16) : (s.dropOps n).pd n = s.pd n := by
  rw [State.dropOps, State.pd_of_ports ((State.cancelLater_keeps ..).ports rfl), State.dropApply, State.pd_of_ports (State.wr_ports ..), State.clear,
    State.pd_put, State.pd_modPort_same]
  rfl

theorem State.pd_noContract (s : State) (n : Fin 16) : (s.noContract n).pd n =
    { s.pd n with trans := none, reqRdo := none, contractPos := 0, contractPower := 0, run := [], predTags := [], missRow := 0 } := by
  rw [State.noContract, State.endRun, State.pd_of_ports (State.wr_ports ..), State.pd_modPd_same, State.pd_modPd_same, State.pd_of_ports (State.wr_ports ..),
    State.pd_of_ports (State.wr_ports ..), State.clear, State.clear, State.clear, State.pd_put, State.pd_put, State.pd_put]

/-- A register whose one field fills it is 0 where the field is. -/
theorem State.rd_eq_zero_of_get {s : State} {f : Fld} (hlo : f.lo = 0) (hw : f.w = 32) (h : s.get f = 0) : s.rd f.addr = 0 := by
  refine BitVec.eq_of_toNat_eq ?_
  rw [State.get, Fld.of, hlo, hw, Nat.shiftRight_zero, Nat.mod_eq_of_lt (s.rd f.addr).isLt] at h
  exact h

/-- The fields that show a contract. -/
def contractMarks : List (Nat × Nat × Nat) := [(0x200, 10, 2), (0x200, 8, 1), (0x220, 0, 32)]

theorem State.noContract_marks (s : State) (n : Fin 16) : ∀ x ∈ contractMarks, (s.noContract n).get (ownFld n x) = 0 := by
  have hkind : (s.clear (PPD_STATUS.CONTRACT n)).Holds n [(0x200, 10, 2)] (s.noContract n) :=
    .endRun <| .modPd <| .wrOwn (by decide) <| .wrOwn (by decide) <| .putOwn (by decide) <| .putOwn (by decide) <| .refl ..
  have hepr : (((s.clear (PPD_STATUS.CONTRACT n)).clear (PPD_STATUS.KIND n)).clear (PPD_STATUS.EPRMODE n)).Holds n [(0x200, 8, 1)] (s.noContract n) :=
    .endRun <| .modPd <| .wrOwn (by decide) <| .wrOwn (by decide) <| .refl ..
  have hrdo : ((((s.clear (PPD_STATUS.CONTRACT n)).clear (PPD_STATUS.KIND n)).clear (PPD_STATUS.EPRMODE n)).wr (PPD_CONTRACT.at n) 0).Holds n [(0x220, 0, 32)]
      (s.noContract n) := .endRun <| .modPd <| .wrOwn (by decide) <| .refl ..
  intro x hx
  simp only [contractMarks, List.mem_cons, List.not_mem_nil, or_false] at hx
  rcases hx with rfl | rfl | rfl
  · exact (hkind.marks _ (.head _)).trans (State.get_put_same _ (PPD_STATUS.CONTRACT n) _ (Nat.le_of_ble_eq_true rfl))
  · exact (hepr.marks _ (.head _)).trans (State.get_put_same _ (PPD_STATUS.EPRMODE n) _ (Nat.le_of_ble_eq_true rfl))
  · exact (hrdo.marks _ (.head _)).trans (State.get_wr_same _ (PPD_CONTRACT.RDO n) 0)

/-! ### The Hard Reset of a source port (R142) -/

theorem State.ActsOn.leaveHand {s t : State} {n : Fin 16} {b : Bool} {Q : Nat → Prop} (h : s.ActsOn n b Q t) : s.ActsOn n b Q (t.leaveHand n) :=
  .maybe (.put (by
    simp [policyArea, inPort, within, portBase, UPD_BRMASK.at, SOF_DBSTAT.at]
    omega)) h

theorem State.pd_showRp (s : State) (n m : Fin 16) : (s.showRp n).pd m = s.pd m := State.pd_of_ports ((State.showRp_keeps ..).ports rfl) m

theorem State.pd_leaves (s : State) (n : Fin 16) : ((s.swLeave n).leaveHand n).pd n = s.pd n :=
  State.pd_of_ports (((State.leaveHand_keeps ..).step (m := pRegs ||| pJtl) rfl <| (State.swLeave_keeps ..).mono rfl).ports rfl) n

/-- A port's leave of a sweep and of a hand-over writes neither its own block nor a grant. -/
theorem State.leaves_regs (s : State) (n : Fin 16) :
    s.regsKept ((s.swLeave n).leaveHand n) (fun a => a == JTL_SWDEV.at || a == UPD_BRMASK.at) :=
  have hsweep : s.regsKept (s.swLeave n) (fun a => a == JTL_SWDEV.at || a == UPD_BRMASK.at) :=
    .ite (fun _ => .put (by simp) <| .of_regs (.refl _ _) rfl) fun _ => .refl _ _
  .ite (fun _ => .put (by simp) hsweep) fun _ => hsweep

/-- The rest of a Hard Reset, behind the ops, the contract and the protocol layer: VCONN, data role, grant, Rp and the policy engine's state. -/
def State.hardResetRest (s : State) (n : Fin 16) : State :=
  let u := (((s.vconnOff n).startRole n).allocToFloor n).showRp n
  let u := ((u.freshRev n).clear (PPD_STATUS.BRACE n)).modPd n (fun d => { d with
    firstSeen := false, reduced := false, lastShort := none, held := d.held.filter (fun k => k == 0 || k == 3 || k == 4), offerDue := false, braceState := none, braceWarn := false })
  (u.modLoop n (fun l => { l with target := l.ref - compUnits l.comp })).setP n 8

/-- What a Hard Reset takes first: it is counted, the ops and the contract go, the protocol layer starts anew. -/
def State.hardResetFirst (s : State) (n : Fin 16) : State :=
  ((((s.satInc (PPD_COUNT.HARD n)).satInc (PPD_STATUS.HRCOUNT n)).dropOps n).noContract n).protoReset n

theorem State.hardReset_of_source {s : State} {n : Fin 16} (hp : s.pstate n ≠ 0) (hmay : s.mayHardReset n) :
    s.hardReset n = (((s.swLeave n).leaveHand n).hardResetFirst n).hardResetRest n := by
  obtain ⟨hserv, hcount⟩ := hmay
  have hkept : ((s.swLeave n).leaveHand n).get (PPD_STATUS.HRCOUNT n) = s.get (PPD_STATUS.HRCOUNT n) :=
    (State.Holds.leaveHand <| .swLeave <| .refl s n [(0x200, 16, 2)]).marks _ (.head _)
  rw [State.hardReset, if_neg hp]
  dsimp only
  rw [if_neg (by rw [hserv]; exact Bool.false_ne_true), if_neg (by omega)]
  rfl

/-- The fields of which beganHardReset speaks, but the state. -/
def resetMarks : List (Nat × Nat × Nat) := [(0x280, 16, 8), (0x200, 16, 2), (0x200, 10, 2), (0x200, 8, 1), (0x220, 0, 32)]

theorem State.dropContract_spec (s : State) (n : Fin 16) :
    s.Holds n [(0x280, 16, 8), (0x200, 16, 2)] (((s.dropOps n).noContract n).protoReset n) ∧
      (∀ x ∈ contractMarks, (((s.dropOps n).noContract n).protoReset n).get (ownFld n x) = 0) ∧
      ((((s.dropOps n).noContract n).protoReset n).pd n).out = [] ∧ ((((s.dropOps n).noContract n).protoReset n).pd n).trans = none := by
  have hbare : ((s.dropOps n).noContract n).Holds n contractMarks (((s.dropOps n).noContract n).protoReset n) := .modPd <| .refl ..
  refine ⟨.modPd <| .noContract (by decide) (by decide) (by decide) <| .dropOps (by decide) (by decide) <| .refl .., fun x hx => ?_, ?_, ?_⟩
  · exact (hbare.marks x hx).trans (State.noContract_marks (s.dropOps n) n x hx)
  · rw [State.protoReset, State.pd_modPd_same]
  · rw [State.protoReset, State.pd_modPd_same, State.pd_noContract]

theorem State.hardResetFirst_spec (s : State) (n : Fin 16) :
    (s.hardResetFirst n).get (PPD_COUNT.HARD n) = min (s.get (PPD_COUNT.HARD n) + 1) (2 ^ (PPD_COUNT.HARD n).w - 1) ∧
      (s.hardResetFirst n).get (PPD_STATUS.HRCOUNT n) = min (s.get (PPD_STATUS.HRCOUNT n) + 1) (2 ^ (PPD_STATUS.HRCOUNT n).w - 1) ∧
      (∀ x ∈ contractMarks, (s.hardResetFirst n).get (ownFld n x) = 0) ∧ ((s.hardResetFirst n).pd n).out = [] ∧ ((s.hardResetFirst n).pd n).trans = none ∧
      (s.hardResetFirst n).ports[n].gen = s.ports[n].gen := by
  have hHARD : ((s.satInc (PPD_COUNT.HARD n)).satInc (PPD_STATUS.HRCOUNT n)).get (PPD_COUNT.HARD n) =
      min (s.get (PPD_COUNT.HARD n) + 1) (2 ^ (PPD_COUNT.HARD n).w - 1) :=
    (State.get_put_ne _ _ (PPD_COUNT.HARD n) _ (by simp)).trans (State.get_satInc_same s (PPD_COUNT.HARD n) (Nat.le_of_ble_eq_true rfl))
  have hHRCOUNT : ((s.satInc (PPD_COUNT.HARD n)).satInc (PPD_STATUS.HRCOUNT n)).get (PPD_STATUS.HRCOUNT n) =
      min (s.get (PPD_STATUS.HRCOUNT n) + 1) (2 ^ (PPD_STATUS.HRCOUNT n).w - 1) := by
    rw [State.get_satInc_same _ _ (Nat.le_of_ble_eq_true rfl), show (s.satInc (PPD_COUNT.HARD n)).get (PPD_STATUS.HRCOUNT n) = s.get (PPD_STATUS.HRCOUNT n) from
      State.get_put_ne _ _ _ _ (by simp)]
  have hgen : ((s.satInc (PPD_COUNT.HARD n)).satInc (PPD_STATUS.HRCOUNT n)).ports[n].gen = s.ports[n].gen := by
    rw [(State.satInc_keeps ..).ports rfl, (State.satInc_keeps ..).ports rfl]
  unfold State.hardResetFirst
  generalize (s.satInc (PPD_COUNT.HARD n)).satInc (PPD_STATUS.HRCOUNT n) = u at *
  obtain ⟨hcounts, hcontract, hout, htrans⟩ := u.dropContract_spec n
  exact ⟨(hcounts.marks (0x280, 16, 8) (by decide)).trans hHARD, (hcounts.marks (0x200, 16, 2) (by decide)).trans hHRCOUNT, hcontract, hout, htrans,
    hcounts.gen.trans hgen⟩

/-- The rest sets VCONN, the data role, the grant and the policy engine's state, and leaves the counts and the contract. -/
theorem State.hardResetRest_spec (s : State) (n : Fin 16) :
    s.Holds n resetMarks (s.hardResetRest n) ∧ (s.hardResetRest n).pstate n = 8 ∧ (s.hardResetRest n).bit (PCC_STATUS.VCONNON n) = false ∧
      (s.hardResetRest n).bit (PPD_STATUS.DROLE n) = s.isService n ∧ ((s.hardResetRest n).pd n).out = (s.pd n).out ∧
      ((s.hardResetRest n).pd n).trans = (s.pd n).trans ∧ (s.hardResetRest n).allocOf n = s.floorOf n := by
  unfold State.hardResetRest
  extract_lets u v
  have htail : ∀ l, clearOf l 0 10 2 = true → clearOf l 0x200 6 2 = true → clearOf l 0x200 15 1 = true → clearOf l 0x200 0 5 = true →
      (((s.vconnOff n).startRole n).allocToFloor n).Holds n l ((v.modLoop n (fun l => { l with target := l.ref - compUnits l.comp })).setP n 8) :=
    fun l hrp hrev hbrace hstate => .putOwn hstate <| .modPort (fun _ => rfl) <| .modPd <| .putOwn hbrace <| .putOwn hrev <| .maybe (.putOwn hrp) <| .refl ..
  have hpd : v.pd n = { s.pd n with
      firstSeen := false, reduced := false, lastShort := none, held := (s.pd n).held.filter (fun k => k == 0 || k == 3 || k == 4), offerDue := false
      braceState := none, braceWarn := false } := by
    rw [State.pd_modPd_same, State.clear, State.pd_put, State.freshRev, State.pd_put, State.pd_showRp, State.pd_allocToFloor, State.startRole, State.flag,
      State.pd_put, State.vconnOff, State.clear, State.clear, State.clear, State.pd_put, State.pd_put, State.pd_put]
  have hlast : ((v.modLoop n (fun l => { l with target := l.ref - compUnits l.comp })).setP n 8).pd n = v.pd n := by
    rw [State.setP, State.pd_put, State.modLoop, State.pd_modPort_same]
    rfl
  generalize hend : (v.modLoop n (fun l => { l with target := l.ref - compUnits l.comp })).setP n 8 = e at *
  have hrole : ((s.vconnOff n).startRole n).Holds n [(0x200, 9, 1)] e :=
    (State.Holds.allocToFloor <| .refl ..).trans (htail _ (by decide) (by decide) (by decide) (by decide))
  have hvconn : (s.clear (PCC_STATUS.VCONNON n)).Holds n [(0, 14, 1)] e :=
    (State.Holds.allocToFloor <| .putOwn (by decide) <| .putOwn (by decide) <| .putOwn (by decide) <| .refl ..).trans
      (htail _ (by decide) (by decide) (by decide) (by decide))
  have hmarks : s.Holds n resetMarks e :=
    (State.Holds.allocToFloor <| .putOwn (by decide) <| .putOwn (by decide) <| .putOwn (by decide) <| .putOwn (by decide) <| .refl ..).trans
      (htail _ (by decide) (by decide) (by decide) (by decide))
  have hstate : e.pstate n = 8 := by
    rw [← hend]
    exact State.get_put_same _ _ _ (Nat.le_of_ble_eq_true rfl)
  have hshown : (((s.vconnOff n).startRole n).allocToFloor n).regsKept u (inPort n) := .ite (fun _ => .put (inPort_off n (by decide)) <| .refl _ _) fun _ => .refl _ _
  have hcleared : (((s.vconnOff n).startRole n).allocToFloor n).regsKept ((u.freshRev n).clear (PPD_STATUS.BRACE n)) (inPort n) :=
    .put (inPort_off n (by decide)) <| .put (inPort_off n (by decide)) hshown
  have hports : (((s.vconnOff n).startRole n).allocToFloor n).regsKept e (inPort n) := by
    rw [← hend]
    exact .put (inPort_off n (by decide)) (hcleared.of_regs (((State.modLoop_keeps ..).regs rfl).trans ((State.modPd_keeps ..).regs rfl)))
  have hbefore : s.regsKept ((s.vconnOff n).startRole n) (inPort n) :=
    .put (inPort_off n (by decide)) <| .put (inPort_off n (by decide)) <| .put (inPort_off n (by decide)) <| .put (inPort_off n (by decide)) <| .refl _ _
  have hout : inPort n (TRS_ALLOC.at n) = false := by
    simp only [inPort, within, TRS_ALLOC.at, portBase]
    simp
    omega
  refine ⟨hmarks, hstate, ?_, ?_, by rw [hlast, hpd], by rw [hlast, hpd], ?_⟩
  · rw [State.bit, show e.get (PCC_STATUS.VCONNON n) = 0 from
      (hvconn.marks (0, 14, 1) (by decide)).trans (State.get_put_same s (PCC_STATUS.VCONNON n) 0 (Nat.le_of_ble_eq_true rfl))]
    rfl
  · have hserv : (s.vconnOff n).isService n = s.isService n := State.isService_of_setup (by rw [(State.vconnOff_keeps ..).ports rfl])
    rw [State.bit_of_get (hrole.marks (0x200, 9, 1) (by decide)), ← hserv]
    exact State.bit_flag _ _ (Nat.le_of_ble_eq_true rfl) Nat.one_pos
  · rw [State.allocOf, hports.get (f := TRS_ALLOC.ALLOC n) hout, ← State.allocOf, (State.allocOf_allocToFloor ..).1, State.floorOf, hbefore.get hout,
      ← State.floorOf]

theorem State.ActsOn.freshRev {s t : State} {n : Fin 16} {b : Bool} {Q : Nat → Prop} (h : s.ActsOn n b Q t) : s.ActsOn n b Q (t.freshRev n) := h.putOwn (by decide)

theorem State.ActsOn.hardResetFirst {s t : State} {n : Fin 16} {b : Bool} {Q : Nat → Prop} (h : s.ActsOn n b Q t) : s.ActsOn n b Q (t.hardResetFirst n) := by
  have hone : s.ActsOn n b Q (t.satInc (PPD_COUNT.HARD n)) := h.putOwn (by decide)
  have htwo : s.ActsOn n b Q ((t.satInc (PPD_COUNT.HARD n)).satInc (PPD_STATUS.HRCOUNT n)) := hone.putOwn (by decide)
  unfold State.hardResetFirst State.protoReset
  exact .modPd <| .noContract htwo.dropOps

theorem State.ActsOn.hardResetRest {s t : State} {n : Fin 16} {Q : Nat → Prop} (h : s.ActsOn n false Q t) : s.ActsOn n false Q (t.hardResetRest n) :=
  .putOwn (by decide) <| .modLoop <| .modPd <| .putOwn (by decide) <| .freshRev <| .showRp <| .allocToFloor <| .startRole h.vconnOff

theorem State.hardReset_actsOn {s : State} {n : Fin 16} (hp : s.pstate n ≠ 0) (hmay : s.mayHardReset n) :
    s.ActsOn n false (fun x => x = s.cc n) (s.hardReset n) := by
  rw [State.hardReset_of_source hp hmay]
  exact .hardResetRest <| .hardResetFirst <| .leaveHand <| .swLeave <| .refl ..

/-- The first part of a Hard Reset writes the port's block and the predictor's register. -/
theorem State.regsKept.satInc {s t : State} {p : Nat → Bool} {f : Fld} (hf : p f.addr = true) (h : s.regsKept t p) : s.regsKept (t.satInc f) p := h.put hf

theorem State.hardResetFirst_regs (s : State) (n : Fin 16) : s.regsKept (s.hardResetFirst n) (fun a => inPort n a || a == RDG_PRED.at n) := by
  have hown {d : Nat} (hd : d < 0x1000) : (inPort n (portBase n.val + d) || portBase n.val + d == RDG_PRED.at n) = true := by rw [inPort_off n hd, Bool.true_or]
  have hone : s.regsKept (s.satInc (PPD_COUNT.HARD n)) (fun a => inPort n a || a == RDG_PRED.at n) := .satInc (hown (by decide)) <| .refl _ _
  have htwo : s.regsKept ((s.satInc (PPD_COUNT.HARD n)).satInc (PPD_STATUS.HRCOUNT n)) (fun a => inPort n a || a == RDG_PRED.at n) := .satInc (hown (by decide)) hone
  have hops : s.regsKept (((s.satInc (PPD_COUNT.HARD n)).satInc (PPD_STATUS.HRCOUNT n)).dropOps n) (fun a => inPort n a || a == RDG_PRED.at n) :=
    .still (State.cancelLater_keeps ..) rfl <| .wr (hown (by decide)) <| .put (hown (by decide)) <| .still (State.modPort_keeps ..) rfl htwo
  exact .still (State.protoReset_keeps ..) rfl <| .wr (by simp) <| .still (State.modPd_keeps ..) rfl <| .still (State.modPd_keeps ..) rfl (.wr (hown (by decide)) <|
    .wr (hown (by decide)) <| .put (hown (by decide)) <| .put (hown (by decide)) <| .put (hown (by decide)) hops)

/-- A Hard Reset of a source port begins; no report counts meanwhile. -/
theorem State.hardReset_began {s : State} {n : Fin 16} (hp : s.pstate n ≠ 0) (hmay : s.mayHardReset n) :
    s.beganHardReset (s.hardReset n) n ∧ (s.hardReset n).ports[n].gen = s.ports[n].gen := by
  have hcc := (State.hardReset_actsOn hp hmay).cc
  have hserv : (((s.swLeave n).leaveHand n).hardResetFirst n).isService n = false :=
    ((State.ActsOn.hardResetFirst <| .leaveHand <| .swLeave <| .start s n false).isService n).trans hmay.1
  rw [State.hardReset_of_source hp hmay] at *
  have hleave : s.Holds n [(0x280, 16, 8), (0x200, 16, 2)] ((s.swLeave n).leaveHand n) := .leaveHand <| .swLeave <| .refl ..
  have hfloor : (((s.swLeave n).leaveHand n).hardResetFirst n).floorOf n = s.floorOf n := by
    have hfirst := (((s.swLeave n).leaveHand n).hardResetFirst_regs n).get (f := TRS_ALLOC.FLOOR n) (by
      simp [inPort, within, portBase, TRS_ALLOC.at, RDG_PRED.at]
      omega)
    have hleft := (s.leaves_regs n).get (f := TRS_ALLOC.FLOOR n) (by
      simp [JTL_SWDEV.at, UPD_BRMASK.at, TRS_ALLOC.at]
      omega)
    exact hfirst.trans hleft
  obtain ⟨hHARD, hHRCOUNT, hcontract, hout, htrans, hgen⟩ := ((s.swLeave n).leaveHand n).hardResetFirst_spec n
  generalize ((s.swLeave n).leaveHand n).hardResetFirst n = u at *
  obtain ⟨hmarks, hstate, hvconn, hrole, houtRest, htransRest, hgrant⟩ := u.hardResetRest_spec n
  generalize u.hardResetRest n = e at *
  refine ⟨⟨hstate, ?_, ?_, ?_, ?_, ?_, hvconn, hrole.trans hserv, houtRest.trans hout, htransRest.trans htrans, hgrant.trans hfloor, hcc⟩,
    hmarks.gen.trans (hgen.trans hleave.gen)⟩
  · rw [show e.get (PPD_COUNT.HARD n) = _ from hmarks.marks (0x280, 16, 8) (by decide), hHARD, hleave.marks (0x280, 16, 8) (by decide)]
  · rw [show e.get (PPD_STATUS.HRCOUNT n) = _ from hmarks.marks (0x200, 16, 2) (by decide), hHRCOUNT, hleave.marks (0x200, 16, 2) (by decide)]
    exact Nat.min_eq_left (Nat.le_of_lt (Nat.succ_lt_succ hmay.2))
  · exact (hmarks.marks (0x200, 10, 2) (by decide)).trans (hcontract (0x200, 10, 2) (by decide))
  · rw [State.bit, show e.get (PPD_STATUS.EPRMODE n) = 0 from (hmarks.marks (0x200, 8, 1) (by decide)).trans (hcontract (0x200, 8, 1) (by decide))]
    rfl
  · exact State.rd_eq_zero_of_get (f := PPD_CONTRACT.RDO n) rfl rfl ((hmarks.marks (0x220, 0, 32) (by decide)).trans (hcontract (0x220, 0, 32) (by decide)))

/-- The Hard Reset that began stands where registers and policy engine are as before. -/
theorem State.beganHardReset.of_same {s t u : State} {n : Fin 16} (h : s.beganHardReset t n) (hr : u.regs = t.regs) (hpd : u.pd n = t.pd n) :
    s.beganHardReset u n := by
  simpa only [State.beganHardReset, State.pstate, State.allocOf, State.cc, State.bit, State.get_of_regs hr, State.rd_of_regs hr, hpd] using h

theorem State.Touches.farHead {s u : State} {n : Fin 16} (h : s.Touches n (fun a => a == PPD_STATUS.at n) u) {f : Fld} (hf : f.addr ≠ PPD_STATUS.at n) :
    u.get f = s.get f := h.regs.get (beq_false_of_ne hf)

/-- A Hard Reset behind steps that have written only PPD_STATUS, and not its HRCOUNT. -/
theorem State.hardReset_behind {s u : State} {n : Fin 16} (ht : s.Touches n (fun a => a == PPD_STATUS.at n) u)
    (hcount : u.get (PPD_STATUS.HRCOUNT n) = s.get (PPD_STATUS.HRCOUNT n)) (hserv : u.isService n = s.isService n) (hp : u.pstate n ≠ 0) (hmay : s.mayHardReset n) :
    s.beganHardReset (u.hardReset n) n ∧ s.regsKept (u.hardReset n) (policyArea n) ∧ (u.hardReset n).ports[n].gen = s.ports[n].gen := by
  have hmayu : u.mayHardReset n := ⟨hserv.trans hmay.1, by rw [hcount]; exact hmay.2⟩
  obtain ⟨hbegan, hgen⟩ := State.hardReset_began hp hmayu
  have hgrant : u.floorOf n = s.floorOf n := ht.farHead (f := TRS_ALLOC.FLOOR n) (by
    simp only [TRS_ALLOC.at, PPD_STATUS.at, portBase]
    omega)
  have hHARD : u.get (PPD_COUNT.HARD n) = s.get (PPD_COUNT.HARD n) := ht.farHead (by simp)
  have hcc : u.cc n = s.cc n := ht.farHead (by simp)
  refine ⟨?_, (ht.regs.mono fun a ha => beq_false_of_ne ?_).trans (State.hardReset_actsOn hp hmayu).regs, hgen.trans ht.gen⟩
  · rw [State.beganHardReset, hgrant, hHARD, hcc, hcount] at hbegan
    exact hbegan
  · rintro rfl
    rw [policyArea_port n (by decide)] at ha
    cases ha

/-- As `State.farKept_of_keeps`, where the Rd may have changed. -/
theorem State.farKept_of_rd {s t : State} (h : s.Keeps (pRegs ||| pStaged ||| pFreeCtr ||| pRidge ||| pBat ||| pPorts ||| pSlices ||| pJtl ||| pBoot) t)
    (hb : t.boot = { s.boot with rd := t.boot.rd }) : s.farKept t := by
  unfold State.farKept
  rw [← hb]
  exact h.eq_mix

/-- A command, or a message of row R146, that ends in a Hard Reset of its source port. -/
theorem Next.begins_hardReset {c : Instr} {s u : State} {n : Fin 16} (hexec : exec c s = doneAll s (u.hardReset n))
    (ht : s.Touches n (fun a => a == PPD_STATUS.at n) u) (hk : s.Keeps (pRegs ||| pPorts) u)
    (hcount : u.get (PPD_STATUS.HRCOUNT n) = s.get (PPD_STATUS.HRCOUNT n)) (hserv : u.isService n = s.isService n) (hp : u.pstate n ≠ 0) (hmay : s.mayHardReset n) :
    Next c s fun t => s.beganHardReset t n ∧ s.regsKept t (policyArea n) ∧ s.farKept t := by
  obtain ⟨hbegan, hregs, -⟩ := State.hardReset_behind ht hcount hserv hp hmay
  have hboot := (State.hardReset_actsOn hp ⟨hserv.trans hmay.1, by rw [hcount]; exact hmay.2⟩).boot
  have hreport := State.reportAll_keeps s (u.hardReset n)
  refine .of_doneAll hexec ⟨hbegan.of_same (State.reportAll_regs ..) ?_, hregs.of_regs (State.reportAll_regs ..), State.farKept_of_rd
    (hreport.step rfl <| (State.hardReset_keeps u n).step rfl <| hk.mono rfl) ?_⟩
  · obtain ⟨g, hg⟩ := s.reportAll_port (u.hardReset n) n
    rw [State.pd, hg]
    rfl
  · rw [hreport.boot rfl, hboot, hk.boot rfl]

end Sys2Proof.Machine
end

section
/-!
PROOF. O23: EPR mode (R140, R141, R146).
-/

namespace Sys2Proof.Machine

/-! ### An offer that answers a message -/

/-- Behind the header of a message an offer is sent; u is what the message has changed before it. -/
theorem Next.sends_offer {c : Instr} {s u : State} {h : PdHead} {act : State → State} (hexec : exec c s = received h s act) (hh : s.hears h)
    (h19 : s.pstate h.n ≠ 19) (hact : act (s.takeHead h) = u.sendOffer h.n) (ht : (s.takeHead h).Touches h.n (fun a => a == PPD_STATUS.at h.n) u)
    (hk : (s.takeHead h).Keeps (pRegs ||| pPorts) u) (hpd : u.pd h.n = (s.takeHead h).pd h.n)
    (hrev : u.get (PPD_STATUS.REV h.n) = (s.takeHead h).get (PPD_STATUS.REV h.n)) :
    Next c s fun t =>
      t.pstate h.n = 3 ∧ (t.pd h.n).acked = false ∧ s.noted t h ∧
      s.sends t h.n [sopMsg (offerName (u.bit (PPD_STATUS.EPRMODE h.n))) (t.offerObjs h.n)] ∧
      t.bit (PPD_STATUS.EPRMODE h.n) = u.bit (PPD_STATUS.EPRMODE h.n) ∧
      s.portsBut t [h.n] ∧ s.regsKept t (inPort h.n) ∧ t = { s with regs := t.regs, ports := t.ports } := by
  obtain ⟨htouch, hstate, -, hfields, pos, hoffer⟩ := u.sendOffer_spec h.n
  have hall : s.Touches h.n (fun a => a == PPD_STATUS.at h.n || offerArea h.n a) (u.sendOffer h.n) :=
    ((s.takeHead_touches h).trans ht |>.mono (by simp_all)).trans htouch
  obtain ⟨hregs, hports⟩ := hall.report s
  have hin : ∀ a, (a == PPD_STATUS.at h.n || offerArea h.n a) = true → inPort h.n a = true := fun a ha =>
    (Bool.or_eq_true_iff.1 ha).elim (fun e => inPort_of_status (by decide) a e) inPort_of_offerArea
  refine .of_received hexec hh h19 hact hall hin ⟨(State.get_report ..).trans hstate, ?_, State.noted_of ?_ ?_ ((State.get_report ..).trans ?_), ?_, ?_, hports,
    hregs.mono fun a ha => Bool.eq_false_iff.2 fun hp => absurd (hin a hp) (by simp [ha]), ?_⟩
  · rw [State.pd_report, hoffer]
  · rw [State.pd_report, hoffer, hpd]
  · rw [State.pd_report, hoffer, hpd]
  · exact (hfields _ rfl rfl).trans hrev
  · rw [State.sends, State.pd_report, State.offerObjs_report, hoffer, hpd, s.pd_takeHead]
  · exact State.bit_of_get ((State.get_report ..).trans (hfields _ rfl rfl))
  · exact ((State.report_keeps ..).step rfl <| (State.sendOffer_keeps ..).step rfl <| hk.step rfl <| s.takeHead_keeps h).eq_mix

/-! ### The clauses -/

theorem eprModeEnter_acknowledges (s : State) (h : PdHead) (hh : s.hears h) (hg : s.group h.n = .ready) :
    Next (.eprModeEnter h) s fun t =>
      t.pstate h.n = 7 ∧ s.sends t h.n [bareMsg .eprEnterAck] ∧ s.noted t h ∧
      s.portsBut t [h.n] ∧ s.regsBut t [PPD_STATUS.at h.n] ∧ t = { s with regs := t.regs, ports := t.ports } := by
  have hall : s.Touches h.n (fun a => a == PPD_STATUS.at h.n) (((s.takeHead h).setP h.n 7).send h.n .eprEnterAck) :=
    .send <| .put (beq_self_eq_true _) <| s.takeHead_touches h
  have hpd : (((s.takeHead h).setP h.n 7).send h.n .eprEnterAck).pd h.n =
      { (s.takeHead h).pd h.n with out := ((s.takeHead h).pd h.n).out ++ [bareMsg .eprEnterAck] } := by
    rw [State.pd_send_same, State.setP, State.pd_put]
    rfl
  obtain ⟨hregs, hports⟩ := hall.report s
  refine .of_received rfl hh (State.pstate_ne_nopd (hg ▸ by decide)) (State.byGroup_ready (State.group_taken hg)) hall (inPort_of_status (by decide))
    ⟨(State.get_report ..).trans ((State.get_send ..).trans (State.get_put_same _ _ _ (Nat.le_of_ble_eq_true rfl))), ?_,
      State.noted_of ?_ ?_ ((State.get_report ..).trans ((State.get_send ..).trans (State.get_put_apart _ _ rfl))), hports, hregs.regsBut (by simp), ?_⟩
  · rw [State.sends, State.pd_report, hpd, s.pd_takeHead]
  · rw [State.pd_report, hpd]
  · rw [State.pd_report, hpd]
  · exact ((State.report_keeps ..).step rfl <| (State.send_keeps ..).step rfl <| (State.setP_keeps ..).step rfl <| s.takeHead_keeps h).eq_mix

theorem eprModeEnter_fails (s : State) (h : PdHead) (hh : s.hears h) (hg : s.group h.n = .brace) :
    Next (.eprModeEnter h) s fun t => s.answers t h [sopMsg .eprEnterFail [0x04040000]] :=
  .answers_one rfl hh (State.pstate_ne_nopd (hg ▸ by decide)) (State.byGroup_brace (State.group_taken hg))

/-- The contract's voltage as the header leaves it. -/
theorem State.get_V10_takeHead (s : State) (h : PdHead) : (s.takeHead h).get (PPD_CONTRACTVI.V10 h.n) = s.get (PPD_CONTRACTVI.V10 h.n) :=
  s.get_takeHead_ne h (by simp)

theorem eprModeExit_offers (s : State) (h : PdHead) (hh : s.hears h) (hg : s.group h.n = .ready) (hv : s.get (PPD_CONTRACTVI.V10 h.n) ≤ 2000) :
    Next (.eprModeExit h) s fun t =>
      t.bit (PPD_STATUS.EPRMODE h.n) = false ∧ t.pstate h.n = 3 ∧ s.sends t h.n [{ name := .sourceCap, sop := 0, objs := t.offerObjs h.n }] ∧ s.noted t h ∧
      s.portsBut t [h.n] ∧ s.regsKept t (inPort h.n) ∧ t = { s with regs := t.regs, ports := t.ports } := by
  have hspr : ((s.takeHead h).clear (PPD_STATUS.EPRMODE h.n)).bit (PPD_STATUS.EPRMODE h.n) = false := by
    rw [State.bit, State.clear, State.get_put_same _ _ _ (Nat.le_of_ble_eq_true rfl)]
    rfl
  obtain ⟨t, ht, hstate, -, hnoted, hsends, hepr, hrest⟩ :=
    Next.sends_offer (c := .eprModeExit h) (u := (s.takeHead h).clear (PPD_STATUS.EPRMODE h.n)) rfl hh (State.pstate_ne_nopd (hg ▸ by decide))
      ((State.byGroup_ready (State.group_taken hg)).trans (if_pos (by rwa [s.get_V10_takeHead])))
      (.put (beq_self_eq_true _) <| .refl ..) ((State.clear_keeps ..).mono rfl) (State.pd_put ..) (State.get_put_apart _ _ rfl)
  rw [hspr] at hsends hepr
  exact ⟨t, ht, hepr, hstate, hsends, hnoted, hrest⟩

theorem eprModeExit_resets (s : State) (h : PdHead) (hh : s.hears h) (hg : s.group h.n = .ready) (hv : 2000 < s.get (PPD_CONTRACTVI.V10 h.n))
    (hmay : s.mayHardReset h.n) :
    Next (.eprModeExit h) s fun t => s.beganHardReset t h.n ∧ s.regsKept t (policyArea h.n) ∧ s.farKept t := by
  have hact : (s.takeHead h).byGroup h.n (star h.n) (star h.n) (fun u => u.eprExitIn h.n) (fun u => u.eprExitBrace h.n) (sr h.n) (sr h.n) =
      (s.takeHead h).hardReset h.n :=
    (State.byGroup_ready (State.group_taken hg)).trans (if_neg (by rw [s.get_V10_takeHead]; omega))
  refine .begins_hardReset (congrArg (doneAll s) ((State.receive_of_hears hh (State.pstate_ne_nopd (hg ▸ by decide)) _).trans hact)) (s.takeHead_touches h)
    ((s.takeHead_keeps h).mono rfl) (s.get_takeHead h rfl) (s.isService_takeHead h) ?_ hmay
  rw [s.pstate_takeHead, State.pstate_of_group_ready hg]
  decide

theorem tsourceEprKeepalive_resets (s : State) (n : Fin 16) (hp : s.pstate n = 6) (hepr : s.bit (PPD_STATUS.EPRMODE n) = true) (hidle : s.amsBusy n = false)
    (hhalt : s.halted n.val = false) (hmay : s.mayHardReset n) :
    Next (.tsourceEprKeepalive n) s fun t => s.beganHardReset t n ∧ s.regsKept t (policyArea n) ∧ s.farKept t := by
  refine .begins_hardReset (u := s) ?_ (.refl ..) (.refl ..) rfl rfl (by rw [hp]; decide) hmay
  change execTsourceEprKeepalive n s = _
  exact if_pos ⟨hp, hepr, by simp [hidle], by simp [hhalt]⟩

theorem eprKeepalive_answers (s : State) (h : PdHead) (hh : s.hears h) (hg : s.group h.n = .ready ∨ s.group h.n = .brace)
    (hepr : s.bit (PPD_STATUS.EPRMODE h.n) = true) : Next (.eprKeepalive h) s fun t => s.answers t h [bareMsg .eprKeepAliveAck] := by
  have hmode : (s.takeHead h).bit (PPD_STATUS.EPRMODE h.n) = true := (s.bit_takeHead h rfl).trans hepr
  rcases hg with hg | hg
  · exact .answers_one rfl hh (State.pstate_ne_nopd (hg ▸ by decide)) ((State.byGroup_ready (State.group_taken hg)).trans (if_pos hmode))
  · exact .answers_one rfl hh (State.pstate_ne_nopd (hg ▸ by decide)) ((State.byGroup_brace (State.group_taken hg)).trans (if_pos hmode))

/-- Settles O23: an entry is acknowledged or refused, an exit is an SPR offer or a Hard Reset, and a keep-alive is answered or missed. -/
theorem eprMode : Obligations.EprMode := by
  unfold Obligations.EprMode
  exact ⟨eprModeEnter_acknowledges, eprModeEnter_fails, eprModeExit_offers, eprModeExit_resets, tsourceEprKeepalive_resets, eprKeepalive_answers⟩

end Sys2Proof.Machine
end

section
/-!
PROOF. O25: the answers that end an AMS of the port (R143, R144, R146, R148).
-/

namespace Sys2Proof.Machine

/-! ### The entry to Ready behind a message -/

/-- Behind the header of a message the AMS of a source port ends; u is what the message has changed before it. -/
theorem Next.enters_ready {c : Instr} {s u w : State} {h : PdHead} {act : State → State} (hexec : exec c s = received h s act) (hh : s.hears h)
    (h19 : s.pstate h.n ≠ 19) (hact : act (s.takeHead h) = w) (ht : (s.takeHead h).Touches h.n (fun a => a == PPD_STATUS.at h.n) u)
    (hk : (s.takeHead h).Keeps (pRegs ||| pPorts) u) (hrev : u.get (PPD_STATUS.REV h.n) = (s.takeHead h).get (PPD_STATUS.REV h.n)) {d : PdSt}
    (hd : d.rxId = ((s.takeHead h).pd h.n).rxId ∧ d.firstSeen = ((s.takeHead h).pd h.n).firstSeen)
    (hw : u.Touches h.n (fun a => a == PPD_STATUS.at h.n || a == PCC_STATUS.at h.n) w ∧ u.Keeps (pRegs ||| pPorts) w ∧ w.pstate h.n = 6 ∧ w.pd h.n = d ∧
      ∀ f : Fld, f.addr = PPD_STATUS.at h.n → (PPD_STATUS.PSTATE h.n).apart f = true → w.get f = u.get f) :
    Next c s fun t =>
      t.pstate h.n = 6 ∧ t.pd h.n = d ∧ s.noted t h ∧ t.get (PPD_STATUS.DROLE h.n) = u.get (PPD_STATUS.DROLE h.n) ∧
      s.portsBut t [h.n] ∧ s.regsBut t [PPD_STATUS.at h.n, PCC_STATUS.at h.n] ∧ t = { s with regs := t.regs, ports := t.ports } := by
  obtain ⟨htouch, hkeeps, hstate, hpd, hfields⟩ := hw
  have hall : s.Touches h.n (fun a => a == PPD_STATUS.at h.n || a == PCC_STATUS.at h.n) w :=
    ((s.takeHead_touches h).trans ht |>.mono (by simp_all)).trans htouch
  obtain ⟨hregs, hports⟩ := hall.report s
  refine .of_received hexec hh h19 hact hall (fun a ha => ?_) ⟨(State.get_report ..).trans hstate, (State.pd_report ..).trans hpd,
    State.noted_of ?_ ?_ ((State.get_report ..).trans ((hfields _ rfl rfl).trans hrev)), (State.get_report ..).trans (hfields _ rfl rfl), hports,
    hregs.regsBut (by simp), ((State.report_keeps ..).step rfl <| hkeeps.step rfl <| hk.step rfl <| s.takeHead_keeps h).eq_mix⟩
  · rcases (Bool.or_eq_true ..).mp ha with ha | ha <;> rw [eq_of_beq ha] <;> exact inPort_off h.n (by decide)
  · rw [State.pd_report, hpd, hd.1]
  · rw [State.pd_report, hpd, hd.2]

/-- A message of a service port that changes PPD_STATUS and the policy engine's part of the port. -/
theorem Next.moves_sink {c : Instr} {s w : State} {h : PdHead} {act : State → State} (hexec : exec c s = received h s act) (hh : s.hears h)
    (h19 : s.pstate h.n ≠ 19) (hact : act (s.takeHead h) = w) (ht : (s.takeHead h).Touches h.n (fun a => a == PPD_STATUS.at h.n) w)
    (hk : (s.takeHead h).Keeps (pRegs ||| pPorts) w) (hrev : w.get (PPD_STATUS.REV h.n) = (s.takeHead h).get (PPD_STATUS.REV h.n)) {d : PdSt}
    (hpd : w.pd h.n = d) (hd : d.rxId = ((s.takeHead h).pd h.n).rxId ∧ d.firstSeen = ((s.takeHead h).pd h.n).firstSeen) :
    Next c s fun t => t.pstate h.n = w.pstate h.n ∧ t.pd h.n = d ∧ s.noted t h ∧
      s.portsBut t [h.n] ∧ s.regsBut t [PPD_STATUS.at h.n] ∧ t = { s with regs := t.regs, ports := t.ports } := by
  have hall := (s.takeHead_touches h).trans ht
  obtain ⟨hregs, hports⟩ := hall.report s
  refine .of_received hexec hh h19 hact hall (inPort_of_status (by decide)) ⟨State.get_report .., (State.pd_report ..).trans hpd,
    State.noted_of ?_ ?_ ((State.get_report ..).trans hrev), hports, hregs.regsBut (by simp),
    ((State.report_keeps ..).step rfl <| hk.step rfl <| s.takeHead_keeps h).eq_mix⟩
  · rw [State.pd_report, hpd, hd.1]
  · rw [State.pd_report, hpd, hd.2]

section Columns

variable {s : State} {h : PdHead} {x : Nat} {act : State → State} {startup neg ready brace snk dorm : State → State}

theorem State.byGroup_of_pstate_neg (hp : s.pstate h.n = x) (hx : groupOf x = .neg) :
    (s.takeHead h).byGroup h.n startup neg ready brace snk dorm = neg (s.takeHead h) :=
  State.byGroup_neg (State.group_taken ((State.group_of_pstate hp).trans hx))

theorem State.byGroup_of_pstate_ready (hp : s.pstate h.n = x) (hx : groupOf x = .ready) :
    (s.takeHead h).byGroup h.n startup neg ready brace snk dorm = ready (s.takeHead h) :=
  State.byGroup_ready (State.group_taken ((State.group_of_pstate hp).trans hx))

theorem State.byGroup_of_pstate_snk (hp : s.pstate h.n = x) (hx : groupOf x = .snk) :
    (s.takeHead h).byGroup h.n startup neg ready brace snk dorm = snk (s.takeHead h) :=
  State.byGroup_snk (State.group_taken ((State.group_of_pstate hp).trans hx))

end Columns

theorem State.sink_of_pstate {s : State} {n : Fin 16} {x : Nat} (hp : s.pstate n = x) (hx : x ≠ 20) : s.sink n = x := by
  rw [State.sink, if_neg (by rw [hp]; exact hx), hp]

theorem State.ams_takeHead (s : State) (h : PdHead) : ((s.takeHead h).pd h.n).ams = (s.pd h.n).ams := by rw [s.pd_takeHead]

/-- An answer ends what a sink awaits. -/
theorem State.endsAms_of_sink {s : State} {n : Fin 16} (act : State → State) (h : s.sink n = 15) : endsAms n act s = act s :=
  if_pos (by rw [State.awaits, h, beq_self_eq_true, Bool.or_true])

/-- An answer that nothing awaits resets the protocol layer. -/
theorem State.endsAms_of_idle {s : State} {n : Fin 16} (act : State → State) (hams : (s.pd n).ams = none) (h : s.sink n ≠ 15) : endsAms n act s = s.softReset n :=
  if_neg (by simp [State.awaits, hams, h])

theorem State.setSink_of_image {s : State} {n : Fin 16} (h : s.ports[n].rom = false) (x : Nat) : s.setSink n x = s.setP n x :=
  if_neg (by rw [h]; exact Bool.false_ne_true)

/-- With nothing held a service port owes nothing. -/
theorem State.sinkGo_of_nothingOwed {s : State} {n : Fin 16} (halert : (s.pd n).alertDue = 0) (hheld : 3 ∉ (s.pd n).held) : s.sinkGo n = s := by
  unfold State.sinkGo
  rw [if_neg (c := s.alertWaits n = true) (by simp [State.alertWaits, halert]), if_neg (c := (s.pd n).held.contains 3 = true) (by simpa using hheld), ite_self]

/-! ### Accept -/

theorem acceptMsg_offers (s : State) (h : PdHead) (hh : s.hears h) (hp : s.pstate h.n = 10) (hams : (s.pd h.n).ams = some .softReset)
    (hserv : s.isService h.n = false) :
    Next (.acceptMsg h) s fun t =>
      t.pstate h.n = 3 ∧ (t.pd h.n).acked = false ∧ s.noted t h ∧
      s.sends t h.n [{ name := if s.bit (PPD_STATUS.EPRMODE h.n) then .eprSourceCap else .sourceCap, sop := 0, objs := t.offerObjs h.n }] ∧
      s.portsBut t [h.n] ∧ s.regsKept t (inPort h.n) ∧ t = { s with regs := t.regs, ports := t.ports } := by
  have hact : (s.takeHead h).acceptIn h.n = (s.takeHead h).sendOffer h.n :=
    (if_pos ((s.ams_takeHead h).trans hams)).trans (if_neg (by rw [s.isService_takeHead, hserv]; exact Bool.false_ne_true))
  obtain ⟨t, ht, hstate, hacked, hnoted, hsends, -, hrest⟩ := Next.sends_offer (c := .acceptMsg h) (u := s.takeHead h) rfl hh (by rw [hp]; decide)
    ((State.byGroup_of_pstate_neg hp rfl).trans hact) (.refl ..) (.refl ..) rfl rfl
  rw [s.bit_takeHead h rfl] at hsends
  exact ⟨t, ht, hstate, hacked, hnoted, hsends, hrest⟩

theorem acceptMsg_swaps (s : State) (h : PdHead) (hh : s.hears h) (hp : s.pstate h.n = 11) (hams : (s.pd h.n).ams = some .drSwap)
    (hserv : s.isService h.n = false) (hnone : s.nothingHeld h.n) :
    Next (.acceptMsg h) s fun t =>
      t.bit (PPD_STATUS.DROLE h.n) = !s.bit (PPD_STATUS.DROLE h.n) ∧ t.pstate h.n = 6 ∧ (t.pd h.n).ams = none ∧ s.noted t h ∧ s.sends t h.n [] ∧
      s.portsBut t [h.n] ∧ s.regsBut t [PPD_STATUS.at h.n, PCC_STATUS.at h.n] ∧ t = { s with regs := t.regs, ports := t.ports } := by
  have hamsT : ((s.takeHead h).pd h.n).ams = some .drSwap := (s.ams_takeHead h).trans hams
  have hact : (s.takeHead h).acceptIn h.n = ((s.takeHead h).swapRole h.n).endAms h.n :=
    (if_neg (by rw [hamsT]; nofun)).trans (if_pos hamsT)
  have hpd : ((s.takeHead h).swapRole h.n).pd h.n = (s.takeHead h).pd h.n := State.pd_put ..
  obtain ⟨htouch, hkeeps, hstate, hend, hfields, -⟩ := State.endAms_spec (s := (s.takeHead h).swapRole h.n) (n := h.n)
    ((State.isService_put ..).trans ((s.isService_takeHead h).trans hserv)) (by rwa [State.nothingHeld, hpd, s.pd_takeHead])
  obtain ⟨t, ht, hready, hdone, hnoted, hrole, hrest⟩ := Next.enters_ready (c := .acceptMsg h) (u := (s.takeHead h).swapRole h.n) rfl hh (by rw [hp]; decide)
    ((State.byGroup_of_pstate_neg hp rfl).trans hact) (.put (beq_self_eq_true _) <| .refl ..) ((State.swapRole_keeps ..).mono rfl) (State.get_put_apart _ _ rfl)
    (by rw [hpd]; exact ⟨rfl, rfl⟩) ⟨htouch, hkeeps, hstate, hend, hfields⟩
  refine ⟨t, ht, ?_, hready, by rw [hdone], hnoted, ?_, hrest⟩
  · rw [State.bit_of_get hrole, State.swapRole, State.bit_flag _ _ (Nat.le_of_ble_eq_true rfl) Nat.one_pos, s.bit_takeHead h rfl]
  · rw [State.sends, hdone, hpd, s.pd_takeHead, List.append_nil]

theorem acceptMsg_selects (s : State) (h : PdHead) (hh : s.hears h) (hp : s.pstate h.n = 15) (hams : (s.pd h.n).ams = none) (hrom : s.ports[h.n].rom = false) :
    Next (.acceptMsg h) s fun t =>
      t.pstate h.n = 16 ∧ s.noted t h ∧ s.sends t h.n [] ∧ s.portsBut t [h.n] ∧ s.regsBut t [PPD_STATUS.at h.n] ∧ t = { s with regs := t.regs, ports := t.ports } := by
  have hamsT : ((s.takeHead h).pd h.n).ams = none := (s.ams_takeHead h).trans hams
  have hsink : (s.takeHead h).sink h.n = 15 := State.sink_of_pstate ((s.pstate_takeHead h).trans hp) (by decide)
  have hact : endsAms h.n (fun u => u.acceptIn h.n) (s.takeHead h) = (s.takeHead h).setP h.n 16 := by
    rw [State.endsAms_of_sink _ hsink, State.acceptIn, hamsT, if_neg nofun, if_neg nofun, if_pos hsink, State.setSink_of_image ((s.rom_takeHead h).trans hrom)]
  obtain ⟨t, ht, hstate, hpd, hnoted, hrest⟩ := Next.moves_sink (c := .acceptMsg h) (w := (s.takeHead h).setP h.n 16) rfl hh (by rw [hp]; decide)
    ((State.byGroup_of_pstate_snk hp rfl).trans hact)
    (.put (beq_self_eq_true _) <| .refl ..) ((State.setP_keeps ..).mono rfl) (State.get_put_apart _ _ rfl) (State.pd_put ..) ⟨rfl, rfl⟩
  exact ⟨t, ht, hstate.trans (State.get_put_same _ _ _ (Nat.le_of_ble_eq_true rfl)), hnoted, by rw [State.sends, hpd, s.pd_takeHead, List.append_nil], hrest⟩

theorem acceptMsg_resets (s : State) (h : PdHead) (hh : s.hears h) (hp : s.pstate h.n = 6) (hams : (s.pd h.n).ams = none) (hserv : s.isService h.n = false) :
    Next (.acceptMsg h) s fun t => s.sentSoft t h.n :=
  .sends_soft rfl hh (by rw [hp]; decide) hserv ((State.byGroup_of_pstate_ready hp rfl).trans
    (State.endsAms_of_idle _ ((s.ams_takeHead h).trans hams) (by rw [State.sink_of_pstate ((s.pstate_takeHead h).trans hp) (by decide)]; decide)))

/-! ### Reject and Wait -/

/-- A refused DR_Swap in a contract takes the port to Ready. -/
theorem State.amsOver_of_swap {s : State} {n : Fin 16} (hp : s.pstate n = 11) (hserv : s.isService n = false) (hcon : s.hasContract n = true) :
    s.amsOver n = (s.modPd n (fun d => { d with ams := none })).enterReady n :=
  (if_neg (by simp [hserv, hp])).trans ((if_pos (.inr hp)).trans (if_pos hcon))

theorem State.pd_hold (s : State) (n : Fin 16) (k : Nat) :
    (s.hold n k).pd n = { s.pd n with held := if (s.pd n).held.contains k then (s.pd n).held else (s.pd n).held ++ [k] } := State.pd_modPd_same ..

theorem rejectMsg_sink (s : State) (h : PdHead) (hh : s.hears h) (hp : s.pstate h.n = 15) (hams : (s.pd h.n).ams = none) (hrom : s.ports[h.n].rom = false)
    (hnone : s.nothingHeld h.n) :
    Next (.rejectMsg h) s fun t =>
      t.pstate h.n = (if s.hasContract h.n then 17 else 14) ∧ s.noted t h ∧ s.sends t h.n [] ∧
      s.portsBut t [h.n] ∧ s.regsBut t [PPD_STATUS.at h.n] ∧ t = { s with regs := t.regs, ports := t.ports } := by
  obtain ⟨hheld, -, halert⟩ := hnone
  have hsink : (s.takeHead h).sink h.n = 15 := State.sink_of_pstate ((s.pstate_takeHead h).trans hp) (by decide)
  have hpd : ((s.takeHead h).setP h.n (if s.hasContract h.n then 17 else 14)).pd h.n = (s.takeHead h).pd h.n := State.pd_put ..
  have hact : endsAms h.n (fun u => u.rejectIn h.n) (s.takeHead h) = (s.takeHead h).setP h.n (if s.hasContract h.n then 17 else 14) := by
    rw [State.endsAms_of_sink _ hsink, State.rejectIn, if_pos ⟨hsink, (s.ams_takeHead h).trans hams⟩, State.setSink_of_image ((s.rom_takeHead h).trans hrom),
      s.hasContract_takeHead, State.sinkGo_of_nothingOwed] <;> rw [hpd, s.pd_takeHead]
    · exact halert
    · rw [hheld]
      nofun
  obtain ⟨t, ht, hstate, hend, hnoted, hrest⟩ := Next.moves_sink (c := .rejectMsg h) (w := (s.takeHead h).setP h.n (if s.hasContract h.n then 17 else 14)) rfl hh
    (by rw [hp]; decide) ((State.byGroup_of_pstate_snk hp rfl).trans hact) (.put (beq_self_eq_true _) <| .refl ..) ((State.setP_keeps ..).mono rfl)
    (State.get_put_apart _ _ rfl) hpd ⟨rfl, rfl⟩
  refine ⟨t, ht, hstate.trans ((State.get_put_same _ _ _ (Nat.le_of_ble_eq_true rfl)).trans ?_), hnoted, by rw [State.sends, hend, s.pd_takeHead, List.append_nil], hrest⟩
  split <;> rfl

theorem rejectMsg_ends (s : State) (h : PdHead) (hh : s.hears h) (hp : s.pstate h.n = 11) (hams : (s.pd h.n).ams = some .drSwap)
    (hserv : s.isService h.n = false) (hcon : s.hasContract h.n = true) (hnone : s.nothingHeld h.n) :
    Next (.rejectMsg h) s fun t =>
      t.pstate h.n = 6 ∧ (t.pd h.n).ams = none ∧ (t.pd h.n).held = [] ∧ t.bit (PPD_STATUS.DROLE h.n) = s.bit (PPD_STATUS.DROLE h.n) ∧ s.noted t h ∧
      s.portsBut t [h.n] ∧ s.regsBut t [PPD_STATUS.at h.n, PCC_STATUS.at h.n] ∧ t = { s with regs := t.regs, ports := t.ports } := by
  have hactIn : (s.takeHead h).rejectIn h.n = ((s.takeHead h).modPd h.n (fun d => { d with ams := none })).enterReady h.n := by
    rw [State.rejectIn, if_neg (by rw [s.ams_takeHead, hams]; nofun)]
    exact State.amsOver_of_swap ((s.pstate_takeHead h).trans hp) ((s.isService_takeHead h).trans hserv) ((s.hasContract_takeHead h).trans hcon)
  have hpd := (s.takeHead h).pd_modPd_same h.n (fun d => { d with ams := none })
  obtain ⟨htouch, hkeeps, hstate, hend, hfields, -⟩ := State.enterReady_spec (s := (s.takeHead h).modPd h.n (fun d => { d with ams := none })) (n := h.n)
    (State.nothingWaits_of_nothingHeld (by rwa [State.nothingHeld, hpd, s.pd_takeHead]))
  obtain ⟨t, ht, hready, hdone, hnoted, hrole, hrest⟩ := Next.enters_ready (c := .rejectMsg h) (u := (s.takeHead h).modPd h.n (fun d => { d with ams := none })) rfl hh
    (by rw [hp]; decide) ((State.byGroup_of_pstate_neg hp rfl).trans hactIn) (.modPd <| .refl ..) ((State.modPd_keeps ..).mono rfl) (State.get_modPd ..)
    (by rw [hpd]; exact ⟨rfl, rfl⟩) ⟨htouch, hkeeps, hstate, hend, hfields⟩
  refine ⟨t, ht, hready, by rw [hdone], ?_, ?_, hnoted, hrest⟩
  · rw [hdone, hpd, s.pd_takeHead]
    exact hnone.1
  · rw [State.bit_of_get hrole, State.bit_modPd, s.bit_takeHead h rfl]

theorem waitMsg_sink (s : State) (h : PdHead) (hh : s.hears h) (hp : s.pstate h.n = 15) (hams : (s.pd h.n).ams = none) (hrom : s.ports[h.n].rom = false)
    (hheld : (s.pd h.n).held = []) :
    Next (.waitMsg h) s fun t =>
      t.pstate h.n = (if s.hasContract h.n then 17 else 15) ∧ (t.pd h.n).held = [6] ∧ s.noted t h ∧ s.sends t h.n [] ∧
      s.portsBut t [h.n] ∧ s.regsBut t [PPD_STATUS.at h.n] ∧ t = { s with regs := t.regs, ports := t.ports } := by
  have hsink : (s.takeHead h).sink h.n = 15 := State.sink_of_pstate ((s.pstate_takeHead h).trans hp) (by decide)
  have hhold : ((s.takeHead h).hold h.n 6).pd h.n = { (s.takeHead h).pd h.n with held := [6] } := by
    rw [State.pd_hold, s.pd_takeHead]
    simp [hheld]
  have hpd : (((s.takeHead h).hold h.n 6).setP h.n (if s.hasContract h.n then 17 else 15)).pd h.n = { (s.takeHead h).pd h.n with held := [6] } :=
    (State.pd_put ..).trans hhold
  have hromHold : ((s.takeHead h).hold h.n 6).ports[h.n].rom = false := by
    rw [State.hold, State.modPd, State.modPort_port_same]
    exact (s.rom_takeHead h).trans hrom
  have hact : endsAms h.n (fun u => u.waitIn h.n) (s.takeHead h) = ((s.takeHead h).hold h.n 6).setP h.n (if s.hasContract h.n then 17 else 15) := by
    rw [State.endsAms_of_sink _ hsink, State.waitIn, if_pos ⟨hsink, (s.ams_takeHead h).trans hams⟩, State.setSink_of_image hromHold, s.hasContract_takeHead]
  obtain ⟨t, ht, hstate, hend, hnoted, hrest⟩ := Next.moves_sink (c := .waitMsg h)
    (w := ((s.takeHead h).hold h.n 6).setP h.n (if s.hasContract h.n then 17 else 15)) rfl hh (by rw [hp]; decide)
    ((State.byGroup_of_pstate_snk hp rfl).trans hact) (.put (beq_self_eq_true _) <| .modPd <| .refl ..)
    ((State.setP_keeps ..).step rfl <| (State.hold_keeps ..).mono rfl) ((State.get_put_apart _ _ rfl).trans (State.get_modPd ..)) hpd ⟨rfl, rfl⟩
  refine ⟨t, ht, hstate.trans ((State.get_put_same _ _ _ (Nat.le_of_ble_eq_true rfl)).trans ?_), by rw [hend], hnoted,
    by rw [State.sends, hend, s.pd_takeHead, List.append_nil], hrest⟩
  split <;> rfl

/-- A DR_Swap that is to wait is tried again, at most three times (R144). -/
theorem State.waitIn_of_swap {s : State} {n : Fin 16} (hp : s.pstate n = 11) (hams : (s.pd n).ams = some .drSwap) (hserv : s.isService n = false)
    (hcon : s.hasContract n = true) :
    s.waitIn n = ((if (s.pd n).drRetries < 3 then s.hold n 5 else s).modPd n (fun d => { d with ams := none })).enterReady n := by
  rw [State.waitIn, if_neg (by rw [hams]; nofun)]
  by_cases hless : (s.pd n).drRetries < 3
  · rw [if_pos ⟨hams, hless⟩, if_pos hless]
    refine State.amsOver_of_swap hp (.trans (State.isService_of_setup ?_) hserv) hcon
    rw [State.hold, State.modPd, State.modPort_port_same]
    rfl
  · rw [if_neg (fun h => hless h.2), if_neg hless]
    exact State.amsOver_of_swap hp hserv hcon

theorem waitMsg_ends (s : State) (h : PdHead) (hh : s.hears h) (hp : s.pstate h.n = 11) (hams : (s.pd h.n).ams = some .drSwap)
    (hserv : s.isService h.n = false) (hcon : s.hasContract h.n = true) (hnone : s.nothingHeld h.n) :
    Next (.waitMsg h) s fun t =>
      t.pstate h.n = 6 ∧ (t.pd h.n).ams = none ∧ (t.pd h.n).held = (if (s.pd h.n).drRetries < 3 then [5] else []) ∧ s.noted t h ∧
      s.portsBut t [h.n] ∧ s.regsBut t [PPD_STATUS.at h.n, PCC_STATUS.at h.n] ∧ t = { s with regs := t.regs, ports := t.ports } := by
  obtain ⟨hheld, hoffer, halert⟩ := hnone
  have hretries : ((s.takeHead h).pd h.n).drRetries = (s.pd h.n).drRetries := by rw [s.pd_takeHead]
  have hactIn := State.waitIn_of_swap (s := s.takeHead h) (n := h.n) ((s.pstate_takeHead h).trans hp) ((s.ams_takeHead h).trans hams)
    ((s.isService_takeHead h).trans hserv) ((s.hasContract_takeHead h).trans hcon)
  rw [hretries] at hactIn
  have ht : (s.takeHead h).Touches h.n (fun a => a == PPD_STATUS.at h.n)
      ((if (s.pd h.n).drRetries < 3 then (s.takeHead h).hold h.n 5 else s.takeHead h).modPd h.n (fun d => { d with ams := none })) :=
    .modPd <| .maybe .modPd <| .refl ..
  have hk : (s.takeHead h).Keeps (pRegs ||| pPorts)
      ((if (s.pd h.n).drRetries < 3 then (s.takeHead h).hold h.n 5 else s.takeHead h).modPd h.n (fun d => { d with ams := none })) :=
    (State.modPd_keeps ..).step rfl (.ite (fun _ => (State.hold_keeps ..).mono rfl) fun _ => .refl ..)
  have hpd : ((if (s.pd h.n).drRetries < 3 then (s.takeHead h).hold h.n 5 else s.takeHead h).modPd h.n (fun d => { d with ams := none })).pd h.n =
      { (s.takeHead h).pd h.n with held := if (s.pd h.n).drRetries < 3 then [5] else [], ams := none } := by
    rw [State.pd_modPd_same]
    split
    · rw [State.pd_hold, s.pd_takeHead]
      simp [hheld]
    · rw [s.pd_takeHead, hheld]
  have hrev : ((if (s.pd h.n).drRetries < 3 then (s.takeHead h).hold h.n 5 else s.takeHead h).modPd h.n (fun d => { d with ams := none })).get (PPD_STATUS.REV h.n) =
      (s.takeHead h).get (PPD_STATUS.REV h.n) := by
    rw [State.get_modPd]
    split
    · exact State.get_modPd ..
    · rfl
  generalize (if (s.pd h.n).drRetries < 3 then (s.takeHead h).hold h.n 5 else s.takeHead h).modPd h.n (fun d => { d with ams := none }) = u at *
  obtain ⟨htouch, hkeeps, hstate, hend, hfields, -⟩ := State.enterReady_spec (s := u) (n := h.n) (by
    rw [State.nothingWaits, hpd, s.pd_takeHead]
    refine ⟨fun k hk => ?_, hoffer, halert⟩
    dsimp only at hk
    split at hk
    · rw [List.mem_singleton.1 hk]
      decide
    · cases hk)
  obtain ⟨t, ht, hready, hdone, hnoted, -, hrest⟩ := Next.enters_ready (c := .waitMsg h) (u := u) rfl hh (by rw [hp]; decide)
    ((State.byGroup_of_pstate_neg hp rfl).trans hactIn) ht hk hrev (by rw [hpd]; exact ⟨rfl, rfl⟩) ⟨htouch, hkeeps, hstate, hend, hfields⟩
  exact ⟨t, ht, hready, by rw [hdone], by rw [hdone, hpd], hnoted, hrest⟩

/-! ### PS_RDY (R148, R154) -/

/-- The registers of a port's loop, Eave and Gutter: what stands above the policy engine's. -/
def driveArea (n : Fin 16) (a : Nat) : Bool := within (portBase n.val + 0x600) (portBase n.val + 0x1000) a

theorem driveArea_off (n : Fin 16) {d : Nat} (h : 0x600 ≤ d ∧ d < 0x1000) : driveArea n (portBase n.val + d) = true := by
  simp [driveArea, within, h]

theorem driveArea_eq_false (n : Fin 16) {d : Nat} (h : d < 0x600) : driveArea n (portBase n.val + d) = false := by
  simp [driveArea, within]
  omega

theorem inPort_of_driveArea {n : Fin 16} {a : Nat} (h : driveArea n a = true) : inPort n a = true := by
  simp only [driveArea, inPort, within, Bool.and_eq_true, decide_eq_true_eq] at h ⊢
  omega

/-- From s to t loop, Eave and legs of port n have been driven; the policy engine stands. -/
structure State.Drives (s : State) (n : Fin 16) (t : State) : Prop where
  touches : s.Touches n (driveArea n) t
  pd : t.pd n = s.pd n

namespace State.Drives

variable {s t u : State} {n : Fin 16}

theorem refl (s : State) (n : Fin 16) : s.Drives n s := ⟨.refl .., rfl⟩

theorem of_eq (h : s.Drives n t) (hr : u.regs = t.regs) (hp : u.ports = t.ports) : s.Drives n u :=
  ⟨h.touches.of_eq hr hp, (State.pd_of_ports hp n).trans h.pd⟩

theorem still {m : Nat} (k : t.Keeps m u) (hr : m.testBit 0 = false) (hp : m.testBit 6 = false) (h : s.Drives n t) : s.Drives n u :=
  h.of_eq (k.regs hr) (k.ports hp)

theorem wrOwn {d : Nat} {v : Word} (hd : 0x600 ≤ d ∧ d < 0x1000) (h : s.Drives n t) : s.Drives n (t.wr (portBase n.val + d) v) :=
  ⟨h.touches.wr (driveArea_off n hd), (State.pd_of_ports (State.wr_ports ..) n).trans h.pd⟩

theorem putOwn {d lo w x : Nat} (hd : 0x600 ≤ d ∧ d < 0x1000) (h : s.Drives n t) : s.Drives n (t.put ⟨portBase n.val + d, lo, w⟩ x) := h.wrOwn hd

theorem modPort {f : PortSt → PortSt} (hf : ∀ x, (f x).gen = x.gen ∧ (f x).pd = x.pd) (h : s.Drives n t) : s.Drives n (t.modPort n f) :=
  ⟨h.touches.modPort fun x => (hf x).1, by rw [State.pd_modPort_same, (hf _).2]; exact h.pd⟩

theorem modLoop {f : LoopSt → LoopSt} (h : s.Drives n t) : s.Drives n (t.modLoop n f) := h.modPort fun _ => ⟨rfl, rfl⟩

theorem ite {c : Prop} [Decidable c] (h : c → s.Drives n t) (g : ¬c → s.Drives n u) : s.Drives n (if c then t else u) := by
  split
  · exact h ‹_›
  · exact g ‹_›

/-- A step that is taken or not. -/
theorem maybe {c : Prop} [Decidable c] (g : s.Drives n t → s.Drives n u) (h : s.Drives n t) : s.Drives n (if c then u else t) := .ite (fun _ => g h) fun _ => h

theorem takeStaged {d : Nat} (hd : 0x600 ≤ d ∧ d < 0x1000) (h : s.Drives n t) : s.Drives n (t.takeStaged (portBase n.val + d)) := by
  unfold State.takeStaged
  split
  · exact h
  · exact .wrOwn hd <| h.of_eq rfl rfl

theorem showCurve (h : s.Drives n t) : s.Drives n (t.showCurve n) := by
  unfold State.showCurve
  extract_lets e top
  cases top with
  | none => exact h.wrOwn (by decide)
  | some d => exact .maybe (.putOwn (by decide)) <| h.wrOwn (by decide)

theorem setCurve {c : Option Curve} (h : s.Drives n t) : s.Drives n (t.setCurve n c) := .showCurve <| h.modPort fun _ => ⟨rfl, rfl⟩

theorem selectCurve {idx iref : Nat} (h : s.Drives n t) : s.Drives n (t.selectCurve n idx iref).1 := by
  have hfst : (t.selectCurve n idx iref).1 = t.takeStagedAll ((List.range 9).map (fun w => PEV_BASE.at n (idx % 16) w)) := by simp only [State.selectCurve]
  rw [hfst]
  refine List.foldlRecOn _ _ h fun u hu a ha => ?_
  obtain ⟨w, hw, rfl⟩ := List.mem_map.1 ha
  have : w < 9 := List.mem_range.1 hw
  rw [PEV_BASE.at, Nat.add_assoc, Nat.add_assoc]
  exact hu.takeStaged (by omega)

theorem beginClose {x : Nat} (h : s.Drives n t) : s.Drives n (t.beginClose n x) :=
  .putOwn (by decide) <| .putOwn (by decide) <| .maybe (.putOwn (by decide)) <| .putOwn (by decide) <| h.takeStaged (by decide)

theorem sinkClose {ma : Nat} (h : s.Drives n t) : s.Drives n (t.sinkClose n ma) := by
  unfold State.sinkClose
  extract_lets t1
  have h1 : s.Drives n t1 := .ite (fun _ => h) fun _ => h.beginClose
  have h2 := h1.selectCurve (idx := 0) (iref := ma)
  split
  · exact h1.setCurve
  · generalize t1.selectCurve n 0 ma = x at h2
    exact h2.setCurve

theorem rateFlags (h : s.Drives n t) : s.Drives n (t.rateFlags n) := .maybe (.putOwn (by decide)) <| .maybe (.putOwn (by decide)) h

theorem showRef (h : s.Drives n t) : s.Drives n (t.showRef n) := .putOwn (by decide) <| .putOwn (by decide) <| h.putOwn (by decide)

theorem startPush (h : s.Drives n t) : s.Drives n (t.startPush n) :=
  .ite (fun _ => h) fun _ => .ite (fun _ => h.modLoop) fun _ => .showRef <| .putOwn (by decide) <| .putOwn (by decide) <| .modLoop <| .rateFlags <|
    .still (State.legsArm_keeps ..) rfl rfl <| h.takeStaged (by decide)

end State.Drives

/-! Eave's state, which a close sets and nothing behind it changes. -/

namespace State.Holds

variable {s t : State} {n : Fin 16}

/-- The field of PEV_STATUS that shows Eave's state. -/
def eaveMark : List (Nat × Nat × Nat) := [(0xa00, 0, 3)]

theorem selectCurve {idx iref : Nat} (h : s.Holds n eaveMark t) : s.Holds n eaveMark (t.selectCurve n idx iref).1 := by
  have hfst : (t.selectCurve n idx iref).1 = t.takeStagedAll ((List.range 9).map (fun w => PEV_BASE.at n (idx % 16) w)) := by simp only [State.selectCurve]
  rw [hfst]
  refine List.foldlRecOn _ _ h fun u hu a ha => ?_
  obtain ⟨w, hw, rfl⟩ := List.mem_map.1 ha
  rw [PEV_BASE.at, Nat.add_assoc, Nat.add_assoc]
  refine hu.takeStaged ?_
  simp [clearOf, eaveMark]
  omega

theorem startPush (h : s.Holds n eaveMark t) : s.Holds n eaveMark (t.startPush n) := by
  exact .ite (fun _ => h) fun _ => .ite (fun _ => h.modPort fun _ => rfl) fun _ => .putOwn (by decide) <| .putOwn (by decide) <| .putOwn (by decide) <|
    .putOwn (by decide) <| .putOwn (by decide) <| .modPort (fun _ => rfl) <| .maybe (.putOwn (by decide)) <| .maybe (.putOwn (by decide)) <|
    .still (State.legsArm_keeps ..) rfl rfl <| h.takeStaged (by decide)

end State.Holds

/-- A service port that may drive its gates closes Eave, or has it closed (R253). -/
theorem State.sinkClose_eaveLive {s : State} {n : Fin 16} (hdrive : s.driveOk n = true) (ma : Nat) : (s.sinkClose n ma).eaveLive n = true := by
  unfold State.sinkClose
  extract_lets t1
  have hlive : t1.eaveLive n = true := by
    by_cases hs : s.eaveLive n = true
    · rw [show t1 = s from if_pos (by rw [hs, Bool.true_or])]
      exact hs
    · rw [show t1 = s.beginClose n 2 from if_neg (by simp [hs, hdrive]), State.eaveLive,
        show (s.beginClose n 2).get (PEV_STATUS.STATE n) = 2 from State.get_put_same _ _ _ (Nat.le_of_ble_eq_true rfl)]
      rfl
  have hmark {w : State} (hw : t1.Holds n State.Holds.eaveMark w) : w.eaveLive n = true := by
    have hstate : w.get (PEV_STATUS.STATE n) = t1.get (PEV_STATUS.STATE n) := hw.marks (0xa00, 0, 3) (by decide)
    rw [State.eaveLive, hstate, ← State.eaveLive, hlive]
  have h2 := (State.Holds.refl t1 n _).selectCurve (idx := 0) (iref := ma)
  split
  · exact hmark ((State.Holds.refl ..).setCurve (by decide) (by decide))
  · generalize t1.selectCurve n 0 ma = x at h2
    exact hmark (h2.setCurve (by decide) (by decide))

/-- Away from Level 1 a port drives its gates from VHV alone (R36, R37). -/
theorem State.vhvOk_of_driveOk {s : State} {n : Fin 16} (hrom : s.ports[n].rom = false) (h : s.driveOk n = true) : s.soffit.vhvOk = true := by
  rw [State.driveOk, hrom, Bool.false_and, Bool.false_and, Bool.or_false] at h
  exact h

/-- The contract that a sink's Request has named. -/
def sinkTransition (pos v10 ma : Nat) (mm : Bool) : Transition :=
  { rdo := sinkRdo pos ma mm, pos := pos, kind := 0, v10 := v10, ma := ma, power := powerW v10 ma, fuseIdx := 0, loopIdx := 0, applied := true }

/-- The state of a sink whose new contract is recorded, in Sink Ready. -/
def State.sinkRecorded (s : State) (n : Fin 16) (w : Transition) : State := ((s.recordContract n w).clear (PPD_STATUS.HRCOUNT n)).setP n 17

theorem State.sinkRecorded_fields (s : State) (n : Fin 16) (w : Transition) :
    (s.sinkRecorded n w).pstate n = 17 ∧ (s.sinkRecorded n w).get (PPD_STATUS.CONTRACT n) = w.contractCode % 4 ∧
      (s.sinkRecorded n w).get (PPD_STATUS.KIND n) = w.kind % 4 ∧ (s.sinkRecorded n w).get (PPD_STATUS.HRCOUNT n) = 0 ∧
      (s.sinkRecorded n w).rd (PPD_CONTRACT.at n) = w.rdo ∧ (s.sinkRecorded n w).get (PPD_CONTRACTVI.V10 n) = w.v10 % 2 ^ (PPD_CONTRACTVI.V10 n).w ∧
      (s.sinkRecorded n w).get (PPD_CONTRACTVI.MA n) = w.ma % 2 ^ (PPD_CONTRACTVI.MA n).w ∧
      (s.sinkRecorded n w).get (PPD_STATUS.REV n) = s.get (PPD_STATUS.REV n) := by
  unfold State.sinkRecorded State.recordContract
  extract_lets t1 t2
  have hend {l : List (Nat × Nat × Nat)} (h1 : clearOf l 0x200 0 5 = true) (h2 : clearOf l 0x200 16 2 = true) {u : State} (h : u.Holds n l t2) :
      u.Holds n l (((t2.modPd n (fun d => { d with contractPos := w.pos, contractPower := w.power })).clear (PPD_STATUS.HRCOUNT n)).setP n 17) :=
    .putOwn h1 <| .putOwn h2 h.modPd
  have hcontract : (s.put (PPD_STATUS.CONTRACT n) w.contractCode).Holds n [(0x200, 10, 2)] t2 :=
    .putOwn (by decide) <| .putOwn (by decide) <| .wrOwn (by decide) <| .putOwn (by decide) <| .refl ..
  have hkind : ((s.put (PPD_STATUS.CONTRACT n) w.contractCode).put (PPD_STATUS.KIND n) w.kind).Holds n [(0x200, 12, 2)] t2 :=
    .putOwn (by decide) <| .putOwn (by decide) <| .wrOwn (by decide) <| .refl ..
  have hrdo : t1.Holds n [(0x220, 0, 32)] t2 := .putOwn (by decide) <| .putOwn (by decide) <| .refl ..
  have hv10 : (t1.put (PPD_CONTRACTVI.V10 n) w.v10).Holds n [(0x224, 0, 16)] t2 := .putOwn (by decide) <| .refl ..
  have hrev : s.Holds n [(0x200, 6, 2)] t2 :=
    .putOwn (by decide) <| .putOwn (by decide) <| .wrOwn (by decide) <| .putOwn (by decide) <| .putOwn (by decide) <| .refl ..
  refine ⟨State.get_put_same _ _ _ (Nat.le_of_ble_eq_true rfl), ?_, ?_, ?_, ?_, ?_, ?_, ?_⟩
  · exact ((hend (by decide) (by decide) hcontract).marks (0x200, 10, 2) (by decide)).trans (State.get_put_same _ _ _ (Nat.le_of_ble_eq_true rfl))
  · exact ((hend (by decide) (by decide) hkind).marks (0x200, 12, 2) (by decide)).trans (State.get_put_same _ _ _ (Nat.le_of_ble_eq_true rfl))
  · rw [State.setP, State.get_put_apart _ _ rfl, State.clear, State.get_put_same _ _ _ (Nat.le_of_ble_eq_true rfl)]
    rfl
  · have hword : (((t2.modPd n (fun d => { d with contractPos := w.pos, contractPower := w.power })).clear (PPD_STATUS.HRCOUNT n)).setP n 17).rd (PPD_CONTRACT.at n) =
        t2.rd (PPD_CONTRACT.at n) := by
      rw [State.setP, State.rd_put_ne _ _ _ _ (by simp), State.clear, State.rd_put_ne _ _ _ _ (by simp), State.rd_of_regs ((State.modPd_keeps ..).regs rfl)]
    rw [hword]
    exact (State.rd_put_ne _ _ _ _ (by simp)).trans ((State.rd_put_ne _ _ _ _ (by simp)).trans (State.rd_wr_same ..))
  · exact ((hend (by decide) (by decide) hv10).marks (0x224, 0, 16) (by decide)).trans (State.get_put_same t1 (PPD_CONTRACTVI.V10 n) _ (Nat.le_of_ble_eq_true rfl))
  · exact ((hend (by decide) (by decide) (.refl t2 n [(0x224, 16, 16)])).marks (0x224, 16, 16) (by decide)).trans
      (State.get_put_same _ (PPD_CONTRACTVI.MA n) _ (Nat.le_of_ble_eq_true rfl))
  · exact (hend (by decide) (by decide) hrev).marks (0x200, 6, 2) (by decide)

theorem State.pd_sinkRecorded (s : State) (n : Fin 16) (w : Transition) :
    (s.sinkRecorded n w).pd n = { s.pd n with contractPos := w.pos, contractPower := w.power } := by
  rw [State.sinkRecorded, State.setP, State.pd_put, State.clear, State.pd_put, State.recordContract, State.pd_modPd_same, State.pd_put, State.pd_put,
    State.pd_of_ports (State.wr_ports ..), State.pd_put, State.pd_put]

theorem State.sinkRecorded_touches (s : State) (n : Fin 16) (w : Transition) : s.Touches n (inPort n) (s.sinkRecorded n w) := by
  have hown {d : Nat} (hd : d < 0x1000) : inPort n (portBase n.val + d) = true := inPort_off n hd
  unfold State.sinkRecorded State.recordContract
  exact .put (hown (by decide)) <| .put (hown (by decide)) <| .modPd <| .put (hown (by decide)) <| .put (hown (by decide)) <| .wr (hown (by decide)) <|
    .put (hown (by decide)) <| .put (hown (by decide)) <| .refl ..

theorem State.sinkRecorded_keeps (s : State) (n : Fin 16) (w : Transition) : s.Keeps (pRegs ||| pPorts) (s.sinkRecorded n w) :=
  (State.setP_keeps ..).step rfl <| (State.clear_keeps ..).step rfl <| (State.recordContract_keeps ..).mono rfl

theorem State.rom_recordContract (s : State) (n : Fin 16) (w : Transition) : (s.recordContract n w).ports[n].rom = s.ports[n].rom := by
  rw [State.recordContract, State.modPd, State.modPort_port_same]
  simp only [State.put, State.wr_ports]

theorem State.sinkReady_of_want {s : State} {n : Fin 16} {pos v10 ma : Nat} {mm : Bool} (hwant : (s.pd n).sinkWant = some (pos, v10, ma, mm)) :
    s.sinkReady n =
      ((((((s.recordContract n (sinkTransition pos v10 ma mm)).clear (PPD_STATUS.HRCOUNT n)).setSink n 17).sinkClose n ma)).startPush n).sinkGo n := by
  rw [State.sinkReady, hwant, sinkTransition]

/-- Sink Ready with the contract recorded, Eave closed and the push started; with nothing held nothing more goes out. -/
theorem State.sinkReady_of_choice {s : State} {n : Fin 16} {pos v10 ma : Nat} {mm : Bool} (hrom : s.ports[n].rom = false)
    (hwant : (s.pd n).sinkWant = some (pos, v10, ma, mm)) (hnone : s.nothingHeld n) :
    s.sinkReady n = (((s.sinkRecorded n (sinkTransition pos v10 ma mm)).sinkClose n ma).startPush n) := by
  obtain ⟨hheld, -, halert⟩ := hnone
  have himage : ((s.recordContract n (sinkTransition pos v10 ma mm)).clear (PPD_STATUS.HRCOUNT n)).ports[n].rom = false := by
    rw [(State.clear_keeps ..).ports rfl, s.rom_recordContract]
    exact hrom
  rw [State.sinkReady_of_want hwant, State.setSink_of_image himage, ← State.sinkRecorded]
  have hpd := s.pd_sinkRecorded n (sinkTransition pos v10 ma mm)
  generalize s.sinkRecorded n (sinkTransition pos v10 ma mm) = u at *
  have hdriven : u.Drives n ((u.sinkClose n ma).startPush n) := (State.Drives.refl ..).sinkClose.startPush
  rw [State.sinkGo_of_nothingOwed] <;> rw [hdriven.pd, hpd]
  · exact halert
  · rw [hheld]
    nofun

theorem psRdy_takes_contract (s : State) (h : PdHead) (pos v10 ma : Nat) (mm : Bool) (hh : s.hears h) (hp : s.pstate h.n = 16) (hrom : s.ports[h.n].rom = false)
    (hwant : (s.pd h.n).sinkWant = some (pos, v10, ma, mm)) (hdrive : s.driveOk h.n = true) (hnone : s.nothingHeld h.n) :
    Next (.psRdy h) s fun t =>
      t.pstate h.n = 17 ∧ t.get (PPD_STATUS.CONTRACT h.n) = (if 7 < pos then 2 else 1) ∧ t.get (PPD_STATUS.KIND h.n) = 0 ∧ t.get (PPD_STATUS.HRCOUNT h.n) = 0 ∧
      t.rd (PPD_CONTRACT.at h.n) = sinkRdo pos ma mm ∧ t.get (PPD_CONTRACTVI.V10 h.n) = v10 % 2 ^ (PPD_CONTRACTVI.V10 h.n).w ∧
      t.get (PPD_CONTRACTVI.MA h.n) = ma % 2 ^ (PPD_CONTRACTVI.MA h.n).w ∧ t.eaveLive h.n = true ∧ s.noted t h ∧
      s.portsBut t [h.n] ∧ s.regsKept t (fun a => inPort h.n a || inSlices a) ∧ s.farKept t := by
  have hsink : (s.takeHead h).sink h.n = 16 := State.sink_of_pstate ((s.pstate_takeHead h).trans hp) (by decide)
  have hact : (if (s.takeHead h).sink h.n = 16 then (s.takeHead h).sinkReady h.n else (s.takeHead h).softReset h.n) =
      ((((s.takeHead h).sinkRecorded h.n (sinkTransition pos v10 ma mm)).sinkClose h.n ma).startPush h.n) :=
    (if_pos hsink).trans (State.sinkReady_of_choice (s := s.takeHead h) ((s.rom_takeHead h).trans hrom) (by rw [s.pd_takeHead]; exact hwant)
    (by rwa [State.nothingHeld, s.pd_takeHead]))
  obtain ⟨hstate, hcon, hkind, hcount, hrdo, hv10, hma, hrev⟩ := (s.takeHead h).sinkRecorded_fields h.n (sinkTransition pos v10 ma mm)
  have hpd := (s.takeHead h).pd_sinkRecorded h.n (sinkTransition pos v10 ma mm)
  have htaken := (s.takeHead_touches h).mono (q := inPort h.n) (inPort_of_status (by decide)) |>.trans ((s.takeHead h).sinkRecorded_touches h.n (sinkTransition pos v10 ma mm))
  have hk := ((s.takeHead h).sinkRecorded_keeps h.n (sinkTransition pos v10 ma mm)).step (m := pRegs ||| pPorts) rfl (s.takeHead_keeps h)
  have hlive : ((s.takeHead h).sinkRecorded h.n (sinkTransition pos v10 ma mm)).driveOk h.n = true := by
    rw [State.driveOk, hk.soffit rfl, State.vhvOk_of_driveOk hrom hdrive, Bool.true_or]
  generalize (s.takeHead h).sinkRecorded h.n (sinkTransition pos v10 ma mm) = u at *
  have hclosed := u.sinkClose_eaveLive hlive ma
  have hdriven : u.Drives h.n ((u.sinkClose h.n ma).startPush h.n) := (State.Drives.refl ..).sinkClose.startPush
  have hpush : (u.sinkClose h.n ma).Holds h.n State.Holds.eaveMark ((u.sinkClose h.n ma).startPush h.n) := (State.Holds.refl ..).startPush
  have hkeeps : s.Keeps (pRegs ||| pStaged ||| pPorts ||| pSlices) ((u.sinkClose h.n ma).startPush h.n) :=
    (State.startPush_keeps ..).step rfl <| (State.sinkClose_keeps ..).step rfl <| hk.mono rfl
  generalize (u.sinkClose h.n ma).startPush h.n = e at *
  have hlow {d lo w : Nat} (hd : d < 0x600) : e.get ⟨portBase h.n.val + d, lo, w⟩ = u.get ⟨portBase h.n.val + d, lo, w⟩ :=
    hdriven.touches.regs.get (driveArea_eq_false h.n hd)
  have hall : s.Touches h.n (inPort h.n) e := htaken.trans (hdriven.touches.mono fun _ => inPort_of_driveArea)
  obtain ⟨hregs, hports⟩ := hall.report s
  refine .of_received rfl hh (by rw [hp]; decide) ((State.byGroup_of_pstate_snk hp rfl).trans hact) hall (fun _ h => h)
    ⟨(State.get_report ..).trans ((hlow (by decide)).trans hstate), ?_, (State.get_report ..).trans ((hlow (by decide)).trans hkind),
      (State.get_report ..).trans ((hlow (by decide)).trans hcount), ?_, (State.get_report ..).trans ((hlow (by decide)).trans hv10),
      (State.get_report ..).trans ((hlow (by decide)).trans hma), ?_, State.noted_of ?_ ?_ ((State.get_report ..).trans ((hlow (by decide)).trans hrev)), hports,
      hregs.mono fun a ha => (Bool.or_eq_false_iff.1 ha).1, State.farKept_of_keeps ((State.report_keeps ..).step rfl (hkeeps.mono rfl))⟩
  · rw [State.get_report, hlow (by decide), hcon, Transition.contractCode]
    change (if 7 < pos then 2 else 1) % 4 = _
    split <;> rfl
  · rw [State.rd_report, hdriven.touches.regs _ (driveArea_eq_false h.n (by decide)), hrdo]
    rfl
  · have hstands : e.get (PEV_STATUS.STATE h.n) = (u.sinkClose h.n ma).get (PEV_STATUS.STATE h.n) := hpush.marks (0xa00, 0, 3) (by decide)
    rw [State.eaveLive, State.get_report, hstands, ← State.eaveLive, hclosed]
  · rw [State.pd_report, hdriven.pd, hpd]
  · rw [State.pd_report, hdriven.pd, hpd]

/-! ### Not_Supported -/

theorem psRdy_resets (s : State) (h : PdHead) (hh : s.hears h) (hp : s.pstate h.n = 6) (hserv : s.isService h.n = false) :
    Next (.psRdy h) s fun t => s.sentSoft t h.n :=
  .sends_soft rfl hh (by rw [hp]; decide) hserv (State.byGroup_of_pstate_ready hp rfl)

theorem notSupported_ignored (s : State) (h : PdHead) (hh : s.hears h) (hp : s.pstate h.n = 6) (hams : (s.pd h.n).ams = none) :
    Next (.notSupported h) s fun t => s.answers t h [] :=
  .answers_none rfl hh (by rw [hp]; decide) ((State.byGroup_of_pstate_ready hp rfl).trans (if_neg (by
    simp [State.awaits, s.ams_takeHead, hams, State.sink_of_pstate ((s.pstate_takeHead h).trans hp) (by decide)])))

theorem notSupported_ends (s : State) (h : PdHead) (a : MsgName) (hh : s.hears h) (hp : s.pstate h.n = 6) (hams : (s.pd h.n).ams = some a)
    (hserv : s.isService h.n = false) (hnone : s.nothingHeld h.n) :
    Next (.notSupported h) s fun t =>
      t.pstate h.n = 6 ∧ (t.pd h.n).ams = none ∧ s.noted t h ∧ s.sends t h.n [] ∧
      s.portsBut t [h.n] ∧ s.regsBut t [PPD_STATUS.at h.n, PCC_STATUS.at h.n] ∧ t = { s with regs := t.regs, ports := t.ports } := by
  have hactIn : (if (s.takeHead h).awaits h.n then (s.takeHead h).amsOver h.n else s.takeHead h) = (s.takeHead h).endAms h.n :=
    (if_pos (by simp [State.awaits, s.ams_takeHead, hams])).trans (if_pos (.inr ((s.pstate_takeHead h).trans hp)))
  obtain ⟨htouch, hkeeps, hstate, hend, hfields, -⟩ := State.endAms_spec (s := s.takeHead h) (n := h.n) ((s.isService_takeHead h).trans hserv)
    (by rwa [State.nothingHeld, s.pd_takeHead])
  obtain ⟨t, ht, hready, hdone, hnoted, -, hrest⟩ := Next.enters_ready (c := .notSupported h) (u := s.takeHead h)
    (d := { (s.takeHead h).pd h.n with ams := none }) rfl hh (by rw [hp]; decide)
    ((State.byGroup_of_pstate_ready hp rfl).trans hactIn) (.refl ..) (.refl ..) rfl ⟨rfl, rfl⟩ ⟨htouch, hkeeps, hstate, hend, hfields⟩
  exact ⟨t, ht, hready, by rw [hdone], hnoted, by rw [State.sends, hdone, s.pd_takeHead, List.append_nil], hrest⟩

/-- Settles O25: what an answer ends, by the state that awaits it; an answer that nothing awaits is met with Soft_Reset. -/
theorem answersToThePort : Obligations.AnswersToThePort := by
  unfold Obligations.AnswersToThePort
  exact ⟨acceptMsg_offers, acceptMsg_swaps, acceptMsg_selects, acceptMsg_resets, rejectMsg_sink, rejectMsg_ends, waitMsg_sink, waitMsg_ends, psRdy_takes_contract,
    psRdy_resets, notSupported_ignored, notSupported_ends⟩

end Sys2Proof.Machine
end

section
/-!
SUPPORT. The Hard Reset of a service port (R149): Eave open, the stage off, no contract, the sink machine in state 18.
-/

namespace Sys2Proof.Machine

/-! ### Fields below the loop's, while the stage stops and Eave opens -/

/-- Do the listed fields lie below the registers of the loop, Eave and Gutter? -/
def lowMarks (l : List (Nat × Nat × Nat)) : Bool := l.all fun x => decide (x.1 < 0x600) && decide (x.2.1 + x.2.2 ≤ 32)

theorem clearOf_of_lowMarks {l : List (Nat × Nat × Nat)} (hl : lowMarks l = true) {d lo w : Nat} (hd : 0x600 ≤ d) : clearOf l d lo w = true := by
  simp only [lowMarks, clearOf, List.all_eq_true, Bool.and_eq_true, decide_eq_true_eq] at hl ⊢
  exact fun x hx => ⟨.inl (by have := (hl x hx).1; omega), (hl x hx).2⟩

namespace State.Holds

variable {s t u : State} {n : Fin 16} {l : List (Nat × Nat × Nat)}

theorem putHigh (hl : lowMarks l = true) {d lo w x : Nat} (hd : 0x600 ≤ d) (h : s.Holds n l t) : s.Holds n l (t.put ⟨portBase n.val + d, lo, w⟩ x) :=
  h.putOwn (clearOf_of_lowMarks hl hd)

theorem wrHigh (hl : lowMarks l = true) {d : Nat} {v : Word} (hd : 0x600 ≤ d) (h : s.Holds n l t) : s.Holds n l (t.wr (portBase n.val + d) v) :=
  h.wrOwn (clearOf_of_lowMarks hl hd)

theorem discharge (hl : lowMarks l = true) (h : s.Holds n l t) : s.Holds n l (t.discharge n) :=
  .maybe (fun h => .putHigh hl (by decide) <| .putHigh hl (by decide) <| h.putHigh hl (by decide)) h

theorem putOutside (hl : lowMarks l = true) {f : Fld} {x : Nat} (ha : inPort n f.addr = false) (h : s.Holds n l t) : s.Holds n l (t.put f x) := by
  refine h.trans ⟨fun y hy => State.get_put_ne _ _ (ownFld n y) _ ?_, rfl⟩
  simp only [lowMarks, List.all_eq_true, Bool.and_eq_true, decide_eq_true_eq] at hl
  rintro he
  rw [← he, inPort_off n (by have := (hl y hy).1; omega)] at ha
  cases ha

theorem srSafe (hl : lowMarks l = true) (h : s.Holds n l t) : s.Holds n l t.srSafe :=
  .maybe (.putOutside hl (by
    simp [inPort, within, portBase, THA_SRSTAT.at]
    omega)) h

theorem seeVbus (hl : lowMarks l = true) {below : Bool} (h : s.Holds n l t) : s.Holds n l (t.seeVbus n below) := .maybe (.srSafe hl) <| h.putHigh hl (by decide)

theorem seeRamp (hl : lowMarks l = true) (h : s.Holds n l t) : s.Holds n l (t.seeRamp n) := .maybe (fun h => .seeVbus hl <| h.of_eq rfl rfl) h

theorem eaveOpen (hl : lowMarks l = true) (h : s.Holds n l t) : s.Holds n l (t.eaveOpen n) :=
  .discharge hl <| .putHigh hl (by decide) <| .putHigh hl (by decide) <| .modPort (fun _ => rfl) <| .wrHigh hl (by decide) <| .modPort (fun _ => rfl) <|
    .putHigh hl (by decide) <| h.seeRamp hl

theorem legsOff (hl : lowMarks l = true) (h : s.Holds n l t) : s.Holds n l (t.legsOff n) := by
  refine h.trans ⟨fun x hx => ?_, by rw [(State.legsOff_keeps ..).ports rfl]⟩
  simp only [lowMarks, List.all_eq_true, Bool.and_eq_true, decide_eq_true_eq] at hl
  obtain ⟨hx, -⟩ := hl x hx
  exact State.get_of_rd (f := ownFld n x) (State.rd_legsOff _ _ (by simp; omega) (not_inSlices_of_inPort (inPort_off n (by omega))))

theorem setSink (hl : clearOf l 0x200 0 5 = true) {x : Nat} (h : s.Holds n l t) : s.Holds n l (t.setSink n x) := .ite (fun _ => .putOwn hl h.modPd) fun _ => .putOwn hl h

end State.Holds

/-! ### The sink machine -/

theorem State.sink_setSink (s : State) (n : Fin 16) {x : Nat} (hx : x < 20) : (s.setSink n x).sink n = x := by
  unfold State.setSink
  split
  · have hstate : ((s.modPd n (fun d => { d with sub := x })).setP n 20).pstate n = 20 := State.get_put_same _ _ _ (Nat.le_of_ble_eq_true rfl)
    rw [State.sink, if_pos hstate, State.setP, State.pd_put, State.pd_modPd_same]
  · have hstate : (s.setP n x).pstate n = x := (State.get_put_same _ _ _ (Nat.le_of_ble_eq_true rfl)).trans
      (Nat.mod_eq_of_lt (Nat.lt_trans hx (show 20 < 2 ^ 5 by decide)))
    rw [State.sink, if_neg (by rw [hstate]; omega), hstate]

theorem State.ActsOn.setSink {s t : State} {n : Fin 16} {b : Bool} {Q : Nat → Prop} {x : Nat} (h : s.ActsOn n b Q t) : s.ActsOn n b Q (t.setSink n x) :=
  .ite (fun _ => .putOwn (by decide) h.modPd) fun _ => h.putOwn (by decide)

/-- The stage stands while the sink machine moves. -/
theorem State.stageOn_setSink (s : State) (n : Fin 16) (x : Nat) : (s.setSink n x).stageOn n = s.stageOn n := by
  have hput (u : State) : (u.setP n x).stageOn n = u.stageOn n := State.Quells.stageOn_wrOwn u (by decide) _ n
  unfold State.setSink
  split
  · exact (State.Quells.stageOn_wrOwn _ (by decide) _ n).trans (State.stageOn_of ((State.modPd_keeps ..).slices rfl) (fun _ => rfl) n)
  · exact hput s

/-- The counts of a Hard Reset of a service port: one that restarts state 18 counts no second entry. -/
def State.sinkResetFirst (s : State) (n : Fin 16) : State :=
  let t := ((s.swLeave n).leaveHand n).satInc (PPD_COUNT.HARD n)
  if s.sink n = 18 then t else t.satInc (PPD_STATUS.HRCOUNT n)

/-- The rest of it. -/
def State.sinkResetRest (s : State) (n : Fin 16) : State :=
  let u := if s.eaveLive n then s.eaveOpen n else s
  let u := ((u.legsOff n).protoReset n).noContract n
  ((u.freshRev n).modPd n (fun d => { d with sinkWant := none, firstSeen := false, held := d.held.filter (fun k => k == 3) })).setSink n 18

theorem State.hardReset_of_service {s : State} {n : Fin 16} (hp : s.pstate n ≠ 0) (hserv : s.isService n = true) :
    s.hardReset n = (s.sinkResetFirst n).sinkResetRest n := by
  rw [State.hardReset, if_neg hp]
  dsimp only
  rw [if_pos hserv]
  rfl

theorem State.sinkResetRest_spec (s : State) (n : Fin 16) :
    (s.sinkResetRest n).sink n = 18 ∧ (s.sinkResetRest n).eaveLive n = false ∧ (s.sinkResetRest n).stageOn n = false ∧
      (s.sinkResetRest n).get (PPD_STATUS.CONTRACT n) = 0 ∧ (s.sinkResetRest n).get (PPD_STATUS.HRCOUNT n) = s.get (PPD_STATUS.HRCOUNT n) := by
  unfold State.sinkResetRest
  extract_lets u v
  have hu : u.eaveLive n = false := by
    by_cases hlive : s.eaveLive n = true
    · rw [show u = s.eaveOpen n from if_pos hlive]
      exact (s.eaveOpen_quells n).2
    · rw [show u = s from if_neg hlive]
      exact Bool.eq_false_iff.2 hlive
  have hcount : s.Holds n [(0x200, 16, 2)] u := .ite (fun _ => .eaveOpen rfl <| .refl ..) fun _ => .refl ..
  have hcontract : v.Holds n [(0x200, 10, 2)] ((v.freshRev n).modPd n (fun d => { d with sinkWant := none, firstSeen := false, held := d.held.filter (fun k => k == 3) })) :=
    .modPd <| .putOwn (by decide) <| .refl ..
  have hquells : (u.legsOff n).Quells n ((v.freshRev n).modPd n (fun d => { d with sinkWant := none, firstSeen := false, held := d.held.filter (fun k => k == 3) })) :=
    .modPd <| .putOwn (by decide) <| .noContract <| .modPd <| .refl ..
  have hrest : u.Holds n [(0x200, 16, 2)] ((v.freshRev n).modPd n (fun d => { d with sinkWant := none, firstSeen := false, held := d.held.filter (fun k => k == 3) })) :=
    .modPd <| .putOwn (by decide) <| .noContract (by decide) (by decide) (by decide) <| .modPd <| .legsOff rfl <| .refl ..
  have hoff : (u.legsOff n).eaveLive n = false := (State.Quells.legsOff <| .refl u n).eaveLive_false hu
  have hzero : v.get (PPD_STATUS.CONTRACT n) = 0 := State.noContract_marks _ n (0x200, 10, 2) (by decide)
  generalize (v.freshRev n).modPd n (fun d => { d with sinkWant := none, firstSeen := false, held := d.held.filter (fun k => k == 3) }) = e at *
  have hlast : e.Holds n [(0xa00, 0, 3), (0x200, 10, 2), (0x200, 16, 2)] (e.setSink n 18) := .setSink (by decide) <| .refl ..
  refine ⟨State.sink_setSink e n (by decide), ?_, ?_, ?_, ?_⟩
  · have hstands : (e.setSink n 18).get (PEV_STATUS.STATE n) = e.get (PEV_STATUS.STATE n) := hlast.marks (0xa00, 0, 3) (by decide)
    rw [State.eaveLive, hstands, ← State.eaveLive]
    exact hquells.eaveLive_false hoff
  · rw [State.stageOn_setSink]
    exact hquells.stage (State.stageOn_legsOff ..)
  · exact (hlast.marks (0x200, 10, 2) (by decide)).trans ((hcontract.marks (0x200, 10, 2) (by decide)).trans hzero)
  · exact (hlast.marks (0x200, 16, 2) (by decide)).trans ((hrest.marks (0x200, 16, 2) (by decide)).trans (hcount.marks (0x200, 16, 2) (by decide)))

theorem State.sinkResetFirst_hrcount {s : State} {n : Fin 16} (hsink : s.sink n ≠ 18) :
    (s.sinkResetFirst n).get (PPD_STATUS.HRCOUNT n) = min (s.get (PPD_STATUS.HRCOUNT n) + 1) (2 ^ (PPD_STATUS.HRCOUNT n).w - 1) := by
  have hleft : s.Holds n [(0x200, 16, 2)] (((s.swLeave n).leaveHand n).satInc (PPD_COUNT.HARD n)) := .satInc (by decide) <| .leaveHand <| .swLeave <| .refl ..
  rw [State.sinkResetFirst]
  dsimp only
  rw [if_neg hsink, State.get_satInc_same _ (PPD_STATUS.HRCOUNT n) (Nat.le_of_ble_eq_true rfl), hleft.marks (0x200, 16, 2) (by decide)]

theorem State.hardReset_actsOn_sink {s : State} {n : Fin 16} (hp : s.pstate n ≠ 0) (hserv : s.isService n = true) :
    s.ActsOn n true (fun _ => True) (s.hardReset n) := by
  rw [State.hardReset_of_service hp hserv]
  have hleft : s.ActsOn n true (fun _ => True) ((s.swLeave n).leaveHand n) := .leaveHand <| .swLeave <| .start ..
  have hone : s.ActsOn n true (fun _ => True) (((s.swLeave n).leaveHand n).satInc (PPD_COUNT.HARD n)) := hleft.putOwn (by decide)
  have hfirst : s.ActsOn n true (fun _ => True) (s.sinkResetFirst n) := .ite (fun _ => hone) fun _ => hone.putOwn (by decide)
  exact .setSink <| .modPd <| .freshRev <| .noContract <| .modPd <| .legsOff <| .maybe .eaveOpen hfirst

/-- The Hard Reset of a service port (R149). -/
theorem State.hardReset_sink {s : State} {n : Fin 16} (hp : s.pstate n ≠ 0) (hserv : s.isService n = true) :
    (s.hardReset n).sink n = 18 ∧ (s.hardReset n).eaveLive n = false ∧ (s.hardReset n).stageOn n = false ∧ (s.hardReset n).get (PPD_STATUS.CONTRACT n) = 0 ∧
      (s.sink n ≠ 18 → (s.hardReset n).get (PPD_STATUS.HRCOUNT n) = min (s.get (PPD_STATUS.HRCOUNT n) + 1) (2 ^ (PPD_STATUS.HRCOUNT n).w - 1)) := by
  obtain ⟨hsink, heave, hstage, hcontract, hcount⟩ := (s.sinkResetFirst n).sinkResetRest_spec n
  rw [State.hardReset_of_service hp hserv]
  exact ⟨hsink, heave, hstage, hcontract, fun hne => hcount.trans (State.sinkResetFirst_hrcount hne)⟩

/-! ### The detach of a service port (R104, R106, R149) -/

/-- The classifications of the pins, the latch and the count of Hard Resets: neither ErrorRecovery nor a detach writes them. -/
def stillMarks : List (Nat × Nat × Nat) := [(0, 6, 2), (0, 8, 2), (0, 17, 1), (0x280, 16, 8)]

namespace State.Holds

variable {s t u : State} {n : Fin 16}

theorem pdReset (h : s.Holds n stillMarks t) : s.Holds n stillMarks (t.pdReset n) := by
  unfold State.pdReset
  extract_lets t1 t2 t3 t4
  have h1 : s.Holds n stillMarks t1 := .modPd <| h.noContract (by decide) (by decide) (by decide)
  have h2 : s.Holds n stillMarks t2 := .putOwn (by decide) <| .putOwn (by decide) <| .putOwn (by decide) <| h1.putOwn (by decide)
  have h3 : s.Holds n stillMarks t3 := List.foldlRecOn (List.range 11) _ (h2.wrOwn (by decide)) fun v hv k hk => by
    have := List.mem_range.1 hk
    rw [PPD_OFFER.at, Nat.add_assoc]
    refine hv.wrOwn ?_
    simp [clearOf, stillMarks]
    omega
  have h4 : s.Holds n stillMarks t4 := .put (by decide) <| h3.modPort fun _ => rfl
  exact .allocToFloor <| h4.putOwn (by decide)

theorem settleCurve (h : s.Holds n stillMarks t) : s.Holds n stillMarks (t.settleCurve n) := h.setCurve (by decide) (by decide)

theorem leaveAttach (h : s.Holds n stillMarks t) : s.Holds n stillMarks (t.leaveAttach n) :=
  .putOwn (by decide) <| .putOwn (by decide) <| .putOwn (by decide) <| .putOwn (by decide) <| .putOwn (by decide) <| .modPort (fun _ => rfl) <| h.putOwn (by decide)

theorem clearCable (h : s.Holds n stillMarks t) : s.Holds n stillMarks (t.clearCable n) :=
  .wrOwn (by decide) <| .wrOwn (by decide) <| .wrOwn (by decide) <| .wrOwn (by decide) <| h.wrOwn (by decide)

end State.Holds

theorem State.Quells.takeStaged {s t : State} {n : Fin 16} {d : Nat} (hd : d < 0x1000 ∧ d ≠ 0x4 ∧ ∀ x ∈ workMarks, x.1 ≠ d) (h : s.Quells n t) :
    s.Quells n (t.takeStaged (portBase n.val + d)) := by
  unfold State.takeStaged
  split
  · exact h
  · exact .wrOwn hd <| h.of_eq rfl rfl rfl

/-- A service port shows no Rp. -/
theorem State.showRp_of_service {s : State} {n : Fin 16} (h : s.isService n = true) : s.showRp n = s := by
  have hsrc : s.isSource n = false := Bool.eq_false_iff.2 fun hs => by
    rw [State.isService_of_isSource hs] at h
    cases h
  exact if_neg (by simp [hsrc])

/-- A service port goes to Unattached.SNK, or waits for its attach where a classification stands and no check withholds it (R106, R280); nothing of it runs. -/
theorem State.enterUnattached_sink {s : State} {n : Fin 16} (hs : s.isService n = true) :
    (s.enterUnattached n).cc n = (if s.someRd n && !s.ports[n].val.first then ccAttachWaitSnk else ccUnattachedSnk) ∧ s.Quells n (s.enterUnattached n) := by
  unfold State.enterUnattached
  extract_lets t1 t2 t3
  have ha : s.ActsOn n true (fun _ => True) t2 :=
    .modPort (fun _ => rfl) <| .putOwn (by decide) <| .putOwn (by decide) <| .takeStaged (by decide) <| .takeStaged (by decide) <| .start s n true
  have hq : s.Quells n t2 :=
    .modPort (fun _ => rfl) <| .putOwn (by decide) <| .putOwn (by decide) <| .takeStaged (by decide) <| .takeStaged (by decide) <| .refl s n
  have hh : s.Holds n [(0, 6, 2), (0, 8, 2)] t2 :=
    .modPort (fun _ => rfl) <| .putOwn (by decide) <| .putOwn (by decide) <| .takeStaged (by decide) <| .takeStaged (by decide) <| .refl ..
  have h3 : t3 = (t2.setCc n ccUnattachedSnk).driveRd n true := if_pos ((ha.isService n).trans hs)
  have hcc : t3.cc n = ccUnattachedSnk := by
    rw [h3]
    exact (State.ActsOn.driveRd <| ha.setCc (Q := fun x => x = ccUnattachedSnk) rfl).cc
  have hserv : t3.isService n = true := by
    rw [h3]
    exact ((State.ActsOn.driveRd <| ha.setCc (Q := fun _ => True) trivial).isService n).trans hs
  have hf3 : t2.Frees n t3 := by
    rw [h3]
    exact (State.Frees.setCc <| .refl ..).driveRd
  have hq3 : s.Quells n t3 := by
    rw [h3]
    exact hq.setCc.driveRd
  have hval : t3.ports[n].val.first = s.ports[n].val.first := by
    have h23 : t3.ports = t2.ports := by
      rw [h3]
      exact ((State.driveRd_keeps ..).step (m := pRegs ||| pBoot) rfl <| (State.setCc_keeps ..).mono rfl).ports rfl
    rw [h23]
    exact congrArg (fun x => x.2.first) hh.shown
  have hrd : t3.someRd n = s.someRd n := by
    rw [hf3.someRd]
    simp only [State.someRd, State.cls1, State.cls2]
    rw [show t2.get (PCC_STATUS.CC1CLS n) = _ from hh.marks (0, 6, 2) (by decide), show t2.get (PCC_STATUS.CC2CLS n) = _ from hh.marks (0, 8, 2) (by decide)]
  rw [hval]
  by_cases hfirst : s.ports[n].val.first = true
  · rw [if_pos hfirst, hcc, hfirst, Bool.not_true, Bool.and_false, if_neg Bool.false_ne_true]
    exact ⟨rfl, hq3⟩
  rw [if_neg hfirst, Bool.eq_false_iff.2 hfirst, Bool.not_false, Bool.and_true, State.candidate, hrd]
  by_cases hsome : s.someRd n = true
  · rw [if_pos hsome, if_pos hsome, hserv, if_pos rfl, State.cc, State.get_of_regs ((State.firePort_keeps ..).regs rfl), State.setCc,
      State.get_put_same _ _ _ (Nat.le_of_ble_eq_true rfl)]
    refine ⟨rfl, .still (State.firePort_keeps ..) rfl rfl rfl <| .setCc ?_⟩
    rw [State.stopCheck, State.showRp_of_service]
    · exact .putOwn (by decide) <| hq3.modPort fun _ => rfl
    · refine (State.isService_put ..).trans ((State.isService_of_setup ?_).trans hserv)
      rw [State.modPort_port_same]
      rfl
  · rw [if_neg hsome, if_neg hsome, hcc]
    exact ⟨rfl, hq3⟩

/-- A detach of a service port: Eave open, the stage off, the policy engine in its first state, the attach anew. -/
theorem State.detach_sink {s : State} {n : Fin 16} (hs : s.isService n = true) :
    s.ActsOn n false (fun _ => True) (s.detach n) ∧
      (s.detach n).cc n = (if s.someRd n && !s.ports[n].val.first then ccAttachWaitSnk else ccUnattachedSnk) ∧
      (s.detach n).pstate n = 0 ∧ (s.detach n).eaveLive n = false ∧ (s.detach n).stageOn n = false := by
  unfold State.detach
  extract_lets l t1 t2 t3
  have ha1 : s.ActsOn n false (fun _ => True) t1 := .ite (fun _ => .eaveOpen <| .swLeave <| .leaveHand <| .start ..) fun _ => .swLeave <| .leaveHand <| .start ..
  have ha3 : s.ActsOn n false (fun _ => True) t3 := .still (.clearCable <| .settleCurve <| .leaveAttach <| .dropOps ha1.legsOff.pdReset) (State.firePort_keeps ..) rfl rfl rfl
  have hh1 : s.Holds n stillMarks t1 := .ite (fun _ => .eaveOpen rfl <| .swLeave <| .leaveHand <| .refl ..) fun _ => .swLeave <| .leaveHand <| .refl ..
  have hh3 : s.Holds n stillMarks t3 :=
    .still (State.firePort_keeps ..) rfl rfl <| .clearCable <| .settleCurve <| .leaveAttach <| .dropOps (by decide) (by decide) <| .pdReset <| hh1.legsOff rfl
  have hopen : t1.eaveLive n = false := by
    by_cases hlive : l.eaveLive n = true
    · rw [show t1 = (l.swLeave n).eaveOpen n from if_pos hlive]
      exact (State.eaveOpen_quells ..).2
    · rw [show t1 = l.swLeave n from if_neg hlive]
      exact (State.Quells.swLeave <| .refl l n).eaveLive_false (Bool.eq_false_iff.2 hlive)
  obtain ⟨hreset, hfirst⟩ := (t1.legsOff n).pdReset_quells n
  have hafter : ((t1.legsOff n).pdReset n).Quells n t3 :=
    .still (State.firePort_keeps ..) rfl rfl rfl <| .clearCable <| .settleCurve <| .leaveAttach <| .dropOps <| .refl ..
  have hserv : t3.isService n = true := (ha3.isService n).trans hs
  obtain ⟨hcc, hquells⟩ := State.enterUnattached_sink hserv
  have hrd : t3.someRd n = s.someRd n := by
    simp only [State.someRd, State.cls1, State.cls2]
    rw [show t3.get (PCC_STATUS.CC1CLS n) = _ from hh3.marks (0, 6, 2) (by decide), show t3.get (PCC_STATUS.CC2CLS n) = _ from hh3.marks (0, 8, 2) (by decide)]
  have hval : t3.ports[n].val.first = s.ports[n].val.first := congrArg (fun x => x.2.first) hh3.shown
  rw [hrd, hval] at hcc
  rw [if_pos hserv]
  exact ⟨ha3.enterUnattached (fun _ => ⟨trivial, trivial⟩) fun _ => ⟨trivial, trivial⟩, hcc, (hafter.trans hquells).pstate_zero hfirst,
    (hreset.trans (hafter.trans hquells)).eaveLive_false ((State.Quells.legsOff <| .refl t1 n).eaveLive_false hopen),
    (hreset.trans (hafter.trans hquells)).stage (State.stageOn_legsOff ..)⟩

end Sys2Proof.Machine
end

section
/-!
PROOF. O27: the sink policy of a service port (R148, R149, R152).
-/

namespace Sys2Proof.Machine

/-! ### The Sink Hard Reset and the detach (R149) -/

theorem State.farKept_report {s w : State} (n : Fin 16)
    (hk : s.Keeps (pRegs ||| pStaged ||| pFreeCtr ||| pRidge ||| pBat ||| pPorts ||| pSlices ||| pJtl ||| pBoot) w) (hb : w.boot = { s.boot with rd := w.boot.rd }) :
    s.farKept (s.report n w) :=
  State.farKept_of_rd ((State.report_keeps ..).step rfl hk) (by rw [(State.report_keeps s n w).boot rfl]; exact hb)

theorem State.sink_report (b s : State) (n m : Fin 16) : (b.report m s).sink n = s.sink n := by
  rw [State.sink, State.pstate, b.get_report, ← State.pstate, b.pd_report, ← State.sink]

theorem State.eaveLive_report (b s : State) (n m : Fin 16) : (b.report m s).eaveLive n = s.eaveLive n := by
  simp only [State.eaveLive, State.get_report]

theorem State.stageOn_report (b s : State) (n m : Fin 16) : (b.report m s).stageOn n = s.stageOn n :=
  State.stageOn_of ((State.report_keeps ..).slices rfl) (fun _ => b.rd_report ..) n

theorem State.pstate_of_sink {s : State} {n : Fin 16} {x : Nat} (h : s.sink n = x) (hx : x ≠ 0) : s.pstate n ≠ 0 := by
  intro h0
  rw [State.sink, if_neg (by rw [h0]; decide), h0] at h
  exact hx h.symm

/-- A timer that ends in the Hard Reset of its service port. -/
theorem Next.resets_sink {c : Instr} {s : State} {n : Fin 16} {x : Nat} (hexec : exec c s = done1 n s (s.hardReset n)) (hsink : s.sink n = x) (hx : x ≠ 0 ∧ x ≠ 18)
    (hserv : s.isService n = true) :
    Next c s fun t =>
      t.sink n = 18 ∧ t.get (PPD_STATUS.HRCOUNT n) = min (s.get (PPD_STATUS.HRCOUNT n) + 1) (2 ^ (PPD_STATUS.HRCOUNT n).w - 1) ∧ t.eaveLive n = false ∧
      t.stageOn n = false ∧ t.get (PPD_STATUS.CONTRACT n) = 0 ∧ s.regsKept t (policyArea n) ∧ s.farKept t := by
  have hp := State.pstate_of_sink hsink hx.1
  obtain ⟨hreset, heave, hstage, hcontract, hcount⟩ := State.hardReset_sink hp hserv
  have hacts := State.hardReset_actsOn_sink hp hserv
  exact .of_done1 hexec ⟨(State.sink_report ..).trans hreset, (State.get_report ..).trans (hcount (by rw [hsink]; exact hx.2)), (State.eaveLive_report ..).trans heave,
    (State.stageOn_report ..).trans hstage, (State.get_report ..).trans hcontract, hacts.regs.of_regs (State.report_regs ..),
    State.farKept_report n ((State.hardReset_keeps s n).mono rfl) hacts.boot⟩

theorem tsinkWaitCap_resets (s : State) (n : Fin 16) (hsink : s.sink n = 14) (hcount : s.get (PPD_STATUS.HRCOUNT n) < 2) (hhalt : s.halted n.val = false)
    (hserv : s.isService n = true) :
    Next (.tsinkWaitCap n) s fun t =>
      t.sink n = 18 ∧ t.get (PPD_STATUS.HRCOUNT n) = s.get (PPD_STATUS.HRCOUNT n) + 1 ∧ t.eaveLive n = false ∧ t.stageOn n = false ∧
      t.get (PPD_STATUS.CONTRACT n) = 0 ∧ s.regsKept t (policyArea n) ∧ s.farKept t := by
  have hexec : exec (.tsinkWaitCap n) s = done1 n s (s.hardReset n) := by
    change execTsinkWaitCap n s = _
    exact if_pos ⟨hsink, hcount, by simp [hhalt]⟩
  obtain ⟨t, ht, hreset, hmore, hrest⟩ := Next.resets_sink hexec hsink (by decide) hserv
  exact ⟨t, ht, hreset, hmore.trans (Nat.min_eq_left (Nat.le_of_lt (Nat.succ_lt_succ hcount))), hrest⟩

theorem tpsTransition_resets (s : State) (n : Fin 16) (hsink : s.sink n = 16) (hhalt : s.halted n.val = false) (hserv : s.isService n = true)
    (hcount : s.get (PPD_STATUS.HRCOUNT n) < 3) :
    Next (.tpsTransition n) s fun t =>
      t.sink n = 18 ∧ t.eaveLive n = false ∧ t.stageOn n = false ∧ t.get (PPD_STATUS.CONTRACT n) = 0 ∧ s.regsKept t (policyArea n) ∧ s.farKept t := by
  have hexec : exec (.tpsTransition n) s = done1 n s (s.hardReset n) := by
    change execTpsTransition n s = _
    exact (if_pos ⟨hsink, by simp [hhalt]⟩).trans (congrArg (done1 n s) (if_neg (by omega)))
  obtain ⟨t, ht, hreset, -, hrest⟩ := Next.resets_sink hexec hsink (by decide) hserv
  exact ⟨t, ht, hreset, hrest⟩

theorem tsnkhrwait_detaches (s : State) (n : Fin 16) (hsink : s.sink n = 18) (hhalt : s.halted n.val = false) (hserv : s.isService n = true) :
    Next (.tsnkhrwait n) s fun t =>
      t.cc n = (if s.someRd n && !s.ports[n].val.first then ccAttachWaitSnk else ccUnattachedSnk) ∧ t.pstate n = 0 ∧ t.eaveLive n = false ∧ t.stageOn n = false ∧
      s.regsKept t (policyArea n) ∧ s.farKept t := by
  obtain ⟨hacts, hcc, hstate, heave, hstage⟩ := State.detach_sink hserv
  refine .of_done1 (n := n) (t := s.detach n) ?_ ⟨(State.get_report ..).trans hcc, (State.get_report ..).trans hstate, (State.eaveLive_report ..).trans heave,
    (State.stageOn_report ..).trans hstage, hacts.regs.of_regs (State.report_regs ..), State.farKept_report n ((State.detach_keeps s n).mono rfl) hacts.boot⟩
  change execTsnkhrwait n s = _
  exact if_pos ⟨hsink, by simp [hhalt]⟩

/-! ### Timers that move the sink machine alone (R148, R149) -/

theorem State.setSink_touches (s : State) (n : Fin 16) (x : Nat) : s.Touches n (fun a => a == PPD_STATUS.at n) (s.setSink n x) :=
  .ite (fun _ => .put (beq_self_eq_true _) <| .modPd <| .refl ..) fun _ => .put (beq_self_eq_true _) <| .refl ..

/-- A timer of a service port that changes PPD_STATUS and the policy engine's part of the port. -/
theorem Next.times_sink {c : Instr} {s w : State} {n : Fin 16} (hexec : exec c s = done1 n s w) (ht : s.Touches n (fun a => a == PPD_STATUS.at n) w)
    (hk : s.Keeps (pRegs ||| pPorts) w) :
    Next c s fun t => t = s.report n w ∧ s.portsBut t [n] ∧ s.regsBut t [PPD_STATUS.at n] ∧ t = { s with regs := t.regs, ports := t.ports } := by
  obtain ⟨hregs, hports⟩ := ht.report s
  exact .of_done1 hexec ⟨rfl, hports, hregs.regsBut (by simp), ((State.report_keeps ..).step rfl hk).eq_mix⟩

theorem tpsTransition_waits (s : State) (n : Fin 16) (hsink : s.sink n = 16) (hhalt : s.halted n.val = false) (hcount : 3 ≤ s.get (PPD_STATUS.HRCOUNT n)) :
    Next (.tpsTransition n) s fun t =>
      t.sink n = 14 ∧ t.get (PPD_STATUS.HRCOUNT n) = s.get (PPD_STATUS.HRCOUNT n) ∧ s.portsBut t [n] ∧ s.regsBut t [PPD_STATUS.at n] ∧
      t = { s with regs := t.regs, ports := t.ports } := by
  have hexec : exec (.tpsTransition n) s = done1 n s ((s.modPd n (fun d => { d with ams := none })).setSink n 14) := by
    change execTpsTransition n s = _
    exact (if_pos ⟨hsink, by simp [hhalt]⟩).trans (congrArg (done1 n s) (if_pos hcount))
  have htouch : s.Touches n (fun a => a == PPD_STATUS.at n) ((s.modPd n (fun d => { d with ams := none })).setSink n 14) :=
    (State.Touches.modPd <| .refl ..).trans (State.setSink_touches ..)
  obtain ⟨t, ht, rfl, hrest⟩ := Next.times_sink hexec htouch ((State.setSink_keeps ..).step rfl <| (State.modPd_keeps ..).mono rfl)
  have hstands : s.Holds n [(0x200, 16, 2)] ((s.modPd n (fun d => { d with ams := none })).setSink n 14) := .setSink (by decide) <| .modPd <| .refl ..
  exact ⟨_, ht, (State.sink_report ..).trans (State.sink_setSink _ n (by decide)), (State.get_report ..).trans (hstands.marks (0x200, 16, 2) (by decide)), hrest⟩

/-- Behind a Sink Hard Reset the sink machine starts anew. -/
theorem Next.restarts_sink {c : Instr} {s : State} {n : Fin 16} (hexec : exec c s = done1 n s (s.sinkRestart n)) :
    Next c s fun t =>
      t.sink n = 14 ∧ (t.pd n).out = [] ∧ (t.pd n).txId = [0, 0, 0] ∧ s.portsBut t [n] ∧ s.regsBut t [PPD_STATUS.at n] ∧
      t = { s with regs := t.regs, ports := t.ports } := by
  have htouch : s.Touches n (fun a => a == PPD_STATUS.at n) (s.sinkRestart n) := (State.Touches.modPd <| .refl ..).trans (State.setSink_touches ..)
  obtain ⟨t, ht, rfl, hrest⟩ := Next.times_sink hexec htouch ((State.sinkRestart_keeps ..).mono rfl)
  have hpd : ((s.sinkRestart n).pd n).out = [] ∧ ((s.sinkRestart n).pd n).txId = [0, 0, 0] := by
    rw [State.sinkRestart, State.setSink]
    split
    · rw [State.setP, State.pd_put, State.pd_modPd_same, State.protoReset, State.pd_modPd_same]
      exact ⟨rfl, rfl⟩
    · rw [State.setP, State.pd_put, State.protoReset, State.pd_modPd_same]
      exact ⟨rfl, rfl⟩
  exact ⟨_, ht, (State.sink_report ..).trans (State.sink_setSink _ n (by decide)), by rw [State.pd_report]; exact hpd.1, by rw [State.pd_report]; exact hpd.2, hrest⟩

theorem sinkHrVbusReturn_restarts (s : State) (n : Fin 16) (hsink : s.sink n = 18) (hhalt : s.halted n.val = false) :
    Next (.sinkHrVbusReturn n) s fun t =>
      t.sink n = 14 ∧ (t.pd n).out = [] ∧ (t.pd n).txId = [0, 0, 0] ∧ s.portsBut t [n] ∧ s.regsBut t [PPD_STATUS.at n] ∧
      t = { s with regs := t.regs, ports := t.ports } := by
  refine .restarts_sink ?_
  change execSinkHrVbusReturn n s = _
  exact if_pos ⟨hsink, by simp [hhalt]⟩

theorem sinkHrVbusHeld_restarts (s : State) (n : Fin 16) (hsink : s.sink n = 18) (hhalt : s.halted n.val = false) :
    Next (.sinkHrVbusHeld n) s fun t =>
      t.sink n = 14 ∧ (t.pd n).out = [] ∧ (t.pd n).txId = [0, 0, 0] ∧ s.portsBut t [n] ∧ s.regsBut t [PPD_STATUS.at n] ∧
      t = { s with regs := t.regs, ports := t.ports } := by
  refine .restarts_sink ?_
  change execSinkHrVbusHeld n s = _
  exact if_pos ⟨hsink, by simp [hhalt]⟩

/-! ### The Request (R148, R152) -/

theorem State.sendRequest_of_choice {s : State} {n : Fin 16} {pos v10 ma : Nat} {mm : Bool} (hrom : s.ports[n].rom = false)
    (hwant : (s.pd n).sinkWant = some (pos, v10, ma, mm)) :
    s.sendRequest n = ((s.modPd n (fun d => { d with ams := none })).send n .request [sinkRdo pos ma mm]).setP n 15 := by
  have himage : ((s.modPd n (fun d => { d with ams := none })).send n .request [sinkRdo pos ma mm]).ports[n].rom = false := by
    rw [State.send, State.modPd, State.modPort_port_same, State.modPd, State.modPort_port_same]
    exact hrom
  rw [State.sendRequest, hwant]
  exact State.setSink_of_image himage 15

theorem State.pd_sendRequest {s : State} {n : Fin 16} {pos v10 ma : Nat} {mm : Bool} (hrom : s.ports[n].rom = false)
    (hwant : (s.pd n).sinkWant = some (pos, v10, ma, mm)) :
    (s.sendRequest n).pd n = { s.pd n with ams := none, out := (s.pd n).out ++ [sopMsg .request [sinkRdo pos ma mm]] } := by
  rw [State.sendRequest_of_choice hrom hwant, State.setP, State.pd_put, State.pd_send_same, State.pd_modPd_same]
  rfl

theorem State.pstate_sendRequest {s : State} {n : Fin 16} {pos v10 ma : Nat} {mm : Bool} (hrom : s.ports[n].rom = false)
    (hwant : (s.pd n).sinkWant = some (pos, v10, ma, mm)) : (s.sendRequest n).pstate n = 15 := by
  rw [State.sendRequest_of_choice hrom hwant]
  exact State.get_put_same _ _ _ (Nat.le_of_ble_eq_true rfl)

theorem State.Touches.sendRequest {s t : State} {n : Fin 16} {p : Nat → Bool} (hp : p (PPD_STATUS.at n) = true) (h : s.Touches n p t) :
    s.Touches n p (t.sendRequest n) := by
  unfold State.sendRequest
  split
  · exact h
  · exact (State.Touches.send <| .modPd h).trans ((State.setSink_touches ..).mono fun a ha => by rw [eq_of_beq ha]; exact hp)

theorem State.get_sendRequest {s : State} {n : Fin 16} {pos v10 ma : Nat} {mm : Bool} (hrom : s.ports[n].rom = false)
    (hwant : (s.pd n).sinkWant = some (pos, v10, ma, mm)) {f : Fld} (hf : (PPD_STATUS.PSTATE n).apart f = true) : (s.sendRequest n).get f = s.get f := by
  rw [State.sendRequest_of_choice hrom hwant, State.setP, State.get_put_apart _ _ hf, State.get_send, State.get_modPd]

theorem tsinkRequest_repeats (s : State) (n : Fin 16) (pos v10 ma : Nat) (mm : Bool) (hheld : (s.pd n).held = [6]) (hhalt : s.halted n.val = false)
    (hp : s.pstate n = 15 ∨ s.pstate n = 17) (hrom : s.ports[n].rom = false) (hwant : (s.pd n).sinkWant = some (pos, v10, ma, mm)) :
    Next (.tsinkRequest n) s fun t =>
      t.pstate n = 15 ∧ (t.pd n).held = [] ∧ s.sends t n [sopMsg .request ([sinkRdo pos ma mm])] ∧
      s.portsBut t [n] ∧ s.regsBut t [PPD_STATUS.at n] ∧ t = { s with regs := t.regs, ports := t.ports } := by
  have hpd : (s.modPd n (fun d => { d with held := d.held.filter (fun k => k != 6) })).pd n = { s.pd n with held := [] } := by
    rw [State.pd_modPd_same, hheld]
    rfl
  have himage : (s.modPd n (fun d => { d with held := d.held.filter (fun k => k != 6) })).ports[n].rom = false := by
    rw [State.modPd, State.modPort_port_same]
    exact hrom
  have hwantNow : ((s.modPd n (fun d => { d with held := d.held.filter (fun k => k != 6) })).pd n).sinkWant = some (pos, v10, ma, mm) := by
    rw [hpd]
    exact hwant
  have hsink : (s.modPd n (fun d => { d with held := d.held.filter (fun k => k != 6) })).sink n = 15 ∨
      (s.modPd n (fun d => { d with held := d.held.filter (fun k => k != 6) })).sink n = 17 :=
    hp.imp (State.sink_of_pstate · (by decide)) (State.sink_of_pstate · (by decide))
  have hexec : exec (.tsinkRequest n) s = done1 n s ((s.modPd n (fun d => { d with held := d.held.filter (fun k => k != 6) })).sendRequest n) := by
    change execTsinkRequest n s = _
    exact (if_pos ⟨by rw [hheld]; rfl, by simp [hhalt]⟩).trans (congrArg (done1 n s) (if_pos hsink))
  obtain ⟨t, ht, rfl, hrest⟩ := Next.times_sink hexec (.sendRequest (beq_self_eq_true _) <| .modPd <| .refl ..)
    ((State.sendRequest_keeps ..).step rfl <| (State.modPd_keeps ..).mono rfl)
  have hend := State.pd_sendRequest himage hwantNow
  rw [hpd] at hend
  exact ⟨_, ht, (State.get_report ..).trans (State.pstate_sendRequest himage hwantNow), by rw [State.pd_report, hend],
    by rw [State.sends, State.pd_report, hend], hrest⟩

/-! ### Capabilities (R129, R152) -/

/-- The capabilities a sink keeps in PPD_OFFER. -/
def State.keepCaps (s : State) (n : Fin 16) (caps : List Word) : State := (List.range 11).foldl (fun u k => u.wr (PPD_OFFER.at n k) (caps.getD k 0)) s

theorem State.rd_keepCaps (s : State) (n : Fin 16) (caps : List Word) (k : Fin 11) : (s.keepCaps n caps).rd (PPD_OFFER.at n k.val) = caps.getD k.val 0 := by
  have hall : s.keepCaps n caps = s.wrAll ((List.range 11).map fun j => (PPD_OFFER.at n j, caps.getD j 0)) := by
    rw [State.keepCaps, State.wrAll, List.foldl_map]
  have hnodup : ((((List.range 11).map fun j => (PPD_OFFER.at n j, caps.getD j 0))).map Prod.fst).Nodup := by
    rw [List.map_map]
    exact List.nodup_range.map fun i j hij => by
      simp only [Function.comp_apply, PPD_OFFER.at] at hij
      omega
  rw [hall]
  exact State.rd_wrAll_of_mem s hnodup (x := (PPD_OFFER.at n k.val, caps.getD k.val 0)) (List.mem_map.2 ⟨k.val, List.mem_range.2 k.isLt, rfl⟩)

theorem State.keepCaps_touches (s : State) (n : Fin 16) (caps : List Word) : s.Touches n (offerArea n) (s.keepCaps n caps) :=
  .foldl (fun u k hk hu => by
    have := List.mem_range.1 hk
    rw [PPD_OFFER.at, Nat.add_assoc]
    exact hu.wr (offerArea_off n (by omega))) (.refl ..)

theorem State.keepCaps_keeps (s : State) (n : Fin 16) (caps : List Word) : s.Keeps pRegs (s.keepCaps n caps) :=
  List.foldlRecOn (motive := fun u => s.Keeps pRegs u) _ _ (.refl ..) fun _ hu _ _ => (State.wr_keeps ..).step rfl hu

theorem State.sinkChoice_of_image {s t : State} {n : Fin 16} (hs : s.ports[n].rom = false) (ht : t.ports[n].rom = false)
    (hrd : t.rd (PPD_SINKPOL0.at n) = s.rd (PPD_SINKPOL0.at n)) (caps : List Word) : t.sinkChoice n caps = s.sinkChoice n caps := by
  have himax : t.get (PPD_SINKPOL0.IMAX n) = s.get (PPD_SINKPOL0.IMAX n) := State.get_of_rd hrd
  have hvmin : t.get (PPD_SINKPOL0.VMIN n) = s.get (PPD_SINKPOL0.VMIN n) := State.get_of_rd hrd
  have hvreq : t.get (PPD_SINKPOL0.VREQ n) = s.get (PPD_SINKPOL0.VREQ n) := State.get_of_rd hrd
  rw [State.sinkChoice, if_neg (by rw [ht]; exact Bool.false_ne_true), State.sinkChoice, if_neg (by rw [hs]; exact Bool.false_ne_true), himax, hvmin, hvreq]

/-- Capabilities taken: kept, chosen from, and answered with the Request. -/
theorem State.sinkCaps_spec {s : State} {n : Fin 16} (hrom : s.ports[n].rom = false) (caps : List Word) :
    s.Touches n (fun a => a == PPD_STATUS.at n || offerArea n a) (s.sinkCaps n caps) ∧ s.Keeps (pRegs ||| pPorts) (s.sinkCaps n caps) ∧
      (s.sinkCaps n caps).pstate n = 15 ∧
      (s.sinkCaps n caps).pd n = { s.pd n with
        sinkWant := some (s.sinkChoice n caps), ams := none
        out := (s.pd n).out ++ [sopMsg .request [sinkRdo (s.sinkChoice n caps).1 (s.sinkChoice n caps).2.2.1 (s.sinkChoice n caps).2.2.2]] } ∧
      (∀ k : Fin 11, (s.sinkCaps n caps).rd (PPD_OFFER.at n k.val) = caps.getD k.val 0) ∧
      (s.sinkCaps n caps).get (PPD_STATUS.REV n) = s.get (PPD_STATUS.REV n) := by
  have htouch := s.keepCaps_touches n caps
  have hkept := s.keepCaps_keeps n caps
  have hrd := s.rd_keepCaps n caps
  have hports : (s.keepCaps n caps).ports = s.ports := hkept.ports rfl
  have hcaps : s.sinkCaps n caps = ((s.keepCaps n caps).modPd n (fun d => { d with sinkWant := some ((s.keepCaps n caps).sinkChoice n caps) })).sendRequest n := rfl
  have hchoice : (s.keepCaps n caps).sinkChoice n caps = s.sinkChoice n caps :=
    State.sinkChoice_of_image hrom (by rw [hports]; exact hrom) (htouch.regs _ (by simp [offerArea, within])) caps
  rw [hcaps, hchoice]
  generalize s.keepCaps n caps = u at *
  obtain ⟨pos, v10, ma, mm⟩ := s.sinkChoice n caps
  have himage : (u.modPd n (fun d => { d with sinkWant := some (pos, v10, ma, mm) })).ports[n].rom = false := by
    rw [State.modPd, State.modPort_port_same, hports]
    exact hrom
  have hwant : ((u.modPd n (fun d => { d with sinkWant := some (pos, v10, ma, mm) })).pd n).sinkWant = some (pos, v10, ma, mm) := by rw [State.pd_modPd_same]
  have hsent : (u.modPd n (fun d => { d with sinkWant := some (pos, v10, ma, mm) })).Touches n (fun a => a == PPD_STATUS.at n)
      ((u.modPd n (fun d => { d with sinkWant := some (pos, v10, ma, mm) })).sendRequest n) := .sendRequest (beq_self_eq_true _) <| .refl ..
  refine ⟨?_, ?_, State.pstate_sendRequest himage hwant, ?_, fun k => ?_, ?_⟩
  · exact .sendRequest (by simp) <| .modPd <| htouch.mono fun a ha => by rw [ha, Bool.or_true]
  · exact (State.sendRequest_keeps ..).step rfl <| (State.modPd_keeps ..).step rfl <| hkept.mono rfl
  · rw [State.pd_sendRequest himage hwant, State.pd_modPd_same, State.pd_of_ports hports]
  · rw [hsent.regs _ (by simp [PPD_OFFER.at, PPD_STATUS.at]; omega), State.rd_of_regs ((State.modPd_keeps ..).regs rfl)]
    exact hrd k
  · rw [State.get_sendRequest himage hwant rfl, State.get_modPd]
    exact htouch.regs.get (by simp [offerArea, within])

/-- Capabilities that a sink takes from a message; u is the port behind the chunk that completes them. -/
theorem Next.takes_caps {c : Instr} {s u : State} {h : PdHead} {act : State → State} {caps : List Word} (hexec : exec c s = received h s act) (hh : s.hears h)
    (h19 : s.pstate h.n ≠ 19) (hrom : s.ports[h.n].rom = false) (hact : act (s.takeHead h) = u.sinkCaps h.n caps)
    (ht : (s.takeHead h).Touches h.n (fun _ => false) u) (hk : (s.takeHead h).Keeps pPorts u) (himage : u.ports[h.n].rom = (s.takeHead h).ports[h.n].rom) {d : PdSt}
    (hpd : u.pd h.n = d) (hd : d.rxId = ((s.takeHead h).pd h.n).rxId ∧ d.firstSeen = ((s.takeHead h).pd h.n).firstSeen ∧ d.out = (s.pd h.n).out) :
    Next c s fun t =>
      t.pstate h.n = 15 ∧ t.pd h.n = { d with
        sinkWant := some (s.sinkChoice h.n caps), ams := none
        out := (s.pd h.n).out ++ [sopMsg .request [sinkRdo (s.sinkChoice h.n caps).1 (s.sinkChoice h.n caps).2.2.1 (s.sinkChoice h.n caps).2.2.2]] } ∧
      (∀ k : Fin 11, t.rd (PPD_OFFER.at h.n k.val) = caps.getD k.val 0) ∧ s.noted t h ∧
      s.portsBut t [h.n] ∧ s.regsKept t (inPort h.n) ∧ t = { s with regs := t.regs, ports := t.ports } := by
  have hhead : (s.takeHead h).ports[h.n].rom = false := (s.rom_takeHead h).trans hrom
  have hrd (a : Nat) (ha : a ≠ PPD_STATUS.at h.n) : u.rd a = s.rd a := (ht.regs a rfl).trans (s.rd_takeHead h ha)
  have hchoice : u.sinkChoice h.n caps = s.sinkChoice h.n caps :=
    State.sinkChoice_of_image hrom (himage.trans hhead) (hrd _ (by simp [PPD_SINKPOL0.at, PPD_STATUS.at])) caps
  obtain ⟨htouch, hkeeps, hstate, hend, hoffer, hrev⟩ := State.sinkCaps_spec (himage.trans hhead) caps
  rw [hchoice, hpd, hd.2.2] at hend
  have hall : s.Touches h.n (fun a => a == PPD_STATUS.at h.n || offerArea h.n a) (u.sinkCaps h.n caps) :=
    (((s.takeHead_touches h).trans (ht.mono (by simp))).mono fun a ha => by rw [ha, Bool.true_or]).trans htouch
  have hin (a : Nat) (ha : (a == PPD_STATUS.at h.n || offerArea h.n a) = true) : inPort h.n a = true := by
    rcases (Bool.or_eq_true ..).mp ha with ha | ha
    · exact inPort_of_status (by decide) a ha
    · exact inPort_of_offerArea ha
  obtain ⟨hregs, hports⟩ := hall.report s
  refine .of_received hexec hh h19 hact hall hin ⟨(State.get_report ..).trans hstate, (State.pd_report ..).trans hend, fun k => (State.rd_report ..).trans (hoffer k),
    State.noted_of ?_ ?_ ((State.get_report ..).trans (hrev.trans (ht.regs.get rfl))), hports,
    hregs.mono fun a ha => Bool.eq_false_iff.2 fun hm => Bool.false_ne_true (ha.symm.trans (hin a hm)),
    ((State.report_keeps ..).step rfl <| hkeeps.step rfl <| hk.step rfl <| s.takeHead_keeps h).eq_mix⟩
  · rw [State.pd_report, hend]
    exact hd.1
  · rw [State.pd_report, hend]
    exact hd.2.1

theorem sourceCapabilities_requests (s : State) (h : PdHead) (caps : List Word) (hh : s.hears h) (hg : s.group h.n = .snk) (hrom : s.ports[h.n].rom = false) :
    Next (.sourceCapabilities h (.plain caps)) s fun t =>
      let c := s.sinkChoice h.n caps
      t.pstate h.n = 15 ∧ (t.pd h.n).ams = none ∧ (t.pd h.n).sinkWant = some c ∧ s.sends t h.n [sopMsg .request ([sinkRdo c.1 c.2.2.1 c.2.2.2])] ∧
      (∀ k : Fin 11, t.rd (PPD_OFFER.at h.n k.val) = caps.getD k.val 0) ∧ s.noted t h ∧
      s.portsBut t [h.n] ∧ s.regsKept t (inPort h.n) ∧ t = { s with regs := t.regs, ports := t.ports } := by
  obtain ⟨t, ht, hstate, hpd, hrest⟩ := Next.takes_caps (c := .sourceCapabilities h (.plain caps)) (u := s.takeHead h) rfl hh
    (State.pstate_ne_nopd (hg ▸ by decide)) hrom
    (State.byGroup_snk (State.group_taken hg)) (.refl ..) (.refl ..) rfl rfl ⟨rfl, rfl, by rw [State.pd_takeHead]⟩
  exact ⟨t, ht, hstate, by rw [hpd], by rw [hpd], by rw [State.sends, hpd], hrest⟩

theorem sourceCapabilities_whole (s : State) (h : PdHead) (size : BitVec 9) (data : List Byte) (hh : s.hears h) (hg : s.group h.n = .snk)
    (hrom : s.ports[h.n].rom = false) (hsize : size.toNat ≤ data.length) :
    Next (.sourceCapabilities h (.chunk 0 size data)) s fun t =>
      t.pstate h.n = 15 ∧ (t.pd h.n).sinkWant = some (s.sinkChoice h.n (wordsOf (data.take size.toNat))) ∧ (t.pd h.n).chunkRx = none ∧ s.noted t h ∧
      s.portsBut t [h.n] ∧ s.regsKept t (inPort h.n) ∧ t = { s with regs := t.regs, ports := t.ports } := by
  have hchunk : (s.takeHead h).chunkIn h.n 0 size.toNat data =
      ((s.takeHead h).modPd h.n (fun d => { d with chunkRx := none, rxBuf := [] })).sinkCaps h.n (wordsOf (data.take size.toNat)) :=
    (if_neg fun hnum => hnum.1 rfl).trans (if_pos hsize)
  have himage : ((s.takeHead h).modPd h.n (fun d => { d with chunkRx := none, rxBuf := [] })).ports[h.n].rom = (s.takeHead h).ports[h.n].rom := by
    rw [State.modPd, State.modPort_port_same]
  obtain ⟨t, ht, hstate, hpd, -, hrest⟩ := Next.takes_caps (c := .sourceCapabilities h (.chunk 0 size data)) rfl hh (State.pstate_ne_nopd (hg ▸ by decide)) hrom
    ((State.byGroup_snk (State.group_taken hg)).trans hchunk) (.modPd <| .refl ..) ((State.modPd_keeps ..).mono rfl) himage (State.pd_modPd_same ..)
    ⟨rfl, rfl, by rw [State.pd_takeHead]⟩
  exact ⟨t, ht, hstate, by rw [hpd], by rw [hpd], hrest⟩

theorem sourceCapabilities_asks (s : State) (h : PdHead) (num : BitVec 4) (size : BitVec 9) (data : List Byte) (hh : s.hears h) (hg : s.group h.n = .snk)
    (hnum : num ≠ 0) (hrx : (s.pd h.n).chunkRx = some num.toNat) (hsize : (s.pd h.n).rxBuf.length + data.length < size.toNat) :
    Next (.sourceCapabilities h (.chunk num size data)) s fun t =>
      s.answers t h [{ name := .chunkRequest, sop := 0, objs := [BitVec.ofNat 32 (num.toNat + 1)] }] ∧
      (t.pd h.n).chunkRx = some (num.toNat + 1) ∧ (t.pd h.n).rxBuf = (s.pd h.n).rxBuf ++ data := by
  have hn0 : num.toNat ≠ 0 := fun e => hnum (BitVec.eq_of_toNat_eq e)
  have hbuf : ((s.takeHead h).pd h.n).rxBuf = (s.pd h.n).rxBuf := by rw [State.pd_takeHead]
  have hask : ((s.takeHead h).pd h.n).chunkRx = some num.toNat := by
    rw [State.pd_takeHead]
    exact hrx
  have hchunk : (s.takeHead h).chunkIn h.n num.toNat size.toNat data =
      ((s.takeHead h).modPd h.n (fun d => { d with chunkRx := some (num.toNat + 1), rxBuf := (s.pd h.n).rxBuf ++ data })).send h.n .chunkRequest
        [BitVec.ofNat 32 (num.toNat + 1)] := by
    rw [State.chunkIn, if_neg (fun hnot => hnot.2 hask)]
    dsimp only
    rw [if_neg hn0, hbuf, if_neg (by rw [List.length_append]; omega)]
  have hpd : (((s.takeHead h).modPd h.n (fun d => { d with chunkRx := some (num.toNat + 1), rxBuf := (s.pd h.n).rxBuf ++ data })).send h.n .chunkRequest
      [BitVec.ofNat 32 (num.toNat + 1)]).pd h.n = { (s.takeHead h).pd h.n with
        chunkRx := some (num.toNat + 1), rxBuf := (s.pd h.n).rxBuf ++ data
        out := ((s.takeHead h).pd h.n).out ++ [sopMsg .chunkRequest [BitVec.ofNat 32 (num.toNat + 1)]] } := by
    rw [State.pd_send_same, State.pd_modPd_same]
    rfl
  have htouch : (s.takeHead h).Touches h.n (fun _ => false)
    (((s.takeHead h).modPd h.n (fun d => { d with chunkRx := some (num.toNat + 1), rxBuf := (s.pd h.n).rxBuf ++ data })).send h.n
      .chunkRequest [BitVec.ofNat 32 (num.toNat + 1)]) := .send <| .modPd <| .refl ..
  refine .of_received rfl hh (State.pstate_ne_nopd (hg ▸ by decide)) ((State.byGroup_snk (State.group_taken hg)).trans hchunk)
    ((s.takeHead_touches h).trans (htouch.mono (by simp))) (inPort_of_status (by decide)) ⟨State.answers_of htouch ?_ ?_ ?_ ?_, ?_, ?_⟩
  · exact (State.send_keeps ..).step rfl <| (State.modPd_keeps ..).mono rfl
  · rw [hpd]
  · rw [hpd]
  · rw [hpd]
    rfl
  · rw [State.pd_report, hpd]
  · rw [State.pd_report, hpd]

theorem sourceCapabilities_soft (s : State) (h : PdHead) (caps : CapsIn) (hh : s.hears h) (hg : s.group h.n = .ready) (hserv : s.isService h.n = false) :
    Next (.sourceCapabilities h caps) s fun t => s.sentSoft t h.n :=
  .sends_soft rfl hh (State.pstate_ne_nopd (hg ▸ by decide)) hserv (State.byGroup_ready (State.group_taken hg))

/-- Settles O27: the sink's answer to capabilities keeps them in PPD_OFFER and sends the Request of the choice; the timers reach their states through the Hard Reset of
a service port, its restart and its detach. -/
theorem sinkPolicy : Obligations.SinkPolicy :=
  ⟨sourceCapabilities_requests, sourceCapabilities_whole, sourceCapabilities_asks, sourceCapabilities_soft, tsinkWaitCap_resets, tsinkRequest_repeats,
    fun s n hsink hhalt _ hcount => tpsTransition_waits s n hsink hhalt hcount, tpsTransition_resets, sinkHrVbusReturn_restarts, sinkHrVbusHeld_restarts,
    tsnkhrwait_detaches⟩

end Sys2Proof.Machine
end

section
/-!
PROOF. O28: the policy commands of a host port and the input warning (R141, R142, R144, R155, R156, R160, R163).
-/

namespace Sys2Proof.Machine

/-! ### Policy commands whose effect stays within the port (R163) -/

/-- A policy command whose effect w changes registers of the port's block and the port, and ends OK. -/
theorem Next.of_policy_command {c : Instr} {s w : State} {hp : HostPort} {n : Fin 16} {v : Word} {effect : State → State} {p : Nat → Bool}
    (hexec : exec c s = doneAll s (s.command hp (PPD_CMD.at n) v effect)) (htakes : s.takes hp (PPD_CMD.at n) v) (hw : effect s.passOp = w)
    (ht : s.passOp.Touches n p w) (hin : ∀ a, p a = true → inPort n a = true) (hk : s.passOp.Keeps (pRegs ||| pPorts) w) :
    Next c s fun t => t.regs = w.regs ∧ t.pd n = w.pd n ∧ s.hostSays t hp stOK 0 s.ports[n].gen ∧ s.portsBut t [n] ∧ s.passOp.regsKept t p ∧
      t = { s.passOp with regs := t.regs, host := t.host, ports := t.ports } := by
  have hall : s.Touches n (attachArea n) w := (State.Frees.passOp (.refl s n)).touches.trans <| ht.mono fun a ha => by simp [attachArea, hin a ha]
  subst hw
  refine .of_port_command (d := 0x208) (effect := fun t => (effect t, stOK)) hexec (by decide) htakes rfl hall (hk.ridge rfl) ?_
  dsimp only
  generalize effect s.passOp = e at *
  obtain ⟨g, hg⟩ := s.saysOk_port hp n n e
  exact ⟨s.saysOk_regs hp n e, by rw [State.pd, hg]; rfl, State.saysOk_host ((hk.host rfl).trans ((State.passOp_keeps s).host rfl)) hp n, hall.saysOk hp,
    ht.regs.of_regs (s.saysOk_regs hp n e), ((s.saysOk_keeps hp n e).step (m := pRegs ||| pHost ||| pPorts) rfl (hk.mono rfl)).eq_mix⟩

theorem State.get_passOp_own (s : State) (n : Fin 16) {d lo w : Nat} : s.passOp.get ⟨portBase n.val + d, lo, w⟩ = s.get ⟨portBase n.val + d, lo, w⟩ :=
  s.get_passOp (portAddr_ne n (by decide))

theorem State.pstate_passOp (s : State) (n : Fin 16) : s.passOp.pstate n = s.pstate n := s.get_passOp_own n

theorem State.hasContract_passOp (s : State) (n : Fin 16) : s.passOp.hasContract n = s.hasContract n := by
  rw [State.hasContract, s.get_passOp_own n, ← State.hasContract]

theorem State.rev3_passOp (s : State) (n : Fin 16) : s.passOp.rev3 n = s.rev3 n := by rw [State.rev3, s.get_passOp_own n, ← State.rev3]

theorem State.isSource_passOp (s : State) (n : Fin 16) : s.passOp.isSource n = s.isSource n := by
  rw [State.isSource, (State.passOp_keeps s).ports rfl, ← State.isSource]

theorem State.isService_passOp (s : State) (n : Fin 16) : s.passOp.isService n = s.isService n := by
  rw [State.isService, (State.passOp_keeps s).ports rfl, ← State.isService]

theorem State.amsBusy_passOp (s : State) (n : Fin 16) : s.passOp.amsBusy n = s.amsBusy n := by rw [State.amsBusy, s.pd_passOp, ← State.amsBusy]

theorem State.listening_passOp (s : State) (n : Fin 16) : s.passOp.listening n = s.listening n := by
  rw [State.listening, s.portUp_passOp, s.halted_passOp, s.pstate_passOp, State.sink, s.pstate_passOp, s.pd_passOp, ← State.sink, ← State.listening]

theorem State.amsBusy_of_idle {s : State} {n : Fin 16} (hams : (s.pd n).ams = none) (hheld : (s.pd n).held = []) : s.amsBusy n = false := by
  rw [State.amsBusy, hams, hheld]
  rfl

/-- A command that begins an AMS of a source port in an explicit contract at Revision 3.x. -/
theorem Next.of_ams_command {c : Instr} {s : State} {hp : HostPort} {n : Fin 16} {v : Word} {effect : State → State} {name : MsgName}
    (hexec : exec c s = doneAll s (s.command hp (PPD_CMD.at n) v effect)) (htakes : s.takes hp (PPD_CMD.at n) v) (hw : effect s.passOp = s.passOp.beginAms n name)
    (hsrc : s.isSource n = true) (hcon : s.hasContract n = true) (hrev : s.rev3 n = true) (hheld : (s.pd n).held = []) :
    Next c s fun t =>
      (t.pd n).held = [amsMark name] ∧ t.get (PCC_STATUS.RPOUT n) = 2 ∧ s.hostSays t hp stOK 0 s.ports[n].gen ∧
      s.portsBut t [n] ∧ s.passOp.regsBut t [PCC_STATUS.at n] ∧ t = { s.passOp with regs := t.regs, host := t.host, ports := t.ports } := by
  obtain ⟨htouch, hRPOUT, hpd⟩ := State.beginAms_spec ((s.isSource_passOp n).trans hsrc) ((s.hasContract_passOp n).trans hcon) ((s.rev3_passOp n).trans hrev) name
  obtain ⟨t, ht, hregs, htpd, hsays, hports, hkept, heq⟩ := Next.of_policy_command hexec htakes hw htouch (inPort_of_status (by decide)) (State.beginAms_keeps ..)
  refine ⟨t, ht, ?_, (State.get_of_regs hregs _).trans hRPOUT, hsays, hports, hkept.regsBut (by simp), heq⟩
  rw [htpd, hpd, s.pd_passOp, hheld]
  rfl

/-- A command that is held for the next Ready (R160). -/
theorem Next.of_held_command {c : Instr} {s w : State} {hp : HostPort} {n : Fin 16} {v : Word} {effect : State → State} {k : Nat}
    (hexec : exec c s = doneAll s (s.command hp (PPD_CMD.at n) v effect)) (htakes : s.takes hp (PPD_CMD.at n) v) (hw : effect s.passOp = w.hold n k)
    (ht : s.passOp.Touches n (fun _ => false) w) (hk : s.passOp.Keeps pPorts w) (hheld : (w.pd n).held = []) :
    Next c s fun t => t.pd n = { w.pd n with held := [k] } ∧ s.hostSays t hp stOK 0 s.ports[n].gen ∧ s.portsBut t [n] ∧
      t = { s.passOp with host := t.host, ports := t.ports } := by
  obtain ⟨t, ht, hregs, htpd, hsays, hports, -, heq⟩ := Next.of_policy_command (p := fun _ => false) hexec htakes hw (.modPd ht) (fun _ h => nomatch h)
    ((State.hold_keeps ..).step rfl (hk.mono rfl))
  refine ⟨t, ht, ?_, hsays, hports, ?_⟩
  · rw [htpd, State.pd_hold, hheld]
    rfl
  · rw [((State.hold_keeps w n k).regs rfl).trans (hk.regs rfl)] at hregs
    rwa [hregs] at heq

/-! ### SENDCAPS, DRSWAP and SOFTRESET (R131, R143, R144) -/

theorem sendcaps_begins (s : State) (hp : HostPort) (n : Fin 16) (htakes : s.takes hp (PPD_CMD.at n) 1) (hready : s.pstate n = 6) (hsrc : s.isSource n = true)
    (hcon : s.hasContract n = true) (hrev : s.rev3 n = true) (hams : (s.pd n).ams = none) (hheld : (s.pd n).held = []) :
    Next (.sendcaps hp n) s fun t =>
      (t.pd n).held = [100] ∧ t.get (PCC_STATUS.RPOUT n) = 2 ∧ s.hostSays t hp stOK 0 s.ports[n].gen ∧
      s.portsBut t [n] ∧ s.passOp.regsBut t [PCC_STATUS.at n] ∧ t = { s.passOp with regs := t.regs, host := t.host, ports := t.ports } := by
  have hidle : s.passOp.amsBusy n = false := (s.amsBusy_passOp n).trans (State.amsBusy_of_idle hams hheld)
  refine .of_ams_command (name := .sourceCap) rfl htakes ?_ hsrc hcon hrev hheld
  rw [State.cmdSendcaps, if_neg (by rw [s.isSource_passOp, hsrc]; exact fun h => h rfl), if_pos ⟨(s.pstate_passOp n).trans hready, by simp [hidle]⟩]

theorem sendcaps_held (s : State) (hp : HostPort) (n : Fin 16) (htakes : s.takes hp (PPD_CMD.at n) 1) (hstate : s.pstate n = 4) (hsrc : s.isSource n = true)
    (hheld : (s.pd n).held = []) :
    Next (.sendcaps hp n) s fun t =>
      (t.pd n).held = [0] ∧ s.hostSays t hp stOK 0 s.ports[n].gen ∧ s.portsBut t [n] ∧ t = { s.passOp with host := t.host, ports := t.ports } := by
  have hp4 : s.passOp.pstate n = 4 := (s.pstate_passOp n).trans hstate
  have hhold : s.passOp.cmdSendcaps n = s.passOp.hold n 0 := by
    rw [State.cmdSendcaps, if_neg (by rw [s.isSource_passOp, hsrc]; exact fun h => h rfl), if_neg (fun h => by omega), if_neg (by omega)]
  obtain ⟨t, ht, hpd, hrest⟩ := Next.of_held_command (c := .sendcaps hp n) rfl htakes hhold (.refl ..) (.refl ..) (by rw [s.pd_passOp]; exact hheld)
  exact ⟨t, ht, by rw [hpd], hrest⟩

theorem softreset_sends (s : State) (hp : HostPort) (n : Fin 16) (htakes : s.takes hp (PPD_CMD.at n) 4) (hlisten : s.listening n = true) (h6 : s.pstate n ≠ 6)
    (h12 : s.pstate n ≠ 12) (hserv : s.isService n = false) :
    Next (.softreset hp n) s fun t =>
      (t.pd n).out = [bareMsg .softReset] ∧ (t.pd n).ams = some .softReset ∧ t.pstate n = 10 ∧ s.hostSays t hp stOK 0 s.ports[n].gen ∧
      s.portsBut t [n] ∧ s.passOp.regsBut t [PPD_STATUS.at n, PPD_COUNT.at n] ∧ t = { s.passOp with regs := t.regs, host := t.host, ports := t.ports } := by
  have hsoft : s.passOp.cmdSoftreset n = s.passOp.softReset n := by
    rw [State.cmdSoftreset, if_neg (by rw [s.listening_passOp, hlisten]; decide), s.pstate_passOp, if_neg h12, if_neg (fun h => h6 h.1), if_neg (fun h => h6 h.1)]
  obtain ⟨htouch, hout, hams, -, -, hstate, -⟩ :=
    State.sentSoft_softReset (State.Touches.refl s.passOp n _) (.refl ..) ((s.isService_passOp n).trans hserv)
  rw [State.pd_report] at hout hams
  obtain ⟨t, ht, hregs, htpd, hsays, hports, hkept, heq⟩ := Next.of_policy_command (c := .softreset hp n) rfl htakes hsoft htouch (fun a ha => by
    rcases (Bool.or_eq_true ..).mp ha with ha | ha <;> rw [eq_of_beq ha] <;> exact inPort_off n (by decide)) (State.softReset_keeps ..)
  exact ⟨t, ht, by rw [htpd]; exact hout, by rw [htpd]; exact hams, (State.get_of_regs hregs _).trans ((State.get_report ..).symm.trans hstate), hsays, hports,
    hkept.regsBut (by simp), heq⟩

theorem drswap_begins (s : State) (hp : HostPort) (n : Fin 16) (htakes : s.takes hp (PPD_CMD.at n) 8) (hready : s.pstate n = 6) (hserv : s.isService n = false)
    (hcon : s.hasContract n = false) (hams : (s.pd n).ams = none) (hheld : (s.pd n).held = []) :
    Next (.drswap hp n) s fun t =>
      t.pstate n = 11 ∧ (t.pd n).drRetries = 0 ∧ (t.pd n).ams = some .drSwap ∧ s.sends t n [bareMsg .drSwap] ∧ s.hostSays t hp stOK 0 s.ports[n].gen ∧
      s.portsBut t [n] ∧ s.passOp.regsBut t [PPD_STATUS.at n] ∧ t = { s.passOp with regs := t.regs, host := t.host, ports := t.ports } := by
  have hpd : (s.passOp.modPd n (fun d => { d with drRetries := 0 })).pd n = { s.pd n with drRetries := 0 } := by rw [State.pd_modPd_same, s.pd_passOp]
  have hbusy : (s.passOp.modPd n (fun d => { d with drRetries := 0 })).amsBusy n = false := State.amsBusy_of_idle (by rw [hpd]; exact hams) (by rw [hpd]; exact hheld)
  have hcontract : (s.passOp.modPd n (fun d => { d with drRetries := 0 })).hasContract n = false := (s.hasContract_passOp n).trans hcon
  have hstands : (s.passOp.modPd n (fun d => { d with drRetries := 0 })).pstate n = 6 := (s.pstate_passOp n).trans hready
  have hrole : (s.passOp.modPd n (fun d => { d with drRetries := 0 })).isService n = false :=
    (State.isService_modPd ..).trans ((s.isService_passOp n).trans hserv)
  have hswap : s.passOp.cmdDrswap n = (s.passOp.modPd n (fun d => { d with drRetries := 0 })).amsFirst n .drSwap := by
    rw [State.cmdDrswap, if_pos (by rw [State.mayStart, hbusy, hstands]; rfl), State.beginAms, if_neg (by rw [hcontract]; simp)]
  have hu : s.passOp.Touches n (fun a => a == PPD_STATUS.at n) (s.passOp.modPd n (fun d => { d with drRetries := 0 })) := .modPd <| .refl ..
  have huK : s.passOp.Keeps (pRegs ||| pPorts) (s.passOp.modPd n (fun d => { d with drRetries := 0 })) := (State.modPd_keeps ..).mono rfl
  generalize s.passOp.modPd n (fun d => { d with drRetries := 0 }) = u at *
  obtain ⟨htouch, hstate, hvpd⟩ := State.amsFirst_drSwap_spec hrole
  rw [hpd] at hvpd
  obtain ⟨t, ht, hregs, htpd, hsays, hports, hkept, heq⟩ := Next.of_policy_command (c := .drswap hp n) rfl htakes hswap (hu.trans htouch)
    (inPort_of_status (by decide)) ((State.amsFirst_keeps ..).step rfl huK)
  exact ⟨t, ht, (State.get_of_regs hregs _).trans hstate, by rw [htpd, hvpd], by rw [htpd, hvpd], by rw [State.sends, htpd, hvpd]; rfl, hsays, hports,
    hkept.regsBut (by simp), heq⟩

theorem drswap_held (s : State) (hp : HostPort) (n : Fin 16) (htakes : s.takes hp (PPD_CMD.at n) 8) (hstate : s.pstate n = 4) (hheld : (s.pd n).held = []) :
    Next (.drswap hp n) s fun t =>
      (t.pd n).held = [3] ∧ (t.pd n).drRetries = 0 ∧ s.sends t n [] ∧ s.hostSays t hp stOK 0 s.ports[n].gen ∧
      s.portsBut t [n] ∧ t = { s.passOp with host := t.host, ports := t.ports } := by
  have hpd : (s.passOp.modPd n (fun d => { d with drRetries := 0 })).pd n = { s.pd n with drRetries := 0 } := by rw [State.pd_modPd_same, s.pd_passOp]
  have hstands : (s.passOp.modPd n (fun d => { d with drRetries := 0 })).pstate n = 4 := (s.pstate_passOp n).trans hstate
  have hhold : s.passOp.cmdDrswap n = (s.passOp.modPd n (fun d => { d with drRetries := 0 })).hold n 3 := by
    rw [State.cmdDrswap, if_neg (by rw [State.mayStart, hstands]; simp)]
  obtain ⟨t, ht, htpd, hsays, hrest⟩ := Next.of_held_command (c := .drswap hp n) rfl htakes hhold (.modPd <| .refl ..) (State.modPd_keeps ..)
    (by rw [hpd]; exact hheld)
  exact ⟨t, ht, by rw [htpd], by rw [htpd, hpd], by rw [State.sends, htpd, hpd, List.append_nil], hsays, hrest⟩

/-! ### EPREXIT (R141) -/

theorem eprexit_begins (s : State) (hp : HostPort) (n : Fin 16) (htakes : s.takes hp (PPD_CMD.at n) 16) (hready : s.pstate n = 6)
    (hepr : s.bit (PPD_STATUS.EPRMODE n) = true) (hsrc : s.isSource n = true) (hcon : s.hasContract n = true) (hrev : s.rev3 n = true)
    (hams : (s.pd n).ams = none) (hheld : (s.pd n).held = []) (hv : s.get (PPD_CONTRACTVI.V10 n) ≤ 2000) :
    Next (.eprexit hp n) s fun t =>
      (t.pd n).held = [104] ∧ t.get (PCC_STATUS.RPOUT n) = 2 ∧ s.hostSays t hp stOK 0 s.ports[n].gen ∧
      s.portsBut t [n] ∧ s.passOp.regsBut t [PCC_STATUS.at n] ∧ t = { s.passOp with regs := t.regs, host := t.host, ports := t.ports } := by
  have hidle : s.passOp.amsBusy n = false := (s.amsBusy_passOp n).trans (State.amsBusy_of_idle hams hheld)
  refine .of_ams_command (name := .eprExit) rfl htakes ?_ hsrc hcon hrev hheld
  rw [State.cmdEprexit, if_neg (by rw [s.isSource_passOp, hsrc]; exact fun h => h rfl), if_pos ⟨(s.pstate_passOp n).trans hready, by simp [hidle]⟩,
    if_pos (by rw [s.bit_passOp (portAddr_ne n (by decide)), hepr]), State.leaveEpr, if_pos (by rw [s.get_passOp_own n]; exact hv)]

theorem eprexit_held (s : State) (hp : HostPort) (n : Fin 16) (htakes : s.takes hp (PPD_CMD.at n) 16) (hsrc : s.isSource n = true) (hstate : s.pstate n ≠ 6)
    (hheld : (s.pd n).held = []) :
    Next (.eprexit hp n) s fun t =>
      (t.pd n).held = [4] ∧ s.hostSays t hp stOK 0 s.ports[n].gen ∧ s.portsBut t [n] ∧ t = { s.passOp with host := t.host, ports := t.ports } := by
  have hhold : s.passOp.cmdEprexit n = s.passOp.hold n 4 := by
    rw [State.cmdEprexit, if_neg (by rw [s.isSource_passOp, hsrc]; exact fun h => h rfl), if_neg (fun h => hstate ((s.pstate_passOp n).symm.trans h.1))]
  obtain ⟨t, ht, hpd, hrest⟩ := Next.of_held_command (c := .eprexit hp n) rfl htakes hhold (.refl ..) (.refl ..) (by rw [s.pd_passOp]; exact hheld)
  exact ⟨t, ht, by rw [hpd], hrest⟩

/-- The passing of a command's op owes no report of a port. -/
theorem State.genKey_passOp (s : State) (m : Fin 16) : s.passOp.genKey m = s.genKey m :=
  State.genKey_of_rd fun a ha => s.rd_passOp (by
    rintro rfl
    exact absurd ha (by simp [inPort, within, portBase, RDG_CNT0.at]; omega))

theorem eprexit_idle (s : State) (hp : HostPort) (n : Fin 16) (htakes : s.takes hp (PPD_CMD.at n) 16) (hepr : s.bit (PPD_STATUS.EPRMODE n) = false)
    (hready : s.pstate n = 6) (hidle : s.amsBusy n = false) :
    Next (.eprexit hp n) s fun t => s.hostSays t hp stOK 0 s.ports[n].gen ∧ t = { s.passOp with host := t.host } := by
  have hnothing : s.passOp.cmdEprexit n = s.passOp := by
    rw [State.cmdEprexit]
    split
    · rfl
    · rw [if_pos ⟨(s.pstate_passOp n).trans hready, by simp [s.amsBusy_passOp, hidle]⟩,
        if_neg (by rw [s.bit_passOp (portAddr_ne n (by decide)), hepr]; exact Bool.false_ne_true)]
  have hend : s.passOp.Keeps pHost (s.passOp.endWith hp stOK 0 s.ports[n].gen) := by
    rw [State.endWith, if_pos (.inl rfl)]
    exact State.modHp_keeps ..
  have hreport : s.saysOk hp n s.passOp = s.passOp.endWith hp stOK 0 s.ports[n].gen :=
    State.foldl_report_eq_self fun m _ => (s.genKey_passOp m).symm.trans (State.genKey_of_rd fun a _ => (State.rd_of_regs (hend.regs rfl) a).symm)
  refine .of_port_command (d := 0x208) (effect := fun t => (t.cmdEprexit n, stOK)) rfl (by decide) htakes rfl ?_ ?_ ?_
  all_goals dsimp only; rw [hnothing]
  · exact (State.Frees.passOp (.refl s n)).touches
  · exact ⟨State.saysOk_host ((State.passOp_keeps s).host rfl) hp n, by rw [hreport]; exact hend.eq_mix⟩

/-! ### HARDRESET (R142) -/

/-- The ops of a port go: a cancel is asked for. -/
theorem State.dropOps_asks (s : State) (n : Fin 16) : s.asksAtMost n (s.dropOps n) := by
  have hridge := (s.dropApply_keeps n).ridge rfl
  rw [State.asksAtMost, ← hridge, State.dropOps]
  generalize s.dropApply n = u
  rw [State.cancelLater]
  split
  · exact .inr rfl
  · exact .inl rfl

theorem State.asksAtMost.of_ridge {s t u v : State} {n : Fin 16} (h : t.asksAtMost n u) (ht : t.ridge = s.ridge) (hv : v.ridge = u.ridge) : s.asksAtMost n v := by
  rw [State.asksAtMost, hv, ← ht]
  exact h

theorem State.hardReset_asks {s : State} {n : Fin 16} (hp : s.pstate n ≠ 0) (hmay : s.mayHardReset n) : s.asksAtMost n (s.hardReset n) := by
  have hleft : s.Keeps (pRegs ||| pJtl) ((((s.swLeave n).leaveHand n).satInc (PPD_COUNT.HARD n)).satInc (PPD_STATUS.HRCOUNT n)) :=
    (State.satInc_keeps ..).step rfl <| (State.satInc_keeps ..).step rfl <| (State.leaveHand_keeps ..).step rfl <| State.swLeave_keeps ..
  rw [State.hardReset_of_source hp hmay, State.hardResetFirst]
  generalize (((s.swLeave n).leaveHand n).satInc (PPD_COUNT.HARD n)).satInc (PPD_STATUS.HRCOUNT n) = u at *
  have hrest : (u.dropOps n).Keeps (pRegs ||| pPorts) ((((u.dropOps n).noContract n).protoReset n).hardResetRest n) :=
    (State.setP_keeps ..).step rfl <| (State.modLoop_keeps ..).step rfl <| (State.modPd_keeps ..).step rfl <| (State.clear_keeps ..).step rfl <|
      (State.freshRev_keeps ..).step rfl <| (State.showRp_keeps ..).step rfl <| (State.allocToFloor_keeps ..).step rfl <| (State.startRole_keeps ..).step rfl <|
      (State.vconnOff_keeps ..).step rfl <| (State.protoReset_keeps ..).step rfl <| (State.noContract_keeps ..).mono rfl
  exact (u.dropOps_asks n).of_ridge (hleft.ridge rfl) (hrest.ridge rfl)

theorem State.rd_slotEnded (s : State) {a : Nat} (ha : a ≠ TRS_STAT.at) : s.slotEnded.rd a = s.rd a :=
  (State.rd_settleDeficit _ ha).trans (State.rd_of_regs ((State.modRidge_keeps ..).regs rfl) a)

theorem State.pd_slotEnded (s : State) (n : Fin 16) : s.slotEnded.pd n = s.pd n :=
  (State.pd_settleDeficit ..).trans (State.pd_of_ports ((State.modRidge_keeps ..).ports rfl) n)

/-- The Hard Reset that began stands where the port's registers, its allocation and its policy engine stand. -/
theorem State.beganHardReset.beside {s t u : State} {n : Fin 16} (h : s.beganHardReset t n) (hr : ∀ a, inPort n a = true ∨ a = TRS_ALLOC.at n → u.rd a = t.rd a)
    (hpd : u.pd n = t.pd n) : s.beganHardReset u n := by
  have hget {f : Fld} (hf : inPort n f.addr = true ∨ f.addr = TRS_ALLOC.at n) : u.get f = t.get f := State.get_of_rd (hr _ hf)
  have hown {d lo w : Nat} (hd : d < 0x1000) : u.get ⟨portBase n.val + d, lo, w⟩ = t.get ⟨portBase n.val + d, lo, w⟩ := hget (.inl (inPort_off n hd))
  have hrdo : u.rd (PPD_CONTRACT.at n) = t.rd (PPD_CONTRACT.at n) := hr _ (.inl (inPort_off n (by decide)))
  have halloc : u.allocOf n = t.allocOf n := hget (.inr rfl)
  rw [State.beganHardReset, State.pstate, State.cc, State.bit, State.bit, State.bit, hown (by decide), hown (by decide), hown (by decide), hown (by decide),
    hown (by decide), hown (by decide), hown (by decide), hown (by decide), hrdo, halloc, hpd]
  exact h

theorem State.beganHardReset.slotEnded {s t : State} {n : Fin 16} (h : s.beganHardReset t n) : s.beganHardReset t.slotEnded n := by
  refine h.beside (fun a ha => t.rd_slotEnded ?_) (t.pd_slotEnded n)
  rintro rfl
  rcases ha with ha | ha
  · simp only [inPort, within, portBase, TRS_STAT.at, Bool.and_eq_true, decide_eq_true_eq] at ha
    omega
  · simp only [TRS_ALLOC.at, TRS_STAT.at] at ha
    omega

theorem State.beganHardReset.of_passOp {s t : State} {n : Fin 16} (h : s.passOp.beganHardReset t n) : s.beganHardReset t n := by
  have hfloor : s.passOp.floorOf n = s.floorOf n := s.get_passOp (by
    simp only [TRS_ALLOC.at, RDG_CNT0.at]
    omega)
  rw [State.beganHardReset, hfloor, s.cc_passOp, s.get_passOp_own, s.get_passOp_own] at h
  exact h

theorem hardreset_begins (s : State) (hp : HostPort) (n : Fin 16) (htakes : s.takes hp (PPD_CMD.at n) 2) (hstate : s.pstate n ≠ 0) (hmay : s.mayHardReset n) :
    Next (.hardreset hp n) s fun t =>
      s.beganHardReset t n ∧ s.hostSays t hp stOK 0 s.ports[n].gen ∧ s.passOp.regsKept t (policyArea n) ∧ s.farButHost t := by
  have hruns : s.passOp.pstate n ≠ 0 := by rwa [s.pstate_passOp]
  have hmayNow : s.passOp.mayHardReset n := ⟨(s.isService_passOp n).trans hmay.1, by rw [s.get_passOp_own]; exact hmay.2⟩
  obtain ⟨hbegan, hgen⟩ := State.hardReset_began hruns hmayNow
  have hacts := State.hardReset_actsOn hruns hmayNow
  have hk : s.Keeps (pRegs ||| pStaged ||| pFreeCtr ||| pRidge ||| pBat ||| pPorts ||| pSlices ||| pJtl ||| pBoot) (s.passOp.hardReset n) :=
    (State.hardReset_keeps ..).step rfl <| (State.passOp_keeps s).mono rfl
  have hended : (s.passOp.hardReset n).regsKept (s.passOp.hardReset n).slotEnded (policyArea n) := fun a ha => State.rd_slotEnded _ (by
    rintro rfl
    simp [policyArea, block, TRS_STAT.at] at ha)
  have hlast := s.saysOk_keeps hp n (s.passOp.hardReset n).slotEnded
  have hboot : (s.saysOk hp n (s.passOp.hardReset n).slotEnded).boot = { s.boot with rd := (s.saysOk hp n (s.passOp.hardReset n).slotEnded).boot.rd } := by
    rw [hlast.boot rfl, (State.slotEnded_keeps _).boot rfl, hacts.boot, (State.passOp_keeps s).boot rfl]
  have hall : s.Keeps (pRegs ||| pStaged ||| pFreeCtr ||| pHost ||| pRidge ||| pBat ||| pPorts ||| pSlices ||| pJtl ||| pBoot)
      (s.saysOk hp n (s.passOp.hardReset n).slotEnded) := hlast.step rfl <| (State.slotEnded_keeps _).step rfl (hk.mono rfl)
  have hsays := State.saysOk_host (((State.slotEnded_keeps (s.passOp.hardReset n)).host rfl).trans (hk.host rfl)) hp n
  obtain ⟨g, hg⟩ := s.saysOk_port hp n n (s.passOp.hardReset n).slotEnded
  refine .of_quelling_command (d := 0x208) (effect := fun t => t.hardReset n) rfl (by decide) htakes hgen (State.hardReset_asks hruns hmayNow)
    ⟨hbegan.slotEnded.of_passOp.of_same (s.saysOk_regs ..) (by rw [State.pd, hg]; rfl), hsays,
      (hacts.regs.trans hended).of_regs (s.saysOk_regs ..), ?_⟩
  rw [State.farButHost, ← hboot]
  exact hall.eq_mix

/-! ### The input warning (R155, R156) -/

/-- From s to t port n tells its partner of the warning: the port's registers alone change, and its INWARN stands. -/
structure State.Tells (s : State) (n : Fin 16) (t : State) : Prop where
  touches : s.Touches n (inPort n) t
  inwarn : t.get (PPD_STATUS.INWARN n) = s.get (PPD_STATUS.INWARN n)

namespace State.Tells

variable {s t u : State} {n : Fin 16}

theorem refl (s : State) (n : Fin 16) : s.Tells n s := ⟨.refl .., rfl⟩

theorem trans (h : s.Tells n t) (g : t.Tells n u) : s.Tells n u := ⟨h.touches.trans g.touches, g.inwarn.trans h.inwarn⟩

theorem modPd {f : PdSt → PdSt} (h : s.Tells n t) : s.Tells n (t.modPd n f) := ⟨h.touches.modPd, h.inwarn⟩

theorem ite {c : Prop} [Decidable c] (h : s.Tells n t) (g : s.Tells n u) : s.Tells n (if c then t else u) := by
  split
  · exact h
  · exact g

theorem sendOffer (h : s.Tells n t) : s.Tells n (t.sendOffer n) := by
  obtain ⟨htouch, -, -, hfields, -⟩ := t.sendOffer_spec n
  refine h.trans ⟨htouch.mono fun a ha => ?_, hfields _ rfl rfl⟩
  exact ((Bool.or_eq_true ..).mp ha).elim (inPort_of_status (by decide) a) inPort_of_offerArea

/-- An offer or an Alert of the port. -/
theorem beginAms {name : MsgName} (hname : name = .sourceCap ∨ name = .alert) (h : s.Tells n t) : s.Tells n (t.beginAms n name) := by
  refine .ite (.modPd <| h.trans ⟨.sinkTx (inPort_off n (by decide)) <| .refl .., State.get_sinkTx _ _ _ (by simp)⟩) ?_
  rcases hname with rfl | rfl
  · exact .sendOffer h.modPd
  · exact h.modPd.trans ⟨.send <| .refl .., State.get_send ..⟩

theorem wantOffer (h : s.Tells n t) : s.Tells n (t.wantOffer n) := .ite (.beginAms (.inl rfl) h) <| .ite (.sendOffer h) h.modPd

end State.Tells

/-- A port that is up takes the warning, and tells its partner. -/
theorem State.warnPort_tells {s : State} {n : Fin 16} (hup : s.portUp n = true) (on : Bool) : (s.flag (PPD_STATUS.INWARN n) on).Tells n (s.warnPort n on) := by
  rw [State.warnPort, if_neg (by rw [hup]; exact Bool.false_ne_true)]
  dsimp only
  generalize s.flag (PPD_STATUS.INWARN n) on = t
  have hstay := State.Tells.refl t n
  have halert := State.Tells.ite (c := t.mayStart n ∧ ¬ t.halted n.val) (.beginAms (.inr rfl) hstay)
    (hstay.modPd (f := fun d => { d with alertDue := d.alertDue + 1 }))
  exact .ite hstay <| .ite hstay.modPd <| .ite hstay.modPd <| .ite halert <| .ite hstay <| .ite (.wantOffer hstay.modPd) <| .ite (.wantOffer hstay.modPd) hstay

theorem State.warnPort_of_down {s : State} {n : Fin 16} (hup : s.portUp n = false) (on : Bool) : s.warnPort n on = s := by
  rw [State.warnPort, hup]
  rfl

theorem State.warnPort_touches (s : State) (n : Fin 16) (on : Bool) : s.Touches n (inPort n) (s.warnPort n on) := by
  cases hup : s.portUp n with
  | false =>
    rw [State.warnPort_of_down hup]
    exact .refl ..
  | true => exact (State.Touches.put (inPort_off n (by decide)) <| .refl ..).trans (State.warnPort_tells hup on).touches

/-- INWARN of a port that is up shows the warning, and of one that is not it stands. -/
theorem State.bit_warnPort (s : State) (n : Fin 16) (on : Bool) :
    (s.warnPort n on).bit (PPD_STATUS.INWARN n) = if s.portUp n then on else s.bit (PPD_STATUS.INWARN n) := by
  cases hup : s.portUp n with
  | false => rw [State.warnPort_of_down hup, if_neg Bool.false_ne_true]
  | true =>
    rw [State.bit_of_get (State.warnPort_tells hup on).inwarn, if_pos rfl]
    exact State.bit_flag _ _ (Nat.le_of_ble_eq_true rfl) Nat.one_pos

/-- The warning of every port. -/
def State.warnAll (s : State) (on : Bool) : State := allPorts.foldl (fun t n => t.warnPort n on) s

theorem State.warnAll_keeps (s : State) (on : Bool) : s.Keeps (pRegs ||| pPorts) (s.warnAll on) :=
  .foldl (fun _ _ hu => (State.warnPort_keeps ..).step rfl hu) (.refl ..)

theorem State.warnAll_regs (s : State) (on : Bool) : s.regsKept (s.warnAll on) (within (portBase 0) (portBase 16)) :=
  List.foldlRecOn (motive := fun u => s.regsKept u (within (portBase 0) (portBase 16))) _ _ (.refl _ _) fun u hu n _ =>
    hu.trans ((u.warnPort_touches n on).regs.mono fun a ha => by
      simp only [inPort, within, portBase, Bool.and_eq_false_iff, decide_eq_false_iff_not] at ha ⊢
      omega)

theorem State.bit_warnAll (s : State) (n : Fin 16) (on : Bool) :
    (s.warnAll on).bit (PPD_STATUS.INWARN n) = if s.portUp n then on else s.bit (PPD_STATUS.INWARN n) := by
  have hother (u : State) (m : Fin 16) (hm : m ≠ n) : (u.warnPort m on).bit (PPD_STATUS.INWARN n) = u.bit (PPD_STATUS.INWARN n) :=
    (u.warnPort_touches m on).regs.bit (inPort_eq_false_of_ne hm.symm (inPort_off n (by decide)))
  have hup (u : State) (m : Fin 16) : (u.warnPort m on).portUp n = u.portUp n :=
    State.portUp_of_rd ((u.warnPort_touches m on).regs _ (by simp [inPort, within, portBase, GLB_PORTMASK.at]; omega))
      ((u.warnPort_touches m on).regs _ (by simp [inPort, within, portBase, GLB_ISLPWR.at]; omega))
  refine State.foldl_allPorts_reaches (P := fun u => u.portUp n = s.portUp n ∧ u.bit (PPD_STATUS.INWARN n) = s.bit (PPD_STATUS.INWARN n))
    (Q := fun u => u.bit (PPD_STATUS.INWARN n) = if s.portUp n then on else s.bit (PPD_STATUS.INWARN n)) n (fun u m hm hu => ?_) (fun u hu => ?_)
    (fun u m hm hu => (hother u m hm).trans hu) ⟨rfl, rfl⟩
  · exact ⟨(hup u m).trans hu.1, (hother u m hm).trans hu.2⟩
  · rw [u.bit_warnPort, hu.1, hu.2]

/-- A change of the input warning: the level of source 0x107, then every port. -/
theorem Next.warns {c : Instr} {s : State} {on : Bool} {data : Nat} (hexec : exec c s = doneAll s ((s.level 0x107 on data).warnAll on)) :
    Next c s fun t =>
      (0x107 ∈ t.bat.levels ↔ on = true) ∧ t.bat = (s.level 0x107 on data).bat ∧
      (∀ n : Fin 16, t.bit (PPD_STATUS.INWARN n) = if s.portUp n then on else s.bit (PPD_STATUS.INWARN n)) ∧
      s.regsKept t (within (portBase 0) (portBase 16)) ∧ t = { s with regs := t.regs, bat := t.bat, ports := t.ports } := by
  have hlevel := s.level_keeps 0x107 on data
  have hmem := s.mem_levels_level 0x107 data on
  have hup (n : Fin 16) : (s.level 0x107 on data).portUp n = s.portUp n :=
    State.portUp_of_rd (State.rd_of_regs (hlevel.regs rfl) _) (State.rd_of_regs (hlevel.regs rfl) _)
  have hreport := State.reportAll_keeps s ((s.level 0x107 on data).warnAll on)
  have hbat : (s.reportAll ((s.level 0x107 on data).warnAll on)).bat = (s.level 0x107 on data).bat := (hreport.bat rfl).trans ((State.warnAll_keeps ..).bat rfl)
  refine .of_doneAll hexec ⟨by rw [hbat]; exact hmem, hbat, fun n => ?_, ?_,
    (hreport.step (m := pRegs ||| pBat ||| pPorts) rfl <| (State.warnAll_keeps ..).step rfl (hlevel.mono rfl)).eq_mix⟩
  · rw [State.bit_of_get (State.get_of_regs (State.reportAll_regs ..) _), State.bit_warnAll, hup, State.bit_of_get (State.get_of_regs (hlevel.regs rfl) _)]
  · have hall := State.warnAll_regs (s.level 0x107 on data) on
    exact ((State.regsKept.refl s _).of_regs (hlevel.regs rfl)).trans (hall.of_regs (State.reportAll_regs ..))

theorem inputWarning_warns (s : State) (h : 0x107 ∉ s.bat.levels) :
    Next .inputWarning s fun t =>
      0x107 ∈ t.bat.levels ∧ t.bat = (s.level 0x107 true 1).bat ∧
      (∀ n : Fin 16, t.bit (PPD_STATUS.INWARN n) = (s.bit (PPD_STATUS.INWARN n) || s.portUp n)) ∧
      s.regsKept t (within (portBase 0) (portBase 16)) ∧ t = { s with regs := t.regs, bat := t.bat, ports := t.ports } := by
  have hexec : exec .inputWarning s = doneAll s ((s.level 0x107 true 1).warnAll true) := congrArg (doneAll s) (if_neg (by simpa using h))
  obtain ⟨t, ht, hmem, hbat, hinwarn, hrest⟩ := Next.warns hexec
  refine ⟨t, ht, hmem.2 rfl, hbat, fun n => (hinwarn n).trans ?_, hrest⟩
  cases s.portUp n <;> simp

theorem inwarnRelease_ends (s : State) (hheld : s.warnHeld = false) (h : 0x107 ∈ s.bat.levels) :
    Next .inwarnRelease s fun t =>
      0x107 ∉ t.bat.levels ∧ t.bat = (s.level 0x107 false).bat ∧
      (∀ n : Fin 16, t.bit (PPD_STATUS.INWARN n) = (s.bit (PPD_STATUS.INWARN n) && !s.portUp n)) ∧
      s.regsKept t (within (portBase 0) (portBase 16)) ∧ t = { s with regs := t.regs, bat := t.bat, ports := t.ports } := by
  have hexec : exec .inwarnRelease s = doneAll s ((s.level 0x107 false).warnAll false) :=
    (if_neg (by rw [hheld]; exact Bool.false_ne_true)).trans (congrArg (doneAll s) (if_pos (by simpa using h)))
  obtain ⟨t, ht, hmem, hbat, hinwarn, hrest⟩ := Next.warns hexec
  refine ⟨t, ht, fun hin => Bool.false_ne_true (hmem.1 hin), hbat, fun n => (hinwarn n).trans ?_, hrest⟩
  cases s.portUp n <;> simp

/-- Settles O28: a policy command begins its AMS, its Soft_Reset or its Hard Reset, or is held for the next Ready, in a quiet slot that ends OK; the input warning is a
level of Batten and one bit of each port that is up. -/
theorem policyCommandsAndWarning : Obligations.PolicyCommandsAndWarning :=
  ⟨sendcaps_begins, sendcaps_held, hardreset_begins, softreset_sends, drswap_begins, drswap_held, eprexit_begins, eprexit_idle, eprexit_held, inputWarning_warns,
    inwarnRelease_ends⟩

end Sys2Proof.Machine
end

section
/-!
PROOF. O21: sending, acknowledgement and retry (R129, R131, R146, R147).
-/

namespace Sys2Proof.Machine

/-! ### The timers of an offer (R131) -/

/-- A timer or a message that changes only the policy engine's part of its port. -/
theorem Next.keeps_regs {c : Instr} {s w : State} {n : Fin 16} (hexec : exec c s = doneAll s w) (ht : s.Touches n (fun _ => false) w) (hk : s.Keeps pPorts w) :
    Next c s fun t => t.pd n = w.pd n ∧ s.portsBut t [n] ∧ t = { s with ports := t.ports } :=
  .of_touching hexec ht (fun _ h => nomatch h) ⟨State.pd_report .., (ht.report s).2, ((State.report_keeps ..).step rfl hk).eq_mix⟩

/-- The same, where no report is owed. -/
theorem Next.modifies_pd {c : Instr} {s : State} {n : Fin 16} {f : PdSt → PdSt} (hexec : exec c s = done (s.modPd n f)) :
    Next c s fun t => t.pd n = f (s.pd n) ∧ s.portsBut t [n] ∧ t = { s with ports := t.ports } :=
  .of_done hexec ⟨State.pd_modPd_same .., (State.Touches.modPd (p := fun _ => false) (.refl s n _)).ports, (State.modPd_keeps ..).eq_mix⟩

/-- An offer is sent, behind steps that changed only the policy engine's part of the port. -/
theorem Next.offers {c : Instr} {s u : State} {n : Fin 16} (hexec : exec c s = doneAll s (u.sendOffer n)) (ht : s.Touches n (fun _ => false) u)
    (hk : s.Keeps pPorts u) (hout : (u.pd n).out = (s.pd n).out) :
    Next c s fun t =>
      t.pstate n = 3 ∧ s.sends t n [{ name := if s.bit (PPD_STATUS.EPRMODE n) then .eprSourceCap else .sourceCap, sop := 0, objs := t.offerObjs n }] ∧
      (t.pd n).acked = false ∧ (t.pd n).caps = (u.pd n).caps ∧ t.bit (PPD_OFFERINFO.EPRMSG n) = s.bit (PPD_STATUS.EPRMODE n) ∧
      s.portsBut t [n] ∧ s.regsKept t (inPort n) ∧ t = { s with regs := t.regs, ports := t.ports } := by
  obtain ⟨htouch, hstate, hmsg, -, pos, hoffer⟩ := u.sendOffer_spec n
  have hmode : u.bit (PPD_STATUS.EPRMODE n) = s.bit (PPD_STATUS.EPRMODE n) := ht.regs.bit rfl
  have hin (a : Nat) (ha : (a == PPD_STATUS.at n || offerArea n a) = true) : inPort n a = true :=
    (Bool.or_eq_true_iff.1 ha).elim (fun e => inPort_of_status (by decide) a e) inPort_of_offerArea
  have hall : s.Touches n (inPort n) (u.sendOffer n) := (ht.mono fun _ h => nomatch h).trans (htouch.mono hin)
  obtain ⟨hregs, hports⟩ := hall.report s
  rw [hmode] at hmsg hoffer
  refine .of_touching hexec hall (fun _ => id) ⟨(State.get_report ..).trans hstate, ?_, ?_, ?_, (State.bit_of_get (State.get_report ..)).trans hmsg, hports, hregs,
    ((State.report_keeps ..).step (m := pRegs ||| pPorts) rfl <| (State.sendOffer_keeps ..).step rfl <| hk.mono rfl).eq_mix⟩
  · rw [State.sends, State.pd_report, State.offerObjs_report, hoffer, hout]
    rfl
  · rw [State.pd_report, hoffer]
  · rw [State.pd_report, hoffer]

theorem tfirstcapExpire_waits (s : State) (n : Fin 16) (hp : s.pstate n = 1) (hhalt : s.halted n.val = false) (hdisc : (s.pd n).discovering = true) :
    Next (.tfirstcapExpire n) s fun t => t.pd n = { s.pd n with capsDue := true } ∧ s.portsBut t [n] ∧ t = { s with ports := t.ports } := by
  have hpd := s.pd_modPd_same n (fun d => { d with capsDue := true })
  have hwait : (s.modPd n (fun d => { d with capsDue := true })).afterDisc n = s.modPd n (fun d => { d with capsDue := true }) :=
    if_neg (by rw [hpd]; simp [hdisc])
  have hexec : exec (.tfirstcapExpire n) s = doneAll s (s.modPd n (fun d => { d with capsDue := true })) :=
    (if_pos ⟨hp, by simp [hhalt]⟩).trans (congrArg (doneAll s) hwait)
  obtain ⟨t, ht, htpd, hrest⟩ := Next.keeps_regs hexec (.modPd <| .refl ..) (State.modPd_keeps ..)
  exact ⟨t, ht, htpd.trans hpd, hrest⟩

theorem tfirstcapExpire_offers (s : State) (n : Fin 16) (hp : s.pstate n = 1) (hhalt : s.halted n.val = false) (hdisc : (s.pd n).discovering = false) :
    Next (.tfirstcapExpire n) s fun t =>
      t.pstate n = 3 ∧ s.sends t n [{ name := if s.bit (PPD_STATUS.EPRMODE n) then .eprSourceCap else .sourceCap, sop := 0, objs := t.offerObjs n }] ∧
      (t.pd n).acked = false ∧ t.bit (PPD_OFFERINFO.EPRMSG n) = s.bit (PPD_STATUS.EPRMODE n) ∧
      s.portsBut t [n] ∧ s.regsKept t (inPort n) ∧ t = { s with regs := t.regs, ports := t.ports } := by
  have hpd := s.pd_modPd_same n (fun d => { d with capsDue := true })
  have hstate : (s.modPd n (fun d => { d with capsDue := true })).pstate n = 1 := hp
  have hsend : (s.modPd n (fun d => { d with capsDue := true })).afterDisc n = (s.modPd n (fun d => { d with capsDue := true })).sendOffer n :=
    if_pos (by rw [hpd, hstate]; simp [hdisc])
  have hexec : exec (.tfirstcapExpire n) s = doneAll s ((s.modPd n (fun d => { d with capsDue := true })).sendOffer n) :=
    (if_pos ⟨hp, by simp [hhalt]⟩).trans (congrArg (doneAll s) hsend)
  obtain ⟨t, ht, hthree, hsends, hacked, -, hrest⟩ := Next.offers hexec (.modPd <| .refl ..) (State.modPd_keeps ..) (by rw [hpd])
  exact ⟨t, ht, hthree, hsends, hacked, hrest⟩

theorem ttypecSendSourceCap_offers (s : State) (n : Fin 16) (hp : s.pstate n = 3) (hacked : (s.pd n).acked = false) (hhalt : s.halted n.val = false)
    (hcaps : (s.pd n).caps < 50) :
    Next (.ttypecSendSourceCap n) s fun t =>
      t.pstate n = 3 ∧ s.sends t n [{ name := if s.bit (PPD_STATUS.EPRMODE n) then .eprSourceCap else .sourceCap, sop := 0, objs := t.offerObjs n }] ∧
      (t.pd n).caps = (s.pd n).caps ∧ s.portsBut t [n] ∧ s.regsKept t (inPort n) ∧ t = { s with regs := t.regs, ports := t.ports } := by
  have hexec : exec (.ttypecSendSourceCap n) s = doneAll s (s.sendOffer n) := (if_pos ⟨hp, by simp [hacked], by simp [hhalt]⟩).trans (if_neg (by omega))
  obtain ⟨t, ht, hthree, hsends, -, hsame, -, hrest⟩ := Next.offers hexec (.refl ..) (.refl ..) rfl
  exact ⟨t, ht, hthree, hsends, hsame, hrest⟩

theorem ttypecSendSourceCap_gives_up (s : State) (n : Fin 16) (hp : s.pstate n = 3) (hacked : (s.pd n).acked = false) (hhalt : s.halted n.val = false)
    (hcaps : 50 ≤ (s.pd n).caps) :
    Next (.ttypecSendSourceCap n) s fun t =>
      t.pstate n = 19 ∧ s.sends t n [] ∧ s.portsBut t [n] ∧ s.regsBut t [PPD_STATUS.at n] ∧ t = { s with regs := t.regs, ports := t.ports } := by
  have hexec : exec (.ttypecSendSourceCap n) s = done1 n s (s.setP n 19) := (if_pos ⟨hp, by simp [hacked], by simp [hhalt]⟩).trans (if_pos hcaps)
  have htouch : s.Touches n (fun a => a == PPD_STATUS.at n) (s.setP n 19) := .put (beq_self_eq_true _) <| .refl ..
  obtain ⟨hregs, hports⟩ := htouch.report s
  refine .of_done1 hexec ⟨(State.get_report ..).trans (State.get_put_same _ _ _ (Nat.le_of_ble_eq_true rfl)), ?_, hports, hregs.regsBut (by simp),
    ((State.report_keeps ..).step (m := pRegs ||| pPorts) rfl <| (State.setP_keeps ..).mono rfl).eq_mix⟩
  rw [State.sends, State.pd_report, State.setP, State.pd_put, List.append_nil]

theorem tsenderResponse_resets (s : State) (n : Fin 16) (hp : s.pstate n = 3) (hacked : (s.pd n).acked = true) (hhalt : s.halted n.val = false)
    (hmay : s.mayHardReset n) :
    Next (.tsenderResponse n) s fun t => s.beganHardReset t n ∧ s.regsKept t (policyArea n) ∧ s.farKept t := by
  refine .begins_hardReset (u := s) ?_ (.refl ..) (.refl ..) rfl rfl (by rw [hp]; decide) hmay
  change execTsenderResponse n s = _
  rw [execTsenderResponse, if_neg (by rw [hhalt]; exact Bool.false_ne_true), if_neg (fun h => by rw [hmay.1] at h; exact Bool.false_ne_true h.1),
    if_pos (.inl ⟨hp, hacked⟩)]

theorem tsenderResponse_ends (s : State) (n : Fin 16) (hp : s.pstate n = 6) (hams : (s.pd n).ams = some .getStatus) (hhalt : s.halted n.val = false)
    (hserv : s.isService n = false) (hheld : s.nothingHeld n) :
    Next (.tsenderResponse n) s fun t =>
      (t.pd n).ams = none ∧ t.pstate n = 6 ∧ s.sends t n [] ∧
      (s.isSource n = true → s.hasContract n = true → s.rev3 n = true → t.get (PCC_STATUS.RPOUT n) = 3) ∧
      s.portsBut t [n] ∧ s.regsBut t [PCC_STATUS.at n, PPD_STATUS.at n] ∧ t = { s with regs := t.regs, ports := t.ports } := by
  obtain ⟨htouch, hkeeps, hstate, hpd, -, hrp⟩ := State.endAms_spec hserv hheld
  have hexec : exec (.tsenderResponse n) s = doneAll s (s.endAms n) := by
    change execTsenderResponse n s = _
    rw [execTsenderResponse, if_neg (by rw [hhalt]; exact Bool.false_ne_true), if_neg (fun h => by rw [hserv] at h; exact Bool.false_ne_true h.1),
      if_neg (by rw [hp, hams]; rintro (⟨h, -⟩ | h) <;> cases h), if_pos ⟨by rw [hams]; rfl, .inl hp⟩]
  obtain ⟨hregs, hports⟩ := htouch.report s
  refine .of_touching hexec htouch (fun a ha => ?_) ⟨by rw [State.pd_report, hpd], (State.get_report ..).trans hstate, ?_,
    fun h1 h2 h3 => (State.get_report ..).trans (hrp h1 h2 h3), hports, hregs.regsBut (by simp +contextual [or_comm]), ((State.report_keeps ..).step rfl hkeeps).eq_mix⟩
  · rcases (Bool.or_eq_true ..).mp ha with ha | ha <;> rw [eq_of_beq ha] <;> exact inPort_off n (by decide)
  · rw [State.sends, State.pd_report, hpd, List.append_nil]

/-! ### GoodCRC (R129) -/

/-- The message in flight, m, leaves the queue: its MessageID counter goes on. -/
def State.messageOut (s : State) (n : Fin 16) (m : PdMsg) (rest : List PdMsg) : State :=
  s.modPd n (fun d => { d with out := rest, retries := 0, txId := d.txId.set m.sop ((d.txId.getD m.sop 0 + 1) % 8) })

theorem State.pd_messageOut (s : State) (n : Fin 16) (m : PdMsg) (rest : List PdMsg) : (s.messageOut n m rest).pd n =
    { s.pd n with out := rest, retries := 0, txId := (s.pd n).txId.set m.sop (((s.pd n).txId.getD m.sop 0 + 1) % 8) } := State.pd_modPd_same ..

theorem State.messageOut_touches (s : State) (n : Fin 16) (m : PdMsg) (rest : List PdMsg) : s.Touches n (fun _ => false) (s.messageOut n m rest) := .modPd <| .refl ..

theorem State.messageOut_keeps (s : State) (n : Fin 16) (m : PdMsg) (rest : List PdMsg) : s.Keeps pPorts (s.messageOut n m rest) := State.modPd_keeps ..

theorem State.isService_messageOut (s : State) (n : Fin 16) (m : PdMsg) (rest : List PdMsg) : (s.messageOut n m rest).isService n = s.isService n :=
  State.isService_modPd ..

theorem exec_goodcrc {s : State} {n : Fin 16} {m : PdMsg} {rest : List PdMsg} (hhalt : s.halted n.val = false) (hout : (s.pd n).out = m :: rest) :
    exec (.goodcrc n) s = doneAll s ((s.messageOut n m rest).afterGoodCrc n m) := by
  change execGoodcrc n s = _
  rw [execGoodcrc, if_neg (by rw [hhalt]; exact Bool.false_ne_true), hout]
  rfl

/-- A message upon whose acknowledgement at most an answer is awaited. -/
theorem State.afterGoodCrc_plain (s : State) (n : Fin 16) {m : PdMsg}
    (hm : m.name = .notSupported ∨ m.name = .wait ∨ m.name = .revision ∨ m.name = .vdm ∨ m.name = .accept ∨ m.name = .sourceCap) :
    s.Touches n (fun _ => false) (s.afterGoodCrc n m) ∧ s.Keeps pPorts (s.afterGoodCrc n m) ∧
      (s.afterGoodCrc n m).pd n = { s.pd n with acked := (s.pd n).acked || m.name == .accept || m.name == .sourceCap } := by
  obtain ⟨name, sop, objs⟩ := m
  have hstays (h : s.afterGoodCrc n ⟨name, sop, objs⟩ = s) (hno : ((s.pd n).acked || name == .accept || name == .sourceCap) = (s.pd n).acked) :
      s.Touches n (fun _ => false) (s.afterGoodCrc n ⟨name, sop, objs⟩) ∧ s.Keeps pPorts (s.afterGoodCrc n ⟨name, sop, objs⟩) ∧
        (s.afterGoodCrc n ⟨name, sop, objs⟩).pd n = { s.pd n with acked := (s.pd n).acked || name == .accept || name == .sourceCap } := by
    rw [h, hno]
    exact ⟨.refl .., .refl .., rfl⟩
  have hacks (h : s.afterGoodCrc n ⟨name, sop, objs⟩ = s.modPd n (fun d => { d with acked := true }))
      (hyes : ((s.pd n).acked || name == .accept || name == .sourceCap) = true) :
      s.Touches n (fun _ => false) (s.afterGoodCrc n ⟨name, sop, objs⟩) ∧ s.Keeps pPorts (s.afterGoodCrc n ⟨name, sop, objs⟩) ∧
        (s.afterGoodCrc n ⟨name, sop, objs⟩).pd n = { s.pd n with acked := (s.pd n).acked || name == .accept || name == .sourceCap } := by
    rw [h, hyes]
    exact ⟨.modPd <| .refl .., State.modPd_keeps .., State.pd_modPd_same ..⟩
  rcases hm with rfl | rfl | rfl | rfl | rfl | rfl
  · exact hstays rfl ((Bool.or_false _).trans (Bool.or_false _))
  · exact hstays rfl ((Bool.or_false _).trans (Bool.or_false _))
  · exact hstays rfl ((Bool.or_false _).trans (Bool.or_false _))
  · exact hstays rfl ((Bool.or_false _).trans (Bool.or_false _))
  · exact hacks rfl ((Bool.or_false _).trans (Bool.or_true _))
  · exact hacks rfl (Bool.or_true _)

theorem goodcrc_plain (s : State) (n : Fin 16) (m : PdMsg) (rest : List PdMsg) (hhalt : s.halted n.val = false) (hout : (s.pd n).out = m :: rest)
    (hm : m.name = .notSupported ∨ m.name = .wait ∨ m.name = .revision ∨ m.name = .vdm ∨ m.name = .accept ∨ m.name = .sourceCap) :
    Next (.goodcrc n) s fun t =>
      (t.pd n).out = rest ∧ (t.pd n).retries = 0 ∧ (t.pd n).txId = (s.pd n).txId.set m.sop (((s.pd n).txId.getD m.sop 0 + 1) % 8) ∧
      (t.pd n).acked = ((s.pd n).acked || m.name == .accept || m.name == .sourceCap) ∧
      s.portsBut t [n] ∧ t = { s with ports := t.ports } := by
  obtain ⟨htouch, hkeeps, hpd⟩ := (s.messageOut n m rest).afterGoodCrc_plain n hm
  rw [s.pd_messageOut] at hpd
  obtain ⟨t, ht, htpd, hrest⟩ := Next.keeps_regs (exec_goodcrc hhalt hout) ((s.messageOut_touches n m rest).trans htouch)
    (hkeeps.step rfl (s.messageOut_keeps n m rest))
  rw [hpd] at htpd
  exact ⟨t, ht, by rw [htpd], by rw [htpd], by rw [htpd], by rw [htpd], hrest⟩

theorem goodcrc_swaps (s : State) (n : Fin 16) (m : PdMsg) (rest : List PdMsg) (hhalt : s.halted n.val = false) (hout : (s.pd n).out = m :: rest)
    (hm : m.name = .acceptSwap) (hp : s.pstate n = 11) (hheld : s.nothingHeld n) :
    Next (.goodcrc n) s fun t =>
      (t.pd n).out = rest ∧ t.bit (PPD_STATUS.DROLE n) = !s.bit (PPD_STATUS.DROLE n) ∧ t.pstate n = 6 ∧
      s.portsBut t [n] ∧ s.regsBut t [PPD_STATUS.at n, PCC_STATUS.at n] ∧ t = { s with regs := t.regs, ports := t.ports } := by
  have hpd := s.pd_messageOut n m rest
  have hout0 := s.messageOut_touches n m rest
  have hkeeps0 := s.messageOut_keeps n m rest
  have hswap : (s.messageOut n m rest).afterGoodCrc n m = ((s.messageOut n m rest).swapRole n).enterReady n := by
    rw [State.afterGoodCrc, hm]
    exact if_pos hp
  have hexec := (exec_goodcrc hhalt hout).trans (congrArg (doneAll s) hswap)
  generalize s.messageOut n m rest = u at *
  have hupd : (u.swapRole n).pd n = u.pd n := State.pd_put ..
  have hrole : (u.swapRole n).bit (PPD_STATUS.DROLE n) = !s.bit (PPD_STATUS.DROLE n) := by
    rw [State.swapRole, State.bit_flag _ _ (Nat.le_of_ble_eq_true rfl) Nat.one_pos, hout0.regs.bit rfl]
  obtain ⟨htouch, hkeeps, hstate, hend, hfields, -⟩ := State.enterReady_spec (s := u.swapRole n) (n := n)
    (State.nothingWaits_of_nothingHeld (by rw [State.nothingHeld, hupd, hpd]; exact hheld))
  have hall : s.Touches n (fun a => a == PPD_STATUS.at n || a == PCC_STATUS.at n) ((u.swapRole n).enterReady n) :=
    (State.Touches.put (by simp) <| hout0.mono fun _ h => nomatch h).trans htouch
  obtain ⟨hregs, hports⟩ := hall.report s
  refine .of_touching hexec hall (fun a ha => ?_) ⟨by rw [State.pd_report, hend, hupd, hpd],
    (State.bit_of_get ((State.get_report ..).trans (hfields _ rfl rfl))).trans hrole, (State.get_report ..).trans hstate, hports, hregs.regsBut (by simp),
    ((State.report_keeps ..).step (m := pRegs ||| pPorts) rfl <| hkeeps.step rfl <| (State.flag_keeps ..).step rfl <| hkeeps0.mono rfl).eq_mix⟩
  rcases (Bool.or_eq_true ..).mp ha with ha | ha <;> rw [eq_of_beq ha] <;> exact inPort_off n (by decide)

/-! ### tReceive (R129, R131, R161) -/

theorem treceive_retries (s : State) (n : Fin 16) (m : PdMsg) (rest : List PdMsg) (hhalt : s.halted n.val = false) (hout : (s.pd n).out = m :: rest)
    (hretries : (s.pd n).retries < 2) :
    Next (.treceive n) s fun t =>
      (t.pd n).out = (s.pd n).out ∧ (t.pd n).txId = (s.pd n).txId ∧ (t.pd n).retries = (s.pd n).retries + 1 ∧
      s.portsBut t [n] ∧ t = { s with ports := t.ports } := by
  have hexec : exec (.treceive n) s = done (s.modPd n (fun d => { d with retries := d.retries + 1 })) := by
    change execTreceive n s = _
    rw [execTreceive, if_neg (by rw [hhalt]; exact Bool.false_ne_true), hout]
    exact if_pos hretries
  obtain ⟨t, ht, hpd, hrest⟩ := Next.modifies_pd hexec
  exact ⟨t, ht, by rw [hpd], by rw [hpd], by rw [hpd], hrest⟩

/-- What tReceive makes of a port whose message has failed: nCapsCount failures end in NoPD (R131, R132). -/
def State.capsCounted (s : State) (n : Fin 16) : State := if s.pstate n = 3 ∧ 50 ≤ (s.pd n).caps then s.setP n 19 else s

theorem State.capsCounted_of_pstate {s : State} {n : Fin 16} (h : s.pstate n ≠ 3) : s.capsCounted n = s := if_neg fun hc => h hc.1

theorem exec_treceive {s w : State} {n : Fin 16} {m : PdMsg} {rest : List PdMsg} (hhalt : s.halted n.val = false) (hout : (s.pd n).out = m :: rest)
    (hretries : 2 ≤ (s.pd n).retries) (hfail : (s.messageOut n m rest).sendFailed n m = w) : exec (.treceive n) s = doneAll s (w.capsCounted n) := by
  subst hfail
  change execTreceive n s = _
  rw [execTreceive, if_neg (by rw [hhalt]; exact Bool.false_ne_true), hout]
  exact if_neg (by omega)

theorem treceive_resets (s : State) (n : Fin 16) (m : PdMsg) (rest : List PdMsg) (hhalt : s.halted n.val = false) (hout : (s.pd n).out = m :: rest)
    (hretries : 2 ≤ (s.pd n).retries) (hm : m.name = .softReset) (hp : s.pstate n ≠ 0) (hmay : s.mayHardReset n) :
    Next (.treceive n) s fun t => s.beganHardReset t n ∧ s.regsKept t (policyArea n) ∧ s.farKept t := by
  have hserv := s.isService_messageOut n m rest
  have hfail : (s.messageOut n m rest).sendFailed n m = (s.messageOut n m rest).hardReset n := by
    rw [State.sendFailed, hm]
    exact if_neg (by rw [hserv, hmay.1]; exact Bool.false_ne_true)
  have hout0 := (s.messageOut_touches n m rest).mono (q := fun a => a == PPD_STATUS.at n) fun _ h => nomatch h
  obtain ⟨⟨hstate, -⟩, -⟩ := State.hardReset_behind hout0 (s.messageOut_touches n m rest |>.regs.get rfl) hserv hp hmay
  have hcounted : ((s.messageOut n m rest).hardReset n).capsCounted n = (s.messageOut n m rest).hardReset n := State.capsCounted_of_pstate (by rw [hstate]; decide)
  refine .begins_hardReset (u := s.messageOut n m rest) ?_ hout0 ((s.messageOut_keeps n m rest).mono rfl) (s.messageOut_touches n m rest |>.regs.get rfl) hserv hp hmay
  rw [exec_treceive hhalt hout hretries hfail, hcounted]

theorem treceive_counts (s : State) (n : Fin 16) (m : PdMsg) (rest : List PdMsg) (hhalt : s.halted n.val = false) (hout : (s.pd n).out = m :: rest)
    (hretries : 2 ≤ (s.pd n).retries) (hm : m.name = .sourceCap) (hp : s.pstate n = 3) :
    Next (.treceive n) s fun t =>
      (t.pd n).out = rest ∧ (t.pd n).retries = 0 ∧ (t.pd n).caps = (s.pd n).caps + 1 ∧ t.pstate n = (if 50 ≤ (s.pd n).caps + 1 then 19 else 3) ∧
      s.portsBut t [n] ∧ s.regsBut t [PPD_STATUS.at n] ∧ t = { s with regs := t.regs, ports := t.ports } := by
  have hpd := s.pd_messageOut n m rest
  have hfail : (s.messageOut n m rest).sendFailed n m = (s.messageOut n m rest).modPd n (fun d => { d with caps := d.caps + 1, acked := false, chunkTx := none }) := by
    rw [State.sendFailed, hm]
    exact if_pos hp
  have hexec := exec_treceive hhalt hout hretries hfail
  have hu : s.Touches n (fun a => a == PPD_STATUS.at n) ((s.messageOut n m rest).modPd n (fun d => { d with caps := d.caps + 1, acked := false, chunkTx := none })) :=
    .modPd <| (s.messageOut_touches n m rest).mono fun _ h => nomatch h
  have huK : s.Keeps (pRegs ||| pPorts) ((s.messageOut n m rest).modPd n (fun d => { d with caps := d.caps + 1, acked := false, chunkTx := none })) :=
    (State.modPd_keeps ..).step rfl ((s.messageOut_keeps n m rest).mono rfl)
  have hupd : ((s.messageOut n m rest).modPd n (fun d => { d with caps := d.caps + 1, acked := false, chunkTx := none })).pd n =
      { (s.messageOut n m rest).pd n with caps := (s.pd n).caps + 1, acked := false, chunkTx := none } := by rw [State.pd_modPd_same, hpd]
  have hstate : ((s.messageOut n m rest).modPd n (fun d => { d with caps := d.caps + 1, acked := false, chunkTx := none })).pstate n = 3 := hp
  rw [hpd] at hupd
  generalize (s.messageOut n m rest).modPd n (fun d => { d with caps := d.caps + 1, acked := false, chunkTx := none }) = u at *
  have hcaps : (u.pd n).caps = (s.pd n).caps + 1 := by rw [hupd]
  have hwpd : (u.capsCounted n).pd n = u.pd n := by
    rw [State.capsCounted]
    split
    · exact State.pd_put ..
    · rfl
  have hwstate : (u.capsCounted n).pstate n = if 50 ≤ (s.pd n).caps + 1 then 19 else 3 := by
    rw [State.capsCounted, hstate, hcaps]
    by_cases hfull : 50 ≤ (s.pd n).caps + 1
    · rw [if_pos ⟨rfl, hfull⟩, if_pos hfull]
      exact State.get_put_same _ _ _ (Nat.le_of_ble_eq_true rfl)
    · rw [if_neg (fun h => hfull h.2), if_neg hfull, hstate]
  have hall : s.Touches n (fun a => a == PPD_STATUS.at n) (u.capsCounted n) := .maybe (.put (beq_self_eq_true _)) hu
  have hkeeps : s.Keeps (pRegs ||| pPorts) (u.capsCounted n) := .ite (fun _ => (State.setP_keeps ..).step rfl huK) fun _ => huK
  obtain ⟨hregs, hports⟩ := hall.report s
  exact .of_touching hexec hall (inPort_of_status (by decide)) ⟨by rw [State.pd_report, hwpd, hupd], by rw [State.pd_report, hwpd, hupd],
    by rw [State.pd_report, hwpd, hupd], (State.get_report ..).trans hwstate, hports, hregs.regsBut (by simp), ((State.report_keeps ..).step rfl hkeeps).eq_mix⟩

/-! ### CRC errors and chunks (R129, R147) -/

theorem crcError_counts (s : State) (n : Fin 16) (hlisten : s.listening n = true) :
    Next (.crcError n) s fun t =>
      t.get (PPD_COUNT.CRCERR n) = min (s.get (PPD_COUNT.CRCERR n) + 1) (2 ^ (PPD_COUNT.CRCERR n).w - 1) ∧
      s.regsBut t [PPD_COUNT.at n] ∧ t = { s with regs := t.regs } := by
  have hkept : s.regsKept (s.satInc (PPD_COUNT.CRCERR n)) (fun a => a == PPD_COUNT.at n) := .put (beq_self_eq_true _) <| .refl _ _
  exact .of_done (if_pos hlisten) ⟨State.get_satInc_same _ _ (Nat.le_of_ble_eq_true rfl), hkept.regsBut (by simp), (State.satInc_keeps ..).eq_mix⟩

theorem State.offerObjs_takeHead (s : State) (h : PdHead) : (s.takeHead h).offerObjs h.n = s.offerObjs h.n :=
  State.offerObjs_of (by rw [s.pd_takeHead]) fun k => s.rd_takeHead h (by
    simp only [PPD_OFFER.at, PPD_STATUS.at]
    omega)

theorem chunkRequest_answers (s : State) (h : PdHead) (num : BitVec 4) (k j : Nat) (hh : s.hears h) (h19 : s.pstate h.n ≠ 19)
    (htx : (s.pd h.n).chunkTx = some (k, j)) :
    Next (.chunkRequest h num) s fun t => s.answers t h (if num.toNat = k then [{ name := .eprSourceCap, sop := 0, objs := s.offerObjs h.n }] else []) := by
  have hchunk : ((s.takeHead h).pd h.n).chunkTx = some (k, j) := by
    rw [s.pd_takeHead]
    exact htx
  by_cases hnum : num.toNat = k
  · rw [if_pos hnum, ← s.offerObjs_takeHead h]
    refine .answers_one rfl hh h19 ?_
    rw [hchunk]
    exact if_pos hnum
  · rw [if_neg hnum]
    refine .answers_none rfl hh h19 ?_
    rw [hchunk]
    exact if_neg hnum

theorem chunkTimeout_abandons (s : State) (n : Fin 16) (hhalt : s.halted n.val = false) :
    Next (.chunkTimeout n) s fun t => t.pd n = { s.pd n with chunkTx := none, chunkRx := none, rxBuf := [] } ∧ s.portsBut t [n] ∧ t = { s with ports := t.ports } :=
  .modifies_pd (f := fun d => { d with chunkTx := none, chunkRx := none, rxBuf := [] }) (if_neg (by rw [hhalt]; exact Bool.false_ne_true))

/-! ### A PS_RDY that fails: Hard Reset, and a tally that may latch the port (R161) -/

namespace State.Holds

variable {s t : State} {n : Fin 16}

theorem driveRd {on : Bool} (h : s.Holds n stillMarks t) : s.Holds n stillMarks (t.driveRd n on) :=
  .ite (fun _ => h) fun _ => .put (by split <;> decide) <| h.of_eq rfl rfl

theorem errRec (h : s.Holds n stillMarks t) : s.Holds n stillMarks (t.errRec n) := by
  unfold State.errRec
  extract_lets t1 t2 t3 t4
  have h1 : s.Holds n stillMarks t1 := .driveRd <| .putOwn (by decide) <| .putOwn (by decide) h.swLeave
  have h2 : s.Holds n stillMarks t2 := .legsOff rfl <| .putOwn (by decide) <| .putOwn (by decide) <| h1.putOwn (by decide)
  have h3 : s.Holds n stillMarks t3 := .ite (fun _ => h2.eaveOpen rfl) fun _ => h2.discharge rfl
  exact .modPort (fun _ => rfl) <| .dropOps (by decide) (by decide) <| .settleCurve <| .leaveAttach <| .clearCable h3.pdReset

theorem goErrRec (h : s.Holds n stillMarks t) : s.Holds n stillMarks (t.goErrRec n) := .maybe (fun h => .ite (fun _ => h.modPort fun _ => rfl) fun _ => h.errRec) h

end State.Holds

theorem State.pstate_goErrRec (s : State) (n : Fin 16) : (s.goErrRec n).pstate n = s.pstate n ∨ (s.goErrRec n).pstate n = 0 := by
  rw [State.goErrRec]
  split
  · split
    · exact .inl (State.get_modPort ..)
    · exact .inr (s.errRec_quells n).2.1
  · exact .inl rfl

/-- The register of the tally of a port's Hard Resets. -/
def resetTally (n : Fin 16) : Nat := BAT_TALLY1.at (portTally n tallyPDHR)

theorem block_resetTally (n : Fin 16) : block 7 (resetTally n) = true := by
  simp only [block, resetTally, BAT_TALLY1.at, portTally, tallyPDHR, beq_iff_eq]
  omega

theorem portAddr_ne_resetTally (n : Fin 16) {d : Nat} : portBase n.val + d ≠ resetTally n :=
  portAddr_ne n (by
    simp only [resetTally, BAT_TALLY1.at, portTally, tallyPDHR]
    omega)

/-- A count in the tally of Hard Resets latches the port, or changes the tally alone. -/
theorem State.tallyLatch_spec (s : State) (n : Fin 16) :
    s.regsKept (s.tallyLatch n tallyPDHR) (fun a => a == resetTally n || a == PCC_STATUS.at n) ∧
      ((s.tallyLatch n tallyPDHR).bit (PCC_STATUS.LATCHED n) = true ∨
        s.regsKept (s.tallyLatch n tallyPDHR) (fun a => a == resetTally n) ∧ (s.tallyLatch n tallyPDHR).ports = s.ports) := by
  have hregs : s.regsKept (s.tallyAdd (portTally n tallyPDHR) 1).2 (fun a => a == resetTally n) := .tallyAdd (beq_self_eq_true _) (.refl _ _)
  have hports := (s.tallyAdd_keeps (portTally n tallyPDHR) 1).ports rfl
  have hwide : s.regsKept (s.tallyAdd (portTally n tallyPDHR) 1).2 (fun a => a == resetTally n || a == PCC_STATUS.at n) := hregs.mono (by simp_all)
  unfold State.tallyLatch
  split <;> rename_i u hu <;> rw [hu] at hregs hports hwide
  · refine ⟨.of_regs (.put (by simp) hwide) rfl, .inl ?_⟩
    rw [State.latch, State.bit_modPort, State.bit, State.raise, State.get_put_same _ _ _ (Nat.le_of_ble_eq_true rfl)]
    rfl
  · exact ⟨hwide, .inr ⟨hregs, hports⟩⟩

theorem State.tallyOut_spec (s : State) (n : Fin 16) :
    s.regsKept (s.tallyOut n tallyPDHR) (policyArea n) ∧ (s.tallyOut n tallyPDHR).boot = { s.boot with rd := (s.tallyOut n tallyPDHR).boot.rd } ∧
      (s.tallyOut n tallyPDHR).get (PPD_COUNT.HARD n) = s.get (PPD_COUNT.HARD n) ∧
      ((s.tallyOut n tallyPDHR).pstate n = s.pstate n ∨ (s.tallyOut n tallyPDHR).pstate n = 0) ∧
      ((s.tallyOut n tallyPDHR).bit (PCC_STATUS.LATCHED n) = true ∨
        s.regsKept (s.tallyOut n tallyPDHR) (fun a => a == resetTally n) ∧ (s.tallyOut n tallyPDHR).pd n = s.pd n) := by
  obtain ⟨hregs, hlatch⟩ := s.tallyLatch_spec n
  have hboot := (s.tallyLatch_keeps n tallyPDHR).boot rfl
  have harea : s.regsKept (s.tallyLatch n tallyPDHR) (policyArea n) := hregs.mono fun a ha => by
    refine Bool.or_eq_false_iff.2 ⟨beq_false_of_ne ?_, beq_false_of_ne ?_⟩ <;> rintro rfl
    · rw [(policyArea_of_block (block_resetTally n) (.inr (.inr rfl))).1] at ha
      cases ha
    · rw [policyArea_port n (by decide)] at ha
      cases ha
  have hHARD : (s.tallyLatch n tallyPDHR).get (PPD_COUNT.HARD n) = s.get (PPD_COUNT.HARD n) := hregs.get (by simp [portAddr_ne_resetTally])
  have hstate : (s.tallyLatch n tallyPDHR).pstate n = s.pstate n := hregs.get (by simp [portAddr_ne_resetTally])
  rw [State.tallyOut]
  generalize s.tallyLatch n tallyPDHR = t at *
  dsimp only
  by_cases hbit : t.bit (PCC_STATUS.LATCHED n) = true
  · have hacts : t.ActsOn n false (fun _ => True) (t.goErrRec n) := .goErrRec trivial <| .start ..
    have hholds : t.Holds n stillMarks (t.goErrRec n) := .goErrRec <| .refl ..
    rw [if_pos hbit]
    exact ⟨harea.trans hacts.regs, by rw [hacts.boot, hboot], (hholds.marks (0x280, 16, 8) (by decide)).trans hHARD,
      hstate ▸ t.pstate_goErrRec n, .inl ((State.bit_of_get (hholds.marks (0, 17, 1) (by decide))).trans hbit)⟩
  · rw [if_neg hbit]
    obtain ⟨htally, hports⟩ := hlatch.resolve_left hbit
    exact ⟨harea, by rw [hboot], hHARD, .inl hstate, .inr ⟨htally, State.pd_of_ports hports n⟩⟩

theorem treceive_tallies (s : State) (n : Fin 16) (m : PdMsg) (rest : List PdMsg) (hhalt : s.halted n.val = false) (hout : (s.pd n).out = m :: rest)
    (hretries : 2 ≤ (s.pd n).retries) (hm : m.name = .psRdy) (hp : s.pstate n ≠ 0) (hmay : s.mayHardReset n) :
    Next (.treceive n) s fun t =>
      (s.beganHardReset t n ∨ t.bit (PCC_STATUS.LATCHED n) = true) ∧
      t.get (PPD_COUNT.HARD n) = min (s.get (PPD_COUNT.HARD n) + 1) (2 ^ (PPD_COUNT.HARD n).w - 1) ∧ s.regsKept t (policyArea n) ∧ s.farKept t := by
  have hserv := s.isService_messageOut n m rest
  have hcount : (s.messageOut n m rest).get (PPD_STATUS.HRCOUNT n) = s.get (PPD_STATUS.HRCOUNT n) := (s.messageOut_touches n m rest).regs.get rfl
  have hout0 := (s.messageOut_touches n m rest).mono (q := fun a => a == PPD_STATUS.at n) fun _ h => nomatch h
  have hfail : (s.messageOut n m rest).sendFailed n m = ((s.messageOut n m rest).hardReset n).tallyOut n tallyPDHR := by rw [State.sendFailed, hm]
  obtain ⟨hbegan, hreset, -⟩ := State.hardReset_behind hout0 hcount hserv hp hmay
  have hboot := (State.hardReset_actsOn (s := s.messageOut n m rest) hp ⟨hserv.trans hmay.1, by rw [hcount]; exact hmay.2⟩).boot
  have hkeeps : s.Keeps (pRegs ||| pFreeCtr ||| pRidge ||| pBat ||| pPorts ||| pSlices ||| pJtl ||| pBoot) ((s.messageOut n m rest).hardReset n) :=
    (State.hardReset_keeps ..).step rfl <| (s.messageOut_keeps n m rest).mono rfl
  rw [(s.messageOut_keeps n m rest).boot rfl] at hboot
  have hexec := exec_treceive hhalt hout hretries hfail
  generalize (s.messageOut n m rest).hardReset n = u at *
  obtain ⟨htallied, htboot, hHARD, hstate, hlatch⟩ := u.tallyOut_spec n
  have hwkeeps : s.Keeps (pRegs ||| pStaged ||| pFreeCtr ||| pRidge ||| pBat ||| pPorts ||| pSlices ||| pJtl ||| pBoot) (u.tallyOut n tallyPDHR) :=
    (State.tallyOut_keeps ..).step rfl <| hkeeps.mono rfl
  generalize u.tallyOut n tallyPDHR = w at *
  obtain ⟨hu8, huHARD, -⟩ := id hbegan
  have hcounted : w.capsCounted n = w := State.capsCounted_of_pstate (by rcases hstate with h | h <;> rw [h] <;> simp [hu8])
  rw [hcounted] at hexec
  have hreport := s.reportAll_keeps w
  obtain ⟨g, hg⟩ := s.reportAll_port w n
  have hpd : (s.reportAll w).pd n = w.pd n := by
    rw [State.pd, hg]
    rfl
  refine .of_doneAll hexec ⟨?_, (State.get_reportAll ..).trans (hHARD.trans huHARD), (hreset.trans htallied).of_regs (State.reportAll_regs ..),
    State.farKept_of_rd (hreport.step rfl hwkeeps) (by rw [hreport.boot rfl, htboot, hboot])⟩
  rcases hlatch with hlatched | ⟨htally, hsame⟩
  · exact .inr ((State.bit_of_get (State.get_reportAll ..)).trans hlatched)
  · refine .inl (.of_same (hbegan.beside (fun a ha => htally a (beq_false_of_ne ?_)) hsame) (State.reportAll_regs ..) hpd)
    rintro rfl
    have := block_resetTally n
    simp only [block, beq_iff_eq] at this
    rcases ha with ha | ha
    · simp only [inPort, within, portBase, Bool.and_eq_true, decide_eq_true_eq] at ha
      omega
    · simp only [TRS_ALLOC.at] at ha
      omega

/-- Settles O21: what each timer and each acknowledgement makes of the message in flight; a message given up ends in a count, in Soft_Reset's Hard Reset, or in a
Hard Reset with its tally. -/
theorem protocolLayer : Obligations.ProtocolLayer :=
  ⟨tfirstcapExpire_waits, tfirstcapExpire_offers, ttypecSendSourceCap_offers, ttypecSendSourceCap_gives_up, tsenderResponse_resets, tsenderResponse_ends, goodcrc_plain,
    goodcrc_swaps, treceive_retries, treceive_resets, treceive_tallies, treceive_counts, crcError_counts, chunkRequest_answers, chunkTimeout_abandons⟩

end Sys2Proof.Machine
end
